-- ==== Sys2Proof/Word.lean ====
section
/-! DEFINITION. The machine's words: a register is 64 bits (R6), memory is addressed by the byte. -/

namespace Sys2Proof

/-- A register or a 64-bit word of a descriptor, frame or store (R6). -/
abbrev Word := BitVec 64

/-- A byte. -/
abbrev Byte := BitVec 8

end Sys2Proof
end

