-- ==== Sys2Proof/Syntax.lean ====
section
/-! DEFINITION. The commands of the block, one constructor per row of spec/opcode_table.json, in the table's order. Each
constructor's comment gives its row's mnemonic and the rule of spec/ that states its effect. -/

namespace Sys2Proof

/-- A path into the register space (R485): 0 PCIe, 1 to 4 management cores, 5 to 12 management sessions. -/
abbrev Path := Fin 13
/-- A lane, and the port named by it (R10). -/
abbrev Lane := Fin 1024
/-- A data fibre (R10). -/
abbrev Fibre := Fin 128
/-- A context. -/
abbrev Ctx := Fin 1024
/-- A reduction group. -/
abbrev Group := Fin 65536
/-- A region. -/
abbrev Region := Fin 64
/-- A bobbin, n = 256c + b (Table 2.3). -/
abbrev Bob := Fin 1024
/-- A 32-byte block of the Jalesh link (R109). -/
abbrev Block := BitVec 256

/-- The receiving block of a handshake channel whose watchdog expired (R38, Table 15.2); of a management core, with the
management sessions it serves, one bit for each open session in their order. -/
inductive WdTarget where
  | engine (e : Fin 32)
  | memChan (i : Fin 640)
  | core (k : Fin 4) (sessions : BitVec 8)
  | die (d : Fin 9)
deriving DecidableEq, Repr

/-- The item a channel was handing over when its watchdog expired (R38): the oldest frame at an internal output, a contribution
to a collective, the oldest flit on its way to a bobbin, or something the model does not hold. -/
inductive WdItem where
  | frame (io : Fin 8)
  | contribution (g : Group) (cseq : BitVec 24)
  | flit (n : Bob)
  | other
deriving DecidableEq, Repr

/-- What the watchdog of a channel sees as it expires (R37, R38): the receiving block, for how many nanoseconds the request has
waited, and the item. -/
structure WdExpiry where
  target : WdTarget
  waited : Nat
  item : WdItem
deriving DecidableEq, Repr

/-- Where a cell of a stream arrives and how: its egress die, and the relay die it came through, 4 for none (R150, R152). -/
structure CellEnd where
  dst : Fin 4
  path : Fin 5
deriving DecidableEq, Repr

/-- TAG of a request's header, and the header's reserved bytes (R433). -/
structure MsgTag where
  tag : BitVec 32
  resv : BitVec 32 := 0
deriving DecidableEq, Repr

/-- A vector of the MSI-X table and what the host writes into its entry (R417). -/
structure MsixWrite where
  vector : Fin 2048
  entry : BitVec 128
deriving DecidableEq, Repr

/-- A thermal sensor: sensor k of a CP die (R41), or a sensor of a SW die, of CTL or of an optical chiplet. -/
inductive ThermalUnit where
  | cp (d : Fin 4) (k : Fin 16)
  | sw (d : Fin 4)
  | ctl
  | oe (n : Fin 16)
deriving DecidableEq, Repr

/-- How a weave in progress ends (R61, R62). -/
inductive WeaveEnd where
  | ok
  | nvsError
  | dieFault
deriving DecidableEq, Repr

/-- A unit that holds a role generation (R68). -/
inductive GenUnit where
  | region (r : Region)
  | group (g : Group)
  | ctx (x : Ctx)
deriving DecidableEq, Repr

/-- What the residue check of an add finds (R249, R250). -/
inductive ResidueOutcome where
  | none
  | retried
  | failed
deriving DecidableEq, Repr

/-- What the check of a memory line finds (R326). -/
inductive LineErr where
  | none
  | one
  | two
  | uncorrectable
deriving DecidableEq, Repr

/-- Bit errors that arise in the word that holds channel address `addr` of channel `chan` (R326). -/
structure MemUpset where
  chan : Fin 640
  addr : BitVec 33
  err : LineErr
deriving DecidableEq, Repr

/-- The bit errors a patrol read meets or that have arisen meanwhile (log entry 228): in the word read, and in others. -/
structure MemErrs where
  word : LineErr
  upsets : List MemUpset := []
deriving DecidableEq, Repr

/-- A packet at the management port outside an open session's messages (R432): a neighbour solicitation or an echo request for an
address; a router's advertisement of a network with its valid lifetime in seconds; a TCP segment that tells session `sid` whether
its send window is closed (R435); another TCP packet; anything else. -/
inductive MgmtPacket where
  | neighbour (target : BitVec 128)
  | echo (dst : BitVec 128)
  | advert (net : BitVec 64) (valid : BitVec 32)
  | window (sid : Nat) (closed : Bool)
  | tcp (port : Nat)
  | other
deriving DecidableEq, Repr

/-- A handshake message of a management connection (R403, R404): authenticated with the certificate that chains to key
`ca` (0 the owner root key, 1 + i the manager CA key i) and the client key's digest; or a failure with its alert. -/
inductive HandshakeMsg where
  | authenticated (ca : Nat) (digest : List Byte)
  | anonymous
  | fails (alert : Byte)
deriving DecidableEq, Repr

/-- The commands the block takes from outside, and the events that happen to it: the rows of the opcode table. -/
inductive Instr where
  /-- POWER_UP (R455). -/
  | powerUp (s0 : BitVec 11) (s1 : BitVec 11) (s2 : BitVec 11) (xa : Bool) (xb : Bool)
  /-- LASERS_POWERED (R105). -/
  | lasersPowered
  /-- ENTER_BASIC (R455). -/
  | enterBasic
  /-- STRAP_CHECK (R20). -/
  | strapCheck (pins : BitVec 11)
  /-- POWER_OFF (R474). -/
  | powerOff
  /-- LATCH_OPEN (R467). -/
  | latchOpen
  /-- LATCH_CLOSED (R105). -/
  | latchClosed
  /-- PACE_WINDOW (R31). -/
  | paceWindow (n : Fin 1160) (rate : BitVec 16) (tj : BitVec 12)
  /-- PACE_CLR_MIN (R33). -/
  | paceClrMin (path : Path)
  /-- WATCHDOG_EXPIRE (R38). -/
  | watchdogExpire (chan : BitVec 32) (target : WdExpiry)
  /-- LATE_ACK (R39). -/
  | lateAck (chan : BitVec 32)
  /-- THERMAL_SENSOR (R41). -/
  | thermalSensor (unit : ThermalUnit) (temp : BitVec 12)
  /-- VERIFY (R54). -/
  | verify (path : Path) (slot : BitVec 5)
  /-- VERIFY_DONE (R55). -/
  | verifyDone (readErr : Bool)
  /-- COMMIT_FULL (R59). -/
  | commitFull (path : Path) (slot : BitVec 5) (timed : Bool) (preempt : Bool)
  /-- FULL_WEAVE_DONE (R60). -/
  | fullWeaveDone (how : WeaveEnd)
  /-- COMMIT_MOTIF (R63). -/
  | commitMotif (path : Path) (slot : BitVec 5) (timed : Bool) (preempt : Bool)
  /-- MOTIF_START (R64). -/
  | motifStart
  /-- REGION_MOTIF_DONE (R65). -/
  | regionMotifDone (how : WeaveEnd)
  /-- PRK_CANCEL (R64). -/
  | prkCancel (path : Path) (slot : BitVec 5)
  /-- REWEAVE_DIE (R62). -/
  | reweaveDie (path : Path) (die : BitVec 4)
  /-- REWEAVE_DONE (R62). -/
  | reweaveDone
  /-- ROLE_GEN_DEFERRED (R70). -/
  | roleGenDeferred (unit : GenUnit)
  /-- UNCORRECTABLE_CODEWORD (R75). -/
  | uncorrectableCodeword (lane : Lane)
  /-- LOS_ASSERT (R80). -/
  | losAssert (lane : Lane) (pwr : BitVec 16)
  /-- LOS_CLEAR (R84). -/
  | losClear (lane : Lane) (pwr : BitVec 16)
  /-- LOL_ASSERT (R79). -/
  | lolAssert (lane : Lane)
  /-- CLOCK_LOCK (R84). -/
  | clockLock (lane : Lane)
  /-- ALIGNMENT_LOSS (R79). -/
  | alignmentLoss (lane : Lane)
  /-- ALIGN_LOCK (R84). -/
  | alignLock (lane : Lane)
  /-- SD_WINDOW (R79). -/
  | sdWindow (lane : Lane) (corrected : Nat) (received : Nat)
  /-- TRAIN_TIMEOUT (R85). -/
  | trainTimeout (port : Lane)
  /-- TRAIN_RETRY (R85). -/
  | trainRetry (port : Lane)
  /-- IDENT_TX (R88). -/
  | identTx (port : Lane)
  /-- IDENT_RX (R88). -/
  | identRx (port : Lane) (rec : BitVec 256) (hasA : Bool)
  /-- NO_IDENT_TIMEOUT (R88). -/
  | noIdentTimeout (port : Lane)
  /-- REIDENT (R86). -/
  | reident (path : Path) (port : Lane)
  /-- RETRAIN (R86). -/
  | retrain (path : Path) (port : Lane)
  /-- NBR_EXP_WRITE (R89). -/
  | nbrExpWrite (path : Path) (port : Lane) (value : Word)
  /-- LASER_FADE (R95). -/
  | laserFade (laser : Fin 160) (rel : BitVec 16) (sudden : Bool)
  /-- SPARE_LOCKED (R96). -/
  | spareLocked (bank : Fin 16)
  /-- SPARE_LOCK_TIMEOUT (R98). -/
  | spareLockTimeout (bank : Fin 16)
  /-- FIBRE_SWAP (R96). -/
  | fibreSwap (bank : Fin 16)
  /-- FIBRE_DARK (R103). -/
  | fibreDark (fibre : Fibre)
  /-- FIBRE_PROBE (R104). -/
  | fibreProbe (fibre : Fibre)
  /-- PROBE_END (R104). -/
  | probeEnd (fibre : Fibre)
  /-- FIBRE_LIGHT (R104). -/
  | fibreLight (fibre : Fibre)
  /-- FORCE_CLOSE_WRITE (R106). -/
  | forceCloseWrite (path : Path) (fibre : Fibre) (value : Word)
  /-- IDLE_RX (R112). -/
  | idleRx (port : Lane) (blk : Block)
  /-- CONTROL_BLOCK_BAD (R112). -/
  | controlBlockBad (port : Lane) (blk : Block)
  /-- CREDIT_RX (R120). -/
  | creditRx (port : Lane) (blk : Block)
  /-- CREDIT_INIT_RX (R119). -/
  | creditInitRx (port : Lane) (blk : Block)
  /-- ALIGN_RX (R111). -/
  | alignRx (port : Lane) (blk : Block)
  /-- PAUSE_SWAP_RX (R128). -/
  | pauseSwapRx (port : Lane) (blk : Block)
  /-- PAUSE_SWAP_END (R128). -/
  | pauseSwapEnd (port : Lane)
  /-- SWAP_FILL_RX (R112). -/
  | swapFillRx (port : Lane) (blk : Block)
  /-- SCRUB_RX (R129). -/
  | scrubRx (port : Lane) (blk : Block)
  /-- FRAME_RX (R137). -/
  | frameRx (port : Lane) (hdr : BitVec 256) (payload : List Byte) (bad : Bool) (full : Bool)
  /-- ETH_FRAME_RX (R131). -/
  | ethFrameRx (port : Lane) (frame : List Byte) (bad : Bool) (full : Bool)
  /-- PFC_RX (R134). -/
  | pfcRx (port : Lane) (enable : BitVec 8) (quanta : BitVec 128)
  /-- PFC_PAUSE_EXPIRE (R134). -/
  | pfcPauseExpire (port : Lane) (prio : Fin 8)
  /-- PFC_XOFF_REPEAT (R133). -/
  | pfcXoffRepeat (port : Lane) (chan : Fin 8)
  /-- CREDIT_TX (R120). -/
  | creditTx (port : Lane) (net : Fin 2)
  /-- CREDIT_INIT_TX (R119). -/
  | creditInitTx (port : Lane)
  /-- CREDIT_TIMEOUT (R121). -/
  | creditTimeout (port : Lane)
  /-- ALIGN_TX (R111). -/
  | alignTx (lane : Lane)
  /-- SCRUB_TX (R129). -/
  | scrubTx (lane : Lane)
  /-- SCHED_EPOCH (R148). -/
  | schedEpoch
  /-- CELL_ARRIVE (R152). -/
  | cellArrive (src : Fin 4) (dst : CellEnd)
  /-- RESEQ_TIMEOUT (R152). -/
  | reseqTimeout (src : Fin 4) (dst : Fin 4)
  /-- MC_RESIDUE_TIMEOUT (R159). -/
  | mcResidueTimeout (die : Fin 4) (chan : Fin 16)
  /-- SUPPRESS_REPORT (R257). -/
  | suppressReport
  /-- FRAME_TX_START (R200). -/
  | frameTxStart (port : Lane)
  /-- FRAME_TX_END (R141). -/
  | frameTxEnd (port : Lane)
  /-- SEARCH (R183). -/
  | search
  /-- NEXT (R183). -/
  | next
  /-- INSERT (R183). -/
  | insert
  /-- DELETE (R183). -/
  | delete
  /-- FLUSH_PORT (R190). -/
  | flushPort
  /-- DRAIN (R189). -/
  | drain
  /-- DRAIN_COMPLETE (R189). -/
  | drainComplete
  /-- DRAIN_TIMEOUT (R189). -/
  | drainTimeout
  /-- MARK (R183). -/
  | mark
  /-- RAW_READ (R186). -/
  | rawRead
  /-- RAW_WRITE (R186). -/
  | rawWrite
  /-- RAW_COMPARE (R186). -/
  | rawCompare
  /-- L2_LEARN (R178). -/
  | l2Learn
  /-- AGING_TICK (R179). -/
  | agingTick
  /-- AGE_REMOVE (R179). -/
  | ageRemove
  /-- BUCKET_HANDOVER (R175). -/
  | bucketHandover (group : Fin 4096)
  /-- METER_WRITE (R198). -/
  | meterWrite (path : Path)
  /-- METER_READ (R198). -/
  | meterRead (path : Path)
  /-- TM_NODE_WRITE (R204). -/
  | tmNodeWrite (path : Path)
  /-- TM_NODE_READ (R204). -/
  | tmNodeRead (path : Path)
  /-- WSET_GO (R205). -/
  | wsetGo (path : Path) (first : Lane) (last : Lane)
  /-- WSET_DONE (R205). -/
  | wsetDone
  /-- GATE_COMMIT (R209). -/
  | gateCommit (path : Path) (port : Lane) (len : BitVec 7)
  /-- GATE_CANCEL (R209). -/
  | gateCancel (path : Path) (port : Lane)
  /-- GATE_SWITCH (R210). -/
  | gateSwitch (port : Lane)
  /-- GATE_ENTRY_CHANGE (R211). -/
  | gateEntryChange (port : Lane)
  /-- BYP_MAP_WRITE (R230). -/
  | bypMapWrite (path : Path)
  /-- BYP_READ_SHADOW (R237). -/
  | bypReadShadow (path : Path)
  /-- BYP_READ_OPER (R237). -/
  | bypReadOper (path : Path)
  /-- BYP_COPY (R230). -/
  | bypCopy (path : Path)
  /-- BYP_COMMIT (R230). -/
  | bypCommit (path : Path)
  /-- BYP_CANCEL (R230). -/
  | bypCancel (path : Path)
  /-- SLOT_BOUNDARY (R222). -/
  | slotBoundary
  /-- BYPASS_MATCH (R228). -/
  | bypassMatch (plane : Fin 8)
  /-- RANGING_START (R225). -/
  | rangingStart (fibre : Fibre)
  /-- RANGE_PING_TX (R225). -/
  | rangePingTx (fibre : Fibre)
  /-- RANGE_ECHO_RX (R225). -/
  | rangeEchoRx (fibre : Fibre) (blk : Block)
  /-- RANGING_DONE (R225). -/
  | rangingDone (fibre : Fibre)
  /-- RANGE_SET_TX (R225). -/
  | rangeSetTx (fibre : Fibre)
  /-- SLOT_TICK_TX (R226). -/
  | slotTickTx (fibre : Fibre)
  /-- SLOT_REQ_RX (R227). -/
  | slotReqRx (fibre : Fibre) (blk : Block)
  /-- PLANE_INPUT_DARK (R233). -/
  | planeInputDark (lane : Lane) (pwr : BitVec 16)
  /-- PLANE_INPUT_LIGHT (R233). -/
  | planeInputLight (lane : Lane) (pwr : BitVec 16)
  /-- GRP_READ (R239). -/
  | grpRead (path : Path)
  /-- GRP_WRITE (R239). -/
  | grpWrite (path : Path)
  /-- GRP_INVALIDATE (R239). -/
  | grpInvalidate (path : Path)
  /-- GRP_ABORT_ALL (R239). -/
  | grpAbortAll (path : Path)
  /-- CONTRIB_RX (R243). -/
  | contribRx (die : Fin 4) (residue : ResidueOutcome)
  /-- RESULT_ACK_RX (R254). -/
  | resultAckRx (die : Fin 4)
  /-- RESEND_REQ_RX (R255). -/
  | resendReqRx (die : Fin 4)
  /-- COLLECTIVE_SEAL (R256). -/
  | collectiveSeal (ctx : Ctx) (group : Group) (cseq : BitVec 24)
  /-- COLLECTIVE_TIMEOUT (R253). -/
  | collectiveTimeout (ctx : Ctx) (group : Group) (cseq : BitVec 24)
  /-- ACK_TIMEOUT (R253). -/
  | ackTimeout (ctx : Ctx) (group : Group) (cseq : BitVec 24)
  /-- TOMBSTONE_EXPIRE (R243). -/
  | tombstoneExpire (ctx : Ctx) (group : Group) (cseq : BitVec 24)
  /-- MIRROR_TIMEOUT (R263). -/
  | mirrorTimeout (group : Group)
  /-- ENGINE_UNFENCE (R250). -/
  | engineUnfence (path : Path) (engine : Fin 32)
  /-- LOGTRIM_WRITE (R261). -/
  | logtrimWrite (path : Path) (ctx : Ctx) (value : Word)
  /-- REGION_START (R303). -/
  | regionStart (path : Path) (region : Region)
  /-- REGION_STOP (R304). -/
  | regionStop (path : Path) (region : Region)
  /-- NOP (R283). -/
  | nop (bob : Bob) (needle : Fin 4)
  /-- HALT (R283). -/
  | halt (bob : Bob) (needle : Fin 4)
  /-- ERR (R283). -/
  | err (bob : Bob) (needle : Fin 4)
  /-- JMP (R283). -/
  | jmp (bob : Bob) (needle : Fin 4)
  /-- BNZ (R283). -/
  | bnz (bob : Bob) (needle : Fin 4)
  /-- BLT (R283). -/
  | blt (bob : Bob) (needle : Fin 4)
  /-- TOKW (R283). -/
  | tokw (bob : Bob) (needle : Fin 4)
  /-- TSEND (R283). -/
  | tsend (bob : Bob) (needle : Fin 4)
  /-- TLOC (R283). -/
  | tloc (bob : Bob) (needle : Fin 4)
  /-- IREL (R298). -/
  | irel (bob : Bob) (needle : Fin 4)
  /-- ADDI (R283). -/
  | addi (bob : Bob) (needle : Fin 4)
  /-- ADD (R283). -/
  | add (bob : Bob) (needle : Fin 4)
  /-- SUB (R283). -/
  | sub (bob : Bob) (needle : Fin 4)
  /-- MUL (R283). -/
  | mul (bob : Bob) (needle : Fin 4)
  /-- AND (R283). -/
  | and (bob : Bob) (needle : Fin 4)
  /-- OR (R283). -/
  | or (bob : Bob) (needle : Fin 4)
  /-- XOR (R283). -/
  | xor (bob : Bob) (needle : Fin 4)
  /-- SHL (R283). -/
  | shl (bob : Bob) (needle : Fin 4)
  /-- SHR (R283). -/
  | shr (bob : Bob) (needle : Fin 4)
  /-- LI (R283). -/
  | li (bob : Bob) (needle : Fin 4)
  /-- LIH (R283). -/
  | lih (bob : Bob) (needle : Fin 4)
  /-- LD (R283). -/
  | ld (bob : Bob) (needle : Fin 4)
  /-- ST (R283). -/
  | st (bob : Bob) (needle : Fin 4)
  /-- RDTIME (R283). -/
  | rdtime (bob : Bob) (needle : Fin 4)
  /-- MMA (R273). -/
  | mma (bob : Bob) (needle : Fin 4)
  /-- VADD (R275). -/
  | vadd (bob : Bob) (needle : Fin 4)
  /-- VSUB (R275). -/
  | vsub (bob : Bob) (needle : Fin 4)
  /-- VMUL (R275). -/
  | vmul (bob : Bob) (needle : Fin 4)
  /-- VFMA (R275). -/
  | vfma (bob : Bob) (needle : Fin 4)
  /-- VMAX (R275). -/
  | vmax (bob : Bob) (needle : Fin 4)
  /-- VMIN (R275). -/
  | vmin (bob : Bob) (needle : Fin 4)
  /-- VABS (R275). -/
  | vabs (bob : Bob) (needle : Fin 4)
  /-- VDIV (R275). -/
  | vdiv (bob : Bob) (needle : Fin 4)
  /-- VSQRT (R275). -/
  | vsqrt (bob : Bob) (needle : Fin 4)
  /-- VRSQRT (R275). -/
  | vrsqrt (bob : Bob) (needle : Fin 4)
  /-- VEXP (R275). -/
  | vexp (bob : Bob) (needle : Fin 4)
  /-- VLOG (R275). -/
  | vlog (bob : Bob) (needle : Fin 4)
  /-- VCVT (R276). -/
  | vcvt (bob : Bob) (needle : Fin 4)
  /-- VSUM (R275). -/
  | vsum (bob : Bob) (needle : Fin 4)
  /-- VMAXI (R275). -/
  | vmaxi (bob : Bob) (needle : Fin 4)
  /-- VSELGT (R275). -/
  | vselgt (bob : Bob) (needle : Fin 4)
  /-- COPY_STORE_LOCAL (R285). -/
  | copyStoreLocal (bob : Bob) (needle : Fin 4)
  /-- COPY_TO_ROUTE (R285). -/
  | copyToRoute (bob : Bob) (needle : Fin 4)
  /-- COPY_MEM_TO_STORE (R286). -/
  | copyMemToStore (bob : Bob) (needle : Fin 4)
  /-- COPY_STORE_TO_MEM (R286). -/
  | copyStoreToMem (bob : Bob) (needle : Fin 4)
  /-- COPY_GATHER (R285). -/
  | copyGather (bob : Bob) (needle : Fin 4)
  /-- COPY_SCATTER (R285). -/
  | copyScatter (bob : Bob) (needle : Fin 4)
  /-- SEND (R299). -/
  | send (bob : Bob) (needle : Fin 4)
  /-- FENCE (R283). -/
  | fence (bob : Bob) (needle : Fin 4)
  /-- MMA_COMPLETE (R274). -/
  | mmaComplete (bob : Bob)
  /-- VOP_COMPLETE (R275). -/
  | vopComplete (bob : Bob)
  /-- COPY_COMPLETE (R285). -/
  | copyComplete (bob : Bob)
  /-- SEND_COMPLETE (R300). -/
  | sendComplete (bob : Bob)
  /-- TOKEN_ARRIVE (R291). -/
  | tokenArrive (bob : Bob)
  /-- INLET_DELIVERY (R294). -/
  | inletDelivery (die : Fin 4)
  /-- HANDOFF_DELIVERY (R297). -/
  | handoffDelivery (region : Region)
  /-- ONE_SIDED_PUT (R336). -/
  | oneSidedPut (io : Fin 8)
  /-- ONE_SIDED_GET (R336). -/
  | oneSidedGet (io : Fin 8)
  /-- GET_RESP_RX (R338). -/
  | getRespRx (io : Fin 8)
  /-- PATROL_READ (R329). -/
  | patrolRead (chan : Fin 640) (addr : BitVec 33) (err : MemErrs)
  /-- MEM_MAP_SELECT (R341). -/
  | memMapSelect (path : Path) (value : Word)
  /-- TB_SEC_READ (R343). -/
  | tbSecRead (path : Path)
  /-- TB_OFFSET_SAMPLE (R352). -/
  | tbOffsetSample (path : Path) (value : Word)
  /-- TB_SET (R356). -/
  | tbSet (path : Path) (value : Word)
  /-- HOLDOVER_TIMEOUT (R354). -/
  | holdoverTimeout
  /-- CAP_POP (R351). -/
  | capPop (path : Path)
  /-- TRIGGER_ARM (R358). -/
  | triggerArm (path : Path) (k : Fin 64) (value : Word)
  /-- TRIGGER_FIRE (R358). -/
  | triggerFire (k : Fin 64)
  /-- HEARTBEAT_MISS (R361). -/
  | heartbeatMiss (die : Fin 8)
  /-- DIE_SELF_CHECK (R361). -/
  | dieSelfCheck (die : Fin 8)
  /-- DIE_RESET_DONE (R373). -/
  | dieResetDone (die : Fin 8)
  /-- REJOIN_MEMORY_ZEROED (R376). -/
  | rejoinMemoryZeroed (die : Fin 8)
  /-- CTL_FAULT (R378). -/
  | ctlFault
  /-- FLIT_CRC_FAIL (R40). -/
  | flitCrcFail (bundle : Fin 32)
  /-- INTERPOSER_LANE_FAIL (R380). -/
  | interposerLaneFail (bundle : Fin 40) (wg : Nat) (lane : Nat)
  /-- RETUNE_END (R380). -/
  | retuneEnd (bundle : Fin 32)
  /-- OE_FAULT (R361). -/
  | oeFault (oe : Fin 16)
  /-- REF_LOSS (R379). -/
  | refLoss (xb : Bool)
  /-- INTERNAL_OSC_START (R379). -/
  | internalOscStart
  /-- BOTH_REF_DECISION (R379). -/
  | bothRefDecision
  /-- PORT_FENCE_CMD (R366). -/
  | portFenceCmd (path : Path) (port : Lane)
  /-- PORT_UNFENCE_CMD (R367). -/
  | portUnfenceCmd (path : Path) (port : Lane)
  /-- PORT_AUTO_UNFENCE (R367). -/
  | portAutoUnfence (port : Lane)
  /-- CHIP_READ (R368). -/
  | chipRead (path : Path)
  /-- CHIP_SET (R368). -/
  | chipSet (path : Path)
  /-- CHIP_FENCE (R368). -/
  | chipFence (path : Path)
  /-- CHIP_UNFENCE (R371). -/
  | chipUnfence (path : Path)
  /-- BC_READ (R385). -/
  | bcRead (path : Path)
  /-- BC_WRITE (R385). -/
  | bcWrite (path : Path)
  /-- BC_START (R388). -/
  | bcStart (path : Path)
  /-- BC_RESUME (R390). -/
  | bcResume (path : Path)
  /-- BC_STOP (R385). -/
  | bcStop (path : Path)
  /-- BCAST_PIECE_TX (R388). -/
  | bcastPieceTx (session : Fin 64)
  /-- BCAST_DATA_RX (R388). -/
  | bcastDataRx (io : Fin 8)
  /-- BCAST_PROGRESS_RX (R388). -/
  | bcastProgressRx (io : Fin 8)
  /-- BCAST_RELAY_REPORT (R388). -/
  | bcastRelayReport (session : Fin 64)
  /-- BCAST_RELAY_TIMEOUT (R389). -/
  | bcastRelayTimeout (session : Fin 64) (relay : BitVec 20)
  /-- BCAST_RESUME_WAIT_END (R390). -/
  | bcastResumeWaitEnd (session : Fin 64)
  /-- CTX_ALLOCATE (R396). -/
  | ctxAllocate (path : Path) (ctx : Ctx)
  /-- CTX_ACTIVATE (R397). -/
  | ctxActivate (path : Path) (ctx : Ctx)
  /-- CTX_DEACTIVATE (R397). -/
  | ctxDeactivate (path : Path) (ctx : Ctx)
  /-- CTX_RELEASE (R400). -/
  | ctxRelease (path : Path) (ctx : Ctx)
  /-- CTX_RELEASE_REGION (R399). -/
  | ctxReleaseRegion (path : Path) (ctx : Ctx) (region : Region)
  /-- REGION_UNPICK_DONE (R399). -/
  | regionUnpickDone (region : Region)
  /-- UNPICK_DONE (R400). -/
  | unpickDone (ctx : Ctx)
  /-- MGMT_CONNECT (R403). -/
  | mgmtConnect
  /-- HANDSHAKE_TIMEOUT (R404). -/
  | handshakeTimeout (conn : Nat)
  /-- LOCKOUT_END (R404). -/
  | lockoutEnd
  /-- SESSION_IDLE_TIMEOUT (R404). -/
  | sessionIdleTimeout (sid : Nat)
  /-- SESSION_CLOSE (R490). -/
  | sessionClose (sid : Nat)
  /-- MGMT_PACKET_RX (R432). -/
  | mgmtPacketRx (kind : MgmtPacket)
  /-- MGMT_BODY_TIMEOUT (R433). -/
  | mgmtBodyTimeout (sid : Nat) (service : BitVec 8) (op : BitVec 8) (tag : BitVec 32)
  /-- REG_READ (R434). -/
  | regRead (sid : Nat) (tag : MsgTag) (body : List Byte)
  /-- REG_WRITE (R434). -/
  | regWrite (sid : Nat) (tag : MsgTag) (body : List Byte)
  /-- IMAGE_STAGE (R434). -/
  | imageStage (sid : Nat) (tag : MsgTag) (body : List Byte) (nvsErr : Bool)
  /-- ENROL (R405). -/
  | enrol (sid : Nat) (tag : MsgTag) (body : List Byte)
  /-- ADD_PRK_KEY (R405). -/
  | addPrkKey (sid : Nat) (tag : MsgTag) (body : List Byte)
  /-- REMOVE_PRK_KEY (R405). -/
  | removePrkKey (sid : Nat) (tag : MsgTag) (body : List Byte)
  /-- ADD_MGR_CA (R405). -/
  | addMgrCa (sid : Nat) (tag : MsgTag) (body : List Byte)
  /-- REMOVE_MGR_CA (R405). -/
  | removeMgrCa (sid : Nat) (tag : MsgTag) (body : List Byte)
  /-- RAISE_FLOOR (R405). -/
  | raiseFloor (sid : Nat) (tag : MsgTag) (body : List Byte)
  /-- DECOMMISSION (R407). -/
  | decommission (sid : Nat) (tag : MsgTag) (body : List Byte)
  /-- KEY_INSTALL (R408). -/
  | keyInstall (sid : Nat) (tag : MsgTag) (body : List Byte)
  /-- KEY_REMOVE (R408). -/
  | keyRemove (sid : Nat) (tag : MsgTag) (body : List Byte)
  /-- ATTEST_REPORT (R413). -/
  | attestReport (sid : Nat) (tag : MsgTag) (body : List Byte)
  /-- EVENTS_READ (R434). -/
  | eventsRead (sid : Nat) (tag : MsgTag) (body : List Byte)
  /-- EVENTS_READ_PERM (R434). -/
  | eventsReadPerm (sid : Nat) (tag : MsgTag) (body : List Byte)
  /-- EVENTS_CLEAR (R439). -/
  | eventsClear (sid : Nat) (tag : MsgTag) (body : List Byte)
  /-- EVENTS_CLEAR_DONE (R439). -/
  | eventsClearDone
  /-- EVENTS_SUBSCRIBE (R435). -/
  | eventsSubscribe (sid : Nat) (tag : MsgTag) (body : List Byte)
  /-- FW_STAGE (R461). -/
  | fwStage (sid : Nat) (tag : MsgTag) (body : List Byte) (nvsErr : Bool)
  /-- FW_STATUS (R461). -/
  | fwStatus (sid : Nat) (tag : MsgTag) (body : List Byte)
  /-- FW_SELECT (R461). -/
  | fwSelect (sid : Nat) (tag : MsgTag) (body : List Byte)
  /-- PCIE_LINK_LOSS (R419). -/
  | pcieLinkLoss
  /-- PCIE_LINK_UP (R419). -/
  | pcieLinkUp
  /-- BAR0_UNSUPPORTED (R418). -/
  | bar0Unsupported (addr : BitVec 26) (len : Nat) (isWrite : Bool)
  /-- DQ_ENABLE (R421). -/
  | dqEnable (q : Fin 4) (path : Path) (value : Word)
  /-- DQ_TAIL_WRITE (R420). -/
  | dqTailWrite (q : Fin 4) (path : Path) (value : Word) (entries : List Byte)
  /-- IMAGE_ENTRY (R422). -/
  | imageEntry (entry : BitVec 512) (data : List Byte) (dmaErr : Bool) (nvsErr : Bool)
  /-- COUNTERS_ENTRY (R423). -/
  | countersEntry (entry : BitVec 256)
  /-- DQ_EVENT_WRITE (R424). -/
  | dqEventWrite
  /-- DQ_DMA_TIMEOUT (R421). -/
  | dqDmaTimeout (q : Fin 4)
  /-- IC_DOORBELL (R425). -/
  | icDoorbell (path : Path) (src : BitVec 12)
  /-- IC_CLAIM (R429). -/
  | icClaim (path : Path) (target : Fin 5)
  /-- IC_EOI (R429). -/
  | icEoi (path : Path) (target : Fin 5) (src : BitVec 12)
  /-- IC_CONFIG_WRITE (R430). -/
  | icConfigWrite (path : Path) (off : BitVec 26) (value : Word)
  /-- PERM_COPY (R437). -/
  | permCopy
  /-- RATE_WINDOW_END (R495). -/
  | rateWindowEnd (key : Nat)
  /-- LOST_RECORD (R437). -/
  | lostRecord
  /-- EVR_SELECT (R438). -/
  | evrSelect (path : Path) (seq : Word)
  /-- EVR_PSELECT (R438). -/
  | evrPselect (path : Path) (idx : Word)
  /-- SAMPLER_PERIOD (R449). -/
  | samplerPeriod
  /-- WATCH_PERIOD (R450). -/
  | watchPeriod
  /-- DATAGRAM_EXPIRE (R451). -/
  | datagramExpire
  /-- CTX_PUBLISH (R446). -/
  | ctxPublish (ctx : Ctx)
  /-- ENTER_MAINT (R463). -/
  | enterMaint (path : Path)
  /-- EXIT_MAINT (R463). -/
  | exitMaint (path : Path)
  /-- MODULE_DRAIN (R465). -/
  | moduleDrain (path : Path)
  /-- UNDRAIN (R463). -/
  | undrain (path : Path)
  /-- TEST_START (R469). -/
  | testStart (path : Path) (kind : BitVec 4) (unit : BitVec 10)
  /-- TEST_ABORT (R470). -/
  | testAbort (path : Path)
  /-- TEST_ENGINE_IDLE (R469). -/
  | testEngineIdle
  /-- TEST_WAIT_TIMEOUT (R470). -/
  | testWaitTimeout
  /-- TEST_DONE (R469). -/
  | testDone (pass : Bool) (detail : BitVec 8) (res0 : BitVec 24) (res1 : BitVec 40)
  /-- LOCK_READ (R490). -/
  | lockRead (path : Path) (k : Fin 16)
  /-- LOCK_RELEASE (R490). -/
  | lockRelease (path : Path) (k : Fin 16)
  /-- REGISTER_WRITE (R5). -/
  | registerWrite (path : Path) (off : BitVec 26) (value : Word)
  /-- REFERENCE_RETURN (R379). -/
  | referenceReturn (xb : Bool)
  /-- LPDDR6_CASE_OVERTEMP (R477). -/
  | lpddr6CaseOvertemp (dev : Fin 40)
  /-- DIE_FAULT_AGE (R377). -/
  | dieFaultAge (die : Fin 8)
  /-- HANDSHAKE_MESSAGE (R404). -/
  | handshakeMessage (conn : Nat) (msg : HandshakeMsg)
  /-- MGMT_REQUEST_UNDEFINED (R433). -/
  | mgmtRequestUndefined (sid : Nat) (service : BitVec 8) (op : BitVec 8) (tag : BitVec 32)
  /-- MSIX_ENABLE (R419). -/
  | msixEnable
  /-- MSIX_VECTOR_UNMASK (R428). -/
  | msixVectorUnmask (vector : MsixWrite)
deriving DecidableEq, Repr

end Sys2Proof
end

