-- ==== Sys2Proof/Config.lean ====
section
/-! DEFINITION. What a module is given at manufacture, what the spec leaves open, and the cryptographic functions it
names: constants without a body, so that no proof can see a value of them. -/

namespace Sys2Proof.Config

/-- The value drawn where the spec states none; the argument is the machine's own counter of draws (log entry 6). -/
opaque freeValue : Nat → BitVec 64

/-- Module serial, bytes 0 to 7 and 8 to 15, byte 0 in [7:0] (R89, Table 16.9). -/
opaque serialLo : BitVec 64
opaque serialHi : BitVec 64

/-- Silicon step, `CTL_ID.STEP`, fused (R492). -/
opaque siliconStep : BitVec 8

/-- Halestun Microsystems' PCI vendor ID; Table 17.1 does not give it. -/
opaque pciVendor : BitVec 16

/-- MAC address of the management port, set at manufacture (R432). -/
opaque macAddress : BitVec 48

/-- Transit of a plane input and of a plane output of a fibre, in units of 1/16 ns, measured at manufacture (R225). -/
opaque planeIn : Nat → Nat
opaque planeOut : Nat → Nat

/-- SHA3-512 of a byte string (R45, R413). -/
opaque sha3 : List Byte → BitVec 512

/-- Does the ML-DSA-87 signature verify under the public key (R53, R405, R456)? Arguments: key, message, signature. -/
opaque mldsaVerify : List Byte → List Byte → List Byte → Bool

/-- Signature by the module's attestation key (R413). -/
opaque attestSign : List Byte → List Byte

/-- Certificate chain of the attestation key (R413). -/
opaque certChain : List Byte

/-- Does a firmware image pass the boot ROM's signature check, and which FW_VERSION does it carry (R456)? The layout of a
firmware image is not given. -/
opaque fwCheck : List Byte → Bool
opaque fwVersion : List Byte → BitVec 32

/-- The enrolment code on the module's label (R405). -/
opaque enrolCode : BitVec 64

/-- The ML-KEM-1024 key pair is generated at each power-up; the argument is the power-up count. Its encapsulation key
(R413), and decapsulation to the shared secret, none where it fails (R408). -/
opaque kemKey : Nat → List Byte
opaque kemDecap : Nat → List Byte → Option (List Byte)

end Sys2Proof.Config
end

