-- ==== Sys2Proof/Machine/State.lean ====
section
/-! DEFINITION. The machine's state as plain data: every register, queue, table, memory and counter the spec gives the
module, its reset value, and the reasons a step can stop. Each field's comment names the rule of spec/ it follows.
Times are on the module's duration clock unless a comment names the timebase. -/

namespace Sys2Proof.Machine

/-- A sparse table: entries by key, keys strictly rising, no entry equal to what an unlisted key reads as. -/
abbrev Tab (α : Type) := List (Nat × α)

/-- Faults: none. Every command of the block has an effect the spec gives (log entry 3); the type stays for the host's
interface. The one reason is raised by no meaning: safe. -/
inductive Fault where
  /-- Raised by no meaning; safe. -/
  | none
deriving DecidableEq, Repr

/-- Refusals. -/
inductive Refusal where
  /-- The command has no meaning yet; raised only by an arm of `exec`; safe. -/
  | notModelled (mnemonic : String)
deriving DecidableEq, Repr

/-- What the module puts out: the only trace the outside world sees of a step (model's own log, newest first). -/
inductive Output where
  /-- a control block sent on a port (R112). -/
  | block (port : Nat) (b : BitVec 256)
  /-- a JLP frame starts on a port (R113). -/
  | frame (port : Nat) (hdr : BitVec 256) (body : List (BitVec 8))
  /-- an Ethernet frame starts on a port (R130). -/
  | eth (port : Nat) (bytes : List (BitVec 8))
  /-- a PFC frame (R133). -/
  | pfc (port : Nat) (prio quanta : Nat)
  /-- a management message (R433). -/
  | mgmt (sid service op status tag : Nat) (body : List (BitVec 8))
  /-- a TLS alert that ends a connection (R404). -/
  | alert (conn : Nat)
  /-- an alignment marker of an Ethernet-mode lane, its form that of IEEE 802.3 (R73, R130). -/
  | marker (lane count : Nat)
  /-- codeword groups of SWAP_FILL, or of idle alone, on every lane of a port (R96, R97). -/
  | fill (port groups : Nat) (swap : Bool)
  /-- a refused management connection (R404). -/
  | refuse
  /-- an answer to neighbour discovery (0) or echo (1) for one of the port's addresses (R432). -/
  | packet (kind : Nat) (addr : BitVec 128)
  /-- an MSI-X message of a vector, its address and data as the host wrote them (R428). -/
  | msix (vector : Nat) (addr : BitVec 64) (data : BitVec 32)
  /-- a DMA write to host memory (R420). -/
  | hostWrite (addr : Nat) (bytes : List (BitVec 8))
  /-- a telemetry UDP datagram, 1 sampler 2 watch, from UDP port 4719: its addresses and destination port (R449, R450). -/
  | datagram (stream : Nat) (src dst : BitVec 128) (port : Nat) (bytes : List (BitVec 8))
  /-- the value a register read returns (R6). -/
  | readData (path off : Nat) (v : BitVec 64)
  /-- an Unsupported Request completion (R418). -/
  | unsupported (addr : Nat)
  /-- an acknowledge ignored at an isolated channel (R39). -/
  | rxIgnored (chan : Nat)
deriving DecidableEq, Repr

/-- The module structure in force: MODULE and SW_DIE sections (R48, R49, R457, R458). -/
structure Structure where
  /-- PORT_MODE byte of lane L; an unlisted lane reads 1, 400G fabric (R458) (R48). -/
  portMode : Tab (BitVec 8) := []
  /-- BYPASS_ELIG bit of lane L; unlisted false (R48). -/
  elig : Tab Bool := []
  /-- bypass slot length in ns (R48). -/
  slotNs : Nat := 256
  /-- CHANNEL word of channel c; unlisted reads the default map of Table 19.2 (R48). -/
  chan : Tab (BitVec 32) := []
  /-- VOQ_MIB of SWd; unlisted 192 (R49). -/
  voqMib : Tab Nat := []
  /-- EGR_MIB of SWd; unlisted 48 (R49). -/
  egrMib : Tab Nat := []
  /-- RSLOT_MIB of SWd; unlisted 64 (R49). -/
  rslotMib : Tab Nat := []
deriving DecidableEq, Repr

/-- A CONTEXT section: a context's share of resources (R52). -/
structure CtxShare where
  /-- regions the context may own at once (R52). -/
  maxRegions : Nat := 0
  /-- on-die reduction slots per SW die (R52). -/
  rslotQuota : List Nat := [0, 0, 0, 0]
  /-- memory-backed reduction slots (R52). -/
  mslotLimit : Nat := 0
  /-- result log quota, GiB (R52). -/
  logGib : Nat := 0
  /-- memory window, GiB (R52). -/
  winGib : Nat := 0
  /-- meters the context may hold (R52). -/
  meters : Nat := 0
  /-- lanes of each contracted fibre that stay electronic (R52). -/
  minLanes : Nat := 0
  /-- fibres with contracted capacity (R52). -/
  fibreMask : BitVec 128 := 0
deriving DecidableEq, Repr

/-- A bobbin record of a REGION section (R301). -/
structure BobRec where
  /-- 0 OFF, 1 WORKER, 2 STORE (R301). -/
  role : Nat := 0
  /-- needles started at START (R301). -/
  needles : BitVec 4 := 0
  /-- ENTRY stitch index of each needle (R301). -/
  entry : List Nat := [0, 0, 0, 0]
  /-- the stitch program (R301). -/
  prog : List (BitVec 64) := []
  /-- the sixteen route entries (R301). -/
  routes : List (BitVec 64) := []
  /-- the two inlet entries (R301). -/
  inlets : List (BitVec 128) := []
deriving DecidableEq, Repr

/-- A REGION section (R51). -/
structure RegionSec where
  /-- owning context, 0xFFFF none (R51). -/
  ctx : Nat := 0xFFFF
  /-- ROLE_TAG (R51). -/
  roleTag : BitVec 16 := 0
  /-- one record per bobbin (R51). -/
  recs : List BobRec := []
deriving DecidableEq, Repr

/-- A parsed full pricking (R45 to R53). -/
structure Image where
  /-- IMAGE_ID (R45). -/
  imageId : BitVec 64 := 0
  /-- SIGNER_KEY_ID (R45). -/
  signer : BitVec 64 := 0
  /-- SHA3-512 of the header (R413). -/
  headDigest : List (BitVec 8) := []
  /-- MODULE and SW_DIE sections (R48). -/
  str : Structure := {}
  /-- GROUP_MASK of each VALID region 16c + r (R50). -/
  cp : Tab (BitVec 16) := []
  /-- REGION sections (R51). -/
  regions : Tab RegionSec := []
  /-- CONTEXT sections (R52). -/
  ctxs : Tab CtxShare := []
deriving DecidableEq, Repr

/-- An event record without its CRC (R436). -/
structure Rec where
  /-- sequence number (R436). -/
  seq : Nat := 0
  /-- seconds low 32 bits and nanoseconds (R436). -/
  time : BitVec 64 := 0
  /-- BLOCK (R436). -/
  block : Nat := 0
  /-- SEVERITY (R436). -/
  sev : Nat := 0
  /-- CODE (R436). -/
  code : Nat := 0
  /-- bit 0 PERM, bit 1 SUMMARY (R436). -/
  flags : Nat := 0
  /-- die code, 8 CTL, 0xFF none (R436). -/
  die : Nat := 0xFF
  /-- context, 0xFFFF none (R436). -/
  ctx : Nat := 0xFFFF
  /-- UNIT (R436). -/
  unit : Nat := 0
  /-- COUNT (R436). -/
  count : Nat := 1
  /-- DATA bytes (R436). -/
  data : List (BitVec 8) := []
deriving DecidableEq, Repr

/-- A handshake channel isolated by its watchdog (R38, R39). -/
structure Isol where
  /-- die code whose re-weave frees it, 8 CTL (R39). -/
  die : Nat := 8
  /-- 1 + the picot engine it leads into, 0 none (R38). -/
  engine : Nat := 0
  /-- duration clock (ns) at which the reset of the management core it leads into ends, 0 none (R39). -/
  resetAt : Nat := 0
deriving DecidableEq, Repr

/-- Module-level state: power, latch, boot (chapter 19). -/
structure Sys where
  /-- MATE made and VMAIN in range, core supply good (R455). -/
  powered : Bool := false
  /-- removal latch open (R466). -/
  latchOpen : Bool := false
  /-- lasers at commissioning power (R105). -/
  lasersOn : Bool := false
  /-- R103 and R104 apply (R105). -/
  gateRules : Bool := false
  /-- boot structure applied (R455). -/
  bootDone : Bool := false
  /-- the module forwards as BASIC (R213) (R464). -/
  maintBasic : Bool := true
  /-- state DRAIN was given in (R463). -/
  drainFrom : Nat := 1
  /-- latched pins; which bit each takes is the model's choice (log entry 259): SLOT [6:0], PAR [7], REF [9:8], RECOV [10] (R19). -/
  straps : BitVec 11 := 0
  /-- a STRAP_CHANGED event was recorded this power cycle (R20). -/
  strapEvent : Bool := false
  /-- structure under which the module forwards (R457). -/
  str : Structure := {}
  /-- the active pricking (R60). -/
  active : Option Image := none
  /-- bit 0 XA good, bit 1 XB good (R379). -/
  refGood : BitVec 2 := 3
  /-- 0 normal, 1 both lost and periphery stopped, 2 on the internal oscillator awaiting the decision, 3 decided (R379). -/
  refPhase : Nat := 0
  /-- duration clock (ns) when both references were lost (R379). -/
  refLostAt : Nat := 0
  /-- CLR_MIN written, applied at each monitor's next window end (R33). -/
  clrMin : Bool := false
  /-- monitors that have taken the pending CLR_MIN (R33). -/
  clrMinDone : Tab Bool := []
  /-- handshake channels isolated by their watchdog (R38). -/
  isolated : Tab (Option Isol) := []
  /-- items discarded at an isolated channel (no register is given) (R38). -/
  discards : Tab Nat := []
  /-- duration clock (ns) at which the reset of management core k ends (R362). -/
  coreReset : Tab Nat := []
  /-- 10 µs window of the timebase that monitor n reported last, 0 the one at power-up (R31). -/
  paceWin : Tab Nat := []
  /-- the CTL die has faulted (R378). -/
  ctlFault : Bool := false
  /-- a data port has reached UP within 1 s of the loss of both references (R379). -/
  refUp : Bool := false
  /-- issue limit of sensor 16c + k: 0 none, 1 half, 2 quarter (R41). -/
  thermal : Tab Nat := []
  /-- last reading of sensor 16c + k, in 0.125 °C (R42). -/
  sensorHot : Tab Nat := []
  /-- CP die stopped by heat (R42). -/
  heatStop : Tab Bool := []
deriving DecidableEq, Repr

/-- What survives a power cycle (R454). -/
structure Nvs where
  /-- image slots 0-17, byte by byte; unwritten bytes read 0 (R56). -/
  slots : Tab (Tab (BitVec 8)) := []
  /-- slot whose full weave last ended OK (R457). -/
  bootSlot : Option Nat := none
  /-- its IMAGE_ID (R457). -/
  bootId : BitVec 64 := 0
  /-- MOD_GEN (R68). -/
  modGen : BitVec 64 := 0
  /-- 0 MANUFACTURE, 1 OWNED, 2 DECOMMISSIONED (R406). -/
  lifecycle : Nat := 0
  /-- owner root key (R405). -/
  rootKey : Option (List (BitVec 8)) := none
  /-- pricking keys by SIGNER_KEY_ID (R405). -/
  prkKeys : Tab (List (BitVec 8)) := []
  /-- manager CA keys by identifier (R405). -/
  caKeys : Tab (List (BitVec 8)) := []
  /-- last accepted owner-command SEQ (R405). -/
  ownerSeq : Nat := 0
  /-- firmware anti-rollback floor (R405). -/
  fwFloor : BitVec 32 := 0
  /-- pricking anti-rollback floor (R405). -/
  prkFloor : BitVec 32 := 0
  /-- laser i: 4 REPLACED, 6 FAILED, 9 SPARE_FAILED; unlisted healthy (R99). -/
  laserState : Tab Nat := []
  /-- spare i in service: 1 + W it serves (R99). -/
  spareFor : Tab Nat := []
  /-- channel i: check groups retired, in order (R330). -/
  retired : Tab (List Nat) := []
  /-- permanent part of the event recorder (R437). -/
  perm : List Rec := []
  /-- power-up count (R437). -/
  powerCount : Nat := 0
  /-- CLEAN flag (R471). -/
  clean : Bool := false
  /-- firmware images 0 and 1 (R456). -/
  fwBytes : Tab (Tab (BitVec 8)) := []
  /-- bytes staged in each image (R461). -/
  fwLen : Tab Nat := []
  /-- FW_VERSION of each image (R461). -/
  fwVer : Tab (BitVec 32) := []
  /-- VERIFIED mark of each image (R461). -/
  fwVerified : Tab Bool := []
  /-- image marked NEXT (R456). -/
  fwNext : Nat := 0
deriving DecidableEq, Repr

/-- What a read of TB_SEC latches for one path (R343). -/
structure Latch where
  /-- nanoseconds (R343). -/
  ns : Nat := 0
  /-- fraction, 2^-16 ns (R343). -/
  frac : Nat := 0
  /-- short time-stamp (R343). -/
  short : Nat := 0
deriving DecidableEq, Repr

/-- Timebase servo, capture and triggers (chapter 14). -/
structure TimeSt where
  /-- latch of each path, of management session n at 16 + n (R343). -/
  latches : Tab Latch := []
  /-- integrator I, 2^-32 (R352). -/
  integ : Int := 0
  /-- consecutive samples with |e| at most 100 ns (R354). -/
  good : Nat := 0
  /-- duration clock (ns) at the last sample (R354). -/
  lastSample : Nat := 0
  /-- the last sample's step was refused (R353). -/
  refused : Bool := false
  /-- capture records, six words each, oldest first (R351). -/
  capFifo : List (List (BitVec 64)) := []
  /-- armed time of trigger k, ns of the timebase (R358). -/
  trigAt : Tab Nat := []
  /-- trigger k armed for a past time (R358). -/
  trigDue : Tab Bool := []
deriving DecidableEq, Repr

/-- A pending motif commit (R63). -/
structure Motif where
  /-- its slot (R63). -/
  slot : Nat := 2
  /-- start time, ns of the timebase (R64). -/
  start : Nat := 0
  /-- PREEMPT (R64). -/
  preempt : Bool := false
  /-- 2 region motif, 3 context motif (R45). -/
  kind : Nat := 2
  /-- region or context (R47). -/
  target : Nat := 0
deriving DecidableEq, Repr

/-- The weave engine (chapter 3). -/
structure WeaveSt where
  /-- 0 idle, 1 verifying, 2 full weave, 3 motif weave, 4 die re-weave (R58). -/
  op : Nat := 0
  /-- slot of the running operation (R58). -/
  slot : Nat := 0
  /-- die of a running re-weave (R62). -/
  die : Nat := 0
  /-- region of a running motif weave (R65). -/
  region : Nat := 0
  /-- operations waiting for the engine: slot s for VERIFY, 32 + d for REWEAVE_DIE of die d (R54). -/
  verifyQ : List Nat := []
  /-- the slot under verification was staged again (R54). -/
  restaged : Bool := false
  /-- motifs accepted and not started (R63). -/
  pend : List Motif := []
  /-- duration clock (ns) + 1 of the last role-generation change of a unit (R70). -/
  genAt : Tab Nat := []
  /-- changes of a unit's role generation that wait (R70). -/
  genWait : Tab Nat := []
  /-- role generation of each reduction group (R69). -/
  groupGen : Tab (BitVec 8) := []
  /-- full weaves counted into every group's role generation, which is this plus its entry in groupGen (R69). -/
  groupBase : BitVec 8 := 0
  /-- duration clock (ns) + 1 of the last change of every unit by a full weave (R70). -/
  allAt : Nat := 0
  /-- units that waited at that full weave (R70). -/
  lateAll : List Nat := []
  /-- ingress hold of SWd in a full weave: begin and end on the duration clock (ns) (R60). -/
  holds : Tab (Nat × Nat) := []
  /-- the REGION section last written into each region (R65). -/
  regionLive : Tab RegionSec := []
deriving DecidableEq, Repr

/-- Receiver and gate state of one lane (chapter 4). -/
structure LaneSt where
  /-- times (ns) of uncorrectable codewords in the last 10 µs (R79). -/
  unc : List Nat := []
  /-- lane gate open (R102). -/
  gateOpen : Bool := false
  /-- ALIGN marker count sent (R111). -/
  alignCnt : Nat := 0
  /-- duration clock (2^-32 ns) of the last alignment marker sent, 0 none (R111). -/
  alignAt : Nat := 0
  /-- duration clock (ns) of the last ALIGN received in training, 0 none (R76). -/
  markAt : Nat := 0
  /-- its marker count (R76). -/
  markCnt : Nat := 0
deriving DecidableEq, Repr

/-- Gate state of one fibre (chapter 4). -/
structure FibreSt where
  /-- fibre-light level at or above the fibre-light threshold (R103). -/
  light : Bool := false
  /-- gate closed for R103 (R103). -/
  dark : Bool := true
  /-- a probe is open (R104). -/
  probing : Bool := false
  /-- duration clock (ns) of the next probe (R104). -/
  probeAt : Nat := 0
  /-- duration clock (ns) at which the probe ends (R104). -/
  probeEnd : Nat := 0
deriving DecidableEq, Repr

/-- Spare changeover of one laser bank (chapter 4). -/
structure BankSt where
  /-- a changeover runs (R96). -/
  active : Bool := false
  /-- position being replaced (R96). -/
  pos : Nat := 0
  /-- spare taking over (R96). -/
  spare : Nat := 8
  /-- the spare is locked and the swaps run (R96). -/
  locked : Bool := false
  /-- duration clock (ns) by which it must lock (R98). -/
  lockBy : Nat := 0
  /-- next fibre of the bank to swap, 0-8 (R96). -/
  next : Nat := 0
  /-- duration clock (ns) of the last swap (R96). -/
  swapAt : Nat := 0
  /-- positions waiting for a spare (R98). -/
  waiting : List Nat := []
deriving DecidableEq, Repr

/-- A routed frame's header rewrite (R166, R170). -/
structure Rewrite where
  /-- destination MAC of the next hop (R170). -/
  dmac : BitVec 48 := 0
  /-- VLAN of the next hop, 0 untagged (R170). -/
  vlan : Nat := 0
  /-- source MAC, TBL_RMAC at the lookup (R166). -/
  smac : BitVec 48 := 0
  /-- PCP of its tag, ETH_PRIO of its channel at the lookup (R166). -/
  pcp : Nat := 0
deriving DecidableEq, Repr

/-- A frame inside the module, with its lookup decision (R166). -/
structure Frame where
  /-- number given at admission (model's own) (R139). -/
  id : Nat := 0
  /-- Ethernet-mode frame (R108). -/
  eth : Bool := false
  /-- JLP header (R113). -/
  hdr : BitVec 256 := 0
  /-- JLP payload, or the whole Ethernet frame (R113). -/
  body : List (BitVec 8) := []
  /-- ingress port; 1,024 when the VS1 originated it (R137). -/
  ingress : Nat := 1024
  /-- ingress die (R137). -/
  idie : Nat := 0
  /-- channel (R132). -/
  chan : Nat := 0
  /-- subscriber index (R194). -/
  sub : Nat := 0
  /-- ECN mark applied at egress (R145). -/
  mark : Bool := false
  /-- DEI set at egress (R197). -/
  dei : Bool := false
  /-- header rewrite (R170). -/
  rw : Option Rewrite := none
  /-- receive time-stamp, 2^-16 ns (R347). -/
  rxTs : Nat := 0
  /-- PTP event frame (R348). -/
  ptp : Bool := false
  /-- table epoch of its lookup (R187). -/
  epoch : Nat := 0
  /-- bobbin whose store holds a SEND frame's bytes (R300). -/
  bob : Option Nat := none
  /-- decided output: port L, 1,024 + x internal output, 2,048 multicast (R166). -/
  dec : Nat := 0
  /-- multicast members at lookup (R180). -/
  members : List Nat := []
  /-- trainGen of its ingress port at reception (model's own) (R119). -/
  trainGen : Nat := 0
deriving DecidableEq, Repr

/-- One port: bring-up, IDENT and link layer (chapters 4, 5, 15). -/
structure PortSt where
  /-- underlying state, codes of Table 4.6 (R82). -/
  under : Nat := 5
  /-- duration clock (ns) at entry to TRAINING (R85). -/
  trainAt : Nat := 0
  /-- duration clock (ns) of the next try, 0 none (R85). -/
  retryAt : Nat := 0
  /-- waiting 10 ms after a training timeout (R85). -/
  retryWait : Bool := false
  /-- no failure recorded since the port was last UP or QUARANTINE (R85). -/
  firstFail : Bool := true
  /-- duration clock (ns) at alignment lock (R88). -/
  alignAt : Nat := 0
  /-- every lane aligned (R84). -/
  aligned : Bool := false
  /-- first record of a possible identical pair (R88). -/
  pair : Option (BitVec 256) := none
  /-- last stored IDENT record (R88). -/
  stored : Option (BitVec 256) := none
  /-- duration clock (ns) until which REIDENT sends, 0 none (R86). -/
  reident : Nat := 0
  /-- IDENT every 100 µs (R88). -/
  fastIdent : Bool := false
  /-- duration clock (ns) of the last IDENT sent (R88). -/
  identAt : Nat := 0
  /-- entries into TRAINING since power-up (model's own) (R119). -/
  trainGen : Nat := 0
  /-- duration clock (ns) since when the underlying state has been UP (R367). -/
  upAt : Nat := 0
  /-- duration clock (ns) at which the port last began to show UP (R225). -/
  shownUp : Nat := 0
  /-- discarding up to the next control block (R110). -/
  resync : Bool := false
  /-- CREDIT_INIT received for request, reply network (R119). -/
  initRx : BitVec 2 := 0
  /-- duration clock (ns) of the last CREDIT_INIT sent (R119). -/
  initAt : Nat := 0
  /-- duration clock (ns) of the last valid CREDIT block (R121). -/
  creditAt : Nat := 0
  /-- duration clock (ns) until which PAUSE_SWAP suspends detection (R128). -/
  suspend : Nat := 0
  /-- a PAUSE_SWAP suspension runs (R128). -/
  suspended : Bool := false
  /-- units sent on channel c since TRAINING (R117). -/
  sent : Tab Nat := []
  /-- units the peer has returned on channel c since TRAINING (R120). -/
  peerRet : Tab Nat := []
  /-- dedicated allocation advertised by the peer (R117). -/
  peerD : Tab Nat := []
  /-- shared allocation advertised by the peer, network n (R117). -/
  peerS : Tab Nat := []
  /-- units received on channel c and not yet returned (R120). -/
  held : Tab Nat := []
  /-- units returned on channel c since TRAINING, modulo 2^24 (R120). -/
  returned : Tab Nat := []
  /-- those of the last CREDIT block sent, kept while credits are withheld (R60). -/
  sentRet : Tab Nat := []
  /-- dedicated allocation the VS1 last advertised (R118). -/
  advD : Tab Nat := []
  /-- shared allocation the VS1 last advertised (R118). -/
  advS : Tab Nat := []
  /-- networks whose returned counts have changed since their last CREDIT block (R120). -/
  retDirty : BitVec 2 := 0
  /-- duration clock (ns) of the last CREDIT block sent for network n (R120). -/
  creditTxAt : Tab Nat := []
  /-- duration clock (ns) until which priority p is paused (R134). -/
  pfcUntil : Tab Nat := []
  /-- XOFF stands for channel c (R133). -/
  xoff : Tab Bool := []
  /-- duration clock (ns) of the last XOFF for channel c (R133). -/
  xoffAt : Tab Nat := []
  /-- units held on request channel c in Ethernet mode (R133). -/
  ethHeld : Tab Nat := []
  /-- frames dropped in QUARANTINE (PRT_DROP_QUAR, no offset given) (R91). -/
  dropQuar : Nat := 0
  /-- frame in transmission (R200). -/
  txBusy : Option Frame := none
  /-- duration clock (ns) at which its last byte leaves (R200). -/
  txEnd : Nat := 0
  /-- duration clock (ns) at which a swap's fill ends (R96). -/
  fillEnd : Nat := 0
  /-- data blocks sent since the last control block (R110). -/
  dataRun : Nat := 0
deriving DecidableEq, Repr

/-- An entry of a virtual output queue (R139, R160). -/
inductive QEnt where
  /-- a stored frame, or a SEND reference. -/
  | frame (f : Frame)
  /-- a residue reference to stored multicast frame mc, and the bytes of the copy that crossed before it. -/
  | ref (mc done : Nat)
deriving DecidableEq, Repr

/-- A virtual output queue as a byte stream in cells (R140). -/
structure Voq where
  /-- stream position of the first byte not yet crossed (R140). -/
  head : Nat := 0
  /-- stream position after the last byte stored (R140). -/
  tail : Nat := 0
  /-- its frames and residue references, oldest first (R139). -/
  ents : List QEnt := []
  /-- bytes of the head entry that have crossed through this queue (R147). -/
  crossed : Nat := 0
  /-- standing requests: the bytes of each requested cell, oldest first (R147). -/
  reqs : List Nat := []
deriving DecidableEq, Repr

/-- A multicast frame stored once (R158). -/
structure McFrame where
  /-- the frame (R158). -/
  f : Frame := {}
  /-- stream position of its first byte in its multicast VOQ (R140). -/
  start : Nat := 0
  /-- members whose copy the multicast VOQ has not completed (R159). -/
  todo : List Nat := []
  /-- members the head cell has not been sent to (R159). -/
  cell : List Nat := []
  /-- bytes of the frame before the head cell (R159). -/
  pos : Nat := 0
  /-- members to which a cell of the frame has crossed (R159). -/
  begun : List Nat := []
  /-- residue references outstanding (R160). -/
  refs : Nat := 0
  /-- members divided at the head (mode S) (R160). -/
  split : Bool := false
  /-- duration clock (ns) at which it reached the head, plus 1 (R159). -/
  headAt : Nat := 0
deriving DecidableEq, Repr

/-- A part of a frame in a cell (R147). -/
structure Piece where
  /-- its frame (R147). -/
  f : Frame := {}
  /-- bytes (R147). -/
  n : Nat := 0
  /-- it ends the frame (R147). -/
  last : Bool := false
  /-- outputs on the egress die that take it (R159). -/
  outs : List Nat := []
deriving DecidableEq, Repr

/-- A cell in flight between dies (R152). -/
structure Cell where
  /-- sequence number in its stream (R152). -/
  seq : Nat := 0
  /-- relay die, 4 direct (R150). -/
  relay : Nat := 4
  /-- waiting at its relay die for the second bundle (R151). -/
  held : Bool := false
  /-- its content (R147). -/
  pieces : List Piece := []
deriving DecidableEq, Repr

/-- The switch core (chapter 6). -/
structure CoreSt where
  /-- next frame number (model's own) (R139). -/
  nextId : Nat := 1
  /-- VOQs: port queues at 16,384d + 16L + c, internal and multicast ones at 65,536 + 144d + 16x + c (R139). -/
  voqs : Tab Voq := []
  /-- stored multicast frames (R158). -/
  mc : Tab McFrame := []
  /-- units charged to ingress port (R141). -/
  charge : Tab Nat := []
  /-- channel pointer of each output lane (R149). -/
  chanPtr : Tab Nat := []
  /-- grant pointer of each output lane and channel (R149). -/
  grantPtr : Tab Nat := []
  /-- accept pointer of each die (R149). -/
  acceptPtr : Tab Nat := []
  /-- cells sprayed so far by ordered die pair (R150). -/
  spray : Tab Nat := []
  /-- next sequence number of a stream (R152). -/
  seqTx : Tab Nat := []
  /-- next sequence number released (R152). -/
  seqRx : Tab Nat := []
  /-- cells of a stream in flight (R152). -/
  flight : Tab (List Cell) := []
  /-- duration clock (ns) + 1 since when a gap is open (R152). -/
  gapAt : Tab Nat := []
  /-- cells of a stream held out of sequence (R152). -/
  early : Tab (List Cell) := []
  /-- bytes of the frame under reassembly for an output and channel (R153). -/
  asm : Tab Nat := []
  /-- frames that lost a cell on the way to an output, at 4,096 × frame number + output (R152). -/
  lost : Tab Bool := []
  /-- egress queue of (port, channel, subscriber) (R153). -/
  egr : Tab (List Frame) := []
  /-- bytes in the egress area, held or reserved, of (port, channel): all of a frame but its first 32 (R153). -/
  egrBytes : Tab Nat := []
  /-- descriptors held by (port, channel) (R153). -/
  egrDesc : Tab Nat := []
  /-- frames delivered at internal output IOx, oldest first (R139). -/
  ioq : Tab (List Frame) := []
  /-- suppressed copies to report to the engines (R162). -/
  reports : List (Nat × Frame) := []
deriving DecidableEq, Repr

/-- A forwarding table entry (R182). -/
structure Entry where
  /-- KEY bytes (R182). -/
  key : List (BitVec 8) := []
  /-- DATA bytes (R182). -/
  data : List (BitVec 8) := []
deriving DecidableEq, Repr

/-- An item of the submission order (R181). -/
inductive Submission where
  /-- a table command, from the register path (none) or entry i of the DMA queue. -/
  | cmd (desc : List (BitVec 8)) (dma : Option Nat)
  /-- a raw operation. -/
  | raw (w : BitVec 64)
  /-- a learn (R178). -/
  | learn (vlan : Nat) (mac : BitVec 48) (isGroup : Bool) (target : Nat)
  /-- an aging removal (R179). -/
  | age (idx : Nat)
deriving DecidableEq, Repr

/-- An outstanding DRAIN (R189). -/
structure Drain where
  /-- E (R189). -/
  epoch : Nat := 0
  /-- duration clock (ns) of its timeout (R189). -/
  deadline : Nat := 0
  /-- its descriptor (R189). -/
  desc : List (BitVec 8) := []
  /-- DMA entry, none for the register path (R189). -/
  dma : Option Nat := none
deriving DecidableEq, Repr

/-- Forwarding tables and their command engine (chapter 7). -/
structure TblSt where
  /-- table t of die d at 8d + t, by physical index (R171). -/
  copies : Tab (Tab Entry) := []
  /-- age stamp of L2 entry i on die d, at 2^20 d + i (R179). -/
  stamps : Tab Nat := []
  /-- member number of each bucket of link group g in die d's copy, at 4,096d + g (R175). -/
  buckets : Tab (List Nat) := []
  /-- round-robin pointer of group and channel (R177). -/
  rr : Tab Nat := []
  /-- the submission order (R181). -/
  order : List Submission := []
  /-- outstanding DRAINs (R189). -/
  drains : List Drain := []
  /-- duration clock (ns) of the last tick (R179). -/
  tickAt : Nat := 0
  /-- duration clock (ns) at which the present learn-rate second began (R178). -/
  learnAt : Nat := 0
  /-- learns made in that second (R178). -/
  learnCnt : Nat := 0
deriving DecidableEq, Repr

/-- A meter (R196, R198). -/
structure Meter where
  /-- CIR and PIR (R198). -/
  cfg0 : BitVec 64 := 0
  /-- burst sizes, actions and owner (R198). -/
  cfg1 : BitVec 64 := 0
  /-- committed bucket, bits × 1,000 (bytes × 8,000) (R196). -/
  tc : Nat := 0
  /-- peak bucket, same unit (R196). -/
  tp : Nat := 0
  /-- duration clock (ns) of the last update (R196). -/
  stamp : Nat := 0
  /-- green frames (R198). -/
  green : BitVec 64 := 0
  /-- yellow frames (R198). -/
  yellow : BitVec 64 := 0
  /-- red frames (R198). -/
  red : BitVec 64 := 0
deriving DecidableEq, Repr

/-- A node of the egress hierarchy (R199). -/
structure Node where
  /-- RATE, BURST, STRICT, WEIGHT as TM_NODE_DATA lays them out (R204). -/
  data : BitVec 64 := 1
  /-- tokens, bytes × 8,000 (R206). -/
  tok : Nat := 0
  /-- duration clock (ns) of the last accrual (R206). -/
  stamp : Nat := 0
  /-- DWRR deficit, bytes (R201). -/
  deficit : Nat := 0
deriving DecidableEq, Repr

/-- The gate list of one port (R208 to R211). -/
structure GateSt where
  /-- a commit is pending (R209). -/
  pend : Bool := false
  /-- its LEN (R209). -/
  pendLen : Nat := 0
  /-- switch time, ns of the timebase (R210). -/
  switchAt : Nat := 0
  /-- base time of the operational list (R210). -/
  base : Nat := 0
  /-- start of the current entry, ns of the timebase (R211). -/
  entryAt : Nat := 0
deriving DecidableEq, Repr

/-- Traffic management (chapter 8). -/
structure TmSt where
  /-- the 16,384 meters (R195). -/
  meters : Tab Meter := []
  /-- port, service and subscriber nodes (R199). -/
  nodes : Tab Node := []
  /-- service node the DWRR round of a port is at (R201). -/
  visit : Tab Nat := []
  /-- subscriber node the DWRR round of a port and channel is at (R201). -/
  subVisit : Tab Nat := []
  /-- the node now visited has had its quantum (R201). -/
  visited : Tab Bool := []
  /-- a weight set is being applied (R205). -/
  wset : Bool := false
  /-- its first port (R205). -/
  wFirst : Nat := 0
  /-- its last port (R205). -/
  wLast : Nat := 0
  /-- its sixteen weights, taken at GO (R205). -/
  wWeights : List Nat := []
  /-- its strict mask, taken at GO (R205). -/
  wMask : Nat := 0
  /-- gate list of each port (R208). -/
  gates : Tab GateSt := []
deriving DecidableEq, Repr

/-- A slot-map entry (R218). -/
structure LaneMap where
  /-- 0 ELECTRONIC, 1 SLOTTED, 2 CIRCUIT (R218). -/
  mode : Nat := 0
  /-- CIRCUIT partner lane (R218). -/
  partner : Nat := 0
  /-- owning context (R218). -/
  owner : Nat := 0
deriving DecidableEq, Repr

/-- Ranging of one fibre (R225). -/
structure RangeSt where
  /-- a ranging runs (R225). -/
  active : Bool := false
  /-- pings sent (R225). -/
  sentCnt : Nat := 0
  /-- departure (1/16 ns) + 1 of ping SEQ (R225). -/
  pings : Tab Nat := []
  /-- valid round trips, 1/16 ns (R225). -/
  rtts : List Nat := []
  /-- duration clock (ns) + 1 of the last start of a ranging (R225). -/
  startAt : Nat := 0
  /-- duration clock (ns) of the last ping (R225). -/
  lastAt : Nat := 0
  /-- duration clock (ns) of the last RANGE_SET (R225). -/
  setAt : Nat := 0
  /-- duration clock (ns) of the last SLOT_TICK (R226). -/
  tickAt : Nat := 0
deriving DecidableEq, Repr

/-- Optical bypass (chapter 9). -/
structure BypSt where
  /-- shadow map (R230). -/
  shadow : Tab LaneMap := []
  /-- operational map (R218). -/
  oper : Tab LaneMap := []
  /-- slot of the pending commit (R230). -/
  pend : Option Nat := none
  /-- slot origin, ns of the timebase (R221). -/
  origin : Option Nat := none
  /-- request count of source lane and destination fibre, at 128L + F (R227). -/
  req : Tab Nat := []
  /-- ranging of each fibre (R225). -/
  rng : Tab RangeSt := []
  /-- slot after the last slot matched on plane W (R228). -/
  matched : Tab Nat := []
  /-- plane W: joined pairs of source and destination fibre now in force (R222). -/
  path : Tab (List (Nat × Nat)) := []
  /-- matching of plane W and slot n, at 8n + W (R228). -/
  granted : Tab (List (Nat × Nat)) := []
  /-- grant pointer of an output lane (R228). -/
  gPtr : Tab Nat := []
  /-- accept pointer of an input lane (R228). -/
  aPtr : Tab Nat := []
  /-- the SOAs are powered (R234). -/
  soaOn : Bool := false
deriving DecidableEq, Repr

/-- A reduction group table entry (R238). -/
structure GroupSt where
  /-- word W0 (R238). -/
  w0 : BitVec 64 := 0
  /-- word W1 (R238). -/
  w1 : BitVec 64 := 0
  /-- word W2 (R238). -/
  w2 : BitVec 64 := 0
  /-- word W3 (R238). -/
  w3 : BitVec 64 := 0
  /-- word W4 without GEN (R238). -/
  w4 : BitVec 64 := 0
  /-- word W5 (R238). -/
  w5 : BitVec 64 := 0
  /-- region role generation recorded at the WRITE (R267). -/
  rgnGen : BitVec 8 := 0
  /-- MIRROR_DOWN (R263). -/
  mirrorDown : Bool := false
  /-- log position of the last SEAL record not yet confirmed by the buddy (R263). -/
  unconf : Option Nat := none
  /-- duration clock (ns) at which that record was mirrored (R263). -/
  unconfAt : Nat := 0
deriving DecidableEq, Repr

/-- A chunk's slot (R252). -/
structure Chunk where
  /-- chunk index (R251). -/
  idx : Nat := 0
  /-- elements (R252). -/
  n : Nat := 0
  /-- contributions added (R252). -/
  count : Nat := 0
  /-- W48 accumulators (R252). -/
  acc : List (BitVec 48) := []
  /-- duration clock (ns) at reservation (R253). -/
  stamp : Nat := 0
  /-- engine 8d + j (R252). -/
  engine : Nat := 0
  /-- number of a memory-backed slot among its context's slots on the die (R334). -/
  slot : Nat := 0
  /-- on-die slot, else memory-backed (R251). -/
  onDie : Bool := true
  /-- result released (R254). -/
  done : Bool := false
  /-- duration clock (ns) at release (R253). -/
  doneAt : Nat := 0
  /-- element data of the result (R254). -/
  result : List (BitVec 8) := []
  /-- member ports whose acknowledgement bit is set (R254). -/
  acks : List Nat := []
  /-- slot released (R254). -/
  freed : Bool := false
deriving DecidableEq, Repr

/-- A collective record (R251). -/
structure Coll where
  /-- context (R251). -/
  ctx : Nat := 0
  /-- group (R251). -/
  group : Nat := 0
  /-- collective sequence number (R251). -/
  cseq : Nat := 0
  /-- owning die (R251). -/
  die : Nat := 0
  /-- duration clock (ns) of the last progress R253 names (R253). -/
  stamp : Nat := 0
  /-- record on-die, else memory-backed (R251). -/
  onDie : Bool := true
  /-- number of a memory-backed record among its context's slots on the die (R334). -/
  slot : Nat := 0
  /-- its slots (R251). -/
  chunks : List Chunk := []
  /-- suppressed result copies (R257). -/
  supp : Nat := 0
  /-- ports whose acknowledgement was waived (R257). -/
  waived : List Nat := []
  /-- chunks whose result has been released (R256). -/
  released : Nat := 0
deriving DecidableEq, Repr

/-- A tombstone (R243). -/
structure Tomb where
  /-- context (R243). -/
  ctx : Nat := 0
  /-- group (R243). -/
  group : Nat := 0
  /-- collective sequence number (R243). -/
  cseq : Nat := 0
  /-- duration clock (ns) at which it lapses (R243). -/
  expiry : Nat := 0
deriving DecidableEq, Repr

/-- Where a log record lies (R260). -/
structure LogRec where
  /-- position of its first byte (R260). -/
  pos : Nat := 0
  /-- its length (R260). -/
  len : Nat := 64
  /-- its group (R260). -/
  group : Nat := 0
  /-- its collective (R260). -/
  cseq : Nat := 0
  /-- that collective has sealed or aborted since (R259). -/
  shut : Bool := false
deriving DecidableEq, Repr

/-- An outstanding GET of the buddy mirror (R262). -/
structure MirrorGet where
  /-- context (R262). -/
  ctx : Nat := 0
  /-- group (R262). -/
  group : Nat := 0
  /-- chip it went to (R262). -/
  buddy : Nat := 0
  /-- RETURN of the GET (R262). -/
  ret : Nat := 0
  /-- log position after the SEAL record (R262). -/
  posEnd : Nat := 0
  /-- duration clock (ns) when it was sent (R263). -/
  stamp : Nat := 0
deriving DecidableEq, Repr

/-- In-network reduction (chapter 10). -/
structure PicSt where
  /-- reduction group table (R238). -/
  groups : Tab GroupSt := []
  /-- collective records (R251). -/
  colls : List Coll := []
  /-- tombstones (R243). -/
  tombs : List Tomb := []
  /-- engine that SWd assigns next (R252). -/
  nextEng : Tab Nat := []
  /-- outstanding mirror GETs (R262). -/
  gets : List MirrorGet := []
  /-- next RETURN value (model's own) (R338). -/
  nextRet : Nat := 0
  /-- records in the log of context x, oldest first (R260). -/
  logs : Tab (List LogRec) := []
  /-- LOG_HIGH recorded since the last TRIM write of context x (R261). -/
  logHigh : Tab Bool := []
  /-- group whose command waits for R70 (R239). -/
  grpWait : Option Nat := none
  /-- RESULT, SEAL and ABORT frames on their way to region r (R267). -/
  handoff : Tab (List Frame) := []
deriving DecidableEq, Repr

/-- A ground flit (R279, Table 11.5). -/
structure Token where
  /-- header word (R280). -/
  hdr : BitVec 64 := 0
  /-- payload word W0 (R280). -/
  w0 : BitVec 64 := 0
  /-- payload word W1 (R280). -/
  w1 : BitVec 64 := 0
  /-- payload word W2 (R280). -/
  w2 : BitVec 64 := 0
deriving DecidableEq, Repr

/-- A token or a 32-byte ground flit of a copy on its way to a bobbin (R288, R290). -/
structure Flit where
  /-- the token, none for copy data (R290). -/
  tok : Option Token := none
  /-- receiving queue (R280). -/
  queue : Nat := 0
  /-- store address of copy data (R285). -/
  addr : Nat := 0
  /-- copy data (R285). -/
  data : List (BitVec 8) := []
  /-- sending bobbin (R291). -/
  src : Nat := 0
  /-- sending region (R291). -/
  srcRgn : Nat := 64
  /-- owner of the sending region (R291). -/
  ctx : Nat := 1024
  /-- GEN carried (R291). -/
  gen : BitVec 8 := 0
  /-- number of the copy it belongs to (model's own) (R291). -/
  work : Nat := 0
deriving DecidableEq, Repr

/-- A needle (R281). -/
structure Needle where
  /-- started and not halted (R281). -/
  running : Bool := false
  /-- next stitch index (R281). -/
  pc : Nat := 0
  /-- G0 to G15; G0 is never listed (R281). -/
  regs : Tab (BitVec 64) := []
  /-- asynchronous stitches outstanding (R283). -/
  pendAsync : Nat := 0
  /-- duration clock (2^-32 ns) + 1 at which it last fired a stitch (R41). -/
  issueAt : Nat := 0
deriving DecidableEq, Repr

/-- An asynchronous stitch accepted by its unit (R283). -/
structure Work where
  /-- issuing needle (R283). -/
  needle : Nat := 0
  /-- descriptor as read at firing (R283). -/
  desc : List (BitVec 8) := []
  /-- post a completion token (R283). -/
  post : Bool := false
  /-- completion queue (R283). -/
  queue : Nat := 0
  /-- RA, the token's W0 (R283). -/
  w0 : BitVec 64 := 0
  /-- operation or copy kind (R285). -/
  kind : Nat := 0
  /-- index of its stitch (R284). -/
  pc : Nat := 0
  /-- duration clock (ns) since when the arrays run it (R447). -/
  stamp : Nat := 0
  /-- number of a SEND's frame; of a copy, its own (model's own) (R300). -/
  frameId : Nat := 0
  /-- ns it ran in earlier stretches of its region's RUNNING (R447). -/
  ran : Nat := 0
  /-- SEND: the last cell has crossed or the frame was dropped (R300). -/
  crossed : Bool := false
deriving DecidableEq, Repr

/-- An inlet ring at run time (R295). -/
structure Inlet where
  /-- ring offset of the next byte (R295). -/
  head : Nat := 0
  /-- bytes between the last released address and the head (R296). -/
  used : Nat := 0
deriving DecidableEq, Repr

/-- One bobbin (R270). -/
structure Bobbin where
  /-- its woven record (R301). -/
  record : BobRec := {}
  /-- region it belongs to, 64 none (R269). -/
  region : Nat := 64
  /-- bobbin store, zero where unlisted (R278). -/
  store : Tab (BitVec 8) := []
  /-- contents lost in a die reset: unlisted bytes are the free values from this number on (R373). -/
  lost : Option Nat := none
  /-- store words with a double-bit error (R278). -/
  eccBad : List Nat := []
  /-- store words with a single-bit error (R278). -/
  eccOne : List Nat := []
  /-- token queues Q0-Q15 (R280). -/
  queues : Tab (List Token) := []
  /-- needles 0-3 (R281). -/
  needles : Tab Needle := []
  /-- MMA in progress and accepted (R274). -/
  mma : List Work := []
  /-- vector operations (R275). -/
  vop : List Work := []
  /-- copies (R285). -/
  copy : List Work := []
  /-- SENDs (R300). -/
  send : List Work := []
  /-- run-time state of the two inlets (R295). -/
  inlets : Tab Inlet := []
  /-- stitches with a double-bit error (R284). -/
  progBad : List Nat := []
  /-- flits on their way to this bobbin, oldest first (R288). -/
  inFlight : List Flit := []
deriving DecidableEq, Repr

/-- The bobbin fabric (chapter 11). -/
structure BobSt where
  /-- bobbin n = 256c + b (R269). -/
  bobs : Tab Bobbin := []
deriving DecidableEq, Repr

/-- LPDDR6 memory (chapter 13). -/
structure MemSt where
  /-- byte P of die d at 2^40 d + P; memory is zeroed in BOOT (R340) (R331). -/
  bytes : Tab (BitVec 8) := []
  /-- poisoned line l of die d at 2^40 d + l (R327). -/
  poison : Tab Bool := []
  /-- error that word w of channel i holds and no access has met yet, at 2^30 i + w (R326). -/
  latent : Tab LineErr := []
  /-- FAILED channels (R362). -/
  failed : Tab Bool := []
  /-- window frames of context x: die and frame (R332). -/
  winFr : Tab (List (Nat × Nat)) := []
  /-- log frames of context x (R332). -/
  logFr : Tab (List (Nat × Nat)) := []
  /-- pass number + 1 of the last correction of word w of channel i, at 2^30 i + w (R330). -/
  oneBit : Tab Nat := []
  /-- patrol passes completed (R329). -/
  passNo : Nat := 0
  /-- lines read in the current pass (R329). -/
  patrolPos : Nat := 0
deriving DecidableEq, Repr

/-- Fence and incarnation state of a chip number (R368). -/
structure Chip where
  /-- FENCED (R368). -/
  fenced : Bool := false
  /-- CHECK (R368). -/
  check : Bool := false
  /-- recorded incarnation (R368). -/
  inc : BitVec 8 := 0
deriving DecidableEq, Repr

/-- A broadcast session (R385). -/
structure BcSt where
  /-- W0 (R385). -/
  w0 : BitVec 64 := 0
  /-- W1 (R385). -/
  w1 : BitVec 64 := 0
  /-- W2 (R385). -/
  w2 : BitVec 64 := 0
  /-- W3 (R385). -/
  w3 : BitVec 64 := 0
  /-- W4 (R385). -/
  w4 : BitVec 64 := 0
  /-- next position sent by multicast (R388). -/
  pos : Nat := 0
  /-- relay: highest contiguous offset held (R386). -/
  held : Nat := 0
  /-- relay: pieces held beyond it (R386). -/
  holes : List (Nat × Nat) := []
  /-- receivers served by unicast with their next positions (R389). -/
  uni : List (Nat × Nat) := []
  /-- duration clock (ns) of the last START or RESUME (R389). -/
  startAt : Nat := 0
  /-- duration clock (ns) of the last progress from or through a relay (R389). -/
  relayAt : Tab Nat := []
  /-- duration clock (ns) at which RESUME's wait ends (R390). -/
  resumeAt : Option Nat := none
  /-- progress reported during RESUME's wait (R390). -/
  reported : Tab Nat := []
  /-- duration clock (ns) of the last own report (R388). -/
  reportAt : Nat := 0
deriving DecidableEq, Repr

/-- An interposer bundle (R380 to R382). -/
structure BundleSt where
  /-- spare wavelengths used in waveguide w (R380). -/
  spareUsed : Tab Nat := []
  /-- waveguides removed (R381). -/
  removed : Nat := 0
  /-- duration clock (ns) at which the retune window ends, 0 none (R380). -/
  retuneEnd : Nat := 0
deriving DecidableEq, Repr

/-- Faults and fences (chapter 15). -/
structure FltSt where
  /-- chip fence table (R368). -/
  chips : Tab Chip := []
  /-- duration clock (ns) + 1 of the last FENCED NACK to a source for a fenced chip (R370). -/
  nackAt : Tab Nat := []
  /-- duration clock (ns) of the die's faults in the last hour (R377). -/
  dieFaults : Tab (List Nat) := []
  /-- the die's last fault was its third within one hour (R377). -/
  dieHeld : Tab Bool := []
  /-- die re-woven, its memory being zeroed (R376). -/
  dieJoin : Tab Bool := []
  /-- bundles 0 to 31, and the eight CTL bundles as 32 to 39, which the spec does not number (log entry 270) (R380). -/
  bundles : Tab BundleSt := []
  /-- reports to fault handling of a bundle whose stream lost cells (R152). -/
  reported : Tab Nat := []
  /-- broadcast sessions (R385). -/
  bcs : Tab BcSt := []
deriving DecidableEq, Repr

/-- An installed job key (R408). -/
structure JobKey where
  /-- the AES-256 key (R408). -/
  key : BitVec 256 := 0
  /-- SEND nonce count since its install (R410). -/
  n : Nat := 0
deriving DecidableEq, Repr

/-- A management request (R433). -/
structure Request where
  /-- SERVICE (R433). -/
  service : Nat := 0
  /-- OP (R433). -/
  op : Nat := 0
  /-- TAG (R433). -/
  tag : BitVec 32 := 0
  /-- the header's reserved bytes (R433). -/
  resv : BitVec 32 := 0
  /-- the body (R433). -/
  body : List (BitVec 8) := []
  /-- a write it makes of NVS fails (R422). -/
  nvsErr : Bool := false
  /-- the body did not arrive within 10 s (R433). -/
  late : Bool := false
deriving DecidableEq, Repr

/-- A management session (R404). -/
structure Session where
  /-- number given at opening (model's own) (R404). -/
  sid : Nat := 0
  /-- 1 + identifier of the CA key that authenticated it, 0 the root key (R405). -/
  ca : Nat := 0
  /-- duration clock (ns) of its last activity (R404). -/
  last : Nat := 0
  /-- subscription, 0xFF none (R435). -/
  minSev : Nat := 255
  /-- first 16 bytes of the digest of the client's public key (R439). -/
  keyDigest : List (BitVec 8) := []
  /-- requests that wait for an earlier one's end, oldest first (R433). -/
  held : List Request := []
  /-- duration clock (ns) + 1 since when its TCP send window is closed, 0 open (R435). -/
  closedAt : Nat := 0
deriving DecidableEq, Repr

/-- A handshake in progress (R404). -/
structure Conn where
  /-- connection number (model's own) (R404). -/
  conn : Nat := 0
  /-- duration clock (ns) of its start (R404). -/
  stamp : Nat := 0
deriving DecidableEq, Repr

/-- An unpick in progress (R400). -/
structure Unpick where
  /-- duration clock (ns) of its start (R400). -/
  stamp : Nat := 0
deriving DecidableEq, Repr

/-- Contexts and security (chapter 16). -/
structure SecSt where
  /-- job keys at 256 CTX + KEYIDX (R408). -/
  keys : Tab JobKey := []
  /-- open sessions in opening order (R404). -/
  sessions : List Session := []
  /-- handshakes in progress (R404). -/
  conns : List Conn := []
  /-- next connection or session number (model's own) (R404). -/
  nextConn : Nat := 0
  /-- times (ns) of failed handshakes in the last 60 s (R404). -/
  fails : List Nat := []
  /-- networks of the management port's global addresses: duration clock (ns) at which each lapses, 0 never (R432). -/
  globals : Tab Nat := []
  /-- duration clock (ns) until which new connections are refused (R404). -/
  lockUntil : Nat := 0
  /-- ENROLs ended with BAD_CODE since power-up (R405). -/
  badCodes : Nat := 0
  /-- unpicks in progress by context (R400). -/
  unpick : Tab Unpick := []
  /-- share of each context, from the pricking or its last context motif (R66). -/
  share : Tab CtxShare := []
  /-- duration clock (ns) + 1 at which region r's unpick began (R399). -/
  regionUnpick : Tab Nat := []
deriving DecidableEq, Repr

/-- Host attachment and interrupts (chapter 17). -/
structure HostSt where
  /-- PCIe link up (R419). -/
  link : Bool := false
  /-- MSI-X enabled (R419). -/
  msixEn : Bool := false
  /-- MSI-X table: ADDRESS [63:0], DATA [95:64], mask bit 96; an unlisted vector is masked, its other bits 0 (PCI Express) (R417). -/
  msixTab : Tab (BitVec 128) := []
  /-- MSI-X pending bits (R428). -/
  pba : Tab Bool := []
  /-- sources taken by target t with their tiers, top first (R427). -/
  taken : Tab (List (Nat × Nat)) := []
  /-- 1 + source now offered to target t (R428). -/
  offers : Tab Nat := []
  /-- interrupt line of core t asserted (R428). -/
  line : Tab Bool := []
  /-- SEQ the EVENTS stream reaches next (R424). -/
  evPos : Nat := 0
  /-- source 10 raised for the half mark since the last TAIL write (R424). -/
  evHalf : Bool := false
  /-- TABLE completions that wait for an earlier entry's, by entry index (R420). -/
  dqDone : Tab (List (BitVec 8)) := []
  /-- index of the next TABLE completion to write (R420). -/
  dqNext : Nat := 0
deriving DecidableEq, Repr

/-- An open rate-limit window (R495). -/
structure RateWin where
  /-- duration clock (ns) at which it ends (R495). -/
  expiry : Nat := 0
  /-- its length (R495). -/
  len : Nat := 0
  /-- occurrences folded (R495). -/
  folded : Nat := 0
  /-- the last folded occurrence (R495). -/
  lastRec : Rec := {}
deriving DecidableEq, Repr

/-- The event recorder (chapter 17). -/
structure EvrSt where
  /-- low part of the next SEQ (R437). -/
  next : Nat := 0
  /-- circular part, newest first (R437). -/
  recs : List Rec := []
  /-- open rate-limit windows (R495). -/
  windows : Tab RateWin := []
  /-- records awaiting their permanent copy, oldest first (R437). -/
  copyQ : List Rec := []
  /-- records lost since the last LOST record (R437). -/
  lost : Nat := 0
  /-- millisecond of the duration clock whose records are counted (R437). -/
  rateAt : Nat := 0
  /-- records taken in it (R437). -/
  rateCnt : Nat := 0
  /-- records taken since the last watermark raise or write (R440). -/
  wmark : Nat := 0
  /-- session whose clear is in progress (R439). -/
  clearing : Option Nat := none
  /-- TAG of that clear (R439). -/
  clearTag : Nat := 0
  /-- digest of the key of the client that asked for it (R439). -/
  clearDigest : List (BitVec 8) := []
  /-- records awaiting their permanent copy that were taken before the latch opened (R467). -/
  latchPre : Nat := 0
  /-- notifications that wait for a session's TCP send window, with the session, oldest first (R435). -/
  notes : List (Nat × Rec) := []
  /-- record window of each path, of management session n at 16 + n (R499) (R438). -/
  win : Tab (List (BitVec 64)) := []
deriving DecidableEq, Repr

/-- Telemetry (chapter 18). -/
structure TelSt where
  /-- sampler periods since enabled (R449). -/
  sampSeq : Nat := 0
  /-- watch periods since enabled (R450). -/
  watchSeq : Nat := 0
  /-- timebase (ns) at which the present sampler period began (R449). -/
  sampAt : Nat := 0
  /-- timebase (ns) at which the present watch period began (R450). -/
  watchAt : Nat := 0
  /-- counter values at the start of the sampler period, by register offset (R449). -/
  snap : Tab (BitVec 64) := []
  /-- counter values at the start of the watch period, by register offset (R450). -/
  wsnap : Tab (BitVec 64) := []
  /-- a frame for port p was marked or ECN-dropped in this sampler period (R449). -/
  ecnFor : Tab Bool := []
  /-- the VS1 sent XOFF on port p in this watch period (R450). -/
  xoffSent : Tab Bool := []
  /-- datagrams waiting: stream, expiry, bytes (R451). -/
  queue : List (Nat × Nat × List (BitVec 8)) := []
  /-- duration clock (ns) of the last publication of context x (R446). -/
  pubAt : Tab Nat := []
deriving DecidableEq, Repr

/-- Self-tests (R469). -/
structure TestSt where
  /-- duration clock (ns) at which a test began to wait (R470). -/
  wait : Nat := 0
  /-- duration clock (ns) at which it began to run (R469). -/
  started : Nat := 0
deriving DecidableEq, Repr

/-- The whole module. -/
structure State where
  /-- commands waiting, first in first out (the model's queue) (R486). -/
  pending : List Sys2Proof.Instr := []
  /-- every BAR0 register that differs from its reset value, by offset (R484). -/
  regs : Tab (BitVec 64) := []
  /-- next free value (the model's own counter, no rule). -/
  free : Nat := 0
  /-- what the module has put out, newest first (the model's own log). -/
  out : List Output := []
  /-- timebase, in units of 2^-32 ns (R342). -/
  tb : Nat := 0
  /-- the module's duration clock, in units of 2^-32 ns (R3). -/
  mono : Nat := 0
  /-- power, latch, boot (R455). -/
  sys : Sys := {}
  /-- NVS (R454). -/
  nvs : Nvs := {}
  /-- timebase servo, capture, triggers (R342). -/
  time : TimeSt := {}
  /-- weave engine (R55). -/
  weave : WeaveSt := {}
  /-- lanes (R79). -/
  lanes : Tab LaneSt := []
  /-- fibre gates (R103). -/
  fibres : Tab FibreSt := []
  /-- laser banks (R96). -/
  banks : Tab BankSt := []
  /-- ports (R82). -/
  ports : Tab PortSt := []
  /-- switch core (R139). -/
  core : CoreSt := {}
  /-- forwarding tables (R171). -/
  tbl : TblSt := {}
  /-- traffic management (R199). -/
  tm : TmSt := {}
  /-- bypass (R218). -/
  byp : BypSt := {}
  /-- reduction (R238). -/
  pic : PicSt := {}
  /-- bobbin fabric (R269). -/
  bob : BobSt := {}
  /-- memory (R331). -/
  mem : MemSt := {}
  /-- faults and fences (R368). -/
  flt : FltSt := {}
  /-- contexts and security (R394). -/
  sec : SecSt := {}
  /-- host attachment (R419). -/
  host : HostSt := {}
  /-- event recorder (R437). -/
  evr : EvrSt := {}
  /-- telemetry (R449). -/
  tel : TelSt := {}
  /-- self-tests (R469). -/
  test : TestSt := {}
deriving DecidableEq, Repr

/-- The module right after reset: not powered, every register at its reset value (R494), the tables, keys, fences
and contexts empty (R454), and NVS as the module leaves manufacture (log entry 2). -/
def State.reset : State :=
  { nvs := { fwVerified := [(0, true)], fwVer := [(0, 0x01000000)],
             perm := [{ seq := 0x100000000, block := 0x10, sev := 0, code := 2, flags := 1, die := 8, unit := 0,
                        count := 1, data := [] }], powerCount := 1 } }

end Sys2Proof.Machine
end

