-- ==== Sys2Proof/Machine/RegMap.lean ====
section
/-! DEFINITION. The register map (R484, R492, Table 21.1): the BAR0 offset of every register of the field tables of
spec/, and the place of every one of its fields. A register is named as the spec names it, without its index letter;
an indexed register is a function of its index, a port-page register of its port, a context-page register of its
context. -/

namespace Sys2Proof.Machine

/-- A field of a register: the register's BAR0 offset, the field's lowest bit and its width (Table 0.4's columns). -/
structure Fld where
  off : Nat
  lo : Nat
  wid : Nat
deriving DecidableEq, Repr

/-- Port page of port L (R86). -/
def portPage (L : Nat) : Nat := 0x1000000 + 0x1000 * L

/-- Context page of context x (Table 21.1). -/
def ctxPage (x : Nat) : Nat := 0x3000000 + 0x1000 * x


/-! Registers of chapter 1 (module). -/

/-- R21. -/
def CTL_STRAP : Nat := 0x40
def CTL_STRAP.VALID : Fld := ⟨CTL_STRAP, 23, 1⟩
def CTL_STRAP.CHANGED : Fld := ⟨CTL_STRAP, 22, 1⟩
def CTL_STRAP.RECOV : Fld := ⟨CTL_STRAP, 18, 1⟩
def CTL_STRAP.REF : Fld := ⟨CTL_STRAP, 16, 2⟩
def CTL_STRAP.SLOT : Fld := ⟨CTL_STRAP, 0, 8⟩

/-! Registers of chapter 2 (clockless timing). -/

/-- R32. -/
def PMC_PACE (n : Nat) : Nat := 0x3408000 + 8 * n
def PMC_PACE.BELOW (n : Nat) : Fld := ⟨PMC_PACE n, 47, 1⟩
def PMC_PACE.TJ (n : Nat) : Fld := ⟨PMC_PACE n, 32, 12⟩
def PMC_PACE.MIN (n : Nat) : Fld := ⟨PMC_PACE n, 16, 16⟩
def PMC_PACE.RATE (n : Nat) : Fld := ⟨PMC_PACE n, 0, 16⟩
/-- R33. -/
def PMC_PACE_CLR : Nat := 0x3407FF8
def PMC_PACE_CLR.CLR_MIN : Fld := ⟨PMC_PACE_CLR, 0, 1⟩

/-! Registers of chapter 3 (pricking). -/

/-- R58. -/
def PRK_CMD : Nat := 0x400000
def PRK_CMD.TIMED : Fld := ⟨PRK_CMD, 20, 1⟩
def PRK_CMD.PREEMPT : Fld := ⟨PRK_CMD, 16, 1⟩
def PRK_CMD.SLOT : Fld := ⟨PRK_CMD, 8, 5⟩
def PRK_CMD.DIE : Fld := ⟨PRK_CMD, 4, 4⟩
def PRK_CMD.OP : Fld := ⟨PRK_CMD, 0, 4⟩
/-- R58. -/
def PRK_AT : Nat := 0x400008
def PRK_AT.SEC : Fld := ⟨PRK_AT, 32, 32⟩
def PRK_AT.NS : Fld := ⟨PRK_AT, 0, 32⟩
/-- R58. -/
def PRK_STATUS : Nat := 0x400010
def PRK_STATUS.PENDING : Fld := ⟨PRK_STATUS, 40, 8⟩
def PRK_STATUS.VERIFIED : Fld := ⟨PRK_STATUS, 20, 18⟩
def PRK_STATUS.ENGINE : Fld := ⟨PRK_STATUS, 8, 4⟩
def PRK_STATUS.STATE : Fld := ⟨PRK_STATUS, 0, 3⟩
/-- R58. -/
def PRK_RESULT : Nat := 0x400018
def PRK_RESULT.CODE : Fld := ⟨PRK_RESULT, 56, 8⟩
def PRK_RESULT.SLOT : Fld := ⟨PRK_RESULT, 48, 5⟩
def PRK_RESULT.SECTION : Fld := ⟨PRK_RESULT, 32, 16⟩
def PRK_RESULT.ESTIMATE : Fld := ⟨PRK_RESULT, 0, 24⟩
/-- R58. -/
def PRK_GEN : Nat := 0x400020
def PRK_GEN.MOD_GEN : Fld := ⟨PRK_GEN, 0, 64⟩
/-- R58. -/
def PRK_ACTIVE : Nat := 0x400028
def PRK_ACTIVE.IMAGE_ID : Fld := ⟨PRK_ACTIVE, 0, 64⟩
/-- R58. -/
def PRK_RGEN (r : Nat) : Nat := 0x401000 + 8 * r
def PRK_RGEN.ROLE_TAG (r : Nat) : Fld := ⟨PRK_RGEN r, 32, 16⟩
def PRK_RGEN.OWNED (r : Nat) : Fld := ⟨PRK_RGEN r, 26, 1⟩
def PRK_RGEN.CONTEXT (r : Nat) : Fld := ⟨PRK_RGEN r, 16, 10⟩
def PRK_RGEN.GEN (r : Nat) : Fld := ⟨PRK_RGEN r, 0, 8⟩

/-! Registers of chapter 4 (optical). -/

/-- R81. -/
def OPT_LANE (L : Nat) : Nat := 0x1401000 + 8 * L
def OPT_LANE.RXPWR (L : Nat) : Fld := ⟨OPT_LANE L, 32, 16⟩
def OPT_LANE.SOURCE (L : Nat) : Fld := ⟨OPT_LANE L, 8, 4⟩
def OPT_LANE.NOLASER (L : Nat) : Fld := ⟨OPT_LANE L, 4, 1⟩
def OPT_LANE.SD (L : Nat) : Fld := ⟨OPT_LANE L, 3, 1⟩
def OPT_LANE.ALIGN (L : Nat) : Fld := ⟨OPT_LANE L, 2, 1⟩
def OPT_LANE.LOL (L : Nat) : Fld := ⟨OPT_LANE L, 1, 1⟩
def OPT_LANE.LOS (L : Nat) : Fld := ⟨OPT_LANE L, 0, 1⟩
/-- R81. -/
def OPT_FEC_CORR (L : Nat) : Nat := 0x1403000 + 8 * L
def OPT_FEC_CORR.COUNT (L : Nat) : Fld := ⟨OPT_FEC_CORR L, 0, 64⟩
/-- R81. -/
def OPT_FEC_UNC (L : Nat) : Nat := 0x1405000 + 8 * L
def OPT_FEC_UNC.COUNT (L : Nat) : Fld := ⟨OPT_FEC_UNC L, 0, 64⟩
/-- R86. -/
def PRT_STATE (L : Nat) : Nat := portPage L + 0x0
def PRT_STATE.QREASON (L : Nat) : Fld := ⟨PRT_STATE L, 8, 8⟩
def PRT_STATE.FENCE (L : Nat) : Fld := ⟨PRT_STATE L, 3, 1⟩
def PRT_STATE.STATE (L : Nat) : Fld := ⟨PRT_STATE L, 0, 3⟩
/-- R86. -/
def PRT_CMD (L : Nat) : Nat := portPage L + 0x8
def PRT_CMD.REIDENT (L : Nat) : Fld := ⟨PRT_CMD L, 1, 1⟩
def PRT_CMD.RETRAIN (L : Nat) : Fld := ⟨PRT_CMD L, 0, 1⟩
/-- R89. -/
def PRT_NBR_EXP (L : Nat) : Nat := portPage L + 0x10
def PRT_NBR_EXP.FW_MIN (L : Nat) : Fld := ⟨PRT_NBR_EXP L, 32, 32⟩
def PRT_NBR_EXP.PEER_PORT (L : Nat) : Fld := ⟨PRT_NBR_EXP L, 16, 16⟩
def PRT_NBR_EXP.KIND (L : Nat) : Fld := ⟨PRT_NBR_EXP L, 4, 4⟩
def PRT_NBR_EXP.CHECK (L : Nat) : Fld := ⟨PRT_NBR_EXP L, 0, 2⟩
/-- R89. -/
def PRT_NBR_EXP_SER_LO (L : Nat) : Nat := portPage L + 0x18
def PRT_NBR_EXP_SER_LO.SER (L : Nat) : Fld := ⟨PRT_NBR_EXP_SER_LO L, 0, 64⟩
/-- R89. -/
def PRT_NBR_EXP_SER_HI (L : Nat) : Nat := portPage L + 0x20
def PRT_NBR_EXP_SER_HI.SER (L : Nat) : Fld := ⟨PRT_NBR_EXP_SER_HI L, 0, 64⟩
/-- R89. -/
def PRT_NBR_SEEN (L : Nat) : Nat := portPage L + 0x28
def PRT_NBR_SEEN.FW_VERSION (L : Nat) : Fld := ⟨PRT_NBR_SEEN L, 32, 32⟩
def PRT_NBR_SEEN.PEER_PORT (L : Nat) : Fld := ⟨PRT_NBR_SEEN L, 16, 16⟩
def PRT_NBR_SEEN.VERSIONS (L : Nat) : Fld := ⟨PRT_NBR_SEEN L, 8, 3⟩
def PRT_NBR_SEEN.KIND (L : Nat) : Fld := ⟨PRT_NBR_SEEN L, 4, 4⟩
def PRT_NBR_SEEN.VALID (L : Nat) : Fld := ⟨PRT_NBR_SEEN L, 0, 1⟩
/-- R89. -/
def PRT_NBR_SEEN_SER_LO (L : Nat) : Nat := portPage L + 0x30
def PRT_NBR_SEEN_SER_LO.SER (L : Nat) : Fld := ⟨PRT_NBR_SEEN_SER_LO L, 0, 64⟩
/-- R89. -/
def PRT_NBR_SEEN_SER_HI (L : Nat) : Nat := portPage L + 0x38
def PRT_NBR_SEEN_SER_HI.SER (L : Nat) : Fld := ⟨PRT_NBR_SEEN_SER_HI L, 0, 64⟩
/-- R100. -/
def LAS_STAT (i : Nat) : Nat := 0x1408000 + 8 * i
def LAS_STAT.REL_PWR (i : Nat) : Fld := ⟨LAS_STAT i, 32, 16⟩
def LAS_STAT.STATE (i : Nat) : Fld := ⟨LAS_STAT i, 16, 4⟩
def LAS_STAT.W (i : Nat) : Fld := ⟨LAS_STAT i, 8, 4⟩
/-- R106. -/
def OPT_FIBRE (F : Nat) : Nat := 0x1400000 + 8 * F
def OPT_FIBRE.FORCE_CLOSE (F : Nat) : Fld := ⟨OPT_FIBRE F, 2, 1⟩
def OPT_FIBRE.LIGHT (F : Nat) : Fld := ⟨OPT_FIBRE F, 1, 1⟩
def OPT_FIBRE.OPEN (F : Nat) : Fld := ⟨OPT_FIBRE F, 0, 1⟩

/-! Registers of chapter 5 (link). -/

/-- R136. -/
def PRT_JLP (L : Nat) : Nat := portPage L + 0x40
def PRT_JLP.PEER_S_RPL (L : Nat) : Fld := ⟨PRT_JLP L, 32, 24⟩
def PRT_JLP.PEER_S_REQ (L : Nat) : Fld := ⟨PRT_JLP L, 8, 24⟩
def PRT_JLP.INIT_RX (L : Nat) : Fld := ⟨PRT_JLP L, 2, 1⟩
def PRT_JLP.VER (L : Nat) : Fld := ⟨PRT_JLP L, 0, 2⟩
/-- R136. -/
def PRT_ETH (L : Nat) : Nat := portPage L + 0x48
def PRT_ETH.DEF_PRIO (L : Nat) : Fld := ⟨PRT_ETH L, 0, 3⟩
/-- R136. -/
def PRT_CRD (L c : Nat) : Nat := portPage L + 0x80 + 8 * c
def PRT_CRD.PEER_D (L c : Nat) : Fld := ⟨PRT_CRD L c, 24, 16⟩
def PRT_CRD.OUT (L c : Nat) : Fld := ⟨PRT_CRD L c, 0, 24⟩
/-- R136. -/
def PRT_RX_CRC (L : Nat) : Nat := portPage L + 0x100
def PRT_RX_CRC.COUNT (L : Nat) : Fld := ⟨PRT_RX_CRC L, 0, 64⟩
/-- R136. -/
def PRT_RX_HDR (L : Nat) : Nat := portPage L + 0x108
def PRT_RX_HDR.COUNT (L : Nat) : Fld := ⟨PRT_RX_HDR L, 0, 64⟩
/-- R136. -/
def PRT_RX_FIELD (L : Nat) : Nat := portPage L + 0x110
def PRT_RX_FIELD.COUNT (L : Nat) : Fld := ⟨PRT_RX_FIELD L, 0, 64⟩
/-- R136. -/
def PRT_RX_CREDIT (L : Nat) : Nat := portPage L + 0x118
def PRT_RX_CREDIT.COUNT (L : Nat) : Fld := ⟨PRT_RX_CREDIT L, 0, 64⟩
/-- R136. -/
def PRT_RX_CTRL (L : Nat) : Nat := portPage L + 0x120
def PRT_RX_CTRL.COUNT (L : Nat) : Fld := ⟨PRT_RX_CTRL L, 0, 64⟩
/-- R136. -/
def PRT_RX_SCRUB (L : Nat) : Nat := portPage L + 0x128
def PRT_RX_SCRUB.COUNT (L : Nat) : Fld := ⟨PRT_RX_SCRUB L, 0, 64⟩
/-- R136. -/
def PRT_ETH_SIZE (L : Nat) : Nat := portPage L + 0x130
def PRT_ETH_SIZE.COUNT (L : Nat) : Fld := ⟨PRT_ETH_SIZE L, 0, 64⟩
/-- R136. -/
def PRT_ETH_PRIO (L : Nat) : Nat := portPage L + 0x138
def PRT_ETH_PRIO.COUNT (L : Nat) : Fld := ⟨PRT_ETH_PRIO L, 0, 64⟩
/-- R136. -/
def PRT_PFC_TX (L : Nat) : Nat := portPage L + 0x140
def PRT_PFC_TX.COUNT (L : Nat) : Fld := ⟨PRT_PFC_TX L, 0, 64⟩
/-- R136. -/
def PRT_PFC_RX (L : Nat) : Nat := portPage L + 0x148
def PRT_PFC_RX.COUNT (L : Nat) : Fld := ⟨PRT_PFC_RX L, 0, 64⟩
/-- R136. -/
def PRT_RX_IDENT (L : Nat) : Nat := portPage L + 0x150
def PRT_RX_IDENT.COUNT (L : Nat) : Fld := ⟨PRT_RX_IDENT L, 0, 64⟩

/-! Registers of chapter 6 (switch core). -/

/-- R165. -/
def SWC_ADM (c : Nat) : Nat := 0x1800000 + 8 * c
def SWC_ADM.ALPHA (c : Nat) : Fld := ⟨SWC_ADM c, 0, 4⟩
/-- R165. -/
def SWC_ECN (c : Nat) : Nat := 0x1800080 + 8 * c
def SWC_ECN.EN (c : Nat) : Fld := ⟨SWC_ECN c, 49, 1⟩
def SWC_ECN.NONECT_DROP (c : Nat) : Fld := ⟨SWC_ECN c, 48, 1⟩
def SWC_ECN.PMAX (c : Nat) : Fld := ⟨SWC_ECN c, 40, 8⟩
def SWC_ECN.KMAX (c : Nat) : Fld := ⟨SWC_ECN c, 20, 20⟩
def SWC_ECN.KMIN (c : Nat) : Fld := ⟨SWC_ECN c, 0, 20⟩
/-- R165. -/
def SWC_DIE (d : Nat) : Nat := 0x1800200 + 8 * d
def SWC_DIE.LOSSY (d : Nat) : Fld := ⟨SWC_DIE d, 24, 24⟩
def SWC_DIE.FREE (d : Nat) : Fld := ⟨SWC_DIE d, 0, 24⟩
/-- R165. -/
def SWC_FENCE (w : Nat) : Nat := 0x1800300 + 8 * w
def SWC_FENCE.MASK (w : Nat) : Fld := ⟨SWC_FENCE w, 0, 64⟩
/-- R165. -/
def SWC_PUSHOUT (d : Nat) : Nat := 0x1800400 + 8 * d
def SWC_PUSHOUT.COUNT (d : Nat) : Fld := ⟨SWC_PUSHOUT d, 0, 64⟩
/-- R165. -/
def SWC_TRUNC (d : Nat) : Nat := 0x1800420 + 8 * d
def SWC_TRUNC.COUNT (d : Nat) : Fld := ⟨SWC_TRUNC d, 0, 64⟩
/-- R165. -/
def SWC_RESEQ_LOST (d : Nat) : Nat := 0x1800440 + 8 * d
def SWC_RESEQ_LOST.COUNT (d : Nat) : Fld := ⟨SWC_RESEQ_LOST d, 0, 64⟩
/-- R165. -/
def SWC_MC_SUPP : Nat := 0x1800460
def SWC_MC_SUPP.COUNT : Fld := ⟨SWC_MC_SUPP, 0, 64⟩
/-- R165. -/
def SWC_VOQ (i : Nat) : Nat := 0x1810000 + 8 * i
def SWC_VOQ.DEPTH (i : Nat) : Fld := ⟨SWC_VOQ i, 0, 24⟩
/-- R165. -/
def SWC_IVOQ (i : Nat) : Nat := 0x1910000 + 8 * i
def SWC_IVOQ.DEPTH (i : Nat) : Fld := ⟨SWC_IVOQ i, 0, 24⟩
/-- R165. -/
def PRT_DROP_ADM (L : Nat) : Nat := portPage L + 0x180
def PRT_DROP_ADM.COUNT (L : Nat) : Fld := ⟨PRT_DROP_ADM L, 0, 64⟩
/-- R165. -/
def PRT_DROP_PUSH (L : Nat) : Nat := portPage L + 0x188
def PRT_DROP_PUSH.COUNT (L : Nat) : Fld := ⟨PRT_DROP_PUSH L, 0, 64⟩
/-- R165. -/
def PRT_ECN_MARK (L : Nat) : Nat := portPage L + 0x190
def PRT_ECN_MARK.COUNT (L : Nat) : Fld := ⟨PRT_ECN_MARK L, 0, 64⟩
/-- R165. -/
def PRT_ECN_DROP (L : Nat) : Nat := portPage L + 0x198
def PRT_ECN_DROP.COUNT (L : Nat) : Fld := ⟨PRT_ECN_DROP L, 0, 64⟩
/-- R165. -/
def PRT_EGR_DROP (L : Nat) : Nat := portPage L + 0x1A0
def PRT_EGR_DROP.COUNT (L : Nat) : Fld := ⟨PRT_EGR_DROP L, 0, 64⟩
/-- R165. -/
def PRT_MC_SUPP (L : Nat) : Nat := portPage L + 0x1A8
def PRT_MC_SUPP.COUNT (L : Nat) : Fld := ⟨PRT_MC_SUPP L, 0, 64⟩

/-! Registers of chapter 7 (tables). -/

/-- R193. -/
def TBL_SELF : Nat := 0x800000
def TBL_SELF.VALID : Fld := ⟨TBL_SELF, 20, 1⟩
def TBL_SELF.CHIP : Fld := ⟨TBL_SELF, 0, 20⟩
/-- R193. -/
def TBL_RMAC : Nat := 0x800008
def TBL_RMAC.MAC : Fld := ⟨TBL_RMAC, 0, 48⟩
/-- R193. -/
def TBL_HASH : Nat := 0x800010
def TBL_HASH.FLOWLABEL : Fld := ⟨TBL_HASH, 32, 1⟩
def TBL_HASH.SEED : Fld := ⟨TBL_HASH, 0, 32⟩
/-- R193. -/
def TBL_L2 : Nat := 0x800018
def TBL_L2.TICK : Fld := ⟨TBL_L2, 48, 16⟩
def TBL_L2.AGE_LIMIT : Fld := ⟨TBL_L2, 32, 16⟩
def TBL_L2.AGE_UNIT : Fld := ⟨TBL_L2, 0, 16⟩
/-- R193. -/
def TBL_EPOCH : Nat := 0x800020
def TBL_EPOCH.CUR : Fld := ⟨TBL_EPOCH, 0, 64⟩
/-- R193. -/
def TBL_MARK : Nat := 0x800028
def TBL_MARK.TAG : Fld := ⟨TBL_MARK, 0, 32⟩
/-- R193. -/
def TBL_USED (t : Nat) : Nat := 0x800040 + 8 * t
def TBL_USED.COUNT (t : Nat) : Fld := ⟨TBL_USED t, 0, 24⟩
/-- R193. -/
def TBL_L2_LEARN_DROP : Nat := 0x800080
def TBL_L2_LEARN_DROP.COUNT : Fld := ⟨TBL_L2_LEARN_DROP, 0, 64⟩
/-- R193. -/
def TBL_L2_MOVE : Nat := 0x800088
def TBL_L2_MOVE.COUNT : Fld := ⟨TBL_L2_MOVE, 0, 64⟩
/-- R193. -/
def TBL_NACK_RX : Nat := 0x800090
def TBL_NACK_RX.COUNT : Fld := ⟨TBL_NACK_RX, 0, 64⟩
/-- R193. -/
def TBL_ORIG_DROP : Nat := 0x800098
def TBL_ORIG_DROP.COUNT : Fld := ⟨TBL_ORIG_DROP, 0, 64⟩
/-- R193. -/
def TBL_CMD_W (n : Nat) : Nat := 0x800100 + 8 * n
def TBL_CMD_W.DATA (n : Nat) : Fld := ⟨TBL_CMD_W n, 0, 64⟩
/-- R193. -/
def TBL_CMD_GO : Nat := 0x8001C0
def TBL_CMD_GO.GO : Fld := ⟨TBL_CMD_GO, 0, 1⟩
/-- R193. -/
def TBL_CMD_STAT : Nat := 0x8001C8
def TBL_CMD_STAT.BUSY : Fld := ⟨TBL_CMD_STAT, 0, 1⟩
/-- R193. -/
def TBL_RES_W (n : Nat) : Nat := 0x800200 + 8 * n
def TBL_RES_W.DATA (n : Nat) : Fld := ⟨TBL_RES_W n, 0, 64⟩
/-- R193. -/
def TBL_RAW_CMD : Nat := 0x800300
def TBL_RAW_CMD.BUSY : Fld := ⟨TBL_RAW_CMD, 63, 1⟩
def TBL_RAW_CMD.MISMATCH : Fld := ⟨TBL_RAW_CMD, 59, 1⟩
def TBL_RAW_CMD.DIE : Fld := ⟨TBL_RAW_CMD, 52, 4⟩
def TBL_RAW_CMD.TABLE : Fld := ⟨TBL_RAW_CMD, 40, 8⟩
def TBL_RAW_CMD.INDEX : Fld := ⟨TBL_RAW_CMD, 8, 24⟩
def TBL_RAW_CMD.OP : Fld := ⟨TBL_RAW_CMD, 0, 2⟩
/-- R193. -/
def TBL_RAW_W (n : Nat) : Nat := 0x800400 + 8 * n
def TBL_RAW_W.DATA (n : Nat) : Fld := ⟨TBL_RAW_W n, 0, 64⟩
/-- R193. -/
def PRT_L3 (L : Nat) : Nat := portPage L + 0x200
def PRT_L3.LAG (L : Nat) : Fld := ⟨PRT_L3 L, 48, 12⟩
def PRT_L3.MTU (L : Nat) : Fld := ⟨PRT_L3 L, 32, 14⟩
def PRT_L3.DEF_VLAN (L : Nat) : Fld := ⟨PRT_L3 L, 16, 12⟩
def PRT_L3.LAG_EN (L : Nat) : Fld := ⟨PRT_L3 L, 13, 1⟩
def PRT_L3.LEARN (L : Nat) : Fld := ⟨PRT_L3 L, 12, 1⟩
def PRT_L3.ROUTE (L : Nat) : Fld := ⟨PRT_L3 L, 11, 1⟩
def PRT_L3.VRF (L : Nat) : Fld := ⟨PRT_L3 L, 0, 10⟩
/-- R193. -/
def PRT_LKUP_MISS (L : Nat) : Nat := portPage L + 0x208
def PRT_LKUP_MISS.COUNT (L : Nat) : Fld := ⟨PRT_LKUP_MISS L, 0, 64⟩
/-- R193. -/
def PRT_LKUP_DROP (L : Nat) : Nat := portPage L + 0x210
def PRT_LKUP_DROP.COUNT (L : Nat) : Fld := ⟨PRT_LKUP_DROP L, 0, 64⟩
/-- R193. -/
def PRT_LKUP_NOUP (L : Nat) : Nat := portPage L + 0x218
def PRT_LKUP_NOUP.COUNT (L : Nat) : Fld := ⟨PRT_LKUP_NOUP L, 0, 64⟩
/-- R193. -/
def PRT_IP_DROP (L : Nat) : Nat := portPage L + 0x220
def PRT_IP_DROP.COUNT (L : Nat) : Fld := ⟨PRT_IP_DROP L, 0, 64⟩
/-- R193. -/
def PRT_LKUP_SELF (L : Nat) : Nat := portPage L + 0x228
def PRT_LKUP_SELF.COUNT (L : Nat) : Fld := ⟨PRT_LKUP_SELF L, 0, 64⟩

/-! Registers of chapter 8 (traffic). -/

/-- R214. -/
def TM_SHP : Nat := 0x1C00000
def TM_SHP.RESET_MODE : Fld := ⟨TM_SHP, 0, 1⟩
/-- R214. -/
def TM_NODE_SEL : Nat := 0x1C00008
def TM_NODE_SEL.LEVEL : Fld := ⟨TM_NODE_SEL, 30, 2⟩
def TM_NODE_SEL.PORT : Fld := ⟨TM_NODE_SEL, 20, 10⟩
def TM_NODE_SEL.CHAN : Fld := ⟨TM_NODE_SEL, 16, 4⟩
def TM_NODE_SEL.SUB : Fld := ⟨TM_NODE_SEL, 0, 6⟩
/-- R214. -/
def TM_NODE_DATA : Nat := 0x1C00010
def TM_NODE_DATA.RATE : Fld := ⟨TM_NODE_DATA, 40, 24⟩
def TM_NODE_DATA.BURST : Fld := ⟨TM_NODE_DATA, 16, 24⟩
def TM_NODE_DATA.STRICT : Fld := ⟨TM_NODE_DATA, 8, 1⟩
def TM_NODE_DATA.WEIGHT : Fld := ⟨TM_NODE_DATA, 0, 8⟩
/-- R214. -/
def TM_NODE_CMD : Nat := 0x1C00018
def TM_NODE_CMD.READ : Fld := ⟨TM_NODE_CMD, 1, 1⟩
def TM_NODE_CMD.WRITE : Fld := ⟨TM_NODE_CMD, 0, 1⟩
/-- R214. -/
def TM_NODE_TOK : Nat := 0x1C00020
def TM_NODE_TOK.TOKENS : Fld := ⟨TM_NODE_TOK, 0, 64⟩
/-- R214. -/
def TM_WSET_W0 : Nat := 0x1C00040
def TM_WSET_W0.WEIGHT : Fld := ⟨TM_WSET_W0, 0, 64⟩
/-- R214. -/
def TM_WSET_W1 : Nat := 0x1C00048
def TM_WSET_W1.WEIGHT : Fld := ⟨TM_WSET_W1, 0, 64⟩
/-- R214. -/
def TM_WSET_STRICT : Nat := 0x1C00050
def TM_WSET_STRICT.MASK : Fld := ⟨TM_WSET_STRICT, 0, 16⟩
/-- R214. -/
def TM_WSET_CMD : Nat := 0x1C00058
def TM_WSET_CMD.GO : Fld := ⟨TM_WSET_CMD, 63, 1⟩
def TM_WSET_CMD.LAST : Fld := ⟨TM_WSET_CMD, 16, 10⟩
def TM_WSET_CMD.FIRST : Fld := ⟨TM_WSET_CMD, 0, 10⟩
/-- R214. -/
def TM_WSET_STAT : Nat := 0x1C00060
def TM_WSET_STAT.BUSY : Fld := ⟨TM_WSET_STAT, 0, 1⟩
/-- R214. -/
def TM_MTR_SEL : Nat := 0x1C00100
def TM_MTR_SEL.INDEX : Fld := ⟨TM_MTR_SEL, 0, 14⟩
/-- R214. -/
def TM_MTR_CFG0 : Nat := 0x1C00108
def TM_MTR_CFG0.PIR : Fld := ⟨TM_MTR_CFG0, 24, 24⟩
def TM_MTR_CFG0.CIR : Fld := ⟨TM_MTR_CFG0, 0, 24⟩
/-- R214. -/
def TM_MTR_CFG1 : Nat := 0x1C00110
def TM_MTR_CFG1.PBS : Fld := ⟨TM_MTR_CFG1, 40, 24⟩
def TM_MTR_CFG1.CBS : Fld := ⟨TM_MTR_CFG1, 16, 24⟩
def TM_MTR_CFG1.RED_ACT : Fld := ⟨TM_MTR_CFG1, 14, 2⟩
def TM_MTR_CFG1.YEL_ACT : Fld := ⟨TM_MTR_CFG1, 12, 2⟩
def TM_MTR_CFG1.AWARE : Fld := ⟨TM_MTR_CFG1, 11, 1⟩
def TM_MTR_CFG1.OWNED : Fld := ⟨TM_MTR_CFG1, 10, 1⟩
def TM_MTR_CFG1.OWNER : Fld := ⟨TM_MTR_CFG1, 0, 10⟩
/-- R214. -/
def TM_MTR_CMD : Nat := 0x1C00118
def TM_MTR_CMD.READ : Fld := ⟨TM_MTR_CMD, 1, 1⟩
def TM_MTR_CMD.WRITE : Fld := ⟨TM_MTR_CMD, 0, 1⟩
/-- R214. -/
def TM_MTR_CNT_G : Nat := 0x1C00120
def TM_MTR_CNT_G.COUNT : Fld := ⟨TM_MTR_CNT_G, 0, 64⟩
/-- R214. -/
def TM_MTR_CNT_Y : Nat := 0x1C00128
def TM_MTR_CNT_Y.COUNT : Fld := ⟨TM_MTR_CNT_Y, 0, 64⟩
/-- R214. -/
def TM_MTR_CNT_R : Nat := 0x1C00130
def TM_MTR_CNT_R.COUNT : Fld := ⟨TM_MTR_CNT_R, 0, 64⟩
/-- R214. -/
def TM_GCL (p b e : Nat) : Nat := 0x1D00000 + 1024 * p + 512 * b + 8 * e
def TM_GCL.OPEN (p b e : Nat) : Fld := ⟨TM_GCL p b e, 32, 16⟩
def TM_GCL.DURATION (p b e : Nat) : Fld := ⟨TM_GCL p b e, 0, 32⟩
/-- R214. -/
def PRT_TMCLS (L c : Nat) : Nat := portPage L + 0x300 + 8 * c
def PRT_TMCLS.MTR_EN (L c : Nat) : Fld := ⟨PRT_TMCLS L c, 30, 1⟩
def PRT_TMCLS.METER (L c : Nat) : Fld := ⟨PRT_TMCLS L c, 16, 14⟩
def PRT_TMCLS.SUB (L c : Nat) : Fld := ⟨PRT_TMCLS L c, 0, 6⟩
/-- R214. -/
def PRT_GATE_STAT (L : Nat) : Nat := portPage L + 0x380
def PRT_GATE_STAT.PENDING (L : Nat) : Fld := ⟨PRT_GATE_STAT L, 48, 1⟩
def PRT_GATE_STAT.BANK (L : Nat) : Fld := ⟨PRT_GATE_STAT L, 40, 1⟩
def PRT_GATE_STAT.LEN (L : Nat) : Fld := ⟨PRT_GATE_STAT L, 32, 7⟩
def PRT_GATE_STAT.ENTRY (L : Nat) : Fld := ⟨PRT_GATE_STAT L, 0, 6⟩
/-- R214. -/
def PRT_GATE_BASE (L : Nat) : Nat := portPage L + 0x388
def PRT_GATE_BASE.SEC (L : Nat) : Fld := ⟨PRT_GATE_BASE L, 32, 32⟩
def PRT_GATE_BASE.NS (L : Nat) : Fld := ⟨PRT_GATE_BASE L, 0, 32⟩
/-- R214. -/
def PRT_GATE_CMD (L : Nat) : Nat := portPage L + 0x390
def PRT_GATE_CMD.CANCEL (L : Nat) : Fld := ⟨PRT_GATE_CMD L, 9, 1⟩
def PRT_GATE_CMD.COMMIT (L : Nat) : Fld := ⟨PRT_GATE_CMD L, 8, 1⟩
def PRT_GATE_CMD.LEN (L : Nat) : Fld := ⟨PRT_GATE_CMD L, 0, 7⟩
/-- R214. -/
def PRT_GATE_DROP (L : Nat) : Nat := portPage L + 0x398
def PRT_GATE_DROP.COUNT (L : Nat) : Fld := ⟨PRT_GATE_DROP L, 0, 64⟩
/-- R214. -/
def PRT_MTR_DROP (L : Nat) : Nat := portPage L + 0x3A0
def PRT_MTR_DROP.COUNT (L : Nat) : Fld := ⟨PRT_MTR_DROP L, 0, 64⟩

/-! Registers of chapter 9 (bypass). -/

/-- R237. -/
def BYP_CTRL : Nat := 0x2000000
def BYP_CTRL.LEAD_NS : Fld := ⟨BYP_CTRL, 0, 16⟩
/-- R237. -/
def BYP_SLOT : Nat := 0x2000008
def BYP_SLOT.SLOT : Fld := ⟨BYP_SLOT, 0, 64⟩
/-- R237. -/
def BYP_ORIGIN : Nat := 0x2000010
def BYP_ORIGIN.SEC : Fld := ⟨BYP_ORIGIN, 32, 32⟩
def BYP_ORIGIN.NS : Fld := ⟨BYP_ORIGIN, 0, 32⟩
/-- R237. -/
def BYP_MAP_SEL : Nat := 0x2000018
def BYP_MAP_SEL.LANE : Fld := ⟨BYP_MAP_SEL, 0, 10⟩
/-- R237. -/
def BYP_MAP_DATA : Nat := 0x2000020
def BYP_MAP_DATA.OWNER : Fld := ⟨BYP_MAP_DATA, 32, 10⟩
def BYP_MAP_DATA.PARTNER : Fld := ⟨BYP_MAP_DATA, 16, 10⟩
def BYP_MAP_DATA.MODE : Fld := ⟨BYP_MAP_DATA, 0, 2⟩
/-- R237. -/
def BYP_MAP_CMD : Nat := 0x2000028
def BYP_MAP_CMD.CANCEL : Fld := ⟨BYP_MAP_CMD, 5, 1⟩
def BYP_MAP_CMD.COMMIT : Fld := ⟨BYP_MAP_CMD, 4, 1⟩
def BYP_MAP_CMD.COPY : Fld := ⟨BYP_MAP_CMD, 3, 1⟩
def BYP_MAP_CMD.READ_OPER : Fld := ⟨BYP_MAP_CMD, 2, 1⟩
def BYP_MAP_CMD.READ_SHADOW : Fld := ⟨BYP_MAP_CMD, 1, 1⟩
def BYP_MAP_CMD.WRITE : Fld := ⟨BYP_MAP_CMD, 0, 1⟩
/-- R237. -/
def BYP_COMMIT_AT : Nat := 0x2000030
def BYP_COMMIT_AT.SLOT : Fld := ⟨BYP_COMMIT_AT, 0, 64⟩
/-- R237. -/
def BYP_STAT : Nat := 0x2000038
def BYP_STAT.CODE : Fld := ⟨BYP_STAT, 56, 8⟩
def BYP_STAT.LATE : Fld := ⟨BYP_STAT, 49, 1⟩
def BYP_STAT.PENDING : Fld := ⟨BYP_STAT, 48, 1⟩
def BYP_STAT.CTX : Fld := ⟨BYP_STAT, 32, 10⟩
def BYP_STAT.LANE : Fld := ⟨BYP_STAT, 16, 10⟩
/-- R237. -/
def BYP_LANE (L : Nat) : Nat := 0x2001000 + 8 * L
def BYP_LANE.PWR (L : Nat) : Fld := ⟨BYP_LANE L, 48, 16⟩
def BYP_LANE.OWNER (L : Nat) : Fld := ⟨BYP_LANE L, 32, 10⟩
def BYP_LANE.DARK (L : Nat) : Fld := ⟨BYP_LANE L, 28, 1⟩
def BYP_LANE.MODE (L : Nat) : Fld := ⟨BYP_LANE L, 26, 2⟩
def BYP_LANE.PARTNER (L : Nat) : Fld := ⟨BYP_LANE L, 16, 10⟩
/-- R237. -/
def BYP_FIBRE (F : Nat) : Nat := 0x2003000 + 8 * F
def BYP_FIBRE.FAR (F : Nat) : Fld := ⟨BYP_FIBRE F, 33, 1⟩
def BYP_FIBRE.RANGED (F : Nat) : Fld := ⟨BYP_FIBRE F, 32, 1⟩
def BYP_FIBRE.RTT (F : Nat) : Fld := ⟨BYP_FIBRE F, 0, 32⟩
/-- R237. -/
def BYP_GRANT (w : Nat) : Nat := 0x2004000 + 8 * w
def BYP_GRANT.COUNT (w : Nat) : Fld := ⟨BYP_GRANT w, 0, 64⟩
/-- R237. -/
def BYP_REQ_IGN : Nat := 0x2004040
def BYP_REQ_IGN.COUNT : Fld := ⟨BYP_REQ_IGN, 0, 64⟩

/-! Registers of chapter 10 (reduction). -/

/-- R238. -/
def PIC_GRP_W0 : Nat := 0x2400008
def PIC_GRP_W0.KEYIDX : Fld := ⟨PIC_GRP_W0, 52, 8⟩
def PIC_GRP_W0.ENC : Fld := ⟨PIC_GRP_W0, 50, 1⟩
def PIC_GRP_W0.HANDOFF : Fld := ⟨PIC_GRP_W0, 49, 1⟩
def PIC_GRP_W0.MIRROR : Fld := ⟨PIC_GRP_W0, 48, 1⟩
def PIC_GRP_W0.LOG : Fld := ⟨PIC_GRP_W0, 47, 1⟩
def PIC_GRP_W0.SCALE_EN : Fld := ⟨PIC_GRP_W0, 46, 1⟩
def PIC_GRP_W0.SAT : Fld := ⟨PIC_GRP_W0, 45, 1⟩
def PIC_GRP_W0.ROUND : Fld := ⟨PIC_GRP_W0, 44, 1⟩
def PIC_GRP_W0.FMT_OUT : Fld := ⟨PIC_GRP_W0, 40, 4⟩
def PIC_GRP_W0.FMT_IN : Fld := ⟨PIC_GRP_W0, 36, 4⟩
def PIC_GRP_W0.MCG : Fld := ⟨PIC_GRP_W0, 20, 16⟩
def PIC_GRP_W0.CHAN : Fld := ⟨PIC_GRP_W0, 16, 3⟩
def PIC_GRP_W0.CTX : Fld := ⟨PIC_GRP_W0, 4, 10⟩
def PIC_GRP_W0.DIE : Fld := ⟨PIC_GRP_W0, 1, 2⟩
def PIC_GRP_W0.VALID : Fld := ⟨PIC_GRP_W0, 0, 1⟩
/-- R238. -/
def PIC_GRP_W1 : Nat := 0x2400010
def PIC_GRP_W1.CHUNKS : Fld := ⟨PIC_GRP_W1, 32, 21⟩
def PIC_GRP_W1.COUNT : Fld := ⟨PIC_GRP_W1, 0, 21⟩
/-- R238. -/
def PIC_GRP_W2 : Nat := 0x2400018
def PIC_GRP_W2.SCALE : Fld := ⟨PIC_GRP_W2, 32, 32⟩
def PIC_GRP_W2.TIMEOUT_MS : Fld := ⟨PIC_GRP_W2, 0, 16⟩
/-- R238. -/
def PIC_GRP_W3 : Nat := 0x2400020
def PIC_GRP_W3.SEED : Fld := ⟨PIC_GRP_W3, 0, 64⟩
/-- R238. -/
def PIC_GRP_W4 : Nat := 0x2400028
def PIC_GRP_W4.GEN : Fld := ⟨PIC_GRP_W4, 32, 8⟩
def PIC_GRP_W4.REGION : Fld := ⟨PIC_GRP_W4, 24, 6⟩
def PIC_GRP_W4.MCHAN : Fld := ⟨PIC_GRP_W4, 20, 3⟩
def PIC_GRP_W4.BUDDY : Fld := ⟨PIC_GRP_W4, 0, 20⟩
/-- R238. -/
def PIC_GRP_W5 : Nat := 0x2400030
def PIC_GRP_W5.MIRROR_BASE : Fld := ⟨PIC_GRP_W5, 0, 48⟩
/-- R268. -/
def PIC_GRP_SEL : Nat := 0x2400000
def PIC_GRP_SEL.GROUP : Fld := ⟨PIC_GRP_SEL, 0, 16⟩
/-- R268. -/
def PIC_GRP_CMD : Nat := 0x2400040
def PIC_GRP_CMD.OP : Fld := ⟨PIC_GRP_CMD, 0, 2⟩
/-- R268. -/
def PIC_GRP_STAT : Nat := 0x2400048
def PIC_GRP_STAT.BUSY : Fld := ⟨PIC_GRP_STAT, 8, 1⟩
def PIC_GRP_STAT.CODE : Fld := ⟨PIC_GRP_STAT, 0, 8⟩
/-- R268. -/
def PIC_DIE (d : Nat) : Nat := 0x2400100 + 8 * d
def PIC_DIE.MEM_USED (d : Nat) : Fld := ⟨PIC_DIE d, 32, 21⟩
def PIC_DIE.ONDIE_USED (d : Nat) : Fld := ⟨PIC_DIE d, 0, 14⟩
/-- R268. -/
def PIC_ENG (e : Nat) : Nat := 0x2400200 + 8 * e
def PIC_ENG.TESTED (e : Nat) : Fld := ⟨PIC_ENG e, 33, 1⟩
def PIC_ENG.FENCED (e : Nat) : Fld := ⟨PIC_ENG e, 32, 1⟩
def PIC_ENG.RETRIED (e : Nat) : Fld := ⟨PIC_ENG e, 0, 32⟩
/-- R268. -/
def PIC_ENG_CMD : Nat := 0x2400300
def PIC_ENG_CMD.UNFENCE : Fld := ⟨PIC_ENG_CMD, 5, 1⟩
def PIC_ENG_CMD.ENGINE : Fld := ⟨PIC_ENG_CMD, 0, 5⟩
/-- R268. -/
def PIC_DROP_NOGROUP : Nat := 0x2400400
def PIC_DROP_NOGROUP.COUNT : Fld := ⟨PIC_DROP_NOGROUP, 0, 64⟩
/-- R268. -/
def PIC_DROP_FOREIGN : Nat := 0x2400408
def PIC_DROP_FOREIGN.COUNT : Fld := ⟨PIC_DROP_FOREIGN, 0, 64⟩
/-- R268. -/
def PIC_DROP_CTX : Nat := 0x2400410
def PIC_DROP_CTX.COUNT : Fld := ⟨PIC_DROP_CTX, 0, 64⟩
/-- R268. -/
def PIC_DROP_CHAN : Nat := 0x2400418
def PIC_DROP_CHAN.COUNT : Fld := ⟨PIC_DROP_CHAN, 0, 64⟩
/-- R268. -/
def PIC_DROP_NONMEMBER : Nat := 0x2400420
def PIC_DROP_NONMEMBER.COUNT : Fld := ⟨PIC_DROP_NONMEMBER, 0, 64⟩
/-- R268. -/
def PIC_DROP_RANGE : Nat := 0x2400428
def PIC_DROP_RANGE.COUNT : Fld := ⟨PIC_DROP_RANGE, 0, 64⟩
/-- R268. -/
def PIC_DROP_LATE : Nat := 0x2400430
def PIC_DROP_LATE.COUNT : Fld := ⟨PIC_DROP_LATE, 0, 64⟩
/-- R268. -/
def PIC_SEALS : Nat := 0x2400438
def PIC_SEALS.COUNT : Fld := ⟨PIC_SEALS, 0, 64⟩
/-- R268. -/
def PIC_ABORTS : Nat := 0x2400440
def PIC_ABORTS.COUNT : Fld := ⟨PIC_ABORTS, 0, 64⟩
/-- R268. -/
def PIC_RESENDS : Nat := 0x2400448
def PIC_RESENDS.COUNT : Fld := ⟨PIC_RESENDS, 0, 64⟩
/-- R268. -/
def PIC_CTX (x : Nat) : Nat := 0x2408000 + 16 * x
def PIC_CTX.SW3 (x : Nat) : Fld := ⟨PIC_CTX x, 48, 16⟩
def PIC_CTX.SW2 (x : Nat) : Fld := ⟨PIC_CTX x, 32, 16⟩
def PIC_CTX.SW1 (x : Nat) : Fld := ⟨PIC_CTX x, 16, 16⟩
def PIC_CTX.SW0 (x : Nat) : Fld := ⟨PIC_CTX x, 0, 16⟩
/-- R268. -/
def PIC_CTXM (x : Nat) : Nat := 0x2408008 + 16 * x
def PIC_CTXM.MEM_USED (x : Nat) : Fld := ⟨PIC_CTXM x, 0, 21⟩
/-- R268. -/
def PIC_LOG (x : Nat) : Nat := 0x2410000 + 32 * x
def PIC_LOG.HEAD (x : Nat) : Fld := ⟨PIC_LOG x, 0, 64⟩
/-- R268. -/
def PIC_LOGTRIM (x : Nat) : Nat := 0x2410008 + 32 * x
def PIC_LOGTRIM.TRIM (x : Nat) : Fld := ⟨PIC_LOGTRIM x, 0, 64⟩
/-- R268. -/
def PIC_LOGMIR (x : Nat) : Nat := 0x2410010 + 32 * x
def PIC_LOGMIR.MIRRORED (x : Nat) : Fld := ⟨PIC_LOGMIR x, 0, 64⟩

/-! Registers of chapter 11 (bobbin). -/

/-- R307. -/
def BOB_RGN_CMD : Nat := 0x2800000
def BOB_RGN_CMD.OP : Fld := ⟨BOB_RGN_CMD, 8, 2⟩
def BOB_RGN_CMD.REGION : Fld := ⟨BOB_RGN_CMD, 0, 6⟩
/-- R307. -/
def BOB_RGN_CMDSTAT : Nat := 0x2800008
def BOB_RGN_CMDSTAT.BUSY : Fld := ⟨BOB_RGN_CMDSTAT, 8, 1⟩
def BOB_RGN_CMDSTAT.CODE : Fld := ⟨BOB_RGN_CMDSTAT, 0, 8⟩
/-- R307. -/
def BOB_RGN_STAT (r : Nat) : Nat := 0x2800100 + 8 * r
def BOB_RGN_STAT.IEEE (r : Nat) : Fld := ⟨BOB_RGN_STAT r, 56, 4⟩
def BOB_RGN_STAT.DONE (r : Nat) : Fld := ⟨BOB_RGN_STAT r, 52, 1⟩
def BOB_RGN_STAT.FVALUE (r : Nat) : Fld := ⟨BOB_RGN_STAT r, 36, 16⟩
def BOB_RGN_STAT.FSTITCH (r : Nat) : Fld := ⟨BOB_RGN_STAT r, 21, 11⟩
def BOB_RGN_STAT.FNEEDLE (r : Nat) : Fld := ⟨BOB_RGN_STAT r, 19, 2⟩
def BOB_RGN_STAT.FBOBBIN (r : Nat) : Fld := ⟨BOB_RGN_STAT r, 12, 7⟩
def BOB_RGN_STAT.FAULT (r : Nat) : Fld := ⟨BOB_RGN_STAT r, 4, 8⟩
def BOB_RGN_STAT.STATE (r : Nat) : Fld := ⟨BOB_RGN_STAT r, 0, 3⟩
/-- R307. -/
def BOB_RX_DROP (r : Nat) : Nat := 0x2800400 + 8 * r
def BOB_RX_DROP.COUNT (r : Nat) : Fld := ⟨BOB_RX_DROP r, 0, 64⟩
/-- R307. -/
def BOB_TOK_DROP (r : Nat) : Nat := 0x2800600 + 8 * r
def BOB_TOK_DROP.COUNT (r : Nat) : Fld := ⟨BOB_TOK_DROP r, 0, 64⟩
/-- R307. -/
def BOB_SEND (r : Nat) : Nat := 0x2800800 + 8 * r
def BOB_SEND.COUNT (r : Nat) : Fld := ⟨BOB_SEND r, 0, 64⟩

/-! Registers of chapter 13 (memory). -/

/-- R341. -/
def MEM_MAP_SEL : Nat := 0x2C00000
def MEM_MAP_SEL.KIND : Fld := ⟨MEM_MAP_SEL, 32, 1⟩
def MEM_MAP_SEL.FRAME : Fld := ⟨MEM_MAP_SEL, 16, 16⟩
def MEM_MAP_SEL.CTX : Fld := ⟨MEM_MAP_SEL, 0, 10⟩
/-- R341. -/
def MEM_MAP_DATA : Nat := 0x2C00008
def MEM_MAP_DATA.VALID : Fld := ⟨MEM_MAP_DATA, 63, 1⟩
def MEM_MAP_DATA.SLOT : Fld := ⟨MEM_MAP_DATA, 62, 1⟩
def MEM_MAP_DATA.DIE : Fld := ⟨MEM_MAP_DATA, 48, 3⟩
def MEM_MAP_DATA.PFRAME : Fld := ⟨MEM_MAP_DATA, 0, 13⟩
/-- R341. -/
def MEM_DIE (d : Nat) : Nat := 0x2C00100 + 8 * d
def MEM_DIE.RESERVE (d : Nat) : Fld := ⟨MEM_DIE d, 16, 13⟩
def MEM_DIE.FREE (d : Nat) : Fld := ⟨MEM_DIE d, 0, 13⟩
/-- R341. -/
def MEM_SCRUB : Nat := 0x2C00200
def MEM_SCRUB.PASS_SEC : Fld := ⟨MEM_SCRUB, 32, 32⟩
def MEM_SCRUB.PROGRESS : Fld := ⟨MEM_SCRUB, 0, 16⟩
/-- R341. -/
def MEM_OS_DENY : Nat := 0x2C00300
def MEM_OS_DENY.COUNT : Fld := ⟨MEM_OS_DENY, 0, 64⟩
/-- R341. -/
def MEM_OS_BAD : Nat := 0x2C00308
def MEM_OS_BAD.COUNT : Fld := ⟨MEM_OS_BAD, 0, 64⟩
/-- R341. -/
def MEM_OS_UE : Nat := 0x2C00310
def MEM_OS_UE.COUNT : Fld := ⟨MEM_OS_UE, 0, 64⟩
/-- R341. -/
def MEM_CTX (x : Nat) : Nat := 0x2C01000 + 8 * x
def MEM_CTX.SLOT3 (x : Nat) : Fld := ⟨MEM_CTX x, 56, 8⟩
def MEM_CTX.SLOT2 (x : Nat) : Fld := ⟨MEM_CTX x, 48, 8⟩
def MEM_CTX.SLOT1 (x : Nat) : Fld := ⟨MEM_CTX x, 40, 8⟩
def MEM_CTX.SLOT0 (x : Nat) : Fld := ⟨MEM_CTX x, 32, 8⟩
def MEM_CTX.LOG_FR (x : Nat) : Fld := ⟨MEM_CTX x, 16, 16⟩
def MEM_CTX.WIN_FR (x : Nat) : Fld := ⟨MEM_CTX x, 0, 16⟩
/-- R341. -/
def MEM_WC (x : Nat) : Nat := 0x2C03000 + 8 * x
def MEM_WC.EN (x : Nat) : Fld := ⟨MEM_WC x, 63, 1⟩
def MEM_WC.LEN (x : Nat) : Fld := ⟨MEM_WC x, 32, 16⟩
def MEM_WC.BASE (x : Nat) : Fld := ⟨MEM_WC x, 0, 16⟩
/-- R341. -/
def MEM_CH (i : Nat) : Nat := 0x2C10000 + 8 * i
def MEM_CH.RETIRED (i : Nat) : Fld := ⟨MEM_CH i, 0, 13⟩
/-- R341. -/
def MEM_CE (i : Nat) : Nat := 0x2C20000 + 8 * i
def MEM_CE.COUNT (i : Nat) : Fld := ⟨MEM_CE i, 0, 64⟩
/-- R341. -/
def MEM_UE (i : Nat) : Nat := 0x2C30000 + 8 * i
def MEM_UE.COUNT (i : Nat) : Fld := ⟨MEM_UE i, 0, 64⟩

/-! Registers of chapter 14 (time). -/

/-- R360. -/
def TB_SEC : Nat := 0x300000
def TB_SEC.SEC : Fld := ⟨TB_SEC, 0, 48⟩
/-- R360. -/
def TB_NS : Nat := 0x300008
def TB_NS.FRAC : Fld := ⟨TB_NS, 32, 16⟩
def TB_NS.NS : Fld := ⟨TB_NS, 0, 32⟩
/-- R360. -/
def TB_SHORT : Nat := 0x300010
def TB_SHORT.SHORT : Fld := ⟨TB_SHORT, 0, 32⟩
/-- R360. -/
def TB_SET_SEC : Nat := 0x300018
def TB_SET_SEC.SEC : Fld := ⟨TB_SET_SEC, 0, 48⟩
/-- R360. -/
def TB_SET_NS : Nat := 0x300020
def TB_SET_NS.NS : Fld := ⟨TB_SET_NS, 0, 32⟩
/-- R360. -/
def TB_OFFSET : Nat := 0x300028
def TB_OFFSET.OFFSET : Fld := ⟨TB_OFFSET, 0, 64⟩
/-- R360. -/
def TB_GAIN : Nat := 0x300030
def TB_GAIN.KI : Fld := ⟨TB_GAIN, 32, 32⟩
def TB_GAIN.KP : Fld := ⟨TB_GAIN, 0, 32⟩
/-- R360. -/
def TB_SERVO : Nat := 0x300038
def TB_SERVO.HOLD_MS : Fld := ⟨TB_SERVO, 48, 16⟩
def TB_SERVO.STEP_EN : Fld := ⟨TB_SERVO, 33, 1⟩
def TB_SERVO.EN : Fld := ⟨TB_SERVO, 32, 1⟩
def TB_SERVO.STEP_NS : Fld := ⟨TB_SERVO, 0, 32⟩
/-- R360. -/
def TB_RATE : Nat := 0x300040
def TB_RATE.RATE : Fld := ⟨TB_RATE, 0, 32⟩
/-- R360. -/
def TB_LAST : Nat := 0x300048
def TB_LAST.OFFSET : Fld := ⟨TB_LAST, 0, 64⟩
/-- R360. -/
def TB_STAT : Nat := 0x300050
def TB_STAT.STEPPED : Fld := ⟨TB_STAT, 5, 1⟩
def TB_STAT.REF : Fld := ⟨TB_STAT, 3, 2⟩
def TB_STAT.SERVO : Fld := ⟨TB_STAT, 0, 3⟩
/-- R360. -/
def TB_CAP_CTRL : Nat := 0x300100
def TB_CAP_CTRL.DOMAIN : Fld := ⟨TB_CAP_CTRL, 0, 8⟩
/-- R360. -/
def TB_CAP_STAT : Nat := 0x300108
def TB_CAP_STAT.LOST : Fld := ⟨TB_CAP_STAT, 32, 32⟩
def TB_CAP_STAT.COUNT : Fld := ⟨TB_CAP_STAT, 0, 9⟩
/-- R360. -/
def TB_CAP_POP : Nat := 0x300110
def TB_CAP_POP.POP : Fld := ⟨TB_CAP_POP, 0, 1⟩
/-- R360. -/
def TB_CAP_W (n : Nat) : Nat := 0x300118 + 8 * n
def TB_CAP_W.DATA (n : Nat) : Fld := ⟨TB_CAP_W n, 0, 64⟩
/-- R360. -/
def TB_TRIG_T (k : Nat) : Nat := 0x301000 + 16 * k
def TB_TRIG_T.SEC (k : Nat) : Fld := ⟨TB_TRIG_T k, 32, 32⟩
def TB_TRIG_T.NS (k : Nat) : Fld := ⟨TB_TRIG_T k, 0, 32⟩
/-- R360. -/
def TB_TRIG_C (k : Nat) : Nat := 0x301008 + 16 * k
def TB_TRIG_C.ARMED (k : Nat) : Fld := ⟨TB_TRIG_C k, 63, 1⟩
def TB_TRIG_C.FIRED (k : Nat) : Fld := ⟨TB_TRIG_C k, 62, 1⟩
def TB_TRIG_C.LATE (k : Nat) : Fld := ⟨TB_TRIG_C k, 61, 1⟩
def TB_TRIG_C.ACTION (k : Nat) : Fld := ⟨TB_TRIG_C k, 56, 2⟩
def TB_TRIG_C.GEN (k : Nat) : Fld := ⟨TB_TRIG_C k, 48, 8⟩
def TB_TRIG_C.QUEUE (k : Nat) : Fld := ⟨TB_TRIG_C k, 44, 4⟩
def TB_TRIG_C.REGION (k : Nat) : Fld := ⟨TB_TRIG_C k, 38, 6⟩
def TB_TRIG_C.BOBBIN (k : Nat) : Fld := ⟨TB_TRIG_C k, 31, 7⟩
/-- R360. -/
def PRT_PTP (L : Nat) : Nat := portPage L + 0x400
def PRT_PTP.CAPTURE (L : Nat) : Fld := ⟨PRT_PTP L, 1, 1⟩
def PRT_PTP.TC_EN (L : Nat) : Fld := ⟨PRT_PTP L, 0, 1⟩
/-- R360. -/
def PRT_PTP_CORR (L : Nat) : Nat := portPage L + 0x408
def PRT_PTP_CORR.COUNT (L : Nat) : Fld := ⟨PRT_PTP_CORR L, 0, 64⟩

/-! Registers of chapter 15 (faults). -/

/-- R393. -/
def FLT_CTRL : Nat := 0x3800000
def FLT_CTRL.PORT_AUTO : Fld := ⟨FLT_CTRL, 0, 1⟩
/-- R393. -/
def FLT_CHIP_SEL : Nat := 0x3800008
def FLT_CHIP_SEL.CHIP : Fld := ⟨FLT_CHIP_SEL, 0, 20⟩
/-- R393. -/
def FLT_CHIP_DATA : Nat := 0x3800010
def FLT_CHIP_DATA.FENCED : Fld := ⟨FLT_CHIP_DATA, 17, 1⟩
def FLT_CHIP_DATA.CHECK : Fld := ⟨FLT_CHIP_DATA, 16, 1⟩
def FLT_CHIP_DATA.INC : Fld := ⟨FLT_CHIP_DATA, 0, 8⟩
/-- R393. -/
def FLT_CHIP_CMD : Nat := 0x3800018
def FLT_CHIP_CMD.OP : Fld := ⟨FLT_CHIP_CMD, 0, 3⟩
/-- R393. -/
def FLT_CHIP_STAT : Nat := 0x3800020
def FLT_CHIP_STAT.BUSY : Fld := ⟨FLT_CHIP_STAT, 8, 1⟩
def FLT_CHIP_STAT.CODE : Fld := ⟨FLT_CHIP_STAT, 0, 8⟩
/-- R393. -/
def FLT_PORT_CMD : Nat := 0x3800028
def FLT_PORT_CMD.PORT : Fld := ⟨FLT_PORT_CMD, 16, 10⟩
def FLT_PORT_CMD.OP : Fld := ⟨FLT_PORT_CMD, 0, 2⟩
/-- R393. -/
def FLT_XDIE : Nat := 0x3800030
def FLT_XDIE.ADMIT : Fld := ⟨FLT_XDIE, 0, 24⟩
/-- R393. -/
def FLT_DIE (d : Nat) : Nat := 0x3800040 + 8 * d
def FLT_DIE.TS (d : Nat) : Fld := ⟨FLT_DIE d, 32, 32⟩
def FLT_DIE.FAULTS (d : Nat) : Fld := ⟨FLT_DIE d, 16, 16⟩
def FLT_DIE.CAUSE (d : Nat) : Fld := ⟨FLT_DIE d, 8, 4⟩
def FLT_DIE.STATE (d : Nat) : Fld := ⟨FLT_DIE d, 0, 3⟩
/-- R393. -/
def FLT_BUNDLE (b : Nat) : Nat := 0x3800100 + 8 * b
def FLT_BUNDLE.SPARES (b : Nat) : Fld := ⟨FLT_BUNDLE b, 40, 8⟩
def FLT_BUNDLE.WIDTH (b : Nat) : Fld := ⟨FLT_BUNDLE b, 8, 8⟩
def FLT_BUNDLE.STATE (b : Nat) : Fld := ⟨FLT_BUNDLE b, 0, 3⟩
/-- R393. -/
def FLT_REPLAY (b : Nat) : Nat := 0x3800200 + 8 * b
def FLT_REPLAY.COUNT (b : Nat) : Fld := ⟨FLT_REPLAY b, 0, 64⟩
/-- R393. -/
def FLT_DROP_FENCED : Nat := 0x3800300
def FLT_DROP_FENCED.COUNT : Fld := ⟨FLT_DROP_FENCED, 0, 64⟩
/-- R393. -/
def FLT_DROP_OLDINC : Nat := 0x3800308
def FLT_DROP_OLDINC.COUNT : Fld := ⟨FLT_DROP_OLDINC, 0, 64⟩
/-- R393. -/
def FLT_DROP_NEWINC : Nat := 0x3800310
def FLT_DROP_NEWINC.COUNT : Fld := ⟨FLT_DROP_NEWINC, 0, 64⟩
/-- R393. -/
def FLT_EVIDENCE : Nat := 0x3800318
def FLT_EVIDENCE.COUNT : Fld := ⟨FLT_EVIDENCE, 0, 64⟩
/-- R393. -/
def FLT_DROP_DIE : Nat := 0x3800320
def FLT_DROP_DIE.COUNT : Fld := ⟨FLT_DROP_DIE, 0, 64⟩
/-- R393. -/
def FLT_BC_DROP : Nat := 0x3800328
def FLT_BC_DROP.COUNT : Fld := ⟨FLT_BC_DROP, 0, 64⟩
/-- R393. -/
def FLT_BC_SEL : Nat := 0x3800400
def FLT_BC_SEL.SESSION : Fld := ⟨FLT_BC_SEL, 0, 6⟩
/-- R393. -/
def FLT_BC_W0 : Nat := 0x3800408
def FLT_BC_W0.VALID : Fld := ⟨FLT_BC_W0, 63, 1⟩
def FLT_BC_W0.PEER : Fld := ⟨FLT_BC_W0, 20, 20⟩
def FLT_BC_W0.CHAN : Fld := ⟨FLT_BC_W0, 17, 3⟩
def FLT_BC_W0.ROOT : Fld := ⟨FLT_BC_W0, 16, 1⟩
def FLT_BC_W0.CTX : Fld := ⟨FLT_BC_W0, 0, 10⟩
/-- R393. -/
def FLT_BC_W1 : Nat := 0x3800410
def FLT_BC_W1.BASE : Fld := ⟨FLT_BC_W1, 0, 48⟩
/-- R393. -/
def FLT_BC_W2 : Nat := 0x3800418
def FLT_BC_W2.RELAY_TO_US : Fld := ⟨FLT_BC_W2, 48, 16⟩
def FLT_BC_W2.LENGTH : Fld := ⟨FLT_BC_W2, 0, 40⟩
/-- R393. -/
def FLT_BC_W3 : Nat := 0x3800420
def FLT_BC_W3.COUNT : Fld := ⟨FLT_BC_W3, 48, 16⟩
def FLT_BC_W3.LIST : Fld := ⟨FLT_BC_W3, 0, 48⟩
/-- R393. -/
def FLT_BC_W4 : Nat := 0x3800428
def FLT_BC_W4.FALLBACK : Fld := ⟨FLT_BC_W4, 44, 20⟩
def FLT_BC_W4.SECOND : Fld := ⟨FLT_BC_W4, 20, 20⟩
def FLT_BC_W4.FALLBACK_EN : Fld := ⟨FLT_BC_W4, 17, 1⟩
def FLT_BC_W4.SECOND_EN : Fld := ⟨FLT_BC_W4, 16, 1⟩
def FLT_BC_W4.MCG : Fld := ⟨FLT_BC_W4, 0, 16⟩
/-- R393. -/
def FLT_BC_CMD : Nat := 0x3800430
def FLT_BC_CMD.OP : Fld := ⟨FLT_BC_CMD, 0, 3⟩
/-- R393. -/
def FLT_BC_STAT : Nat := 0x3800438
def FLT_BC_STAT.BUSY : Fld := ⟨FLT_BC_STAT, 8, 1⟩
def FLT_BC_STAT.CODE : Fld := ⟨FLT_BC_STAT, 0, 8⟩
/-- R393. -/
def FLT_BC_S (s : Nat) : Nat := 0x3800500 + 8 * s
def FLT_BC_S.DONE (s : Nat) : Fld := ⟨FLT_BC_S s, 40, 24⟩
def FLT_BC_S.ORPHANS (s : Nat) : Fld := ⟨FLT_BC_S s, 16, 16⟩
def FLT_BC_S.STATE (s : Nat) : Fld := ⟨FLT_BC_S s, 0, 3⟩
/-- R393. -/
def PRT_FENCE (L : Nat) : Nat := portPage L + 0x480
def PRT_FENCE.TS (L : Nat) : Fld := ⟨PRT_FENCE L, 32, 32⟩
def PRT_FENCE.CAUSE (L : Nat) : Fld := ⟨PRT_FENCE L, 0, 4⟩
/-- R393. -/
def PRT_DROP_FENCE (L : Nat) : Nat := portPage L + 0x488
def PRT_DROP_FENCE.COUNT (L : Nat) : Fld := ⟨PRT_DROP_FENCE L, 0, 64⟩

/-! Registers of chapter 16 (security). -/

/-- R416. -/
def CTX_STAT (x : Nat) : Nat := ctxPage x + 0x0
def CTX_STAT.ESTIMATE (x : Nat) : Fld := ⟨CTX_STAT x, 40, 24⟩
def CTX_STAT.PROGRESS (x : Nat) : Fld := ⟨CTX_STAT x, 24, 16⟩
def CTX_STAT.CODE (x : Nat) : Fld := ⟨CTX_STAT x, 16, 8⟩
def CTX_STAT.GEN (x : Nat) : Fld := ⟨CTX_STAT x, 8, 8⟩
def CTX_STAT.BUSY (x : Nat) : Fld := ⟨CTX_STAT x, 2, 1⟩
def CTX_STAT.STATE (x : Nat) : Fld := ⟨CTX_STAT x, 0, 2⟩
/-- R416. -/
def CTX_CMD (x : Nat) : Nat := ctxPage x + 0x8
def CTX_CMD.REGION (x : Nat) : Fld := ⟨CTX_CMD x, 8, 6⟩
def CTX_CMD.OP (x : Nat) : Fld := ⟨CTX_CMD x, 0, 3⟩
/-- R416. -/
def CTX_CTRL (x : Nat) : Nat := ctxPage x + 0x10
def CTX_CTRL.CNT_OPEN (x : Nat) : Fld := ⟨CTX_CTRL x, 0, 1⟩
/-- R416. -/
def CTX_KEYMAP (x w : Nat) : Nat := ctxPage x + 0x20 + 8 * w
def CTX_KEYMAP.MAP (x w : Nat) : Fld := ⟨CTX_KEYMAP x w, 0, 64⟩
/-- R416. -/
def PRT_OWNER (L : Nat) : Nat := portPage L + 0x500
def PRT_OWNER.STRICT (L : Nat) : Fld := ⟨PRT_OWNER L, 11, 1⟩
def PRT_OWNER.OWNED (L : Nat) : Fld := ⟨PRT_OWNER L, 10, 1⟩
def PRT_OWNER.CTX (L : Nat) : Fld := ⟨PRT_OWNER L, 0, 10⟩
/-- R416. -/
def PRT_DROP_CTX (L : Nat) : Nat := portPage L + 0x508
def PRT_DROP_CTX.COUNT (L : Nat) : Fld := ⟨PRT_DROP_CTX L, 0, 64⟩
/-- R416. -/
def SEC_LIFE : Nat := 0x3C00000
def SEC_LIFE.STATE : Fld := ⟨SEC_LIFE, 0, 2⟩
/-- R416. -/
def SEC_SERIAL_LO : Nat := 0x3C00008
def SEC_SERIAL_LO.SER : Fld := ⟨SEC_SERIAL_LO, 0, 64⟩
/-- R416. -/
def SEC_SERIAL_HI : Nat := 0x3C00010
def SEC_SERIAL_HI.SER : Fld := ⟨SEC_SERIAL_HI, 0, 64⟩
/-- R416. -/
def SEC_SELF : Nat := 0x3C00018
def SEC_SELF.INC : Fld := ⟨SEC_SELF, 0, 8⟩
/-- R416. -/
def SEC_FLOOR : Nat := 0x3C00020
def SEC_FLOOR.PRK : Fld := ⟨SEC_FLOOR, 32, 32⟩
def SEC_FLOOR.FW : Fld := ⟨SEC_FLOOR, 0, 32⟩
/-- R416. -/
def SEC_AUTH_FAIL : Nat := 0x3C00028
def SEC_AUTH_FAIL.COUNT : Fld := ⟨SEC_AUTH_FAIL, 0, 64⟩
/-- R416. -/
def SEC_KEYS : Nat := 0x3C00030
def SEC_KEYS.COUNT : Fld := ⟨SEC_KEYS, 0, 15⟩

/-! Registers of chapter 17 (host). -/

/-- R421. -/
def CTL_DQ_SBASE (q : Nat) : Nat := 0x1000 + 64 * q
def CTL_DQ_SBASE.ADDR (q : Nat) : Fld := ⟨CTL_DQ_SBASE q, 0, 64⟩
/-- R421. -/
def CTL_DQ_CBASE (q : Nat) : Nat := 0x1008 + 64 * q
def CTL_DQ_CBASE.ADDR (q : Nat) : Fld := ⟨CTL_DQ_CBASE q, 0, 64⟩
/-- R421. -/
def CTL_DQ_CFG (q : Nat) : Nat := 0x1010 + 64 * q
def CTL_DQ_CFG.EN (q : Nat) : Fld := ⟨CTL_DQ_CFG q, 8, 1⟩
def CTL_DQ_CFG.LOG2N (q : Nat) : Fld := ⟨CTL_DQ_CFG q, 0, 5⟩
/-- R421. -/
def CTL_DQ_TAIL (q : Nat) : Nat := 0x1018 + 64 * q
def CTL_DQ_TAIL.TAIL (q : Nat) : Fld := ⟨CTL_DQ_TAIL q, 0, 32⟩
/-- R421. -/
def CTL_DQ_HEAD (q : Nat) : Nat := 0x1020 + 64 * q
def CTL_DQ_HEAD.HEAD (q : Nat) : Fld := ⟨CTL_DQ_HEAD q, 0, 32⟩
/-- R421. -/
def CTL_DQ_STAT (q : Nat) : Nat := 0x1028 + 64 * q
def CTL_DQ_STAT.ERROR (q : Nat) : Fld := ⟨CTL_DQ_STAT q, 8, 8⟩
def CTL_DQ_STAT.STOPPED (q : Nat) : Fld := ⟨CTL_DQ_STAT q, 0, 1⟩
/-- R431. -/
def IC_TIERS : Nat := 0x100000
def IC_TIERS.BOUND : Fld := ⟨IC_TIERS, 0, 56⟩
/-- R431. -/
def IC_DOORBELL : Nat := 0x100008
def IC_DOORBELL.SOURCE : Fld := ⟨IC_DOORBELL, 0, 12⟩
/-- R431. -/
def IC_MERGED : Nat := 0x100010
def IC_MERGED.COUNT : Fld := ⟨IC_MERGED, 0, 64⟩
/-- R431. -/
def IC_CLAIM (t : Nat) : Nat := 0x100100 + 8 * t
def IC_CLAIM.VALID (t : Nat) : Fld := ⟨IC_CLAIM t, 63, 1⟩
def IC_CLAIM.SOURCE (t : Nat) : Fld := ⟨IC_CLAIM t, 0, 12⟩
/-- R431. -/
def IC_EOI (t : Nat) : Nat := 0x100180 + 8 * t
def IC_EOI.SOURCE (t : Nat) : Fld := ⟨IC_EOI t, 0, 12⟩
/-- R431. -/
def IC_RUN (t : Nat) : Nat := 0x100200 + 8 * t
def IC_RUN.TIER (t : Nat) : Fld := ⟨IC_RUN t, 9, 3⟩
def IC_RUN.ACTIVE (t : Nat) : Fld := ⟨IC_RUN t, 8, 1⟩
def IC_RUN.PRIO (t : Nat) : Fld := ⟨IC_RUN t, 0, 8⟩
/-- R431. -/
def IC_SRC (s : Nat) : Nat := 0x101000 + 8 * s
def IC_SRC.STATE (s : Nat) : Fld := ⟨IC_SRC s, 32, 2⟩
def IC_SRC.EN (s : Nat) : Fld := ⟨IC_SRC s, 31, 1⟩
def IC_SRC.VECTOR (s : Nat) : Fld := ⟨IC_SRC s, 16, 11⟩
def IC_SRC.TARGET (s : Nat) : Fld := ⟨IC_SRC s, 8, 3⟩
def IC_SRC.PRIO (s : Nat) : Fld := ⟨IC_SRC s, 0, 8⟩
/-- R440. -/
def EVR_NEXT : Nat := 0x200000
def EVR_NEXT.SEQ : Fld := ⟨EVR_NEXT, 0, 64⟩
/-- R440. -/
def EVR_FIRST : Nat := 0x200008
def EVR_FIRST.SEQ : Fld := ⟨EVR_FIRST, 0, 64⟩
/-- R440. -/
def EVR_PERM : Nat := 0x200010
def EVR_PERM.COUNT : Fld := ⟨EVR_PERM, 0, 13⟩
/-- R440. -/
def EVR_CLRSEQ : Nat := 0x200018
def EVR_CLRSEQ.SEQ : Fld := ⟨EVR_CLRSEQ, 0, 64⟩
/-- R440. -/
def EVR_SEL : Nat := 0x200020
def EVR_SEL.SEQ : Fld := ⟨EVR_SEL, 0, 64⟩
/-- R440. -/
def EVR_PSEL : Nat := 0x200028
def EVR_PSEL.INDEX : Fld := ⟨EVR_PSEL, 0, 12⟩
/-- R440. -/
def EVR_WMARK : Nat := 0x200030
def EVR_WMARK.LEVEL : Fld := ⟨EVR_WMARK, 0, 17⟩
/-- R440. -/
def EVR_LOST : Nat := 0x200038
def EVR_LOST.COUNT : Fld := ⟨EVR_LOST, 0, 64⟩
/-- R440. -/
def EVR_REC_W (n : Nat) : Nat := 0x200040 + 8 * n
def EVR_REC_W.DATA (n : Nat) : Fld := ⟨EVR_REC_W n, 0, 64⟩

/-! Registers of chapter 18 (observability). -/

/-- R444. -/
def PRT_RX_FRAMES (L : Nat) : Nat := portPage L + 0x600
def PRT_RX_FRAMES.COUNT (L : Nat) : Fld := ⟨PRT_RX_FRAMES L, 0, 64⟩
/-- R444. -/
def PRT_RX_BYTES (L : Nat) : Nat := portPage L + 0x608
def PRT_RX_BYTES.COUNT (L : Nat) : Fld := ⟨PRT_RX_BYTES L, 0, 64⟩
/-- R444. -/
def PRT_TX_FRAMES (L : Nat) : Nat := portPage L + 0x610
def PRT_TX_FRAMES.COUNT (L : Nat) : Fld := ⟨PRT_TX_FRAMES L, 0, 64⟩
/-- R444. -/
def PRT_TX_BYTES (L : Nat) : Nat := portPage L + 0x618
def PRT_TX_BYTES.COUNT (L : Nat) : Fld := ⟨PRT_TX_BYTES L, 0, 64⟩
/-- R444. -/
def PRT_RX_MCAST (L : Nat) : Nat := portPage L + 0x620
def PRT_RX_MCAST.COUNT (L : Nat) : Fld := ⟨PRT_RX_MCAST L, 0, 64⟩
/-- R444. -/
def PRT_RX_OVR (L : Nat) : Nat := portPage L + 0x628
def PRT_RX_OVR.COUNT (L : Nat) : Fld := ⟨PRT_RX_OVR L, 0, 64⟩
/-- R444. -/
def PRT_STATE_CHG (L : Nat) : Nat := portPage L + 0x630
def PRT_STATE_CHG.COUNT (L : Nat) : Fld := ⟨PRT_STATE_CHG L, 0, 64⟩
/-- R444. -/
def PRT_UP_NS (L : Nat) : Nat := portPage L + 0x638
def PRT_UP_NS.COUNT (L : Nat) : Fld := ⟨PRT_UP_NS L, 0, 64⟩
/-- R444. -/
def PRT_CRED_NS (L : Nat) : Nat := portPage L + 0x640
def PRT_CRED_NS.COUNT (L : Nat) : Fld := ⟨PRT_CRED_NS L, 0, 64⟩
/-- R444. -/
def PRT_PFC_NS (L : Nat) : Nat := portPage L + 0x648
def PRT_PFC_NS.COUNT (L : Nat) : Fld := ⟨PRT_PFC_NS L, 0, 64⟩
/-- R444. -/
def PRT_XOFF_NS (L : Nat) : Nat := portPage L + 0x650
def PRT_XOFF_NS.COUNT (L : Nat) : Fld := ⟨PRT_XOFF_NS L, 0, 64⟩
/-- R444. -/
def PRT_GATE_NS (L : Nat) : Nat := portPage L + 0x658
def PRT_GATE_NS.COUNT (L : Nat) : Fld := ⟨PRT_GATE_NS L, 0, 64⟩
/-- R444. -/
def PRT_CHF_RX (L c : Nat) : Nat := portPage L + 0x700 + 8 * c
def PRT_CHF_RX.COUNT (L c : Nat) : Fld := ⟨PRT_CHF_RX L c, 0, 64⟩
/-- R444. -/
def PRT_CHB_RX (L c : Nat) : Nat := portPage L + 0x780 + 8 * c
def PRT_CHB_RX.COUNT (L c : Nat) : Fld := ⟨PRT_CHB_RX L c, 0, 64⟩
/-- R444. -/
def PRT_CHF_TX (L c : Nat) : Nat := portPage L + 0x800 + 8 * c
def PRT_CHF_TX.COUNT (L c : Nat) : Fld := ⟨PRT_CHF_TX L c, 0, 64⟩
/-- R444. -/
def PRT_CHB_TX (L c : Nat) : Nat := portPage L + 0x880 + 8 * c
def PRT_CHB_TX.COUNT (L c : Nat) : Fld := ⟨PRT_CHB_TX L c, 0, 64⟩
/-- R452. -/
def TEL_CTRL : Nat := 0x3600000
def TEL_CTRL.SAMP_PERIOD_US : Fld := ⟨TEL_CTRL, 48, 16⟩
def TEL_CTRL.SPORT : Fld := ⟨TEL_CTRL, 32, 16⟩
def TEL_CTRL.WPORT : Fld := ⟨TEL_CTRL, 16, 16⟩
def TEL_CTRL.WATCH_EN : Fld := ⟨TEL_CTRL, 1, 1⟩
def TEL_CTRL.SAMP_EN : Fld := ⟨TEL_CTRL, 0, 1⟩
/-- R452. -/
def TEL_SDST_HI : Nat := 0x3600008
def TEL_SDST_HI.ADDR : Fld := ⟨TEL_SDST_HI, 0, 64⟩
/-- R452. -/
def TEL_SDST_LO : Nat := 0x3600010
def TEL_SDST_LO.ADDR : Fld := ⟨TEL_SDST_LO, 0, 64⟩
/-- R452. -/
def TEL_WDST_HI : Nat := 0x3600018
def TEL_WDST_HI.ADDR : Fld := ⟨TEL_WDST_HI, 0, 64⟩
/-- R452. -/
def TEL_WDST_LO : Nat := 0x3600020
def TEL_WDST_LO.ADDR : Fld := ⟨TEL_WDST_LO, 0, 64⟩
/-- R452. -/
def TEL_LOST : Nat := 0x3600030
def TEL_LOST.COUNT : Fld := ⟨TEL_LOST, 0, 64⟩
/-- R452. -/
def TEL_WATCH (w : Nat) : Nat := 0x3600100 + 8 * w
def TEL_WATCH.VALID (w : Nat) : Fld := ⟨TEL_WATCH w, 63, 1⟩
def TEL_WATCH.PORT (w : Nat) : Fld := ⟨TEL_WATCH w, 0, 10⟩
/-- R452. -/
def PMC_CTXPUB (x : Nat) : Nat := 0x3400000 + 8 * x
def PMC_CTXPUB.OFFSET (x : Nat) : Fld := ⟨PMC_CTXPUB x, 16, 48⟩
def PMC_CTXPUB.PERIOD_US (x : Nat) : Fld := ⟨PMC_CTXPUB x, 0, 16⟩
/-- R443. -/
def PMC_EVT (i : Nat) : Nat := 0x3420000 + 8 * i
def PMC_EVT.COUNT (i : Nat) : Fld := ⟨PMC_EVT i, 0, 64⟩
/-- R445. -/
def PMC_CTXPAGE (x e : Nat) : Nat := 0x3480000 + 512 * x + 8 * e
def PMC_CTXPAGE.COUNT (x e : Nat) : Fld := ⟨PMC_CTXPAGE x e, 0, 64⟩
/-- R448. -/
def PMC_TD (n k : Nat) : Nat := 0x3440000 + 64 * n + 8 * k
def PMC_TD.COUNT (n k : Nat) : Fld := ⟨PMC_TD n k, 0, 64⟩
/-- R448. -/
def PMC_STALE_RGN (r : Nat) : Nat := 0x3418000 + 8 * r
def PMC_STALE_RGN.COUNT (r : Nat) : Fld := ⟨PMC_STALE_RGN r, 0, 64⟩
/-- R448. -/
def PMC_STORE_CE (r : Nat) : Nat := 0x3418200 + 8 * r
def PMC_STORE_CE.COUNT (r : Nat) : Fld := ⟨PMC_STORE_CE r, 0, 64⟩

/-! Registers of chapter 19 (start-up). -/

/-- R471. -/
def CTL_BOOT : Nat := 0x400
def CTL_BOOT.SLOT : Fld := ⟨CTL_BOOT, 8, 4⟩
def CTL_BOOT.CLEAN : Fld := ⟨CTL_BOOT, 2, 1⟩
def CTL_BOOT.RECOV : Fld := ⟨CTL_BOOT, 1, 1⟩
def CTL_BOOT.IMAGE : Fld := ⟨CTL_BOOT, 0, 1⟩
/-- R471. -/
def CTL_MODE_CMD : Nat := 0x408
def CTL_MODE_CMD.OP : Fld := ⟨CTL_MODE_CMD, 0, 3⟩
/-- R471. -/
def CTL_MODE_STAT : Nat := 0x410
def CTL_MODE_STAT.READY : Fld := ⟨CTL_MODE_STAT, 8, 1⟩
def CTL_MODE_STAT.CODE : Fld := ⟨CTL_MODE_STAT, 0, 8⟩
/-- R471. -/
def CTL_TEST_CMD : Nat := 0x418
def CTL_TEST_CMD.UNIT : Fld := ⟨CTL_TEST_CMD, 16, 10⟩
def CTL_TEST_CMD.KIND : Fld := ⟨CTL_TEST_CMD, 8, 4⟩
def CTL_TEST_CMD.OP : Fld := ⟨CTL_TEST_CMD, 0, 2⟩
/-- R471. -/
def CTL_TEST_STAT : Nat := 0x420
def CTL_TEST_STAT.ESTIMATE : Fld := ⟨CTL_TEST_STAT, 40, 24⟩
def CTL_TEST_STAT.UNIT : Fld := ⟨CTL_TEST_STAT, 30, 10⟩
def CTL_TEST_STAT.KIND : Fld := ⟨CTL_TEST_STAT, 26, 4⟩
def CTL_TEST_STAT.DETAIL : Fld := ⟨CTL_TEST_STAT, 16, 8⟩
def CTL_TEST_STAT.CODE : Fld := ⟨CTL_TEST_STAT, 8, 8⟩
def CTL_TEST_STAT.STATE : Fld := ⟨CTL_TEST_STAT, 0, 2⟩
/-- R471. -/
def CTL_TEST_RES0 : Nat := 0x428
def CTL_TEST_RES0.OE : Fld := ⟨CTL_TEST_RES0, 8, 16⟩
def CTL_TEST_RES0.DIE : Fld := ⟨CTL_TEST_RES0, 0, 8⟩
/-- R471. -/
def CTL_TEST_RES1 : Nat := 0x430
def CTL_TEST_RES1.DEV : Fld := ⟨CTL_TEST_RES1, 0, 40⟩
/-- R471. -/
def CTL_IND : Nat := 0x438
def CTL_IND.LOCATE : Fld := ⟨CTL_IND, 0, 1⟩

/-! Registers of chapter 21 (register map). -/

/-- R492. -/
def CTL_ID : Nat := 0x0
def CTL_ID.DEVICE : Fld := ⟨CTL_ID, 32, 16⟩
def CTL_ID.STEP : Fld := ⟨CTL_ID, 24, 8⟩
/-- R492. -/
def CTL_FW : Nat := 0x8
def CTL_FW.FW_VERSION : Fld := ⟨CTL_FW, 0, 32⟩
/-- R492. -/
def CTL_SCRATCH : Nat := 0x10
def CTL_SCRATCH.DATA : Fld := ⟨CTL_SCRATCH, 0, 64⟩
/-- R492. -/
def CTL_WERR : Nat := 0x48
def CTL_WERR.VALID : Fld := ⟨CTL_WERR, 63, 1⟩
def CTL_WERR.MORE : Fld := ⟨CTL_WERR, 62, 1⟩
def CTL_WERR.PATH : Fld := ⟨CTL_WERR, 52, 4⟩
def CTL_WERR.REASON : Fld := ⟨CTL_WERR, 48, 4⟩
def CTL_WERR.OFFSET : Fld := ⟨CTL_WERR, 0, 26⟩
/-- R492. -/
def CTL_WERR_DATA : Nat := 0x50
def CTL_WERR_DATA.DATA : Fld := ⟨CTL_WERR_DATA, 0, 64⟩
/-- R492. -/
def CTL_WERR_CNT : Nat := 0x58
def CTL_WERR_CNT.COUNT : Fld := ⟨CTL_WERR_CNT, 0, 64⟩
/-- R492. -/
def CTL_LOCK (k : Nat) : Nat := 0x80 + 8 * k
def CTL_LOCK.RELEASE (k : Nat) : Fld := ⟨CTL_LOCK k, 5, 1⟩
def CTL_LOCK.TAKEN (k : Nat) : Fld := ⟨CTL_LOCK k, 4, 1⟩
def CTL_LOCK.HOLDER (k : Nat) : Fld := ⟨CTL_LOCK k, 0, 4⟩

end Sys2Proof.Machine
end

