-- ==== Sys2Proof/Machine/RegTable.lean ====
section
/-! DEFINITION. The register table: for every register of the field tables of spec/ its place, reset word and access
masks (R5, R6, R494), and the reset value of an offset. -/

namespace Sys2Proof.Machine

/-- A row of the register table: base offset, stride and number of copies; reset word; the bits of named fields (all
others are reserved, R5); and the bits of RW, RWL, W1C and WO fields (R6). -/
structure RegDesc where
  base : Nat
  stride : Nat
  count : Nat
  reset : Nat
  named : Nat
  rw : Nat
  rwl : Nat
  w1c : Nat
  wo : Nat
deriving DecidableEq, Repr

/-- Register rows: the context page, offsets within the page. -/
def ctxRegs : List RegDesc :=
  [
  ⟨0x0, 8, 1, 0x0, 0xFFFFFFFFFFFFFF07, 0x0, 0x0, 0x0, 0x0⟩,  -- CTX_STAT
  ⟨0x8, 8, 1, 0x0, 0x3F07, 0x0, 0x0, 0x0, 0x3F07⟩,  -- CTX_CMD
  ⟨0x10, 8, 1, 0x0, 0x1, 0x1, 0x0, 0x0, 0x0⟩,  -- CTX_CTRL
  ⟨0x20, 8, 4, 0x0, 0xFFFFFFFFFFFFFFFF, 0x0, 0x0, 0x0, 0x0⟩  -- CTX_KEYMAP
  ]

/-- Register rows: chapter 1. -/
def regsModule : List RegDesc :=
  [
  ⟨0x40, 8, 1, 0xFF, 0xC700FF, 0x0, 0x0, 0x400000, 0x0⟩  -- CTL_STRAP
  ]

/-- Register rows: chapter 2. -/
def regsClocklessTiming : List RegDesc :=
  [
  ⟨0x3408000, 8, 1160, 0xFFFF0000, 0x8FFFFFFFFFFF, 0x0, 0x0, 0x800000000000, 0x0⟩,  -- PMC_PACE
  ⟨0x3407FF8, 8, 1, 0x0, 0x1, 0x0, 0x0, 0x0, 0x1⟩  -- PMC_PACE_CLR
  ]

/-- Register rows: chapter 3. -/
def regsPricking : List RegDesc :=
  [
  ⟨0x400000, 8, 1, 0x0, 0x111FFF, 0x0, 0x0, 0x0, 0x111FFF⟩,  -- PRK_CMD
  ⟨0x400008, 8, 1, 0x0, 0xFFFFFFFFFFFFFFFF, 0xFFFFFFFFFFFFFFFF, 0x0, 0x0, 0x0⟩,  -- PRK_AT
  ⟨0x400010, 8, 1, 0x0, 0xFF3FFFF00F07, 0x0, 0x0, 0x0, 0x0⟩,  -- PRK_STATUS
  ⟨0x400018, 8, 1, 0xFFFF00000000, 0xFF1FFFFF00FFFFFF, 0x0, 0x0, 0x0, 0x0⟩,  -- PRK_RESULT
  ⟨0x400020, 8, 1, 0x0, 0xFFFFFFFFFFFFFFFF, 0x0, 0x0, 0x0, 0x0⟩,  -- PRK_GEN
  ⟨0x400028, 8, 1, 0x0, 0xFFFFFFFFFFFFFFFF, 0x0, 0x0, 0x0, 0x0⟩,  -- PRK_ACTIVE
  ⟨0x401000, 8, 64, 0x0, 0xFFFF07FF00FF, 0x0, 0x0, 0x0, 0x0⟩  -- PRK_RGEN
  ]

/-- Register rows: chapter 4. -/
def regsOptical : List RegDesc :=
  [
  ⟨0x1401000, 8, 1024, 0x800000000003, 0xFFFF00000F1F, 0x0, 0x0, 0x0, 0x0⟩,  -- OPT_LANE
  ⟨0x1403000, 8, 1024, 0x0, 0xFFFFFFFFFFFFFFFF, 0x0, 0x0, 0x0, 0x0⟩,  -- OPT_FEC_CORR
  ⟨0x1405000, 8, 1024, 0x0, 0xFFFFFFFFFFFFFFFF, 0x0, 0x0, 0x0, 0x0⟩,  -- OPT_FEC_UNC
  ⟨0x1408000, 8, 160, 0xF00, 0xFFFF000F0F00, 0x0, 0x0, 0x0, 0x0⟩,  -- LAS_STAT
  ⟨0x1400000, 8, 128, 0x0, 0x7, 0x4, 0x0, 0x0, 0x0⟩  -- OPT_FIBRE
  ]

/-- Register rows: chapter 6. -/
def regsSwitchCore : List RegDesc :=
  [
  ⟨0x1800000, 8, 16, 0x6, 0xF, 0xF, 0x0, 0x0, 0x0⟩,  -- SWC_ADM
  ⟨0x1800080, 8, 16, 0x2330200000400, 0x3FFFFFFFFFFFF, 0x3FFFFFFFFFFFF, 0x0, 0x0, 0x0⟩,  -- SWC_ECN
  ⟨0x1800200, 8, 4, 0x0, 0xFFFFFFFFFFFF, 0x0, 0x0, 0x0, 0x0⟩,  -- SWC_DIE
  ⟨0x1800300, 8, 16, 0x0, 0xFFFFFFFFFFFFFFFF, 0x0, 0x0, 0x0, 0x0⟩,  -- SWC_FENCE
  ⟨0x1800400, 8, 4, 0x0, 0xFFFFFFFFFFFFFFFF, 0x0, 0x0, 0x0, 0x0⟩,  -- SWC_PUSHOUT
  ⟨0x1800420, 8, 4, 0x0, 0xFFFFFFFFFFFFFFFF, 0x0, 0x0, 0x0, 0x0⟩,  -- SWC_TRUNC
  ⟨0x1800440, 8, 4, 0x0, 0xFFFFFFFFFFFFFFFF, 0x0, 0x0, 0x0, 0x0⟩,  -- SWC_RESEQ_LOST
  ⟨0x1800460, 8, 1, 0x0, 0xFFFFFFFFFFFFFFFF, 0x0, 0x0, 0x0, 0x0⟩,  -- SWC_MC_SUPP
  ⟨0x1810000, 8, 65536, 0x0, 0xFFFFFF, 0x0, 0x0, 0x0, 0x0⟩,  -- SWC_VOQ
  ⟨0x1910000, 8, 576, 0x0, 0xFFFFFF, 0x0, 0x0, 0x0, 0x0⟩  -- SWC_IVOQ
  ]

/-- Register rows: chapter 7. -/
def regsTables : List RegDesc :=
  [
  ⟨0x800000, 8, 1, 0x0, 0x1FFFFF, 0x0, 0x1FFFFF, 0x0, 0x0⟩,  -- TBL_SELF
  ⟨0x800008, 8, 1, 0x0, 0xFFFFFFFFFFFF, 0xFFFFFFFFFFFF, 0x0, 0x0, 0x0⟩,  -- TBL_RMAC
  ⟨0x800010, 8, 1, 0x0, 0x1FFFFFFFF, 0x0, 0x1FFFFFFFF, 0x0, 0x0⟩,  -- TBL_HASH
  ⟨0x800018, 8, 1, 0x3E8, 0xFFFFFFFF0000FFFF, 0xFFFF0000FFFF, 0x0, 0x0, 0x0⟩,  -- TBL_L2
  ⟨0x800020, 8, 1, 0x0, 0xFFFFFFFFFFFFFFFF, 0x0, 0x0, 0x0, 0x0⟩,  -- TBL_EPOCH
  ⟨0x800028, 8, 1, 0x0, 0xFFFFFFFF, 0x0, 0x0, 0x0, 0x0⟩,  -- TBL_MARK
  ⟨0x800048, 8, 7, 0x0, 0xFFFFFF, 0x0, 0x0, 0x0, 0x0⟩,  -- TBL_USED
  ⟨0x800080, 8, 1, 0x0, 0xFFFFFFFFFFFFFFFF, 0x0, 0x0, 0x0, 0x0⟩,  -- TBL_L2_LEARN_DROP
  ⟨0x800088, 8, 1, 0x0, 0xFFFFFFFFFFFFFFFF, 0x0, 0x0, 0x0, 0x0⟩,  -- TBL_L2_MOVE
  ⟨0x800090, 8, 1, 0x0, 0xFFFFFFFFFFFFFFFF, 0x0, 0x0, 0x0, 0x0⟩,  -- TBL_NACK_RX
  ⟨0x800098, 8, 1, 0x0, 0xFFFFFFFFFFFFFFFF, 0x0, 0x0, 0x0, 0x0⟩,  -- TBL_ORIG_DROP
  ⟨0x800100, 8, 24, 0x0, 0xFFFFFFFFFFFFFFFF, 0xFFFFFFFFFFFFFFFF, 0x0, 0x0, 0x0⟩,  -- TBL_CMD_W
  ⟨0x8001C0, 8, 1, 0x0, 0x1, 0x0, 0x0, 0x0, 0x1⟩,  -- TBL_CMD_GO
  ⟨0x8001C8, 8, 1, 0x0, 0x1, 0x0, 0x0, 0x0, 0x0⟩,  -- TBL_CMD_STAT
  ⟨0x800200, 8, 26, 0x0, 0xFFFFFFFFFFFFFFFF, 0x0, 0x0, 0x0, 0x0⟩,  -- TBL_RES_W
  ⟨0x800300, 8, 1, 0x0, 0x88F0FF00FFFFFF03, 0x0, 0xF0FF00FFFFFF03, 0x0, 0x0⟩,  -- TBL_RAW_CMD
  ⟨0x800400, 8, 24, 0x0, 0xFFFFFFFFFFFFFFFF, 0x0, 0xFFFFFFFFFFFFFFFF, 0x0, 0x0⟩  -- TBL_RAW_W
  ]

/-- Register rows: chapter 8. -/
def regsTraffic : List RegDesc :=
  [
  ⟨0x1C00000, 8, 1, 0x0, 0x1, 0x1, 0x0, 0x0, 0x0⟩,  -- TM_SHP
  ⟨0x1C00008, 8, 1, 0x0, 0xFFFF003F, 0xFFFF003F, 0x0, 0x0, 0x0⟩,  -- TM_NODE_SEL
  ⟨0x1C00010, 8, 1, 0x1, 0xFFFFFFFFFFFF01FF, 0xFFFFFFFFFFFF01FF, 0x0, 0x0, 0x0⟩,  -- TM_NODE_DATA
  ⟨0x1C00018, 8, 1, 0x0, 0x3, 0x0, 0x0, 0x0, 0x3⟩,  -- TM_NODE_CMD
  ⟨0x1C00020, 8, 1, 0x0, 0xFFFFFFFFFFFFFFFF, 0x0, 0x0, 0x0, 0x0⟩,  -- TM_NODE_TOK
  ⟨0x1C00040, 8, 1, 0x101010101010101, 0xFFFFFFFFFFFFFFFF, 0xFFFFFFFFFFFFFFFF, 0x0, 0x0, 0x0⟩,  -- TM_WSET_W0
  ⟨0x1C00048, 8, 1, 0x101010101010101, 0xFFFFFFFFFFFFFFFF, 0xFFFFFFFFFFFFFFFF, 0x0, 0x0, 0x0⟩,  -- TM_WSET_W1
  ⟨0x1C00050, 8, 1, 0x303, 0xFFFF, 0xFFFF, 0x0, 0x0, 0x0⟩,  -- TM_WSET_STRICT
  ⟨0x1C00058, 8, 1, 0x0, 0x8000000003FF03FF, 0x0, 0x0, 0x0, 0x8000000003FF03FF⟩,  -- TM_WSET_CMD
  ⟨0x1C00060, 8, 1, 0x0, 0x1, 0x0, 0x0, 0x0, 0x0⟩,  -- TM_WSET_STAT
  ⟨0x1C00100, 8, 1, 0x0, 0x3FFF, 0x3FFF, 0x0, 0x0, 0x0⟩,  -- TM_MTR_SEL
  ⟨0x1C00108, 8, 1, 0x0, 0xFFFFFFFFFFFF, 0xFFFFFFFFFFFF, 0x0, 0x0, 0x0⟩,  -- TM_MTR_CFG0
  ⟨0x1C00110, 8, 1, 0x0, 0xFFFFFFFFFFFFFFFF, 0xFFFFFFFFFFFFFFFF, 0x0, 0x0, 0x0⟩,  -- TM_MTR_CFG1
  ⟨0x1C00118, 8, 1, 0x0, 0x3, 0x0, 0x0, 0x0, 0x3⟩,  -- TM_MTR_CMD
  ⟨0x1C00120, 8, 1, 0x0, 0xFFFFFFFFFFFFFFFF, 0x0, 0x0, 0x0, 0x0⟩,  -- TM_MTR_CNT_G
  ⟨0x1C00128, 8, 1, 0x0, 0xFFFFFFFFFFFFFFFF, 0x0, 0x0, 0x0, 0x0⟩,  -- TM_MTR_CNT_Y
  ⟨0x1C00130, 8, 1, 0x0, 0xFFFFFFFFFFFFFFFF, 0x0, 0x0, 0x0, 0x0⟩,  -- TM_MTR_CNT_R
  ⟨0x1D00000, 8, 131072, 0xFFFF000003E8, 0xFFFFFFFFFFFF, 0xFFFFFFFFFFFF, 0x0, 0x0, 0x0⟩  -- TM_GCL
  ]

/-- Register rows: chapter 9. -/
def regsBypass : List RegDesc :=
  [
  ⟨0x2000000, 8, 1, 0x1800, 0xFFFF, 0xFFFF, 0x0, 0x0, 0x0⟩,  -- BYP_CTRL
  ⟨0x2000008, 8, 1, 0x0, 0xFFFFFFFFFFFFFFFF, 0x0, 0x0, 0x0, 0x0⟩,  -- BYP_SLOT
  ⟨0x2000010, 8, 1, 0x0, 0xFFFFFFFFFFFFFFFF, 0x0, 0x0, 0x0, 0x0⟩,  -- BYP_ORIGIN
  ⟨0x2000018, 8, 1, 0x0, 0x3FF, 0x3FF, 0x0, 0x0, 0x0⟩,  -- BYP_MAP_SEL
  ⟨0x2000020, 8, 1, 0x0, 0x3FF03FF0003, 0x3FF03FF0003, 0x0, 0x0, 0x0⟩,  -- BYP_MAP_DATA
  ⟨0x2000028, 8, 1, 0x0, 0x3F, 0x0, 0x0, 0x0, 0x3F⟩,  -- BYP_MAP_CMD
  ⟨0x2000030, 8, 1, 0x0, 0xFFFFFFFFFFFFFFFF, 0xFFFFFFFFFFFFFFFF, 0x0, 0x0, 0x0⟩,  -- BYP_COMMIT_AT
  ⟨0x2000038, 8, 1, 0x0, 0xFF0303FF03FF0000, 0x0, 0x0, 0x0, 0x0⟩,  -- BYP_STAT
  ⟨0x2001000, 8, 1024, 0x8000000000000000, 0xFFFF03FF1FFF0000, 0x0, 0x0, 0x0, 0x0⟩,  -- BYP_LANE
  ⟨0x2003000, 8, 128, 0x0, 0x3FFFFFFFF, 0x0, 0x0, 0x0, 0x0⟩,  -- BYP_FIBRE
  ⟨0x2004000, 8, 8, 0x0, 0xFFFFFFFFFFFFFFFF, 0x0, 0x0, 0x0, 0x0⟩,  -- BYP_GRANT
  ⟨0x2004040, 8, 1, 0x0, 0xFFFFFFFFFFFFFFFF, 0x0, 0x0, 0x0, 0x0⟩  -- BYP_REQ_IGN
  ]

/-- Register rows: chapter 10. -/
def regsReduction : List RegDesc :=
  [
  ⟨0x2400008, 8, 1, 0x0, 0xFF7FFFFFFF73FF7, 0xFF7FFFFFFF73FF7, 0x0, 0x0, 0x0⟩,  -- PIC_GRP_W0
  ⟨0x2400010, 8, 1, 0x0, 0x1FFFFF001FFFFF, 0x1FFFFF001FFFFF, 0x0, 0x0, 0x0⟩,  -- PIC_GRP_W1
  ⟨0x2400018, 8, 1, 0x0, 0xFFFFFFFF0000FFFF, 0xFFFFFFFF0000FFFF, 0x0, 0x0, 0x0⟩,  -- PIC_GRP_W2
  ⟨0x2400020, 8, 1, 0x0, 0xFFFFFFFFFFFFFFFF, 0xFFFFFFFFFFFFFFFF, 0x0, 0x0, 0x0⟩,  -- PIC_GRP_W3
  ⟨0x2400028, 8, 1, 0x0, 0xFF3F7FFFFF, 0x3F7FFFFF, 0x0, 0x0, 0x0⟩,  -- PIC_GRP_W4
  ⟨0x2400030, 8, 1, 0x0, 0xFFFFFFFFFFFF, 0xFFFFFFFFFFFF, 0x0, 0x0, 0x0⟩,  -- PIC_GRP_W5
  ⟨0x2400000, 8, 1, 0x0, 0xFFFF, 0xFFFF, 0x0, 0x0, 0x0⟩,  -- PIC_GRP_SEL
  ⟨0x2400040, 8, 1, 0x0, 0x3, 0x0, 0x0, 0x0, 0x3⟩,  -- PIC_GRP_CMD
  ⟨0x2400048, 8, 1, 0x0, 0x1FF, 0x0, 0x0, 0x0, 0x0⟩,  -- PIC_GRP_STAT
  ⟨0x2400100, 8, 4, 0x0, 0x1FFFFF00003FFF, 0x0, 0x0, 0x0, 0x0⟩,  -- PIC_DIE
  ⟨0x2400200, 8, 32, 0x0, 0x3FFFFFFFF, 0x0, 0x0, 0x0, 0x0⟩,  -- PIC_ENG
  ⟨0x2400300, 8, 1, 0x0, 0x3F, 0x0, 0x0, 0x0, 0x3F⟩,  -- PIC_ENG_CMD
  ⟨0x2400400, 8, 1, 0x0, 0xFFFFFFFFFFFFFFFF, 0x0, 0x0, 0x0, 0x0⟩,  -- PIC_DROP_NOGROUP
  ⟨0x2400408, 8, 1, 0x0, 0xFFFFFFFFFFFFFFFF, 0x0, 0x0, 0x0, 0x0⟩,  -- PIC_DROP_FOREIGN
  ⟨0x2400410, 8, 1, 0x0, 0xFFFFFFFFFFFFFFFF, 0x0, 0x0, 0x0, 0x0⟩,  -- PIC_DROP_CTX
  ⟨0x2400418, 8, 1, 0x0, 0xFFFFFFFFFFFFFFFF, 0x0, 0x0, 0x0, 0x0⟩,  -- PIC_DROP_CHAN
  ⟨0x2400420, 8, 1, 0x0, 0xFFFFFFFFFFFFFFFF, 0x0, 0x0, 0x0, 0x0⟩,  -- PIC_DROP_NONMEMBER
  ⟨0x2400428, 8, 1, 0x0, 0xFFFFFFFFFFFFFFFF, 0x0, 0x0, 0x0, 0x0⟩,  -- PIC_DROP_RANGE
  ⟨0x2400430, 8, 1, 0x0, 0xFFFFFFFFFFFFFFFF, 0x0, 0x0, 0x0, 0x0⟩,  -- PIC_DROP_LATE
  ⟨0x2400438, 8, 1, 0x0, 0xFFFFFFFFFFFFFFFF, 0x0, 0x0, 0x0, 0x0⟩,  -- PIC_SEALS
  ⟨0x2400440, 8, 1, 0x0, 0xFFFFFFFFFFFFFFFF, 0x0, 0x0, 0x0, 0x0⟩,  -- PIC_ABORTS
  ⟨0x2400448, 8, 1, 0x0, 0xFFFFFFFFFFFFFFFF, 0x0, 0x0, 0x0, 0x0⟩,  -- PIC_RESENDS
  ⟨0x2408000, 16, 1024, 0x0, 0xFFFFFFFFFFFFFFFF, 0x0, 0x0, 0x0, 0x0⟩,  -- PIC_CTX
  ⟨0x2408008, 16, 1024, 0x0, 0x1FFFFF, 0x0, 0x0, 0x0, 0x0⟩,  -- PIC_CTXM
  ⟨0x2410000, 32, 1024, 0x0, 0xFFFFFFFFFFFFFFFF, 0x0, 0x0, 0x0, 0x0⟩,  -- PIC_LOG
  ⟨0x2410008, 32, 1024, 0x0, 0xFFFFFFFFFFFFFFFF, 0xFFFFFFFFFFFFFFFF, 0x0, 0x0, 0x0⟩,  -- PIC_LOGTRIM
  ⟨0x2410010, 32, 1024, 0x0, 0xFFFFFFFFFFFFFFFF, 0x0, 0x0, 0x0, 0x0⟩  -- PIC_LOGMIR
  ]

/-- Register rows: chapter 11. -/
def regsBobbin : List RegDesc :=
  [
  ⟨0x2800000, 8, 1, 0x0, 0x33F, 0x0, 0x0, 0x0, 0x33F⟩,  -- BOB_RGN_CMD
  ⟨0x2800008, 8, 1, 0x0, 0x1FF, 0x0, 0x0, 0x0, 0x0⟩,  -- BOB_RGN_CMDSTAT
  ⟨0x2800100, 8, 64, 0x0, 0xF1FFFF0FFFFFFF7, 0x0, 0x0, 0x0, 0x0⟩,  -- BOB_RGN_STAT
  ⟨0x2800400, 8, 64, 0x0, 0xFFFFFFFFFFFFFFFF, 0x0, 0x0, 0x0, 0x0⟩,  -- BOB_RX_DROP
  ⟨0x2800600, 8, 64, 0x0, 0xFFFFFFFFFFFFFFFF, 0x0, 0x0, 0x0, 0x0⟩,  -- BOB_TOK_DROP
  ⟨0x2800800, 8, 64, 0x0, 0xFFFFFFFFFFFFFFFF, 0x0, 0x0, 0x0, 0x0⟩  -- BOB_SEND
  ]

/-- Register rows: chapter 13. -/
def regsMemory : List RegDesc :=
  [
  ⟨0x2C00000, 8, 1, 0x0, 0x1FFFF03FF, 0x1FFFF03FF, 0x0, 0x0, 0x0⟩,  -- MEM_MAP_SEL
  ⟨0x2C00008, 8, 1, 0x0, 0xC007000000001FFF, 0x0, 0x0, 0x0, 0x0⟩,  -- MEM_MAP_DATA
  ⟨0x2C00100, 8, 8, 0x1180, 0x1FFF1FFF, 0x0, 0x0, 0x0, 0x0⟩,  -- MEM_DIE
  ⟨0x2C00200, 8, 1, 0x0, 0xFFFFFFFF0000FFFF, 0x0, 0x0, 0x0, 0x0⟩,  -- MEM_SCRUB
  ⟨0x2C00300, 8, 1, 0x0, 0xFFFFFFFFFFFFFFFF, 0x0, 0x0, 0x0, 0x0⟩,  -- MEM_OS_DENY
  ⟨0x2C00308, 8, 1, 0x0, 0xFFFFFFFFFFFFFFFF, 0x0, 0x0, 0x0, 0x0⟩,  -- MEM_OS_BAD
  ⟨0x2C00310, 8, 1, 0x0, 0xFFFFFFFFFFFFFFFF, 0x0, 0x0, 0x0, 0x0⟩,  -- MEM_OS_UE
  ⟨0x2C01000, 8, 1024, 0x0, 0xFFFFFFFFFFFFFFFF, 0x0, 0x0, 0x0, 0x0⟩,  -- MEM_CTX
  ⟨0x2C03000, 8, 1024, 0x0, 0x8000FFFF0000FFFF, 0x8000FFFF0000FFFF, 0x0, 0x0, 0x0⟩,  -- MEM_WC
  ⟨0x2C10000, 8, 640, 0x0, 0x1FFF, 0x0, 0x0, 0x0, 0x0⟩,  -- MEM_CH
  ⟨0x2C20000, 8, 640, 0x0, 0xFFFFFFFFFFFFFFFF, 0x0, 0x0, 0x0, 0x0⟩,  -- MEM_CE
  ⟨0x2C30000, 8, 640, 0x0, 0xFFFFFFFFFFFFFFFF, 0x0, 0x0, 0x0, 0x0⟩  -- MEM_UE
  ]

/-- Register rows: chapter 14. -/
def regsTime : List RegDesc :=
  [
  ⟨0x300000, 8, 1, 0x0, 0xFFFFFFFFFFFF, 0x0, 0x0, 0x0, 0x0⟩,  -- TB_SEC
  ⟨0x300008, 8, 1, 0x0, 0xFFFFFFFFFFFF, 0x0, 0x0, 0x0, 0x0⟩,  -- TB_NS
  ⟨0x300010, 8, 1, 0x0, 0xFFFFFFFF, 0x0, 0x0, 0x0, 0x0⟩,  -- TB_SHORT
  ⟨0x300018, 8, 1, 0x0, 0xFFFFFFFFFFFF, 0x0, 0xFFFFFFFFFFFF, 0x0, 0x0⟩,  -- TB_SET_SEC
  ⟨0x300020, 8, 1, 0x0, 0xFFFFFFFF, 0x0, 0xFFFFFFFF, 0x0, 0x0⟩,  -- TB_SET_NS
  ⟨0x300028, 8, 1, 0x0, 0xFFFFFFFFFFFFFFFF, 0xFFFFFFFFFFFFFFFF, 0x0, 0x0, 0x0⟩,  -- TB_OFFSET
  ⟨0x300030, 8, 1, 0x400000040000, 0xFFFFFFFFFFFFFFFF, 0xFFFFFFFFFFFFFFFF, 0x0, 0x0, 0x0⟩,  -- TB_GAIN
  ⟨0x300038, 8, 1, 0x3E8000200002710, 0xFFFF0003FFFFFFFF, 0xFFFF0003FFFFFFFF, 0x0, 0x0, 0x0⟩,  -- TB_SERVO
  ⟨0x300040, 8, 1, 0x0, 0xFFFFFFFF, 0x0, 0x0, 0x0, 0x0⟩,  -- TB_RATE
  ⟨0x300048, 8, 1, 0x0, 0xFFFFFFFFFFFFFFFF, 0x0, 0x0, 0x0, 0x0⟩,  -- TB_LAST
  ⟨0x300050, 8, 1, 0x0, 0x3F, 0x0, 0x0, 0x20, 0x0⟩,  -- TB_STAT
  ⟨0x300100, 8, 1, 0x0, 0xFF, 0xFF, 0x0, 0x0, 0x0⟩,  -- TB_CAP_CTRL
  ⟨0x300108, 8, 1, 0x0, 0xFFFFFFFF000001FF, 0x0, 0x0, 0x0, 0x0⟩,  -- TB_CAP_STAT
  ⟨0x300110, 8, 1, 0x0, 0x1, 0x0, 0x0, 0x0, 0x1⟩,  -- TB_CAP_POP
  ⟨0x300118, 8, 6, 0x0, 0xFFFFFFFFFFFFFFFF, 0x0, 0x0, 0x0, 0x0⟩,  -- TB_CAP_W
  ⟨0x301000, 16, 64, 0x0, 0xFFFFFFFFFFFFFFFF, 0xFFFFFFFFFFFFFFFF, 0x0, 0x0, 0x0⟩,  -- TB_TRIG_T
  ⟨0x301008, 16, 64, 0x0, 0xE3FFFFFF80000000, 0x83FFFFFF80000000, 0x0, 0x4000000000000000, 0x0⟩  -- TB_TRIG_C
  ]

/-- Register rows: chapter 15. -/
def regsFaults : List RegDesc :=
  [
  ⟨0x3800000, 8, 1, 0x0, 0x1, 0x1, 0x0, 0x0, 0x0⟩,  -- FLT_CTRL
  ⟨0x3800008, 8, 1, 0x0, 0xFFFFF, 0xFFFFF, 0x0, 0x0, 0x0⟩,  -- FLT_CHIP_SEL
  ⟨0x3800010, 8, 1, 0x0, 0x300FF, 0x100FF, 0x0, 0x0, 0x0⟩,  -- FLT_CHIP_DATA
  ⟨0x3800018, 8, 1, 0x0, 0x7, 0x0, 0x0, 0x0, 0x7⟩,  -- FLT_CHIP_CMD
  ⟨0x3800020, 8, 1, 0x0, 0x1FF, 0x0, 0x0, 0x0, 0x0⟩,  -- FLT_CHIP_STAT
  ⟨0x3800028, 8, 1, 0x0, 0x3FF0003, 0x0, 0x0, 0x0, 0x3FF0003⟩,  -- FLT_PORT_CMD
  ⟨0x3800030, 8, 1, 0x1B580, 0xFFFFFF, 0x0, 0x0, 0x0, 0x0⟩,  -- FLT_XDIE
  ⟨0x3800040, 8, 8, 0x0, 0xFFFFFFFFFFFF0F07, 0x0, 0x0, 0x0, 0x0⟩,  -- FLT_DIE
  ⟨0x3800100, 8, 32, 0x0, 0xFF000000FF07, 0x0, 0x0, 0x0, 0x0⟩,  -- FLT_BUNDLE
  ⟨0x3800200, 8, 32, 0x0, 0xFFFFFFFFFFFFFFFF, 0x0, 0x0, 0x0, 0x0⟩,  -- FLT_REPLAY
  ⟨0x3800300, 8, 1, 0x0, 0xFFFFFFFFFFFFFFFF, 0x0, 0x0, 0x0, 0x0⟩,  -- FLT_DROP_FENCED
  ⟨0x3800308, 8, 1, 0x0, 0xFFFFFFFFFFFFFFFF, 0x0, 0x0, 0x0, 0x0⟩,  -- FLT_DROP_OLDINC
  ⟨0x3800310, 8, 1, 0x0, 0xFFFFFFFFFFFFFFFF, 0x0, 0x0, 0x0, 0x0⟩,  -- FLT_DROP_NEWINC
  ⟨0x3800318, 8, 1, 0x0, 0xFFFFFFFFFFFFFFFF, 0x0, 0x0, 0x0, 0x0⟩,  -- FLT_EVIDENCE
  ⟨0x3800320, 8, 1, 0x0, 0xFFFFFFFFFFFFFFFF, 0x0, 0x0, 0x0, 0x0⟩,  -- FLT_DROP_DIE
  ⟨0x3800328, 8, 1, 0x0, 0xFFFFFFFFFFFFFFFF, 0x0, 0x0, 0x0, 0x0⟩,  -- FLT_BC_DROP
  ⟨0x3800400, 8, 1, 0x0, 0x3F, 0x3F, 0x0, 0x0, 0x0⟩,  -- FLT_BC_SEL
  ⟨0x3800408, 8, 1, 0x0, 0x800000FFFFFF03FF, 0x800000FFFFFF03FF, 0x0, 0x0, 0x0⟩,  -- FLT_BC_W0
  ⟨0x3800410, 8, 1, 0x0, 0xFFFFFFFFFFFF, 0xFFFFFFFFFFFF, 0x0, 0x0, 0x0⟩,  -- FLT_BC_W1
  ⟨0x3800418, 8, 1, 0x0, 0xFFFF00FFFFFFFFFF, 0xFFFF00FFFFFFFFFF, 0x0, 0x0, 0x0⟩,  -- FLT_BC_W2
  ⟨0x3800420, 8, 1, 0x0, 0xFFFFFFFFFFFFFFFF, 0xFFFFFFFFFFFFFFFF, 0x0, 0x0, 0x0⟩,  -- FLT_BC_W3
  ⟨0x3800428, 8, 1, 0x10000, 0xFFFFF0FFFFF3FFFF, 0xFFFFF0FFFFF3FFFF, 0x0, 0x0, 0x0⟩,  -- FLT_BC_W4
  ⟨0x3800430, 8, 1, 0x0, 0x7, 0x0, 0x0, 0x0, 0x7⟩,  -- FLT_BC_CMD
  ⟨0x3800438, 8, 1, 0x0, 0x1FF, 0x0, 0x0, 0x0, 0x0⟩,  -- FLT_BC_STAT
  ⟨0x3800500, 8, 64, 0x0, 0xFFFFFF00FFFF0007, 0x0, 0x0, 0x0, 0x0⟩  -- FLT_BC_S
  ]

/-- Register rows: chapter 16. -/
def regsSecurity : List RegDesc :=
  [
  ⟨0x3C00000, 8, 1, 0x0, 0x3, 0x0, 0x0, 0x0, 0x0⟩,  -- SEC_LIFE
  ⟨0x3C00008, 8, 1, 0x0, 0xFFFFFFFFFFFFFFFF, 0x0, 0x0, 0x0, 0x0⟩,  -- SEC_SERIAL_LO
  ⟨0x3C00010, 8, 1, 0x0, 0xFFFFFFFFFFFFFFFF, 0x0, 0x0, 0x0, 0x0⟩,  -- SEC_SERIAL_HI
  ⟨0x3C00018, 8, 1, 0x0, 0xFF, 0xFF, 0x0, 0x0, 0x0⟩,  -- SEC_SELF
  ⟨0x3C00020, 8, 1, 0x0, 0xFFFFFFFFFFFFFFFF, 0x0, 0x0, 0x0, 0x0⟩,  -- SEC_FLOOR
  ⟨0x3C00028, 8, 1, 0x0, 0xFFFFFFFFFFFFFFFF, 0x0, 0x0, 0x0, 0x0⟩,  -- SEC_AUTH_FAIL
  ⟨0x3C00030, 8, 1, 0x0, 0x7FFF, 0x0, 0x0, 0x0, 0x0⟩  -- SEC_KEYS
  ]

/-- Register rows: chapter 17. -/
def regsHost : List RegDesc :=
  [
  ⟨0x1000, 64, 4, 0x0, 0xFFFFFFFFFFFFFFFF, 0xFFFFFFFFFFFFFFFF, 0x0, 0x0, 0x0⟩,  -- CTL_DQ_SBASE
  ⟨0x1008, 64, 4, 0x0, 0xFFFFFFFFFFFFFFFF, 0xFFFFFFFFFFFFFFFF, 0x0, 0x0, 0x0⟩,  -- CTL_DQ_CBASE
  ⟨0x1010, 64, 4, 0x4, 0x11F, 0x11F, 0x0, 0x0, 0x0⟩,  -- CTL_DQ_CFG
  ⟨0x1018, 64, 4, 0x0, 0xFFFFFFFF, 0xFFFFFFFF, 0x0, 0x0, 0x0⟩,  -- CTL_DQ_TAIL
  ⟨0x1020, 64, 4, 0x0, 0xFFFFFFFF, 0x0, 0x0, 0x0, 0x0⟩,  -- CTL_DQ_HEAD
  ⟨0x1028, 64, 4, 0x0, 0xFF01, 0x0, 0x0, 0x0, 0x0⟩,  -- CTL_DQ_STAT
  ⟨0x100000, 8, 1, 0xE0C0A080604020, 0xFFFFFFFFFFFFFF, 0xFFFFFFFFFFFFFF, 0x0, 0x0, 0x0⟩,  -- IC_TIERS
  ⟨0x100008, 8, 1, 0x0, 0xFFF, 0x0, 0x0, 0x0, 0xFFF⟩,  -- IC_DOORBELL
  ⟨0x100010, 8, 1, 0x0, 0xFFFFFFFFFFFFFFFF, 0x0, 0x0, 0x0, 0x0⟩,  -- IC_MERGED
  ⟨0x100100, 8, 5, 0x0, 0x8000000000000FFF, 0x0, 0x0, 0x0, 0x0⟩,  -- IC_CLAIM
  ⟨0x100180, 8, 5, 0x0, 0xFFF, 0x0, 0x0, 0x0, 0xFFF⟩,  -- IC_EOI
  ⟨0x100200, 8, 5, 0x0, 0xFFF, 0x0, 0x0, 0x0, 0x0⟩,  -- IC_RUN
  ⟨0x101000, 8, 4096, 0x80, 0x387FF07FF, 0x87FF07FF, 0x0, 0x0, 0x0⟩,  -- IC_SRC
  ⟨0x200000, 8, 1, 0x0, 0xFFFFFFFFFFFFFFFF, 0x0, 0x0, 0x0, 0x0⟩,  -- EVR_NEXT
  ⟨0x200008, 8, 1, 0x0, 0xFFFFFFFFFFFFFFFF, 0x0, 0x0, 0x0, 0x0⟩,  -- EVR_FIRST
  ⟨0x200010, 8, 1, 0x0, 0x1FFF, 0x0, 0x0, 0x0, 0x0⟩,  -- EVR_PERM
  ⟨0x200018, 8, 1, 0x0, 0xFFFFFFFFFFFFFFFF, 0x0, 0x0, 0x0, 0x0⟩,  -- EVR_CLRSEQ
  ⟨0x200020, 8, 1, 0x0, 0xFFFFFFFFFFFFFFFF, 0xFFFFFFFFFFFFFFFF, 0x0, 0x0, 0x0⟩,  -- EVR_SEL
  ⟨0x200028, 8, 1, 0x0, 0xFFF, 0xFFF, 0x0, 0x0, 0x0⟩,  -- EVR_PSEL
  ⟨0x200030, 8, 1, 0x0, 0x1FFFF, 0x1FFFF, 0x0, 0x0, 0x0⟩,  -- EVR_WMARK
  ⟨0x200038, 8, 1, 0x0, 0xFFFFFFFFFFFFFFFF, 0x0, 0x0, 0x0, 0x0⟩,  -- EVR_LOST
  ⟨0x200040, 8, 8, 0x0, 0xFFFFFFFFFFFFFFFF, 0x0, 0x0, 0x0, 0x0⟩  -- EVR_REC_W
  ]

/-- Register rows: chapter 18. -/
def regsObservability : List RegDesc :=
  [
  ⟨0x3600000, 8, 1, 0x64000000000000, 0xFFFFFFFFFFFF0003, 0xFFFFFFFFFFFF0003, 0x0, 0x0, 0x0⟩,  -- TEL_CTRL
  ⟨0x3600008, 8, 1, 0x0, 0xFFFFFFFFFFFFFFFF, 0xFFFFFFFFFFFFFFFF, 0x0, 0x0, 0x0⟩,  -- TEL_SDST_HI
  ⟨0x3600010, 8, 1, 0x0, 0xFFFFFFFFFFFFFFFF, 0xFFFFFFFFFFFFFFFF, 0x0, 0x0, 0x0⟩,  -- TEL_SDST_LO
  ⟨0x3600018, 8, 1, 0x0, 0xFFFFFFFFFFFFFFFF, 0xFFFFFFFFFFFFFFFF, 0x0, 0x0, 0x0⟩,  -- TEL_WDST_HI
  ⟨0x3600020, 8, 1, 0x0, 0xFFFFFFFFFFFFFFFF, 0xFFFFFFFFFFFFFFFF, 0x0, 0x0, 0x0⟩,  -- TEL_WDST_LO
  ⟨0x3600030, 8, 1, 0x0, 0xFFFFFFFFFFFFFFFF, 0x0, 0x0, 0x0, 0x0⟩,  -- TEL_LOST
  ⟨0x3600100, 8, 64, 0x0, 0x80000000000003FF, 0x80000000000003FF, 0x0, 0x0, 0x0⟩,  -- TEL_WATCH
  ⟨0x3400000, 8, 1024, 0x0, 0xFFFFFFFFFFFFFFFF, 0xFFFFFFFFFFFFFFFF, 0x0, 0x0, 0x0⟩,  -- PMC_CTXPUB
  ⟨0x3420000, 8, 4352, 0x0, 0xFFFFFFFFFFFFFFFF, 0x0, 0x0, 0x0, 0x0⟩,  -- PMC_EVT
  ⟨0x3480000, 8, 65536, 0x0, 0xFFFFFFFFFFFFFFFF, 0x0, 0x0, 0x0, 0x0⟩,  -- PMC_CTXPAGE
  ⟨0x3440000, 8, 8192, 0x0, 0xFFFFFFFFFFFFFFFF, 0x0, 0x0, 0x0, 0x0⟩,  -- PMC_TD
  ⟨0x3418000, 8, 64, 0x0, 0xFFFFFFFFFFFFFFFF, 0x0, 0x0, 0x0, 0x0⟩,  -- PMC_STALE_RGN
  ⟨0x3418200, 8, 64, 0x0, 0xFFFFFFFFFFFFFFFF, 0x0, 0x0, 0x0, 0x0⟩  -- PMC_STORE_CE
  ]

/-- Register rows: chapter 19. -/
def regsStartUp : List RegDesc :=
  [
  ⟨0x400, 8, 1, 0xF00, 0xF07, 0x0, 0x0, 0x0, 0x0⟩,  -- CTL_BOOT
  ⟨0x408, 8, 1, 0x0, 0x7, 0x0, 0x0, 0x0, 0x7⟩,  -- CTL_MODE_CMD
  ⟨0x410, 8, 1, 0x0, 0x1FF, 0x0, 0x0, 0x0, 0x0⟩,  -- CTL_MODE_STAT
  ⟨0x418, 8, 1, 0x0, 0x3FF0F03, 0x0, 0x0, 0x0, 0x3FF0F03⟩,  -- CTL_TEST_CMD
  ⟨0x420, 8, 1, 0x0, 0xFFFFFFFFFCFFFF03, 0x0, 0x0, 0x0, 0x0⟩,  -- CTL_TEST_STAT
  ⟨0x428, 8, 1, 0x0, 0xFFFFFF, 0x0, 0x0, 0x0, 0x0⟩,  -- CTL_TEST_RES0
  ⟨0x430, 8, 1, 0x0, 0xFFFFFFFFFF, 0x0, 0x0, 0x0, 0x0⟩,  -- CTL_TEST_RES1
  ⟨0x438, 8, 1, 0x0, 0x1, 0x1, 0x0, 0x0, 0x0⟩  -- CTL_IND
  ]

/-- Register rows: chapter 21. -/
def regsRegisterMap : List RegDesc :=
  [
  ⟨0x0, 8, 1, 0x563100000000, 0xFFFFFF000000, 0x0, 0x0, 0x0, 0x0⟩,  -- CTL_ID
  ⟨0x8, 8, 1, 0x0, 0xFFFFFFFF, 0x0, 0x0, 0x0, 0x0⟩,  -- CTL_FW
  ⟨0x10, 8, 1, 0x0, 0xFFFFFFFFFFFFFFFF, 0xFFFFFFFFFFFFFFFF, 0x0, 0x0, 0x0⟩,  -- CTL_SCRATCH
  ⟨0x48, 8, 1, 0x0, 0xC0FF000003FFFFFF, 0x0, 0x0, 0x8000000000000000, 0x0⟩,  -- CTL_WERR
  ⟨0x50, 8, 1, 0x0, 0xFFFFFFFFFFFFFFFF, 0x0, 0x0, 0x0, 0x0⟩,  -- CTL_WERR_DATA
  ⟨0x58, 8, 1, 0x0, 0xFFFFFFFFFFFFFFFF, 0x0, 0x0, 0x0, 0x0⟩,  -- CTL_WERR_CNT
  ⟨0x80, 8, 16, 0xF, 0x3F, 0x0, 0x0, 0x0, 0x20⟩  -- CTL_LOCK
  ]

/-- Register rows: the port page, offsets within the page. -/
def portRegs : List RegDesc :=
  [
  ⟨0x0, 8, 1, 0x5, 0xFF0F, 0x0, 0x0, 0x0, 0x0⟩,  -- PRT_STATE
  ⟨0x8, 8, 1, 0x0, 0x3, 0x0, 0x0, 0x0, 0x3⟩,  -- PRT_CMD
  ⟨0x10, 8, 1, 0x0, 0xFFFFFFFFFFFF00F3, 0xFFFFFFFFFFFF00F3, 0x0, 0x0, 0x0⟩,  -- PRT_NBR_EXP
  ⟨0x18, 8, 1, 0x0, 0xFFFFFFFFFFFFFFFF, 0xFFFFFFFFFFFFFFFF, 0x0, 0x0, 0x0⟩,  -- PRT_NBR_EXP_SER_LO
  ⟨0x20, 8, 1, 0x0, 0xFFFFFFFFFFFFFFFF, 0xFFFFFFFFFFFFFFFF, 0x0, 0x0, 0x0⟩,  -- PRT_NBR_EXP_SER_HI
  ⟨0x28, 8, 1, 0x0, 0xFFFFFFFFFFFF07F1, 0x0, 0x0, 0x0, 0x0⟩,  -- PRT_NBR_SEEN
  ⟨0x30, 8, 1, 0x0, 0xFFFFFFFFFFFFFFFF, 0x0, 0x0, 0x0, 0x0⟩,  -- PRT_NBR_SEEN_SER_LO
  ⟨0x38, 8, 1, 0x0, 0xFFFFFFFFFFFFFFFF, 0x0, 0x0, 0x0, 0x0⟩,  -- PRT_NBR_SEEN_SER_HI
  ⟨0x40, 8, 1, 0x0, 0xFFFFFFFFFFFF07, 0x0, 0x0, 0x0, 0x0⟩,  -- PRT_JLP
  ⟨0x48, 8, 1, 0x0, 0x7, 0x7, 0x0, 0x0, 0x0⟩,  -- PRT_ETH
  ⟨0x80, 8, 16, 0x0, 0xFFFFFFFFFF, 0x0, 0x0, 0x0, 0x0⟩,  -- PRT_CRD
  ⟨0x100, 8, 1, 0x0, 0xFFFFFFFFFFFFFFFF, 0x0, 0x0, 0x0, 0x0⟩,  -- PRT_RX_CRC
  ⟨0x108, 8, 1, 0x0, 0xFFFFFFFFFFFFFFFF, 0x0, 0x0, 0x0, 0x0⟩,  -- PRT_RX_HDR
  ⟨0x110, 8, 1, 0x0, 0xFFFFFFFFFFFFFFFF, 0x0, 0x0, 0x0, 0x0⟩,  -- PRT_RX_FIELD
  ⟨0x118, 8, 1, 0x0, 0xFFFFFFFFFFFFFFFF, 0x0, 0x0, 0x0, 0x0⟩,  -- PRT_RX_CREDIT
  ⟨0x120, 8, 1, 0x0, 0xFFFFFFFFFFFFFFFF, 0x0, 0x0, 0x0, 0x0⟩,  -- PRT_RX_CTRL
  ⟨0x128, 8, 1, 0x0, 0xFFFFFFFFFFFFFFFF, 0x0, 0x0, 0x0, 0x0⟩,  -- PRT_RX_SCRUB
  ⟨0x130, 8, 1, 0x0, 0xFFFFFFFFFFFFFFFF, 0x0, 0x0, 0x0, 0x0⟩,  -- PRT_ETH_SIZE
  ⟨0x138, 8, 1, 0x0, 0xFFFFFFFFFFFFFFFF, 0x0, 0x0, 0x0, 0x0⟩,  -- PRT_ETH_PRIO
  ⟨0x140, 8, 1, 0x0, 0xFFFFFFFFFFFFFFFF, 0x0, 0x0, 0x0, 0x0⟩,  -- PRT_PFC_TX
  ⟨0x148, 8, 1, 0x0, 0xFFFFFFFFFFFFFFFF, 0x0, 0x0, 0x0, 0x0⟩,  -- PRT_PFC_RX
  ⟨0x150, 8, 1, 0x0, 0xFFFFFFFFFFFFFFFF, 0x0, 0x0, 0x0, 0x0⟩,  -- PRT_RX_IDENT
  ⟨0x180, 8, 1, 0x0, 0xFFFFFFFFFFFFFFFF, 0x0, 0x0, 0x0, 0x0⟩,  -- PRT_DROP_ADM
  ⟨0x188, 8, 1, 0x0, 0xFFFFFFFFFFFFFFFF, 0x0, 0x0, 0x0, 0x0⟩,  -- PRT_DROP_PUSH
  ⟨0x190, 8, 1, 0x0, 0xFFFFFFFFFFFFFFFF, 0x0, 0x0, 0x0, 0x0⟩,  -- PRT_ECN_MARK
  ⟨0x198, 8, 1, 0x0, 0xFFFFFFFFFFFFFFFF, 0x0, 0x0, 0x0, 0x0⟩,  -- PRT_ECN_DROP
  ⟨0x1A0, 8, 1, 0x0, 0xFFFFFFFFFFFFFFFF, 0x0, 0x0, 0x0, 0x0⟩,  -- PRT_EGR_DROP
  ⟨0x1A8, 8, 1, 0x0, 0xFFFFFFFFFFFFFFFF, 0x0, 0x0, 0x0, 0x0⟩,  -- PRT_MC_SUPP
  ⟨0x200, 8, 1, 0x23EA00010800, 0xFFF3FFF0FFF3BFF, 0xFFF3FFF0FFF3BFF, 0x0, 0x0, 0x0⟩,  -- PRT_L3
  ⟨0x208, 8, 1, 0x0, 0xFFFFFFFFFFFFFFFF, 0x0, 0x0, 0x0, 0x0⟩,  -- PRT_LKUP_MISS
  ⟨0x210, 8, 1, 0x0, 0xFFFFFFFFFFFFFFFF, 0x0, 0x0, 0x0, 0x0⟩,  -- PRT_LKUP_DROP
  ⟨0x218, 8, 1, 0x0, 0xFFFFFFFFFFFFFFFF, 0x0, 0x0, 0x0, 0x0⟩,  -- PRT_LKUP_NOUP
  ⟨0x220, 8, 1, 0x0, 0xFFFFFFFFFFFFFFFF, 0x0, 0x0, 0x0, 0x0⟩,  -- PRT_IP_DROP
  ⟨0x228, 8, 1, 0x0, 0xFFFFFFFFFFFFFFFF, 0x0, 0x0, 0x0, 0x0⟩,  -- PRT_LKUP_SELF
  ⟨0x300, 8, 16, 0x0, 0x7FFF003F, 0x7FFF003F, 0x0, 0x0, 0x0⟩,  -- PRT_TMCLS
  ⟨0x380, 8, 1, 0x0, 0x1017F0000003F, 0x0, 0x0, 0x0, 0x0⟩,  -- PRT_GATE_STAT
  ⟨0x388, 8, 1, 0x0, 0xFFFFFFFFFFFFFFFF, 0xFFFFFFFFFFFFFFFF, 0x0, 0x0, 0x0⟩,  -- PRT_GATE_BASE
  ⟨0x390, 8, 1, 0x0, 0x37F, 0x0, 0x0, 0x0, 0x37F⟩,  -- PRT_GATE_CMD
  ⟨0x398, 8, 1, 0x0, 0xFFFFFFFFFFFFFFFF, 0x0, 0x0, 0x0, 0x0⟩,  -- PRT_GATE_DROP
  ⟨0x3A0, 8, 1, 0x0, 0xFFFFFFFFFFFFFFFF, 0x0, 0x0, 0x0, 0x0⟩  -- PRT_MTR_DROP
  ] ++
  [
  ⟨0x400, 8, 1, 0x1, 0x3, 0x3, 0x0, 0x0, 0x0⟩,  -- PRT_PTP
  ⟨0x408, 8, 1, 0x0, 0xFFFFFFFFFFFFFFFF, 0x0, 0x0, 0x0, 0x0⟩,  -- PRT_PTP_CORR
  ⟨0x480, 8, 1, 0x0, 0xFFFFFFFF0000000F, 0x0, 0x0, 0x0, 0x0⟩,  -- PRT_FENCE
  ⟨0x488, 8, 1, 0x0, 0xFFFFFFFFFFFFFFFF, 0x0, 0x0, 0x0, 0x0⟩,  -- PRT_DROP_FENCE
  ⟨0x500, 8, 1, 0x0, 0xFFF, 0xFFF, 0x0, 0x0, 0x0⟩,  -- PRT_OWNER
  ⟨0x508, 8, 1, 0x0, 0xFFFFFFFFFFFFFFFF, 0x0, 0x0, 0x0, 0x0⟩,  -- PRT_DROP_CTX
  ⟨0x600, 8, 1, 0x0, 0xFFFFFFFFFFFFFFFF, 0x0, 0x0, 0x0, 0x0⟩,  -- PRT_RX_FRAMES
  ⟨0x608, 8, 1, 0x0, 0xFFFFFFFFFFFFFFFF, 0x0, 0x0, 0x0, 0x0⟩,  -- PRT_RX_BYTES
  ⟨0x610, 8, 1, 0x0, 0xFFFFFFFFFFFFFFFF, 0x0, 0x0, 0x0, 0x0⟩,  -- PRT_TX_FRAMES
  ⟨0x618, 8, 1, 0x0, 0xFFFFFFFFFFFFFFFF, 0x0, 0x0, 0x0, 0x0⟩,  -- PRT_TX_BYTES
  ⟨0x620, 8, 1, 0x0, 0xFFFFFFFFFFFFFFFF, 0x0, 0x0, 0x0, 0x0⟩,  -- PRT_RX_MCAST
  ⟨0x628, 8, 1, 0x0, 0xFFFFFFFFFFFFFFFF, 0x0, 0x0, 0x0, 0x0⟩,  -- PRT_RX_OVR
  ⟨0x630, 8, 1, 0x0, 0xFFFFFFFFFFFFFFFF, 0x0, 0x0, 0x0, 0x0⟩,  -- PRT_STATE_CHG
  ⟨0x638, 8, 1, 0x0, 0xFFFFFFFFFFFFFFFF, 0x0, 0x0, 0x0, 0x0⟩,  -- PRT_UP_NS
  ⟨0x640, 8, 1, 0x0, 0xFFFFFFFFFFFFFFFF, 0x0, 0x0, 0x0, 0x0⟩,  -- PRT_CRED_NS
  ⟨0x648, 8, 1, 0x0, 0xFFFFFFFFFFFFFFFF, 0x0, 0x0, 0x0, 0x0⟩,  -- PRT_PFC_NS
  ⟨0x650, 8, 1, 0x0, 0xFFFFFFFFFFFFFFFF, 0x0, 0x0, 0x0, 0x0⟩,  -- PRT_XOFF_NS
  ⟨0x658, 8, 1, 0x0, 0xFFFFFFFFFFFFFFFF, 0x0, 0x0, 0x0, 0x0⟩,  -- PRT_GATE_NS
  ⟨0x700, 8, 16, 0x0, 0xFFFFFFFFFFFFFFFF, 0x0, 0x0, 0x0, 0x0⟩,  -- PRT_CHF_RX
  ⟨0x780, 8, 16, 0x0, 0xFFFFFFFFFFFFFFFF, 0x0, 0x0, 0x0, 0x0⟩,  -- PRT_CHB_RX
  ⟨0x800, 8, 16, 0x0, 0xFFFFFFFFFFFFFFFF, 0x0, 0x0, 0x0, 0x0⟩,  -- PRT_CHF_TX
  ⟨0x880, 8, 16, 0x0, 0xFFFFFFFFFFFFFFFF, 0x0, 0x0, 0x0, 0x0⟩  -- PRT_CHB_TX
  ]

/-- All register rows outside the port and context pages. -/
def globalRegs : List RegDesc :=
  regsModule ++ regsClocklessTiming ++ regsPricking ++ regsOptical ++ regsSwitchCore ++ regsTables ++ regsTraffic ++ regsBypass ++ regsReduction ++ regsBobbin ++ regsMemory ++ regsTime ++ regsFaults ++ regsSecurity ++ regsHost ++ regsObservability ++ regsStartUp ++ regsRegisterMap

/-- Does the row hold the offset? -/
def RegDesc.covers (d : RegDesc) (off : Nat) : Bool :=
  d.base ≤ off && (off - d.base) % d.stride == 0 && (off - d.base) / d.stride < d.count

/-- How many event codes each block has in the event catalogue (Table 18.6); the codes of a block run from 1. -/
def evtCodes : Nat → Nat
  | 0x01 => 4 | 0x02 => 2 | 0x03 => 1 | 0x04 => 4 | 0x05 => 2 | 0x06 => 1 | 0x08 => 4 | 0x09 => 7 | 0x0A => 3
  | 0x0B => 6 | 0x0C => 4 | 0x0D => 8 | 0x0E => 5 | 0x0F => 1 | 0x10 => 2 | _ => 0

/-- Offsets inside a row's range that hold no register: event counters of codes the catalogue does not name (R443), and
accounts 6 and 7 of `PMC_TD_n_k` (R448). -/
def regHole (off : Nat) : Bool :=
  if 0x3420000 ≤ off ∧ off < 0x3428800 then
    let i := (off - 0x3420000) / 8
    !(1 ≤ i % 256 && i % 256 ≤ evtCodes (i / 256))
  else if 0x3440000 ≤ off ∧ off < 0x3450000 then 6 ≤ off % 64 / 8
  else false

/-- The row of the register at a BAR0 offset, if the field tables name one there (R484). -/
def findReg (off : Nat) : Option RegDesc :=
  if regHole off then none
  else if 0x1000000 ≤ off ∧ off < 0x1400000 then portRegs.find? (·.covers (off % 0x1000))
  else if 0x3000000 ≤ off ∧ off < 0x3400000 then ctxRegs.find? (·.covers (off % 0x1000))
  else globalRegs.find? (·.covers off)

/-- Rated waveguides of a bundle, N of Table 15.7, in the order R382 numbers the bundles (R23). -/
def bundleWidth (b : Nat) : Nat :=
  if b < 6 then 16 else if b < 10 then 20 else if b < 16 then 10 else 8

/-- Is a pace monitor's index reserved (Table 2.3)? -/
def paceReserved (n : Nat) : Bool :=
  (1024 ≤ n && n < 1088 && 14 ≤ n % 16) || (1088 ≤ n && n < 1152 && 3 ≤ n % 16)

/-- The value a register has after power-up (R494, Reset column of its field table); a reserved pace monitor reads zero
(R31). -/
def regReset (off : Nat) : BitVec 64 :=
  if 0x3408000 ≤ off ∧ off < 0x340A440 ∧ paceReserved ((off - 0x3408000) / 8) then 0
  else if 0x3800100 ≤ off ∧ off < 0x3800200 ∧ off % 8 = 0 then BitVec.ofNat 64 (bundleWidth ((off - 0x3800100) / 8) * 256)
  else match findReg off with
    | some d => BitVec.ofNat 64 d.reset
    | none => 0

end Sys2Proof.Machine
end

