-- ==== Sys2Proof/Machine/Ops.lean ====
section
/-! DEFINITION. The named operations every meaning is written over: sparse tables, bytes and bit fields, the register
file, the block's units, time, free values and output. -/

namespace Sys2Proof.Machine

/-! Sparse tables. -/

/-- The value at a key, `d` where the key is unlisted. -/
def tget {α : Type} (d : α) : Tab α → Nat → α
  | [], _ => d
  | (k, v) :: t, i => if k = i then v else tget d t i

/-- The table without a key. -/
def tdel {α : Type} : Tab α → Nat → Tab α
  | [], _ => []
  | (k, v) :: t, i => if k = i then tdel t i else (k, v) :: tdel t i

/-- The table with an entry put at its place among rising keys. -/
def tput {α : Type} : Tab α → Nat → α → Tab α
  | [], i, v => [(i, v)]
  | (k, w) :: t, i, v => if i < k then (i, v) :: (k, w) :: t else (k, w) :: tput t i v

/-- The table with a key set; setting the default unlists it. -/
def tset {α : Type} [DecidableEq α] (d : α) (t : Tab α) (i : Nat) (v : α) : Tab α :=
  if v = d then tdel t i else tput (tdel t i) i v

/-- The table with the value at a key changed by a function. -/
def tmod {α : Type} [DecidableEq α] (d : α) (t : Tab α) (i : Nat) (f : α → α) : Tab α :=
  tset d t i (f (tget d t i))

/-- Canonical form: keys strictly rising, no default listed. -/
def Tab.wf {α : Type} [DecidableEq α] (d : α) : Tab α → Bool
  | [] => true
  | [(_, v)] => !decide (v = d)
  | (k, v) :: (k', v') :: t => !decide (v = d) && decide (k < k') && Tab.wf d ((k', v') :: t)

/-! Bytes and bit fields. -/

/-- `n` bytes of a number, little-endian. -/
def le : Nat → Nat → List Byte
  | 0, _ => []
  | n + 1, v => BitVec.ofNat 8 v :: le n (v / 256)

/-- The number spelled by bytes, little-endian. -/
def unle : List Byte → Nat
  | [] => 0
  | b :: bs => b.toNat + 256 * unle bs

/-- The number spelled by bytes, big-endian. -/
def unbe (bs : List Byte) : Nat := bs.foldl (fun a b => a * 256 + b.toNat) 0

/-- `n` bytes of a number, big-endian. -/
def be (n v : Nat) : List Byte := (le n v).reverse

/-- The `n`-byte little-endian field at an offset; bytes past the end read 0. -/
def fieldAt (bs : List Byte) (off n : Nat) : Nat := unle ((bs.drop off).take n)

/-- `n` bytes from an offset, zero past the end. -/
def bytesAt (bs : List Byte) (off n : Nat) : List Byte :=
  let t := (bs.drop off).take n
  t ++ List.replicate (n - t.length) 0

/-- A list of bytes cut or zero-filled to a length. -/
def fit (n : Nat) (bs : List Byte) : List Byte := bytesAt bs 0 n

/-- Bits [lo+w-1:lo] of a number. -/
def bits (v lo w : Nat) : Nat := v / 2 ^ lo % 2 ^ w

/-- Bit k of a number. -/
def bit (v k : Nat) : Bool := v / 2 ^ k % 2 == 1

/-- 1 for true. -/
def b2n (b : Bool) : Nat := if b then 1 else 0

/-- A word with bits [lo+w-1:lo] replaced. -/
def putBits (x : Word) (lo w v : Nat) : Word :=
  (x &&& ~~~((BitVec.ofNat 64 (2 ^ w - 1)) <<< lo)) ||| (BitVec.ofNat 64 (v % 2 ^ w) <<< lo)

/-- The signed value of a w-bit field. -/
def sext (w v : Nat) : Int := if v % 2 ^ w < 2 ^ (w - 1) then (v % 2 ^ w : Nat) else (v % 2 ^ w : Nat) - (2 ^ w : Nat)

/-- The w-bit field of a signed value, modulo 2^w. -/
def ofInt (w : Nat) (v : Int) : Nat := (v % (2 ^ w : Nat)).toNat

/-- Quotient rounded up. -/
def ceilDiv (a b : Nat) : Nat := (a + b - 1) / b

/-- Largest k with 2^k ≤ v, 0 for v = 0. -/
def log2 (v : Nat) : Nat := Nat.log2 v

/-- The list with its n-th element replaced. -/
def setNth {α : Type} : List α → Nat → α → List α
  | [], _, _ => []
  | _ :: t, 0, v => v :: t
  | h :: t, n + 1, v => h :: setNth t n v

/-! Running a command. -/

/-- The outcome of a command whose effect is a function of the state: without core supply nothing runs (R454). -/
def live (s : State) (f : State → State) : Host.Outcome State Fault Refusal :=
  .next (if s.sys.powered then f s else s)

/-- The same for a command of the clocked periphery: between the loss of both references and the internal oscillator's start the
OE periphery and the PCIe and management PHYs stand still, and nothing comes in or goes out (R379). -/
def liveClocked (s : State) (f : State → State) : Host.Outcome State Fault Refusal :=
  live s fun s => if s.sys.refPhase == 1 then s else f s

/-! Time (R3, R342, R345). -/

/-- The duration clock in nanoseconds. -/
def State.now (s : State) : Nat := s.mono / 2 ^ 32

/-- The timebase in nanoseconds. -/
def State.tbNs (s : State) : Nat := s.tb / 2 ^ 32

/-- Seconds of the timebase. -/
def State.tbSec (s : State) : Nat := s.tbNs / 1000000000

/-- Nanoseconds of the second. -/
def State.tbSub (s : State) : Nat := s.tbNs % 1000000000

/-- TIME of a record or datagram: low 32 bits of seconds in [63:32], nanoseconds in [31:0] (R436). -/
def State.timeWord (s : State) : Word := BitVec.ofNat 64 (s.tbSec % 2 ^ 32 * 2 ^ 32 + s.tbSub)

/-- The seconds that a field of their low 32 bits names: of the times with that field the one nearest to now; there is none before
0 (R344, log entry 23). -/
def nearSec (s : State) (f : Nat) : Nat :=
  let t := (s.tbSec : Int) + sext 32 (f + 2 ^ 32 - s.tbSec % 2 ^ 32)
  if t < 0 then f else t.toNat

/-- Short time-stamp: the low 32 bits of the timebase's nanosecond count (R345). -/
def State.shortTs (s : State) : Nat := s.tbNs % 2 ^ 32

/-- Have `d` nanoseconds passed on the duration clock since `t0`? -/
def State.elapsed (s : State) (t0 d : Nat) : Bool := t0 + d ≤ s.now

/-! The register file (R484, R494). -/

/-- The stored word at an offset. -/
def getReg (s : State) (off : Nat) : Word := tget (regReset off) s.regs off

/-- The register file with a word stored. -/
def setReg (s : State) (off : Nat) (v : Word) : State := { s with regs := tset (regReset off) s.regs off v }

/-- A field's value. -/
def fget (s : State) (f : Fld) : Nat := bits (getReg s f.off).toNat f.lo f.wid

/-- The state with a field set. -/
def fset (s : State) (f : Fld) (v : Nat) : State := setReg s f.off (putBits (getReg s f.off) f.lo f.wid v)

/-- A field as a flag. -/
def fbit (s : State) (f : Fld) : Bool := fget s f == 1

/-- A field of a word written to its register. -/
def wget (w : Word) (f : Fld) : Nat := bits w.toNat f.lo f.wid

/-- A field of such a word as a flag. -/
def wbit (w : Word) (f : Fld) : Bool := wget w f == 1

/-- Port and page offset of an offset in the port pages. -/
def pageOf (off : Nat) : Nat := (off - 0x1000000) / 0x1000
def inPortPage (off : Nat) : Bool := 0x1000000 ≤ off && off < 0x1400000

/-- A counter raised by n, modulo 2^64 (R441). -/
def bumpBy (s : State) (off n : Nat) : State := setReg s off (getReg s off + BitVec.ofNat 64 n)

/-- A counter raised by one. -/
def bump (s : State) (off : Nat) : State := bumpBy s off 1

/-- A register back at its reset value. -/
def resetReg (s : State) (off : Nat) : State := setReg s off (regReset off)

/-- Module state, codes of `PRK_STATUS.STATE` (Table 3.10). -/
def State.mode (s : State) : Nat := fget s PRK_STATUS.STATE

/-- Module state codes. -/
def mBOOT : Nat := 0
def mBASIC : Nat := 1
def mWEAVING : Nat := 2
def mWOVEN : Nat := 3
def mMAINT : Nat := 4
def mDRAINING : Nat := 5
def mFAULTED : Nat := 6

/-- Entering a module state. -/
def setMode (s : State) (m : Nat) : State := fset s PRK_STATUS.STATE m

/-- Does the module forward as BASIC does (R213): BASIC and WEAVING, and MAINT or DRAINING entered from BASIC (R464,
R465)? -/
def State.asBasic (s : State) : Bool :=
  s.mode == mBASIC || s.mode == mWEAVING || ((s.mode == mMAINT || s.mode == mDRAINING) && s.sys.maintBasic)

/-- Does the module forward as WOVEN does? -/
def State.asWoven (s : State) : Bool :=
  s.mode == mWOVEN || ((s.mode == mMAINT || s.mode == mDRAINING) && !s.sys.maintBasic)

/-! Free values and output. -/

/-- The next free value and the state with the counter of draws advanced (log entry 6). -/
def draw (s : State) : Word × State := (Config.freeValue s.free, { s with free := s.free + 1 })

/-- The state with something put out. -/
def emit (s : State) (o : Output) : State := { s with out := o :: s.out }

/-! The units. -/

def lane (s : State) (L : Nat) : LaneSt := tget {} s.lanes L
def setLane (s : State) (L : Nat) (f : LaneSt → LaneSt) : State := { s with lanes := tmod {} s.lanes L f }
def fibre (s : State) (F : Nat) : FibreSt := tget {} s.fibres F
def setFibre (s : State) (F : Nat) (f : FibreSt → FibreSt) : State := { s with fibres := tmod {} s.fibres F f }
def bank (s : State) (b : Nat) : BankSt := tget {} s.banks b
def setBank (s : State) (b : Nat) (f : BankSt → BankSt) : State := { s with banks := tmod {} s.banks b f }
def port (s : State) (L : Nat) : PortSt := tget {} s.ports L
def setPort (s : State) (L : Nat) (f : PortSt → PortSt) : State := { s with ports := tmod {} s.ports L f }
def setCore (s : State) (f : CoreSt → CoreSt) : State := { s with core := f s.core }
def setTbl (s : State) (f : TblSt → TblSt) : State := { s with tbl := f s.tbl }
def setTm (s : State) (f : TmSt → TmSt) : State := { s with tm := f s.tm }
def setByp (s : State) (f : BypSt → BypSt) : State := { s with byp := f s.byp }
def setPic (s : State) (f : PicSt → PicSt) : State := { s with pic := f s.pic }
def setBob (s : State) (f : BobSt → BobSt) : State := { s with bob := f s.bob }
def setMem (s : State) (f : MemSt → MemSt) : State := { s with mem := f s.mem }
def setFlt (s : State) (f : FltSt → FltSt) : State := { s with flt := f s.flt }
def setSec (s : State) (f : SecSt → SecSt) : State := { s with sec := f s.sec }
def setHost (s : State) (f : HostSt → HostSt) : State := { s with host := f s.host }
def setEvr (s : State) (f : EvrSt → EvrSt) : State := { s with evr := f s.evr }
def setTel (s : State) (f : TelSt → TelSt) : State := { s with tel := f s.tel }
def setSys (s : State) (f : Sys → Sys) : State := { s with sys := f s.sys }
def setNvs (s : State) (f : Nvs → Nvs) : State := { s with nvs := f s.nvs }
def setTime (s : State) (f : TimeSt → TimeSt) : State := { s with time := f s.time }
def setWeave (s : State) (f : WeaveSt → WeaveSt) : State := { s with weave := f s.weave }
def setTest (s : State) (f : TestSt → TestSt) : State := { s with test := f s.test }

/-- Fold a state over the numbers below n, in rising order. -/
def forRange (n : Nat) (s : State) (f : State → Nat → State) : State := (List.range n).foldl f s

/-- Fold a state over a list. -/
def forEach {α : Type} (l : List α) (s : State) (f : State → α → State) : State := l.foldl f s

/-- Does SWd hold ingress: it is visited by a full weave that changes it (R60)? -/
def ingressHeld (s : State) (d : Nat) : Bool :=
  let h := tget (0, 0) s.weave.holds d
  h.1 ≤ s.now && s.now < h.2

/-! Geometry of ports (R4, R10, R11, R48). -/

/-- PORT_MODE byte of a lane in the structure in force (Table 3.3). -/
def portMode (s : State) (L : Nat) : Nat := (tget (1 : Byte) s.sys.str.portMode L).toNat

/-- WIDTH of a lane: 0 absorbed, 1 400G, 2 800G, 3 1.6T, 4 3.2T, 5 200G. -/
def widthOf (s : State) (L : Nat) : Nat := portMode s L % 8

/-- Lanes of a port by its WIDTH. -/
def lanesOfWidth : Nat → Nat
  | 2 => 2 | 3 => 4 | 4 => 8 | _ => 1

/-- Lanes of the port named by lane L. -/
def lanesOf (s : State) (L : Nat) : Nat := lanesOfWidth (widthOf s L)

/-- The lanes of the port named by lane L. -/
def portLanes (s : State) (L : Nat) : List Nat := (List.range (lanesOf s L)).map (L + ·)

/-- Does lane L name a port (R4)? -/
def isPort (s : State) (L : Nat) : Bool := widthOf s L != 0

/-- The port that lane L belongs to: the lowest lane it occupies (R4). -/
def portOf (s : State) (L : Nat) : Nat :=
  if isPort s L then L
  else if lanesOf s (L - L % 2) == 2 then L - L % 2
  else if lanesOf s (L - L % 4) == 4 then L - L % 4
  else L - L % 8

/-- Is the port in Ethernet mode (R48)? -/
def isEth (s : State) (L : Nat) : Bool := bit (portMode s L) 3

/-- Is the port disabled (R48)? -/
def isDisabled (s : State) (L : Nat) : Bool := bit (portMode s L) 7

/-- Rate of a port in Gb/s (R11, R48). -/
def portGbps (s : State) (L : Nat) : Nat := if widthOf s L == 5 then 200 else 400 * lanesOf s L

/-- Switch die of a lane (R10). -/
def swOf (L : Nat) : Nat := L / 256

/-- Is the die of die code d working: `FLT_DIE_d.STATE` UP (R373)? -/
def dieUp (s : State) (d : Nat) : Bool := fget s (FLT_DIE.STATE d) == 0

/-- CHANNEL word of channel c in the structure in force; the default map of Table 19.2 (R458). -/
def chanDefault (c : Nat) : BitVec 32 :=
  let p := c % 8
  let use := match p with
    | 0 => 0 | 1 => 1 | 2 => if c < 8 then 2 else 3 | 3 => 4 | 4 => 5 | 5 => 6 | _ => 7
  BitVec.ofNat 32 (use + b2n (p == 5) * 256 + p * 512)

/-- CHANNEL word of a channel (R48, R458). -/
def chanWord (s : State) (c : Nat) : Nat := (tget (chanDefault c) s.sys.str.chan c).toNat

end Sys2Proof.Machine
end

