-- ==== Sys2Proof/Machine/Flags.lean ====
section
/-! DEFINITION. What the module reports of itself: checks over bytes, the event recorder (R436, R437, R495), the
interrupt controller (R425 to R430) and the counters of contexts (R445). -/

namespace Sys2Proof.Machine

/-! Cyclic redundancy checks. -/

/-- One bit of a reflected CRC register with polynomial `p`. -/
def crcBit (p c : Nat) : Nat := if c % 2 = 1 then (c / 2) ^^^ p else c / 2

/-- One byte of a reflected CRC register. -/
def crcByte (p c : Nat) (b : Byte) : Nat :=
  let c := c ^^^ b.toNat
  crcBit p (crcBit p (crcBit p (crcBit p (crcBit p (crcBit p (crcBit p (crcBit p c)))))))

/-- IEEE 802.3 CRC-32 (R436). -/
def crc32 (bs : List Byte) : Nat := (bs.foldl (crcByte 0xEDB88320) 0xFFFFFFFF) ^^^ 0xFFFFFFFF

/-- CRC-32C register after a byte string, from all ones, inverted at the end (R176). -/
def crc32c (bs : List Byte) : Nat := (bs.foldl (crcByte 0x82F63B78) 0xFFFFFFFF) ^^^ 0xFFFFFFFF

/-! The interrupt controller. -/

/-- Tier of a PRIO: how many boundaries of `IC_TIERS` are at most PRIO (R427). -/
def icTier (s : State) (prio : Nat) : Nat :=
  (List.range 7).foldl (fun n k => n + b2n (bits (getReg s IC_TIERS).toNat (8 * k) 8 ≤ prio)) 0

/-- Running tier of a target: the tier recorded at the top of its stack; 8, lower than every tier, with none (R427). -/
def icRunTier (s : State) (t : Nat) : Nat :=
  match tget [] s.host.taken t with
  | [] => 8
  | (_, tier) :: _ => tier

/-- The enabled PENDING sources: number and register word (R426, R430). Only these differ from the reset word. -/
def icPending (s : State) : List (Nat × Nat) :=
  s.regs.filterMap fun (k, w) =>
    if 0x101000 ≤ k && k < 0x109000 && bits w.toNat 32 2 == 1 && bit w.toNat 31 then some ((k - 0x101000) / 8, w.toNat)
    else none

/-- Is a source with this tier, PRIO and number better (R428)? -/
def icBetter (a b : Nat × Nat × Nat) : Bool :=
  a.1 < b.1 || (a.1 == b.1 && (a.2.1 < b.2.1 || (a.2.1 == b.2.1 && a.2.2 < b.2.2)))

/-- The source R428 offers a target: the best enabled PENDING source routed to it whose tier is strictly lower than the
running tier. The host is offered nothing while MSI-X is disabled (R419). -/
def icOffer (s : State) (t : Nat) : Option Nat :=
  if t == 4 && !s.host.msixEn then none
  else
    let cand := (icPending s).filterMap fun (n, w) =>
      let tier := icTier s (bits w 0 8)
      if bits w 8 3 == t && tier < icRunTier s t then some (tier, bits w 0 8, n) else none
    (cand.foldl (fun (b : Option (Nat × Nat × Nat)) c =>
      match b with
      | none => some c
      | some d => if icBetter c d then some c else some d) none).map (·.2.2)

/-- Entry of vector v of the MSI-X table; every vector is masked when the function starts (R417). -/
def msixEntry (s : State) (v : Nat) : BitVec 128 := tget (1#128 <<< 96) s.host.msixTab v

/-- The MSI-X message of a vector, subject to its mask and pending bit (R428). -/
def msixSend (s : State) (v : Nat) : State :=
  let m := msixEntry s v
  if m.getLsbD 96 then setHost s fun h => { h with pba := tset false h.pba v true }
  else emit s (.msix v (m.extractLsb' 0 64) (m.extractLsb' 64 32))

/-- Evaluation of the offer to one target (R428): a core's line follows the offer, the host is sent one message for each
new offer. A message that the mask still holds goes with the offer it was for. -/
def icEvalOne (s : State) (t : Nat) : State :=
  let o := match icOffer s t with
    | some n => n + 1
    | none => 0
  let old := tget 0 s.host.offers t
  let s := setHost s fun h => { h with offers := tset 0 h.offers t o }
  if t < 4 then setHost s fun h => { h with line := tset false h.line t (o != 0) }
  else if o == old then s
  else
    let s := setHost s fun h => { h with pba := [] }
    if o != 0 then msixSend s (fget s (IC_SRC.VECTOR (o - 1))) else s

/-- Evaluation of every target's offer, after a doorbell, claim, completion or configuration change (R428). -/
def icEval (s : State) : State := forRange 5 s icEvalOne

/-- A doorbell of a source (R426). -/
def ring (s : State) (src : Nat) : State :=
  match fget s (IC_SRC.STATE src) with
  | 0 => icEval (fset s (IC_SRC.STATE src) 1)
  | 2 => icEval (fset s (IC_SRC.STATE src) 3)
  | _ => bump s IC_MERGED

/-! The event recorder. -/

/-- Record bytes 0x00 to 0x3B (Table 17.11). -/
def recBody (r : Rec) : List Byte :=
  le 8 r.seq ++ le 8 r.time.toNat ++ [BitVec.ofNat 8 r.block, BitVec.ofNat 8 r.sev] ++ le 2 r.code ++
  [BitVec.ofNat 8 r.flags, BitVec.ofNat 8 r.die] ++ le 2 r.ctx ++ le 4 r.unit ++ le 4 r.count ++ fit 28 r.data

/-- The 64 bytes of a record, its CRC over the bytes as they stand (R436). -/
def recBytes (r : Rec) : List Byte := recBody r ++ le 4 (crc32 (recBody r))

/-- SEQ of the next record: the power-up count in [63:32], the count within the power-up in [31:0] (R437). -/
def evrNext (s : State) : Nat := s.nvs.powerCount * 2 ^ 32 + s.evr.next

/-- A notification to a session (R435): while its TCP send window is closed it waits for up to 1 s, and after that it is
discarded. -/
def notify (s : State) (k : Session) (r : Rec) : State :=
  if k.closedAt == 0 then emit s (.mgmt k.sid 7 1 0 0 (recBytes r))
  else if k.closedAt + 1000000000 < s.now + 1 then s
  else setEvr s fun e => { e with notes := e.notes ++ [(k.sid, r)] }

/-- NOTIFY messages of a record: to every session subscribed at its severity, and FENCE_EVIDENCE to every session
(R435). -/
def notifyAll (s : State) (r : Rec) : State :=
  forEach s.sec.sessions s fun s k =>
    if (k.minSev != 255 && k.minSev ≤ r.sev) || (r.block == 0x0D && r.code == 6) then notify s k r else s

/-- The watermark (R440): source 7 each time LEVEL records have been taken since the last raise or write. -/
def evrWatermark (s : State) : State :=
  let lvl := fget s EVR_WMARK.LEVEL
  let n := s.evr.wmark + 1
  if lvl != 0 && lvl ≤ n then ring (setEvr s fun e => { e with wmark := 0 }) 7
  else setEvr s fun e => { e with wmark := n }

/-- The recorder takes a record (R437): it is numbered, stored in the circular part, queued for its permanent copy, and
notified. -/
def evrTake (s : State) (r : Rec) : State :=
  let r := { r with seq := evrNext s }
  let s := setEvr s fun e =>
    { e with next := e.next + 1, recs := (r :: e.recs).take 65536, copyQ := e.copyQ ++ [r],
             rateCnt := (if e.rateAt == s.now / 1000000 then e.rateCnt else 0) + 1, rateAt := s.now / 1000000 }
  evrWatermark (notifyAll s r)

/-- The recorder is offered a record: beyond 20 million a second, counted by the millisecond (log entry 7), it is not
made and is counted in `EVR_LOST` (R437). -/
def evrOffer (s : State) (r : Rec) : State :=
  if s.evr.rateAt == s.now / 1000000 && 20000 ≤ s.evr.rateCnt then
    bump (setEvr s fun e => { e with lost := e.lost + 1 }) EVR_LOST
  else evrTake s r

/-- A record of an occurrence now. -/
def mkRec (s : State) (block code sev die ctx unit : Nat) (data : List Byte) : Rec :=
  { time := s.timeWord, block := block, code := code, sev := sev, die := die, ctx := ctx, unit := unit, data := data }

/-- An event without a rate limit: counted in its `PMC_EVT_i` (R443) and recorded. -/
def event (s : State) (block code sev die ctx unit : Nat) (data : List Byte) : State :=
  evrOffer (bump s (PMC_EVT (256 * block + code))) (mkRec s block code sev die ctx unit data)

/-- Key of a rate-limit window: event, unit and kind (R495). -/
def winKey (block code unit kind : Nat) : Nat := ((block * 256 + code) * 2 ^ 32 + unit) * 256 + kind

/-- An event limited to one record per window of `len` nanoseconds (R495): the first occurrence is recorded and opens a
window, later ones are folded. -/
def eventLim (s : State) (key len block code sev die ctx unit : Nat) (data : List Byte) : State :=
  let r := mkRec s block code sev die ctx unit data
  let s := bump s (PMC_EVT (256 * block + code))
  match s.evr.windows.find? (·.1 == key) with
  | some (_, w) =>
    if s.now < w.expiry then
      setEvr s fun e => { e with windows := tput (tdel e.windows key) key { w with folded := w.folded + 1, lastRec := r } }
    else if w.folded == 0 then
      evrOffer (setEvr s fun e =>
        { e with windows := tput (tdel e.windows key) key { expiry := s.now + len, len := len } }) r
    else
      let s := evrOffer s { w.lastRec with flags := 2, count := w.folded }
      setEvr s fun e =>
        { e with windows := tput (tdel e.windows key) key { expiry := s.now + len, len := len, folded := 1, lastRec := r } }
  | none =>
    evrOffer (setEvr s fun e => { e with windows := tput e.windows key { expiry := s.now + len, len := len } }) r

/-! Counters of contexts. -/

/-- Entry `i` of the counter page of context x raised by n (R445); 1,024 and above stand for no context. -/
def ctxBump (s : State) (x i n : Nat) : State := if x < 1024 then bumpBy s (PMC_CTXPAGE x i) n else s

end Sys2Proof.Machine
end

