-- ==== Sys2Proof/Machine/Operands.lean ====
section
/-! DEFINITION. The forms of what arrives and leaves: Jalesh headers and control blocks (R108 to R115), Ethernet, VLAN,
IP and PTP fields, and the frame length every meter, shaper and gate sees (R135). -/

namespace Sys2Proof.Machine

/-! Jalesh header (Table 5.2). -/

/-- A field of word k of a header. -/
def hf (h : BitVec 256) (k lo w : Nat) : Nat := bits h.toNat (64 * k + lo) w

def hDst (h : BitVec 256) : Nat := hf h 0 0 20
def hSrc (h : BitVec 256) : Nat := hf h 0 20 20
def hChan (h : BitVec 256) : Nat := hf h 0 40 4
def hCtx (h : BitVec 256) : Nat := hf h 0 44 10
def hInc (h : BitVec 256) : Nat := hf h 0 54 8
def hRgen (h : BitVec 256) : Nat := hf h 1 0 8
def hType (h : BitVec 256) : Nat := hf h 1 8 8
def hFlags (h : BitVec 256) : Nat := hf h 1 16 8
def hKeyidx (h : BitVec 256) : Nat := hf h 1 24 8
def hLen (h : BitVec 256) : Nat := hf h 1 32 14
def hSeq (h : BitVec 256) : Nat := hf h 1 48 16
def hGroup (h : BitVec 256) : Nat := hf h 2 0 16
def hCseq (h : BitVec 256) : Nat := hf h 2 16 24
def hChunk (h : BitVec 256) : Nat := hf h 2 40 20
def hOffset (h : BitVec 256) : Nat := hf h 2 0 48

/-- FLAGS bits (Table 5.3). -/
def flRED : Nat := 0
def flECT : Nat := 1
def flCE : Nat := 2
def flUNORD : Nat := 3
def flENC : Nat := 4
def flMCAST : Nat := 5

def hRed (h : BitVec 256) : Bool := bit (hFlags h) flRED
def hEnc (h : BitVec 256) : Bool := bit (hFlags h) flENC
def hMcast (h : BitVec 256) : Bool := bit (hFlags h) flMCAST
def hUnord (h : BitVec 256) : Bool := bit (hFlags h) flUNORD

/-- Frame types (Table 5.4). -/
def tDATA : Nat := 0x00
def tPUT : Nat := 0x01
def tGET : Nat := 0x02
def tGET_RESP : Nat := 0x03
def tCONTRIB : Nat := 0x10
def tRESULT : Nat := 0x11
def tSEAL : Nat := 0x12
def tABORT : Nat := 0x13
def tRESULT_ACK : Nat := 0x14
def tRESEND_REQ : Nat := 0x15
def tBCAST_DATA : Nat := 0x20
def tBCAST_PROGRESS : Nat := 0x21
def tNACK : Nat := 0x30

/-- Is the TYPE in Table 5.4? -/
def typeKnown (t : Nat) : Bool :=
  t ≤ 0x03 || (0x10 ≤ t && t ≤ 0x15) || t == 0x20 || t == 0x21 || t == 0x30

/-- RED as Table 5.4 gives it. -/
def typeRed (t : Nat) : Bool := 0x10 ≤ t && t ≤ 0x15

/-- The 32 bytes of a header. -/
def hdrBytes (h : BitVec 256) : List Byte := le 32 h.toNat

/-- A header from its 32 bytes. -/
def hdrOf (bs : List Byte) : BitVec 256 := BitVec.ofNat 256 (unle (fit 32 bs))

/-- One bit into the HCRC register (R114). -/
def hcrcBit (crc b : Nat) : Nat :=
  let fb := (crc / 2 ^ 15 + b) % 2
  let crc := crc * 2 % 2 ^ 16
  if fb = 1 then crc ^^^ 0x1021 else crc

/-- One byte, least significant bit first. -/
def hcrcByte (crc : Nat) (b : Byte) : Nat := (List.range 8).foldl (fun c i => hcrcBit c (bits b.toNat i 1)) crc

/-- HCRC of bytes 0 to 23 (R114). -/
def hcrc (bs : List Byte) : Nat := bs.foldl hcrcByte 0xFFFF

/-- HCRC over a header's bytes 0 to 23. -/
def hcrcOf (h : BitVec 256) : Nat := hcrc ((hdrBytes h).take 24)

/-- Frame CRC: over header bytes 0 to 27, then the payload (Table 5.2). -/
def frameCrc (h : BitVec 256) (body : List Byte) : Nat := crc32 ((hdrBytes h).take 28 ++ body)

/-- The header with HCRC and CRC computed over it and its payload. -/
def sealHdr (h : BitVec 256) (body : List Byte) : BitVec 256 :=
  let n := h.toNat % 2 ^ 192
  let n := n + hcrcOf (BitVec.ofNat 256 n) * 2 ^ 192
  BitVec.ofNat 256 (n + frameCrc (BitVec.ofNat 256 n) body * 2 ^ 224)

/-- A header from its fields; W2 as a number; HCRC and CRC still to be computed. -/
def mkHdr (dst src chan ctx inc rgen type flags key len seq w2 : Nat) : BitVec 256 :=
  BitVec.ofNat 256
    (dst % 2 ^ 20 + src % 2 ^ 20 * 2 ^ 20 + chan % 16 * 2 ^ 40 + ctx % 1024 * 2 ^ 44 + inc % 256 * 2 ^ 54 +
     (rgen % 256 + type % 256 * 2 ^ 8 + flags % 256 * 2 ^ 16 + key % 256 * 2 ^ 24 + len % 2 ^ 14 * 2 ^ 32 +
      seq % 2 ^ 16 * 2 ^ 48) * 2 ^ 64 + w2 % 2 ^ 64 * 2 ^ 128)

/-- W2 of a collective frame. -/
def redW2 (group cseq chunk : Nat) : Nat := group % 2 ^ 16 + cseq % 2 ^ 24 * 2 ^ 16 + chunk % 2 ^ 20 * 2 ^ 40

/-- A reserved field or flag bit of the header is non-zero (Table 5.6, row 5). -/
def hdrReserved (h : BitVec 256) : Bool :=
  hf h 0 62 2 != 0 || hf h 1 46 2 != 0 || hf h 1 22 2 != 0 || hf h 3 16 16 != 0 ||
  (if hRed h then hf h 2 60 4 != 0 else hf h 2 48 16 != 0)

/-! Control blocks (R112). -/

/-- Byte k of a block. -/
def blkByte (b : BitVec 256) (k : Nat) : Nat := bits b.toNat (8 * k) 8

/-- `n` bytes of a block from byte k, as a number. -/
def blkField (b : BitVec 256) (k n : Nat) : Nat := bits b.toNat (8 * k) (8 * n)

/-- The CRC-32 of bytes 0 to 27 of a block. -/
def blkCrc (b : BitVec 256) : Nat := crc32 ((hdrBytes b).take 28)

/-- Does the block's CRC hold? -/
def blkCrcOk (b : BitVec 256) : Bool := blkField b 28 4 == blkCrc b

/-- A control block of a type with bytes 1 to 27. -/
def mkBlk (type : Nat) (rest : List Byte) : BitVec 256 :=
  let bs := BitVec.ofNat 8 type :: fit 27 rest
  hdrOf (bs ++ le 4 (crc32 bs))

/-- Types of Table 5.1 and of slot control (Table 9.3). -/
def blkKnown (b : BitVec 256) : Bool :=
  let t := blkByte b 0
  [0x1E, 0x2D, 0x2F, 0x33, 0x34, 0x4B, 0x55, 0x56, 0x66, 0xA0, 0xA1, 0xA2, 0xA3, 0xA4, 0xA5, 0xA6, 0xA7].contains t

/-- An ignored control block (R112): CRC fails, type unknown, or a CREDIT or CREDIT_INIT whose network byte is neither 0
nor 1. -/
def blkBad (b : BitVec 256) : Bool :=
  !blkCrcOk b || !blkKnown b || ((blkByte b 0 == 0x2D || blkByte b 0 == 0x2F) && 2 ≤ blkByte b 1)

/-! Ethernet, VLAN and IP (R131, R132, R169, R170). -/

/-- Is the frame tagged with TPID 0x8100? -/
def ethTagged (f : List Byte) : Bool := unbe (bytesAt f 12 2) == 0x8100

/-- TCI of the outermost tag, 0 untagged. -/
def ethTci (f : List Byte) : Nat := if ethTagged f then unbe (bytesAt f 14 2) else 0

/-- Offset of the EtherType. -/
def ethTypeOff (f : List Byte) : Nat := if ethTagged f then 16 else 12

/-- EtherType. -/
def ethType (f : List Byte) : Nat := unbe (bytesAt f (ethTypeOff f) 2)

/-- Offset of the payload. -/
def ethL3 (f : List Byte) : Nat := ethTypeOff f + 2

/-- Destination and source MAC, first byte on the wire most significant. -/
def ethDmac (f : List Byte) : Nat := unbe (bytesAt f 0 6)
def ethSmac (f : List Byte) : Nat := unbe (bytesAt f 6 6)

/-- A group address: the low bit of the first byte. -/
def macGroup (m : Nat) : Bool := bit m 40

/-- Frame check sequence over the rest of the frame. -/
def ethFcsOk (f : List Byte) : Bool := unle (f.drop (f.length - 4)) == crc32 (f.take (f.length - 4))

/-- The frame with its FCS generated. -/
def ethSeal (f : List Byte) : List Byte :=
  let b := f.take (f.length - 4)
  b ++ le 4 (crc32 b)

/-- The frame with bytes replaced from an offset. -/
def patch (f : List Byte) (off : Nat) (bs : List Byte) : List Byte := f.take off ++ bs ++ f.drop (off + bs.length)

/-- One's-complement sum of 16-bit words, big-endian, of a byte string. -/
def ocSum : List Byte → Nat
  | a :: b :: t =>
    let s := a.toNat * 256 + b.toNat + ocSum t
    if 65536 ≤ s then s - 65535 else s
  | [a] => a.toNat * 256
  | [] => 0

/-- RFC 1624: the checksum after a 16-bit word m of the covered bytes becomes m'. -/
def ocUpdate (hc m m' : Nat) : Nat :=
  let s := (65535 - hc) + (65535 - m) + m'
  let s := s % 65536 + s / 65536
  let s := s % 65536 + s / 65536
  65535 - s

/-- IPv4 or IPv6 by EtherType. -/
def isV4 (f : List Byte) : Bool := ethType f == 0x0800
def isV6 (f : List Byte) : Bool := ethType f == 0x86DD

/-- Length of the IP packet as its header gives it. -/
def ipLen (f : List Byte) : Nat :=
  if isV4 f then unbe (bytesAt f (ethL3 f + 2) 2) else unbe (bytesAt f (ethL3 f + 4) 2) + 40

/-- TTL or hop limit. -/
def ipTtl (f : List Byte) : Nat :=
  if isV4 f then unbe (bytesAt f (ethL3 f + 8) 1) else unbe (bytesAt f (ethL3 f + 7) 1)

/-- Checks 1 to 3 of R170. -/
def ipChecks (f : List Byte) : Bool :=
  let o := ethL3 f
  let room := f.length - 4 - o
  let b0 := unbe (bytesAt f o 1)
  if isV4 f then
    b0 == 0x45 && 20 ≤ room && ocSum (bytesAt f o 20) == 65535 && ipLen f ≤ room && 1 < ipTtl f
  else b0 / 16 == 6 && 40 ≤ room && ipLen f ≤ room && 1 < ipTtl f

/-- ECN field of an IP frame, none for any other (R144). -/
def ipEcn (f : List Byte) : Option Nat :=
  if isV4 f then some (unbe (bytesAt f (ethL3 f + 1) 1) % 4)
  else if isV6 f then some (unbe (bytesAt f (ethL3 f) 2) / 16 % 4)
  else none

/-- The frame with ECN 0b11, the IPv4 checksum updated (R145). -/
def ipMarkCe (f : List Byte) : List Byte :=
  let o := ethL3 f
  if isV4 f then
    let w := unbe (bytesAt f o 2)
    let w' := w - w % 4 + 3
    patch (patch f o (be 2 w')) (o + 10) (be 2 (ocUpdate (unbe (bytesAt f (o + 10) 2)) w w'))
  else if isV6 f then
    let w := unbe (bytesAt f o 2)
    patch f o (be 2 (w - w / 16 % 4 * 16 + 48))
  else f

/-- The routed frame (R170): TTL or hop limit less one, new MACs, the next hop's VLAN with PCP p or untagged. The FCS is
generated when the frame leaves. A frame that loses its tag and falls below 64 bytes is sent as it is: no rule pads it (DESIGN
CHOICE, log entry 250). -/
def ipRewrite (f : List Byte) (dmac smac vlan p : Nat) : List Byte :=
  let o := ethL3 f
  let f1 :=
    if isV4 f then
      let w := unbe (bytesAt f (o + 8) 2)
      let w' := w - 256
      patch (patch f (o + 8) (be 2 w')) (o + 10) (be 2 (ocUpdate (unbe (bytesAt f (o + 10) 2)) w w'))
    else patch f (o + 7) (be 1 (ipTtl f - 1))
  be 6 dmac ++ be 6 smac ++ (if vlan == 0 then [] else be 2 0x8100 ++ be 2 (p * 8192 + vlan)) ++
    f1.drop (ethTypeOff f)

/-! Frames. -/

/-- Length for metering, shaping, charging and gate fitting (R135). -/
def frameLen (f : Frame) : Nat := if f.eth then f.body.length else 32 + hLen f.hdr

/-- Cells or credit units of a length: 256 bytes each (R117, R141). -/
def unitsOf (B : Nat) : Nat := ceilDiv B 256

/-- USE of a channel (Table 3.5). -/
def chanUse (s : State) (c : Nat) : Nat := bits (chanWord s c) 0 8

/-- LOSSY of a channel. -/
def chanLossy (s : State) (c : Nat) : Bool := bit (chanWord s c) 8

/-- ETH_PRIO of a channel. -/
def chanEthPrio (s : State) (c : Nat) : Nat := bits (chanWord s c) 9 3

/-- UNORD_OK of a channel. -/
def chanUnordOk (s : State) (c : Nat) : Bool := bit (chanWord s c) 12

/-- The lowest-numbered request channel with an ETH_PRIO (R132). -/
def ethChan (s : State) (p : Nat) : Option Nat := (List.range 8).find? fun c => chanEthPrio s c == p

/-- Is the port transmitting or receiving at half rate, 200 Gb/s (R77)? -/
def halfRate (s : State) (L : Nat) : Bool := widthOf s L == 5

/-- Port states (Table 4.6). -/
def pDOWN : Nat := 0
def pTRAINING : Nat := 1
def pQUARANTINE : Nat := 2
def pUP : Nat := 3
def pFENCED : Nat := 4
def pDARK : Nat := 5

/-- State of a port as its register shows it. -/
def portState (s : State) (L : Nat) : Nat := fget s (PRT_STATE.STATE L)

/-- Is the port UP? -/
def portUp (s : State) (L : Nat) : Bool := portState s L == pUP

/-- Is a fence recorded on the port (R366)? -/
def portFenced (s : State) (L : Nat) : Bool := fbit s (PRT_STATE.FENCE L)

/-- State of a context (Table 16.1): 0 FREE, 1 ALLOCATED, 2 ACTIVE, 3 UNPICKING. -/
def ctxState (s : State) (x : Nat) : Nat := fget s (CTX_STAT.STATE x)

/-- Is the port owned by a context that is UNPICKING (R398)? -/
def portUnpicking (s : State) (L : Nat) : Bool :=
  fbit s (PRT_OWNER.OWNED L) && ctxState s (fget s (PRT_OWNER.CTX L)) == 3

/-- Is the channel closed on a port whose owner is UNPICKING: every one but 0 and 8 (R398)? -/
def unpickShut (s : State) (L c : Nat) : Bool := portUnpicking s L && c != 0 && c != 8

/-- Context a frame belongs to (R445): a JLP frame by CTX, an Ethernet frame by the owner of its ingress port; 1,024
none. -/
def frameCtx (s : State) (f : Frame) : Nat :=
  if f.eth then
    if f.ingress < 1024 && fbit s (PRT_OWNER.OWNED f.ingress) then fget s (PRT_OWNER.CTX f.ingress) else 1024
  else hCtx f.hdr

end Sys2Proof.Machine
end

