-- ==== Sys2Proof/Machine/Memory.lean ====
section
/-! DEFINITION. LPDDR6 memory (chapter 13): where a byte lies (R331 to R334), reads and writes of lines with poisoning
(R326, R327), placement of a context's frames (R332), retirement and the patrol (R329, R330). -/

namespace Sys2Proof.Machine

/-- Bytes of a memory frame, 128 MiB (R332). -/
def frameBytes : Nat := 2 ^ 27

/-- Frames of a die (R332). -/
def framesPerDie : Nat := 4480

/-- Module channel of byte P of die d (R322, R331). -/
def memChanOf (d P : Nat) : Nat := 80 * d + P / 512 % 80

/-- Channel address of byte P (R331). -/
def memChanAddr (P : Nat) : Nat := P / 40960 * 512 + P % 512

/-- Die address of channel address A on module channel i (R331). -/
def memDieAddr (i A : Nat) : Nat := (A / 512 * 80 + i % 80) * 512 + A % 512

/-- Is the line that holds byte P of die d unreadable: poisoned (R327), on a FAILED channel (Table 15.2), or on a die that is
not working (R373)? -/
def lineBad (s : State) (d P : Nat) : Bool :=
  !dieUp s d || tget false s.mem.poison (2 ^ 40 * d + P / 64) || tget false s.mem.failed (memChanOf d P)

/-- The lines that n bytes from P touch, by the address of their first byte. -/
def linesOf (P n : Nat) : List Nat :=
  if n = 0 then [] else (List.range ((P + n - 1) / 64 - P / 64 + 1)).map fun k => (P / 64 + k) * 64

/-- Does a read of n bytes from P of die d meet an uncorrectable line? -/
def memBad (s : State) (d P n : Nat) : Bool := (linesOf P n).any (lineBad s d)

/-- Byte P of die d. -/
def memByte (s : State) (d P : Nat) : Byte := tget 0 s.mem.bytes (2 ^ 40 * d + P)

/-- n bytes from P of die d. -/
def memRead (s : State) (d P n : Nat) : List Byte := (List.range n).map fun k => memByte s d (P + k)

/-- The state with bytes stored from P of die d. -/
def memPut (s : State) (d P : Nat) : List Byte → State
  | [] => s
  | b :: bs => memPut (setMem s fun m => { m with bytes := tset 0 m.bytes (2 ^ 40 * d + P) b }) d (P + 1) bs

/-- Would a write of n bytes from P touch a part of an unreadable line (R327), a FAILED channel or a die that is not
working? -/
def writeBlocked (s : State) (d P n : Nat) : Bool :=
  (linesOf P n).any fun l => !dieUp s d || tget false s.mem.failed (memChanOf d l) || (lineBad s d l && (l < P || P + n < l + 64))

/-! Errors (R324 to R330). -/

/-- Bit errors of a word: one, two, or three and more. -/
def errRank : LineErr → Nat
  | .none => 0 | .one => 1 | .two => 2 | .uncorrectable => 3

/-- The error of so many bits. -/
def errOf : Nat → LineErr
  | 0 => .none | 1 => .one | 2 => .two | _ => .uncorrectable

/-- Number of the channel word that holds address A. -/
def wordKey (i A : Nat) : Nat := 2 ^ 30 * i + A / 8

/-- Bit errors arise in a word, beside those it holds. -/
def errArise (s : State) (i A : Nat) (e : LineErr) : State :=
  if e == .none then s
  else setMem s fun m => { m with latent := tmod .none m.latent (wordKey i A) fun o => errOf (errRank o + errRank e) }

/-- Channel address of spare check group k, and of its check line: groups first, their check lines next (log entry 263). -/
def spareGroup (k : Nat) : Nat := 0x1F8000000 + 512 * k
def spareCheck (k : Nat) : Nat := 0x1F8200000 + 64 * k

/-- Spare that holds data group g of channel i, if it is retired. -/
def spareOf (s : State) (i g : Nat) : Option Nat := (tget [] s.nvs.retired i).findIdx? (· == g)

/-- Where data address A of channel i lies, and its group's check line (R325, R330). -/
def lineAt (s : State) (i A : Nat) : Nat :=
  match spareOf s i (A / 512) with
  | none => A
  | some k => spareGroup k + A % 512
def checkAt (s : State) (i A : Nat) : Nat :=
  match spareOf s i (A / 512) with
  | none => 0x1C0000000 + A / 512 * 64
  | some k => spareCheck k

/-- What a channel address holds now: the first data address of a group and whether it is its check line; a data line by its
own address; none for the cells of a retired group, a free spare, or controller state. -/
def holds (s : State) (i A : Nat) : Option (Nat × Bool) :=
  let kept := fun (g : Nat) (c : Bool) => if (spareOf s i g).isSome then none else some (if c then 512 * g else A, c)
  if A < 0x1C0000000 then kept (A / 512) false
  else if A < spareGroup 0 then kept ((A - 0x1C0000000) / 64) true
  else if A < spareCheck 0 then
    ((tget [] s.nvs.retired i)[(A - spareGroup 0) / 512]?).map fun g => (512 * g + A % 512, false)
  else if A < spareCheck 4096 then ((tget [] s.nvs.retired i)[(A - spareCheck 0) / 64]?).map fun g => (512 * g, true)
  else none

/-- Errors of the words of the line at channel address A, and the worst of them. -/
def lineErrs (s : State) (i A : Nat) : Tab LineErr := s.mem.latent.filter fun e => e.1 / 8 == 2 ^ 27 * i + A / 64
def worst (l : Tab LineErr) : Nat := l.foldl (fun m e => max m (errRank e.2)) 0

/-- The line at channel address A holds no error any more. -/
def clearErrs (s : State) (i A : Nat) : State :=
  setMem s fun m => { m with latent := m.latent.filter fun e => e.1 / 8 != 2 ^ 27 * i + A / 64 }

/-- One line poisoned (R327): counted in `MEM_UE_i`, one event; a line that is poisoned stays so. -/
def poisonLine (s : State) (i A : Nat) : State :=
  let d := i / 80
  let k := 2 ^ 40 * d + memDieAddr i A / 64
  if tget false s.mem.poison k then s
  else
    let s := setMem s fun m => { m with poison := tset false m.poison k true }
    event (bump s (MEM_UE i)) 0x0B 1 2 d 0xFFFF i (le 8 A)

/-- All eight lines of the group of data address A poisoned, their check line being uncorrectable. -/
def poisonGroup (s : State) (i A : Nat) : State :=
  forRange 8 s fun s k => poisonLine s i (A / 512 * 512 + 64 * k)

/-- Retirement of the group of data address A of channel i (R330): its copy at the spare holds no error. The reads of the copy
poison a line they cannot correct, and the group stays. -/
def retireGroup (s : State) (i A : Nat) : State :=
  let g := A / 512
  let lines := (List.range 8).map fun k => g * 512 + 64 * k
  let done := tget [] s.nvs.retired i
  if done.contains g || 4096 ≤ done.length then s
  else
    let s := forEach (lines.filter fun l => worst (lineErrs s i l) == 3) s fun s l => poisonLine (clearErrs s i l) i l
    if lines.any fun l => lineBad s (i / 80) (memDieAddr i l) then s
    else
      let s := forEach (checkAt s i A :: lines) s fun s l => clearErrs s i l
      let s := setNvs s fun n => { n with retired := tset [] n.retired i (done ++ [g]) }
      let s := fset s (MEM_CH.RETIRED i) (done.length + 1)
      let s := event s 0x0B 2 0 (i / 80) 0xFFFF i (le 4 g)
      if done.length + 1 == 4096 then event s 0x0B 3 2 (i / 80) 0xFFFF i [] else s

/-- A read of the data line at address A (R326, R327, R330): an uncorrectable check line poisons its group, an uncorrectable word
its line; otherwise every word in error is corrected and counted, in the data alone and not in memory, and a word of two bit errors
retires the group. -/
def lineTouch (s : State) (i A : Nat) : State :=
  let own := lineErrs s i (lineAt s i A)
  let chk := lineErrs s i (checkAt s i A)
  if s.mem.latent.isEmpty || lineBad s (i / 80) (memDieAddr i A) then s
  else if 2 ≤ worst chk then poisonGroup (clearErrs s i (checkAt s i A)) i A
  else if worst own == 3 then poisonLine (clearErrs s i (lineAt s i A)) i (A / 64 * 64)
  else
    let s := bumpBy s (MEM_CE i) (own.length + chk.length)
    if worst own == 2 then retireGroup s i A else s

/-- The reads of a read of n bytes from P of die d. -/
def memTouch (s : State) (d P n : Nat) : State :=
  if s.mem.latent.isEmpty then s else forEach (linesOf P n) s fun s l => lineTouch s (memChanOf d l) (memChanAddr l)

/-- The reads of a write of n bytes from P of die d: of the lines it covers in part (R326). -/
def memTouchPart (s : State) (d P n : Nat) : State :=
  if s.mem.latent.isEmpty then s
  else forEach ((linesOf P n).filter fun l => l < P || P + n < l + 64) s fun s l => lineTouch s (memChanOf d l) (memChanAddr l)

/-- A line has been written, and its check line with it: neither holds an error. Where the check line could not be corrected, the
group's other lines are found uncorrectable. -/
def lineWritten (s : State) (i A : Nat) : State :=
  if s.mem.latent.isEmpty then s
  else
    let c := checkAt s i A
    let s := if 2 ≤ worst (lineErrs s i c) then
        forEach (((List.range 8).map fun k => A / 512 * 512 + 64 * k).filter (· != A)) s fun s l => poisonLine s i l
      else s
    clearErrs (clearErrs s i c) i (lineAt s i A)

/-- A write of bytes from P of die d (R326, R327): a write of a whole line clears its poison. -/
def memWrite (s : State) (d P : Nat) (bs : List Byte) : State :=
  let s := memPut s d P bs
  forEach (linesOf P bs.length) s fun s l =>
    let s := lineWritten s (memChanOf d l) (memChanAddr l)
    if l < P || P + bs.length < l + 64 then s
    else setMem s fun m => { m with poison := tset false m.poison (2 ^ 40 * d + l / 64) false }

/-! Contexts' frames. -/

/-- Window and log frames of context x, in index order: die and frame on it. -/
def winFrames (s : State) (x : Nat) : List (Nat × Nat) := tget [] s.mem.winFr x
def logFrames (s : State) (x : Nat) : List (Nat × Nat) := tget [] s.mem.logFr x

/-- Bytes of the window and of the log range of context x (R333); frames placed fix them (R332). -/
def winBytes (s : State) (x : Nat) : Nat := (winFrames s x).length * frameBytes
def logBytes (s : State) (x : Nat) : Nat := (logFrames s x).length * frameBytes

/-- Die and die address of offset o of context x, none outside its window and log range (R333). -/
def ctxLoc (s : State) (x o : Nat) : Option (Nat × Nat) :=
  match ((winFrames s x) ++ (logFrames s x))[o / frameBytes]? with
  | some (d, f) => some (d, f * frameBytes + o % frameBytes)
  | none => none

/-- Slot frames of context x on SWd (R334, Table 13.6). -/
def slotCount (s : State) (x d : Nat) : Nat := bits (getReg s (MEM_CTX x)).toNat (32 + 8 * d) 8

/-- Is window frame f of context x a slot frame: among its highest-numbered window frames on a switch die (R334)? -/
def isSlotFrame (s : State) (x f : Nat) : Bool :=
  match (winFrames s x)[f]? with
  | some (d, _) =>
    d < 4 && (((winFrames s x).drop (f + 1)).filter fun p => p.1 == d).length < slotCount s x d
  | none => false

/-- Do n bytes from offset o of context x touch a slot frame? -/
def touchesSlot (s : State) (x o n : Nat) : Bool :=
  (List.range ((o + n - 1) / frameBytes - o / frameBytes + 1)).any fun k => isSlotFrame s x (o / frameBytes + k)

/-- Do n bytes from o lie in the placed window of x, touching no slot frame? -/
def inWindow (s : State) (x o n : Nat) : Bool := n != 0 && o + n ≤ winBytes s x && !touchesSlot s x o n

/-- Does one frame hold n bytes from o? -/
def oneFrame (o n : Nat) : Bool := o / frameBytes == (o + n - 1) / frameBytes

/-- n bytes from offset o of context x, across frames; unplaced bytes read zero. -/
def ctxRead (s : State) (x o n : Nat) : List Byte :=
  (List.range n).map fun k =>
    match ctxLoc s x (o + k) with
    | some (d, P) => memByte s d P
    | none => 0

/-- Does a read of n bytes from offset o of context x meet an uncorrectable line? -/
def ctxBad (s : State) (x o n : Nat) : Bool :=
  (linesOf o n).any fun l =>
    match ctxLoc s x l with
    | some (d, P) => lineBad s d P
    | none => false

/-- The part of line l that n bytes from offset o of context x cover, at its die address: first byte, end, die and address. -/
def partAt (s : State) (x o n l : Nat) : Option (Nat × Nat × Nat × Nat) :=
  (ctxLoc s x l).map fun (d, P) => (max l o, min (l + 64) (o + n), d, P + (max l o - l))

/-- The reads of a read of n bytes at offset o of context x (R326). -/
def ctxTouch (s : State) (x o n : Nat) : State :=
  if s.mem.latent.isEmpty then s
  else forEach (linesOf o n) s fun s l =>
    match ctxLoc s x l with
    | some (d, P) => lineTouch s (memChanOf d P) (memChanAddr P)
    | none => s

/-- The reads of a write of n bytes at offset o of context x: of the lines it covers in part (R326). -/
def ctxTouchPart (s : State) (x o n : Nat) : State :=
  if s.mem.latent.isEmpty then s
  else forEach (linesOf o n) s fun s l =>
    match partAt s x o n l with
    | some (lo, hi, d, P) => memTouchPart s d P (hi - lo)
    | none => s

/-- Would a write of n bytes at offset o of context x meet a line it cannot write? -/
def ctxPartBad (s : State) (x o n : Nat) : Bool :=
  (linesOf o n).any fun l =>
    match partAt s x o n l with
    | some (lo, hi, d, P) => writeBlocked s d P (hi - lo)
    | none => false

/-- Bytes put at offset o of context x, line by line, after the reads of the write; no line that cannot be written is. -/
def ctxPut (s : State) (x o : Nat) (bs : List Byte) : State :=
  forEach (linesOf o bs.length) s fun s l =>
    match partAt s x o bs.length l with
    | some (lo, hi, d, P) =>
      if writeBlocked s d P (hi - lo) then s else memWrite s d P ((bs.drop (lo - o)).take (hi - lo))
    | none => s

/-- A write of bytes at offset o of context x (R326, R327). -/
def ctxWrite (s : State) (x o : Nat) (bs : List Byte) : State := ctxPut (ctxTouchPart s x o bs.length) x o bs

/-! Placement (R332). -/

/-- Free frames of die d. -/
def freeFrames (s : State) (d : Nat) : Nat := fget s (MEM_DIE.FREE d)

/-- Is frame f of die d held by some context? -/
def frameHeld (s : State) (d f : Nat) : Bool :=
  (s.mem.winFr ++ s.mem.logFr).any fun (_, l) => l.contains (d, f)

/-- The lowest-numbered free frame of die d. -/
def firstFree (s : State) (d : Nat) : Option Nat := (List.range framesPerDie).find? fun f => !frameHeld s d f

/-- Log reserve of a switch die: 2 frames for each GiB of LOG_GIB of every context that holds no frames (R332). -/
def logReserve (s : State) : Nat :=
  2 * (s.sec.share.foldl (fun n (x, c) => if (winFrames s x).isEmpty && (logFrames s x).isEmpty then n + c.logGib else n) 0)

/-- MEM_DIE_d.RESERVE and FREE brought up to date (R341). -/
def memDieUpdate (s : State) : State :=
  forRange 8 s fun s d =>
    let held := (s.mem.winFr ++ s.mem.logFr).foldl (fun n (_, l) => n + (l.filter fun p => p.1 == d).length) 0
    let s := fset s (MEM_DIE.FREE d) (framesPerDie - held)
    fset s (MEM_DIE.RESERVE d) (if d < 4 then logReserve s else 0)

/-- Place a context's log frames, dealing them to SW0 to SW3 in turn; none if a die is full. -/
def placeLog (s : State) (x : Nat) : Nat → Option State
  | 0 => some s
  | n + 1 =>
    match placeLog s x n with
    | none => none
    | some s =>
      match firstFree s (n % 4) with
      | none => none
      | some f => some (setMem s fun m => { m with logFr := tset [] m.logFr x (tget [] m.logFr x ++ [(n % 4, f)]) })

/-- The die of window frame f: f mod 8 if it has a frame to give, otherwise the lowest-numbered die that has. A switch
die keeps back its log reserve. -/
def windowDie (s : State) (f : Nat) : Option Nat :=
  let ok := fun d =>
    let free := framesPerDie - (s.mem.winFr ++ s.mem.logFr).foldl (fun n (_, l) => n + (l.filter fun p => p.1 == d).length) 0
    if d < 4 then logReserve s < free else 0 < free
  if ok (f % 8) then some (f % 8) else (List.range 8).find? ok

/-- Place a context's window frames; none if no die has one. -/
def placeWin (s : State) (x : Nat) : Nat → Option State
  | 0 => some s
  | n + 1 =>
    match placeWin s x n with
    | none => none
    | some s =>
      match windowDie s n with
      | none => none
      | some d =>
        match firstFree s d with
        | none => none
        | some f => some (setMem s fun m => { m with winFr := tset [] m.winFr x (tget [] m.winFr x ++ [(d, f)]) })

/-- `MEM_CTX_x` after placement (R334, R341). -/
def memCtxUpdate (s : State) (x : Nat) (mslot : Nat) : State :=
  let on := fun d => ((winFrames s x).filter fun p => p.1 == d).length
  let k := fun d => min (ceilDiv mslot 8192) (on d)
  setReg s (MEM_CTX x) (BitVec.ofNat 64
    ((winFrames s x).length + (logFrames s x).length * 2 ^ 16 + k 0 * 2 ^ 32 + k 1 * 2 ^ 40 + k 2 * 2 ^ 48 + k 3 * 2 ^ 56))

/-- Place the frames of context x by its share (R332): log frames, then window frames. -/
def placeFrames (s : State) (x : Nat) : Option State :=
  let c := tget {} s.sec.share x
  match placeLog s x (c.logGib * 8) with
  | none => none
  | some s1 =>
    match placeWin s1 x (c.winGib * 8) with
    | none => none
    | some s2 => some (memDieUpdate (memCtxUpdate s2 x c.mslotLimit))

/-- Zero one frame: its lines hold neither poison nor errors. -/
def zeroFrame (s : State) (d f : Nat) : State :=
  let inB := fun k => 2 ^ 40 * d + f * frameBytes ≤ k && k < 2 ^ 40 * d + (f + 1) * frameBytes
  let inL := fun k => 2 ^ 40 * d + f * frameBytes / 64 ≤ k && k < 2 ^ 40 * d + (f + 1) * frameBytes / 64
  let inE := fun k => k / 2 ^ 30 / 80 == d && k % 2 ^ 30 * 8 < 0x1C0000000 &&
    inL (2 ^ 40 * d + memDieAddr (k / 2 ^ 30) (k % 2 ^ 30 * 8) / 64)
  setMem s fun m =>
    { m with bytes := m.bytes.filter (fun e => !inB e.1), poison := m.poison.filter (fun e => !inL e.1),
             latent := m.latent.filter (fun e => !inE e.1) }

/-- Zero the whole memory of die d (R340, R376). -/
def zeroDie (s : State) (d : Nat) : State :=
  setMem s fun m =>
    { m with bytes := m.bytes.filter (fun e => e.1 / 2 ^ 40 != d), poison := m.poison.filter (fun e => e.1 / 2 ^ 40 != d),
             latent := m.latent.filter (fun e => e.1 / 2 ^ 30 / 80 != d) }

/-- Release a context's frames (R332, Table 16.3). -/
def releaseFrames (s : State) (x : Nat) : State :=
  let s := setMem s fun m => { m with winFr := tset [] m.winFr x [], logFr := tset [] m.logFr x [] }
  memDieUpdate (resetReg s (MEM_CTX x))

/-- `MEM_MAP_DATA` from `MEM_MAP_SEL` (R341). -/
def memMapLoad (s : State) : State :=
  let x := fget s MEM_MAP_SEL.CTX
  let f := fget s MEM_MAP_SEL.FRAME
  let log := fbit s MEM_MAP_SEL.KIND
  match (if log then logFrames s x else winFrames s x)[f]? with
  | some (d, p) =>
    let slot := !log && isSlotFrame s x f
    setReg s MEM_MAP_DATA (BitVec.ofNat 64 (2 ^ 63 + b2n slot * 2 ^ 62 + d * 2 ^ 48 + p))
  | none => setReg s MEM_MAP_DATA 0

/-! The patrol (R329, R330). -/

/-- Words the patrol has corrected on this pass: a word it corrected on the pass before as well retires its group. -/
def patrolNote (s : State) (i L : Nat) (words : Tab LineErr) : State :=
  forEach words s fun s e =>
    let last := tget 0 s.mem.oneBit e.1
    let s := setMem s fun m => { m with oneBit := tset 0 m.oneBit e.1 (m.passNo + 1) }
    if last != 0 && last == s.mem.passNo then retireGroup s i L else s

/-- The patrol reads the line at channel address A and writes it back corrected: a data line as any read does; a check line, whose
own code corrects one error a word; a line that holds no data (R324, R329, log entry 263). -/
def patrolLine (s : State) (i A : Nat) : State :=
  let own := lineErrs s i A
  if own.isEmpty || tget false s.mem.failed i then s
  else
    match holds s i A with
    | some (L, false) =>
      if lineBad s (i / 80) (memDieAddr i L) then s
      else
        let t := lineTouch s i L
        if lineBad t (i / 80) (memDieAddr i L) then t else clearErrs (patrolNote t i L own) i A
    | some (L, true) =>
      if 2 ≤ worst own then poisonGroup (clearErrs s i A) i L
      else clearErrs (patrolNote (bumpBy s (MEM_CE i) own.length) i L own) i A
    | none =>
      let s := clearErrs (bumpBy s (MEM_CE i) (own.filter fun e => errRank e.2 < 3).length) i A
      if worst own == 3 && spareGroup 0 ≤ A then poisonLine s i (A / 64 * 64) else s

/-- One line further; the next pass begins at once. -/
def patrolStep (s : State) : State :=
  let total := 640 * 2 ^ 27
  let n := s.mem.patrolPos + 1
  if total ≤ n then
    let s := setMem s fun m => { m with patrolPos := 0, passNo := m.passNo + 1 }
    fset (fset s MEM_SCRUB.PASS_SEC s.tbSec) MEM_SCRUB.PROGRESS 0
  else
    let s := setMem s fun m => { m with patrolPos := n }
    fset s MEM_SCRUB.PROGRESS (n * 65536 / total)

/-- One patrol read of channel address A on channel i, in whose word an error has arisen. -/
def patrolRead (s : State) (i A : Nat) (e : LineErr) : State := patrolStep (patrolLine (errArise s i A e) i A)

/-- A channel fails (Table 15.2): every later access to it meets the uncorrectable outcome. -/
def failChannel (s : State) (i : Nat) : State :=
  if tget false s.mem.failed i then s
  else event (setMem s fun m => { m with failed := tset false m.failed i true }) 0x0B 4 2 (i / 80) 0xFFFF i []

end Sys2Proof.Machine
end

