-- ==== Sys2Proof/Machine/Tables.lean ====
section
/-! DEFINITION. The forwarding tables and the lookup (R166 to R180): keys, entries, the longest-prefix match, link groups
and their buckets, the hash, and what a lookup decides. -/

namespace Sys2Proof.Machine

/-! The copies (R171, R182). -/

/-- Capacity of a table (Table 7.4). -/
def tblCapacity : Nat → Nat
  | 1 => 2097152 | 2 => 1048576 | 3 => 65536 | 4 => 1048576 | 5 => 262144 | 6 => 65536 | 7 => 4096 | _ => 0

/-- Physical entries of a table (Table 7.4). -/
def tblPhysical : Nat → Nat
  | 1 => 2621440 | 2 => 1310720 | 3 => 65536 | 4 => 1048576 | 5 => 327680 | 6 => 65536 | 7 => 4096 | _ => 0

/-- Is the table a hash table? -/
def tblHash (t : Nat) : Bool := t == 1 || t == 2 || t == 5

/-- Table t of die d. -/
def tcopy (s : State) (d t : Nat) : Tab Entry := tget [] s.tbl.copies (8 * d + t)

/-- The entry with a key: its physical index and itself. -/
def findKey (c : Tab Entry) (key : List Byte) : Option (Nat × Entry) := c.find? fun e => e.2.key == key

/-- The copy the engine reads: that of the lowest-numbered switch die that is UP (R191). -/
def refDie (s : State) : Nat :=
  match (List.range 4).find? fun d => dieUp s d with
  | some d => d
  | none => 0

/-- Entry at a physical index of a die's copy. -/
def entryAt (s : State) (d t i : Nat) : Option Entry := ((tcopy s d t).find? fun e => e.1 == i).map (·.2)

/-- Entry i of a direct table on die d: the one at physical index i, whatever KEY a raw WRITE stored there (R186). -/
def direct (s : State) (d t i : Nat) : Option Entry := entryAt s d t i

/-- KEY of entry i of a direct table. -/
def directKey (t i : Nat) : List Byte := fit 32 (le (if t == 3 || t == 4 then 4 else 2) i)

/-- The entry a command's KEY names on die d: by its key in a hash table, by its index in a direct one. -/
def keyEntry (s : State) (d t : Nat) (key : List Byte) : Option (Nat × Entry) :=
  if tblHash t then findKey (tcopy s d t) key
  else (tcopy s d t).find? fun e => e.1 == fieldAt key 0 (if t == 3 || t == 4 then 4 else 2)

/-- ACTION and TARGET of an entry (Table 7.7). -/
def eAction (e : Entry) : Nat := fieldAt e.data 0 1
def eTarget (e : Entry) : Nat := fieldAt e.data 4 4

/-- Link group: KIND, COUNT, UNORD and member j (Table 7.7). -/
def lgKind (e : Entry) : Nat := fieldAt e.data 0 1
def lgCount (e : Entry) : Nat := fieldAt e.data 1 1
def lgUnord (e : Entry) : Nat := fieldAt e.data 2 2
def lgMember (e : Entry) (j : Nat) : Nat := fieldAt e.data (4 + 2 * j) 2

/-- Member ports of a multicast entry, rising (R180). -/
def mcMembers (e : Entry) : List Nat := (List.range 1024).filter fun p => bit (fieldAt e.data (p / 8) 1) (p % 8)

/-! Longest-prefix match (R172). -/

/-- The first n bits of an address of w bits. -/
def topBits (w n a : Nat) : Nat := a / 2 ^ (w - n)

/-- VRF, length and address of an LPM key. -/
def lpmVrf (e : Entry) : Nat := fieldAt e.key 0 2
def lpmLen (e : Entry) : Nat := fieldAt e.key 2 1
def lpmAddr (t : Nat) (e : Entry) : Nat := unbe (bytesAt e.key 4 (if t == 1 then 4 else 16))

/-- Width of an address of table 1 or 2. -/
def addrBits (t : Nat) : Nat := if t == 1 then 32 else 128

/-- The entry a frame to an address in a VRF matches: the longest prefix (R172). -/
def lpmLookup (s : State) (d t vrf addr : Nat) : Option (Nat × Entry) :=
  let w := addrBits t
  (tcopy s d t).foldl (fun (b : Option (Nat × Entry)) e =>
    if lpmVrf e.2 == vrf && topBits w (lpmLen e.2) (lpmAddr t e.2) == topBits w (lpmLen e.2) addr then
      match b with
      | some m => if lpmLen m.2 < lpmLen e.2 then some e else b
      | none => some e
    else b) none

/-! Usability and link groups (R174, R175). -/

/-- Is a port a usable member: it names a port of the structure in force and is UP (R174), and no context that is
UNPICKING owns it (R398)? -/
def portUsable (s : State) (L : Nat) : Bool := L < 1024 && isPort s L && portUp s L && !portUnpicking s L

/-- Is a KIND 0 group's some member usable? -/
def groupUsable (s : State) (d g : Nat) : Bool :=
  match direct s d 7 g with
  | some e => lgKind e == 0 && (List.range (lgCount e)).any fun j => portUsable s (lgMember e j)
  | none => false

/-- Does a next hop's egress resolve to a usable port? -/
def hopUsable (s : State) (d i : Nat) : Bool :=
  match direct s d 3 i with
  | some e => if eAction e == 0 then portUsable s (eTarget e) else groupUsable s d (eTarget e)
  | none => false

/-- Is member number j of a group usable? -/
def memberUsable (s : State) (d : Nat) (e : Entry) (j : Nat) : Bool :=
  if lgKind e == 0 then portUsable s (lgMember e j) else hopUsable s d (lgMember e j)

/-- Member number of bucket b of group g in die d's copy (R175). -/
def bucketOf (s : State) (d g : Nat) (e : Entry) (b : Nat) : Nat :=
  ((tget [] s.tbl.buckets (4096 * d + g))[b]?).getD (b % lgCount e)

/-- Bucket assignment after the entry is written: bucket b to member b mod COUNT. -/
def freshBuckets (e : Entry) : List Nat := (List.range 256).map fun b => b % lgCount e

/-- Hand-over in die d's copy (R175): every bucket whose member is not usable goes to the usable members in turn, in ascending
bucket order, from the lowest-numbered usable member; no other bucket moves. -/
def handOverDie (s : State) (g d : Nat) : State :=
  match direct s d 7 g with
  | none => s
  | some e =>
    let us := (List.range (lgCount e)).filter fun j => memberUsable s d e j
    if us.isEmpty then s
    else
      let bs := (List.range 256).map fun b => bucketOf s d g e b
      let r := bs.foldl (fun (acc : List Nat × Nat) j =>
        if us.contains j then (acc.1 ++ [j], acc.2) else (acc.1 ++ [us.getD (acc.2 % us.length) 0], acc.2 + 1)) ([], 0)
      setTbl s fun t => { t with buckets := tset [] t.buckets (4096 * d + g) r.1 }

/-- Hand-over in every copy (R175). -/
def handOver (s : State) (g : Nat) : State :=
  forEach ((List.range 4).filter fun d => dieUp s d) s fun s d => handOverDie s g d

/-! The hash (R176). -/

/-- CRC-32C of the inputs with the seed as preset. -/
def hashBytes (s : State) (bs : List Byte) : Nat :=
  (bs.foldl (crcByte 0x82F63B78) ((fget s TBL_HASH.SEED) ^^^ 0xFFFFFFFF)) ^^^ 0xFFFFFFFF

/-- Inputs of Table 7.5 for an Ethernet frame with its VLAN. The ports of an IPv4 packet follow its header of IHL words. The
spec gives no byte form of the flow label and the VLAN: the label is taken as 3 bytes with the top 4 bits zero, the VLAN as 2
bytes with the PCP zero (DESIGN CHOICE, log entry 249). -/
def ethHashInputs (s : State) (f : List Byte) (vlan : Nat) : List Byte :=
  let o := ethL3 f
  if isV4 f then
    let proto := bytesAt f (o + 9) 1
    let later := unbe (bytesAt f (o + 6) 2) % 8192 != 0
    bytesAt f (o + 12) 8 ++ proto ++ (if (proto == [6] || proto == [17]) && !later then bytesAt f (o + fieldAt f o 1 % 16 * 4) 4 else [])
  else if isV6 f then
    let nh := bytesAt f (o + 6) 1
    bytesAt f (o + 8) 32 ++ nh ++ (if nh == [6] || nh == [17] then bytesAt f (o + 40) 4 else []) ++
      (if fbit s TBL_HASH.FLOWLABEL then be 3 (unbe (bytesAt f (o + 1) 3) % 2 ^ 20) else [])
  else bytesAt f 0 12 ++ be 2 vlan ++ bytesAt f (ethTypeOff f) 2

/-- The hash of a frame. -/
def frameHash (s : State) (f : Frame) (vlan : Nat) : Nat :=
  hashBytes s (if f.eth then ethHashInputs s f.body vlan else le 7 (f.hdr.toNat % 2 ^ 54))

/-! The decision (R166, R167, R169, R174). -/

/-- What a lookup decides. -/
inductive Look where
  /-- A port, with the rewrite of a routed frame. -/
  | port (L : Nat) (rw : Option Rewrite)
  /-- The members of a multicast entry. -/
  | group (members : List Nat)
  /-- One of the VS1's own units. -/
  | own
  /-- Missing or invalid entry. -/
  | miss
  /-- An entry's drop action. -/
  | dropped
  /-- A group with no usable member. -/
  | noUp
  /-- An own-unit frame in BASIC or WEAVING. -/
  | self
  /-- A check of R170. -/
  | ip
deriving DecidableEq, Repr

/-- A port target of an entry: one that names an absorbed lane counts as an invalid entry (R174). -/
def lookPort (s : State) (L : Nat) (rw : Option Rewrite) : Look := if L < 1024 && isPort s L then .port L rw else .miss

/-- Resolution of a KIND 0 group for a frame with hash h (R174, R175, R177). The one pointer of the group and channel is the
member after the last one taken. -/
def lookGroup (s : State) (d g h c : Nat) (unord : Bool) (rw : Option Rewrite) : State × Look :=
  match direct s d 7 g with
  | none => (s, .miss)
  | some e =>
    if lgKind e != 0 then (s, .miss)
    else
      let us := (List.range (lgCount e)).filter fun j => portUsable s (lgMember e j)
      let vs := us.filter fun j => 2 ≤ fget s (PRT_JLP.VER (lgMember e j))
      if us.isEmpty then (s, .noUp)
      else if unord && bit (lgUnord e) c && !vs.isEmpty then
        let p := tget 0 s.tbl.rr (16 * g + c)
        let j := ((vs.find? fun j => p ≤ j).getD (vs.headD 0))
        (setTbl s fun t => { t with rr := tset 0 t.rr (16 * g + c) (j + 1) }, .port (lgMember e j) rw)
      else (s, .port (lgMember e (bucketOf s d g e (h / 256 % 256))) rw)

/-- Next hop, then port or KIND 0 group (R174). The rewrite is taken whole at the lookup (R166): source MAC, and the PCP of the
frame's channel with its VLAN. -/
def lookHop (s : State) (d i h c : Nat) : State × Look :=
  match direct s d 3 i with
  | none => (s, .miss)
  | some e =>
    let rw : Rewrite := { dmac := BitVec.ofNat 48 (unbe (bytesAt e.data 8 6)), vlan := fieldAt e.data 14 2,
                          smac := BitVec.ofNat 48 (fget s TBL_RMAC.MAC), pcp := chanEthPrio s c }
    if eAction e == 0 then (s, lookPort s (eTarget e) (some rw)) else lookGroup s d (eTarget e) h c false (some rw)

/-- LPM entry: next hop, ECMP group or drop (R173, R174). -/
def lookRoute (s : State) (d t vrf addr h c : Nat) : State × Look :=
  match lpmLookup s d t vrf addr with
  | none => (s, .miss)
  | some (_, e) =>
    match eAction e with
    | 0 => lookHop s d (eTarget e) h c
    | 1 =>
      match direct s d 7 (eTarget e) with
      | none => (s, .miss)
      | some g =>
        if lgKind g != 1 then (s, .miss)
        else if !(List.range (lgCount g)).any fun j => memberUsable s d g j then (s, .noUp)
        else lookHop s d (lgMember g (bucketOf s d (eTarget e) g (h % 256))) h c
    | _ => (s, .dropped)

/-- Fabric-mode lookup (Table 7.1). -/
def lookFabric (s : State) (d : Nat) (f : Frame) : State × Look :=
  if hMcast f.hdr then
    match direct s d 6 (hDst f.hdr) with
    | none => (s, .miss)
    | some e =>
      let m := (mcMembers e).filter fun p => isPort s p
      if m.isEmpty then (s, .miss) else (s, .group m)
  else if fbit s TBL_SELF.VALID && hDst f.hdr == fget s TBL_SELF.CHIP then
    if s.asBasic then (s, .self) else (s, .own)
  else
    match direct s d 4 (hDst f.hdr) with
    | none => (s, .miss)
    | some e =>
      match eAction e with
      | 0 => (s, lookPort s (eTarget e) none)
      | 1 => lookGroup s d (eTarget e) (frameHash s f 0) (hChan f.hdr) (hUnord f.hdr) none
      | _ => (s, .dropped)

/-- VLAN of an Ethernet frame on a port (Table 7.3, step 1). -/
def ethVlan (s : State) (L : Nat) (f : List Byte) : Nat :=
  let v := ethTci f % 4096
  if v == 0 then fget s (PRT_L3.DEF_VLAN L) else v

/-- KEY of an L2 entry. -/
def l2Key (vlan mac : Nat) : List Byte := fit 32 (le 2 vlan ++ be 6 mac)

/-- Ethernet-mode lookup after learning (Table 7.3, steps 1, 3 and 4). -/
def lookEth (s : State) (d : Nat) (f : Frame) : State × Look :=
  let L := f.ingress
  let b := f.body
  if ethTci b % 4096 == 4095 && ethTagged b then (s, .miss)
  else
    let vlan := ethVlan s L b
    let h := frameHash s f vlan
    if fbit s (PRT_L3.ROUTE L) && ethDmac b == fget s TBL_RMAC.MAC && (isV4 b || isV6 b) then
      if !ipChecks b then (s, .ip)
      else
        let o := ethL3 b
        let r := if isV4 b then lookRoute s d 1 (fget s (PRT_L3.VRF L)) (unbe (bytesAt b (o + 16) 4)) h f.chan
          else lookRoute s d 2 (fget s (PRT_L3.VRF L)) (unbe (bytesAt b (o + 24) 16)) h f.chan
        match r with
        | (s, .port E rw) => if fget s (PRT_L3.MTU E) < ipLen b then (s, .ip) else (s, .port E rw)
        | r => r
    else if s.asBasic then (s, .miss)
    else
      match findKey (tcopy s d 5) (l2Key vlan (ethDmac b)) with
      | none => (s, .miss)
      | some (_, e) =>
        match eAction e with
        | 0 => (s, lookPort s (eTarget e) none)
        | 1 => lookGroup s d (eTarget e) h f.chan false none
        | 2 =>
          match direct s d 6 (eTarget e) with
          | none => (s, .miss)
          | some m =>
            let ms := (mcMembers m).filter fun p => isPort s p
            if ms.isEmpty then (s, .miss) else (s, .group ms)
        | _ => (s, .dropped)

/-- A frame whose (VLAN, source MAC) hits a learned entry sets the stamp on its ingress die (R179). -/
def l2Refresh (s : State) (d vlan mac : Nat) : State :=
  match findKey (tcopy s d 5) (l2Key vlan mac) with
  | some (i, e) =>
    if fieldAt e.data 1 1 == 1 then s
    else setTbl s fun t => { t with stamps := tset 0 t.stamps (2 ^ 20 * d + i) (fget s TBL_L2.TICK) }
  | none => s

/-- Learning at step 2 (R178): the learn takes its place in the submission order. -/
def l2Learn (s : State) (L vlan mac : Nat) : State :=
  if macGroup mac || s.asBasic || !fbit s (PRT_L3.LEARN L) then s
  else
    let tgt := if fbit s (PRT_L3.LAG_EN L) then (true, fget s (PRT_L3.LAG L)) else (false, L)
    let same := match findKey (tcopy s (refDie s) 5) (l2Key vlan mac) with
      | some (_, e) => fieldAt e.data 1 1 == 1 || (eAction e == b2n tgt.1 && eTarget e == tgt.2)
      | none => false
    if same then s
    else setTbl s fun t => { t with order := t.order ++ [.learn vlan (BitVec.ofNat 48 mac) tgt.1 tgt.2] }

end Sys2Proof.Machine
end

