-- ==== Sys2Proof/Machine/SwitchCore.lean ====
section
/-! DEFINITION. The switch core (chapter 6): virtual output queues, admission, push-out, ECN, the scheduler, spraying,
resequencing, reassembly, multicast, and the discards of R156 and R161. -/

namespace Sys2Proof.Machine

/-! Names of queues and outputs. Output numbers: port L is L, internal output IOx is 1,024 + x (Table 6.2). -/

/-- Key of the unicast VOQ on SWd for output o and channel c; IO 8 stands for the multicast VOQ (R139). -/
def voqKey (d o c : Nat) : Nat := if o < 1024 then 16384 * d + 16 * o + c else 65536 + 144 * d + 16 * (o - 1024) + c

/-- Key of the multicast VOQ. -/
def mcKey (d c : Nat) : Nat := voqKey d 1032 c

/-- Die, output and channel of a VOQ key. -/
def voqDie (k : Nat) : Nat := if k < 65536 then k / 16384 else (k - 65536) / 144
def voqOut (k : Nat) : Nat := if k < 65536 then k % 16384 / 16 else 1024 + (k - 65536) % 144 / 16
def voqChan (k : Nat) : Nat := if k < 65536 then k % 16 else (k - 65536) % 144 % 16

def voq (s : State) (k : Nat) : Voq := tget {} s.core.voqs k
def setVoq (s : State) (k : Nat) (f : Voq → Voq) : State := setCore s fun c => { c with voqs := tmod {} c.voqs k f }

/-! The bundles between dies (R23, R380, R382). -/

/-- Bundle of two SW dies (Table 15.7). -/
def swBundle (i j : Nat) : Nat :=
  let a := min i j
  let b := max i j
  if a = 0 then b - 1 else if a = 1 then b + 1 else 5

/-- Bundle of two of the dies SW0–3 (0–3) and CP0–3 (4–7), where one joins them (R23, Table 15.7). -/
def dieBundle (a b : Nat) : Option Nat :=
  if a == b then none
  else if a < 4 && b < 4 then some (swBundle a b)
  else if 4 ≤ a && 4 ≤ b then some (10 + swBundle (a - 4) (b - 4))
  else if a % 4 == b % 4 then some (6 + a % 4)
  else none

/-- Working waveguides a bundle carries traffic on: none while it is DISABLED (R382) or towards a die that is not
working. -/
def bundleUse (s : State) (b : Nat) : Nat :=
  if fget s (FLT_BUNDLE.STATE b) == 3 || fget s (FLT_BUNDLE.STATE b) == 4 then 0 else fget s (FLT_BUNDLE.WIDTH b)

/-- Is the bundle in its retune window, in which it sends no flit (R380)? -/
def retuning (s : State) (b : Nat) : Bool := s.now < (tget {} s.flt.bundles b).retuneEnd

/-- Does a bundle join two working dies and carry traffic? -/
def dieLink (s : State) (a b : Nat) : Bool :=
  dieUp s a && dieUp s b && match dieBundle a b with
    | some n => bundleUse s n != 0
    | none => false

/-- May the bundle of two dies send a flit now: it carries traffic and is not in a retune window (R380)? -/
def dieSends (s : State) (a b : Nat) : Bool :=
  a == b || (dieLink s a b && match dieBundle a b with
    | some n => !retuning s n
    | none => false)

/-- The switch die through which traffic for or from CPd goes: SWd, else the lowest-numbered SWj that reaches CPd through
CPj (R374, R382). -/
def cpHome (s : State) (d : Nat) : Option Nat :=
  if dieLink s d (4 + d) then some d
  else (List.range 4).find? fun j => dieLink s j (4 + j) && dieLink s (4 + j) (4 + d)

/-- Can cells go between two SW dies, direct or through a relay (R382, R383)? -/
def swReach (s : State) (a b : Nat) : Bool :=
  a == b || dieLink s a b || (List.range 4).any fun r => dieLink s a r && dieLink s r b

/-- The hops of traffic between two working dies; none where it has no path (R374, R382): CPi–CPj direct or through the
lowest-numbered CPk, SWi–CPj through CPj's home. -/
def dieRoute (s : State) (a b : Nat) : Option (List (Nat × Nat)) :=
  if !dieUp s a || !dieUp s b then none
  else if a == b then some []
  else if a < 4 && b < 4 then (if swReach s a b then some [(a, b)] else none)
  else if 4 ≤ a && 4 ≤ b then
    if dieLink s a b then some [(a, b)]
    else (((List.range 4).map (4 + ·)).find? fun k => dieLink s a k && dieLink s k b).map fun k => [(a, k), (k, b)]
  else
    let w := min a b
    let c := max a b
    match cpHome s (c - 4) with
    | none => none
    | some j =>
      if swReach s w j then some ((if w == j then [] else [(w, j)]) ++ [(j, 4 + j)] ++ if 4 + j == c then [] else [(4 + j, c)])
      else none

/-- Can traffic go from die a to die b (R373, R382)? -/
def reach (s : State) (a b : Nat) : Bool := (dieRoute s a b).isSome

/-- May traffic set out from die a to die b now: no bundle on its way holds a retune window (R380)? Between SW dies a relay
whose bundles hold none will do. -/
def routeSends (s : State) (a b : Nat) : Bool :=
  match dieRoute s a b with
  | none => false
  | some hops => hops.all fun h =>
    dieSends s h.1 h.2 || (h.1 < 4 && h.2 < 4 && (List.range 4).any fun r => r != h.1 && r != h.2 && dieSends s h.1 r && dieSends s r h.2)

/-- Egress die of an output; that of IO(4+d) is the die through which CPd is reached. -/
def outDie (s : State) (o : Nat) : Nat :=
  if o < 1024 then swOf o
  else if o < 1028 then o - 1024
  else (cpHome s (o - 1028)).getD ((o - 1024) % 4)

/-! Depths and cells (R140, R143). -/

/-- Bytes an entry still has for its output: a residue reference leaves out what crossed before it. -/
def entLen (s : State) : QEnt → Nat
  | .frame f => frameLen f
  | .ref m b => frameLen (tget {} s.core.mc m).f - b

/-- Bytes that wait in a unicast VOQ for its output. -/
def queueBytes (s : State) (q : Voq) : Nat := q.ents.foldl (fun n e => n + entLen s e) 0 - q.crossed

/-- Depth of a VOQ's byte stream in cells (R140). -/
def streamCells (q : Voq) : Nat := if q.tail ≤ q.head then 0 else ceilDiv q.tail 256 - q.head / 256

/-- Depth of a VOQ in cells: for each residue reference, the cells of the stored frame it names (R143). A SEND reference
counts none, as it takes none (R300). -/
def voqDepth (s : State) (k : Nat) : Nat :=
  let q := voq s k
  q.ents.foldl (fun n e => match e with
    | .ref m _ => n + unitsOf (frameLen (tget {} s.core.mc m).f)
    | .frame _ => n) (streamCells q)

/-- VOQ memory of a die in cells (R140). -/
def voqCells (s : State) (d : Nat) : Nat := 4096 * tget 192 s.sys.str.voqMib d

/-- First stored byte of a multicast frame that has not left the die: a reference made at the head (R160) needs it whole. -/
def mcKept (m : McFrame) : Nat := if 32 < m.f.members.length && m.refs != 0 then m.start else m.start + m.pos

/-- Cells of VOQ memory that the stored multicast frames of a die and channel take, in their queue or past it: each cell
counts once, and a SEND frame takes none (R140, R160, R300). -/
def mcCells (s : State) (d c : Nat) : Nat :=
  (s.core.mc.foldl (fun (a : Nat × Nat) (_, m) =>
    if m.f.idie == d && m.f.chan == c && m.f.bob.isNone then
      let lo := max a.1 (mcKept m / 256)
      let hi := max lo (ceilDiv (m.start + frameLen m.f) 256)
      (hi, a.2 + (hi - lo))
    else a) (0, 0)).2

/-- Cells in use on die d, of all channels or of lossy ones. -/
def cellsUsed (s : State) (d : Nat) (lossy : Bool) : Nat :=
  let mc := ((List.range 16).map fun c => if !lossy || chanLossy s c then mcCells s d c else 0).sum
  s.core.voqs.foldl (fun n (k, q) =>
    if voqDie k == d && voqOut k != 1032 && (!lossy || chanLossy s (voqChan k)) then n + streamCells q else n) mc

/-- Free VOQ cells of a die (Table 6.6). -/
def cellsFree (s : State) (d : Nat) : Nat := voqCells s d - cellsUsed s d false

/-! Charges and credits (R120, R141). -/

/-- Units of a frame returned to its sender on its ingress port, if the port has not trained since. -/
def creditReturn (s : State) (f : Frame) : State :=
  if 1024 ≤ f.ingress then s
  else
    let u := unitsOf (frameLen f)
    let L := f.ingress
    if f.trainGen != (port s L).trainGen then s
    else if f.eth then
      setPort s L fun p => { p with ethHeld := tmod 0 p.ethHeld f.chan (· - u) }
    else
      setPort s L fun p =>
        { p with held := tmod 0 p.held f.chan (· - u), returned := tmod 0 p.returned f.chan fun r => (r + u) % 2 ^ 24,
                 retDirty := p.retDirty ||| (1 <<< (f.chan / 8)) }

/-- Release of a frame's charge (R141) and, on a lossless channel, of its credits (R120). -/
def releaseCharge (s : State) (f : Frame) : State :=
  if f.bob.isSome then s else
  let s := setCore s fun c => { c with charge := tmod 0 c.charge f.ingress (· - unitsOf (frameLen f)) }
  if chanLossy s f.chan then s else creditReturn s f

/-- A SEND frame whose last cell has crossed, or which was dropped, lets its stitch complete (R300); no other frame has a
stitch. -/
def sendCrossed (s : State) (f : Frame) : State :=
  match f.bob with
  | none => s
  | some n =>
    setBob s fun b => { b with bobs := tmod {} b.bobs n fun x =>
      { x with send := x.send.map fun w => if w.frameId == f.id then { w with crossed := true } else w } }

/-- The last cell of a frame has crossed from its VOQ: charge released (R141), or, of a SEND frame, counted for its region
(R300, R307). -/
def frameCrossed (s : State) (f : Frame) : State :=
  match f.bob with
  | none => releaseCharge s f
  | some n =>
    let r := (tget {} s.bob.bobs n).region
    sendCrossed (if r < 64 then bump s (BOB_SEND r) else s) f

/-- A drop anywhere after stage 1 counts for the frame's context (R445). -/
def ctxDrop (s : State) (f : Frame) : State := sendCrossed (ctxBump s (frameCtx s f) 4 1) f

/-- An admitted frame discarded: charge released and the context's drop counted. -/
def discardFrame (s : State) (f : Frame) : State := releaseCharge (ctxDrop s f) f

/-- One reference to, or member of, a stored multicast frame fewer; the frame is freed with its last (R141, R160). -/
def mcFree (s : State) (m : Nat) : State :=
  let r := tget {} s.core.mc m
  if r.refs == 0 && r.todo.isEmpty && r.split then
    frameCrossed (setCore s fun c => { c with mc := tdel c.mc m }) r.f
  else s

def mcUnref (s : State) (m : Nat) : State :=
  mcFree (setCore s fun c => { c with mc := tmod {} c.mc m fun r => { r with refs := r.refs - 1 } }) m

/-- Bytes of the stream that entry n of VOQ k still has in it: none for a reference (R160, R300). -/
def entBytes (s : State) (k n : Nat) (e : QEnt) : Nat :=
  match e with
  | .frame f =>
    if f.bob.isSome then 0
    else if n != 0 then frameLen f
    else if voqOut k == 1032 then frameLen f - (tget {} s.core.mc f.id).pos
    else frameLen f - (voq s k).crossed
  | .ref _ _ => 0

/-- Standing requests cut to what is left in the queue (R147). -/
def trimReqs : Nat → List Nat → List Nat
  | _, [] => []
  | left, n :: ns => if left = 0 then [] else min n left :: trimReqs (left - n) ns

/-- The queue's requests after entries were taken out of it. -/
def trimVoq (s : State) (k : Nat) : State :=
  let left := queueBytes s (voq s k)
  setVoq s k fun q => { q with reqs := trimReqs left q.reqs }

/-- The queue without entry n; its stream ends earlier by that entry's bytes. -/
def voqErase (s : State) (k n : Nat) (e : QEnt) : State :=
  let b := entBytes s k n e
  trimVoq (setVoq s k fun q =>
    { q with tail := q.tail - b, ents := q.ents.eraseIdx n, crossed := if n == 0 then 0 else q.crossed }) k

/-- The counter a frame discarded from a port's queues goes to: `PRT_DROP_QUAR` in QUARANTINE (R92), else
`PRT_EGR_DROP` (R156). -/
def countDiscard (s : State) (L : Nat) : State :=
  if portState s L == pQUARANTINE then setPort s L fun p => { p with dropQuar := p.dropQuar + 1 }
  else bump s (PRT_EGR_DROP L)

/-- A copy of a multicast frame lost for one member: the context's drop counted (R445). -/
def copyDrop (s : State) (f : Frame) : State := ctxBump s (frameCtx s f) 4 1

/-- A frame, or one copy of a multicast frame, lost at its output. -/
def lostAt (s : State) (f : Frame) : State := if f.dec == 2048 then copyDrop s f else ctxDrop s f

/-! Egress queues (R153, R199). -/

/-- Key of a node: level 0 port, 1 service, 2 subscriber. -/
def nodeKey (level L c sub : Nat) : Nat :=
  match level with
  | 0 => L
  | 1 => 65536 + 16 * L + c
  | _ => 1048576 + (16 * L + c) * 64 + sub

/-- Settings of a node after power-up (Table 8.1). -/
def nodeDefault (k : Nat) : Node :=
  if 65536 ≤ k && k < 1048576 && (k - 65536) % 16 % 8 < 2 then { data := 0x101 } else {}

def node (s : State) (k : Nat) : Node := tget (nodeDefault k) s.tm.nodes k
def setNode (s : State) (k : Nat) (x : Node) : State := setTm s fun t => { t with nodes := tset (nodeDefault k) t.nodes k x }

/-- Key of the egress queue of a port, channel and subscriber. -/
def egrKey (L c sub : Nat) : Nat := (16 * L + c) * 64 + sub

/-- Bytes of the egress area a frame takes: all but its first 32 (R153). Frames of one channel lie there end to end and share
cells; the spec does not say whether they do (DESIGN CHOICE, log entry 221). -/
def egrRest (f : Frame) : Nat := frameLen f - 32

/-- A node without frames has its deficit set to zero (R201, step 3). -/
def noDeficit (s : State) (k : Nat) : State :=
  if (node s k).deficit == 0 then s else setNode s k { node s k with deficit := 0 }

/-- The nodes of a subscriber queue that has lost a frame: one that holds none any more has no deficit, and a visit of the round
to it ends (R201). -/
def emptied (s : State) (L c sub : Nat) : State :=
  if !(tget [] s.core.egr (egrKey L c sub)).isEmpty then s
  else
    let s := noDeficit s (nodeKey 2 L c sub)
    let s := if tget 0 s.tm.subVisit (16 * L + c) == sub && tget false s.tm.visited (1024 + 16 * L + c) then
        setTm s fun t => { t with subVisit := tset 0 t.subVisit (16 * L + c) ((sub + 1) % 64),
                                  visited := tset false t.visited (1024 + 16 * L + c) false }
      else s
    if (List.range 64).any fun i => !(tget [] s.core.egr (egrKey L c i)).isEmpty then s
    else
      let s := noDeficit s (nodeKey 1 L c 0)
      if tget 0 s.tm.visit L == c && tget false s.tm.visited L then
        setTm s fun t => { t with visit := tset 0 t.visit L ((c + 1) % 16), visited := tset false t.visited L false }
      else s

/-- A copy reported suppressed by the fence mask (R161, R162). -/
def suppress (s : State) (L : Nat) (f : Frame) : State :=
  let s := bump (bump s (PRT_MC_SUPP L)) SWC_MC_SUPP
  let t := hType f.hdr
  if !f.eth && f.ingress == 1024 && hSrc f.hdr == fget s TBL_SELF.CHIP && (t == tRESULT || t == tSEAL || t == tABORT) then
    setCore s fun c => { c with reports := c.reports ++ [(L, f)] }
  else s

/-- Release of a frame's bytes and descriptor of an egress queue. -/
def egrRelease (s : State) (L c : Nat) (f : Frame) : State :=
  setCore s fun k =>
    { k with egrBytes := tmod 0 k.egrBytes (16 * L + c) (· - egrRest f), egrDesc := tmod 0 k.egrDesc (16 * L + c) (· - 1) }

/-- Key of a frame at an output. -/
def lostKey (f : Frame) (o : Nat) : Nat := f.id * 4096 + o

/-- A cell without the pieces that frame `id` has in it for output o. -/
def cutCell (id o : Nat) (c : Cell) : Cell :=
  { c with pieces := c.pieces.map fun p => if p.f.id == id then { p with outs := p.outs.filter (· != o) } else p }

/-- The egress part of a frame that will never be whole is given up, with what is still on its way (R143, R152). -/
def giveUp (s : State) (o : Nat) (f : Frame) : State :=
  let s := if o < 1024 then egrRelease s o f.chan f else s
  setCore s fun k =>
    { k with asm := tset 0 k.asm (16 * o + f.chan) 0, lost := tset false k.lost (lostKey f o) false,
             flight := (List.range 16).foldl (fun t st => tmod [] t st (·.map (cutCell f.id o))) k.flight,
             early := (List.range 16).foldl (fun t st => tmod [] t st (·.map (cutCell f.id o))) k.early }

/-- The frame of an entry. -/
def entFrame (s : State) : QEnt → Frame
  | .frame f => f
  | .ref m _ => (tget {} s.core.mc m).f

/-- Has a cell of entry n of a VOQ crossed to its output? -/
def entBegun (q : Voq) (n : Nat) : QEnt → Bool
  | .frame _ => n == 0 && 0 < q.crossed
  | .ref _ b => 0 < b || (n == 0 && 0 < q.crossed)

/-- An entry discarded from a port's queue and counted. A residue reference is a copy of a multicast frame: suppressed where
the port is fenced (R161, R162), else counted in `PRT_EGR_DROP`. -/
def discardEnt (s : State) (o : Nat) (e : QEnt) : State :=
  match e with
  | .frame f => discardFrame (if o < 1024 then countDiscard s o else s) f
  | .ref m _ =>
    let f := entFrame s e
    mcUnref (if portFenced s o then suppress s o f else copyDrop (bump s (PRT_EGR_DROP o)) f) m

/-- Every entry of one VOQ that a test names is discarded; what the egress die has received of them is given up. -/
def discardEnts (s : State) (k : Nat) (p : QEnt → Bool) : State :=
  let q := voq s k
  let gone := (q.ents.zip (List.range q.ents.length)).filter fun x => p x.1
  let s := forEach gone s fun s x => if entBegun q x.2 x.1 then giveUp s (voqOut k) (entFrame s x.1) else s
  let s := forEach gone.reverse s fun s x => voqErase s k x.2 x.1
  forEach gone s fun s x => discardEnt s (voqOut k) x.1

/-- Every frame and reference of one VOQ discarded. -/
def discardVoq (s : State) (k : Nat) : State := discardEnts s k fun _ => true

/-- A frame discarded from an egress queue. Its charge has been released when it left the VOQ; a multicast copy under the
fence mask counts as suppressed. -/
def egrDiscard (s : State) (L c : Nat) (f : Frame) : State :=
  let s := egrRelease s L c f
  if f.dec == 2048 && portFenced s L then suppress s L f else lostAt (countDiscard s L) f

/-- Every frame in a port's egress queues discarded, of the channels a test names. -/
def discardEgress (s : State) (L : Nat) (p : Nat → Bool) : State :=
  forRange 16 s fun s c =>
    if p c then
      forRange 64 s fun s sub =>
        let fs := tget [] s.core.egr (egrKey L c sub)
        if fs.isEmpty then s
        else
          forEach fs (emptied (setCore s fun k => { k with egr := tset [] k.egr (egrKey L c sub) [] }) L c sub) fun s f =>
            egrDiscard s L c f
    else s

/-- Every frame queued for a port discarded: VOQs of all four dies, residue references and egress queues (R156). -/
def discardPort (s : State) (L : Nat) : State :=
  let s := forRange 4 s fun s d => forRange 16 s fun s c =>
    if (voq s (voqKey d L c)).ents.isEmpty then s else discardVoq s (voqKey d L c)
  discardEgress s L fun _ => true

/-- Frames queued for a port on channels other than 0 and 8 discarded (R92), and residue references on every channel: a
member that is not UP gets no copy (R161). -/
def discardQuar (s : State) (L : Nat) : State :=
  let s := forRange 4 s fun s d => forRange 16 s fun s c =>
    if (voq s (voqKey d L c)).ents.isEmpty then s
    else discardEnts s (voqKey d L c) fun e => c % 8 != 0 || match e with
      | .ref _ _ => true
      | .frame _ => false
  discardEgress s L fun c => c % 8 != 0

/-- Frames queued for a port. -/
def queuedFor (s : State) (L : Nat) : Nat :=
  let v := s.core.voqs.foldl (fun n (k, q) => if k < 65536 && k % 16384 / 16 == L then n + q.ents.length else n) 0
  s.core.egr.foldl (fun n (k, fs) => if k / 1024 == L then n + fs.length else n) v

/-! Admission (R141 to R144). -/

/-- New cells a frame of B bytes takes in a queue: it starts at the first free byte of the last cell (R140). -/
def newCells (q : Voq) (B : Nat) : Nat :=
  if q.tail ≤ q.head then unitsOf B else ceilDiv (q.tail + B) 256 - ceilDiv q.tail 256

/-- The lossy VOQ of die d with the greatest depth; ties go to the lowest VOQ number, and unicast before multicast
(R143): keys rise in that order. -/
def deepestLossy (s : State) (d : Nat) : Option Nat :=
  (s.core.voqs.foldl (fun (b : Option (Nat × Nat)) (k, q) =>
    if voqDie k == d && chanLossy s (voqChan k) && !q.ents.isEmpty then
      let n := voqDepth s k
      match b with
      | some (k', n') => if n' < n then some (k, n) else some (k', n')
      | none => some (k, n)
    else b) none).map (·.1)

/-- Push-out of a multicast frame at the tail of its queue: the members not yet served get no copy, and the stored bytes stay
while a reference needs them (R143). -/
def pushMulticast (s : State) (k : Nat) (f : Frame) : State :=
  let m := tget {} s.core.mc f.id
  let begun := m.todo.filter m.begun.contains
  let s := forEach begun (if begun.isEmpty then s else bump s (SWC_TRUNC (voqDie k))) fun s p => giveUp s p f
  let s := forEach m.todo s fun s p => bump s (PRT_EGR_DROP p)
  if m.refs == 0 then discardFrame (setCore s fun c => { c with mc := tdel c.mc f.id }) f
  else
    let b := if f.bob.isSome then 0 else frameLen f - m.pos
    setVoq (setCore (copyDrop s f) fun c => { c with mc := tmod {} c.mc f.id fun m => { m with todo := [], cell := [], split := true } })
      k fun q => { q with head := q.tail + b, tail := q.tail + b }

/-- Discard of the last entry of a lossy VOQ by push-out (R143). -/
def pushTail (s : State) (k : Nat) : State :=
  let q := voq s k
  let d := voqDie k
  match q.ents.getLast? with
  | none => s
  | some e =>
    let n := q.ents.length - 1
    let s := if entBegun q n e && voqOut k != 1032 then giveUp (bump s (SWC_TRUNC d)) (voqOut k) (entFrame s e) else s
    let s := voqErase s k n e
    match e with
    | .ref m _ => mcUnref (copyDrop (bump s (PRT_EGR_DROP (voqOut k))) (entFrame s e)) m
    | .frame f =>
      let s := bump (if f.ingress < 1024 then bump s (PRT_DROP_PUSH f.ingress) else s) (SWC_PUSHOUT d)
      if voqOut k == 1032 then pushMulticast s k f else discardFrame s f

/-- Entries discarded from the tail of one VOQ until `need` cells are free or it is empty, with fuel (R143, step 2). -/
def pushQueue (need k : Nat) : Nat → State → State
  | 0, s => s
  | fuel + 1, s => if need ≤ cellsFree s (voqDie k) then s else pushQueue need k fuel (pushTail s k)

/-- Push-out until `need` cells are free: the deepest lossy VOQ is emptied from its tail, then the next (R143). -/
def pushOut (need d : Nat) : Nat → State → State
  | 0, s => s
  | fuel + 1, s =>
    if need ≤ cellsFree s d then s
    else
      match deepestLossy s d with
      | none => s
      | some k => pushOut need d fuel (pushQueue need k (voq s k).ents.length s)

/-- Is a frame ECN-capable (R144)? -/
def ecnCapable (f : Frame) : Bool :=
  if f.eth then (match ipEcn f.body with | some e => e == 1 || e == 2 | none => false) else bit (hFlags f.hdr) flECT

/-- Does a 64-bit uniform draw fall below the probability of R144 at depth D on channel c? -/
def ecnHit (s : State) (c D : Nat) (r : Word) : Bool :=
  let kmin := fget s (SWC_ECN.KMIN c)
  let kmax := fget s (SWC_ECN.KMAX c)
  if D ≤ kmin then false
  else if kmax < D then true
  else r.toNat * (256 * (kmax - kmin)) < fget s (SWC_ECN.PMAX c) * (D - kmin) * 2 ^ 64

/-- A frame put at the tail of a VOQ: at the first free byte of its last cell, or, of an empty stream, of a new one
(R140). A SEND reference takes no byte of it (R300). -/
def queueFrame (s : State) (k : Nat) (f : Frame) : State :=
  let B := if f.bob.isSome then 0 else frameLen f
  setVoq s k fun q =>
    let q := if q.tail ≤ q.head then { q with head := ceilDiv q.tail 256 * 256, tail := ceilDiv q.tail 256 * 256 } else q
    { q with tail := q.tail + B, ents := q.ents ++ [.frame f] }

/-- A stored multicast frame, if it is one; its bytes are the last of its queue (R158). -/
def mcStore (s : State) (k : Nat) (f : Frame) : State :=
  if f.dec == 2048 then
    let B := if f.bob.isSome then 0 else frameLen f
    setCore s fun c => { c with mc := tset {} c.mc f.id { f := f, start := (voq s k).tail - B, todo := f.members, cell := f.members } }
  else s

/-- A frame stored at the tail of its VOQ, charged to its ingress port (R140, R141). -/
def enqueue (s : State) (k : Nat) (f : Frame) : State :=
  setCore (mcStore (queueFrame s k f) k f) fun c => { c with charge := tmod 0 c.charge f.ingress (· + unitsOf (frameLen f)) }

/-- The VOQ a decided frame goes to: its output's, or the multicast one (R139, R158). -/
def voqFor (f : Frame) : Nat := voqKey f.idie (if f.dec == 2048 then 1032 else f.dec) f.chan

/-- A frame dropped at stage 8 on a lossy channel: its credits go back at once (R120). -/
def dropAtAdmission (s : State) (f : Frame) (off : Nat) : State :=
  ctxDrop (creditReturn (if f.ingress < 1024 then bump s off else s) f) f

/-- The sampler's note that a frame for its ports was marked or ECN-dropped (Table 18.4). -/
def telEcn (s : State) (f : Frame) : State :=
  let ports := if f.dec == 2048 then f.members else [f.dec]
  setTel s fun t => { t with ecnFor := (ports.filter (· < 1024)).foldl (fun e L => tset false e L true) t.ecnFor }

/-- Stage 8 of Table 6.1: admission, push-out, ECN (R141 to R144), counters of R445. On a lossy channel credits are
returned at once (R120). -/
def admitFrame (s : State) (f : Frame) : State :=
  let d := f.idie
  let k := voqFor f
  let c := f.chan
  let u := unitsOf (frameLen f)
  let count := fun s => ctxBump (ctxBump s (frameCtx s f) 0 1) (frameCtx s f) 1 (frameLen f)
  if chanLossy s c then
    let F := cellsFree s d
    let n := newCells (voq s k) (frameLen f)
    if 2 ^ fget s (SWC_ADM.ALPHA c) * F < (voqDepth s k + u) * 64 || F < n then
      dropAtAdmission s f (PRT_DROP_ADM f.ingress)
    else
      let (r, s) := draw s
      let D := voqDepth s k + n
      let hit := fbit s (SWC_ECN.EN c) && ecnHit s c D r
      if ecnCapable f && hit then
        let s := telEcn (if f.ingress < 1024 then bump s (PRT_ECN_MARK f.ingress) else s) f
        let s := if f.mark then s else ctxBump s (frameCtx s f) 14 1
        let f := { f with mark := true }
        count (creditReturn (enqueue s k f) f)
      else if !ecnCapable f && hit && fbit s (SWC_ECN.NONECT_DROP c) then
        dropAtAdmission (telEcn s f) f (PRT_ECN_DROP f.ingress)
      else count (creditReturn (enqueue s k f) f)
  else
    let s := pushOut (newCells (voq s k) (frameLen f)) d (s.core.voqs.length + 1) s
    count (enqueue s k f)

/-- Stage 7 (R138, R126, R374, R382, R398) and stage 8 for a decided frame. A frame decided for a port of the other link mode is
dropped and counted as one the egress port cannot take (log entry 22). -/
def egressState (s : State) (f : Frame) : State :=
  let dropTo := fun (s : State) off => ctxDrop (creditReturn (bump s off) f) f
  if f.dec < 1024 then
    let st := portState s f.dec
    if st != pUP && st != pQUARANTINE then dropTo s (PRT_EGR_DROP f.dec)
    else if st == pQUARANTINE && f.chan != 0 && f.chan != 8 then
      ctxDrop (creditReturn (setPort s f.dec fun p => { p with dropQuar := p.dropQuar + 1 }) f) f
    else if unpickShut s f.dec f.chan || isEth s f.dec != f.eth then dropTo s (PRT_EGR_DROP f.dec)
    else
      let v := fget s (PRT_JLP.VER f.dec)
      if !f.eth && ((hUnord f.hdr && v < 2) || (hEnc f.hdr && v < 3)) && f.ingress < 1024 then
        dropTo s (PRT_RX_FIELD f.ingress)
      else if !f.eth && ((hUnord f.hdr && v < 2) || (hEnc f.hdr && v < 3)) then dropTo s TBL_ORIG_DROP
      else admitFrame s f
  else if f.dec < 2048 then
    let x := f.dec - 1024
    if (if x < 4 then !dieUp s x else (cpHome s (x - 4)).isNone) then dropTo s FLT_DROP_DIE else admitFrame s f
  else admitFrame s f

/-! The scheduler (R146 to R149). -/

/-- Waveguides of 20 of the SW–CP bundle on the way to CPd: its own, or, through SWj and CPj, no more than the CP–CP bundle's
share (R374, R382). -/
def cpWidth (s : State) (d : Nat) : Nat :=
  match cpHome s d with
  | none => 0
  | some j => if j == d then bundleUse s (6 + d) else min (bundleUse s (6 + j)) (bundleUse s (10 + swBundle j d))

/-- Lanes of an output (Table 6.2, R11). The lanes of IO(4+d) shrink with the bundle that carries them: eight for each working
waveguide of 20, and the same for each of the 10 of a CP–CP bundle, which carry as much (DESIGN CHOICE, log entry 251). -/
def outLanes (s : State) (o : Nat) : Nat :=
  if o < 1024 then lanesOf s o else if o < 1028 then 256 else 8 * cpWidth s (o - 1028)

/-- First output lane of an output: port L at L, IOx at 1,024 + 256x. -/
def laneBase (o : Nat) : Nat := if o < 1024 then o else 1024 + 256 * (o - 1024)

/-- Channels the link mode of a port carries (R153). -/
def linkChans (s : State) (L : Nat) : Nat := if isEth s L then 8 else 16

/-- Dedicated egress cells of a channel (R153). -/
def egrDedicated (s : State) (L : Nat) : Nat := if isEth s L then 36 else 32

/-- Room of R154 for a grant that brings `cells` beyond those reserved for the channel and that makes its bytes reserved
grow by `rest` and its descriptors by `frames`: the cells fit in the channel's free dedicated cells plus the shared cells it may
still take, and descriptors are free: 16 a lane are kept for the channel, beyond which the port holds fewer than 1,024 and
leaves the other channels theirs (log entry 221). -/
def egrRoom (s : State) (L c cells rest frames : Nat) : Bool :=
  let k := lanesOf s L
  let ded := egrDedicated s L
  let nch := linkChans s L
  let area := 16 * tget 48 s.sys.str.egrMib (swOf L) * k
  let shared := area - nch * ded
  let held := fun j => ceilDiv (tget 0 s.core.egrBytes (16 * L + j)) 256
  let used := (List.range nch).foldl (fun n j => n + (held j - ded)) 0
  let want := max (held c + cells) (ceilDiv (tget 0 s.core.egrBytes (16 * L + c) + rest) 256) - ded
  let descs := fun j => tget 0 s.core.egrDesc (16 * L + j) + if j == c then frames else 0
  let total := (List.range nch).foldl (fun n j => n + descs j) 0
  let kept := (List.range nch).foldl (fun n j => n + max (descs j) (16 * k)) 0
  want ≤ shared / 2 && used - (held c - ded) + want ≤ shared &&
    (frames == 0 || descs c ≤ 16 * k || (total ≤ 1024 && kept ≤ 1024 * k))

/-- The pieces of the next `room` bytes at a unicast VOQ's head (R147), the entries left after they have crossed, and the
bytes of the first of them that have. -/
def takePieces (s : State) (o : Nat) : Nat → List QEnt → Nat → Nat → List Piece → List Piece × List QEnt × Nat
  | 0, es, crossed, _, acc => (acc.reverse, es, crossed)
  | _, [], _, _, acc => (acc.reverse, [], 0)
  | fuel + 1, e :: es, crossed, room, acc =>
    let left := entLen s e - crossed
    if room = 0 then (acc.reverse, e :: es, crossed)
    else if left ≤ room then
      takePieces s o fuel es 0 (room - left) ({ f := entFrame s e, n := left, last := true, outs := [o] } :: acc)
    else (({ f := entFrame s e, n := room, last := false, outs := [o] } :: acc).reverse, e :: es, crossed + room)

/-- Requests made for a unicast VOQ (R147): a cell for each further 256 bytes, or all the rest, as many as its output has
lanes (log entry 21). What a requested cell holds is fixed from then on. -/
def makeRequests (s : State) (k : Nat) : State :=
  let q := voq s k
  let left := queueBytes s q - q.reqs.sum
  let new := (List.range (min (outLanes s (voqOut k) - q.reqs.length) (ceilDiv left 256))).map fun i => min 256 (left - 256 * i)
  if new.isEmpty then s else setVoq s k fun q => { q with reqs := q.reqs ++ new }

/-- Pieces, entries left and bytes crossed of the oldest requested cell of VOQ k. -/
def nextCell (s : State) (k : Nat) : List Piece × List QEnt × Nat :=
  let q := voq s k
  takePieces s (voqOut k) (q.ents.length + 1) q.ents q.crossed (q.reqs.headD 0) []

/-- What a request carries (R147, R154): the cells its grant brings beyond those reserved, which are the cell itself, unless
it holds the rest of a frame already begun, plus those still needed to complete every frame that starts in it; the bytes
these frames add; and their number. -/
def cellNeed (q : Voq) (ps : List Piece) : Nat × Nat × Nat :=
  let begun := match q.ents with
    | e :: _ => entBegun q 0 e
    | [] => false
  let fresh := if begun then ps.drop 1 else ps
  let old := if begun then (match ps with
    | p :: _ => p.n
    | [] => 0) else 0
  let rest := fresh.foldl (fun n p => n + egrRest p.f) 0
  (max 1 (ceilDiv (old + rest) 256) - b2n begun, rest, fresh.length)

/-- Does the unicast VOQ on die d for output o and channel c have a standing request with room (R147, R154)? -/
def requests (s : State) (d o c : Nat) : Bool :=
  let k := voqKey d o c
  let q := voq s k
  if q.reqs.isEmpty || !dieUp s d || !dieUp s (outDie s o) then false
  else if o < 1024 then
    let n := cellNeed q (nextCell s k).1
    egrRoom s o c n.1 n.2.1 n.2.2
  else true

/-- The head frame of the multicast VOQ of die d and channel c. -/
def mcHead (s : State) (d c : Nat) : Option Frame :=
  match (voq s (mcKey d c)).ents with
  | .frame f :: _ => some f
  | _ => none

/-- Has the egress channel of a member room for a first cell of a multicast frame and the rest of it (R154)? -/
def mcRoom (s : State) (o c : Nat) (f : Frame) : Bool := egrRoom s o c (max 1 (ceilDiv (egrRest f) 256)) (egrRest f) 1

/-- Does the head cell of the multicast VOQ of die d and channel c request output o: a member it has not been sent to, with
room for the whole frame where its copy has not begun (R159)? -/
def mcRequests (s : State) (d o c : Nat) : Bool :=
  match mcHead s d c with
  | none => false
  | some f =>
    let m := tget {} s.core.mc f.id
    m.headAt != 0 && m.cell.contains o && dieUp s d && dieUp s (outDie s o) && (m.begun.contains o || mcRoom s o c f)

/-- The other two switch dies of a pair, lower-numbered first. -/
def otherDies (i j : Nat) : Nat × Nat :=
  match (List.range 4).filter fun k => k != i && k != j with
  | [k, l] => (k, l)
  | _ => (0, 0)

/-- Path of the n-th cell of the pair (i, j): 4 direct, or the relay die; none where nothing carries it. Weights as R383:
direct 2f, through k the smaller of its two bundles; with all bundles full this is the pattern direct, k, direct, l of
R150. -/
def sprayPath (s : State) (i j n : Nat) : Option Nat :=
  let (k, l) := otherDies i j
  let via := fun r => if dieUp s r then min (bundleUse s (swBundle i r)) (bundleUse s (swBundle r j)) else 0
  let wd := 2 * bundleUse s (swBundle i j)
  let wk := via k
  let wl := via l
  let T := wd + wk + wl
  if T = 0 then none
  else
    let up := fun (m w t : Nat) => ceilDiv (m * w) t
    if up n wd T < up (n + 1) wd T then some 4
    else
      let m := n - up n wd T
      if wk + wl = 0 then some 4
      else if up m wk (wk + wl) < up (m + 1) wk (wk + wl) then some k else some l

/-- Cells a SW–SW bundle with W of 16 waveguides carries from die d in one epoch: 56 Tb/s over one handshake of scheduler
quarter d, at the rate its pace monitor shows, or, before it shows one, at the guaranteed 293 million a second (Table 2.1, log
entry 20). -/
def epochCells (s : State) (d w : Nat) : Nat :=
  let rate := fget s (PMC_PACE.RATE (1024 + 16 * d + 2))
  56000000 * w / (32768 * (if rate == 0 then 293 else rate))

/-- What an epoch has used: cells sent by each die, cells on each ordered bundle direction, output lanes and dies matched,
members of multicast frames granted (frame, member), and cells of multicast frames sent (frame, egress die, position,
number). -/
structure Epoch where
  sent : Tab Nat := []
  load : Tab Nat := []
  lanes : List Nat := []
  dies : List Nat := []
  members : List (Nat × Nat) := []
  copies : List (Nat × Nat × Nat × Nat) := []
deriving DecidableEq, Repr

/-- Can the bundle from die x to die y take one more cell in this epoch (R146, R380)? -/
def bundleFree (s : State) (e : Epoch) (x y : Nat) : Bool :=
  !retuning s (swBundle x y) && tget 0 e.load (4 * x + y) < epochCells s x (bundleUse s (swBundle x y))

/-- A cell on the bundle from x to y counted. -/
def loaded (e : Epoch) (x y : Nat) : Epoch := { e with load := tmod 0 e.load (4 * x + y) (· + 1) }

/-- Can die d send one more cell of its own towards die j by R146, and what does the epoch look like after? A relayed cell
takes its second bundle at the relay (R151). -/
def epochSend (s : State) (e : Epoch) (d j : Nat) : Option (Epoch × Nat) :=
  if 256 ≤ tget 0 e.sent d then none
  else
    let e1 := { e with sent := tmod 0 e.sent d (· + 1) }
    if d == j then some (e1, 4)
    else
      match sprayPath s d j (tget 0 s.core.spray (4 * d + j)) with
      | none => none
      | some r =>
        let x := if r == 4 then j else r
        if bundleFree s e d x then some (loaded e1 d x, r) else none

/-- The cells that wait at relay dies go on, ahead of the relays' own (R146, R151): streams in rising order, each in
sequence. -/
def relayCells (a : State × Epoch) : State × Epoch :=
  (List.range 16).foldl (fun a st =>
    (tget [] a.1.core.flight st).foldl (fun (a : State × Epoch) x =>
      if x.held && bundleFree a.1 a.2 x.relay (st % 4) then
        (setCore a.1 fun c => { c with flight := tmod [] c.flight st (·.map fun y => if y.seq == x.seq then { y with held := false } else y) },
         loaded a.2 x.relay (st % 4))
      else a) a) a

/-- A cell put in flight from die d to die j on a path (R150, R152). -/
def sendCell (s : State) (d j relay : Nat) (ps : List Piece) : State :=
  let st := 4 * d + j
  setCore s fun c =>
    { c with spray := if d == j then c.spray else tmod 0 c.spray st (· + 1)
             seqTx := tmod 0 c.seqTx st (· + 1)
             flight := tmod [] c.flight st (· ++ [{ seq := tget 0 c.seqTx st, relay := relay, held := relay < 4, pieces := ps }]) }

/-- Egress bytes and descriptors reserved for frames of a channel (R154). -/
def egrReserve (s : State) (o c rest frames : Nat) : State :=
  if o < 1024 then
    setCore s fun k =>
      { k with egrBytes := tmod 0 k.egrBytes (16 * o + c) (· + rest), egrDesc := tmod 0 k.egrDesc (16 * o + c) (· + frames) }
  else s

/-- The oldest requested cell of a unicast VOQ crosses: frames whose last byte leaves release their charge (R141); a residue
reference that is served frees the stored frame with its last (R160). -/
def crossUnicast (s : State) (d o c relay : Nat) : State :=
  let k := voqKey d o c
  let q := voq s k
  let (ps, es, crossed) := nextCell s k
  let need := cellNeed q ps
  let n := (q.ents.zip ps).foldl (fun a (e, p) => match e with
    | .ref _ _ => a
    | .frame f => if f.bob.isSome then a else a + p.n) 0
  let s := egrReserve s o c need.2.1 need.2.2
  let s := setVoq s k fun q => { q with head := q.head + n, ents := es, crossed := crossed, reqs := q.reqs.drop 1 }
  let s := sendCell s d (outDie s o) relay ps
  let s := forEach (q.ents.take ps.length) s fun s e => match e with
    | .ref m _ => setCore s fun c => { c with mc := tmod {} c.mc m fun r =>
        { r with begun := if r.begun.contains o then r.begun else r.begun ++ [o] } }
    | .frame _ => s
  forEach (q.ents.take (q.ents.length - es.length)) s fun s e =>
    match e with
    | .frame f => frameCrossed s f
    | .ref m _ => mcUnref s m

/-- The multicast VOQ moves on (R159, R160): to the head frame's next cell when no member waits for this one, and to the next
frame when no member waits at all. -/
def mcAdvance (s : State) (d c : Nat) : State :=
  match mcHead s d c with
  | none => s
  | some f =>
    let m := tget {} s.core.mc f.id
    if m.todo.isEmpty then
      let s := setVoq s (mcKey d c) fun q => { q with head := if f.bob.isSome then q.head else m.start + frameLen f, ents := q.ents.drop 1 }
      mcFree (setCore s fun k => { k with mc := tmod {} k.mc f.id fun r => { r with cell := [], split := true } }) f.id
    else if m.cell.isEmpty then
      let s := setVoq s (mcKey d c) fun q => { q with head := if f.bob.isSome then q.head else m.start + m.pos + 256 }
      setCore s fun k => { k with mc := tmod {} k.mc f.id fun r => { r with pos := r.pos + 256, cell := r.todo } }
    else s

/-- A member joins a cell of its frame that crosses to its egress die in the same epoch (R159). -/
def shareCell (s : State) (d o n : Nat) : State :=
  setCore s fun k =>
    { k with flight := tmod [] k.flight (4 * d + outDie s o) (·.map fun x =>
        if x.seq == n then { x with pieces := x.pieces.map fun p => { p with outs := p.outs ++ [o] } } else x) }

/-- The head cell of the head multicast frame crosses to one member's output (R159): a cell of its own on a path, or one that
another member of the same egress die was granted in this epoch. -/
def crossMulticast (s : State) (d o c : Nat) (path : Nat ⊕ Nat) : State :=
  match mcHead s d c with
  | none => s
  | some f =>
    let m := tget {} s.core.mc f.id
    let n := min 256 (frameLen f - m.pos)
    let last := frameLen f ≤ m.pos + n
    let s := if m.begun.contains o then s else egrReserve s o c (egrRest f) 1
    let s := match path with
      | .inl relay => sendCell s d (outDie s o) relay [{ f := f, n := n, last := last, outs := [o] }]
      | .inr num => shareCell s d o num
    let s := setCore s fun k => { k with mc := tmod {} k.mc f.id fun m =>
      { m with cell := m.cell.filter (· != o), begun := if m.begun.contains o then m.begun else m.begun ++ [o]
               todo := if last then m.todo.filter (· != o) else m.todo } }
    mcAdvance s d c

/-- Outputs that some VOQ of a working die wants, rising. -/
def wantedOutputs (s : State) : List Nat :=
  let u := s.core.voqs.foldl (fun (t : Tab Bool) (k, q) =>
    if q.ents.isEmpty then t
    else if voqOut k == 1032 then
      match q.ents with
      | .frame f :: _ => (tget {} s.core.mc f.id).todo.foldl (fun t o => tset false t o true) t
      | _ => t
    else tset false t (voqOut k) true) []
  u.map (·.1)

/-- A grant: output lane, output, channel, die. -/
abbrev Grant := Nat × Nat × Nat × Nat

/-- The grant of one unmatched output lane (R148, step 2): a channel from its channel pointer, a die from its grant
pointer for that channel, of the dies not matched in an earlier round. The head cell of a multicast VOQ requests one lane of a member, its lowest unmatched (`mcLane`),
and none of a member it has been granted in this epoch (R159). -/
def grantOf (s : State) (e : Epoch) (mcLane : Bool) (o ln : Nat) : Option Grant :=
  let mc := fun c d => mcLane && mcRequests s d o c &&
    match mcHead s d c with
    | some f => !(e.members.contains (f.id, o))
    | none => false
  let want := fun c d => !e.dies.contains d && (requests s d o c || mc c d)
  let cp := tget 0 s.core.chanPtr ln
  match ((List.range 16).map fun i => (cp + i) % 16).find? fun c => (List.range 4).any fun d => want c d with
  | none => none
  | some c =>
    let gp := tget 0 s.core.grantPtr (16 * ln + c)
    match ((List.range 4).map fun i => (gp + i) % 4).find? fun d => want c d with
    | some d => some (ln, o, c, d)
    | none => none

/-- Pointers after a grant accepted in round 1 (R149). -/
def movePointers (s : State) (g : Grant) : State :=
  let (ln, _, c, d) := g
  setCore s fun k =>
    { k with chanPtr := tset 0 k.chanPtr ln ((c + 1) % 16), grantPtr := tset 0 k.grantPtr (16 * ln + c) ((d + 1) % 4),
             acceptPtr := tset 0 k.acceptPtr d (ln + 1) }

/-- A multicast cell for a granted member: shared where its egress die gets the same cell in this epoch, else sent. -/
def acceptMulticast (s : State) (e : Epoch) (f : Frame) (d o c : Nat) : Option (State × Epoch) :=
  let j := outDie s o
  let p := (tget {} s.core.mc f.id).pos
  match e.copies.find? fun x => x.1 == f.id && x.2.1 == j && x.2.2.1 == p with
  | some x => some (crossMulticast s d o c (.inr x.2.2.2), { e with members := (f.id, o) :: e.members })
  | none =>
    match epochSend s e d j with
    | none => none
    | some (e, relay) =>
      some (crossMulticast s d o c (.inl relay),
        { e with members := (f.id, o) :: e.members, copies := (f.id, j, p, tget 0 s.core.seqTx (4 * d + j)) :: e.copies })

/-- Accept of one grant by its die (R148, step 3): multicast first, then unicast (log entry 21). -/
def acceptGrant (round1 : Bool) (a : State × Epoch) (g : Grant) : State × Epoch :=
  let (s, e) := a
  let (ln, o, c, d) := g
  let head := match mcHead s d c with
    | some f => if mcRequests s d o c && !(e.members.contains (f.id, o)) then some f else none
    | none => none
  let r := match head with
    | some f => acceptMulticast s e f d o c
    | none =>
      if !requests s d o c then none
      else
        match epochSend s e d (outDie s o) with
        | none => none
        | some (e, relay) => some (crossUnicast s d o c relay, e)
  match r with
  | none => (s, e)
  | some (s, e) => (if round1 then movePointers s g else s, { e with lanes := ln :: e.lanes })

/-- One request–grant–accept round (R148): the lanes and dies matched in it take no part in the later ones. -/
def schedRound (round1 : Bool) (a : State × Epoch) : State × Epoch :=
  let (s, e) := a
  let grants := (wantedOutputs s).flatMap fun o =>
    let free := ((List.range (outLanes s o)).map (laneBase o + ·)).filter fun ln => !(e.lanes.contains ln)
    free.filterMap fun ln => grantOf s e (free.head? == some ln) o ln
  let byDie := (List.range 4).flatMap fun d =>
    let gs := grants.filter fun g => g.2.2.2 == d
    let p := tget 0 s.core.acceptPtr d
    gs.filter (fun g => p ≤ g.1) ++ gs.filter (fun g => g.1 < p)
  let a := byDie.foldl (acceptGrant round1) (s, e)
  let dies := (grants.filter fun g => a.2.lanes.contains g.1).map fun g => g.2.2.2
  (a.1, { a.2 with dies := a.2.dies ++ dies })

/-- A member of a stored frame that gets no copy: its begun egress part is given up. -/
def mcGone (s : State) (f : Frame) (p : Nat) : State :=
  let s := if (tget {} s.core.mc f.id).begun.contains p then giveUp s p f else s
  setCore s fun k => { k with mc := tmod {} k.mc f.id fun m =>
    { m with todo := m.todo.filter (· != p), cell := m.cell.filter (· != p) } }

/-- A member that is not UP gets no copy (R161). -/
def mcNotUp (s : State) (f : Frame) (p : Nat) : State := copyDrop (bump (mcGone s f p) (PRT_EGR_DROP p)) f

/-- A residue reference for a member of a stored frame (R159 to R161), which has had the frame's first `b` bytes, or no
copy. -/
def residueRef (s : State) (d c : Nat) (f : Frame) (p b : Nat) : State :=
  if portFenced s p then mcGone (suppress s p f) f p
  else if portState s p != pUP || unpickShut s p c then mcNotUp s f p
  else
    let s := setCore s fun k => { k with mc := tmod {} k.mc f.id fun m =>
      { m with todo := m.todo.filter (· != p), cell := m.cell.filter (· != p), refs := m.refs + 1 } }
    setVoq s (voqKey d p c) fun q => { q with ents := q.ents ++ [.ref f.id b] }

/-- A multicast frame that has reached the head (R158 to R161): members fenced or not UP get no copy; in mode S members
without room get a residue reference. -/
def mcStart (s : State) (d c : Nat) : State :=
  match mcHead s d c with
  | none => s
  | some f =>
    let m := tget {} s.core.mc f.id
    if m.headAt != 0 then s
    else
      let s := setCore s fun k => { k with mc := tmod {} k.mc f.id fun m => { m with headAt := s.now + 1 } }
      let s := forEach m.todo s fun s p =>
        let v := fget s (PRT_JLP.VER p)
        if portFenced s p then mcGone (suppress s p f) f p
        else if portState s p != pUP then mcNotUp s f p
        else if !f.eth && ((hUnord f.hdr && v < 2) || (hEnc f.hdr && v < 3)) then
          mcGone (if f.ingress < 1024 then bump s (PRT_RX_FIELD f.ingress) else bump s TBL_ORIG_DROP) f p
        else if isEth s p != f.eth || unpickShut s p c then mcNotUp s f p
        else if 32 < f.members.length && !mcRoom s p c f then residueRef s d c f p 0
        else s
      mcAdvance s d c

/-- One cell epoch (R146, R148): relayed cells first, then three rounds, after the multicast heads have been divided and the
requests made. -/
def schedEpoch (s : State) : State :=
  let s := forRange 4 s fun s d => forRange 16 s fun s c => mcStart s d c
  let s := forEach (s.core.voqs.map (·.1)) s fun s k => if voqOut k == 1032 then s else makeRequests s k
  let a := schedRound true (relayCells (s, {}))
  let a := schedRound false a
  (schedRound false a).1

/-- A multicast member still unserved 20 µs after its frame reached the head gets a residue reference for what it has not had
(R159). -/
def mcResidue (s : State) (d c : Nat) : State :=
  match mcHead s d c with
  | none => s
  | some f =>
    let m := tget {} s.core.mc f.id
    if m.headAt == 0 || !s.elapsed (m.headAt - 1) 20000 then s
    else
      mcAdvance (forEach m.todo s fun s p =>
        residueRef s d c f p (if m.cell.contains p then m.pos else m.pos + 256)) d c

/-! Arrival at the egress die (R152, R153). -/

/-- A frame complete at an output: an internal output hands it to its unit; a port's egress queue takes it unless the port
no longer takes frames (R138, R156, R161). -/
def deliver (s : State) (o : Nat) (f : Frame) : State :=
  if 1024 ≤ o then setCore s fun c => { c with ioq := tmod [] c.ioq (o - 1024) (· ++ [f]) }
  else
    let st := portState s o
    if f.dec == 2048 && portFenced s o then egrRelease (suppress s o f) o f.chan f
    else if (st != pUP && (f.dec == 2048 || st != pQUARANTINE)) || unpickShut s o f.chan then
      lostAt (bump (egrRelease s o f.chan f) (PRT_EGR_DROP o)) f
    else if st == pQUARANTINE && f.chan != 0 && f.chan != 8 then
      ctxDrop (setPort (egrRelease s o f.chan f) o fun p => { p with dropQuar := p.dropQuar + 1 }) f
    else setCore s fun c => { c with egr := tmod [] c.egr (egrKey o f.chan f.sub) (· ++ [f]) }

/-- One piece of a released cell at each output it names: reassembly, or the end of a frame that lost a cell. -/
def takePiece (s : State) (p : Piece) : State :=
  forEach p.outs s fun s o =>
    let key := 16 * o + p.f.chan
    if p.last then
      let was := tget false s.core.lost (lostKey p.f o)
      let s := setCore s fun c => { c with asm := tset 0 c.asm key 0, lost := tset false c.lost (lostKey p.f o) false }
      if was then giveUp (lostAt s p.f) o p.f else deliver s o p.f
    else setCore s fun c => { c with asm := tmod 0 c.asm key (· + p.n) }

/-- A piece lost on its way: a frame whose end is lost is given up at once, any other when its end comes (R152). -/
def losePiece (s : State) (p : Piece) : State :=
  forEach p.outs s fun s o =>
    if p.last then giveUp (lostAt s p.f) o p.f
    else setCore s fun c => { c with lost := tset false c.lost (lostKey p.f o) true }

/-- Release in sequence order of the held cells of a stream that are now due, with fuel. -/
def releaseEarly (st : Nat) : Nat → State → State
  | 0, s => s
  | fuel + 1, s =>
    let n := tget 0 s.core.seqRx st
    match (tget [] s.core.early st).find? fun c => c.seq == n with
    | none =>
      setCore s fun c => { c with gapAt := tset 0 c.gapAt st (if (tget [] c.early st).isEmpty then 0 else tget 0 c.gapAt st) }
    | some cell =>
      let s := setCore s fun c =>
        { c with early := tmod [] c.early st (·.filter fun x => x.seq != n), seqRx := tset 0 c.seqRx st (n + 1) }
      releaseEarly st fuel (forEach cell.pieces s takePiece)

/-- The oldest cell of a stream in flight on a path, direct (4) or through a relay die that has sent it on, arrives (R152):
released in sequence, or held. -/
def cellArrive (s : State) (i j path : Nat) : State :=
  let st := 4 * i + j
  match (tget [] s.core.flight st).find? fun c => c.relay == path && !c.held with
  | none => s
  | some cell =>
    let s := setCore s fun c => { c with flight := tmod [] c.flight st (·.filter fun x => x.seq != cell.seq) }
    let n := tget 0 s.core.seqRx st
    if cell.seq == n then
      let s := setCore s fun c => { c with seqRx := tset 0 c.seqRx st (n + 1) }
      releaseEarly st ((tget [] s.core.early st).length + 1) (forEach cell.pieces s takePiece)
    else if cell.seq < n then s
    else
      setCore s fun c =>
        { c with early := tmod [] c.early st (· ++ [cell])
                 gapAt := if tget 0 c.gapAt st == 0 then tset 0 c.gapAt st (s.now + 1) else c.gapAt }

/-- The bundles of a stream: the direct one and those of its two relayed paths (R150). -/
def streamBundles (i j : Nat) : List Nat :=
  let (k, l) := otherDies i j
  [swBundle i j, swBundle i k, swBundle k j, swBundle i l, swBundle l j]

/-- The cells of a stream in flight that a test names are lost (R152): counted, with one event, and the stream's bundles
reported to fault handling; the stream goes on after them. -/
def loseCells (s : State) (i j : Nat) (p : Cell → Bool) : State :=
  let st := 4 * i + j
  let gone := (tget [] s.core.flight st).filter p
  if gone.isEmpty then s
  else
    let s := setCore s fun c =>
      { c with flight := tmod [] c.flight st (·.filter fun x => !p x)
               early := tmod [] c.early st (· ++ gone.map fun x => { seq := x.seq }) }
    let s := forEach gone s fun s c => forEach c.pieces s losePiece
    let s := event (bumpBy s (SWC_RESEQ_LOST j) gone.length) 0x06 1 2 j 0xFFFF j (le 1 i ++ le 4 gone.length)
    let s := if i == j then s
      else setFlt s fun x => { x with reported := (streamBundles i j).foldl (fun t b => tmod 0 t b (· + 1)) x.reported }
    releaseEarly st ((tget [] s.core.early st).length + 1) s

/-- A gap not filled within 10 µs (R152): its cells are lost. -/
def reseqTimeout (s : State) (i j : Nat) : State :=
  let st := 4 * i + j
  let g := tget 0 s.core.gapAt st
  if g == 0 || !s.elapsed (g - 1) 10000 then s
  else
    let early := tget [] s.core.early st
    let m := early.foldl (fun (m : Nat) c => min m c.seq) (tget 0 s.core.seqTx st)
    loseCells s i j fun c => c.seq < m

/-! Frames the VS1 originates (R167, R369, R497). -/

/-- A frame number. -/
def newId (s : State) : Nat × State := (s.core.nextId, setCore s fun c => { c with nextId := c.nextId + 1 })

/-- Stage 3 for a frame the VS1 originates: counted, no NACK (R369). Answers the counter of the failed check. -/
def originFence (s : State) (h : BitVec 256) : Option Nat :=
  let c := tget {} s.flt.chips (hSrc h)
  let t := tget {} s.flt.chips (hDst h)
  let d := (hInc h + 256 - c.inc.toNat) % 256
  if c.fenced then some FLT_DROP_FENCED
  else if !hMcast h && t.fenced then some FLT_DROP_FENCED
  else if c.check && 128 ≤ d then some FLT_DROP_OLDINC
  else if c.check && d != 0 then some FLT_DROP_NEWINC
  else none

end Sys2Proof.Machine
end

