-- ==== Sys2Proof/Machine/Ports.lean ====
section
/-! DEFINITION. Ports (chapter 4): the state a port shows and the state under it, lane conditions, bring-up, IDENT and its
comparison, and port fences (R366, R367). -/

namespace Sys2Proof.Machine

/-! The state a port shows (R82). -/

/-- Is the fibre gate closed for eye safety (R103, R105, R106)? -/
def fibreDark (s : State) (F : Nat) : Bool := (fibre s F).dark

/-- Does light of a fibre's lanes leave: its gate is open, for good or for a probe (R104)? -/
def fibreSends (s : State) (F : Nat) : Bool := !fibreDark s F || (fibre s F).probing

/-- State of Table 4.6: DARK before FENCED before the underlying state. A port of a die that is not UP reads FENCED, or DARK
where it read DARK at isolation (R489). -/
def portShown (s : State) (L : Nat) : Nat :=
  if !dieUp s (swOf L) then (if portState s L == pDARK then pDARK else pFENCED)
  else if fibreDark s (L / 8) then pDARK
  else if portFenced s L then pFENCED
  else (port s L).under

/-- The port's register brought to what the port shows: each change is counted (R444), unless its die is isolated (R441), and
raises the port's source (Table 17.5); a port that no longer carries traffic loses what is queued for it (R92, R156, R366). -/
def portRefresh (s : State) (L : Nat) : State :=
  let new := portShown s L
  if new == portState s L then s
  else
    let s := fset s (PRT_STATE.STATE L) new
    let s := if dieUp s (swOf L) then bump s (PRT_STATE_CHG L) else s
    let s := if new == pUP then setPort s L fun p => { p with shownUp := s.now } else s
    let s := if new == pDOWN || new == pDARK || new == pFENCED then discardPort s L
      else if new == pQUARANTINE then discardQuar s L
      else s
    ring s (1024 + L)

/-! Bypass switches of a lane (R216, R218). -/

/-- Position of a lane's Rx switch or Tx selector. -/
inductive LaneSwitch where
  /-- On its optical chiplet. -/
  | oe
  /-- On its plane. -/
  | plane
  /-- On its plane, which joins it to nothing in this slot. -/
  | idle
deriving DecidableEq, Repr

/-- Position of the 1×2 switch of received lane l (Table 9.1): of a SLOTTED lane on the plane in the slots granted to it. -/
def rxSwitch (s : State) (l : Nat) : LaneSwitch :=
  match (tget {} s.byp.oper l).mode with
  | 0 => .oe
  | 1 => if (tget [] s.byp.path (l % 8)).any fun p => p.1 == l / 8 then .plane else .idle
  | _ => .plane

/-- Position of the 2×1 selector of transmitted lane l (Table 9.1). -/
def txSelector (s : State) (l : Nat) : LaneSwitch :=
  match (tget {} s.byp.oper l).mode with
  | 0 => .oe
  | 1 => if (tget [] s.byp.path (l % 8)).any fun p => p.2 == l / 8 then .plane else .idle
  | _ => .plane

/-- Does the optical chiplet's stream leave on lane l: idle and alignment markers, and whatever else is due (R83)? Lane gate
and fibre gate are open, and the selector is on the chiplet. -/
def laneSends (s : State) (l : Nat) : Bool :=
  (lane s l).gateOpen && fibreSends s (l / 8) && txSelector s l == .oe && dieUp s (swOf l)

/-- The underlying state set. Entering UP or QUARANTINE makes CREDIT_INIT due (R119) and starts the credit timer (R121);
UP starts the second of R367, and counts for R379. The IDENTs every 100 µs from alignment lock end as the port leaves TRAINING; the spec names no end
(DESIGN CHOICE, log entry 253). -/
def setUnder (s : State) (L u : Nat) : State :=
  let old := (port s L).under
  let s := if u == pUP && s.sys.refPhase == 2 && !s.elapsed s.sys.refLostAt 1000000000 then
      setSys s fun y => { y with refUp := true }
    else s
  let s := setPort s L fun p =>
    { p with under := u
             upAt := if u == pUP && old != pUP then s.now else p.upAt
             initAt := if u != old then 0 else p.initAt
             creditAt := if (u == pUP || u == pQUARANTINE) && old != pUP && old != pQUARANTINE then s.now else p.creditAt
             firstFail := p.firstFail || u == pUP || u == pQUARANTINE
             aligned := p.aligned && u != pDOWN
             fastIdent := p.fastIdent && u == pTRAINING
             reident := if u == pDOWN then 0 else p.reident
             pair := if u == pDOWN then none else p.pair
             resync := p.resync && u != pDOWN
             suspended := p.suspended && u != pDOWN }
  portRefresh s L

/-! Fences (R366, R367). -/

/-- A port fence with its cause; one in force is left as it is. -/
def fencePort (s : State) (L cause : Nat) : State :=
  if portFenced s L then s
  else
    let s := fset (fset s (PRT_FENCE.CAUSE L) cause) (PRT_FENCE.TS L) s.shortTs
    let s := portRefresh (fset s (PRT_STATE.FENCE L) 1) L
    ring (event s 0x0D 4 1 (swOf L) 0xFFFF L [1, BitVec.ofNat 8 cause]) 2

/-- The fence lifted: the port takes its underlying state. -/
def unfencePort (s : State) (L : Nat) : State :=
  if !portFenced s L then s
  else
    let s := portRefresh (fset s (PRT_STATE.FENCE L) 0) L
    ring (event s 0x0D 4 1 (swOf L) 0xFFFF L [0, BitVec.ofNat 8 (fget s (PRT_FENCE.CAUSE L))]) 2

/-- A link failure reported to fault handling (R366): no fence between the loss of both references and the internal
oscillator (R379). -/
def linkFailure (s : State) (L cause : Nat) : State := if s.sys.refPhase == 1 then s else fencePort s L cause

/-! Bring-up (R84, R85). -/

/-- Is every lane of the port free of LOS, lit, and ELECTRONIC (R84, R220)? -/
def lanesReady (s : State) (L : Nat) : Bool :=
  (portLanes s L).all fun l =>
    !fbit s (OPT_LANE.LOS l) && !fbit s (OPT_LANE.NOLASER l) && (tget {} s.byp.oper l).mode == 0

/-- Does a PORT self-test loop the lanes of the port now? Its peer receives idle meanwhile (Table 19.7). -/
def portTested (s : State) (L : Nat) : Bool :=
  (fget s CTL_TEST_STAT.STATE == 1 || fget s CTL_TEST_STAT.STATE == 2) && fget s CTL_TEST_STAT.KIND == 1 &&
    fget s CTL_TEST_STAT.UNIT == L

/-- May a port in DOWN enter TRAINING now? -/
def canTrain (s : State) (L : Nat) : Bool :=
  isPort s L && !isDisabled s L && !fibreDark s (L / 8) && dieUp s (swOf L) && (port s L).under == pDOWN && lanesReady s L &&
    !portTested s L

/-- Entry into TRAINING: the receivers start afresh, and every count and limit of the port is zero (R119). -/
def enterTraining (s : State) (L : Nat) : State :=
  let s := forEach (portLanes s L) s fun s l =>
    setLane (fset (fset s (OPT_LANE.LOL l) 1) (OPT_LANE.ALIGN l) 0) l fun x => { x with markAt := 0 }
  let s := fset (fset s (PRT_NBR_SEEN.VALID L) 0) (PRT_JLP.VER L) 0
  let s := setPort s L fun p =>
    { p with trainAt := s.now, retryWait := false, retryAt := 0, trainGen := p.trainGen + 1, stored := none, pair := none,
             aligned := false, initRx := 0, sent := [], peerRet := [], peerD := [], peerS := [], held := [], returned := [],
             advD := [], advS := [], retDirty := 0, ethHeld := [], xoff := [], pfcUntil := [], resync := false }
  setUnder s L pTRAINING

/-- A port gone DOWN that may come up again: the try is due at a time. -/
def retryAtTime (s : State) (L t : Nat) : State := setPort s L fun p => { p with retryWait := true, retryAt := t }

/-- The port goes DOWN and comes up again as in R84. -/
def portDown (s : State) (L : Nat) : State := retryAtTime (setUnder s L pDOWN) L s.now

/-- A lane condition (R80): what it does depends on the port's underlying state. -/
def laneCondition (s : State) (l cause : Nat) : State :=
  let L := portOf s l
  let u := (port s L).under
  if fibreDark s (L / 8) then s
  else if u == pUP || u == pQUARANTINE then linkFailure (portDown s L) L cause
  else if u == pTRAINING then portDown s L
  else s

/-- Is detection suspended by a PAUSE_SWAP (R128)? -/
def suspended (s : State) (l : Nat) : Bool := (port s (portOf s l)).suspended

/-- Does the lane's die answer? -/
def laneLive (s : State) (l : Nat) : Bool := dieUp s (swOf l)

/-- LOS_ASSERT (R79, R80). -/
def losAssert (s : State) (l : Nat) (pwr : BitVec 16) : State :=
  if !laneLive s l then s
  else
    let s := fset s (OPT_LANE.RXPWR l) pwr.toNat
    if fbit s (OPT_LANE.LOS l) then s else laneCondition (fset s (OPT_LANE.LOS l) 1) l 1

/-- LOS_CLEAR (R79, R84). -/
def losClear (s : State) (l : Nat) (pwr : BitVec 16) : State :=
  if !laneLive s l then s
  else
    let s := fset (fset s (OPT_LANE.RXPWR l) pwr.toNat) (OPT_LANE.LOS l) 0
    let L := portOf s l
    if canTrain s L && !((port s L).retryWait && s.now < (port s L).retryAt) then enterTraining s L else s

/-- LOL_ASSERT (R79, R80). -/
def lolAssert (s : State) (l : Nat) : State :=
  if !laneLive s l || suspended s l then s
  else if fbit s (OPT_LANE.LOL l) then s
  else laneCondition (fset s (OPT_LANE.LOL l) 1) l 2

/-- CLOCK_LOCK (R84). -/
def clockLock (s : State) (l : Nat) : State := if laneLive s l then fset s (OPT_LANE.LOL l) 0 else s

/-- ALIGNMENT_LOSS (R79, R80). -/
def alignmentLoss (s : State) (l : Nat) : State :=
  if !laneLive s l || suspended s l then s
  else if !fbit s (OPT_LANE.ALIGN l) then s
  else laneCondition (fset s (OPT_LANE.ALIGN l) 0) l 3

/-- Times of the last 10 µs kept. -/
def recent (s : State) (ts : List Nat) (d : Nat) : List Nat := ts.filter fun t => s.now < t + d

/-- UNCORRECTABLE_CODEWORD (R75, R79): the 64th within 10 µs is a burst. -/
def uncorrectable (s : State) (l : Nat) : State :=
  if !laneLive s l || suspended s l then s
  else
    let s := bump s (OPT_FEC_UNC l)
    let ts := recent s (lane s l).unc 10000 ++ [s.now]
    let s := setLane s l fun x => { x with unc := ts }
    if 64 ≤ ts.length then laneCondition s l 4 else s

/-- SD_WINDOW (R79, R80): the symbol error ratio of the window against 10^-4 and 5 × 10^-5. The corrected symbols reported are
those counted: none is, in a suspension (R128). -/
def sdWindow (s : State) (l corrected received : Nat) : State :=
  if !laneLive s l then s
  else
    let s := bumpBy s (OPT_FEC_CORR l) corrected
    let sd := fbit s (OPT_LANE.SD l)
    if !sd && received < corrected * 10000 then
      event (fset s (OPT_LANE.SD l) 1) 0x05 1 1 (swOf l) 0xFFFF l ([1] ++ le 8 corrected)
    else if sd && corrected * 20000 < received then
      event (fset s (OPT_LANE.SD l) 0) 0x05 1 1 (swOf l) 0xFFFF l ([0] ++ le 8 corrected)
    else s

/-! IDENT (R87 to R94). -/

/-- The module's serial, 16 bytes (R89). -/
def serialBytes : List Byte := le 8 Config.serialLo.toNat ++ le 8 Config.serialHi.toNat

/-- The VS1's IDENT record on a port (Table 4.10). -/
def identRecord (s : State) (L : Nat) : List Byte :=
  let b := [1, 7] ++ le 2 L ++ le 4 (fget s CTL_FW.FW_VERSION) ++ serialBytes ++ le 1 (fget s CTL_STRAP.SLOT) ++
    le 1 (widthOf s L) ++ le 2 (L / 8)
  b ++ le 4 (crc32 b)

/-- Fields of a record. -/
def idKind (r : BitVec 256) : Nat := blkField r 0 1
def idVersions (r : BitVec 256) : Nat := blkField r 1 1
def idPeerPort (r : BitVec 256) : Nat := blkField r 2 2
def idFw (r : BitVec 256) : Nat := blkField r 4 4
def idSerial (r : BitVec 256) : List Byte := bytesAt (hdrBytes r) 8 16

/-- Is a record valid: its CRC holds and KIND is 1 to 3 (R87)? -/
def idValid (r : BitVec 256) : Bool := blkCrcOk r && 1 ≤ idKind r && idKind r ≤ 3

/-- Highest version common with 0b111: 0 none, else 1 to 3 (R93, Table 5.8). -/
def idVer (r : BitVec 256) : Nat :=
  let v := idVersions r % 8
  if 4 ≤ v then 3 else if 2 ≤ v then 2 else v

/-- The first failing check of Table 4.13, 0 where all pass; codes of Table 4.14. -/
def identReason (s : State) (L : Nat) (r : BitVec 256) : Nat :=
  let check := fget s (PRT_NBR_EXP.CHECK L)
  let kind := fget s (PRT_NBR_EXP.KIND L)
  let fw := fget s (PRT_NBR_EXP.FW_MIN L)
  let ser := le 8 (getReg s (PRT_NBR_EXP_SER_LO L)).toNat ++ le 8 (getReg s (PRT_NBR_EXP_SER_HI L)).toNat
  if idSerial r == serialBytes && idPeerPort r == L then 8
  else if idVersions r % 8 == 0 then 6
  else if fw != 0 && idFw r < fw then 5
  else if 1 ≤ check && kind != 0 && idKind r != kind then 3
  else if 1 ≤ check && idSerial r != ser then 2
  else if check == 2 && idPeerPort r != fget s (PRT_NBR_EXP.PEER_PORT L) then 4
  else 0

/-- The port enters UP, with one event when its state changes (R90). -/
def portToUp (s : State) (L ver : Nat) (serial : List Byte) : State :=
  let change := (port s L).under != pUP
  let s := setUnder (fset s (PRT_STATE.QREASON L) 0) L pUP
  if change then event s 0x04 4 0 (swOf L) 0xFFFF L (le 1 ver ++ serial) else s

/-- The port enters or stays in QUARANTINE, with one event on entry and one on a change of reason (R90). -/
def portToQuar (s : State) (L reason : Nat) (serial : List Byte) : State :=
  let change := (port s L).under != pQUARANTINE || fget s (PRT_STATE.QREASON L) != reason
  let s := setUnder (fset s (PRT_STATE.QREASON L) reason) L pQUARANTINE
  if change then event s 0x04 2 1 (swOf L) 0xFFFF L (le 1 reason ++ serial) else s

/-- The outcome for an Ethernet-mode port (R94). -/
def ethCompare (s : State) (L : Nat) : State :=
  if fget s (PRT_NBR_EXP.CHECK L) == 0 && fget s (PRT_NBR_EXP.FW_MIN L) == 0 then portToUp s L 0 (List.replicate 16 0)
  else portToQuar s L 7 (List.replicate 16 0)

/-- The comparison with the stored record (R90), where there is one. An Ethernet-mode port, which has none, is judged by R94 at
a write of `PRT_NBR_EXP` as at alignment lock; R94 names only the latter (DESIGN CHOICE, log entry 253). -/
def compareNbr (s : State) (L : Nat) : State :=
  if isEth s L then ethCompare s L
  else
    match (port s L).stored with
    | none => s
    | some r =>
      match identReason s L r with
      | 0 => portToUp s L (idVer r) (idSerial r)
      | q => portToQuar s L q (idSerial r)

/-- Is the port's link working: UP or QUARANTINE under any fence? -/
def linkWorks (s : State) (L : Nat) : Bool := (port s L).under == pUP || (port s L).under == pQUARANTINE

/-- A pair of identical valid records stored and compared (R88, R93); a change of the common version on an UP port takes
it DOWN (R127), also where no version is common any more: R90 alone would move it to QUARANTINE at once, which it enters when it
has come up again (DESIGN CHOICE, log entry 253). -/
def identStore (s : State) (L : Nat) (r : BitVec 256) : State :=
  let old := fget s (PRT_JLP.VER L)
  let s := setPort s L fun p => { p with pair := none, stored := some r }
  let s := setReg s (PRT_NBR_SEEN L) (BitVec.ofNat 64
    (idFw r * 2 ^ 32 + idPeerPort r * 2 ^ 16 + idVersions r % 8 * 2 ^ 8 + idKind r * 2 ^ 4 + 1))
  let s := setReg s (PRT_NBR_SEEN_SER_LO L) (BitVec.ofNat 64 (unle ((idSerial r).take 8)))
  let s := setReg s (PRT_NBR_SEEN_SER_HI L) (BitVec.ofNat 64 (unle ((idSerial r).drop 8)))
  if (port s L).under == pUP && old != idVer r then portDown s L
  else compareNbr (fset s (PRT_JLP.VER L) (idVer r)) L

/-- Does the port take control blocks: fabric mode, its die answering, lit, and aligned or working? -/
def rxOpen (s : State) (L : Nat) : Bool :=
  isPort s L && !isEth s L && laneLive s L && !fibreDark s (L / 8) &&
    (linkWorks s L || ((port s L).under == pTRAINING && (port s L).aligned))

/-- A control block ends the discarding of R110. -/
def endResync (s : State) (L : Nat) : State := setPort s L fun p => { p with resync := false }

/-- IDENT_RX (R87, R88): its blocks are control blocks, ignored or not (R110, R112). -/
def identRx (s : State) (L : Nat) (r : BitVec 256) (hasA : Bool) : State :=
  if !rxOpen s L then s
  else
    let s := endResync s L
    if !hasA || !idValid r then bump s (PRT_RX_IDENT L)
    else if (port s L).pair == some r then identStore s L r
    else setPort s L fun p => { p with pair := some r }

/-- IDENT_TX (R84, R86, R88): due every 100 µs in bring-up and in REIDENT, every second in UP and QUARANTINE. -/
def identTx (s : State) (L : Nat) : State :=
  let p := port s L
  let fast := (p.under == pTRAINING && p.fastIdent) || s.now < p.reident
  let due := p.identAt == 0 || s.elapsed p.identAt (if fast then 100000 else 1000000000)
  if isEth s L || !isPort s L || !laneLive s L || fibreDark s (L / 8) then s
  else if !(fast || linkWorks s L) || !due then s
  else
    let r := identRecord s L
    let s := setPort s L fun p => { p with identAt := max s.now 1 }
    emit (emit s (.block L (mkBlk 0x33 (r.take 16)))) (.block L (mkBlk 0x34 (r.drop 16)))

/-- Are the lanes of the port within the 100 ns of skew that the receiver takes out (R76): do markers of one count arrive that
close together? More keeps the port from alignment (DESIGN CHOICE, log entry 252). -/
def deskewed (s : State) (L : Nat) : Bool :=
  let ms := ((portLanes s L).map fun l => ((lane s l).markCnt, (lane s l).markAt)).filter fun m => m.2 != 0
  ms.all fun a => ms.all fun b => a.1 != b.1 || a.2 ≤ b.2 + 100

/-- ALIGN_LOCK (R76, R84, R94). -/
def alignLock (s : State) (l : Nat) : State :=
  if !laneLive s l then s
  else
    let s := fset s (OPT_LANE.ALIGN l) 1
    let L := portOf s l
    let locked := (portLanes s L).all fun k => fbit s (OPT_LANE.ALIGN k) && !fbit s (OPT_LANE.LOL k) && !fbit s (OPT_LANE.LOS k)
    if (port s L).under == pTRAINING && !(port s L).aligned && locked && deskewed s L then
      let s := setPort s L fun p => { p with aligned := true, alignAt := s.now, fastIdent := true, identAt := 0 }
      if isEth s L then ethCompare s L else s
    else s

/-- NO_IDENT_TIMEOUT (R88). -/
def noIdentTimeout (s : State) (L : Nat) : State :=
  let p := port s L
  if !isEth s L && p.under == pTRAINING && p.aligned && p.stored.isNone && p.pair.isNone && s.elapsed p.alignAt 10000000 then
    portToQuar s L 1 (List.replicate 16 0)
  else s

/-- TRAIN_TIMEOUT (R85): the first failure after UP or QUARANTINE is recorded whatever window is open; failures folded in
that window are reported first. -/
def trainTimeout (s : State) (L : Nat) : State :=
  let p := port s L
  if p.under == pTRAINING && s.elapsed p.trainAt 50000000 then
    let s := retryAtTime (setUnder s L pDOWN) L (s.now + 10000000)
    let key := winKey 0x04 1 L 0
    let s := if p.firstFail then
        let s := match s.evr.windows.find? (·.1 == key) with
          | some (_, w) => if 0 < w.folded then evrOffer s { w.lastRec with flags := 2, count := w.folded } else s
          | none => s
        setEvr s fun e => { e with windows := tdel e.windows key }
      else s
    let s := setPort s L fun p => { p with firstFail := false }
    eventLim s key 10000000000 0x04 1 1 (swOf L) 0xFFFF L []
  else s

/-- TRAIN_RETRY (R84, R85). -/
def trainRetry (s : State) (L : Nat) : State :=
  if (port s L).retryWait && (port s L).retryAt ≤ s.now && canTrain s L then enterTraining s L else s

/-! Writes of the port page (Tables 4.9, 4.11). -/

/-- Values out of range in `PRT_NBR_EXP`. -/
def portRange (off : Nat) (w : Word) : Bool :=
  inPortPage off && off % 0x1000 == 0x10 && (3 < wget w (PRT_NBR_EXP.KIND 0) || wget w (PRT_NBR_EXP.CHECK 0) == 3)

/-- REIDENT outside UP and QUARANTINE (Table 4.9). -/
def portStateBad (s : State) (off : Nat) (w : Word) : Bool :=
  inPortPage off && off % 0x1000 == 8 && wbit w (PRT_CMD.REIDENT 0) &&
    !(linkWorks s (pageOf off) && !fibreDark s (pageOf off / 8))

/-- What an accepted write sets off: RETRAIN, REIDENT, or a comparison. -/
def portEffect (s : State) (off : Nat) (w : Word) : State :=
  if !inPortPage off then s
  else
    let L := pageOf off
    if off % 0x1000 == 8 then
      let s := if wbit w (PRT_CMD.REIDENT 0) then
          setPort s L fun p => { p with reident := s.now + 1000000, pair := none, identAt := 0 }
        else s
      if wbit w (PRT_CMD.RETRAIN 0) && (port s L).under != pDOWN then portDown s L else s
    else if off % 0x1000 == 0x10 then (if linkWorks s L && !fibreDark s (L / 8) then compareNbr s L else s)
    else s

/-! The commands. -/

/-- LOS_ASSERT (R80). -/
def execLosAssert (lane : Fin 1024) (pwr : BitVec 16) (s : State) : Host.Outcome State Fault Refusal :=
  live s fun s => losAssert s lane.val pwr
/-- LOS_CLEAR (R84). -/
def execLosClear (lane : Fin 1024) (pwr : BitVec 16) (s : State) : Host.Outcome State Fault Refusal :=
  live s fun s => losClear s lane.val pwr
/-- LOL_ASSERT (R80). -/
def execLolAssert (lane : Fin 1024) (s : State) : Host.Outcome State Fault Refusal := live s fun s => lolAssert s lane.val
/-- CLOCK_LOCK (R84). -/
def execClockLock (lane : Fin 1024) (s : State) : Host.Outcome State Fault Refusal := live s fun s => clockLock s lane.val
/-- ALIGNMENT_LOSS (R80). -/
def execAlignmentLoss (lane : Fin 1024) (s : State) : Host.Outcome State Fault Refusal :=
  live s fun s => alignmentLoss s lane.val
/-- ALIGN_LOCK (R84). -/
def execAlignLock (lane : Fin 1024) (s : State) : Host.Outcome State Fault Refusal := live s fun s => alignLock s lane.val
/-- UNCORRECTABLE_CODEWORD (R75). -/
def execUncorrectableCodeword (lane : Fin 1024) (s : State) : Host.Outcome State Fault Refusal :=
  live s fun s => uncorrectable s lane.val
/-- SD_WINDOW (R79). -/
def execSdWindow (lane : Fin 1024) (corrected received : Nat) (s : State) : Host.Outcome State Fault Refusal :=
  live s fun s => sdWindow s lane.val corrected received
/-- TRAIN_TIMEOUT (R85). -/
def execTrainTimeout (port : Fin 1024) (s : State) : Host.Outcome State Fault Refusal := live s fun s => trainTimeout s port.val
/-- TRAIN_RETRY (R85). -/
def execTrainRetry (port : Fin 1024) (s : State) : Host.Outcome State Fault Refusal := live s fun s => trainRetry s port.val
/-- IDENT_TX (R88). -/
def execIdentTx (port : Fin 1024) (s : State) : Host.Outcome State Fault Refusal := liveClocked s fun s => identTx s port.val
/-- IDENT_RX (R88). -/
def execIdentRx (port : Fin 1024) (rec : BitVec 256) (hasA : Bool) (s : State) : Host.Outcome State Fault Refusal :=
  liveClocked s fun s => identRx s port.val rec hasA
/-- NO_IDENT_TIMEOUT (R88). -/
def execNoIdentTimeout (port : Fin 1024) (s : State) : Host.Outcome State Fault Refusal :=
  live s fun s => noIdentTimeout s port.val

end Sys2Proof.Machine
end

