-- ==== Sys2Proof/Machine/Link.lean ====
section
/-! DEFINITION. The Jalesh link outside frames (R110 to R134): control blocks, credits, ALIGN, PAUSE_SWAP, SCRUB, and PFC on
Ethernet-mode ports. -/

namespace Sys2Proof.Machine

/-! Receiving control blocks (R112). -/

/-- A control block of one of the types `ts`: an ignored one is counted (R112), any other has its effect; it ends a
discarding unless it is ALIGN (R110). A block of another type is not this command's. -/
def rxBlock (s : State) (L : Nat) (b : BitVec 256) (ts : List Nat) (f : State → State) : State :=
  if !rxOpen s L then s
  else if blkBad b then bump (endResync s L) (PRT_RX_CTRL L)
  else if !ts.contains (blkByte b 0) then s
  else if blkByte b 0 == 0x4B then f s
  else f (endResync s L)

/-- CREDIT (R117, R120, R121): the cumulative counts of the block's network; the credit timer starts again, after any
suspension. -/
def creditRx (s : State) (L : Nat) (b : BitVec 256) : State :=
  rxBlock s L b [0x2D] fun s =>
    let n := blkByte b 1
    setPort s L fun p =>
      { p with creditAt := max s.now (if p.suspended then p.suspend else 0)
               peerRet := (List.range 8).foldl (fun t k =>
                 tmod 0 t (8 * n + k) fun old => old + (blkField b (4 + 3 * k) 3 + 2 ^ 24 - old % 2 ^ 24) % 2 ^ 24) p.peerRet }

/-- CREDIT_INIT (R119): the limits of the block's network replaced. -/
def creditInitRx (s : State) (L : Nat) (b : BitVec 256) : State :=
  rxBlock s L b [0x2F] fun s =>
    let n := blkByte b 1
    setPort s L fun p =>
      { p with initRx := p.initRx ||| (1 <<< n)
               peerD := (List.range 8).foldl (fun t k => tset 0 t (8 * n + k) (blkField b (4 + 2 * k) 2)) p.peerD
               peerS := tset 0 p.peerS n (blkField b 20 3) }

/-- Nanoseconds that n codeword groups take on a port, rounded up (Table 4.1). -/
def groupsNs (s : State) (L n : Nat) : Nat := ceilDiv (n * (if halfRate s L then 1024 else 512)) 10

/-- PAUSE_SWAP (R128): detection suspended for the fill and 600 ns. One comes on every lane of a port: a suspension that runs is
prolonged, never shortened, and the credit timer stands still for the time it lasts. -/
def pauseSwapRx (s : State) (L : Nat) (b : BitVec 256) : State :=
  rxBlock s L b [0x55] fun s =>
    let stop := s.now + groupsNs s L (blkByte b 1) + 600
    setPort s L fun p =>
      let old := if p.suspended then max p.suspend s.now else s.now
      { p with suspended := true, suspend := max old stop, creditAt := p.creditAt + (max old stop - old) }

/-- ALIGN (R76, R111): used for alignment and removed; it does not end a discarding. While the port acquires alignment, the
lane's marker count and the time of its arrival are kept. -/
def alignRx (s : State) (L : Nat) (b : BitVec 256) : State :=
  if rxOpen s L then rxBlock s L b [0x4B] id
  else if isPort s L && !isEth s L && laneLive s L && !fibreDark s (L / 8) && (port s L).under == pTRAINING && !blkBad b &&
      blkByte b 0 == 0x4B && blkByte b 1 < lanesOf s L then
    setLane s (L + blkByte b 1) fun x => { x with markAt := max s.now 1, markCnt := blkField b 4 4 }
  else s

/-- End of the suspension (R128). -/
def pauseSwapEnd (s : State) (L : Nat) : State :=
  if (port s L).suspended && (port s L).suspend ≤ s.now then setPort s L fun p => { p with suspended := false } else s

/-! Sending control blocks. -/

/-- Does the port send its own control blocks: fabric mode, its die answering, lit, working under any fence (R82)? -/
def txOpen (s : State) (L : Nat) : Bool := isPort s L && !isEth s L && laneLive s L && !fibreDark s (L / 8) && linkWorks s L

/-- Does the port advertise only channels 0 and 8: QUARANTINE, or its owner UNPICKING (R118, R398)? -/
def narrow (s : State) (L : Nat) : Bool := (port s L).under == pQUARANTINE || portUnpicking s L

/-- Dedicated allocation of channel c (R118). -/
def allocD (s : State) (L c : Nat) : Nat := if narrow s L && c % 8 != 0 then 0 else 36 * lanesOf s L

/-- Shared allocation of a network (R118). -/
def allocS (s : State) (L : Nat) : Nat :=
  if narrow s L then 0 else (8 * tget 192 s.sys.str.voqMib (swOf L) - 288) * lanesOf s L

/-- CREDIT_INIT of one network. -/
def creditInitBlock (s : State) (L n : Nat) : BitVec 256 :=
  mkBlk 0x2F (le 1 n ++ [0, 0] ++ (List.range 8).flatMap (fun k => le 2 (allocD s L (8 * n + k))) ++ le 3 (allocS s L))

/-- CREDIT_INIT_TX (R119): on entering UP or QUARANTINE, on a change of allocations, and every millisecond. -/
def creditInitTx (s : State) (L : Nat) : State :=
  let p := port s L
  let same := (List.range 16).all (fun c => tget 0 p.advD c == allocD s L c) &&
    (List.range 2).all (fun n => tget 0 p.advS n == allocS s L)
  if !txOpen s L || (same && p.initAt != 0 && !s.elapsed p.initAt 1000000) then s
  else
    let s' := setPort s L fun p =>
      { p with initAt := max s.now 1
               advD := (List.range 16).foldl (fun t c => tset 0 t c (allocD s L c)) []
               advS := (List.range 2).foldl (fun t n => tset 0 t n (allocS s L)) [] }
    emit (emit s' (.block L (creditInitBlock s L 0))) (.block L (creditInitBlock s L 1))

/-- Count of channel c that a CREDIT block carries: a lossless channel of a held die gets none further (R60). -/
def retShown (s : State) (L c : Nat) : Nat :=
  if ingressHeld s (swOf L) && !chanLossy s c then tget 0 (port s L).sentRet c else tget 0 (port s L).returned c

/-- CREDIT_TX (R120): when returned counts have changed, and every microsecond. -/
def creditTx (s : State) (L n : Nat) : State :=
  let p := port s L
  let dirty := bit p.retDirty.toNat n
  if !txOpen s L || (!dirty && tget 0 p.creditTxAt n != 0 && !s.elapsed (tget 0 p.creditTxAt n) 1000) then s
  else
    let b := mkBlk 0x2D (le 1 n ++ [0, 0] ++ (List.range 8).flatMap fun k => le 3 (retShown s L (8 * n + k)))
    let s := setPort s L fun p =>
      { p with sentRet := (List.range 8).foldl (fun t k => tset 0 t (8 * n + k) (retShown s L (8 * n + k))) p.sentRet,
               retDirty := p.retDirty &&& ~~~((1 : BitVec 2) <<< n), creditTxAt := tset 0 p.creditTxAt n (max s.now 1)
               dataRun := 0 }
    emit s (.block L b)

/-- CREDIT_TIMEOUT (R121): 50 µs without a CREDIT block; frozen during a suspension (R128). -/
def creditTimeout (s : State) (L : Nat) : State :=
  let p := port s L
  if txOpen s L && !p.suspended && s.elapsed p.creditAt 50000 then linkFailure (portDown s L) L 5 else s

/-- Marker period of a lane in units of 2^-32 ns: 1,024 codeword groups (R73, R111). -/
def markerPeriod (s : State) (L : Nat) : Nat := (if halfRate s L then 1048576 else 524288) * 2 ^ 32 / 10

/-- Is the lane's next alignment marker due? -/
def markerDue (s : State) (l : Nat) : Bool :=
  (lane s l).alignAt == 0 || (lane s l).alignAt + markerPeriod s (portOf s l) ≤ s.mono

/-- ALIGN_TX (R73, R83, R111): every 1,024 codeword groups on each lane whose stream leaves, an ALIGN block, or, in Ethernet mode,
a marker of IEEE 802.3 Clause 119 (R130). -/
def alignTx (s : State) (l : Nat) : State :=
  let L := portOf s l
  if !laneSends s l || !markerDue s l then s
  else
    let n := (lane s l).alignCnt
    let s := setLane s l fun x => { x with alignCnt := (n + 1) % 2 ^ 32, alignAt := max s.mono 1 }
    if isEth s L then emit s (.marker l n)
    else emit s (.block L (mkBlk 0x4B (le 1 (l - L) ++ le 1 (widthOf s L) ++ [0] ++ le 4 n)))

/-- SCRUB_TX (R129): on the lanes of a context that is UNPICKING. -/
def scrubTx (s : State) (l : Nat) : State :=
  let L := portOf s l
  if portUnpicking s L && !isEth s L && laneLive s l && !fibreDark s (l / 8) && !isDisabled s L && txSelector s l == .oe then
    emit s (.block L (mkBlk 0x66 []))
  else s

/-! PFC (R133, R134). -/

/-- Units of request channel c held on an Ethernet-mode port. -/
def ethOut' (s : State) (L c : Nat) : Nat := tget 0 (port s L).ethHeld c

/-- Dedicated units and shared pool of an Ethernet-mode port. -/
def ethD (s : State) (L : Nat) : Nat := 36 * lanesOf s L
def ethPool (s : State) (L : Nat) : Nat := (16 * tget 192 s.sys.str.voqMib (swOf L) - 288) * lanesOf s L

/-- Shared units in use by the port's channels other than c. -/
def ethShared (s : State) (L c : Nat) : Nat :=
  (List.range 8).foldl (fun a k => if k == c then a else a + (ethOut' s L k - ethD s L)) 0

/-- Units that channel c may still use (R117, R133). -/
def ethRemain (s : State) (L c : Nat) : Nat := ethD s L + (ethPool s L - ethShared s L c) - ethOut' s L c

/-- A PFC frame for the priority of channel c. -/
def sendPfc (s : State) (L c quanta : Nat) : State :=
  let s := emit (bump s (PRT_PFC_TX L)) (.pfc L (chanEthPrio s c) quanta)
  if quanta == 0 then s else setTel s fun t => { t with xoffSent := tset false t.xoffSent L true }

/-- XOFF or XON of one lossless channel, where its room has crossed a threshold, or its die holds ingress (R60). -/
def pfcOne (s : State) (L c : Nat) : State :=
  let k := lanesOf s L
  if chanLossy s c then s
  else if !tget false (port s L).xoff c && (ingressHeld s (swOf L) || ethRemain s L c < 1344 * k) then
    sendPfc (setPort s L fun p => { p with xoff := tset false p.xoff c true, xoffAt := tset 0 p.xoffAt c s.now }) L c 0xFFFF
  else if tget false (port s L).xoff c && !ingressHeld s (swOf L) && 1600 * k ≤ ethRemain s L c then
    sendPfc (setPort s L fun p => { p with xoff := tset false p.xoff c false }) L c 0
  else s

/-- Every channel of an Ethernet-mode port, which sends idle alone while its owner is UNPICKING (R129). -/
def pfcScan (s : State) (L : Nat) : State :=
  if isPort s L && isEth s L && linkWorks s L && !fibreDark s (L / 8) && !portUnpicking s L then forRange 8 s fun s c => pfcOne s L c else s

/-- Every port that holds an XOFF, after buffers have been released, and every port of a die that holds ingress. -/
def pfcRelease (s : State) : State :=
  forEach ((s.ports.filter fun e => !e.2.xoff.isEmpty || ingressHeld s (swOf e.1)).map (·.1)) s pfcScan

/-- PFC_XOFF_REPEAT (R133). -/
def pfcRepeat (s : State) (L c : Nat) : State :=
  let p := port s L
  if isEth s L && linkWorks s L && !portUnpicking s L && tget false p.xoff c && s.elapsed (tget 0 p.xoffAt c) 20000 &&
      (ingressHeld s (swOf L) || ethRemain s L c < 1344 * lanesOf s L) then
    sendPfc (setPort s L fun p => { p with xoffAt := tset 0 p.xoffAt c s.now }) L c 0xFFFF
  else s

/-- Pause of a quanta in nanoseconds: 512 bit times each at the port's rate, rounded up (R134). -/
def quantaNs (s : State) (L q : Nat) : Nat := ceilDiv (q * 512) (portGbps s L)

/-- PFC_RX (R134). A priority that maps to no channel has no other effect than the count. -/
def pfcRx (s : State) (L : Nat) (enable : BitVec 8) (quanta : BitVec 128) : State :=
  if !isPort s L || !isEth s L || !laneLive s L || !linkWorks s L || fibreDark s (L / 8) then s
  else
    let s := bump s (PRT_PFC_RX L)
    forRange 8 s fun s p =>
      if bit enable.toNat p && (ethChan s p).isSome then
        setPort s L fun x => { x with pfcUntil := tset 0 x.pfcUntil p (s.now + quantaNs s L (bits quanta.toNat (16 * p) 16)) }
      else s

/-- PFC_PAUSE_EXPIRE (R134). -/
def pfcExpire (s : State) (L p : Nat) : State :=
  if tget 0 (port s L).pfcUntil p ≤ s.now then setPort s L fun x => { x with pfcUntil := tset 0 x.pfcUntil p 0 } else s

/-! The commands. -/

/-- IDLE_RX (R112). -/
def execIdleRx (port : Fin 1024) (blk : BitVec 256) (s : State) : Host.Outcome State Fault Refusal :=
  liveClocked s fun s => rxBlock s port.val blk [0x1E] id
/-- CONTROL_BLOCK_BAD (R112): a block that is not to be ignored is some other command's. -/
def execControlBlockBad (port : Fin 1024) (blk : BitVec 256) (s : State) : Host.Outcome State Fault Refusal :=
  liveClocked s fun s => rxBlock s port.val blk [] id
/-- CREDIT_RX (R117). -/
def execCreditRx (port : Fin 1024) (blk : BitVec 256) (s : State) : Host.Outcome State Fault Refusal :=
  liveClocked s fun s => creditRx s port.val blk
/-- CREDIT_INIT_RX (R119). -/
def execCreditInitRx (port : Fin 1024) (blk : BitVec 256) (s : State) : Host.Outcome State Fault Refusal :=
  liveClocked s fun s => creditInitRx s port.val blk
/-- ALIGN_RX (R111). -/
def execAlignRx (port : Fin 1024) (blk : BitVec 256) (s : State) : Host.Outcome State Fault Refusal :=
  liveClocked s fun s => alignRx s port.val blk
/-- PAUSE_SWAP_RX (R128). -/
def execPauseSwapRx (port : Fin 1024) (blk : BitVec 256) (s : State) : Host.Outcome State Fault Refusal :=
  liveClocked s fun s => pauseSwapRx s port.val blk
/-- PAUSE_SWAP_END (R128). -/
def execPauseSwapEnd (port : Fin 1024) (s : State) : Host.Outcome State Fault Refusal :=
  live s fun s => pauseSwapEnd s port.val
/-- SWAP_FILL_RX (R112). -/
def execSwapFillRx (port : Fin 1024) (blk : BitVec 256) (s : State) : Host.Outcome State Fault Refusal :=
  liveClocked s fun s => rxBlock s port.val blk [0x56] id
/-- SCRUB_RX (R129). -/
def execScrubRx (port : Fin 1024) (blk : BitVec 256) (s : State) : Host.Outcome State Fault Refusal :=
  liveClocked s fun s => rxBlock s port.val blk [0x66] fun s => bump s (PRT_RX_SCRUB port.val)
/-- PFC_RX (R134). -/
def execPfcRx (port : Fin 1024) (enable : BitVec 8) (quanta : BitVec 128) (s : State) : Host.Outcome State Fault Refusal :=
  liveClocked s fun s => pfcRx s port.val enable quanta
/-- PFC_PAUSE_EXPIRE (R134). -/
def execPfcPauseExpire (port : Fin 1024) (prio : Fin 8) (s : State) : Host.Outcome State Fault Refusal :=
  live s fun s => pfcExpire s port.val prio.val
/-- PFC_XOFF_REPEAT (R133). -/
def execPfcXoffRepeat (port : Fin 1024) (chan : Fin 8) (s : State) : Host.Outcome State Fault Refusal :=
  liveClocked s fun s => pfcRepeat s port.val chan.val
/-- CREDIT_TX (R120). -/
def execCreditTx (port : Fin 1024) (net : Fin 2) (s : State) : Host.Outcome State Fault Refusal :=
  liveClocked s fun s => creditTx s port.val net.val
/-- CREDIT_INIT_TX (R119). -/
def execCreditInitTx (port : Fin 1024) (s : State) : Host.Outcome State Fault Refusal :=
  liveClocked s fun s => creditInitTx s port.val
/-- CREDIT_TIMEOUT (R121). -/
def execCreditTimeout (port : Fin 1024) (s : State) : Host.Outcome State Fault Refusal :=
  live s fun s => creditTimeout s port.val
/-- ALIGN_TX (R111). -/
def execAlignTx (lane : Fin 1024) (s : State) : Host.Outcome State Fault Refusal := liveClocked s fun s => alignTx s lane.val
/-- SCRUB_TX (R129). -/
def execScrubTx (lane : Fin 1024) (s : State) : Host.Outcome State Fault Refusal := liveClocked s fun s => scrubTx s lane.val

/-- SCHED_EPOCH (R148): one cell epoch; room that it frees may end an XOFF (R133). -/
def execSchedEpoch (s : State) : Host.Outcome State Fault Refusal :=
  live s fun s => if s.asBasic || s.asWoven then pfcRelease (schedEpoch s) else s
/-- CELL_ARRIVE (R152). -/
def execCellArrive (src : Fin 4) (dst : CellEnd) (s : State) : Host.Outcome State Fault Refusal :=
  live s fun s => cellArrive s src.val dst.dst.val dst.path.val
/-- RESEQ_TIMEOUT (R152). -/
def execReseqTimeout (src dst : Fin 4) (s : State) : Host.Outcome State Fault Refusal :=
  live s fun s => reseqTimeout s src.val dst.val
/-- MC_RESIDUE_TIMEOUT (R159). -/
def execMcResidueTimeout (die : Fin 4) (chan : Fin 16) (s : State) : Host.Outcome State Fault Refusal :=
  live s fun s => mcResidue s die.val chan.val

end Sys2Proof.Machine
end

