-- ==== Sys2Proof/Machine/Optics.lean ====
section
/-! DEFINITION. Lasers, spare changeover and eye safety (R95 to R106). -/

namespace Sys2Proof.Machine

/-! Fibre gates (R102 to R106). -/

/-- A random time within 10 s, in nanoseconds: a free value (R104). -/
def randomProbe (s : State) : Nat × State :=
  let (r, s) := draw s
  (r.toNat % 10000000000, s)

/-- The ports of a fibre brought to what they show; their underlying state falls to DOWN when the fibre is dark. -/
def fibrePorts (s : State) (F : Nat) : State :=
  forRange 8 s fun s W =>
    let L := 8 * F + W
    if !isPort s L then s
    else if fibreDark s F && (port s L).under != pDOWN then setUnder s L pDOWN
    else portRefresh s L

/-- `OPT_FIBRE_F` brought to the gate and the light; the register of a die that is not UP keeps what it read at isolation
(R489). -/
def fibreShow (s : State) (F : Nat) : State :=
  if dieUp s (F / 32) then fset (fset s (OPT_FIBRE.OPEN F) (b2n (fibreSends s F))) (OPT_FIBRE.LIGHT F) (b2n (fibre s F).light)
  else s

/-- The gate closed and the fibre dark; any probe ends. -/
def gateClose (s : State) (F : Nat) : State :=
  fibrePorts (fibreShow (setFibre s F fun f => { f with dark := true, probing := false }) F) F

/-- R103 and R104 begin to apply to a fibre: a closed gate, and the first probe at a random time (R105). -/
def gateBegin (s : State) (F : Nat) : State :=
  let s := gateClose s F
  let (t, s) := randomProbe s
  setFibre s F fun f => { f with probeAt := s.now + t }

/-- May the fibre's gate open at all (R105, R106)? -/
def gateMay (s : State) (F : Nat) : Bool := s.sys.gateRules && s.sys.lasersOn && !fbit s (OPT_FIBRE.FORCE_CLOSE F)

/-- FIBRE_DARK (R103): the gates answer whatever the state of the switch die. -/
def fibreGoesDark (s : State) (F : Nat) : State :=
  let s := fibreShow (setFibre s F fun f => { f with light := false }) F
  if gateMay s F && !fibreDark s F then gateBegin s F else s

/-- FIBRE_PROBE (R104): in a probe the lanes send idle, as `laneSends` says. -/
def fibreProbe (s : State) (F : Nat) : State :=
  let f := fibre s F
  if gateMay s F && f.dark && !f.probing && f.probeAt ≤ s.now then
    fibreShow (setFibre s F fun f => { f with probing := true, probeEnd := s.now + 2000000, probeAt := s.now + 10000000000 }) F
  else s

/-- PROBE_END (R104). -/
def probeEnd (s : State) (F : Nat) : State :=
  let f := fibre s F
  if f.probing && f.probeEnd ≤ s.now then fibreShow (setFibre s F fun f => { f with probing := false }) F else s

/-- FIBRE_LIGHT (R104): the gate opens and the lanes leave DARK for DOWN. -/
def fibreLight (s : State) (F : Nat) : State :=
  let s := fibreShow (setFibre s F fun f => { f with light := true }) F
  if gateMay s F && fibreDark s F then
    let s := fibrePorts (fibreShow (setFibre s F fun f => { f with dark := false, probing := false }) F) F
    forRange 8 s fun s W => if isPort s (8 * F + W) then retryAtTime s (8 * F + W) s.now else s
  else s

/-- A write of `OPT_FIBRE_F` (R106). -/
def forceCloseEffect (s : State) (F : Nat) (before : Bool) : State :=
  let now := fbit s (OPT_FIBRE.FORCE_CLOSE F)
  if now && !before then gateClose s F
  else if before && !now && s.sys.gateRules then gateBegin s F
  else s

/-! Lasers (R95 to R100). -/

/-- States of Table 4.17. -/
def lasOFF : Nat := 0
def lasOK : Nat := 1
def lasWARN : Nat := 2
def lasREPLACING : Nat := 3
def lasREPLACED : Nat := 4
def lasFAILING : Nat := 5
def lasFAILED : Nat := 6
def lasIDLE : Nat := 7
def lasACTIVE : Nat := 8
def lasSPAREFAILED : Nat := 9

def lasState (s : State) (i : Nat) : Nat := fget s (LAS_STAT.STATE i)

/-- A laser's new state with its event: W for WARN and the steps of a changeover, E for a failure (Table 18.6). -/
def lasEvent (s : State) (i st : Nat) : State :=
  let s := fset s (LAS_STAT.STATE i) st
  event s 0x05 2 (if st == lasFAILING || st == lasFAILED || st == lasSPAREFAILED then 2 else 1) (i / 40) 0xFFFF i
    (le 1 st ++ le 2 (fget s (LAS_STAT.REL_PWR i)))

/-- Lane of a bank's fibre and wavelength. -/
def bankLane (b f W : Nat) : Nat := 8 * (8 * b + f) + W

/-- The eight lanes a position feeds go DOWN (Table 4.15, R98). -/
def laserLanesDown (s : State) (b W : Nat) (noLaser : Bool) : State :=
  forRange 8 s fun s f =>
    let l := bankLane b f W
    let s := if noLaser then fset s (OPT_LANE.NOLASER l) 1 else s
    let L := portOf s l
    if (port s L).under == pDOWN then s else portDown s L

/-- The lower-numbered idle spare of a bank. -/
def idleSpare (s : State) (b : Nat) : Option Nat := [8, 9].find? fun k => lasState s (10 * b + k) == lasIDLE

/-- Changeover of position k of bank b (R96): to an idle spare; waiting while another runs (R98); FAILING with none. -/
def changeover (s : State) (b k : Nat) : State :=
  if (bank s b).active then
    setBank s b fun x => { x with waiting := if x.waiting.contains k || x.pos == k then x.waiting else x.waiting ++ [k] }
  else
    match idleSpare s b with
    | none => lasEvent s (10 * b + k) lasFAILING
    | some p =>
      let s := fset s (LAS_STAT.W (10 * b + p)) (fget s (LAS_STAT.W (10 * b + k)))
      let s := setBank s b fun x => { x with active := true, pos := k, spare := p, locked := false, lockBy := s.now + 20000000, next := 0 }
      lasEvent s (10 * b + k) lasREPLACING

/-- The bank is free for the next laser that waits (R98). -/
def nextChangeover (s : State) (b : Nat) : State :=
  let s := setBank s b fun x => { x with active := false, locked := false }
  match (bank s b).waiting with
  | [] => s
  | k :: ks => changeover (setBank s b fun x => { x with waiting := ks }) b k

/-- LASER_FADE (R95, R98, Table 4.15): a reading of a laser in use against its thresholds. A sudden one is more than
6.0 dB below and counts at once. -/
def laserFade (s : State) (i : Nat) (rel : BitVec 16) (sudden : Bool) : State :=
  let b := i / 10
  let k := i % 10
  let st := lasState s i
  let W := fget s (LAS_STAT.W i)
  if !s.sys.lasersOn || st == lasOFF || st == lasREPLACED || st == lasFAILED || st == lasIDLE || st == lasSPAREFAILED then s
  else
    let s := fset s (LAS_STAT.REL_PWR i) rel.toNat
    let v := sext 16 rel.toNat
    if st == lasFAILING then
      if v ≤ -600 then
        let s := laserLanesDown (lasEvent s i lasFAILED) b W true
        setNvs s fun n => { n with laserState := tset 0 n.laserState i lasFAILED }
      else s
    else if st == lasREPLACING then s
    else if v ≤ -300 then
      let s := if sudden && v < -600 then laserLanesDown s b W false else s
      let s := changeover s b k
      if v ≤ -600 && lasState s i == lasFAILING then
        let s := laserLanesDown (lasEvent s i lasFAILED) b W true
        setNvs s fun n => { n with laserState := tset 0 n.laserState i lasFAILED }
      else s
    else if v ≤ -150 && st != lasWARN then lasEvent s i lasWARN
    else s

/-- SPARE_LOCKED (R96): the per-fibre swaps begin. -/
def spareLocked (s : State) (b : Nat) : State :=
  if (bank s b).active && !(bank s b).locked then setBank s b fun x => { x with locked := true, next := 0 } else s

/-- SPARE_LOCK_TIMEOUT (R98). -/
def spareLockTimeout (s : State) (b : Nat) : State :=
  let x := bank s b
  if x.active && !x.locked && x.lockBy ≤ s.now then
    let s := fset (lasEvent s (10 * b + x.spare) lasSPAREFAILED) (LAS_STAT.W (10 * b + x.spare)) 0xF
    let s := setNvs s fun n => { n with laserState := tset 0 n.laserState (10 * b + x.spare) lasSPAREFAILED }
    match idleSpare s b with
    | some _ => changeover (setBank s b fun x => { x with active := false }) b x.pos
    | none => nextChangeover (lasEvent s (10 * b + x.pos) lasFAILING) b
  else s

/-- End of a changeover (Table 4.16). -/
def changeoverEnd (s : State) (b : Nat) : State :=
  let x := bank s b
  let i := 10 * b + x.pos
  let W := fget s (LAS_STAT.W i)
  let s := fset (lasEvent s i lasREPLACED) (LAS_STAT.W i) 0xF
  let s := fset s (LAS_STAT.STATE (10 * b + x.spare)) lasACTIVE
  let s := setNvs s fun n =>
    { n with laserState := tset 0 n.laserState i lasREPLACED
             spareFor := tset 0 (tset 0 n.spareFor i 0) (10 * b + x.spare) (W + 1) }
  nextChangeover s b

/-- Does lane l switch its selector at once, without a fill (R97): its Tx selector takes bypass light, its port is DOWN, its fibre
is DARK, or its lane gate is closed? -/
def swapQuiet (s : State) (l : Nat) : Bool :=
  txSelector s l != .oe || fibreDark s (l / 8) || !(lane s l).gateOpen || isDisabled s (portOf s l) ||
    (port s (portOf s l)).under == pDOWN

/-- The fill of a swap on every lane of a port (R96, R97): PAUSE_SWAP and SWAP_FILL for 8 codeword groups, 4 at half rate; in
Ethernet mode idle alone. No frame starts until it ends (R128). -/
def swapFill (s : State) (L : Nat) : State :=
  let g := if halfRate s L then 4 else 8
  let s := setPort s L fun p => { p with fillEnd := s.now + groupsNs s L g }
  if isEth s L then emit s (.fill L g false)
  else emit (forRange (lanesOf s L) s fun s _ => emit s (.block L (mkBlk 0x55 [BitVec.ofNat 8 g]))) (.fill L g true)

/-- FIBRE_SWAP (R96, R97): one fibre's lane switches its source selector, after its frame in flight and its fill, 50 µs after the
lane before it. -/
def fibreSwap (s : State) (b : Nat) : State :=
  let x := bank s b
  let l := bankLane b x.next (fget s (LAS_STAT.W (10 * b + x.spare)))
  let L := portOf s l
  if !x.active || !x.locked then s
  else if !swapQuiet s l && ((port s L).txBusy.isSome || s.now < (port s L).fillEnd || (x.next != 0 && !s.elapsed x.swapAt 50000)) then s
  else
    let s := if swapQuiet s l then s else swapFill s L
    let s := fset (fset s (OPT_LANE.SOURCE l) x.spare) (OPT_LANE.NOLASER l) 0
    let s := setBank s b fun x => { x with next := x.next + 1, swapAt := s.now }
    if x.next == 7 then changeoverEnd s b else s

/-- Lasers off (R100, R105): a changeover in progress is abandoned. -/
def lasersOff (s : State) : State :=
  let s := forRange 160 s fun s i =>
    let st := lasState s i
    let b := i / 10
    let s := if (bank s b).active && (bank s b).spare == i % 10 then fset s (LAS_STAT.W i) 0xF else s
    if st == lasREPLACED || st == lasFAILED || st == lasSPAREFAILED then s
    else fset (fset s (LAS_STAT.STATE i) lasOFF) (LAS_STAT.REL_PWR i) 0
  setByp (setSys { s with banks := [] } fun y => { y with lasersOn := false }) fun b => { b with soaOn := false }

/-- The position that feeds wavelength W of a bank: a spare in service, or position W (R99). -/
def laserFor (s : State) (b W : Nat) : Nat :=
  match [8, 9].find? fun k => tget 0 s.nvs.spareFor (10 * b + k) == W + 1 with
  | some k => k
  | none => W

/-- Lasers at power (R99, R100): each position takes the state its assignment gives, and each lane its source. -/
def lasersOn (s : State) : State :=
  let s := forRange 160 s fun s i =>
    let k := i % 10
    let st := tget 0 s.nvs.laserState i
    let W := tget 0 s.nvs.spareFor i
    let s := fset s (LAS_STAT.W i) (if st == lasREPLACED || st == lasSPAREFAILED then 0xF else if k < 8 then k else if W == 0 then 0xF else W - 1)
    fset s (LAS_STAT.STATE i) (if st != 0 then st else if k < 8 then lasOK else if W == 0 then lasIDLE else lasACTIVE)
  let s := forRange 1024 s fun s l =>
    let b := l / 64
    let k := laserFor s b (l % 8)
    fset (fset s (OPT_LANE.SOURCE l) k) (OPT_LANE.NOLASER l) (b2n (lasState s (10 * b + k) == lasFAILED))
  setByp (setSys s fun y => { y with lasersOn := true }) fun b => { b with soaOn := true }

/-! The commands. -/

/-- LASER_FADE (R95). -/
def execLaserFade (laser : Fin 160) (rel : BitVec 16) (sudden : Bool) (s : State) : Host.Outcome State Fault Refusal :=
  live s fun s => laserFade s laser.val rel sudden
/-- SPARE_LOCKED (R96). -/
def execSpareLocked (bank : Fin 16) (s : State) : Host.Outcome State Fault Refusal := live s fun s => spareLocked s bank.val
/-- SPARE_LOCK_TIMEOUT (R98). -/
def execSpareLockTimeout (bank : Fin 16) (s : State) : Host.Outcome State Fault Refusal :=
  live s fun s => spareLockTimeout s bank.val
/-- FIBRE_SWAP (R96). -/
def execFibreSwap (bank : Fin 16) (s : State) : Host.Outcome State Fault Refusal := live s fun s => fibreSwap s bank.val
/-- FIBRE_DARK (R103). -/
def execFibreDark (fibre : Fin 128) (s : State) : Host.Outcome State Fault Refusal := live s fun s => fibreGoesDark s fibre.val
/-- FIBRE_PROBE (R104). -/
def execFibreProbe (fibre : Fin 128) (s : State) : Host.Outcome State Fault Refusal := live s fun s => fibreProbe s fibre.val
/-- PROBE_END (R104). -/
def execProbeEnd (fibre : Fin 128) (s : State) : Host.Outcome State Fault Refusal := live s fun s => probeEnd s fibre.val
/-- FIBRE_LIGHT (R104). -/
def execFibreLight (fibre : Fin 128) (s : State) : Host.Outcome State Fault Refusal := live s fun s => fibreLight s fibre.val

end Sys2Proof.Machine
end

