-- ==== Sys2Proof/Machine/Gcm.lean ====
section
/-! DEFINITION. AES-256-GCM (R242, R408, R410), as NIST SP 800-38D and FIPS 197 define it; the spec names the standard and
does not repeat it (PRESUMED, log entry 262). Keys, nonces and texts are bytes in the order in which they are sent; a key or a
nonce held as a number has its first byte lowest. -/

namespace Sys2Proof.Machine

/-! The field of 256 elements and the S-box. -/

/-- Twice an element. -/
def gfTwice (b : Byte) : Byte := (b <<< 1) ^^^ (if b.getLsbD 7 then 0x1B else 0)

/-- Product of two elements. -/
def gfMul (a b : Byte) : Byte :=
  ((List.range 8).foldl (fun (r : Byte × Byte) i => (if b.getLsbD i then r.1 ^^^ r.2 else r.1, gfTwice r.2)) (0, a)).1

/-- Inverse of an element, 0 of 0: its 254th power. -/
def gfInv (a : Byte) : Byte :=
  ((List.range 7).foldl (fun (r : Byte × Byte) _ => let q := gfMul r.2 r.2; (gfMul r.1 q, q)) ((1 : Byte), a)).1

/-- The S-box. -/
def sbox (a : Byte) : Byte :=
  let i := gfInv a
  i ^^^ i.rotateLeft 1 ^^^ i.rotateLeft 2 ^^^ i.rotateLeft 3 ^^^ i.rotateLeft 4 ^^^ 0x63

/-- Bytes added one by one. -/
def xorBytes (a b : List Byte) : List Byte := (a.zip b).map fun p => p.1 ^^^ p.2

/-! The cipher. -/

/-- The n-th round constant. -/
def rcon (n : Nat) : Byte := (List.range n).foldl (fun r _ => gfTwice r) (1 : Byte)

/-- The 60 words of the key schedule. -/
def keyWords (key : List Byte) : List (List Byte) :=
  (List.range 52).foldl (fun ws k =>
    let i := k + 8
    let t := ws.getD (i - 1) []
    let t := if i % 8 == 0 then xorBytes ((t.drop 1 ++ t.take 1).map sbox) [rcon (i / 8 - 1), 0, 0, 0]
      else if i % 8 == 4 then t.map sbox else t
    ws ++ [xorBytes (ws.getD (i - 8) []) t]) ((List.range 8).map fun i => bytesAt key (4 * i) 4)

/-- The rows of a block shifted. -/
def shiftRows (b : List Byte) : List Byte := (List.range 16).map fun k => b.getD ((k + 4 * (k % 4)) % 16) 0

/-- The columns of a block mixed. -/
def mixColumns (b : List Byte) : List Byte :=
  (List.range 16).map fun k =>
    let at' := fun i => b.getD (k / 4 * 4 + (k + i) % 4) 0
    gfTwice (at' 0) ^^^ gfTwice (at' 1) ^^^ at' 1 ^^^ at' 2 ^^^ at' 3

/-- One block enciphered under a key schedule. -/
def aesBlock (ws : List (List Byte)) (b : List Byte) : List Byte :=
  let rk := fun r => ((ws.drop (4 * r)).take 4).flatten
  let b := (List.range 13).foldl (fun b r => xorBytes (mixColumns (shiftRows (b.map sbox))) (rk (r + 1))) (xorBytes b (rk 0))
  xorBytes (shiftRows (b.map sbox)) (rk 14)

/-! The mode. -/

/-- Product in the field of 2^128 elements, blocks with their first bit highest. -/
def ghashMul (x y : BitVec 128) : BitVec 128 :=
  ((List.range 128).foldl (fun (r : BitVec 128 × BitVec 128) i =>
    (if x.getLsbD (127 - i) then r.1 ^^^ r.2 else r.1,
     (r.2 >>> 1) ^^^ (if r.2.getLsbD 0 then 0xE1#128 <<< 120 else 0))) (0, y)).1

/-- The 16-byte blocks of bytes, the last filled with zeros. -/
def blocks16 (bs : List Byte) : List (List Byte) := (List.range (ceilDiv bs.length 16)).map fun i => bytesAt bs (16 * i) 16

/-- GHASH of whole blocks under subkey h. -/
def ghash (h : BitVec 128) (bs : List (List Byte)) : BitVec 128 :=
  bs.foldl (fun y b => ghashMul (y ^^^ BitVec.ofNat 128 (unbe b)) h) 0

/-- Counter block n of a nonce; 1 is the one of the tag. -/
def gcmCounter (nonce : BitVec 96) (n : Nat) : List Byte := le 12 nonce.toNat ++ be 4 n

/-- The text under the key stream: sealing and opening are the same. -/
def gcmText (ws : List (List Byte)) (nonce : BitVec 96) (text : List Byte) : List Byte :=
  ((List.range (ceilDiv text.length 16)).map fun i =>
    xorBytes ((text.drop (16 * i)).take 16) (aesBlock ws (gcmCounter nonce (i + 2)))).flatten

/-- The 16-byte tag of a ciphertext. -/
def gcmTag (ws : List (List Byte)) (nonce : BitVec 96) (aad cipher : List Byte) : List Byte :=
  let h := BitVec.ofNat 128 (unbe (aesBlock ws (List.replicate 16 0)))
  let y := ghash h (blocks16 aad ++ blocks16 cipher ++ [be 8 (8 * aad.length) ++ be 8 (8 * cipher.length)])
  xorBytes (be 16 y.toNat) (aesBlock ws (gcmCounter nonce 1))

/-- Ciphertext, and then its tag. -/
def gcmSeal (key : BitVec 256) (nonce : BitVec 96) (aad text : List Byte) : List Byte :=
  let ws := keyWords (le 32 key.toNat)
  let c := gcmText ws nonce text
  c ++ gcmTag ws nonce aad c

/-- The text of a sealed payload, whose last 16 bytes are the tag (R242); none where the tag does not verify. -/
def gcmOpen (key : BitVec 256) (nonce : BitVec 96) (aad body : List Byte) : Option (List Byte) :=
  let ws := keyWords (le 32 key.toNat)
  let c := body.take (body.length - 16)
  if 16 ≤ body.length && gcmTag ws nonce aad c == body.drop (body.length - 16) then some (gcmText ws nonce c) else none

end Sys2Proof.Machine
end

