-- ==== Sys2Proof/Machine/Dma.lean ====
section
/-! DEFINITION. The DMA queues' shared operations (R420, R421): where a completion goes, its phase, the order of TABLE
completions, and how a queue stops. -/

namespace Sys2Proof.Machine

/-- Bytes of a completion of queue q; the record size of EVENTS (Table 17.2). -/
def dqSize : Nat → Nat
  | 0 => 256 | 1 => 16 | 2 => 64 | _ => 32

/-- Bytes of a submission entry of queue q (Table 17.2). -/
def dqEntrySize : Nat → Nat
  | 0 => 256 | 1 => 64 | _ => 32

/-- Slots of a ring of queue q. -/
def dqSlots (s : State) (q : Nat) : Nat := 2 ^ fget s (CTL_DQ_CFG.LOG2N q)

/-- Does the queue run: enabled and not stopped? -/
def dqRuns (s : State) (q : Nat) : Bool := fbit s (CTL_DQ_CFG.EN q) && !fbit s (CTL_DQ_STAT.STOPPED q)

/-- The completion of entry i of queue q, with its phase in the last byte, and its interrupt (R420). -/
def dqPut (s : State) (q i : Nat) (body : List Byte) (irq : Bool) : State :=
  if dqRuns s q then
    let n := dqSlots s q
    let phase : Byte := if i / n % 2 == 0 then 1 else 0
    let s := emit s (.hostWrite ((getReg s (CTL_DQ_CBASE q)).toNat + i % n * dqSize q) (fit (dqSize q - 1) body ++ [phase]))
    if irq then ring s (8 + q) else s
  else s

/-- TABLE completions written in the order of their entries, with fuel (R420). The last byte kept with each is its IRQ. -/
def dqDrainTable : Nat → State → State
  | 0, s => s
  | n + 1, s =>
    match s.host.dqDone.find? (·.1 == s.host.dqNext) with
    | none => s
    | some (i, b) =>
      let s := dqPut s 0 i (b.take 208) (fieldAt b 208 1 == 1)
      dqDrainTable n (setHost s fun h => { h with dqDone := tdel h.dqDone i, dqNext := (i + 1) % 2 ^ 32 })

/-- A TABLE entry's completion is ready. An index of 2^32 marks an entry whose queue has stopped since (R421). -/
def dqTableDone (s : State) (i : Nat) (body : List Byte) (irq : Bool) : State :=
  if 2 ^ 32 ≤ i || !dqRuns s 0 then s
  else
    let s := setHost s fun h => { h with dqDone := tput (tdel h.dqDone i) i (fit 208 body ++ [if irq then 1 else 0]) }
    dqDrainTable (s.host.dqDone.length + 1) s

/-- Entries of a stopped TABLE queue keep their place in the submission order and lose their completion (R421). -/
def dqForget (s : State) : State :=
  let dead : Option Nat → Option Nat := fun d => d.map fun _ => 2 ^ 32
  let s := setHost s fun h => { h with dqDone := [], dqNext := 0 }
  setTbl s fun t =>
    { t with order := t.order.map fun x => match x with
               | .cmd desc d => .cmd desc (dead d)
               | x => x
             drains := t.drains.map fun x => { x with dma := dead x.dma } }

/-- Queue q stops with an error: 1 DMA, 2 LINK, 3 BAD_RING (R421, Table 17.4); it raises its source (R420). -/
def dqStop (s : State) (q err : Nat) : State :=
  let s := fset (fset s (CTL_DQ_STAT.STOPPED q) 1) (CTL_DQ_STAT.ERROR q) err
  ring (if q == 0 then dqForget s else s) (8 + q)

end Sys2Proof.Machine
end

