-- ==== Sys2Proof/Machine/TableCmds.lean ====
section
/-! DEFINITION. The table command engine (R177 to R191): the submission order, the operations of Table 7.8, completions,
raw operations, learning, aging and draining. -/

namespace Sys2Proof.Machine

/-! Descriptors (Table 7.6). -/

def dOp (d : List Byte) : Nat := fieldAt d 0 1
def dTable (d : List Byte) : Nat := fieldAt d 1 1
def dFlags (d : List Byte) : Nat := fieldAt d 2 2
def dTag (d : List Byte) : Nat := fieldAt d 4 4
def dArg (d : List Byte) : Nat := fieldAt d 8 8
def dKey (d : List Byte) : List Byte := bytesAt d 0x10 32
def dData (d : List Byte) : List Byte := bytesAt d 0x30 144

/-- Are the bytes from an offset up to another all zero? -/
def zeroBytes (bs : List Byte) (lo hi : Nat) : Bool := ((bs.drop lo).take (hi - lo)).all (· == 0)

/-- BAD_OP (R183): any other OP, a flag that does not apply, a TABLE or an ARG outside its range. -/
def badOp (s : State) (d : List Byte) : Bool :=
  let op := dOp d
  let t := dTable d
  let allowed := match op with
    | 1 => if t == 1 || t == 2 then 0x12 else 0x10
    | 3 => 0x11
    | 5 => 0x1C
    | _ => 0x10
  let flagBad := !((List.range 16).all fun k => !bit (dFlags d) k || bit allowed k)
  let tblBad := if op ≤ 4 then t < 1 || 7 < t else t != 0
  let argBad := match op with
    | 5 => !(dArg d < 1024 && isPort s (dArg d))
    | 6 => dArg d < 1 || 60000 < dArg d
    | 7 => 2 ^ 32 ≤ dArg d
    | _ => false
  op < 1 || 7 < op || flagBad || tblBad || argBad

/-- A key is out of range, or has address bits past LEN or non-zero unused bytes (R182). With LONGEST, LEN is ignored
(R183). -/
def badKey (t : Nat) (k : List Byte) (longest : Bool) : Bool :=
  match t with
  | 1 | 2 =>
    let n := if t == 1 then 4 else 16
    let len := fieldAt k 2 1
    let a := unbe (bytesAt k 4 n)
    1024 ≤ fieldAt k 0 2 || !zeroBytes k 3 4 || !zeroBytes k (4 + n) 32 ||
      (!longest && (8 * n < len || a % 2 ^ (8 * n - len) != 0))
  | 3 => 65536 ≤ fieldAt k 0 4 || !zeroBytes k 4 32
  | 4 => 2 ^ 20 ≤ fieldAt k 0 4 || !zeroBytes k 4 32
  | 5 => fieldAt k 0 2 < 1 || 4094 < fieldAt k 0 2 || !zeroBytes k 8 32
  | 6 => !zeroBytes k 2 32
  | _ => 4096 ≤ fieldAt k 0 2 || !zeroBytes k 2 32

/-- Is group g absent, or of the KIND? -/
def groupKind (s : State) (g kind : Nat) : Bool :=
  match direct s (refDie s) 7 g with
  | some e => lgKind e == kind
  | none => true

/-- A port target within range and not absorbed (R182). -/
def portTarget (s : State) (L : Nat) : Bool := L < 1024 && isPort s L

/-- BAD_ENTRY (R177, R182). -/
def badEntry (s : State) (t : Nat) (d : List Byte) : Bool :=
  let a := fieldAt d 0 1
  let tgt := fieldAt d 4 4
  match t with
  | 1 | 2 =>
    !(match a with
      | 0 => tgt < 65536
      | 1 => tgt < 4096 && groupKind s tgt 1
      | 2 => tgt == 0
      | _ => false) || !zeroBytes d 1 4 || !zeroBytes d 8 144
  | 3 =>
    !(match a with
      | 0 => portTarget s tgt
      | 1 => tgt < 4096 && groupKind s tgt 0
      | _ => false) || 4094 < fieldAt d 14 2 || !zeroBytes d 1 4 || !zeroBytes d 16 144
  | 4 =>
    !(match a with
      | 0 => portTarget s tgt
      | 1 => tgt < 4096 && groupKind s tgt 0
      | 2 => tgt == 0
      | _ => false) || !zeroBytes d 1 4 || !zeroBytes d 8 144
  | 5 =>
    !(match a with
      | 0 => portTarget s tgt
      | 1 => tgt < 4096 && groupKind s tgt 0
      | 2 => tgt < 65536
      | 3 => tgt == 0
      | _ => false) || 1 < fieldAt d 1 1 || !zeroBytes d 8 144
  | 6 => !((List.range 1024).all fun p => !bit (fieldAt d (p / 8) 1) (p % 8) || isPort s p) || !zeroBytes d 128 144
  | _ =>
    let n := fieldAt d 1 1
    let ms := (List.range n).map fun j => fieldAt d (4 + 2 * j) 2
    let un := fieldAt d 2 2
    1 < a || n < 1 || 64 < n || !zeroBytes d (4 + 2 * n) 144 || !(decide ms.Nodup) ||
      (if a == 0 then !(ms.all (portTarget s)) || !((List.range 16).all fun c => !bit un c || chanUnordOk s c)
       else un != 0)

/-! Completions (R184). -/

/-- The 208 bytes of a completion (Table 7.9). -/
def complBytes (d : List Byte) (code epoch arg count : Nat) (key data : List Byte) : List Byte :=
  le 1 code ++ le 1 (dTable d) ++ [0, 0] ++ le 4 (dTag d) ++ le 8 epoch ++ le 8 arg ++ le 8 count ++ fit 32 key ++ fit 144 data

/-- The current epoch. -/
def curEpoch (s : State) : Nat := (getReg s TBL_EPOCH).toNat

/-- A completion with its EPOCH on its path: `TBL_RES_Wn` and source 1, or the TABLE queue (R184, Table 17.5). -/
def tblCompleteAt (s : State) (E : Nat) (d : List Byte) (dma : Option Nat) (code arg count : Nat) (key data : List Byte) :
    State :=
  let b := complBytes d code E arg count key data
  let irq := bit (dFlags d) 4
  match dma with
  | none =>
    let s := forRange 26 s fun s n => setReg s (TBL_RES_W n) (BitVec.ofNat 64 (fieldAt b (8 * n) 8))
    let s := fset s TBL_CMD_STAT.BUSY 0
    if irq then ring s 1 else s
  | some i => dqTableDone s i b irq

/-- A completion of a command that ends as it executes: its EPOCH is the current one (R184). -/
def tblComplete (s : State) (d : List Byte) (dma : Option Nat) (code arg count : Nat) (key data : List Byte) : State :=
  tblCompleteAt s (curEpoch s) d dma code arg count key data

/-- A completion with no ARG, COUNT, KEY or DATA. -/
def tblCode (s : State) (d : List Byte) (dma : Option Nat) (code : Nat) : State := tblComplete s d dma code 0 0 [] []

/-- Completion codes (Table 7.10). -/
def tcOK : Nat := 0
def tcNOT_FOUND : Nat := 1
def tcEXISTS : Nat := 2
def tcFULL : Nat := 3
def tcEND : Nat := 4
def tcBAD_OP : Nat := 5
def tcBAD_KEY : Nat := 6
def tcBAD_ENTRY : Nat := 7
def tcSTATE : Nat := 8
def tcTIMEOUT : Nat := 9
def tcBUSY : Nat := 10

/-- A command submitted (R181): in BOOT and FAULTED it completes with STATE; one that fails with BAD_OP completes at once;
any other takes its place in the submission order. -/
def tblSubmit (s : State) (d : List Byte) (dma : Option Nat) : State :=
  if s.mode == mBOOT || s.mode == mFAULTED then tblCode s d dma tcSTATE
  else if badOp s d then tblCode s d dma tcBAD_OP
  else setTbl s fun t => { t with order := t.order ++ [.cmd d dma] }

/-- A submission of the register path: the descriptor of `TBL_CMD_Wn` (R181). -/
def tblGo (s : State) : State :=
  let d := (List.range 24).flatMap fun n => le 8 (getReg s (TBL_CMD_W n)).toNat
  tblSubmit (fset s TBL_CMD_STAT.BUSY 1) d none

/-! Changes to the copies (R187, R188, R191). -/

/-- The dies a transaction is applied to: all but one that is reset or waits for its copy (R191). -/
def copyDies (s : State) : List Nat := (List.range 4).filter fun d => dieUp s d

/-- The table's entry at an index of die d set or removed. -/
def putEntry (s : State) (d t i : Nat) (e : Option Entry) : State :=
  setTbl s fun x => { x with copies := tmod [] x.copies (8 * d + t) fun c =>
    match e with
    | some e => tput (tdel c i) i e
    | none => tdel c i }

/-- `TBL_USED_t` brought up to date. -/
def usedUpdate (s : State) (t : Nat) : State := fset s (TBL_USED.COUNT t) (tcopy s (refDie s) t).length

/-- A change of one entry on all dies. -/
def putAll (s : State) (t i : Nat) (e : Option Entry) : State :=
  usedUpdate (forEach (copyDies s) s fun s d => putEntry s d t i e) t

/-- The epoch advances by one (R188). -/
def epochStep (s : State) : State := bump s TBL_EPOCH

/-- Stamps of an L2 entry set on all four copies (R179). -/
def stampAll (s : State) (i v : Nat) : State :=
  setTbl s fun t => { t with stamps := (List.range 4).foldl (fun m d => tset 0 m (2 ^ 20 * d + i) v) t.stamps }

/-- The stamp returned for an entry: the newest of the copies' (Table 7.7). -/
def newestStamp (s : State) (i : Nat) : Nat :=
  let tick := fget s TBL_L2.TICK
  let age := fun d => (tick + 65536 - tget 0 s.tbl.stamps (2 ^ 20 * d + i)) % 65536
  let best := ((copyDies s).map age).foldl min 65535
  (tick + 65536 - best) % 65536

/-- DATA of an entry as a completion returns it: an L2 entry with its newest stamp. -/
def entryData (s : State) (t i : Nat) (e : Entry) : List Byte :=
  if t == 5 then patch e.data 2 (le 2 (if fieldAt e.data 1 1 == 1 then 0 else newestStamp s i)) else e.data

/-- Physical index for a new key: direct tables by the key, hash tables the first free index from a free value. -/
def placeKey (s : State) (t : Nat) (k : List Byte) : Nat × State :=
  if tblHash t then
    let (r, s) := draw s
    let n := tblPhysical t
    let c := tcopy s (refDie s) t
    let free := fun i => !c.any fun e => e.1 == i
    let start := r.toNat % n
    let i := ((List.range (c.length + 1)).map fun j => (start + j) % n).find? free
    (i.getD start, s)
  else (fieldAt k 0 (if t == 3 || t == 4 then 4 else 2), s)

/-- Bucket assignment of a link group written into some copies, or removed from them (R175). -/
def freshGroup (s : State) (dies : List Nat) (t i : Nat) (e : Option Entry) : State :=
  if t != 7 then s
  else forEach dies s fun s d => setTbl s fun x =>
    { x with buckets := tset [] x.buckets (4096 * d + i) (match e with | some e => freshBuckets e | none => []) }

/-- An entry written as one transaction. -/
def writeEntry (s : State) (t i : Nat) (e : Entry) : State :=
  epochStep (freshGroup (putAll s t i (some e)) (copyDies s) t i (some e))

/-- An entry removed as one transaction. -/
def removeEntry (s : State) (t i : Nat) : State :=
  let s := epochStep (freshGroup (putAll s t i none) (copyDies s) t i none)
  if t == 5 then stampAll s i 0 else s

/-! The head of the submission order. -/

/-- The head leaves the order. -/
def tblPop (s : State) : State := setTbl s fun t => { t with order := t.order.drop 1 }

/-- The command at the head with an OP, run to its completion; in BOOT and FAULTED it completes with STATE (R181). Nothing
happens where the head is something else. -/
def tblHead (s : State) (op : Nat) (f : State → List Byte → Option Nat → State) : State :=
  match s.tbl.order with
  | .cmd d dma :: _ =>
    if dOp d == op then
      let s := tblPop s
      if s.mode == mBOOT || s.mode == mFAULTED then tblCode s d dma tcSTATE else f s d dma
    else s
  | _ => s

/-- Unused KEY and DATA of FLUSH_PORT, DRAIN, MARK and NEXT must be zero (R182). -/
def unusedCheck (d : List Byte) : Option Nat :=
  if !zeroBytes (dKey d) 0 32 then some tcBAD_KEY else if !zeroBytes (dData d) 0 144 then some tcBAD_ENTRY else none

/-- SEARCH (Table 7.8). -/
def opSearch (s : State) (d : List Byte) (dma : Option Nat) : State :=
  let t := dTable d
  let longest := bit (dFlags d) 1
  if badKey t (dKey d) longest then tblCode s d dma tcBAD_KEY
  else if !zeroBytes (dData d) 0 144 then tblCode s d dma tcBAD_ENTRY
  else
    let hit :=
      if longest then
        lpmLookup s (refDie s) t (fieldAt (dKey d) 0 2) (unbe (bytesAt (dKey d) 4 (if t == 1 then 4 else 16)))
      else keyEntry s (refDie s) t (dKey d)
    match hit with
    | some (i, e) => tblComplete s d dma tcOK 0 0 e.key (entryData s t i e)
    | none => tblCode s d dma tcNOT_FOUND

/-- NEXT (Table 7.8). -/
def opNext (s : State) (d : List Byte) (dma : Option Nat) : State :=
  match unusedCheck d with
  | some c => tblCode s d dma c
  | none =>
    let t := dTable d
    match (tcopy s (refDie s) t).find? fun e => dArg d ≤ e.1 with
    | some (i, e) => tblComplete s d dma tcOK (i + 1) 0 e.key (entryData s t i e)
    | none => tblComplete s d dma tcEND (dArg d) 0 [] []

/-- INSERT (Table 7.8): BAD_KEY, then EXISTS, then BAD_ENTRY, then FULL. -/
def opInsert (s : State) (d : List Byte) (dma : Option Nat) : State :=
  let t := dTable d
  if badKey t (dKey d) false then tblCode s d dma tcBAD_KEY
  else
    let old := keyEntry s (refDie s) t (dKey d)
    if old.isSome && !bit (dFlags d) 0 then tblCode s d dma tcEXISTS
    else if badEntry s t (dData d) then tblCode s d dma tcBAD_ENTRY
    else
      let data := if t == 5 then patch (dData d) 2 [0, 0] else dData d
      match old with
      | some (i, _) =>
        let s := writeEntry s t i { key := dKey d, data := data }
        let s := if t == 5 then stampAll s i (if fieldAt data 1 1 == 1 then 0 else fget s TBL_L2.TICK) else s
        tblCode s d dma tcOK
      | none =>
        if tblCapacity t ≤ (tcopy s (refDie s) t).length then tblCode s d dma tcFULL
        else
          let (i, s) := placeKey s t (dKey d)
          let s := writeEntry s t i { key := dKey d, data := data }
          let s := if t == 5 then stampAll s i (if fieldAt data 1 1 == 1 then 0 else fget s TBL_L2.TICK) else s
          tblCode s d dma tcOK

/-- DELETE (Table 7.8). -/
def opDelete (s : State) (d : List Byte) (dma : Option Nat) : State :=
  let t := dTable d
  if badKey t (dKey d) false then tblCode s d dma tcBAD_KEY
  else if !zeroBytes (dData d) 0 144 then tblCode s d dma tcBAD_ENTRY
  else
    match keyEntry s (refDie s) t (dKey d) with
    | some (i, _) => tblCode (removeEntry s t i) d dma tcOK
    | none => tblCode s d dma tcNOT_FOUND

/-- Learned L2 entries whose target is a port (Table 7.8). -/
def learnedTo (s : State) (L : Nat) : List Nat :=
  ((tcopy s (refDie s) 5).filter fun e => eAction e.2 == 0 && eTarget e.2 == L && fieldAt e.2.data 1 1 == 0).map (·.1)

/-- FLUSH_PORT (R190, Table 7.8): one transaction. -/
def opFlush (s : State) (d : List Byte) (dma : Option Nat) : State :=
  match unusedCheck d with
  | some c => tblCode s d dma c
  | none =>
    let L := dArg d
    let gone := if bit (dFlags d) 2 then learnedTo s L else []
    let s := if gone.isEmpty then s
      else epochStep (forEach gone s fun s i => stampAll (putAll s 5 i none) i 0)
    let n := if bit (dFlags d) 3 then queuedFor s L else 0
    let s := if bit (dFlags d) 3 then discardPort s L else s
    tblComplete s d dma tcOK n gone.length [] []

/-- Every frame in the module with the number of its lookup's epoch: VOQs, stored multicast frames, cells in flight or
held, egress queues, transmission and internal outputs (R189). -/
def framesWithin (s : State) : List Frame :=
  let ents := fun (l : List QEnt) => l.filterMap fun e => match e with | .frame f => some f | .ref _ _ => none
  let cells := fun (t : Tab (List Cell)) => t.flatMap fun (_, l) => l.flatMap fun c => c.pieces.map (·.f)
  s.core.voqs.flatMap (fun (_, q) => ents q.ents) ++ s.core.mc.map (·.2.f) ++ cells s.core.flight ++ cells s.core.early ++
    s.core.egr.flatMap (·.2) ++ s.core.ioq.flatMap (·.2) ++ s.ports.filterMap (·.2.txBusy)

/-- Frames looked up under an epoch before E that remain, each counted once. -/
def framesBefore (s : State) (E : Nat) : Nat :=
  (((framesWithin s).filter fun f => f.epoch < E).map (·.id)).eraseDups.length

/-- DRAIN at the head (R189): E is the current epoch; its timeout runs from now. -/
def opDrain (s : State) (d : List Byte) (dma : Option Nat) : State :=
  match unusedCheck d with
  | some c => tblCode s d dma c
  | none =>
    if 8 ≤ s.tbl.drains.length then tblCode s d dma tcBUSY
    else if framesBefore s (curEpoch s) == 0 then tblCode s d dma tcOK
    else setTbl s fun t =>
      { t with drains := t.drains ++ [{ epoch := curEpoch s, deadline := s.now + dArg d * 1000000, desc := d, dma := dma }] }

/-- MARK (Table 7.8). -/
def opMark (s : State) (d : List Byte) (dma : Option Nat) : State :=
  match unusedCheck d with
  | some c => tblCode s d dma c
  | none => tblCode (fset s TBL_MARK.TAG (dArg d)) d dma tcOK

/-- The first outstanding DRAIN that a test names ends with a code; its completion gives E, the epoch current when the
DRAIN was executed (R184). -/
def endDrain (s : State) (p : Drain → Bool) (code : Nat) : State :=
  match s.tbl.drains.find? p with
  | none => s
  | some x =>
    let n := framesBefore s x.epoch
    let s := setTbl s fun t => { t with drains := t.drains.erase x }
    tblCompleteAt s x.epoch x.desc x.dma code (if code == tcTIMEOUT then n else 0) 0 [] []

/-! Raw operations (R186). -/

/-- The raw buffer. -/
def rawBuf (s : State) : List Byte := (List.range 24).flatMap fun n => le 8 (getReg s (TBL_RAW_W n)).toNat

/-- The buffer set. -/
def setRawBuf (s : State) (b : List Byte) : State :=
  forRange 24 s fun s n => setReg s (TBL_RAW_W n) (BitVec.ofNat 64 (fieldAt b (8 * n) 8))

/-- The raw operation at the head with an OP: BUSY clears and OP reads 0 when it ends. -/
def rawHead (s : State) (op : Nat) (f : State → Nat → Nat → Nat → State) : State :=
  match s.tbl.order with
  | .raw w :: _ =>
    if bits w.toNat 0 2 == op then
      let s := f (tblPop s) (bits w.toNat 52 4) (bits w.toNat 40 8) (bits w.toNat 8 24)
      fset (fset s TBL_RAW_CMD.BUSY 0) TBL_RAW_CMD.OP 0
    else s
  | _ => s

/-- READ: the entry of die DIE into the buffer. -/
def rawReadOp (s : State) (d t i : Nat) : State :=
  match entryAt s d t i with
  | some e =>
    let data := if t == 5 then patch e.data 2 (le 2 (tget 0 s.tbl.stamps (2 ^ 20 * d + i))) else e.data
    setRawBuf s ([1] ++ le 1 t ++ List.replicate 14 0 ++ fit 32 e.key ++ fit 144 data)
  | none => setRawBuf s []

/-- WRITE: the buffer into one die, or into all four as one transaction. -/
def rawWriteOp (s : State) (d t i : Nat) : State :=
  let b := rawBuf s
  let data := if t == 5 then patch (dData b) 2 [0, 0] else dData b
  let e : Option Entry := if fieldAt b 0 1 == 1 then some { key := dKey b, data := data } else none
  let stamp := fieldAt (dData b) 2 2
  let dies := if d == 15 then copyDies s else [d]
  let changed := dies.any fun k => entryAt s k t i != e
  let s := forEach dies s fun s k =>
    let s := putEntry s k t i e
    if t == 5 then setTbl s fun x => { x with stamps := tset 0 x.stamps (2 ^ 20 * k + i) (if e.isSome then stamp else 0) } else s
  let s := usedUpdate (freshGroup s dies t i e) t
  if d == 15 && changed then epochStep s else s

/-- COMPARE: do the four copies differ at the index? -/
def rawCompareOp (s : State) (_ t i : Nat) : State :=
  let diff := (List.range 4).any fun d => entryAt s d t i != entryAt s 0 t i
  fset s TBL_RAW_CMD.MISMATCH (b2n diff)

/-! Learning and aging (R178, R179). -/

/-- A learn within the rate of one million a second: the count of the running second, and whether there is room. -/
def learnRate (s : State) : State × Bool :=
  let s := if s.elapsed s.tbl.learnAt 1000000000 then
      setTbl s fun t => { t with learnAt := s.now / 1000000000 * 1000000000, learnCnt := 0 }
    else s
  if 1000000 ≤ s.tbl.learnCnt then (s, false) else (setTbl s fun t => { t with learnCnt := t.learnCnt + 1 }, true)

/-- A learn at the head of the order. -/
def doLearn (s : State) (vlan : Nat) (mac : BitVec 48) (grp : Bool) (target : Nat) : State :=
  let key := l2Key vlan mac.toNat
  let e : Entry := { key := key, data := fit 144 (le 4 (b2n grp) ++ le 4 target) }
  match findKey (tcopy s (refDie s) 5) key with
  | some (i, o) =>
    if fieldAt o.data 1 1 == 1 then s
    else if eAction o == b2n grp && eTarget o == target then stampAll s i (fget s TBL_L2.TICK)
    else
      let (s, ok) := learnRate s
      if ok then bump (stampAll (writeEntry s 5 i e) i (fget s TBL_L2.TICK)) TBL_L2_MOVE else bump s TBL_L2_LEARN_DROP
  | none =>
    let (s, ok) := learnRate s
    if !ok || tblCapacity 5 ≤ (tcopy s (refDie s) 5).length then bump s TBL_L2_LEARN_DROP
    else
      let (i, s) := placeKey s 5 key
      stampAll (writeEntry s 5 i e) i (fget s TBL_L2.TICK)

/-- Has learned entry i aged on all four copies (R179)? -/
def aged (s : State) (i : Nat) : Bool :=
  let lim := fget s TBL_L2.AGE_LIMIT
  let tick := fget s TBL_L2.TICK
  lim != 0 && (List.range 4).all fun d => lim < (tick + 65536 - tget 0 s.tbl.stamps (2 ^ 20 * d + i)) % 65536

/-- Learned entries of table 5, by physical index. -/
def learnedEntries (s : State) : List Nat :=
  ((tcopy s (refDie s) 5).filter fun e => fieldAt e.2.data 1 1 == 0).map (·.1)

/-- TICK advances, and the engine's visit puts the removal of every aged entry in the submission order. -/
def agingTick (s : State) : State :=
  if s.elapsed s.tbl.tickAt (fget s TBL_L2.AGE_UNIT * 1000000) then
    let s := setTbl s fun t => { t with tickAt := t.tickAt + fget s TBL_L2.AGE_UNIT * 1000000 }
    let s := fset s TBL_L2.TICK ((fget s TBL_L2.TICK + 1) % 65536)
    let due := (learnedEntries s).filter fun i => aged s i && !s.tbl.order.contains (.age i)
    setTbl s fun t => { t with order := t.order ++ due.map .age }
  else s

/-- An aging removal at the head, if the entry is still aged. -/
def doAge (s : State) (i : Nat) : State :=
  if (learnedEntries s).contains i && aged s i then removeEntry s 5 i else s

/-! The commands. -/

/-- SEARCH (R183). -/
def execSearch (s : State) : Host.Outcome State Fault Refusal := live s fun s => tblHead s 1 opSearch
/-- NEXT (R183). -/
def execNext (s : State) : Host.Outcome State Fault Refusal := live s fun s => tblHead s 2 opNext
/-- INSERT (R183). -/
def execInsert (s : State) : Host.Outcome State Fault Refusal := live s fun s => tblHead s 3 opInsert
/-- DELETE (R183). -/
def execDelete (s : State) : Host.Outcome State Fault Refusal := live s fun s => tblHead s 4 opDelete
/-- FLUSH_PORT (R190). -/
def execFlushPort (s : State) : Host.Outcome State Fault Refusal := live s fun s => tblHead s 5 opFlush
/-- DRAIN (R189). -/
def execDrain (s : State) : Host.Outcome State Fault Refusal := live s fun s => tblHead s 6 opDrain
/-- MARK (R183). -/
def execMark (s : State) : Host.Outcome State Fault Refusal := live s fun s => tblHead s 7 opMark

/-- DRAIN_COMPLETE (R189): a DRAIN whose condition holds. -/
def execDrainComplete (s : State) : Host.Outcome State Fault Refusal :=
  live s fun s => endDrain s (fun x => framesBefore s x.epoch == 0) tcOK

/-- DRAIN_TIMEOUT (R189): a DRAIN whose timeout has passed with frames remaining. -/
def execDrainTimeout (s : State) : Host.Outcome State Fault Refusal :=
  live s fun s => endDrain s (fun x => framesBefore s x.epoch != 0 && x.deadline ≤ s.now) tcTIMEOUT

/-- RAW_READ (R186). -/
def execRawRead (s : State) : Host.Outcome State Fault Refusal := live s fun s => rawHead s 1 rawReadOp
/-- RAW_WRITE (R186). -/
def execRawWrite (s : State) : Host.Outcome State Fault Refusal := live s fun s => rawHead s 2 rawWriteOp
/-- RAW_COMPARE (R186). -/
def execRawCompare (s : State) : Host.Outcome State Fault Refusal := live s fun s => rawHead s 3 rawCompareOp

/-- L2_LEARN (R178). -/
def execL2Learn (s : State) : Host.Outcome State Fault Refusal :=
  live s fun s =>
    match s.tbl.order with
    | .learn vlan mac grp target :: _ => doLearn (tblPop s) vlan mac grp target
    | _ => s

/-- AGING_TICK (R179). -/
def execAgingTick (s : State) : Host.Outcome State Fault Refusal := live s agingTick

/-- AGE_REMOVE (R179). -/
def execAgeRemove (s : State) : Host.Outcome State Fault Refusal :=
  live s fun s =>
    match s.tbl.order with
    | .age i :: _ => doAge (tblPop s) i
    | _ => s

/-- BUCKET_HANDOVER (R175). -/
def execBucketHandover (group : Fin 4096) (s : State) : Host.Outcome State Fault Refusal :=
  live s fun s => handOver s group.val

end Sys2Proof.Machine
end

