-- ==== Sys2Proof/Machine/Traffic.lean ====
section
/-! DEFINITION. Traffic management (R194 to R213): meters, the egress hierarchy, shapers, gate lists, and a port's choice
and sending of a frame. -/

namespace Sys2Proof.Machine

/-! Meters (R195 to R198). -/

def meter (s : State) (m : Nat) : Meter := tget {} s.tm.meters m
def setMeter (s : State) (m : Nat) (x : Meter) : State := setTm s fun t => { t with meters := tset {} t.meters m x }

/-- Burst sizes of a meter, bytes × 8,000. -/
def mtrCbs (x : Meter) : Nat := wget x.cfg1 TM_MTR_CFG1.CBS * 8000
def mtrPbs (x : Meter) : Nat := wget x.cfg1 TM_MTR_CFG1.PBS * 8000

/-- A meter's buckets filled up to now: rates are Mb/s, so a nanosecond adds RATE units of 1/8,000 byte. -/
def mtrAccrue (s : State) (x : Meter) : Meter :=
  let dt := s.now - x.stamp
  { x with tc := min (mtrCbs x) (x.tc + wget x.cfg0 TM_MTR_CFG0.CIR * dt),
           tp := min (mtrPbs x) (x.tp + wget x.cfg0 TM_MTR_CFG0.PIR * dt), stamp := s.now }

/-- RFC 2698 (R196): colour of a frame of B bytes, 0 green, 1 yellow, 2 red, and the meter after it. -/
def mtrColour (x : Meter) (B : Nat) (yellowIn : Bool) : Nat × Meter :=
  let b := B * 8000
  if x.tp < b then (2, { x with red := x.red + 1 })
  else if yellowIn || x.tc < b then (1, { x with tp := x.tp - b, yellow := x.yellow + 1 })
  else (0, { x with tp := x.tp - b, tc := x.tc - b, green := x.green + 1 })

/-- Stage 6 (R194, R197): the frame with its subscriber and any mark; none where the meter drops it. -/
def police (s : State) (f : Frame) : State × Option Frame :=
  if 1024 ≤ f.ingress then (s, some f)
  else
    let L := f.ingress
    let f := { f with sub := fget s (PRT_TMCLS.SUB L f.chan) }
    if !fbit s (PRT_TMCLS.MTR_EN L f.chan) then (s, some f)
    else
      let m := fget s (PRT_TMCLS.METER L f.chan)
      let x := mtrAccrue s (meter s m)
      let dei := f.eth && ethTagged f.body && bit (ethTci f.body) 12
      let (col, x) := mtrColour x (frameLen f) (wbit x.cfg1 TM_MTR_CFG1.AWARE && dei)
      let s := setMeter s m x
      let act := match col with
        | 0 => 0
        | 1 => wget x.cfg1 TM_MTR_CFG1.YEL_ACT
        | _ => wget x.cfg1 TM_MTR_CFG1.RED_ACT
      match act with
      | 2 => (ctxDrop (creditReturn (bump s (PRT_MTR_DROP L)) f) f, none)
      | 1 =>
        if f.eth then (s, some { f with dei := f.dei || ethTagged f.body })
        else if chanLossy s f.chan && bit (hFlags f.hdr) flECT then
          (if f.mark then s else ctxBump s (frameCtx s f) 14 1, some { f with mark := true })
        else (s, some f)
      | _ => (s, some f)

/-- Meters that context x holds (R198). -/
def metersOwned (s : State) (x : Nat) : Nat :=
  (s.tm.meters.filter fun e => wbit e.2.cfg1 TM_MTR_CFG1.OWNED && wget e.2.cfg1 TM_MTR_CFG1.OWNER == x).length

/-- WRITE of the selected meter (R198). -/
def mtrWrite (s : State) : State :=
  let m := fget s TM_MTR_SEL.INDEX
  let c0 := getReg s TM_MTR_CFG0
  let c1 := getReg s TM_MTR_CFG1
  let x := { meter s m with cfg0 := c0, cfg1 := c1 }
  setMeter s m { x with tc := mtrCbs x, tp := mtrPbs x, stamp := s.now }

/-- READ of the selected meter. -/
def mtrRead (s : State) : State :=
  let x := meter s (fget s TM_MTR_SEL.INDEX)
  let s := setReg (setReg s TM_MTR_CFG0 x.cfg0) TM_MTR_CFG1 x.cfg1
  setReg (setReg (setReg s TM_MTR_CNT_G x.green) TM_MTR_CNT_Y x.yellow) TM_MTR_CNT_R x.red

/-! Nodes (R199 to R207). -/

def nRate (x : Node) : Nat := wget x.data TM_NODE_DATA.RATE
def nBurst (x : Node) : Nat := wget x.data TM_NODE_DATA.BURST
def nStrict (x : Node) : Bool := wbit x.data TM_NODE_DATA.STRICT
def nWeight (x : Node) : Nat := wget x.data TM_NODE_DATA.WEIGHT

/-- A node's tokens now (R206). -/
def nodeAccrue (s : State) (x : Node) : Node :=
  if nRate x == 0 then { x with stamp := s.now }
  else { x with tok := min (nBurst x * 8000) (x.tok + nRate x * (s.now - x.stamp)), stamp := s.now }

/-- Does a node hold B tokens? A shaper that is off always does. -/
def nodeHolds (s : State) (k B : Nat) : Bool :=
  let x := nodeAccrue s (node s k)
  nRate x == 0 || B * 8000 ≤ x.tok

/-- B tokens taken from a node. -/
def nodeTake (s : State) (k B : Nat) : State :=
  let x := nodeAccrue s (node s k)
  if nRate x == 0 then s else setNode s k { x with tok := x.tok - B * 8000 }

/-- WRITE of the selected node (R204, R207). -/
def nodeWrite (s : State) : State :=
  let w := getReg s TM_NODE_DATA
  let level := fget s TM_NODE_SEL.LEVEL
  let k := nodeKey level (fget s TM_NODE_SEL.PORT) (fget s TM_NODE_SEL.CHAN) (fget s TM_NODE_SEL.SUB)
  let x := node s k
  let w := if level == 0 then putBits w 0 16 (bits x.data.toNat 0 16) else w
  let w := if level == 2 then putBits w 8 1 (b2n (nStrict x)) else w
  let tok := if fbit s TM_SHP.RESET_MODE then 0 else wget w TM_NODE_DATA.BURST * 8000
  setNode s k { x with data := w, tok := tok, stamp := s.now,
                       deficit := min x.deficit (wget w TM_NODE_DATA.WEIGHT * 1024) }

/-- READ of the selected node. -/
def nodeRead (s : State) : State :=
  let k := nodeKey (fget s TM_NODE_SEL.LEVEL) (fget s TM_NODE_SEL.PORT) (fget s TM_NODE_SEL.CHAN) (fget s TM_NODE_SEL.SUB)
  let x := nodeAccrue s (node s k)
  setReg (setReg s TM_NODE_DATA x.data) TM_NODE_TOK (BitVec.ofNat 64 (x.tok / 8000))

/-- Weight of channel c in the staged set. -/
def wsetWeight (s : State) (c : Nat) : Nat :=
  bits (getReg s (if c < 8 then TM_WSET_W0 else TM_WSET_W1)).toNat (8 * (c % 8)) 8

/-- The set taken at GO applied to one port (R205); tokens stay (R207). -/
def wsetPort (s : State) (L : Nat) : State :=
  forRange 16 s fun s c =>
    let k := nodeKey 1 L c 0
    let x := node s k
    let w := s.tm.wWeights.getD c 0
    let data := putBits x.data 0 9 (w + 256 * b2n (bit s.tm.wMask c))
    setNode s k { x with data := data, deficit := min x.deficit (w * 1024) }

/-- GO of `TM_WSET_CMD`: the staged set is taken, and is being applied until WSET_DONE. -/
def wsetStart (s : State) (first last : Nat) : State :=
  fset (setTm s fun t =>
    { t with wset := true, wFirst := first, wLast := last, wWeights := (List.range 16).map (wsetWeight s)
             wMask := fget s TM_WSET_STRICT.MASK }) TM_WSET_STAT.BUSY 1

/-- Every port from FIRST to LAST has its set; absorbed lanes are skipped. -/
def wsetFinish (s : State) : State :=
  if s.tm.wset then
    let a := s.tm.wFirst
    let s := forRange (s.tm.wLast + 1 - a) s fun s i => if isPort s (a + i) then wsetPort s (a + i) else s
    fset (setTm s fun t => { t with wset := false }) TM_WSET_STAT.BUSY 0
  else s

/-! Gate lists (R208 to R212). -/

def gate (s : State) (L : Nat) : GateSt := tget {} s.tm.gates L
def setGate (s : State) (L : Nat) (f : GateSt → GateSt) : State := setTm s fun t => { t with gates := tmod {} t.gates L f }

/-- Cycle of entries 0 to n - 1 of a bank. -/
def gateCycle (s : State) (L b n : Nat) : Nat := (List.range n).foldl (fun a e => a + fget s (TM_GCL.DURATION L b e)) 0

/-- Base time in nanoseconds (R344). -/
def gateBase (s : State) (L : Nat) : Nat :=
  nearSec s (fget s (PRT_GATE_BASE.SEC L)) * 1000000000 + fget s (PRT_GATE_BASE.NS L)

/-- The switch time of a commit made now (R210). -/
def gateSwitchTime (s : State) (L b n : Nat) : Nat :=
  let base := gateBase s L
  let t0 := s.tbNs + 10000
  if n == 0 then max base t0
  else
    let cy := gateCycle s L b n
    if t0 ≤ base then base else base + ceilDiv (t0 - base) cy * cy

/-- COMMIT of the bank that is not operational (R209). -/
def gateCommit (s : State) (L n : Nat) : State :=
  let b := 1 - fget s (PRT_GATE_STAT.BANK L)
  let at' := gateSwitchTime s L b n
  fset (setGate s L fun g => { g with pend := true, pendLen := n, switchAt := at' })
    (PRT_GATE_STAT.PENDING L) 1

/-- CANCEL (R209). -/
def gateCancel (s : State) (L : Nat) : State :=
  fset (setGate s L fun g => { g with pend := false }) (PRT_GATE_STAT.PENDING L) 0

/-- The switch, once its time has come (R210). -/
def gateSwitch (s : State) (L : Nat) : State :=
  let g := gate s L
  if g.pend && g.switchAt ≤ s.tbNs then
    let s := setGate s L fun g => { g with pend := false, base := g.switchAt, entryAt := g.switchAt }
    let s := fset (fset s (PRT_GATE_STAT.PENDING L) 0) (PRT_GATE_STAT.BANK L) (1 - fget s (PRT_GATE_STAT.BANK L))
    fset (fset s (PRT_GATE_STAT.LEN L) g.pendLen) (PRT_GATE_STAT.ENTRY L) 0
  else s

/-- The next entry of the operational list, once the current one has run (R208). -/
def gateStep (s : State) (L : Nat) : State :=
  let n := fget s (PRT_GATE_STAT.LEN L)
  let e := fget s (PRT_GATE_STAT.ENTRY L)
  let d := fget s (TM_GCL.DURATION L (fget s (PRT_GATE_STAT.BANK L)) e)
  if n == 0 || s.tbNs < (gate s L).entryAt + d then s
  else fset (setGate s L fun g => { g with entryAt := g.entryAt + d }) (PRT_GATE_STAT.ENTRY L) ((e + 1) % n)

/-- Is channel c open in entry e of a bank? -/
def gateBit (s : State) (L b e c : Nat) : Bool := bit (fget s (TM_GCL.OPEN L b e)) c

/-- Does the gate of channel c stay open for `need` nanoseconds on the timeline in force (R211)? The timeline stands in
entry e of bank b with n entries (0: no list), `rem` nanoseconds before the entry ends and, where a switch is pending,
`sw` nanoseconds before it and the new LEN. -/
def gateFits (s : State) (L c : Nat) : Nat → Nat → Nat → Nat → Nat → Option (Nat × Nat) → Nat → Bool
  | 0, _, _, _, _, _, _ => true
  | fuel + 1, b, n, e, rem, sw, need =>
    if n != 0 && !gateBit s L b e c then false
    else
      match sw with
      | none =>
        if n == 0 || need ≤ rem then true
        else
          let e' := (e + 1) % n
          gateFits s L c fuel b n e' (fget s (TM_GCL.DURATION L b e')) none (need - rem)
      | some (t, n') =>
        if need ≤ t && (n == 0 || need ≤ rem) then true
        else if n == 0 || t ≤ rem then
          gateFits s L c fuel (1 - b) n' 0 (fget s (TM_GCL.DURATION L (1 - b) 0)) none (need - t)
        else
          let e' := (e + 1) % n
          gateFits s L c fuel b n e' (fget s (TM_GCL.DURATION L b e')) (some (t - rem, n')) (need - rem)

/-- Transmission time of B bytes on a port, in nanoseconds rounded up (R211). -/
def txTime (s : State) (L B : Nat) : Nat := ceilDiv (B * 8) (portGbps s L)

/-- Is channel c open long enough for a frame of B bytes? -/
def gateOk (s : State) (L c B : Nat) : Bool :=
  let g := gate s L
  let b := fget s (PRT_GATE_STAT.BANK L)
  let e := fget s (PRT_GATE_STAT.ENTRY L)
  let rem := g.entryAt + fget s (TM_GCL.DURATION L b e) - s.tbNs
  let sw := if g.pend then some (g.switchAt - s.tbNs, g.pendLen) else none
  gateFits s L c 256 b (fget s (PRT_GATE_STAT.LEN L)) e rem sw (txTime s L B)

/-- Is the gate of channel c open now? -/
def gateOpenNow (s : State) (L c : Nat) : Bool :=
  fget s (PRT_GATE_STAT.LEN L) == 0 || gateBit s L (fget s (PRT_GATE_STAT.BANK L)) (fget s (PRT_GATE_STAT.ENTRY L)) c

/-- Longest open interval of channel c in the operational cycle, consecutive open entries merged across its end; none
where the gate never closes (R212). -/
def gateLongest (s : State) (L c : Nat) : Option Nat :=
  let n := fget s (PRT_GATE_STAT.LEN L)
  let b := fget s (PRT_GATE_STAT.BANK L)
  if (List.range n).all fun e => gateBit s L b e c then none
  else
    some (((List.range (2 * n)).foldl (fun (a : Nat × Nat) i =>
      if gateBit s L b (i % n) c then
        let r := a.2 + fget s (TM_GCL.DURATION L b (i % n))
        (max a.1 r, r)
      else (a.1, 0)) (0, 0)).1)

/-! Credits and pauses (R117, R119, R134, R155). -/

/-- Units out on channel c: sent less returned. -/
def outUnits (p : PortSt) (c : Nat) : Nat := tget 0 p.sent c - tget 0 p.peerRet c

/-- May u units go out on channel c of network c div 8 (R117)? -/
def creditOk (p : PortSt) (c u : Nat) : Bool :=
  let n := c / 8
  let out := fun k => if k == c then outUnits p k + u else outUnits p k
  let D := fun k => tget 0 p.peerD k
  let S := tget 0 p.peerS n
  bit p.initRx.toNat n && out c ≤ D c + S && out c < 2 ^ 23 &&
    ((List.range 8).foldl (fun a k => a + (out (8 * n + k) - D (8 * n + k))) 0) ≤ S

/-- Can a frame of u units on channel c never fit the peer's allocation (R119)? -/
def creditNever (p : PortSt) (c u : Nat) : Bool :=
  bit p.initRx.toNat (c / 8) && tget 0 p.peerD c + tget 0 p.peerS (c / 8) < u

/-- Is priority p of the port paused by PFC (R134)? -/
def pfcPaused (s : State) (L p : Nat) : Bool := s.now < tget 0 (port s L).pfcUntil p

/-- Do credits and PFC let a frame go (R155)? -/
def linkReady (s : State) (L : Nat) (f : Frame) : Bool :=
  if f.eth then !pfcPaused s L (chanEthPrio s f.chan)
  else creditOk (port s L) f.chan (unitsOf (frameLen f))

/-- Is the frame held because a context that owns the port is UNPICKING (R129): its own frames, and on an Ethernet-mode
port every frame? -/
def unpickHeld (s : State) (L : Nat) (f : Frame) : Bool :=
  portUnpicking s L && (isEth s L || hCtx f.hdr == fget s (PRT_OWNER.CTX L))

/-! The choice of a frame (R155, R200 to R202, R213). -/

/-- Length of a frame as it leaves: a routed frame loses or gains its tag (R135, R170; log entry 255). -/
def outLen (f : Frame) : Nat :=
  match f.rw with
  | some r => (ipRewrite f.body r.dmac.toNat r.smac.toNat r.vlan r.pcp).length
  | none => frameLen f

/-- Head frames of a port: channel, subscriber and frame. -/
def headFrames (s : State) (L : Nat) : List (Nat × Nat × Frame) :=
  s.core.egr.filterMap fun (k, fs) =>
    match fs with
    | f :: _ => if k / 1024 == L then some (k / 64 % 16, k % 64, f) else none
    | [] => none

/-- Is a head frame eligible (R200)? In BASIC and WEAVING no shaper or gate holds it (R213). -/
def eligible (s : State) (L : Nat) (h : Nat × Nat × Frame) : Bool :=
  let (c, sub, f) := h
  let B := outLen f
  linkReady s L f && !unpickHeld s L f &&
    (s.asBasic || (gateOk s L c B && nodeHolds s (nodeKey 2 L c sub) B && nodeHolds s (nodeKey 1 L c 0) B &&
      nodeHolds s (nodeKey 0 L 0 0) B))

/-- Order of strict priority: reply channels before request channels, lower numbers first (R155). -/
def strictOrder : List Nat := [8, 9, 10, 11, 12, 13, 14, 15, 0, 1, 2, 3, 4, 5, 6, 7]

/-- A round's place and deficits while it is tried out: member visited, whether its quantum has been given, deficits. -/
structure Round where
  visit : Nat
  given : Bool
  deficit : Tab Nat
deriving DecidableEq, Repr

/-- Deficit round robin over n members with fuel (R201): length of a member's eligible frame (none: it has none),
whether it holds frames at all, and its weight. Answers the member that sends. -/
def dwrr (n : Nat) (len : Nat → Option Nat) (holds : Nat → Bool) (weight : Nat → Nat) : Nat → Round → Option (Nat × Round)
  | 0, _ => none
  | fuel + 1, r =>
    let v := r.visit % n
    let next := fun (d : Tab Nat) => dwrr n len holds weight fuel { visit := (v + 1) % n, given := false, deficit := d }
    match len v with
    | none => next (if holds v then r.deficit else tset 0 r.deficit v 0)
    | some B =>
      let d := if r.given then tget 0 r.deficit v else tget 0 r.deficit v + weight v * 1024
      if B ≤ d then some (v, { visit := v, given := true, deficit := tset 0 r.deficit v (d - B) })
      else next (tset 0 r.deficit v d)

/-- Deficits of a list of nodes as a table. -/
def deficits (s : State) (n : Nat) (key : Nat → Nat) : Tab Nat :=
  (List.range n).foldl (fun t i => tset 0 t i (node s (key i)).deficit) []

/-- A round's outcome stored. -/
def storeRound (s : State) (n : Nat) (key : Nat → Nat) (r : Round) : State :=
  forRange n s fun s i =>
    let x := node s (key i)
    let d := tget 0 r.deficit i
    if x.deficit == d then s else setNode s (key i) { x with deficit := d }

/-- The subscriber a service node would send from, with its round. -/
def chooseSub (s : State) (L c : Nat) (el : List (Nat × Nat × Frame)) (all : List (Nat × Nat × Frame)) :
    Option (Nat × Frame × Round) :=
  let mine := el.filter fun h => h.1 == c
  if mine.isEmpty then none
  else
    let len := fun i => (mine.find? fun h => h.2.1 == i).map fun h => outLen h.2.2
    let holds := fun i => all.any fun h => h.1 == c && h.2.1 == i
    let r : Round := { visit := tget 0 s.tm.subVisit (16 * L + c), given := tget false s.tm.visited (1024 + 16 * L + c),
                       deficit := deficits s 64 fun i => nodeKey 2 L c i }
    match dwrr 64 len holds (fun i => nWeight (node s (nodeKey 2 L c i))) 1024 r with
    | some (i, r) => (mine.find? fun h => h.2.1 == i).map fun h => (i, h.2.2, r)
    | none => none

/-- The subscriber's round stored once its frame goes. -/
def storeSub (s : State) (L c : Nat) (r : Round) : State :=
  let s := storeRound s 64 (fun i => nodeKey 2 L c i) r
  setTm s fun t => { t with subVisit := tset 0 t.subVisit (16 * L + c) r.visit,
                            visited := tset false t.visited (1024 + 16 * L + c) r.given }

/-- The port's choice under the hierarchy (R201). -/
def chooseHier (s : State) (L : Nat) (el all : List (Nat × Nat × Frame)) : Option (State × Nat × Nat × Frame) :=
  let sub := fun c => chooseSub s L c el all
  let strict := fun c => nStrict (node s (nodeKey 1 L c 0))
  match strictOrder.find? fun c => strict c && (sub c).isSome with
  | some c => (sub c).map fun (i, f, r) => (storeSub s L c r, c, i, f)
  | none =>
    let len := fun c => if strict c then none else (sub c).map fun x => outLen x.2.1
    if !(List.range 16).any (fun c => (len c).isSome) then none
    else
      let holds := fun c => all.any fun h => h.1 == c
      let r : Round := { visit := tget 0 s.tm.visit L, given := tget false s.tm.visited L,
                         deficit := deficits s 16 fun c => nodeKey 1 L c 0 }
      match dwrr 16 len holds (fun c => nWeight (node s (nodeKey 1 L c 0))) 256 r with
      | none => none
      | some (c, r) =>
        match sub c with
        | none => none
        | some (i, f, rs) =>
          let s := storeRound s 16 (fun c => nodeKey 1 L c 0) r
          let s := setTm s fun t => { t with visit := tset 0 t.visit L r.visit, visited := tset false t.visited L r.given }
          some (storeSub s L c rs, c, i, f)

/-- The port's choice in strict priority, BASIC and WEAVING; of one channel's subscriber queues the frame admitted first
(R155, log entry 24). -/
def chooseStrict (el : List (Nat × Nat × Frame)) : Option (Nat × Nat × Frame) :=
  match strictOrder.find? fun c => el.any fun h => h.1 == c with
  | none => none
  | some c =>
    (el.filter fun h => h.1 == c).foldl (fun (b : Option (Nat × Nat × Frame)) h =>
      match b with
      | some x => if h.2.2.id < x.2.2.id then some h else b
      | none => some h) none

/-! Sending (R145, R170, R197, R349, R350). -/

/-- Offset of the PTP message of an Ethernet frame, if it carries one (R348). -/
def ptpOffset (f : List Byte) : Option Nat :=
  let o := ethL3 f
  if ethType f == 0x88F7 then some o
  else if isV4 f && bytesAt f o 1 == [0x45] && bytesAt f (o + 9) 1 == [17] && unbe (bytesAt f (o + 6) 2) % 8192 == 0 &&
      unbe (bytesAt f (o + 22) 2) == 319 then some (o + 28)
  else if isV6 f && bytesAt f (o + 6) 1 == [17] && unbe (bytesAt f (o + 42) 2) == 319 then some (o + 48)
  else none

/-- Is the frame a PTP event frame (R348)? -/
def ptpEvent (f : List Byte) : Bool :=
  match ptpOffset f with
  | some p => fieldAt f (p + 1) 1 % 16 == 2 && fieldAt f p 1 % 16 ≤ 1 && p + 34 ≤ f.length - 4
  | none => false

/-- A UDP checksum updated for bytes that change at an even offset, word by word; 0 is sent as all ones (log entry 25). -/
def udpFix (hc : Nat) : List Byte → List Byte → Nat
  | a :: b :: t, a' :: b' :: t' => udpFix (ocUpdate hc (a.toNat * 256 + b.toNat) (a'.toNat * 256 + b'.toNat)) t t'
  | _, _ => if hc = 0 then 65535 else hc

/-- The residence time added to correctionField, and the UDP checksum kept valid (R349, R350). -/
def ptpCorrect (f : List Byte) (res : Int) : List Byte :=
  match ptpOffset f with
  | none => f
  | some p =>
    let old := bytesAt f (p + 8) 8
    let v := sext 64 (unbe old) + res
    let v := if (0x7FFFFFFFFFFFFFFF : Int) < v then 0x7FFFFFFFFFFFFFFF else v
    let new := be 8 (ofInt 64 v)
    let g := patch f (p + 8) new
    if ethType f == 0x88F7 then g
    else
      let c := p - 2
      let hc := unbe (bytesAt f c 2)
      if isV4 f && hc == 0 then g else patch g c (be 2 (udpFix hc old new))

/-- The Ethernet frame as it leaves: rewrite, marks, residence time, FCS. -/
def ethOut (s : State) (f : Frame) : List Byte :=
  let b := match f.rw with
    | some r => ipRewrite f.body r.dmac.toNat r.smac.toNat r.vlan r.pcp
    | none => f.body
  let b := if f.dei && ethTagged b then patch b 14 (be 1 (unbe (bytesAt b 14 1) / 32 * 32 + 16 + unbe (bytesAt b 14 1) % 16)) else b
  let b := if f.mark then ipMarkCe b else b
  ethSeal (if f.ptp then ptpCorrect b ((s.tb / 2 ^ 16 : Nat) - (f.rxTs : Int)) else b)

/-- The header as it leaves: CE set and checks recomputed on a marked frame (R145). -/
def hdrOut (f : Frame) : BitVec 256 := if f.mark then sealHdr (f.hdr ||| (1 <<< (64 + 16 + flCE))) f.body else f.hdr

/-- The control block that a run of data blocks needs before a frame's: at least one in every 1,024 blocks is one (R110). -/
def idleDue (s : State) (L : Nat) (f : Frame) : Bool := !f.eth && 1023 < (port s L).dataRun + ceilDiv (frameLen f) 32

/-- A frame starts on a port: it leaves its queue, takes its credits, and goes out, after an IDLE block where one is due. -/
def startFrame (s : State) (L c sub : Nat) (f : Frame) : State :=
  let s := emptied (setCore s fun k => { k with egr := tmod [] k.egr (egrKey L c sub) (·.drop 1) }) L c sub
  let due := idleDue s L f
  let s := if due then emit s (.block L (mkBlk 0x1E [])) else s
  let s := setPort s L fun p =>
    { p with txBusy := some f, txEnd := s.now + txTime s L (outLen f),
             sent := if f.eth then p.sent else tmod 0 p.sent c (· + unitsOf (frameLen f))
             dataRun := if f.eth then p.dataRun else (if due then 0 else p.dataRun) + ceilDiv (frameLen f) 32 }
  let s := if f.eth && f.ptp then bump s (PRT_PTP_CORR L) else s
  if f.eth then emit s (.eth L (ethOut s f)) else emit s (.frame L (hdrOut f) f.body)

/-- Head frames that can never be sent are dropped: too long for the peer's allocation (R119), or for every open interval
of their gate (R212). -/
def dropUnsendable (s : State) (L : Nat) : Nat → State
  | 0 => s
  | fuel + 1 =>
    let bad := (headFrames s L).find? fun (c, _, f) =>
      (!f.eth && creditNever (port s L) c (unitsOf (frameLen f))) ||
      (!s.asBasic && match gateLongest s L c with
        | some t => t * portGbps s L < outLen f * 8
        | none => false)
    match bad with
    | none => s
    | some (c, sub, f) =>
      let never := !f.eth && creditNever (port s L) c (unitsOf (frameLen f))
      let s := emptied (setCore s fun k => { k with egr := tmod [] k.egr (egrKey L c sub) (·.drop 1) }) L c sub
      let s := lostAt (bump (egrRelease s L c f) (if never then PRT_EGR_DROP L else PRT_GATE_DROP L)) f
      dropUnsendable s L fuel

/-- Is the port free to start a frame: none in transmission, no swap's fill (R128), and its OE bundle not retuning (R380)? -/
def txFree (s : State) (L : Nat) : Bool :=
  (port s L).txBusy.isNone && (port s L).fillEnd ≤ s.now && !retuning s (16 + L / 64)

/-- FRAME_TX_START (R155, R200): a port that is UP or QUARANTINE, idle, in a module that forwards. -/
def frameTxStart (s : State) (L : Nat) : State :=
  let st := portState s L
  if !isPort s L || (st != pUP && st != pQUARANTINE) || !(s.asBasic || s.asWoven) || !txFree s L then s
  else
    let s := dropUnsendable s L ((s.core.egr.foldl (fun n e => n + e.2.length) 0) + 1)
    let all := headFrames s L
    let el := all.filter (eligible s L)
    if s.asBasic then
      match chooseStrict el with
      | some (c, sub, f) => startFrame s L c sub f
      | none => s
    else
      match chooseHier s L el all with
      | some (s, c, sub, f) =>
        let B := outLen f
        startFrame (nodeTake (nodeTake (nodeTake s (nodeKey 2 L c sub) B) (nodeKey 1 L c 0) B) (nodeKey 0 L 0 0) B) L c sub f
      | none => s

/-- FRAME_TX_END: the frame has left, with the bytes it left with; its cells and descriptor are free and it is counted (R153, R442, R445). -/
def frameTxEnd (s : State) (L : Nat) : State :=
  match (port s L).txBusy with
  | none => s
  | some f =>
    if s.now < (port s L).txEnd then s
    else
      let B := outLen f
      let s := egrRelease (setPort s L fun p => { p with txBusy := none }) L f.chan f
      let s := bumpBy (bump s (PRT_TX_FRAMES L)) (PRT_TX_BYTES L) B
      let s := bumpBy (bump s (PRT_CHF_TX L f.chan)) (PRT_CHB_TX L f.chan) B
      ctxBump (ctxBump s (frameCtx s f) 2 1) (frameCtx s f) 3 B

/-! Resets (R203). -/

/-- Traffic settings of a port at their power-up values after a change of its width. -/
def tmPortReset (s : State) (L : Nat) : State :=
  let s := setTm s fun t => { t with
    nodes := t.nodes.filter fun e =>
      !((65536 ≤ e.1 && e.1 < 1048576 && (e.1 - 65536) / 16 == L) || (1048576 ≤ e.1 && (e.1 - 1048576) / 1024 == L))
    gates := tset {} t.gates L {} }
  let s := forRange 16 s fun s c => resetReg s (PRT_TMCLS L c)
  let s := resetReg s (PRT_GATE_STAT L)
  forRange 2 s fun s b => forRange 64 s fun s e => resetReg s (TM_GCL L b e)

/-! Writes of traffic-management registers. -/

/-- Port, bank and entry of an offset in TM_GCL. -/
def inGcl (off : Nat) : Bool := 0x1D00000 ≤ off && off < 0x1E00000
def gclPort (off : Nat) : Nat := (off - 0x1D00000) / 1024
def gclBank (off : Nat) : Nat := (off - 0x1D00000) % 1024 / 512

/-- Values out of range, and rules that relate fields (R195, R198, R205, R208, R209). -/
def tmRange (s : State) (off : Nat) (w : Word) : Bool :=
  if inPortPage off then
    let L := pageOf off
    let o := off % 0x1000
    if 0x300 ≤ o && o < 0x380 then wbit w (PRT_TMCLS.MTR_EN 0 0) && wget w (PRT_TMCLS.METER 0 0) / 4096 != swOf L
    else if o == 0x388 then 1000000000 ≤ wget w (PRT_GATE_BASE.NS 0)
    else if o == 0x390 then
      let n := wget w (PRT_GATE_CMD.LEN 0)
      let co := wbit w (PRT_GATE_CMD.COMMIT 0)
      let cy := gateCycle s L (1 - fget s (PRT_GATE_STAT.BANK L)) n
      64 < n || (co && wbit w (PRT_GATE_CMD.CANCEL 0)) || (co && 1 ≤ n && (cy < 1000 || 1000000000 < cy)) ||
        (co && s.tbNs + 10000000000 < gateBase s L)
    else false
  else if inGcl off then
    let d := bits w.toNat 0 32
    !bit w.toNat 32 || !bit w.toNat 40 || d < 32 || 1000000000 < d
  else if off == TM_NODE_SEL then wget w TM_NODE_SEL.LEVEL == 3 || !isPort s (wget w TM_NODE_SEL.PORT)
  else if off == TM_NODE_DATA then
    3200000 < wget w TM_NODE_DATA.RATE || (wget w TM_NODE_DATA.RATE != 0 && wget w TM_NODE_DATA.BURST < 9216) ||
      wget w TM_NODE_DATA.WEIGHT == 0
  else if off == TM_WSET_CMD then
    wget w TM_WSET_CMD.LAST < wget w TM_WSET_CMD.FIRST ||
      (List.range 16).any fun c => wsetWeight s c == 0 && !bit (fget s TM_WSET_STRICT.MASK) c
  else if off == TM_MTR_CFG0 then
    wget w TM_MTR_CFG0.PIR < 1 || 3200000 < wget w TM_MTR_CFG0.PIR || 3200000 < wget w TM_MTR_CFG0.CIR
  else if off == TM_MTR_CFG1 then
    wget w TM_MTR_CFG1.PBS < 9216 || wget w TM_MTR_CFG1.CBS < 9216 || wget w TM_MTR_CFG1.RED_ACT == 3 ||
      wget w TM_MTR_CFG1.YEL_ACT == 3
  else if off == TM_MTR_CMD then
    wbit w TM_MTR_CMD.WRITE && (fget s TM_MTR_CFG0.PIR < fget s TM_MTR_CFG0.CIR || fget s TM_MTR_CFG1.CBS < 9216 ||
      fget s TM_MTR_CFG1.PBS < 9216)
  else false

/-- Busy and pending conditions (R198, R205, R209). -/
def tmState (s : State) (off : Nat) (w : Word) : Bool :=
  if inPortPage off && off % 0x1000 == 0x390 then wbit w (PRT_GATE_CMD.COMMIT 0) && fbit s (PRT_GATE_STAT.PENDING (pageOf off))
  else if inGcl off then
    gclBank off == fget s (PRT_GATE_STAT.BANK (gclPort off)) || fbit s (PRT_GATE_STAT.PENDING (gclPort off))
  else if off == TM_NODE_CMD then wbit w TM_NODE_CMD.WRITE && s.tm.wset
  else if off == TM_WSET_CMD then s.tm.wset
  else if off == TM_MTR_CMD then
    let x := fget s TM_MTR_CFG1.OWNER
    wbit w TM_MTR_CMD.WRITE && fbit s TM_MTR_CFG1.OWNED &&
      (tget {} s.sec.share x).meters ≤ metersOwned s x
  else false

/-- What an accepted write sets off. -/
def tmEffect (s : State) (off : Nat) (w : Word) : State :=
  if inPortPage off && off % 0x1000 == 0x390 then
    let L := pageOf off
    if wbit w (PRT_GATE_CMD.COMMIT 0) then gateCommit s L (wget w (PRT_GATE_CMD.LEN 0))
    else if wbit w (PRT_GATE_CMD.CANCEL 0) then gateCancel s L
    else s
  else if off == TM_NODE_CMD then
    let s := if wbit w TM_NODE_CMD.WRITE then nodeWrite s else s
    if wbit w TM_NODE_CMD.READ then nodeRead s else s
  else if off == TM_WSET_CMD then
    if wbit w TM_WSET_CMD.GO then wsetStart s (wget w TM_WSET_CMD.FIRST) (wget w TM_WSET_CMD.LAST) else s
  else if off == TM_MTR_CMD then
    let s := if wbit w TM_MTR_CMD.WRITE then mtrWrite s else s
    if wbit w TM_MTR_CMD.READ then mtrRead s else s
  else s

/-! The commands. -/

/-- FRAME_TX_START (R200). -/
def execFrameTxStart (port : Fin 1024) (s : State) : Host.Outcome State Fault Refusal :=
  liveClocked s fun s => frameTxStart s port.val

/-- FRAME_TX_END. -/
def execFrameTxEnd (port : Fin 1024) (s : State) : Host.Outcome State Fault Refusal :=
  liveClocked s fun s => frameTxEnd s port.val

/-- WSET_DONE (R205). -/
def execWsetDone (s : State) : Host.Outcome State Fault Refusal := live s wsetFinish

/-- GATE_SWITCH (R210). -/
def execGateSwitch (port : Fin 1024) (s : State) : Host.Outcome State Fault Refusal :=
  live s fun s => gateSwitch s port.val

/-- GATE_ENTRY_CHANGE (R208). -/
def execGateEntryChange (port : Fin 1024) (s : State) : Host.Outcome State Fault Refusal :=
  live s fun s => gateStep s port.val

end Sys2Proof.Machine
end

