-- ==== Sys2Proof/Machine/Origin.lean ====
section
/-! DEFINITION. Frames the VS1 originates (R167, R369, R497): payload protection (R410), own-unit dispatch (Table 7.2) and
NACKs (R115). -/

namespace Sys2Proof.Machine

/-! Payload protection (R408 to R410). -/

/-- Additional data of a protected frame: header bytes 0 to 23 with CE taken as 0. -/
def frameAad (h : BitVec 256) : List Byte :=
  let b := (hdrBytes h).take 24
  patch b 10 [BitVec.ofNat 8 (fieldAt b 10 1 - fieldAt b 10 1 / 4 % 2 * 4)]

/-- Nonce of a CONTRIB or RESULT. -/
def redNonce (h : BitVec 256) : BitVec 96 :=
  BitVec.ofNat 96 (hSrc h + hInc h * 2 ^ 20 + hType h * 2 ^ 28 + hGroup h * 2 ^ 36 + hCseq h * 2 ^ 52 + hChunk h * 2 ^ 76)

/-- The job key of context x at an index. -/
def jobKey (s : State) (x k : Nat) : Option JobKey := (s.sec.keys.find? fun e => e.1 == 256 * x + k).map (·.2)

/-- The plaintext of a protected frame under its context's key at KEYIDX; none where no key is installed or the tag does
not verify. SEAL, ABORT, RESULT_ACK and RESEND_REQ carry no tag. -/
def openFrame (s : State) (h : BitVec 256) (body : List Byte) : Option (List Byte) :=
  match jobKey s (hCtx h) (hKeyidx h) with
  | none => none
  | some k =>
    if hRed h then
      if hType h == tCONTRIB || hType h == tRESULT then gcmOpen k.key (redNonce h) (frameAad h) body else none
    else if body.length < 28 then none
    else gcmOpen k.key (BitVec.ofNat 96 (unle (body.take 12))) (frameAad h) (body.drop 12)

/-! Own units (Table 7.2). -/

/-- Entry of the reduction group table. -/
def group (s : State) (g : Nat) : GroupSt := tget {} s.pic.groups g

def gValid (g : GroupSt) : Bool := wbit g.w0 PIC_GRP_W0.VALID
def gDie (g : GroupSt) : Nat := wget g.w0 PIC_GRP_W0.DIE
def gCtx (g : GroupSt) : Nat := wget g.w0 PIC_GRP_W0.CTX
def gChan (g : GroupSt) : Nat := wget g.w0 PIC_GRP_W0.CHAN
def gMcg (g : GroupSt) : Nat := wget g.w0 PIC_GRP_W0.MCG

/-- Internal output of the die that holds offset o of context x: IOd for SWd, IO(4 + d) for CPd; the ingress die's IOd
where no placed byte has that offset (log entry 65). -/
def memOutput (s : State) (x o idie : Nat) : Nat :=
  match ctxLoc s x o with
  | some (d, _) => 1024 + d
  | none => 1024 + idie

/-- Session of a broadcast frame and its position (R386). -/
def bcSession (h : BitVec 256) : Nat := hOffset h / 2 ^ 40
def bcPosition (h : BitVec 256) : Nat := hOffset h % 2 ^ 40

/-- Region and inlet a DATA frame names (R294). -/
def dataRegion (h : BitVec 256) : Nat := bits (hOffset h) 42 6
def dataInlet (h : BitVec 256) : Nat := bits (hOffset h) 34 8

/-- The internal output of a frame addressed to the VS1's own chip; none for a NACK, which is consumed. -/
def ownOutput (s : State) (h : BitVec 256) (idie : Nat) : Option Nat :=
  let t := hType h
  if hRed h then
    let g := group s (hGroup h)
    some (1024 + if gValid g then gDie g else idie)
  else if t == tPUT || t == tGET || t == tGET_RESP then some (memOutput s (hCtx h) (hOffset h) idie)
  else if t == tBCAST_DATA || t == tBCAST_PROGRESS then
    match tget {} s.flt.bcs (bcSession h) with
    | b => some (memOutput s (wget b.w0 FLT_BC_W0.CTX) (wget b.w1 FLT_BC_W1.BASE + bcPosition h) idie)
  else if t == tNACK then none
  else some (1024 + 4 + dataRegion h / 16)

/-- A NACK addressed to the VS1 (R168): consumed by the ingress die, counted, its event limited for the whole module. -/
def nackRx (s : State) (f : Frame) : State :=
  let s := creditReturn (bump s TBL_NACK_RX) f
  let L := f.ingress
  eventLim s (winKey 0x03 1 0 0) 10000000 0x03 1 0 (swOf L) (hCtx f.hdr) L
    (bytesAt f.body 0 1 ++ bytesAt f.body 1 1 ++ bytesAt f.body 4 4)

/-! Frames the VS1 originates (R167, R369, R497). -/

/-- A frame of the VS1's own on its ingress die d, up to its decision: stages 3 and 4. Answers the frame with its decided output;
none where a stage dropped or consumed it. A NACK to the own chip is consumed; it came on no port, and no NACK_RX event is
recorded (DESIGN CHOICE, log entry 256). -/
def originTo (s : State) (d : Nat) (h : BitVec 256) (body : List Byte) (bob : Option Nat) : State × Option Frame :=
  let (n, s) := newId s
  let f : Frame := { id := n, hdr := sealHdr h body, body := body, idie := d, chan := hChan h, epoch := curEpoch s,
                     bob := bob }
  match originFence s f.hdr with
  | some off => (ctxDrop (bump s off) f, none)
  | none =>
    match lookFabric s d f with
    | (s, .port L _) => (s, some { f with dec := L })
    | (s, .group ms) => (s, some { f with dec := 2048, members := ms })
    | (s, .own) =>
      match ownOutput s f.hdr d with
      | some o => (s, some { f with dec := o })
      | none => (sendCrossed (bump s TBL_NACK_RX) f, none)
    | (s, _) => (ctxDrop (bump s TBL_ORIG_DROP) f, none)

/-- A frame the VS1 originates: stages 3, 4, 7 and 8 on its ingress die. -/
def originate (s : State) (d : Nat) (h : BitVec 256) (body : List Byte) : State :=
  match originTo s d h body none with
  | (s, some f) => egressState s f
  | (s, none) => s

/-- A NACK for a dropped frame that came on a request channel (R115); none while `TBL_SELF.VALID` = 0. A DENIED NACK is
counted for the frame's context (R445). -/
def sendNack (s : State) (d : Nat) (h : BitVec 256) (reason kind unit gen : Nat) : State :=
  if 8 ≤ hChan h || !fbit s TBL_SELF.VALID then s
  else
    let body := le 1 reason ++ le 1 kind ++ [0, 0] ++ le 4 unit ++ le 1 gen ++ List.replicate 7 0 ++ (hdrBytes h).take 24
    let nh := mkHdr (hSrc h) (fget s TBL_SELF.CHIP) (hChan h + 8) (hCtx h) (fget s SEC_SELF.INC) 0 tNACK 0 0 40 0 0
    originate (if reason == 4 then ctxBump s (hCtx h) 6 1 else s) d nh body

end Sys2Proof.Machine
end

