-- ==== Sys2Proof/Machine/Units.lean ====
section
/-! DEFINITION. The module's own units: their role generations (R69 to R71), regions and their owners (R51), and the drops
and NACKs a unit gives a frame. -/

namespace Sys2Proof.Machine

/-! Role generations. -/

/-- Key of a unit: region r, group 64 + g, context 65,600 + x. -/
def unitKey : GenUnit → Nat
  | .region r => r.val
  | .group g => 64 + g.val
  | .ctx x => 65600 + x.val

/-- Role generation of a region, a group, a context. -/
def regionGen (s : State) (r : Nat) : Nat := fget s (PRK_RGEN.GEN r)
def groupGen (s : State) (g : Nat) : Nat := (s.weave.groupBase + tget 0 s.weave.groupGen g).toNat
def ctxGen (s : State) (x : Nat) : Nat := fget s (CTX_STAT.GEN x)

/-- Role generation of the unit with a key. -/
def unitGen (s : State) (k : Nat) : Nat :=
  if k < 64 then regionGen s k else if k < 65600 then groupGen s (k - 64) else ctxGen s (k - 65600)

/-- The unit's role generation one on, modulo 256, now. -/
def genStep (s : State) (k : Nat) : State :=
  let s := setWeave s fun w => { w with genAt := tset 0 w.genAt k (s.now + 1) }
  if k < 64 then fset s (PRK_RGEN.GEN k) (regionGen s k + 1)
  else if k < 65600 then setWeave s fun w => { w with groupGen := tmod 0 w.groupGen (k - 64) (· + 1) }
  else fset s (CTX_STAT.GEN (k - 65600)) (ctxGen s (k - 65600) + 1)

/-- May the unit's role generation change now: 1 ms after its last change (R70)? A unit that waited at the last full weave did
not change with it. -/
def genReady (s : State) (k : Nat) : Bool :=
  let own := tget 0 s.weave.genAt k
  let last := if s.weave.lateAll.contains k then own else max own s.weave.allAt
  last == 0 || s.elapsed (last - 1) 1000000

/-- A change of a unit's role generation, now or when R70 lets it. -/
def genAdvance (s : State) (k : Nat) : State :=
  if genReady s k && tget 0 s.weave.genWait k == 0 then genStep s k
  else setWeave s fun w => { w with genWait := tmod 0 w.genWait k (· + 1) }

/-- Does a change of the unit wait? -/
def genWaits (s : State) (k : Nat) : Bool := tget 0 s.weave.genWait k != 0

/-- One more at each of the n keys from lo of a table. -/
def addToAll (lo n : Nat) (t : Tab Nat) : Tab Nat :=
  let mid := t.filter fun e => lo ≤ e.1 && e.1 < lo + n
  let r := (List.range n).foldl (fun (a : Tab Nat × Tab Nat) i =>
    match a.2 with
    | (k, v) :: rest => if k == lo + i then ((k, v + 1) :: a.1, rest) else ((lo + i, 1) :: a.1, a.2)
    | [] => ((lo + i, 1) :: a.1, [])) ([], mid)
  t.filter (fun e => e.1 < lo) ++ r.1.reverse ++ t.filter fun e => lo + n ≤ e.1

/-- Every unit's role generation one on, at a full weave (R61, R69). A unit that changed within the last 1 ms waits; every unit
does, where that change was a full weave's. -/
def genAll (s : State) : State :=
  if s.weave.allAt != 0 && !s.elapsed (s.weave.allAt - 1) 1000000 then
    setWeave s fun w => { w with genWait := addToAll 0 66624 w.genWait }
  else
    let waits := fun (k : Nat) => !(genReady s k && !genWaits s k)
    let late := (s.weave.genAt.map (·.1) ++ (s.weave.genWait.map (·.1)).filter fun k => tget 0 s.weave.genAt k == 0).filter waits
    let s' := forRange 64 s fun s r => if waits r then s else fset s (PRK_RGEN.GEN r) (regionGen s r + 1)
    let s' := forRange 1024 s' fun s x => if waits (65600 + x) then s else fset s (CTX_STAT.GEN x) (ctxGen s x + 1)
    setWeave s' fun w =>
      { w with groupBase := w.groupBase + 1,
               groupGen := (late.filter fun k => 64 ≤ k && k < 65600).foldl (fun t k => tmod 0 t (k - 64) (· - 1)) w.groupGen,
               genWait := late.foldl (fun t k => tmod 0 t k (· + 1)) w.genWait
               lateAll := late, allAt := s'.now + 1 }

/-! Regions. -/

/-- States of a region (Table 11.13). -/
def rIDLE : Nat := 0
def rWOVEN : Nat := 1
def rRUNNING : Nat := 2
def rUNPICKING : Nat := 3

/-- State of region r. -/
def regionState (s : State) (r : Nat) : Nat := fget s (BOB_RGN_STAT.STATE r)

/-- Owner of region r; 1,024 where no context owns it. -/
def regionOwner (s : State) (r : Nat) : Nat := if fbit s (PRK_RGEN.OWNED r) then fget s (PRK_RGEN.CONTEXT r) else 1024

/-- Is a region motif of region r being woven (R65)? -/
def regionWeaving (s : State) (r : Nat) : Bool := s.weave.op == 3 && s.weave.region == r

/-- May context x use the module's units: ALLOCATED or ACTIVE (Table 16.1)? -/
def ctxUsable (s : State) (x : Nat) : Bool := x < 1024 && (ctxState s x == 1 || ctxState s x == 2)

/-! What a unit does with a frame it does not take. -/

/-- A frame dropped by a unit: counted for its context (R445). -/
def unitDrop (s : State) (f : Frame) : State := ctxDrop s f

/-- CTX field of an event of a context; none where no context owns the unit. -/
def evCtx (x : Nat) : Nat := if x < 1024 then x else 0xFFFF

/-- The STALE_ROLE event of a unit, one per 10 ms (R71). -/
def staleEvent (s : State) (d owner kind unit gen src : Nat) : State :=
  eventLim s (winKey 0x02 2 unit kind) 10000000 0x02 2 1 d (evCtx owner) unit (le 1 kind ++ le 1 gen ++ le 4 src)

/-- R71 at a unit: the drop, its NACK, its counters and its event. `kind` and `unit` name the unit, `owner` its context. -/
def staleRole (s : State) (d : Nat) (f : Frame) (kind unit gen owner : Nat) : State :=
  let s := unitDrop (ctxBump s owner 5 1) f
  let s := if kind == 1 then bump s (PMC_STALE_RGN unit) else s
  sendNack (staleEvent s d owner kind unit gen (hSrc f.hdr)) d f.hdr 1 kind unit gen

/-- The event of a failed check of Table 10.4. -/
def picCheck (s : State) (d gn x row : Nat) : State :=
  eventLim s (winKey 0x09 1 gn row) 10000000 0x09 1 1 d x gn (le 1 row)

/-- Stage 5 of Table 6.1 for a frame decided for a unit of the VS1 (R71, R137): the state with the frame dropped for its role
generation; none where it passes. A reduction frame is judged where rows 1 and 2 of Table 10.4, which come first, hold; a frame
for a region being woven, by R65 at the bundle entry. The unit judges the frame again when it gets there. -/
def roleStage (s : State) (f : Frame) : Option State :=
  let h := f.hdr
  let t := hType h
  if hRed h then
    let gn := hGroup h
    let g := group s gn
    if gValid g && t != tRESULT && t != tSEAL && t != tABORT && hRgen h != groupGen s gn then
      some (picCheck (staleRole s f.idie f 2 gn (groupGen s gn) (gCtx g)) f.idie gn (gCtx g) 3)
    else none
  else if t == tPUT || t == tGET then
    let x := hCtx h
    if hRgen h != ctxGen s x then some (staleRole s f.idie f 3 x (ctxGen s x) x) else none
  else if t == tDATA then
    let r := dataRegion h
    if hRgen h != regionGen s r then some (staleRole s f.idie f 1 r (regionGen s r) (regionOwner s r)) else none
  else none

/-- A SEND frame at the switch die d where it enters (R300): stages 3, 4, 5 and 7, then a reference in the VOQ of its decided
output; one for a member of the other link mode or version is dropped as any frame is. -/
def originateSend (s : State) (d : Nat) (h : BitVec 256) (body : List Byte) (n : Nat) : State :=
  match originTo s d h body (some n) with
  | (s, none) => s
  | (s, some f) =>
    let take := fun (s : State) => mcStore (queueFrame s (voqFor f) f) (voqFor f) f
    match (if 1024 ≤ f.dec && f.dec < 2048 then roleStage s f else none) with
    | some s => s
    | none =>
      if f.dec < 1024 then
        let st := portState s f.dec
        let v := fget s (PRT_JLP.VER f.dec)
        if st != pUP && st != pQUARANTINE then ctxDrop (bump s (PRT_EGR_DROP f.dec)) f
        else if st == pQUARANTINE && f.chan % 8 != 0 then
          ctxDrop (setPort s f.dec fun p => { p with dropQuar := p.dropQuar + 1 }) f
        else if unpickShut s f.dec f.chan || isEth s f.dec then ctxDrop (bump s (PRT_EGR_DROP f.dec)) f
        else if hEnc f.hdr && v < 3 then ctxDrop (bump s TBL_ORIG_DROP) f
        else take s
      else if f.dec < 2048 && !(if f.dec < 1028 then dieUp s (f.dec - 1024) else (cpHome s (f.dec - 1028)).isSome) then
        ctxDrop (bump s FLT_DROP_DIE) f
      else take s

/-- Frames waiting at internal output IOx. -/
def ioFrames (s : State) (x : Nat) : List Frame := tget [] s.core.ioq x

/-- May a frame go on from internal output IOx: its engines' die works, or every bundle on the way to its CP die carries traffic and
is in no retune window (R374, R380, R382)? -/
def ioReady (s : State) (x : Nat) : Bool :=
  if x < 4 then dieUp s x
  else match cpHome s (x - 4) with
    | some j => dieSends s j (4 + j) && dieSends s (4 + j) x
    | none => false

/-- The oldest frame at IOx, taken if a test accepts its TYPE; otherwise nothing happens. -/
def takeIo (s : State) (x : Nat) (p : Nat → Bool) (f : State → Frame → State) : State :=
  match ioFrames s x with
  | [] => s
  | h :: t =>
    if p (hType h.hdr) && ioReady s x then f (setCore s fun c => { c with ioq := tset [] c.ioq x t }) h else s

end Sys2Proof.Machine
end

