-- ==== Sys2Proof/Machine/Bypass.lean ====
section
/-! DEFINITION. Optical bypass (chapter 9): the slot map and its commits, slots and matching, ranging, and the plane
inputs. -/

namespace Sys2Proof.Machine

/-! The slot map (R218, R219). -/

/-- Entry of lane L of a map. -/
def mapLane (m : Tab LaneMap) (L : Nat) : LaneMap := tget {} m L

/-- Nanoseconds of a slot (R221). -/
def slotNs (s : State) : Nat := max 1 s.sys.str.slotNs

/-- Start of slot n, ns of the timebase; none before an origin is set (R221). -/
def slotStart (s : State) (n : Nat) : Option Nat := s.byp.origin.map fun o => o + n * slotNs s

/-- The current slot, none before the origin (R221). -/
def curSlot (s : State) : Option Nat :=
  match s.byp.origin with
  | some o => if o ≤ s.tbNs then some ((s.tbNs - o) / slotNs s) else none
  | none => none

/-- Has the slot of a pending commit started? -/
def slotStarted (s : State) (n : Nat) : Bool :=
  match slotStart s n with
  | some t => t ≤ s.tbNs
  | none => false

/-- `BYP_LANE_L` brought to the operational map. -/
def showLane (s : State) (L : Nat) : State :=
  let e := mapLane s.byp.oper L
  fset (fset (fset s (BYP_LANE.MODE L) e.mode) (BYP_LANE.PARTNER L) e.partner) (BYP_LANE.OWNER L) e.owner

/-- A new operational map takes effect (R220, R231): request counts of lanes no longer SLOTTED go; a port that leaves
ELECTRONIC goes DOWN, which is no link failure; one that returns starts its bring-up. -/
def applyMap (s : State) (m : Tab LaneMap) : State :=
  let old := s.byp.oper
  let s := setByp s fun b => { b with oper := m, req := b.req.filter fun e => (mapLane m (e.1 / 128)).mode == 1 }
  let changed := (List.range 1024).filter fun L => mapLane old L != mapLane m L
  forEach changed s fun s L =>
    let s := showLane s L
    let was := (mapLane old L).mode == 0
    let now := (mapLane m L).mode == 0
    let P := portOf s L
    if was && !now && (port s P).under != pDOWN then setUnder s P pDOWN
    else if !was && now then retryAtTime s P s.now
    else s

/-- Every lane ELECTRONIC, and a pending commit CANCELLED (R218), which ends it: source 3 (Table 17.5). -/
def allElectronic (s : State) : State :=
  let s := if s.byp.pend.isSome then ring (fset (fset s BYP_STAT.CODE 0x0A) BYP_STAT.PENDING 0) 3 else s
  let s := setByp s fun b => { b with pend := none, path := [], granted := [] }
  applyMap s []

/-- Does a couched circuit exist (R59)? -/
def anyCircuit (s : State) : Bool := s.byp.oper.any fun e => e.2.mode == 2

/-- Does context x own a lane in the operational map or in a pending commit (R232)? -/
def ownsLane (s : State) (x : Nat) : Bool :=
  let own := fun (m : Tab LaneMap) => m.any fun e => e.2.mode != 0 && e.2.owner == x
  own s.byp.oper || (s.byp.pend.isSome && own s.byp.shadow)

/-! Checks of Table 9.2. A failing check answers its code, the lowest lane and the context it names. -/

/-- The lanes of a map that are not ELECTRONIC, rising. -/
def busyLanes (m : Tab LaneMap) : List Nat := (List.range 1024).filter fun L => (mapLane m L).mode != 0

/-- 0x05: the partner of a CIRCUIT lane. -/
def partnerBad (m : Tab LaneMap) (L : Nat) : Bool :=
  let e := mapLane m L
  let p := mapLane m e.partner
  e.mode == 2 && (e.partner % 8 != L % 8 || e.partner == L || p.mode != 2 || p.partner != L || p.owner != e.owner)

/-- 0x06: SLOTTED lanes of single-lane full-rate ports only; the lanes of a wider port share one mode and are joined lane
for lane to a port of the same width. -/
def widthBad (s : State) (m : Tab LaneMap) (L : Nat) : Bool :=
  let e := mapLane m L
  let P := portOf s L
  let k := lanesOf s P
  let M := (mapLane m P).partner
  (e.mode == 1 && (1 < k || halfRate s P)) || (mapLane m P).mode != e.mode ||
    (e.mode == 2 && 1 < k && (!isPort s M || widthOf s M != widthOf s P || e.partner != M + (L - P)))

/-- Anchor lane of a fibre: its lowest ELECTRONIC lane (R224). -/
def anchorOf (m : Tab LaneMap) (F : Nat) : Option Nat :=
  ((List.range 8).map (8 * F + ·)).find? fun L => (mapLane m L).mode == 0

/-- Is a lane a single-lane 400G fabric-mode port (R224)? -/
def anchorPort (s : State) (L : Nat) : Bool := widthOf s L == 1 && !isEth s L

/-- 0x07: a fibre with a SLOTTED lane and no anchor lane. -/
def noAnchor (s : State) (m : Tab LaneMap) (F : Nat) : Bool :=
  ((List.range 8).any fun W => (mapLane m (8 * F + W)).mode == 1) &&
    match anchorOf m F with
    | some L => !anchorPort s L
    | none => true

/-- 0x08: the contracted electronic lanes (R52); answers the fibre's lowest lane and the context. -/
def minLanesBad (s : State) (m : Tab LaneMap) : Option (Nat × Nat) :=
  (List.range 128).findSome? fun F =>
    let n := ((List.range 8).filter fun W => (mapLane m (8 * F + W)).mode == 0).length
    (s.sec.share.find? fun e => e.2.fibreMask.getLsbD F && n < e.2.minLanes).map fun e => (8 * F, e.1)

/-- 0x09: the owner of a lane that is not ELECTRONIC. -/
def ownerBad (s : State) (m : Tab LaneMap) : Option (Nat × Nat) :=
  ((busyLanes m).find? fun L => !ctxUsable s (mapLane m L).owner).map fun L => (L, (mapLane m L).owner)

/-- Checks 0x08 and 0x09, which the boundary repeats (R231): code, lane, context. -/
def lateCheck (s : State) (m : Tab LaneMap) : Nat × Nat × Nat :=
  match minLanesBad s m with
  | some (L, x) => (8, L, x)
  | none =>
    match ownerBad s m with
    | some (L, x) => (9, L, x)
    | none => (0, 0, 0)

/-- The checks of Table 9.2 in order on the shadow map for a commit at slot n. -/
def commitCheck (s : State) (n : Nat) : Nat × Nat × Nat :=
  let m := s.byp.shadow
  let lane := fun (p : Nat → Bool) => (List.range 1024).find? p
  if s.mode != mWOVEN then (1, 0, 0)
  else if s.byp.pend.isSome then (2, 0, 0)
  else
    let timeOk := match s.byp.origin, slotStart s n with
      | some o, some t => decide (o ≤ s.tbNs) && decide (s.tbNs + 100000 ≤ t) && decide (t ≤ s.tbNs + 10000000000)
      | _, _ => false
    if !timeOk then (3, 0, 0)
    else
      match lane (fun L => (mapLane m L).mode != 0 && !tget false s.sys.str.elig L) with
      | some L => (4, L, 0)
      | none =>
        match lane (partnerBad m) with
        | some L => (5, L, 0)
        | none =>
          match lane (widthBad s m) with
          | some L => (6, L, 0)
          | none =>
            match (List.range 128).find? (noAnchor s m) with
            | some F => (7, 8 * F, 0)
            | none => lateCheck s m

/-- `BYP_STAT` after a commit was judged. -/
def bypStat (s : State) (r : Nat × Nat × Nat) (late : Bool) : State :=
  fset (fset (fset (fset s BYP_STAT.CODE r.1) BYP_STAT.LATE (b2n late)) BYP_STAT.LANE r.2.1) BYP_STAT.CTX r.2.2

/-- COMMIT (R230). With a commit already pending, that commit stays (log entry 120). -/
def bypCommit (s : State) : State :=
  let n := (getReg s BYP_COMMIT_AT).toNat
  let r := commitCheck s n
  let s := bypStat s r false
  if r.1 == 0 then setByp (fset s BYP_STAT.PENDING 1) fun b => { b with pend := some n } else s

/-- CANCEL (R230) ends a pending commit: source 3 (Table 17.5). -/
def bypCancel (s : State) : State :=
  match s.byp.pend with
  | some n =>
    if slotStarted s n then s
    else setByp (ring (fset (bypStat s (0x0A, 0, 0) false) BYP_STAT.PENDING 0) 3) fun b => { b with pend := none }
  | none => s

/-- WRITE, READ and COPY of the map (R230, R237). -/
def bypMapWrite (s : State) : State :=
  let e : LaneMap := { mode := fget s BYP_MAP_DATA.MODE, partner := fget s BYP_MAP_DATA.PARTNER, owner := fget s BYP_MAP_DATA.OWNER }
  setByp s fun b => { b with shadow := tset {} b.shadow (fget s BYP_MAP_SEL.LANE) e }

def bypMapLoad (s : State) (m : Tab LaneMap) : State :=
  let e := mapLane m (fget s BYP_MAP_SEL.LANE)
  setReg s BYP_MAP_DATA (BitVec.ofNat 64 (e.mode + e.partner * 2 ^ 16 + e.owner * 2 ^ 32))

def bypMapCopy (s : State) : State := setByp s fun b => { b with shadow := b.oper }

/-! Slots (R222, R231). -/

/-- A pending commit whose slot has come (R231). -/
def commitDue (s : State) (n : Nat) : State :=
  match s.byp.pend with
  | none => s
  | some N =>
    if n < N then s
    else
      let r := lateCheck s s.byp.shadow
      let s := setByp (fset s BYP_STAT.PENDING 0) fun b => { b with pend := none }
      if r.1 != 0 then
        ring (event (bypStat s r true) 0x08 2 2 8 0xFFFF 0 (le 1 r.1 ++ [1] ++ le 8 N)) 3
      else ring (event (applyMap s s.byp.shadow) 0x08 2 0 8 0xFFFF 0 ([0, 0] ++ le 8 N)) 3

/-- SLOT_BOUNDARY (R222): the planes take the matching of the slot that has begun. -/
def slotBoundary (s : State) : State :=
  match curSlot s with
  | none => s
  | some n =>
    let s := commitDue s n
    setByp s fun b =>
      { b with path := (List.range 8).foldl (fun t W => tset [] t W (tget [] b.granted (8 * n + W))) []
               granted := b.granted.filter fun e => n ≤ e.1 / 8 }

/-! Matching (R227 to R229). -/

/-- The map in force at slot n (R228). -/
def mapAt (s : State) (n : Nat) : Tab LaneMap :=
  match s.byp.pend with
  | some N => if N ≤ n then s.byp.shadow else s.byp.oper
  | none => s.byp.oper

/-- Is the fibre ranged and not FAR? -/
def rangedNear (s : State) (F : Nat) : Bool := fbit s (BYP_FIBRE.RANGED F) && !fbit s (BYP_FIBRE.FAR F)

/-- The port of the fibre's anchor lane in the map now in force. Of a fibre with no SLOTTED lane that may be a wide or half-rate
port, whose blocks the slot control blocks are; an Ethernet-mode lane carries none (R108; log entry 258). -/
def anchor (s : State) (F : Nat) : Option Nat := ((anchorOf s.byp.oper F).map (portOf s)).filter fun L => !isEth s L

/-- Is the fibre's anchor lane UP? -/
def anchorUp (s : State) (F : Nat) : Bool := (anchor s F).any fun L => portUp s L

/-- May source lane and destination lane of plane W take part for slot n (R228)? -/
def sourceOk (s : State) (m : Tab LaneMap) (W F : Nat) : Bool :=
  (mapLane m (8 * F + W)).mode == 1 && rangedNear s F && anchorUp s F
def destOk (s : State) (m : Tab LaneMap) (W F : Nat) : Bool :=
  (mapLane m (8 * F + W)).mode == 1 && rangedNear s F && fibreSends s F

/-- Does source fibre F request destination fibre G on plane W? -/
def wants (s : State) (m : Tab LaneMap) (W F G : Nat) : Bool :=
  tget 0 s.byp.req (128 * (8 * F + W) + G) != 0 && sourceOk s m W F && destOk s m W G &&
    (mapLane m (8 * F + W)).owner == (mapLane m (8 * G + W)).owner

/-- One request–grant–accept round of plane W on the pairs matched so far (R148, R149). -/
def planeRound (m : Tab LaneMap) (W : Nat) (first : Bool) (a : State × List (Nat × Nat)) : State × List (Nat × Nat) :=
  let (s, done) := a
  let freeIn := fun F => !(done.any fun p => p.1 == F)
  let freeOut := fun G => !(done.any fun p => p.2 == G)
  let grants := (List.range 128).filterMap fun G =>
    if !freeOut G then none
    else
      let g := tget 0 s.byp.gPtr (8 * G + W)
      (((List.range 128).map fun i => (g + i) % 128).find? fun F => freeIn F && wants s m W F G).map fun F => (F, G)
  let accepts := (List.range 128).filterMap fun F =>
    let p := tget 0 s.byp.aPtr (8 * F + W)
    (((List.range 128).map fun i => (p + i) % 128).find? fun G => grants.contains (F, G)).map fun G => (F, G)
  let s := if first then
      setByp s fun b =>
        { b with gPtr := accepts.foldl (fun t p => tset 0 t (8 * p.2 + W) ((p.1 + 1) % 128)) b.gPtr
                 aPtr := accepts.foldl (fun t p => tset 0 t (8 * p.1 + W) ((p.2 + 1) % 128)) b.aPtr }
    else s
  (s, done ++ accepts)

/-- The block that tells a fibre of slot n: for each plane the other end of its path, 0xFF none (Table 9.3). -/
def slotBlock (s : State) (type n : Nat) (pick : Nat × Nat → Option Nat) : BitVec 256 :=
  mkBlk type ([0, 0, 0] ++ le 8 n ++ (List.range 8).flatMap fun W =>
    le 1 (((tget [] s.byp.granted (8 * n + W)).findSome? pick).getD 0xFF))

/-- SLOT_GRANT and SLOT_ARRIVE of slot n on the anchor lanes of the fibres it names. -/
def slotBlocks (s : State) (n : Nat) : State :=
  forRange 128 s fun s F =>
    match anchor s F with
    | none => s
    | some L =>
      let all := (List.range 8).flatMap fun W => tget [] s.byp.granted (8 * n + W)
      let s := if all.any fun p => p.1 == F then
          emit s (.block L (slotBlock s 0xA5 n fun p => if p.1 == F then some p.2 else none))
        else s
      if all.any fun p => p.2 == F then
        emit s (.block L (slotBlock s 0xA6 n fun p => if p.2 == F then some p.1 else none))
      else s

/-- The slot whose matching is due: the first that starts at least LEAD from now (R229). -/
def slotDue (s : State) : Option Nat :=
  match s.byp.origin with
  | some o => if o ≤ s.tbNs then some (ceilDiv (s.tbNs + fget s BYP_CTRL.LEAD_NS - o) (slotNs s)) else none
  | none => none

/-- BYPASS_MATCH (R228): once per slot and plane. The blocks of a slot go out when its last working plane is matched. -/
def bypassMatch (s : State) (W : Nat) : State :=
  match slotDue s with
  | none => s
  | some n =>
    if n < tget 0 s.byp.matched W || !dieUp s (W / 2) then s
    else
      let m := mapAt s n
      let a := planeRound m W true (s, [])
      let a := planeRound m W false a
      let (s, pairs) := planeRound m W false a
      let s := bumpBy s (BYP_GRANT W) pairs.length
      let s := setByp s fun b =>
        { b with matched := tset 0 b.matched W (n + 1), granted := tset [] b.granted (8 * n + W) pairs
                 req := pairs.foldl (fun t p => tmod 0 t (128 * (8 * p.1 + W) + p.2) (· - 1)) b.req }
      if (List.range 8).all fun V => n < tget 0 s.byp.matched V || !dieUp s (V / 2) then slotBlocks s n else s

/-- SLOT_REQ (R227) on the anchor lane of fibre F. -/
def slotReq (s : State) (F : Nat) (b : BitVec 256) : State :=
  match anchor s F with
  | none => s
  | some L =>
    rxBlock s L b [0xA4] fun s =>
      forRange 6 s fun s k =>
        let v := blkByte b (4 + 4 * k)
        if !bit v 7 then s
        else
          let W := v % 8
          let G := blkByte b (5 + 4 * k)
          let src := mapLane s.byp.oper (8 * F + W)
          let dst := mapLane s.byp.oper (8 * G + W)
          if src.mode != 1 || 128 ≤ G || dst.mode != 1 || src.owner != dst.owner then bump s BYP_REQ_IGN
          else setByp s fun y => { y with req := tset 0 y.req (128 * (8 * F + W) + G) (blkField b (6 + 4 * k) 2) }

/-! Ranging (R225, R226). -/

/-- Ranging state of a fibre. -/
def rng (s : State) (F : Nat) : RangeSt := tget {} s.byp.rng F
def setRng (s : State) (F : Nat) (f : RangeSt → RangeSt) : State := setByp s fun b => { b with rng := tmod {} b.rng F f }

/-- The duration clock in units of 1/16 ns. -/
def now16 (s : State) : Nat := s.mono / 2 ^ 28

/-- RANGING_START (R225): when the anchor lane has entered UP since the last ranging, and every second. -/
def rangingStart (s : State) (F : Nat) : State :=
  let r := rng s F
  match anchor s F with
  | none => s
  | some L =>
    if !portUp s L || !(r.startAt == 0 || r.startAt - 1 < (port s L).shownUp || s.elapsed (r.startAt - 1) 1000000000) then s
    else setRng s F fun r => { r with active := true, sentCnt := 0, pings := [], rtts := [], startAt := s.now + 1 }

/-- RANGE_PING_TX (R225): 64 pings 10 µs apart. -/
def rangePing (s : State) (F : Nat) : State :=
  let r := rng s F
  match anchor s F with
  | none => s
  | some L =>
    if !portUp s L || !r.active || 64 ≤ r.sentCnt || (r.sentCnt != 0 && !s.elapsed r.lastAt 10000) then s
    else
      let s' := setRng s F fun r =>
        { r with sentCnt := r.sentCnt + 1, lastAt := s.now, pings := tset 0 r.pings r.sentCnt (now16 s + 1) }
      emit s' (.block L (mkBlk 0xA0 (le 1 r.sentCnt)))

/-- RANGE_ECHO_RX (R225): the first echo of a ping of this ranging is valid. -/
def rangeEcho (s : State) (F : Nat) (b : BitVec 256) : State :=
  match anchor s F with
  | none => s
  | some L =>
    rxBlock s L b [0xA1] fun s =>
      let r := rng s F
      let q := blkByte b 1
      let t := tget 0 r.pings q
      let turn := blkField b 4 4
      if !r.active || t == 0 || now16 s < t - 1 + turn then s
      else setRng s F fun r => { r with pings := tset 0 r.pings q 0, rtts := (now16 s - (t - 1) - turn) :: r.rtts }

/-- FAR as R229 defines it, with one event when a fibre becomes FAR. -/
def farCheck (s : State) (F : Nat) : State :=
  let far := fbit s (BYP_FIBRE.RANGED F) && (fget s BYP_CTRL.LEAD_NS - 512) * 16 < fget s (BYP_FIBRE.RTT F)
  let was := fbit s (BYP_FIBRE.FAR F)
  let s := fset s (BYP_FIBRE.FAR F) (b2n far)
  if far && !was then event s 0x08 4 1 (F / 32) 0xFFFF F (le 4 (fget s (BYP_FIBRE.RTT F))) else s

/-- RANGING_DONE (R225): after the last ping. -/
def rangingDone (s : State) (F : Nat) : State :=
  let r := rng s F
  if !r.active || r.sentCnt < 64 then s
  else
    let n := r.rtts.length
    let s := setRng s F fun r => { r with active := false, pings := [], rtts := [], setAt := 0 }
    if n < 48 then event (fset s (BYP_FIBRE.RANGED F) 0) 0x08 3 1 (F / 32) 0xFFFF F (le 1 n)
    else farCheck (fset (fset s (BYP_FIBRE.RTT F) (r.rtts.sum / n)) (BYP_FIBRE.RANGED F) 1) F

/-- RANGE_SET_TX (R225): after each ranging, and every 100 µs. -/
def rangeSet (s : State) (F : Nat) : State :=
  let r := rng s F
  match anchor s F with
  | none => s
  | some L =>
    if !portUp s L || !fbit s (BYP_FIBRE.RANGED F) || (r.setAt != 0 && !s.elapsed r.setAt 100000) then s
    else
      let slotted := fun W => (mapLane s.byp.oper (8 * F + W)).mode == 1
      let vals := fun (f : Nat → Int) => (List.range 8).flatMap fun W => le 3 (if slotted W then ofInt 24 (f W) else 0xFFFFFF)
      let a := vals fun W => (fget s (BYP_FIBRE.RTT F) : Int) + Config.planeIn (8 * F + W) - 96
      let b := vals fun W => (96 : Int) + Config.planeOut (8 * F + W)
      let s := setRng s F fun r => { r with setAt := max s.now 1 }
      emit (emit s (.block L (mkBlk 0xA2 ([0, 0, 0] ++ a)))) (.block L (mkBlk 0xA7 ([0, 0, 0] ++ b)))

/-- SLOT_TICK_TX (R226): at least once a microsecond, naming the next slot; its times in 1/16 ns (R224). -/
def slotTick (s : State) (F : Nat) : State :=
  let r := rng s F
  match anchor s F, curSlot s with
  | some L, some n =>
    if !portUp s L || (r.tickAt != 0 && !s.elapsed r.tickAt 1000) then s
    else
      let x := ((slotStart s (n + 1)).getD 0 * 2 ^ 32 - s.tb) / 2 ^ 28
      let s := setRng s F fun r => { r with tickAt := max s.now 1 }
      emit s (.block L (mkBlk 0xA3 ([0, 0, 0] ++ le 8 (n + 1) ++ le 4 x ++ le 2 (16 * slotNs s))))
  | _, _ => s

/-! Plane inputs (R233). -/

/-- PLANE_INPUT_DARK. -/
def planeDark (s : State) (L : Nat) (pwr : BitVec 16) : State :=
  if !dieUp s (L / 256) then s
  else
    let s := fset s (BYP_LANE.PWR L) pwr.toNat
    if (mapLane s.byp.oper L).mode != 2 || fbit s (BYP_LANE.DARK L) then s
    else ring (event (fset s (BYP_LANE.DARK L) 1) 0x08 1 1 (L / 256) 0xFFFF L [1]) 3

/-- PLANE_INPUT_LIGHT. -/
def planeLight (s : State) (L : Nat) (pwr : BitVec 16) : State :=
  if !dieUp s (L / 256) then s
  else
    let s := fset s (BYP_LANE.PWR L) pwr.toNat
    if !fbit s (BYP_LANE.DARK L) then s
    else event (fset s (BYP_LANE.DARK L) 0) 0x08 1 1 (L / 256) 0xFFFF L [0]

/-! Register writes (R230, R237). -/

/-- Out of range: LEAD_NS, MODE 3, more than one command bit. -/
def bypRange (off : Nat) (w : Word) : Bool :=
  if off == BYP_CTRL then !(1024 ≤ wget w BYP_CTRL.LEAD_NS && wget w BYP_CTRL.LEAD_NS ≤ 32768)
  else if off == BYP_MAP_DATA then wget w BYP_MAP_DATA.MODE == 3
  else off == BYP_MAP_CMD && 1 < ((List.range 6).filter fun k => w.getLsbD k).length

/-- WRITE and COPY are refused while a commit is pending (R230). -/
def bypState (s : State) (off : Nat) (w : Word) : Bool :=
  off == BYP_MAP_CMD && (wbit w BYP_MAP_CMD.WRITE || wbit w BYP_MAP_CMD.COPY) && s.byp.pend.isSome

/-- What a write does. -/
def bypEffect (s : State) (off : Nat) (w : Word) : State :=
  if off == BYP_CTRL then forRange 128 s farCheck
  else if off != BYP_MAP_CMD then s
  else if wbit w BYP_MAP_CMD.WRITE then bypMapWrite s
  else if wbit w BYP_MAP_CMD.READ_SHADOW then bypMapLoad s s.byp.shadow
  else if wbit w BYP_MAP_CMD.READ_OPER then bypMapLoad s s.byp.oper
  else if wbit w BYP_MAP_CMD.COPY then bypMapCopy s
  else if wbit w BYP_MAP_CMD.COMMIT then bypCommit s
  else if wbit w BYP_MAP_CMD.CANCEL then bypCancel s
  else s

/-! The commands. -/

/-- BYPASS_MATCH (R228). -/
def execBypassMatch (plane : Fin 8) (s : State) : Host.Outcome State Fault Refusal := live s fun s => bypassMatch s plane.val
/-- RANGING_START (R225). -/
def execRangingStart (fibre : Fin 128) (s : State) : Host.Outcome State Fault Refusal := live s fun s => rangingStart s fibre.val
/-- RANGE_PING_TX (R225). -/
def execRangePingTx (fibre : Fin 128) (s : State) : Host.Outcome State Fault Refusal := liveClocked s fun s => rangePing s fibre.val
/-- RANGE_ECHO_RX (R225). -/
def execRangeEchoRx (fibre : Fin 128) (blk : BitVec 256) (s : State) : Host.Outcome State Fault Refusal :=
  liveClocked s fun s => rangeEcho s fibre.val blk
/-- RANGING_DONE (R225). -/
def execRangingDone (fibre : Fin 128) (s : State) : Host.Outcome State Fault Refusal := live s fun s => rangingDone s fibre.val
/-- RANGE_SET_TX (R225). -/
def execRangeSetTx (fibre : Fin 128) (s : State) : Host.Outcome State Fault Refusal := liveClocked s fun s => rangeSet s fibre.val
/-- SLOT_TICK_TX (R226). -/
def execSlotTickTx (fibre : Fin 128) (s : State) : Host.Outcome State Fault Refusal := liveClocked s fun s => slotTick s fibre.val
/-- SLOT_REQ_RX (R227). -/
def execSlotReqRx (fibre : Fin 128) (blk : BitVec 256) (s : State) : Host.Outcome State Fault Refusal :=
  liveClocked s fun s => slotReq s fibre.val blk
/-- PLANE_INPUT_DARK (R233). -/
def execPlaneInputDark (lane : Fin 1024) (pwr : BitVec 16) (s : State) : Host.Outcome State Fault Refusal :=
  live s fun s => planeDark s lane.val pwr
/-- PLANE_INPUT_LIGHT (R233). -/
def execPlaneInputLight (lane : Fin 1024) (pwr : BitVec 16) (s : State) : Host.Outcome State Fault Refusal :=
  live s fun s => planeLight s lane.val pwr

end Sys2Proof.Machine
end

