-- ==== Sys2Proof/Machine/Ingress.lean ====
section
/-! DEFINITION. Frames that arrive: receive checks (R116, R131, R132) and stages 2 to 8 of Table 6.1. -/

namespace Sys2Proof.Machine

/-! Stage 3 (R366, R369 to R372, R398). -/

/-- What stage 3 does with a received frame: the state, and whether the frame passed. -/
abbrev Stage := State × Bool

/-- A frame dropped before admission: counted, credits returned (R120), the context's drop counted. -/
def dropRx (s : State) (f : Frame) (off : Nat) : State := ctxDrop (creditReturn (bump s off) f) f

/-- A FENCED NACK, at most one per source chip and fenced chip in any 100 µs (R369, R370). -/
def fencedNack (s : State) (f : Frame) (chip : Nat) : State :=
  let key := hSrc f.hdr * 2 ^ 20 + chip
  let last := tget 0 s.flt.nackAt key
  if 8 ≤ f.chan || (last != 0 && !s.elapsed (last - 1) 100000) then s
  else sendNack (setFlt s fun t => { t with nackAt := tset 0 t.nackAt key (s.now + 1) }) f.idie f.hdr 3 0 chip 0

/-- Evidence that a fenced chip is alive (R372): the SUMMARY of a window says whether any of its frames was authenticated. -/
def evidence (s : State) (f : Frame) (c : Chip) : State :=
  let h := f.hdr
  if 128 ≤ (hInc h + 256 - c.inc.toNat) % 256 then s
  else
    let own := !hMcast h && fbit s TBL_SELF.VALID && hDst h == fget s TBL_SELF.CHIP
    let key := winKey 0x0D 6 (hSrc h) 0
    let win := (s.evr.windows.find? (·.1 == key)).map (·.2)
    let new : Bool := match win with
      | some w => decide (w.expiry ≤ s.now)
      | none => true
    let folded : Bool := match win with
      | some w => !new && 0 < w.folded && fieldAt w.lastRec.data 2 1 == 1
      | none => false
    let auth := (hEnc h && own && (openFrame s h f.body).isSome) || folded
    let s := eventLim (bump s FLT_EVIDENCE) key 10000000 0x0D 6 2 f.idie (hCtx h) (hSrc h) (le 2 f.ingress ++ le 1 (b2n auth))
    match new with
    | true => ring s 2
    | false => s

/-- Incarnation and chip fence checks of a received frame (R369). -/
def chipChecks (s : State) (f : Frame) : Stage :=
  let h := f.hdr
  let c := tget {} s.flt.chips (hSrc h)
  let d := (hInc h + 256 - c.inc.toNat) % 256
  if c.fenced then (fencedNack (evidence (dropRx s f FLT_DROP_FENCED) f c) f (hSrc h), false)
  else if !hMcast h && (tget {} s.flt.chips (hDst h)).fenced then (fencedNack (dropRx s f FLT_DROP_FENCED) f (hDst h), false)
  else if c.check && 128 ≤ d then (dropRx s f FLT_DROP_OLDINC, false)
  else if c.check && d != 0 then
    (eventLim (dropRx s f FLT_DROP_NEWINC) (winKey 0x0D 7 (hSrc h) 0) 10000000 0x0D 7 1 f.idie (hCtx h) (hSrc h)
      (le 1 (hInc h)), false)
  else (s, true)

/-- The owner's filter (R398): STRICT, and the ports of a context that is UNPICKING. -/
def ownerCheck (s : State) (f : Frame) : Stage :=
  let L := f.ingress
  let owner := fget s (PRT_OWNER.CTX L)
  if !fbit s (PRT_OWNER.OWNED L) then (s, true)
  else if fbit s (PRT_OWNER.STRICT L) && !f.eth && hCtx f.hdr != owner && !([0, 1, 8, 9].contains f.chan) then
    (sendNack (dropRx s f (PRT_DROP_CTX L)) f.idie f.hdr 4 3 owner (fget s (CTX_STAT.GEN owner)), false)
  else if unpickShut s L f.chan then (dropRx s f (PRT_DROP_CTX L), false)
  else (s, true)

/-- Stages 2 and 3. -/
def stages23 (s : State) (f : Frame) : Stage :=
  let L := f.ingress
  if portFenced s L then (dropRx s f (PRT_DROP_FENCE L), false)
  else if portState s L == pQUARANTINE && f.chan != 0 && f.chan != 8 then
    (ctxDrop (creditReturn (setPort s L fun p => { p with dropQuar := p.dropQuar + 1 }) f) f, false)
  else
    match (if f.eth then (s, true) else chipChecks s f) with
    | (s, true) => ownerCheck s f
    | (s, false) => (s, false)

/-! Stages 4 to 8. -/

/-- Stages 6 to 8 of a decided frame. -/
def stages678 (s : State) (f : Frame) : State :=
  match police s f with
  | (s, some f) => egressState s f
  | (s, none) => s

/-- What a lookup's decision does with a received frame (R166 to R170): a frame for a unit of the VS1 passes stage 5 (R71). -/
def decided (s : State) (f : Frame) : Look → State
  | .port L rw => stages678 s { f with dec := L, rw := rw }
  | .group ms => stages678 s { f with dec := 2048, members := ms }
  | .own =>
    match ownOutput s f.hdr f.idie with
    | some o =>
      match roleStage s f with
      | some s => creditReturn s f
      | none => stages678 s { f with dec := o }
    | none => nackRx s f
  | .miss => dropRx s f (PRT_LKUP_MISS f.ingress)
  | .dropped => dropRx s f (PRT_LKUP_DROP f.ingress)
  | .noUp => dropRx s f (PRT_LKUP_NOUP f.ingress)
  | .self => dropRx s f (PRT_LKUP_SELF f.ingress)
  | .ip => dropRx s f (PRT_IP_DROP f.ingress)

/-- Learning and stamp refresh of an Ethernet frame at lookup (R178, R179). -/
def ethLearn (s : State) (f : Frame) : State :=
  let L := f.ingress
  let b := f.body
  if s.asBasic || (ethTagged b && ethTci b % 4096 == 4095) then s
  else
    let v := ethVlan s L b
    l2Learn (l2Refresh s f.idie v (ethSmac b)) L v (ethSmac b)

/-- Stages 2 to 8 of a frame that passed its receive checks. In BOOT every frame is dropped as a lookup miss (R459); a
FAULTED module admits none (R378); a die that holds ingress drops lossy frames (R60, log entry 66). -/
def ingress (s : State) (f : Frame) : State :=
  if s.mode == mBOOT then dropRx s f (PRT_LKUP_MISS f.ingress)
  else if !(s.asBasic || s.asWoven) then ctxDrop (creditReturn s f) f
  else if ingressHeld s f.idie && chanLossy s f.chan then dropRx s f (PRT_DROP_ADM f.ingress)
  else
    match stages23 s f with
    | (s, false) => s
    | (s, true) =>
      if f.eth then
        let s := ethLearn s f
        let (s, r) := lookEth s f.idie f
        decided s f r
      else
        let (s, r) := lookFabric s f.idie f
        decided s f r

/-! Stage 1. -/

/-- Counters of a frame received (R444). -/
def countRx (s : State) (f : Frame) (mc : Bool) : State :=
  let L := f.ingress
  let B := frameLen f
  let s := bumpBy (bump s (PRT_RX_FRAMES L)) (PRT_RX_BYTES L) B
  let s := bumpBy (bump s (PRT_CHF_RX L f.chan)) (PRT_CHB_RX L f.chan) B
  if mc then bump s (PRT_RX_MCAST L) else s

/-- A receive check that fails: counted, one event per port and row in 10 ms (R116). -/
def rxFail (s : State) (L row off : Nat) : State :=
  eventLim (bump s off) (winKey 0x04 3 L row) 10000000 0x04 3 1 (swOf L) 0xFFFF L (le 1 row)

/-- Row 4 of Table 5.6: with u more units, does channel c exceed what the VS1 advertised (R117)? -/
def overCredit (p : PortSt) (c u : Nat) : Bool :=
  let out := fun k => if k == c then tget 0 p.held k + u else tget 0 p.held k
  let S := tget 0 p.advS (c / 8)
  tget 0 p.advD c + S < out c ||
    S < ((List.range 8).map (8 * (c / 8) + ·)).foldl (fun n k => n + (out k - tget 0 p.advD k)) 0

/-- Row 5 of Table 5.6. -/
def fieldBad (s : State) (L : Nat) (h : BitVec 256) : Bool :=
  let v := fget s (PRT_JLP.VER L)
  hdrReserved h || !typeKnown (hType h) || hRed h != typeRed (hType h) || hEnc h != (hKeyidx h != 0) ||
    (hMcast h && 65535 < hDst h) || (hUnord h && v < 2) || (hEnc h && v < 3)

/-- FRAME_RX (R116, R137): a header with its payload; the payload is the LEN bytes that follow it. -/
def frameRx (s : State) (L : Nat) (h : BitVec 256) (payload : List Byte) (bad full : Bool) : State :=
  if !isPort s L || isEth s L || !laneLive s L || fibreDark s (L / 8) || !linkWorks s L || (port s L).resync then s
  else if hf h 3 0 16 != hcrcOf h then
    rxFail (setPort s L fun p => { p with resync := true }) L 1 (PRT_RX_HDR L)
  else if 8192 < hLen h then
    rxFail (setPort s L fun p => { p with resync := true }) L 2 (PRT_RX_FIELD L)
  else
    let body := fit (hLen h) payload
    let u := unitsOf (32 + hLen h)
    let c := hChan h
    let (n, s) := newId s
    let f : Frame := { id := n, hdr := h, body := body, ingress := L, idie := swOf L, chan := c, rxTs := s.tb / 2 ^ 16,
                       epoch := curEpoch s, trainGen := (port s L).trainGen }
    let beyond := overCredit (port s L) c u
    let s := setPort s L fun p => { p with held := tmod 0 p.held c (· + u) }
    if full then creditReturn (bump s (PRT_RX_OVR L)) f
    else if bad || hf h 3 32 32 != frameCrc h body then creditReturn (rxFail s L 3 (PRT_RX_CRC L)) f
    else if beyond then creditReturn (rxFail s L 4 (PRT_RX_CREDIT L)) f
    else if fieldBad s L h then creditReturn (rxFail s L 5 (PRT_RX_FIELD L)) f
    else ingress (countRx s f (hMcast h)) f

/-- The capture record of a Sync (Table 14.1), as six words. -/
def capRecord (f : Frame) : List Word :=
  match ptpOffset f.body with
  | none => []
  | some p =>
    let b := f.body
    let ns := f.rxTs / 2 ^ 16
    let bytes := le 2 f.ingress ++ le 2 (unbe (bytesAt b (p + 30) 2)) ++ bytesAt b (p + 4) 1 ++
      le 1 (bits (fieldAt b (p + 6) 1) 1 1) ++ [0, 0] ++ le 8 (ns / 1000000000 % 2 ^ 48) ++ le 4 (ns % 1000000000) ++
      le 2 (f.rxTs % 2 ^ 16) ++ [0, 0] ++ le 8 (unbe (bytesAt b (p + 34) 6)) ++ le 4 (unbe (bytesAt b (p + 40) 4)) ++
      [0, 0, 0, 0] ++ le 8 (unbe (bytesAt b (p + 8) 8))
    (List.range 6).map fun k => BitVec.ofNat 64 (fieldAt bytes (8 * k) 8)

/-- `TB_CAP_STAT.COUNT` shows the FIFO (R351). -/
def capShow (s : State) : State := fset s TB_CAP_STAT.COUNT s.time.capFifo.length

/-- Capture of a Sync (R351). -/
def capture (s : State) (f : Frame) : State :=
  let L := f.ingress
  match ptpOffset f.body with
  | none => s
  | some p =>
    if f.ptp && fbit s (PRT_PTP.CAPTURE L) && fieldAt f.body p 1 % 16 == 0 &&
        fieldAt f.body (p + 4) 1 == fget s TB_CAP_CTRL.DOMAIN then
      if 256 ≤ s.time.capFifo.length then fset s TB_CAP_STAT.LOST (min (fget s TB_CAP_STAT.LOST + 1) (2 ^ 32 - 1))
      else capShow (setTime s fun t => { t with capFifo := t.capFifo ++ [capRecord f] })
    else s

/-- ETH_FRAME_RX (R131, R132, R137): a frame from destination MAC through FCS. One of a wrong size is counted in `PRT_ETH_SIZE`
alone, also where it is marked bad or its FCS fails: no rule orders the two (DESIGN CHOICE, log entry 257). -/
def ethFrameRx (s : State) (L : Nat) (b : List Byte) (bad full : Bool) : State :=
  if !isPort s L || !isEth s L || !laneLive s L || fibreDark s (L / 8) || !linkWorks s L then s
  else if full then bump s (PRT_RX_OVR L)
  else if b.length < 64 || 9216 < b.length then bump s (PRT_ETH_SIZE L)
  else if bad || !ethFcsOk b then bump s (PRT_RX_CRC L)
  else if ethType b == 0x8808 then
    let o := ethL3 b
    match unbe (bytesAt b o 2) with
    | 0x0101 =>
      pfcRx s L (BitVec.ofNat 8 (unbe (bytesAt b (o + 2) 2)))
        (BitVec.ofNat 128 ((List.range 8).foldl (fun a p => a + unbe (bytesAt b (o + 4 + 2 * p) 2) * 2 ^ (16 * p)) 0))
    | 0x0001 => bump s (PRT_PFC_RX L)
    | _ => bump s (PRT_RX_FIELD L)
  else
    match ethChan s (if ethTagged b then ethTci b / 8192 else fget s (PRT_ETH.DEF_PRIO L)) with
    | none => bump s (PRT_ETH_PRIO L)
    | some c =>
      let (n, s) := newId s
      let f : Frame := { id := n, eth := true, body := b, ingress := L, idie := swOf L, chan := c, rxTs := s.tb / 2 ^ 16,
                         ptp := fbit s (PRT_PTP.TC_EN L) && ptpEvent b, epoch := curEpoch s,
                         trainGen := (port s L).trainGen }
      let s := setPort s L fun p => { p with ethHeld := tmod 0 p.ethHeld c (· + unitsOf b.length) }
      pfcScan (ingress (capture (countRx s f (macGroup (ethDmac b))) f) f) L

/-! The commands. -/

/-- FRAME_RX (R137). -/
def execFrameRx (port : Fin 1024) (hdr : BitVec 256) (payload : List Byte) (bad full : Bool) (s : State) :
    Host.Outcome State Fault Refusal := liveClocked s fun s => frameRx s port.val hdr payload bad full

/-- ETH_FRAME_RX (R131). -/
def execEthFrameRx (port : Fin 1024) (frame : List Byte) (bad full : Bool) (s : State) :
    Host.Outcome State Fault Refusal := liveClocked s fun s => ethFrameRx s port.val frame bad full

end Sys2Proof.Machine
end

