-- ==== Sys2Proof/Machine/Numbers.lean ====
section
/-! DEFINITION. Number formats (Table 10.5), W48 (R246), rounding (R247, R248), exact arithmetic on binary numbers, the
functions of the vector unit (Table 11.4), and Philox-4×32-10. Where a result is a NaN, or a value the spec does not fix,
the bits come from a free value that the caller passes. -/

namespace Sys2Proof.Machine

/-- A number as an operation sees it: NaN, an infinity, or (−1)^neg × m × 2^e exactly. -/
inductive Num where
  | nan
  | inf (neg : Bool)
  | fin (neg : Bool) (m : Nat) (e : Int)
deriving DecidableEq, Repr

/-- Floor of log2 of m × 2^e, for m ≠ 0. -/
def topExp (m : Nat) (e : Int) : Int := e + (Nat.log2 m : Int)

/-- The signed integer that (neg, m) spells. -/
def signed (neg : Bool) (m : Nat) : Int := if neg then -(m : Int) else (m : Int)

/-- m × 2^(e − q) for q ≤ e. -/
def shiftTo (m : Nat) (e q : Int) : Nat := m * 2 ^ (e - q).toNat

def Num.isNan : Num → Bool
  | .nan => true
  | _ => false

def Num.isZero : Num → Bool
  | .fin _ 0 _ => true
  | _ => false

def Num.neg : Num → Num
  | .nan => .nan
  | .inf n => .inf (!n)
  | .fin n m e => .fin (!n) m e

/-- Exact sum, by the IEEE 754 rules for infinities and the sign of a zero sum. -/
def Num.add : Num → Num → Num
  | .nan, _ => .nan
  | _, .nan => .nan
  | .inf a, .inf b => if a == b then .inf a else .nan
  | .inf a, _ => .inf a
  | _, .inf b => .inf b
  | .fin a m e, .fin b n f =>
    let q := min e f
    let v := signed a (shiftTo m e q) + signed b (shiftTo n f q)
    if v = 0 then .fin (a && b && m == 0 && n == 0) 0 0 else .fin (decide (v < 0)) v.natAbs q

/-- Exact product. -/
def Num.mul : Num → Num → Num
  | .nan, _ => .nan
  | _, .nan => .nan
  | .inf a, .inf b => .inf (a != b)
  | .inf a, .fin b m _ => if m = 0 then .nan else .inf (a != b)
  | .fin a m _, .inf b => if m = 0 then .nan else .inf (a != b)
  | .fin a m e, .fin b n f => .fin (a != b) (m * n) (e + f)

/-- Is a < b? False where one is NaN. -/
def Num.lt : Num → Num → Bool
  | .nan, _ => false
  | _, .nan => false
  | .inf a, .inf b => a && !b
  | .inf a, _ => a
  | _, .inf b => !b
  | .fin a m e, .fin b n f =>
    let q := min e f
    decide (signed a (shiftTo m e q) < signed b (shiftTo n f q))

/-! Formats. -/

/-- A binary format: exponent and fraction bits, bias; specials 0 infinities and NaNs as IEEE 754, 1 one NaN and no infinity
(E4M3), 2 neither. -/
structure FFmt where
  eb : Nat
  mb : Nat
  bias : Nat
  spec : Nat
deriving DecidableEq, Repr

/-- Element format of a code of Table 10.5, but for the integer ones. -/
def ffmt : Nat → FFmt
  | 0 => ⟨8, 23, 127, 0⟩
  | 1 => ⟨5, 10, 15, 0⟩
  | 2 => ⟨8, 7, 127, 0⟩
  | 3 => ⟨4, 3, 7, 1⟩
  | 4 => ⟨5, 2, 15, 0⟩
  | 5 => ⟨4, 3, 7, 1⟩
  | 6 => ⟨5, 2, 15, 0⟩
  | 7 => ⟨3, 2, 3, 2⟩
  | 8 => ⟨2, 3, 1, 2⟩
  | _ => ⟨2, 1, 1, 2⟩

/-- The value of a pattern. -/
def FFmt.decode (f : FFmt) (v : Nat) : Num :=
  let s := bit v (f.eb + f.mb)
  let E := bits v f.mb f.eb
  let m := v % 2 ^ f.mb
  let top := 2 ^ f.eb - 1
  if f.spec == 0 && E == top then (if m = 0 then .inf s else .nan)
  else if f.spec == 1 && E == top && m == 2 ^ f.mb - 1 then .nan
  else if E = 0 then .fin s m (1 - (f.bias : Int) - f.mb)
  else .fin s (2 ^ f.mb + m) ((E : Int) - f.bias - f.mb)

/-- Is the pattern a signalling NaN? -/
def FFmt.isSnan (f : FFmt) (v : Nat) : Bool :=
  f.spec == 0 && bits v f.mb f.eb == 2 ^ f.eb - 1 && v % 2 ^ f.mb != 0 && !bit v (f.mb - 1)

/-- A NaN pattern, its open bits from r: the sign and the payload of a quiet NaN; any element bits in a format without
NaN. -/
def FFmt.nanBits (f : FFmt) (r : Nat) : Nat :=
  match f.spec with
  | 0 => r % 2 * 2 ^ (f.eb + f.mb) + (2 ^ f.eb - 1) * 2 ^ f.mb + 2 ^ (f.mb - 1) + r / 2 % 2 ^ (f.mb - 1)
  | 1 => r % 2 * 2 ^ (f.eb + f.mb) + 2 ^ (f.eb + f.mb) - 1
  | _ => r % 2 ^ (1 + f.eb + f.mb)

/-- Pattern of the largest finite magnitude. -/
def FFmt.maxBits (f : FFmt) : Nat :=
  match f.spec with
  | 0 => (2 ^ f.eb - 1) * 2 ^ f.mb - 1
  | 1 => 2 ^ (f.eb + f.mb) - 2
  | _ => 2 ^ (f.eb + f.mb) - 1

/-- Rounding: to nearest even, or up when the 16 bits below the last place and r reach 2^16 (R248). -/
inductive Rule where
  | nearest
  | stochastic (r : Nat)
deriving DecidableEq, Repr

/-- m × 2^e as a whole number of 2^q, rounded; and whether it was inexact. -/
def quantise (rule : Rule) (m : Nat) (e q : Int) : Nat × Bool :=
  if q ≤ e then (shiftTo m e q, false)
  else
    let k := (q - e).toNat
    let n := m / 2 ^ k
    let rem := m % 2 ^ k
    let up := match rule with
      | .nearest => 2 ^ k < 2 * rem || (2 * rem == 2 ^ k && n % 2 == 1)
      | .stochastic r => 2 ^ 16 ≤ rem * 2 ^ 16 / 2 ^ k + r
    (if up then n + 1 else n, rem != 0)

/-- IEEE flags (R277): bit 0 invalid, 1 division by zero, 2 overflow, 3 underflow; bit 4 marks an underflow that only one of
the two ways IEEE 754 allows to detect it would report. -/
abbrev Flags := Nat
def fInvalid : Flags := 1
def fDivZero : Flags := 2
def fOverflow : Flags := 4
def fUnderflow : Flags := 8
def fMaybeUnder : Flags := 16

/-- A number rounded to a format (R248 steps 1 to 3): the pattern and its flags. -/
def FFmt.encode (f : FFmt) (rule : Rule) (sat : Bool) (r : Nat) : Num → Nat × Flags
  | .nan => (f.nanBits r, 0)
  | .inf s => (b2n s * 2 ^ (f.eb + f.mb) + top, if sat || f.spec != 0 then fOverflow else 0)
  | .fin s 0 _ => (b2n s * 2 ^ (f.eb + f.mb), 0)
  | .fin s m e =>
    let emin : Int := 1 - f.bias
    let p := topExp m e
    let q := max p emin - f.mb
    let (n, inexact) := quantise rule m e q
    let (n, q) := if n == 2 ^ (f.mb + 1) then (2 ^ f.mb, q + 1) else (n, q)
    let E := (q + f.mb + f.bias).toNat
    let pat := if n < 2 ^ f.mb then n else E * 2 ^ f.mb + (n - 2 ^ f.mb)
    let tinyAfter := decide (topExp m (e + 0) < emin) &&
      decide ((quantise rule m e (p - f.mb)).1 < 2 ^ (f.mb + 1) ∨ p + 1 < emin)
    let fl := if inexact && decide (p < emin) then (if tinyAfter then fUnderflow else fMaybeUnder) else 0
    if f.maxBits < pat then (b2n s * 2 ^ (f.eb + f.mb) + top, fOverflow)
    else (b2n s * 2 ^ (f.eb + f.mb) + pat, fl)
where
  top : Nat :=
    if sat || f.spec == 2 then f.maxBits
    else if f.spec == 0 then (2 ^ f.eb - 1) * 2 ^ f.mb
    else 2 ^ (f.eb + f.mb) - 1

/-- Scale of an E8M0 byte; none for 0xFF. -/
def e8m0 (v : Nat) : Option Int := if v == 255 then none else some ((v : Int) - 127)

/-- A number times 2^k. -/
def Num.scale (k : Int) : Num → Num
  | .fin s m e => .fin s m (e + k)
  | v => v

/-! Element data (R242, R245). -/

/-- Is the code an MX format? -/
def isMx (fmt : Nat) : Bool := 5 ≤ fmt && fmt ≤ 10

/-- Bits of an element. -/
def elemBits : Nat → Nat
  | 0 => 32 | 1 => 16 | 2 => 16 | 7 => 6 | 8 => 6 | 9 => 4 | _ => 8

/-- Bytes of n elements (Table 10.5). -/
def dataBytes (fmt n : Nat) : Nat := elemBits fmt * n / 8 + if isMx fmt then n / 32 else 0

/-- The n that a number of bytes gives, none where it gives no whole one of 1 to 2,048. -/
def elemsOf (fmt bytes : Nat) : Option Nat :=
  let n := if isMx fmt then bytes / (elemBits fmt * 4 + 1) * 32 else bytes * 8 / elemBits fmt
  if 1 ≤ n && n ≤ 2048 && dataBytes fmt n == bytes then some n else none

/-- The value of an element's bits, without a block scale. -/
def elemNum (fmt v : Nat) : Num :=
  if fmt == 10 || fmt == 11 then
    let i := sext 8 v
    .fin (decide (i < 0)) i.natAbs (if fmt == 10 then -6 else 0)
  else (ffmt fmt).decode v

/-- Element i of packed elements: least significant bit first. -/
def elemAt (fmt : Nat) (data : List Byte) (i : Nat) : Nat :=
  let w := elemBits fmt
  let b := w * i
  bits (fieldAt data (b / 8) 4) (b % 8) w

/-- The n numbers that element data spells; a scale of 0xFF makes its block NaN (R247). -/
def elements (fmt n : Nat) (data : List Byte) : List Num :=
  if isMx fmt then
    let sc := data.take (n / 32)
    let el := data.drop (n / 32)
    (List.range n).map fun i =>
      match e8m0 (fieldAt sc (i / 32) 1) with
      | none => .nan
      | some k => (elemNum fmt (elemAt fmt el i)).scale k
  else (List.range n).map fun i => elemNum fmt (elemAt fmt data i)

/-- Elements packed least significant bit first. -/
def packElems (w : Nat) (vs : List Nat) : List Byte :=
  le (w * vs.length / 8) ((vs.foldr (fun v a => v % 2 ^ w + a * 2 ^ w) 0))

/-! Rounding to an output format (R248). -/

/-- INT8 (step 5): an integer from −127 to 127; a NaN becomes 0. -/
def encodeInt8 (rule : Rule) : Num → Nat × Flags
  | .nan => (0, fInvalid)
  | .inf s => (ofInt 8 (signed s 127), fOverflow)
  | .fin s m e =>
    let n := (quantise rule m e 0).1
    if 127 < n then (ofInt 8 (signed s 127), fOverflow) else (ofInt 8 (signed s n), 0)

/-- MXINT8 element, a whole number of 1/64: a magnitude above 127/64 saturates with SAT; without it the format has neither
infinity nor NaN and the element is open (r). -/
def encodeMxInt8 (rule : Rule) (sat : Bool) (r : Nat) : Num → Nat × Flags
  | .nan => (r % 256, 0)
  | .inf s => (if sat then ofInt 8 (signed s 127) else r % 256, fOverflow)
  | .fin s m e =>
    let n := (quantise rule m e (-6)).1
    if 127 < n then (if sat then ofInt 8 (signed s 127) else r % 256, fOverflow) else (ofInt 8 (signed s n), 0)

/-- Exponent of the largest power of two of an MX element format (OCP MX). -/
def mxEmax : Nat → Int
  | 5 => 8 | 6 => 15 | 7 => 4 | 8 => 2 | 9 => 2 | _ => 0

/-- Largest finite magnitude exponent of a block: none for a block of zeros. -/
def blockTop (vs : List Num) : Option Int :=
  vs.foldl (fun b v => match v with
    | .fin _ (m + 1) e =>
      match b with
      | none => some (topExp (m + 1) e)
      | some t => some (max t (topExp (m + 1) e))
    | _ => b) none

/-- Scale byte of a block (R248 step 4): 0xFF with a NaN; open, but not 0xFF, for a block of zeros or with an infinity. -/
def blockScale (fmt : Nat) (vs : List Num) (r : Nat) : Nat :=
  if vs.any Num.isNan then 255
  else if vs.any fun v => match v with | .inf _ => true | _ => false then r % 255
  else
    match blockTop vs with
    | none => r % 255
    | some t => (min 254 (max 0 (t - mxEmax fmt + 127))).toNat

/-- One element of a format that is not a block's: the pattern and its flags. -/
def encodeElem (fmt : Nat) (rule : Rule) (sat : Bool) (r : Nat) (v : Num) : Nat × Flags :=
  if fmt == 11 then encodeInt8 rule v
  else if fmt == 10 then encodeMxInt8 rule sat r v
  else (ffmt fmt).encode rule sat r v

/-- Element data of numbers in an output format: the bytes and the flags of all of them. `rule i` and `r i` are the rounding
and the open bits of element i; `r (n + b)` those of block b's scale. In a block with a NaN the element bits are open. -/
def encodeData (fmt : Nat) (rule : Nat → Rule) (sat : Bool) (r : Nat → Nat) (vs : List Num) : List Byte × Flags :=
  let ix := vs.zip (List.range vs.length)
  if isMx fmt then
    let sc := (List.range (vs.length / 32)).map fun b => blockScale fmt ((vs.drop (32 * b)).take 32) (r (vs.length + b))
    let es := ix.map fun (v, i) =>
      let k := sc.getD (i / 32) 0
      if k == 255 then (r i % 2 ^ elemBits fmt, 0)
      else encodeElem fmt (rule i) sat (r i) (v.scale (127 - (k : Int)))
    (sc.map (BitVec.ofNat 8) ++ packElems (elemBits fmt) (es.map (·.1)), es.foldl (fun a e => a ||| e.2) 0)
  else
    let es := ix.map fun (v, i) => encodeElem fmt (rule i) sat (r i) v
    (packElems (elemBits fmt) (es.map (·.1)), es.foldl (fun a e => a ||| e.2) 0)

/-! W48 (R246, R247). -/

/-- The value of a W48 pattern. -/
def w48num (w : BitVec 48) : Num :=
  let v := w.toNat
  let s := bit v 47
  let E := bits v 37 10
  let m := v % 2 ^ 37
  if E = 1023 then (if m = 0 then .inf s else .nan)
  else if E = 0 then .fin false 0 0
  else .fin s (2 ^ 37 + m) ((E : Int) - 511 - 37)

/-- A number rounded to W48 to nearest even. No input, sum or scaled sum the formats allow lies below its range (log entry
71). -/
def w48of : Num → BitVec 48
  | .nan => BitVec.ofNat 48 (1023 * 2 ^ 37 + 1)
  | .inf s => BitVec.ofNat 48 (b2n s * 2 ^ 47 + 1023 * 2 ^ 37)
  | .fin _ 0 _ => 0
  | .fin s m e =>
    let p := topExp m e
    let (n, q) := ((quantise .nearest m e (p - 37)).1, p - 37)
    let (n, q) := if n == 2 ^ 38 then (2 ^ 37, q + 1) else (n, q)
    let E := q + 37 + 511
    if E < 1 then 0
    else if 1023 ≤ E then BitVec.ofNat 48 (b2n s * 2 ^ 47 + 1023 * 2 ^ 37)
    else BitVec.ofNat 48 (b2n s * 2 ^ 47 + E.toNat * 2 ^ 37 + (n - 2 ^ 37))

/-- W48 add (R247). -/
def w48add (a b : BitVec 48) : BitVec 48 := w48of ((w48num a).add (w48num b))

/-- W48 times a binary32 scale (R248). -/
def w48scale (a : BitVec 48) (scale : Nat) : BitVec 48 := w48of ((w48num a).mul ((ffmt 0).decode scale))

/-! Philox-4×32-10. -/

/-- One round. -/
def philoxRound (c : Nat × Nat × Nat × Nat) (k : Nat × Nat) : Nat × Nat × Nat × Nat :=
  let p0 := 0xD2511F53 * c.1
  let p1 := 0xCD9E8D57 * c.2.2.1
  ((p1 / 2 ^ 32) ^^^ c.2.1 ^^^ k.1, p1 % 2 ^ 32, (p0 / 2 ^ 32) ^^^ c.2.2.2 ^^^ k.2, p0 % 2 ^ 32)

/-- The rounds. -/
def philoxGo : Nat → Nat × Nat × Nat × Nat → Nat × Nat → Nat × Nat × Nat × Nat
  | 0, c, _ => c
  | n + 1, c, k => philoxGo n (philoxRound c k) ((k.1 + 0x9E3779B9) % 2 ^ 32, (k.2 + 0xBB67AE85) % 2 ^ 32)

/-- Bits [15:0] of the first output word for a 64-bit key and four 32-bit counter words. -/
def philox16 (key c0 c1 c2 c3 : Nat) : Nat :=
  (philoxGo 10 (c0 % 2 ^ 32, c1 % 2 ^ 32, c2 % 2 ^ 32, c3 % 2 ^ 32) (key % 2 ^ 32, key / 2 ^ 32 % 2 ^ 32)).1 % 2 ^ 16

/-! binary32 operations of the vector unit (R275 to R277). -/

/-- A result rounded to binary32 with flags; r gives the bits of a NaN. -/
def f32 (r : Nat) (v : Num) : Nat × Flags := (ffmt 0).encode .nearest false r v

/-- Value of a binary32 pattern. -/
def num32 (v : Nat) : Num := (ffmt 0).decode v

/-- Invalid by a signalling NaN among the operands. -/
def snanFlag (vs : List Nat) : Flags := if vs.any (ffmt 0).isSnan then fInvalid else 0

/-- A computed result: rounding, with invalid where a NaN comes from operands that are none. -/
def arith (r : Nat) (ops : List Nat) (v : Num) : Nat × Flags :=
  let x := f32 r v
  let made := v.isNan && !ops.any fun o => (num32 o).isNan
  (x.1, x.2 ||| snanFlag ops ||| if made then fInvalid else 0)

/-- X + Y, X − Y, X × Y, X × Y + Z. -/
def vAdd (r x y : Nat) : Nat × Flags := arith r [x, y] ((num32 x).add (num32 y))
def vSub (r x y : Nat) : Nat × Flags := arith r [x, y] ((num32 x).add (num32 y).neg)
def vMul (r x y : Nat) : Nat × Flags := arith r [x, y] ((num32 x).mul (num32 y))
def vFma (r x y z : Nat) : Nat × Flags := arith r [x, y, z] (((num32 x).mul (num32 y)).add (num32 z))

/-- IEEE 754 maximumNumber: the larger, +0 above −0; the number where one operand is NaN. -/
def vMax (r x y : Nat) : Nat × Flags :=
  let a := num32 x
  let b := num32 y
  (if a.isNan && b.isNan then (ffmt 0).nanBits r
   else if a.isNan then y else if b.isNan then x
   else if a.lt b then y else if b.lt a then x
   else if x / 2 ^ 31 ≤ y / 2 ^ 31 then x else y, snanFlag [x, y])

/-- IEEE 754 minimumNumber. -/
def vMin (r x y : Nat) : Nat × Flags :=
  let a := num32 x
  let b := num32 y
  (if a.isNan && b.isNan then (ffmt 0).nanBits r
   else if a.isNan then y else if b.isNan then x
   else if a.lt b then x else if b.lt a then y
   else if x / 2 ^ 31 ≤ y / 2 ^ 31 then y else x, snanFlag [x, y])

/-- X with its sign cleared. -/
def vAbs (x : Nat) : Nat × Flags := (x % 2 ^ 31, 0)

/-- X if X > Y, otherwise 0; a NaN operand is unordered and invalid. -/
def vSelGt (x y : Nat) : Nat × Flags :=
  (if (num32 y).lt (num32 x) then x else 0, if (num32 x).isNan || (num32 y).isNan then fInvalid else 0)

/-- Exact quotient m/n × 2^(e − f) as a number with a last bit that stands for any remainder. -/
def quotient (s : Bool) (m : Nat) (e : Int) (n : Nat) (f : Int) : Num :=
  let w := 64 + Nat.log2 n
  let q := m * 2 ^ w / n
  .fin s (2 * q + b2n (m * 2 ^ w % n != 0)) (e - f - w - 1)

/-- X / Y, correctly rounded. -/
def vDiv (r x y : Nat) : Nat × Flags :=
  match num32 x, num32 y with
  | .nan, _ => arith r [x, y] .nan
  | _, .nan => arith r [x, y] .nan
  | .inf _, .inf _ => arith r [x, y] .nan
  | .inf a, .fin b _ _ => f32 r (.inf (a != b))
  | .fin a _ _, .inf b => f32 r (.fin (a != b) 0 0)
  | .fin a m e, .fin b n f =>
    if n = 0 then (if m = 0 then arith r [x, y] .nan else ((f32 r (.inf (a != b))).1, fDivZero))
    else f32 r (quotient (a != b) m e n f)

/-- Integer square root by bits, from bit k down. -/
def isqrtGo (v : Nat) : Nat → Nat → Nat
  | 0, acc => acc
  | k + 1, acc => isqrtGo v k (if (acc + 2 ^ k) * (acc + 2 ^ k) ≤ v then acc + 2 ^ k else acc)

/-- Largest n with n² ≤ v. -/
def isqrt (v : Nat) : Nat := isqrtGo v (Nat.log2 v / 2 + 1) 0

/-- Square root of m × 2^e with a last bit for any remainder. -/
def rootNum (m : Nat) (e : Int) : Num :=
  let (m, e) := if e % 2 = 0 then (m, e) else (2 * m, e - 1)
  let v := m * 2 ^ 128
  let q := isqrt v
  .fin false (2 * q + b2n (q * q != v)) (e / 2 - 64 - 1)

/-- √X, correctly rounded; √−0 is −0. -/
def vSqrt (r x : Nat) : Nat × Flags :=
  match num32 x with
  | .nan => arith r [x] .nan
  | .inf false => (x, 0)
  | .inf true => arith r [x] .nan
  | .fin s m e => if m = 0 then (x, 0) else if s then arith r [x] .nan else f32 r (rootNum m e)

/-- binary32 pattern of the magnitude of a number cut toward zero; 0x7F800000 above the largest. -/
def cut32 (m : Nat) (e : Int) : Nat :=
  if m = 0 then 0
  else
    let p := topExp m e
    let q := max p (-126) - 23
    let n := if q ≤ e then shiftTo m e q else m / 2 ^ (q - e).toNat
    let E := (q + 23 + 127).toNat
    min 0x7F800000 (if n < 2 ^ 23 then n else E * 2 ^ 23 + (n - 2 ^ 23))

/-- A result known to an error bound in units in the last place: F is the exact result cut toward zero, and the value is one
of F − lo … F + hi, which one is open (r). -/
def withinUlps (neg : Bool) (F lo hi r : Nat) : Nat := b2n neg * 2 ^ 31 + if F = 0x7F800000 then F else min 0x7F800000 (F - min lo F + r % (min lo F + hi + 1))

/-- Flags of a positive magnitude result. -/
def magFlags (v : Nat) (exact : Bool) : Flags :=
  if v % 2 ^ 31 == 0x7F800000 then fOverflow else if v % 2 ^ 31 < 2 ^ 23 && !exact then fUnderflow else 0

/-- 1/√X within 1 ulp; at a zero the value is open. -/
def vRsqrt (r x : Nat) : Nat × Flags :=
  match num32 x with
  | .nan => arith r [x] .nan
  | .inf false => (0, 0)
  | .inf true => arith r [x] .nan
  | .fin s m e =>
    if m = 0 then (r % 2 ^ 32, fDivZero)
    else if s then arith r [x] .nan
    else
      -- 1/√(m 2^e) = √(2^k / m) 2^(−(e + k)/2) with e + k even
      let k : Nat := if (e + 200) % 2 = 0 then 200 else 201
      let q := isqrt (2 ^ k * 2 ^ 128 / m)
      let exact := q * q * m == 2 ^ k * 2 ^ 128
      let F := cut32 q (-((e + k) / 2) - 64)
      (if exact && F % 2 ^ 23 == 0 then withinUlps false F 1 1 r else withinUlps false F 0 1 r, 0)

/-- Σ x^i/i! in units of 2^−220, x in the same unit, with fuel. -/
def expSeries (x : Int) : Nat → Int → Nat → Int → Int
  | 0, _, _, acc => acc
  | fuel + 1, term, i, acc => expSeries x fuel (term * x / 2 ^ 220 / (i : Int)) (i + 1) (acc + term)

/-- Square n times a number held as mantissa and exponent, the mantissa cut to 256 bits each time. -/
def squareN : Nat → Nat → Int → Nat × Int
  | 0, m, e => (m, e)
  | n + 1, m, e =>
    let m2 := m * m
    let k := Nat.log2 m2 - 255
    squareN n (m2 / 2 ^ k) (2 * e + k)

/-- e^X for finite X of moderate size, as mantissa and exponent, far more precise than binary32. -/
def expNum (s : Bool) (m : Nat) (e : Int) : Nat × Int :=
  let x : Int := signed s (if 0 ≤ e + 212 then m * 2 ^ (e + 212).toNat else m / 2 ^ (-(e + 212)).toNat)
  squareN 8 (expSeries x 80 (2 ^ 220) 1 0).toNat (-220)

/-- e^X within 2 ulp. -/
def vExp (r x : Nat) : Nat × Flags :=
  match num32 x with
  | .nan => arith r [x] .nan
  | .inf true => (0, 0)
  | .inf false => (x, 0)
  | .fin s m e =>
    if m = 0 then (0x3F800000 - 2 + r % 5, 0)
    else if 7 < topExp m e then (if s then (r % 3, fUnderflow) else (0x7F800000, fOverflow))
    else
      let y := expNum s m e
      let v := withinUlps false (cut32 y.1 y.2) 1 2 r
      (v, magFlags v false)

/-- Σ z^(2i+1)/(2i+1) in units of 2^−220. -/
def atanhSeries (z2 : Nat) : Nat → Nat → Nat → Nat → Nat
  | 0, _, _, acc => acc
  | fuel + 1, p, i, acc => atanhSeries z2 fuel (p * z2 / 2 ^ 220) (i + 2) (acc + p / i)

/-- 2 atanh(a/b) in units of 2^−220. -/
def ln2atanh (a b : Nat) : Nat :=
  let z := a * 2 ^ 220 / b
  2 * atanhSeries (z * z / 2 ^ 220) 120 z 1 0

/-- ln of m × 2^e in units of 2^−220. -/
def lnNum (m : Nat) (e : Int) : Int :=
  let k := Nat.log2 m
  let up := 3 * 2 ^ k < 2 * m
  let d := if up then 2 ^ (k + 1) else 2 ^ k
  let E : Int := e + k + (if up then 1 else 0)
  let l : Int := if d ≤ m then (ln2atanh (m - d) (m + d) : Int) else -(ln2atanh (d - m) (m + d) : Int)
  E * (ln2atanh 1 3 : Int) + l

/-- ln X within 2 ulp; at a zero the value is open. -/
def vLog (r x : Nat) : Nat × Flags :=
  match num32 x with
  | .nan => arith r [x] .nan
  | .inf false => (x, 0)
  | .inf true => arith r [x] .nan
  | .fin s m e =>
    if m = 0 then (r % 2 ^ 32, fDivZero)
    else if s then arith r [x] .nan
    else
      let l := lnNum m e
      if x == 0x3F800000 then (r % 3 + (r / 3 % 2) * 2 ^ 31, 0)
      else (withinUlps (decide (l < 0)) (cut32 l.natAbs (-220)) 1 2 r, 0)

/-- The sum of a list by a tree of neighbouring pairs, an odd last element passed on (log entry 72). -/
def pairUp (r : Nat) : List Nat → List Nat × Flags
  | a :: b :: t =>
    let v := vAdd r a b
    let (l, f) := pairUp r t
    (v.1 :: l, v.2 ||| f)
  | l => (l, 0)

/-- The pairwise tree, with fuel. -/
def treeSum (r : Nat) : Nat → List Nat → Nat × Flags
  | 0, l => (l.headD 0, 0)
  | fuel + 1, l =>
    if l.length ≤ 1 then (l.headD 0, 0)
    else
      let (l', f) := pairUp r l
      let (v, g) := treeSum r fuel l'
      (v, f ||| g)

/-- The largest of a list of patterns and its lowest index; none where one of them is NaN. -/
def largest (l : List Nat) : Option (Nat × Nat) :=
  if l.any fun v => (num32 v).isNan then none
  else
    (l.zip (List.range l.length)).foldl (fun b (v, i) =>
      match b with
      | none => some (v, i)
      | some (w, j) => if (num32 w).lt (num32 v) then some (v, i) else some (w, j)) none

end Sys2Proof.Machine
end

