-- ==== Sys2Proof/Machine/Reduction.lean ====
section
/-! DEFINITION. In-network reduction (chapter 10): the group table, slots and records, contributions, results, seals and
aborts, the result log and its mirror. -/

namespace Sys2Proof.Machine

/-! Group entries (Table 10.1). -/

def gCount (g : GroupSt) : Nat := wget g.w1 PIC_GRP_W1.COUNT
def gChunks (g : GroupSt) : Nat := wget g.w1 PIC_GRP_W1.CHUNKS
def gLog (g : GroupSt) : Bool := wbit g.w0 PIC_GRP_W0.LOG
def gMirror (g : GroupSt) : Bool := wbit g.w0 PIC_GRP_W0.MIRROR
def gEnc (g : GroupSt) : Bool := wbit g.w0 PIC_GRP_W0.ENC
def gKey (g : GroupSt) : Nat := wget g.w0 PIC_GRP_W0.KEYIDX
def gHandoff (g : GroupSt) : Bool := wbit g.w0 PIC_GRP_W0.HANDOFF
def gRegion (g : GroupSt) : Nat := wget g.w4 PIC_GRP_W4.REGION
def gFmtIn (g : GroupSt) : Nat := wget g.w0 PIC_GRP_W0.FMT_IN
def gFmtOut (g : GroupSt) : Nat := wget g.w0 PIC_GRP_W0.FMT_OUT

/-- Group timeout T in nanoseconds; 0 means 200 ms (Table 10.1). -/
def gT (g : GroupSt) : Nat :=
  let ms := wget g.w2 PIC_GRP_W2.TIMEOUT_MS
  (if ms == 0 then 200 else ms) * 1000000

def setGroup (s : State) (g : Nat) (f : GroupSt → GroupSt) : State :=
  setPic s fun p => { p with groups := tmod {} p.groups g f }

/-- Member ports of a group: the multicast entry's that name ports of the structure (R180). -/
def gMembers (s : State) (g : GroupSt) : List Nat :=
  match direct s (gDie g) 6 (gMcg g) with
  | some e => (mcMembers e).filter fun p => isPort s p
  | none => []

/-! Collectives. -/

def isColl (x g q : Nat) (c : Coll) : Bool := c.ctx == x && c.group == g && c.cseq == q
def findColl (s : State) (x g q : Nat) : Option Coll := s.pic.colls.find? (isColl x g q)
def setColl (s : State) (c : Coll) : State :=
  setPic s fun p => { p with colls := p.colls.map fun o => if isColl c.ctx c.group c.cseq o then c else o }
def findChunk (c : Coll) (k : Nat) : Option Chunk := c.chunks.find? (·.idx == k)
def putChunk (c : Coll) (k : Chunk) : Coll := { c with chunks := c.chunks.map fun o => if o.idx == k.idx then k else o }

/-- Has the collective a tombstone that has not lapsed (R243)? -/
def hasTomb (s : State) (x g q : Nat) : Bool :=
  s.pic.tombs.any fun t => t.ctx == x && t.group == g && t.cseq == q && s.now < t.expiry

/-- A tombstone kept for T. -/
def putTomb (s : State) (x g q T : Nat) : State :=
  setPic s fun p => { p with
    tombs := p.tombs.filter (fun t => !(t.ctx == x && t.group == g && t.cseq == q)) ++
      [{ ctx := x, group := g, cseq := q, expiry := s.now + T }] }

/-! Usage (R251, R252, R334). -/

/-- Slots and records of a collective, on-die or memory-backed. -/
def collUse (onDie : Bool) (c : Coll) : Nat :=
  b2n (c.onDie == onDie) + (c.chunks.filter fun k => !k.freed && k.onDie == onDie).length

/-- Slots and records of context x (1,024: all) on SWd. -/
def slotUse (s : State) (onDie : Bool) (x d : Nat) : Nat :=
  s.pic.colls.foldl (fun n c => if (x == 1024 || c.ctx == x) && c.die == d then n + collUse onDie c else n) 0

/-- Numbers of the memory-backed slots of context x on SWd in use. -/
def memSlots (s : State) (x d : Nat) : List Nat :=
  s.pic.colls.flatMap fun c =>
    if c.ctx == x && c.die == d then
      (if c.onDie then [] else [c.slot]) ++ (c.chunks.filter fun k => !k.freed && !k.onDie).map (·.slot)
    else []

/-- Die address of memory-backed slot k of context x on SWd: its slot frames there, 8,192 slots of 16 KiB each (R334). -/
def slotAddr (s : State) (x d k : Nat) : Option Nat :=
  let on := (winFrames s x).filter fun p => p.1 == d
  match (on.drop (on.length - slotCount s x d))[k / 8192]? with
  | some (_, f) => some (f * frameBytes + k % 8192 * 16384)
  | none => none

/-- Does memory-backed slot k of context x on SWd meet an uncorrectable line? -/
def slotBad (s : State) (x d k : Nat) : Bool :=
  match slotAddr s x d k with
  | some P => memBad s d P 16384
  | none => false

/-- The reads of that slot (R326). -/
def slotTouch (s : State) (x d k : Nat) : State :=
  match slotAddr s x d k with
  | some P => memTouch s d P 16384
  | none => s

/-- Where a new slot or record of context x on SWd goes (R251): on-die, or memory-backed at the lowest free slot number;
none beyond the context's share. -/
def charge (s : State) (x d : Nat) : Option (Bool × Nat) :=
  let sh := tget {} s.sec.share x
  if slotUse s true x d < sh.rslotQuota.getD d 0 && slotUse s true 1024 d < 64 * tget 64 s.sys.str.rslotMib d then
    some (true, 0)
  else if (List.range 4).foldl (fun n i => n + slotUse s false x i) 0 < sh.mslotLimit then
    let used := memSlots s x d
    ((List.range (slotCount s x d * 8192)).find? fun k => !used.contains k).map fun k => (false, k)
  else none

/-- Is the channel into engine e isolated (R39)? -/
def engineIsolated (s : State) (e : Nat) : Bool := s.sys.isolated.any fun x => (x.2.map (·.engine)) == some (e + 1)

/-- The next unfenced engine of SWd in turn (R252); nothing passes an isolated channel into one (R39). -/
def nextEngine (s : State) (d : Nat) : Option Nat :=
  let p := tget 0 s.pic.nextEng d
  ((List.range 8).map fun i => 8 * d + (p + i) % 8).find? fun e => !fbit s (PIC_ENG.FENCED e) && !engineIsolated s e

/-! The log (R260 to R263). -/

/-- Size of the log ring of context x. -/
def ringSize (s : State) (x : Nat) : Nat := logBytes s x

def logHead (s : State) (x : Nat) : Nat := (getReg s (PIC_LOG x)).toNat
def logTrim (s : State) (x : Nat) : Nat := (getReg s (PIC_LOGTRIM x)).toNat

/-- Bytes written at log position p of context x, round the end of the ring (R333). -/
def logPut (s : State) (x p : Nat) (bs : List Byte) : State :=
  let n := ringSize s x
  if n = 0 then s
  else
    let o := p % n
    let s := ctxWrite s x (winBytes s x + o) (bs.take (n - o))
    ctxWrite s x (winBytes s x) (bs.drop (n - o))

/-- Header of a log record (Table 10.7). -/
def logHeader (s : State) (kind fmt reason x g q chunk : Nat) (data : List Byte) : List Byte :=
  let h := le 1 kind ++ [0] ++ le 1 fmt ++ le 1 reason ++ le 2 x ++ le 2 g ++ le 4 q ++ le 4 chunk ++ le 4 data.length ++
    le 4 0 ++ le 8 s.nvs.modGen.toNat ++ le 8 s.timeWord.toNat ++ le 8 (logHead s x) ++ le 4 (crc32 data) ++ le 8 0
  h ++ le 4 (crc32 h)

/-- A frame the VS1 sends for one-sided or mirror use: role generation of the peer's context unknown, so RGEN is a free
value (log entry 73). -/
def peerRgen (s : State) : Nat × State :=
  let (r, s) := draw s
  (r.toNat % 256, s)

/-- The die that sends for a group: its owner, or, while that is not working, the lowest-numbered working switch die
(R365). -/
def redDie (s : State) (g : GroupSt) : Nat :=
  if dieUp s (gDie g) then gDie g else ((List.range 4).find? (dieUp s)).getD (gDie g)

/-- Mirror copies of bytes at log position p (R262): PUTs to the buddy, none across a multiple of 8,192 of its offset. -/
def mirrorPut (s : State) (g : GroupSt) : Nat → Nat → List Byte → State
  | 0, _, _ => s
  | fuel + 1, p, bs =>
    if bs.isEmpty then s
    else
      let x := gCtx g
      let ring := ringSize s x
      let o := wget g.w5 PIC_GRP_W5.MIRROR_BASE + p % ring
      let n := min bs.length (min (8192 - o % 8192) (ring - p % ring))
      let (rg, s) := peerRgen s
      let h := mkHdr (wget g.w4 PIC_GRP_W4.BUDDY) (fget s TBL_SELF.CHIP) (wget g.w4 PIC_GRP_W4.MCHAN) x (fget s SEC_SELF.INC)
        rg tPUT 0 0 n 0 o
      mirrorPut (originate s (redDie s g) h (bs.take n)) g fuel (p + n) (bs.drop n)

/-- After the PUTs of a SEAL record, a GET of its header (R262). RETURN is an offset in a log frame of the issuing die, so
that the response comes back to it. -/
def mirrorGet (s : State) (gn : Nat) (g : GroupSt) (p posEnd : Nat) : State :=
  let x := gCtx g
  let ret := winBytes s x + gDie g * frameBytes + s.pic.nextRet % frameBytes
  let o := wget g.w5 PIC_GRP_W5.MIRROR_BASE + p % ringSize s x
  let (rg, s) := peerRgen s
  let h := mkHdr (wget g.w4 PIC_GRP_W4.BUDDY) (fget s TBL_SELF.CHIP) (wget g.w4 PIC_GRP_W4.MCHAN) x (fget s SEC_SELF.INC)
    rg tGET 0 0 16 0 o
  let s := setPic s fun q => { q with
    nextRet := q.nextRet + 1
    gets := q.gets ++ [{ ctx := x, group := gn, buddy := wget g.w4 PIC_GRP_W4.BUDDY, ret := ret, posEnd := posEnd, stamp := s.now }] }
  let s := setGroup s gn fun e => { e with unconf := some p, unconfAt := s.now }
  originate s (redDie s g) h (le 4 64 ++ le 4 0 ++ le 8 ret)

/-- A record appended to the log of the group's context; none when the ring lacks room (R261). -/
def logAppend (s : State) (gn q kind reason chunk : Nat) (data : List Byte) : Option State :=
  let g := group s gn
  let x := gCtx g
  let head := logHead s x
  let n := 64 + ceilDiv data.length 64 * 64
  let ring := ringSize s x
  if ring < head + n - logTrim s x then none
  else
    let bytes := logHeader s kind (gFmtOut g) reason x gn q chunk data ++ fit (n - 64) data
    let s := logPut s x head bytes
    let s := setPic s fun p => { p with
      logs := tmod [] p.logs x (· ++ [{ pos := head, len := n, group := gn, cseq := q }]) }
    let s := ctxBump (setReg s (PIC_LOG x) (BitVec.ofNat 64 (head + n))) x 11 n
    let trim := logTrim s x
    let s := if !tget false s.pic.logHigh x && 9 * ring < 10 * (head + n - trim) then
        event (setPic s fun p => { p with logHigh := tset false p.logHigh x true }) 0x09 5 1 (gDie g) x x
          (le 8 (head + n) ++ le 8 trim)
      else s
    let s := if gMirror g then mirrorPut s g (n + 2) head bytes else s
    some (if gMirror g && kind == 2 then mirrorGet s gn g head (head + n) else s)

/-! Frames of a group (R241). -/

/-- A RESULT, SEAL or ABORT of a group sent by die d: multicast to its members, or unicast to a chip. A protected RESULT is
sealed under the job key; the others carry ENC and KEYIDX only (R410). -/
def sendRedFrom (s : State) (d gn q type chunk : Nat) (data : List Byte) (dst : Option Nat) : State :=
  let g := group s gn
  let fl := 2 ^ flRED + b2n (gEnc g) * 2 ^ flENC + b2n dst.isNone * 2 ^ flMCAST
  let prot := gEnc g && type == tRESULT
  let len := data.length + if prot then 16 else 0
  let h := mkHdr (dst.getD (gMcg g)) (fget s TBL_SELF.CHIP) (gChan g + 8) (gCtx g) (fget s SEC_SELF.INC) (groupGen s gn) type fl
    (if gEnc g then gKey g else 0) len 0 (redW2 gn q chunk)
  let body := if prot then
      match jobKey s (gCtx g) (gKey g) with
      | some k => gcmSeal k.key (redNonce h) (frameAad h) data
      | none => []
    else data
  originate s d h body

/-- Such a frame sent by the die that owns the group (R252). -/
def sendRed (s : State) (gn q type chunk : Nat) (data : List Byte) (dst : Option Nat) : State :=
  sendRedFrom s (gDie (group s gn)) gn q type chunk data dst

/-- A frame of a collective handed to the group's region (R267), with the region generation of the entry's WRITE. -/
def handOff (s : State) (gn q type chunk : Nat) (data : List Byte) : State :=
  let g := group s gn
  if !gHandoff g then s
  else
    let h := mkHdr (fget s TBL_SELF.CHIP) (fget s TBL_SELF.CHIP) (gChan g + 8) (gCtx g) (fget s SEC_SELF.INC) g.rgnGen.toNat
      type (2 ^ flRED) 0 data.length 0 (redW2 gn q chunk)
    setPic s fun p => { p with
      handoff := tmod [] p.handoff (gRegion g) (· ++ [{ hdr := h, body := data, idie := gDie g, chan := hChan h }]) }

/-! Abort and seal (R256, R258). -/

/-- Payload of an ABORT (Table 10.3). -/
def abortBody (reason chunk port : Nat) : List Byte := le 1 reason ++ le 3 0 ++ le 4 chunk ++ le 2 port ++ le 6 0

/-- No chunk, no port. -/
def noChunk : Nat := 0xFFFFFFFF
def noPort : Nat := 0xFFFF

/-- The log records of a collective that has sealed or aborted (R259). -/
def logShut (s : State) (x gn q : Nat) : State :=
  setPic s fun p => { p with
    logs := tmod [] p.logs x (·.map fun r => if r.group == gn && r.cseq == q then { r with shut := true } else r) }

/-- A collective aborts (R258). Without `send` its ABORT is part of a group-wide one (R365). -/
def abortColl (s : State) (gn q reason chunk port : Nat) (send : Bool) : State :=
  let g := group s gn
  let x := gCtx g
  let s := setPic s fun p => { p with colls := p.colls.filter fun c => !isColl x gn q c }
  let s := putTomb s x gn q (gT g)
  let s := if send then
      handOff (sendRed s gn q tABORT 0 (abortBody reason chunk port) none) gn q tABORT 0 (abortBody reason chunk port)
    else s
  let s := logShut (if gLog g then (logAppend s gn q 3 reason 0 []).getD s else s) x gn q
  let s := event s 0x09 4 1 (gDie g) x gn (le 1 reason ++ le 4 q ++ le 4 chunk ++ le 2 port)
  ctxBump (bump s PIC_ABORTS) x 10 1

/-- Every collective that a test names aborts. -/
def abortWhere (s : State) (p : Coll → Bool) (reason : Nat) (send : Bool) : State :=
  forEach (s.pic.colls.filter p) s fun s c => abortColl s c.group c.cseq reason noChunk noPort send

/-- Abort reasons (Table 10.6). -/
def aRESIDUE : Nat := 1
def aECC : Nat := 2
def aTIMEOUT : Nat := 3
def aACK_TIMEOUT : Nat := 4
def aQUOTA : Nat := 5
def aLOG_FULL : Nat := 6
def aGROUP_CHANGED : Nat := 7
def aAUTH : Nat := 8
def aBAD_CONTRIB : Nat := 9
def aENGINE : Nat := 10
def aHOST : Nat := 11
def aHANDOFF : Nat := 12
def aEXCESS : Nat := 13

/-- An uncorrectable line in a slot or record that the collective uses (Table 13.2). -/
def collBad (s : State) (c : Coll) (idx : Nat) : Bool :=
  (!c.onDie && slotBad s c.ctx c.die c.slot) ||
    match findChunk c idx with
    | some k => !k.onDie && !k.freed && slotBad s c.ctx c.die k.slot
    | none => false

/-- The reads of that slot and record (R326). -/
def collTouch (s : State) (c : Coll) (idx : Nat) : State :=
  let s := if c.onDie then s else slotTouch s c.ctx c.die c.slot
  match findChunk c idx with
  | some k => if k.onDie || k.freed then s else slotTouch s c.ctx c.die k.slot
  | none => s

/-- COLLECTIVE_SEAL (R256): when every chunk is released, logged and acknowledged, and the mirror hold does not apply. -/
def sealColl (s : State) (x gn q : Nat) : State :=
  match findColl s x gn q with
  | none => s
  | some c =>
    let g := group s gn
    let whole := (List.range (min (gChunks g) (c.chunks.length + 1))).all fun k =>
      match findChunk c k with
      | some k => k.freed
      | none => false
    let held := gMirror g && g.unconf.isSome && !g.mirrorDown
    if !gValid g || !whole || held || !dieUp s c.die then s
    else
      let s := collTouch s c 0xFFFFFFFF
      if collBad s c 0xFFFFFFFF then abortColl s gn q aECC noChunk noPort true
      else
      match (if gLog g then logAppend s gn q 2 0 (gChunks g) [] else some s) with
      | none => abortColl s gn q aLOG_FULL noChunk noPort true
      | some s =>
        let body := le 4 (gChunks g) ++ le 4 c.supp ++ le 2 c.waived.length ++
          le 1 (b2n (gLog g) + 2 * b2n (g.mirrorDown)) ++ le 5 0
        let s := handOff (sendRed s gn q tSEAL 0 body none) gn q tSEAL 0 body
        let s := logShut (setPic s fun p => { p with colls := p.colls.filter fun c => !isColl x gn q c }) x gn q
        ctxBump (bump (putTomb s x gn q (gT g)) PIC_SEALS) x 9 1

/-! Results (R248, R254). -/

/-- Element data of a chunk's result. The open bits of NaNs, of the sign of a zero sum, and of open block scales are free
values. -/
def roundResult (s : State) (g : GroupSt) (q : Nat) (k : Chunk) : State × List Byte :=
  let base := s.free
  let r := fun i => (Config.freeValue (base + i)).toNat
  let key := g.w3.toNat
  let rule := fun i => if wbit g.w0 PIC_GRP_W0.ROUND then Rule.stochastic (philox16 key q k.idx i (gCtx g)) else Rule.nearest
  let accs := if wbit g.w0 PIC_GRP_W0.SCALE_EN then k.acc.map fun a => w48scale a (wget g.w2 PIC_GRP_W2.SCALE) else k.acc
  let vs := (accs.zip (List.range k.n)).map fun (a, i) =>
    match w48num a with
    | .fin _ 0 _ => Num.fin (bit (r i) 63) 0 0
    | v => v
  ({ s with free := base + k.n + k.n / 32 }, (encodeData (gFmtOut g) rule (wbit g.w0 PIC_GRP_W0.SAT) r vs).1)

/-- A slot with no bit set is released (R254). -/
def freeSlot (s : State) (x gn q idx : Nat) : State :=
  match findColl s x gn q with
  | none => s
  | some c =>
    match findChunk c idx with
    | none => s
    | some k =>
      if k.done && k.acks.isEmpty && !k.freed then setColl s (putChunk c { k with freed := true, result := [] }) else s

/-- The count of a chunk is reached (R254): its result is rounded, multicast, logged and handed off; the acknowledgement
bits of the members at the RESULT's lookup are set. -/
def releaseResult (s : State) (x gn q idx : Nat) : State :=
  match findColl s x gn q with
  | none => s
  | some c =>
    match findChunk c idx with
    | none => s
    | some k =>
      let g := group s gn
      if gEnc g && (jobKey s x (gKey g)).isNone then abortColl s gn q aAUTH idx noPort true
      else
        let (s, data) := roundResult s g q k
        let looked := (originFence s (mkHdr (gMcg g) (fget s TBL_SELF.CHIP) 0 x (fget s SEC_SELF.INC) 0 tRESULT
          (2 ^ flMCAST) 0 0 0 0)).isNone
        let k := { k with done := true, doneAt := s.now, acc := [], result := data,
                          acks := if looked then gMembers s g else [] }
        let s := setColl s { putChunk c k with stamp := s.now, released := c.released + 1 }
        let s := ctxBump (sendRed s gn q tRESULT idx data none) x 8 1
        match (if gLog g then logAppend s gn q 1 0 idx data else some s) with
        | none => abortColl s gn q aLOG_FULL idx noPort true
        | some s => freeSlot (handOff s gn q tRESULT idx data) x gn q idx

/-! Received frames (R243). -/

/-- A reduction frame dropped by a row. -/
def picDrop (s : State) (d : Nat) (f : Frame) (x row off : Nat) : State :=
  picCheck (unitDrop (bump s off) f) d (hGroup f.hdr) x row

/-- Rows 1 to 6 of Table 10.4: the state with the frame dropped, or none if it passes. -/
def picRows16 (s : State) (d : Nat) (f : Frame) : Option State :=
  let h := f.hdr
  let gn := hGroup h
  let g := group s gn
  let t := hType h
  if !gValid g || gDie g != d then some (picDrop s d f 0xFFFF 1 PIC_DROP_NOGROUP)
  else if t == tRESULT || t == tSEAL || t == tABORT then some (picDrop s d f (gCtx g) 2 PIC_DROP_FOREIGN)
  else if hRgen h != groupGen s gn then some (picCheck (staleRole s d f 2 gn (groupGen s gn) (gCtx g)) d gn (gCtx g) 3)
  else if hCtx h != gCtx g then
    some (sendNack (picDrop s d f (gCtx g) 4 PIC_DROP_CTX) d h 4 2 gn (groupGen s gn))
  else if hChan h != gChan g then some (picDrop s d f (gCtx g) 5 PIC_DROP_CHAN)
  else if !(gMembers s g).contains f.ingress then some (picDrop s d f (gCtx g) 6 PIC_DROP_NONMEMBER)
  else none

/-- Rows 7 to 9 for a frame that passed rows 1 to 6: the row that fails, none if all pass; and the element data of a
CONTRIB. N is judged where LEN is 4 (log entry 74). -/
def picRows79 (s : State) (f : Frame) : Option Nat × List Byte :=
  let h := f.hdr
  let gn := hGroup h
  let g := group s gn
  let t := hType h
  let N := fieldAt f.body 0 4
  let ackBad := t == tRESULT_ACK && hLen h == 4 && (N == 0 || 1024 < N || hChunk h + 1 < N)
  if hCseq h == 0xFFFFFF || gChunks g ≤ hChunk h || ackBad then (some 7, [])
  else if hEnc h != gEnc g || (gEnc g && hKeyidx h != gKey g) then (some 8, [])
  else if t == tCONTRIB then
    match (if gEnc g then (if f.body.length < 16 then none else openFrame s h f.body) else some f.body) with
    | none => (some 8, [])
    | some data =>
      let first := ((findColl s (gCtx g) gn (hCseq h)).bind fun c => findChunk c (hChunk h)).map (·.n)
      match elemsOf (gFmtIn g) data.length with
      | none => (some 9, [])
      | some n => if first.isSome && first != some n then (some 9, []) else (none, data)
  else if (t == tRESULT_ACK && hLen h != 4) || (t == tRESEND_REQ && hLen h != 0) then (some 9, [])
  else (none, [])

/-- The record of a contribution's collective, created where it has none (R251). -/
def haveRecord (s : State) (x d gn q : Nat) : Option (State × Coll) :=
  match findColl s x gn q with
  | some c => some (s, c)
  | none =>
    match charge s x d with
    | none => none
    | some (on, slot) =>
      let c : Coll := { ctx := x, group := gn, cseq := q, die := d, stamp := s.now, onDie := on, slot := slot }
      some (setPic s fun p => { p with colls := p.colls ++ [c] }, c)

/-- An engine fenced by a second mismatch (R250). -/
def fenceEngine (s : State) (e gn q : Nat) : State :=
  let s := fset (fset s (PIC_ENG.FENCED e) 1) (PIC_ENG.TESTED e) 0
  let s := event s 0x09 3 2 (e / 8) (gCtx (group s gn)) e (le 2 gn ++ le 4 q)
  ring (abortWhere s (fun c => c.chunks.any fun k => !k.freed && k.engine == e) aENGINE true) 4

/-- A contribution that passed every row is added to its chunk's slot (R250 to R252, R254). -/
def addContrib (s : State) (d : Nat) (f : Frame) (data : List Byte) (res : ResidueOutcome) : State :=
  let h := f.hdr
  let gn := hGroup h
  let q := hCseq h
  let idx := hChunk h
  let g := group s gn
  let x := gCtx g
  let n := (elemsOf (gFmtIn g) data.length).getD 0
  match haveRecord s x d gn q with
  | none => abortColl s gn q aQUOTA idx noPort true
  | some (s, c) =>
    let slot : Option (Option (State × Coll × Chunk)) :=
      match findChunk c idx with
      | some k => some (some (s, c, k))
      | none =>
        match nextEngine s d with
        | none => none
        | some e =>
          match charge s x d with
          | none => some none
          | some (on, sl) =>
            let k : Chunk := { idx := idx, n := n, acc := List.replicate n 0, stamp := s.now, engine := e, onDie := on, slot := sl }
            let c := { c with stamp := s.now, chunks := c.chunks ++ [k] }
            some (some (setColl (setPic s fun p => { p with nextEng := tset 0 p.nextEng d ((e % 8 + 1) % 8) }) c, c, k))
    match slot with
    | none => abortColl s gn q aENGINE idx noPort true
    | some none => abortColl s gn q aQUOTA idx noPort true
    | some (some (s, c, k)) =>
      let s := collTouch s c idx
      if collBad s c idx then abortColl s gn q aECC idx noPort true
      else if gCount g ≤ k.count then
        abortColl (picCheck s d gn x 11) gn q aEXCESS idx f.ingress true
      else
        let add := fun (s : State) =>
          let vs := (elements (gFmtIn g) n data).map w48of
          let acc := if k.count == 0 then vs else (k.acc.zip vs).map fun (a, b) => w48add a b
          let k := { k with acc := acc, count := k.count + 1 }
          let s := ctxBump (setColl s (putChunk c k)) x 7 1
          if k.count == gCount g then releaseResult s x gn q idx else s
        match res with
        | .none => add s
        | .retried =>
          let s := fset s (PIC_ENG.RETRIED k.engine) (min (fget s (PIC_ENG.RETRIED k.engine) + 1) (2 ^ 32 - 1))
          add (eventLim s (winKey 0x09 2 k.engine 0) 10000000 0x09 2 0 d x k.engine [])
        | .failed => fenceEngine (abortColl s gn q aRESIDUE idx noPort true) k.engine gn q

/-- CONTRIB_RX: a CONTRIB, or a RESULT, SEAL or ABORT that row 1 or 2 drops. -/
def contribRx (s : State) (d : Nat) (f : Frame) (res : ResidueOutcome) : State :=
  let h := f.hdr
  let gn := hGroup h
  let g := group s gn
  match picRows16 s d f with
  | some s => s
  | none =>
    let late := hasTomb s (gCtx g) gn (hCseq h)
    match picRows79 s f with
    | (some row, _) =>
      if hCseq h == 0xFFFFFF then picDrop s d f (gCtx g) 7 PIC_DROP_RANGE
      else if late then picDrop s d f (gCtx g) 10 PIC_DROP_LATE
      else abortColl (picCheck s d gn (gCtx g) row) gn (hCseq h) (if row == 8 then aAUTH else aBAD_CONTRIB) (hChunk h) f.ingress true
    | (none, data) => if late then picDrop s d f (gCtx g) 10 PIC_DROP_LATE else addContrib s d f data res

/-- RESULT_ACK_RX (R254): the port's bit cleared for chunks CHUNK − N + 1 to CHUNK. -/
def resultAckRx (s : State) (d : Nat) (f : Frame) : State :=
  let h := f.hdr
  let gn := hGroup h
  let g := group s gn
  match picRows16 s d f with
  | some s => s
  | none =>
    match picRows79 s f with
    | (some row, _) => picDrop s d f (gCtx g) row PIC_DROP_RANGE
    | (none, _) =>
      if hasTomb s (gCtx g) gn (hCseq h) then picDrop s d f (gCtx g) 10 PIC_DROP_LATE
      else
        match findColl s (gCtx g) gn (hCseq h) with
        | none => s
        | some c =>
          let lo := hChunk h + 1 - fieldAt f.body 0 4
          let hit := fun (k : Chunk) => lo ≤ k.idx && k.idx ≤ hChunk h && k.done && !k.freed
          let s := forEach (c.chunks.filter hit) s fun s k => collTouch s c k.idx
          if (c.chunks.filter hit).any fun k => collBad s c k.idx then abortColl s gn (hCseq h) aECC (hChunk h) noPort true
          else
          let chunks := c.chunks.map fun k =>
            if hit k then { k with acks := k.acks.filter (· != f.ingress) } else k
          let s := setColl s { c with chunks := chunks }
          forEach ((c.chunks.filter hit).map (·.idx)) s fun s i => freeSlot s (gCtx g) gn (hCseq h) i

/-- RESEND_REQ_RX (R255). -/
def resendReqRx (s : State) (d : Nat) (f : Frame) : State :=
  let h := f.hdr
  let gn := hGroup h
  let g := group s gn
  let q := hCseq h
  match picRows16 s d f with
  | some s => s
  | none =>
    match picRows79 s f with
    | (some row, _) => picDrop s d f (gCtx g) row PIC_DROP_RANGE
    | (none, _) =>
      if hasTomb s (gCtx g) gn q then picDrop s d f (gCtx g) 10 PIC_DROP_LATE
      else
        match (findColl s (gCtx g) gn q).bind fun c => (findChunk c (hChunk h)).map fun k => (c, k) with
        | some (c, k) =>
          if !k.done || k.freed then unitDrop (bump s PIC_DROP_RANGE) f
          else
          let s := collTouch s c k.idx
          if collBad s c k.idx then abortColl s gn q aECC k.idx noPort true
          else bump (sendRed s gn q tRESULT k.idx k.result (some (hSrc h))) PIC_RESENDS
        | none => unitDrop (bump s PIC_DROP_RANGE) f

/-- SUPPRESS_REPORT (R162, R257): the oldest suppressed copy reported by the switch core. Every copy of a collective that still
runs counts, and its port once. -/
def suppressReport (s : State) : State :=
  match s.core.reports with
  | [] => s
  | (p, f) :: rest =>
    let s := setCore s fun c => { c with reports := rest }
    let h := f.hdr
    let x := hCtx h
    if hType h != tRESULT then s
    else
      match (findColl s x (hGroup h) (hCseq h)).bind fun c => (findChunk c (hChunk h)).map fun k => (c, k) with
      | some (c, k) =>
          let c := putChunk c { k with acks := k.acks.filter (· != p) }
          let c := { c with supp := c.supp + 1, waived := if c.waived.contains p then c.waived else c.waived ++ [p] }
          freeSlot (setColl s c) x (hGroup h) (hCseq h) k.idx
      | none => s

/-! Time (R243, R253, R263). -/

/-- COLLECTIVE_TIMEOUT (R253). -/
def collTimeout (s : State) (x gn q : Nat) : State :=
  match findColl s x gn q with
  | none => s
  | some c =>
    let T := gT (group s gn)
    match c.chunks.find? fun k => !k.done && s.elapsed k.stamp T with
    | some k => abortColl s gn q aTIMEOUT k.idx noPort true
    | none => if s.elapsed c.stamp T then abortColl s gn q aTIMEOUT noChunk noPort true else s

/-- ACK_TIMEOUT (R253). -/
def ackTimeout (s : State) (x gn q : Nat) : State :=
  match findColl s x gn q with
  | none => s
  | some c =>
    match c.chunks.find? fun k => k.done && !k.freed && !k.acks.isEmpty && s.elapsed k.doneAt (gT (group s gn)) with
    | some k => abortColl s gn q aACK_TIMEOUT k.idx (k.acks.foldl min 1024) true
    | none => s

/-- TOMBSTONE_EXPIRE (R243). -/
def tombExpire (s : State) (x gn q : Nat) : State :=
  setPic s fun p => { p with tombs := p.tombs.filter fun t => !(t.ctx == x && t.group == gn && t.cseq == q && t.expiry ≤ s.now) }

/-- MIRROR_TIMEOUT (R263): the SEAL record is unconfirmed for T. -/
def mirrorTimeout (s : State) (gn : Nat) : State :=
  let g := group s gn
  if gMirror g && gValid g && g.unconf.isSome && !g.mirrorDown && s.elapsed g.unconfAt (gT g) then
    event (setGroup s gn fun e => { e with mirrorDown := true }) 0x09 6 2 (gDie g) (gCtx g) gn (le 4 (wget g.w4 PIC_GRP_W4.BUDDY))
  else s

/-- A GET_RESP matched to an outstanding GET (R262, R338): MIRRORED passes the record. A response of LEN 0 confirms
nothing. -/
def mirrorConfirm (s : State) (f : Frame) (m : MirrorGet) : State :=
  let s := setPic s fun p => { p with gets := p.gets.filter (· != m) }
  if hLen f.hdr == 0 then s
  else
    let s := setReg s (PIC_LOGMIR m.ctx) (BitVec.ofNat 64 (max (getReg s (PIC_LOGMIR m.ctx)).toNat m.posEnd))
    setGroup s m.group fun e =>
      match e.unconf with
      | some p => if p < m.posEnd then { e with unconf := none } else e
      | none => e

/-! Uncorrectable lines (R259, Table 13.2). -/

/-- A reader has met an uncorrectable line at ring offset o of the log of context x: a record of a collective still open
aborts it; the flag UNUSABLE of any other is set, with an event whether or not it was before (R259). -/
def logHit (s : State) (x o : Nat) : State :=
  let ring := ringSize s x
  let hit := fun (r : LogRec) => ring != 0 && (o + ring - r.pos % ring) % ring < r.len && logTrim s x ≤ r.pos
  match (tget [] s.pic.logs x).find? hit with
  | none => s
  | some r =>
    if !r.shut && (findColl s x r.group r.cseq).isSome then abortColl s r.group r.cseq aECC noChunk noPort true
    else
      match ctxLoc s x (winBytes s x + r.pos % ring + 1) with
      | none => s
      | some (d, P) =>
        let s := memTouchPart s d P 1
        event (if writeBlocked s d P 1 then s else memWrite s d P [memByte s d P ||| 1]) 0x09 7 2 d x x (le 8 r.pos)

/-! Group commands (R239, R240). -/

/-- STATE of Table 10.2, for every group command: the module is not WOVEN, MAINT or DRAINING. -/
def grpState (s : State) : Bool := !(s.mode == mWOVEN || s.mode == mMAINT || s.mode == mDRAINING)

/-- Code of a WRITE of the staged entry (Table 10.2), STATE apart. -/
def grpCheck (s : State) : Nat :=
  let w0 := getReg s PIC_GRP_W0
  let w4 := getReg s PIC_GRP_W4
  let x := wget w0 PIC_GRP_W0.CTX
  let c := wget w0 PIC_GRP_W0.CHAN
  let log := wbit w0 PIC_GRP_W0.LOG
  let mir := wbit w0 PIC_GRP_W0.MIRROR
  let sc := fget s PIC_GRP_W2.SCALE
  if !ctxUsable s x then 2
  else if chanUse s c != 2 || chanUse s (c + 8) != 3 || chanLossy s c then 3
  else if (match direct s (refDie s) 6 (wget w0 PIC_GRP_W0.MCG) with
    | some e => ((mcMembers e).filter fun p => isPort s p).isEmpty
    | none => true) then 4
  else if 11 < wget w0 PIC_GRP_W0.FMT_IN || 11 < wget w0 PIC_GRP_W0.FMT_OUT ||
      (wbit w0 PIC_GRP_W0.SCALE_EN && (bits sc 23 8 == 0 || bits sc 23 8 == 255)) then 5
  else if (log && logBytes s x == 0) || (mir && !log) || (mir && chanUse s (wget w4 PIC_GRP_W4.MCHAN) != 4) then 6
  else if wbit w0 PIC_GRP_W0.HANDOFF && regionOwner s (wget w4 PIC_GRP_W4.REGION) != x then 7
  else if wbit w0 PIC_GRP_W0.ENC && (jobKey s x (wget w0 PIC_GRP_W0.KEYIDX)).isNone then 8
  else 0

/-- The end of a group command. -/
def grpDone (s : State) (code : Nat) : State := ring (fset (fset s PIC_GRP_STAT.BUSY 0) PIC_GRP_STAT.CODE code) 4

/-- A valid entry replaced or invalidated: its collectives abort and its role generation advances. -/
def grpReplace (s : State) (gn : Nat) : State :=
  if gValid (group s gn) then
    genAdvance (abortWhere s (fun c => c.group == gn) aGROUP_CHANGED true) (64 + gn)
  else s

/-- Completion of a WRITE or INVALIDATE, now or when the generation's wait ends (R70). -/
def grpFinish (s : State) (gn : Nat) (was : Bool) : State :=
  if was && genWaits s (64 + gn) then
    fset (setPic s fun p => { p with grpWait := some gn }) PIC_GRP_STAT.BUSY 1
  else grpDone s 0

/-- INVALIDATE of an entry. -/
def grpClear (s : State) (gn : Nat) : State :=
  setGroup (grpReplace s gn) gn fun e => { e with w0 := putBits e.w0 0 1 0 }

/-- A group command (R239). A WRITE clears MIRROR_DOWN; the last SEAL record mirrored still awaits its confirmation (R263). -/
def grpCommand (s : State) (op : Nat) : State :=
  let gn := fget s PIC_GRP_SEL.GROUP
  let g := group s gn
  if grpState s then grpDone s 1
  else
  match op with
  | 0 =>
    let s := setReg (setReg (setReg s PIC_GRP_W0 g.w0) PIC_GRP_W1 g.w1) PIC_GRP_W2 g.w2
    let s := setReg (setReg (setReg s PIC_GRP_W3 g.w3) PIC_GRP_W4 g.w4) PIC_GRP_W5 g.w5
    grpDone (fset s PIC_GRP_W4.GEN (groupGen s gn)) 0
  | 1 =>
    let code := grpCheck s
    if code != 0 then grpDone s code
    else
      let was := gValid g
      let s := grpReplace s gn
      let w4 := putBits (getReg s PIC_GRP_W4) 32 8 0
      let g' : GroupSt :=
        { w0 := getReg s PIC_GRP_W0, w1 := getReg s PIC_GRP_W1, w2 := getReg s PIC_GRP_W2, w3 := getReg s PIC_GRP_W3,
          w4 := w4, w5 := getReg s PIC_GRP_W5, rgnGen := BitVec.ofNat 8 (regionGen s (wget w4 PIC_GRP_W4.REGION)),
          unconf := g.unconf, unconfAt := g.unconfAt }
      grpFinish (setPic s fun p => { p with groups := tset {} p.groups gn g' }) gn was
  | 2 => grpFinish (grpClear s gn) gn (gValid g)
  | _ => grpDone (abortWhere s (fun c => c.group == gn) aHOST true) 0

/-- Every valid entry of context x invalidated (R240). -/
def picUnpick (s : State) (x : Nat) : State :=
  forEach ((s.pic.groups.filter fun e => gValid e.2 && gCtx e.2 == x).map (·.1)) s grpClear

/-! Registers (R5, R239, R250, R261). -/

/-- Field-range rules of the reduction registers. -/
def picRange (s : State) (off : Nat) (w : Word) : Bool :=
  if off == PIC_GRP_W1 then
    let n := wget w PIC_GRP_W1.COUNT
    let c := wget w PIC_GRP_W1.CHUNKS
    n == 0 || 1048576 < n || c == 0 || 1048576 < c
  else if off == PIC_GRP_W2 then 60000 < wget w PIC_GRP_W2.TIMEOUT_MS
  else if 0x2410008 ≤ off && off < 0x2418000 && off % 32 == 8 then
    w.toNat < (getReg s off).toNat || (getReg s (off - 8)).toNat < w.toNat
  else false

/-- State rules of the reduction registers. -/
def picState (s : State) (off : Nat) (w : Word) : Bool :=
  if off == PIC_GRP_CMD then fbit s PIC_GRP_STAT.BUSY
  else if off == PIC_ENG_CMD then wbit w PIC_ENG_CMD.UNFENCE && !fbit s (PIC_ENG.TESTED (wget w PIC_ENG_CMD.ENGINE))
  else false

/-- Effects of writes of the reduction registers. -/
def picEffect (s : State) (off : Nat) (w : Word) : State :=
  if off == PIC_GRP_CMD then grpCommand s (wget w PIC_GRP_CMD.OP)
  else if off == PIC_ENG_CMD then
    if wbit w PIC_ENG_CMD.UNFENCE then fset s (PIC_ENG.FENCED (wget w PIC_ENG_CMD.ENGINE)) 0 else s
  else if 0x2410008 ≤ off && off < 0x2418000 && off % 32 == 8 then
    let x := (off - 0x2410008) / 32
    setPic s fun p => { p with logHigh := tset false p.logHigh x false
                               logs := tmod [] p.logs x (·.filter fun r => w.toNat < r.pos + r.len) }
  else s

/-! The commands. -/

/-- CONTRIB_RX (R243). -/
def execContribRx (die : Fin 4) (residue : ResidueOutcome) (s : State) : Host.Outcome State Fault Refusal :=
  live s fun s => takeIo s die.val (fun t => t == tCONTRIB || t == tRESULT || t == tSEAL || t == tABORT)
    fun s f => contribRx s die.val f residue

/-- RESULT_ACK_RX (R254). -/
def execResultAckRx (die : Fin 4) (s : State) : Host.Outcome State Fault Refusal :=
  live s fun s => takeIo s die.val (· == tRESULT_ACK) fun s f => resultAckRx s die.val f

/-- RESEND_REQ_RX (R255). -/
def execResendReqRx (die : Fin 4) (s : State) : Host.Outcome State Fault Refusal :=
  live s fun s => takeIo s die.val (· == tRESEND_REQ) fun s f => resendReqRx s die.val f

/-- COLLECTIVE_SEAL (R256). -/
def execCollectiveSeal (ctx : Fin 1024) (group : Fin 65536) (cseq : BitVec 24) (s : State) :
    Host.Outcome State Fault Refusal := live s fun s => sealColl s ctx.val group.val cseq.toNat

/-- COLLECTIVE_TIMEOUT (R253). -/
def execCollectiveTimeout (ctx : Fin 1024) (group : Fin 65536) (cseq : BitVec 24) (s : State) :
    Host.Outcome State Fault Refusal := live s fun s => collTimeout s ctx.val group.val cseq.toNat

/-- ACK_TIMEOUT (R253). -/
def execAckTimeout (ctx : Fin 1024) (group : Fin 65536) (cseq : BitVec 24) (s : State) :
    Host.Outcome State Fault Refusal := live s fun s => ackTimeout s ctx.val group.val cseq.toNat

/-- TOMBSTONE_EXPIRE (R243). -/
def execTombstoneExpire (ctx : Fin 1024) (group : Fin 65536) (cseq : BitVec 24) (s : State) :
    Host.Outcome State Fault Refusal := live s fun s => tombExpire s ctx.val group.val cseq.toNat

/-- MIRROR_TIMEOUT (R263). -/
def execMirrorTimeout (group : Fin 65536) (s : State) : Host.Outcome State Fault Refusal :=
  live s fun s => mirrorTimeout s group.val

/-- SUPPRESS_REPORT (R257). -/
def execSuppressReport (s : State) : Host.Outcome State Fault Refusal := live s suppressReport

end Sys2Proof.Machine
end

