-- ==== Sys2Proof/Machine/Bobbin.lean ====
section
/-! DEFINITION. The bobbin fabric (chapter 11): bobbin stores, token queues, the firing of stitches, how a region starts and
leaves RUNNING, and the work its units hold. -/

namespace Sys2Proof.Machine

/-! Bobbins. -/

/-- Bobbin n = 256c + b. -/
def bob (s : State) (n : Nat) : Bobbin := tget {} s.bob.bobs n
def setBobbin (s : State) (n : Nat) (f : Bobbin → Bobbin) : State :=
  setBob s fun b => { b with bobs := tmod {} b.bobs n f }

/-- Bobbins of region r in ascending order (R269). -/
def regionBobs (s : State) (r : Nat) : List Nat := (s.bob.bobs.filter fun e => e.2.region == r).map (·.1)

/-- Index of a bobbin within its region (R269). -/
def bobIndex (s : State) (n : Nat) : Nat := ((regionBobs s (bob s n).region).filter (· < n)).length

/-- Die code of the bobbin's die. -/
def bobDie (n : Nat) : Nat := 4 + n / 256

/-! The bobbin store (R278). -/

/-- Bytes of a bobbin store. -/
def storeSize : Nat := 0x200000

/-- Do n bytes from a lie within the store? -/
def inStore (a n : Nat) : Bool := a + n ≤ storeSize

/-- Byte a of a store: after a die reset an unlisted byte is what nothing fixes (R373). -/
def storeByte (b : Bobbin) (a : Nat) : Byte :=
  match b.lost with
  | none => tget 0 b.store a
  | some base => tget (BitVec.ofNat 8 (Config.freeValue (base + a)).toNat) b.store a

/-- n bytes of a store from a. -/
def storeBytes (b : Bobbin) (a n : Nat) : List Byte := (List.range n).map fun k => storeByte b (a + k)

/-- A store with one byte set; after a die reset every byte written is listed. -/
def storeSet (lost : Option Nat) (t : Tab Byte) (a : Nat) (v : Byte) : Tab Byte :=
  if lost.isSome then tput (tdel t a) a v else tset 0 t a v

/-- A store with bytes put from a. -/
def storePut (lost : Option Nat) (t : Tab Byte) (a : Nat) : List Byte → Tab Byte
  | [] => t
  | x :: xs => storePut lost (storeSet lost t a x) (a + 1) xs

/-- Does word w of the store lie among n bytes from a? -/
def wordIn (a n w : Nat) : Bool := n != 0 && a / 8 ≤ w && w ≤ (a + n - 1) / 8

/-- Does a read of n bytes from a meet a double-bit error? -/
def storeBad (b : Bobbin) (a n : Nat) : Bool := b.eccBad.any (wordIn a n)

/-- Single-bit errors met by a read of n bytes from a: corrected, and counted for the region. -/
def storeFix (s : State) (n a len : Nat) : State :=
  let b := bob s n
  let hit := (b.eccOne.filter (wordIn a len)).length
  if hit == 0 then s
  else
    let s := setBobbin s n fun b => { b with eccOne := b.eccOne.filter fun w => !wordIn a len w }
    if b.region < 64 then bumpBy s (PMC_STORE_CE b.region) hit else s

/-- Bytes written to a store from a; a word written whole holds valid check bits. -/
def storeWrite (s : State) (n a : Nat) (bs : List Byte) : State :=
  let whole := fun w => a ≤ 8 * w && 8 * w + 8 ≤ a + bs.length
  setBobbin s n fun b =>
    { b with store := storePut b.lost b.store a bs, eccBad := b.eccBad.filter (fun w => !whole w),
             eccOne := b.eccOne.filter (fun w => !whole w) }

/-- n bytes that nothing fixes: free values. -/
def freeBytes (s : State) (n : Nat) : List Byte × State :=
  ((List.range n).map fun k => BitVec.ofNat 8 (Config.freeValue (s.free + k)).toNat, { s with free := s.free + n })

/-- n bytes of a store from a become undefined (R304). -/
def storeUndefine (s : State) (n a len : Nat) : State :=
  let (bs, s) := freeBytes s len
  storeWrite s n a bs

/-! Token queues (R280). -/

/-- Tokens of queue q. -/
def queueOf (b : Bobbin) (q : Nat) : List Token := tget [] b.queues q

/-- Is the queue full? -/
def queueFull (b : Bobbin) (q : Nat) : Bool := 16 ≤ (queueOf b q).length

/-- Is there no room for one more token on the way to queue q of bobbin n, those already on their way counted? -/
def targetFull (s : State) (n q : Nat) : Bool :=
  let b := bob s n
  16 ≤ (queueOf b q).length + (b.inFlight.filter fun f => f.tok.isSome && f.queue == q).length

/-- A token put at the tail of a queue. -/
def pushToken (s : State) (n q : Nat) (t : Token) : State :=
  setBobbin s n fun b => { b with queues := tmod [] b.queues q (· ++ [t]) }

/-- Header of a token (Table 11.5). -/
def tokHdr (kind srcB srcDie srcRgn gen queue ctx : Nat) : Word :=
  BitVec.ofNat 64 (kind + srcB % 256 * 2 ^ 8 + srcDie % 4 * 2 ^ 16 + srcRgn % 64 * 2 ^ 18 + gen % 256 * 2 ^ 24 +
    queue % 16 * 2 ^ 32 + ctx % 1024 * 2 ^ 36)

/-- Header of a token that bobbin n sends. -/
def sentHdr (s : State) (n kind gen queue : Nat) : Word :=
  let r := (bob s n).region
  tokHdr kind (n % 256) (n / 256) r gen queue (regionOwner s r)

/-! Work of the units (R283). -/

/-- Kinds of a copy descriptor and fields of the descriptors. -/
def dF (d : List Byte) (off n : Nat) : Nat := fieldAt d off n

/-- Address of row i of an operand. -/
def rowAddr (base stride i : Nat) : Nat := base + i * stride

/-- Store ranges an MMA or vector operation writes: address and bytes. -/
def mmaDest (d : List Byte) : List (Nat × Nat) :=
  (List.range (dF d 4 2)).map fun i => (rowAddr (dF d 0x20 4) (dF d 0x24 4) i, 4 * dF d 6 2)

def vopDest (d : List Byte) : List (Nat × Nat) :=
  let n := dF d 4 4
  match dF d 0 1 with
  | 0x0D => [(dF d 0x14 4, dataBytes (dF d 1 1) n)]
  | 0x0E => [(dF d 0x14 4, 4)]
  | 0x0F => [(dF d 0x14 4, 4), (dF d 0x10 4, 4)]
  | _ => [(dF d 0x14 4, 4 * n)]

/-- Row i of a copy: source and destination (R285); the index of a gather or scatter from the list at IDX. -/
def copyRow (b : Bobbin) (d : List Byte) (i : Nat) : Nat × Nat :=
  let k := dF d 0 1
  let idx := unle (storeBytes b (dF d 0xC 4 + 4 * i) 4)
  (rowAddr (dF d 0x10 8) (dF d 0x18 8) (if k == 4 then idx else i),
   rowAddr (dF d 0x20 8) (dF d 0x28 8) (if k == 5 then idx else i))

/-- Bytes that a discarded copy would have written become undefined. -/
def copyUndefine (s : State) (n owner : Nat) (w : Work) : State :=
  let d := w.desc
  let len := dF d 8 4
  match dF d 0 1 with
  | 1 => s
  | 3 | 5 =>
    forRange (dF d 4 4) s fun s i =>
      let o := (copyRow (bob s n) d i).2
      if inWindow s owner o len then
        let (bs, s) := freeBytes s len
        ctxWrite s owner o bs
      else s
  | _ => forRange (dF d 4 4) s fun s i => storeUndefine s n (copyRow (bob s n) d i).2 len

/-- Entry of frame `id` in a queue, the frame itself or a reference to it. -/
def entOf (id : Nat) : QEnt → Bool
  | .frame f => f.id == id
  | .ref m _ => m == id

/-- The SEND frame `id` is taken out of a VOQ. -/
def stripVoq (s : State) (k id : Nat) : State :=
  let q := voq s k
  match (q.ents.zip (List.range q.ents.length)).find? fun x => entOf id x.1 with
  | none => s
  | some (e, n) => voqErase s k n e

/-- Has the first cell of SEND frame `id` crossed: of a multicast frame, to a member, from its own queue or from a residue
reference? -/
def sendBegun (s : State) (id : Nat) : Bool :=
  if s.core.mc.any (·.1 == id) then !(tget {} s.core.mc id).begun.isEmpty
  else !s.core.voqs.any fun e => (e.2.ents.zip (List.range e.2.ents.length)).any fun x => entOf id x.1 && !entBegun e.2 x.2 x.1

/-- The SEND frames of a bobbin whose first cell has not crossed are discarded (R304). -/
def discardSends (s : State) (n : Nat) : State :=
  forEach ((bob s n).send.filter fun w => !w.crossed) s fun s w =>
    if sendBegun s w.frameId then s
    else
      let s := forEach (s.core.voqs.map (·.1)) s fun s k => stripVoq s k w.frameId
      ctxBump (setCore s fun c => { c with mc := tdel c.mc w.frameId }) (regionOwner s (bob s n).region) 4 1

/-- Array time of the MMA of bobbin n that ends now: 16 arrays while its region was RUNNING since it began (R447). -/
def mmaTime (s : State) (n : Nat) (w : Work) : Nat :=
  16 * (w.ran + if regionState s (bob s n).region == rRUNNING then s.now - w.stamp else 0)

/-- The MMA in progress of bobbin n with its time so far put by, as its region leaves RUNNING; its clock begun again, as it
enters. -/
def mmaPause (s : State) (n : Nat) : State :=
  setBobbin s n fun b => { b with mma := match b.mma with
    | [] => []
    | w :: t => { w with ran := w.ran + (s.now - w.stamp), stamp := s.now } :: t }
def mmaResume (s : State) (n : Nat) : State :=
  setBobbin s n fun b => { b with mma := match b.mma with
    | [] => []
    | w :: t => { w with stamp := s.now } :: t }

/-- Array time added to account k of bobbin n and of its region's owner (R445, R447, R448). -/
def tdAdd (s : State) (n k t : Nat) : State :=
  ctxBump (bumpBy s (PMC_TD n k) t) (regionOwner s (bob s n).region) (15 + k) t

/-- Every bobbin of a region stops (R304): needles, work in flight, queues and inlets. -/
def clearBobbin (s : State) (owner n : Nat) : State :=
  let b := bob s n
  let s := match b.mma with
    | w :: _ => tdAdd s n 1 (mmaTime s n w)
    | [] => s
  let s := forEach b.mma s fun s w => forEach (mmaDest w.desc) s fun s r => storeUndefine s n r.1 r.2
  let s := forEach b.vop s fun s w => forEach (vopDest w.desc) s fun s r => storeUndefine s n r.1 r.2
  let s := forEach b.copy s fun s w => copyUndefine s n owner w
  let s := discardSends s n
  setBobbin s n fun b =>
    { b with needles := [], mma := [], vop := [], copy := [], send := [], queues := [], inlets := [] }

/-- `k` flits dropped and counted against region r: at its boundary, or at their sender in r where their way is closed. -/
def flitDrops (s : State) (r k : Nat) : State :=
  if r < 64 then ctxBump (bumpBy s (BOB_TOK_DROP r) k) (regionOwner s r) 21 k else s

/-- One flit dropped. -/
def flitDrop (s : State) (r : Nat) : State := flitDrops s r 1

/-- Is the flit of a stopped region r to be discarded: a token within r, or copy data of r? -/
def flitOf (r n : Nat) (s : State) (f : Flit) : Bool :=
  f.srcRgn == r && (f.tok.isNone || (bob s n).region == r)

/-- Copy data of region r on its way is discarded, and what it would have written where R291 lets it is undefined. -/
def discardFlits (s : State) (r : Nat) : State :=
  forEach (s.bob.bobs.map (·.1)) s fun s n =>
    let b := bob s n
    let hit := b.inFlight.filter (flitOf r n s)
    if hit.isEmpty then s
    else
      let R := b.region
      let passes := fun (f : Flit) => R == r ||
        (R < 64 && regionOwner s R == f.ctx && f.gen.toNat == regionGen s R && regionState s R == rRUNNING)
      let s' := setBobbin s n fun b => { b with inFlight := b.inFlight.filter fun f => !flitOf r n s f }
      forEach (hit.filter fun f => f.tok.isNone && passes f) s' fun s f => storeUndefine s n f.addr f.data.length

/-- Region r stops: everything in flight in it ends (R304). -/
def clearRegion (s : State) (r : Nat) : State :=
  let owner := regionOwner s r
  discardFlits (forEach (regionBobs s r) s fun s n => clearBobbin s owner n) r

/-- REGION_END event and the region's interrupt source: 0 DONE, 1 STOP, 2 FAULT. -/
def regionEnd (s : State) (r how : Nat) : State :=
  let f := (getReg s (BOB_RGN_STAT r)).toNat / 16 % 2 ^ 48
  ring (event s 0x0A 1 (if how == 2 then 2 else 0) (4 + r / 16) (evCtx (regionOwner s r)) r (le 1 how ++ le 8 f)) (144 + r)

/-- STOP of a RUNNING region (R304). -/
def stopRegion (s : State) (r : Nat) : State :=
  regionEnd (fset (clearRegion s r) (BOB_RGN_STAT.STATE r) rWOVEN) r 1

/-- A fault of Table 11.8 at stitch pc of needle j of bobbin n. A region that is no longer RUNNING only loses the work. -/
def regionFault (s : State) (n j pc code value : Nat) : State :=
  let r := (bob s n).region
  if regionState s r != rRUNNING then clearRegion s r
  else
    let s := fset (fset s (BOB_RGN_STAT.FAULT r) code) (BOB_RGN_STAT.FVALUE r) value
    let s := fset (fset s (BOB_RGN_STAT.FNEEDLE r) j) (BOB_RGN_STAT.FSTITCH r) pc
    let s := fset s (BOB_RGN_STAT.FBOBBIN r) (bobIndex s n)
    regionEnd (fset (clearRegion s r) (BOB_RGN_STAT.STATE r) rWOVEN) r 2

/-- Fault codes of Table 11.8. -/
def fBAD_ADDR : Nat := 0x01
def fSTORE_ECC : Nat := 0x02
def fWINDOW : Nat := 0x03
def fMEM_ECC : Nat := 0x04
def fROUTE : Nat := 0x05
def fPROGRAM : Nat := 0x06
def fINLET : Nat := 0x07
def fSEND : Nat := 0x08
def fTHERMAL : Nat := 0x09
def fFELL_OFF : Nat := 0x0A

/-- Every started needle has halted: DONE, and the region reads WOVEN (R304). -/
def regionDone (s : State) (r : Nat) : State :=
  if (regionBobs s r).any fun n => (bob s n).needles.any fun e => e.2.running then s
  else
    let s := forEach (regionBobs s r) s mmaPause
    regionEnd (fset (fset s (BOB_RGN_STAT.DONE r) 1) (BOB_RGN_STAT.STATE r) rWOVEN) r 0

/-- START of a WOVEN region (R281, R303). -/
def startRegion (s : State) (r : Nat) : State :=
  let s := setReg s (BOB_RGN_STAT r) (BitVec.ofNat 64 rRUNNING)
  let s := forEach (regionBobs s r) s fun s n =>
    setBobbin (mmaResume s n) n fun b =>
      { b with queues := [], inlets := [],
               needles := ((List.range 4).filter fun j => b.record.needles.getLsbD j).map fun j =>
                 (j, { running := true, pc := b.record.entry.getD j 0 }) }
  regionDone s r

/-- Is region r valid in the active pricking? -/
def regionValid (s : State) (r : Nat) : Bool :=
  match s.sys.active with
  | some im => im.cp.any fun e => e.1 == r
  | none => false

/-- Completion code of START and STOP (R303). -/
def regionCode (s : State) (op r : Nat) : Nat :=
  if !regionValid s r then 3
  else if op == 1 then
    if regionState s r != rWOVEN then 1
    else if regionOwner s r == 1024 || ctxState s (regionOwner s r) != 2 then 2 else 0
  else if regionState s r != rRUNNING then 1 else 0

/-- A region command (R303, R304). -/
def regionCommand (s : State) (op r : Nat) : State :=
  if op == 0 then s
  else
    let code := regionCode s op r
    let s := fset s BOB_RGN_CMDSTAT.CODE code
    if code != 0 then s else if op == 1 then startRegion s r else stopRegion s r

/-! Firing (R281 to R284). -/

/-- Fields of a stitch (Table 11.6). -/
def sOp (w : Word) : Nat := bits w.toNat 56 8
def sW (w : Word) : Bool := bit w.toNat 55
def sP (w : Word) : Bool := bit w.toNat 54
def sTq (w : Word) : Nat := bits w.toNat 50 4
def sRd (w : Word) : Nat := bits w.toNat 46 4
def sRa (w : Word) : Nat := bits w.toNat 42 4
def sRb (w : Word) : Nat := bits w.toNat 38 4
def sImm (w : Word) : Nat := bits w.toNat 0 32

/-- Is the operation asynchronous? -/
def isAsync (op : Nat) : Bool := 0x20 ≤ op && op ≤ 0x23

/-- Needle j. -/
def needle (b : Bobbin) (j : Nat) : Needle := tget {} b.needles j

/-- Register k of needle j; G0 reads zero. -/
def gReg (b : Bobbin) (j k : Nat) : Word := if k == 0 then 0 else tget 0 (needle b j).regs k

/-- Needle j changed. -/
def setNeedle (s : State) (n j : Nat) (f : Needle → Needle) : State :=
  setBobbin s n fun b => { b with needles := tmod {} b.needles j f }

/-- Register k of needle j written; a write of G0 is ignored. -/
def setG (s : State) (n j k : Nat) (v : Word) : State :=
  if k == 0 then s else setNeedle s n j fun d => { d with regs := tset 0 d.regs k v }

/-- Stitch that needle j is at. -/
def stitchAt (b : Bobbin) (j : Nat) : Word := b.record.prog.getD (needle b j).pc 0

/-- Destination bobbin of route entry k and its KIND (Table 11.11). -/
def routeKind (b : Bobbin) (k : Nat) : Nat := bits (b.record.routes.getD k 0).toNat 0 2
def routeDest (b : Bobbin) (n k : Nat) : Nat :=
  let e := (b.record.routes.getD k 0).toNat
  256 * (if routeKind b k == 1 then n / 256 else bits e 2 2) + bits e 8 8

/-- One handshake of the block of pace monitor n, in units of 2^-32 ns: at the rate it shows, or, before it shows one, at the
guaranteed 1,200 million a second (Table 2.1). -/
def handshake (s : State) (n : Nat) : Nat :=
  let rate := fget s (PMC_PACE.RATE n)
  2 ^ 32 * 1000 / (if rate == 0 then 1200 else rate)

/-- Thermal sensor of bobbin n: its 4 × 4 group of bobbins (R41, R269). -/
def bobSensor (n : Nat) : Nat := 16 * (n / 256) + 4 * (n % 256 / 64) + n % 16 / 4

/-- Does the issue limit of R41 hold needle j of bobbin n back: two or four handshakes from one stitch to the next? -/
def throttled (s : State) (n j : Nat) : Bool :=
  let l := tget 0 s.sys.thermal (bobSensor n)
  let t := (needle (bob s n) j).issueAt
  l != 0 && t != 0 && s.mono < t - 1 + 2 * l * handshake s n

/-- Is needle j held by something other than its own token queue: the issue limit of R41, a full target queue, eight
asynchronous stitches outstanding, or a FENCE? -/
def heldBack (s : State) (n j : Nat) : Bool :=
  let b := bob s n
  let w := stitchAt b j
  let op := sOp w
  throttled s n j || (isAsync op && 8 ≤ (needle b j).pendAsync) ||
    (op == 0x28 && (needle b j).pendAsync != 0) ||
    (op == 0x08 && targetFull s n (bits (sImm w) 4 4)) ||
    (op == 0x07 && routeKind b (bits (sImm w) 0 4) != 0 && reach s (bobDie n) (bobDie (routeDest b n (bits (sImm w) 0 4))) &&
      targetFull s (routeDest b n (bits (sImm w) 0 4)) (bits (sImm w) 4 4))

/-- Does needle j wait for the token at the head of queue q, being held by nothing else? -/
def wantsToken (s : State) (n q j : Nat) : Bool :=
  let b := bob s n
  (needle b j).running && sW (stitchAt b j) && sTq (stitchAt b j) == q && !heldBack s n j

/-- May needle j of bobbin n fire its stitch? -/
def canFire (s : State) (n j : Nat) : Bool :=
  let b := bob s n
  let w := stitchAt b j
  dieUp s (bobDie n) && b.region < 64 && regionState s b.region == rRUNNING && (needle b j).running && !heldBack s n j &&
    (!sW w || (!(queueOf b (sTq w)).isEmpty && !(List.range j).any (wantsToken s n (sTq w))))

/-- What a stitch does: it fires and the next stitch is known; the needle halts; or the region faults with a value. -/
inductive Fired where
  | go (s : State) (pc : Nat)
  | halt (s : State)
  | fault (s : State) (code value : Nat)
deriving DecidableEq, Repr

/-- Needle j of bobbin n fires the stitch it is at, if a test accepts it; otherwise nothing happens. The head token of TQ
is removed after firing where P is set. A needle whose next stitch lies beyond its program faults at this one. -/
def fire (s : State) (n j : Nat) (p : Bobbin → Word → Bool) (f : State → Bobbin → Word → Fired) : State :=
  let b := bob s n
  let w := stitchAt b j
  let pc := (needle b j).pc
  let pop := fun (s : State) =>
    if sP w then setBobbin s n fun b => { b with queues := tmod [] b.queues (sTq w) (·.drop 1) } else s
  if !canFire s n j || !p b w then s
  else if b.progBad.contains pc then regionFault s n j pc fSTORE_ECC 0
  else
    match f s b w with
    | .fault s code value => regionFault s n j pc code value
    | .halt s => regionDone (setNeedle (pop s) n j fun d => { d with running := false }) b.region
    | .go s next =>
      if b.record.prog.length ≤ next then regionFault s n j pc fFELL_OFF 0
      else setNeedle (pop s) n j fun d => { d with pc := next, issueAt := s.mono + 1 }

/-- Fire an operation with the next stitch following. -/
def fireOp (s : State) (n j op : Nat) (f : State → Bobbin → Word → Fired) : State := fire s n j (fun _ w => sOp w == op) f

/-- The next stitch in order. -/
def nextPc (b : Bobbin) (j : Nat) : Nat := (needle b j).pc + 1

/-- A stitch that only writes RD. -/
def fireRd (s : State) (n j op : Nat) (f : State → Bobbin → Word → Word) : State :=
  fireOp s n j op fun s b w => .go (setG s n j (sRd w) (f s b w)) (nextPc b j)

/-- Values of RA, RB and IMM of a stitch. -/
def vRa (b : Bobbin) (j : Nat) (w : Word) : Word := gReg b j (sRa w)
def vRb (b : Bobbin) (j : Nat) (w : Word) : Word := gReg b j (sRb w)
def vRd (b : Bobbin) (j : Nat) (w : Word) : Word := gReg b j (sRd w)
def vImm (w : Word) : Word := BitVec.ofInt 64 (sext 32 (sImm w))

/-- An asynchronous stitch is accepted: its work is queued and its needle has one more outstanding. -/
def accept (s : State) (n j : Nat) (w : Word) (desc : List Byte) (kind : Nat) (put : Bobbin → Work → Bobbin) : State :=
  let b := bob s n
  let k : Work := { needle := j, desc := desc, post := bit (sImm w) 4, queue := bits (sImm w) 0 4, w0 := vRa b j w, kind := kind,
                    pc := (needle b j).pc, stamp := s.now, frameId := s.core.nextId }
  setNeedle (setBobbin s n fun b => put b k) n j fun d => { d with pendAsync := d.pendAsync + 1 }

/-- May the work's completion token be posted? -/
def postRoom (s : State) (n : Nat) (w : Work) : Bool := !w.post || !queueFull (bob s n) w.queue

/-- The work is done: its needle has one fewer outstanding, and its completion token is posted. -/
def workDone (s : State) (n : Nat) (w : Work) : State :=
  let s := setNeedle s n w.needle fun d => { d with pendAsync := d.pendAsync - 1 }
  if w.post then
    pushToken s n w.queue { hdr := sentHdr s n 1 (regionGen s (bob s n).region) w.queue, w0 := w.w0 }
  else s

/-! Registers and commands. -/

/-- Field-range and state rules, and effects, of the region command register (R307). -/
def bobRange (off : Nat) (w : Word) : Bool := off == BOB_RGN_CMD && wget w BOB_RGN_CMD.OP == 3
def bobState (s : State) (off : Nat) (_ : Word) : Bool := off == BOB_RGN_CMD && fbit s BOB_RGN_CMDSTAT.BUSY
def bobEffect (s : State) (off : Nat) (w : Word) : State :=
  if off == BOB_RGN_CMD then regionCommand s (wget w BOB_RGN_CMD.OP) (wget w BOB_RGN_CMD.REGION) else s

end Sys2Proof.Machine
end

