-- ==== Sys2Proof/Machine/Stitches.lean ====
section
/-! DEFINITION. The synchronous stitches (Table 11.7). -/

namespace Sys2Proof.Machine

/-- Token words by IMM[1:0]. -/
def tokWord (t : Token) : Nat → Word
  | 0 => t.w0 | 1 => t.w1 | 2 => t.w2 | _ => t.hdr

/-- A token along a route (R290, R291): dropped and counted at its sender where the destination's die is not working or no way
to it is left (R373, R382). -/
def sendToken (s : State) (n : Nat) (b : Bobbin) (j : Nat) (w : Word) : State :=
  let k := bits (sImm w) 0 4
  let q := bits (sImm w) 4 4
  let m := routeDest b n k
  let own := (bob s m).region == b.region
  let gen := if own then regionGen s b.region else bits (sImm w) 8 8
  if !reach s (bobDie n) (bobDie m) then flitDrop s b.region
  else
    let t : Token := { hdr := sentHdr s n 0 gen q, w0 := vRa b j w, w1 := vRb b j w, w2 := vRd b j w }
    let f : Flit := { tok := some t, queue := q, src := n, srcRgn := b.region, ctx := regionOwner s b.region,
                      gen := BitVec.ofNat 8 gen }
    setBobbin s m fun b => { b with inFlight := b.inFlight ++ [f] }

/-- The entry of a bobbin's inlet by number, with its BASE and SIZE (Table 11.11). -/
def inletEntry (b : Bobbin) (num : Nat) : Option (Nat × BitVec 128) :=
  ((List.range b.record.inlets.length).zip b.record.inlets).find? fun e => bits e.2.toNat 0 8 == num && num != 255

def inBase (e : BitVec 128) : Nat := bits e.toNat 32 32
def inSize (e : BitVec 128) : Nat := bits e.toNat 64 32
def inQueue (e : BitVec 128) : Nat := bits e.toNat 8 8

/-- IREL (R298): the distance from the last released address to RA, if RA lies in the ring and not beyond the head. -/
def releaseTo (b : Bobbin) (i : Nat) (e : BitVec 128) (ra : Nat) : Option Inlet :=
  let r := tget {} b.inlets i
  let last := (r.head + inSize e - r.used) % inSize e
  let d := (ra - inBase e + inSize e - last) % inSize e
  if inBase e ≤ ra && ra < inBase e + inSize e && d ≤ r.used then some { r with used := r.used - d } else none

/-- LD and ST address (R283); none where it is misaligned or outside the store. -/
def ldAddr (b : Bobbin) (j : Nat) (w : Word) : Option Nat :=
  let a := (vRa b j w + vImm w).toNat
  if a % 8 == 0 && inStore a 8 then some a else none

/-- NOP. -/
def execNop (n : Bob) (needle : Fin 4) (s : State) : Host.Outcome State Fault Refusal :=
  live s fun s => fireOp s n.val needle.val 0x00 fun s b _ => .go s (nextPc b needle.val)

/-- HALT. -/
def execHalt (n : Bob) (needle : Fin 4) (s : State) : Host.Outcome State Fault Refusal :=
  live s fun s => fireOp s n.val needle.val 0x01 fun s _ _ => .halt s

/-- ERR. -/
def execErr (n : Bob) (needle : Fin 4) (s : State) : Host.Outcome State Fault Refusal :=
  live s fun s => fireOp s n.val needle.val 0x02 fun s _ w => .fault s fPROGRAM (sImm w % 65536)

/-- JMP. -/
def execJmp (n : Bob) (needle : Fin 4) (s : State) : Host.Outcome State Fault Refusal :=
  live s fun s => fireOp s n.val needle.val 0x03 fun s _ w => .go s (sImm w)

/-- BNZ. -/
def execBnz (n : Bob) (needle : Fin 4) (s : State) : Host.Outcome State Fault Refusal :=
  live s fun s => fireOp s n.val needle.val 0x04 fun s b w =>
    .go s (if vRa b needle.val w != 0 then sImm w else nextPc b needle.val)

/-- BLT. -/
def execBlt (n : Bob) (needle : Fin 4) (s : State) : Host.Outcome State Fault Refusal :=
  live s fun s => fireOp s n.val needle.val 0x05 fun s b w =>
    .go s (if (vRa b needle.val w).slt (vRb b needle.val w) then sImm w else nextPc b needle.val)

/-- TOKW. -/
def execTokw (n : Bob) (needle : Fin 4) (s : State) : Host.Outcome State Fault Refusal :=
  live s fun s => fireRd s n.val needle.val 0x06 fun _ b w => tokWord ((queueOf b (sTq w)).headD {}) (bits (sImm w) 0 2)

/-- TSEND. -/
def execTsend (n : Bob) (needle : Fin 4) (s : State) : Host.Outcome State Fault Refusal :=
  live s fun s => fireOp s n.val needle.val 0x07 fun s b w =>
    if routeKind b (bits (sImm w) 0 4) == 0 then .fault s fROUTE 0
    else .go (sendToken s n.val b needle.val w) (nextPc b needle.val)

/-- TLOC. -/
def execTloc (n : Bob) (needle : Fin 4) (s : State) : Host.Outcome State Fault Refusal :=
  live s fun s => fireOp s n.val needle.val 0x08 fun s b w =>
    let q := bits (sImm w) 4 4
    let t : Token := { hdr := sentHdr s n.val 0 (regionGen s b.region) q, w0 := vRa b needle.val w,
                       w1 := vRb b needle.val w, w2 := vRd b needle.val w }
    .go (pushToken s n.val q t) (nextPc b needle.val)

/-- IREL. -/
def execIrel (n : Bob) (needle : Fin 4) (s : State) : Host.Outcome State Fault Refusal :=
  live s fun s => fireOp s n.val needle.val 0x09 fun s b w =>
    match inletEntry b (bits (sImm w) 0 4) with
    | none => .fault s fINLET 0
    | some (i, e) =>
      match releaseTo b i e (vRa b needle.val w).toNat with
      | none => .fault s fINLET 0
      | some r =>
        .go (setBobbin s n.val fun b => { b with inlets := tset {} b.inlets i r }) (nextPc b needle.val)

/-- ADDI. -/
def execAddi (n : Bob) (needle : Fin 4) (s : State) : Host.Outcome State Fault Refusal :=
  live s fun s => fireRd s n.val needle.val 0x10 fun _ b w => vRa b needle.val w + vImm w

/-- ADD. -/
def execAdd (n : Bob) (needle : Fin 4) (s : State) : Host.Outcome State Fault Refusal :=
  live s fun s => fireRd s n.val needle.val 0x11 fun _ b w => vRa b needle.val w + vRb b needle.val w

/-- SUB. -/
def execSub (n : Bob) (needle : Fin 4) (s : State) : Host.Outcome State Fault Refusal :=
  live s fun s => fireRd s n.val needle.val 0x12 fun _ b w => vRa b needle.val w - vRb b needle.val w

/-- MUL. -/
def execMul (n : Bob) (needle : Fin 4) (s : State) : Host.Outcome State Fault Refusal :=
  live s fun s => fireRd s n.val needle.val 0x13 fun _ b w => vRa b needle.val w * vRb b needle.val w

/-- AND. -/
def execAnd (n : Bob) (needle : Fin 4) (s : State) : Host.Outcome State Fault Refusal :=
  live s fun s => fireRd s n.val needle.val 0x14 fun _ b w => vRa b needle.val w &&& vRb b needle.val w

/-- OR. -/
def execOr (n : Bob) (needle : Fin 4) (s : State) : Host.Outcome State Fault Refusal :=
  live s fun s => fireRd s n.val needle.val 0x15 fun _ b w => vRa b needle.val w ||| vRb b needle.val w

/-- XOR. -/
def execXor (n : Bob) (needle : Fin 4) (s : State) : Host.Outcome State Fault Refusal :=
  live s fun s => fireRd s n.val needle.val 0x16 fun _ b w => vRa b needle.val w ^^^ vRb b needle.val w

/-- SHL. -/
def execShl (n : Bob) (needle : Fin 4) (s : State) : Host.Outcome State Fault Refusal :=
  live s fun s => fireRd s n.val needle.val 0x17 fun _ b w => vRa b needle.val w <<< (sImm w % 64)

/-- SHR. -/
def execShr (n : Bob) (needle : Fin 4) (s : State) : Host.Outcome State Fault Refusal :=
  live s fun s => fireRd s n.val needle.val 0x18 fun _ b w => vRa b needle.val w >>> (sImm w % 64)

/-- LI. -/
def execLi (n : Bob) (needle : Fin 4) (s : State) : Host.Outcome State Fault Refusal :=
  live s fun s => fireRd s n.val needle.val 0x19 fun _ _ w => BitVec.ofNat 64 (sImm w)

/-- LIH. -/
def execLih (n : Bob) (needle : Fin 4) (s : State) : Host.Outcome State Fault Refusal :=
  live s fun s => fireRd s n.val needle.val 0x1A fun _ b w =>
    BitVec.ofNat 64 ((vRa b needle.val w).toNat % 2 ^ 32 + sImm w * 2 ^ 32)

/-- LD. -/
def execLd (n : Bob) (needle : Fin 4) (s : State) : Host.Outcome State Fault Refusal :=
  live s fun s => fireOp s n.val needle.val 0x1B fun s b w =>
    match ldAddr b needle.val w with
    | none => .fault s fBAD_ADDR 0
    | some a =>
      if storeBad b a 8 then .fault s fSTORE_ECC 0
      else .go (setG (storeFix s n.val a 8) n.val needle.val (sRd w) (BitVec.ofNat 64 (unle (storeBytes b a 8))))
        (nextPc b needle.val)

/-- ST. -/
def execSt (n : Bob) (needle : Fin 4) (s : State) : Host.Outcome State Fault Refusal :=
  live s fun s => fireOp s n.val needle.val 0x1C fun s b w =>
    match ldAddr b needle.val w with
    | none => .fault s fBAD_ADDR 0
    | some a => .go (storeWrite s n.val a (le 8 (vRb b needle.val w).toNat)) (nextPc b needle.val)

/-- RDTIME. -/
def execRdtime (n : Bob) (needle : Fin 4) (s : State) : Host.Outcome State Fault Refusal :=
  live s fun s => fireRd s n.val needle.val 0x1D fun s _ _ => s.timeWord

/-- FENCE. -/
def execFence (n : Bob) (needle : Fin 4) (s : State) : Host.Outcome State Fault Refusal :=
  live s fun s => fireOp s n.val needle.val 0x28 fun s b _ => .go s (nextPc b needle.val)

end Sys2Proof.Machine
end

