-- ==== Sys2Proof/Machine/Compute.lean ====
section
/-! DEFINITION. The MAC arrays (R271 to R274) and the vector unit (R275 to R277): what an MMA and a VOP stitch accept, and
what they have computed when they complete. -/

namespace Sys2Proof.Machine

/-- Is every address of a list a multiple of 64? -/
def all64 (l : List Nat) : Bool := l.all (· % 64 == 0)

/-- Do `rows` rows of n bytes, a stride apart, lie in the store? -/
def rowsIn (base stride rows n : Nat) : Bool := rows == 0 || inStore (rowAddr base stride (rows - 1)) n

/-! The arrays. -/

/-- Operand class of a format code (Table 11.1): 1 class 16, 2 class 8, 3 MX; MXINT8 and INT8 only with themselves. -/
def mmaPair (a b : Nat) : Bool :=
  ((a == 1 || a == 2) && a == b) ||
    ((a == 3 || a == 4) && (b == 3 || b == 4)) || (a == 11 && b == 11) ||
    (5 ≤ a && a ≤ 9 && 5 ≤ b && b ≤ 9) || (a == 10 && b == 10)

/-- Bytes of K elements of an operand, its scales apart. -/
def rowBytes (fmt k : Nat) : Nat := elemBits fmt * k / 8

/-- Does an MMA descriptor hold (R273)? -/
def mmaOk (d : List Byte) : Bool :=
  let fa := dF d 0 1
  let fb := dF d 1 1
  let m := dF d 4 2
  let n := dF d 6 2
  let k := dF d 8 4
  let mx := isMx fa
  mmaPair fa fb && dF d 2 1 ≤ 1 && dF d 3 1 == 0 && dF d 0xC 4 == 0 && dF d 0x30 8 == 0 && dF d 0x38 8 == 0 &&
    4 ≤ m && m ≤ 1024 && m % 4 == 0 && 4 ≤ n && n ≤ 1024 && n % 4 == 0 &&
    4 ≤ k && k ≤ 65536 && k % 4 == 0 && (!mx || k % 32 == 0) &&
    all64 ((List.range 8).map fun i => dF d (0x10 + 4 * i) 4) &&
    rowsIn (dF d 0x10 4) (dF d 0x14 4) m (rowBytes fa k) && rowsIn (dF d 0x18 4) (dF d 0x1C 4) n (rowBytes fb k) &&
    rowsIn (dF d 0x20 4) (dF d 0x24 4) m (4 * n) &&
    (!mx || (inStore (dF d 0x28 4) (m * (k / 32)) && inStore (dF d 0x2C 4) (n * (k / 32))))

/-- Exact sum of the products of two lists. -/
def dot (a b : List Num) : Num := (a.zip b).foldl (fun s (x, y) => s.add (x.mul y)) (.fin false 0 0)

/-- An element of C: steps of `n` products with K ascending, each sum scaled and added to the binary32 accumulator with one
rounding (R271, R272). -/
def mmaElem (r n : Nat) (scale : Nat → Option Int) (acc : Nat) (a b : List Num) : Nat :=
  ((List.range (a.length / n)).foldl (fun acc i =>
    let p := dot ((a.drop (n * i)).take n) ((b.drop (n * i)).take n)
    let p := match scale i with
      | some k => p.scale k
      | none => .nan
    (f32 r ((num32 acc).add p)).1) acc)

/-- Row i of an operand: K numbers without scales, and its scale bytes. -/
def mmaRow (b : Bobbin) (fmt k base stride i : Nat) : List Num :=
  let bytes := storeBytes b (rowAddr base stride i) (rowBytes fmt k)
  (List.range k).map fun x => elemNum fmt (elemAt fmt bytes x)

/-- C as an MMA leaves it, row by row; the bits of a NaN are free values from `base`. -/
def mmaRows (b : Bobbin) (d : List Byte) (base : Nat) : List (Nat × List Byte) :=
  let fa := dF d 0 1
  let fb := dF d 1 1
  let m := dF d 4 2
  let n := dF d 6 2
  let k := dF d 8 4
  let mx := isMx fa
  let step := if mx then 32 else 4
  let cols := (List.range n).map fun j => mmaRow b fb k (dF d 0x18 4) (dF d 0x1C 4) j
  (List.range m).map fun i =>
    let a := mmaRow b fa k (dF d 0x10 4) (dF d 0x14 4) i
    let at' := rowAddr (dF d 0x20 4) (dF d 0x24 4) i
    let row := ((List.range n).zip cols).map fun (j, col) =>
      let acc := if dF d 2 1 == 1 then unle (storeBytes b (at' + 4 * j) 4) else 0
      let scale := fun g =>
        if mx then
          let sa := (storeByte b (dF d 0x28 4 + i * (k / 32) + g)).toNat
          let sb := (storeByte b (dF d 0x2C 4 + j * (k / 32) + g)).toNat
          if sa == 255 || sb == 255 then none else some ((sa : Int) + sb - 254)
        else some 0
      mmaElem (Config.freeValue (base + i * n + j)).toNat step scale acc a col
    (at', row.flatMap (le 4))

/-- Store ranges an MMA reads. -/
def mmaReads (d : List Byte) : List (Nat × Nat) :=
  let fa := dF d 0 1
  let m := dF d 4 2
  let n := dF d 6 2
  let k := dF d 8 4
  (List.range m).map (fun i => (rowAddr (dF d 0x10 4) (dF d 0x14 4) i, rowBytes fa k)) ++
    (List.range n).map (fun i => (rowAddr (dF d 0x18 4) (dF d 0x1C 4) i, rowBytes (dF d 1 1) k)) ++
    (if dF d 2 1 == 1 then mmaDest d else []) ++
    (if isMx fa then [(dF d 0x28 4, m * (k / 32)), (dF d 0x2C 4, n * (k / 32))] else [])

/-- Reads of store ranges: a double-bit error in one, or the state with single-bit errors corrected. -/
def readRanges (s : State) (n : Nat) (l : List (Nat × Nat)) : Option State :=
  if l.any fun r => storeBad (bob s n) r.1 r.2 then none else some (forEach l s fun s r => storeFix s n r.1 r.2)

/-- A descriptor of `len` bytes at RA: its bytes, or the fault of reading it. -/
def descAt (b : Bobbin) (a len : Nat) : Nat ⊕ List Byte :=
  if !inStore a len then .inl fBAD_ADDR else if storeBad b a len then .inl fSTORE_ECC else .inr (storeBytes b a len)

/-- An asynchronous stitch that names a descriptor: the descriptor is read and judged, and the work accepted. -/
def fireDesc (s : State) (n j op len : Nat) (p : List Byte → Bool) (ok : State → Bobbin → List Byte → Nat)
    (put : Bobbin → Work → Bobbin) : State :=
  fire s n j (fun b w => sOp w == op && match descAt b (vRa b j w).toNat len with
      | .inr d => p d
      | .inl _ => true)
    fun s b w =>
      match descAt b (vRa b j w).toNat len with
      | .inl code => .fault s code 0
      | .inr d =>
        let s := storeFix s n (vRa b j w).toNat len
        match ok s b d with
        | 0 => .go (accept s n j w d (dF d 0 1) put) (nextPc b j)
        | code => .fault s code 0

/-- Steps of an MMA over all its tiles, in array handshakes (R271, R274): K/k steps of h handshakes for each 4 × 4 tile. -/
def mmaSteps (d : List Byte) : Nat :=
  let k := if dF d 0 1 == 9 && dF d 1 1 == 9 then 8 else 4
  let h := if dF d 0 1 == 1 || dF d 0 1 == 2 then 2 else 1
  dF d 4 2 * dF d 6 2 / 16 * (dF d 8 4 / k) * h

/-- The array time of an MMA that completes: its steps are COMPUTE, the rest OVERHEAD (R447, log entry 264). -/
def mmaAccount (s : State) (n : Nat) (w : Work) : State :=
  let t := mmaTime s n w
  let c := min t (mmaSteps w.desc * handshake s n / 2 ^ 32)
  tdAdd (tdAdd s n 0 c) n 2 (t - c)

/-- The oldest MMA completes (R274). -/
def mmaComplete (s : State) (n : Nat) : State :=
  match (bob s n).mma with
  | [] => s
  | w :: rest =>
    if !dieUp s (bobDie n) || !postRoom s n w then s
    else
      match readRanges s n (mmaReads w.desc) with
      | none => regionFault s n w.needle w.pc fSTORE_ECC 0
      | some s =>
        let rows := mmaRows (bob s n) w.desc s.free
        let s := { s with free := s.free + dF w.desc 4 2 * dF w.desc 6 2 }
        let s := forEach rows s fun s r => storeWrite s n r.1 r.2
        let s := mmaAccount s n w
        let s := setBobbin s n fun b => { b with mma := match rest with
          | [] => []
          | v :: t => { v with stamp := s.now } :: t }
        workDone s n w

/-! The vector unit. -/

/-- Operands a vector operation reads: does it read Y, and Z? -/
def vopY (op : Nat) : Bool := [1, 2, 3, 4, 5, 6, 8, 0x10].contains op
def vopZ (op : Nat) : Bool := op == 4

/-- Bytes of the first source. -/
def vopXBytes (d : List Byte) : Nat := if dF d 0 1 == 0x0D then dataBytes (dF d 2 1) (dF d 4 4) else 4 * dF d 4 4

/-- Store ranges a vector operation reads. -/
def vopReads (d : List Byte) : List (Nat × Nat) :=
  let op := dF d 0 1
  [(dF d 8 4, vopXBytes d)] ++ (if vopY op && !bit (dF d 3 1) 0 then [(dF d 0xC 4, 4 * dF d 4 4)] else []) ++
    (if vopZ op then [(dF d 0x10 4, 4 * dF d 4 4)] else [])

/-- Does a VOP descriptor hold (R275, R276)? -/
def vopOk (d : List Byte) : Bool :=
  let op := dF d 0 1
  let n := dF d 4 4
  1 ≤ op && op ≤ 0x10 && dF d 3 1 < 8 && 1 ≤ n && n ≤ 65536 && dF d 0x1C 4 == 0 && dF d 0x30 8 == 0 && dF d 0x38 8 == 0 &&
    (op != 0x0D || (dF d 1 1 ≤ 11 && dF d 2 1 ≤ 11 && (!(isMx (dF d 1 1) || isMx (dF d 2 1)) || n % 32 == 0))) &&
    (vopReads d ++ vopDest d).all fun r => inStore r.1 r.2

/-- binary32 words of a store. -/
def words32 (b : Bobbin) (a n : Nat) : List Nat := (List.range n).map fun i => unle (storeBytes b (a + 4 * i) 4)

/-- An element-wise operation. -/
def vopElem (op r x y z : Nat) : Nat × Flags :=
  match op with
  | 1 => vAdd r x y | 2 => vSub r x y | 3 => vMul r x y | 4 => vFma r x y z | 5 => vMax r x y | 6 => vMin r x y
  | 7 => vAbs x | 8 => vDiv r x y | 9 => vSqrt r x | 0x0A => vRsqrt r x | 0x0B => vExp r x | 0x0C => vLog r x
  | _ => vSelGt x y

/-- What a vector operation writes, and its flags; open bits are free values from `base`. -/
def vopResult (b : Bobbin) (d : List Byte) (base : Nat) : List (Nat × List Byte) × Flags :=
  let op := dF d 0 1
  let n := dF d 4 4
  let D := dF d 0x14 4
  let r := fun i => (Config.freeValue (base + i)).toNat
  match op with
  | 0x0D =>
    let fi := dF d 2 1
    let data := storeBytes b (dF d 8 4) (vopXBytes d)
    let ctr := dF d 0x28 8
    let rule := fun i => if bit (dF d 3 1) 1 then
        Rule.stochastic (philox16 (dF d 0x20 8) ((ctr + i) % 2 ^ 32) ((ctr + i) / 2 ^ 32 % 2 ^ 32) 0 0)
      else Rule.nearest
    let x := encodeData (dF d 1 1) rule (bit (dF d 3 1) 2) r (elements fi n data)
    let sn := !isMx fi && fi != 11 && (List.range n).any fun i => (ffmt fi).isSnan (elemAt fi data i)
    ([(D, x.1)], x.2 ||| if sn then fInvalid else 0)
  | 0x0E =>
    let x := treeSum (r 0) 17 (words32 b (dF d 8 4) n)
    ([(D, le 4 x.1)], x.2)
  | 0x0F =>
    match largest (words32 b (dF d 8 4) n) with
    | some (v, i) => ([(D, le 4 v), (dF d 0x10 4, le 4 i)], 0)
    | none => ([(D, le 4 (r 0)), (dF d 0x10 4, le 4 (r 1))], fInvalid)
  | _ =>
    let xs := words32 b (dF d 8 4) n
    let ys := if !vopY op then [] else if bit (dF d 3 1) 0 then List.replicate n (dF d 0x18 4) else words32 b (dF d 0xC 4) n
    let zs := if vopZ op then words32 b (dF d 0x10 4) n else []
    let vs := (List.range n).map fun i => vopElem op (r i) (xs.getD i 0) (ys.getD i 0) (zs.getD i 0)
    ([(D, vs.flatMap fun v => le 4 v.1)], vs.foldl (fun a v => a ||| v.2) 0)

/-- Sticky flags of a region (R277); where IEEE 754 leaves the detection of tininess to the implementation, a free value
decides. -/
def sticky (s : State) (r : Nat) (fl : Flags) : State :=
  let (v, s) := draw s
  let fl := if bit fl 4 && bit v.toNat 0 then fl ||| fUnderflow else fl
  if r < 64 then fset s (BOB_RGN_STAT.IEEE r) (fget s (BOB_RGN_STAT.IEEE r) ||| (fl % 16)) else s

/-- The oldest vector operation completes (R275). -/
def vopComplete (s : State) (n : Nat) : State :=
  match (bob s n).vop with
  | [] => s
  | w :: rest =>
    if !dieUp s (bobDie n) || !postRoom s n w then s
    else
      match readRanges s n (vopReads w.desc) with
      | none => regionFault s n w.needle w.pc fSTORE_ECC 0
      | some s =>
        let x := vopResult (bob s n) w.desc s.free
        let cnt := dF w.desc 4 4
        let s := { s with free := s.free + cnt + cnt / 32 + 2 }
        let s := forEach x.1 s fun s p => storeWrite s n p.1 p.2
        workDone (setBobbin (sticky s (bob s n).region x.2) n fun b => { b with vop := rest }) n w

/-- A VOP stitch with operation `op`. A descriptor that names no operation of Table 11.4 faults whichever of these commands
meets it. -/
def fireVop (s : State) (n j op : Nat) : State :=
  fireDesc s n j 0x21 64 (fun d => dF d 0 1 == op || dF d 0 1 == 0 || 0x10 < dF d 0 1)
    (fun _ _ d => if vopOk d then 0 else fBAD_ADDR) fun b k => { b with vop := b.vop ++ [k] }

/-- MMA (R273). -/
def execMma (n : Bob) (needle : Fin 4) (s : State) : Host.Outcome State Fault Refusal :=
  live s fun s => fireDesc s n.val needle.val 0x20 64 (fun _ => true)
    (fun _ _ d => if mmaOk d then 0 else fBAD_ADDR) fun b k => { b with mma := b.mma ++ [k] }

/-- VADD. -/
def execVadd (n : Bob) (needle : Fin 4) (s : State) : Host.Outcome State Fault Refusal :=
  live s fun s => fireVop s n.val needle.val 0x01

/-- VSUB. -/
def execVsub (n : Bob) (needle : Fin 4) (s : State) : Host.Outcome State Fault Refusal :=
  live s fun s => fireVop s n.val needle.val 0x02

/-- VMUL. -/
def execVmul (n : Bob) (needle : Fin 4) (s : State) : Host.Outcome State Fault Refusal :=
  live s fun s => fireVop s n.val needle.val 0x03

/-- VFMA. -/
def execVfma (n : Bob) (needle : Fin 4) (s : State) : Host.Outcome State Fault Refusal :=
  live s fun s => fireVop s n.val needle.val 0x04

/-- VMAX. -/
def execVmax (n : Bob) (needle : Fin 4) (s : State) : Host.Outcome State Fault Refusal :=
  live s fun s => fireVop s n.val needle.val 0x05

/-- VMIN. -/
def execVmin (n : Bob) (needle : Fin 4) (s : State) : Host.Outcome State Fault Refusal :=
  live s fun s => fireVop s n.val needle.val 0x06

/-- VABS. -/
def execVabs (n : Bob) (needle : Fin 4) (s : State) : Host.Outcome State Fault Refusal :=
  live s fun s => fireVop s n.val needle.val 0x07

/-- VDIV. -/
def execVdiv (n : Bob) (needle : Fin 4) (s : State) : Host.Outcome State Fault Refusal :=
  live s fun s => fireVop s n.val needle.val 0x08

/-- VSQRT. -/
def execVsqrt (n : Bob) (needle : Fin 4) (s : State) : Host.Outcome State Fault Refusal :=
  live s fun s => fireVop s n.val needle.val 0x09

/-- VRSQRT. -/
def execVrsqrt (n : Bob) (needle : Fin 4) (s : State) : Host.Outcome State Fault Refusal :=
  live s fun s => fireVop s n.val needle.val 0x0A

/-- VEXP. -/
def execVexp (n : Bob) (needle : Fin 4) (s : State) : Host.Outcome State Fault Refusal :=
  live s fun s => fireVop s n.val needle.val 0x0B

/-- VLOG. -/
def execVlog (n : Bob) (needle : Fin 4) (s : State) : Host.Outcome State Fault Refusal :=
  live s fun s => fireVop s n.val needle.val 0x0C

/-- VCVT. -/
def execVcvt (n : Bob) (needle : Fin 4) (s : State) : Host.Outcome State Fault Refusal :=
  live s fun s => fireVop s n.val needle.val 0x0D

/-- VSUM. -/
def execVsum (n : Bob) (needle : Fin 4) (s : State) : Host.Outcome State Fault Refusal :=
  live s fun s => fireVop s n.val needle.val 0x0E

/-- VMAXI. -/
def execVmaxi (n : Bob) (needle : Fin 4) (s : State) : Host.Outcome State Fault Refusal :=
  live s fun s => fireVop s n.val needle.val 0x0F

/-- VSELGT. -/
def execVselgt (n : Bob) (needle : Fin 4) (s : State) : Host.Outcome State Fault Refusal :=
  live s fun s => fireVop s n.val needle.val 0x10

/-- MMA_COMPLETE (R274). -/
def execMmaComplete (n : Bob) (s : State) : Host.Outcome State Fault Refusal := live s fun s => mmaComplete s n.val

/-- VOP_COMPLETE (R275). -/
def execVopComplete (n : Bob) (s : State) : Host.Outcome State Fault Refusal := live s fun s => vopComplete s n.val

end Sys2Proof.Machine
end

