-- ==== Sys2Proof/Machine/Copies.lean ====
section
/-! DEFINITION. The copy engine (R285 to R287), frames that regions send (R299, R300), and what arrives at bobbins: tokens and
copy data (R291), port-to-store delivery (R294 to R297). -/

namespace Sys2Proof.Machine

/-! Copies. -/

/-- Owner of a bobbin's region. -/
def bobOwner (s : State) (n : Nat) : Nat := regionOwner s (bob s n).region

/-- Fields of a COPY descriptor (Table 11.9) and its store ranges: 0, or the fault. -/
def copyCheck (s : State) (n : Nat) (b : Bobbin) (d : List Byte) : Nat :=
  let k := dF d 0 1
  let rows := dF d 4 4
  let len := dF d 8 4
  let src := dF d 0x10 8
  let dst := dF d 0x20 8
  let ss := dF d 0x18 8
  let ds := dF d 0x28 8
  let own := regionOwner s b.region
  let win := fun base stride => (List.range rows).all fun i => inWindow s own (rowAddr base stride i) len
  let _ := n
  if 5 < k || dF d 3 1 != 0 || rows < 1 || 65536 < rows || len < 64 || 2097152 < len || len % 64 != 0 ||
      ss % 64 != 0 || ds % 64 != 0 || dF d 0x30 8 != 0 || dF d 0x38 8 != 0 || (k == 1 && 15 < dF d 1 1) then fBAD_ADDR
  else if (k == 4 || k == 5) && !inStore (dF d 0xC 4) (4 * rows) then fBAD_ADDR
  else if (k == 0 || k == 1 || k == 3 || k == 5) && !rowsIn src ss rows len then fBAD_ADDR
  else if (k == 0 || k == 1 || k == 2 || k == 4) && !rowsIn dst ds rows len then fBAD_ADDR
  else if k == 1 && routeKind b (dF d 1 1) == 0 then fROUTE
  else if (k == 2 && !win src ss) || (k == 3 && !win dst ds) then fWINDOW
  else 0

/-- The 32-byte ground flits of a copy's row (R288). -/
def rowFlits (f : Flit) (n : Nat) : List Flit :=
  (List.range (n / 32)).map fun i => { f with addr := f.addr + 32 * i, data := bytesAt f.data (32 * i) 32 }

/-- Rows of a copy along a route set out for their bobbin, or are dropped and counted at the sender where no way leads to its die
(R373, R382). -/
def copyFlits (s : State) (n : Nat) (b : Bobbin) (d : List Byte) (id : Nat) : State :=
  let m := routeDest b n (dF d 1 1)
  if !reach s (bobDie n) (bobDie m) then flitDrops s b.region (dF d 4 4 * (dF d 8 4 / 32))
  else
    let gen := if (bob s m).region == b.region then regionGen s b.region else dF d 2 1
    let fs := (List.range (dF d 4 4)).flatMap fun i =>
      let a := copyRow b d i
      rowFlits { addr := a.2, data := storeBytes b a.1 (dF d 8 4), src := n, srcRgn := b.region, ctx := regionOwner s b.region,
                 gen := BitVec.ofNat 8 gen, work := id } (dF d 8 4)
    setBobbin s m fun b => { b with inFlight := b.inFlight ++ fs }

/-- Does a line of n bytes at offset o of context x lie on a die that bobbin m's die has no way to (R9, R382)? -/
def ctxFar (s : State) (m x o n : Nat) : Bool :=
  (linesOf o n).any fun l =>
    match ctxLoc s x l with
    | some (d, _) => !reach s (bobDie m) d
    | none => false

/-- Does such a line lie beyond a bundle that holds a retune window (R380)? -/
def ctxHeld (s : State) (m x o n : Nat) : Bool :=
  (linesOf o n).any fun l =>
    match ctxLoc s x l with
    | some (d, _) => reach s (bobDie m) d && !routeSends s (bobDie m) d
    | none => false

/-- A COPY stitch of a KIND. A descriptor with no KIND of Table 11.9 faults whichever of these commands meets it. A copy along
a route reads its rows at once. -/
def fireCopy (s : State) (n j kind : Nat) : State :=
  fire s n j (fun b w => sOp w == 0x22 && match descAt b (vRa b j w).toNat 64 with
      | .inr d => dF d 0 1 == kind || 5 < dF d 0 1
      | .inl _ => true)
    fun s b w =>
      match descAt b (vRa b j w).toNat 64 with
      | .inl code => .fault s code 0
      | .inr d =>
        let s := storeFix s n (vRa b j w).toNat 64
        match copyCheck s n b d with
        | 0 =>
          let rows := if dF d 0 1 == 1 then (List.range (dF d 4 4)).map fun i => ((copyRow b d i).1, dF d 8 4) else []
          match readRanges s n rows with
          | none => .fault s fSTORE_ECC 0
          | some s =>
            let (id, s) := newId s
            let s' := accept s n j w d (dF d 0 1) fun b k => { b with copy := b.copy ++ [{ k with frameId := id }] }
            .go (if dF d 0 1 == 1 then copyFlits s' n b d id else s') (nextPc b j)
        | code => .fault s code 0

/-- One row of a copy: the state after it, or its fault and the state in which it was found. -/
def moveRow (s : State) (n own : Nat) (d : List Byte) (i : Nat) : State ⊕ (State × Nat) :=
  let b := bob s n
  let k := dF d 0 1
  let len := dF d 8 4
  if (k == 4 || k == 5) && storeBad b (dF d 0xC 4 + 4 * i) 4 then .inr (s, fSTORE_ECC)
  else
    let s := if k == 4 || k == 5 then storeFix s n (dF d 0xC 4 + 4 * i) 4 else s
    let (src, dst) := copyRow b d i
    match k with
    | 0 =>
      if storeBad b src len then .inr (s, fSTORE_ECC)
      else .inl (storeWrite (storeFix s n src len) n dst (storeBytes b src len))
    | 2 | 4 =>
      if !inWindow s own src len then .inr (s, fWINDOW)
      else if ctxFar s n own src len then .inr (s, fMEM_ECC)
      else
        let s := ctxTouch s own src len
        if ctxBad s own src len then .inr (s, fMEM_ECC)
        else .inl (storeWrite s n dst (ctxRead s own src len))
    | _ =>
      if !inWindow s own dst len then .inr (s, fWINDOW)
      else if storeBad b src len then .inr (s, fSTORE_ECC)
      else if ctxFar s n own dst len then .inr (s, fMEM_ECC)
      else
        let s := ctxTouchPart s own dst len
        if ctxPartBad s own dst len then .inr (s, fMEM_ECC)
        else .inl (ctxPut (storeFix s n src len) own dst (storeBytes b src len))

/-- Does the row's memory lie beyond a bundle in its retune window? -/
def rowHeld (s : State) (n own : Nat) (d : List Byte) (i : Nat) : Bool :=
  let (src, dst) := copyRow (bob s n) d i
  match dF d 0 1 with
  | 0 | 1 => false
  | 2 | 4 => ctxHeld s n own src (dF d 8 4)
  | _ => ctxHeld s n own dst (dF d 8 4)

/-- Rows i, i + 1, … of a copy in ascending order, `fuel` of them; rows already written stay written. -/
def moveRows (n own : Nat) (d : List Byte) : Nat → Nat → State → State × Nat
  | 0, _, s => (s, 0)
  | fuel + 1, i, s =>
    match moveRow s n own d i with
    | .inr r => r
    | .inl s => moveRows n own d fuel (i + 1) s

/-- Is copy data of the work still on its way? -/
def copyOnWay (s : State) (id : Nat) : Bool :=
  s.bob.bobs.any fun e => e.2.inFlight.any fun f => f.tok.isNone && f.work == id

/-- The oldest copy completes (R285, R286). -/
def copyComplete (s : State) (n : Nat) : State :=
  match (bob s n).copy with
  | [] => s
  | w :: rest =>
    if !dieUp s (bobDie n) || !postRoom s n w then s
    else if w.kind == 1 then
      if copyOnWay s w.frameId then s else workDone (setBobbin s n fun b => { b with copy := rest }) n w
    else if (List.range (dF w.desc 4 4)).any (rowHeld s n (bobOwner s n) w.desc) then s
    else
      match moveRows n (bobOwner s n) w.desc (dF w.desc 4 4) 0 s with
      | (s, 0) => workDone (setBobbin s n fun b => { b with copy := rest }) n w
      | (s, code) => regionFault (setBobbin s n fun b => { b with copy := rest }) n w.needle w.pc code 0

/-! SEND. -/

/-- Does a SEND descriptor hold (R299, R410)? -/
def sendOk (s : State) (own : Nat) (d : List Byte) : Bool :=
  let enc := bit (dF d 6 1) 1
  let len := dF d 0x14 4
  let text := if enc then len - 28 else len
  dF d 4 1 < 16 && dF d 5 1 < 4 && dF d 6 1 < 4 && dF d 0x0E 2 == 0 && dF d 0x11 3 == 0 && dF d 0x1C 4 == 0 &&
    len ≤ 8192 && dF d 0x18 4 % 64 == 0 && inStore (dF d 0x18 4) text && (!bit (dF d 0 4) 31 || dF d 0 4 % 2 ^ 20 < 65536) &&
    (if enc then dF d 7 1 != 0 && 28 ≤ len && (jobKey s own (dF d 7 1)).isSome else dF d 7 1 == 0)

/-- Nonce of a SEND (R410). -/
def sendNonce (s : State) (n : Nat) : Nat :=
  fget s TBL_SELF.CHIP + fget s SEC_SELF.INC * 2 ^ 20 + 0xFF * 2 ^ 28 + n % 2 ^ 60 * 2 ^ 36

/-- The frame of a SEND descriptor with its payload: header, body, and the state with the nonce counted. -/
def sendFrame (s : State) (b : Bobbin) (own : Nat) (d : List Byte) : BitVec 256 × List Byte × State :=
  let enc := bit (dF d 6 1) 1
  let mc := bit (dF d 0 4) 31
  let len := dF d 0x14 4
  let h := mkHdr (dF d 0 4 % 2 ^ 20) (fget s TBL_SELF.CHIP) (dF d 4 1) own (fget s SEC_SELF.INC) (dF d 0x10 1) (dF d 5 1)
    (b2n (bit (dF d 6 1) 0) * 2 ^ flECT + b2n enc * 2 ^ flENC + b2n mc * 2 ^ flMCAST) (dF d 7 1) len 0 (dF d 8 8)
  if !enc then (h, storeBytes b (dF d 0x18 4) len, s)
  else
    match jobKey s own (dF d 7 1) with
    | none => (h, [], s)
    | some k =>
      let nonce := sendNonce s k.n
      let h := sealHdr h []
      let ct := gcmSeal k.key (BitVec.ofNat 96 nonce) (frameAad h) (storeBytes b (dF d 0x18 4) (len - 28))
      let s := setSec s fun t => { t with keys := tput (tdel t.keys (256 * own + dF d 7 1)) (256 * own + dF d 7 1) { k with n := k.n + 1 } }
      (h, le 12 nonce ++ ct, s)

/-- SEND (R299, R300). -/
def fireSend (s : State) (n j : Nat) : State :=
  fire s n j (fun _ w => sOp w == 0x23) fun s b w =>
    match descAt b (vRa b j w).toNat 32 with
    | .inl code => .fault s code 0
    | .inr d =>
      let s := storeFix s n (vRa b j w).toNat 32
      let own := regionOwner s b.region
      if !sendOk s own d then .fault s fSEND 0
      else
        let text := if bit (dF d 6 1) 1 then dF d 0x14 4 - 28 else dF d 0x14 4
        match readRanges s n [(dF d 0x18 4, text)] with
        | none => .fault s fSTORE_ECC 0
        | some s =>
          let (h, body, s) := sendFrame s b own d
          let s := accept s n j w d 0 fun b k => { b with send := b.send ++ [k] }
          let id := s.core.nextId
          .go (match cpHome s (n / 256) with
            | some sw => originateSend s sw h body n
            | none => sendCrossed (ctxBump (bump s FLT_DROP_DIE) own 4 1) { id := id, bob := some n }) (nextPc b j)

/-- A SEND whose frame has crossed or been dropped completes (R300). -/
def sendComplete (s : State) (n : Nat) : State :=
  match (bob s n).send.findIdx? (·.crossed) with
  | none => s
  | some i =>
    match (bob s n).send[i]? with
    | none => s
    | some w =>
      if !dieUp s (bobDie n) || !postRoom s n w then s
      else workDone (setBobbin s n fun b => { b with send := b.send.eraseIdx i }) n w

/-! Arrival at a bobbin (R291). -/

/-- A flit taken by bobbin n: checked at the region boundary, then queued or written. -/
def takeFlit (s : State) (n : Nat) (f : Flit) : State :=
  let r := (bob s n).region
  let put := fun (s : State) =>
    match f.tok with
    | some t => pushToken s n f.queue t
    | none => storeWrite s n f.addr f.data
  if r == f.srcRgn && r < 64 then put s
  else if 64 ≤ r || regionOwner s r != f.ctx then flitDrop s r
  else if f.gen.toNat != regionGen s r then
    let s := bump (ctxBump (flitDrop s r) (regionOwner s r) 5 1) (PMC_STALE_RGN r)
    staleEvent s (bobDie n) (regionOwner s r) 1 r (regionGen s r) (fget s TBL_SELF.CHIP)
  else if regionState s r != rRUNNING then flitDrop s r
  else put s

/-- Can flit f reach bobbin n now: its queue has room, and no bundle on its way holds a retune window (R280, R380)? -/
def flitComes (s : State) (n : Nat) (f : Flit) : Bool :=
  (f.tok.isNone || !queueFull (bob s n) f.queue) &&
    (!reach s (bobDie f.src) (bobDie n) || routeSends s (bobDie f.src) (bobDie n))

/-- TOKEN_ARRIVE: the oldest flit on its way to bobbin n that can come (R280, R291). -/
def tokenArrive (s : State) (n : Nat) : State :=
  let b := bob s n
  if !dieUp s (bobDie n) then s
  else
    match b.inFlight.findIdx? (flitComes s n) with
    | none => s
    | some i =>
      match b.inFlight[i]? with
      | none => s
      | some f => takeFlit (setBobbin s n fun b => { b with inFlight := b.inFlight.eraseIdx i }) n f

/-! Delivery (R293 to R297). -/

/-- Bobbin, index and entry of inlet `num` of region r. -/
def findInlet (s : State) (r num : Nat) : Option (Nat × Nat × BitVec 128) :=
  (regionBobs s r).findSome? fun n => (inletEntry (bob s n) num).map fun e => (n, e)

/-- A ring with n more bytes: where they go and the ring after; none where they do not fit (R295, R296). -/
def ringPut (x : Inlet) (size n : Nat) : Option (Nat × Inlet) :=
  let start := ceilDiv x.head 64 * 64
  let (from', skip) := if size < start + n || size ≤ start then (0, size - x.head) else (start, start - x.head)
  if size < x.used + skip + ceilDiv n 64 * 64 then none
  else some (from', { head := (from' + n) % size, used := x.used + skip + n })

/-- Table 11.10 rows 3 and 5 for inlet `num` of region r, and the delivery: the failed row, or the state after it. -/
def deliverTo (s : State) (r num : Nat) (h : BitVec 256) (body : List Byte) : Nat ⊕ State :=
  match findInlet s r num with
  | none => .inl 3
  | some (n, i, e) =>
    let b := bob s n
    match ringPut (tget {} b.inlets i) (inSize e) body.length with
    | none => .inl 5
    | some (o, x) =>
      if queueFull b (inQueue e) then .inl 5
      else
        let a := inBase e + o
        let (v, s) := draw s
        let t : Token :=
          { hdr := tokHdr 2 (v.toNat % 256) (v.toNat / 256) r (regionGen s r) (inQueue e) (hCtx h),
            w0 := BitVec.ofNat 64 (a + body.length * 2 ^ 21 + hType h * 2 ^ 35 + hChan h * 2 ^ 43),
            w1 := BitVec.ofNat 64 (hf h 2 0 64), w2 := BitVec.ofNat 64 (hSrc h + hInc h * 2 ^ 20) }
        let s := storeWrite s n a body
        .inr (pushToken (setBobbin s n fun b => { b with inlets := tset {} b.inlets i x }) n (inQueue e) t)

/-- A delivery that fails a row: counted, with one event per region and row in 10 ms (R294). -/
def deliveryFail (s : State) (r row : Nat) : State :=
  let own := regionOwner s r
  eventLim (ctxBump (bump s (BOB_RX_DROP r)) own 22 1) (winKey 0x0A 3 r row) 10000000 0x0A 3 1 (4 + r / 16) (evCtx own) r
    (le 1 row)

/-- INLET_DELIVERY: a DATA frame at the SW–CP bundle entry of CP die c (R65, R71, R294). -/
def inletDelivery (s : State) (c : Nat) (f : Frame) : State :=
  let h := f.hdr
  let r := dataRegion h
  let own := regionOwner s r
  let g := regionGen s r
  if regionWeaving s r && hRgen h == g then
    sendNack (unitDrop (ctxBump (bump s (BOB_RX_DROP r)) own 22 1) f) c h 2 1 r g
  else if hRgen h != g then staleRole s c f 1 r g own
  else if hCtx h != own then sendNack (deliveryFail (unitDrop s f) r 1) c h 4 1 r g
  else if regionState s r != rRUNNING then deliveryFail (unitDrop s f) r 2
  else if hOffset h % 2 ^ 34 != 0 then deliveryFail (unitDrop s f) r 3
  else
    match findInlet s r (dataInlet h) with
    | none => deliveryFail (unitDrop s f) r 3
    | some _ =>
      match (if hEnc h then openFrame s h f.body else some f.body) with
      | none => deliveryFail (unitDrop s f) r 4
      | some body =>
        match deliverTo s r (dataInlet h) h body with
        | .inl row => deliveryFail (unitDrop s f) r row
        | .inr s => s

/-- HANDOFF_DELIVERY: the oldest RESULT, SEAL or ABORT handed to region r, to its inlet 15 (R267, R297). A failure aborts the
collective, if it still runs. -/
def handoffDelivery (s : State) (r : Nat) : State :=
  match tget [] s.pic.handoff r with
  | [] => s
  | f :: rest =>
    let s := setPic s fun p => { p with handoff := tset [] p.handoff r rest }
    let h := f.hdr
    let abort := fun (s : State) =>
      if (findColl s (hCtx h) (hGroup h) (hCseq h)).isSome then
        abortColl s (hGroup h) (hCseq h) aHANDOFF (if hType h == tRESULT then hChunk h else noChunk) noPort true
      else s
    if hRgen h != regionGen s r then abort s
    else if regionState s r != rRUNNING then abort (deliveryFail s r 2)
    else
      match deliverTo s r 15 h f.body with
      | .inl row => abort (deliveryFail s r row)
      | .inr s => s

/-! The commands. -/

/-- COPY_STORE_LOCAL (R285). -/
def execCopyStoreLocal (n : Bob) (needle : Fin 4) (s : State) : Host.Outcome State Fault Refusal :=
  live s fun s => fireCopy s n.val needle.val 0

/-- COPY_TO_ROUTE (R285). -/
def execCopyToRoute (n : Bob) (needle : Fin 4) (s : State) : Host.Outcome State Fault Refusal :=
  live s fun s => fireCopy s n.val needle.val 1

/-- COPY_MEM_TO_STORE (R286). -/
def execCopyMemToStore (n : Bob) (needle : Fin 4) (s : State) : Host.Outcome State Fault Refusal :=
  live s fun s => fireCopy s n.val needle.val 2

/-- COPY_STORE_TO_MEM (R286). -/
def execCopyStoreToMem (n : Bob) (needle : Fin 4) (s : State) : Host.Outcome State Fault Refusal :=
  live s fun s => fireCopy s n.val needle.val 3

/-- COPY_GATHER (R285). -/
def execCopyGather (n : Bob) (needle : Fin 4) (s : State) : Host.Outcome State Fault Refusal :=
  live s fun s => fireCopy s n.val needle.val 4

/-- COPY_SCATTER (R285). -/
def execCopyScatter (n : Bob) (needle : Fin 4) (s : State) : Host.Outcome State Fault Refusal :=
  live s fun s => fireCopy s n.val needle.val 5

/-- SEND (R299). -/
def execSend (n : Bob) (needle : Fin 4) (s : State) : Host.Outcome State Fault Refusal :=
  live s fun s => fireSend s n.val needle.val

/-- COPY_COMPLETE (R285). -/
def execCopyComplete (n : Bob) (s : State) : Host.Outcome State Fault Refusal := live s fun s => copyComplete s n.val

/-- SEND_COMPLETE (R300). -/
def execSendComplete (n : Bob) (s : State) : Host.Outcome State Fault Refusal := live s fun s => sendComplete s n.val

/-- TOKEN_ARRIVE (R291). -/
def execTokenArrive (n : Bob) (s : State) : Host.Outcome State Fault Refusal := live s fun s => tokenArrive s n.val

/-- INLET_DELIVERY (R294). -/
def execInletDelivery (die : Fin 4) (s : State) : Host.Outcome State Fault Refusal :=
  live s fun s => takeIo s (4 + die.val) (· == tDATA) fun s f => inletDelivery s die.val f

/-- HANDOFF_DELIVERY (R297). -/
def execHandoffDelivery (region : Region) (s : State) : Host.Outcome State Fault Refusal :=
  live s fun s => if dieUp s (4 + region.val / 16) then handoffDelivery s region.val else s

end Sys2Proof.Machine
end

