-- ==== Sys2Proof/Machine/OneSided.lean ====
section
/-! DEFINITION. One-sided access to a context's memory (R335 to R338), the weight cache and map registers (R339, R341), and
the patrol (R329). -/

namespace Sys2Proof.Machine

/-- Table 13.5 and R71 for n bytes at offset o of the frame's context: the failed row, 0 for R71, or none. -/
def osCheck (s : State) (f : Frame) (shape : Bool) (o n : Nat) (put : Bool) : Option Nat :=
  let x := hCtx f.hdr
  if hRgen f.hdr != ctxGen s x then some 0
  else if !ctxUsable s x then some 1
  else if !shape then some 2
  else if winBytes s x + logBytes s x < o + n || !oneFrame o n then some 3
  else if (put && winBytes s x ≤ o) || (o < winBytes s x && touchesSlot s x o n) then some 4
  else none

/-- What a failed row does (R336). -/
def osFail (s : State) (d : Nat) (f : Frame) (row : Nat) : State :=
  let x := hCtx f.hdr
  if row == 0 then staleRole s d f 3 x (ctxGen s x) x
  else
    let s := unitDrop (bump s (if row == 2 then MEM_OS_BAD else MEM_OS_DENY)) f
    let s := eventLim s (winKey 0x0B 5 x row) 10000000 0x0B 5 1 d x x (le 1 row)
    if row == 2 then s else sendNack s d f.hdr 4 3 x (ctxGen s x)

/-- SW die of internal output x. -/
def ioDie (x : Nat) : Nat := x % 4

/-- ONE_SIDED_PUT (R335, R336): the payload is stored as it arrived, unless it covers part of an unreadable line. -/
def oneSidedPut (s : State) (io : Nat) (f : Frame) : State :=
  let x := hCtx f.hdr
  let o := hOffset f.hdr
  let n := hLen f.hdr
  match osCheck s f (n != 0) o n true with
  | some row => osFail s (ioDie io) f row
  | none =>
    match ctxLoc s x o with
    | none => s
    | some (d, P) =>
      let s := memTouchPart s d P n
      if writeBlocked s d P n then unitDrop (bump s MEM_OS_UE) f
      else ctxBump (memWrite s d P f.body) x 12 n

/-- Payload of a GET: LENGTH, RETURN, and whether its shape holds. -/
def getLen (f : Frame) : Nat := fieldAt f.body 0 4
def getRet (f : Frame) : Nat := fieldAt f.body 8 8
def getShape (f : Frame) : Bool :=
  hLen f.hdr == 16 && 1 ≤ getLen f && getLen f ≤ 8192 && fieldAt f.body 4 4 == 0 && getRet f < 2 ^ 48 && f.chan < 8

/-- A GET_RESP for a GET (R335). -/
def getResp (s : State) (d : Nat) (f : Frame) (data : List Byte) : State :=
  let h := f.hdr
  originate s d (mkHdr (hSrc h) (fget s TBL_SELF.CHIP) (hChan h + 8) (hCtx h) (fget s SEC_SELF.INC) 0 tGET_RESP 0 0
    data.length 0 (getRet f)) data

/-- ONE_SIDED_GET (R336, Table 13.2): a GET that meets an unreadable line is answered with LEN 0; in the log range the
record is found out (R259). -/
def oneSidedGet (s : State) (io : Nat) (f : Frame) : State :=
  let x := hCtx f.hdr
  let o := hOffset f.hdr
  let n := getLen f
  match osCheck s f (getShape f) o n false with
  | some row => osFail s (ioDie io) f row
  | none =>
    let s := ctxTouch s x o n
    let bad := (linesOf o n).filter fun l => match ctxLoc s x l with
      | some (d, P) => lineBad s d P
      | none => false
    if bad.isEmpty then ctxBump (getResp s (ioDie io) f (ctxRead s x o n)) x 13 n
    else
      let s := forEach bad s fun s l => if winBytes s x ≤ l then logHit s x (l - winBytes s x) else s
      getResp (bump s MEM_OS_UE) (ioDie io) f []

/-- GET_RESP_RX (R262, R338): matched by SRC, CTX and RETURN. -/
def getRespRx (s : State) (f : Frame) : State :=
  let h := f.hdr
  let hit := fun (m : MirrorGet) =>
    m.ctx == hCtx h && m.ret == hOffset h && m.buddy == hSrc h
  match s.pic.gets.find? hit with
  | some m => mirrorConfirm s f m
  | none => unitDrop (bump s MEM_OS_BAD) f

/-- Range of `MEM_WC_x` (R339): within the placed window frames, no slot frame; LEN 1 to 35,840 when EN = 1. -/
def memRange (s : State) (off : Nat) (w : Word) : Bool :=
  if 0x2C03000 ≤ off && off < 0x2C05000 then
    let x := (off - 0x2C03000) / 8
    let n := wget w (MEM_WC.LEN x)
    let b := wget w (MEM_WC.BASE x)
    wbit w (MEM_WC.EN x) &&
      (n < 1 || 35840 < n || (winFrames s x).length < b + n || (List.range n).any fun k => isSlotFrame s x (b + k))
  else false

/-- A write of `MEM_MAP_SEL` loads `MEM_MAP_DATA`. -/
def memEffect (s : State) (off : Nat) (_ : Word) : State := if off == MEM_MAP_SEL then memMapLoad s else s

/-- ONE_SIDED_PUT (R336). -/
def execOneSidedPut (io : Fin 8) (s : State) : Host.Outcome State Fault Refusal :=
  live s fun s => takeIo s io.val (· == tPUT) fun s f => oneSidedPut s io.val f

/-- ONE_SIDED_GET (R336). -/
def execOneSidedGet (io : Fin 8) (s : State) : Host.Outcome State Fault Refusal :=
  live s fun s => takeIo s io.val (· == tGET) fun s f => oneSidedGet s io.val f

/-- GET_RESP_RX (R338). -/
def execGetRespRx (io : Fin 8) (s : State) : Host.Outcome State Fault Refusal :=
  live s fun s => takeIo s io.val (· == tGET_RESP) fun s f => getRespRx s f

/-- PATROL_READ (R329), with the bit errors that have arisen meanwhile, in the word read and in others (log entry 228). No read
reaches a die that is not working. -/
def execPatrolRead (chan : Fin 640) (addr : BitVec 33) (err : MemErrs) (s : State) : Host.Outcome State Fault Refusal :=
  live s fun s =>
    let s := forEach err.upsets s fun s u => errArise s u.chan.val u.addr.toNat u.err
    if dieUp s (chan.val / 80) then patrolRead s chan.val addr.toNat err.word else s

end Sys2Proof.Machine
end

