-- ==== Sys2Proof/Machine/Time.lean ====
section
/-! DEFINITION. The timebase (chapter 14): reading and setting it, the servo, capture, triggers, and the tick of the clock with
the counters that count by level (R442). -/

namespace Sys2Proof.Machine

/-! Steps and sets (R356, R359). -/

/-- Size of the timebase's range, in units of 2^-32 ns: 48 bits of seconds. -/
def tbMod : Nat := 2 ^ 48 * 1000000000 * 2 ^ 32

/-- Is a lane SLOTTED in the operational map? -/
def slottedNow (s : State) : Bool := s.byp.oper.any fun e => e.2.mode == 1

/-- Is a lane SLOTTED in a pending slot-map commit? -/
def slottedSoon (s : State) : Bool := s.byp.pend.isSome && s.byp.shadow.any fun e => e.2.mode == 1

/-- Entry of a list of n durations that offset o falls in, and where that entry begins. -/
def entryOf (s : State) (L b : Nat) : Nat → Nat → Nat → Nat → Nat × Nat
  | 0, e, start, _ => (e, start)
  | fuel + 1, e, start, o =>
    let d := fget s (TM_GCL.DURATION L b e)
    if o < start + d then (e, start) else entryOf s L b fuel (e + 1) (start + d) o

/-- A gate list enters the entry that the present time falls in, its cycles still at BASE + n × CYCLE (R359). -/
def gateEnter (s : State) (L : Nat) : State :=
  let n := fget s (PRT_GATE_STAT.LEN L)
  let b := fget s (PRT_GATE_STAT.BANK L)
  let cy := gateCycle s L b n
  if n == 0 || cy == 0 then s
  else
    let o := (((s.tbNs : Int) - (gate s L).base) % cy).toNat
    let (e, start) := entryOf s L b n 0 0 o
    fset (setGate s L fun g => { g with entryAt := s.tbNs - (o - start) }) (PRT_GATE_STAT.ENTRY L) e

/-! Triggers (R358). -/

/-- A time in nanoseconds from the low 32 bits of its seconds, nearest the present (R344). -/
def nearTime (s : State) (sec ns : Nat) : Nat :=
  nearSec s sec * 1000000000 + ns

/-- Time of TB_TRIG_T_k. -/
def trigTime (s : State) (k : Nat) : Nat := nearTime s (fget s (TB_TRIG_T.SEC k)) (fget s (TB_TRIG_T.NS k))

/-- Bobbins of region r by the active pricking's CP_DIE section. -/
def regionCount (s : State) (r : Nat) : Nat :=
  match s.sys.active with
  | some im => 16 * ((List.range 16).filter fun k => bit (tget 0 im.cp r).toNat k).length
  | none => 0

/-- A write of TB_TRIG_C_k with ARMED = 1 arms the trigger afresh. -/
def trigArm (s : State) (k : Nat) : State :=
  if !fbit s (TB_TRIG_C.ARMED k) then s
  else
    let t := trigTime s k
    fset (setTime s fun m => { m with trigAt := tset 0 m.trigAt k t, trigDue := tset false m.trigDue k (t ≤ s.tbNs) })
      (TB_TRIG_C.LATE k) 0

/-- The token of a trigger: header bits the spec does not name are free values. -/
def trigToken (s : State) (k : Nat) : State :=
  let r := fget s (TB_TRIG_C.REGION k)
  let q := fget s (TB_TRIG_C.QUEUE k)
  let t := tget 0 s.time.trigAt k
  match (regionBobs s r)[fget s (TB_TRIG_C.BOBBIN k)]? with
  | none => flitDrop s r
  | some n =>
    if fget s (TB_TRIG_C.GEN k) != regionGen s r || regionState s r != rRUNNING then flitDrop s r
    else
      let (v, s) := draw s
      let tok : Token :=
        { hdr := tokHdr 0 (v.toNat % 256) (v.toNat / 2 ^ 8) (v.toNat / 2 ^ 16) (fget s (TB_TRIG_C.GEN k)) q (v.toNat / 2 ^ 32),
          w0 := BitVec.ofNat 64 (t / 1000000000 % 2 ^ 32 * 2 ^ 32 + t % 1000000000), w1 := BitVec.ofNat 64 k }
      setBobbin s n fun b =>
        { b with inFlight := b.inFlight ++ [{ tok := some tok, queue := q, src := n, srcRgn := r, ctx := regionOwner s r }] }

/-- Trigger k acts once. -/
def trigAct (s : State) (k : Nat) : State :=
  let s := fset (fset s (TB_TRIG_C.ARMED k) 0) (TB_TRIG_C.FIRED k) 1
  let s := if tget false s.time.trigDue k then fset s (TB_TRIG_C.LATE k) 1 else s
  if fget s (TB_TRIG_C.ACTION k) == 0 then ring s (80 + k) else trigToken s k

/-- Is trigger k armed with its time reached? -/
def trigReady (s : State) (k : Nat) : Bool := fbit s (TB_TRIG_C.ARMED k) && tget 0 s.time.trigAt k ≤ s.tbNs

/-- The triggers whose time is reached, in order of time and of equal time by index (R357, R359). -/
def trigOrder (s : State) : List Nat :=
  let key := fun j => tget 0 s.time.trigAt j * 64 + j
  ((List.range 64).filter (trigReady s)).foldl
    (fun l j => (l.filter fun i => key i < key j) ++ [j] ++ l.filter fun i => key j < key i) []

/-- Every trigger whose time is reached acts. -/
def trigAll (s : State) : State := forEach (trigOrder s) s trigAct

/-- TRIGGER_FIRE: trigger k acts, after every due trigger with an earlier time, and of equal time a lower index. -/
def trigFire (s : State) (k : Nat) : State :=
  if trigReady s k then forEach ((trigOrder s).takeWhile (· != k) ++ [k]) s trigAct else s

/-! Steps and sets act. -/

/-- The timebase takes a new value: STEPPED, one event with the step in 2^-16 ns, source 6 (R352, R356). What was due before the
step and what it passes acts at once: triggers in order of their times; a gate list's pending switch; and every gate list
enters the entry of the new time. After a step back no slot counts as matched (R228, R359). -/
def tbJump (s : State) (new : Int) : State :=
  let s := trigAll s
  let step := (new - s.tb) / 65536
  let s := { s with tb := (new % tbMod).toNat }
  let s := ring (event (fset s TB_STAT.STEPPED 1) 0x0C 1 1 8 0xFFFF 0 (le 8 (ofInt 64 step))) 6
  let s := if step < 0 then setByp s fun b => { b with matched := [], granted := [] } else s
  trigAll (forEach (s.tm.gates.map (·.1)) s fun s L => gateEnter (gateSwitch s L) L)

/-- TB_SET_NS written (R356). -/
def tbSet (s : State) : State :=
  tbJump s ((fget s TB_SET_SEC.SEC * 1000000000 + fget s TB_SET_NS.NS) * 2 ^ 32 : Nat)

/-! The servo (R352 to R354). -/

/-- Servo states (Table 14.2). -/
def svFREE : Nat := 0
def svLOCKING : Nat := 1
def svLOCKED : Nat := 2
def svHOLDOVER : Nat := 3

/-- The servo enters a state: source 6, and an event on entry into LOCKED and HOLDOVER. -/
def servoTo (s : State) (st : Nat) : State :=
  if fget s TB_STAT.SERVO == st then s
  else
    let s := ring (fset s TB_STAT.SERVO st) 6
    if st == svLOCKED || st == svHOLDOVER then event s 0x0C 2 0 8 0xFFFF 0 (le 1 st) else s

/-- ±200 ppm in 2^-32. -/
def clampRate (v : Int) : Int := max (-858993) (min 858993 v)

/-- A value in units of 2^-32 from n / 2^32 of that unit; the rounding is open. -/
def openRound (s : State) (n : Int) : Int × State :=
  let (r, s) := draw s
  (n / 2 ^ 32 + (if n % 2 ^ 32 != 0 && bit r.toNat 0 then 1 else 0), s)

/-- One sample e, in 2^-16 ns, while EN = 1 (R352 to R354). -/
def sample (s : State) (e : Int) : State :=
  let big := fbit s TB_SERVO.STEP_EN && fget s TB_SERVO.STEP_NS * 65536 ≤ e.natAbs
  let slotted := slottedNow s
  let s := setTime s fun t => { t with lastSample := s.now }
  let s :=
    if big && !slotted then tbJump (setTime s fun t => { t with integ := 0, refused := false }) ((s.tb : Int) - e * 65536)
    else
      let s := if big && !s.time.refused then event s 0x0C 3 1 8 0xFFFF 0 (le 8 (ofInt 64 e)) else s
      let s := setTime s fun t => { t with refused := big }
      let (di, s) := openRound s (fget s TB_GAIN.KI * e)
      let i := clampRate (s.time.integ + di)
      let (p, s) := openRound s (fget s TB_GAIN.KP * e)
      fset (setTime s fun t => { t with integ := i }) TB_RATE.RATE (ofInt 32 (clampRate (-(p + i))))
  let small := e.natAbs ≤ 100 * 65536
  let s := setTime s fun t => { t with good := if small then t.good + 1 else 0 }
  match fget s TB_STAT.SERVO with
  | 2 => if small then s else servoTo s svLOCKING
  | 1 => if 8 ≤ s.time.good then servoTo s svLOCKED else s
  | _ =>
    let s := servoTo (setTime s fun t => { t with good := if small then 1 else 0 }) svLOCKING
    s

/-- TB_OFFSET written: stored in `TB_LAST`; a sample where EN = 1. -/
def tbOffset (s : State) : State :=
  let s := setReg s TB_LAST (getReg s TB_OFFSET)
  if fbit s TB_SERVO.EN then sample s (getReg s TB_OFFSET).toInt else s

/-- TB_SERVO written: EN = 0 is FREE with RATE 0. -/
def tbServo (s : State) : State := if fbit s TB_SERVO.EN then s else servoTo (fset s TB_RATE.RATE 0) svFREE

/-- HOLDOVER_TIMEOUT (R354). -/
def holdover (s : State) : State :=
  let st := fget s TB_STAT.SERVO
  if (st == svLOCKING || st == svLOCKED) && s.elapsed s.time.lastSample (fget s TB_SERVO.HOLD_MS * 1000000) then
    servoTo s svHOLDOVER
  else s

/-! Capture (R351). -/

/-- TB_CAP_POP: the oldest record moves into the record registers, zeros if there is none. -/
def capPop (s : State) : State :=
  let r := s.time.capFifo.headD []
  let s := capShow (setTime s fun t => { t with capFifo := t.capFifo.drop 1 })
  forRange 6 s fun s k => setReg s (TB_CAP_W k) (r.getD k 0)

/-! Registers. -/

/-- Values out of range (Table 14.4, R358). -/
def tbRange (s : State) (off : Nat) (w : Word) : Bool :=
  if off == TB_SET_NS then 1000000000 ≤ wget w TB_SET_NS.NS
  else if off == TB_SERVO then
    wget w TB_SERVO.HOLD_MS < 10 || 60000 < wget w TB_SERVO.HOLD_MS || wget w TB_SERVO.STEP_NS < 1000 ||
      1000000000 < wget w TB_SERVO.STEP_NS
  else if 0x301000 ≤ off && off < 0x301400 then
    if off % 16 == 0 then 1000000000 ≤ wget w (TB_TRIG_T.NS 0)
    else
      let k := (off - 0x301000) / 16
      1 < wget w (TB_TRIG_C.ACTION k) ||
        (wbit w (TB_TRIG_C.ARMED k) && (s.tbNs + 10000000000 < trigTime s k ||
          (wget w (TB_TRIG_C.ACTION k) == 1 && regionCount s (wget w (TB_TRIG_C.REGION k)) ≤ wget w (TB_TRIG_C.BOBBIN k))))
  else false

/-- A set is refused while a lane is SLOTTED (R356). -/
def tbState (s : State) (off : Nat) (_ : Word) : Bool := off == TB_SET_NS && (slottedNow s || slottedSoon s)

/-- Effects of accepted writes. -/
def tbEffect (s : State) (off : Nat) (w : Word) : State :=
  if off == TB_SET_NS then tbSet s
  else if off == TB_OFFSET then tbOffset s
  else if off == TB_SERVO then tbServo s
  else if off == TB_CAP_POP then (if wbit w TB_CAP_POP.POP then capPop s else s)
  else if 0x301000 ≤ off && off < 0x301400 && off % 16 == 8 then trigArm s ((off - 0x301000) / 16)
  else s

/-! The clock. -/

/-- Counters by level of port L over `dt` nanoseconds (R442, R444). -/
def levelPort (dt : Nat) (s : State) (L : Nat) : State :=
  if !dieUp s (swOf L) then s
  else
    let p := port s L
    let heads := headFrames s L
    let add := fun (s : State) (c : Bool) off => if c then bumpBy s off dt else s
    let cred := heads.any fun h => !h.2.2.eth && !creditOk p h.2.2.chan (unitsOf (frameLen h.2.2))
    let gated := !s.asBasic && heads.any fun h => !gateOk s L h.1 (frameLen h.2.2)
    let s := add s (portUp s L) (PRT_UP_NS L)
    let s := add s cred (PRT_CRED_NS L)
    let s := add s (p.pfcUntil.any fun e => s.now < e.2) (PRT_PFC_NS L)
    let s := add s (!p.xoff.isEmpty) (PRT_XOFF_NS L)
    add s gated (PRT_GATE_NS L)

/-- Account of a RUNNING bobbin's arrays that have no MMA (R447). -/
def idleAccount (s : State) (n : Nat) : Nat :=
  let b := bob s n
  let held := fun j => (needle b j).running && heldBack s n j
  let waits := fun j => (needle b j).running && sW (stitchAt b j) && (queueOf b (sTq (stitchAt b j))).isEmpty
  let fenced := fun j => sOp (stitchAt b j) == 0x28 && !(b.send.any fun w => w.needle == j)
  if (List.range 4).any fun j => held j && (throttled s n j || !fenced j) then 3 else if (List.range 4).any waits then 4 else 5

/-- Top-down accounts of bobbin n over `dt` nanoseconds. -/
def levelBob (dt : Nat) (s : State) (n : Nat) : State :=
  let b := bob s n
  if b.region < 64 && regionState s b.region == rRUNNING && b.mma.isEmpty then tdAdd s n (idleAccount s n) (16 * dt) else s

/-- One tick: the timebase and the duration clock advance by one nanosecond at the servo's rate, and the counters by level
with them (R3, R353, R442, R447). -/
def tick (s : State) : State :=
  if !s.sys.powered then s
  else
    let d := (2 ^ 32 + sext 32 (fget s TB_RATE.RATE)).toNat
    let s' := { s with tb := (s.tb + d) % tbMod, mono := s.mono + d }
    let dt := s'.now - s.now
    let s' := forEach (s'.ports.map (·.1)) s' (levelPort dt)
    forEach (s'.bob.bobs.map (·.1)) s' (levelBob dt)

/-- HOLDOVER_TIMEOUT (R354). -/
def execHoldoverTimeout (s : State) : Host.Outcome State Fault Refusal := live s holdover

/-- TRIGGER_FIRE (R358). -/
def execTriggerFire (k : Fin 64) (s : State) : Host.Outcome State Fault Refusal := live s fun s => trigFire s k.val

end Sys2Proof.Machine
end

