-- ==== Sys2Proof/Machine/Views.lean ====
section
/-! DEFINITION. Registers whose value follows from the rest of the state, and the dies that hold registers (R489, Table
21.4). -/

namespace Sys2Proof.Machine

/-- Die code that holds the register at an offset; none for a register held in CTL (Table 21.4). -/
def regDie (off : Nat) : Option Nat :=
  let within := fun (base stride n : Nat) => base ≤ off && off < base + stride * n
  let idx := fun (base stride : Nat) => (off - base) / stride
  if inPortPage off then some (swOf (pageOf off))
  else if within 0x1401000 8 1024 then some (idx 0x1401000 8 / 256)
  else if within 0x1403000 8 1024 then some (idx 0x1403000 8 / 256)
  else if within 0x1405000 8 1024 then some (idx 0x1405000 8 / 256)
  else if within 0x1400000 8 128 then some (idx 0x1400000 8 / 32)
  else if within (BYP_LANE 0) 8 1024 then some (idx (BYP_LANE 0) 8 / 256)
  else if within (BYP_FIBRE 0) 8 128 then some (idx (BYP_FIBRE 0) 8 / 32)
  else if within 0x1408000 8 160 then some (idx 0x1408000 8 / 40)
  else if within (SWC_DIE 0) 8 4 then some (idx (SWC_DIE 0) 8)
  else if within (SWC_PUSHOUT 0) 8 4 then some (idx (SWC_PUSHOUT 0) 8)
  else if within (SWC_TRUNC 0) 8 4 then some (idx (SWC_TRUNC 0) 8)
  else if within (SWC_RESEQ_LOST 0) 8 4 then some (idx (SWC_RESEQ_LOST 0) 8)
  else if within (PIC_DIE 0) 8 4 then some (idx (PIC_DIE 0) 8)
  else if within (SWC_VOQ 0) 8 65536 then some (idx (SWC_VOQ 0) 8 / 16384)
  else if within (SWC_IVOQ 0) 8 576 then some (idx (SWC_IVOQ 0) 8 / 144)
  else if within (PIC_ENG 0) 8 32 then some (idx (PIC_ENG 0) 8 / 8)
  else if within (BOB_RGN_STAT 0) 8 64 then some (4 + idx (BOB_RGN_STAT 0) 8 / 16)
  else if within (BOB_RX_DROP 0) 8 64 then some (4 + idx (BOB_RX_DROP 0) 8 / 16)
  else if within (BOB_TOK_DROP 0) 8 64 then some (4 + idx (BOB_TOK_DROP 0) 8 / 16)
  else if within (BOB_SEND 0) 8 64 then some (4 + idx (BOB_SEND 0) 8 / 16)
  else if within (PMC_STALE_RGN 0) 8 64 then some (4 + idx (PMC_STALE_RGN 0) 8 / 16)
  else if within (PMC_STORE_CE 0) 8 64 then some (4 + idx (PMC_STORE_CE 0) 8 / 16)
  else if within (PMC_PACE 0) 8 1024 then some (4 + idx (PMC_PACE 0) 8 / 256)
  else if within (PMC_PACE 1024) 8 128 then some (idx (PMC_PACE 1024) 8 / 16)
  else if within 0x3440000 64 1024 then some (4 + idx 0x3440000 64 / 256)
  else if within (MEM_CH 0) 8 640 then some (idx (MEM_CH 0) 8 / 80)
  else if within (MEM_CE 0) 8 640 then some (idx (MEM_CE 0) 8 / 80)
  else if within (MEM_UE 0) 8 640 then some (idx (MEM_UE 0) 8 / 80)
  else none

/-- Is the register held on a die that is not UP (R489)? -/
def regDieDown (s : State) (off : Nat) : Bool :=
  match regDie off with
  | some d => !dieUp s d
  | none => false

/-- Value of `PRT_JLP`: what the peer advertised, INIT_RX and the negotiated version (Table 5.8). -/
def jlpView (s : State) (L : Nat) : Nat :=
  let p := port s L
  tget 0 p.peerS 1 % 2 ^ 24 * 2 ^ 32 + tget 0 p.peerS 0 % 2 ^ 24 * 2 ^ 8 + b2n (p.initRx == 3) * 4 + fget s (PRT_JLP.VER L)

/-- Value of `PRT_CRD_c`. -/
def crdView (s : State) (L c : Nat) : Nat :=
  let p := port s L
  tget 0 p.peerD c % 2 ^ 16 * 2 ^ 24 + outUnits p c % 2 ^ 24

/-- Sum of slots and records of a context on the four switch dies. -/
def memUse (s : State) (x : Nat) : Nat := ((List.range 4).map (slotUse s false x)).sum

/-- The value of a register that follows from other state, if it is one. -/
def viewOf (s : State) (off : Nat) : Option Nat :=
  if inPortPage off then
    let L := pageOf off
    let o := off % 0x1000
    if o == 0x40 then some (jlpView s L)
    else if 0x80 ≤ o && o < 0x100 then some (crdView s L ((o - 0x80) / 8))
    else none
  else if SWC_DIE 0 ≤ off && off < SWC_DIE 4 then
    let d := (off - SWC_DIE 0) / 8
    some (cellsUsed s d true * 2 ^ 24 + cellsFree s d)
  else if SWC_FENCE 0 ≤ off && off < SWC_FENCE 16 then
    let w := (off - SWC_FENCE 0) / 8
    some (((List.range 64).map fun b => b2n (isPort s (64 * w + b) && portFenced s (64 * w + b)) * 2 ^ b).sum)
  else if SWC_VOQ 0 ≤ off && off < SWC_VOQ 65536 then some (voqDepth s ((off - SWC_VOQ 0) / 8))
  else if SWC_IVOQ 0 ≤ off && off < SWC_IVOQ 576 then some (voqDepth s (65536 + (off - SWC_IVOQ 0) / 8))
  else if PIC_DIE 0 ≤ off && off < PIC_DIE 4 then
    let d := (off - PIC_DIE 0) / 8
    some (slotUse s false 1024 d * 2 ^ 32 + slotUse s true 1024 d)
  else if PIC_CTX 0 ≤ off && off < PIC_CTX 1024 then
    let x := (off - PIC_CTX 0) / 16
    if off % 16 == 0 then some (((List.range 4).map fun d => slotUse s true x d * 2 ^ (16 * d)).sum) else some (memUse s x)
  else none

/-- A die's registers that follow from its state, kept as they read at its isolation (R489). -/
def freezeViews (s : State) (d : Nat) : State :=
  let keep := fun (s : State) off => match viewOf s off with
    | some v => setReg s off (BitVec.ofNat 64 v)
    | none => s
  if 4 ≤ d then s
  else
    let mine := (s.ports.map (·.1)).filter fun L => swOf L == d
    let depth := fun off => SWC_VOQ 0 ≤ off && off < SWC_IVOQ 576 && regDie off == some d
    let s := { s with regs := s.regs.filter fun e => !depth e.1 }
    let s' := keep (keep s (SWC_DIE d)) (PIC_DIE d)
    let s' := forEach ((s.core.voqs.map (·.1)).filter fun k => voqDie k == d) s' fun t k =>
      keep t (if k < 65536 then SWC_VOQ k else SWC_IVOQ (k - 65536))
    forEach mine s' fun t L => forRange 16 (keep t (PRT_JLP L)) fun t c => keep t (PRT_CRD L c)

end Sys2Proof.Machine
end

