-- ==== Sys2Proof/Machine/Faults.lean ====
section
/-! DEFINITION. Faults, fences and recovery (chapters 2 and 15): die faults and rejoins, bundles, port and chip fences,
reference oscillators, watchdogs and thermal sensors. -/

namespace Sys2Proof.Machine

/-! Bundles (R380 to R383, Table 15.7). -/

/-- Waveguides of bundle b (Tables 1.10, 15.7); b = 32 + d is the CTL bundle of the die with code d (DESIGN CHOICE, log
entry 270). -/
def bundleN (b : Nat) : Nat := if b < 6 then 16 else if b < 10 then 20 else if b < 16 then 10 else if b < 32 then 8 else 1

/-- Ends of bundle b, as die codes; an OE bundle ends at one switch die, and a CTL bundle is named by the die it serves. -/
def bundleDies (b : Nat) : List Nat :=
  let pairs : List (Nat × Nat) := [(0, 1), (0, 2), (0, 3), (1, 2), (1, 3), (2, 3)]
  if b < 6 then (pairs[b]?.map fun p => [p.1, p.2]).getD []
  else if b < 10 then [b - 6, b - 2]
  else if b < 16 then (pairs[b - 10]?.map fun p => [4 + p.1, 4 + p.2]).getD []
  else if b < 32 then [(b - 16) / 4] else [b - 32]

def bundle (s : State) (b : Nat) : BundleSt := tget {} s.flt.bundles b

/-- State of a bundle by its working waveguides (R382); DOWN while an end is not UP. -/
def bundleState (s : State) (b : Nat) : Nat :=
  let n := bundleN b
  let w := n - (bundle s b).removed
  if (bundleDies b).any fun d => !dieUp s d then 4
  else if w == n then 0 else if n ≤ 2 * w then 1 else if n ≤ 4 * w then 2 else 3

/-- Fractions as numerator and denominator. -/
def fracAdd (a b : Nat × Nat) : Nat × Nat := (a.1 * b.2 + b.1 * a.2, a.2 * b.2)
def fracMax (a b : Nat × Nat) : Nat × Nat := if a.1 * b.2 < b.1 * a.2 then b else a

/-- Share of the cells from die i to die j that go direct (k = 4) or through die k (R383). -/
def pathShare (s : State) (i j k : Nat) : Nat × Nat :=
  let via := fun r => if r == i || r == j || !dieUp s r then 0 else min (bundleUse s (swBundle i r)) (bundleUse s (swBundle r j))
  let wd := 2 * bundleUse s (swBundle i j)
  let t := wd + via 0 + via 1 + via 2 + via 3
  if t == 0 then (0, 1) else (if k == 4 then wd else via k, t)

/-- The greatest load, per unit of rate, that a pattern of R383 puts on the bundle from x to y: one pair direct, or one pair
from x and one pair to y. -/
def bundleLoad (s : State) (up : List Nat) (x y : Nat) : Nat × Nat :=
  let out := (up.filter fun j => j != x && j != y).foldl (fun a j => fracMax a (pathShare s x j y)) (0, 1)
  let inn := (up.filter fun i => i != x && i != y).foldl (fun a i => fracMax a (pathShare s i y x)) (0, 1)
  fracMax (pathShare s x y 4) (fracAdd out inn)

/-- The largest admissible cross-die rate, Gb/s (R383). -/
def admitRate (s : State) : Nat :=
  let up := (List.range 4).filter (dieUp s)
  let rates := up.flatMap fun x => up.filterMap fun y =>
    if x == y then none
    else
      let l := bundleLoad s up x y
      if l.1 == 0 then none else some (3500 * bundleUse s (swBundle x y) * l.2 / l.1)
  match rates with
  | [] => 0
  | r :: rs => rs.foldl min r

/-- The bundle registers and ADMIT brought up to date. -/
def bundlesRefresh (s : State) : State :=
  let s := forRange 32 s fun s b =>
    let x := bundle s b
    let s := fset (fset s (FLT_BUNDLE.STATE b) (bundleState s b)) (FLT_BUNDLE.WIDTH b) (bundleN b - x.removed)
    fset s (FLT_BUNDLE.SPARES b) ((x.spareUsed.map fun e => if e.2 ≤ 2 then e.2 else 0).sum)
  fset s FLT_XDIE.ADMIT (admitRate s)

/-- FLIT_CRC_FAIL (R40): the flit is replayed and counted. -/
def flitCrcFail (s : State) (b : Nat) : State :=
  if (bundleDies b).all (dieUp s) then bump s (FLT_REPLAY b) else s

/-- Lane failure of a bundle with spares (R380 to R382): a spare wavelength of the waveguide takes the lane's place in a retune window; with
both used the waveguide is removed. `spareUsed` 3 marks a removed waveguide. -/
def laneFail (s : State) (b wg lane : Nat) : State :=
  let x := bundle s b
  let n := tget 0 x.spareUsed wg
  if bundleN b ≤ wg || 2 < n || !(bundleDies b).all (dieUp s) then s
  else
    let put := fun (x : BundleSt) => { x with spareUsed := tset 0 x.spareUsed wg (n + 1), retuneEnd := s.now + 2000 }
    if n < 2 then
      let s := setFlt s fun t => { t with bundles := tmod {} t.bundles b put }
      bundlesRefresh (event s 0x0D 3 0 8 0xFFFF b (le 1 wg ++ le 1 lane))
    else
      let s := setFlt s fun t => { t with bundles := tmod {} t.bundles b fun x => { put x with removed := x.removed + 1 } }
      let s := bundlesRefresh s
      let st := bundleState s b
      let s := ring (event s 0x0D 2 1 8 0xFFFF b (le 1 st ++ le 1 (bundleN b - x.removed - 1) ++ le 4 (fget s FLT_XDIE.ADMIT))) 2
      if 16 ≤ b && st == 3 then
        forRange 64 s fun s k => let L := 64 * (b - 16) + k; if isPort s L then linkFailure (portDown s L) L 9 else s
      else s

/-- RETUNE_END (R380). -/
def retuneEnd (s : State) (b : Nat) : State :=
  let x := bundle s b
  if x.retuneEnd == 0 || s.now < x.retuneEnd then s
  else setFlt s fun t => { t with bundles := tmod {} t.bundles b fun x => { x with retuneEnd := 0 } }

/-! Optical chiplets (Table 15.2). -/

/-- OE_FAULT: its 64 ports DOWN and fenced. -/
def oeFault (s : State) (n : Nat) : State :=
  if !dieUp s (n / 4) then s
  else forRange 64 s fun s k => let L := 64 * n + k; if isPort s L then linkFailure (portDown s L) L 8 else s

/-! Entering BASIC and FAULTED. -/

/-- Effects of entering BASIC (R384), the state code apart. -/
def basicEntry (s : State) : State :=
  let s := abortWhere s (fun _ => true) aENGINE true
  let s := forRange 64 s fun s r => if regionState s r == rRUNNING then stopRegion s r else s
  let s := setReg (allElectronic s) PRK_ACTIVE 0
  setSys s fun y => { y with active := none, maintBasic := true }

/-- FAULTED (R218). -/
def enterFaulted (s : State) : State := setMode (allElectronic s) mFAULTED

/-- CTL_FAULT (R378), in whatever mode: nothing is admitted any more, every fibre gate closes, and only a power cycle leads
out. -/
def ctlFault (s : State) : State :=
  enterFaulted (setSys (forRange 128 s gateClose) fun y => { y with gateRules := false, ctlFault := true })

/-! Self-tests that a fault ends (R470). -/

/-- Does a running self-test use die d? -/
def testOnDie (s : State) (d : Nat) : Bool :=
  let k := fget s CTL_TEST_STAT.KIND
  let u := fget s CTL_TEST_STAT.UNIT
  let st := fget s CTL_TEST_STAT.STATE
  (st == 1 || st == 2) &&
    ((k == 1 && swOf u == d) || ((k == 2 || k == 8) && u / 32 == d) || (k == 3 && 4 + u / 16 == d) || (k == 4 && u / 8 == d) ||
      (k == 5 && u / 5 == d) || (k == 6 && u == d) || k == 7)

/-- The test ends with a code. -/
def testEnd (s : State) (code : Nat) : State :=
  fset (fset (fset s CTL_TEST_STAT.CODE code) CTL_TEST_STAT.STATE 3) CTL_TEST_STAT.ESTIMATE 0

/-! Die faults (R373 to R377). -/

/-- `FLT_DIE_d.STATE` changes: one DIE event and the fault interrupt source. -/
def dieSet (s : State) (d st : Nat) : State :=
  let s := fset s (FLT_DIE.STATE d) st
  ring (event s 0x0D 1 (if st == 0 || st == 3 then 1 else 2) d 0xFFFF d (le 1 st ++ le 1 (fget s (FLT_DIE.CAUSE d)))) 2

/-- The lane gates of a switch die follow its structure: a DISABLED lane's stays closed (R102). -/
def laneGates (s : State) (d : Nat) : State :=
  forRange 256 s fun s k =>
    let L := 256 * d + k
    setLane s L fun x => { x with gateOpen := !isDisabled s L }

/-- A frame queued for a unit that a fault takes out. -/
def dropDie (s : State) (f : Frame) : State := discardFrame (bump s FLT_DROP_DIE) f

/-- Frames queued for internal output IOx on every die are lost. -/
def loseIoQueues (s : State) (x : Nat) : State :=
  forRange 4 s fun s d => forRange 16 s fun s c =>
    let k := voqKey d (1024 + x) c
    discardVoq (bumpBy s FLT_DROP_DIE (voq s k).ents.length) k

/-- Frames waiting at internal output IOx are lost. -/
def loseIoFrames (s : State) (x : Nat) : State :=
  forEach (ioFrames s x) (setCore s fun c => { c with ioq := tset [] c.ioq x [] }) fun s f => ctxDrop (bump s FLT_DROP_DIE) f

/-- What SWd held of the traffic of CPx is lost (R374): frames delivered there, and the parts of frames arrived or on their
way. What still waits in virtual output queues takes the new path, if there is one. -/
def loseHome (s : State) (d x : Nat) : State :=
  let o := 1028 + x
  let s := loseIoFrames s (4 + x)
  let s := forRange 4 s fun s i => forEach (tget [] s.core.flight (4 * i + d) ++ tget [] s.core.early (4 * i + d)) s fun s c =>
    forEach c.pieces s fun s p => losePiece s { p with outs := p.outs.filter (· == o) }
  let s := forRange 4 s fun s i => forRange 16 s fun s c =>
    let q := voq s (voqKey i o c)
    match q.ents with
    | .frame f :: _ => if 0 < q.crossed then setCore s fun k => { k with lost := tset false k.lost (lostKey f o) true } else s
    | _ => s
  if (cpHome s x).isNone then loseIoQueues s (4 + x) else s

/-- Everything queued on switch die d is lost; what other dies hold of it is given up. -/
def loseQueues (s : State) (d : Nat) : State :=
  let qs := s.core.voqs.filter fun e => voqDie e.1 == d
  let ms := s.core.mc.filter fun e => e.2.f.idie == d
  let s := forEach qs s fun s e =>
    let s := match e.2.ents with
      | x :: _ => if 0 < e.2.crossed then giveUp s (voqOut e.1) (entFrame s x) else s
      | [] => s
    forEach e.2.ents s fun s x => match x with
      | .frame f => if voqOut e.1 == 1032 then s else discardFrame s f
      | .ref _ b => if 0 < b then giveUp s (voqOut e.1) (entFrame s x) else s
  let s := forEach ms s fun s m =>
    discardFrame (forEach (m.2.todo.filter m.2.begun.contains) s fun s p => giveUp s p m.2.f) m.2.f
  setCore s fun c =>
    { c with voqs := c.voqs.filter (fun e => voqDie e.1 != d), mc := c.mc.filter (fun e => e.2.f.idie != d) }

/-- Copies of multicast frames on the other dies for members on die d are suppressed (R161). -/
def loseMembers (s : State) (d : Nat) : State :=
  let s := forEach s.core.mc s fun s e =>
    forEach (e.2.todo.filter fun p => swOf p == d) s fun s p => mcGone (suppress s p e.2.f) e.2.f p
  forRange 4 s fun s i => forRange 16 s fun s c => mcAdvance s i c

/-- Cells from, to or through die d are lost; every gap they leave is declared lost at once (Table 15.3). -/
def loseStreams (s : State) (d : Nat) : State :=
  forRange 4 s fun s i => forRange 4 s fun s j =>
    let st := 4 * i + j
    if j == d then
      setCore s fun c =>
        { c with flight := tset [] c.flight st [], early := tset [] c.early st [],
                 seqRx := tset 0 c.seqRx st (tget 0 c.seqTx st), gapAt := tset 0 c.gapAt st 0 }
    else loseCells s i j fun c => i == d || c.relay == d

/-- The group-wide ABORT of every valid group of die d, sent by the lowest-numbered working switch die (R365)
and handed to the group's region (R267). -/
def abortGroups (s : State) (d : Nat) : State :=
  let s := abortWhere s (fun c => c.die == d) aENGINE false
  match (List.range 4).find? (dieUp s) with
  | none => s
  | some j =>
    forEach (s.pic.groups.filter fun e => gValid e.2 && gDie e.2 == d) s fun s e =>
      let body := abortBody aENGINE noChunk noPort
      handOff (sendRedFrom s j e.1 0xFFFFFF tABORT 0 body none) e.1 0xFFFFFF tABORT 0 body

/-- What a SW die takes with it (R374); `homes` are the compute dies whose traffic went through it. -/
def swFault (s : State) (d : Nat) (homes : List Nat) : State :=
  let s := forRange 256 s fun s k =>
    let L := 256 * d + k
    let s := if (mapLane s.byp.oper L).mode == 0 then setLane s L fun x => { x with gateOpen := false } else s
    if isPort s L then setPort (setUnder (fencePort s L 7) L pDOWN) L fun p => { p with txBusy := none, retryWait := false } else s
  let s := forEach homes (loseQueues s d) fun s x => loseHome s d x
  let s := loseMembers (loseStreams s d) d
  let s := loseIoFrames (loseIoQueues s d) d
  let s := setCore s fun c =>
    { c with egrBytes := c.egrBytes.filter (fun e => swOf (e.1 / 16) != d),
             egrDesc := c.egrDesc.filter (fun e => swOf (e.1 / 16) != d) }
  let s := setTbl s fun t =>
    { t with copies := t.copies.filter (fun e => e.1 / 8 != d), stamps := t.stamps.filter (fun e => e.1 / 2 ^ 20 != d),
             buckets := t.buckets.filter (fun e => e.1 / 4096 != d) }
  abortGroups s d

/-- What a CP die takes with it (R42, R375): its regions keep no work, each owner gets an event and its region's source,
and collectives that hand off there abort with HANDOFF. -/
def cpFault (s : State) (d : Nat) (hot : Bool) : State :=
  let s := loseIoFrames (loseIoQueues s d) d
  let s := forRange 16 s fun s k =>
    let r := 16 * (d - 4) + k
    let st := regionState s r
    let how := if hot && st == rRUNNING then 2 else 1
    let s := if how == 2 then
        fset (setReg s (BOB_RGN_STAT r) (getReg s (BOB_RGN_STAT r) &&& 0xFFF000000000000F)) (BOB_RGN_STAT.FAULT r) fTHERMAL
      else s
    let s := fset (clearRegion s r) (BOB_RGN_STAT.STATE r) rIDLE
    let s := if regionOwner s r < 1024 then regionEnd s r how else s
    abortWhere s (fun c => gHandoff (group s c.group) && gRegion (group s c.group) == r) aHANDOFF true
  forEach ((s.bob.bobs.map (·.1)).filter fun n => bobDie n == d) s fun s n =>
    let base := s.free
    setBobbin { s with free := base + storeSize } n fun b =>
      { b with store := [], lost := some base, eccBad := [], eccOne := [], inFlight := [], progBad := [] }

/-- A die fault with its cause (R373 to R377): a condition on a die that is ISOLATED, RESET or HELD is none. The die is
isolated, loses its work and is reset. -/
def dieFault (s : State) (d cause : Nat) : State :=
  let st := fget s (FLT_DIE.STATE d)
  if st != 0 && st != 3 then s
  else
    let times := recent s (tget [] s.flt.dieFaults d) 3600000000000 ++ [s.now]
    let s := if testOnDie s d then testEnd s 4 else s
    let s := if st == 0 then freezeViews s d else s
    let s := setFlt s fun t =>
      { t with dieFaults := tset [] t.dieFaults d times, dieHeld := tset false t.dieHeld d (3 ≤ times.length),
               dieJoin := tset false t.dieJoin d false }
    let s := fset (fset (fset s (FLT_DIE.TS d) s.shortTs) (FLT_DIE.FAULTS d) times.length) (FLT_DIE.CAUSE d) cause
    let homes := (List.range 4).filter fun x => cpHome s x == some d
    let s := bundlesRefresh (dieSet s d 1)
    let s := if st == 3 then s else if d < 4 then swFault s d homes else cpFault s d (cause == 3)
    dieSet s d 2

/-- A fault of the die with code d; 8 is CTL (R378). -/
def faultDie (s : State) (d cause : Nat) : State := if 8 ≤ d then ctlFault s else dieFault s d cause

/-- DIE_RESET_DONE (R373, R377). -/
def dieResetDone (s : State) (d : Nat) : State :=
  if fget s (FLT_DIE.STATE d) != 2 then s else dieSet s d (if tget false s.flt.dieHeld d then 4 else 3)

/-- DIE_FAULT_AGE (R377): faults older than an hour no longer count. -/
def dieFaultAge (s : State) (d : Nat) : State :=
  let times := recent s (tget [] s.flt.dieFaults d) 3600000000000
  fset (setFlt s fun t => { t with dieFaults := tset [] t.dieFaults d times }) (FLT_DIE.FAULTS d) times.length

/-- A rejoining switch die takes its copy of every table from another die (R191): entries, age stamps, and the buckets of link
groups. -/
def copyTables (s : State) (d : Nat) : State :=
  let r := refDie s
  let s := if r == d || !dieUp s r then s
    else
      let s := forRange 8 s fun s t => setTbl s fun x => { x with copies := tset [] x.copies (8 * d + t) (tcopy s r t) }
      let s := forEach (s.tbl.stamps.filter fun e => e.1 / 2 ^ 20 == r) s fun s e =>
        setTbl s fun x => { x with stamps := tset 0 x.stamps (2 ^ 20 * d + e.1 % 2 ^ 20) e.2 }
      forEach (s.tbl.buckets.filter fun e => e.1 / 4096 == r) s fun s e =>
        setTbl s fun x => { x with buckets := tset [] x.buckets (4096 * d + e.1 % 4096) e.2 }
  forRange 7 s fun s t => usedUpdate s (t + 1)

/-- State of a region of a rejoined CP die. -/
def regionBack (s : State) (r : Nat) : Nat :=
  if tget 0 s.sec.regionUnpick r != 0 then rUNPICKING
  else if (tget {} s.weave.regionLive r).recs.isEmpty then rIDLE else rWOVEN

/-- May a CP die stopped by heat be woven again: every sensor below 100 °C (R42)? -/
def coolEnough (s : State) (d : Nat) : Bool :=
  d < 4 || !tget false s.sys.heatStop (d - 4) || (List.range 16).all fun k => tget 0 s.sys.sensorHot (16 * (d - 4) + k) < 800

/-- REJOIN_MEMORY_ZEROED (R376): memory zeroed, one event for each context with frames there, the table copy, bundles and
lane gates, what the fibre registers missed, and the ports train. A CP die that has grown hot again stays stopped (R42). -/
def rejoin (s : State) (d : Nat) : State :=
  if fget s (FLT_DIE.STATE d) != 3 || !tget false s.flt.dieJoin d || !coolEnough s d then s
  else
    let s := setFlt (zeroDie s d) fun t => { t with dieJoin := tset false t.dieJoin d false }
    let s := forRange 1024 s fun s x =>
      let n := ((winFrames s x ++ logFrames s x).filter fun p => p.1 == d).length
      if n == 0 then s else event s 0x0B 6 2 d x x (le 1 d ++ le 2 n)
    let s := if d < 4 then copyTables s d else s
    let s := setSys s fun y =>
      { y with isolated := y.isolated.filter (fun e => (e.2.map (·.die)) != some d), heatStop := y.heatStop.filter fun e => e.1 + 4 != d }
    let s := bundlesRefresh (dieSet s d 0)
    if d < 4 then
      forRange 256 (forRange 32 (laneGates s d) fun s k => fibreShow s (32 * d + k)) fun s k =>
        let L := 256 * d + k
        if isPort s L then retryAtTime (portRefresh s L) L s.now else s
    else forRange 16 s fun s k => let r := 16 * (d - 4) + k; fset s (BOB_RGN_STAT.STATE r) (regionBack s r)

/-! Port fences by command (R366, R367). -/

/-- A write of `FLT_PORT_CMD`. -/
def portCmd (s : State) (w : Word) : State :=
  let L := wget w FLT_PORT_CMD.PORT
  if wget w FLT_PORT_CMD.OP == 1 then fencePort s L 6
  else if wget w FLT_PORT_CMD.OP == 2 then unfencePort s L else s

/-! Chip fences (R368 to R371). -/

/-- A chip command ends with a code of Table 15.5; one that changes something is recorded. -/
def chipCmd (s : State) (op : Nat) : State :=
  let n := fget s FLT_CHIP_SEL.CHIP
  let c := tget {} s.flt.chips n
  let inc := BitVec.ofNat 8 (fget s FLT_CHIP_DATA.INC)
  let done := fun (s : State) code => fset (fset s FLT_CHIP_STAT.BUSY 0) FLT_CHIP_STAT.CODE code
  let put := fun (c : Chip) =>
    let s := setFlt s fun t => { t with chips := tset {} t.chips n c }
    let s := event s 0x0D 5 0 8 0xFFFF n (le 1 op ++ le 1 c.inc.toNat)
    done (if op == 2 then s else ring s 2) 0
  if op == 1 then
    let s := fset (fset s FLT_CHIP_DATA.FENCED (b2n c.fenced)) FLT_CHIP_DATA.CHECK (b2n c.check)
    done (fset s FLT_CHIP_DATA.INC c.inc.toNat) 0
  else if op == 2 then
    if c.fenced then done s 1 else put { c with check := fbit s FLT_CHIP_DATA.CHECK, inc := inc }
  else if op == 3 then
    if n == fget s TBL_SELF.CHIP then done s 4 else put { c with fenced := true }
  else if op == 4 then
    let d := (inc - c.inc).toNat
    if !c.fenced then done s 2 else if d == 0 || 128 ≤ d then done s 3 else put { fenced := false, check := true, inc := inc }
  else s

/-! Reference oscillators (R20, R355, R379). -/

/-- What REFOUT carries (R17): XA (0) or XB (1), whichever is in use, and no signal while neither is. -/
def refOut (s : State) : Option Nat :=
  if s.sys.powered && fget s TB_STAT.REF < 2 && s.sys.refGood.getLsbD (fget s TB_STAT.REF) then some (fget s TB_STAT.REF) else none

/-- `TB_STAT.REF` changes, with its event. -/
def refTake (s : State) (r : Nat) : State := event (fset s TB_STAT.REF r) 0x0C 4 1 8 0xFFFF 0 [BitVec.ofNat 8 r]

/-- REF_LOSS: the other oscillator takes over, or with both lost the timebase holds over on the internal oscillator (R355) and
the clocked periphery stands still (R379). -/
def refLoss (s : State) (xb : Bool) : State :=
  let i := b2n xb
  if !s.sys.refGood.getLsbD i then s
  else
    let s := setSys s fun y => { y with refGood := y.refGood &&& ~~~((1 : BitVec 2) <<< i) }
    if fget s TB_STAT.REF != i then s
    else if s.sys.refGood.getLsbD (1 - i) then refTake s (1 - i)
    else servoTo (setSys (refTake s 2) fun y => { y with refPhase := 1, refLostAt := s.now, refUp := false }) svHOLDOVER

/-- INTERNAL_OSC_START: the clocked periphery runs again; the ports go DOWN and train again, without fences. -/
def internalOsc (s : State) : State :=
  if s.sys.refPhase != 1 then s
  else
    forRange 1024 (setSys s fun y => { y with refPhase := 2 }) fun s L =>
      if isPort s L && dieUp s (swOf L) && (port s L).under != pDOWN then portDown s L else s

/-- BOTH_REF_DECISION: BASIC if a data port has reached UP within one second of the loss, otherwise FAULTED when that second is
over, whatever the mode was (log entry 131). -/
def refDecision (s : State) : State :=
  if s.sys.refPhase != 2 || s.mode == mFAULTED then s
  else if s.sys.refUp then setMode (basicEntry (setSys s fun y => { y with refPhase := 3 })) mBASIC
  else if s.elapsed s.sys.refLostAt 1000000000 then enterFaulted (setSys s fun y => { y with refPhase := 3 })
  else s

/-- REFERENCE_RETURN: used only from the next full weave after both were lost, and otherwise only if the one in use is
lost. -/
def refReturn (s : State) (xb : Bool) : State :=
  setSys s fun y => { y with refGood := y.refGood ||| ((1 : BitVec 2) <<< b2n xb) }

/-- At a full weave (R379, R20): after both were lost, the preferred reference if it is good, otherwise the other. -/
def refAtWeave (s : State) : State :=
  if fget s TB_STAT.REF != 2 || s.sys.refGood == 0 then s
  else
    let pref := b2n (fget s CTL_STRAP.REF == 1)
    let r := if s.sys.refGood.getLsbD pref then pref else 1 - pref
    refTake (setSys s fun y => { y with refPhase := 0 }) r

/-! Watchdogs (R37 to R39). -/

/-- Locks of a path freed (R490). -/
def freeLocks (s : State) (path : Nat) : State :=
  forRange 16 s fun s k => if fget s (CTL_LOCK.HOLDER k) == path then fset s (CTL_LOCK.HOLDER k) 0xF else s

/-- The limit of the watchdog of a channel into a block, ns (R37). -/
def wdLimit : WdTarget → Nat
  | .memChan _ => 40000
  | .core _ _ => 1000000
  | _ => 10000

/-- The die of the receiving block. -/
def wdDie : WdTarget → Nat
  | .memChan i => i.val / 80
  | .core _ _ => 8
  | .engine e => e.val / 8
  | .die d => d.val

/-- Is a channel isolated: until its receiving block has been reset and its section re-woven (R39); a management core, which has
no section, until its reset ends (R362)? -/
def isIsolated (s : State) (chan : Nat) : Bool :=
  match tget none s.sys.isolated chan with
  | none => false
  | some i => i.resetAt == 0 || s.now < i.resetAt

/-- The item a channel was handing over is discarded and counted (R38): for the channel, and where it is a frame, a flit or a
contribution as such a thing lost is. -/
def wdDiscard (s : State) (chan : Nat) (it : WdItem) : State :=
  let s := setSys s fun y => { y with discards := tmod 0 y.discards chan (· + 1) }
  match it with
  | .other => s
  | .frame io =>
    match ioFrames s io.val with
    | [] => s
    | f :: fs => ctxDrop (setCore s fun c => { c with ioq := tset [] c.ioq io.val fs }) f
  | .contribution g q =>
    if (findColl s (gCtx (group s g.val)) g.val q.toNat).isSome then abortColl s g.val q.toNat aENGINE noChunk noPort true else s
  | .flit n =>
    match (bob s n.val).inFlight with
    | [] => s
    | _ :: fs => flitDrop (setBobbin s n.val fun b => { b with inFlight := fs }) (bob s n.val).region

/-- CORE_RESET (R362): the core's locks are freed, and it is reset for 1 ms. -/
def coreFails (s : State) (k : Nat) : State :=
  event (freeLocks (setSys s fun y => { y with coreReset := tset 0 y.coreReset k (s.now + 1000000) }) (k + 1)) 0x01 4 2 8 0xFFFF k []

/-- Does the watchdog of a channel expire: a request made `waited` ns ago has had no acknowledge within the limit (R37)? -/
def wdExpires (s : State) (chan : Nat) (t : WdTarget) (waited : Nat) : Bool :=
  !isIsolated s chan && wdLimit t ≤ waited && waited ≤ s.now

/-- The channel's isolation. -/
def wdIsol (s : State) (t : WdTarget) : Isol :=
  { die := wdDie t,
    engine := match t with
      | .engine e => e.val + 1
      | _ => 0
    resetAt := match t with
      | .core _ _ => s.now + 1000000
      | _ => 0 }

/-- WATCHDOG_EXPIRE (R38, R362): the channel is isolated, the item discarded, an event recorded, and the receiving block treated
as failed. -/
def watchdog (s : State) (chan : Nat) (t : WdTarget) (waited : Nat) (it : WdItem) : State :=
  if !wdExpires s chan t waited then s
  else
    let s := setSys s fun y => { y with isolated := tset none y.isolated chan (some (wdIsol s t)) }
    let s := event (wdDiscard s chan it) 0x01 3 2 (wdDie t) 0xFFFF chan (le 4 (wdLimit t))
    match t with
    | .engine e => if fbit s (PIC_ENG.FENCED e.val) then s else fenceEngine s e.val 0xFFFF 0xFFFFFF
    | .memChan i => failChannel s i.val
    | .core k _ => coreFails s k.val
    | .die d => faultDie s d.val 2

/-- LATE_ACK (R39): an acknowledge at an isolated channel is ignored. -/
def lateAck (s : State) (chan : Nat) : State := if isIsolated s chan then emit s (.rxIgnored chan) else s

/-! Thermal sensors (R41 to R43, Table 20.4); temperatures in 0.125 °C. -/

/-- The issue limit of a sensor after a reading: 0 none, 1 half, 2 quarter. -/
def throttleLevel (cur temp : Nat) : Nat :=
  if 920 < temp || (cur == 2 && 896 ≤ temp) then 2
  else if 880 < temp then 1
  else if cur != 0 && 856 ≤ temp then 1 else 0

/-- A reading of sensor k of CPd. It counts for the limit, with its event, whatever the state of the die (R41 does not say;
DESIGN CHOICE, log entry 260). -/
def cpSensor (s : State) (d k temp : Nat) : State :=
  let id := 16 * d + k
  let s := setSys s fun y => { y with sensorHot := tset 0 y.sensorHot id temp }
  let cur := tget 0 s.sys.thermal id
  let new := throttleLevel cur temp
  let s := if new == cur then s
    else event (setSys s fun y => { y with thermal := tset 0 y.thermal id new }) 0x0A 2 1 (4 + d) 0xFFFF id (le 1 new ++ le 2 temp)
  if 1000 ≤ temp then dieFault (setSys s fun y => { y with heatStop := tset false y.heatStop d true }) (4 + d) 3 else s

/-- THERMAL_SENSOR. -/
def thermal (s : State) (u : ThermalUnit) (temp : Nat) : State :=
  match u with
  | .cp d k => cpSensor s d.val k.val temp
  | .sw d => if 1000 ≤ temp then dieFault s d.val 3 else s
  | .ctl => if 1000 ≤ temp then ctlFault s else s
  | .oe n => if 840 ≤ temp then oeFault s n.val else s

/-! Register writes. -/

/-- Out of range: operations of the command registers, absorbed ports. -/
def fltRange (s : State) (off : Nat) (w : Word) : Bool :=
  if off == FLT_CHIP_CMD then 5 ≤ wget w FLT_CHIP_CMD.OP
  else if off == FLT_PORT_CMD then wget w FLT_PORT_CMD.OP == 3 || !isPort s (wget w FLT_PORT_CMD.PORT)
  else false

/-- A chip command while one is in progress. -/
def fltState (s : State) (off : Nat) (w : Word) : Bool :=
  off == FLT_CHIP_CMD && wget w FLT_CHIP_CMD.OP != 0 && fbit s FLT_CHIP_STAT.BUSY

/-- What a write does. -/
def fltEffect (s : State) (off : Nat) (w : Word) : State :=
  if off == FLT_CHIP_CMD then chipCmd s (wget w FLT_CHIP_CMD.OP)
  else if off == FLT_PORT_CMD then portCmd s w else s

/-! The commands. -/

/-- DIE_RESET_DONE (R373). -/
def execDieResetDone (die : Fin 8) (s : State) : Host.Outcome State Fault Refusal := live s fun s => dieResetDone s die.val
/-- DIE_FAULT_AGE (R377). -/
def execDieFaultAge (die : Fin 8) (s : State) : Host.Outcome State Fault Refusal := live s fun s => dieFaultAge s die.val

/-- FLIT_CRC_FAIL (R40). -/
def execFlitCrcFail (bundle : Fin 32) (s : State) : Host.Outcome State Fault Refusal := live s fun s => flitCrcFail s bundle.val
/-- RETUNE_END (R380). -/
def execRetuneEnd (bundle : Fin 32) (s : State) : Host.Outcome State Fault Refusal := live s fun s => retuneEnd s bundle.val
/-- OE_FAULT (R361). -/
def execOeFault (oe : Fin 16) (s : State) : Host.Outcome State Fault Refusal := live s fun s => oeFault s oe.val
/-- REF_LOSS (R379). -/
def execRefLoss (xb : Bool) (s : State) : Host.Outcome State Fault Refusal := live s fun s => refLoss s xb
/-- INTERNAL_OSC_START (R379). -/
def execInternalOscStart (s : State) : Host.Outcome State Fault Refusal := live s internalOsc

/-- REFERENCE_RETURN (R379). -/
def execReferenceReturn (xb : Bool) (s : State) : Host.Outcome State Fault Refusal := live s fun s => refReturn s xb

/-- LATE_ACK (R39). -/
def execLateAck (chan : BitVec 32) (s : State) : Host.Outcome State Fault Refusal := live s fun s => lateAck s chan.toNat

/-- LPDDR6_CASE_OVERTEMP (R477): each channel of the device is treated as failed. -/
def execLpddr6CaseOvertemp (dev : Fin 40) (s : State) : Host.Outcome State Fault Refusal :=
  live s fun s => if dieUp s (dev.val / 5) then forRange 16 s fun s k => failChannel s (16 * dev.val + k) else s

end Sys2Proof.Machine
end

