-- ==== Sys2Proof/Machine/Broadcast.lean ====
section
/-! DEFINITION. Resumable broadcast (R385 to R391). -/

namespace Sys2Proof.Machine

/-! A session's words. -/

def bc (s : State) (n : Nat) : BcSt := tget {} s.flt.bcs n
def setBc (s : State) (n : Nat) (f : BcSt → BcSt) : State := setFlt s fun t => { t with bcs := tmod {} t.bcs n f }
def bcValid (b : BcSt) : Bool := wbit b.w0 FLT_BC_W0.VALID
def bcRoot (b : BcSt) : Bool := wbit b.w0 FLT_BC_W0.ROOT
def bcCtx (b : BcSt) : Nat := wget b.w0 FLT_BC_W0.CTX
def bcChan (b : BcSt) : Nat := wget b.w0 FLT_BC_W0.CHAN
def bcPeer (b : BcSt) : Nat := wget b.w0 FLT_BC_W0.PEER
def bcBase (b : BcSt) : Nat := wget b.w1 FLT_BC_W1.BASE
def bcLen (b : BcSt) : Nat := wget b.w2 FLT_BC_W2.LENGTH
def bcCount (b : BcSt) : Nat := wget b.w3 FLT_BC_W3.COUNT
def bcList (b : BcSt) : Nat := wget b.w3 FLT_BC_W3.LIST

/-- State of a session: 0 IDLE, 1 RUNNING, 2 DONE, 3 STOPPED. -/
def bcState (s : State) (n : Nat) : Nat := fget s (FLT_BC_S.STATE n)

/-- Microseconds of RELAY_TO_US; 0 means 1,000. -/
def bcTimeout (b : BcSt) : Nat := let t := wget b.w2 FLT_BC_W2.RELAY_TO_US; if t == 0 then 1000 else t

/-- A session that meets an uncorrectable line stops (R391). -/
def bcStopped (s : State) (n : Nat) : State :=
  event (fset s (FLT_BC_S.STATE n) 3) 0x0D 8 1 8 (bcCtx (bc s n)) n (le 1 2 ++ le 6 0)

/-! The receiver list (R385): entries of CHIP, PARENT and PROGRESS in the window. -/

/-- No relay: the root is the parent. -/
def bcNoParent : Nat := 0xFFFFFFFF

/-- Entry i of the list: chip, parent, progress. -/
def bcEntry (s : State) (b : BcSt) (i : Nat) : Nat × Nat × Nat :=
  let e := ctxRead s (bcCtx b) (bcList b + 16 * i) 16
  (fieldAt e 0 4, fieldAt e 4 4, fieldAt e 8 8)

/-- Does the list meet an uncorrectable line? -/
def bcListBad (s : State) (b : BcSt) : Bool := bcCount b != 0 && ctxBad s (bcCtx b) (bcList b) (16 * bcCount b)

/-- The reads of the list (R326). -/
def bcListTouch (s : State) (b : BcSt) : State :=
  if bcCount b == 0 then s else ctxTouch s (bcCtx b) (bcList b) (16 * bcCount b)

def bcSetParent (s : State) (b : BcSt) (i p : Nat) : State := ctxWrite s (bcCtx b) (bcList b + 16 * i + 4) (le 4 p)
def bcSetProgress (s : State) (b : BcSt) (i p : Nat) : State := ctxWrite s (bcCtx b) (bcList b + 16 * i + 8) (le 8 p)

/-- `DONE` counts the receivers at LENGTH; when all are there, the session reads DONE, with an event and its source
(R388). -/
def bcDoneCheck (s : State) (n : Nat) : State :=
  let b := bc s n
  let done := ((List.range (bcCount b)).filter fun i => (bcEntry s b i).2.2 == bcLen b).length
  let s := fset s (FLT_BC_S.DONE n) done
  if bcRoot b && bcState s n == 1 && done == bcCount b then
    ring (event (fset s (FLT_BC_S.STATE n) 2) 0x0D 8 0 8 (bcCtx b) n (le 7 0)) (16 + n)
  else s

/-! Frames. -/

/-- The die a session's frames leave from: the switch die beside the object's bytes, or the lowest working one. -/
def bcDie (s : State) (b : BcSt) (p : Nat) : Nat :=
  let d := match ctxLoc s (bcCtx b) (bcBase b + p) with
    | some (d, _) => d % 4
    | none => 0
  if dieUp s d then d else refDie s

/-- A BCAST_DATA of position p to a chip, or to the multicast group of the session (R386). -/
def bcSend (s : State) (n : Nat) (dst : Option Nat) (p : Nat) (data : List Byte) : State :=
  let b := bc s n
  originate s (bcDie s b p) (mkHdr (dst.getD (wget b.w4 FLT_BC_W4.MCG)) (fget s TBL_SELF.CHIP) (bcChan b) (bcCtx b)
    (fget s SEC_SELF.INC) 0 tBCAST_DATA (b2n dst.isNone * 2 ^ flMCAST) 0 data.length 0 (p + n * 2 ^ 40)) data

/-- A BCAST_PROGRESS for a receiver's position (R386). -/
def bcReport (s : State) (n dst chip p : Nat) : State :=
  let b := bc s n
  originate s (bcDie s b 0) (mkHdr dst (fget s TBL_SELF.CHIP) (bcChan b) (bcCtx b) (fget s SEC_SELF.INC) 0 tBCAST_PROGRESS 0 0
    8 0 (p + n * 2 ^ 40)) (le 4 chip ++ le 4 0)

/-- The second copy of a piece, PUT at the same offset of chip SECOND (R388). -/
def bcSecond (s : State) (n p : Nat) (data : List Byte) : State :=
  let b := bc s n
  if !wbit b.w4 FLT_BC_W4.SECOND_EN then s
  else
    let (rg, s) := peerRgen s
    originate s (bcDie s b p) (mkHdr (wget b.w4 FLT_BC_W4.SECOND) (fget s TBL_SELF.CHIP) (bcChan b) (bcCtx b)
      (fget s SEC_SELF.INC) rg tPUT 0 0 data.length 0 (bcBase b + p)) data

/-! Sending (R388, R389). -/

/-- The next multicast piece of a root. -/
def bcMulticast (s : State) (n : Nat) : State :=
  let b := bc s n
  if bcLen b ≤ b.pos then s
  else
    let k := min 8192 (bcLen b - b.pos)
    let s := ctxTouch s (bcCtx b) (bcBase b + b.pos) k
    if ctxBad s (bcCtx b) (bcBase b + b.pos) k then bcStopped s n
    else
      let data := ctxRead s (bcCtx b) (bcBase b + b.pos) k
      let s := bcSecond (bcSend s n none b.pos data) n b.pos data
      setBc s n fun b => { b with pos := b.pos + k }

/-- A unicast piece to the receiver whose turn it is: a root serves to the end, a relay as far as its own copy reaches. -/
def bcUnicast (s : State) (n : Nat) : State :=
  let b := bc s n
  match b.uni with
  | [] => s
  | (chip, p) :: rest =>
    let top := if bcRoot b then bcLen b else b.held
    let k := min 8192 (top - p)
    if k == 0 then
      setBc s n fun b => { b with uni := if bcLen b ≤ p then rest else rest ++ [(chip, p)] }
    else
    let s := ctxTouch s (bcCtx b) (bcBase b + p) k
    if ctxBad s (bcCtx b) (bcBase b + p) k then bcStopped s n
    else
      let s := bcSend s n (some chip) p (ctxRead s (bcCtx b) (bcBase b + p) k)
      setBc s n fun b => { b with uni := if bcLen b ≤ p + k then rest else rest ++ [(chip, p + k)] }

/-- BCAST_PIECE_TX: the next multicast piece, and beside it a unicast piece. -/
def bcPiece (s : State) (n : Nat) : State :=
  let b := bc s n
  if bcState s n != 1 || b.resumeAt.isSome then s
  else
    let s := if bcRoot b then bcMulticast s n else s
    if bcState s n == 1 then bcUnicast s n else s

/-! Receiving (R386 to R388). -/

/-- Is a received broadcast frame dropped and counted in `FLT_BC_DROP`? -/
def bcBad (s : State) (f : Frame) : Bool :=
  let n := bcSession f.hdr
  let b := bc s n
  let k := if hType f.hdr == tBCAST_DATA then hLen f.hdr else 0
  64 ≤ n || !bcValid b || hCtx f.hdr != bcCtx b || f.chan != bcChan b || bcLen b < bcPosition f.hdr + k

/-- The highest contiguous offset and the pieces beyond it after bytes [p, e) have come, with fuel. -/
def bcMerge : Nat → Nat → List (Nat × Nat) → Nat × List (Nat × Nat)
  | 0, held, hs => (held, hs)
  | fuel + 1, held, hs =>
    match hs.find? fun h => h.1 ≤ held with
    | some h => bcMerge fuel (max held h.2) (hs.filter (· != h))
    | none => (held, hs)

/-- BCAST_DATA at a relay: written, and sent on to its children. -/
def bcData (s : State) (f : Frame) : State :=
  if bcBad s f then unitDrop (bump s FLT_BC_DROP) f
  else
    let n := bcSession f.hdr
    let b := bc s n
    let p := bcPosition f.hdr
    let k := hLen f.hdr
    if bcRoot b || bcState s n != 1 || k == 0 then s
    else
      let s := ctxTouchPart s (bcCtx b) (bcBase b + p) k
      if ctxPartBad s (bcCtx b) (bcBase b + p) k then bcStopped s n
      else
      let s := ctxPut s (bcCtx b) (bcBase b + p) f.body
      let s := setBc s n fun b =>
        let m := bcMerge (b.holes.length + 1) b.held ((p, p + k) :: b.holes)
        { b with held := m.1, holes := m.2 }
      bcSend s n none p f.body

/-- BCAST_PROGRESS: a root writes it into its list, while it awaits the reports of a RESUME only once they are all in (R390); a
relay forwards a child's to PEER, and serves a receiver its PEER
names. -/
def bcProgress (s : State) (f : Frame) : State :=
  if bcBad s f || hLen f.hdr != 8 then unitDrop (bump s FLT_BC_DROP) f
  else
    let n := bcSession f.hdr
    let b := bc s n
    let p := bcPosition f.hdr
    let chip := fieldAt f.body 0 4
    let src := hSrc f.hdr
    if bcState s n != 1 then s
    else if !bcRoot b then
      if src == bcPeer b then setBc s n fun b => { b with uni := b.uni.filter (fun u => u.1 != chip) ++ [(chip, p)] }
      else bcReport s n (bcPeer b) chip p
    else
    let s := bcListTouch s b
    if bcListBad s b then bcStopped s n
    else
      let s := setBc s n fun b =>
        { b with relayAt := tset 0 b.relayAt src s.now
                 reported := if b.resumeAt.isSome then tset 0 b.reported chip p else b.reported }
      if b.resumeAt.isSome then s
      else
        bcDoneCheck (forRange (bcCount b) s fun s i => if (bcEntry s b i).1 == chip then bcSetProgress s b i p else s) n

/-- BCAST_RELAY_REPORT: a relay reports its own progress to PEER every 100 µs. -/
def bcRelayReport (s : State) (n : Nat) : State :=
  let b := bc s n
  if bcState s n != 1 || bcRoot b || (b.reportAt != 0 && !s.elapsed (b.reportAt - 1) 100000) then s
  else bcReport (setBc s n fun b => { b with reportAt := s.now + 1 }) n (bcPeer b) (fget s TBL_SELF.CHIP) b.held

/-- BCAST_RELAY_TIMEOUT (R389): a relay fenced on the root, or silent for RELAY_TO_US, has failed; its orphans are
re-parented. -/
def bcRelayTimeout (s : State) (n relay : Nat) : State :=
  let b := bc s n
  let last := max (tget 0 b.relayAt relay) b.startAt
  let failed := (tget {} s.flt.chips relay).fenced || s.elapsed last (bcTimeout b * 1000)
  if bcState s n != 1 || !bcRoot b || !failed then s
  else
  let s := bcListTouch s b
  if bcListBad s b then bcStopped s n
  else
    let orphans := (List.range (bcCount b)).filter fun i => (bcEntry s b i).2.1 == relay
    if orphans.isEmpty then s
    else
      let fb := wbit b.w4 FLT_BC_W4.FALLBACK_EN
      let fbk := wget b.w4 FLT_BC_W4.FALLBACK
      let s := forEach orphans s fun s i =>
        let e := bcEntry s b i
        let s := bcSetParent s b i (if fb then fbk else bcNoParent)
        if fb then bcReport s n fbk e.1 e.2.2
        else setBc s n fun b => { b with uni := b.uni.filter (fun u => u.1 != e.1) ++ [(e.1, e.2.2)] }
      let s := fset s (FLT_BC_S.ORPHANS n) (fget s (FLT_BC_S.ORPHANS n) + orphans.length)
      event s 0x0D 8 1 8 (bcCtx b) n (le 1 1 ++ le 4 relay ++ le 2 orphans.length)

/-! Commands (R385, R388, R390). -/

/-- Does the object lie in the context's weight cache (R339)? BASE and LEN of `MEM_WC_x` are in frames. -/
def bcInCache (s : State) (b : BcSt) : Bool :=
  let x := bcCtx b
  let lo := fget s (MEM_WC.BASE x) * frameBytes
  let hi := lo + fget s (MEM_WC.LEN x) * frameBytes
  fbit s (MEM_WC.EN x) && lo ≤ bcBase b && bcBase b + bcLen b ≤ hi

/-- Codes of Table 15.11 for an operation on session n with words b. -/
def bcCheck (s : State) (op n : Nat) (b : BcSt) : Nat :=
  let m := s.mode
  if (m != mWOVEN && m != mMAINT && m != mDRAINING) || (2 ≤ op && op ≤ 4 && bcState s n == 1) then 1
  else if op != 2 then 0
  else if !ctxUsable s (bcCtx b) then 2
  else if chanLossy s (bcChan b) || (chanUse s (bcChan b) != 4 && chanUse s (bcChan b) != 5) then 3
  else if !bcInCache s b || (bcRoot b && bcCount b != 0 && winBytes s (bcCtx b) < bcList b + 16 * bcCount b) then 4
  else if wbit b.w4 FLT_BC_W4.SECOND_EN && wget b.w4 FLT_BC_W4.SECOND == fget s TBL_SELF.CHIP then 5
  else 0

/-- START (R388). -/
def bcStart (s : State) (n : Nat) : State :=
  let b := bc s n
  if !bcValid b then s
  else
    let s := fset (fset (fset s (FLT_BC_S.STATE n) 1) (FLT_BC_S.ORPHANS n) 0) (FLT_BC_S.DONE n) 0
    let s := setBc s n fun b =>
      { b with pos := 0, held := 0, holes := [], uni := [], relayAt := [], resumeAt := none, reported := [], reportAt := 0,
               startAt := s.now }
    if !bcRoot b then s
    else
    let s := bcListTouch s b
    if bcListBad s b then bcStopped s n
    else bcDoneCheck (forRange (bcCount b) s fun s i => bcSetProgress s b i 0) n

/-- RESUME (R390): every listed receiver is probed, and reports are awaited for 200 µs. A relay goes on with what it
holds. -/
def bcResume (s : State) (n : Nat) : State :=
  let b := bc s n
  if !bcValid b then s
  else
    let s := setBc (fset s (FLT_BC_S.STATE n) 1) n fun b => { b with startAt := s.now, relayAt := [], reported := [] }
    if !bcRoot b then s
    else
    let s := bcListTouch s b
    if bcListBad s b then bcStopped s n
    else
      let s := setBc s n fun b => { b with resumeAt := some (s.now + 200000), uni := [] }
      forRange (bcCount b) s fun s i => let e := bcEntry s b i; bcSend s n (some e.1) e.2.2 []

/-- BCAST_RESUME_WAIT_END (R390): each receiver is resumed from the larger of its listed and reported progress. -/
def bcResumeEnd (s : State) (n : Nat) : State :=
  let b := bc s n
  match b.resumeAt with
  | none => s
  | some t =>
    if bcState s n != 1 || s.now < t then s
    else
    let s := bcListTouch s b
    if bcListBad s b then bcStopped s n
    else
      let s := setBc s n fun b => { b with resumeAt := none, pos := bcLen b }
      let s := forRange (bcCount b) s fun s i =>
        let e := bcEntry s b i
        let p := max e.2.2 (tget 0 b.reported e.1)
        let s := bcSetProgress s b i p
        if p < bcLen b then setBc s n fun b => { b with uni := b.uni ++ [(e.1, p)] } else s
      bcDoneCheck s n

/-- A write of `FLT_BC_CMD`. -/
def bcCommand (s : State) (op : Nat) : State :=
  if op == 0 then s
  else
    let n := fget s FLT_BC_SEL.SESSION
    let staged : BcSt :=
      { w0 := getReg s FLT_BC_W0, w1 := getReg s FLT_BC_W1, w2 := getReg s FLT_BC_W2, w3 := getReg s FLT_BC_W3,
        w4 := getReg s FLT_BC_W4 }
    let code := bcCheck s op n staged
    let s := fset (fset s FLT_BC_STAT.BUSY 0) FLT_BC_STAT.CODE code
    if code != 0 then s
    else if op == 1 then
      let b := bc s n
      setReg (setReg (setReg (setReg (setReg s FLT_BC_W0 b.w0) FLT_BC_W1 b.w1) FLT_BC_W2 b.w2) FLT_BC_W3 b.w3) FLT_BC_W4 b.w4
    else if op == 2 then setReg (setBc s n fun _ => staged) (FLT_BC_S n) 0
    else if op == 3 then bcStart s n
    else if op == 4 then bcResume s n
    else if bcState s n == 1 then fset (setBc s n fun b => { b with resumeAt := none }) (FLT_BC_S.STATE n) 3 else s

/-- The running sessions of a context stop at the start of its unpick (Table 16.3). -/
def bcUnpick (s : State) (x : Nat) : State :=
  forEach ((s.flt.bcs.filter fun e => bcCtx e.2 == x && bcValid e.2).map (·.1)) s fun s n =>
    if bcState s n == 1 then fset (setBc s n fun b => { b with resumeAt := none }) (FLT_BC_S.STATE n) 3 else s

/-- Out of range: the operation, RELAY_TO_US, LENGTH, LIST. -/
def bcRange (off : Nat) (w : Word) : Bool :=
  if off == FLT_BC_CMD then 6 ≤ wget w FLT_BC_CMD.OP
  else if off == FLT_BC_W2 then
    let t := wget w FLT_BC_W2.RELAY_TO_US
    (t != 0 && (t < 100 || 10000 < t)) || wget w FLT_BC_W2.LENGTH == 0
  else off == FLT_BC_W3 && wget w FLT_BC_W3.LIST % 64 != 0

def bcEffect (s : State) (off : Nat) (w : Word) : State := if off == FLT_BC_CMD then bcCommand s (wget w FLT_BC_CMD.OP) else s

/-! The commands. -/

/-- BCAST_PIECE_TX (R388). -/
def execBcastPieceTx (session : Fin 64) (s : State) : Host.Outcome State Fault Refusal := live s fun s => bcPiece s session.val
/-- BCAST_DATA_RX (R388). -/
def execBcastDataRx (io : Fin 8) (s : State) : Host.Outcome State Fault Refusal :=
  live s fun s => takeIo s io.val (· == tBCAST_DATA) bcData
/-- BCAST_PROGRESS_RX (R388). -/
def execBcastProgressRx (io : Fin 8) (s : State) : Host.Outcome State Fault Refusal :=
  live s fun s => takeIo s io.val (· == tBCAST_PROGRESS) bcProgress
/-- BCAST_RELAY_REPORT (R388). -/
def execBcastRelayReport (session : Fin 64) (s : State) : Host.Outcome State Fault Refusal :=
  live s fun s => bcRelayReport s session.val
/-- BCAST_RELAY_TIMEOUT (R389). -/
def execBcastRelayTimeout (session : Fin 64) (relay : BitVec 20) (s : State) : Host.Outcome State Fault Refusal :=
  live s fun s => bcRelayTimeout s session.val relay.toNat
/-- BCAST_RESUME_WAIT_END (R390). -/
def execBcastResumeWaitEnd (session : Fin 64) (s : State) : Host.Outcome State Fault Refusal :=
  live s fun s => bcResumeEnd s session.val

end Sys2Proof.Machine
end

