-- ==== Sys2Proof/Machine/Verify.lean ====
section
/-! DEFINITION. Prickings and motifs as images in NVS slots: their layout, and the checks of verification (R45 to R55,
R301, R302). -/

namespace Sys2Proof.Machine

/-! Bytes of an image. -/

/-- An n-byte little-endian field of an image. -/
def rdN (g : Nat → Byte) (off n : Nat) : Nat := unle ((List.range n).map fun k => g (off + k))

/-- n bytes of an image. -/
def rdBytes (g : Nat → Byte) (off n : Nat) : List Byte := (List.range n).map fun k => g (off + k)

/-- Are n bytes of an image zero? -/
def rdZero (g : Nat → Byte) (off n : Nat) : Bool := (List.range n).all fun k => g (off + k) == 0

/-- The bytes of a slot; bytes nobody wrote read as zero (R422). -/
def slotBytes (s : State) (slot : Nat) : Nat → Byte := fun k => tget 0 (tget [] s.nvs.slots slot) k

/-- Size of a slot (R56). -/
def slotSize (slot : Nat) : Nat := if slot < 2 then 0x4000000 else 0x400000

/-- Rounded up to a multiple of 64. -/
def up64 (n : Nat) : Nat := ceilDiv n 64 * 64

/-- A sparse table of n entries. -/
def tabOf {α : Type} [DecidableEq α] (n : Nat) (d : Nat → α) (v : Nat → α) : Tab α :=
  (List.range n).filterMap fun k => if v k = d k then none else some (k, v k)

/-- The header (Table 3.2). -/
def imKind (g : Nat → Byte) : Nat := rdN g 6 2
def imCount (g : Nat → Byte) : Nat := rdN g 0xC 4
def imTotal (g : Nat → Byte) : Nat := rdN g 0x10 8
def imId (g : Nat → Byte) : Nat := rdN g 0x18 8
def imBase (g : Nat → Byte) : Nat := rdN g 0x20 8
def imSigner (g : Nat → Byte) : Nat := rdN g 0x40 8
def imSig (g : Nat → Byte) : Nat := rdN g 0x50 8

/-- End of the padded section table (R46). -/
def imTableEnd (g : Nat → Byte) : Nat := 256 + up64 (96 * imCount g)

/-- An entry of the section table (Table 3.3). -/
structure Sect where
  /-- its place in the table -/
  idx : Nat := 0
  /-- TYPE -/
  kind : Nat := 0
  /-- TARGET -/
  target : Nat := 0
  /-- OFFSET -/
  off : Nat := 0
  /-- LENGTH -/
  len : Nat := 0
deriving DecidableEq, Repr

/-- Entry i of the section table. -/
def sectAt (g : Nat → Byte) (i : Nat) : Sect :=
  let e := 256 + 96 * i
  { idx := i, kind := rdN g e 2, target := rdN g (e + 4) 4, off := rdN g (e + 8) 8, len := rdN g (e + 0x10) 8 }

/-- The section table. -/
def sects (g : Nat → Byte) : List Sect := (List.range (imCount g)).map (sectAt g)

/-- The section of a type and target. -/
def sectOf (l : List Sect) (kind target : Nat) : Option Sect := l.find? fun x => x.kind == kind && x.target == target

/-- Targets of a section type (Table 3.4). -/
def sectTargets : Nat → Nat
  | 1 => 1 | 2 => 4 | 3 => 4 | 4 => 64 | 5 => 1024 | _ => 0

/-- Sections of each type an image kind must hold; none where any number may stand (Table 3.4). -/
def sectNumber (kind type : Nat) : Option Nat :=
  match kind, type with
  | 1, 1 => some 1 | 1, 2 => some 4 | 1, 3 => some 4 | 1, _ => none
  | 2, 4 => some 1 | 3, 5 => some 1 | _, _ => some 0

/-- Length of a section's content where its type fixes it. -/
def sectContent : Nat → Option Nat
  | 1 => some 0x4C8 | 2 => some 8 | 3 => some 64 | 5 => some 64 | _ => none

/-- Does a section's content end where its padding can begin, and is the padding zero (R46)? -/
def padGood (g : Nat → Byte) (x : Sect) (stop : Nat) : Bool :=
  stop ≤ x.off + x.len && x.off + x.len - stop < 64 && rdZero g stop (x.off + x.len - stop)

/-- The padding of a section whose type fixes its content; of a REGION section, that it holds the head of its content. -/
def padFixed (g : Nat → Byte) (x : Sect) : Bool :=
  match sectContent x.kind with
  | some n => padGood g x (x.off + n)
  | none => 8 ≤ x.len

/-! The content. -/

/-- Bobbin record at an offset (Table 11.11). -/
def readRec (g : Nat → Byte) (o : Nat) : BobRec :=
  { role := rdN g o 1, needles := BitVec.ofNat 4 (rdN g (o + 1) 1), entry := (List.range 4).map fun j => rdN g (o + 4 + 2 * j) 2,
    prog := (List.range (min (rdN g (o + 0xC) 4) 16384 / 8)).map fun k => BitVec.ofNat 64 (rdN g (o + 256 + 8 * k) 8),
    routes := (List.range 16).map fun k => BitVec.ofNat 64 (rdN g (o + 0x10 + 8 * k) 8),
    inlets := (List.range 2).map fun k => BitVec.ofNat 128 (rdN g (o + 0x90 + 16 * k) 16) }

/-- Bytes of a bobbin record. -/
def recLen (g : Nat → Byte) (o : Nat) : Nat := 256 + min (rdN g (o + 0xC) 4) 16384

/-- Where n records from an offset end, or the code of the first that does not lie within the section's end (R46): what follows a
PROG_LEN out of range (R301) lies nowhere. -/
def recWalk (g : Nat → Byte) (stop : Nat) : Nat → Nat → Nat ⊕ Nat
  | 0, o => .inr o
  | n + 1, o =>
    if stop < o + 256 then .inl 0x04
    else if 16384 < rdN g (o + 0xC) 4 then .inl 0x0E
    else if stop < o + recLen g o then .inl 0x04
    else recWalk g stop n (o + recLen g o)

/-- Offsets of the records of n bobbins, and where they end. -/
def recOffsets (g : Nat → Byte) : Nat → Nat → List Nat × Nat
  | 0, o => ([], o)
  | n + 1, o => let r := recOffsets g n (o + recLen g o); (o :: r.1, r.2)

/-- Does a stitch break R302 in a program of n stitches? -/
def stitchBad (n : Nat) (w : Word) : Bool :=
  let op := sOp w
  let known := op ≤ 9 || (0x10 ≤ op && op ≤ 0x1D) || (0x20 ≤ op && op ≤ 0x23) || op == 0x28
  !known || bits w.toNat 32 6 != 0 || (sP w && !sW w) || (op == 6 && !sW w) || (3 ≤ op && op ≤ 5 && n ≤ sImm w)

/-- Does a route entry of a bobbin on CPc break Table 11.11 or R302? -/
def routeBad (c : Nat) (e : Word) : Bool :=
  let k := bits e.toNat 0 2
  let d := bits e.toNat 2 2
  bits e.toNat 5 3 != 0 || bits e.toNat 16 48 != 0 || k == 3 || (k == 1 && d != c) || (k == 2 && d == c)

/-- Number of an inlet entry, none where it is unused. -/
def inletNumber (e : BitVec 128) : Option Nat := let n := bits e.toNat 0 8; if n == 0xFF then none else some n

/-- Does an inlet entry break Table 11.11 or R302? -/
def inletBad (e : BitVec 128) : Bool :=
  let size := inSize e
  let base := inBase e
  bits e.toNat 16 16 != 0 || bits e.toNat 96 32 != 0 ||
    ((inletNumber e).isSome && (15 < inQueue e || base % 64 != 0 || size < 4096 || 0x100000 < size ||
      2 ^ log2 size != size || storeSize < base + size))

/-- Does the record at an offset, of a bobbin on CPc, break R302? -/
def recBad (g : Nat → Byte) (c o : Nat) : Bool :=
  let r := readRec g o
  let nd := rdN g (o + 1) 1
  let len := rdN g (o + 0xC) 4
  2 < r.role || (nd != 0 && r.role != 1) || (r.role == 1 && nd % 16 == 0) || 16 ≤ nd || !rdZero g (o + 2) 2 ||
    !rdZero g (o + 0xB0) 80 ||
    (if r.role == 1 then len < 64 || 16384 < len || len % 64 != 0 else len != 0) ||
    ((List.range 4).any fun j => bit nd j && len / 8 ≤ r.entry.getD j 0) ||
    r.prog.any (stitchBad (len / 8)) || r.routes.any (routeBad c) || r.inlets.any inletBad

/-- Does a number occur twice? -/
def twice : List Nat → Bool
  | [] => false
  | a :: t => t.contains a || twice t

/-- Groups of a mask (R50). -/
def maskGroups (m : Nat) : List Nat := (List.range 16).filter fun k => bit m k

/-- Bobbins of region r with a mask, rising: n = 256c + b (R50, R269). -/
def maskBobs (r m : Nat) : List Nat :=
  ((List.range 256).filter fun b => bit m (4 * (b / 64) + b % 16 / 4)).map (256 * (r / 16) + ·)

/-- Is a mask a rectangle of 1 to 8 groups (R50)? -/
def maskRect (m : Nat) : Bool :=
  (List.range 4).any fun r0 => (List.range 4).any fun r1 => (List.range 4).any fun c0 => (List.range 4).any fun c1 =>
    r0 ≤ r1 && c0 ≤ c1 && (r1 - r0 + 1) * (c1 - c0 + 1) ≤ 8 &&
      (List.range 16).all fun k => bit m k == (r0 ≤ k / 4 && k / 4 ≤ r1 && c0 ≤ k % 4 && k % 4 ≤ c1)

/-- A REGION section of a region with a number of bobbins (R51). -/
def readRegion (g : Nat → Byte) (x : Sect) (bobbins : Nat) : RegionSec :=
  { ctx := rdN g x.off 2, roleTag := BitVec.ofNat 16 (rdN g (x.off + 2) 2),
    recs := (recOffsets g bobbins (x.off + 8)).1.map (readRec g) }

/-- A CONTEXT section (Table 3.6). -/
def readShare (g : Nat → Byte) (o : Nat) : CtxShare :=
  { maxRegions := rdN g o 2, rslotQuota := (List.range 4).map fun d => rdN g (o + 4 + 4 * d) 4,
    mslotLimit := rdN g (o + 0x14) 4, logGib := rdN g (o + 0x18) 4, winGib := rdN g (o + 0x1C) 4,
    meters := rdN g (o + 0x20) 4, minLanes := rdN g (o + 0x24) 1, fibreMask := BitVec.ofNat 128 (rdN g (o + 0x30) 16) }

/-- Is a field of a CONTEXT section out of range, or a reserved byte non-zero (R45, R52)? -/
def shareBad (g : Nat → Byte) (o : Nat) : Bool :=
  let c := readShare g o
  64 < c.maxRegions || !rdZero g (o + 2) 2 || c.rslotQuota.any (9216 < ·) || 1048576 < c.mslotLimit || 2048 < c.logGib ||
    4480 < c.winGib || 16384 < c.meters || 8 < c.minLanes || !rdZero g (o + 0x25) 11

/-- Is a sum of R52 over all contexts exceeded, the dies having `slots d` on-die slots? -/
def sumsBad (l : List CtxShare) (slots : Nat → Nat) : Bool :=
  let sum := fun (f : CtxShare → Nat) => l.foldl (fun n c => n + f c) 0
  ((List.range 4).any fun d => slots d < sum fun c => c.rslotQuota.getD d 0) || 2048 < sum (·.logGib) ||
    4480 < sum (fun c => c.winGib + c.logGib) || 16384 < sum (·.meters)

/-- Does a MODULE section's PORT_MODE break R11 or R48? -/
def portModesBad (g : Nat → Byte) (o : Nat) : Bool :=
  let b := fun L => (g (o + L)).toNat
  let w := fun L => b L % 8
  let n := fun L => lanesOfWidth (w L)
  let heads := fun L => [L - L % 2, L - L % 4, L - L % 8].any fun h => h != L && w h != 0 && L < h + n h
  (List.range 1024).any fun L =>
    5 < w L || bits (b L) 4 3 != 0 ||
      (if w L == 0 then !heads L
       else L % n L != 0 || (List.range (n L)).any fun k =>
         k != 0 && (w (L + k) != 0 || bit (b (L + k)) 3 != bit (b L) 3 || bit (b (L + k)) 7 != bit (b L) 7))

/-- Does a MODULE section's channel map break Table 3.7? A USE above 7, which no code names, is BAD_CHANNEL_MAP (DESIGN CHOICE, log
entry 265). -/
def channelsBad (g : Nat → Byte) (o : Nat) : Bool :=
  let v := fun c => rdN g (o + 0x488 + 4 * c) 4
  let use := fun c => v c % 256
  (List.range 16).any fun c =>
    v c / 2 ^ 13 != 0 || 7 < use c || (c % 8 == 0 && (use c != 0 || bit (v c) 8)) || (8 ≤ c && use c == 2) ||
      (c < 8 && use c == 3) || bit (v c) 8 != bit (v ((c + 8) % 16)) 8

/-- Does a SW_DIE section break R49? -/
def divisionBad (g : Nat → Byte) (o : Nat) : Bool :=
  let v := rdN g o 2
  let e := rdN g (o + 2) 2
  let r := rdN g (o + 4) 2
  let t := rdN g (o + 6) 2
  v < 128 || 224 < v || e < 32 || 64 < e || 144 < r || t != 96 || v + e + r + t != 400

/-- Does a CP_DIE section break R50? -/
def cpDieBad (g : Nat → Byte) (o : Nat) : Bool :=
  let e := fun r => rdN g (o + 4 * r) 4
  (List.range 16).any fun r =>
    e r / 2 ^ 17 != 0 || (if bit (e r) 16 then !maskRect (e r % 2 ^ 16) else e r % 2 ^ 16 != 0) ||
      (List.range r).any fun q => (maskGroups (e r % 2 ^ 16)).any fun k => bit (e q % 2 ^ 16) k

/-- Does SLOT_NS or a reserved byte of a MODULE section break Table 3.7? -/
def bypassBad (g : Nat → Byte) (o : Nat) : Bool :=
  let n := rdN g (o + 0x480) 4
  n < 128 || 2048 < n || n % 32 != 0 || !rdZero g (o + 0x484) 4

/-- Offset of the section of a type and target; verified images have it. -/
def offOf (l : List Sect) (kind target : Nat) : Nat := ((sectOf l kind target).getD {}).off

/-- The structure of a full pricking (R48, R49). -/
def readStructure (g : Nat → Byte) : Structure :=
  let l := sects g
  let o := offOf l 1 0
  let sw := fun (k d : Nat) => rdN g (offOf l 2 d + k) 2
  { portMode := tabOf 1024 (fun _ => 1) fun L => g (o + L),
    elig := tabOf 1024 (fun _ => false) fun L => bit (g (o + 0x400 + L / 8)).toNat (L % 8),
    slotNs := rdN g (o + 0x480) 4, chan := tabOf 16 chanDefault fun c => BitVec.ofNat 32 (rdN g (o + 0x488 + 4 * c) 4),
    voqMib := tabOf 4 (fun _ => 192) (sw 0), egrMib := tabOf 4 (fun _ => 48) (sw 2), rslotMib := tabOf 4 (fun _ => 64) (sw 4) }

/-- GROUP_MASK of each valid region of a full pricking (R50). -/
def readMasks (g : Nat → Byte) : Tab (BitVec 16) :=
  let l := sects g
  tabOf 64 (fun _ => 0) fun r =>
    let e := rdN g (offOf l 3 (r / 16) + 4 * (r % 16)) 4
    if bit e 16 then BitVec.ofNat 16 e else 0

/-- The REGION sections of an image, by region, for regions with the masks given. -/
def readRegions (g : Nat → Byte) (cp : Tab (BitVec 16)) : Tab RegionSec :=
  ((sects g).filter (·.kind == 4)).foldl
    (fun t x => tset {} t x.target (readRegion g x (16 * (maskGroups (tget 0 cp x.target).toNat).length))) []

/-- The CONTEXT sections of an image, by context. -/
def readShares (g : Nat → Byte) : Tab CtxShare :=
  ((sects g).filter (·.kind == 5)).foldl (fun t x => tset {} t x.target (readShare g x.off)) []

/-- SHA3-512 of n bytes of an image, as bytes. -/
def digestOf (bs : List Byte) : List Byte := le 64 (Config.sha3 bs).toNat

/-- A full pricking, parsed. -/
def readImage (g : Nat → Byte) : Image :=
  let cp := readMasks g
  { imageId := BitVec.ofNat 64 (imId g), signer := BitVec.ofNat 64 (imSigner g), headDigest := digestOf (rdBytes g 0 256),
    str := readStructure g, cp := cp, regions := readRegions g cp, ctxs := readShares g }

/-! The checks, in the order of Table 3.7 (R54). A check that fails answers its code and the section. -/

/-- Codes of Table 3.7. -/
def wOK : Nat := 0x00
def wBAD_SECTIONS : Nat := 0x04
def wBAD_CONTEXT : Nat := 0x0F
def wMOTIF_BASE : Nat := 0x11
def wNOT_VERIFIED : Nat := 0x12
def wBUSY : Nat := 0x13
def wCONFLICT : Nat := 0x14
def wBAD_TIME : Nat := 0x15
def wNVS_ERROR : Nat := 0x16
def wDIE_FAULT : Nat := 0x17
def wCANCELLED : Nat := 0x18

/-- No section. -/
def noSect : Nat := 0xFFFF

/-- BAD_FORMAT: the header's fixed fields, and a kind that the slot does not take (R45, R56). -/
def formatBad (g : Nat → Byte) (slot : Nat) : Bool :=
  let k := imKind g
  rdN g 4 2 != 1 || k < 1 || 3 < k || rdN g 8 4 != 256 || rdN g 0x48 8 != 256 || imId g == 0 ||
    (if k == 1 then imBase g != 0 else imBase g == 0) || !rdZero g 0x2C 4 || !rdZero g 0x58 40 || !rdZero g 0xC0 64 ||
    (k == 1) != (slot < 2)

/-- Does entry i of the section table break R46, R47 or hold a non-zero reserved field, its section beginning at `o`? -/
def sectBad (g : Nat → Byte) (i o : Nat) : Bool :=
  let x := sectAt g i
  let e := 256 + 96 * i
  !rdZero g (e + 2) 2 || !rdZero g (e + 0x18) 8 || sectTargets x.kind ≤ x.target || x.off != o || x.len % 64 != 0 ||
    imSig g < x.off + x.len || (List.range i).any fun j => (sectAt g j).kind == x.kind && (sectAt g j).target == x.target

/-- The first entry that breaks the table, and where the sections end. -/
def sectScan (g : Nat → Byte) : Nat → Nat → Nat → Option Nat × Nat
  | 0, _, o => (none, o)
  | n + 1, i, o => if sectBad g i o then (some i, o) else sectScan g n (i + 1) (o + (sectAt g i).len)

/-- BAD_SECTIONS before the signature (R46, R47): the failing section, or none named. -/
def tableBad (g : Nat → Byte) : Option Nat :=
  let n := imCount g
  if n == 0 || 4096 < n || !rdZero g (256 + 96 * n) (imTableEnd g - (256 + 96 * n)) then some noSect
  else
    match sectScan g n 0 (imTableEnd g) with
    | (some i, _) => some i
    | (none, o) =>
      let number := fun t => ((sects g).filter (·.kind == t)).length
      if o != imSig g || [1, 2, 3, 4, 5].any fun t => match sectNumber (imKind g) t with
          | some k => number t != k
          | none => false
      then some noSect else none

/-- The checks that precede the content: Table 3.7 up to WRONG_MODULE. -/
def headCheck (s : State) (slot : Nat) (g : Nat → Byte) : Nat × Nat :=
  let key := tget [] s.nvs.prkKeys (imSigner g)
  let sig := imSig g
  let serial := rdBytes g 0x30 16
  if rdN g 0 4 != 0x4B525048 then (0x01, noSect)
  else if formatBad g slot then (0x02, noSect)
  else if slotSize slot < imTotal g || imTotal g != sig + 4631 then (0x03, noSect)
  else
    match tableBad g with
    | some i => (wBAD_SECTIONS, i)
    | none =>
      if key.isEmpty then (0x05, noSect)
      else if rdN g sig 4 != 4627 || !Config.mldsaVerify key (digestOf (rdBytes g 0 256)) (rdBytes g (sig + 4) 4627) then
        (0x06, noSect)
      else if digestOf (rdBytes g 256 (imTableEnd g - 256)) != rdBytes g 0x80 64 then (0x07, noSect)
      else
        match (sects g).find? fun x => digestOf (rdBytes g x.off x.len) != rdBytes g (256 + 96 * x.idx + 0x20) 64 with
        | some x => (0x07, x.idx)
        | none =>
          if rdN g 0x28 4 < s.nvs.prkFloor.toNat then (0x08, noSect)
          else if serial.any (· != 0) && serial != serialBytes then (0x09, noSect)
          else (wOK, noSect)

/-- A check of sections, in table order: the first that is padded wrongly, or fails with a code. -/
def scanSects (g : Nat → Byte) (l : List Sect) (code : Nat) (bad : Sect → Bool) : Option (Nat × Nat) :=
  l.findSome? fun x =>
    if !padFixed g x then some (wBAD_SECTIONS, x.idx) else if bad x then some (code, x.idx) else none

/-- BAD_REGION of REGION sections (R51). -/
def regionSectBad (g : Nat → Byte) (cp : Tab (BitVec 16)) (x : Sect) : Bool :=
  let m := (tget 0 cp x.target).toNat
  let c := rdN g x.off 2
  m == 0 || rdN g (x.off + 4) 4 != 16 * (maskGroups m).length || (1024 ≤ c && c != 0xFFFF)

/-- A REGION section's records: that they lie within it, its padding, then BAD_PROGRAM (R46, R302). -/
def programCheck (g : Nat → Byte) (cp : Tab (BitVec 16)) (x : Sect) : Option (Nat × Nat) :=
  let n := 16 * (maskGroups (tget 0 cp x.target).toNat).length
  match recWalk g (x.off + x.len) n (x.off + 8) with
  | .inl code => some (code, x.idx)
  | .inr stop =>
    let offs := (recOffsets g n (x.off + 8)).1
    let numbers := offs.flatMap fun o => (readRec g o).inlets.filterMap inletNumber
    if !padGood g x stop then some (wBAD_SECTIONS, x.idx)
    else if offs.any (recBad g (x.target / 16)) || twice numbers then some (0x0E, x.idx)
    else none

/-- Regions of a full pricking that a context owns beyond its MAX_REGIONS: the first REGION section in excess. -/
def excessRegion (g : Nat → Byte) : Option (Nat × Nat) :=
  let rs := (sects g).filter (·.kind == 4)
  let sh := readShares g
  rs.findSome? fun x =>
    let c := rdN g x.off 2
    let upto := (rs.filter fun y => y.idx ≤ x.idx && rdN g y.off 2 == c).length
    if c < 1024 && (tget {} sh c).maxRegions < upto then some (wBAD_CONTEXT, x.idx) else none

/-- The first failing check of a list, OK where all pass. -/
def firstFail (l : List (Option (Nat × Nat))) : Nat × Nat := (l.findSome? id).getD (wOK, noSect)

/-- The content checks of a full pricking. -/
def fullCheck (g : Nat → Byte) : Nat × Nat :=
  let l := sects g
  let kind := fun k => l.filter (·.kind == k)
  let cp := readMasks g
  let sh := readShares g
  firstFail
    [scanSects g (kind 1) 0x0A fun x => portModesBad g x.off, scanSects g (kind 1) 0x0B fun x => channelsBad g x.off,
     scanSects g (kind 2) 0x0C fun x => divisionBad g x.off, scanSects g (kind 3) 0x0D fun x => cpDieBad g x.off,
     scanSects g (kind 4) 0x0D (regionSectBad g cp), (kind 4).findSome? (programCheck g cp),
     scanSects g (kind 5) wBAD_CONTEXT fun x => shareBad g x.off,
     if sumsBad (sh.map (·.2)) fun d => 64 * tget 64 (readStructure g).rslotMib d then some (wBAD_CONTEXT, noSect) else none,
     excessRegion g, scanSects g (kind 1) 0x10 fun x => bypassBad g x.off]

/-- The content checks of a motif, against the active pricking. -/
def motifCheck (s : State) (im : Image) (g : Nat → Byte) : Nat × Nat :=
  let l := sects g
  let kind := fun k => l.filter (·.kind == k)
  let merged := (readShares g).foldl (fun t e => tset {} t e.1 e.2) s.sec.share
  firstFail
    [scanSects g (kind 4) 0x0D (regionSectBad g im.cp), (kind 4).findSome? (programCheck g im.cp),
     scanSects g (kind 5) wBAD_CONTEXT fun x => shareBad g x.off,
     if imKind g == 3 && sumsBad (merged.map (·.2)) fun d => 64 * tget 64 im.str.rslotMib d then some (wBAD_CONTEXT, noSect)
     else none]

/-- Verification of a slot (R54): its code and failing section. -/
def verifySlot (s : State) (slot : Nat) : Nat × Nat :=
  let g := slotBytes s slot
  let h := headCheck s slot g
  if h.1 != wOK then h
  else if imKind g == 1 then fullCheck g
  else
    match s.sys.active with
    | some im => if imBase g != im.imageId.toNat then (wMOTIF_BASE, noSect) else motifCheck s im g
    | none => (wMOTIF_BASE, noSect)

end Sys2Proof.Machine
end

