-- ==== Sys2Proof/Machine/Weave.lean ====
section
/-! DEFINITION. The weave engine (chapter 3): verification, full weaves, motif weaves, die re-weaves, and the generations
they advance. -/

namespace Sys2Proof.Machine

/-! Results and generations (R55, R68). -/

/-- The end of an operation: `PRK_RESULT`, one event, and source 0 (R55). -/
def weaveResult (s : State) (code slot sect est : Nat) : State :=
  let s := setReg s PRK_RESULT (BitVec.ofNat 64 (code * 2 ^ 56 + slot * 2 ^ 48 + sect * 2 ^ 32 + est))
  ring (event s 0x02 1 (if code == wOK then 0 else 2) 8 0xFFFF slot (le 1 code ++ le 2 sect ++ le 8 s.nvs.modGen.toNat)) 0

/-- A result that names no section. -/
def weaveCode (s : State) (code slot : Nat) : State := weaveResult s code slot noSect 0

/-- BUSY; where a resource is unpicking, with the expected wait, which is open (Table 3.7, log entry 149). -/
def weaveBusy (s : State) (slot : Nat) (unpicking : Bool) : State :=
  if unpicking then
    let (v, s) := draw s
    weaveResult s wBUSY slot noSect (v.toNat % 2 ^ 24)
  else weaveCode s wBUSY slot

/-- `PRK_STATUS.ENGINE`: 0 idle, 1 verifying, 2 full weave, 3 motif weave, 4 die re-weave. -/
def setEngine (s : State) (op : Nat) : State := fset (setWeave s fun w => { w with op := op }) PRK_STATUS.ENGINE op

/-- MOD_GEN one on, in NVS and in `PRK_GEN` (R68). -/
def modGenStep (s : State) : State :=
  let s := setNvs s fun n => { n with modGen := n.modGen + 1 }
  setReg s PRK_GEN s.nvs.modGen

/-- Has the slot been verified since it was last staged? -/
def verified (s : State) (slot : Nat) : Bool := bit (fget s PRK_STATUS.VERIFIED) slot

/-- The slot's verified bit. -/
def setVerified (s : State) (slot : Nat) (v : Bool) : State :=
  let o := fget s PRK_STATUS.VERIFIED
  fset s PRK_STATUS.VERIFIED (if v then o ||| 2 ^ slot else if bit o slot then o - 2 ^ slot else o)

/-- Is a self-test waiting or running? -/
def testActive (s : State) : Bool := fget s CTL_TEST_STAT.STATE == 1 || fget s CTL_TEST_STAT.STATE == 2

/-- Does the slot hold a pending commit, or is it being woven (R56)? -/
def slotHeld (s : State) (slot : Nat) : Bool :=
  s.weave.pend.any (·.slot == slot) || ((s.weave.op == 2 || s.weave.op == 3) && s.weave.slot == slot)

/-- Staging clears the verified bit (R56); a verification of the slot under way does not set it again (R54). -/
def stagedSlot (s : State) (slot : Nat) : State :=
  setWeave (setVerified s slot false) fun w => { w with restaged := w.restaged || (w.op == 1 && w.slot == slot) }

/-! Taking the next operation. -/

/-- May the die be re-woven (R62, R377, R42)? -/
def reweaveOk (s : State) (d : Nat) : Bool := fget s (FLT_DIE.STATE d) == 3 && coolEnough s d

/-- The first waiting operation that can start, starts; a re-weave that may not start any more ends with BUSY. -/
def engineTake : List Nat → State → State
  | [], s => setWeave s fun w => { w with verifyQ := [] }
  | v :: t, s =>
    let go := fun op d slot => setEngine (setWeave s fun w => { w with verifyQ := t, slot := slot, die := d, restaged := false }) op
    if v < 32 then go 1 s.weave.die v
    else if reweaveOk s (v - 32) then go 4 (v - 32) 0
    else engineTake t (weaveCode s wBUSY 0)

/-! Motifs at their start (R64 to R66). -/

/-- Regions owned by a context. -/
def regionsOwned (s : State) (x : Nat) : Nat := ((List.range 64).filter fun r => regionOwner s r == x).length

/-- `PRK_STATUS.PENDING`. -/
def pendCount (s : State) : State := fset s PRK_STATUS.PENDING s.weave.pend.length

/-- The pending motif that starts first: the earliest, of equal times the lowest slot (R64). -/
def firstMotif : List Motif → Option Motif
  | [] => none
  | m :: t =>
    match firstMotif t with
    | none => some m
    | some b => if m.start < b.start || (m.start == b.start && m.slot < b.slot) then some m else some b

/-- A pending motif taken off the list. -/
def dropMotif (s : State) (slot : Nat) : State :=
  pendCount (setWeave s fun w => { w with pend := w.pend.filter (·.slot != slot) })

/-- Is a quota of a share below the context's current use (R64)? -/
def shareBelow (s : State) (x : Nat) (c : CtxShare) : Bool :=
  c.maxRegions < regionsOwned s x || ((List.range 4).any fun d => c.rslotQuota.getD d 0 < slotUse s true x d) ||
    c.mslotLimit < (List.range 4).foldl (fun n d => n + slotUse s false x d) 0 || 8 * c.logGib < (logFrames s x).length ||
    8 * c.winGib < (winFrames s x).length || c.meters < metersOwned s x

/-- The start of a region motif's weave (R64, R65, R470). -/
def regionMotif (s : State) (m : Motif) (im : Image) : State :=
  let r := m.target
  let g := slotBytes s m.slot
  let ctx := rdN g (sectAt g 0).off 2
  let ctx := if ctx < 1024 then ctx else 1024
  let own := regionOwner s r
  let n := regionsOwned s ctx + (if own == ctx then 0 else 1)
  let tested := testActive s && fget s CTL_TEST_STAT.KIND == 3 && fget s CTL_TEST_STAT.UNIT == r
  if regionState s r == rUNPICKING then weaveBusy s m.slot true
  else if tested || (regionState s r == rRUNNING && !m.preempt) then weaveCode s wBUSY m.slot
  else if ctx != own && !(regionState s r == rIDLE && own == 1024) then weaveCode s wBAD_CONTEXT m.slot
  else if ctx < 1024 && (tget {} s.sec.share ctx).maxRegions < n then weaveCode s wBAD_CONTEXT m.slot
  else if !(im.cp.any fun e => e.1 == r) then weaveCode s wBUSY m.slot
  else
    let s := if regionState s r == rRUNNING then stopRegion s r else s
    let s := genAdvance (fset s (BOB_RGN_STAT.STATE r) rIDLE) r
    setEngine (setWeave s fun w => { w with region := r, slot := m.slot }) 3

/-- A context motif takes effect (R66); its frames stay, and MSLOT_LIMIT's slot frames among them change (R332, R334). -/
def contextMotif (s : State) (m : Motif) : State :=
  let x := m.target
  let g := slotBytes s m.slot
  let c := readShare g (sectAt g 0).off
  if ctxState s x == 3 || shareBelow s x c then weaveBusy s m.slot (ctxState s x == 3)
  else
    let s := setSec s fun t => { t with share := tset {} t.share x c }
    weaveCode (modGenStep (memDieUpdate (memCtxUpdate s x c.mslotLimit))) wOK m.slot

/-- MOTIF_START (R64): the first pending motif, its time reached and the engine free. -/
def motifStart (s : State) : State :=
  match firstMotif s.weave.pend with
  | none => s
  | some m =>
    if s.weave.op != 0 || s.tbNs < m.start then s
    else
      let s := dropMotif s m.slot
      match s.sys.active with
      | none => weaveCode s wBUSY m.slot
      | some im =>
        if !s.asWoven then weaveCode s wBUSY m.slot
        else if m.kind == 3 then contextMotif s m else regionMotif s m im

/-- Every pending motif whose time is reached starts, until one of them takes the engine (R64, log entry 266); `fuel` of them. -/
def motifsDue : Nat → State → State
  | 0, s => s
  | fuel + 1, s =>
    match firstMotif s.weave.pend with
    | none => s
    | some m => if s.weave.op != 0 || s.tbNs < m.start then s else motifsDue fuel (motifStart s)

/-- The engine, when idle, takes a motif that is due, and else the next waiting operation. -/
def engineNext (s : State) : State :=
  if s.weave.op != 0 then s
  else
    let s := motifsDue s.weave.pend.length s
    if s.weave.op != 0 then s else engineTake s.weave.verifyQ s

/-- The running operation has ended with a result; the next begins. -/
def weaveEnd (s : State) (code slot sect : Nat) : State := engineNext (weaveResult (setEngine s 0) code slot sect 0)

/-! Verification (R54). -/

/-- VERIFY (R54). -/
def weaveVerify (s : State) (slot : Nat) : State :=
  engineNext (setWeave s fun w => { w with verifyQ := w.verifyQ ++ [slot] })

/-- VERIFY_DONE (R55). -/
def verifyDone (s : State) (readErr : Bool) : State :=
  if s.weave.op != 1 then s
  else
    let slot := s.weave.slot
    let (code, sect) := if readErr then (wNVS_ERROR, noSect) else verifySlot s slot
    let s := if code == wOK && !s.weave.restaged then setVerified s slot true else s
    weaveEnd s code slot sect

/-! Structure (R48, R60, R203). -/

/-- A structure comes into force. A port with a lane whose PORT_MODE changes goes DOWN and, where it still names a port,
trains again; a port whose width changes takes its default traffic settings. -/
def applyStructure (s : State) (str : Structure) : State :=
  let old := s.sys.str.portMode
  let mode := fun (t : Tab Byte) L => tget (1 : Byte) t L
  let changed := (List.range 1024).filter fun L => mode old L != mode str.portMode L
  let width := changed.filter fun L => (mode old L).toNat % 8 != (mode str.portMode L).toNat % 8
  let s := forEach changed s fun s L => if (port s (portOf s L)).under != pDOWN then setUnder s (portOf s L) pDOWN else s
  let s := setSys s fun y => { y with str := str }
  let s := forEach width s fun s L =>
    setPort (tmPortReset s L) L fun p => { trainGen := p.trainGen + 1, dropQuar := p.dropQuar, under := pDOWN }
  forEach changed s fun s L => if isPort s (portOf s L) then retryAtTime (portRefresh s (portOf s L)) (portOf s L) s.now else s

/-- At the end of a full weave, UNORD bits of channels that may no longer be unordered are cleared in every KIND-0 group
(R177). -/
def clearUnord (s : State) : State :=
  let keep := (List.range 16).foldl (fun m c => m + b2n (chanUnordOk s c) * 2 ^ c) 0
  let fix := fun (e : Entry) => if lgKind e == 0 then { e with data := patch e.data 2 (le 2 (lgUnord e &&& keep)) } else e
  forRange 4 s fun s d =>
    setTbl s fun x => { x with copies := tset [] x.copies (8 * d + 7) ((tcopy s d 7).map fun e => (e.1, fix e.2)) }

/-- Watch entries that name a lane now absorbed lose VALID (R451). -/
def clearWatch (s : State) : State :=
  forRange 64 s fun s w => if isPort s (fget s (TEL_WATCH.PORT w)) then s else fset s (TEL_WATCH.VALID w) 0

/-! Regions. -/

/-- A region's definition and content written: its bobbins, its state, and what `PRK_RGEN_r` shows. A region of a die that
is not UP reads IDLE until the die is back. -/
def writeRegion (s : State) (r mask : Nat) (sec : Option RegionSec) : State :=
  let recs := match sec with
    | some x => x.recs
    | none => []
  let bobs := maskBobs r mask
  let s := forRange bobs.length s fun s i =>
    setBobbin s (bobs.getD i 0) fun b => { b with region := r, record := recs.getD i {}, progBad := [] }
  let s := setWeave s fun w => { w with regionLive := tset {} w.regionLive r (sec.getD {}) }
  let st := if sec.isSome && dieUp s (4 + r / 16) then rWOVEN else rIDLE
  setReg s (BOB_RGN_STAT r) (BitVec.ofNat 64 st)

/-- Owner and role tag of a region as its section gives them. -/
def regionOwn (s : State) (r : Nat) (sec : Option RegionSec) : State :=
  let x := sec.getD {}
  let s := fset s (PRK_RGEN.ROLE_TAG r) x.roleTag.toNat
  if x.ctx < 1024 then fset (fset s (PRK_RGEN.OWNED r) 1) (PRK_RGEN.CONTEXT r) x.ctx
  else fset (fset s (PRK_RGEN.OWNED r) 0) (PRK_RGEN.CONTEXT r) 0

/-- Is the region's section in the table? -/
def sectionOf (t : Tab RegionSec) (r : Nat) : Option RegionSec := (t.find? fun e => e.1 == r).map (·.2)

/-! Full weave (R59 to R61). -/

/-- May a full weave of the slot start (R59, R470)? -/
def fullAllowed (s : State) (slot : Nat) : Bool :=
  (s.mode == mBASIC || s.mode == mWOVEN || s.mode == mMAINT) && ((List.range 1024).all fun x => ctxState s x == 0) &&
    !anyCircuit s && s.weave.pend.isEmpty && s.weave.op == 0 && verified s slot && !testActive s &&
    (List.range 8).all fun d => fget s (FLT_DIE.STATE d) == 0 || fget s (FLT_DIE.STATE d) == 3

/-- SW dies whose SRAM division or port modes a structure changes (R60). -/
def changedDies (s : State) (str : Structure) : List Nat :=
  let o := s.sys.str
  (List.range 4).filter fun d =>
    tget 192 o.voqMib d != tget 192 str.voqMib d || tget 48 o.egrMib d != tget 48 str.egrMib d ||
      tget 64 o.rslotMib d != tget 64 str.rslotMib d ||
      (List.range 256).any fun l => tget (1 : Byte) o.portMode (256 * d + l) != tget 1 str.portMode (256 * d + l)

/-- The visits of dies in turn, each a hold of at most 10 ms, all within 1.5 s of a commit at `stop` less that: when each begins
and how long it lasts is open (R60, log entry 66). -/
def visits (stop : Nat) : List Nat → Nat → State → State
  | [], _, s => s
  | d :: ds, t0, s =>
    let (u, s) := draw s
    let (v, s) := draw s
    let t := t0 + u.toNat % (stop - 10000000 * (ds.length + 1) - t0 + 1)
    let e := t + 1 + v.toNat % 10000000
    visits stop ds e (setWeave s fun w => { w with holds := tset (0, 0) w.holds d (t, e) })

/-- COMMIT of slot 0 or 1: WEAVING, every lane ELECTRONIC, every region IDLE, and the visits to the dies that change begin. -/
def commitFull (s : State) (slot : Nat) (timed : Bool) : State :=
  if timed then weaveCode s wBAD_TIME slot
  else if !fullAllowed s slot then
    weaveBusy s slot ((s.mode == mBASIC || s.mode == mWOVEN || s.mode == mMAINT) &&
      (List.range 1024).any fun x => ctxState s x == 3)
  else
    let s := setEngine (setMode (allElectronic s) mWEAVING) 2
    let s := setWeave s fun w => { w with slot := slot, holds := [] }
    let s := visits (s.now + 1500000000) (changedDies s (readStructure (slotBytes s slot))) s.now s
    forRange 64 s fun s r => setReg (clearRegion s r) (BOB_RGN_STAT r) 0

/-- A failed full weave (R61, R384): BASIC, no active pricking, every role generation one on. -/
def fullFailed (s : State) (code slot : Nat) : State :=
  let s := setMode (basicEntry s) mBASIC
  let s := forRange 64 s fun s r => regionOwn s r none
  let s := setWeave s fun w => { w with regionLive := [] }
  weaveEnd (genAll (setBob s fun b => { b with bobs := [] })) code slot noSect

/-- The slot times start anew after a full weave (R221). -/
def setOrigin (s : State) : State :=
  let o := ceilDiv (s.tbNs + 1000000000) 1000000000 * 1000000000
  setByp s fun b => { b with origin := some o, matched := [], granted := [] }

/-- A full weave that ends OK (Table 3.14). -/
def fullDone (s : State) (slot : Nat) : State :=
  let im := readImage (slotBytes s slot)
  let s := applyStructure s im.str
  let s := setSys s fun y => { y with active := some im, maintBasic := false }
  let s := setReg s PRK_ACTIVE im.imageId
  let s := memDieUpdate (setSec s fun c => { c with share := im.ctxs, regionUnpick := [] })
  let s := setWeave (setBob s fun b => { b with bobs := [] }) fun w => { w with regionLive := [] }
  let s := forRange 64 s fun s r =>
    let sec := sectionOf im.regions r
    regionOwn (writeRegion s r (tget 0 im.cp r).toNat sec) r sec
  let s := modGenStep (genAll s)
  let s := setOrigin (refAtWeave (clearWatch (clearUnord s)))
  let s := forRange 8 s fun s d =>
    if fget s (FLT_DIE.STATE d) == 3 then setFlt s fun t => { t with dieJoin := tset false t.dieJoin d true }
    else if d < 4 then laneGates s d else s
  let s := setNvs s fun n => { n with bootSlot := some slot, bootId := im.imageId }
  weaveEnd (setMode s mWOVEN) wOK slot noSect

/-- FULL_WEAVE_DONE; a die that faulted during the weave fails it, and so does the module's leaving WEAVING meanwhile (R378, R379, log
entry 266). -/
def fullWeaveDone (s : State) (how : WeaveEnd) : State :=
  if s.weave.op != 2 then s
  else
    let slot := s.weave.slot
    let s := setWeave s fun w => { w with holds := [] }
    let lost := (List.range 8).any fun d => fget s (FLT_DIE.STATE d) != 0 && fget s (FLT_DIE.STATE d) != 3
    if s.mode != mWEAVING then weaveEnd (genAll s) wDIE_FAULT slot noSect
    else
    match how with
    | .nvsError => fullFailed s wNVS_ERROR slot
    | .dieFault => fullFailed s wDIE_FAULT slot
    | .ok => if lost then fullFailed s wDIE_FAULT slot else fullDone s slot

/-! Motifs committed and woven (R63, R65, R67). -/

/-- COMMIT of a motif slot (R63). -/
def commitMotif (s : State) (slot : Nat) (timed preempt : Bool) : State :=
  let g := slotBytes s slot
  let target := (sectAt g 0).target
  let kind := imKind g
  let start := if timed then nearTime s (fget s PRK_AT.SEC) (fget s PRK_AT.NS) else s.tbNs
  if s.mode != mWOVEN then weaveCode s wBUSY slot
  else if !verified s slot then weaveCode s wNOT_VERIFIED slot
  else if imBase g != fget s PRK_ACTIVE.IMAGE_ID then weaveCode s wMOTIF_BASE slot
  else if (s.weave.pend.any fun m => m.kind == kind && m.target == target) || 16 ≤ s.weave.pend.length then
    weaveCode s wCONFLICT slot
  else if timed && (start < s.tbNs + 100000 || s.tbNs + 10000000000 < start) then weaveCode s wBAD_TIME slot
  else
    pendCount (setWeave s fun w =>
      { w with pend := w.pend ++ [{ slot := slot, start := start, preempt := preempt, kind := kind, target := target }] })

/-- REGION_MOTIF_DONE (R65, R67). -/
def regionMotifDone (s : State) (how : WeaveEnd) : State :=
  if s.weave.op != 3 then s
  else
    let slot := s.weave.slot
    let r := s.weave.region
    let fail := fun (s : State) code =>
      weaveEnd (setWeave s fun w => { w with regionLive := tset {} w.regionLive r {} }) code slot noSect
    match how, s.sys.active with
    | .nvsError, _ => fail s wNVS_ERROR
    | .dieFault, _ => fail s wDIE_FAULT
    | .ok, none => fail s wMOTIF_BASE
    | .ok, some im =>
      if !dieUp s (4 + r / 16) then fail s wDIE_FAULT
      else
        let g := slotBytes s slot
        let mask := (tget 0 im.cp r).toNat
        let sec := readRegion g (sectAt g 0) (16 * (maskGroups mask).length)
        weaveEnd (modGenStep (regionOwn (writeRegion s r mask (some sec)) r (some sec))) wOK slot noSect

/-- CANCEL (R64). -/
def weaveCancel (s : State) (slot : Nat) : State :=
  if s.weave.pend.any (·.slot == slot) then weaveCode (dropMotif s slot) wCANCELLED slot else s

/-! Die re-weave (R62). -/

/-- REWEAVE_DIE. -/
def weaveDie (s : State) (d : Nat) : State :=
  if !reweaveOk s d then weaveCode s wBUSY 0
  else engineNext (setWeave s fun w => { w with verifyQ := w.verifyQ ++ [32 + d] })

/-- A CP die's regions as the active pricking's sections give them, their owners and tags among it, or none while no pricking is
active (R62, log entry 148). A region whose release waits for the die keeps its owner. -/
def reweaveRegions (s : State) (d : Nat) : State :=
  forRange 16 s fun s k =>
    let r := 16 * (d - 4) + k
    let (mask, sec) := match s.sys.active with
      | some im => ((tget 0 im.cp r).toNat, sectionOf im.regions r)
      | none => (0, none)
    let s := writeRegion s r mask sec
    genAdvance (if tget 0 s.sec.regionUnpick r != 0 then s else regionOwn s r sec) r

/-- REWEAVE_DONE. -/
def reweaveDone (s : State) : State :=
  if s.weave.op != 4 then s
  else
    let d := s.weave.die
    if fget s (FLT_DIE.STATE d) != 3 then weaveEnd s wDIE_FAULT 0 noSect
    else
      let s := if 4 ≤ d then reweaveRegions s d else s
      let s := setFlt s fun t => { t with dieJoin := tset false t.dieJoin d true }
      weaveEnd (modGenStep s) wOK 0 noSect

/-! Deferred role generations (R70). -/

/-- The group command that waited for its generation completes (R70, R239). -/
def grpWaitDone (s : State) (k : Nat) : State :=
  match s.pic.grpWait with
  | some g => if k == 64 + g && !genWaits s k then grpDone (setPic s fun p => { p with grpWait := none }) 0 else s
  | none => s

/-- ROLE_GEN_DEFERRED: a change that waited takes effect. -/
def roleGenDeferred (s : State) (k : Nat) : State :=
  if genWaits s k && genReady s k then
    grpWaitDone (genStep (setWeave s fun w => { w with genWait := tmod 0 w.genWait k (· - 1) }) k) k
  else s

/-! Registers (R58). -/

/-- Values out of range in `PRK_CMD` and `PRK_AT`. -/
def weaveRange (off : Nat) (w : Word) : Bool :=
  if off == PRK_CMD then 17 < wget w PRK_CMD.SLOT || 7 < wget w PRK_CMD.DIE || 4 < wget w PRK_CMD.OP
  else off == PRK_AT && 1000000000 ≤ wget w PRK_AT.NS

/-- Effects of an accepted write of `PRK_CMD`. -/
def weaveEffect (s : State) (off : Nat) (w : Word) : State :=
  if off != PRK_CMD then s
  else
    let slot := wget w PRK_CMD.SLOT
    match wget w PRK_CMD.OP with
    | 1 => weaveVerify s slot
    | 2 => if slot < 2 then commitFull s slot (wbit w PRK_CMD.TIMED)
           else commitMotif s slot (wbit w PRK_CMD.TIMED) (wbit w PRK_CMD.PREEMPT)
    | 3 => weaveCancel s slot
    | 4 => weaveDie s (wget w PRK_CMD.DIE)
    | _ => s

/-! The events. -/

/-- VERIFY_DONE (R55). -/
def execVerifyDone (readErr : Bool) (s : State) : Host.Outcome State Fault Refusal := live s fun s => verifyDone s readErr
/-- FULL_WEAVE_DONE (R60, R61). -/
def execFullWeaveDone (how : WeaveEnd) (s : State) : Host.Outcome State Fault Refusal := live s fun s => fullWeaveDone s how
/-- MOTIF_START (R64). -/
def execMotifStart (s : State) : Host.Outcome State Fault Refusal := live s motifStart
/-- REGION_MOTIF_DONE (R65, R67). -/
def execRegionMotifDone (how : WeaveEnd) (s : State) : Host.Outcome State Fault Refusal := live s fun s => regionMotifDone s how
/-- REWEAVE_DONE (R62). -/
def execReweaveDone (s : State) : Host.Outcome State Fault Refusal := live s reweaveDone
/-- ROLE_GEN_DEFERRED (R70). -/
def execRoleGenDeferred (unit : GenUnit) (s : State) : Host.Outcome State Fault Refusal :=
  live s fun s => roleGenDeferred s (unitKey unit)

end Sys2Proof.Machine
end

