-- ==== Sys2Proof/Machine/Contexts.lean ====
section
/-! DEFINITION. Contexts (chapter 16): their states and commands, the release of a region, the unpick, the ports they own,
and the publication of their counter pages (R446). -/

namespace Sys2Proof.Machine

/-! States (R394). -/

/-- A context enters a state, with its event (R394). -/
def ctxEnter (s : State) (x st : Nat) : State :=
  let old := ctxState s x
  event (fset s (CTX_STAT.STATE x) st) 0x0E 5 0 8 x x (le 1 old ++ le 1 st)

/-- The counter page zeroed (R396, Table 16.3). -/
def pageZero (s : State) (x : Nat) : State := forRange 64 s fun s i => resetReg s (PMC_CTXPAGE x i)

/-- Is port L owned by context x (R398)? -/
def ownsPort (s : State) (x L : Nat) : Bool := fbit s (PRT_OWNER.OWNED L) && fget s (PRT_OWNER.CTX L) == x

/-! Regions (R399). -/

/-- Region r begins its unpick: stopped, what it has in flight discarded, its generation one on. -/
def releaseRegion (s : State) (r : Nat) : State :=
  if tget 0 s.sec.regionUnpick r != 0 then s
  else
    let s := if regionState s r == rRUNNING then stopRegion s r else clearRegion s r
    let s := setSec (genAdvance s r) fun c => { c with regionUnpick := tset 0 c.regionUnpick r (s.now + 1) }
    if dieUp s (4 + r / 16) then fset s (BOB_RGN_STAT.STATE r) rUNPICKING else s

/-- REGION_UNPICK_DONE: the region is zeroed, IDLE and unowned. A die that is not UP keeps it waiting. -/
def regionUnpickDone (s : State) (r : Nat) : State :=
  if tget 0 s.sec.regionUnpick r == 0 || !dieUp s (4 + r / 16) then s
  else
    let s := forEach (regionBobs s r) s fun s n => setBobbin s n fun b => { region := r, inFlight := b.inFlight }
    let s := setSec s fun c => { c with regionUnpick := tset 0 c.regionUnpick r 0 }
    let s := setWeave s fun w => { w with regionLive := tset {} w.regionLive r {} }
    fset (fset s (BOB_RGN_STAT.STATE r) rIDLE) (PRK_RGEN.OWNED r) 0

/-! Commands (R395 to R400). -/

/-- The state as the running unpicks will leave the frames. -/
def afterUnpicks (s : State) : State := forEach (s.sec.unpick.map (·.1)) s releaseFrames

/-- ALLOCATE: frames, generation, page; or BUSY with its estimate, all ones where no running unpick would free enough, otherwise a
value that is open (R396, log entry 157). -/
def ctxAllocate (s : State) (x : Nat) : Nat × State :=
  match placeFrames s x with
  | some s => (0, ctxEnter (pageZero (genAdvance s (65600 + x)) x) x 1)
  | none =>
    if (placeFrames (afterUnpicks s) x).isNone then (2, fset s (CTX_STAT.ESTIMATE x) 0xFFFFFF)
    else
      let (v, s) := draw s
      (2, fset s (CTX_STAT.ESTIMATE x) (v.toNat % 0xFFFFFF))

/-- Job keys of a context erased. -/
def keysErase (s : State) (x : Nat) : State :=
  let s := setSec s fun c => { c with keys := c.keys.filter fun e => e.1 / 256 != x }
  forRange 4 (fset s SEC_KEYS.COUNT s.sec.keys.length) fun s w => resetReg s (CTX_KEYMAP x w)

/-- Meters of a context: counters zeroed, OWNED cleared. -/
def metersErase (s : State) (x : Nat) : State :=
  let mine := (s.tm.meters.filter fun e => wbit e.2.cfg1 TM_MTR_CFG1.OWNED && wget e.2.cfg1 TM_MTR_CFG1.OWNER == x).map (·.1)
  forEach mine s fun s m =>
    let t := meter s m
    setMeter s m { t with green := 0, yellow := 0, red := 0,
                          cfg1 := putBits t.cfg1 TM_MTR_CFG1.OWNED.lo TM_MTR_CFG1.OWNED.wid 0 }

/-- The share of an unpick done rises and its estimate falls, by how much nothing fixes; the share reads all ones only at the end
(Table 16.3, R416). -/
def unpickMove (s : State) (x : Nat) : State :=
  let p := fget s (CTX_STAT.PROGRESS x)
  let (u, s) := draw s
  let (v, s) := draw s
  fset (fset s (CTX_STAT.PROGRESS x) (p + u.toNat % (0xFFFF - p))) (CTX_STAT.ESTIMATE x)
    (v.toNat % (fget s (CTX_STAT.ESTIMATE x) + 1))

/-- RELEASE: the unpick of Table 16.3 begins. -/
def ctxRelease (s : State) (x : Nat) : State :=
  let regions := (List.range 64).filter fun r => regionOwner s r == x
  let ports := (List.range 1024).filter fun L => isPort s L && ownsPort s x L
  let s := ctxEnter s x 3
  let (v, s) := draw s
  let s := fset (fset s (CTX_STAT.PROGRESS x) 0) (CTX_STAT.ESTIMATE x) v.toNat
  let s := setSec s fun c => { c with unpick := tset {} c.unpick x { stamp := s.now + 1 } }
  let s := forEach ports s discardQuar
  let s := forEach regions s releaseRegion
  let s := bcUnpick (picUnpick s x) x
  metersErase (keysErase (fset s (MEM_WC.EN x) 0) x) x

/-- Code of a context command (Table 16.2), ALLOCATE's BUSY apart. -/
def ctxCode (s : State) (x op r : Nat) : Nat :=
  let m := s.mode
  let st := ctxState s x
  if m == mBOOT || m == mWEAVING || m == mFAULTED || (op ≤ 2 && m != mWOVEN && m != mMAINT) then 1
  else if !(match op with | 1 => st == 0 | 2 => st == 1 | 3 => st == 2 | _ => st == 1 || st == 2) then 1
  else if op == 4 && ownsLane s x then 3
  else if op == 5 && regionOwner s r != x then 4
  else 0

/-- A context command: its code, its effect, and source 5. -/
def ctxCommand (s : State) (x op r : Nat) : State :=
  if op == 0 then s
  else
    let code := ctxCode s x op r
    let done := fun (s : State) code => ring (fset s (CTX_STAT.CODE x) code) 5
    if code != 0 then done s code
    else
      match op with
      | 1 => let a := ctxAllocate s x; done a.2 a.1
      | 2 => done (ctxEnter s x 2) 0
      | 3 =>
        let s := forRange 64 s fun s r => if regionOwner s r == x && regionState s r == rRUNNING then stopRegion s r else s
        done (ctxEnter s x 1) 0
      | 4 => done (ctxRelease s x) 0
      | _ => done (releaseRegion s r) 0

/-! The end of the unpick (Table 16.3). -/

/-- May the unpick end: its regions are released and every die that holds its frames is UP (R401)? -/
def unpickReady (s : State) (x : Nat) : Bool :=
  ctxState s x == 3 && ((List.range 64).all fun r => regionOwner s r != x) &&
    (winFrames s x ++ logFrames s x).all fun p => dieUp s p.1

/-- UNPICK_DONE. -/
def unpickDone (s : State) (x : Nat) : State :=
  if !unpickReady s x then s
  else
    let s := forEach (winFrames s x ++ logFrames s x) s fun s p => zeroFrame s p.1 p.2
    let s := resetReg (resetReg (resetReg (pageZero s x) (PIC_LOG x)) (PIC_LOGTRIM x)) (PIC_LOGMIR x)
    let s := setPic s fun p => { p with logs := tset [] p.logs x [], logHigh := tset false p.logHigh x false }
    let s := releaseFrames s x
    let s := forRange 1024 s fun s L => if ownsPort s x L then fset s (PRT_OWNER.OWNED L) 0 else s
    let s := setSec s fun c => { c with unpick := tset {} c.unpick x {} }
    let s := fset (fset s (CTX_STAT.PROGRESS x) 0xFFFF) (CTX_STAT.ESTIMATE x) 0
    ring (ctxEnter (resetReg s (PMC_CTXPUB x)) x 0) 5

/-! Publication (R446). -/

/-- CTX_PUBLISH: the page written into the window when its period has passed. -/
def ctxPublish (s : State) (x : Nat) : State :=
  let period := fget s (PMC_CTXPUB.PERIOD_US x)
  let due := period != 0 && s.elapsed (tget 0 s.tel.pubAt x) (1000 * period)
  if fbit s (CTX_CTRL.CNT_OPEN x) && due && ctxUsable s x then
    let page := (List.range 64).flatMap fun i => le 8 (getReg s (PMC_CTXPAGE x i)).toNat
    ctxWrite (setTel s fun t => { t with pubAt := tset 0 t.pubAt x s.now }) x (512 * (fget s (PMC_CTXPUB.OFFSET x) / 512)) page
  else s

/-! Registers. -/

/-- Offsets in the context pages: the context and the page offset. -/
def inCtxPage (off : Nat) : Bool := 0x3000000 ≤ off && off < 0x3400000
def ctxOf (off : Nat) : Nat := (off - 0x3000000) / 0x1000

/-- Values out of range (Table 16.8, R446). -/
def ctxRange (s : State) (off : Nat) (w : Word) : Bool :=
  if inCtxPage off then off % 0x1000 == 8 && 5 < wget w (CTX_CMD.OP 0)
  else if 0x3400000 ≤ off && off < 0x3402000 then
    let p := wget w (PMC_CTXPUB.PERIOD_US 0)
    let o := wget w (PMC_CTXPUB.OFFSET 0)
    (p != 0 && p < 100) || o % 512 != 0 || !inWindow s ((off - 0x3400000) / 8) o 512
  else false

/-- A port may be given only to a context in use, and not away from one that is UNPICKING (R398). -/
def ctxStateBad (s : State) (off : Nat) (w : Word) : Bool :=
  inPortPage off && off % 0x1000 == 0x500 &&
    (portUnpicking s (pageOf off) || (wbit w (PRT_OWNER.OWNED 0) && !ctxUsable s (wget w (PRT_OWNER.CTX 0))))

/-- Effects of accepted writes. -/
def ctxEffect (s : State) (off : Nat) (w : Word) : State :=
  if inCtxPage off && off % 0x1000 == 8 then ctxCommand s (ctxOf off) (wget w (CTX_CMD.OP 0)) (wget w (CTX_CMD.REGION 0))
  else if 0x3400000 ≤ off && off < 0x3402000 then
    setTel s fun t => { t with pubAt := tset 0 t.pubAt ((off - 0x3400000) / 8) s.now }
  else s

/-- REGION_UNPICK_DONE (R399). -/
def execRegionUnpickDone (region : Fin 64) (s : State) : Host.Outcome State Fault Refusal :=
  live s fun s => regionUnpickDone s region.val
/-- UNPICK_DONE (R400). -/
def execUnpickDone (ctx : Fin 1024) (s : State) : Host.Outcome State Fault Refusal := live s fun s => unpickDone s ctx.val
/-- CTX_PUBLISH (R446). -/
def execCtxPublish (ctx : Fin 1024) (s : State) : Host.Outcome State Fault Refusal := live s fun s => ctxPublish s ctx.val

end Sys2Proof.Machine
end

