-- ==== Sys2Proof/Machine/Startup.lean ====
section
/-! DEFINITION. Power, straps, latch, pace monitors, module modes and self-tests (chapters 1, 2 and 19). -/

namespace Sys2Proof.Machine

/-! Power (R454 to R460, R474). -/

/-- What a loss of power leaves: NVS, the latch's position, and the model's own queue, log and count of free values. -/
def coldState (s : State) : State :=
  { State.reset with
    pending := s.pending, free := s.free, out := s.out, nvs := s.nvs, sys := { latchOpen := s.sys.latchOpen } }

/-- POWER_OFF (R474). -/
def powerOff (s : State) : State := if s.sys.powered then coldState s else s

/-- Are the slot pins of three samples valid: all agree, parity odd (R19)? -/
def strapSlotOk (a b c : Nat) : Bool :=
  a % 256 == b % 256 && b % 256 == c % 256 && ((List.range 8).filter fun k => bit a k).length % 2 == 1

/-- Is the reference preference valid (R19)? -/
def strapRefOk (a b c : Nat) : Bool := bits a 8 2 == bits b 8 2 && bits b 8 2 == bits c 8 2 && bits a 8 2 < 2

/-- Do all three samples of STRAP_RECOV agree? -/
def strapRecovOk (a b c : Nat) : Bool := bit a 10 == bit b 10 && bit b 10 == bit c 10

/-- Do the straps ask for recovery boot (R19)? -/
def strapRecov (a b c : Nat) : Bool := strapSlotOk a b c && !bit a 10 && !bit b 10 && !bit c 10

/-- The strap samples latched (R19). Which bit of a sample each pin takes, in State and in the DATA of STRAP_INVALID and
STRAP_CHANGED, is the model's choice (DESIGN CHOICE, log entry 259). -/
def strapLatch (s : State) (a b c : Nat) : State :=
  let valid := strapSlotOk a b c && strapRefOk a b c && strapRecovOk a b c
  let s := setSys s fun y => { y with straps := BitVec.ofNat 11 c }
  let s := fset s CTL_STRAP.SLOT (if strapSlotOk a b c then a % 128 else 0xFF)
  let s := fset s CTL_STRAP.REF (if strapRefOk a b c then bits a 8 2 else 0)
  let s := fset s CTL_STRAP.VALID (b2n valid)
  if valid then s else event s 0x01 1 1 8 0xFFFF 0 (le 4 a ++ le 4 b ++ le 4 c)

/-- The reference taken at power-up: the preferred one where it is good (R20); 2 where none is. -/
def strapReference (s : State) (xa xb : Bool) : State :=
  let good := fun k => if k == 0 then xa else xb
  let pref := fget s CTL_STRAP.REF
  let r := if good pref then pref else if good (1 - pref) then 1 - pref else 2
  fset (setSys s fun y => { y with refGood := BitVec.ofNat 2 (b2n xa + 2 * b2n xb) }) TB_STAT.REF r

/-- Bytes of firmware image i. -/
def fwImage (s : State) (i : Nat) : List Byte :=
  (List.range (tget 0 s.nvs.fwLen i)).map fun k => tget 0 (tget [] s.nvs.fwBytes i) k

/-- Does firmware image i run (R456)? An image with the VERIFIED mark has the bytes whose signature passed. -/
def fwPasses (s : State) (i : Nat) : Bool :=
  (tget false s.nvs.fwVerified i || Config.fwCheck (fwImage s i)) && s.nvs.fwFloor.toNat ≤ (tget 0 s.nvs.fwVer i).toNat

/-- The firmware image that runs: NEXT, else the other (R456). -/
def fwChoice (s : State) : Option Nat := [s.nvs.fwNext, 1 - s.nvs.fwNext].find? (fwPasses s)

/-- Recovery boot (R460). -/
def recoveryBoot (s : State) : State := fset (fset s CTL_BOOT.RECOV 1) CTL_STRAP.RECOV 1

/-- Is the module in recovery boot? -/
def inRecovery (s : State) : Bool := fbit s CTL_BOOT.RECOV

/-- The boot slot, where it verifies and holds the recorded image (R457). -/
def bootSlotOf (s : State) : Option Nat :=
  match s.nvs.bootSlot with
  | some b => if (verifySlot s b).1 == wOK && imId (slotBytes s b) == s.nvs.bootId.toNat then some b else none
  | none => none

/-- The boot structure applied to the switch dies and the optical chiplets (R457, R458). -/
def bootStructure (s : State) : State :=
  let s := match bootSlotOf s with
    | some b => fset (setSys s fun y => { y with str := readStructure (slotBytes s b) }) CTL_BOOT.SLOT b
    | none => fset (setSys s fun y => { y with str := {} }) CTL_BOOT.SLOT 0xF
  forRange 4 s laneGates

/-- What BOOT reads from NVS into registers (R494). -/
def bootRegisters (s : State) : State :=
  let s := fset (setReg s PRK_GEN s.nvs.modGen) CTL_BOOT.CLEAN (b2n s.nvs.clean)
  let s := setNvs s fun n => { n with clean := false }
  forEach s.nvs.retired s fun s e => fset s (MEM_CH.RETIRED e.1) e.2.length

/-- POWER_UP: straps, firmware, memory and the boot structure, or recovery boot. -/
def powerUp (s : State) (a b c : BitVec 11) (xa xb : Bool) : State :=
  if s.sys.powered then s
  else
    let s := setSys (coldState s) fun y => { y with powered := true }
    let s := bootRegisters (setNvs s fun n => { n with powerCount := n.powerCount + 1 })
    let s := strapReference (strapLatch s a.toNat b.toNat c.toNat) xa xb
    if strapRecov a.toNat b.toNat c.toNat then recoveryBoot s
    else
      match fwChoice s with
      | none => recoveryBoot s
      | some i =>
        let s := setNvs s fun n => { n with fwNext := i }
        let s := fset (fset s CTL_BOOT.IMAGE i) CTL_FW.FW_VERSION (tget 0 s.nvs.fwVer i).toNat
        setSys (bootStructure s) fun y => { y with bootDone := true }

/-- The rules of open fibres begin to apply to every fibre, from closed gates (R105). -/
def gatesBegin (s : State) : State :=
  forRange 128 (setSys s fun y => { y with gateRules := true }) fun s F =>
    if fbit s (OPT_FIBRE.FORCE_CLOSE F) then gateClose s F else gateBegin s F

/-- LASERS_POWERED: with the latch closed. The lasers stay off in recovery boot (R460) and after a CTL fault (R378). -/
def lasersPowered (s : State) : State :=
  if s.sys.lasersOn || s.sys.latchOpen || !s.sys.bootDone || s.sys.ctlFault then s
  else gatesBegin (lasersOn s)

/-- ENTER_BASIC. -/
def enterBasic (s : State) : State :=
  if s.mode == mBOOT && s.sys.lasersOn && !s.sys.latchOpen then setMode (setSys s fun y => { y with maintBasic := true }) mBASIC
  else s

/-- STRAP_CHECK (R20). -/
def strapCheck (s : State) (pins : BitVec 11) : State :=
  if pins == s.sys.straps then s
  else
    let s := fset s CTL_STRAP.CHANGED 1
    if s.sys.strapEvent then s
    else event (setSys s fun y => { y with strapEvent := true }) 0x01 2 1 8 0xFFFF 0 (le 4 pins.toNat)

/-! Pace monitors (R31 to R34). -/

/-- Guaranteed rate of the block of monitor n, M/s; none where the index is reserved or Table 2.1 gives no rate. -/
def paceRate (n : Nat) : Option Nat :=
  if n < 1024 then some 1200
  else if n < 1088 then
    match (n - 1024) % 16 with
    | 0 => some 5000 | 1 => none | 2 => some 293 | 3 => some 5000 | 4 => some 1900 | 5 => some 800
    | 14 => none | 15 => none | _ => some 1100
  else if n < 1152 then
    match (n - 1024) % 16 with
    | 0 => some 1500 | 1 => some 1900 | 2 => some 800 | _ => none
  else if n < 1156 then some 1200
  else if n == 1156 then some 15
  else none

/-- Die code that holds monitor n; 8 CTL (Table 21.4). -/
def paceDie (n : Nat) : Nat := if n < 1024 then 4 + n / 256 else if n < 1152 then (n - 1024) / 16 else 8

/-- The 10 µs window of the timebase that is running; the first is 0. -/
def paceIndex (s : State) : Nat := s.tbNs / 10000

/-- PACE_WINDOW (R31): RATE, TJ, MIN and BELOW at the end of a window, once for each window. -/
def paceWindow (s : State) (n rate tj : Nat) : State :=
  if paceReserved n || (paceDie n < 8 && !dieUp s (paceDie n)) || tget 0 s.sys.paceWin n == paceIndex s then s
  else
    let s := setSys s fun y => { y with paceWin := tset 0 y.paceWin n (paceIndex s) }
    let clear := s.sys.clrMin && !tget false s.sys.clrMinDone n
    let low := if clear then rate else min rate (fget s (PMC_PACE.MIN n))
    let s := setSys s fun y => { y with clrMinDone := if clear then tset false y.clrMinDone n true else y.clrMinDone }
    let s := fset (fset (fset s (PMC_PACE.RATE n) rate) (PMC_PACE.TJ n) tj) (PMC_PACE.MIN n) low
    let below := match paceRate n with
      | some g => rate < g
      | none => false
    if !below || fbit s (PMC_PACE.BELOW n) then s
    else event (fset s (PMC_PACE.BELOW n) 1) 0x0F 1 1 (paceDie n) 0xFFFF n (le 2 rate ++ le 2 tj)

/-! Self-tests (R469, R470). -/

/-- Kind and unit of the last test. -/
def testKind (s : State) : Nat := fget s CTL_TEST_STAT.KIND
def testUnit (s : State) : Nat := fget s CTL_TEST_STAT.UNIT

/-- Time of a test of kind k in milliseconds (Table 19.7). -/
def testTime (k : Nat) : Nat :=
  match k with
  | 1 => 50 | 2 => 200 | 3 => 100 | 4 => 10 | 5 => 5000 | 6 => 20000 | 7 => 90000 | _ => 300

/-- What is left of the running test's time, in whole milliseconds rounded up. -/
def testLeft (s : State) : Nat := ceilDiv (testTime (testKind s) * 1000000 - (s.now + 1 - s.test.started)) 1000000

/-- Is UNIT in range for KIND, and no absorbed lane (R469)? -/
def testUnitOk (s : State) (k u : Nat) : Bool :=
  match k with
  | 1 => isPort s u | 2 => u < 128 | 3 => u < 64 | 4 => u < 32 | 5 => u < 40 | 6 => u < 8 | 7 => u == 0 | 8 => u < 128
  | _ => false

/-- Preconditions of Table 19.7. -/
def testHolds (s : State) (k u : Nat) : Bool :=
  match k with
  | 1 => portFenced s u
  | 3 => regionState s u == rIDLE && regionOwner s u == 1024
  | 4 => dieUp s (u / 8)
  | 5 => dieUp s (u / 5)
  | 6 => s.mode == mMAINT && (fget s (FLT_DIE.STATE u) == 3 || fget s (FLT_DIE.STATE u) == 4)
  | 7 => s.mode == mMAINT && ((List.range 1024).all fun x => ctxState s x == 0) && s.byp.oper.isEmpty && s.weave.op == 0 &&
      s.weave.pend.isEmpty && s.byp.pend.isNone
  | _ => fbit s (OPT_FIBRE.FORCE_CLOSE u) && (List.range 8).all fun W => (mapLane s.byp.oper (8 * u + W)).mode == 0

/-- Does picot engine e hold no slot? -/
def engineFree (s : State) (e : Nat) : Bool := !s.pic.colls.any fun c => c.chunks.any fun k => !k.freed && k.engine == e

/-- Does die d come up after a MODULE test? The test must have passed it, as only a passing test lifts HELD (R377), and it must be
cool (R42). -/
def modulePassed (s : State) (d : Nat) : Bool :=
  let code := fget s CTL_TEST_STAT.CODE
  (code == 0 || (code == 1 && !bit (fget s CTL_TEST_RES0.DIE) d)) && coolEnough s d &&
    (fget s (FLT_DIE.STATE d) == 3 || fget s (FLT_DIE.STATE d) == 4)

/-- What a MODULE test leaves: memory zero, tables empty, BASIC with the boot structure (Table 19.7), and every die it passed UP.
The reset of the dies shows as the test ends (log entry 261). -/
def moduleAfter (s : State) : State :=
  let s := basicEntry s
  let s := forRange 64 s fun s r => regionOwn (setReg s (BOB_RGN_STAT r) 0) r none
  let s := setBob (setWeave s fun w => { w with regionLive := [] }) fun b => { b with bobs := [] }
  let s := forRange 8 s fun s d =>
    let s := if modulePassed s d then
        dieSet (setFlt s fun t => { t with dieHeld := tset false t.dieHeld d false }) d 0
      else s
    setFlt (zeroDie s d) fun t => { t with dieJoin := tset false t.dieJoin d false }
  let s := setCore s fun c => { nextId := c.nextId }
  let s := setTbl s fun t => { t with copies := [], stamps := [], buckets := [] }
  let s := setSys s fun y => { y with heatStop := y.heatStop.filter fun e => fget s (FLT_DIE.STATE (4 + e.1)) != 0 }
  let s := bootStructure (forRange 7 s fun s t => usedUpdate s (t + 1))
  let s := bundlesRefresh (memDieUpdate (setSec s fun c => { c with share := [] }))
  let s := forRange 1024 s fun s L => setPort s L fun p => { trainGen := p.trainGen + 1, dropQuar := p.dropQuar, under := pDOWN }
  let s := forRange 1024 s fun s L => if isPort s L then portRefresh s L else s
  let s := setMode s mBASIC
  if s.sys.lasersOn && !s.sys.latchOpen then gatesBegin s else s

/-- The state a test leaves its unit in, whatever its outcome (Table 19.7, R470). After a fault of the CTL die nothing comes up
again (R378). -/
def testAfter (s : State) (k u : Nat) : State :=
  if s.sys.ctlFault then s else
  let code := fget s CTL_TEST_STAT.CODE
  match k with
  | 1 => if isPort s u then portDown s u else s
  | 3 => forEach (regionBobs s u) s fun s n => setBobbin s n fun b => { b with store := [], lost := none, eccBad := [], eccOne := [] }
  | 4 => if code == 0 then fset s (PIC_ENG.TESTED u) 1 else s
  | 5 => if code == 1 && dieUp s (u / 5) then failChannel s (16 * u + fget s CTL_TEST_STAT.DETAIL % 16) else s
  | 6 =>
    let s := setFlt s fun t => { t with dieHeld := tset false t.dieHeld u (code == 1 || (code != 0 && tget false t.dieHeld u)) }
    if code == 0 then (if fget s (FLT_DIE.STATE u) == 4 then dieSet s u 3 else s)
    else if code == 1 && fget s (FLT_DIE.STATE u) == 3 then dieSet s u 4 else s
  | 7 => moduleAfter s
  | _ => s

/-- A test whose precondition no longer holds ends ABORTED; a test that has ended leaves its unit in its after-state. -/
def testSweep (s : State) : State :=
  let s := if testActive s && !testHolds s (testKind s) (testUnit s) then testEnd s 4 else s
  if s.test.started != 0 && !testActive s then
    testAfter (setTest s fun t => { t with started := 0 }) (testKind s) (testUnit s)
  else s

/-- START (R469). -/
def testStart (s : State) (k u : Nat) : State :=
  let s := setReg (setReg s CTL_TEST_RES0 0) CTL_TEST_RES1 0
  let s := setReg s CTL_TEST_STAT 0
  let s := fset (fset s CTL_TEST_STAT.KIND k) CTL_TEST_STAT.UNIT u
  if s.mode == mDRAINING || ((k == 6 || k == 7) && s.mode != mMAINT) then testEnd s 2
  else if !testHolds s k u then testEnd s 3
  else
    let s := setTest s fun t => { t with started := s.now + 1, wait := s.now }
    let s := fset s CTL_TEST_STAT.STATE (if k == 4 then 1 else 2)
    match k with
    | 1 => if (port s u).under != pDOWN then setUnder s u pDOWN else s
    | 4 => if fbit s (PIC_ENG.FENCED u) then s else fset (fset s (PIC_ENG.FENCED u) 1) (PIC_ENG.TESTED u) 0
    | 7 => setSys (forRange 128 s gateClose) fun y => { y with gateRules := false }
    | _ => s

/-- TEST_ENGINE_IDLE. -/
def testEngineIdle (s : State) : State :=
  if fget s CTL_TEST_STAT.STATE == 1 && testKind s == 4 && engineFree s (testUnit s) then
    fset (setTest s fun t => { t with started := s.now + 1 }) CTL_TEST_STAT.STATE 2
  else s

/-- TEST_WAIT_TIMEOUT. -/
def testWaitTimeout (s : State) : State :=
  if fget s CTL_TEST_STAT.STATE == 1 && s.elapsed s.test.wait 60000000000 then testSweep (testEnd s 5) else s

/-- TEST_DONE. -/
def testDone (s : State) (pass : Bool) (detail res0 res1 : Nat) : State :=
  if fget s CTL_TEST_STAT.STATE != 2 then s
  else
    let s := fset s CTL_TEST_STAT.DETAIL detail
    let s := if testKind s == 7 then setReg (setReg s CTL_TEST_RES0 (BitVec.ofNat 64 res0)) CTL_TEST_RES1 (BitVec.ofNat 64 res1) else s
    testSweep (testEnd s (if pass then 0 else 1))

/-! Modes (R463 to R465). -/

/-- `CTL_MODE_STAT.READY` (R465). -/
def modeReady (s : State) : Bool :=
  s.mode == mDRAINING && ((List.range 1024).all fun x => ctxState s x == 0) && s.weave.op ≤ 1 && s.byp.pend.isNone &&
    !testActive s && s.evr.copyQ.isEmpty && s.evr.clearing.isNone

/-- The state a command of Table 19.5 leads to from the present one; none where it is not accepted. -/
def modeTo (s : State) (op : Nat) : Option Nat :=
  let m := s.mode
  let woven := getReg s PRK_ACTIVE != 0
  match op with
  | 1 => if m == mBASIC || m == mWOVEN then some mMAINT else none
  | 2 => if m == mMAINT then some (if woven then mWOVEN else mBASIC) else none
  | 3 => if m == mBASIC || m == mWOVEN || m == mMAINT then some mDRAINING else none
  | _ => if m == mDRAINING then some (if s.sys.drainFrom == mWOVEN && !woven then mBASIC else s.sys.drainFrom) else none

/-- A mode command. -/
def modeCommand (s : State) (op : Nat) : State :=
  if op == 0 then s
  else
    match modeTo s op with
    | none => fset s CTL_MODE_STAT.CODE 1
    | some m =>
      if op == 2 && testActive s && (testKind s == 6 || testKind s == 7) then fset s CTL_MODE_STAT.CODE 2
      else
        let s := setSys s fun y =>
          { y with maintBasic := if s.mode == mBASIC then true else if s.mode == mWOVEN then false else y.maintBasic,
                   drainFrom := if op == 3 then s.mode else y.drainFrom }
        setMode (fset s CTL_MODE_STAT.CODE 0) m

/-! The latch (R105, R467). -/

/-- Tests that an open latch ends (R470). -/
def latchTest (s : State) : Bool := testActive s && (testKind s == 1 || testKind s == 2 || testKind s == 7 || testKind s == 8)

/-- LATCH_OPEN (Table 19.6). -/
def latchOpen (s : State) : State :=
  if s.sys.latchOpen then s
  else
    let s' := setSys s fun y => { y with latchOpen := true }
    if !s.sys.powered then s'
    else
      let s' := setNvs (setEvr s' fun e => { e with latchPre := e.copyQ.length }) fun n => { n with clean := modeReady s }
      let s' := forRange 128 (setSys s' fun y => { y with gateRules := false }) gateClose
      let s' := lasersOff s'
      testSweep (if latchTest s' then testEnd s' 4 else s')

/-! Registers. -/

/-- Values out of range (Table 19.8). -/
def startRange (s : State) (off : Nat) (w : Word) : Bool :=
  if off == CTL_MODE_CMD then 4 < wget w CTL_MODE_CMD.OP
  else if off == CTL_TEST_CMD then
    wget w CTL_TEST_CMD.OP == 3 ||
      (wget w CTL_TEST_CMD.OP == 1 && !testUnitOk s (wget w CTL_TEST_CMD.KIND) (wget w CTL_TEST_CMD.UNIT))
  else false

/-- A START while a test runs. -/
def startState (s : State) (off : Nat) (w : Word) : Bool :=
  off == CTL_TEST_CMD && wget w CTL_TEST_CMD.OP == 1 && testActive s

/-- Effects of accepted writes. -/
def startEffect (s : State) (off : Nat) (w : Word) : State :=
  if off == CTL_MODE_CMD then modeCommand s (wget w CTL_MODE_CMD.OP)
  else if off == CTL_TEST_CMD then
    match wget w CTL_TEST_CMD.OP with
    | 1 => testStart s (wget w CTL_TEST_CMD.KIND) (wget w CTL_TEST_CMD.UNIT)
    | 2 => if testActive s then testEnd s 4 else s
    | _ => s
  else if off == PMC_PACE_CLR then
    if wbit w PMC_PACE_CLR.CLR_MIN then setSys s fun y => { y with clrMin := true, clrMinDone := [] } else s
  else s

/-! The commands. -/

/-- POWER_UP (R455). -/
def execPowerUp (s0 s1 s2 : BitVec 11) (xa xb : Bool) (s : State) : Host.Outcome State Fault Refusal :=
  .next (powerUp s s0 s1 s2 xa xb)
/-- POWER_OFF (R474). -/
def execPowerOff (s : State) : Host.Outcome State Fault Refusal := .next (powerOff s)
/-- LASERS_POWERED (R105). -/
def execLasersPowered (s : State) : Host.Outcome State Fault Refusal := live s lasersPowered
/-- ENTER_BASIC (R455). -/
def execEnterBasic (s : State) : Host.Outcome State Fault Refusal := live s enterBasic
/-- STRAP_CHECK (R20). -/
def execStrapCheck (pins : BitVec 11) (s : State) : Host.Outcome State Fault Refusal := live s fun s => strapCheck s pins
/-- LATCH_OPEN (R467). -/
def execLatchOpen (s : State) : Host.Outcome State Fault Refusal := .next (latchOpen s)
/-- PACE_WINDOW (R31). -/
def execPaceWindow (n : Fin 1160) (rate : BitVec 16) (tj : BitVec 12) (s : State) : Host.Outcome State Fault Refusal :=
  live s fun s => paceWindow s n.val rate.toNat tj.toNat
/-- TEST_ENGINE_IDLE (R469). -/
def execTestEngineIdle (s : State) : Host.Outcome State Fault Refusal := live s testEngineIdle
/-- TEST_WAIT_TIMEOUT (R470). -/
def execTestWaitTimeout (s : State) : Host.Outcome State Fault Refusal := live s testWaitTimeout
/-- TEST_DONE (R469). -/
def execTestDone (pass : Bool) (detail : BitVec 8) (res0 : BitVec 24) (res1 : BitVec 40) (s : State) :
    Host.Outcome State Fault Refusal := live s fun s => testDone s pass detail.toNat res0.toNat res1.toNat

/-! Events that may end a self-test (R470). -/

/-- HEARTBEAT_MISS (R361). -/
def execHeartbeatMiss (die : Fin 8) (s : State) : Host.Outcome State Fault Refusal :=
  live s fun s => testSweep (dieFault s die.val 1)
/-- DIE_SELF_CHECK (R361). -/
def execDieSelfCheck (die : Fin 8) (s : State) : Host.Outcome State Fault Refusal :=
  live s fun s => testSweep (dieFault s die.val 4)
/-- REJOIN_MEMORY_ZEROED (R376). -/
def execRejoinMemoryZeroed (die : Fin 8) (s : State) : Host.Outcome State Fault Refusal :=
  live s fun s => testSweep (rejoin s die.val)
/-- INTERPOSER_LANE_FAIL (R380): a CTL bundle has no spares, and its fault is its die's (R382). -/
def execInterposerLaneFail (bundle : Fin 40) (wg lane : Nat) (s : State) : Host.Outcome State Fault Refusal :=
  live s fun s =>
    if bundle.val < 32 then laneFail s bundle.val wg lane
    else if 0 < wg || 4 ≤ lane then s
    else testSweep (dieFault s (bundle.val - 32) 5)
/-- THERMAL_SENSOR (R41). -/
def execThermalSensor (unit : ThermalUnit) (temp : BitVec 12) (s : State) : Host.Outcome State Fault Refusal :=
  live s fun s => testSweep (thermal s unit temp.toNat)
/-- SLOT_BOUNDARY (R222). -/
def execSlotBoundary (s : State) : Host.Outcome State Fault Refusal := live s fun s => testSweep (slotBoundary s)
/-- PORT_AUTO_UNFENCE (R367). -/
def execPortAutoUnfence (port : Fin 1024) (s : State) : Host.Outcome State Fault Refusal :=
  live s fun s =>
    let p := Sys2Proof.Machine.port s port.val
    if fbit s FLT_CTRL.PORT_AUTO && p.under == pUP && s.elapsed p.upAt 1000000000 then testSweep (unfencePort s port.val) else s
/-- CTL_FAULT (R378). -/
def execCtlFault (s : State) : Host.Outcome State Fault Refusal := live s fun s => testSweep (ctlFault s)
/-- BOTH_REF_DECISION (R379). -/
def execBothRefDecision (s : State) : Host.Outcome State Fault Refusal := live s fun s => testSweep (refDecision s)

end Sys2Proof.Machine
end

