-- ==== Sys2Proof/Machine/Events.lean ====
section
/-! DEFINITION. The event recorder's own events, its reader's windows, and telemetry (R437 to R440, R449 to R452, R495). -/

namespace Sys2Proof.Machine

/-! Paths (R485, R499). -/

/-- The management session on a path. -/
def pathSession (s : State) (p : Nat) : Option Session := if p < 5 then none else s.sec.sessions[p - 5]?

/-- Path of an open management session: 5 + its place among those still open. -/
def sessionPath (s : State) (sid : Nat) : Nat := 5 + s.sec.sessions.findIdx (·.sid == sid)

/-- Key of what belongs to a path: sessions keep theirs when their path number changes (R499). -/
def pathKey (s : State) (p : Nat) : Nat :=
  match pathSession s p with
  | some k => 16 + k.sid
  | none => p

/-! Records (R437, R438, R495). -/

/-- PERM_COPY: the oldest record not yet copied goes to the permanent part, which holds 4,096. No copy is made during a
clear; while the latch is open, only of records taken before it opened (R467). -/
def permCopy (s : State) : State :=
  match s.evr.copyQ with
  | [] => s
  | r :: rest =>
    if (s.sys.latchOpen && s.evr.latchPre == 0) || s.evr.clearing.isSome then s
    else
      let s := setEvr s fun e => { e with copyQ := rest, latchPre := e.latchPre - 1 }
      if s.nvs.perm.length < 4096 then setNvs s fun n => { n with perm := n.perm ++ [{ r with flags := r.flags / 2 * 2 + 1 }] }
      else s

/-- RATE_WINDOW_END: a window that has ended makes its SUMMARY record and opens the next one, or closes. A FENCE_EVIDENCE record
rings source 2 (R425). -/
def rateWindowEnd (s : State) (key : Nat) : State :=
  match s.evr.windows.find? (·.1 == key) with
  | none => s
  | some (_, w) =>
    if s.now < w.expiry then s
    else if w.folded == 0 then setEvr s fun e => { e with windows := tdel e.windows key }
    else
      let s := evrOffer s { w.lastRec with flags := 2, count := w.folded }
      let s := if w.lastRec.block == 0x0D && w.lastRec.code == 6 then ring s 2 else s
      setEvr s fun e => { e with windows := tput (tdel e.windows key) key { expiry := s.now + w.len, len := w.len } }

/-- LOST_RECORD: one LOST record with the number lost, once the recorder can take it. -/
def lostRecord (s : State) : State :=
  if s.evr.lost == 0 || (s.evr.rateAt == s.now / 1000000 && 20000 ≤ s.evr.rateCnt) then s
  else
    let r := { mkRec s 0x10 1 1 8 0xFFFF 0 [] with count := s.evr.lost }
    evrTake (bump (setEvr s fun e => { e with lost := 0 }) (PMC_EVT 0x1001)) r

/-- SEQ of the oldest record of the circular part. -/
def evrFirst (s : State) : Nat := evrNext s - s.evr.recs.length

/-- A record's eight words; none reads as zeros. -/
def recWords (r : Option Rec) : List Word :=
  match r with
  | some r => (List.range 8).map fun n => BitVec.ofNat 64 (fieldAt (recBytes r) (8 * n) 8)
  | none => []

/-- A path's record window loaded. -/
def evrLoad (s : State) (p : Nat) (r : Option Rec) : State :=
  setEvr s fun e => { e with win := tset [] e.win (pathKey s p) (recWords r) }

/-- `EVR_SEL` written. -/
def evrSel (s : State) (p seq : Nat) : State := evrLoad s p (s.evr.recs.find? (·.seq == seq))

/-- `EVR_PSEL` written. -/
def evrPsel (s : State) (p idx : Nat) : State := evrLoad s p s.nvs.perm[idx]?

/-- EVENTS_CLEAR_DONE (R439): the permanent part is erased and begins with the CLEARED record; records taken meanwhile
follow it. The session that asked, where it is still open, gets its answer. -/
def eventsClearDone (s : State) : State :=
  match s.evr.clearing with
  | none => s
  | some sid =>
    let old := s.nvs.perm
    let data := le 4 old.length ++ le 8 ((old.head?.map (·.seq)).getD 0) ++ fit 16 s.evr.clearDigest
    let r := { mkRec s 0x10 2 0 8 0xFFFF 0 data with seq := evrNext s }
    let wait := s.evr.copyQ
    let s := evrTake (bump (setEvr s fun e => { e with clearing := none }) (PMC_EVT 0x1002)) r
    let s := setEvr (setNvs s fun n => { n with perm := [{ r with flags := 1 }] }) fun e => { e with copyQ := wait }
    if s.sec.sessions.any (·.sid == sid) then emit s (.mgmt sid 6 3 0 s.evr.clearTag []) else s

/-! The management port's addresses (R432): their forms are those of IPv6 over Ethernet and RFC 4862 (PRESUMED, log entry 268). -/

/-- The interface identifier: the MAC address in EUI-64 form, its universal bit complemented. -/
def ifaceId : BitVec 64 :=
  let m := Config.macAddress
  ((m.extractLsb' 24 24 ++ 0xFFFE#16) ++ m.extractLsb' 0 24) ^^^ 0x0200000000000000#64

/-- The link-local address. -/
def linkLocal : BitVec 128 := 0xFE80000000000000#64 ++ ifaceId

/-- The port's addresses now: the link-local one, and the global ones that have not lapsed. -/
def mgmtAddrs (s : State) : List (BitVec 128) :=
  linkLocal :: (s.sec.globals.filter fun e => e.2 == 0 || decide (s.now < e.2)).map fun e => BitVec.ofNat 64 e.1 ++ ifaceId

/-- The address telemetry comes from (R449): the first global address held, and the link-local one where there is none
(DESIGN CHOICE, log entry 271). -/
def telSource (s : State) : BitVec 128 := ((mgmtAddrs s).drop 1).headD linkLocal

/-! Telemetry (R449 to R452). -/

/-- Counters of a port whose growth telemetry reports, by page offset; `drops` are its drop counters. -/
def telDrops : List Nat :=
  [0x180, 0x188, 0x198, 0x1A0, 0x210, 0x208, 0x218, 0x220, 0x228, 0x398, 0x3A0, 0x488, 0x508, 0x628, 0x100, 0x108, 0x110,
   0x118, 0x130, 0x138]
def telCounters : List Nat := [0x148, 0x190, 0x600, 0x608, 0x610, 0x618, 0x640, 0x648, 0x650, 0x658] ++ telDrops

/-- The counters as they stand. -/
def telSnap (s : State) : Tab Word := s.regs.filter fun e => inPortPage e.1 && telCounters.contains (e.1 % 0x1000)

/-- Growth of a counter of port L since a snapshot. -/
def growth (s : State) (snap : Tab Word) (L o : Nat) : Nat :=
  (getReg s (portPage L + o) - tget 0 snap (portPage L + o)).toNat

/-- Egress cells held for a port, and VOQ cells for it on all dies and channels. -/
def egrHeld (s : State) (L : Nat) : Nat := ((List.range 16).map fun c => ceilDiv (tget 0 s.core.egrBytes (16 * L + c)) 256).sum
def voqHeld (s : State) (L : Nat) : Nat :=
  ((List.range 4).flatMap fun d => (List.range 16).map fun c => voqDepth s (voqKey d L c)).sum

/-- Log code of a count. -/
def logCode (v : Nat) : Nat := if v == 0 then 0 else log2 v + 1

/-- Does the peer pause a channel of the port now? -/
def pausedNow (s : State) (L : Nat) : Bool := (port s L).pfcUntil.any fun e => s.now < e.2

/-- A sampler entry (Table 18.4). -/
def samplerEntry (s : State) (period L : Nat) : Nat :=
  if !isPort s L then 0
  else
    let g := growth s s.tel.snap L
    let cap := max 1 (portGbps s L * period / 8)
    min 255 (g 0x618 * 255 / cap) + logCode (egrHeld s L) * 2 ^ 8 + logCode (voqHeld s L) * 2 ^ 16 +
      b2n (tget false s.tel.ecnFor L) * 2 ^ 24 + b2n (g 0x648 != 0 || pausedNow s L) * 2 ^ 25 +
      b2n (g 0x640 != 0) * 2 ^ 26 + b2n (g 0x1A0 != 0) * 2 ^ 27 + portState s L * 2 ^ 28

/-- Datagram header (Table 18.3). -/
def telHeader (s : State) (kind first count seq start period : Nat) : List Byte :=
  le 1 kind ++ le 1 1 ++ le 2 first ++ le 2 count ++ le 1 (fget s CTL_STRAP.SLOT) ++ [0] ++ le 8 seq ++
    le 8 (start / 1000000000 % 2 ^ 32 * 2 ^ 32 + start % 1000000000) ++ le 4 period ++ le 4 0

/-- A watch record (Table 18.5). -/
def watchRecord (s : State) (L : Nat) : List Byte :=
  let g := growth s s.tel.wsnap L
  let sat := fun w v => le w (min v (2 ^ (8 * w) - 1))
  le 2 L ++ le 1 (portState s L) ++ le 1 (b2n (g 0x148 != 0) + 2 * b2n (tget false s.tel.xoffSent L)) ++ sat 4 (g 0x608) ++
    sat 4 (g 0x618) ++ sat 2 (g 0x600) ++ sat 2 (g 0x610) ++ sat 2 ((telDrops.map g).sum) ++ sat 2 (g 0x190) ++
    sat 4 (egrHeld s L) ++ sat 4 (voqHeld s L) ++ sat 2 (g 0x640) ++ sat 2 (g 0x658)

/-- Datagrams that wait for the management port, each for one period of its stream. -/
def telQueue (s : State) (stream period : Nat) (ds : List (List Byte)) : State :=
  setTel s fun t => { t with queue := t.queue ++ ds.map fun d => (stream, s.now + period, d) }

/-- Periods from one start to the next; a step of the timebase counts as one. -/
def telPeriods (a b p : Nat) : Nat := max 1 ((b - a) / max p 1)

/-- Has the period that began at `a` ended by the timebase? -/
def telDue (s : State) (a p : Nat) : Bool := a + p ≤ s.tbNs || s.tbNs < a

/-- SAMPLER_PERIOD: the map of the period as four datagrams (R449). -/
def samplerPeriod (s : State) : State :=
  let p := 1000 * fget s TEL_CTRL.SAMP_PERIOD_US
  let a := s.tel.sampAt
  if !fbit s TEL_CTRL.SAMP_EN || !telDue s a p then s
  else
    let b := s.tbNs / p * p
    let ds := (List.range 4).map fun j =>
      telHeader s 1 (256 * j) 256 s.tel.sampSeq a p ++
        (List.range 256).flatMap fun k => le 4 (samplerEntry s p (256 * j + k))
    let s := telQueue s 1 p ds
    setTel s fun t => { t with sampSeq := t.sampSeq + telPeriods a b p, sampAt := b, snap := telSnap s, ecnFor := [] }

/-- WATCH_PERIOD: one datagram with the valid watch entries' records (R450). -/
def watchPeriod (s : State) : State :=
  let a := s.tel.watchAt
  if !fbit s TEL_CTRL.WATCH_EN || !telDue s a 1000 then s
  else
    let b := s.tbNs / 1000 * 1000
    let ports := ((List.range 64).filter fun w => fbit s (TEL_WATCH.VALID w)).map fun w => fget s (TEL_WATCH.PORT w)
    let d := telHeader s 2 0 ports.length s.tel.watchSeq a 1000 ++ ports.flatMap (watchRecord s)
    let s := telQueue s 2 1000 [d]
    setTel s fun t => { t with watchSeq := t.watchSeq + telPeriods a b 1000, watchAt := b, wsnap := telSnap s, xoffSent := [] }

/-- Address and UDP port of a stream. -/
def telDest (s : State) (stream : Nat) : BitVec 128 × Nat :=
  if stream == 1 then (getReg s TEL_SDST_HI ++ getReg s TEL_SDST_LO, fget s TEL_CTRL.SPORT)
  else (getReg s TEL_WDST_HI ++ getReg s TEL_WDST_LO, fget s TEL_CTRL.WPORT)

/-- The oldest waiting datagram leaves, if session traffic leaves the management port free for it; which it does is open
(R451). -/
def telSend (s : State) : State :=
  match s.tel.queue with
  | [] => s
  | (stream, _, d) :: rest =>
    let (v, s) := draw s
    if v.getLsbD 0 then
      let (dst, p) := telDest s stream
      emit (setTel s fun t => { t with queue := rest }) (.datagram stream (telSource s) dst p d)
    else s

/-- DATAGRAM_EXPIRE: datagrams not sent within one period of their stream are discarded and counted (R451). -/
def datagramExpire (s : State) : State :=
  let old := s.tel.queue.filter fun e => e.2.1 ≤ s.now
  bumpBy (setTel s fun t => { t with queue := t.queue.filter fun e => !decide (e.2.1 ≤ s.now) }) TEL_LOST old.length

/-- A stream that a write of `TEL_CTRL` turns on starts afresh; a new sampler period is aligned afresh. -/
def telControl (old s : State) : State :=
  let p := 1000 * fget s TEL_CTRL.SAMP_PERIOD_US
  let s := if fbit s TEL_CTRL.SAMP_EN && !fbit old TEL_CTRL.SAMP_EN then
      setTel s fun t => { t with sampSeq := 0, sampAt := s.tbNs / p * p, snap := telSnap s, ecnFor := [] }
    else if fget s TEL_CTRL.SAMP_PERIOD_US != fget old TEL_CTRL.SAMP_PERIOD_US then
      setTel s fun t => { t with sampAt := s.tbNs / p * p, snap := telSnap s, ecnFor := [] }
    else s
  if fbit s TEL_CTRL.WATCH_EN && !fbit old TEL_CTRL.WATCH_EN then
    setTel s fun t => { t with watchSeq := 0, watchAt := s.tbNs / 1000 * 1000, wsnap := telSnap s, xoffSent := [] }
  else s

/-! Registers. -/

/-- Values out of range (R440, R452). -/
def evtRange (s : State) (off : Nat) (w : Word) : Bool :=
  if off == EVR_WMARK then 65536 < wget w EVR_WMARK.LEVEL
  else if off == TEL_CTRL then
    let p := wget w TEL_CTRL.SAMP_PERIOD_US
    p < 1 || 1000 < p || (wbit w TEL_CTRL.SAMP_EN && wget w TEL_CTRL.SPORT == 0) ||
      (wbit w TEL_CTRL.WATCH_EN && wget w TEL_CTRL.WPORT == 0)
  else if 0x3600100 ≤ off && off < 0x3600300 then !isPort s (wget w (TEL_WATCH.PORT 0))
  else false

/-- Effects of accepted writes; `old` is the state before. -/
def evtEffect (old s : State) (p off : Nat) (w : Word) : State :=
  if off == EVR_SEL then evrSel s p w.toNat
  else if off == EVR_PSEL then evrPsel s p (wget w EVR_PSEL.INDEX)
  else if off == EVR_WMARK then setEvr s fun e => { e with wmark := 0 }
  else if off == TEL_CTRL then telControl old s
  else s

/-! The commands. -/

/-- PERM_COPY (R437). -/
def execPermCopy (s : State) : Host.Outcome State Fault Refusal := live s permCopy
/-- RATE_WINDOW_END (R495). -/
def execRateWindowEnd (key : Nat) (s : State) : Host.Outcome State Fault Refusal := live s fun s => rateWindowEnd s key
/-- LOST_RECORD (R437). -/
def execLostRecord (s : State) : Host.Outcome State Fault Refusal := live s lostRecord
/-- SAMPLER_PERIOD (R449). -/
def execSamplerPeriod (s : State) : Host.Outcome State Fault Refusal := live s samplerPeriod
/-- WATCH_PERIOD (R450). -/
def execWatchPeriod (s : State) : Host.Outcome State Fault Refusal := live s watchPeriod
/-- DATAGRAM_EXPIRE (R451). -/
def execDatagramExpire (s : State) : Host.Outcome State Fault Refusal := live s datagramExpire

end Sys2Proof.Machine
end

