-- ==== Sys2Proof/Machine/Host.lean ====
section
/-! DEFINITION. The host attachment: the PCIe link, the DMA queues and the interrupt controller's claims (R417 to R431). -/

namespace Sys2Proof.Machine

/-! The PCIe link (R418, R419). -/

/-- The PCI Express function's identity and capabilities (Table 17.1). -/
structure PciFunction where
  vendor : BitVec 16
  device : BitVec 16
  classCode : BitVec 24
  bar0Bytes : Nat
  bar2Bytes : Nat
  vectors : Nat
  maxPayload : Nat
  maxRead : Nat
  completionNs : Nat
deriving DecidableEq, Repr

/-- What the VS1 presents (R417). -/
def pciFunction : PciFunction :=
  { vendor := Config.pciVendor, device := 0x5631, classCode := 0x088000, bar0Bytes := 0x4000000, bar2Bytes := 0x10000,
    vectors := 2048, maxPayload := 512, maxRead := 4096, completionNs := 50000000 }

/-- What 8 bytes at an offset of BAR2 hold (R417): the MSI-X table's entries, and from 0x8000 the pending bit array. Nothing else
stands there, and it reads as zero. -/
def bar2Word (s : State) (off : Nat) : Word :=
  let k := off / 8
  if off < 0x8000 then (msixEntry s (k / 2)).extractLsb' (64 * (k % 2)) 64
  else if off < 0x8100 then
    BitVec.ofNat 64 (((List.range 64).map fun j => b2n (tget false s.host.pba (64 * (k - 0x1000) + j)) * 2 ^ j).sum)
  else 0

/-- PCIE_LINK_LOSS: every queue stops with LINK, MSI-X is disabled, and path 0 loses its locks (R419, R490). The MSI-X table keeps
its entries (log entry 267). -/
def linkLoss (s : State) : State :=
  if !s.host.link then s
  else
    let s := setHost (freeLocks s 0) fun h => { h with link := false, msixEn := false }
    icEval (forRange 4 s fun s q => dqStop s q 2)

/-- PCIE_LINK_UP: every queue reads EN = 0 (R419). The link is not trained in recovery boot (R460). -/
def linkUp (s : State) : State :=
  if s.host.link || inRecovery s then s
  else forRange 4 (setHost s fun h => { h with link := true, msixEn := false }) fun s q => fset s (CTL_DQ_CFG.EN q) 0

/-- BAR0_UNSUPPORTED: an access that is not of 8 aligned bytes (R418). -/
def barUnsupported (s : State) (addr len : Nat) : State :=
  if !s.host.link || (len == 8 && addr % 8 == 0) then s else emit s (.unsupported addr)

/-- MSIX_ENABLE: PENDING sources routed to the host are offered (R419). -/
def msixEnable (s : State) : State :=
  if s.host.link && !s.host.msixEn then icEval (setHost s fun h => { h with msixEn := true }) else s

/-- MSIX_VECTOR_UNMASK: a BAR2 write of a vector's table entry. Where it leaves the vector unmasked, a message that the mask has
held is sent (R428). -/
def msixUnmask (s : State) (v : Nat) (entry : BitVec 128) : State :=
  if !s.host.link then s
  else
    let s := setHost s fun h => { h with msixTab := tset (1#128 <<< 96) h.msixTab v entry }
    if tget false s.host.pba v && s.host.msixEn && !entry.getLsbD 96 then
      msixSend (setHost s fun h => { h with pba := tset false h.pba v false }) v
    else s

/-! The interrupt controller (R425 to R430). -/

/-- Path of a target: core t is path t + 1, the host path 0 (R429). -/
def targetPath (t : Nat) : Nat := if t == 4 then 0 else t + 1

/-- A read of `IC_CLAIM_t` by its own target: the offered source becomes ACTIVE and joins the stack. -/
def icClaim (s : State) (t : Nat) : Word × State :=
  match icOffer s t with
  | none => (0, s)
  | some n =>
    let tier := icTier s (fget s (IC_SRC.PRIO n))
    let s := setHost (fset s (IC_SRC.STATE n) 2) fun h => { h with taken := tmod [] h.taken t fun l => (n, tier) :: l }
    (BitVec.ofNat 64 (2 ^ 63 + n), icEval s)

/-- Does source n stand at the top of target t's stack? -/
def icTop (s : State) (t n : Nat) : Bool := ((tget [] s.host.taken t).head?.map (·.1)) == some n

/-- Completion of the top of target t's stack (Table 17.6). -/
def icComplete (s : State) (t n : Nat) : State :=
  let s := setHost s fun h => { h with taken := tmod [] h.taken t (·.drop 1) }
  icEval (fset s (IC_SRC.STATE n) (if fget s (IC_SRC.STATE n) == 3 then 1 else 0))

/-- Do the boundaries of `IC_TIERS` decrease somewhere? -/
def tiersBad (w : Word) : Bool := (List.range 6).any fun k => bits w.toNat (8 * (k + 1)) 8 < bits w.toNat (8 * k) 8

/-- Is the offset that of an `IC_EOI_t`, an `IC_SRC_s`? -/
def inEoi (off : Nat) : Bool := 0x100180 ≤ off && off < 0x1001A8
def inSrc (off : Nat) : Bool := 0x101000 ≤ off && off < 0x109000

/-! The DMA queues (R420 to R424). -/

/-- Queue of an offset of Table 17.4, and the register's place. -/
def inDq (off : Nat) : Bool := 0x1000 ≤ off && off < 0x1100
def dqOf (off : Nat) : Nat := (off - 0x1000) / 0x40
def dqReg (off : Nat) : Nat := (off - 0x1000) % 0x40

/-- `n` free bytes: what is read where nothing says what stands there. -/
def drawBytes : Nat → State → List Byte × State
  | 0, s => ([], s)
  | n + 1, s =>
    let (v, s) := draw s
    let (r, s) := drawBytes n s
    (le 8 v.toNat ++ r, s)

/-- HEAD and TAIL. -/
def dqHead (s : State) (q : Nat) : Nat := fget s (CTL_DQ_HEAD.HEAD q)
def dqTail (s : State) (q : Nat) : Nat := fget s (CTL_DQ_TAIL.TAIL q)

/-- HEAD advanced by one. -/
def dqTake (s : State) (q : Nat) : State := fset s (CTL_DQ_HEAD.HEAD q) ((dqHead s q + 1) % 2 ^ 32)

/-- Has queue q an entry to take? -/
def dqReady (s : State) (q : Nat) : Bool := dqRuns s q && dqHead s q != dqTail s q

/-- n TABLE entries taken in order, each into the submission order (R181, R420). -/
def dqSubmit : Nat → List Byte → State → State
  | 0, _, s => s
  | n + 1, bs, s =>
    let i := dqHead s 0
    dqSubmit n (bs.drop 256) (tblSubmit (dqTake s 0) (bytesAt bs 0 192) (some i))

/-- How far TAIL is ahead of HEAD. -/
def dqAhead (s : State) (q : Nat) : Nat := (dqTail s q + 2 ^ 32 - dqHead s q) % 2 ^ 32

/-- A write of TAIL (R420, R421): too far ahead stops the queue; TABLE takes its new entries, whose bytes the host's memory
gives; EVENTS notes the half mark afresh (R424). -/
def dqTail' (s : State) (q : Nat) (entries : Option (List Byte)) : State :=
  let d := dqAhead s q
  let n := dqSlots s q
  let ahead := if q == 2 && 2 ^ 31 ≤ d then 0 else d
  let s := if q == 2 then setHost s fun h => { h with evHalf := false } else s
  if !dqRuns s q then s
  else if n < ahead then dqStop s q 3
  else if q == 0 then
    match entries with
    | some bs => dqSubmit d bs s
    | none =>
      let (bs, s) := drawBytes (32 * d) s
      dqSubmit d bs s
  else s

/-- Entries kept in `CTL_DQ_CFG_q`: EN set from 0 starts the queue, EN cleared ends it (R421). -/
def dqConfig (old s : State) (q : Nat) : State :=
  let was := fbit old (CTL_DQ_CFG.EN q)
  let now := fbit s (CTL_DQ_CFG.EN q)
  if now && !was then
    let s := resetReg (resetReg (resetReg s (CTL_DQ_HEAD q)) (CTL_DQ_TAIL q)) (CTL_DQ_STAT q)
    let s := if q == 0 then dqForget s else s
    if q == 2 then setHost s fun h => { h with evPos := evrFirst s, evHalf := false } else s
  else if was && !now && q == 0 then dqForget s
  else s

/-- IMAGE entry fields (Table 17.3): is one out of range, or a byte that must be zero not? -/
def imageBad (e : List Byte) : Bool :=
  let slot := fieldAt e 0 1
  let o := fieldAt e 8 8
  let n := fieldAt e 0x18 4
  17 < slot || 3 < fieldAt e 1 1 || !zeroBytes e 2 4 || !zeroBytes e 0x1C 64 || o % 4096 != 0 || n % 4096 != 0 || n < 4096 ||
    1048576 < n || slotSize slot < o + n

/-- Bytes written into a slot of NVS. -/
def slotWrite (s : State) (slot o : Nat) (first : Bool) (bs : List Byte) : State :=
  setNvs s fun n => { n with slots := tmod [] n.slots slot fun t =>
    (bs.foldl (fun (a : Tab Byte × Nat) b => (tset 0 a.1 a.2 b, a.2 + 1)) (if first then [] else t, o)).1 }

/-- An IMAGE entry (R422): its code, and its effect on the slot. Every entry clears the verified bit of its slot. Where the
write fails, what the entry's bytes in the slot hold is open. -/
def imageStage (s : State) (e data : List Byte) (dmaErr nvsErr : Bool) : Nat × State :=
  let slot := fieldAt e 0 1
  let o := fieldAt e 8 8
  let n := fieldAt e 0x18 4
  let first := fieldAt e 1 1 % 2 == 1
  let s := if slot ≤ 17 then stagedSlot s slot else s
  if imageBad e then (1, s)
  else if slotHeld s slot || s.mode == mDRAINING then (2, s)
  else if dmaErr then (4, s)
  else if nvsErr then
    let (bs, s) := drawBytes (n / 8) s
    (3, slotWrite s slot o first bs)
  else (0, slotWrite s slot o first (fit n data))

/-- IMAGE_ENTRY: the entry at HEAD. No NVS write starts while the latch is open (R467). A host access that errs completes the
entry with DMA_ERROR and stops the queue (R421). -/
def imageEntry (s : State) (e data : List Byte) (dmaErr nvsErr : Bool) : State :=
  if !dqReady s 1 || s.sys.latchOpen then s
  else
    let i := dqHead s 1
    let (code, s) := imageStage (dqTake s 1) e data dmaErr nvsErr
    let s := dqPut s 1 i (le 4 code ++ le 4 (fieldAt e 4 4)) (bit (fieldAt e 1 1) 1)
    if code == 4 then dqStop s 1 1 else s

/-- DQ_EVENT_WRITE: the next record of the stream into the host's ring (R424). -/
def dqEventWrite (s : State) : State :=
  let p := max s.host.evPos (evrFirst s)
  let n := dqSlots s 2
  let held := (dqHead s 2 + 2 ^ 32 - dqTail s 2) % 2 ^ 32
  if !dqRuns s 2 || n ≤ held then s
  else
    match s.evr.recs.find? (·.seq == p) with
    | none => s
    | some r =>
      let s := emit s (.hostWrite ((getReg s (CTL_DQ_SBASE 2)).toNat + dqHead s 2 % n * 64) (recBytes r))
      let s := setHost (dqTake s 2) fun h => { h with evPos := p + 1 }
      let half := n / 2 ≤ held + 1 && !s.host.evHalf
      let s := if half then setHost s fun h => { h with evHalf := true } else s
      if 2 ≤ r.sev || half then ring s 10 else s

/-- DQ_DMA_TIMEOUT: a host access erred or got no completion (R421). -/
def dqDmaTimeout (s : State) (q : Nat) : State := if dqRuns s q then dqStop s q 1 else s

/-! Registers. -/

/-- Values out of range (R421, R427, Table 17.8). -/
def hostRange (off : Nat) (w : Word) : Bool :=
  if off == IC_TIERS then tiersBad w
  else if inSrc off then 4 < wget w (IC_SRC.TARGET 0)
  else if inDq off then
    match dqReg off with
    | 0 => w.toNat % 4096 != 0
    | 8 => w.toNat % 4096 != 0
    | 16 => wget w (CTL_DQ_CFG.LOG2N 0) < 4 || 16 < wget w (CTL_DQ_CFG.LOG2N 0)
    | _ => false
  else false

/-- A base or LOG2N written while EN = 1 (R421); a completion from the target's own path that does not name the top of its stack (R429). -/
def hostState (s : State) (p off : Nat) (w : Word) : Bool :=
  if inDq off then
    fbit s (CTL_DQ_CFG.EN (dqOf off)) &&
      (match dqReg off with
       | 0 => true
       | 8 => true
       | 16 => wget w (CTL_DQ_CFG.LOG2N (dqOf off)) != fget s (CTL_DQ_CFG.LOG2N (dqOf off))
       | _ => false)
  else
    let t := (off - 0x100180) / 8
    inEoi off && p == targetPath t && !icTop s t (wget w (IC_EOI.SOURCE 0))

/-- Paths that R425 and R429 refuse. -/
def hostPath (p off : Nat) (w : Word) : Bool :=
  if off == IC_DOORBELL then p == 0 && wget w IC_DOORBELL.SOURCE < 2048
  else inEoi off && p != targetPath ((off - 0x100180) / 8)

/-- Effects of accepted writes; `old` is the state before. -/
def hostEffect (old s : State) (off : Nat) (w : Word) (entries : Option (List Byte)) : State :=
  if off == IC_TIERS || inSrc off then icEval s
  else if off == IC_DOORBELL then ring s (wget w IC_DOORBELL.SOURCE)
  else if inEoi off then icComplete s ((off - 0x100180) / 8) (wget w (IC_EOI.SOURCE 0))
  else if inDq off then
    (match dqReg off with
     | 16 => dqConfig old s (dqOf off)
     | 24 => dqTail' s (dqOf off) entries
     | _ => s)
  else s

/-! The commands. -/

/-- PCIE_LINK_LOSS (R419). -/
def execPcieLinkLoss (s : State) : Host.Outcome State Fault Refusal := live s linkLoss
/-- PCIE_LINK_UP (R419). -/
def execPcieLinkUp (s : State) : Host.Outcome State Fault Refusal := live s linkUp
/-- BAR0_UNSUPPORTED (R418). -/
def execBar0Unsupported (addr : BitVec 26) (len : Nat) (_isWrite : Bool) (s : State) : Host.Outcome State Fault Refusal :=
  liveClocked s fun s => barUnsupported s addr.toNat len
/-- MSIX_ENABLE (R419). -/
def execMsixEnable (s : State) : Host.Outcome State Fault Refusal := liveClocked s msixEnable
/-- MSIX_VECTOR_UNMASK (R428). -/
def execMsixVectorUnmask (vector : MsixWrite) (s : State) : Host.Outcome State Fault Refusal :=
  liveClocked s fun s => msixUnmask s vector.vector.val vector.entry
/-- IMAGE_ENTRY (R422). -/
def execImageEntry (entry : BitVec 512) (data : List Byte) (dmaErr nvsErr : Bool) (s : State) :
    Host.Outcome State Fault Refusal := liveClocked s fun s => imageEntry s (le 64 entry.toNat) data dmaErr nvsErr
/-- DQ_EVENT_WRITE (R424). -/
def execDqEventWrite (s : State) : Host.Outcome State Fault Refusal := liveClocked s dqEventWrite
/-- DQ_DMA_TIMEOUT (R421). -/
def execDqDmaTimeout (q : Fin 4) (s : State) : Host.Outcome State Fault Refusal := live s fun s => dqDmaTimeout s q.val

end Sys2Proof.Machine
end

