-- ==== Sys2Proof/Machine/Access.lean ====
section
/-! DEFINITION. Register access on every path (chapter 21): which path is live, why a write is rejected, what an accepted
write sets off, and what a read returns. -/

namespace Sys2Proof.Machine

/-! Paths. -/

/-- Can the path reach the registers: the PCIe link up for path 0, a core that is not in the reset of its own fault, outside
recovery boot; a session open on a path from 5; with the PCIe and management PHYs clocked (R362, R379, R419, R434, R460, R485)? -/
def pathLive (s : State) (p : Nat) : Bool :=
  s.sys.powered && !inRecovery s &&
    (if p == 0 then s.host.link && s.sys.refPhase != 1
     else if p < 5 then decide (tget 0 s.sys.coreReset (p - 1) ≤ s.now)
     else (pathSession s p).isSome && s.sys.refPhase != 1)

/-! Rejection (R5, R493). -/

/-- The lock whose set holds the register at an offset (Table 21.5). -/
def lockOf (off : Nat) : Option Nat :=
  if TBL_CMD_W 0 ≤ off && off ≤ TBL_CMD_GO then some 0
  else if off == TBL_RAW_CMD || (TBL_RAW_W 0 ≤ off && off < TBL_RAW_W 24) then some 1
  else if off == TM_NODE_SEL || off == TM_NODE_DATA || off == TM_NODE_CMD then some 2
  else if off == TM_WSET_W0 || off == TM_WSET_W1 || off == TM_WSET_STRICT || off == TM_WSET_CMD then some 3
  else if off == TM_MTR_SEL || off == TM_MTR_CFG0 || off == TM_MTR_CFG1 || off == TM_MTR_CMD then some 4
  else if off == BYP_MAP_SEL || off == BYP_MAP_DATA || off == BYP_MAP_CMD || off == BYP_COMMIT_AT then some 5
  else if PIC_GRP_SEL ≤ off && off ≤ PIC_GRP_CMD then some 6
  else if off == FLT_CHIP_SEL || off == FLT_CHIP_DATA || off == FLT_CHIP_CMD then some 7
  else if FLT_BC_SEL ≤ off && off ≤ FLT_BC_CMD then some 8
  else if off == MEM_MAP_SEL then some 9
  else if off == TB_CAP_POP then some 10
  else if off == PRK_AT || off == PRK_CMD then some 11
  else none

/-- Is the offset that of a `CTL_LOCK_k`? -/
def inLock (off : Nat) : Bool := CTL_LOCK 0 ≤ off && off < CTL_LOCK 16
def lockNo (off : Nat) : Nat := (off - CTL_LOCK 0) / 8

/-- Does the write meet a lock of another path, or release one it does not hold (R490, R491)? -/
def lockedBad (s : State) (p off : Nat) (w : Word) : Bool :=
  if inLock off then wbit w (CTL_LOCK.RELEASE 0) && fget s (CTL_LOCK.HOLDER (lockNo off)) != p
  else match lockOf off with
    | some k => let h := fget s (CTL_LOCK.HOLDER k); h != 0xF && h != p
    | none => false

/-- Does its path refuse the write (Table 21.3, R429)? -/
def pathBad (p off : Nat) (w : Word) : Bool :=
  hostPath p off w || (p == 0 &&
    (if off == PRK_CMD then 2 ≤ wget w PRK_CMD.OP && wget w PRK_CMD.OP ≤ 4
     else if off == FLT_CHIP_CMD then 2 ≤ wget w FLT_CHIP_CMD.OP && wget w FLT_CHIP_CMD.OP ≤ 4
     else if off == CTL_TEST_CMD then
       wget w CTL_TEST_CMD.OP == 1 && (wget w CTL_TEST_CMD.KIND == 6 || wget w CTL_TEST_CMD.KIND == 7)
     else
       off == TB_OFFSET || off == TB_GAIN || off == TB_SERVO || off == FLT_CTRL || off == FLT_PORT_CMD || off == SEC_SELF ||
         off == CTL_MODE_CMD || (inCtxPage off && (off % 0x1000 == 8 || off % 0x1000 == 0x10)) ||
         (inPortPage off && off % 0x1000 == 0x500) || (TEL_CTRL ≤ off && off < TEL_WATCH 64)))

/-- Values out of range in the table, lookup and switch-core registers (Tables 6.4, 6.5, 7.11, 7.12). -/
def coreRange (off : Nat) (w : Word) : Bool :=
  if off == TBL_L2 then
    32768 ≤ wget w TBL_L2.AGE_LIMIT || wget w TBL_L2.AGE_UNIT < 10 || 60000 < wget w TBL_L2.AGE_UNIT
  else if off == TBL_RAW_CMD then
    let d := wget w TBL_RAW_CMD.DIE
    let t := wget w TBL_RAW_CMD.TABLE
    t < 1 || 7 < t || tblPhysical t ≤ wget w TBL_RAW_CMD.INDEX ||
      !(d < 4 || (d == 15 && wget w TBL_RAW_CMD.OP == 2))
  else if inPortPage off then
    off % 0x1000 == 0x200 &&
      (wget w (PRT_L3.MTU 0) < 576 || 9194 < wget w (PRT_L3.MTU 0) || wget w (PRT_L3.DEF_VLAN 0) < 1 ||
        4094 < wget w (PRT_L3.DEF_VLAN 0))
  else if SWC_ADM 0 ≤ off && off < SWC_ADM 16 then 9 < wget w (SWC_ADM.ALPHA 0)
  else SWC_ECN 0 ≤ off && off < SWC_ECN 16 && wget w (SWC_ECN.KMAX 0) < wget w (SWC_ECN.KMIN 0)

/-- Table command registers while their engine is busy (R185, R186). -/
def coreState (s : State) (off : Nat) : Bool :=
  if TBL_CMD_W 0 ≤ off && off ≤ TBL_CMD_GO then fbit s TBL_CMD_STAT.BUSY
  else off == TBL_RAW_CMD && fbit s TBL_RAW_CMD.BUSY

/-- A field out of range, or a rule that relates fields broken. -/
def rangeBad (s : State) (off : Nat) (w : Word) : Bool :=
  coreRange off w || portRange off w || tmRange s off w || bypRange off w || picRange s off w || bobRange off w ||
    memRange s off w || tbRange s off w || fltRange s off w || bcRange off w || weaveRange off w || ctxRange s off w ||
    startRange s off w || evtRange s off w || hostRange off w

/-- A busy, pending or state condition of the write's own rule. -/
def stateBad (s : State) (p off : Nat) (w : Word) : Bool :=
  coreState s off || portStateBad s off w || tmState s off w || bypState s off w || picState s off w || bobState s off w ||
    tbState s off w || fltState s off w || ctxStateBad s off w || startState s off w || hostState s p off w

/-- May RWL fields be written (R6)? -/
def rwlOpen (s : State) : Bool := s.mode == mBOOT || s.mode == mBASIC || s.mode == mMAINT

/-- The register at an offset; none in the page of a lane that a wider port absorbs (R4, R86). -/
def regAt (s : State) (off : Nat) : Option RegDesc :=
  if inPortPage off && !isPort s (pageOf off) then none else findReg off

/-- REASON of a write (Table 21.7): the lowest that applies, 0 for an accepted one. -/
def writeReason (s : State) (p off : Nat) (w : Word) : Nat :=
  match regAt s off with
  | none => 7
  | some d =>
    if w &&& ~~~(BitVec.ofNat 64 d.named) != 0 then 1
    else if rangeBad s off w then 2
    else if (d.rwl != 0 && !rwlOpen s) || stateBad s p off w then 3
    else if pathBad p off w then 4
    else if lockedBad s p off w then 5
    else if regDieDown s off then 6
    else 0

/-- A rejected write: counted, and logged where no earlier one is (R493). -/
def logReject (s : State) (p off reason : Nat) (w : Word) : State :=
  let s := bump s CTL_WERR_CNT
  if fbit s CTL_WERR.VALID then fset s CTL_WERR.MORE 1
  else
    setReg (setReg s CTL_WERR (BitVec.ofNat 64 (2 ^ 63 + p * 2 ^ 52 + reason * 2 ^ 48 + off / 8 * 8))) CTL_WERR_DATA w

/-! Effects. -/

/-- RW and RWL fields set, W1C bits cleared; WO fields keep nothing (R6). -/
def storeFields (d : RegDesc) (old w : Word) : Word :=
  let m := BitVec.ofNat 64 (d.rw ||| d.rwl)
  ((old &&& ~~~m) ||| (w &&& m)) &&& ~~~(BitVec.ofNat 64 d.w1c &&& w)

/-- What a write of a table or optics register, of `CTL_WERR` or of a lock sets off. -/
def coreEffect (old s : State) (off : Nat) (w : Word) : State :=
  if off == TBL_CMD_GO then (if wbit w TBL_CMD_GO.GO then tblGo s else s)
  else if off == TBL_RAW_CMD then
    if wget w TBL_RAW_CMD.OP == 0 then s
    else setTbl (fset s TBL_RAW_CMD.BUSY 1) fun t => { t with order := t.order ++ [.raw w] }
  else if 0x1400000 ≤ off && off < 0x1400400 then
    let F := (off - 0x1400000) / 8
    forceCloseEffect s F (fbit old (OPT_FIBRE.FORCE_CLOSE F))
  else if off == TBL_L2 then
    (if fget s TBL_L2.AGE_UNIT != fget old TBL_L2.AGE_UNIT then setTbl s fun t => { t with tickAt := s.now } else s)
  else if off == CTL_WERR then (if wbit w CTL_WERR.VALID then fset s CTL_WERR.MORE 0 else s)
  else if inLock off then (if wbit w (CTL_LOCK.RELEASE 0) then fset s (CTL_LOCK.HOLDER (lockNo off)) 0xF else s)
  else s

/-- Everything an accepted write sets off; `old` is the state before it, `entries` the TABLE entries a TAIL write makes
available. -/
def regEffect (old s : State) (p off : Nat) (w : Word) (entries : Option (List Byte)) : State :=
  if off < 0x200000 then startEffect (hostEffect old (coreEffect old s off w) off w entries) off w
  else if off < 0x300000 then evtEffect old s p off w
  else if off < 0x400000 then tbEffect s off w
  else if off < 0x800000 then weaveEffect s off w
  else if off < 0x1000000 then coreEffect old s off w
  else if inPortPage off then portEffect (tmEffect s off w) off w
  else if off < 0x1C00000 then coreEffect old s off w
  else if off < 0x2000000 then tmEffect s off w
  else if off < 0x2400000 then bypEffect s off w
  else if off < 0x2800000 then picEffect s off w
  else if off < 0x2C00000 then bobEffect s off w
  else if off < 0x3000000 then memEffect s off w
  else if off < 0x3400000 then ctxEffect s off w
  else if off < 0x3800000 then startEffect (evtEffect old (ctxEffect s off w) p off w) off w
  else bcEffect (fltEffect s off w) off w

/-- A write that is accepted. -/
def acceptWrite (s : State) (p off : Nat) (w : Word) (entries : Option (List Byte)) : State :=
  match regAt s off with
  | none => s
  | some d => testSweep (regEffect s (setReg s off (storeFields d (getReg s off) w)) p off w entries)

/-- A write of a register on a live path: rejected and logged, or accepted. -/
def putReg (s : State) (p off : Nat) (w : Word) (entries : Option (List Byte)) : State :=
  match writeReason s p off w with
  | 0 => acceptWrite s p off w entries
  | r => logReject s p off r w

/-- A write command: nothing happens on a path that cannot reach the registers, or at an offset that is not a multiple of 8,
which completes with Unsupported Request on path 0 (R418). -/
def writeReg (s : State) (p off : Nat) (w : Word) : State :=
  if !pathLive s p then s
  else if off % 8 != 0 then (if p == 0 then emit s (.unsupported off) else s)
  else putReg s p off w none

/-! Reads (R343, R429, R488, R489, R490). -/

/-- `CTL_TEST_STAT` of a test that runs: ESTIMATE is what is left of the time of Table 19.7, in milliseconds, and a free value
while the test waits, as the spec bounds no wait but by 60 s (log entry 273). -/
def testEstimate (s : State) : Word × State :=
  let put := fun v => putBits (getReg s CTL_TEST_STAT) CTL_TEST_STAT.ESTIMATE.lo CTL_TEST_STAT.ESTIMATE.wid v
  if fget s CTL_TEST_STAT.STATE == 1 then
    let (v, s) := draw s
    (put (v.toNat % 2 ^ CTL_TEST_STAT.ESTIMATE.wid), s)
  else (put (testLeft s), s)

/-- Registers of CTL that follow from NVS, the recorder, the identity or the mode. -/
def ctlView (s : State) (off : Nat) : Option Nat :=
  if off == CTL_ID then some (0x5631 * 2 ^ 32 + Config.siliconStep.toNat * 2 ^ 24)
  else if off == CTL_MODE_STAT then some (b2n (modeReady s) * 256 + fget s CTL_MODE_STAT.CODE)
  else if off == SEC_LIFE then some s.nvs.lifecycle
  else if off == SEC_SERIAL_LO then some Config.serialLo.toNat
  else if off == SEC_SERIAL_HI then some Config.serialHi.toNat
  else if off == SEC_FLOOR then some (s.nvs.prkFloor.toNat * 2 ^ 32 + s.nvs.fwFloor.toNat)
  else if off == EVR_NEXT then some (evrNext s)
  else if off == EVR_FIRST then some (evrFirst s)
  else if off == EVR_PERM then some s.nvs.perm.length
  else if off == EVR_CLRSEQ then some ((s.nvs.perm.head?.map (·.seq)).getD 0)
  else if off == BYP_SLOT then some ((curSlot s).getD 0)
  else if off == BYP_ORIGIN then
    (match s.byp.origin with
     | some o => some (o / 1000000000 % 2 ^ 32 * 2 ^ 32 + o % 1000000000)
     | none => some 0)
  else if IC_RUN 0 ≤ off && off < IC_RUN 5 then
    (match tget [] s.host.taken ((off - IC_RUN 0) / 8) with
     | [] => some 0
     | (n, tier) :: _ => some (tier * 2 ^ 9 + 2 ^ 8 + fget s (IC_SRC.PRIO n)))
  else none

/-- A register read without side effect on path p. Values the spec leaves open are free values: an unpick's progress and
estimate (Table 16.3), a waiting test's estimate (Table 19.8). -/
def peekReg (s : State) (p off : Nat) : Word × State :=
  match regAt s off with
  | none => (0, s)
  | some _ =>
    let key := pathKey s p
    let latch := tget {} s.time.latches key
    if off == TB_SEC || (IC_CLAIM 0 ≤ off && off < IC_CLAIM 5) || inLock off then (0, s)
    else if off == TB_NS then (BitVec.ofNat 64 (latch.frac * 2 ^ 32 + latch.ns), s)
    else if off == TB_SHORT then (BitVec.ofNat 64 latch.short, s)
    else if EVR_REC_W 0 ≤ off && off < EVR_REC_W 8 then ((tget [] s.evr.win key).getD ((off - EVR_REC_W 0) / 8) 0, s)
    else if inCtxPage off && off % 0x1000 == 0 && ctxState s (ctxOf off) == 3 then
      let s := unpickMove s (ctxOf off)
      (getReg s off, s)
    else if off == CTL_TEST_STAT && testActive s then testEstimate s
    else if regDieDown s off then (getReg s off, s)
    else
      match viewOf s off with
      | some v => (BitVec.ofNat 64 v, s)
      | none =>
        match ctlView s off with
        | some v => (BitVec.ofNat 64 v, s)
        | none => (getReg s off, s)

/-- A read of `TB_SEC` latches the whole timebase for its path. -/
def tbSecRead (s : State) (p : Nat) : Word × State :=
  let l : Latch := { ns := s.tbSub, frac := s.tb % 2 ^ 32 / 2 ^ 16, short := s.shortTs }
  (BitVec.ofNat 64 s.tbSec, setTime s fun t => { t with latches := tset {} t.latches (pathKey s p) l })

/-- A read of `CTL_LOCK_k` takes a free lock. -/
def lockRead (s : State) (p k : Nat) : Word × State :=
  let h := fget s (CTL_LOCK.HOLDER k)
  if h == 0xF then (BitVec.ofNat 64 (16 + p), fset s (CTL_LOCK.HOLDER k) p) else (BitVec.ofNat 64 h, s)

/-- A read of a register on path p, with its side effect (R488). -/
def readReg (s : State) (p off : Nat) : Word × State :=
  if off == TB_SEC then tbSecRead s p
  else if IC_CLAIM 0 ≤ off && off < IC_CLAIM 5 then
    let t := (off - IC_CLAIM 0) / 8
    if off % 8 == 0 && p == targetPath t then icClaim s t else (0, s)
  else if inLock off && off % 8 == 0 then lockRead s p (lockNo off)
  else peekReg s p off

/-- A read command: the value goes out. At an offset that is not a multiple of 8 it completes with Unsupported Request on path 0
(R418). -/
def readCmd (s : State) (p off : Nat) : State :=
  if !pathLive s p then s
  else if off % 8 != 0 && p == 0 then emit s (.unsupported off)
  else
    let (v, s) := readReg s p off
    emit s (.readData p off v)

/-! COUNTERS entries (R423). -/

/-- n registers read without side effect from an offset on. -/
def peekWords : Nat → Nat → State → List Byte × State
  | 0, _, s => ([], s)
  | n + 1, off, s =>
    let (v, s) := peekReg s 0 off
    let (r, s) := peekWords n (off + 8) s
    (le 8 v.toNat ++ r, s)

/-- COUNTERS_ENTRY: the entry at HEAD. -/
def countersEntry (s : State) (e : List Byte) : State :=
  if !dqReady s 3 then s
  else
    let i := dqHead s 3
    let o := fieldAt e 0 8
    let n := fieldAt e 8 4
    let bad := o % 8 != 0 || n < 1 || 65536 < n || fieldAt e 0x18 1 / 2 * 2 % 256 != fieldAt e 0x18 1 ||
      2 < fieldAt e 0x18 1 || !zeroBytes e 0x19 32 || 0x4000000 < o + 8 * n
    let irq := bit (fieldAt e 0x18 1) 1
    let s := dqTake s 3
    let t0 := s.shortTs
    if bad then dqPut s 3 i (le 4 1 ++ le 4 (fieldAt e 0xC 4) ++ le 4 t0 ++ le 4 t0) irq
    else
      let (bs, s) := peekWords n o s
      let s := emit s (.hostWrite (fieldAt e 0x10 8) bs)
      dqPut s 3 i (le 4 0 ++ le 4 (fieldAt e 0xC 4) ++ le 4 t0 ++ le 4 s.shortTs) irq

/-- COUNTERS_ENTRY (R423). -/
def execCountersEntry (entry : BitVec 256) (s : State) : Host.Outcome State Fault Refusal :=
  liveClocked s fun s => countersEntry s (le 32 entry.toNat)

end Sys2Proof.Machine
end

