-- ==== Sys2Proof/Machine/Mgmt.lean ====
section
/-! DEFINITION. The management port: connections and sessions (R403, R404, R432, R499), its messages (R433), and its services
(R405 to R408, R413, R434, R435, R439, R461, R496, R498). -/

namespace Sys2Proof.Machine

/-! Sessions (R404, R490, R499). -/

/-- The open session with a number. -/
def sessionOf (s : State) (sid : Nat) : Option Session := s.sec.sessions.find? (·.sid == sid)

/-- A session's notifications that wait are discarded. -/
def dropNotes (s : State) (sid : Nat) : State := setEvr s fun e => { e with notes := e.notes.filter (·.1 != sid) }

/-- A session ends: its locks, its record window, its latch and its waiting notifications go with it, and the later sessions move up
one path. -/
def sessionEnd (s : State) (sid : Nat) : State :=
  if (sessionOf s sid).isNone then s
  else
    let p := sessionPath s sid
    let s := forRange 16 (freeLocks (dropNotes s sid) p) fun s k =>
      let h := fget s (CTL_LOCK.HOLDER k)
      if p < h && h != 0xF then fset s (CTL_LOCK.HOLDER k) (h - 1) else s
    let s := setSec s fun c => { c with sessions := c.sessions.filter (·.sid != sid) }
    setTime (setEvr s fun e => { e with win := tdel e.win (16 + sid) }) fun t => { t with latches := tdel t.latches (16 + sid) }

/-- Lifecycle states in which a client must be authenticated (R403). -/
def lifeOwned (s : State) : Bool := s.nvs.lifecycle == 1

/-- Is the CA code of a certificate that of an enrolled key: 0 the owner root key, 1 + i manager CA key i (R403)? -/
def caKnown (s : State) : Nat → Bool
  | 0 => s.nvs.rootKey.isSome
  | i + 1 => s.nvs.caKeys.any (·.1 == i)

/-- A handshake ends with an alert: recorded, counted, and after 32 failures within 60 s new connections are refused for 60 s
(R404). -/
def handshakeFail (s : State) (conn : Nat) (alert : Byte) : State :=
  let s := setSec (emit s (.alert conn)) fun c => { c with conns := c.conns.filter (·.conn != conn) }
  let s := bump (event s 0x0E 1 1 8 0xFFFF 0 [alert]) SEC_AUTH_FAIL
  let s := setSec s fun c => { c with fails := (c.fails.filter fun t => s.now < t + 60000000000) ++ [s.now] }
  if s.sec.lockUntil == 0 && 32 ≤ s.sec.fails.length then
    event (setSec s fun c => { c with lockUntil := s.now + 60000000000 }) 0x0E 2 2 8 0xFFFF 0 []
  else s

/-- A failure whose alert the spec does not name. -/
def handshakeFree (s : State) (conn : Nat) : State :=
  let (v, s) := draw s
  handshakeFail s conn (v.setWidth 8)

/-- A handshake completes: a session opens, unless eight are open (R404). -/
def sessionOpen (s : State) (conn ca : Nat) (digest : List Byte) : State :=
  let s := setSec s fun c => { c with conns := c.conns.filter (·.conn != conn) }
  if 8 ≤ s.sec.sessions.length then emit s .refuse
  else setSec s fun c => { c with sessions := c.sessions ++ [{ sid := conn, ca := ca, last := s.now, keyDigest := digest }] }

/-- MGMT_CONNECT: a handshake begins; refused during a lockout and while eight sessions are open. -/
def mgmtConnect (s : State) : State :=
  if s.sec.lockUntil != 0 || 8 ≤ s.sec.sessions.length then emit s .refuse
  else setSec s fun c => { c with conns := c.conns ++ [{ conn := c.nextConn, stamp := s.now }], nextConn := c.nextConn + 1 }

/-- HANDSHAKE_MESSAGE: the client's part of a handshake arrives. -/
def handshakeMessage (s : State) (conn : Nat) (m : HandshakeMsg) : State :=
  match s.sec.conns.find? (·.conn == conn) with
  | none => s
  | some c =>
    if s.elapsed c.stamp 5000000000 then handshakeFree s conn
    else
      match m with
      | .fails alert => handshakeFail s conn alert
      | .authenticated ca digest =>
        if !lifeOwned s then sessionOpen s conn 0 digest
        else if caKnown s ca then sessionOpen s conn ca digest
        else handshakeFree s conn
      | .anonymous => if lifeOwned s then handshakeFree s conn else sessionOpen s conn 0 []

/-- HANDSHAKE_TIMEOUT: 5 s have passed. -/
def handshakeTimeout (s : State) (conn : Nat) : State :=
  match s.sec.conns.find? (·.conn == conn) with
  | none => s
  | some c => if s.elapsed c.stamp 5000000000 then handshakeFree s conn else s

/-- LOCKOUT_END. -/
def lockoutEnd (s : State) : State :=
  if s.sec.lockUntil != 0 && s.sec.lockUntil ≤ s.now then setSec s fun c => { c with lockUntil := 0 } else s

/-- SESSION_IDLE_TIMEOUT: 300 s without activity. -/
def sessionIdle (s : State) (sid : Nat) : State :=
  match sessionOf s sid with
  | none => s
  | some k => if s.elapsed k.last 300000000000 then sessionEnd s sid else s

/-! The port's addresses (R432). -/

/-- A router advertises a network for stateless autoconfiguration: a global address is formed in it, or its lifetime changes; an
advertisement cannot cut a lifetime below two hours (RFC 4862, 5.5.3). -/
def advertRx (s : State) (net valid : Nat) : State :=
  let ends := if valid == 0xFFFFFFFF then 0 else s.now + valid * 1000000000
  let hold := s.now + 7200 * 1000000000
  let put := fun (t : Nat) => setSec s fun c => { c with globals := tput (tdel c.globals net) net t }
  if net / 2 ^ 54 == 0x3FA then s
  else
    match s.sec.globals.find? fun e => e.1 == net && (e.2 == 0 || decide (s.now < e.2)) with
    | none => if valid == 0 then s else put ends
    | some (_, old) =>
      if ends == 0 || hold < ends || (old != 0 && old < ends) then put ends
      else if old != 0 && old ≤ hold then s
      else put hold

/-- A session's TCP send window opens or closes. Notifications that wait are sent, or discarded where it was closed for more than
1 s (R435). -/
def windowChange (s : State) (sid : Nat) (closed : Bool) : State :=
  match sessionOf s sid with
  | none => s
  | some k =>
    let upd := fun (s : State) (f : Session → Session) =>
      setSec s fun c => { c with sessions := c.sessions.map fun j => if j.sid == sid then f j else j }
    if closed then (if k.closedAt == 0 then upd s fun j => { j with closedAt := s.now + 1 } else s)
    else
      let wait := s.evr.notes.filter (·.1 == sid)
      let s' := dropNotes (upd s fun j => { j with closedAt := 0 }) sid
      if k.closedAt + 1000000000 < s.now + 1 then s'
      else forEach wait s' fun s n => notify s { k with closedAt := 0 } n.2

/-- MGMT_PACKET_RX: neighbour discovery and echo are answered for the port's own addresses, an advertisement configures one, and
every other packet outside a session is dropped (R432). -/
def mgmtPacket (s : State) (kind : MgmtPacket) : State :=
  match kind with
  | .neighbour a => if (mgmtAddrs s).contains a then emit s (.packet 0 a) else s
  | .echo a => if (mgmtAddrs s).contains a then emit s (.packet 1 a) else s
  | .advert n v => advertRx s n.toNat v.toNat
  | .window sid c => windowChange s sid c
  | _ => s

/-! Messages (R433). -/

/-- What a service answers: STATUS and the body. -/
abbrev Reply := Nat × List Byte

/-- STATUS with a service's own code (R496). -/
def svc (status code : Nat) : Reply := (status + 256 * code, [])

def stOK : Reply := (0, [])
def stBadMessage : Reply := (1, [])
def stUnknown : Reply := (2, [])

/-- Does the manual define the SERVICE and OP (Table 17.10, Table 19.3)? -/
def opDefined (service op : Nat) : Bool :=
  match service with
  | 1 => op == 1 || op == 2
  | 2 => op == 1
  | 3 => op == 1
  | 4 => op == 1
  | 5 => op == 1
  | 6 => 1 ≤ op && op ≤ 4
  | 8 => 1 ≤ op && op ≤ 3
  | _ => false

/-- Does the present lifecycle state or recovery boot offer it (R403, R460, R461)? Of OWNER, ENROL alone is offered before the
module is owned. -/
def opOffered (s : State) (service op : Nat) : Bool :=
  (lifeOwned s || service == 3 || service == 5 || (service == 8 && op == 2)) &&
    (!inRecovery s || service == 5 || (service == 6 && op ≤ 2) || service == 8)

/-- A request on a session, with the header's reserved bytes: `f` is what its service does with it. A message that is too long or
has TAG 0 ends the session; one that no service takes is UNKNOWN before its layout is looked at (log entry 269). -/
def request (s : State) (sid service op : Nat) (tag resv : BitVec 32) (len : Nat) (f : State → Reply × State) : State :=
  if (sessionOf s sid).isNone then s
  else
    let s := setSec s fun c => { c with sessions := c.sessions.map fun k => if k.sid == sid then { k with last := s.now } else k }
    let answer := fun (s : State) (r : Reply) => emit s (.mgmt sid service op r.1 tag.toNat r.2)
    if tag == 0 || 1048640 < len then sessionEnd (answer s stBadMessage) sid
    else if !opDefined service op || !opOffered s service op then answer s stUnknown
    else if resv != 0 then answer s stBadMessage
    else
      let (r, s) := f s
      answer s r

/-- Does the session's service see the request? -/
def served (s : State) (sid service op : Nat) (tag resv : BitVec 32) (len : Nat) : Bool :=
  (sessionOf s sid).isSome && tag != 0 && len ≤ 1048640 && opOffered s service op && resv == 0

/-- MGMT_BODY_TIMEOUT (R433). -/
def bodyTimeout (s : State) (sid service op : Nat) (tag : BitVec 32) : State :=
  if (sessionOf s sid).isNone then s else sessionEnd (emit s (.mgmt sid service op 1 tag.toNat [])) sid

/-! REG (R434). -/

/-- Is an offset one that no BAR0 access names: not a multiple of 8, or past BAR0? -/
def offBad (off : Nat) : Bool := off % 8 != 0 || 0x4000000 ≤ off

/-- n registers read in ascending offset. -/
def regWords : Nat → Nat → Nat → State → List Byte × State
  | 0, _, _, s => ([], s)
  | n + 1, p, off, s =>
    let (v, s) := if offBad off then (0, s) else readReg s p off
    let (r, s) := regWords n p (off + 8) s
    (le 8 v.toNat ++ r, s)

/-- n words written in ascending offset until one is rejected; answers its index. -/
def regWrites : Nat → Nat → Nat → Nat → List Byte → State → Option Nat × State
  | 0, _, _, _, _, s => (none, s)
  | n + 1, i, p, off, bs, s =>
    let w := BitVec.ofNat 64 (fieldAt bs 0 8)
    if offBad off then (some i, s)
    else
      match writeReason s p off w with
      | 0 => regWrites n (i + 1) p (off + 8) (bs.drop 8) (acceptWrite s p off w none)
      | r => (some i, logReject s p off r w)

/-- REG READ. -/
def svcRegRead (s : State) (sid : Nat) (body : List Byte) : Reply × State :=
  let n := fieldAt body 8 4
  if body.length != 12 || n < 1 || 4096 < n then (stBadMessage, s)
  else
    let (bs, s) := regWords n (sessionPath s sid) (fieldAt body 0 8) s
    ((0, bs), s)

/-- REG WRITE. -/
def svcRegWrite (s : State) (sid : Nat) (body : List Byte) : Reply × State :=
  let n := fieldAt body 8 4
  if body.length != 16 + 8 * n || fieldAt body 12 4 != 0 || body.length < 16 then (stBadMessage, s)
  else
    match regWrites n 0 (sessionPath s sid) (fieldAt body 0 8) (body.drop 16) s with
    | (none, s) => (stOK, s)
    | (some i, s) => ((3, le 4 i), s)

/-! IMAGE (R434, R422). -/

/-- STATUS of an IMAGE code (Table 17.10a). -/
def imageStatus : Nat → Reply
  | 0 => svc 0 0
  | 1 => svc 3 1
  | 2 => svc 4 2
  | c => svc 6 c

/-- Does the body not match STAGE's layout: length, the zero bytes of the entry, ADDR, or data other than its LEN says? -/
def stageBad (body : List Byte) : Bool :=
  body.length < 64 || !zeroBytes body 2 4 || !zeroBytes body 0x1C 64 || fieldAt body 0x10 8 != 0 ||
    body.length != 64 + fieldAt body 0x18 4

/-- Does a STAGE come to writing its slot? -/
def stageWrites (s : State) (body : List Byte) : Bool :=
  !stageBad body && !imageBad (body.take 64) && !slotHeld s (fieldAt body 0 1) && s.mode != mDRAINING

/-- IMAGE STAGE. -/
def svcImageStage (s : State) (body : List Byte) (nvsErr : Bool) : Reply × State :=
  if stageBad body then (stBadMessage, s)
  else
    let (c, s) := imageStage s (body.take 64) (body.drop 64) false nvsErr
    (imageStatus c, s)

/-! OWNER (R405, R407, R498). -/

/-- Codes of R405 in its order. -/
def oOK : Nat := 0
def oBAD_FORMAT : Nat := 1
def oWRONG_MODULE : Nat := 2
def oBAD_SIGNATURE : Nat := 3
def oREPLAY : Nat := 4
def oSTATE : Nat := 5
def oFULL : Nat := 6
def oNOT_FOUND : Nat := 7
def oIN_USE : Nat := 8
def oBAD_CODE : Nat := 9

/-- Fields of the record (Table 16.4). -/
def ownCmd (b : List Byte) : Nat := fieldAt b 4 2
def ownSeq (b : List Byte) : Nat := fieldAt b 0x18 8
def ownArg (b : List Byte) : Nat := fieldAt b 0x20 8
def ownLen (b : List Byte) : Nat := fieldAt b 0x28 4
def ownKey (b : List Byte) : List Byte := (b.drop 0x30).take (ownLen b)

/-- Length of the signed record, and the length field of its signature block. -/
def ownEnd (b : List Byte) : Nat := 0x30 + ownLen b
def ownSigLen (b : List Byte) : Nat := fieldAt b (ownEnd b) 4

/-- Is the body no OWNER record with its signature block at all (R433)? -/
def recordBad (b : List Byte) : Bool :=
  b.length < 0x30 || fieldAt b 6 2 != 0 || fieldAt b 0x2C 4 != 0 ||
    ((ownLen b == 0 || ownLen b == 2592) &&
      (b.length < ownEnd b + 4 || (ownSigLen b == 4627 && b.length != ownEnd b + 4631)))

/-- Is MAGIC, LEN or ARG not what the command has (Tables 16.4 and 16.5)? -/
def ownerForm (b : List Byte) : Bool :=
  fieldAt b 0 4 != 0x4E574F48 || ownCmd b < 1 || 7 < ownCmd b ||
    (ownLen b != if ownCmd b == 1 || ownCmd b == 2 || ownCmd b == 4 then 2592 else 0) ||
    (ownCmd b == 2 && ownArg b == 0) || (ownCmd b == 6 && 1 < ownArg b / 2 ^ 32)

/-- Does the signature fail: the length field other than 4,627, or a signature not made with the owner root key, or for ENROL
with the key enrolled? -/
def ownerSigBad (s : State) (b : List Byte) : Bool :=
  ownSigLen b != 4627 ||
    (match if ownCmd b == 1 then some (ownKey b) else s.nvs.rootKey with
     | none => true
     | some k => !Config.mldsaVerify k (digestOf (b.take (ownEnd b))) (b.drop (ownEnd b + 4)))

/-- Code of each command's own conditions (Table 16.5). -/
def ownerOwn (s : State) (b : List Byte) : Nat :=
  let a := ownArg b
  match ownCmd b with
  | 1 =>
    if lifeOwned s || 5 ≤ s.sec.badCodes then oSTATE
    else if a != Config.enrolCode.toNat then oBAD_CODE else oOK
  | 2 => if !s.nvs.prkKeys.any (·.1 == a) && 8 ≤ s.nvs.prkKeys.length then oFULL else oOK
  | 3 =>
    if !s.nvs.prkKeys.any (·.1 == a) then oNOT_FOUND
    else if s.sys.active.any (·.signer.toNat == a) then oIN_USE else oOK
  | 4 => if !s.nvs.caKeys.any (·.1 == a) && 4 ≤ s.nvs.caKeys.length then oFULL else oOK
  | 5 => if !s.nvs.caKeys.any (·.1 == a) then oNOT_FOUND else oOK
  | 7 => if s.mode != mMAINT || !((List.range 1024).all fun x => ctxState s x == 0) then oSTATE else oOK
  | _ => oOK

/-- Code of an owner command: the first that applies in the order of R405. -/
def ownerCode (s : State) (b : List Byte) : Nat :=
  if ownerForm b then oBAD_FORMAT
  else if (b.drop 8).take 16 != serialBytes then oWRONG_MODULE
  else if ownerSigBad s b then oBAD_SIGNATURE
  else if ownCmd b != 1 && ownSeq b ≤ s.nvs.ownerSeq then oREPLAY
  else ownerOwn s b

/-- ENROL: the owner root key, and OWNED. -/
def doEnrol (s : State) (b : List Byte) : State := setNvs s fun n => { n with rootKey := some (ownKey b), lifecycle := 1 }

/-- ADD_PRK_KEY. -/
def doAddPrk (s : State) (b : List Byte) : State := setNvs s fun n => { n with prkKeys := tset [] n.prkKeys (ownArg b) (ownKey b) }

/-- REMOVE_PRK_KEY. -/
def doRemovePrk (s : State) (b : List Byte) : State := setNvs s fun n => { n with prkKeys := tdel n.prkKeys (ownArg b) }

/-- ADD_MGR_CA. -/
def doAddCa (s : State) (b : List Byte) : State := setNvs s fun n => { n with caKeys := tset [] n.caKeys (ownArg b) (ownKey b) }

/-- REMOVE_MGR_CA; the sessions it authenticated close once the command is answered. -/
def doRemoveCa (s : State) (b : List Byte) : State := setNvs s fun n => { n with caKeys := tdel n.caKeys (ownArg b) }

/-- RAISE_FLOOR: never lowered. -/
def doRaiseFloor (s : State) (b : List Byte) : State :=
  let f := BitVec.ofNat 32 (ownArg b)
  let up := fun (old : BitVec 32) => if old.toNat < f.toNat then f else old
  if ownArg b / 2 ^ 32 == 0 then setNvs s fun n => { n with fwFloor := up n.fwFloor }
  else setNvs s fun n => { n with prkFloor := up n.prkFloor }

/-- DECOMMISSION (R407). -/
def doDecommission (s : State) : State :=
  let s := setNvs s fun n => { n with rootKey := none, prkKeys := [], caKeys := [], slots := [], lifecycle := 2 }
  let s := forRange 18 s stagedSlot
  testSweep (setMode (basicEntry s) mBASIC)

/-- Effect of an accepted owner command; SEQ is stored. -/
def ownerApply (s : State) (b : List Byte) : State :=
  let s := setNvs s fun n => { n with ownerSeq := ownSeq b }
  match ownCmd b with
  | 1 => doEnrol s b
  | 2 => doAddPrk s b
  | 3 => doRemovePrk s b
  | 4 => doAddCa s b
  | 5 => doRemoveCa s b
  | 6 => doRaiseFloor s b
  | _ => doDecommission s

/-- OWNER COMMAND: its record and code are recorded whatever they are (R405). -/
def svcOwner (s : State) (b : List Byte) : Reply × State :=
  if recordBad b then (stBadMessage, s)
  else if !lifeOwned s && ownCmd b != 1 then (stUnknown, s)
  else
    let c := ownerCode s b
    let s := event s 0x0E 3 (if c == oOK then 0 else 2) 8 0xFFFF 0 (le 2 (ownCmd b) ++ le 1 c)
    if c == oOK then (svc 0 0, ownerApply s b)
    else (svc 3 c, if c == oBAD_CODE then setSec s fun t => { t with badCodes := t.badCodes + 1 } else s)

/-- The row of an OWNER record: its CMD; a record whose CMD is another row's is that row's command. -/
def ownerRow (cmd : Nat) (b : List Byte) : Bool := ownCmd b == cmd || ownCmd b < 1 || 7 < ownCmd b || b.length < 6

/-- An owner command as a request; the sessions that a removed CA key authenticated close once the command is answered
(Table 16.5). -/
def ownerServe (s : State) (sid : Nat) (tag resv : BitVec 32) (b : List Byte) : State :=
  let t := request s sid 3 1 tag resv b.length fun s => svcOwner s b
  if ownCmd b == 5 && caKnown s (ownArg b + 1) && !caKnown t (ownArg b + 1) then
    forEach (t.sec.sessions.filter fun k => k.ca == ownArg b + 1) t fun s k => sessionEnd s k.sid
  else t

/-! KEY (R408, R409). -/

/-- The job-key registers after a change: bit of the map, and the count. -/
def keyMark (s : State) (x k : Nat) (on : Bool) : State :=
  let w := k / 64
  let m := getReg s (CTX_KEYMAP x w)
  let one : Word := 1#64 <<< (k % 64)
  fset (setReg s (CTX_KEYMAP x w) (if on then m ||| one else m &&& ~~~one)) SEC_KEYS.COUNT s.sec.keys.length

/-- The key that a record wraps, none where decapsulation or the tag fails. -/
def keyUnwrap (s : State) (b : List Byte) : Option (BitVec 256) :=
  match Config.kemDecap s.nvs.powerCount ((b.drop 8).take 1568) with
  | none => none
  | some secret =>
    let wrap := BitVec.ofNat 256 (unle ((digestOf (secret ++ serialBytes ++ b.take 8)).take 32))
    (gcmOpen wrap 0 (b.take 8) ((b.drop 0x628).take 48)).map fun k => BitVec.ofNat 256 (unle k)

/-- A key record: its code, in the order of R408, and its effect on all dies at once. -/
def keyApply (s : State) (b : List Byte) : Nat × State :=
  let x := fieldAt b 0 2
  let k := fieldAt b 2 1
  if !ctxUsable s x then (1, s)
  else if k == 0 then (2, s)
  else if fieldAt b 3 1 == 2 then
    (0, keyMark (setSec s fun c => { c with keys := tdel c.keys (256 * x + k) }) x k false)
  else
    match keyUnwrap s b with
    | none => (3, s)
    | some key =>
      if 16384 ≤ s.sec.keys.length then (4, s)
      else (0, keyMark (setSec s fun c => { c with keys := tput (tdel c.keys (256 * x + k)) (256 * x + k) { key := key } }) x k true)

/-- KEY INSTALL. -/
def svcKey (s : State) (b : List Byte) : Reply × State :=
  if b.length != 1624 || fieldAt b 4 4 != 0 || fieldAt b 3 1 < 1 || 2 < fieldAt b 3 1 then (stBadMessage, s)
  else
    let x := fieldAt b 0 2
    let (c, s) := keyApply s b
    let s := event s 0x0E 4 (if c == 0 then 0 else 1) 8 x x (le 1 (fieldAt b 2 1) ++ le 1 (fieldAt b 3 1) ++ le 1 c)
    (svc (if c == 0 then 0 else 3) c, s)

/-- The row of a key record: its OP; a record whose OP is the other row's is that row's command. -/
def keyRow (op : Nat) (b : List Byte) : Bool := fieldAt b 3 1 != 3 - op

/-! ATTEST (R413). -/

/-- Digest of the running firmware image; in recovery boot none runs, and what the report then holds is open. -/
def fwDigest (s : State) : List Byte × State :=
  if inRecovery s then drawBytes 8 s else (digestOf (fwImage s (fget s CTL_BOOT.IMAGE)), s)

/-- 64 bytes: the digest of a key or header, zeros where there is none. -/
def digestOr (d : Option (List Byte)) : List Byte := fit 64 (d.getD [])

/-- The report's body (Table 16.7), over the firmware digest. -/
def attestBody (s : State) (fw challenge : List Byte) : List Byte :=
  le 4 0x54544148 ++ le 2 1 ++ le 1 s.nvs.lifecycle ++ le 1 s.mode ++ serialBytes ++ le 4 (fget s CTL_FW.FW_VERSION) ++
    le 4 s.nvs.fwFloor.toNat ++ fw ++ digestOr (s.nvs.rootKey.map digestOf) ++ le 8 (getReg s PRK_ACTIVE).toNat ++
    le 8 (getReg s PRK_GEN).toNat ++ le 4 s.nvs.prkFloor.toNat ++ le 4 (getReg s CTL_STRAP).toNat ++ le 8 s.timeWord.toNat ++
    digestOr (s.sys.active.map (·.headDigest)) ++ digestOf (s.nvs.prkKeys.flatMap (·.2)) ++ challenge ++
    fit 1568 (Config.kemKey s.nvs.powerCount)

/-- ATTEST REPORT: the report, its signature block and the certificate chain. -/
def svcAttest (s : State) (body : List Byte) : Reply × State :=
  if body.length != 64 then (stBadMessage, s)
  else
    let (fw, s) := fwDigest s
    let r := attestBody s fw body
    ((0, r ++ le 4 4627 ++ fit 4627 (Config.attestSign (digestOf r)) ++ Config.certChain), s)

/-! EVENTS (R434, R435, R439). -/

/-- EVENTS READ. -/
def svcEventsRead (s : State) (body : List Byte) : Reply × State :=
  let f := fieldAt body 0 8
  let n := fieldAt body 8 4
  if body.length != 12 || n < 1 || 16384 < n then (stBadMessage, s)
  else if f < evrFirst s then ((5, []), s)
  else ((0, ((s.evr.recs.reverse.filter fun r => decide (f ≤ r.seq)).take n).flatMap recBytes), s)

/-- EVENTS READ_PERM. -/
def svcEventsPerm (s : State) (body : List Byte) : Reply × State :=
  if body.length != 4 then (stBadMessage, s)
  else ((0, ((s.nvs.perm.drop (fieldAt body 0 2)).take (fieldAt body 2 2)).flatMap recBytes), s)

/-- EVENTS SUBSCRIBE. -/
def svcSubscribe (s : State) (sid : Nat) (body : List Byte) : Reply × State :=
  if body.length != 1 then (stBadMessage, s)
  else
    (stOK, setSec s fun c =>
      { c with sessions := c.sessions.map fun k => if k.sid == sid then { k with minSev := fieldAt body 0 1 } else k })

/-- STATUS that ends a clear at once, none for one that is accepted. -/
def clearStatus (s : State) (body : List Byte) : Option Nat :=
  if body.length != 8 then some 1
  else if s.evr.clearing.isSome then some 4
  else if some (fieldAt body 0 8) != s.nvs.perm.getLast?.map (·.seq) then some 5
  else none

/-- Does an EVENTS CLEAR begin one? -/
def clearBegins (s : State) (sid : Nat) (tag resv : BitVec 32) (body : List Byte) : Bool :=
  served s sid 6 3 tag resv body.length && (clearStatus s body).isNone

/-- EVENTS CLEAR: refused at once, or begun and answered when it is done. -/
def eventsClear (s : State) (sid : Nat) (tag resv : BitVec 32) (body : List Byte) : State :=
  if clearBegins s sid tag resv body then
    let digest := ((sessionOf s sid).map (·.keyDigest)).getD []
    let s := setSec s fun c => { c with sessions := c.sessions.map fun k => if k.sid == sid then { k with last := s.now } else k }
    setEvr s fun e => { e with clearing := some sid, clearTag := tag.toNat, clearDigest := digest }
  else request s sid 6 3 tag resv body.length fun s => (((clearStatus s body).getD 0, []), s)

/-! FIRMWARE (R461). -/

/-- STATUS of a FIRMWARE code (Table 17.10a). -/
def fwReply (c : Nat) : Reply := svc (if c == 0 then 0 else if c == 2 then 4 else if c == 3 then 6 else 3) c

/-- Is image i the running one? -/
def fwRunning (s : State) (i : Nat) : Bool := !inRecovery s && fget s CTL_BOOT.IMAGE == i

/-- Bytes written into a firmware image, which loses its VERIFIED mark. -/
def fwWrite (s : State) (i o : Nat) (first : Bool) (bs : List Byte) : State :=
  let s := setNvs s fun n =>
    let t : Tab Byte := if first then [] else tget [] n.fwBytes i
    let t := (bs.foldl (fun (a : Tab Byte × Nat) b => (tset 0 a.1 a.2 b, a.2 + 1)) (t, o)).1
    let len := max (if first then 0 else tget 0 n.fwLen i) (o + bs.length)
    { n with fwBytes := tset [] n.fwBytes i t, fwLen := tset 0 n.fwLen i len, fwVerified := tset false n.fwVerified i false }
  setNvs s fun n => { n with fwVer := tset 0 n.fwVer i (Config.fwVersion (fwImage s i)) }

/-- Does the body not match STAGE's layout? -/
def fwStageBad (body : List Byte) : Bool := body.length < 16 || !zeroBytes body 2 8

/-- Code of a FIRMWARE STAGE. -/
def fwStageCode (s : State) (body : List Byte) (nvsErr : Bool) : Nat :=
  let o := fieldAt body 8 8
  if 1 < fieldAt body 0 1 || 1 < fieldAt body 1 1 || o % 4096 != 0 || 0x8000000 < o + (body.length - 16) then 1
  else if fwRunning s (fieldAt body 0 1) || s.mode == mDRAINING then 2
  else if nvsErr then 3 else 0

/-- FIRMWARE STAGE. -/
def svcFwStage (s : State) (body : List Byte) (nvsErr : Bool) : Reply × State :=
  if fwStageBad body then (stBadMessage, s)
  else
    match fwStageCode s body nvsErr with
    | 0 => (fwReply 0, fwWrite s (fieldAt body 0 1) (fieldAt body 8 8) (fieldAt body 1 1 == 1) (body.drop 16))
    | c => (fwReply c, s)

/-- Status entry of image i (Table 19.3). -/
def fwEntry (s : State) (i : Nat) : List Byte :=
  le 4 (tget 0 s.nvs.fwVer i).toNat ++
    le 1 (b2n (tget false s.nvs.fwVerified i) + 2 * b2n (fwRunning s i) + 4 * b2n (s.nvs.fwNext == i)) ++ le 3 0 ++
    le 8 (tget 0 s.nvs.fwLen i) ++ (digestOf (fwImage s i)).take 16

/-- FIRMWARE STATUS. -/
def svcFwStatus (s : State) (body : List Byte) : Reply × State :=
  if body.length != 0 then (stBadMessage, s) else ((0, fwEntry s 0 ++ fwEntry s 1), s)

/-- Code of a FIRMWARE SELECT: the image is verified as at boot (R456). -/
def fwSelectCode (s : State) (i : Nat) : Nat :=
  if 1 < i then 1
  else if !(tget false s.nvs.fwVerified i || Config.fwCheck (fwImage s i)) then 4
  else if (tget 0 s.nvs.fwVer i).toNat < s.nvs.fwFloor.toNat then 5
  else 0

/-- FIRMWARE SELECT. -/
def svcFwSelect (s : State) (body : List Byte) : Reply × State :=
  let i := fieldAt body 0 1
  if body.length != 1 then (stBadMessage, s)
  else
    match fwSelectCode s i with
    | 0 => (fwReply 0, setNvs s fun n => { n with fwVerified := tset false n.fwVerified i true, fwNext := i })
    | c => (fwReply c, s)

/-! Requests in their order (R433). -/

/-- A request served: what its service does with it now. -/
def requestServe (sid : Nat) (r : Request) (s : State) : State :=
  let b := r.body
  let ask := request s sid r.service r.op r.tag r.resv b.length
  if r.late then bodyTimeout s sid r.service r.op r.tag
  else
    match r.service, r.op with
    | 1, 1 => ask fun s => svcRegRead s sid b
    | 1, 2 => ask fun s => svcRegWrite s sid b
    | 2, 1 => ask fun s => svcImageStage s b r.nvsErr
    | 3, 1 => ownerServe s sid r.tag r.resv b
    | 4, 1 => ask fun s => svcKey s b
    | 5, 1 => ask fun s => svcAttest s b
    | 6, 1 => ask fun s => svcEventsRead s b
    | 6, 2 => ask fun s => svcEventsPerm s b
    | 6, 3 => eventsClear s sid r.tag r.resv b
    | 6, 4 => ask fun s => svcSubscribe s sid b
    | 8, 1 => ask fun s => svcFwStage s b r.nvsErr
    | 8, 2 => ask fun s => svcFwStatus s b
    | 8, 3 => ask fun s => svcFwSelect s b
    | _, _ => ask fun s => (stUnknown, s)

/-- Would serving a request write NVS? No write begins while the latch is open (R467), so it then waits. -/
def requestWrites (s : State) (sid : Nat) (r : Request) : Bool :=
  !r.late && served s sid r.service r.op r.tag r.resv r.body.length &&
    (match r.service, r.op with
     | 2, 1 => stageWrites s r.body
     | 3, 1 => !recordBad r.body && ownerCode s r.body == oOK
     | 6, 3 => (clearStatus s r.body).isNone
     | 8, 1 => !fwStageBad r.body && fwStageCode s r.body false == 0
     | 8, 3 => r.body.length == 1 && fwSelectCode s (fieldAt r.body 0 1) == 0
     | _, _ => false)

/-- Does a request wait now: for the session's own clear, or for the latch? -/
def requestWaits (s : State) (sid : Nat) (r : Request) : Bool :=
  s.evr.clearing == some sid || (s.sys.latchOpen && requestWrites s sid r)

/-- The requests that wait on a session. -/
def setHeld (s : State) (sid : Nat) (rs : List Request) : State :=
  setSec s fun c => { c with sessions := c.sessions.map fun k => if k.sid == sid then { k with held := rs } else k }

/-- A request arrives: it is served at once, or waits behind the earlier ones of its session (R433). -/
def mgmtArrive (sid : Nat) (r : Request) (s : State) : State :=
  match sessionOf s sid with
  | none => s
  | some k =>
    if k.held.isEmpty && !requestWaits s sid r then requestServe sid r s else setHeld s sid (k.held ++ [r])

/-- At most n waiting requests of a session served, in order, as far as none has to wait. -/
def drainSession : Nat → Nat → State → State
  | 0, _, s => s
  | n + 1, sid, s =>
    match sessionOf s sid with
    | none => s
    | some k =>
      match k.held with
      | [] => s
      | r :: rest =>
        if requestWaits s sid r then s else drainSession n sid (requestServe sid r (setHeld s sid rest))

/-- The waiting requests of every session, once a clear is done or the latch has closed. -/
def mgmtDrain (s : State) : State := forEach s.sec.sessions s fun s k => drainSession k.held.length k.sid s

/-- A management core fails: the sessions it serves end, and what they had in progress with them (Table 15.2). -/
def coreSessions (s : State) (mask : BitVec 8) : State :=
  let lost := (s.sec.sessions.zipIdx.filter fun e => mask.getLsbD e.2).map fun e => e.1.sid
  let s := setEvr s fun e => { e with clearing := e.clearing.filter fun sid => !lost.contains sid }
  forEach lost s sessionEnd

/-- WATCHDOG_EXPIRE, with the sessions of a management core. -/
def watchdogExpire (s : State) (chan : Nat) (t : WdTarget) (waited : Nat) (it : WdItem) : State :=
  let s' := watchdog s chan t waited it
  match t with
  | .core _ mask => if wdExpires s chan t waited then coreSessions s' mask else s'
  | _ => s'

/-! The commands. -/

/-- WATCHDOG_EXPIRE (R38). -/
def execWatchdogExpire (chan : BitVec 32) (target : WdExpiry) (s : State) : Host.Outcome State Fault Refusal :=
  live s fun s => testSweep (watchdogExpire s chan.toNat target.target target.waited target.item)
/-- LATCH_CLOSED (R105): the latch has been closed for 1 s; the lasers return to power as LASERS_POWERED says, and requests that
waited to write NVS go on (R467). -/
def execLatchClosed (s : State) : Host.Outcome State Fault Refusal :=
  let s := setSys s fun y => { y with latchOpen := false }
  .next (if s.sys.powered then mgmtDrain s else s)
/-- EVENTS_CLEAR_DONE (R439). -/
def execEventsClearDone (s : State) : Host.Outcome State Fault Refusal := live s fun s => mgmtDrain (eventsClearDone s)
/-- MGMT_CONNECT (R403, R404). -/
def execMgmtConnect (s : State) : Host.Outcome State Fault Refusal := liveClocked s mgmtConnect
/-- HANDSHAKE_MESSAGE (R404). -/
def execHandshakeMessage (conn : Nat) (msg : HandshakeMsg) (s : State) : Host.Outcome State Fault Refusal :=
  liveClocked s fun s => handshakeMessage s conn msg
/-- HANDSHAKE_TIMEOUT (R404). -/
def execHandshakeTimeout (conn : Nat) (s : State) : Host.Outcome State Fault Refusal := live s fun s => handshakeTimeout s conn
/-- LOCKOUT_END (R404). -/
def execLockoutEnd (s : State) : Host.Outcome State Fault Refusal := live s lockoutEnd
/-- SESSION_IDLE_TIMEOUT (R404). -/
def execSessionIdleTimeout (sid : Nat) (s : State) : Host.Outcome State Fault Refusal := live s fun s => sessionIdle s sid
/-- SESSION_CLOSE (R490, R499). -/
def execSessionClose (sid : Nat) (s : State) : Host.Outcome State Fault Refusal := live s fun s => sessionEnd s sid
/-- MGMT_PACKET_RX (R432). -/
def execMgmtPacketRx (kind : MgmtPacket) (s : State) : Host.Outcome State Fault Refusal :=
  liveClocked s fun s => mgmtPacket s kind
/-- MGMT_BODY_TIMEOUT (R433). -/
def execMgmtBodyTimeout (sid : Nat) (service op : BitVec 8) (tag : BitVec 32) (s : State) : Host.Outcome State Fault Refusal :=
  live s (mgmtArrive sid { service := service.toNat, op := op.toNat, tag := tag, late := true })
/-- MGMT_REQUEST_UNDEFINED (R433): a request that is defined and offered is another command's. -/
def execMgmtRequestUndefined (sid : Nat) (service op : BitVec 8) (tag : BitVec 32) (s : State) :
    Host.Outcome State Fault Refusal :=
  liveClocked s fun s =>
    if opDefined service.toNat op.toNat && opOffered s service.toNat op.toNat then s
    else mgmtArrive sid { service := service.toNat, op := op.toNat, tag := tag } s
/-- REG_READ (R434). -/
def execRegRead (sid : Nat) (tag : MsgTag) (body : List Byte) (s : State) : Host.Outcome State Fault Refusal :=
  liveClocked s (mgmtArrive sid { service := 1, op := 1, tag := tag.tag, resv := tag.resv, body := body })
/-- REG_WRITE (R434). -/
def execRegWrite (sid : Nat) (tag : MsgTag) (body : List Byte) (s : State) : Host.Outcome State Fault Refusal :=
  liveClocked s (mgmtArrive sid { service := 1, op := 2, tag := tag.tag, resv := tag.resv, body := body })
/-- IMAGE_STAGE (R434). -/
def execImageStage (sid : Nat) (tag : MsgTag) (body : List Byte) (nvsErr : Bool) (s : State) : Host.Outcome State Fault Refusal :=
  liveClocked s (mgmtArrive sid { service := 2, op := 1, tag := tag.tag, resv := tag.resv, body := body, nvsErr := nvsErr })
/-- ENROL (R405). -/
def execEnrol (sid : Nat) (tag : MsgTag) (body : List Byte) (s : State) : Host.Outcome State Fault Refusal :=
  liveClocked s fun s =>
    if ownerRow 1 body then mgmtArrive sid { service := 3, op := 1, tag := tag.tag, resv := tag.resv, body := body } s else s
/-- ADD_PRK_KEY (R405). -/
def execAddPrkKey (sid : Nat) (tag : MsgTag) (body : List Byte) (s : State) : Host.Outcome State Fault Refusal :=
  liveClocked s fun s =>
    if ownerRow 2 body then mgmtArrive sid { service := 3, op := 1, tag := tag.tag, resv := tag.resv, body := body } s else s
/-- REMOVE_PRK_KEY (R405). -/
def execRemovePrkKey (sid : Nat) (tag : MsgTag) (body : List Byte) (s : State) : Host.Outcome State Fault Refusal :=
  liveClocked s fun s =>
    if ownerRow 3 body then mgmtArrive sid { service := 3, op := 1, tag := tag.tag, resv := tag.resv, body := body } s else s
/-- ADD_MGR_CA (R405). -/
def execAddMgrCa (sid : Nat) (tag : MsgTag) (body : List Byte) (s : State) : Host.Outcome State Fault Refusal :=
  liveClocked s fun s =>
    if ownerRow 4 body then mgmtArrive sid { service := 3, op := 1, tag := tag.tag, resv := tag.resv, body := body } s else s
/-- REMOVE_MGR_CA (R405). -/
def execRemoveMgrCa (sid : Nat) (tag : MsgTag) (body : List Byte) (s : State) : Host.Outcome State Fault Refusal :=
  liveClocked s fun s =>
    if ownerRow 5 body then mgmtArrive sid { service := 3, op := 1, tag := tag.tag, resv := tag.resv, body := body } s else s
/-- RAISE_FLOOR (R405). -/
def execRaiseFloor (sid : Nat) (tag : MsgTag) (body : List Byte) (s : State) : Host.Outcome State Fault Refusal :=
  liveClocked s fun s =>
    if ownerRow 6 body then mgmtArrive sid { service := 3, op := 1, tag := tag.tag, resv := tag.resv, body := body } s else s
/-- DECOMMISSION (R407). -/
def execDecommission (sid : Nat) (tag : MsgTag) (body : List Byte) (s : State) : Host.Outcome State Fault Refusal :=
  liveClocked s fun s =>
    if ownerRow 7 body then mgmtArrive sid { service := 3, op := 1, tag := tag.tag, resv := tag.resv, body := body } s else s
/-- KEY_INSTALL (R408). -/
def execKeyInstall (sid : Nat) (tag : MsgTag) (body : List Byte) (s : State) : Host.Outcome State Fault Refusal :=
  liveClocked s fun s =>
    if keyRow 1 body then mgmtArrive sid { service := 4, op := 1, tag := tag.tag, resv := tag.resv, body := body } s else s
/-- KEY_REMOVE (R408). -/
def execKeyRemove (sid : Nat) (tag : MsgTag) (body : List Byte) (s : State) : Host.Outcome State Fault Refusal :=
  liveClocked s fun s =>
    if keyRow 2 body then mgmtArrive sid { service := 4, op := 1, tag := tag.tag, resv := tag.resv, body := body } s else s
/-- ATTEST_REPORT (R413). -/
def execAttestReport (sid : Nat) (tag : MsgTag) (body : List Byte) (s : State) : Host.Outcome State Fault Refusal :=
  liveClocked s (mgmtArrive sid { service := 5, op := 1, tag := tag.tag, resv := tag.resv, body := body })
/-- EVENTS_READ (R434). -/
def execEventsRead (sid : Nat) (tag : MsgTag) (body : List Byte) (s : State) : Host.Outcome State Fault Refusal :=
  liveClocked s (mgmtArrive sid { service := 6, op := 1, tag := tag.tag, resv := tag.resv, body := body })
/-- EVENTS_READ_PERM (R434). -/
def execEventsReadPerm (sid : Nat) (tag : MsgTag) (body : List Byte) (s : State) : Host.Outcome State Fault Refusal :=
  liveClocked s (mgmtArrive sid { service := 6, op := 2, tag := tag.tag, resv := tag.resv, body := body })
/-- EVENTS_CLEAR (R439). -/
def execEventsClear (sid : Nat) (tag : MsgTag) (body : List Byte) (s : State) : Host.Outcome State Fault Refusal :=
  liveClocked s (mgmtArrive sid { service := 6, op := 3, tag := tag.tag, resv := tag.resv, body := body })
/-- EVENTS_SUBSCRIBE (R435). -/
def execEventsSubscribe (sid : Nat) (tag : MsgTag) (body : List Byte) (s : State) : Host.Outcome State Fault Refusal :=
  liveClocked s (mgmtArrive sid { service := 6, op := 4, tag := tag.tag, resv := tag.resv, body := body })
/-- FW_STAGE (R461). -/
def execFwStage (sid : Nat) (tag : MsgTag) (body : List Byte) (nvsErr : Bool) (s : State) : Host.Outcome State Fault Refusal :=
  liveClocked s (mgmtArrive sid { service := 8, op := 1, tag := tag.tag, resv := tag.resv, body := body, nvsErr := nvsErr })
/-- FW_STATUS (R461). -/
def execFwStatus (sid : Nat) (tag : MsgTag) (body : List Byte) (s : State) : Host.Outcome State Fault Refusal :=
  liveClocked s (mgmtArrive sid { service := 8, op := 2, tag := tag.tag, resv := tag.resv, body := body })
/-- FW_SELECT (R461). -/
def execFwSelect (sid : Nat) (tag : MsgTag) (body : List Byte) (s : State) : Host.Outcome State Fault Refusal :=
  liveClocked s (mgmtArrive sid { service := 8, op := 3, tag := tag.tag, resv := tag.resv, body := body })

end Sys2Proof.Machine
end

