-- ==== Sys2Proof/Machine/PathCommands.lean ====
section
/-! DEFINITION. The commands that are one register access on a path: each gives the word it writes, or the register it reads. -/

namespace Sys2Proof.Machine

/-- A word of `PRK_CMD`. -/
def prkWord (op slot die : Nat) (timed preempt : Bool) : Nat :=
  op + die * 2 ^ 4 + slot * 2 ^ 8 + b2n preempt * 2 ^ 16 + b2n timed * 2 ^ 20

/-- A write of a number to a register on a path. -/
def writeNum (path : Fin 13) (off v : Nat) (s : State) : Host.Outcome State Fault Refusal :=
  live s fun s => writeReg s path.val off (BitVec.ofNat 64 v)

/-- A write of a word to a register on a path. -/
def writeWord (path : Fin 13) (off : Nat) (w : Word) (s : State) : Host.Outcome State Fault Refusal :=
  live s fun s => writeReg s path.val off w

/-- A read of a register on a path. -/
def readOff (path : Fin 13) (off : Nat) (s : State) : Host.Outcome State Fault Refusal :=
  live s fun s => readCmd s path.val off

/-- PACE_CLR_MIN (R33). -/
def execPaceClrMin (path : Fin 13) (s : State) : Host.Outcome State Fault Refusal :=
  writeNum path PMC_PACE_CLR 1 s
/-- VERIFY (R54). -/
def execVerify (path : Fin 13) (slot : BitVec 5) (s : State) : Host.Outcome State Fault Refusal :=
  writeNum path PRK_CMD (prkWord 1 slot.toNat 0 false false) s
/-- COMMIT_FULL (R59). -/
def execCommitFull (path : Fin 13) (slot : BitVec 5) (timed preempt : Bool) (s : State) : Host.Outcome State Fault Refusal :=
  writeNum path PRK_CMD (prkWord 2 slot.toNat 0 timed preempt) s
/-- COMMIT_MOTIF (R63). -/
def execCommitMotif (path : Fin 13) (slot : BitVec 5) (timed preempt : Bool) (s : State) : Host.Outcome State Fault Refusal :=
  writeNum path PRK_CMD (prkWord 2 slot.toNat 0 timed preempt) s
/-- PRK_CANCEL (R64). -/
def execPrkCancel (path : Fin 13) (slot : BitVec 5) (s : State) : Host.Outcome State Fault Refusal :=
  writeNum path PRK_CMD (prkWord 3 slot.toNat 0 false false) s
/-- REWEAVE_DIE (R62). -/
def execReweaveDie (path : Fin 13) (die : BitVec 4) (s : State) : Host.Outcome State Fault Refusal :=
  writeNum path PRK_CMD (prkWord 4 0 die.toNat false false) s
/-- REIDENT (R86). -/
def execReident (path : Fin 13) (port : Fin 1024) (s : State) : Host.Outcome State Fault Refusal :=
  writeNum path (PRT_CMD port.val) 2 s
/-- RETRAIN (R86). -/
def execRetrain (path : Fin 13) (port : Fin 1024) (s : State) : Host.Outcome State Fault Refusal :=
  writeNum path (PRT_CMD port.val) 1 s
/-- NBR_EXP_WRITE (R89). -/
def execNbrExpWrite (path : Fin 13) (port : Fin 1024) (value : Word) (s : State) : Host.Outcome State Fault Refusal :=
  writeWord path (PRT_NBR_EXP port.val) value s
/-- FORCE_CLOSE_WRITE (R106). -/
def execForceCloseWrite (path : Fin 13) (fibre : Fin 128) (value : Word) (s : State) : Host.Outcome State Fault Refusal :=
  writeWord path (OPT_FIBRE fibre.val) value s
/-- METER_WRITE (R198). -/
def execMeterWrite (path : Fin 13) (s : State) : Host.Outcome State Fault Refusal :=
  writeNum path TM_MTR_CMD 1 s
/-- METER_READ (R198). -/
def execMeterRead (path : Fin 13) (s : State) : Host.Outcome State Fault Refusal :=
  writeNum path TM_MTR_CMD 2 s
/-- TM_NODE_WRITE (R204). -/
def execTmNodeWrite (path : Fin 13) (s : State) : Host.Outcome State Fault Refusal :=
  writeNum path TM_NODE_CMD 1 s
/-- TM_NODE_READ (R204). -/
def execTmNodeRead (path : Fin 13) (s : State) : Host.Outcome State Fault Refusal :=
  writeNum path TM_NODE_CMD 2 s
/-- WSET_GO (R205). -/
def execWsetGo (path : Fin 13) (first last : Fin 1024) (s : State) : Host.Outcome State Fault Refusal :=
  writeNum path TM_WSET_CMD (2 ^ 63 + last.val * 2 ^ 16 + first.val) s
/-- GATE_COMMIT (R209). -/
def execGateCommit (path : Fin 13) (port : Fin 1024) (len : BitVec 7) (s : State) : Host.Outcome State Fault Refusal :=
  writeNum path (PRT_GATE_CMD port.val) (2 ^ 8 + len.toNat) s
/-- GATE_CANCEL (R209). -/
def execGateCancel (path : Fin 13) (port : Fin 1024) (s : State) : Host.Outcome State Fault Refusal :=
  writeNum path (PRT_GATE_CMD port.val) (2 ^ 9) s
/-- BYP_MAP_WRITE (R230). -/
def execBypMapWrite (path : Fin 13) (s : State) : Host.Outcome State Fault Refusal :=
  writeNum path BYP_MAP_CMD 1 s
/-- BYP_READ_SHADOW (R237). -/
def execBypReadShadow (path : Fin 13) (s : State) : Host.Outcome State Fault Refusal :=
  writeNum path BYP_MAP_CMD 2 s
/-- BYP_READ_OPER (R237). -/
def execBypReadOper (path : Fin 13) (s : State) : Host.Outcome State Fault Refusal :=
  writeNum path BYP_MAP_CMD 4 s
/-- BYP_COPY (R230). -/
def execBypCopy (path : Fin 13) (s : State) : Host.Outcome State Fault Refusal :=
  writeNum path BYP_MAP_CMD 8 s
/-- BYP_COMMIT (R230). -/
def execBypCommit (path : Fin 13) (s : State) : Host.Outcome State Fault Refusal :=
  writeNum path BYP_MAP_CMD 16 s
/-- BYP_CANCEL (R230). -/
def execBypCancel (path : Fin 13) (s : State) : Host.Outcome State Fault Refusal :=
  writeNum path BYP_MAP_CMD 32 s
/-- GRP_READ (R239). -/
def execGrpRead (path : Fin 13) (s : State) : Host.Outcome State Fault Refusal :=
  writeNum path PIC_GRP_CMD 0 s
/-- GRP_WRITE (R239). -/
def execGrpWrite (path : Fin 13) (s : State) : Host.Outcome State Fault Refusal :=
  writeNum path PIC_GRP_CMD 1 s
/-- GRP_INVALIDATE (R239). -/
def execGrpInvalidate (path : Fin 13) (s : State) : Host.Outcome State Fault Refusal :=
  writeNum path PIC_GRP_CMD 2 s
/-- GRP_ABORT_ALL (R239). -/
def execGrpAbortAll (path : Fin 13) (s : State) : Host.Outcome State Fault Refusal :=
  writeNum path PIC_GRP_CMD 3 s
/-- ENGINE_UNFENCE (R250). -/
def execEngineUnfence (path : Fin 13) (engine : Fin 32) (s : State) : Host.Outcome State Fault Refusal :=
  writeNum path PIC_ENG_CMD (32 + engine.val) s
/-- LOGTRIM_WRITE (R261). -/
def execLogtrimWrite (path : Fin 13) (ctx : Fin 1024) (value : Word) (s : State) : Host.Outcome State Fault Refusal :=
  writeWord path (PIC_LOGTRIM ctx.val) value s
/-- REGION_START (R303). -/
def execRegionStart (path : Fin 13) (region : Fin 64) (s : State) : Host.Outcome State Fault Refusal :=
  writeNum path BOB_RGN_CMD (256 + region.val) s
/-- REGION_STOP (R304). -/
def execRegionStop (path : Fin 13) (region : Fin 64) (s : State) : Host.Outcome State Fault Refusal :=
  writeNum path BOB_RGN_CMD (512 + region.val) s
/-- MEM_MAP_SELECT (R341). -/
def execMemMapSelect (path : Fin 13) (value : Word) (s : State) : Host.Outcome State Fault Refusal :=
  writeWord path MEM_MAP_SEL value s
/-- TB_OFFSET_SAMPLE (R352). -/
def execTbOffsetSample (path : Fin 13) (value : Word) (s : State) : Host.Outcome State Fault Refusal :=
  writeWord path TB_OFFSET value s
/-- TB_SET (R356). -/
def execTbSet (path : Fin 13) (value : Word) (s : State) : Host.Outcome State Fault Refusal :=
  writeWord path TB_SET_NS value s
/-- CAP_POP (R351). -/
def execCapPop (path : Fin 13) (s : State) : Host.Outcome State Fault Refusal :=
  writeNum path TB_CAP_POP 1 s
/-- TRIGGER_ARM (R358). -/
def execTriggerArm (path : Fin 13) (k : Fin 64) (value : Word) (s : State) : Host.Outcome State Fault Refusal :=
  writeWord path (TB_TRIG_C k.val) value s
/-- PORT_FENCE_CMD (R366). -/
def execPortFenceCmd (path : Fin 13) (port : Fin 1024) (s : State) : Host.Outcome State Fault Refusal :=
  writeNum path FLT_PORT_CMD (port.val * 2 ^ 16 + 1) s
/-- PORT_UNFENCE_CMD (R367). -/
def execPortUnfenceCmd (path : Fin 13) (port : Fin 1024) (s : State) : Host.Outcome State Fault Refusal :=
  writeNum path FLT_PORT_CMD (port.val * 2 ^ 16 + 2) s
/-- CHIP_READ (R368). -/
def execChipRead (path : Fin 13) (s : State) : Host.Outcome State Fault Refusal :=
  writeNum path FLT_CHIP_CMD 1 s
/-- CHIP_SET (R368). -/
def execChipSet (path : Fin 13) (s : State) : Host.Outcome State Fault Refusal :=
  writeNum path FLT_CHIP_CMD 2 s
/-- CHIP_FENCE (R368). -/
def execChipFence (path : Fin 13) (s : State) : Host.Outcome State Fault Refusal :=
  writeNum path FLT_CHIP_CMD 3 s
/-- CHIP_UNFENCE (R371). -/
def execChipUnfence (path : Fin 13) (s : State) : Host.Outcome State Fault Refusal :=
  writeNum path FLT_CHIP_CMD 4 s
/-- BC_READ (R385). -/
def execBcRead (path : Fin 13) (s : State) : Host.Outcome State Fault Refusal :=
  writeNum path FLT_BC_CMD 1 s
/-- BC_WRITE (R385). -/
def execBcWrite (path : Fin 13) (s : State) : Host.Outcome State Fault Refusal :=
  writeNum path FLT_BC_CMD 2 s
/-- BC_START (R388). -/
def execBcStart (path : Fin 13) (s : State) : Host.Outcome State Fault Refusal :=
  writeNum path FLT_BC_CMD 3 s
/-- BC_RESUME (R390). -/
def execBcResume (path : Fin 13) (s : State) : Host.Outcome State Fault Refusal :=
  writeNum path FLT_BC_CMD 4 s
/-- BC_STOP (R385). -/
def execBcStop (path : Fin 13) (s : State) : Host.Outcome State Fault Refusal :=
  writeNum path FLT_BC_CMD 5 s
/-- CTX_ALLOCATE (R396). -/
def execCtxAllocate (path : Fin 13) (ctx : Fin 1024) (s : State) : Host.Outcome State Fault Refusal :=
  writeNum path (CTX_CMD ctx.val) 1 s
/-- CTX_ACTIVATE (R397). -/
def execCtxActivate (path : Fin 13) (ctx : Fin 1024) (s : State) : Host.Outcome State Fault Refusal :=
  writeNum path (CTX_CMD ctx.val) 2 s
/-- CTX_DEACTIVATE (R397). -/
def execCtxDeactivate (path : Fin 13) (ctx : Fin 1024) (s : State) : Host.Outcome State Fault Refusal :=
  writeNum path (CTX_CMD ctx.val) 3 s
/-- CTX_RELEASE (R400). -/
def execCtxRelease (path : Fin 13) (ctx : Fin 1024) (s : State) : Host.Outcome State Fault Refusal :=
  writeNum path (CTX_CMD ctx.val) 4 s
/-- CTX_RELEASE_REGION (R399). -/
def execCtxReleaseRegion (path : Fin 13) (ctx : Fin 1024) (region : Fin 64) (s : State) : Host.Outcome State Fault Refusal :=
  writeNum path (CTX_CMD ctx.val) (region.val * 256 + 5) s
/-- IC_DOORBELL (R425). -/
def execIcDoorbell (path : Fin 13) (src : BitVec 12) (s : State) : Host.Outcome State Fault Refusal :=
  writeNum path IC_DOORBELL src.toNat s
/-- IC_EOI (R429). -/
def execIcEoi (path : Fin 13) (target : Fin 5) (src : BitVec 12) (s : State) : Host.Outcome State Fault Refusal :=
  writeNum path (IC_EOI target.val) src.toNat s
/-- EVR_SELECT (R438). -/
def execEvrSelect (path : Fin 13) (seq : Word) (s : State) : Host.Outcome State Fault Refusal :=
  writeWord path EVR_SEL seq s
/-- EVR_PSELECT (R438). -/
def execEvrPselect (path : Fin 13) (idx : Word) (s : State) : Host.Outcome State Fault Refusal :=
  writeWord path EVR_PSEL idx s
/-- ENTER_MAINT (R463). -/
def execEnterMaint (path : Fin 13) (s : State) : Host.Outcome State Fault Refusal :=
  writeNum path CTL_MODE_CMD 1 s
/-- EXIT_MAINT (R463). -/
def execExitMaint (path : Fin 13) (s : State) : Host.Outcome State Fault Refusal :=
  writeNum path CTL_MODE_CMD 2 s
/-- MODULE_DRAIN (R465). -/
def execModuleDrain (path : Fin 13) (s : State) : Host.Outcome State Fault Refusal :=
  writeNum path CTL_MODE_CMD 3 s
/-- UNDRAIN (R463). -/
def execUndrain (path : Fin 13) (s : State) : Host.Outcome State Fault Refusal :=
  writeNum path CTL_MODE_CMD 4 s
/-- TEST_START (R469). -/
def execTestStart (path : Fin 13) (kind : BitVec 4) (unit : BitVec 10) (s : State) : Host.Outcome State Fault Refusal :=
  writeNum path CTL_TEST_CMD (unit.toNat * 2 ^ 16 + kind.toNat * 2 ^ 8 + 1) s
/-- TEST_ABORT (R470). -/
def execTestAbort (path : Fin 13) (s : State) : Host.Outcome State Fault Refusal :=
  writeNum path CTL_TEST_CMD 2 s
/-- LOCK_RELEASE (R490). -/
def execLockRelease (path : Fin 13) (k : Fin 16) (s : State) : Host.Outcome State Fault Refusal :=
  writeNum path (CTL_LOCK k.val) 32 s

/-- TB_SEC_READ (R343). -/
def execTbSecRead (path : Fin 13) (s : State) : Host.Outcome State Fault Refusal := readOff path TB_SEC s
/-- IC_CLAIM (R429). -/
def execIcClaim (path : Fin 13) (target : Fin 5) (s : State) : Host.Outcome State Fault Refusal :=
  readOff path (IC_CLAIM target.val) s
/-- LOCK_READ (R490). -/
def execLockRead (path : Fin 13) (k : Fin 16) (s : State) : Host.Outcome State Fault Refusal := readOff path (CTL_LOCK k.val) s
/-- DQ_ENABLE (R421). -/
def execDqEnable (q : Fin 4) (path : Fin 13) (value : Word) (s : State) : Host.Outcome State Fault Refusal :=
  writeWord path (CTL_DQ_CFG q.val) value s
/-- DQ_TAIL_WRITE (R420): `entries` is what the host's memory holds in the slots made available. -/
def execDqTailWrite (q : Fin 4) (path : Fin 13) (value : Word) (entries : List Byte) (s : State) :
    Host.Outcome State Fault Refusal :=
  live s fun s => if pathLive s path.val then putReg s path.val (CTL_DQ_TAIL q.val) value (some entries) else s
/-- IC_CONFIG_WRITE (R427, R430): a write of `IC_TIERS` or of an `IC_SRC_s`; at any other offset it is another command's. -/
def execIcConfigWrite (path : Fin 13) (off : BitVec 26) (value : Word) (s : State) : Host.Outcome State Fault Refusal :=
  if off.toNat == IC_TIERS || inSrc off.toNat then writeWord path off.toNat value s else .next s
/-- REGISTER_WRITE (R5). -/
def execRegisterWrite (path : Fin 13) (off : BitVec 26) (value : Word) (s : State) : Host.Outcome State Fault Refusal :=
  writeWord path off.toNat value s

end Sys2Proof.Machine
end

