-- ==== Sys2Proof/Machine/Dispatch.lean ====
section
/-! DEFINITION. One arm per command of the block: the command's effect on everything but the queue. -/

namespace Sys2Proof.Machine

/-- The effect of a command. -/
def exec (i : Instr) (s : State) : Host.Outcome State Fault Refusal :=
  match i with
  | .powerUp s0 s1 s2 xa xb => Sys2Proof.Machine.execPowerUp s0 s1 s2 xa xb s
  | .lasersPowered => Sys2Proof.Machine.execLasersPowered s
  | .enterBasic => Sys2Proof.Machine.execEnterBasic s
  | .strapCheck pins => Sys2Proof.Machine.execStrapCheck pins s
  | .powerOff => Sys2Proof.Machine.execPowerOff s
  | .latchOpen => Sys2Proof.Machine.execLatchOpen s
  | .latchClosed => Sys2Proof.Machine.execLatchClosed s
  | .paceWindow n rate tj => Sys2Proof.Machine.execPaceWindow n rate tj s
  | .paceClrMin path => Sys2Proof.Machine.execPaceClrMin path s
  | .watchdogExpire chan target => Sys2Proof.Machine.execWatchdogExpire chan target s
  | .lateAck chan => Sys2Proof.Machine.execLateAck chan s
  | .thermalSensor unit temp => Sys2Proof.Machine.execThermalSensor unit temp s
  | .verify path slot => Sys2Proof.Machine.execVerify path slot s
  | .verifyDone readErr => Sys2Proof.Machine.execVerifyDone readErr s
  | .commitFull path slot timed preempt => Sys2Proof.Machine.execCommitFull path slot timed preempt s
  | .fullWeaveDone how => Sys2Proof.Machine.execFullWeaveDone how s
  | .commitMotif path slot timed preempt => Sys2Proof.Machine.execCommitMotif path slot timed preempt s
  | .motifStart => Sys2Proof.Machine.execMotifStart s
  | .regionMotifDone how => Sys2Proof.Machine.execRegionMotifDone how s
  | .prkCancel path slot => Sys2Proof.Machine.execPrkCancel path slot s
  | .reweaveDie path die => Sys2Proof.Machine.execReweaveDie path die s
  | .reweaveDone => Sys2Proof.Machine.execReweaveDone s
  | .roleGenDeferred unit => Sys2Proof.Machine.execRoleGenDeferred unit s
  | .uncorrectableCodeword lane => Sys2Proof.Machine.execUncorrectableCodeword lane s
  | .losAssert lane pwr => Sys2Proof.Machine.execLosAssert lane pwr s
  | .losClear lane pwr => Sys2Proof.Machine.execLosClear lane pwr s
  | .lolAssert lane => Sys2Proof.Machine.execLolAssert lane s
  | .clockLock lane => Sys2Proof.Machine.execClockLock lane s
  | .alignmentLoss lane => Sys2Proof.Machine.execAlignmentLoss lane s
  | .alignLock lane => Sys2Proof.Machine.execAlignLock lane s
  | .sdWindow lane corrected received => Sys2Proof.Machine.execSdWindow lane corrected received s
  | .trainTimeout port => Sys2Proof.Machine.execTrainTimeout port s
  | .trainRetry port => Sys2Proof.Machine.execTrainRetry port s
  | .identTx port => Sys2Proof.Machine.execIdentTx port s
  | .identRx port rec hasA => Sys2Proof.Machine.execIdentRx port rec hasA s
  | .noIdentTimeout port => Sys2Proof.Machine.execNoIdentTimeout port s
  | .reident path port => Sys2Proof.Machine.execReident path port s
  | .retrain path port => Sys2Proof.Machine.execRetrain path port s
  | .nbrExpWrite path port value => Sys2Proof.Machine.execNbrExpWrite path port value s
  | .laserFade laser rel sudden => Sys2Proof.Machine.execLaserFade laser rel sudden s
  | .spareLocked bank => Sys2Proof.Machine.execSpareLocked bank s
  | .spareLockTimeout bank => Sys2Proof.Machine.execSpareLockTimeout bank s
  | .fibreSwap bank => Sys2Proof.Machine.execFibreSwap bank s
  | .fibreDark fibre => Sys2Proof.Machine.execFibreDark fibre s
  | .fibreProbe fibre => Sys2Proof.Machine.execFibreProbe fibre s
  | .probeEnd fibre => Sys2Proof.Machine.execProbeEnd fibre s
  | .fibreLight fibre => Sys2Proof.Machine.execFibreLight fibre s
  | .forceCloseWrite path fibre value => Sys2Proof.Machine.execForceCloseWrite path fibre value s
  | .idleRx port blk => Sys2Proof.Machine.execIdleRx port blk s
  | .controlBlockBad port blk => Sys2Proof.Machine.execControlBlockBad port blk s
  | .creditRx port blk => Sys2Proof.Machine.execCreditRx port blk s
  | .creditInitRx port blk => Sys2Proof.Machine.execCreditInitRx port blk s
  | .alignRx port blk => Sys2Proof.Machine.execAlignRx port blk s
  | .pauseSwapRx port blk => Sys2Proof.Machine.execPauseSwapRx port blk s
  | .pauseSwapEnd port => Sys2Proof.Machine.execPauseSwapEnd port s
  | .swapFillRx port blk => Sys2Proof.Machine.execSwapFillRx port blk s
  | .scrubRx port blk => Sys2Proof.Machine.execScrubRx port blk s
  | .frameRx port hdr payload bad full => Sys2Proof.Machine.execFrameRx port hdr payload bad full s
  | .ethFrameRx port frame bad full => Sys2Proof.Machine.execEthFrameRx port frame bad full s
  | .pfcRx port enable quanta => Sys2Proof.Machine.execPfcRx port enable quanta s
  | .pfcPauseExpire port prio => Sys2Proof.Machine.execPfcPauseExpire port prio s
  | .pfcXoffRepeat port chan => Sys2Proof.Machine.execPfcXoffRepeat port chan s
  | .creditTx port net => Sys2Proof.Machine.execCreditTx port net s
  | .creditInitTx port => Sys2Proof.Machine.execCreditInitTx port s
  | .creditTimeout port => Sys2Proof.Machine.execCreditTimeout port s
  | .alignTx lane => Sys2Proof.Machine.execAlignTx lane s
  | .scrubTx lane => Sys2Proof.Machine.execScrubTx lane s
  | .schedEpoch => Sys2Proof.Machine.execSchedEpoch s
  | .cellArrive src dst => Sys2Proof.Machine.execCellArrive src dst s
  | .reseqTimeout src dst => Sys2Proof.Machine.execReseqTimeout src dst s
  | .mcResidueTimeout die chan => Sys2Proof.Machine.execMcResidueTimeout die chan s
  | .suppressReport => Sys2Proof.Machine.execSuppressReport s
  | .frameTxStart port => Sys2Proof.Machine.execFrameTxStart port s
  | .frameTxEnd port => Sys2Proof.Machine.execFrameTxEnd port s
  | .search => Sys2Proof.Machine.execSearch s
  | .next => Sys2Proof.Machine.execNext s
  | .insert => Sys2Proof.Machine.execInsert s
  | .delete => Sys2Proof.Machine.execDelete s
  | .flushPort => Sys2Proof.Machine.execFlushPort s
  | .drain => Sys2Proof.Machine.execDrain s
  | .drainComplete => Sys2Proof.Machine.execDrainComplete s
  | .drainTimeout => Sys2Proof.Machine.execDrainTimeout s
  | .mark => Sys2Proof.Machine.execMark s
  | .rawRead => Sys2Proof.Machine.execRawRead s
  | .rawWrite => Sys2Proof.Machine.execRawWrite s
  | .rawCompare => Sys2Proof.Machine.execRawCompare s
  | .l2Learn => Sys2Proof.Machine.execL2Learn s
  | .agingTick => Sys2Proof.Machine.execAgingTick s
  | .ageRemove => Sys2Proof.Machine.execAgeRemove s
  | .bucketHandover group => Sys2Proof.Machine.execBucketHandover group s
  | .meterWrite path => Sys2Proof.Machine.execMeterWrite path s
  | .meterRead path => Sys2Proof.Machine.execMeterRead path s
  | .tmNodeWrite path => Sys2Proof.Machine.execTmNodeWrite path s
  | .tmNodeRead path => Sys2Proof.Machine.execTmNodeRead path s
  | .wsetGo path first last => Sys2Proof.Machine.execWsetGo path first last s
  | .wsetDone => Sys2Proof.Machine.execWsetDone s
  | .gateCommit path port len => Sys2Proof.Machine.execGateCommit path port len s
  | .gateCancel path port => Sys2Proof.Machine.execGateCancel path port s
  | .gateSwitch port => Sys2Proof.Machine.execGateSwitch port s
  | .gateEntryChange port => Sys2Proof.Machine.execGateEntryChange port s
  | .bypMapWrite path => Sys2Proof.Machine.execBypMapWrite path s
  | .bypReadShadow path => Sys2Proof.Machine.execBypReadShadow path s
  | .bypReadOper path => Sys2Proof.Machine.execBypReadOper path s
  | .bypCopy path => Sys2Proof.Machine.execBypCopy path s
  | .bypCommit path => Sys2Proof.Machine.execBypCommit path s
  | .bypCancel path => Sys2Proof.Machine.execBypCancel path s
  | .slotBoundary => Sys2Proof.Machine.execSlotBoundary s
  | .bypassMatch plane => Sys2Proof.Machine.execBypassMatch plane s
  | .rangingStart fibre => Sys2Proof.Machine.execRangingStart fibre s
  | .rangePingTx fibre => Sys2Proof.Machine.execRangePingTx fibre s
  | .rangeEchoRx fibre blk => Sys2Proof.Machine.execRangeEchoRx fibre blk s
  | .rangingDone fibre => Sys2Proof.Machine.execRangingDone fibre s
  | .rangeSetTx fibre => Sys2Proof.Machine.execRangeSetTx fibre s
  | .slotTickTx fibre => Sys2Proof.Machine.execSlotTickTx fibre s
  | .slotReqRx fibre blk => Sys2Proof.Machine.execSlotReqRx fibre blk s
  | .planeInputDark lane pwr => Sys2Proof.Machine.execPlaneInputDark lane pwr s
  | .planeInputLight lane pwr => Sys2Proof.Machine.execPlaneInputLight lane pwr s
  | .grpRead path => Sys2Proof.Machine.execGrpRead path s
  | .grpWrite path => Sys2Proof.Machine.execGrpWrite path s
  | .grpInvalidate path => Sys2Proof.Machine.execGrpInvalidate path s
  | .grpAbortAll path => Sys2Proof.Machine.execGrpAbortAll path s
  | .contribRx die residue => Sys2Proof.Machine.execContribRx die residue s
  | .resultAckRx die => Sys2Proof.Machine.execResultAckRx die s
  | .resendReqRx die => Sys2Proof.Machine.execResendReqRx die s
  | .collectiveSeal ctx group cseq => Sys2Proof.Machine.execCollectiveSeal ctx group cseq s
  | .collectiveTimeout ctx group cseq => Sys2Proof.Machine.execCollectiveTimeout ctx group cseq s
  | .ackTimeout ctx group cseq => Sys2Proof.Machine.execAckTimeout ctx group cseq s
  | .tombstoneExpire ctx group cseq => Sys2Proof.Machine.execTombstoneExpire ctx group cseq s
  | .mirrorTimeout group => Sys2Proof.Machine.execMirrorTimeout group s
  | .engineUnfence path engine => Sys2Proof.Machine.execEngineUnfence path engine s
  | .logtrimWrite path ctx value => Sys2Proof.Machine.execLogtrimWrite path ctx value s
  | .regionStart path region => Sys2Proof.Machine.execRegionStart path region s
  | .regionStop path region => Sys2Proof.Machine.execRegionStop path region s
  | .nop bob needle => Sys2Proof.Machine.execNop bob needle s
  | .halt bob needle => Sys2Proof.Machine.execHalt bob needle s
  | .err bob needle => Sys2Proof.Machine.execErr bob needle s
  | .jmp bob needle => Sys2Proof.Machine.execJmp bob needle s
  | .bnz bob needle => Sys2Proof.Machine.execBnz bob needle s
  | .blt bob needle => Sys2Proof.Machine.execBlt bob needle s
  | .tokw bob needle => Sys2Proof.Machine.execTokw bob needle s
  | .tsend bob needle => Sys2Proof.Machine.execTsend bob needle s
  | .tloc bob needle => Sys2Proof.Machine.execTloc bob needle s
  | .irel bob needle => Sys2Proof.Machine.execIrel bob needle s
  | .addi bob needle => Sys2Proof.Machine.execAddi bob needle s
  | .add bob needle => Sys2Proof.Machine.execAdd bob needle s
  | .sub bob needle => Sys2Proof.Machine.execSub bob needle s
  | .mul bob needle => Sys2Proof.Machine.execMul bob needle s
  | .and bob needle => Sys2Proof.Machine.execAnd bob needle s
  | .or bob needle => Sys2Proof.Machine.execOr bob needle s
  | .xor bob needle => Sys2Proof.Machine.execXor bob needle s
  | .shl bob needle => Sys2Proof.Machine.execShl bob needle s
  | .shr bob needle => Sys2Proof.Machine.execShr bob needle s
  | .li bob needle => Sys2Proof.Machine.execLi bob needle s
  | .lih bob needle => Sys2Proof.Machine.execLih bob needle s
  | .ld bob needle => Sys2Proof.Machine.execLd bob needle s
  | .st bob needle => Sys2Proof.Machine.execSt bob needle s
  | .rdtime bob needle => Sys2Proof.Machine.execRdtime bob needle s
  | .mma bob needle => Sys2Proof.Machine.execMma bob needle s
  | .vadd bob needle => Sys2Proof.Machine.execVadd bob needle s
  | .vsub bob needle => Sys2Proof.Machine.execVsub bob needle s
  | .vmul bob needle => Sys2Proof.Machine.execVmul bob needle s
  | .vfma bob needle => Sys2Proof.Machine.execVfma bob needle s
  | .vmax bob needle => Sys2Proof.Machine.execVmax bob needle s
  | .vmin bob needle => Sys2Proof.Machine.execVmin bob needle s
  | .vabs bob needle => Sys2Proof.Machine.execVabs bob needle s
  | .vdiv bob needle => Sys2Proof.Machine.execVdiv bob needle s
  | .vsqrt bob needle => Sys2Proof.Machine.execVsqrt bob needle s
  | .vrsqrt bob needle => Sys2Proof.Machine.execVrsqrt bob needle s
  | .vexp bob needle => Sys2Proof.Machine.execVexp bob needle s
  | .vlog bob needle => Sys2Proof.Machine.execVlog bob needle s
  | .vcvt bob needle => Sys2Proof.Machine.execVcvt bob needle s
  | .vsum bob needle => Sys2Proof.Machine.execVsum bob needle s
  | .vmaxi bob needle => Sys2Proof.Machine.execVmaxi bob needle s
  | .vselgt bob needle => Sys2Proof.Machine.execVselgt bob needle s
  | .copyStoreLocal bob needle => Sys2Proof.Machine.execCopyStoreLocal bob needle s
  | .copyToRoute bob needle => Sys2Proof.Machine.execCopyToRoute bob needle s
  | .copyMemToStore bob needle => Sys2Proof.Machine.execCopyMemToStore bob needle s
  | .copyStoreToMem bob needle => Sys2Proof.Machine.execCopyStoreToMem bob needle s
  | .copyGather bob needle => Sys2Proof.Machine.execCopyGather bob needle s
  | .copyScatter bob needle => Sys2Proof.Machine.execCopyScatter bob needle s
  | .send bob needle => Sys2Proof.Machine.execSend bob needle s
  | .fence bob needle => Sys2Proof.Machine.execFence bob needle s
  | .mmaComplete bob => Sys2Proof.Machine.execMmaComplete bob s
  | .vopComplete bob => Sys2Proof.Machine.execVopComplete bob s
  | .copyComplete bob => Sys2Proof.Machine.execCopyComplete bob s
  | .sendComplete bob => Sys2Proof.Machine.execSendComplete bob s
  | .tokenArrive bob => Sys2Proof.Machine.execTokenArrive bob s
  | .inletDelivery die => Sys2Proof.Machine.execInletDelivery die s
  | .handoffDelivery region => Sys2Proof.Machine.execHandoffDelivery region s
  | .oneSidedPut io => Sys2Proof.Machine.execOneSidedPut io s
  | .oneSidedGet io => Sys2Proof.Machine.execOneSidedGet io s
  | .getRespRx io => Sys2Proof.Machine.execGetRespRx io s
  | .patrolRead chan addr err => Sys2Proof.Machine.execPatrolRead chan addr err s
  | .memMapSelect path value => Sys2Proof.Machine.execMemMapSelect path value s
  | .tbSecRead path => Sys2Proof.Machine.execTbSecRead path s
  | .tbOffsetSample path value => Sys2Proof.Machine.execTbOffsetSample path value s
  | .tbSet path value => Sys2Proof.Machine.execTbSet path value s
  | .holdoverTimeout => Sys2Proof.Machine.execHoldoverTimeout s
  | .capPop path => Sys2Proof.Machine.execCapPop path s
  | .triggerArm path k value => Sys2Proof.Machine.execTriggerArm path k value s
  | .triggerFire k => Sys2Proof.Machine.execTriggerFire k s
  | .heartbeatMiss die => Sys2Proof.Machine.execHeartbeatMiss die s
  | .dieSelfCheck die => Sys2Proof.Machine.execDieSelfCheck die s
  | .dieResetDone die => Sys2Proof.Machine.execDieResetDone die s
  | .rejoinMemoryZeroed die => Sys2Proof.Machine.execRejoinMemoryZeroed die s
  | .ctlFault => Sys2Proof.Machine.execCtlFault s
  | .flitCrcFail bundle => Sys2Proof.Machine.execFlitCrcFail bundle s
  | .interposerLaneFail bundle wg lane => Sys2Proof.Machine.execInterposerLaneFail bundle wg lane s
  | .retuneEnd bundle => Sys2Proof.Machine.execRetuneEnd bundle s
  | .oeFault oe => Sys2Proof.Machine.execOeFault oe s
  | .refLoss xb => Sys2Proof.Machine.execRefLoss xb s
  | .internalOscStart => Sys2Proof.Machine.execInternalOscStart s
  | .bothRefDecision => Sys2Proof.Machine.execBothRefDecision s
  | .portFenceCmd path port => Sys2Proof.Machine.execPortFenceCmd path port s
  | .portUnfenceCmd path port => Sys2Proof.Machine.execPortUnfenceCmd path port s
  | .portAutoUnfence port => Sys2Proof.Machine.execPortAutoUnfence port s
  | .chipRead path => Sys2Proof.Machine.execChipRead path s
  | .chipSet path => Sys2Proof.Machine.execChipSet path s
  | .chipFence path => Sys2Proof.Machine.execChipFence path s
  | .chipUnfence path => Sys2Proof.Machine.execChipUnfence path s
  | .bcRead path => Sys2Proof.Machine.execBcRead path s
  | .bcWrite path => Sys2Proof.Machine.execBcWrite path s
  | .bcStart path => Sys2Proof.Machine.execBcStart path s
  | .bcResume path => Sys2Proof.Machine.execBcResume path s
  | .bcStop path => Sys2Proof.Machine.execBcStop path s
  | .bcastPieceTx session => Sys2Proof.Machine.execBcastPieceTx session s
  | .bcastDataRx io => Sys2Proof.Machine.execBcastDataRx io s
  | .bcastProgressRx io => Sys2Proof.Machine.execBcastProgressRx io s
  | .bcastRelayReport session => Sys2Proof.Machine.execBcastRelayReport session s
  | .bcastRelayTimeout session relay => Sys2Proof.Machine.execBcastRelayTimeout session relay s
  | .bcastResumeWaitEnd session => Sys2Proof.Machine.execBcastResumeWaitEnd session s
  | .ctxAllocate path ctx => Sys2Proof.Machine.execCtxAllocate path ctx s
  | .ctxActivate path ctx => Sys2Proof.Machine.execCtxActivate path ctx s
  | .ctxDeactivate path ctx => Sys2Proof.Machine.execCtxDeactivate path ctx s
  | .ctxRelease path ctx => Sys2Proof.Machine.execCtxRelease path ctx s
  | .ctxReleaseRegion path ctx region => Sys2Proof.Machine.execCtxReleaseRegion path ctx region s
  | .regionUnpickDone region => Sys2Proof.Machine.execRegionUnpickDone region s
  | .unpickDone ctx => Sys2Proof.Machine.execUnpickDone ctx s
  | .mgmtConnect => Sys2Proof.Machine.execMgmtConnect s
  | .handshakeTimeout conn => Sys2Proof.Machine.execHandshakeTimeout conn s
  | .lockoutEnd => Sys2Proof.Machine.execLockoutEnd s
  | .sessionIdleTimeout sid => Sys2Proof.Machine.execSessionIdleTimeout sid s
  | .sessionClose sid => Sys2Proof.Machine.execSessionClose sid s
  | .mgmtPacketRx kind => Sys2Proof.Machine.execMgmtPacketRx kind s
  | .mgmtBodyTimeout sid service op tag => Sys2Proof.Machine.execMgmtBodyTimeout sid service op tag s
  | .regRead sid tag body => Sys2Proof.Machine.execRegRead sid tag body s
  | .regWrite sid tag body => Sys2Proof.Machine.execRegWrite sid tag body s
  | .imageStage sid tag body nvsErr => Sys2Proof.Machine.execImageStage sid tag body nvsErr s
  | .enrol sid tag body => Sys2Proof.Machine.execEnrol sid tag body s
  | .addPrkKey sid tag body => Sys2Proof.Machine.execAddPrkKey sid tag body s
  | .removePrkKey sid tag body => Sys2Proof.Machine.execRemovePrkKey sid tag body s
  | .addMgrCa sid tag body => Sys2Proof.Machine.execAddMgrCa sid tag body s
  | .removeMgrCa sid tag body => Sys2Proof.Machine.execRemoveMgrCa sid tag body s
  | .raiseFloor sid tag body => Sys2Proof.Machine.execRaiseFloor sid tag body s
  | .decommission sid tag body => Sys2Proof.Machine.execDecommission sid tag body s
  | .keyInstall sid tag body => Sys2Proof.Machine.execKeyInstall sid tag body s
  | .keyRemove sid tag body => Sys2Proof.Machine.execKeyRemove sid tag body s
  | .attestReport sid tag body => Sys2Proof.Machine.execAttestReport sid tag body s
  | .eventsRead sid tag body => Sys2Proof.Machine.execEventsRead sid tag body s
  | .eventsReadPerm sid tag body => Sys2Proof.Machine.execEventsReadPerm sid tag body s
  | .eventsClear sid tag body => Sys2Proof.Machine.execEventsClear sid tag body s
  | .eventsClearDone => Sys2Proof.Machine.execEventsClearDone s
  | .eventsSubscribe sid tag body => Sys2Proof.Machine.execEventsSubscribe sid tag body s
  | .fwStage sid tag body nvsErr => Sys2Proof.Machine.execFwStage sid tag body nvsErr s
  | .fwStatus sid tag body => Sys2Proof.Machine.execFwStatus sid tag body s
  | .fwSelect sid tag body => Sys2Proof.Machine.execFwSelect sid tag body s
  | .pcieLinkLoss => Sys2Proof.Machine.execPcieLinkLoss s
  | .pcieLinkUp => Sys2Proof.Machine.execPcieLinkUp s
  | .bar0Unsupported addr len isWrite => Sys2Proof.Machine.execBar0Unsupported addr len isWrite s
  | .dqEnable q path value => Sys2Proof.Machine.execDqEnable q path value s
  | .dqTailWrite q path value entries => Sys2Proof.Machine.execDqTailWrite q path value entries s
  | .imageEntry entry data dmaErr nvsErr => Sys2Proof.Machine.execImageEntry entry data dmaErr nvsErr s
  | .countersEntry entry => Sys2Proof.Machine.execCountersEntry entry s
  | .dqEventWrite => Sys2Proof.Machine.execDqEventWrite s
  | .dqDmaTimeout q => Sys2Proof.Machine.execDqDmaTimeout q s
  | .icDoorbell path src => Sys2Proof.Machine.execIcDoorbell path src s
  | .icClaim path target => Sys2Proof.Machine.execIcClaim path target s
  | .icEoi path target src => Sys2Proof.Machine.execIcEoi path target src s
  | .icConfigWrite path off value => Sys2Proof.Machine.execIcConfigWrite path off value s
  | .permCopy => Sys2Proof.Machine.execPermCopy s
  | .rateWindowEnd key => Sys2Proof.Machine.execRateWindowEnd key s
  | .lostRecord => Sys2Proof.Machine.execLostRecord s
  | .evrSelect path seq => Sys2Proof.Machine.execEvrSelect path seq s
  | .evrPselect path idx => Sys2Proof.Machine.execEvrPselect path idx s
  | .samplerPeriod => Sys2Proof.Machine.execSamplerPeriod s
  | .watchPeriod => Sys2Proof.Machine.execWatchPeriod s
  | .datagramExpire => Sys2Proof.Machine.execDatagramExpire s
  | .ctxPublish ctx => Sys2Proof.Machine.execCtxPublish ctx s
  | .enterMaint path => Sys2Proof.Machine.execEnterMaint path s
  | .exitMaint path => Sys2Proof.Machine.execExitMaint path s
  | .moduleDrain path => Sys2Proof.Machine.execModuleDrain path s
  | .undrain path => Sys2Proof.Machine.execUndrain path s
  | .testStart path kind unit => Sys2Proof.Machine.execTestStart path kind unit s
  | .testAbort path => Sys2Proof.Machine.execTestAbort path s
  | .testEngineIdle => Sys2Proof.Machine.execTestEngineIdle s
  | .testWaitTimeout => Sys2Proof.Machine.execTestWaitTimeout s
  | .testDone pass detail res0 res1 => Sys2Proof.Machine.execTestDone pass detail res0 res1 s
  | .lockRead path k => Sys2Proof.Machine.execLockRead path k s
  | .lockRelease path k => Sys2Proof.Machine.execLockRelease path k s
  | .registerWrite path off value => Sys2Proof.Machine.execRegisterWrite path off value s
  | .referenceReturn xb => Sys2Proof.Machine.execReferenceReturn xb s
  | .lpddr6CaseOvertemp dev => Sys2Proof.Machine.execLpddr6CaseOvertemp dev s
  | .dieFaultAge die => Sys2Proof.Machine.execDieFaultAge die s
  | .handshakeMessage conn msg => Sys2Proof.Machine.execHandshakeMessage conn msg s
  | .mgmtRequestUndefined sid service op tag => Sys2Proof.Machine.execMgmtRequestUndefined sid service op tag s
  | .msixEnable => Sys2Proof.Machine.execMsixEnable s
  | .msixVectorUnmask vector => Sys2Proof.Machine.execMsixVectorUnmask vector s

end Sys2Proof.Machine
end

