-- ==== Sys2Proof/Machine/Idle.lean ====
section
/-! DEFINITION. What the block does while no command waits: time passes (R3, R353), and a waiting telemetry datagram may leave
(R451), while the management PHY is clocked (R379). -/

namespace Sys2Proof.Machine

/-- One idle step: a nanosecond of the servo's rate. -/
def idle (s : State) : State :=
  let s := tick s
  if s.sys.refPhase == 1 then s else telSend s

end Sys2Proof.Machine
end

