-- ==== Sys2Proof/Machine/Lamps.lean ====
section
/-! DEFINITION. The indicator window, as a function of the state (R462, Table 19.4). -/

namespace Sys2Proof.Machine

/-- What a lamp shows. -/
inductive Lamp where
  | dark
  | green
  | amber
  | blue
  | greenBlink (hz : Nat)
  | amberBlink (hz : Nat)
  | blueBlink (hz : Nat)
  | greenAmberFlash
deriving DecidableEq, Repr

/-- PWR. -/
def lampPwr (s : State) : Lamp := if s.sys.powered then .green else .dark

/-- STATE: the earlier row of Table 19.4 wins. -/
def lampState (s : State) : Lamp :=
  if !s.sys.powered then .dark
  else if s.mode == mFAULTED then .amberBlink 4
  else if inRecovery s then .amberBlink 1
  else if s.mode == mBOOT || s.mode == mDRAINING then .greenBlink 1
  else if s.mode == mWEAVING then .greenBlink 4
  else if s.mode == mBASIC then .amber
  else if s.mode == mMAINT then .greenAmberFlash
  else .green

/-- ATTN. -/
def lampAttn (s : State) : Lamp :=
  let bad := fun d => let t := fget s (FLT_DIE.STATE d); t == 1 || t == 2 || t == 4
  if !s.sys.powered then .dark
  else if s.mode == mFAULTED || (List.range 8).any bad then .amber
  else if fbit s CTL_IND.LOCATE then .amberBlink 1
  else .dark

/-- REMOVE. -/
def lampRemove (s : State) : Lamp :=
  if !s.sys.powered then .dark
  else if s.sys.latchOpen && s.sys.lasersOn then .blueBlink 4
  else if modeReady s || s.sys.latchOpen then .blue
  else .dark

end Sys2Proof.Machine
end

