-- ==== Sys2Proof/WellFormed.lean ====
section
/-! DEFINITION. Which commands the module's surroundings can present: the bounds on operands that their types do not carry. -/

namespace Sys2Proof

/-- A management message carries its body's length in four bytes (Table 17.9). -/
def bodyOk (body : List Byte) : Bool := decide (body.length < 2 ^ 32)

/-- Waveguides of a bundle that a failure can name (Table 15.7), and the 34 wavelengths of one. -/
def guideOk (bundle wg lane : Nat) : Bool :=
  decide (wg < (if bundle < 6 then 16 else if bundle < 10 then 20 else if bundle < 16 then 10 else if bundle < 32 then 8 else 1)) && decide (lane < 34)

/-- An authenticated client comes with the SHA3-512 digest of its key. -/
def msgOk : HandshakeMsg → Bool
  | .authenticated _ digest => decide (digest.length = 64)
  | .anonymous => true
  | .fails _ => true

/-- Well-formed commands. -/
def Instr.wf : Instr → Bool
  | .powerUp _ _ _ _ _ => true
  | .lasersPowered => true
  | .enterBasic => true
  | .strapCheck _ => true
  | .powerOff => true
  | .latchOpen => true
  | .latchClosed => true
  | .paceWindow _ _ _ => true
  | .paceClrMin _ => true
  | .watchdogExpire _ _ => true
  | .lateAck _ => true
  | .thermalSensor _ _ => true
  | .verify _ _ => true
  | .verifyDone _ => true
  | .commitFull _ _ _ _ => true
  | .fullWeaveDone _ => true
  | .commitMotif _ _ _ _ => true
  | .motifStart => true
  | .regionMotifDone _ => true
  | .prkCancel _ _ => true
  | .reweaveDie _ _ => true
  | .reweaveDone => true
  | .roleGenDeferred _ => true
  | .uncorrectableCodeword _ => true
  | .losAssert _ _ => true
  | .losClear _ _ => true
  | .lolAssert _ => true
  | .clockLock _ => true
  | .alignmentLoss _ => true
  | .alignLock _ => true
  | .sdWindow _ corrected received => decide (corrected ≤ received)
  | .trainTimeout _ => true
  | .trainRetry _ => true
  | .identTx _ => true
  | .identRx _ _ _ => true
  | .noIdentTimeout _ => true
  | .reident _ _ => true
  | .retrain _ _ => true
  | .nbrExpWrite _ _ _ => true
  | .laserFade _ _ _ => true
  | .spareLocked _ => true
  | .spareLockTimeout _ => true
  | .fibreSwap _ => true
  | .fibreDark _ => true
  | .fibreProbe _ => true
  | .probeEnd _ => true
  | .fibreLight _ => true
  | .forceCloseWrite _ _ _ => true
  | .idleRx _ _ => true
  | .controlBlockBad _ _ => true
  | .creditRx _ _ => true
  | .creditInitRx _ _ => true
  | .alignRx _ _ => true
  | .pauseSwapRx _ _ => true
  | .pauseSwapEnd _ => true
  | .swapFillRx _ _ => true
  | .scrubRx _ _ => true
  | .frameRx _ _ payload _ _ => decide (payload.length ≤ 8192)
  | .ethFrameRx _ frame _ _ => decide (frame.length < 65536)
  | .pfcRx _ _ _ => true
  | .pfcPauseExpire _ _ => true
  | .pfcXoffRepeat _ _ => true
  | .creditTx _ _ => true
  | .creditInitTx _ => true
  | .creditTimeout _ => true
  | .alignTx _ => true
  | .scrubTx _ => true
  | .schedEpoch => true
  | .cellArrive _ _ => true
  | .reseqTimeout _ _ => true
  | .mcResidueTimeout _ _ => true
  | .suppressReport => true
  | .frameTxStart _ => true
  | .frameTxEnd _ => true
  | .search => true
  | .next => true
  | .insert => true
  | .delete => true
  | .flushPort => true
  | .drain => true
  | .drainComplete => true
  | .drainTimeout => true
  | .mark => true
  | .rawRead => true
  | .rawWrite => true
  | .rawCompare => true
  | .l2Learn => true
  | .agingTick => true
  | .ageRemove => true
  | .bucketHandover _ => true
  | .meterWrite _ => true
  | .meterRead _ => true
  | .tmNodeWrite _ => true
  | .tmNodeRead _ => true
  | .wsetGo _ _ _ => true
  | .wsetDone => true
  | .gateCommit _ _ _ => true
  | .gateCancel _ _ => true
  | .gateSwitch _ => true
  | .gateEntryChange _ => true
  | .bypMapWrite _ => true
  | .bypReadShadow _ => true
  | .bypReadOper _ => true
  | .bypCopy _ => true
  | .bypCommit _ => true
  | .bypCancel _ => true
  | .slotBoundary => true
  | .bypassMatch _ => true
  | .rangingStart _ => true
  | .rangePingTx _ => true
  | .rangeEchoRx _ _ => true
  | .rangingDone _ => true
  | .rangeSetTx _ => true
  | .slotTickTx _ => true
  | .slotReqRx _ _ => true
  | .planeInputDark _ _ => true
  | .planeInputLight _ _ => true
  | .grpRead _ => true
  | .grpWrite _ => true
  | .grpInvalidate _ => true
  | .grpAbortAll _ => true
  | .contribRx _ _ => true
  | .resultAckRx _ => true
  | .resendReqRx _ => true
  | .collectiveSeal _ _ _ => true
  | .collectiveTimeout _ _ _ => true
  | .ackTimeout _ _ _ => true
  | .tombstoneExpire _ _ _ => true
  | .mirrorTimeout _ => true
  | .engineUnfence _ _ => true
  | .logtrimWrite _ _ _ => true
  | .regionStart _ _ => true
  | .regionStop _ _ => true
  | .nop _ _ => true
  | .halt _ _ => true
  | .err _ _ => true
  | .jmp _ _ => true
  | .bnz _ _ => true
  | .blt _ _ => true
  | .tokw _ _ => true
  | .tsend _ _ => true
  | .tloc _ _ => true
  | .irel _ _ => true
  | .addi _ _ => true
  | .add _ _ => true
  | .sub _ _ => true
  | .mul _ _ => true
  | .and _ _ => true
  | .or _ _ => true
  | .xor _ _ => true
  | .shl _ _ => true
  | .shr _ _ => true
  | .li _ _ => true
  | .lih _ _ => true
  | .ld _ _ => true
  | .st _ _ => true
  | .rdtime _ _ => true
  | .mma _ _ => true
  | .vadd _ _ => true
  | .vsub _ _ => true
  | .vmul _ _ => true
  | .vfma _ _ => true
  | .vmax _ _ => true
  | .vmin _ _ => true
  | .vabs _ _ => true
  | .vdiv _ _ => true
  | .vsqrt _ _ => true
  | .vrsqrt _ _ => true
  | .vexp _ _ => true
  | .vlog _ _ => true
  | .vcvt _ _ => true
  | .vsum _ _ => true
  | .vmaxi _ _ => true
  | .vselgt _ _ => true
  | .copyStoreLocal _ _ => true
  | .copyToRoute _ _ => true
  | .copyMemToStore _ _ => true
  | .copyStoreToMem _ _ => true
  | .copyGather _ _ => true
  | .copyScatter _ _ => true
  | .send _ _ => true
  | .fence _ _ => true
  | .mmaComplete _ => true
  | .vopComplete _ => true
  | .copyComplete _ => true
  | .sendComplete _ => true
  | .tokenArrive _ => true
  | .inletDelivery _ => true
  | .handoffDelivery _ => true
  | .oneSidedPut _ => true
  | .oneSidedGet _ => true
  | .getRespRx _ => true
  | .patrolRead _ _ _ => true
  | .memMapSelect _ _ => true
  | .tbSecRead _ => true
  | .tbOffsetSample _ _ => true
  | .tbSet _ _ => true
  | .holdoverTimeout => true
  | .capPop _ => true
  | .triggerArm _ _ _ => true
  | .triggerFire _ => true
  | .heartbeatMiss _ => true
  | .dieSelfCheck _ => true
  | .dieResetDone _ => true
  | .rejoinMemoryZeroed _ => true
  | .ctlFault => true
  | .flitCrcFail _ => true
  | .interposerLaneFail bundle wg lane => guideOk bundle.val wg lane
  | .retuneEnd _ => true
  | .oeFault _ => true
  | .refLoss _ => true
  | .internalOscStart => true
  | .bothRefDecision => true
  | .portFenceCmd _ _ => true
  | .portUnfenceCmd _ _ => true
  | .portAutoUnfence _ => true
  | .chipRead _ => true
  | .chipSet _ => true
  | .chipFence _ => true
  | .chipUnfence _ => true
  | .bcRead _ => true
  | .bcWrite _ => true
  | .bcStart _ => true
  | .bcResume _ => true
  | .bcStop _ => true
  | .bcastPieceTx _ => true
  | .bcastDataRx _ => true
  | .bcastProgressRx _ => true
  | .bcastRelayReport _ => true
  | .bcastRelayTimeout _ _ => true
  | .bcastResumeWaitEnd _ => true
  | .ctxAllocate _ _ => true
  | .ctxActivate _ _ => true
  | .ctxDeactivate _ _ => true
  | .ctxRelease _ _ => true
  | .ctxReleaseRegion _ _ _ => true
  | .regionUnpickDone _ => true
  | .unpickDone _ => true
  | .mgmtConnect => true
  | .handshakeTimeout _ => true
  | .lockoutEnd => true
  | .sessionIdleTimeout _ => true
  | .sessionClose _ => true
  | .mgmtPacketRx _ => true
  | .mgmtBodyTimeout _ _ _ _ => true
  | .regRead _ _ body => bodyOk body
  | .regWrite _ _ body => bodyOk body
  | .imageStage _ _ body _ => bodyOk body
  | .enrol _ _ body => bodyOk body
  | .addPrkKey _ _ body => bodyOk body
  | .removePrkKey _ _ body => bodyOk body
  | .addMgrCa _ _ body => bodyOk body
  | .removeMgrCa _ _ body => bodyOk body
  | .raiseFloor _ _ body => bodyOk body
  | .decommission _ _ body => bodyOk body
  | .keyInstall _ _ body => bodyOk body
  | .keyRemove _ _ body => bodyOk body
  | .attestReport _ _ body => bodyOk body
  | .eventsRead _ _ body => bodyOk body
  | .eventsReadPerm _ _ body => bodyOk body
  | .eventsClear _ _ body => bodyOk body
  | .eventsClearDone => true
  | .eventsSubscribe _ _ body => bodyOk body
  | .fwStage _ _ body _ => bodyOk body
  | .fwStatus _ _ body => bodyOk body
  | .fwSelect _ _ body => bodyOk body
  | .pcieLinkLoss => true
  | .pcieLinkUp => true
  | .bar0Unsupported addr len _ => !(len == 8 && addr.toNat % 8 == 0)
  | .dqEnable _ _ _ => true
  | .dqTailWrite _ _ _ entries => decide (entries.length % 256 = 0)
  | .imageEntry _ data _ _ => decide (data.length ≤ 1048576)
  | .countersEntry _ => true
  | .dqEventWrite => true
  | .dqDmaTimeout _ => true
  | .icDoorbell _ _ => true
  | .icClaim _ _ => true
  | .icEoi _ _ _ => true
  | .icConfigWrite _ _ _ => true
  | .permCopy => true
  | .rateWindowEnd _ => true
  | .lostRecord => true
  | .evrSelect _ _ => true
  | .evrPselect _ _ => true
  | .samplerPeriod => true
  | .watchPeriod => true
  | .datagramExpire => true
  | .ctxPublish _ => true
  | .enterMaint _ => true
  | .exitMaint _ => true
  | .moduleDrain _ => true
  | .undrain _ => true
  | .testStart _ _ _ => true
  | .testAbort _ => true
  | .testEngineIdle => true
  | .testWaitTimeout => true
  | .testDone _ _ _ _ => true
  | .lockRead _ _ => true
  | .lockRelease _ _ => true
  | .registerWrite _ _ _ => true
  | .referenceReturn _ => true
  | .lpddr6CaseOvertemp _ => true
  | .dieFaultAge _ => true
  | .handshakeMessage _ msg => msgOk msg
  | .mgmtRequestUndefined _ _ _ _ => true
  | .msixEnable => true
  | .msixVectorUnmask _ => true

end Sys2Proof
end

