-- ==== Sys2Proof/Safety.lean ====
section
/-! DEFINITION. What a safe run is, and the terms the claims speak in: canonical data, and what an event or an interrupt may
touch. -/

namespace Sys2Proof.Machine

/-- Keys strictly rising, no entry at its key's default. -/
def Canon {α : Type} (d : Nat → α) (t : Tab α) : Prop := t.Pairwise (fun a b => a.1 < b.1) ∧ ∀ e ∈ t, e.2 ≠ d e.1

/-- The register file lists no register at its reset value, and its offsets rise: equal registers are equal data. -/
def regsCanon (s : State) : Prop := Canon regReset s.regs

/-- The bytes of CP memory and its poisoned lines are listed at rising addresses, none at what an unlisted one reads as. -/
def Memory.wf (m : MemSt) : Bool := Tab.wf 0 m.bytes && Tab.wf false m.poison

/-- Registers in which the module signals what happens: event counters, lost records, interrupt sources and merged doorbells. -/
def signalReg (o : Nat) : Bool :=
  (0x3420000 ≤ o && o < 0x3428800) || o == EVR_LOST || o == IC_MERGED || inSrc o

/-- `t` is `u` but for the registers, and for what an event or an interrupt leaves in the recorder, the interrupt controller and
the log of what went out. -/
def signalsOnly (u t : State) : Prop := t = { u with regs := t.regs, evr := t.evr, host := t.host, out := t.out }

/-- A safe run: well-formed commands, each of which the module answers with a next state, from a state and to a state whose
registers and memory are canonical. The spec stops the module on no command, so a fault or a refusal is never safe. -/
def SafeRun (cs : List Instr) (s : State) : Prop :=
  (∀ c ∈ cs, c.wf = true) ∧ regsCanon s ∧ Memory.wf s.mem = true ∧
  ∃ t, Host.Core.run core cs.length { s with pending := cs } = .next t ∧ t.pending = [] ∧ regsCanon t ∧ Memory.wf t.mem = true

end Sys2Proof.Machine
end

