-- ==== Sys2Proof/Certificates/Slice0/Obligations.lean ====
section
/-! DEFINITION. What the model claims, for the provers: one proposition each. -/

namespace Sys2Proof.Claim

open Sys2Proof.Machine

/-- The command answers a next state, of which P holds. -/
def answers (c : Instr) (s : State) (P : State → Prop) : Prop := ∃ t, exec c s = .next t ∧ P t

/-- A step from the state answers a next state, of which P holds. -/
def steps (s : State) (P : State → Prop) : Prop := ∃ t, step s = .next t ∧ P t

/-- Every register but those of `own` reads as before. -/
def regsBut (own : Nat → Bool) (s t : State) : Prop := ∀ o, own o = false → getReg t o = getReg s o

/-- Every register but those of `own` and those that signal reads as before. -/
def regsQuiet (own : Nat → Bool) (s t : State) : Prop := ∀ o, own o = false → signalReg o = false → getReg t o = getReg s o

/-- `t` is `u` but for the registers. -/
def regsOnly (u t : State) : Prop := t = { u with regs := t.regs }

/-- The block sent last; 0 where something else went out last. -/
def sentBlock (t : State) : BitVec 256 :=
  match t.out with
  | .block _ b :: _ => b
  | _ => 0

/-- The frame at the tail of a VOQ; none where a residue reference stands there. -/
def lastFrame (t : State) (k : Nat) : Option Frame :=
  match (voq t k).ents.getLast? with
  | some (.frame f) => some f
  | _ => none

/-- Is the offset that of a counter of a context (R445)? -/
def inCtxCount (o : Nat) : Bool := 0x3480000 ≤ o && o < 0x3500000

/-- The completion that the register path shows (R184). -/
def resBytes (t : State) : List Byte := (List.range 26).flatMap fun n => le 8 (getReg t (TBL_RES_W n)).toNat

/-- No self-test waits, runs or has just ended. -/
def testFree (s : State) : Bool := !testActive s && s.test.started == 0

/-- A write that is live, accepted, and meets no self-test. -/
def accepts (s : State) (p : Fin 13) (off : Nat) (w : Word) : Bool :=
  s.sys.powered && pathLive s p.val && writeReason s p.val off w == 0 && off % 8 == 0 && testFree s

/-- Powered, with the clocked periphery running (R379). -/
def clocked (s : State) : Bool := s.sys.powered && s.sys.refPhase != 1

/-- Does no word of memory hold a bit error that no read has met? -/
abbrev memSound (s : State) : Prop := s.mem.latent = []

/-- No pending motif's time has come (R64). -/
abbrev noneDue (s : State) : Prop := ∀ m ∈ s.weave.pend, s.tbNs < m.start

/-- Is the command POWER_UP? -/
def isPowerUp (c : Instr) : Bool :=
  match c with
  | .powerUp _ _ _ _ _ => true
  | _ => false

end Sys2Proof.Claim

open Sys2Proof Sys2Proof.Machine Sys2Proof.Claim

/-! The queue, reset, and what every step keeps. -/

/-- For every command c and state s, a step of s with c at the front of its queue is exec of c on s with the queue's rest. -/
def Obligations.StepRunsFrontCommand : Prop :=
  ∀ (c : Instr) (s : State) (rest : List Instr),
    step { s with pending := c :: rest } = exec c { s with pending := rest }

/-- Model's choice (log entry 4): with an empty queue a step answers a next state in which one nanosecond of the servo's rate has
passed on the timebase and on the duration clock of a powered module, and an unpowered module is left as it is. -/
def Obligations.IdleStepPassesTime : Prop :=
  (∀ s : State, s.pending = [] → s.sys.powered = true → s.tel.queue = [] →
    steps s fun t => t.mono = s.mono + (2 ^ 32 + sext 32 (fget s TB_RATE.RATE)).toNat ∧
      t.tb = (s.tb + (2 ^ 32 + sext 32 (fget s TB_RATE.RATE)).toNat) % tbMod ∧ t.nvs = s.nvs ∧ t.sys = s.sys ∧
      t.mem = s.mem ∧ t.core = s.core ∧ t.out = s.out) ∧
  (∀ s : State, s.pending = [] → s.sys.powered = false → s.tel.queue = [] → step s = .next s)

/-- The register file lists registers at strictly rising offsets and none at its reset value. From every state in which it does,
whatever command waits, a step that answers a next state leaves it so: equal registers are equal data. -/
def Obligations.StepKeepsRegistersCanonical : Prop :=
  ∀ s t : State, regsCanon s → step s = .next t → regsCanon t

/-- The state after reset lists no register, so its register file is canonical, and every register then reads its reset value. -/
def Obligations.ResetRegistersCanonical : Prop :=
  regsCanon State.reset ∧ ∀ o, getReg State.reset o = regReset o

/-! Power, start-up and the latch (chapters 1 and 19). -/

/-- From any state without power, POWER_UP answers a next state: powered, in BOOT, the power-up count one higher, the timebase
zero, memory zero, tables, keys and context states empty, the queue kept; an unpowered module's POWER_OFF changes nothing. -/
def Obligations.PowerUpStartsInBoot : Prop :=
  (∀ (s : State) (s0 s1 s2 : BitVec 11) (xa xb : Bool), s.sys.powered = false →
    answers (.powerUp s0 s1 s2 xa xb) s fun t =>
      t.sys.powered = true ∧ t.mode = mBOOT ∧ t.nvs.powerCount = s.nvs.powerCount + 1 ∧ t.tb = 0 ∧ t.mem.bytes = [] ∧
      t.tbl.copies = [] ∧ t.sec.keys = [] ∧ (∀ x, x < 1024 → ctxState t x = 0) ∧ t.sys.lasersOn = false ∧
      t.pending = s.pending ∧ fget t CTL_BOOT.CLEAN = b2n s.nvs.clean) ∧
  (∀ s : State, s.sys.powered = false → exec .powerOff s = .next s)

/-- Nothing runs: on a module without power every command but POWER_UP answers a next state in which at most the removal latch's
position has changed. Nothing is kept: POWER_OFF of a powered module answers the state after reset with its NVS and the latch's
position (and the model's own queue, log of output and count of free values). -/
def Obligations.NoPowerNothingRuns : Prop :=
  (∀ (c : Instr) (s : State), s.sys.powered = false → isPowerUp c = false →
    answers c s fun t => t = { s with sys := { s.sys with latchOpen := t.sys.latchOpen } }) ∧
  (∀ s : State, s.sys.powered = true →
    exec .powerOff s = .next { State.reset with
      pending := s.pending, free := s.free, out := s.out, nvs := s.nvs, sys := { latchOpen := s.sys.latchOpen } })

/-- LASERS_POWERED, with the latch closed, the boot structure applied and the lasers off, turns the lasers and the SOAs on and
lets R103 and R104 apply. ENTER_BASIC takes BOOT with lasers on and the latch closed to BASIC and touches no other register.
STRAP_CHECK sets CHANGED where the pins differ from the latched ones, records one event in a power cycle, and leaves the latched
values; where they agree it changes nothing. LATCH_OPEN closes every fibre gate and turns the lasers off; LATCH_CLOSED, with no
management request waiting, only says that the latch is closed. -/
def Obligations.StartSequence : Prop :=
  (∀ s : State, s.sys.powered = true → s.sys.lasersOn = false → s.sys.latchOpen = false → s.sys.bootDone = true →
    s.sys.ctlFault = false →
    answers .lasersPowered s fun t =>
      t.sys.lasersOn = true ∧ t.sys.gateRules = true ∧ t.byp.soaOn = true ∧ t.nvs = s.nvs ∧ t.mode = s.mode) ∧
  (∀ s : State, s.sys.powered = true → s.mode = mBOOT → s.sys.lasersOn = true → s.sys.latchOpen = false →
    answers .enterBasic s fun t =>
      t.mode = mBASIC ∧ t.asBasic = true ∧ regsBut (fun o => o == PRK_STATUS) s t ∧
      t = { s with regs := t.regs, sys := { s.sys with maintBasic := true } }) ∧
  (∀ (s : State) (pins : BitVec 11), s.sys.powered = true → pins ≠ s.sys.straps →
    answers (.strapCheck pins) s fun t =>
      fbit t CTL_STRAP.CHANGED = true ∧ fget t CTL_STRAP.SLOT = fget s CTL_STRAP.SLOT ∧
      fget t CTL_STRAP.REF = fget s CTL_STRAP.REF ∧
      (getReg t (PMC_EVT 0x102) = getReg s (PMC_EVT 0x102) + if s.sys.strapEvent then 0 else 1) ∧
      regsQuiet (fun o => o == CTL_STRAP) s t ∧ signalsOnly { s with sys := { s.sys with strapEvent := true } } t) ∧
  (∀ s : State, s.sys.powered = true → exec (.strapCheck s.sys.straps) s = .next s) ∧
  (∀ s : State, s.sys.powered = true → s.sys.latchOpen = false → testFree s = true →
    answers .latchOpen s fun t =>
      t.nvs.clean = modeReady s ∧ t.mode = s.mode ∧ t.sys.latchOpen = true ∧ t.sys.lasersOn = false ∧ t.sys.gateRules = false ∧ t.byp.soaOn = false ∧
      ∀ F, F < 128 → fibreSends t F = false ∧ (dieUp s (F / 32) = true → fget t (OPT_FIBRE.OPEN F) = 0)) ∧
  (∀ s : State, (∀ k ∈ s.sec.sessions, k.held = []) → exec .latchClosed s = .next { s with sys := { s.sys with latchOpen := false } })

/-- On a path that may write `CTL_MODE_CMD`: ENTER_MAINT takes BASIC and WOVEN to MAINT, EXIT_MAINT takes MAINT to WOVEN where
`PRK_ACTIVE` is not 0 and to BASIC otherwise (no DIE or MODULE test running), DRAIN takes BASIC, WOVEN and MAINT to DRAINING,
UNDRAIN takes DRAINING back to BASIC or MAINT where DRAIN was given there; each with CODE OK and no other register changed. -/
def Obligations.ModeCommands : Prop :=
  let said := fun (s : State) (m : Nat) (t : State) =>
    t.mode = m ∧ fget t CTL_MODE_STAT.CODE = 0 ∧ regsBut (fun o => o == PRK_STATUS || o == CTL_MODE_STAT) s t ∧
      t = { s with regs := t.regs, sys := t.sys }
  (∀ (p : Fin 13) (s : State), accepts s p CTL_MODE_CMD 1 = true → s.mode = mBASIC ∨ s.mode = mWOVEN →
    answers (.enterMaint p) s (said s mMAINT)) ∧
  (∀ (p : Fin 13) (s : State), accepts s p CTL_MODE_CMD 2 = true → s.mode = mMAINT →
    answers (.exitMaint p) s (said s (if getReg s PRK_ACTIVE ≠ 0 then mWOVEN else mBASIC))) ∧
  (∀ (p : Fin 13) (s : State), accepts s p CTL_MODE_CMD 3 = true → s.mode = mBASIC ∨ s.mode = mWOVEN ∨ s.mode = mMAINT →
    answers (.moduleDrain p) s fun t => said s mDRAINING t ∧ t.sys.drainFrom = s.mode) ∧
  (∀ (p : Fin 13) (s : State), accepts s p CTL_MODE_CMD 4 = true → s.mode = mDRAINING →
    s.sys.drainFrom = mBASIC ∨ s.sys.drainFrom = mMAINT →
    answers (.undrain p) s (said s s.sys.drainFrom))

/-- An accepted START of a PORT test on a fenced port outside DRAINING clears both result registers and reads RUNNING with its
KIND and UNIT, with the port's link down; a START in DRAINING, or of a kind whose precondition fails, ends at once with BUSY or STATE.
ABORT of a waiting or running test of a kind other than MODULE ends it with ABORTED; an ENGINE test waits until its engine holds no
slot, then runs; after 60 s of waiting it ends with TIMEOUT; a running ENGINE test that passes ends with PASS and sets TESTED, and a
FIBRE or FIBRE_CAL test ends with PASS or FAIL and its DETAIL. -/
def Obligations.SelfTests : Prop :=
  (∀ (p : Fin 13) (s : State) (u : BitVec 10),
    accepts s p CTL_TEST_CMD (BitVec.ofNat 64 (u.toNat * 2 ^ 16 + 1 * 2 ^ 8 + 1)) = true → s.mode ≠ mDRAINING →
    portFenced s u.toNat = true →
    answers (.testStart p 1 u) s fun t =>
      fget t CTL_TEST_STAT.STATE = 2 ∧ fget t CTL_TEST_STAT.KIND = 1 ∧ fget t CTL_TEST_STAT.UNIT = u.toNat ∧
      getReg t CTL_TEST_RES0 = 0 ∧ getReg t CTL_TEST_RES1 = 0 ∧ (port t u.toNat).under = pDOWN ∧
      ((port s u.toNat).under = pDOWN →
        regsBut (fun o => o == CTL_TEST_STAT || o == CTL_TEST_RES0 || o == CTL_TEST_RES1) s t ∧
        t = { s with regs := t.regs, test := t.test })) ∧
  (∀ (p : Fin 13) (s : State) (k : BitVec 4) (u : BitVec 10),
    accepts s p CTL_TEST_CMD (BitVec.ofNat 64 (u.toNat * 2 ^ 16 + k.toNat * 2 ^ 8 + 1)) = true →
    (s.mode = mDRAINING ∨ (k.toNat < 6 ∨ k.toNat = 8) ∧ testHolds s k.toNat u.toNat = false) →
    answers (.testStart p k u) s fun t =>
      fget t CTL_TEST_STAT.STATE = 3 ∧ fget t CTL_TEST_STAT.CODE = (if s.mode = mDRAINING then 2 else 3) ∧
      fget t CTL_TEST_STAT.KIND = k.toNat ∧ fget t CTL_TEST_STAT.UNIT = u.toNat ∧
      getReg t CTL_TEST_RES0 = 0 ∧ getReg t CTL_TEST_RES1 = 0 ∧
      regsBut (fun o => o == CTL_TEST_STAT || o == CTL_TEST_RES0 || o == CTL_TEST_RES1) s t ∧ regsOnly s t) ∧
  (∀ (p : Fin 13) (s : State), s.sys.powered = true → pathLive s p.val = true → writeReason s p.val CTL_TEST_CMD 2 = 0 →
    testActive s = true → testKind s ≠ 7 → s.test.started ≠ 0 →
    answers (.testAbort p) s fun t => fget t CTL_TEST_STAT.STATE = 3 ∧ fget t CTL_TEST_STAT.CODE = 4 ∧ t.test.started = 0) ∧
  (∀ s : State, s.sys.powered = true → fget s CTL_TEST_STAT.STATE = 1 → testKind s = 4 → engineFree s (testUnit s) = true →
    answers .testEngineIdle s fun t =>
      fget t CTL_TEST_STAT.STATE = 2 ∧ regsBut (fun o => o == CTL_TEST_STAT) s t ∧
      t = { s with regs := t.regs, test := { s.test with started := s.now + 1 } }) ∧
  (∀ s : State, s.sys.powered = true → fget s CTL_TEST_STAT.STATE = 1 → testKind s = 4 → s.test.started ≠ 0 →
    s.elapsed s.test.wait 60000000000 = true →
    answers .testWaitTimeout s fun t => fget t CTL_TEST_STAT.STATE = 3 ∧ fget t CTL_TEST_STAT.CODE = 5) ∧
  (∀ (s : State) (d : BitVec 8) (r0 : BitVec 24) (r1 : BitVec 40), s.sys.powered = true →
    fget s CTL_TEST_STAT.STATE = 2 → testKind s = 4 → testUnit s < 32 → s.test.started ≠ 0 → s.sys.ctlFault = false →
    answers (.testDone true d r0 r1) s fun t =>
      fget t CTL_TEST_STAT.STATE = 3 ∧ fget t CTL_TEST_STAT.CODE = 0 ∧ fget t CTL_TEST_STAT.DETAIL = d.toNat ∧
      fbit t (PIC_ENG.TESTED (testUnit s)) = true) ∧
  (∀ (pass : Bool) (s : State) (d : BitVec 8) (r0 : BitVec 24) (r1 : BitVec 40), s.sys.powered = true →
    fget s CTL_TEST_STAT.STATE = 2 → (testKind s = 2 ∨ testKind s = 8) → s.test.started ≠ 0 →
    answers (.testDone pass d r0 r1) s fun t =>
      fget t CTL_TEST_STAT.STATE = 3 ∧ fget t CTL_TEST_STAT.CODE = (if pass then 0 else 1) ∧
      fget t CTL_TEST_STAT.DETAIL = d.toNat ∧ t.test.started = 0 ∧ regsBut (fun o => o == CTL_TEST_STAT) s t ∧
      t = { s with regs := t.regs, test := t.test })

/-! Pace, watchdogs and temperature (chapter 2). -/

/-- PACE_WINDOW completes at the end of a window not yet reported of a monitor of a working die: RATE and TJ take the window's
values, MIN the lesser of itself and RATE, or RATE with a clear due; BELOW is set, with its event, exactly where the window is under
the block's guaranteed rate and BELOW was not set. PACE_CLR_MIN completes by making the clear due at every monitor; it changes no
register. THERMAL_SENSOR completes: a reading below 125 °C of a compute die's sensor sets the issue limit of its sixteen bobbins (a
quarter above 115 °C, a half above 110 °C; a quarter stays down to 112 °C and then becomes a half, a half stays down to 107 °C and
then lifts), with an event exactly where the limit changes; of a switch die or CTL it changes nothing, nor below 105 °C of an optical
chiplet; 125 °C resets a working die, and on CTL reads FAULTED. Temperatures are in 0.125 °C. WATCHDOG_EXPIRE completes on a channel
not isolated whose request has waited for the receiving block's limit: the channel is isolated, the item counted and an event
recorded; a core's locks and the sessions it served end, an engine is fenced, a memory channel fails, a working die is reset; short
of the limit, or on an isolated channel, nothing happens. LATE_ACK completes: on an isolated channel it is ignored and only reported
as such. -/
def Obligations.Monitors : Prop :=
  let low := fun (n rate : Nat) (s : State) =>
    if s.sys.clrMin && !tget false s.sys.clrMinDone n then rate else min rate (fget s (PMC_PACE.MIN n))
  let below := fun (n rate : Nat) => match paceRate n with
    | some g => decide (rate < g)
    | none => false
  (∀ (n : Fin 1160) (rate : BitVec 16) (tj : BitVec 12) (s : State), s.sys.powered = true → paceReserved n.val = false →
    (paceDie n.val = 8 ∨ dieUp s (paceDie n.val) = true) → tget 0 s.sys.paceWin n.val ≠ paceIndex s →
    answers (.paceWindow n rate tj) s fun t =>
      fget t (PMC_PACE.RATE n.val) = rate.toNat ∧ fget t (PMC_PACE.TJ n.val) = tj.toNat ∧
      fget t (PMC_PACE.MIN n.val) = low n.val rate.toNat s ∧
      fbit t (PMC_PACE.BELOW n.val) = (fbit s (PMC_PACE.BELOW n.val) || below n.val rate.toNat) ∧
      getReg t (PMC_EVT 0x0F01) =
        getReg s (PMC_EVT 0x0F01) + (if below n.val rate.toNat && !fbit s (PMC_PACE.BELOW n.val) then 1 else 0) ∧
      tget 0 t.sys.paceWin n.val = paceIndex s ∧ t.sys.clrMin = s.sys.clrMin ∧
      regsQuiet (fun o => o == PMC_PACE n.val) s t ∧ signalsOnly { s with sys := t.sys } t) ∧
  (∀ (p : Fin 13) (s : State), accepts s p PMC_PACE_CLR 1 = true →
    answers (.paceClrMin p) s fun t =>
      regsBut (fun _ => false) s t ∧
      t = { s with regs := t.regs, sys := { s.sys with clrMin := true, clrMinDone := [] } }) ∧
  (∀ (d : Fin 4) (k : Fin 16) (temp : BitVec 12) (s : State), s.sys.powered = true → testFree s = true → temp.toNat < 1000 →
    let cur := tget 0 s.sys.thermal (16 * d.val + k.val)
    let new := if 920 < temp.toNat then 2 else if cur = 2 ∧ 896 ≤ temp.toNat then 2 else if 880 < temp.toNat then 1
      else if (cur = 1 ∨ cur = 2) ∧ 856 ≤ temp.toNat then 1 else 0
    cur ≤ 2 →
    answers (.thermalSensor (.cp d k) temp) s fun t =>
      tget 0 t.sys.thermal (16 * d.val + k.val) = new ∧ tget 0 t.sys.sensorHot (16 * d.val + k.val) = temp.toNat ∧
      (∀ i, i ≠ 16 * d.val + k.val → tget 0 t.sys.thermal i = tget 0 s.sys.thermal i) ∧
      getReg t (PMC_EVT 0x0A02) = getReg s (PMC_EVT 0x0A02) + (if new = cur then 0 else 1) ∧
      regsQuiet (fun _ => false) s t ∧ signalsOnly { s with sys := t.sys } t) ∧
  (∀ (temp : BitVec 12) (d : Fin 4) (n : Fin 16) (s : State), testFree s = true → temp.toNat < 1000 →
    exec (.thermalSensor (.sw d) temp) s = .next s ∧ exec (.thermalSensor .ctl temp) s = .next s ∧
      (temp.toNat < 840 → exec (.thermalSensor (.oe n) temp) s = .next s)) ∧
  (∀ (temp : BitVec 12) (d : Fin 4) (k : Fin 16) (s : State), s.sys.powered = true → testFree s = true → 1000 ≤ temp.toNat →
    (fget s (FLT_DIE.STATE d.val) = 0 → answers (.thermalSensor (.sw d) temp) s fun t => fget t (FLT_DIE.STATE d.val) = 2) ∧
    (fget s (FLT_DIE.STATE (4 + d.val)) = 0 →
      answers (.thermalSensor (.cp d k) temp) s fun t => fget t (FLT_DIE.STATE (4 + d.val)) = 2) ∧
    (s.sys.ctlFault = false → answers (.thermalSensor .ctl temp) s fun t => t.mode = mFAULTED)) ∧
  (∀ (chan : BitVec 32) (k : Fin 4) (mask : BitVec 8) (waited : Nat) (s : State), s.sys.powered = true → testFree s = true →
    isIsolated s chan.toNat = false → 1000000 ≤ waited → waited ≤ s.now → (s.sec.sessions.map (·.sid)).Nodup →
    answers (.watchdogExpire chan ⟨(.core k mask), waited, .other⟩) s fun t =>
      getReg t (PMC_EVT 0x0103) = getReg s (PMC_EVT 0x0103) + 1 ∧ getReg t (PMC_EVT 0x0104) = getReg s (PMC_EVT 0x0104) + 1 ∧
      isIsolated t chan.toNat = true ∧ tget 0 t.sys.discards chan.toNat = tget 0 s.sys.discards chan.toNat + 1 ∧
      tget 0 t.sys.coreReset k.val = s.now + 1000000 ∧
      t.sec.sessions = (s.sec.sessions.zipIdx.filter fun e => !mask.getLsbD e.2).map (·.1) ∧ regsQuiet inLock s t ∧
      (mask = 0#8 → signalsOnly { s with sys := t.sys } t ∧ ∀ j, j < 16 → fget t (CTL_LOCK.HOLDER j) =
        if fget s (CTL_LOCK.HOLDER j) = k.val + 1 then 0xF else fget s (CTL_LOCK.HOLDER j))) ∧
  (∀ (chan : BitVec 32) (i : Fin 640) (waited : Nat) (s : State), s.sys.powered = true → testFree s = true →
    isIsolated s chan.toNat = false → 40000 ≤ waited → waited ≤ s.now →
    answers (.watchdogExpire chan ⟨(.memChan i), waited, .other⟩) s fun t =>
      getReg t (PMC_EVT 0x0103) = getReg s (PMC_EVT 0x0103) + 1 ∧ isIsolated t chan.toNat = true ∧
      tget 0 t.sys.discards chan.toNat = tget 0 s.sys.discards chan.toNat + 1 ∧
      (∀ j, tget false t.mem.failed j = true ↔ tget false s.mem.failed j = true ∨ j = i.val) ∧
      regsQuiet (fun _ => false) s t ∧
      signalsOnly { s with sys := t.sys, mem := { s.mem with failed := t.mem.failed } } t) ∧
  (∀ (chan : BitVec 32) (e : Fin 32) (d : Fin 9) (waited : Nat) (s : State), s.sys.powered = true → testFree s = true →
    isIsolated s chan.toNat = false → 10000 ≤ waited → waited ≤ s.now →
    ((∀ c ∈ s.pic.colls, ∀ k ∈ c.chunks, k.freed = false → k.engine ≠ e.val) →
      answers (.watchdogExpire chan ⟨(.engine e), waited, .other⟩) s fun t =>
        fbit t (PIC_ENG.FENCED e.val) = true ∧ isIsolated t chan.toNat = true ∧
        regsQuiet (fun o => o == PIC_ENG e.val) s t ∧ signalsOnly { s with sys := t.sys } t) ∧
    (d.val < 8 → fget s (FLT_DIE.STATE d.val) = 0 →
      answers (.watchdogExpire chan ⟨(.die d), waited, .other⟩) s fun t => fget t (FLT_DIE.STATE d.val) = 2)) ∧
  (∀ (chan : BitVec 32) (u : WdTarget) (waited : Nat) (it : WdItem) (s : State), testFree s = true →
    (isIsolated s chan.toNat = true ∨ waited < wdLimit u) → exec (.watchdogExpire chan ⟨u, waited, it⟩) s = .next s) ∧
  (∀ (chan : BitVec 32) (s : State), s.sys.powered = true → isIsolated s chan.toNat = true →
    exec (.lateAck chan) s = .next { s with out := .rxIgnored chan.toNat :: s.out })


/-! Prickings, motifs and weaving (chapter 3). -/

/-- VERIFY accepted with the engine idle starts the verification of the slot; with the engine busy it waits behind what waits
already. VERIFY_DONE ends it with NVS_ERROR after an error reading the slot and with BAD_MAGIC where the image does not begin
with the four MAGIC bytes, and then the verified bits stay; one that passes every check of Table 3.7 sets the slot's verified
bit, no other, and reports OK. `PRK_RESULT` names the slot, and only the engine's registers and what signals the end change. -/
def Obligations.VerifySlot : Prop :=
  let ended := fun (s t : State) =>
    fget t PRK_STATUS.ENGINE = 0 ∧ t.weave.op = 0 ∧ fget t PRK_RESULT.SLOT = s.weave.slot ∧ t.mode = s.mode ∧
    getReg t (PMC_EVT 0x0201) = getReg s (PMC_EVT 0x0201) + 1 ∧
    regsQuiet (fun o => o == PRK_STATUS || o == PRK_RESULT) s t ∧ signalsOnly { s with weave := t.weave } t
  (∀ (p : Fin 13) (slot : BitVec 5) (s : State), accepts s p PRK_CMD (BitVec.ofNat 64 (1 + slot.toNat * 2 ^ 8)) = true →
    s.weave.op = 0 → s.weave.verifyQ = [] → noneDue s →
    answers (.verify p slot) s fun t =>
      fget t PRK_STATUS.ENGINE = 1 ∧ t.weave.op = 1 ∧ t.weave.slot = slot.toNat ∧
      regsBut (fun o => o == PRK_STATUS) s t ∧ t = { s with regs := t.regs, weave := t.weave }) ∧
  (∀ (p : Fin 13) (slot : BitVec 5) (s : State), accepts s p PRK_CMD (BitVec.ofNat 64 (1 + slot.toNat * 2 ^ 8)) = true →
    s.weave.op ≠ 0 →
    answers (.verify p slot) s fun t =>
      t.weave = { s.weave with verifyQ := s.weave.verifyQ ++ [slot.toNat] } ∧ regsBut (fun _ => false) s t ∧
      t = { s with regs := t.regs, weave := t.weave }) ∧
  (∀ s : State, s.sys.powered = true → s.weave.op = 1 → s.weave.verifyQ = [] → noneDue s → s.weave.slot < 18 →
    answers (.verifyDone true) s fun t => ended s t ∧ fget t PRK_RESULT.CODE = 0x16 ∧
      fget t PRK_STATUS.VERIFIED = fget s PRK_STATUS.VERIFIED) ∧
  (∀ s : State, s.sys.powered = true → s.weave.op = 1 → s.weave.verifyQ = [] → noneDue s → s.weave.slot < 18 →
    rdBytes (slotBytes s s.weave.slot) 0 4 ≠ [0x48, 0x50, 0x52, 0x4B] →
    answers (.verifyDone false) s fun t => ended s t ∧ fget t PRK_RESULT.CODE = 0x01 ∧ fget t PRK_RESULT.SECTION = 0xFFFF ∧
      fget t PRK_STATUS.VERIFIED = fget s PRK_STATUS.VERIFIED) ∧
  (∀ s : State, s.sys.powered = true → s.weave.op = 1 → s.weave.verifyQ = [] → noneDue s → s.weave.slot < 18 → s.weave.restaged = false →
    answers (.verifyDone false) s fun t =>
      (∀ k, k < 18 → verified t k = (verified s k || (k == s.weave.slot && (verifySlot s s.weave.slot).1 == 0))) ∧
      (verifySlot s s.weave.slot = (0, 0xFFFF) → ended s t ∧ fget t PRK_RESULT.CODE = 0))

/-- COMMIT of slot 0 or 1 that meets R59 enters WEAVING with every region IDLE and changes no table, meter or NVS; one that
does not ends with BUSY, a timed one with BAD_TIME, and nothing else changes. FULL_WEAVE_DONE with all dies working enters
WOVEN, sets `PRK_ACTIVE` to the image's IMAGE_ID, advances MOD_GEN by one and reports OK; a failed one enters BASIC with
`PRK_ACTIVE` 0 and MOD_GEN as before; one whose module has left WEAVING meanwhile ends with DIE_FAULT in the state the module is in
(the model's reading, log entry 266). Every region's role generation that may change advances by one either way. -/
def Obligations.FullWeave : Prop :=
  let word := fun (slot : BitVec 5) (timed preempt : Bool) =>
    BitVec.ofNat 64 (2 + slot.toNat * 2 ^ 8 + b2n preempt * 2 ^ 16 + b2n timed * 2 ^ 20)
  let refused := fun (slot : BitVec 5) (code : Nat) (s t : State) =>
    fget t PRK_RESULT.CODE = code ∧ fget t PRK_RESULT.SLOT = slot.toNat ∧ regsQuiet (fun o => o == PRK_RESULT) s t ∧
    signalsOnly { s with free := t.free } t
  let gens := fun (s t : State) => ∀ r, r < 64 → genReady s r = true → genWaits s r = false →
    fget t (PRK_RGEN.GEN r) = (fget s (PRK_RGEN.GEN r) + 1) % 256
  (∀ (p : Fin 13) (slot : BitVec 5) (preempt : Bool) (s : State), accepts s p PRK_CMD (word slot false preempt) = true →
    slot.toNat < 2 → fullAllowed s slot.toNat = true →
    answers (.commitFull p slot false preempt) s fun t =>
      t.mode = mWEAVING ∧ fget t PRK_STATUS.ENGINE = 2 ∧ t.weave.op = 2 ∧ t.weave.slot = slot.toNat ∧
      (∀ r, r < 64 → regionState t r = rIDLE) ∧ t.nvs = s.nvs ∧ t.tbl = s.tbl ∧ t.tm = s.tm ∧ t.sec = s.sec) ∧
  (∀ (p : Fin 13) (slot : BitVec 5) (preempt : Bool) (s : State), accepts s p PRK_CMD (word slot false preempt) = true →
    slot.toNat < 2 → fullAllowed s slot.toNat = false →
    answers (.commitFull p slot false preempt) s (refused slot 0x13 s)) ∧
  (∀ (p : Fin 13) (slot : BitVec 5) (preempt : Bool) (s : State), accepts s p PRK_CMD (word slot true preempt) = true →
    slot.toNat < 2 → answers (.commitFull p slot true preempt) s (refused slot 0x15 s)) ∧
  (∀ s : State, s.sys.powered = true → s.mode = mWEAVING → s.weave.op = 2 → s.weave.verifyQ = [] → noneDue s →
    s.weave.slot < 2 → (∀ d, d < 8 → dieUp s d = true) →
    answers (.fullWeaveDone .ok) s fun t =>
      t.mode = mWOVEN ∧ t.weave.op = 0 ∧ getReg t PRK_ACTIVE = (readImage (slotBytes s s.weave.slot)).imageId ∧
      t.nvs.modGen = s.nvs.modGen + 1 ∧ getReg t PRK_GEN = t.nvs.modGen ∧ fget t PRK_RESULT.CODE = 0 ∧
      fget t PRK_RESULT.SLOT = s.weave.slot ∧ gens s t) ∧
  (∀ s : State, s.sys.powered = true → s.mode = mWEAVING → s.weave.op = 2 → s.weave.verifyQ = [] → noneDue s → s.weave.slot < 2 →
    answers (.fullWeaveDone .nvsError) s fun t =>
      t.mode = mBASIC ∧ t.weave.op = 0 ∧ getReg t PRK_ACTIVE = 0 ∧ t.sys.active = none ∧ t.nvs.modGen = s.nvs.modGen ∧
      fget t PRK_RESULT.CODE = 0x16 ∧ gens s t) ∧
  (∀ (how : WeaveEnd) (s : State), s.sys.powered = true → s.mode ≠ mWEAVING → s.weave.op = 2 → s.weave.verifyQ = [] → noneDue s →
    s.weave.slot < 2 → answers (.fullWeaveDone how) s fun t =>
      t.mode = s.mode ∧ t.weave.op = 0 ∧ fget t PRK_RESULT.CODE = 0x17 ∧ t.nvs = s.nvs ∧ t.sys = s.sys ∧ gens s t)

/-- COMMIT of a verified motif slot in WOVEN, its BASE_ID the active IMAGE_ID, no pending motif with its target and fewer than
16 pending, untimed, makes it pending, and PENDING counts it. Outside WOVEN it ends with BUSY; unverified with NOT_VERIFIED.
CANCEL of a pending motif takes it off the list and ends with CANCELLED; CANCEL where none is pending changes nothing. -/
def Obligations.MotifCommit : Prop :=
  let word := fun (slot : BitVec 5) (preempt : Bool) => BitVec.ofNat 64 (2 + slot.toNat * 2 ^ 8 + b2n preempt * 2 ^ 16)
  let code := fun (slot : BitVec 5) (code : Nat) (s t : State) =>
    fget t PRK_RESULT.CODE = code ∧ fget t PRK_RESULT.SLOT = slot.toNat ∧ regsQuiet (fun o => o == PRK_RESULT) s t ∧
    signalsOnly s t
  (∀ (p : Fin 13) (slot : BitVec 5) (preempt : Bool) (s : State), accepts s p PRK_CMD (word slot preempt) = true →
    2 ≤ slot.toNat → s.mode = mWOVEN → verified s slot.toNat = true →
    rdN (slotBytes s slot.toNat) 0x20 8 = (getReg s PRK_ACTIVE).toNat → s.weave.pend.length < 16 →
    (∀ m ∈ s.weave.pend, m.kind ≠ rdN (slotBytes s slot.toNat) 6 2) →
    answers (.commitMotif p slot false preempt) s fun t =>
      (t.weave.pend.map fun m => (m.slot, m.start, m.preempt)) =
        (s.weave.pend.map fun m => (m.slot, m.start, m.preempt)) ++ [(slot.toNat, s.tbNs, preempt)] ∧
      t.weave = { s.weave with pend := t.weave.pend } ∧ fget t PRK_STATUS.PENDING = s.weave.pend.length + 1 ∧
      regsBut (fun o => o == PRK_STATUS) s t ∧
      t = { s with regs := t.regs, weave := t.weave }) ∧
  (∀ (p : Fin 13) (slot : BitVec 5) (preempt : Bool) (s : State), accepts s p PRK_CMD (word slot preempt) = true →
    2 ≤ slot.toNat → s.mode ≠ mWOVEN → answers (.commitMotif p slot false preempt) s (code slot 0x13 s)) ∧
  (∀ (p : Fin 13) (slot : BitVec 5) (preempt : Bool) (s : State), accepts s p PRK_CMD (word slot preempt) = true →
    2 ≤ slot.toNat → s.mode = mWOVEN → verified s slot.toNat = false →
    answers (.commitMotif p slot false preempt) s (code slot 0x12 s)) ∧
  (∀ (p : Fin 13) (slot : BitVec 5) (s : State), accepts s p PRK_CMD (BitVec.ofNat 64 (3 + slot.toNat * 2 ^ 8)) = true →
    (∃ m ∈ s.weave.pend, m.slot = slot.toNat) →
    answers (.prkCancel p slot) s fun t =>
      t.weave = { s.weave with pend := s.weave.pend.filter (·.slot != slot.toNat) } ∧ fget t PRK_RESULT.CODE = 0x18 ∧
      fget t PRK_RESULT.SLOT = slot.toNat ∧ regsQuiet (fun o => o == PRK_RESULT || o == PRK_STATUS) s t ∧
      signalsOnly { s with weave := t.weave } t) ∧
  (∀ (p : Fin 13) (slot : BitVec 5) (s : State), accepts s p PRK_CMD (BitVec.ofNat 64 (3 + slot.toNat * 2 ^ 8)) = true →
    (∀ m ∈ s.weave.pend, m.slot ≠ slot.toNat) →
    answers (.prkCancel p slot) s fun t => regsBut (fun _ => false) s t ∧ regsOnly s t)

/-- MOTIF_START of the one pending region motif, its time reached and the engine free, for an IDLE unowned region and an image
that names no owner, advances the region's role generation and starts the weave. REGION_MOTIF_DONE makes the region WOVEN with
MOD_GEN one on and OK; a failure leaves the region IDLE, MOD_GEN unchanged. REWEAVE_DIE of a READY die starts with the engine
idle, and of any other die ends with BUSY; REWEAVE_DONE of a SW die advances MOD_GEN. ROLE_GEN_DEFERRED lets one waiting change
of a region take effect 1 ms after the last, not before. -/
def Obligations.MotifAndDieWeave : Prop :=
  (∀ (m : Motif) (im : Image) (s : State), s.sys.powered = true → s.weave.op = 0 → s.weave.pend = [m] → m.start ≤ s.tbNs →
    m.kind = 2 → m.target < 64 → s.sys.active = some im → s.mode = mWOVEN → testActive s = false →
    regionState s m.target = rIDLE → regionOwner s m.target = 1024 → (∃ e ∈ im.cp, e.1 = m.target) →
    1024 ≤ rdN (slotBytes s m.slot) (sectAt (slotBytes s m.slot) 0).off 2 →
    genReady s m.target = true → genWaits s m.target = false →
    answers .motifStart s fun t =>
      fget t PRK_STATUS.ENGINE = 3 ∧ t.weave.op = 3 ∧ t.weave.slot = m.slot ∧ t.weave.region = m.target ∧ t.weave.pend = [] ∧
      fget t PRK_STATUS.PENDING = 0 ∧ fget t (PRK_RGEN.GEN m.target) = (fget s (PRK_RGEN.GEN m.target) + 1) % 256 ∧
      regionState t m.target = rIDLE ∧ t.nvs = s.nvs) ∧
  (∀ (im : Image) (s : State), s.sys.powered = true → s.weave.op = 3 → s.weave.verifyQ = [] → noneDue s → s.weave.slot < 18 →
    s.weave.region < 64 → s.sys.active = some im → dieUp s (4 + s.weave.region / 16) = true →
    answers (.regionMotifDone .ok) s fun t =>
      regionState t s.weave.region = rWOVEN ∧ t.nvs.modGen = s.nvs.modGen + 1 ∧ getReg t PRK_GEN = t.nvs.modGen ∧
      fget t PRK_RESULT.CODE = 0 ∧ fget t PRK_RESULT.SLOT = s.weave.slot ∧ fget t PRK_STATUS.ENGINE = 0 ∧
      fget t (PRK_RGEN.GEN s.weave.region) = fget s (PRK_RGEN.GEN s.weave.region)) ∧
  (∀ s : State, s.sys.powered = true → s.weave.op = 3 → s.weave.verifyQ = [] → noneDue s → s.weave.slot < 18 →
    answers (.regionMotifDone .nvsError) s fun t =>
      fget t PRK_RESULT.CODE = 0x16 ∧ fget t PRK_STATUS.ENGINE = 0 ∧ t.nvs = s.nvs ∧ t.bob = s.bob ∧
      regsQuiet (fun o => o == PRK_STATUS || o == PRK_RESULT) s t ∧ signalsOnly { s with weave := t.weave } t) ∧
  (∀ (p : Fin 13) (d : BitVec 4) (s : State), accepts s p PRK_CMD (BitVec.ofNat 64 (4 + d.toNat * 2 ^ 4)) = true →
    reweaveOk s d.toNat = true → s.weave.op = 0 → s.weave.verifyQ = [] → noneDue s →
    answers (.reweaveDie p d) s fun t =>
      fget t PRK_STATUS.ENGINE = 4 ∧ t.weave.op = 4 ∧ t.weave.die = d.toNat ∧ regsBut (fun o => o == PRK_STATUS) s t ∧
      t = { s with regs := t.regs, weave := t.weave }) ∧
  (∀ (p : Fin 13) (d : BitVec 4) (s : State), accepts s p PRK_CMD (BitVec.ofNat 64 (4 + d.toNat * 2 ^ 4)) = true →
    fget s (FLT_DIE.STATE d.toNat) ≠ 3 →
    answers (.reweaveDie p d) s fun t =>
      fget t PRK_RESULT.CODE = 0x13 ∧ regsQuiet (fun o => o == PRK_RESULT) s t ∧ signalsOnly s t) ∧
  (∀ s : State, s.sys.powered = true → s.weave.op = 4 → s.weave.verifyQ = [] → noneDue s → s.weave.die < 4 →
    fget s (FLT_DIE.STATE s.weave.die) = 3 →
    answers .reweaveDone s fun t =>
      t.nvs.modGen = s.nvs.modGen + 1 ∧ getReg t PRK_GEN = t.nvs.modGen ∧ fget t PRK_RESULT.CODE = 0 ∧
      tget false t.flt.dieJoin s.weave.die = true ∧ t.bob = s.bob ∧
      regsQuiet (fun o => o == PRK_STATUS || o == PRK_RESULT || o == PRK_GEN) s t) ∧
  (∀ (r : Fin 64) (s : State), s.sys.powered = true → genWaits s r = true → genReady s r = true →
    answers (.roleGenDeferred (.region r)) s fun t =>
      fget t (PRK_RGEN.GEN r) = (fget s (PRK_RGEN.GEN r) + 1) % 256 ∧
      tget 0 t.weave.genWait r = tget 0 s.weave.genWait r - 1 ∧ tget 0 t.weave.genAt r = s.now + 1 ∧
      regsBut (fun o => o == PRK_RGEN r) s t ∧ t = { s with regs := t.regs, weave := t.weave }) ∧
  (∀ (r : Fin 64) (s : State), genReady s r = false → exec (.roleGenDeferred (.region r)) s = .next s)

/-! Lanes, ports, lasers and eye safety (chapter 4). -/

/-- On a lane of a working die whose port's underlying state is DOWN, with detection not suspended: LOS_ASSERT sets LOS and keeps
the power read, LOL_ASSERT sets LOL, ALIGNMENT_LOSS clears ALIGN, UNCORRECTABLE_CODEWORD is counted once on the lane; CLOCK_LOCK
clears LOL; no other register, and no port, changes.
At the end of a window on a lane of a working die, not suspended, SD sets where it was clear and more than one symbol in
10,000 was corrected, clears where it was set and fewer than one in 20,000 was, and otherwise stays; a change is recorded once,
the corrected symbols are counted, and no port changes state. -/
def Obligations.LaneConditions : Prop :=
  let calm := fun (s : State) (l : Nat) => s.sys.powered = true ∧ dieUp s (swOf l) = true ∧ suspended s l = false ∧
    (port s (portOf s l)).under = pDOWN
  let only := fun (l : Nat) (s t : State) => regsBut (fun o => o == OPT_LANE l) s t ∧ regsOnly s t
  (∀ (l : Fin 1024) (pwr : BitVec 16) (s : State), calm s l →
    answers (.losAssert l pwr) s fun t => fbit t (OPT_LANE.LOS l) = true ∧ fget t (OPT_LANE.RXPWR l) = pwr.toNat ∧ only l s t) ∧
  (∀ (l : Fin 1024) (s : State), calm s l → answers (.lolAssert l) s fun t => fbit t (OPT_LANE.LOL l) = true ∧ only l s t) ∧
  (∀ (l : Fin 1024) (s : State), calm s l →
    answers (.alignmentLoss l) s fun t => fget t (OPT_LANE.ALIGN l) = 0 ∧ only l s t) ∧
  (∀ (l : Fin 1024) (s : State), calm s l →
    answers (.uncorrectableCodeword l) s fun t =>
      getReg t (OPT_FEC_UNC l) = getReg s (OPT_FEC_UNC l) + 1 ∧ regsBut (fun o => o == OPT_FEC_UNC l) s t ∧
      t = { s with regs := t.regs, lanes := t.lanes }) ∧
  (∀ (l : Fin 1024) (s : State), calm s l → answers (.clockLock l) s fun t => fget t (OPT_LANE.LOL l) = 0 ∧ only l s t) ∧
  (∀ (l : Fin 1024) (c r : Nat) (s : State), s.sys.powered = true → dieUp s (swOf l) = true → suspended s l = false →
    let old := fbit s (OPT_LANE.SD l)
    let new := if old then !decide (20000 * c < r) else decide (r < 10000 * c)
    answers (.sdWindow l c r) s fun t =>
      fbit t (OPT_LANE.SD l) = new ∧
      getReg t (OPT_FEC_CORR l) = getReg s (OPT_FEC_CORR l) + BitVec.ofNat 64 c ∧
      getReg t (PMC_EVT 0x0501) = getReg s (PMC_EVT 0x0501) + (if new = old then 0 else 1) ∧
      regsQuiet (fun o => o == OPT_LANE l || o == OPT_FEC_CORR l) s t ∧ signalsOnly s t)

/-- On a lit, unfenced port in UP or QUARANTINE on a working die, with detection not suspended and the references not both just
lost, a fresh LOS takes the port's underlying state to DOWN and records a fence on it with the cause of a loss of signal; the
port then reads FENCED. A LOL does the same with its own cause. -/
def Obligations.LaneConditionFencesPort : Prop :=
  let works := fun (s : State) (l : Nat) => s.sys.powered = true ∧ dieUp s (swOf l) = true ∧ suspended s l = false ∧
    isPort s (portOf s l) = true ∧ swOf (portOf s l) = swOf l ∧ linkWorks s (portOf s l) = true ∧
    fibreDark s (portOf s l / 8) = false ∧ portFenced s (portOf s l) = false ∧ s.sys.refPhase ≠ 1
  let down := fun (L cause : Nat) (t : State) =>
    (port t L).under = pDOWN ∧ portFenced t L = true ∧ fget t (PRT_FENCE.CAUSE L) = cause ∧ portState t L = pFENCED
  (∀ (l : Fin 1024) (pwr : BitVec 16) (s : State), works s l → fbit s (OPT_LANE.LOS l) = false →
    answers (.losAssert l pwr) s (down (portOf s l) 1)) ∧
  (∀ (l : Fin 1024) (s : State), works s l → fbit s (OPT_LANE.LOL l) = false →
    answers (.lolAssert l) s (down (portOf s l) 2))

/-- LOS_CLEAR of the last lane that lacked light takes a port that may come up, and that waits for no retry, into TRAINING;
TRAIN_RETRY does so when the wait is over. ALIGN_LOCK of the last lane of a fabric port in TRAINING marks alignment, from which
IDENT is due. NO_IDENT_TIMEOUT 10 ms later, with no valid record, gives QUARANTINE with reason NO_IDENT. TRAIN_TIMEOUT 50 ms
after entry gives DOWN with a retry due 10 ms later. -/
def Obligations.BringUp : Prop :=
  (∀ (l : Fin 1024) (pwr : BitVec 16) (s : State), s.sys.powered = true → dieUp s (swOf l) = true →
    let s1 := fset (fset s (OPT_LANE.RXPWR l) pwr.toNat) (OPT_LANE.LOS l) 0
    canTrain s1 (portOf s l) = true → (port s (portOf s l)).retryWait = false →
    answers (.losClear l pwr) s fun t =>
      (port t (portOf s l)).under = pTRAINING ∧ (port t (portOf s l)).trainAt = s.now ∧
      (port t (portOf s l)).trainGen = (port s (portOf s l)).trainGen + 1 ∧ fget t (OPT_LANE.LOS l) = 0 ∧
      fget t (PRT_NBR_SEEN.VALID (portOf s l)) = 0) ∧
  (∀ (L : Fin 1024) (s : State), s.sys.powered = true → canTrain s L = true → (port s L).retryWait = true →
    (port s L).retryAt ≤ s.now →
    answers (.trainRetry L) s fun t => (port t L).under = pTRAINING ∧ (port t L).trainAt = s.now) ∧
  (∀ (l : Fin 1024) (s : State), s.sys.powered = true → dieUp s (swOf l) = true → portLanes s (portOf s l) = [l.val] →
    portOf s l = l.val → (port s l).under = pTRAINING → (port s l).aligned = false → isEth s l = false →
    fbit s (OPT_LANE.LOL l) = false → fbit s (OPT_LANE.LOS l) = false →
    answers (.alignLock l) s fun t =>
      fbit t (OPT_LANE.ALIGN l) = true ∧ (port t l).aligned = true ∧ (port t l).alignAt = s.now ∧
      (port t l).under = pTRAINING ∧ regsBut (fun o => o == OPT_LANE l) s t ∧ t = { s with regs := t.regs, ports := t.ports }) ∧
  (∀ (L : Fin 1024) (s : State), s.sys.powered = true → isEth s L = false → (port s L).under = pTRAINING →
    (port s L).aligned = true → (port s L).stored = none → (port s L).pair = none →
    s.elapsed (port s L).alignAt 10000000 = true →
    answers (.noIdentTimeout L) s fun t => (port t L).under = pQUARANTINE ∧ fget t (PRT_STATE.QREASON L) = 1) ∧
  (∀ (L : Fin 1024) (s : State), s.sys.powered = true → (port s L).under = pTRAINING →
    s.elapsed (port s L).trainAt 50000000 = true →
    answers (.trainTimeout L) s fun t =>
      (port t L).under = pDOWN ∧ (port t L).retryWait = true ∧ (port t L).retryAt = s.now + 10000000 ∧
      getReg t (PMC_EVT 0x0401) = getReg s (PMC_EVT 0x0401) + 1)

/-- On a lit fabric port of a working die whose link works: IDENT_TX due after a second sends IDENT_A and IDENT_B that carry
KIND 1, versions 0b111, the port's number and fibre, the serial, and a CRC-32 that holds. IDENT_RX of a bad record, or of an
IDENT_B alone, is only counted in `PRT_RX_IDENT`; a first valid record is kept for the next; the same record again is stored and
read in `PRT_NBR_SEEN`. -/
def Obligations.Ident : Prop :=
  let lit := fun (s : State) (L : Nat) => clocked s = true ∧ isEth s L = false ∧ isPort s L = true ∧
    dieUp s (swOf L) = true ∧ fibreDark s (L / 8) = false ∧ linkWorks s L = true
  (∀ (L : Fin 1024) (s : State), lit s L → s.elapsed (port s L).identAt 1000000000 = true →
    answers (.identTx L) s fun t =>
      let r := identRecord s L;
      r.length = 32 ∧ r.take 4 = [1, 7] ++ le 2 L.val ∧ (r.drop 8).take 16 = serialBytes ∧
        fieldAt r 0x1A 2 = L.val / 8 ∧ r.drop 28 = le 4 (crc32 (r.take 28)) ∧
        t.out = .block L (mkBlk 0x34 (r.drop 16)) :: .block L (mkBlk 0x33 (r.take 16)) :: s.out ∧
        t = { s with ports := t.ports, out := t.out }) ∧
  (∀ (L : Fin 1024) (r : BitVec 256) (a : Bool) (s : State), lit s L → (a = false ∨ idValid r = false) →
    answers (.identRx L r a) s fun t =>
      getReg t (PRT_RX_IDENT L) = getReg s (PRT_RX_IDENT L) + 1 ∧ regsBut (fun o => o == PRT_RX_IDENT L) s t ∧
      port t L = { port s L with resync := false } ∧ (∀ k, k ≠ L.val → port t k = port s k) ∧
      t = { s with regs := t.regs, ports := t.ports }) ∧
  (∀ (L : Fin 1024) (r : BitVec 256) (s : State), lit s L → idValid r = true → (port s L).pair ≠ some r →
    answers (.identRx L r true) s fun t => (port t L).pair = some r ∧ t = { s with ports := t.ports }) ∧
  (∀ (L : Fin 1024) (r : BitVec 256) (s : State), lit s L → idValid r = true → (port s L).pair = some r →
    answers (.identRx L r true) s fun t =>
      fbit t (PRT_NBR_SEEN.VALID L) = true ∧ fget t (PRT_NBR_SEEN.PEER_PORT L) = idPeerPort r ∧
      fget t (PRT_NBR_SEEN.KIND L) = idKind r ∧ fget t (PRT_NBR_SEEN.FW_VERSION L) = idFw r)

/-- An accepted REIDENT makes IDENT due for 1 ms and forgets a half pair; RETRAIN takes a port to DOWN without a fence;
a write of `PRT_NBR_EXP` on an UP fabric port compares the stored record: the port goes to QUARANTINE with the first failing
check's reason, or stays UP. -/
def Obligations.PortCommands : Prop :=
  (∀ (p : Fin 13) (L : Fin 1024) (s : State), accepts s p (PRT_CMD L) 2 = true →
    answers (.reident p L) s fun t =>
      (port t L).reident = s.now + 1000000 ∧ (port t L).pair = none ∧ (port t L).identAt = 0 ∧
      (port t L).under = (port s L).under ∧ regsBut (fun _ => false) s t ∧ t = { s with regs := t.regs, ports := t.ports }) ∧
  (∀ (p : Fin 13) (L : Fin 1024) (s : State), accepts s p (PRT_CMD L) 1 = true → (port s L).under ≠ pDOWN →
    answers (.retrain p L) s fun t =>
      (port t L).under = pDOWN ∧ portFenced t L = portFenced s L ∧ (port t L).retryAt = s.now ∧ (port t L).retryWait = true) ∧
  (∀ (p : Fin 13) (L : Fin 1024) (w : Word) (r : BitVec 256) (s : State), accepts s p (PRT_NBR_EXP L) w = true →
    isEth s L = false → (port s L).under = pUP → fibreDark s (L / 8) = false → (port s L).stored = some r →
    answers (.nbrExpWrite p L w) s fun t =>
      let q := identReason (setReg s (PRT_NBR_EXP L) w) L r;
      fget t (PRT_STATE.QREASON L) = q ∧ (port t L).under = (if q = 0 then pUP else pQUARANTINE) ∧
      fget t (PRT_NBR_EXP.CHECK L) = wget w (PRT_NBR_EXP.CHECK 0) ∧ fget t (PRT_NBR_EXP.KIND L) = wget w (PRT_NBR_EXP.KIND 0))

/-- A lit laser in OK whose average falls to −1.5 dB but not to −3.0 dB is set to WARN with one event. SPARE_LOCKED in a running
changeover starts the swaps at the first fibre. A spare that has not locked by its 20 ms is set SPARE_FAILED. FIBRE_SWAP of an
unfinished changeover with no frame in flight gives the lane the spare as its source and goes on to the next fibre. -/
def Obligations.SpareChangeover : Prop :=
  (∀ (i : Fin 160) (rel : BitVec 16) (s : State), s.sys.powered = true → s.sys.lasersOn = true → lasState s i = lasOK →
    sext 16 rel.toNat ≤ -150 → -300 < sext 16 rel.toNat →
    answers (.laserFade i rel false) s fun t =>
      lasState t i = lasWARN ∧ fget t (LAS_STAT.REL_PWR i) = rel.toNat ∧ fget t (LAS_STAT.W i) = fget s (LAS_STAT.W i) ∧
      getReg t (PMC_EVT 0x0502) = getReg s (PMC_EVT 0x0502) + 1 ∧
      regsQuiet (fun o => o == LAS_STAT i) s t ∧ signalsOnly s t) ∧
  (∀ (b : Fin 16) (s : State), s.sys.powered = true → (bank s b).active = true → (bank s b).locked = false →
    answers (.spareLocked b) s fun t =>
      bank t b = { bank s b with locked := true, next := 0 } ∧ (∀ c, c ≠ b.val → bank t c = bank s c) ∧
      t = { s with banks := t.banks }) ∧
  (∀ (b : Fin 16) (s : State), s.sys.powered = true → (bank s b).active = true → (bank s b).locked = false →
    (bank s b).lockBy ≤ s.now → ((bank s b).spare = 8 ∨ (bank s b).spare = 9) → (bank s b).pos < 8 →
    (bank s b).waiting = [] →
    answers (.spareLockTimeout b) s fun t =>
      lasState t (10 * b + (bank s b).spare) = lasSPAREFAILED ∧
      tget 0 t.nvs.laserState (10 * b + (bank s b).spare) = lasSPAREFAILED) ∧
  (∀ (b : Fin 16) (s : State), s.sys.powered = true → (bank s b).active = true → (bank s b).locked = true →
    (bank s b).next < 7 →
    let l := bankLane b (bank s b).next (fget s (LAS_STAT.W (10 * b + (bank s b).spare)))
    (port s (portOf s l)).txBusy = none → (bank s b).spare < 16 →
    answers (.fibreSwap b) s fun t =>
      fget t (OPT_LANE.SOURCE l) = (bank s b).spare ∧ fget t (OPT_LANE.NOLASER l) = 0 ∧
      (bank t b).next = (bank s b).next + 1 ∧ regsBut (fun o => o == OPT_LANE l) s t ∧
      t = { s with regs := t.regs, banks := t.banks, out := t.out })

/-- On a fibre of a working die with R103 and R104 in force and not forced closed: FIBRE_DARK of an open fibre closes the gate and
the fibre is dark; a due FIBRE_PROBE opens it for 2 ms and the next is due 10 s later; PROBE_END closes it again; FIBRE_LIGHT of
a dark fibre opens it for good. An accepted write that sets FORCE_CLOSE closes the gate. -/
def Obligations.FibreGates : Prop :=
  (∀ (F : Fin 128) (s : State), s.sys.powered = true → dieUp s (F / 32) = true → gateMay s F = true → fibreDark s F = false →
    answers (.fibreDark F) s fun t =>
      fget t (OPT_FIBRE.LIGHT F) = 0 ∧ fget t (OPT_FIBRE.OPEN F) = 0 ∧ fibreDark t F = true ∧
      s.now ≤ (fibre t F).probeAt ∧ (fibre t F).probeAt < s.now + 10000000000) ∧
  (∀ (F : Fin 128) (s : State), s.sys.powered = true → dieUp s (F / 32) = true → gateMay s F = true → fibreDark s F = true →
    (fibre s F).probing = false → (fibre s F).probeAt ≤ s.now →
    answers (.fibreProbe F) s fun t =>
      fbit t (OPT_FIBRE.OPEN F) = true ∧ fibreDark t F = true ∧ (fibre t F).probeEnd = s.now + 2000000 ∧
      (fibre t F).probeAt = s.now + 10000000000 ∧ regsBut (fun o => o == OPT_FIBRE F) s t ∧
      t = { s with regs := t.regs, fibres := t.fibres }) ∧
  (∀ (F : Fin 128) (s : State), s.sys.powered = true → (fibre s F).probing = true → (fibre s F).probeEnd ≤ s.now →
    answers (.probeEnd F) s fun t =>
      fget t (OPT_FIBRE.OPEN F) = 0 ∧ (fibre t F).probing = false ∧ regsBut (fun o => o == OPT_FIBRE F) s t ∧
      t = { s with regs := t.regs, fibres := t.fibres }) ∧
  (∀ (F : Fin 128) (s : State), s.sys.powered = true → dieUp s (F / 32) = true → gateMay s F = true → fibreDark s F = true →
    answers (.fibreLight F) s fun t =>
      fbit t (OPT_FIBRE.OPEN F) = true ∧ fbit t (OPT_FIBRE.LIGHT F) = true ∧ fibreDark t F = false) ∧
  (∀ (p : Fin 13) (F : Fin 128) (s : State), accepts s p (OPT_FIBRE F) 4 = true → fbit s (OPT_FIBRE.FORCE_CLOSE F) = false →
    answers (.forceCloseWrite p F 4) s fun t =>
      fbit t (OPT_FIBRE.FORCE_CLOSE F) = true ∧ fget t (OPT_FIBRE.OPEN F) = 0 ∧ fibreDark t F = true)

/-! The Jalesh link outside frames (chapter 5). -/

/-- On a fabric port that takes control blocks: an ignored block is counted in `PRT_RX_CTRL` and ends a discarding; IDLE and
SWAP_FILL only end a discarding; ALIGN changes nothing; SCRUB is counted; CREDIT brings the returned totals of its network up to
the counts it carries, modulo 2^24, and leaves the other network's; CREDIT_INIT replaces its network's limits; PAUSE_SWAP
suspends detection for the fill and 600 ns, a further one prolongs and never shortens that, and PAUSE_SWAP_END ends that when the time is over. -/
def Obligations.ControlBlocks : Prop :=
  let okBlk := fun (L : Fin 1024) (b : BitVec 256) (k : Nat) (s : State) =>
    clocked s = true ∧ rxOpen s L = true ∧ blkBad b = false ∧ blkByte b 0 = k
  let portOnly := fun (L : Fin 1024) (s t : State) =>
    t = { s with ports := t.ports } ∧ (∀ k, k ≠ L.val → port t k = port s k) ∧ (port t L).resync = false
  (∀ (L : Fin 1024) (b : BitVec 256) (s : State), clocked s = true → rxOpen s L = true → blkBad b = true →
    answers (.controlBlockBad L b) s fun t =>
      getReg t (PRT_RX_CTRL L) = getReg s (PRT_RX_CTRL L) + 1 ∧ (port t L).resync = false ∧
      (port t L).under = (port s L).under ∧ regsBut (fun o => o == PRT_RX_CTRL L) s t ∧
      t = { s with regs := t.regs, ports := t.ports }) ∧
  (∀ (L : Fin 1024) (b : BitVec 256) (s : State), okBlk L b 0x1E s → answers (.idleRx L b) s (portOnly L s)) ∧
  (∀ (L : Fin 1024) (b : BitVec 256) (s : State), okBlk L b 0x56 s → answers (.swapFillRx L b) s (portOnly L s)) ∧
  (∀ (L : Fin 1024) (b : BitVec 256) (s : State), okBlk L b 0x4B s → exec (.alignRx L b) s = .next s) ∧
  (∀ (L : Fin 1024) (b : BitVec 256) (s : State), okBlk L b 0x66 s →
    answers (.scrubRx L b) s fun t =>
      getReg t (PRT_RX_SCRUB L) = getReg s (PRT_RX_SCRUB L) + 1 ∧ regsBut (fun o => o == PRT_RX_SCRUB L) s t ∧
      portOnly L { s with regs := t.regs } t) ∧
  (∀ (L : Fin 1024) (b : BitVec 256) (s : State), okBlk L b 0x2D s →
    answers (.creditRx L b) s fun t =>
      portOnly L s t ∧ (port t L).creditAt = max s.now (if (port s L).suspended then (port s L).suspend else 0) ∧
      (∀ k, k < 8 →
        let old := tget 0 (port s L).peerRet (8 * blkByte b 1 + k);
        let new := tget 0 (port t L).peerRet (8 * blkByte b 1 + k);
        new % 2 ^ 24 = blkField b (4 + 3 * k) 3 ∧ old ≤ new ∧ new < old + 2 ^ 24) ∧
      (∀ c, c / 8 ≠ blkByte b 1 → tget 0 (port t L).peerRet c = tget 0 (port s L).peerRet c)) ∧
  (∀ (L : Fin 1024) (b : BitVec 256) (s : State), okBlk L b 0x2F s →
    answers (.creditInitRx L b) s fun t =>
      portOnly L s t ∧ tget 0 (port t L).peerS (blkByte b 1) = blkField b 20 3 ∧
      (∀ k, k < 8 → tget 0 (port t L).peerD (8 * blkByte b 1 + k) = blkField b (4 + 2 * k) 2) ∧
      (∀ c, c / 8 ≠ blkByte b 1 → tget 0 (port t L).peerD c = tget 0 (port s L).peerD c)) ∧
  (∀ (L : Fin 1024) (b : BitVec 256) (s : State), okBlk L b 0x55 s → widthOf s L ≠ 5 →
    (port s L).suspended = false →
    answers (.pauseSwapRx L b) s fun t =>
      portOnly L s t ∧ (port t L).suspended = true ∧
      10 * ((port t L).suspend - s.now - 600) < 512 * blkByte b 1 + 10 ∧
      512 * blkByte b 1 ≤ 10 * ((port t L).suspend - s.now - 600) ∧
      (port t L).creditAt - (port s L).creditAt = (port t L).suspend - s.now) ∧
  (∀ (L : Fin 1024) (b : BitVec 256) (s : State), okBlk L b 0x55 s →
    (port s L).suspended = true → s.now ≤ (port s L).suspend →
    answers (.pauseSwapRx L b) s fun t =>
      portOnly L s t ∧ (port t L).suspended = true ∧ (port s L).suspend ≤ (port t L).suspend ∧
      (port t L).creditAt - (port s L).creditAt = (port t L).suspend - (port s L).suspend) ∧
  (∀ (L : Fin 1024) (s : State), s.sys.powered = true → (port s L).suspended = true → (port s L).suspend ≤ s.now →
    answers (.pauseSwapEnd L) s fun t =>
      port t L = { port s L with suspended := false } ∧ (∀ k, k ≠ L.val → port t k = port s k) ∧
      t = { s with ports := t.ports })

/-- On a lit working fabric port in UP that is not its unpicking owner's: CREDIT_TX of a network whose returned counts have
changed sends its eight counts, modulo 2^24, under a CRC that holds, where a die that holds ingress (R60) repeats the last sent
count of a lossless channel; a due CREDIT_INIT_TX sends both networks' allocations, 36
dedicated units a channel and 8 × VOQ_MIB − 288 shared units per lane; 50 µs without CREDIT take the port DOWN as a link failure
and fence it. A due ALIGN_TX of a lane whose stream leaves sends its marker count and counts on; SCRUB_TX of a lane whose owner is UNPICKING sends a
SCRUB block. -/
def Obligations.ControlBlocksSent : Prop :=
  let sends := fun (L k : Nat) (s t : State) =>
    t.out = .block L (sentBlock t) :: s.out ∧ blkCrcOk (sentBlock t) = true ∧ blkByte (sentBlock t) 0 = k ∧
    t = { s with ports := t.ports, lanes := t.lanes, out := t.out }
  (∀ (L : Fin 1024) (n : Fin 2) (s : State), clocked s = true → txOpen s L = true →
    bit (port s L).retDirty.toNat n = true →
    answers (.creditTx L n) s fun t =>
      sends L 0x2D s t ∧ blkByte (sentBlock t) 1 = n ∧
      (∀ k, k < 8 → blkField (sentBlock t) (4 + 3 * k) 3 =
        tget 0 (if ingressHeld s (swOf L) && !chanLossy s (8 * n + k) then (port s L).sentRet else (port s L).returned) (8 * n + k) % 2 ^ 24) ∧
      bit (port t L).retDirty.toNat n = false) ∧
  (∀ (L : Fin 1024) (s : State), clocked s = true → txOpen s L = true → (port s L).under = pUP →
    portUnpicking s L = false → (port s L).initAt = 0 → 36 ≤ tget 192 s.sys.str.voqMib (swOf L) →
    tget 192 s.sys.str.voqMib (swOf L) ≤ 224 →
    answers (.creditInitTx L) s fun t =>
      let b := sentBlock t;
      blkCrcOk b = true ∧ blkByte b 0 = 0x2F ∧ blkByte b 1 = 1 ∧ t.out.drop 2 = s.out ∧ t.out.length = s.out.length + 2 ∧
      (∀ k, k < 8 → blkField b (4 + 2 * k) 2 = 36 * lanesOf s L) ∧
      blkField b 20 3 = (8 * tget 192 s.sys.str.voqMib (swOf L) - 288) * lanesOf s L ∧
      t = { s with ports := t.ports, out := t.out }) ∧
  (∀ (L : Fin 1024) (s : State), s.sys.powered = true → txOpen s L = true → portFenced s L = false → s.sys.refPhase ≠ 1 →
    (port s L).suspended = false → s.elapsed (port s L).creditAt 50000 = true →
    answers (.creditTimeout L) s fun t =>
      (port t L).under = pDOWN ∧ portFenced t L = true ∧ portState t L = pFENCED ∧ fget t (PRT_FENCE.CAUSE L) = 5) ∧
  (∀ (l : Fin 1024) (s : State), clocked s = true → isEth s (portOf s l) = false → laneSends s l = true → markerDue s l = true →
    answers (.alignTx l) s fun t =>
      sends (portOf s l) 0x4B s t ∧ blkField (sentBlock t) 4 4 = (lane s l).alignCnt % 2 ^ 32 ∧
      (lane t l).alignCnt = ((lane s l).alignCnt + 1) % 2 ^ 32 ∧ t.ports = s.ports) ∧
  (∀ (l : Fin 1024) (s : State), clocked s = true → portUnpicking s (portOf s l) = true → isEth s (portOf s l) = false →
    isDisabled s (portOf s l) = false → laneLive s l = true → fibreDark s (l / 8) = false → txSelector s l = .oe →
    answers (.scrubTx l) s fun t => sends (portOf s l) 0x66 s t ∧ t.ports = s.ports ∧ t.lanes = s.lanes)

/-- PFC received on a lit working Ethernet-mode port is counted; each enabled priority that maps to a request channel is paused
for its quanta of 512 bit times at the port's rate, every other priority is left as it was. PFC_PAUSE_EXPIRE at the time's end
forgets the pause. PFC_XOFF_REPEAT 20 µs after the last XOFF of a channel still below its threshold sends and counts another
with quanta 0xFFFF, which the watch stream notes for its period (R450). -/
def Obligations.PriorityFlowControl : Prop :=
  (∀ (L : Fin 1024) (en : BitVec 8) (q : BitVec 128) (s : State), clocked s = true → isPort s L = true →
    isEth s L = true → dieUp s (swOf L) = true → linkWorks s L = true → fibreDark s (L / 8) = false →
    answers (.pfcRx L en q) s fun t =>
      getReg t (PRT_PFC_RX L) = getReg s (PRT_PFC_RX L) + 1 ∧ regsBut (fun o => o == PRT_PFC_RX L) s t ∧
      t = { s with regs := t.regs, ports := t.ports } ∧ (∀ k, k ≠ L.val → port t k = port s k) ∧
      ∀ p, p < 8 → tget 0 (port t L).pfcUntil p =
        if bit en.toNat p && (ethChan s p).isSome then s.now + ceilDiv (bits q.toNat (16 * p) 16 * 512) (portGbps s L)
        else tget 0 (port s L).pfcUntil p) ∧
  (∀ (L : Fin 1024) (p : Fin 8) (s : State), s.sys.powered = true → tget 0 (port s L).pfcUntil p ≤ s.now →
    answers (.pfcPauseExpire L p) s fun t =>
      tget 0 (port t L).pfcUntil p = 0 ∧ (∀ q, q ≠ p.val → tget 0 (port t L).pfcUntil q = tget 0 (port s L).pfcUntil q) ∧
      t = { s with ports := t.ports }) ∧
  (∀ (L : Fin 1024) (c : Fin 8) (s : State), clocked s = true → isEth s L = true → linkWorks s L = true →
    tget false (port s L).xoff c = true → s.elapsed (tget 0 (port s L).xoffAt c) 20000 = true →
    ethRemain s L c < 1344 * lanesOf s L →
    answers (.pfcXoffRepeat L c) s fun t =>
      t.out = .pfc L (chanEthPrio s c) 0xFFFF :: s.out ∧ getReg t (PRT_PFC_TX L) = getReg s (PRT_PFC_TX L) + 1 ∧
      tget 0 (port t L).xoffAt c = s.now ∧ regsBut (fun o => o == PRT_PFC_TX L) s t ∧
      tget false t.tel.xoffSent L = true ∧ (∀ k, k ≠ L.val → tget false t.tel.xoffSent k = tget false s.tel.xoffSent k) ∧
      t = { s with regs := t.regs, ports := t.ports, out := t.out, tel := { s.tel with xoffSent := t.tel.xoffSent } })

/-! Frames and the switch core (chapter 6). -/

/-- On a lit working fabric port that is not discarding: a header whose HCRC fails is counted and starts a discarding; a frame
with a failed CRC is counted and only its credits go back. In WOVEN a good unicast frame on a lossless channel whose endpoint
entry names an UP fabric port, with no fence, owner, chip record or meter in its way and room in the switch die, is stored whole
at the tail of the VOQ of that output and channel on its ingress die, and counted. -/
def Obligations.FabricReceive : Prop :=
  let open_ := fun (s : State) (L : Nat) => clocked s = true ∧ isPort s L = true ∧ isEth s L = false ∧
    dieUp s (swOf L) = true ∧ fibreDark s (L / 8) = false ∧ linkWorks s L = true ∧ (port s L).resync = false
  let clear := fun (s : State) (L : Nat) => portState s L = pUP ∧ portFenced s L = false ∧ fbit s (PRT_OWNER.OWNED L) = false
  (∀ (L : Fin 1024) (h : BitVec 256) (b : List Byte) (s : State), open_ s L → hf h 3 0 16 ≠ hcrcOf h →
    answers (.frameRx L h b false false) s fun t =>
      getReg t (PRT_RX_HDR L) = getReg s (PRT_RX_HDR L) + 1 ∧ (port t L).resync = true ∧
      (port t L).returned = (port s L).returned ∧ regsQuiet (fun o => o == PRT_RX_HDR L) s t ∧
      signalsOnly { s with ports := t.ports } t) ∧
  (∀ (L : Fin 1024) (h : BitVec 256) (b : List Byte) (s : State), open_ s L → hf h 3 0 16 = hcrcOf h → hLen h = b.length →
    b.length ≤ 8192 → hf h 3 32 32 ≠ frameCrc h b →
    answers (.frameRx L h b false false) s fun t =>
      getReg t (PRT_RX_CRC L) = getReg s (PRT_RX_CRC L) + 1 ∧
      tget 0 (port t L).returned (hChan h) = (tget 0 (port s L).returned (hChan h) + ceilDiv (32 + b.length) 256) % 2 ^ 24 ∧
      tget 0 (port t L).held (hChan h) = tget 0 (port s L).held (hChan h) ∧ t.core = { s.core with nextId := t.core.nextId } ∧
      regsQuiet (fun o => o == PRT_RX_CRC L) s t) ∧
  (∀ (L E : Fin 1024) (h : BitVec 256) (b : List Byte) (e : Entry) (s : State), open_ s L → s.mode = mWOVEN →
    hf h 3 0 16 = hcrcOf h → hLen h = b.length → b.length ≤ 8192 → hf h 3 32 32 = frameCrc h b →
    overCredit (port s L) (hChan h) (unitsOf (32 + b.length)) = false → fieldBad s L h = false → clear s L →
    (tget {} s.flt.chips (hSrc h)).fenced = false → (tget {} s.flt.chips (hSrc h)).check = false →
    (tget {} s.flt.chips (hDst h)).fenced = false → hMcast h = false → hUnord h = false → hEnc h = false →
    fbit s TBL_SELF.VALID = false → direct s (swOf L) 4 (hDst h) = some e → eAction e = 0 → eTarget e = E.val →
    fbit s (PRT_TMCLS.MTR_EN L (hChan h)) = false → isPort s E = true → isEth s E = false → portState s E = pUP →
    portUnpicking s E = false → chanLossy s (hChan h) = false →
    newCells (voq s (voqKey (swOf L) E (hChan h))) (32 + b.length) ≤ cellsFree s (swOf L) →
    answers (.frameRx L h b false false) s fun t =>
      let k := voqKey (swOf L) E (hChan h);
      (voq t k).ents.dropLast = (voq s k).ents ∧
      ((lastFrame t k).map fun f => (f.hdr, f.body, f.ingress, f.dec)) = some (h, b, L.val, E.val) ∧
      (∀ k', k' ≠ k → voq t k' = voq s k') ∧ t.core.egr = s.core.egr ∧
      getReg t (PRT_RX_FRAMES L) = getReg s (PRT_RX_FRAMES L) + 1 ∧
      getReg t (PRT_RX_BYTES L) = getReg s (PRT_RX_BYTES L) + BitVec.ofNat 64 (32 + b.length) ∧
      regsBut (fun o => inPortPage o && pageOf o == L.val || inCtxCount o) s t ∧
      t = { s with regs := t.regs, ports := t.ports, core := t.core })

/-- On a lit working Ethernet-mode port: a frame shorter than 64 bytes or longer than 9,216 is counted in `PRT_ETH_SIZE`, one
whose FCS fails in `PRT_RX_CRC`, and nothing else happens. In WOVEN, with learning and routing off, a good untagged frame whose
VLAN and destination MAC have an L2 entry for an UP Ethernet-mode port is stored whole at the tail of the VOQ of that output
and of the lowest request channel with its priority. -/
def Obligations.EthernetReceive : Prop :=
  let open_ := fun (s : State) (L : Nat) => clocked s = true ∧ isPort s L = true ∧ isEth s L = true ∧
    dieUp s (swOf L) = true ∧ fibreDark s (L / 8) = false ∧ linkWorks s L = true
  let clear := fun (s : State) (L : Nat) => portState s L = pUP ∧ portFenced s L = false ∧ fbit s (PRT_OWNER.OWNED L) = false
  (∀ (L : Fin 1024) (b : List Byte) (s : State), open_ s L → (b.length < 64 ∨ 9216 < b.length) →
    answers (.ethFrameRx L b false false) s fun t =>
      getReg t (PRT_ETH_SIZE L) = getReg s (PRT_ETH_SIZE L) + 1 ∧ regsBut (fun o => o == PRT_ETH_SIZE L) s t ∧ regsOnly s t) ∧
  (∀ (L : Fin 1024) (b : List Byte) (s : State), open_ s L → 64 ≤ b.length → b.length ≤ 9216 → ethFcsOk b = false →
    answers (.ethFrameRx L b false false) s fun t =>
      getReg t (PRT_RX_CRC L) = getReg s (PRT_RX_CRC L) + 1 ∧ regsBut (fun o => o == PRT_RX_CRC L) s t ∧ regsOnly s t) ∧
  (∀ (L E : Fin 1024) (c i : Nat) (b : List Byte) (e : Entry) (s : State), open_ s L → s.mode = mWOVEN → 64 ≤ b.length →
    b.length ≤ 9216 → ethFcsOk b = true → ethTagged b = false → ethType b ≠ 0x8808 → ptpOffset b = none →
    ethChan s (fget s (PRT_ETH.DEF_PRIO L)) = some c → clear s L → fbit s (PRT_L3.LEARN L) = false →
    fbit s (PRT_L3.ROUTE L) = false →
    findKey (tcopy s (swOf L) 5) (l2Key (fget s (PRT_L3.DEF_VLAN L)) (ethDmac b)) = some (i, e) →
    eAction e = 0 → eTarget e = E.val → fbit s (PRT_TMCLS.MTR_EN L c) = false → isPort s E = true → isEth s E = true →
    portState s E = pUP → portUnpicking s E = false → chanLossy s c = false →
    newCells (voq s (voqKey (swOf L) E c)) b.length ≤ cellsFree s (swOf L) →
    answers (.ethFrameRx L b false false) s fun t =>
      let k := voqKey (swOf L) E c;
      (voq t k).ents.dropLast = (voq s k).ents ∧
      ((lastFrame t k).map fun f => (f.body, f.ingress, f.dec)) = some (b, L.val, E.val) ∧
      (∀ k', k' ≠ k → voq t k' = voq s k') ∧ t.core.egr = s.core.egr ∧ t.tbl.copies = s.tbl.copies ∧
      getReg t (PRT_RX_FRAMES L) = getReg s (PRT_RX_FRAMES L) + 1)

/-- In any state, an epoch sends at most 256 cells from each die, and touches no table, key, memory, NVS or traffic setting.
With a single frame of at most 256 bytes in the switch core, in a VOQ of its egress die for an idle single-lane fabric port, an
epoch in WOVEN takes it out of its VOQ and puts it in flight as one whole cell.
The oldest cell of a stream in flight, next in sequence, with nothing held, and holding the end of a frame for an UP port,
puts that frame at the tail of its egress queue. A cell ahead of its turn is held, and the gap's time starts. A gap that has
stood 10 µs is given up: the cells missing before the first one held are counted as lost at the egress die. -/
def Obligations.Cells : Prop :=
  let sent := fun (s t : State) (d : Nat) =>
    ((List.range 4).map fun j => tget 0 t.core.seqTx (4 * d + j) - tget 0 s.core.seqTx (4 * d + j)).sum
  (∀ s : State, s.sys.powered = true →
    answers .schedEpoch s fun t =>
      (∀ d, d < 4 → sent s t d ≤ 256) ∧ t.nvs = s.nvs ∧ t.tbl = s.tbl ∧ t.mem = s.mem ∧ t.sec = s.sec ∧ t.tm = s.tm ∧
      t.sys = s.sys ∧ t.weave = s.weave) ∧
  (∀ (E : Fin 1024) (f : Frame) (q : Voq) (s : State), s.sys.powered = true → s.mode = mWOVEN →
    s.core.voqs = [(voqKey (swOf E) E f.chan, q)] → q.ents = [.frame f] → q.crossed = 0 → f.bob = none → f.eth = false →
    f.chan < 16 → frameLen f ≤ 256 → isEth s E = false → widthOf s E = 1 → 32 ≤ tget 48 s.sys.str.egrMib (swOf E) →
    q.reqs = [] → s.core.flight = [] → s.core.egrBytes = [] → s.core.egrDesc = [] → dieUp s (swOf E) = true →
    answers .schedEpoch s fun t =>
      (voq t (voqKey (swOf E) E f.chan)).ents = [] ∧
      tget [] t.core.flight (5 * swOf E) = tget [] s.core.flight (5 * swOf E) ++
        [{ seq := tget 0 s.core.seqTx (5 * swOf E), relay := 4, pieces := [{ f := f, n := frameLen f, last := true, outs := [E.val] }] }] ∧
      tget 0 t.core.seqTx (5 * swOf E) = tget 0 s.core.seqTx (5 * swOf E) + 1) ∧
  (∀ (i j : Fin 4) (r : Fin 5) (f : Frame) (n : Nat) (c : Cell) (E : Fin 1024) (s : State), s.sys.powered = true →
    tget [] s.core.flight (4 * i + j) = [c] → c.relay = r.val → c.held = false → c.pieces = [{ f := f, n := n, last := true, outs := [E.val] }] →
    tget 0 s.core.seqRx (4 * i + j) = c.seq → tget [] s.core.early (4 * i + j) = [] → f.dec < 1024 →
    tget false s.core.lost (lostKey f E) = false → portState s E = pUP → portUnpicking s E = false →
    answers (.cellArrive i ⟨j, r⟩) s fun t =>
      let k := egrKey E f.chan f.sub;
      tget [] t.core.egr k = tget [] s.core.egr k ++ [f] ∧ tget 0 t.core.seqRx (4 * i + j) = c.seq + 1 ∧
      tget [] t.core.flight (4 * i + j) = [] ∧ (∀ k', k' ≠ k → tget [] t.core.egr k' = tget [] s.core.egr k') ∧
      t = { s with core := t.core }) ∧
  (∀ (i j : Fin 4) (r : Fin 5) (c : Cell) (rest : List Cell) (s : State), s.sys.powered = true →
    tget [] s.core.flight (4 * i + j) = c :: rest → c.relay = r.val → c.held = false → tget 0 s.core.seqRx (4 * i + j) < c.seq →
    tget 0 s.core.gapAt (4 * i + j) = 0 →
    answers (.cellArrive i ⟨j, r⟩) s fun t =>
      tget [] t.core.early (4 * i + j) = tget [] s.core.early (4 * i + j) ++ [c] ∧
      tget 0 t.core.gapAt (4 * i + j) = s.now + 1 ∧ tget 0 t.core.seqRx (4 * i + j) = tget 0 s.core.seqRx (4 * i + j) ∧
      t.core.egr = s.core.egr ∧ t = { s with core := t.core }) ∧
  (∀ (i j : Fin 4) (c x : Cell) (s : State), s.sys.powered = true → tget 0 s.core.gapAt (4 * i + j) ≠ 0 →
    s.elapsed (tget 0 s.core.gapAt (4 * i + j) - 1) 10000 = true → tget [] s.core.early (4 * i + j) = [x] →
    tget [] s.core.flight (4 * i + j) = [c] → c.seq < x.seq →
    c.seq < tget 0 s.core.seqTx (4 * i + j) →
    answers (.reseqTimeout i j) s fun t =>
      getReg t (SWC_RESEQ_LOST j) = getReg s (SWC_RESEQ_LOST j) + 1 ∧ tget [] t.core.flight (4 * i + j) = [] ∧
      getReg t (PMC_EVT 0x0601) = getReg s (PMC_EVT 0x0601) + 1)

/-- The last member of a head multicast frame that is still unserved 20 µs after the frame reached the head, an UP port, gets a
residue reference at the tail of its unicast VOQ, and the multicast VOQ moves on; before that time nothing happens. A report of a
suppressed copy of a frame that is no RESULT is taken off the reports and changes nothing else. -/
def Obligations.MulticastResidue : Prop :=
  (∀ (d : Fin 4) (c : Fin 16) (p : Fin 1024) (f : Frame) (s : State), s.sys.powered = true → mcHead s d c = some f →
    (tget {} s.core.mc f.id).headAt ≠ 0 → s.elapsed ((tget {} s.core.mc f.id).headAt - 1) 20000 = true →
    (tget {} s.core.mc f.id).todo = [p.val] → portFenced s p = false →
    portState s p = pUP → unpickShut s p c = false →
    answers (.mcResidueTimeout d c) s fun t =>
      (voq t (voqKey d p c)).ents = (voq s (voqKey d p c)).ents ++
        [.ref f.id (if (tget {} s.core.mc f.id).cell.contains p.val then (tget {} s.core.mc f.id).pos
          else (tget {} s.core.mc f.id).pos + 256)] ∧
      (voq t (mcKey d c)).ents = (voq s (mcKey d c)).ents.drop 1 ∧ (tget {} t.core.mc f.id).todo = [] ∧
      (tget {} t.core.mc f.id).refs = (tget {} s.core.mc f.id).refs + 1 ∧ t = { s with core := t.core }) ∧
  (∀ (d : Fin 4) (c : Fin 16) (f : Frame) (s : State), mcHead s d c = some f → (tget {} s.core.mc f.id).headAt ≠ 0 →
    s.elapsed ((tget {} s.core.mc f.id).headAt - 1) 20000 = false → exec (.mcResidueTimeout d c) s = .next s) ∧
  (∀ (p : Nat) (f : Frame) (rest : List (Nat × Frame)) (s : State), s.sys.powered = true → s.core.reports = (p, f) :: rest →
    hType f.hdr ≠ tRESULT →
    answers .suppressReport s fun t => t = { s with core := { s.core with reports := rest } })

/-! Forwarding tables (chapter 7). -/

/-- A command of the register path at the head of the order, its KEY and DATA well formed: SEARCH returns the entry with exactly
its key, or NOT_FOUND; NEXT the first entry at or after its cursor, with the cursor one past it; INSERT of a new key of a direct
table writes it on all four dies; DELETE removes the entry from all four; INSERT and DELETE advance the epoch by one, which the
completion gives. The completion clears BUSY. -/
def Obligations.TableCommands : Prop :=
  let front := fun (s : State) (d : List Byte) (op : Nat) (rest : List Submission) => s.sys.powered = true ∧
    s.tbl.order = .cmd d none :: rest ∧ dOp d = op ∧ bit (dFlags d) 4 = false ∧ s.mode ≠ mBOOT ∧ s.mode ≠ mFAULTED ∧
    (∀ k, k < 4 → dieUp s k = true)
  let done := fun (s : State) (d : List Byte) (code : Nat) (rest : List Submission) (t : State) =>
    fieldAt (resBytes t) 0 1 = code ∧ fieldAt (resBytes t) 4 4 = dTag d ∧ fieldAt (resBytes t) 8 8 = (getReg t TBL_EPOCH).toNat ∧
    fbit t TBL_CMD_STAT.BUSY = false ∧ t.tbl.order = rest ∧
    regsBut (fun o => (TBL_RES_W 0 ≤ o && o < TBL_RES_W 26) || o == TBL_CMD_STAT || o == TBL_EPOCH ||
      (TBL_USED 1 ≤ o && o ≤ TBL_USED 7)) s t
  (∀ (d : List Byte) (i : Nat) (e : Entry) (rest : List Submission) (s : State), front s d 1 rest → bit (dFlags d) 1 = false →
    badKey (dTable d) (dKey d) false = false → zeroBytes (dData d) 0 144 = true → dTable d ≠ 5 →
    findKey (tcopy s 0 (dTable d)) (dKey d) = some (i, e) → e.data.length = 144 →
    answers .search s fun t =>
      done s d 0 rest t ∧ (resBytes t).drop 0x40 = e.data ∧ bytesAt (resBytes t) 0x20 32 = fit 32 e.key ∧
      getReg t TBL_EPOCH = getReg s TBL_EPOCH ∧ t.tbl.copies = s.tbl.copies) ∧
  (∀ (d : List Byte) (rest : List Submission) (s : State), front s d 1 rest → bit (dFlags d) 1 = false →
    badKey (dTable d) (dKey d) false = false → zeroBytes (dData d) 0 144 = true →
    findKey (tcopy s 0 (dTable d)) (dKey d) = none →
    answers .search s fun t => done s d 1 rest t ∧ getReg t TBL_EPOCH = getReg s TBL_EPOCH ∧ t.tbl.copies = s.tbl.copies) ∧
  (∀ (d : List Byte) (i : Nat) (e : Entry) (pre post : Tab Entry) (rest : List Submission) (s : State), front s d 2 rest →
    zeroBytes (dKey d) 0 32 = true → zeroBytes (dData d) 0 144 = true → dTable d ≠ 5 →
    tcopy s 0 (dTable d) = pre ++ (i, e) :: post → (∀ x ∈ pre, x.1 < dArg d) → dArg d ≤ i → i < 2 ^ 24 → e.data.length = 144 →
    answers .next s fun t =>
      done s d 0 rest t ∧ fieldAt (resBytes t) 0x10 8 = i + 1 ∧ (resBytes t).drop 0x40 = e.data ∧
      t.tbl.copies = s.tbl.copies) ∧
  (∀ (d : List Byte) (n : Nat) (rest : List Submission) (s : State), front s d 3 rest → bit (dFlags d) 0 = false →
    dTable d = 4 → n < 2 ^ 20 → dKey d = directKey 4 n → badEntry s 4 (dData d) = false →
    (∀ k, k < 4 → findKey (tcopy s k 4) (dKey d) = none) → (tcopy s 0 4).length < 2 ^ 20 →
    answers .insert s fun t =>
      done s d 0 rest t ∧ (∀ k, k < 4 → findKey (tcopy t k 4) (dKey d) = some (n, { key := dKey d, data := dData d })) ∧
      (∀ k j, k < 4 → j ≠ n → entryAt t k 4 j = entryAt s k 4 j) ∧ getReg t TBL_EPOCH = getReg s TBL_EPOCH + 1) ∧
  (∀ (d : List Byte) (i : Nat) (e : Entry) (rest : List Submission) (s : State), front s d 4 rest →
    1 ≤ dTable d → dTable d ≤ 7 → badKey (dTable d) (dKey d) false = false → zeroBytes (dData d) 0 144 = true →
    findKey (tcopy s 0 (dTable d)) (dKey d) = some (i, e) →
    answers .delete s fun t =>
      done s d 0 rest t ∧ (∀ k, k < 4 → entryAt t k (dTable d) i = none) ∧
      (∀ k j, k < 4 → j ≠ i → entryAt t k (dTable d) j = entryAt s k (dTable d) j) ∧
      getReg t TBL_EPOCH = getReg s TBL_EPOCH + 1)

/-- FLUSH_PORT with FL_L2 removes the learned entries whose target is the port, counts them, and advances the epoch by one if
there were any. MARK stores its tag and no epoch passes. DRAIN completes with OK at once where no frame of an earlier epoch is
left, and otherwise waits its ARG ms; DRAIN_COMPLETE ends a waiting one whose frames have gone with OK, DRAIN_TIMEOUT one whose
time is over with TIMEOUT and the number of frames remaining. -/
def Obligations.FlushMarkDrain : Prop :=
  let front := fun (s : State) (d : List Byte) (op : Nat) (rest : List Submission) => s.sys.powered = true ∧
    s.tbl.order = .cmd d none :: rest ∧ dOp d = op ∧ bit (dFlags d) 4 = false ∧ s.mode ≠ mBOOT ∧ s.mode ≠ mFAULTED ∧
    (∀ k, k < 4 → dieUp s k = true) ∧ zeroBytes (dKey d) 0 32 = true ∧ zeroBytes (dData d) 0 144 = true
  let done := fun (code : Nat) (t : State) => fieldAt (resBytes t) 0 1 = code ∧ fbit t TBL_CMD_STAT.BUSY = false
  (∀ (d : List Byte) (rest : List Submission) (s : State), front s d 5 rest → bit (dFlags d) 2 = true → bit (dFlags d) 3 = false →
    answers .flushPort s fun t =>
      done 0 t ∧ t.tbl.order = rest ∧ fieldAt (resBytes t) 0x18 8 = (learnedTo s (dArg d)).length % 2 ^ 64 ∧
      (∀ i ∈ learnedTo s (dArg d), ∀ k, k < 4 → entryAt t k 5 i = none) ∧
      getReg t TBL_EPOCH = getReg s TBL_EPOCH + (if learnedTo s (dArg d) = [] then 0 else 1)) ∧
  (∀ (d : List Byte) (rest : List Submission) (s : State), front s d 7 rest → dArg d < 2 ^ 32 →
    answers .mark s fun t =>
      done 0 t ∧ t.tbl = { s.tbl with order := rest } ∧ fget t TBL_MARK.TAG = dArg d ∧ getReg t TBL_EPOCH = getReg s TBL_EPOCH) ∧
  (∀ (d : List Byte) (rest : List Submission) (s : State), front s d 6 rest → s.tbl.drains.length < 8 →
    framesBefore s (getReg s TBL_EPOCH).toNat = 0 →
    answers .drain s fun t => done 0 t ∧ t.tbl = { s.tbl with order := rest } ∧ t.core = s.core) ∧
  (∀ (d : List Byte) (rest : List Submission) (s : State), front s d 6 rest → s.tbl.drains.length < 8 →
    framesBefore s (getReg s TBL_EPOCH).toNat ≠ 0 →
    answers .drain s fun t =>
      t.tbl.drains = s.tbl.drains ++
        [{ epoch := (getReg s TBL_EPOCH).toNat, deadline := s.now + dArg d * 1000000, desc := d, dma := none }] ∧
      t.tbl.order = rest ∧ t = { s with tbl := t.tbl }) ∧
  (∀ (x : Drain) (s : State), s.sys.powered = true → s.tbl.drains = [x] → x.dma = none → bit (dFlags x.desc) 4 = false →
    framesBefore s x.epoch = 0 → answers .drainComplete s fun t => done 0 t ∧ t.tbl.drains = [] ∧ t.core = s.core) ∧
  (∀ (x : Drain) (s : State), s.sys.powered = true → s.tbl.drains = [x] → x.dma = none → bit (dFlags x.desc) 4 = false →
    framesBefore s x.epoch ≠ 0 → x.deadline ≤ s.now →
    answers .drainTimeout s fun t =>
      done 9 t ∧ fieldAt (resBytes t) 0x10 8 = framesBefore s x.epoch % 2 ^ 64 ∧ t.tbl.drains = [] ∧ t.core = s.core)

/-- A raw operation at the head, of a table that is not L2: READ copies the entry of the named die at its index into the buffer
with VALID 1, and an absent one as zeros; WRITE to one die stores the buffer there, leaves the other dies' copies and the epoch
alone; COMPARE sets MISMATCH exactly where the four copies differ at the index. Each ends with BUSY and OP clear. -/
def Obligations.RawOperations : Prop :=
  let front := fun (s : State) (w : Word) (op : Nat) (rest : List Submission) =>
    s.sys.powered = true ∧ s.tbl.order = .raw w :: rest ∧ bits w.toNat 0 2 = op
  let die := fun (w : Word) => bits w.toNat 52 4
  let table := fun (w : Word) => bits w.toNat 40 8
  let index := fun (w : Word) => bits w.toNat 8 24
  let ended := fun (rest : List Submission) (t : State) => fget t TBL_RAW_CMD.BUSY = 0 ∧ fget t TBL_RAW_CMD.OP = 0 ∧
    t.tbl.order = rest
  (∀ (w : Word) (e : Entry) (rest : List Submission) (s : State), front s w 1 rest → table w ≠ 5 → die w < 4 →
    entryAt s (die w) (table w) (index w) = some e → e.key.length = 32 → e.data.length = 144 →
    answers .rawRead s fun u =>
      ended rest u ∧ rawBuf u = [1, BitVec.ofNat 8 (table w)] ++ List.replicate 14 0 ++ e.key ++ e.data ∧
      u.tbl.copies = s.tbl.copies ∧ getReg u TBL_EPOCH = getReg s TBL_EPOCH) ∧
  (∀ (w : Word) (rest : List Submission) (s : State), front s w 2 rest → 1 ≤ table w → table w ≤ 6 → table w ≠ 5 → die w < 4 →
    fieldAt (rawBuf s) 0 1 = 1 →
    answers .rawWrite s fun u =>
      ended rest u ∧ getReg u TBL_EPOCH = getReg s TBL_EPOCH ∧
      entryAt u (die w) (table w) (index w) = some { key := bytesAt (rawBuf s) 16 32, data := bytesAt (rawBuf s) 48 144 } ∧
      (∀ k, k < 4 → k ≠ die w → tcopy u k (table w) = tcopy s k (table w))) ∧
  (∀ (w : Word) (rest : List Submission) (s : State), front s w 3 rest →
    answers .rawCompare s fun u =>
      ended rest u ∧ u.tbl.copies = s.tbl.copies ∧
      (fbit u TBL_RAW_CMD.MISMATCH = false ↔
        ∀ k, k < 4 → entryAt s k (table w) (index w) = entryAt s 0 (table w) (index w)))

/-- A learn of a new station at the head, within its rate and with room, makes one entry with its key and target on all four
dies, one epoch on. A tick due advances TICK; removals wait for entries past the limit on every copy. AGE_REMOVE at the head of
an entry still past the limit removes it. BUCKET_HANDOVER leaves every bucket of a usable member where it is and gives every
other one to a usable member, if the group has one. -/
def Obligations.LearningAndAging : Prop :=
  (∀ (v : Nat) (m : BitVec 48) (L : Nat) (rest : List Submission) (s : State), s.sys.powered = true →
    s.tbl.order = .learn v m false L :: rest → v < 4096 → L < 1024 → (∀ k, k < 4 → dieUp s k = true) →
    (∀ k, k < 4 → findKey (tcopy s k 5) (l2Key v m.toNat) = none) → (tcopy s 0 5).length < 262144 → s.tbl.learnCnt < 1000000 →
    answers .l2Learn s fun t =>
      let found := fun k => (findKey (tcopy t k 5) (l2Key v m.toNat)).map fun x => (x.1, eAction x.2, eTarget x.2);
      (∀ k, k < 4 → found k = some (((found 0).getD (0, 0, 0)).1, 0, L)) ∧
      getReg t TBL_EPOCH = getReg s TBL_EPOCH + 1 ∧ t.tbl.order = rest) ∧
  (∀ s : State, s.sys.powered = true → s.elapsed s.tbl.tickAt (fget s TBL_L2.AGE_UNIT * 1000000) = true →
    answers .agingTick s fun t =>
      fget t TBL_L2.TICK = (fget s TBL_L2.TICK + 1) % 65536 ∧
      t.tbl.tickAt = s.tbl.tickAt + fget s TBL_L2.AGE_UNIT * 1000000 ∧ t.tbl.copies = s.tbl.copies ∧
      (fget s TBL_L2.AGE_LIMIT = 0 → t.tbl.order = s.tbl.order) ∧ regsBut (fun o => o == TBL_L2) s t) ∧
  (∀ (i : Nat) (rest : List Submission) (s : State), s.sys.powered = true → s.tbl.order = .age i :: rest →
    (∀ k, k < 4 → dieUp s k = true) → i ∈ learnedEntries s → aged s i = true →
    answers .ageRemove s fun t =>
      (∀ k, k < 4 → entryAt t k 5 i = none) ∧ getReg t TBL_EPOCH = getReg s TBL_EPOCH + 1 ∧ t.tbl.order = rest) ∧
  (∀ (g : Fin 4096) (e : Entry) (s : State), s.sys.powered = true → direct s (refDie s) 7 g = some e →
    (∃ j, j < lgCount e ∧ memberUsable s (refDie s) e j = true) →
    answers (.bucketHandover g) s fun t =>
      (∀ b, b < 256 →
        bucketOf t (refDie s) g e b < lgCount e ∧ memberUsable s (refDie s) e (bucketOf t (refDie s) g e b) = true ∧
        (bucketOf s (refDie s) g e b < lgCount e → memberUsable s (refDie s) e (bucketOf s (refDie s) g e b) = true →
          bucketOf t (refDie s) g e b = bucketOf s (refDie s) g e b)) ∧
      t = { s with tbl := t.tbl } ∧ t.tbl.copies = s.tbl.copies)

/-! Traffic management (chapter 8). -/

/-- METER_WRITE gives the selected meter both configuration words with full buckets and keeps its counts; METER_READ shows its
configuration and counts. TM_NODE_WRITE of a service node gives it the data word and resets its tokens by RESET_MODE; a
TM_NODE_READ shows a node's data. WSET_GO takes the staged set and shows BUSY; WSET_DONE gives every port of the range that set's
weights and strict marks and leaves tokens. GATE_COMMIT makes a commit pending that switches 10 µs ahead or later; GATE_CANCEL removes it; GATE_SWITCH at
its time flips the bank and starts entry 0; GATE_ENTRY_CHANGE goes to the next entry once the current one has run. -/
def Obligations.TrafficSettings : Prop :=
  let tmOnly := fun (own : Nat → Bool) (s t : State) => regsBut own s t ∧ t = { s with regs := t.regs, tm := t.tm }
  (∀ (p : Fin 13) (s : State), accepts s p TM_MTR_CMD 1 = true →
    answers (.meterWrite p) s fun t =>
      let m := fget s TM_MTR_SEL.INDEX;
      let x := meter t m;
      x.cfg0 = getReg s TM_MTR_CFG0 ∧ x.cfg1 = getReg s TM_MTR_CFG1 ∧ x.tc = fget s TM_MTR_CFG1.CBS * 8000 ∧
      x.tp = fget s TM_MTR_CFG1.PBS * 8000 ∧ x.green = (meter s m).green ∧ x.red = (meter s m).red ∧
      (∀ k, k ≠ m → meter t k = meter s k) ∧ tmOnly (fun _ => false) s t) ∧
  (∀ (p : Fin 13) (s : State), accepts s p TM_MTR_CMD 2 = true →
    answers (.meterRead p) s fun t =>
      let x := meter s (fget s TM_MTR_SEL.INDEX);
      getReg t TM_MTR_CFG0 = x.cfg0 ∧ getReg t TM_MTR_CFG1 = x.cfg1 ∧ getReg t TM_MTR_CNT_G = x.green ∧
      getReg t TM_MTR_CNT_Y = x.yellow ∧ getReg t TM_MTR_CNT_R = x.red ∧
      tmOnly (fun o => o == TM_MTR_CFG0 || o == TM_MTR_CFG1 || (TM_MTR_CNT_G ≤ o && o ≤ TM_MTR_CNT_R)) s t) ∧
  (∀ (p : Fin 13) (s : State), accepts s p TM_NODE_CMD 1 = true → fget s TM_NODE_SEL.LEVEL = 1 →
    answers (.tmNodeWrite p) s fun t =>
      let k := nodeKey 1 (fget s TM_NODE_SEL.PORT) (fget s TM_NODE_SEL.CHAN) 0;
      (node t k).data = getReg s TM_NODE_DATA ∧
      (node t k).tok = (if fbit s TM_SHP.RESET_MODE then 0 else fget s TM_NODE_DATA.BURST * 8000) ∧
      (node t k).deficit = min (node s k).deficit (fget s TM_NODE_DATA.WEIGHT * 1024) ∧
      (∀ j, j ≠ k → node t j = node s j) ∧ tmOnly (fun _ => false) s t) ∧
  (∀ (p : Fin 13) (s : State), accepts s p TM_NODE_CMD 2 = true →
    answers (.tmNodeRead p) s fun t =>
      getReg t TM_NODE_DATA = (node s (nodeKey (fget s TM_NODE_SEL.LEVEL) (fget s TM_NODE_SEL.PORT) (fget s TM_NODE_SEL.CHAN)
        (fget s TM_NODE_SEL.SUB))).data ∧ tmOnly (fun o => o == TM_NODE_DATA || o == TM_NODE_TOK) s t) ∧
  (∀ (p : Fin 13) (a b : Fin 1024) (s : State),
    accepts s p TM_WSET_CMD (BitVec.ofNat 64 (2 ^ 63 + b.val * 2 ^ 16 + a.val)) = true →
    answers (.wsetGo p a b) s fun t =>
      t.tm = { s.tm with wset := true, wFirst := a, wLast := b, wWeights := (List.range 16).map (wsetWeight s),
                         wMask := fget s TM_WSET_STRICT.MASK } ∧ fbit t TM_WSET_STAT.BUSY = true ∧
      tmOnly (fun o => o == TM_WSET_STAT) s t) ∧
  (∀ (L : Fin 1024) (c : Fin 16) (s : State), s.sys.powered = true → s.tm.wset = true → s.tm.wFirst ≤ L → L ≤ s.tm.wLast →
    isPort s L = true → s.tm.wWeights.getD c 0 < 256 →
    answers .wsetDone s fun t =>
      let x := node t (nodeKey 1 L c 0);
      nWeight x = s.tm.wWeights.getD c 0 ∧ nStrict x = bit s.tm.wMask c ∧
      x.tok = (node s (nodeKey 1 L c 0)).tok ∧ nRate x = nRate (node s (nodeKey 1 L c 0)) ∧
      fbit t TM_WSET_STAT.BUSY = false ∧ tmOnly (fun o => o == TM_WSET_STAT) s t) ∧
  (∀ (p : Fin 13) (L : Fin 1024) (n : BitVec 7) (s : State),
    accepts s p (PRT_GATE_CMD L) (BitVec.ofNat 64 (2 ^ 8 + n.toNat)) = true →
    answers (.gateCommit p L n) s fun t =>
      (gate t L).pend = true ∧ (gate t L).pendLen = n.toNat ∧ s.tbNs + 10000 ≤ (gate t L).switchAt ∧
      fbit t (PRT_GATE_STAT.PENDING L) = true ∧ fget t (PRT_GATE_STAT.BANK L) = fget s (PRT_GATE_STAT.BANK L) ∧
      tmOnly (fun o => o == PRT_GATE_STAT L) s t) ∧
  (∀ (p : Fin 13) (L : Fin 1024) (s : State), accepts s p (PRT_GATE_CMD L) (BitVec.ofNat 64 (2 ^ 9)) = true →
    answers (.gateCancel p L) s fun t =>
      (gate t L).pend = false ∧ fbit t (PRT_GATE_STAT.PENDING L) = false ∧ tmOnly (fun o => o == PRT_GATE_STAT L) s t) ∧
  (∀ (L : Fin 1024) (s : State), s.sys.powered = true → (gate s L).pend = true → (gate s L).switchAt ≤ s.tbNs →
    (gate s L).pendLen ≤ 64 →
    answers (.gateSwitch L) s fun t =>
      fget t (PRT_GATE_STAT.BANK L) = 1 - fget s (PRT_GATE_STAT.BANK L) ∧ fget t (PRT_GATE_STAT.LEN L) = (gate s L).pendLen ∧
      fget t (PRT_GATE_STAT.ENTRY L) = 0 ∧ (gate t L).pend = false ∧ (gate t L).entryAt = (gate s L).switchAt ∧
      tmOnly (fun o => o == PRT_GATE_STAT L) s t) ∧
  (∀ (L : Fin 1024) (s : State), s.sys.powered = true → 1 ≤ fget s (PRT_GATE_STAT.LEN L) → fget s (PRT_GATE_STAT.LEN L) ≤ 64 →
    (gate s L).entryAt + fget s (TM_GCL.DURATION L (fget s (PRT_GATE_STAT.BANK L)) (fget s (PRT_GATE_STAT.ENTRY L))) ≤ s.tbNs →
    answers (.gateEntryChange L) s fun t =>
      fget t (PRT_GATE_STAT.ENTRY L) = (fget s (PRT_GATE_STAT.ENTRY L) + 1) % fget s (PRT_GATE_STAT.LEN L) ∧
      tmOnly (fun o => o == PRT_GATE_STAT L) s t)

/-- FRAME_TX_START of an idle UP fabric port with one egress queue in the module, its head frame within the peer's credits:
where the module forwards as BASIC, and in WOVEN on a strict channel with no gate list and no shaper on, that frame leaves its
queue, takes its credit units, and goes out with its header, behind an IDLE block
where 1,023 data blocks would otherwise be passed (R110). FRAME_TX_END, once it has left, frees its cells and descriptor and
counts it. -/
def Obligations.PortSends : Prop :=
  let waits := fun (s : State) (L sub : Nat) (f : Frame) (fs : List Frame) => clocked s = true ∧ isPort s L = true ∧
    isEth s L = false ∧ portState s L = pUP ∧ (port s L).txBusy = none ∧ s.core.egr = [(egrKey L f.chan sub, f :: fs)] ∧
    f.chan < 16 ∧ sub < 64 ∧ f.eth = false ∧ creditOk (port s L) f.chan (unitsOf (frameLen f)) = true ∧ portUnpicking s L = false ∧
    (port s L).fillEnd ≤ s.now ∧ retuning s (16 + L / 64) = false
  let gone := fun (s : State) (L sub : Nat) (f : Frame) (fs : List Frame) (t : State) =>
    (port t L).txBusy = some f ∧ tget [] t.core.egr (egrKey L f.chan sub) = fs ∧
    tget 0 (port t L).sent f.chan = tget 0 (port s L).sent f.chan + unitsOf (frameLen f) ∧
    (port t L).txEnd = s.now + ceilDiv (outLen f * 8) (portGbps s L) ∧
    t.out = .frame L (hdrOut f) f.body ::
      (if 1023 < (port s L).dataRun + ceilDiv (frameLen f) 32 then [.block L (mkBlk 0x1E [])] else []) ++ s.out ∧
    regsBut (fun _ => false) s t
  (∀ (L : Fin 1024) (sub : Nat) (f : Frame) (fs : List Frame) (s : State), waits s L sub f fs → s.asBasic = true →
    answers (.frameTxStart L) s fun t =>
      gone s L sub f fs t ∧ t = { s with ports := t.ports, core := t.core, tm := t.tm, out := t.out }) ∧
  (∀ (L : Fin 1024) (sub : Nat) (f : Frame) (fs : List Frame) (s : State), waits s L sub f fs → s.mode = mWOVEN →
    fget s (PRT_GATE_STAT.LEN L) = 0 → (gate s L).pend = false → outLen f ≤ 9216 →
    nStrict (node s (nodeKey 1 L f.chan 0)) = true → 1 ≤ nWeight (node s (nodeKey 2 L f.chan sub)) →
    nRate (node s (nodeKey 0 L 0 0)) = 0 → nRate (node s (nodeKey 1 L f.chan 0)) = 0 →
    nRate (node s (nodeKey 2 L f.chan sub)) = 0 →
    answers (.frameTxStart L) s fun t =>
      gone s L sub f fs t ∧ t = { s with ports := t.ports, core := t.core, tm := t.tm, out := t.out }) ∧
  (∀ (L : Fin 1024) (f : Frame) (s : State), clocked s = true → (port s L).txBusy = some f → (port s L).txEnd ≤ s.now →
    f.chan < 16 →
    answers (.frameTxEnd L) s fun t =>
      (port t L).txBusy = none ∧ getReg t (PRT_TX_FRAMES L) = getReg s (PRT_TX_FRAMES L) + 1 ∧
      getReg t (PRT_TX_BYTES L) = getReg s (PRT_TX_BYTES L) + BitVec.ofNat 64 (outLen f) ∧
      tget 0 t.core.egrDesc (16 * L + f.chan) = tget 0 s.core.egrDesc (16 * L + f.chan) - 1 ∧
      regsBut (fun o => (inPortPage o && pageOf o == L.val) || inCtxCount o) s t ∧
      t = { s with regs := t.regs, ports := t.ports, core := t.core })

/-! Optical bypass (chapter 9). -/

/-- BYP_MAP_WRITE puts the data word's mode, partner and owner into the selected shadow entry; the two reads load an entry of the
named map into `BYP_MAP_DATA`; COPY copies the operational map. COMMIT outside WOVEN ends with STATE, with a commit pending with
PENDING, of a slot outside 100 µs to 10 s ahead with BAD_TIME, of a map with a lane that is not ELECTRONIC and not eligible with
NOT_ELIGIBLE; a map whose lanes are all ELECTRONIC is pending where the contracts of R52 leave it so. CANCEL ends a pending commit
before its slot with CANCELLED and the bypass interrupt source. At a slot boundary the planes take the slot's matching; a due commit becomes operational, or is
abandoned with LATE where a repeated check fails. -/
def Obligations.BypassMap : Prop :=
  let bypOnly := fun (own : Nat → Bool) (s t : State) => regsBut own s t ∧ t = { s with regs := t.regs, byp := t.byp }
  let late := fun (s : State) (n : Nat) => (slotStart s n).any fun a => decide (s.tbNs + 100000 ≤ a) && decide (a ≤ s.tbNs + 10000000000)
  (∀ (p : Fin 13) (s : State), accepts s p BYP_MAP_CMD 1 = true →
    answers (.bypMapWrite p) s fun t =>
      let L := fget s BYP_MAP_SEL.LANE;
      mapLane t.byp.shadow L = { mode := fget s BYP_MAP_DATA.MODE, partner := fget s BYP_MAP_DATA.PARTNER, owner := fget s BYP_MAP_DATA.OWNER } ∧
      (∀ k, k ≠ L → mapLane t.byp.shadow k = mapLane s.byp.shadow k) ∧ t.byp = { s.byp with shadow := t.byp.shadow } ∧
      bypOnly (fun _ => false) s t) ∧
  (∀ (p : Fin 13) (s : State), accepts s p BYP_MAP_CMD 2 = true →
    answers (.bypReadShadow p) s fun t =>
      let e := mapLane s.byp.shadow (fget s BYP_MAP_SEL.LANE);
      getReg t BYP_MAP_DATA = BitVec.ofNat 64 (e.mode + e.partner * 2 ^ 16 + e.owner * 2 ^ 32) ∧ t.byp = s.byp ∧
      bypOnly (fun o => o == BYP_MAP_DATA) s t) ∧
  (∀ (p : Fin 13) (s : State), accepts s p BYP_MAP_CMD 4 = true →
    answers (.bypReadOper p) s fun t =>
      let e := mapLane s.byp.oper (fget s BYP_MAP_SEL.LANE);
      getReg t BYP_MAP_DATA = BitVec.ofNat 64 (e.mode + e.partner * 2 ^ 16 + e.owner * 2 ^ 32) ∧ t.byp = s.byp ∧
      bypOnly (fun o => o == BYP_MAP_DATA) s t) ∧
  (∀ (p : Fin 13) (s : State), accepts s p BYP_MAP_CMD 8 = true →
    answers (.bypCopy p) s fun t => t.byp = { s.byp with shadow := s.byp.oper } ∧ bypOnly (fun _ => false) s t) ∧
  (∀ (p : Fin 13) (s : State), accepts s p BYP_MAP_CMD 16 = true →
    answers (.bypCommit p) s fun t =>
      let n := (getReg s BYP_COMMIT_AT).toNat;
      bypOnly (fun o => o == BYP_STAT) s t ∧ fbit t BYP_STAT.LATE = false ∧
      (s.mode ≠ mWOVEN → fget t BYP_STAT.CODE = 1 ∧ t.byp = s.byp) ∧
      (s.mode = mWOVEN → s.byp.pend.isSome = true → fget t BYP_STAT.CODE = 2 ∧ t.byp = s.byp) ∧
      (s.mode = mWOVEN → s.byp.pend.isNone = true → late s n = false → fget t BYP_STAT.CODE = 3 ∧ t.byp = s.byp) ∧
      (s.mode = mWOVEN → s.byp.pend.isNone = true → (curSlot s).isSome = true → late s n = true →
        (busyLanes s.byp.shadow).any (fun L => !tget false s.sys.str.elig L) = true →
        fget t BYP_STAT.CODE = 4 ∧ t.byp = s.byp)) ∧
  (∀ (p : Fin 13) (a : Nat) (s : State), accepts s p BYP_MAP_CMD 16 = true → s.mode = mWOVEN → s.byp.pend = none →
    (curSlot s).isSome = true → slotStart s (getReg s BYP_COMMIT_AT).toNat = some a → s.tbNs + 100000 ≤ a →
    a ≤ s.tbNs + 10000000000 → busyLanes s.byp.shadow = [] → minLanesBad s s.byp.shadow = none →
    answers (.bypCommit p) s fun t =>
      fget t BYP_STAT.CODE = 0 ∧ fbit t BYP_STAT.PENDING = true ∧ fbit t BYP_STAT.LATE = false ∧
      t.byp = { s.byp with pend := some (getReg s BYP_COMMIT_AT).toNat } ∧ bypOnly (fun o => o == BYP_STAT) s t) ∧
  (∀ (p : Fin 13) (s : State), accepts s p BYP_MAP_CMD 32 = true →
    answers (.bypCancel p) s fun t =>
      (∀ n, s.byp.pend = some n → slotStarted s n = false →
        t.byp = { s.byp with pend := none } ∧ fget t BYP_STAT.CODE = 0x0A ∧ fbit t BYP_STAT.PENDING = false ∧
        (fget t (IC_SRC.STATE 3) = 1 ∨ fget t (IC_SRC.STATE 3) = 3) ∧ regsQuiet (fun o => o == BYP_STAT) s t ∧
        signalsOnly { s with byp := t.byp } t) ∧
      (s.byp.pend = none → regsBut (fun _ => false) s t ∧ regsOnly s t)) ∧
  (∀ (n : Nat) (s : State), s.sys.powered = true → curSlot s = some n → s.byp.pend = none → testFree s = true →
    answers .slotBoundary s fun t =>
      (∀ W, W < 8 → tget [] t.byp.path W = tget [] s.byp.granted (8 * n + W)) ∧
      t = { s with byp := { s.byp with path := t.byp.path, granted := t.byp.granted } }) ∧
  (∀ (n N : Nat) (s : State), s.sys.powered = true → curSlot s = some n → s.byp.pend = some N → N ≤ n →
    (lateCheck s s.byp.shadow).1 = 0 →
    answers .slotBoundary s fun t => t.byp.oper = s.byp.shadow ∧ t.byp.shadow = s.byp.shadow ∧ t.byp.pend = none) ∧
  (∀ (n N : Nat) (s : State), s.sys.powered = true → curSlot s = some n → s.byp.pend = some N → N ≤ n →
    (lateCheck s s.byp.shadow).1 ≠ 0 → testFree s = true →
    answers .slotBoundary s fun t =>
      t.byp.oper = s.byp.oper ∧ t.byp.pend = none ∧ fbit t BYP_STAT.LATE = true ∧
      fget t BYP_STAT.CODE = (lateCheck s s.byp.shadow).1 ∧ fbit t BYP_STAT.PENDING = false ∧
      regsQuiet (fun o => o == BYP_STAT) s t ∧ signalsOnly { s with byp := t.byp } t)

/-- On the anchor lane of a fibre, UP: a due ranging starts empty; a due ping is sent with the running SEQ and its departure kept;
the echo of a ping not yet answered gives one round trip less TURN; after 64 pings the fibre is ranged with the mean where 48 or
more came, else not ranged; a ranged fibre's RANGE_SET blocks carry 0xFFFFFF for every lane that is not SLOTTED; a SLOT_TICK
names the next slot, its times in 1/16 ns. A SLOT_REQ whose one valid entry joins SLOTTED lanes of one owner replaces that request count, and an
ignored one is counted. BYPASS_MATCH of a slot not yet matched makes a matching of pairs that request, which is the one
requested pair where there is just one, lowers that pair's count and counts the grants. At a working die's lane, darkness on a CIRCUIT lane's input sets DARK, records an
event, raises the bypass interrupt source, keeps the circuit and fences nothing; returned light clears DARK. -/
def Obligations.BypassSlots : Prop :=
  let okBlk := fun (L : Nat) (b : BitVec 256) (k : Nat) (s : State) =>
    clocked s = true ∧ rxOpen s L = true ∧ blkBad b = false ∧ blkByte b 0 = k
  let rngOnly := fun (F : Nat) (s t : State) =>
    (∀ k, k ≠ F → rng t k = rng s k) ∧ t.byp = { s.byp with rng := t.byp.rng }
  (∀ (F : Fin 128) (L : Nat) (s : State), s.sys.powered = true → anchor s F = some L → portUp s L = true →
    (rng s F).startAt = 0 →
    answers (.rangingStart F) s fun t =>
      rng t F = { rng s F with active := true, sentCnt := 0, pings := [], rtts := [], startAt := s.now + 1 } ∧
      rngOnly F s t ∧ t = { s with byp := t.byp }) ∧
  (∀ (F : Fin 128) (L : Nat) (s : State), clocked s = true → anchor s F = some L → portUp s L = true →
    (rng s F).active = true → (rng s F).sentCnt < 64 → s.elapsed (rng s F).lastAt 10000 = true →
    answers (.rangePingTx F) s fun t =>
      t.out = .block L (sentBlock t) :: s.out ∧ blkCrcOk (sentBlock t) = true ∧ blkByte (sentBlock t) 0 = 0xA0 ∧
      blkByte (sentBlock t) 1 = (rng s F).sentCnt ∧ (rng t F).sentCnt = (rng s F).sentCnt + 1 ∧
      tget 0 (rng t F).pings (rng s F).sentCnt = now16 s + 1 ∧ rngOnly F s t ∧ t = { s with byp := t.byp, out := t.out }) ∧
  (∀ (F : Fin 128) (L : Nat) (b : BitVec 256) (s : State), anchor s F = some L → okBlk L b 0xA1 s →
    (rng s F).active = true → tget 0 (rng s F).pings (blkByte b 1) ≠ 0 →
    tget 0 (rng s F).pings (blkByte b 1) + blkField b 4 4 ≤ now16 s + 1 →
    answers (.rangeEchoRx F b) s fun t =>
      (rng t F).rtts = (now16 s + 1 - tget 0 (rng s F).pings (blkByte b 1) - blkField b 4 4) :: (rng s F).rtts ∧
      tget 0 (rng t F).pings (blkByte b 1) = 0 ∧ rngOnly F s t ∧ t = { s with byp := t.byp, ports := t.ports }) ∧
  (∀ (F : Fin 128) (s : State), s.sys.powered = true → (rng s F).active = true → 64 ≤ (rng s F).sentCnt →
    answers (.rangingDone F) s fun t =>
      (rng t F).active = false ∧ (fbit t (BYP_FIBRE.RANGED F) = decide (48 ≤ (rng s F).rtts.length)) ∧
      (48 ≤ (rng s F).rtts.length → fget t (BYP_FIBRE.RTT F) = (rng s F).rtts.sum / (rng s F).rtts.length % 2 ^ 32) ∧
      (48 ≤ (rng s F).rtts.length →
        fbit t (BYP_FIBRE.FAR F) = decide ((fget s BYP_CTRL.LEAD_NS - 512) * 16 < fget t (BYP_FIBRE.RTT F))) ∧
      rngOnly F s t ∧ regsQuiet (fun o => o == BYP_FIBRE F) s t ∧ signalsOnly { s with byp := t.byp } t) ∧
  (∀ (F : Fin 128) (L : Nat) (s : State), clocked s = true → anchor s F = some L → portUp s L = true →
    fbit s (BYP_FIBRE.RANGED F) = true → (rng s F).setAt = 0 →
    answers (.rangeSetTx F) s fun t =>
      blkCrcOk (sentBlock t) = true ∧ blkByte (sentBlock t) 0 = 0xA7 ∧ t.out.drop 2 = s.out ∧ t.out.length = s.out.length + 2 ∧
      (∀ W, W < 8 → (mapLane s.byp.oper (8 * F + W)).mode ≠ 1 → blkField (sentBlock t) (4 + 3 * W) 3 = 0xFFFFFF) ∧
      (rng t F).setAt = max s.now 1 ∧ rngOnly F s t ∧ t = { s with byp := t.byp, out := t.out }) ∧
  (∀ (F : Fin 128) (L n : Nat) (s : State), clocked s = true → anchor s F = some L → portUp s L = true →
    curSlot s = some n → (rng s F).tickAt = 0 →
    answers (.slotTickTx F) s fun t =>
      t.out = .block L (sentBlock t) :: s.out ∧ blkCrcOk (sentBlock t) = true ∧ blkByte (sentBlock t) 0 = 0xA3 ∧
      blkField (sentBlock t) 4 8 = (n + 1) % 2 ^ 64 ∧ blkField (sentBlock t) 16 2 = 16 * slotNs s % 2 ^ 16 ∧
      blkField (sentBlock t) 12 4 = ((slotStart s (n + 1)).getD 0 * 2 ^ 32 - s.tb) / 2 ^ 28 % 2 ^ 32 ∧
      rngOnly F s t ∧ t = { s with byp := t.byp, out := t.out }) ∧
  (∀ (F : Fin 128) (L : Nat) (b : BitVec 256) (s : State), anchor s F = some L → okBlk L b 0xA4 s →
    bit (blkByte b 4) 7 = true → (∀ k, k < 6 → k ≠ 0 → bit (blkByte b (4 + 4 * k)) 7 = false) →
    answers (.slotReqRx F b) s fun t =>
      let W := blkByte b 4 % 8;
      let G := blkByte b 5;
      let src := mapLane s.byp.oper (8 * F + W);
      let dst := mapLane s.byp.oper (8 * G + W);
      (G < 128 → src.mode = 1 → dst.mode = 1 → src.owner = dst.owner →
        tget 0 t.byp.req (128 * (8 * F + W) + G) = blkField b 6 2 ∧
        (∀ k, k ≠ 128 * (8 * F + W) + G → tget 0 t.byp.req k = tget 0 s.byp.req k) ∧ regsBut (fun _ => false) s t) ∧
      (src.mode ≠ 1 ∨ dst.mode ≠ 1 ∨ src.owner ≠ dst.owner →
        getReg t BYP_REQ_IGN = getReg s BYP_REQ_IGN + 1 ∧ t.byp = s.byp ∧ regsBut (fun o => o == BYP_REQ_IGN) s t) ∧
      t = { s with regs := t.regs, byp := t.byp, ports := t.ports }) ∧
  (∀ (W : Fin 8) (n : Nat) (s : State), s.sys.powered = true → slotDue s = some n → tget 0 s.byp.matched W ≤ n →
    dieUp s (W / 2) = true →
    answers (.bypassMatch W) s fun t =>
      let won := tget [] t.byp.granted (8 * n + W);
      (∀ q ∈ won, wants s (mapAt s n) W q.1 q.2 = true) ∧ (won.map (·.1)).Nodup ∧ (won.map (·.2)).Nodup ∧
      (∀ F G, F < 128 → G < 128 → wants s (mapAt s n) W F G = true →
        (∀ A B, A < 128 → B < 128 → wants s (mapAt s n) W A B = true → A = F ∧ B = G) →
        won = [(F, G)] ∧ tget 0 t.byp.req (128 * (8 * F + W) + G) = tget 0 s.byp.req (128 * (8 * F + W) + G) - 1) ∧
      tget 0 t.byp.matched W = n + 1 ∧ getReg t (BYP_GRANT W) = getReg s (BYP_GRANT W) + BitVec.ofNat 64 won.length ∧
      t.byp.oper = s.byp.oper ∧ regsBut (fun o => o == BYP_GRANT W) s t ∧
      t = { s with regs := t.regs, byp := t.byp, out := t.out }) ∧
  (∀ (l : Fin 1024) (v : BitVec 16) (s : State), s.sys.powered = true → dieUp s (swOf l) = true →
    (mapLane s.byp.oper l).mode = 2 → fbit s (BYP_LANE.DARK l) = false →
    answers (.planeInputDark l v) s fun t =>
      fbit t (BYP_LANE.DARK l) = true ∧ fget t (BYP_LANE.PWR l) = v.toNat ∧
      getReg t (PMC_EVT 0x801) = getReg s (PMC_EVT 0x801) + 1 ∧ (fget t (IC_SRC.STATE 3) = 1 ∨ fget t (IC_SRC.STATE 3) = 3) ∧
      (∀ L, portFenced t L = portFenced s L) ∧ regsQuiet (fun o => o == BYP_LANE l) s t ∧ signalsOnly s t) ∧
  (∀ (l : Fin 1024) (v : BitVec 16) (s : State), s.sys.powered = true → dieUp s (swOf l) = true →
    fbit s (BYP_LANE.DARK l) = true →
    answers (.planeInputLight l v) s fun t =>
      fbit t (BYP_LANE.DARK l) = false ∧ fget t (BYP_LANE.PWR l) = v.toNat ∧ regsQuiet (fun o => o == BYP_LANE l) s t ∧
      signalsOnly s t)

/-! In-network reduction (chapter 10). -/

/-- READ loads the selected entry's words and its role generation. WRITE of an entry not in use that passes Table 10.2 replaces it
at once. Outside WOVEN, MAINT and DRAINING each of the four ends with STATE and changes nothing. INVALIDATE of an entry with no collective in
flight clears VALID. ABORT_ALL leaves the entries and no collective of the group. UNFENCE of a tested engine unfences it and no
other. A write of TRIM that R261 allows stores it. An unanswered mirror GET sets MIRROR_DOWN. -/
def Obligations.ReductionGroups : Prop :=
  let picOnly := fun (own : Nat → Bool) (s t : State) =>
    regsQuiet own s t ∧ signalsOnly { s with pic := t.pic, weave := t.weave } t
  let woven := fun (s : State) => s.mode = mWOVEN ∨ s.mode = mMAINT ∨ s.mode = mDRAINING
  let refused := fun (s t : State) =>
    fget t PIC_GRP_STAT.CODE = 1 ∧ t.pic = s.pic ∧ t.weave = s.weave ∧ picOnly (fun o => o == PIC_GRP_STAT) s t
  (∀ (p : Fin 13) (s : State), accepts s p PIC_GRP_CMD 0 = true → woven s →
    answers (.grpRead p) s fun t =>
      let g := group s (fget s PIC_GRP_SEL.GROUP);
      getReg t PIC_GRP_W0 = g.w0 ∧ getReg t PIC_GRP_W1 = g.w1 ∧ getReg t PIC_GRP_W2 = g.w2 ∧ getReg t PIC_GRP_W3 = g.w3 ∧
      getReg t PIC_GRP_W5 = g.w5 ∧ fget t PIC_GRP_W4.GEN = groupGen s (fget s PIC_GRP_SEL.GROUP) ∧
      fget t PIC_GRP_STAT.CODE = 0 ∧ fbit t PIC_GRP_STAT.BUSY = false ∧ t.pic = s.pic ∧ t.weave = s.weave ∧
      picOnly (fun o => o == PIC_GRP_STAT || (PIC_GRP_W0 ≤ o && o ≤ PIC_GRP_W5)) s t) ∧
  (∀ (p : Fin 13) (s : State), accepts s p PIC_GRP_CMD 1 = true → woven s → grpCheck s = 0 →
    gValid (group s (fget s PIC_GRP_SEL.GROUP)) = false →
    answers (.grpWrite p) s fun t =>
      let n := fget s PIC_GRP_SEL.GROUP;
      let g := group t n;
      g.w0 = getReg s PIC_GRP_W0 ∧ g.w1 = getReg s PIC_GRP_W1 ∧ g.w2 = getReg s PIC_GRP_W2 ∧ g.w3 = getReg s PIC_GRP_W3 ∧
      g.w5 = getReg s PIC_GRP_W5 ∧ gRegion g = fget s PIC_GRP_W4.REGION ∧ g.rgnGen.toNat = regionGen s (gRegion g) ∧
      g.mirrorDown = false ∧ (∀ k, k ≠ n → group t k = group s k) ∧ t.pic.colls = s.pic.colls ∧ t.weave = s.weave ∧
      fget t PIC_GRP_STAT.CODE = 0 ∧ fbit t PIC_GRP_STAT.BUSY = false ∧ picOnly (fun o => o == PIC_GRP_STAT) s t) ∧
  (∀ (p : Fin 13) (s : State), accepts s p PIC_GRP_CMD 1 = true → ¬ woven s → answers (.grpWrite p) s (refused s)) ∧
  (∀ (p : Fin 13) (s : State), accepts s p PIC_GRP_CMD 0 = true → ¬ woven s → answers (.grpRead p) s (refused s)) ∧
  (∀ (p : Fin 13) (s : State), accepts s p PIC_GRP_CMD 2 = true → ¬ woven s → answers (.grpInvalidate p) s (refused s)) ∧
  (∀ (p : Fin 13) (s : State), accepts s p PIC_GRP_CMD 3 = true → ¬ woven s → answers (.grpAbortAll p) s (refused s)) ∧
  (∀ (p : Fin 13) (s : State), accepts s p PIC_GRP_CMD 2 = true → woven s →
    (∀ c ∈ s.pic.colls, c.group ≠ fget s PIC_GRP_SEL.GROUP) →
    answers (.grpInvalidate p) s fun t =>
      let n := fget s PIC_GRP_SEL.GROUP;
      gValid (group t n) = false ∧ (group t n).w1 = (group s n).w1 ∧ (∀ k, k ≠ n → group t k = group s k) ∧
      t.pic.colls = s.pic.colls ∧
      (genWaits s (64 + n) = false → genReady s (64 + n) = true → gValid (group s n) = true →
        groupGen t n = (groupGen s n + 1) % 256 ∧ fget t PIC_GRP_STAT.CODE = 0 ∧ fbit t PIC_GRP_STAT.BUSY = false) ∧
      picOnly (fun o => o == PIC_GRP_STAT) s t) ∧
  (∀ (p : Fin 13) (s : State), accepts s p PIC_GRP_CMD 3 = true → woven s →
    (∀ c ∈ s.pic.colls, c.group = fget s PIC_GRP_SEL.GROUP → c.ctx = gCtx (group s c.group)) →
    answers (.grpAbortAll p) s fun t =>
      t.pic.groups = s.pic.groups ∧ t.pic.colls = s.pic.colls.filter (fun c => c.group != fget s PIC_GRP_SEL.GROUP) ∧
      fget t PIC_GRP_STAT.CODE = 0 ∧ fbit t PIC_GRP_STAT.BUSY = false) ∧
  (∀ (p : Fin 13) (e : Fin 32) (s : State), accepts s p PIC_ENG_CMD (BitVec.ofNat 64 (32 + e)) = true →
    answers (.engineUnfence p e) s fun t =>
      fbit t (PIC_ENG.FENCED e) = false ∧ fget t (PIC_ENG.RETRIED e) = fget s (PIC_ENG.RETRIED e) ∧
      regsBut (fun o => o == PIC_ENG e) s t ∧ regsOnly s t) ∧
  (∀ (p : Fin 13) (x : Fin 1024) (v : Word) (s : State), accepts s p (PIC_LOGTRIM x) v = true →
    answers (.logtrimWrite p x v) s fun t =>
      getReg t (PIC_LOGTRIM x) = v ∧ regsBut (fun o => o == PIC_LOGTRIM x) s t ∧ t.pic.colls = s.pic.colls ∧
      t = { s with regs := t.regs, pic := { s.pic with logHigh := t.pic.logHigh, logs := t.pic.logs } }) ∧
  (∀ (g : Fin 65536) (s : State), s.sys.powered = true → gMirror (group s g) = true → gValid (group s g) = true →
    (group s g).unconf.isSome = true → (group s g).mirrorDown = false →
    s.pic.gets.any (fun m => m.group == g.val && s.elapsed m.stamp (gT (group s g))) = true →
    answers (.mirrorTimeout g) s fun t =>
      group t g = { group s g with mirrorDown := true } ∧ (∀ k, k ≠ g.val → group t k = group s k) ∧
      regsQuiet (fun _ => false) s t ∧ signalsOnly { s with pic := { s.pic with groups := t.pic.groups } } t)

/-- The frame at the head of a working die's internal output, past Table 10.4. A contribution to a chunk short of its count is
added element by element to the chunk's accumulators and counted, and only the adding context's counters move; the first of a
chunk of a new collective makes record and slot within an on-die quota; the one that completes the count turns the slot into the
result, with an acknowledgement bit for every member; a second residue mismatch fences the engine and aborts. A RESULT_ACK clears
the ingress port's bit of the chunks it names and releases a slot whose bits are all clear. A RESEND_REQ with no held result is
counted in `PIC_DROP_RANGE`, with one in `PIC_RESENDS`. A suppressed copy of a RESULT clears its port's bit, and counts also
where the bit is clear already. -/
def Obligations.ReductionFrames : Prop :=
  let passes := fun (s : State) (d : Nat) (f : Frame) (data : List Byte) (c : Coll) =>
    s.sys.powered = true ∧ (ioFrames s d).head? = some f ∧ dieUp s d = true ∧ (picRows16 s d f).isNone = true ∧
    picRows79 s f = (none, data) ∧ hasTomb s (hCtx f.hdr) (hGroup f.hdr) (hCseq f.hdr) = false ∧
    findColl s (hCtx f.hdr) (hGroup f.hdr) (hCseq f.hdr) = some c ∧ hCtx f.hdr = gCtx (group s (hGroup f.hdr))
  let collNow := fun (t : State) (f : Frame) => (findColl t (hCtx f.hdr) (hGroup f.hdr) (hCseq f.hdr)).getD {}
  let fin := fun (d : Nat) (s t : State) =>
    t.core = { s.core with ioq := t.core.ioq } ∧ ioFrames t d = (ioFrames s d).tail
  (∀ (d : Fin 4) (f : Frame) (data : List Byte) (c : Coll) (k : Chunk) (s : State), passes s d f data c →
    hType f.hdr = tCONTRIB → findChunk c (hChunk f.hdr) = some k → collBad s c (hChunk f.hdr) = false → 0 < k.count →
    k.count + 1 < gCount (group s (hGroup f.hdr)) →
    answers (.contribRx d .none) s fun t =>
      let k' := (findChunk (collNow t f) (hChunk f.hdr)).getD {};
      let vs := (elements (gFmtIn (group s (hGroup f.hdr))) k.n data).map w48of;
      k' = { k with count := k.count + 1, acc := (k.acc.zip vs).map fun (a, b) => w48add a b } ∧
      (∀ i, i ≠ hChunk f.hdr → findChunk (collNow t f) i = findChunk c i) ∧ fin d s t ∧ regsBut inCtxCount s t ∧
      t = { s with regs := t.regs, core := t.core, pic := { s.pic with colls := t.pic.colls } }) ∧
  (∀ (d : Fin 4) (f : Frame) (data : List Byte) (s : State), s.sys.powered = true → (ioFrames s d).head? = some f →
    dieUp s d = true → (picRows16 s d f).isNone = true → picRows79 s f = (none, data) → s.pic.tombs = [] → s.pic.colls = [] →
    hType f.hdr = tCONTRIB → 2 ≤ (tget {} s.sec.share (gCtx (group s (hGroup f.hdr)))).rslotQuota.getD d 0 →
    1 ≤ tget 64 s.sys.str.rslotMib d → (∀ j, j < 8 → fbit s (PIC_ENG.FENCED (8 * d + j)) = false) →
    1 < gCount (group s (hGroup f.hdr)) →
    answers (.contribRx d .none) s fun t =>
      let g := group s (hGroup f.hdr);
      let c := t.pic.colls.headD {};
      let k := c.chunks.headD {};
      t.pic.colls.length = 1 ∧ c.ctx = gCtx g ∧ c.group = hGroup f.hdr ∧ c.cseq = hCseq f.hdr ∧ c.die = d ∧ c.onDie = true ∧
      c.stamp = s.now ∧ c.chunks.length = 1 ∧ k.idx = hChunk f.hdr ∧ k.count = 1 ∧ k.onDie = true ∧ k.stamp = s.now ∧
      elemsOf (gFmtIn g) data.length = some k.n ∧ k.acc = (elements (gFmtIn g) k.n data).map w48of ∧ k.engine / 8 = d ∧
      fin d s t ∧ regsBut inCtxCount s t) ∧
  (∀ (d : Fin 4) (f : Frame) (data : List Byte) (c : Coll) (k : Chunk) (s : State), passes s d f data c →
    hType f.hdr = tCONTRIB → findChunk c (hChunk f.hdr) = some k → collBad s c (hChunk f.hdr) = false →
    k.count + 1 = gCount (group s (hGroup f.hdr)) → k.freed = false → gEnc (group s (hGroup f.hdr)) = false →
    gLog (group s (hGroup f.hdr)) = false → (tget {} s.flt.chips (fget s TBL_SELF.CHIP)) = {} →
    answers (.contribRx d .none) s fun t =>
      let k' := (findChunk (collNow t f) (hChunk f.hdr)).getD {};
      k'.done = true ∧ k'.count = k.count + 1 ∧ k'.doneAt = s.now ∧ k'.freed = false ∧
      k'.acks = gMembers s (group s (hGroup f.hdr)) ∧ (collNow t f).stamp = s.now) ∧
  (∀ (d : Fin 4) (f : Frame) (data : List Byte) (c : Coll) (k : Chunk) (s : State), passes s d f data c →
    hType f.hdr = tCONTRIB → findChunk c (hChunk f.hdr) = some k → collBad s c (hChunk f.hdr) = false →
    k.count < gCount (group s (hGroup f.hdr)) → s.pic.colls = [c] → k.engine < 32 →
    answers (.contribRx d .failed) s fun t =>
      t.pic.colls = [] ∧ fbit t (PIC_ENG.FENCED k.engine) = true ∧ fbit t (PIC_ENG.TESTED k.engine) = false) ∧
  (∀ (d : Fin 4) (f : Frame) (data : List Byte) (c : Coll) (s : State), passes s d f data c → hType f.hdr = tRESULT_ACK →
    answers (.resultAckRx d) s fun t =>
      (∀ i, findChunk (collNow t f) i = (findChunk c i).map fun k =>
        let left := k.acks.filter (· != f.ingress);
        if hChunk f.hdr < i + fieldAt f.body 0 4 ∧ i ≤ hChunk f.hdr ∧ k.done = true ∧ k.freed = false then
          if left = [] then { k with acks := [], freed := true, result := [] } else { k with acks := left }
        else k) ∧ fin d s t ∧
      t = { s with core := t.core, pic := { s.pic with colls := t.pic.colls } }) ∧
  (∀ (d : Fin 4) (f : Frame) (data : List Byte) (c : Coll) (s : State), passes s d f data c → hType f.hdr = tRESEND_REQ →
    (∀ k, findChunk c (hChunk f.hdr) = some k → k.done = true → k.freed = false → False) →
    answers (.resendReqRx d) s fun t =>
      getReg t PIC_DROP_RANGE = getReg s PIC_DROP_RANGE + 1 ∧ t.pic = s.pic ∧ fin d s t ∧
      regsBut (fun o => inCtxCount o || o == PIC_DROP_RANGE) s t ∧ t = { s with regs := t.regs, core := t.core }) ∧
  (∀ (d : Fin 4) (f : Frame) (data : List Byte) (c : Coll) (k : Chunk) (s : State), passes s d f data c →
    hType f.hdr = tRESEND_REQ → findChunk c (hChunk f.hdr) = some k → k.done = true → k.freed = false →
    collBad s c k.idx = false →
    answers (.resendReqRx d) s fun t => getReg t PIC_RESENDS = getReg s PIC_RESENDS + 1 ∧ t.pic.colls = s.pic.colls) ∧
  (∀ (p : Nat) (f : Frame) (q : List (Nat × Frame)) (c : Coll) (k : Chunk) (s : State), s.sys.powered = true →
    s.core.reports = (p, f) :: q → hType f.hdr = tRESULT →
    findColl s (hCtx f.hdr) (hGroup f.hdr) (hCseq f.hdr) = some c → findChunk c (hChunk f.hdr) = some k → k.done = true →
    k.freed = false → p ∈ k.acks →
    answers .suppressReport s fun t =>
      let c' := collNow t f;
      let left := k.acks.filter (· != p);
      c'.supp = c.supp + 1 ∧ c'.waived = (if p ∈ c.waived then c.waived else c.waived ++ [p]) ∧
      ((findChunk c' (hChunk f.hdr)).getD {}).acks = left ∧
      ((findChunk c' (hChunk f.hdr)).getD {}).freed = decide (left = []) ∧
      t = { s with core := { s.core with reports := q }, pic := { s.pic with colls := t.pic.colls } }) ∧
  (∀ (p : Nat) (f : Frame) (q : List (Nat × Frame)) (c : Coll) (k : Chunk) (s : State), s.sys.powered = true →
    s.core.reports = (p, f) :: q → hType f.hdr = tRESULT →
    findColl s (hCtx f.hdr) (hGroup f.hdr) (hCseq f.hdr) = some c → findChunk c (hChunk f.hdr) = some k → p ∉ k.acks →
    (k.freed = true ∨ k.acks ≠ []) →
    answers .suppressReport s fun t =>
      (collNow t f).supp = c.supp + 1 ∧ (collNow t f).waived = (if p ∈ c.waived then c.waived else c.waived ++ [p]) ∧
      (findChunk (collNow t f) (hChunk f.hdr)).map (fun x => (x.acks, x.freed)) = some (k.acks, k.freed) ∧
      t = { s with core := { s.core with reports := q }, pic := { s.pic with colls := t.pic.colls } })

/-- COLLECTIVE_SEAL of a collective whose every chunk is released frees its record, keeps a tombstone for T and counts it, where
neither log nor mirror applies, and does nothing while a chunk is not released or the mirror hold applies. A slot T old without
its count, or T without progress, ends the collective with TIMEOUT, and a result T old without an acknowledgement with
ACK_TIMEOUT: record and slots go, a tombstone stays, the abort is counted. A lapsed tombstone is forgotten. -/
def Obligations.ReductionEnds : Prop :=
  let ended := fun (x g q off : Nat) (s t : State) =>
    t.pic.colls = s.pic.colls.filter (fun c => !isColl x g q c) ∧ hasTomb t x g q = true ∧ getReg t off = getReg s off + 1 ∧
    t.pic.groups = s.pic.groups
  (∀ (x : Fin 1024) (g : Fin 65536) (q : BitVec 24) (c : Coll) (s : State), s.sys.powered = true →
    findColl s x g q.toNat = some c → gValid (group s g) = true → dieUp s c.die = true → gLog (group s g) = false →
    gMirror (group s g) = false → (∀ i, i < gChunks (group s g) → (findChunk c i).any (·.freed) = true) →
    answers (.collectiveSeal x g q) s (ended x g q.toNat PIC_SEALS s)) ∧
  (∀ (x : Fin 1024) (g : Fin 65536) (q : BitVec 24) (c : Coll) (i : Nat) (s : State),
    findColl s x g q.toNat = some c → i < gChunks (group s g) → i ≤ c.chunks.length → (findChunk c i).all (!·.freed) = true →
    exec (.collectiveSeal x g q) s = .next s) ∧
  (∀ (x : Fin 1024) (g : Fin 65536) (q : BitVec 24) (s : State),
    gMirror (group s g) = true → (group s g).unconf.isSome = true → (group s g).mirrorDown = false →
    exec (.collectiveSeal x g q) s = .next s) ∧
  (∀ (x : Fin 1024) (g : Fin 65536) (q : BitVec 24) (c : Coll) (s : State), s.sys.powered = true → gCtx (group s g) = x.val →
    findColl s x g q.toNat = some c →
    (c.chunks.any fun k => !k.done && s.elapsed k.stamp (gT (group s g))) = true ∨ s.elapsed c.stamp (gT (group s g)) = true →
    answers (.collectiveTimeout x g q) s (ended x g q.toNat PIC_ABORTS s)) ∧
  (∀ (x : Fin 1024) (g : Fin 65536) (q : BitVec 24) (c : Coll) (s : State), s.sys.powered = true → gCtx (group s g) = x.val →
    findColl s x g q.toNat = some c →
    (c.chunks.any fun k => k.done && !k.freed && !k.acks.isEmpty && s.elapsed k.doneAt (gT (group s g))) = true →
    answers (.ackTimeout x g q) s (ended x g q.toNat PIC_ABORTS s)) ∧
  (∀ (x : Fin 1024) (g : Fin 65536) (q : BitVec 24) (s : State), s.sys.powered = true → hasTomb s x g q.toNat = false →
    answers (.tombstoneExpire x g q) s fun t =>
      t.pic.tombs.all (fun e => !(e.ctx == x.val && e.group == g.val && e.cseq == q.toNat)) = true ∧
      (∀ e ∈ s.pic.tombs, s.now < e.expiry → e ∈ t.pic.tombs) ∧ t.pic = { s.pic with tombs := t.pic.tombs } ∧
      t = { s with pic := t.pic })

/-! The bobbin compute fabric (chapter 11). -/

/-- When needle j of bobbin n may fire and stands at a stitch whose successor lies in the program: NOP and FENCE only step on; JMP,
BNZ and BLT choose the next stitch; every stitch of Table 11.7 that writes RD writes the value the table gives from RA, RB and IMM
and steps on, a write of G0 being ignored; TOKW reads a word of the head token; TLOC posts and TSEND sends one token of three
words; IREL releases ring space; LD and ST move 8 bytes of the store. Each removes the head token where P is set, and changes no
other register, needle, queue or bobbin, and no byte of a store but those of ST. HALT stops the needle. -/
def Obligations.Stitches : Prop :=
  let at1 := fun (n : Bob) (j : Fin 4) (s : State) => stitchAt (bob s n) j
  let fires := fun (n : Bob) (j : Fin 4) (op next : Nat) (s : State) =>
    s.sys.powered = true ∧ canFire s n j = true ∧ sOp (stitchAt (bob s n) j) = op ∧
    (bob s n).progBad.contains (needle (bob s n) j).pc = false ∧ next < (bob s n).record.prog.length
  let pops := fun (n : Bob) (j : Fin 4) (q : Nat) (s : State) =>
    if sP (stitchAt (bob s n) j) = true ∧ q = sTq (stitchAt (bob s n) j) then (queueOf (bob s n) q).drop 1 else queueOf (bob s n) q
  let moved := fun (n : Bob) (j : Fin 4) (next : Nat) (s t : State) =>
    needle (bob t n) j = { needle (bob s n) j with pc := next, issueAt := s.mono + 1, regs := (needle (bob t n) j).regs } ∧
    (∀ i, i ≠ j.val → needle (bob t n) i = needle (bob s n) i) ∧
    bob t n = { bob s n with needles := (bob t n).needles, queues := (bob t n).queues } ∧
    (∀ m, m ≠ n.val → bob t m = bob s m) ∧ t = { s with bob := t.bob }
  let steps1 := fun (n : Bob) (j : Fin 4) (next : Nat) (s t : State) =>
    moved n j next s t ∧ (needle (bob t n) j).regs = (needle (bob s n) j).regs ∧ ∀ q, queueOf (bob t n) q = pops n j q s
  let writes := fun (n : Bob) (j : Fin 4) (v : Word) (s t : State) =>
    moved n j (nextPc (bob s n) j) s t ∧
    (∀ k, gReg (bob t n) j k = if k = sRd (stitchAt (bob s n) j) ∧ k ≠ 0 then v else gReg (bob s n) j k) ∧
    ∀ q, queueOf (bob t n) q = pops n j q s
  (∀ (n : Bob) (j : Fin 4) (s : State), fires n j 0x00 (nextPc (bob s n) j) s →
    answers (.nop n j) s (steps1 n j (nextPc (bob s n) j) s)) ∧
  (∀ (n : Bob) (j : Fin 4) (s : State), fires n j 0x03 (sImm (at1 n j s)) s →
    answers (.jmp n j) s (steps1 n j (sImm (at1 n j s)) s)) ∧
  (∀ (n : Bob) (j : Fin 4) (s : State), fires n j 0x04 (if vRa (bob s n) j (at1 n j s) ≠ 0 then sImm (at1 n j s) else nextPc (bob s n) j) s →
    answers (.bnz n j) s (steps1 n j (if vRa (bob s n) j (at1 n j s) ≠ 0 then sImm (at1 n j s) else nextPc (bob s n) j) s)) ∧
  (∀ (n : Bob) (j : Fin 4) (s : State), fires n j 0x05 (if (vRa (bob s n) j (at1 n j s)).toInt < (vRb (bob s n) j (at1 n j s)).toInt then sImm (at1 n j s) else nextPc (bob s n) j) s →
    answers (.blt n j) s (steps1 n j (if (vRa (bob s n) j (at1 n j s)).toInt < (vRb (bob s n) j (at1 n j s)).toInt then sImm (at1 n j s) else nextPc (bob s n) j) s)) ∧
  (∀ (n : Bob) (j : Fin 4) (s : State), fires n j 0x28 (nextPc (bob s n) j) s →
    answers (.fence n j) s (steps1 n j (nextPc (bob s n) j) s)) ∧
  (∀ (n : Bob) (j : Fin 4) (s : State), fires n j 0x06 (nextPc (bob s n) j) s →
    answers (.tokw n j) s (writes n j (tokWord ((queueOf (bob s n) (sTq (at1 n j s))).headD {}) (sImm (at1 n j s) % 4)) s)) ∧
  (∀ (n : Bob) (j : Fin 4) (s : State), fires n j 0x10 (nextPc (bob s n) j) s →
    answers (.addi n j) s (writes n j (vRa (bob s n) j (at1 n j s) + (BitVec.ofInt 64 (sext 32 (sImm (at1 n j s))))) s)) ∧
  (∀ (n : Bob) (j : Fin 4) (s : State), fires n j 0x11 (nextPc (bob s n) j) s →
    answers (.add n j) s (writes n j (vRa (bob s n) j (at1 n j s) + vRb (bob s n) j (at1 n j s)) s)) ∧
  (∀ (n : Bob) (j : Fin 4) (s : State), fires n j 0x12 (nextPc (bob s n) j) s →
    answers (.sub n j) s (writes n j (vRa (bob s n) j (at1 n j s) - vRb (bob s n) j (at1 n j s)) s)) ∧
  (∀ (n : Bob) (j : Fin 4) (s : State), fires n j 0x13 (nextPc (bob s n) j) s →
    answers (.mul n j) s (writes n j (vRa (bob s n) j (at1 n j s) * vRb (bob s n) j (at1 n j s)) s)) ∧
  (∀ (n : Bob) (j : Fin 4) (s : State), fires n j 0x14 (nextPc (bob s n) j) s →
    answers (.and n j) s (writes n j (vRa (bob s n) j (at1 n j s) &&& vRb (bob s n) j (at1 n j s)) s)) ∧
  (∀ (n : Bob) (j : Fin 4) (s : State), fires n j 0x15 (nextPc (bob s n) j) s →
    answers (.or n j) s (writes n j (vRa (bob s n) j (at1 n j s) ||| vRb (bob s n) j (at1 n j s)) s)) ∧
  (∀ (n : Bob) (j : Fin 4) (s : State), fires n j 0x16 (nextPc (bob s n) j) s →
    answers (.xor n j) s (writes n j (vRa (bob s n) j (at1 n j s) ^^^ vRb (bob s n) j (at1 n j s)) s)) ∧
  (∀ (n : Bob) (j : Fin 4) (s : State), fires n j 0x17 (nextPc (bob s n) j) s →
    answers (.shl n j) s (writes n j (vRa (bob s n) j (at1 n j s) <<< (sImm (at1 n j s) % 64)) s)) ∧
  (∀ (n : Bob) (j : Fin 4) (s : State), fires n j 0x18 (nextPc (bob s n) j) s →
    answers (.shr n j) s (writes n j (vRa (bob s n) j (at1 n j s) >>> (sImm (at1 n j s) % 64)) s)) ∧
  (∀ (n : Bob) (j : Fin 4) (s : State), fires n j 0x19 (nextPc (bob s n) j) s →
    answers (.li n j) s (writes n j (BitVec.ofNat 64 (sImm (at1 n j s))) s)) ∧
  (∀ (n : Bob) (j : Fin 4) (s : State), fires n j 0x1A (nextPc (bob s n) j) s →
    answers (.lih n j) s (writes n j ((vRa (bob s n) j (at1 n j s) &&& 0xFFFFFFFF) ||| (BitVec.ofNat 64 (sImm (at1 n j s)) <<< 32)) s)) ∧
  (∀ (n : Bob) (j : Fin 4) (s : State), fires n j 0x1D (nextPc (bob s n) j) s →
    answers (.rdtime n j) s (writes n j (s.timeWord) s)) ∧
  (∀ (n : Bob) (j : Fin 4) (s : State), fires n j 0x01 0 s →
    answers (.halt n j) s fun t =>
      (needle (bob t n) j).running = false ∧ (∀ i, i ≠ j.val → needle (bob t n) i = needle (bob s n) i) ∧
      (∀ q, queueOf (bob t n) q = pops n j q s) ∧
      (∀ m, m ≠ n.val → bob t m = { bob s m with mma := (bob t m).mma } ∧ (bob t m).mma.map (·.desc) = (bob s m).mma.map (·.desc)) ∧
      ((regionBobs t (bob s n).region).all (fun m => (bob t m).needles.all fun e => !e.2.running) = true →
        regionState t (bob s n).region = rWOVEN ∧ fbit t (BOB_RGN_STAT.DONE (bob s n).region) = true) ∧
      ((regionBobs t (bob s n).region).all (fun m => (bob t m).needles.all fun e => !e.2.running) = false →
        (∀ m, m ≠ n.val → bob t m = bob s m) ∧ t = { s with bob := t.bob })) ∧
  (∀ (n : Bob) (j : Fin 4) (a : Nat) (s : State), fires n j 0x1B (nextPc (bob s n) j) s →
    (vRa (bob s n) j (at1 n j s) + (BitVec.ofInt 64 (sext 32 (sImm (at1 n j s))))).toNat = a → a % 8 = 0 → a + 8 ≤ storeSize → storeBad (bob s n) a 8 = false →
    (bob s n).eccOne.any (wordIn a 8) = false →
    answers (.ld n j) s (writes n j (BitVec.ofNat 64 (unle (storeBytes (bob s n) a 8))) s)) ∧
  (∀ (n : Bob) (j : Fin 4) (a : Nat) (s : State), fires n j 0x1C (nextPc (bob s n) j) s →
    (vRa (bob s n) j (at1 n j s) + (BitVec.ofInt 64 (sext 32 (sImm (at1 n j s))))).toNat = a → a % 8 = 0 → a + 8 ≤ storeSize →
    answers (.st n j) s fun t =>
      unle (storeBytes (bob t n) a 8) = (vRb (bob s n) j (at1 n j s)).toNat ∧
      (∀ b, b < a ∨ a + 8 ≤ b → storeByte (bob t n) b = storeByte (bob s n) b) ∧
      (needle (bob t n) j) = { needle (bob s n) j with pc := nextPc (bob s n) j, issueAt := s.mono + 1 } ∧ (∀ q, queueOf (bob t n) q = pops n j q s) ∧
      (∀ m, m ≠ n.val → bob t m = bob s m) ∧ t = { s with bob := t.bob }) ∧
  (∀ (n : Bob) (j : Fin 4) (a : Nat) (s : State), fires n j 0x1B (nextPc (bob s n) j) s →
    (vRa (bob s n) j (at1 n j s) + (BitVec.ofInt 64 (sext 32 (sImm (at1 n j s))))).toNat = a → a % 8 ≠ 0 ∨ storeSize < a + 8 →
    answers (.ld n j) s fun t =>
      fget t (BOB_RGN_STAT.FAULT (bob s n).region) = 1 ∧ regionState t (bob s n).region = rWOVEN) ∧
  (∀ (n : Bob) (j : Fin 4) (a : Nat) (s : State), fires n j 0x1C (nextPc (bob s n) j) s →
    (vRa (bob s n) j (at1 n j s) + (BitVec.ofInt 64 (sext 32 (sImm (at1 n j s))))).toNat = a → a % 8 ≠ 0 ∨ storeSize < a + 8 →
    answers (.st n j) s fun t =>
      fget t (BOB_RGN_STAT.FAULT (bob s n).region) = 1 ∧ regionState t (bob s n).region = rWOVEN) ∧
  (∀ (n : Bob) (j : Fin 4) (s : State), fires n j 0x02 0 s →
    answers (.err n j) s fun t =>
      fget t (BOB_RGN_STAT.FAULT (bob s n).region) = 6 ∧ fget t (BOB_RGN_STAT.FVALUE (bob s n).region) = sImm (at1 n j s) % 65536 ∧
      fget t (BOB_RGN_STAT.FNEEDLE (bob s n).region) = j ∧
      fget t (BOB_RGN_STAT.FSTITCH (bob s n).region) = (needle (bob s n) j).pc % 2048 ∧
      regionState t (bob s n).region = rWOVEN ∧ (bob t n).needles = [] ∧ (bob t n).queues = []) ∧
  (∀ (n : Bob) (j : Fin 4) (s : State), fires n j 0x08 (nextPc (bob s n) j) s →
    answers (.tloc n j) s fun t =>
      let q := sImm (at1 n j s) / 16 % 16;
      let k : Token := ((queueOf (bob t n) q).getLast?).getD {};
      moved n j (nextPc (bob s n) j) s t ∧ (needle (bob t n) j).regs = (needle (bob s n) j).regs ∧
      k.w0 = vRa (bob s n) j (at1 n j s) ∧ k.w1 = vRb (bob s n) j (at1 n j s) ∧ k.w2 = vRd (bob s n) j (at1 n j s) ∧ bits k.hdr.toNat 0 8 = 0 ∧
      (∀ r, queueOf (bob t n) r = if r = q then (if sP (at1 n j s) = true ∧ r = sTq (at1 n j s) then (queueOf (bob s n) r ++ [k]).drop 1
        else queueOf (bob s n) r ++ [k]) else pops n j r s)) ∧
  (∀ (n : Bob) (j : Fin 4) (k : Nat) (s : State), fires n j 0x07 (nextPc (bob s n) j) s → sImm (at1 n j s) % 16 = k →
    routeKind (bob s n) k ≠ 0 → routeDest (bob s n) n k ≠ n.val → reach s (bobDie n) (bobDie (routeDest (bob s n) n k)) = true →
    answers (.tsend n j) s fun t =>
      let m := routeDest (bob s n) n k;
      let f : Flit := ((bob t m).inFlight.getLast?).getD {};
      let g : Token := f.tok.getD {};
      bob t m = { bob s m with inFlight := (bob s m).inFlight ++ [f] } ∧ f.tok.isSome = true ∧ f.queue = sImm (at1 n j s) / 16 % 16 ∧
      f.srcRgn = (bob s n).region ∧ g.w0 = vRa (bob s n) j (at1 n j s) ∧ g.w1 = vRb (bob s n) j (at1 n j s) ∧ g.w2 = vRd (bob s n) j (at1 n j s) ∧
      needle (bob t n) j = { needle (bob s n) j with pc := nextPc (bob s n) j, issueAt := s.mono + 1 } ∧ (∀ q, queueOf (bob t n) q = pops n j q s) ∧
      (∀ i, i ≠ m → i ≠ n.val → bob t i = bob s i) ∧ t = { s with bob := t.bob }) ∧
  (∀ (n : Bob) (j : Fin 4) (e : Nat × BitVec 128) (x : Inlet) (s : State), fires n j 0x09 (nextPc (bob s n) j) s →
    inletEntry (bob s n) (sImm (at1 n j s) % 16) = some e → releaseTo (bob s n) e.1 e.2 (vRa (bob s n) j (at1 n j s)).toNat = some x →
    answers (.irel n j) s fun t =>
      tget {} (bob t n).inlets e.1 = x ∧ (∀ i, i ≠ e.1 → tget {} (bob t n).inlets i = tget {} (bob s n).inlets i) ∧
      x.head = (tget {} (bob s n).inlets e.1).head ∧ x.used ≤ (tget {} (bob s n).inlets e.1).used ∧
      needle (bob t n) j = { needle (bob s n) j with pc := nextPc (bob s n) j, issueAt := s.mono + 1 } ∧ t = { s with bob := t.bob })

/-- When needle j of bobbin n may fire an asynchronous stitch with a readable descriptor that holds, its unit takes the work, with
the descriptor as read, the needle, the stitch and the completion token asked for, behind the work it holds; the needle has one
more outstanding and steps on; no store byte and no other bobbin changes, but that a copy along a route sets its rows out,
32 bytes at a time. A
descriptor outside its ranges faults the region with BAD_ADDR. -/
def Obligations.AsyncStitches : Prop :=
  let reads := fun (n : Bob) (j : Fin 4) (op len : Nat) (d : List Byte) (s : State) =>
    s.sys.powered = true ∧ canFire s n j = true ∧ sOp (stitchAt (bob s n) j) = op ∧
    (bob s n).progBad.contains (needle (bob s n) j).pc = false ∧ nextPc (bob s n) j < (bob s n).record.prog.length ∧
    descAt (bob s n) (vRa (bob s n) j (stitchAt (bob s n) j)).toNat len = .inr d
  let work := fun (n : Bob) (j : Fin 4) (d : List Byte) (s : State) =>
    ({ needle := j, desc := d, post := bit (sImm (stitchAt (bob s n) j)) 4, queue := sImm (stitchAt (bob s n) j) % 16,
       w0 := vRa (bob s n) j (stitchAt (bob s n) j), kind := dF d 0 1, pc := (needle (bob s n) j).pc, stamp := s.now,
       frameId := s.core.nextId } : Work)
  let issued := fun (n : Bob) (j : Fin 4) (s t : State) =>
    needle (bob t n) j = { needle (bob s n) j with
      pc := nextPc (bob s n) j, pendAsync := (needle (bob s n) j).pendAsync + 1, issueAt := s.mono + 1 } ∧
    (∀ i, i ≠ j.val → needle (bob t n) i = needle (bob s n) i) ∧ (bob t n).store = (bob s n).store
  let alone := fun (n : Bob) (s t : State) =>
    (∀ m, m ≠ n.val → bob t m = bob s m) ∧ regsBut (fun o => o == PMC_STORE_CE (bob s n).region) s t ∧
    t = { s with regs := t.regs, bob := t.bob, core := t.core }
  (∀ (n : Bob) (j : Fin 4) (d : List Byte) (s : State), reads n j 0x20 64 d s → mmaOk d = true →
    answers (.mma n j) s fun t =>
      (bob t n).mma = (bob s n).mma ++ [work n j d s] ∧ (bob t n).vop = (bob s n).vop ∧ issued n j s t ∧ alone n s t) ∧
  (∀ (n : Bob) (j : Fin 4) (d : List Byte) (s : State), reads n j 0x20 64 d s → mmaOk d = false →
    answers (.mma n j) s fun t =>
      fget t (BOB_RGN_STAT.FAULT (bob s n).region) = 1 ∧ regionState t (bob s n).region = rWOVEN) ∧
  (∀ (n : Bob) (j : Fin 4) (d : List Byte) (s : State), reads n j 0x21 64 d s → dF d 0 1 = 0x01 → vopOk d = true →
    answers (.vadd n j) s fun t =>
      (bob t n).vop = (bob s n).vop ++ [work n j d s] ∧ (bob t n).mma = (bob s n).mma ∧ issued n j s t ∧ alone n s t) ∧
  (∀ (n : Bob) (j : Fin 4) (d : List Byte) (s : State), reads n j 0x21 64 d s → dF d 0 1 = 0x02 → vopOk d = true →
    answers (.vsub n j) s fun t =>
      (bob t n).vop = (bob s n).vop ++ [work n j d s] ∧ (bob t n).mma = (bob s n).mma ∧ issued n j s t ∧ alone n s t) ∧
  (∀ (n : Bob) (j : Fin 4) (d : List Byte) (s : State), reads n j 0x21 64 d s → dF d 0 1 = 0x03 → vopOk d = true →
    answers (.vmul n j) s fun t =>
      (bob t n).vop = (bob s n).vop ++ [work n j d s] ∧ (bob t n).mma = (bob s n).mma ∧ issued n j s t ∧ alone n s t) ∧
  (∀ (n : Bob) (j : Fin 4) (d : List Byte) (s : State), reads n j 0x21 64 d s → dF d 0 1 = 0x04 → vopOk d = true →
    answers (.vfma n j) s fun t =>
      (bob t n).vop = (bob s n).vop ++ [work n j d s] ∧ (bob t n).mma = (bob s n).mma ∧ issued n j s t ∧ alone n s t) ∧
  (∀ (n : Bob) (j : Fin 4) (d : List Byte) (s : State), reads n j 0x21 64 d s → dF d 0 1 = 0x05 → vopOk d = true →
    answers (.vmax n j) s fun t =>
      (bob t n).vop = (bob s n).vop ++ [work n j d s] ∧ (bob t n).mma = (bob s n).mma ∧ issued n j s t ∧ alone n s t) ∧
  (∀ (n : Bob) (j : Fin 4) (d : List Byte) (s : State), reads n j 0x21 64 d s → dF d 0 1 = 0x06 → vopOk d = true →
    answers (.vmin n j) s fun t =>
      (bob t n).vop = (bob s n).vop ++ [work n j d s] ∧ (bob t n).mma = (bob s n).mma ∧ issued n j s t ∧ alone n s t) ∧
  (∀ (n : Bob) (j : Fin 4) (d : List Byte) (s : State), reads n j 0x21 64 d s → dF d 0 1 = 0x07 → vopOk d = true →
    answers (.vabs n j) s fun t =>
      (bob t n).vop = (bob s n).vop ++ [work n j d s] ∧ (bob t n).mma = (bob s n).mma ∧ issued n j s t ∧ alone n s t) ∧
  (∀ (n : Bob) (j : Fin 4) (d : List Byte) (s : State), reads n j 0x21 64 d s → dF d 0 1 = 0x08 → vopOk d = true →
    answers (.vdiv n j) s fun t =>
      (bob t n).vop = (bob s n).vop ++ [work n j d s] ∧ (bob t n).mma = (bob s n).mma ∧ issued n j s t ∧ alone n s t) ∧
  (∀ (n : Bob) (j : Fin 4) (d : List Byte) (s : State), reads n j 0x21 64 d s → dF d 0 1 = 0x09 → vopOk d = true →
    answers (.vsqrt n j) s fun t =>
      (bob t n).vop = (bob s n).vop ++ [work n j d s] ∧ (bob t n).mma = (bob s n).mma ∧ issued n j s t ∧ alone n s t) ∧
  (∀ (n : Bob) (j : Fin 4) (d : List Byte) (s : State), reads n j 0x21 64 d s → dF d 0 1 = 0x0A → vopOk d = true →
    answers (.vrsqrt n j) s fun t =>
      (bob t n).vop = (bob s n).vop ++ [work n j d s] ∧ (bob t n).mma = (bob s n).mma ∧ issued n j s t ∧ alone n s t) ∧
  (∀ (n : Bob) (j : Fin 4) (d : List Byte) (s : State), reads n j 0x21 64 d s → dF d 0 1 = 0x0B → vopOk d = true →
    answers (.vexp n j) s fun t =>
      (bob t n).vop = (bob s n).vop ++ [work n j d s] ∧ (bob t n).mma = (bob s n).mma ∧ issued n j s t ∧ alone n s t) ∧
  (∀ (n : Bob) (j : Fin 4) (d : List Byte) (s : State), reads n j 0x21 64 d s → dF d 0 1 = 0x0C → vopOk d = true →
    answers (.vlog n j) s fun t =>
      (bob t n).vop = (bob s n).vop ++ [work n j d s] ∧ (bob t n).mma = (bob s n).mma ∧ issued n j s t ∧ alone n s t) ∧
  (∀ (n : Bob) (j : Fin 4) (d : List Byte) (s : State), reads n j 0x21 64 d s → dF d 0 1 = 0x0D → vopOk d = true →
    answers (.vcvt n j) s fun t =>
      (bob t n).vop = (bob s n).vop ++ [work n j d s] ∧ (bob t n).mma = (bob s n).mma ∧ issued n j s t ∧ alone n s t) ∧
  (∀ (n : Bob) (j : Fin 4) (d : List Byte) (s : State), reads n j 0x21 64 d s → dF d 0 1 = 0x0E → vopOk d = true →
    answers (.vsum n j) s fun t =>
      (bob t n).vop = (bob s n).vop ++ [work n j d s] ∧ (bob t n).mma = (bob s n).mma ∧ issued n j s t ∧ alone n s t) ∧
  (∀ (n : Bob) (j : Fin 4) (d : List Byte) (s : State), reads n j 0x21 64 d s → dF d 0 1 = 0x0F → vopOk d = true →
    answers (.vmaxi n j) s fun t =>
      (bob t n).vop = (bob s n).vop ++ [work n j d s] ∧ (bob t n).mma = (bob s n).mma ∧ issued n j s t ∧ alone n s t) ∧
  (∀ (n : Bob) (j : Fin 4) (d : List Byte) (s : State), reads n j 0x21 64 d s → dF d 0 1 = 0x10 → vopOk d = true →
    answers (.vselgt n j) s fun t =>
      (bob t n).vop = (bob s n).vop ++ [work n j d s] ∧ (bob t n).mma = (bob s n).mma ∧ issued n j s t ∧ alone n s t) ∧
  (∀ (n : Bob) (j : Fin 4) (d : List Byte) (s : State), reads n j 0x22 64 d s → dF d 0 1 = 0 → copyCheck s n (bob s n) d = 0 →
    answers (.copyStoreLocal n j) s fun t =>
      (bob t n).copy = (bob s n).copy ++ [work n j d s] ∧ t.core = { s.core with nextId := s.core.nextId + 1 } ∧ issued n j s t ∧
      alone n s t) ∧
  (∀ (n : Bob) (j : Fin 4) (d : List Byte) (s : State), reads n j 0x22 64 d s → dF d 0 1 = 2 → copyCheck s n (bob s n) d = 0 →
    answers (.copyMemToStore n j) s fun t =>
      (bob t n).copy = (bob s n).copy ++ [work n j d s] ∧ t.core = { s.core with nextId := s.core.nextId + 1 } ∧ issued n j s t ∧
      alone n s t) ∧
  (∀ (n : Bob) (j : Fin 4) (d : List Byte) (s : State), reads n j 0x22 64 d s → dF d 0 1 = 3 → copyCheck s n (bob s n) d = 0 →
    answers (.copyStoreToMem n j) s fun t =>
      (bob t n).copy = (bob s n).copy ++ [work n j d s] ∧ t.core = { s.core with nextId := s.core.nextId + 1 } ∧ issued n j s t ∧
      alone n s t) ∧
  (∀ (n : Bob) (j : Fin 4) (d : List Byte) (s : State), reads n j 0x22 64 d s → dF d 0 1 = 4 → copyCheck s n (bob s n) d = 0 →
    answers (.copyGather n j) s fun t =>
      (bob t n).copy = (bob s n).copy ++ [work n j d s] ∧ t.core = { s.core with nextId := s.core.nextId + 1 } ∧ issued n j s t ∧
      alone n s t) ∧
  (∀ (n : Bob) (j : Fin 4) (d : List Byte) (s : State), reads n j 0x22 64 d s → dF d 0 1 = 5 → copyCheck s n (bob s n) d = 0 →
    answers (.copyScatter n j) s fun t =>
      (bob t n).copy = (bob s n).copy ++ [work n j d s] ∧ t.core = { s.core with nextId := s.core.nextId + 1 } ∧ issued n j s t ∧
      alone n s t) ∧
  (∀ (n : Bob) (j : Fin 4) (d : List Byte) (s : State), reads n j 0x22 64 d s → dF d 0 1 = 1 → copyCheck s n (bob s n) d = 0 →
    (∀ i, i < dF d 4 4 → storeBad (bob s n) (copyRow (bob s n) d i).1 (dF d 8 4) = false) →
    routeDest (bob s n) n (dF d 1 1) ≠ n.val → reach s (bobDie n) (bobDie (routeDest (bob s n) n (dF d 1 1))) = true →
    answers (.copyToRoute n j) s fun t =>
      let m := routeDest (bob s n) n (dF d 1 1);
      (bob t n).copy = (bob s n).copy ++ [work n j d s] ∧ issued n j s t ∧
      ((bob t m).inFlight.drop (bob s m).inFlight.length).map (fun f => (f.addr, f.data, f.work)) =
        (List.range (dF d 4 4)).flatMap (fun i => (List.range (dF d 8 4 / 32)).map fun g =>
          ((copyRow (bob s n) d i).2 + 32 * g, storeBytes (bob s n) ((copyRow (bob s n) d i).1 + 32 * g) 32, s.core.nextId)) ∧
      bob t m = { bob s m with inFlight := (bob t m).inFlight } ∧ (∀ i, i ≠ m → i ≠ n.val → bob t i = bob s i)) ∧
  (∀ (n : Bob) (j : Fin 4) (d : List Byte) (s : State), reads n j 0x23 32 d s → sendOk s (regionOwner s (bob s n).region) d = true →
    storeBad (bob s n) (dF d 0x18 4) (if bit (dF d 6 1) 1 then dF d 0x14 4 - 28 else dF d 0x14 4) = false →
    answers (.send n j) s fun t =>
      (bob t n).send.map (fun k => (k.needle, k.desc, k.frameId)) =
        (bob s n).send.map (fun k => (k.needle, k.desc, k.frameId)) ++ [(j.val, d, s.core.nextId)] ∧ issued n j s t)

/-- The oldest work of a unit, whose completion token has room and whose operands are readable, completes: an MMA stores the rows
of C, a vector operation its results and its sticky flags, a copy of one row its bytes, a copy along a route nothing of its own
once no row is on the way, a SEND that has crossed nothing. Store bytes outside those written keep their values. The work leaves
its unit, its needle has one fewer outstanding, and the token asked for, with W0 = RA, is posted to the queue asked for. -/
def Obligations.UnitCompletions : Prop :=
  let posts := fun (n : Bob) (k : Work) (s t : State) =>
    (needle (bob t n) k.needle).pendAsync = (needle (bob s n) k.needle).pendAsync - 1 ∧
    (∀ i, i ≠ k.needle → needle (bob t n) i = needle (bob s n) i) ∧ (∀ m, m ≠ n.val → bob t m = bob s m) ∧
    (k.post = false → (bob t n).queues = (bob s n).queues) ∧
    (k.post = true →
      (queueOf (bob t n) k.queue).dropLast = queueOf (bob s n) k.queue ∧
      (((queueOf (bob t n) k.queue).getLast?).getD {}).w0 = k.w0 ∧ (((queueOf (bob t n) k.queue).getLast?).getD {}).w1 = 0 ∧
      bits (((queueOf (bob t n) k.queue).getLast?).getD {}).hdr.toNat 0 8 = 1 ∧
      ∀ q, q ≠ k.queue → queueOf (bob t n) q = queueOf (bob s n) q)
  let due := fun (n : Bob) (l : List Work) (k : Work) (r : List Work) (s : State) =>
    s.sys.powered = true ∧ l = k :: r ∧ dieUp s (bobDie n) = true ∧ postRoom s n k = true
  (∀ (n : Bob) (k : Work) (r : List Work) (s : State), due n (bob s n).mma k r s → mmaOk k.desc = true →
    (mmaReads k.desc).any (fun q => storeBad (bob s n) q.1 q.2) = false → 4 * dF k.desc 6 2 ≤ dF k.desc 0x24 4 →
    answers (.mmaComplete n) s fun t =>
      (∀ q ∈ mmaRows (bob s n) k.desc s.free, storeBytes (bob t n) q.1 q.2.length = q.2) ∧
      (∀ a, (mmaDest k.desc).all (fun q => a < q.1 || q.1 + q.2 ≤ a) = true → storeByte (bob t n) a = storeByte (bob s n) a) ∧
      (bob t n).mma.map (·.desc) = r.map (·.desc) ∧ posts n k s t) ∧
  (∀ (n : Bob) (k : Work) (r : List Work) (s : State), due n (bob s n).vop k r s → vopOk k.desc = true →
    (vopReads k.desc).any (fun q => storeBad (bob s n) q.1 q.2) = false → (bob s n).region < 64 →
    answers (.vopComplete n) s fun t =>
      let x := vopResult (bob s n) k.desc s.free;
      (∀ q ∈ x.1.getLast?.toList, storeBytes (bob t n) q.1 q.2.length = q.2) ∧
      (∀ a, x.1.all (fun q => a < q.1 || q.1 + q.2.length ≤ a) = true → storeByte (bob t n) a = storeByte (bob s n) a) ∧
      fget t (BOB_RGN_STAT.IEEE (bob s n).region) % 8 = (fget s (BOB_RGN_STAT.IEEE (bob s n).region) ||| x.2) % 8 ∧
      (bob t n).vop = r ∧ posts n k s t ∧ t.mem = s.mem) ∧
  (∀ (n : Bob) (k : Work) (r : List Work) (s : State), due n (bob s n).copy k r s → k.kind = 0 → dF k.desc 0 1 = 0 →
    dF k.desc 4 4 = 1 → storeBad (bob s n) (dF k.desc 0x10 8) (dF k.desc 8 4) = false →
    answers (.copyComplete n) s fun t =>
      storeBytes (bob t n) (dF k.desc 0x20 8) (dF k.desc 8 4) = storeBytes (bob s n) (dF k.desc 0x10 8) (dF k.desc 8 4) ∧
      (∀ a, a < dF k.desc 0x20 8 ∨ dF k.desc 0x20 8 + dF k.desc 8 4 ≤ a → storeByte (bob t n) a = storeByte (bob s n) a) ∧
      (bob t n).copy = r ∧ posts n k s t ∧ t.mem = s.mem) ∧
  (∀ (n : Bob) (k : Work) (r : List Work) (x : Nat) (s : State), due n (bob s n).copy k r s → k.kind = 2 → dF k.desc 0 1 = 2 →
    dF k.desc 4 4 = 1 → bobOwner s n = x → inWindow s x (dF k.desc 0x10 8) (dF k.desc 8 4) = true →
    ctxFar s n x (dF k.desc 0x10 8) (dF k.desc 8 4) = false → ctxHeld s n x (dF k.desc 0x10 8) (dF k.desc 8 4) = false →
    memSound s → ctxBad s x (dF k.desc 0x10 8) (dF k.desc 8 4) = false →
    answers (.copyComplete n) s fun t =>
      storeBytes (bob t n) (dF k.desc 0x20 8) (dF k.desc 8 4) = ctxRead s x (dF k.desc 0x10 8) (dF k.desc 8 4) ∧
      (∀ a, a < dF k.desc 0x20 8 ∨ dF k.desc 0x20 8 + dF k.desc 8 4 ≤ a → storeByte (bob t n) a = storeByte (bob s n) a) ∧
      (bob t n).copy = r ∧ posts n k s t ∧ t.mem = s.mem) ∧
  (∀ (n : Bob) (k : Work) (r : List Work) (x : Nat) (s : State), due n (bob s n).copy k r s → k.kind = 3 → dF k.desc 0 1 = 3 →
    dF k.desc 4 4 = 1 → bobOwner s n = x → inWindow s x (dF k.desc 0x20 8) (dF k.desc 8 4) = true →
    storeBad (bob s n) (dF k.desc 0x10 8) (dF k.desc 8 4) = false →
    ctxFar s n x (dF k.desc 0x20 8) (dF k.desc 8 4) = false → ctxHeld s n x (dF k.desc 0x20 8) (dF k.desc 8 4) = false →
    memSound s → ctxPartBad s x (dF k.desc 0x20 8) (dF k.desc 8 4) = false →
    answers (.copyComplete n) s fun t =>
      t.mem = (ctxWrite s x (dF k.desc 0x20 8) (storeBytes (bob s n) (dF k.desc 0x10 8) (dF k.desc 8 4))).mem ∧
      (bob t n).store = (bob s n).store ∧ (bob t n).copy = r ∧ posts n k s t) ∧
  (∀ (n : Bob) (k : Work) (r : List Work) (s : State), due n (bob s n).copy k r s → k.kind = 1 → copyOnWay s k.frameId = false →
    answers (.copyComplete n) s fun t =>
      (bob t n).copy = r ∧ (bob t n).store = (bob s n).store ∧ posts n k s t ∧ t = { s with bob := t.bob }) ∧
  (∀ (n : Bob) (k : Work) (r : List Work) (s : State), due n (bob s n).send k r s → k.crossed = true →
    answers (.sendComplete n) s fun t =>
      (bob t n).send = r ∧ (bob t n).store = (bob s n).store ∧ posts n k s t ∧ t = { s with bob := t.bob })

/-- TOKEN_ARRIVE at a working die takes the oldest flit: within a region a token joins its queue, or copy data is written; from a
region of another owner, with a stale role generation, or to a region not RUNNING it is dropped and counted, and nothing of the
bobbin changes. INLET_DELIVERY of a frame past Table 11.10 writes its payload into the ring and posts one delivery token with
address, length, TYPE and CHAN; to a region not RUNNING it is dropped and counted. HANDOFF_DELIVERY does the same at inlet 15. -/
def Obligations.BobbinArrivals : Prop :=
  let rest := fun (n : Nat) (s t : State) => (∀ m, m ≠ n → bob t m = bob s m) ∧ t.mem = s.mem
  (∀ (n : Bob) (f : Flit) (k : Token) (r : List Flit) (s : State), s.sys.powered = true → dieUp s (bobDie n) = true →
    (bob s n).inFlight = f :: r → f.tok = some k → flitComes s n f = true → (bob s n).region = f.srcRgn →
    f.srcRgn < 64 →
    answers (.tokenArrive n) s fun t =>
      queueOf (bob t n) f.queue = queueOf (bob s n) f.queue ++ [k] ∧
      (∀ q, q ≠ f.queue → queueOf (bob t n) q = queueOf (bob s n) q) ∧
      bob t n = { bob s n with inFlight := r, queues := (bob t n).queues } ∧ rest n s t ∧ t = { s with bob := t.bob }) ∧
  (∀ (n : Bob) (f : Flit) (r : List Flit) (s : State), s.sys.powered = true → dieUp s (bobDie n) = true →
    (bob s n).inFlight = f :: r → f.tok = none → flitComes s n f = true → (bob s n).region = f.srcRgn → f.srcRgn < 64 →
    answers (.tokenArrive n) s fun t =>
      storeBytes (bob t n) f.addr f.data.length = f.data ∧
      (∀ a, a < f.addr ∨ f.addr + f.data.length ≤ a → storeByte (bob t n) a = storeByte (bob s n) a) ∧
      (bob t n).inFlight = r ∧ (bob t n).queues = (bob s n).queues ∧ rest n s t ∧ t = { s with bob := t.bob }) ∧
  (∀ (n : Bob) (f : Flit) (r : List Flit) (s : State), s.sys.powered = true → dieUp s (bobDie n) = true →
    (bob s n).inFlight = f :: r → flitComes s n f = true → (bob s n).region ≠ f.srcRgn → (bob s n).region < 64 →
    regionOwner s (bob s n).region ≠ f.ctx ∨ f.gen.toNat ≠ regionGen s (bob s n).region ∨
      regionState s (bob s n).region ≠ rRUNNING →
    answers (.tokenArrive n) s fun t =>
      getReg t (BOB_TOK_DROP (bob s n).region) = getReg s (BOB_TOK_DROP (bob s n).region) + 1 ∧
      bob t n = { bob s n with inFlight := r } ∧ rest n s t) ∧
  (∀ (c : Fin 4) (f : Frame) (n i : Nat) (e : BitVec 128) (o : Nat) (x : Inlet) (s : State), s.sys.powered = true →
    ioReady s (4 + c) = true → (ioFrames s (4 + c)).head? = some f → hType f.hdr = tDATA →
    regionWeaving s (dataRegion f.hdr) = false → hRgen f.hdr = regionGen s (dataRegion f.hdr) →
    hCtx f.hdr = regionOwner s (dataRegion f.hdr) → regionState s (dataRegion f.hdr) = rRUNNING →
    hOffset f.hdr % 2 ^ 34 = 0 → hEnc f.hdr = false → findInlet s (dataRegion f.hdr) (dataInlet f.hdr) = some (n, i, e) →
    ringPut (tget {} (bob s n).inlets i) (inSize e) f.body.length = some (o, x) → queueFull (bob s n) (inQueue e) = false →
    f.body.length ≤ 8192 → inBase e + o < storeSize →
    answers (.inletDelivery c) s fun t =>
      let k := ((queueOf (bob t n) (inQueue e)).getLast?).getD {};
      storeBytes (bob t n) (inBase e + o) f.body.length = f.body ∧ tget {} (bob t n).inlets i = x ∧
      (∀ a, a < inBase e + o ∨ inBase e + o + f.body.length ≤ a → storeByte (bob t n) a = storeByte (bob s n) a) ∧
      (queueOf (bob t n) (inQueue e)).dropLast = queueOf (bob s n) (inQueue e) ∧
      bits k.w0.toNat 0 21 = inBase e + o ∧ bits k.w0.toNat 21 14 = f.body.length ∧ bits k.w0.toNat 35 8 = hType f.hdr % 256 ∧
      bits k.w2.toNat 0 20 = hSrc f.hdr ∧ bits k.hdr.toNat 0 8 = 2 ∧ rest n s t ∧ regsBut (fun _ => false) s t) ∧
  (∀ (c : Fin 4) (f : Frame) (s : State), s.sys.powered = true → ioReady s (4 + c) = true →
    (ioFrames s (4 + c)).head? = some f → hType f.hdr = tDATA → regionWeaving s (dataRegion f.hdr) = false →
    hRgen f.hdr = regionGen s (dataRegion f.hdr) → hCtx f.hdr = regionOwner s (dataRegion f.hdr) →
    regionState s (dataRegion f.hdr) ≠ rRUNNING → dataRegion f.hdr < 64 →
    answers (.inletDelivery c) s fun t =>
      getReg t (BOB_RX_DROP (dataRegion f.hdr)) = getReg s (BOB_RX_DROP (dataRegion f.hdr)) + 1 ∧ t.bob = s.bob ∧ t.mem = s.mem) ∧
  (∀ (r : Region) (f : Frame) (g : List Frame) (n i : Nat) (e : BitVec 128) (o : Nat) (x : Inlet) (s : State),
    s.sys.powered = true → dieUp s (4 + r / 16) = true → tget [] s.pic.handoff r = f :: g → hRgen f.hdr = regionGen s r →
    regionState s r = rRUNNING → findInlet s r 15 = some (n, i, e) →
    ringPut (tget {} (bob s n).inlets i) (inSize e) f.body.length = some (o, x) → queueFull (bob s n) (inQueue e) = false →
    answers (.handoffDelivery r) s fun t =>
      storeBytes (bob t n) (inBase e + o) f.body.length = f.body ∧ tget {} (bob t n).inlets i = x ∧
      (queueOf (bob t n) (inQueue e)).dropLast = queueOf (bob s n) (inQueue e) ∧
      (((queueOf (bob t n) (inQueue e)).getLast?).getD {}).w1 = BitVec.ofNat 64 (hf f.hdr 2 0 64) ∧
      tget [] t.pic.handoff r = g ∧ t.pic.colls = s.pic.colls ∧ rest n s t ∧ regsBut (fun _ => false) s t)

/-- START of a valid WOVEN region of an ACTIVE owner with a needle to start takes it to RUNNING, with every started needle at its
ENTRY, its registers zero, and its bobbins' queues and inlets empty; of a region not WOVEN it ends with STATE, of one whose owner
is not ACTIVE with CONTEXT, of one not valid with INVALID, and changes nothing else. STOP of a RUNNING region takes it to WOVEN
with its needles, work, queues and inlets gone, and records the end. -/
def Obligations.RegionCommands : Prop :=
  let codeOnly := fun (k : Nat) (s t : State) =>
    fget t BOB_RGN_CMDSTAT.CODE = k ∧ regsBut (fun o => o == BOB_RGN_CMDSTAT) s t ∧ regsOnly s t
  (∀ (p : Fin 13) (r : Region) (m : Nat) (s : State), accepts s p BOB_RGN_CMD (BitVec.ofNat 64 (256 + r)) = true →
    regionValid s r = true → regionState s r = rWOVEN → regionOwner s r < 1024 → ctxState s (regionOwner s r) = 2 →
    (bob s m).region = r → (bob s m).record.needles ≠ 0 →
    answers (.regionStart p r) s fun t =>
      fget t BOB_RGN_CMDSTAT.CODE = 0 ∧ getReg t (BOB_RGN_STAT r) = BitVec.ofNat 64 rRUNNING ∧
      (∀ n, (bob s n).region = r.val →
        (bob t n).queues = [] ∧ (bob t n).inlets = [] ∧ (bob t n).store = (bob s n).store ∧ (bob t n).record = (bob s n).record ∧
        (∀ i, i < 4 → needle (bob t n) i = if (bob s n).record.needles.getLsbD i then
          { running := true, pc := (bob s n).record.entry.getD i 0 } else {})) ∧
      regsBut (fun o => o == BOB_RGN_CMDSTAT || o == BOB_RGN_STAT r) s t ∧ t = { s with regs := t.regs, bob := t.bob }) ∧
  (∀ (p : Fin 13) (r : Region) (s : State), accepts s p BOB_RGN_CMD (BitVec.ofNat 64 (256 + r)) = true →
    answers (.regionStart p r) s fun t =>
      (regionValid s r = false → codeOnly 3 s t) ∧
      (regionValid s r = true → regionState s r ≠ rWOVEN → codeOnly 1 s t) ∧
      (regionValid s r = true → regionState s r = rWOVEN → ctxState s (regionOwner s r) ≠ 2 → codeOnly 2 s t)) ∧
  (∀ (p : Fin 13) (r : Region) (s : State), accepts s p BOB_RGN_CMD (BitVec.ofNat 64 (512 + r)) = true →
    regionValid s r = true → regionState s r = rRUNNING →
    answers (.regionStop p r) s fun t =>
      fget t BOB_RGN_CMDSTAT.CODE = 0 ∧ regionState t r = rWOVEN ∧ fget t (BOB_RGN_STAT.FAULT r) = fget s (BOB_RGN_STAT.FAULT r) ∧
      (∀ n, (bob s n).region = r.val →
        (bob t n).needles = [] ∧ (bob t n).queues = [] ∧ (bob t n).inlets = [] ∧ (bob t n).mma = [] ∧ (bob t n).vop = [] ∧
        (bob t n).copy = [] ∧ (bob t n).send = [] ∧ (bob t n).record = (bob s n).record)) ∧
  (∀ (p : Fin 13) (r : Region) (s : State), accepts s p BOB_RGN_CMD (BitVec.ofNat 64 (512 + r)) = true →
    regionValid s r = true → regionState s r ≠ rRUNNING →
    answers (.regionStop p r) s (codeOnly 1 s))

/-! Memory and one-sided access (chapter 13). -/

/-- A PUT at the head of a working die's output that passes R71 and Table 13.5 and meets no unreadable line in part writes its
bytes where its offset lies and no other byte of any die; one that meets such a line is counted in `MEM_OS_UE` and writes nothing;
one of a context that may not use the module is counted in `MEM_OS_DENY`, and a GET likewise. A GET that passes changes no byte of
memory; one of a line with an uncorrectable error poisons the line and counts it in `MEM_UE` and `MEM_OS_UE`. A GET_RESP that answers an outstanding GET advances MIRRORED and ends the GET; any other is counted in `MEM_OS_BAD`. A
patrol read of a line with an uncorrectable error poisons it and counts it, one with a two-bit error counts it and retires its
group. A write of `MEM_MAP_SEL` shows the selected frame. -/
def Obligations.OneSidedMemory : Prop :=
  let head := fun (io : Fin 8) (f : Frame) (ty : Nat) (s : State) =>
    s.sys.powered = true ∧ (ioFrames s io).head? = some f ∧ hType f.hdr = ty ∧ ioReady s io = true ∧ memSound s
  let passes := fun (f : Frame) (n : Nat) (s : State) =>
    hRgen f.hdr = ctxGen s (hCtx f.hdr) ∧ ctxUsable s (hCtx f.hdr) = true ∧ 0 < n ∧
    hOffset f.hdr + n ≤ winBytes s (hCtx f.hdr) ∧ oneFrame (hOffset f.hdr) n = true ∧
    touchesSlot s (hCtx f.hdr) (hOffset f.hdr) n = false
  (∀ (io : Fin 8) (f : Frame) (d P : Nat) (s : State), head io f tPUT s → passes f (hLen f.hdr) s → f.body.length = hLen f.hdr →
    ctxLoc s (hCtx f.hdr) (hOffset f.hdr) = some (d, P) → P + hLen f.hdr ≤ 2 ^ 40 →
    writeBlocked s d P (hLen f.hdr) = false →
    answers (.oneSidedPut io) s fun t =>
      memRead t d P (hLen f.hdr) = f.body ∧
      (∀ e, e < 8 → ∀ a, a / 2 ^ 40 = 0 → (e ≠ d ∨ a < P ∨ P + hLen f.hdr ≤ a) → memByte t e a = memByte s e a) ∧
      regsBut inCtxCount s t ∧ t = { s with regs := t.regs, core := { s.core with ioq := t.core.ioq }, mem := t.mem }) ∧
  (∀ (io : Fin 8) (f : Frame) (d P : Nat) (s : State), head io f tPUT s → passes f (hLen f.hdr) s →
    ctxLoc s (hCtx f.hdr) (hOffset f.hdr) = some (d, P) → writeBlocked s d P (hLen f.hdr) = true →
    answers (.oneSidedPut io) s fun t =>
      getReg t MEM_OS_UE = getReg s MEM_OS_UE + 1 ∧ t.mem = s.mem ∧ regsBut (fun o => inCtxCount o || o == MEM_OS_UE) s t) ∧
  (∀ (io : Fin 8) (f : Frame) (s : State), head io f tPUT s → hRgen f.hdr = ctxGen s (hCtx f.hdr) →
    ctxUsable s (hCtx f.hdr) = false →
    answers (.oneSidedPut io) s fun t => getReg t MEM_OS_DENY = getReg s MEM_OS_DENY + 1 ∧ t.mem = s.mem) ∧
  (∀ (io : Fin 8) (f : Frame) (s : State), head io f tGET s → getShape f = true → passes f (getLen f) s →
    ctxBad s (hCtx f.hdr) (hOffset f.hdr) (getLen f) = false →
    answers (.oneSidedGet io) s fun t =>
      t.mem = s.mem ∧ t.core.nextId = s.core.nextId + 1 ∧ getReg t MEM_OS_UE = getReg s MEM_OS_UE ∧
      getReg t MEM_OS_DENY = getReg s MEM_OS_DENY ∧ getReg t MEM_OS_BAD = getReg s MEM_OS_BAD) ∧
  (∀ (io : Fin 8) (f : Frame) (d P : Nat) (s : State), s.sys.powered = true → (ioFrames s io).head? = some f → hType f.hdr = tGET →
    ioReady s io = true → getShape f = true → passes f (getLen f) s → ctxLoc s (hCtx f.hdr) (hOffset f.hdr) = some (d, P) →
    P % 64 + getLen f ≤ 64 → lineBad s d P = false → d < 8 → P < 2 ^ 40 → spareOf s (memChanOf d P) (memChanAddr P / 512) = none →
    worst (lineErrs s (memChanOf d P) (memChanAddr P)) = 3 →
    worst (lineErrs s (memChanOf d P) (0x1C0000000 + memChanAddr P / 512 * 64)) < 2 →
    answers (.oneSidedGet io) s fun t =>
      lineBad t d P = true ∧ getReg t (MEM_UE (memChanOf d P)) = getReg s (MEM_UE (memChanOf d P)) + 1 ∧
      getReg t MEM_OS_UE = getReg s MEM_OS_UE + 1 ∧ t.mem.bytes = s.mem.bytes) ∧
  (∀ (io : Fin 8) (f : Frame) (s : State), head io f tGET s → hRgen f.hdr = ctxGen s (hCtx f.hdr) →
    ctxUsable s (hCtx f.hdr) = false →
    answers (.oneSidedGet io) s fun t => getReg t MEM_OS_DENY = getReg s MEM_OS_DENY + 1 ∧ t.mem = s.mem) ∧
  (∀ (io : Fin 8) (f : Frame) (m : MirrorGet) (s : State), head io f tGET_RESP s → hLen f.hdr ≠ 0 → s.pic.gets = [m] →
    m.ctx = hCtx f.hdr → m.ret = hOffset f.hdr → m.buddy = hSrc f.hdr → m.posEnd < 2 ^ 64 →
    answers (.getRespRx io) s fun t =>
      t.pic.gets = [] ∧ (getReg t (PIC_LOGMIR m.ctx)).toNat = max (getReg s (PIC_LOGMIR m.ctx)).toNat m.posEnd ∧
      regsBut (fun o => o == PIC_LOGMIR m.ctx) s t ∧ t.mem = s.mem ∧ t.pic.colls = s.pic.colls) ∧
  (∀ (io : Fin 8) (f : Frame) (s : State), head io f tGET_RESP s →
    s.pic.gets.all (fun m => !(m.ctx == hCtx f.hdr && m.ret == hOffset f.hdr)) = true →
    answers (.getRespRx io) s fun t =>
      getReg t MEM_OS_BAD = getReg s MEM_OS_BAD + 1 ∧ regsBut (fun o => inCtxCount o || o == MEM_OS_BAD) s t ∧ t.pic = s.pic ∧
      t.mem = s.mem) ∧
  (∀ (c : Fin 640) (a : BitVec 33) (s : State), s.sys.powered = true → dieUp s (c / 80) = true → a.toNat < 0x1C0000000 →
    memSound s → spareOf s c (a.toNat / 512) = none → lineBad s (c / 80) (memDieAddr c a.toNat) = false →
    answers (.patrolRead c a ⟨.uncorrectable, []⟩) s fun t =>
      lineBad t (c / 80) (memDieAddr c (a.toNat - a.toNat % 64)) = true ∧ getReg t (MEM_UE c) = getReg s (MEM_UE c) + 1 ∧
      t.mem.bytes = s.mem.bytes ∧ t.nvs.retired = s.nvs.retired ∧
      regsQuiet (fun o => o == MEM_UE c || o == MEM_SCRUB) s t) ∧
  (∀ (c : Fin 640) (a : BitVec 33) (s : State), s.sys.powered = true → dieUp s (c / 80) = true → a.toNat < 0x1C0000000 →
    memSound s → (tget [] s.nvs.retired c).length < 4095 → (tget [] s.nvs.retired c).contains (a.toNat / 512) = false →
    (∀ k, k < 8 → lineBad s (c / 80) (memDieAddr c (a.toNat / 512 * 512 + 64 * k)) = false) →
    answers (.patrolRead c a ⟨.two, []⟩) s fun t =>
      tget [] t.nvs.retired c = tget [] s.nvs.retired c ++ [a.toNat / 512] ∧ getReg t (MEM_CE c) = getReg s (MEM_CE c) + 1 ∧
      fget t (MEM_CH.RETIRED c) = (tget [] s.nvs.retired c).length + 1 ∧ t.mem.bytes = s.mem.bytes ∧
      t.mem.poison = s.mem.poison) ∧
  (∀ (p : Fin 13) (w : Word) (s : State), accepts s p MEM_MAP_SEL w = true → wbit w MEM_MAP_SEL.KIND = false →
    answers (.memMapSelect p w) s fun t =>
      let fr := (winFrames s (wget w MEM_MAP_SEL.CTX))[wget w MEM_MAP_SEL.FRAME]?;
      fbit t MEM_MAP_DATA.VALID = fr.isSome ∧
      fr.all (fun q => fget t MEM_MAP_DATA.DIE == q.1 % 8 || 8 ≤ q.1 || 8192 ≤ q.2) = true ∧
      fr.all (fun q => fget t MEM_MAP_DATA.PFRAME == q.2 || 8192 ≤ q.2) = true ∧
      regsBut (fun o => o == MEM_MAP_SEL || o == MEM_MAP_DATA) s t ∧ regsOnly s t)

/-! The timebase (chapter 14). -/

/-- A read of `TB_SEC` returns the seconds and latches nanoseconds, fraction and short time-stamp for its own path and no other.
TB_SET sets the timebase to the staged seconds and the written nanoseconds with a zero fraction, and STEPPED. A sample with EN = 0
is only kept in `TB_LAST`; one that may step moves the timebase by −e and clears the integrator; any other leaves the timebase and
keeps integrator and RATE within ±858,993. A servo without a sample for HOLD_MS goes to HOLDOVER. TB_CAP_POP shows the oldest
capture record, zeros if there is none. Arming takes the time of `TB_TRIG_T_k`, nearest the present; a trigger whose time has come
fires once, by its interrupt source or by one token to its bobbin. -/
def Obligations.Timebase : Prop :=
  (∀ (p : Fin 13) (s : State), s.sys.powered = true → pathLive s p = true →
    answers (.tbSecRead p) s fun t =>
      t.out = .readData p TB_SEC (BitVec.ofNat 64 s.tbSec) :: s.out ∧
      tget {} t.time.latches (pathKey s p) = { ns := s.tbNs % 1000000000, frac := s.tb % 2 ^ 32 / 2 ^ 16, short := s.tbNs % 2 ^ 32 } ∧
      (∀ k, k ≠ pathKey s p → tget {} t.time.latches k = tget {} s.time.latches k) ∧
      t = { s with out := t.out, time := { s.time with latches := t.time.latches } }) ∧
  (∀ (p : Fin 13) (v : Word) (s : State), accepts s p TB_SET_NS v = true →
    answers (.tbSet p v) s fun t =>
      t.tb = (fget s TB_SET_SEC.SEC * 1000000000 + v.toNat % 2 ^ 32) * 2 ^ 32 % (2 ^ 48 * 1000000000 * 2 ^ 32) ∧
      fbit t TB_STAT.STEPPED = true ∧ t.mono = s.mono ∧ t.time = s.time) ∧
  (∀ (p : Fin 13) (v : Word) (s : State), accepts s p TB_OFFSET v = true → fbit s TB_SERVO.EN = false →
    answers (.tbOffsetSample p v) s fun t =>
      getReg t TB_LAST = v ∧ t.tb = s.tb ∧ t.time = s.time ∧
      regsBut (fun o => o == TB_LAST || o == TB_OFFSET) s t ∧ regsOnly s t) ∧
  (∀ (p : Fin 13) (v : Word) (s : State), accepts s p TB_OFFSET v = true → fbit s TB_SERVO.EN = true →
    fbit s TB_SERVO.STEP_EN = true → fget s TB_SERVO.STEP_NS * 65536 ≤ v.toInt.natAbs → slottedNow s = false →
    answers (.tbOffsetSample p v) s fun t =>
      t.tb = (((s.tb : Int) - v.toInt * 65536) % (2 ^ 48 * 1000000000 * 2 ^ 32 : Nat)).toNat ∧ t.time.integ = 0 ∧
      fbit t TB_STAT.STEPPED = true ∧ getReg t TB_LAST = v ∧ fget t TB_RATE.RATE = fget s TB_RATE.RATE) ∧
  (∀ (p : Fin 13) (v : Word) (s : State), accepts s p TB_OFFSET v = true → fbit s TB_SERVO.EN = true →
    fbit s TB_SERVO.STEP_EN = false ∨ v.toInt.natAbs < fget s TB_SERVO.STEP_NS * 65536 ∨ slottedNow s = true →
    answers (.tbOffsetSample p v) s fun t =>
      t.tb = s.tb ∧ getReg t TB_LAST = v ∧ t.time.integ.natAbs ≤ 858993 ∧ (sext 32 (fget t TB_RATE.RATE)).natAbs ≤ 858993 ∧
      (fget s TB_STAT.SERVO = svLOCKED → 100 * 65536 < v.toInt.natAbs → fget t TB_STAT.SERVO = svLOCKING)) ∧
  (∀ s : State, s.sys.powered = true → fget s TB_STAT.SERVO = svLOCKING ∨ fget s TB_STAT.SERVO = svLOCKED →
    s.elapsed s.time.lastSample (fget s TB_SERVO.HOLD_MS * 1000000) = true →
    answers .holdoverTimeout s fun t =>
      fget t TB_STAT.SERVO = svHOLDOVER ∧ fget t TB_RATE.RATE = fget s TB_RATE.RATE ∧
      regsQuiet (fun o => o == TB_STAT) s t ∧ signalsOnly s t) ∧
  (∀ (p : Fin 13) (s : State), accepts s p TB_CAP_POP 1 = true →
    answers (.capPop p) s fun t =>
      (∀ k, k < 6 → getReg t (TB_CAP_W k) = (s.time.capFifo.headD []).getD k 0) ∧ t.time.capFifo = s.time.capFifo.tail ∧
      regsBut (fun o => o == TB_CAP_STAT || (TB_CAP_W 0 ≤ o && o ≤ TB_CAP_W 5)) s t ∧
      t = { s with regs := t.regs, time := { s.time with capFifo := t.time.capFifo } }) ∧
  (∀ (p : Fin 13) (k : Fin 64) (v : Word) (s : State), accepts s p (TB_TRIG_C k) v = true → wbit v (TB_TRIG_C.ARMED k) = true →
    answers (.triggerArm p k v) s fun t =>
      let a := tget 0 t.time.trigAt k;
      fbit t (TB_TRIG_C.ARMED k) = true ∧ fbit t (TB_TRIG_C.LATE k) = false ∧
      fget t (TB_TRIG_C.ACTION k) = wget v (TB_TRIG_C.ACTION k) ∧ fget t (TB_TRIG_C.GEN k) = wget v (TB_TRIG_C.GEN k) ∧
      a = nearTime s (fget s (TB_TRIG_T.SEC k)) (fget s (TB_TRIG_T.NS k)) ∧ tget false t.time.trigDue k = decide (a ≤ s.tbNs) ∧
      (∀ j, j ≠ k.val → tget 0 t.time.trigAt j = tget 0 s.time.trigAt j) ∧ regsBut (fun o => o == TB_TRIG_C k) s t ∧
      t = { s with regs := t.regs, time := t.time }) ∧
  (∀ (k : Fin 64) (s : State), s.sys.powered = true → trigReady s k = true → (∀ j, j < 64 → j ≠ k.val → trigReady s j = false) →
    fget s (TB_TRIG_C.ACTION k) = 0 →
    answers (.triggerFire k) s fun t =>
      fbit t (TB_TRIG_C.ARMED k) = false ∧ fbit t (TB_TRIG_C.FIRED k) = true ∧
      (tget false s.time.trigDue k = true → fbit t (TB_TRIG_C.LATE k) = true) ∧
      (fget t (IC_SRC.STATE (80 + k)) = 1 ∨ fget t (IC_SRC.STATE (80 + k)) = 3) ∧ t.bob = s.bob ∧
      regsQuiet (fun o => o == TB_TRIG_C k) s t ∧ signalsOnly s t) ∧
  (∀ (k : Fin 64) (n : Nat) (s : State), s.sys.powered = true → trigReady s k = true →
    (∀ j, j < 64 → j ≠ k.val → trigReady s j = false) → fget s (TB_TRIG_C.ACTION k) = 1 →
    (regionBobs s (fget s (TB_TRIG_C.REGION k)))[fget s (TB_TRIG_C.BOBBIN k)]? = some n →
    fget s (TB_TRIG_C.GEN k) = regionGen s (fget s (TB_TRIG_C.REGION k)) →
    regionState s (fget s (TB_TRIG_C.REGION k)) = rRUNNING →
    answers (.triggerFire k) s fun t =>
      let f : Flit := ((bob t n).inFlight.getLast?).getD {};
      let g : Token := f.tok.getD {};
      let a := tget 0 s.time.trigAt k;
      fbit t (TB_TRIG_C.ARMED k) = false ∧ fbit t (TB_TRIG_C.FIRED k) = true ∧
      bob t n = { bob s n with inFlight := (bob s n).inFlight ++ [f] } ∧ f.tok.isSome = true ∧
      f.queue = fget s (TB_TRIG_C.QUEUE k) ∧ g.w1 = BitVec.ofNat 64 k ∧ g.w2 = 0 ∧
      g.w0 = BitVec.ofNat 64 (a / 1000000000 % 2 ^ 32 * 2 ^ 32 + a % 1000000000) ∧ (∀ m, m ≠ n → bob t m = bob s m) ∧
      regsBut (fun o => o == TB_TRIG_C k) s t ∧ t = { s with regs := t.regs, bob := t.bob, free := t.free })

/-! Faults, fences and recovery (chapters 2 and 15). -/

/-- Three missed heartbeats or a failed self-check of a working die leave it in RESET; of a READY die they are a new fault with
its cause, time and count, the die back in RESET; of a die that is in neither state they change nothing. DIE_RESET_DONE ends the
reset in READY, or in HELD after a third fault within the hour. A rejoining CP die that is not too hot comes up with its memory zero and other dies'
memory as it was. DIE_FAULT_AGE leaves in FAULTS the faults of the last hour. CTL_FAULT reads FAULTED, admits nothing and closes
every fibre gate. An OE fault takes the chiplet's ports down and fences them; an over-temperature LPDDR6 device's channels fail. -/
def Obligations.DieFaults : Prop :=
  let quiet := fun (own : Nat → Bool) (s t : State) => regsQuiet own s t ∧ signalsOnly { s with flt := t.flt } t
  (∀ (d : Fin 8) (s : State), s.sys.powered = true → testFree s = true → fget s (FLT_DIE.STATE d) = 0 →
    answers (.heartbeatMiss d) s fun t => fget t (FLT_DIE.STATE d) = 2) ∧
  (∀ (d : Fin 8) (s : State), s.sys.powered = true → testFree s = true → fget s (FLT_DIE.STATE d) = 0 →
    answers (.dieSelfCheck d) s fun t => fget t (FLT_DIE.STATE d) = 2) ∧
  (∀ (d : Fin 8) (s : State), s.sys.powered = true → testFree s = true → fget s (FLT_DIE.STATE d) = 3 →
    answers (.heartbeatMiss d) s fun t =>
      let times := recent s (tget [] s.flt.dieFaults d) 3600000000000 ++ [s.now];
      fget t (FLT_DIE.STATE d) = 2 ∧ fget t (FLT_DIE.CAUSE d) = 1 ∧ fget t (FLT_DIE.TS d) = s.shortTs ∧
      fget t (FLT_DIE.FAULTS d) = times.length % 65536 ∧ tget [] t.flt.dieFaults d = times ∧
      tget false t.flt.dieHeld d = decide (3 ≤ times.length) ∧ tget false t.flt.dieJoin d = false ∧
      quiet (fun o => o == FLT_DIE d || o == FLT_XDIE || (FLT_BUNDLE 0 ≤ o && o < FLT_BUNDLE 32)) s t) ∧
  (∀ (d : Fin 8) (s : State), s.sys.powered = true → testFree s = true → fget s (FLT_DIE.STATE d) = 3 →
    answers (.dieSelfCheck d) s fun t =>
      fget t (FLT_DIE.STATE d) = 2 ∧ fget t (FLT_DIE.CAUSE d) = 4 ∧
      quiet (fun o => o == FLT_DIE d || o == FLT_XDIE || (FLT_BUNDLE 0 ≤ o && o < FLT_BUNDLE 32)) s t) ∧
  (∀ (d : Fin 8) (s : State), testFree s = true → fget s (FLT_DIE.STATE d) ≠ 0 → fget s (FLT_DIE.STATE d) ≠ 3 →
    exec (.heartbeatMiss d) s = .next s ∧ exec (.dieSelfCheck d) s = .next s) ∧
  (∀ (d : Fin 8) (s : State), s.sys.powered = true → fget s (FLT_DIE.STATE d) = 2 →
    answers (.dieResetDone d) s fun t =>
      fget t (FLT_DIE.STATE d) = (if tget false s.flt.dieHeld d = true then 4 else 3) ∧ t.flt = s.flt ∧
      fget t (FLT_DIE.CAUSE d) = fget s (FLT_DIE.CAUSE d) ∧ fget t (FLT_DIE.FAULTS d) = fget s (FLT_DIE.FAULTS d) ∧
      quiet (fun o => o == FLT_DIE d) s t) ∧
  (∀ (d : Fin 8) (s : State), s.sys.powered = true → testFree s = true → 4 ≤ d.val → fget s (FLT_DIE.STATE d) = 3 →
    tget false s.flt.dieJoin d = true → coolEnough s d = true →
    answers (.rejoinMemoryZeroed d) s fun t =>
      dieUp t d = true ∧ tget false t.flt.dieJoin d = false ∧ (∀ P, P / 2 ^ 40 = 0 → memByte t d P = 0) ∧
      (∀ e P, e ≠ d.val → P / 2 ^ 40 = 0 → memByte t e P = memByte s e P) ∧ t.mem.winFr = s.mem.winFr ∧ t.mem.logFr = s.mem.logFr) ∧
  (∀ (d : Fin 8) (s : State), s.sys.powered = true →
    answers (.dieFaultAge d) s fun t =>
      fget t (FLT_DIE.FAULTS d) = ((tget [] s.flt.dieFaults d).filter fun x => decide (s.now < x + 3600000000000)).length % 65536 ∧
      fget t (FLT_DIE.STATE d) = fget s (FLT_DIE.STATE d) ∧ fget t (FLT_DIE.CAUSE d) = fget s (FLT_DIE.CAUSE d) ∧
      regsBut (fun o => o == FLT_DIE d) s t ∧
      t = { s with regs := t.regs, flt := { s.flt with dieFaults := t.flt.dieFaults } }) ∧
  (∀ s : State, s.sys.powered = true → testFree s = true →
    answers .ctlFault s fun t =>
      t.mode = mFAULTED ∧ t.sys.gateRules = false ∧ (∀ F, F < 128 → fibreSends t F = false ∧ (dieUp s (F / 32) = true → fget t (OPT_FIBRE.OPEN F) = 0))) ∧
  (∀ (n : Fin 16) (s : State), s.sys.powered = true → dieUp s (n / 4) = true → s.sys.refPhase ≠ 1 →
    answers (.oeFault n) s fun t =>
      ∀ L, L / 64 = n.val → isPort s L = true → (port t L).under = pDOWN ∧ portFenced t L = true) ∧
  (∀ (v : Fin 40) (s : State), s.sys.powered = true → dieUp s (v / 5) = true →
    answers (.lpddr6CaseOvertemp v) s fun t =>
      (∀ i, tget false t.mem.failed i = true ↔ (tget false s.mem.failed i = true ∨ i / 16 = v.val)) ∧
      regsQuiet (fun _ => false) s t ∧ signalsOnly { s with mem := { s.mem with failed := t.mem.failed } } t)

/-- A failed flit CRC on a bundle between working dies is counted as a replay. A lane failure in a waveguide with a spare left
takes a spare and opens a 2 µs retune window, the bundle's width unchanged; with both spares used the waveguide is removed; a lane of
a CTL bundle takes its die with it. The window ends when it is due. Losing the reference in use goes over to the other where it is
good; where it is not, the internal oscillator is in use, REFOUT carries nothing, and the timebase holds over; losing the other one
only marks it bad. With the internal oscillator running every port on a working die is DOWN. One second after the loss a module in
which no data port has come UP since is FAULTED (in whatever mode, log entry 131); one in which a port has is BASIC. A reference that
returns is only noted. -/
def Obligations.BundlesAndReferences : Prop :=
  (∀ (b : Fin 32) (s : State), s.sys.powered = true → (bundleDies b).all (dieUp s) = true →
    answers (.flitCrcFail b) s fun t =>
      getReg t (FLT_REPLAY b) = getReg s (FLT_REPLAY b) + 1 ∧ regsBut (fun o => o == FLT_REPLAY b) s t ∧ regsOnly s t) ∧
  (∀ (b : Fin 40) (g l : Nat) (s : State), s.sys.powered = true → (bundleDies b).all (dieUp s) = true → g < bundleN b → b.val < 32 →
    tget 0 (bundle s b).spareUsed g < 2 →
    answers (.interposerLaneFail b g l) s fun t =>
      tget 0 (bundle t b).spareUsed g = tget 0 (bundle s b).spareUsed g + 1 ∧ (bundle t b).retuneEnd = s.now + 2000 ∧
      (bundle t b).removed = (bundle s b).removed ∧ (∀ k, k ≠ b.val → bundle t k = bundle s k) ∧
      regsQuiet (fun o => o == FLT_XDIE || (FLT_BUNDLE 0 ≤ o && o < FLT_BUNDLE 32)) s t ∧
      signalsOnly { s with flt := { s.flt with bundles := t.flt.bundles } } t) ∧
  (∀ (b : Fin 40) (g l : Nat) (s : State), s.sys.powered = true → (bundleDies b).all (dieUp s) = true → g < bundleN b →
    tget 0 (bundle s b).spareUsed g = 2 → b.val < 16 →
    answers (.interposerLaneFail b g l) s fun t =>
      (bundle t b).removed = (bundle s b).removed + 1 ∧ (bundle t b).retuneEnd = s.now + 2000 ∧
      fget t (FLT_BUNDLE.WIDTH b) = (bundleN b - (bundle s b).removed - 1) % 256 ∧ (∀ k, k ≠ b.val → bundle t k = bundle s k) ∧
      regsQuiet (fun o => o == FLT_XDIE || (FLT_BUNDLE 0 ≤ o && o < FLT_BUNDLE 32)) s t ∧
      signalsOnly { s with flt := { s.flt with bundles := t.flt.bundles } } t) ∧
  (∀ (b : Fin 40) (l : Nat) (s : State), s.sys.powered = true → testFree s = true → 32 ≤ b.val → l < 4 →
    fget s (FLT_DIE.STATE (b - 32)) = 0 →
    answers (.interposerLaneFail b 0 l) s fun t => fget t (FLT_DIE.STATE (b - 32)) = 2 ∧ fget t (FLT_DIE.CAUSE (b - 32)) = 5) ∧
  (∀ (b : Fin 32) (s : State), s.sys.powered = true → (bundle s b).retuneEnd ≠ 0 → (bundle s b).retuneEnd ≤ s.now →
    answers (.retuneEnd b) s fun t =>
      bundle t b = { bundle s b with retuneEnd := 0 } ∧ (∀ k, k ≠ b.val → bundle t k = bundle s k) ∧
      t = { s with flt := { s.flt with bundles := t.flt.bundles } }) ∧
  (∀ (x : Bool) (s : State), s.sys.powered = true → s.sys.refGood = 3#2 → fget s TB_STAT.REF = b2n x →
    answers (.refLoss x) s fun t =>
      fget t TB_STAT.REF = 1 - b2n x ∧ refOut t = some (1 - b2n x) ∧ t.sys.refGood.getLsbD (b2n x) = false ∧ t.sys.refGood.getLsbD (1 - b2n x) = true ∧
      (∀ L, (port t L).under = (port s L).under) ∧ regsQuiet (fun o => o == TB_STAT) s t ∧
      signalsOnly { s with sys := { s.sys with refGood := t.sys.refGood } } t) ∧
  (∀ (x : Bool) (s : State), s.sys.powered = true → s.sys.refGood.getLsbD (b2n x) = true →
    s.sys.refGood.getLsbD (1 - b2n x) = false → fget s TB_STAT.REF = b2n x →
    answers (.refLoss x) s fun t =>
      t.sys.refPhase = 1 ∧ t.sys.refLostAt = s.now ∧ fget t TB_STAT.REF = 2 ∧ refOut t = none ∧
      getReg t (PMC_EVT 0xC04) = getReg s (PMC_EVT 0xC04) + 1 ∧ fget t TB_STAT.SERVO = svHOLDOVER ∧ t.ports = s.ports ∧ t.tb = s.tb ∧
      regsQuiet (fun o => o == TB_STAT) s t) ∧
  (∀ (x : Bool) (s : State), s.sys.powered = true → s.sys.refGood.getLsbD (b2n x) = true → fget s TB_STAT.REF ≠ b2n x →
    answers (.refLoss x) s fun t =>
      t.sys.refGood.getLsbD (b2n x) = false ∧ t = { s with sys := { s.sys with refGood := t.sys.refGood } }) ∧
  (∀ s : State, s.sys.powered = true → s.sys.refPhase = 1 →
    answers .internalOscStart s fun t =>
      t.sys.refPhase = 2 ∧ fget t TB_STAT.REF = fget s TB_STAT.REF ∧ t.mode = s.mode ∧
      ∀ L, L < 1024 → isPort s L = true → dieUp s (swOf L) = true → (port t L).under = pDOWN) ∧
  (∀ s : State, s.sys.powered = true → testFree s = true → s.sys.refPhase = 2 → s.elapsed s.sys.refLostAt 1000000000 = true →
    s.mode ≠ mFAULTED → s.sys.refUp = false →
    answers .bothRefDecision s fun t => t.mode = mFAULTED ∧ t.sys.refPhase = 3) ∧
  (∀ s : State, s.sys.powered = true → testFree s = true → s.sys.refPhase = 2 → s.mode ≠ mFAULTED → s.sys.refUp = true →
    answers .bothRefDecision s fun t => t.mode = mBASIC ∧ t.sys.refPhase = 3 ∧ getReg t PRK_ACTIVE = 0) ∧
  (∀ (x : Bool) (s : State), s.sys.powered = true →
    answers (.referenceReturn x) s fun t =>
      t.sys.refGood.getLsbD (b2n x) = true ∧ t.sys.refGood.getLsbD (1 - b2n x) = s.sys.refGood.getLsbD (1 - b2n x) ∧
      t = { s with sys := { s.sys with refGood := t.sys.refGood } })

/-- FENCE through `FLT_PORT_CMD` fences an unfenced port with cause MANAGER and the present time and changes no fenced one.
UNFENCE, and after a second of UP the module itself where PORT_AUTO is 1, lift a fence: the port takes its underlying state, with
the cause and time kept; neither touches an unfenced port. A chip READ loads what is held of the chip; SET of an unfenced chip
stores CHECK and INC; FENCE of another chip than the module's own fences it and keeps its CHECK and INC; UNFENCE with an
incarnation 1 to 127 newer clears FENCED and sets CHECK; no other chip changes. SET of a fenced chip, UNFENCE of one that is not
fenced or with an incarnation that is not newer, and FENCE of the module's own chip end with their codes and change no chip. -/
def Obligations.Fences : Prop :=
  let ok := fun (n : Nat) (s t : State) =>
    fget t FLT_CHIP_STAT.CODE = 0 ∧ fbit t FLT_CHIP_STAT.BUSY = false ∧
    (∀ k, k ≠ n → tget {} t.flt.chips k = tget {} s.flt.chips k) ∧ regsQuiet (fun o => o == FLT_CHIP_STAT) s t ∧
    signalsOnly { s with flt := { s.flt with chips := t.flt.chips } } t
  let chip := fun (s : State) => tget {} s.flt.chips (fget s FLT_CHIP_SEL.CHIP)
  let newer := fun (s : State) => (fget s FLT_CHIP_DATA.INC + 256 - (chip s).inc.toNat) % 256
  let refused := fun (code : Nat) (s t : State) =>
    fget t FLT_CHIP_STAT.CODE = code ∧ fbit t FLT_CHIP_STAT.BUSY = false ∧ regsBut (fun o => o == FLT_CHIP_STAT) s t ∧ regsOnly s t
  (∀ (p : Fin 13) (L : Fin 1024) (s : State), accepts s p FLT_PORT_CMD (BitVec.ofNat 64 (L * 65536 + 1)) = true →
    portFenced s L = false → fibreDark s (L / 8) = false →
    answers (.portFenceCmd p L) s fun t =>
      portFenced t L = true ∧ portState t L = pFENCED ∧ fget t (PRT_FENCE.CAUSE L) = 6 ∧ fget t (PRT_FENCE.TS L) = s.shortTs ∧
      (port t L).under = (port s L).under) ∧
  (∀ (p : Fin 13) (L : Fin 1024) (s : State), accepts s p FLT_PORT_CMD (BitVec.ofNat 64 (L * 65536 + 1)) = true →
    portFenced s L = true →
    answers (.portFenceCmd p L) s fun t => regsBut (fun _ => false) s t ∧ regsOnly s t) ∧
  (∀ (p : Fin 13) (L : Fin 1024) (s : State), accepts s p FLT_PORT_CMD (BitVec.ofNat 64 (L * 65536 + 2)) = true →
    portFenced s L = true → fibreDark s (L / 8) = false → dieUp s (swOf L) = true →
    answers (.portUnfenceCmd p L) s fun t =>
      portFenced t L = false ∧ portState t L = (port s L).under % 8 ∧ (port t L).under = (port s L).under ∧
      fget t (PRT_FENCE.CAUSE L) = fget s (PRT_FENCE.CAUSE L) ∧ fget t (PRT_FENCE.TS L) = fget s (PRT_FENCE.TS L)) ∧
  (∀ (p : Fin 13) (L : Fin 1024) (s : State), accepts s p FLT_PORT_CMD (BitVec.ofNat 64 (L * 65536 + 2)) = true →
    portFenced s L = false →
    answers (.portUnfenceCmd p L) s fun t => regsBut (fun _ => false) s t ∧ regsOnly s t) ∧
  (∀ (L : Fin 1024) (s : State), s.sys.powered = true → testFree s = true → fbit s FLT_CTRL.PORT_AUTO = true →
    (port s L).under = pUP → s.elapsed (port s L).upAt 1000000000 = true → portFenced s L = true →
    fibreDark s (L / 8) = false → dieUp s (swOf L) = true →
    answers (.portAutoUnfence L) s fun t =>
      portFenced t L = false ∧ portState t L = pUP ∧ fget t (PRT_FENCE.CAUSE L) = fget s (PRT_FENCE.CAUSE L) ∧
      (port t L).under = pUP) ∧
  (∀ (p : Fin 13) (s : State), accepts s p FLT_CHIP_CMD 1 = true →
    answers (.chipRead p) s fun t =>
      fbit t FLT_CHIP_DATA.FENCED = (chip s).fenced ∧ fbit t FLT_CHIP_DATA.CHECK = (chip s).check ∧
      fget t FLT_CHIP_DATA.INC = (chip s).inc.toNat ∧ fget t FLT_CHIP_STAT.CODE = 0 ∧ fbit t FLT_CHIP_STAT.BUSY = false ∧
      regsBut (fun o => o == FLT_CHIP_STAT || o == FLT_CHIP_DATA) s t ∧ regsOnly s t) ∧
  (∀ (p : Fin 13) (s : State), accepts s p FLT_CHIP_CMD 2 = true → (chip s).fenced = false →
    answers (.chipSet p) s fun t =>
      chip t = { chip s with check := fbit s FLT_CHIP_DATA.CHECK, inc := BitVec.ofNat 8 (fget s FLT_CHIP_DATA.INC) } ∧
      ok (fget s FLT_CHIP_SEL.CHIP) s t) ∧
  (∀ (p : Fin 13) (s : State), accepts s p FLT_CHIP_CMD 3 = true → fget s FLT_CHIP_SEL.CHIP ≠ fget s TBL_SELF.CHIP →
    answers (.chipFence p) s fun t => chip t = { chip s with fenced := true } ∧ ok (fget s FLT_CHIP_SEL.CHIP) s t) ∧
  (∀ (p : Fin 13) (s : State), accepts s p FLT_CHIP_CMD 4 = true → (chip s).fenced = true →
    1 ≤ newer s → newer s ≤ 127 →
    answers (.chipUnfence p) s fun t =>
      chip t = { fenced := false, check := true, inc := BitVec.ofNat 8 (fget s FLT_CHIP_DATA.INC) } ∧
      ok (fget s FLT_CHIP_SEL.CHIP) s t) ∧
  (∀ (p : Fin 13) (s : State), accepts s p FLT_CHIP_CMD 2 = true → (chip s).fenced = true →
    answers (.chipSet p) s (refused 1 s)) ∧
  (∀ (p : Fin 13) (s : State), accepts s p FLT_CHIP_CMD 4 = true → (chip s).fenced = false →
    answers (.chipUnfence p) s (refused 2 s)) ∧
  (∀ (p : Fin 13) (s : State), accepts s p FLT_CHIP_CMD 4 = true → (chip s).fenced = true →
    newer s = 0 ∨ 128 ≤ newer s →
    answers (.chipUnfence p) s (refused 3 s)) ∧
  (∀ (p : Fin 13) (s : State), accepts s p FLT_CHIP_CMD 3 = true → fget s FLT_CHIP_SEL.CHIP = fget s TBL_SELF.CHIP →
    answers (.chipFence p) s (refused 4 s))

/-- READ loads the selected session's words; a WRITE that passes Table 15.11 stores them with the session IDLE; WRITE, START and
RESUME of a RUNNING session end with STATE and change nothing. START runs a valid session from position 0, RESUME of a root opens
the wait of 200 µs for reports, STOP stops a RUNNING one. A piece sent by a root moves its position on by up to 8,192 bytes; an
uncorrectable line stops the session with an event. A relay writes the piece it receives into its cache at its position and moves
on its highest contiguous offset; a frame of no valid session is dropped and counted in `FLT_BC_DROP`. A root writes a reported
progress into the list, or keeps it until the wait of a RESUME ends; a relay serves the receiver that its PEER names. A due report goes to PEER; a failed relay's list entries
count as orphans, with one event, and a relay that has not failed keeps them; RESUME's wait ends with only unicast service left. -/
def Obligations.Broadcast : Prop :=
  let staged := fun (s : State) =>
    ({ w0 := getReg s FLT_BC_W0, w1 := getReg s FLT_BC_W1, w2 := getReg s FLT_BC_W2, w3 := getReg s FLT_BC_W3,
       w4 := getReg s FLT_BC_W4 } : BcSt)
  let sel := fun (s : State) => fget s FLT_BC_SEL.SESSION
  let said := fun (code : Nat) (s t : State) =>
    fget t FLT_BC_STAT.CODE = code ∧ fbit t FLT_BC_STAT.BUSY = false ∧ (∀ k, k ≠ sel s → bc t k = bc s k)
  let runs := fun (s : State) (n : Nat) => s.sys.powered = true ∧ bcState s n = 1 ∧ memSound s
  let gets := fun (s : State) (x : Fin 8) (f : Frame) (ty : Nat) =>
    s.sys.powered = true ∧ ioReady s x = true ∧ (ioFrames s x).head? = some f ∧ hType f.hdr = ty ∧ memSound s
  (∀ (p : Fin 13) (s : State), accepts s p FLT_BC_CMD 1 = true → s.mode = mWOVEN →
    answers (.bcRead p) s fun t =>
      getReg t FLT_BC_W0 = (bc s (sel s)).w0 ∧ getReg t FLT_BC_W1 = (bc s (sel s)).w1 ∧ getReg t FLT_BC_W2 = (bc s (sel s)).w2 ∧
      getReg t FLT_BC_W3 = (bc s (sel s)).w3 ∧ getReg t FLT_BC_W4 = (bc s (sel s)).w4 ∧ said 0 s t ∧
      regsBut (fun o => o == FLT_BC_STAT || (FLT_BC_W0 ≤ o && o ≤ FLT_BC_W4)) s t ∧ regsOnly s t) ∧
  (∀ (p : Fin 13) (s : State), accepts s p FLT_BC_CMD 2 = true → bcCheck s 2 (sel s) (staged s) = 0 →
    answers (.bcWrite p) s fun t =>
      bc t (sel s) = staged s ∧ getReg t (FLT_BC_S (sel s)) = 0 ∧ said 0 s t ∧
      regsBut (fun o => o == FLT_BC_STAT || o == FLT_BC_S (sel s)) s t ∧
      t = { s with regs := t.regs, flt := { s.flt with bcs := t.flt.bcs } }) ∧
  (∀ (p : Fin 13) (s : State), accepts s p FLT_BC_CMD 2 = true → bcState s (sel s) = 1 →
    answers (.bcWrite p) s fun t => said 1 s t ∧ regsBut (fun o => o == FLT_BC_STAT) s t ∧ regsOnly s t) ∧
  (∀ (p : Fin 13) (s : State), accepts s p FLT_BC_CMD 3 = true → bcState s (sel s) = 1 →
    answers (.bcStart p) s fun t => said 1 s t ∧ regsBut (fun o => o == FLT_BC_STAT) s t ∧ regsOnly s t) ∧
  (∀ (p : Fin 13) (s : State), accepts s p FLT_BC_CMD 4 = true → bcState s (sel s) = 1 →
    answers (.bcResume p) s fun t => said 1 s t ∧ regsBut (fun o => o == FLT_BC_STAT) s t ∧ regsOnly s t) ∧
  (∀ (p : Fin 13) (s : State), accepts s p FLT_BC_CMD 3 = true → s.mode = mWOVEN → bcState s (sel s) ≠ 1 →
    bcValid (bc s (sel s)) = true → bcRoot (bc s (sel s)) = false →
    answers (.bcStart p) s fun t =>
      bcState t (sel s) = 1 ∧ fget t (FLT_BC_S.ORPHANS (sel s)) = 0 ∧ fget t (FLT_BC_S.DONE (sel s)) = 0 ∧
      (bc t (sel s)).pos = 0 ∧ (bc t (sel s)).held = 0 ∧ (bc t (sel s)).startAt = s.now ∧ (bc t (sel s)).w0 = (bc s (sel s)).w0 ∧
      said 0 s t ∧ regsBut (fun o => o == FLT_BC_STAT || o == FLT_BC_S (sel s)) s t ∧
      t = { s with regs := t.regs, flt := { s.flt with bcs := t.flt.bcs } }) ∧
  (∀ (p : Fin 13) (s : State), accepts s p FLT_BC_CMD 4 = true → s.mode = mWOVEN → bcState s (sel s) ≠ 1 →
    memSound s → bcValid (bc s (sel s)) = true → bcRoot (bc s (sel s)) = true → bcListBad s (bc s (sel s)) = false →
    answers (.bcResume p) s fun t =>
      bcState t (sel s) = 1 ∧ (bc t (sel s)).resumeAt = some (s.now + 200000) ∧ (bc t (sel s)).uni = [] ∧
      (bc t (sel s)).reported = [] ∧ t.mem = s.mem ∧ said 0 s t) ∧
  (∀ (p : Fin 13) (s : State), accepts s p FLT_BC_CMD 5 = true → s.mode = mWOVEN → bcState s (sel s) = 1 →
    answers (.bcStop p) s fun t =>
      bcState t (sel s) = 3 ∧ bc t (sel s) = { bc s (sel s) with resumeAt := none } ∧ said 0 s t ∧
      regsBut (fun o => o == FLT_BC_STAT || o == FLT_BC_S (sel s)) s t ∧
      t = { s with regs := t.regs, flt := { s.flt with bcs := t.flt.bcs } }) ∧
  (∀ (n : Fin 64) (s : State), runs s n → bcRoot (bc s n) = true → (bc s n).resumeAt = none → (bc s n).uni = [] →
    (bc s n).pos < bcLen (bc s n) →
    ctxBad s (bcCtx (bc s n)) (bcBase (bc s n) + (bc s n).pos) (min 8192 (bcLen (bc s n) - (bc s n).pos)) = false →
    answers (.bcastPieceTx n) s fun t =>
      bc t n = { bc s n with pos := (bc s n).pos + min 8192 (bcLen (bc s n) - (bc s n).pos) } ∧
      (∀ k, k ≠ n.val → bc t k = bc s k) ∧ bcState t n = 1 ∧ t.mem = s.mem) ∧
  (∀ (n : Fin 64) (s : State), runs s n → bcRoot (bc s n) = true → (bc s n).resumeAt = none →
    (bc s n).pos < bcLen (bc s n) →
    ctxBad s (bcCtx (bc s n)) (bcBase (bc s n) + (bc s n).pos) (min 8192 (bcLen (bc s n) - (bc s n).pos)) = true →
    answers (.bcastPieceTx n) s fun t =>
      bcState t n = 3 ∧ getReg t (PMC_EVT 0xD08) = getReg s (PMC_EVT 0xD08) + 1 ∧ t.flt = s.flt ∧
      regsQuiet (fun o => o == FLT_BC_S n) s t ∧ signalsOnly s t) ∧
  (∀ (x : Fin 8) (f : Frame) (s : State), gets s x f tBCAST_DATA → bcBad s f = false → bcRoot (bc s (bcSession f.hdr)) = false →
    bcState s (bcSession f.hdr) = 1 → hLen f.hdr ≠ 0 → (bc s (bcSession f.hdr)).holes = [] →
    bcPosition f.hdr ≤ (bc s (bcSession f.hdr)).held →
    ctxPartBad s (bcCtx (bc s (bcSession f.hdr))) (bcBase (bc s (bcSession f.hdr)) + bcPosition f.hdr) (hLen f.hdr) = false →
    answers (.bcastDataRx x) s fun t =>
      let b := bc s (bcSession f.hdr);
      t.mem = (ctxWrite s (bcCtx b) (bcBase b + bcPosition f.hdr) f.body).mem ∧
      bc t (bcSession f.hdr) = { b with held := max b.held (bcPosition f.hdr + hLen f.hdr) } ∧
      (∀ k, k ≠ bcSession f.hdr → bc t k = bc s k) ∧ bcState t (bcSession f.hdr) = 1) ∧
  (∀ (x : Fin 8) (f : Frame) (s : State), gets s x f tBCAST_DATA → bcValid (bc s (bcSession f.hdr)) = false →
    answers (.bcastDataRx x) s fun t =>
      getReg t FLT_BC_DROP = getReg s FLT_BC_DROP + 1 ∧ t.flt.bcs = s.flt.bcs ∧ t.mem = s.mem ∧ ioFrames t x = (ioFrames s x).tail) ∧
  (∀ (x : Fin 8) (f : Frame) (s : State), gets s x f tBCAST_PROGRESS → bcBad s f = false → hLen f.hdr = 8 →
    bcRoot (bc s (bcSession f.hdr)) = true → bcState s (bcSession f.hdr) = 1 → bcListBad s (bc s (bcSession f.hdr)) = false →
    (bc s (bcSession f.hdr)).resumeAt.isSome = true →
    answers (.bcastProgressRx x) s fun t =>
      let b := bc s (bcSession f.hdr);
      tget 0 (bc t (bcSession f.hdr)).reported (fieldAt f.body 0 4) = bcPosition f.hdr ∧
      (∀ k, k ≠ bcSession f.hdr → bc t k = bc s k) ∧ (bc t (bcSession f.hdr)).resumeAt = b.resumeAt ∧ t.mem = s.mem ∧
      regsBut (fun _ => false) s t) ∧
  (∀ (x : Fin 8) (f : Frame) (s : State), gets s x f tBCAST_PROGRESS → bcBad s f = false → hLen f.hdr = 8 →
    bcRoot (bc s (bcSession f.hdr)) = true → bcState s (bcSession f.hdr) = 1 → bcListBad s (bc s (bcSession f.hdr)) = false →
    (bc s (bcSession f.hdr)).resumeAt = none →
    answers (.bcastProgressRx x) s fun t =>
      let b := bc s (bcSession f.hdr);
      t.mem = (forRange (bcCount b) s fun u i =>
        if (bcEntry u b i).1 == fieldAt f.body 0 4 then bcSetProgress u b i (bcPosition f.hdr) else u).mem ∧
      tget 0 (bc t (bcSession f.hdr)).relayAt (hSrc f.hdr) = s.now ∧ (∀ k, k ≠ bcSession f.hdr → bc t k = bc s k) ∧
      (bc t (bcSession f.hdr)).w3 = b.w3 ∧ ioFrames t x = (ioFrames s x).tail) ∧
  (∀ (x : Fin 8) (f : Frame) (s : State), gets s x f tBCAST_PROGRESS → bcBad s f = false → hLen f.hdr = 8 →
    bcRoot (bc s (bcSession f.hdr)) = false → bcState s (bcSession f.hdr) = 1 →
    hSrc f.hdr = bcPeer (bc s (bcSession f.hdr)) →
    answers (.bcastProgressRx x) s fun t =>
      let b := bc s (bcSession f.hdr);
      bc t (bcSession f.hdr) =
        { b with uni := b.uni.filter (fun u => u.1 != fieldAt f.body 0 4) ++ [(fieldAt f.body 0 4, bcPosition f.hdr)] } ∧
      (∀ k, k ≠ bcSession f.hdr → bc t k = bc s k) ∧ t.mem = s.mem ∧ regsBut (fun _ => false) s t) ∧
  (∀ (n : Fin 64) (s : State), runs s n → bcRoot (bc s n) = false →
    (bc s n).reportAt = 0 ∨ s.elapsed ((bc s n).reportAt - 1) 100000 = true →
    answers (.bcastRelayReport n) s fun t =>
      bc t n = { bc s n with reportAt := s.now + 1 } ∧ (∀ k, k ≠ n.val → bc t k = bc s k) ∧ bcState t n = 1 ∧ t.mem = s.mem) ∧
  (∀ (n : Fin 64) (r : BitVec 20) (s : State), runs s n → bcRoot (bc s n) = true → bcListBad s (bc s n) = false →
    (tget {} s.flt.chips r.toNat).fenced = true →
    ((List.range (bcCount (bc s n))).filter fun i => (bcEntry s (bc s n) i).2.1 == r.toNat) ≠ [] →
    answers (.bcastRelayTimeout n r) s fun t =>
      let k := ((List.range (bcCount (bc s n))).filter fun i => (bcEntry s (bc s n) i).2.1 == r.toNat).length;
      fget t (FLT_BC_S.ORPHANS n) = (fget s (FLT_BC_S.ORPHANS n) + k) % 65536 ∧ bcState t n = 1 ∧
      getReg t (PMC_EVT 0xD08) = getReg s (PMC_EVT 0xD08) + 1) ∧
  (∀ (n : Fin 64) (r : BitVec 20) (s : State), (tget {} s.flt.chips r.toNat).fenced = false →
    s.elapsed (max (tget 0 (bc s n).relayAt r.toNat) (bc s n).startAt) (bcTimeout (bc s n) * 1000) = false →
    exec (.bcastRelayTimeout n r) s = .next s) ∧
  (∀ (n : Fin 64) (s : State), runs s n → bcListBad s (bc s n) = false → (bc s n).resumeAt.any (fun a => a ≤ s.now) = true →
    answers (.bcastResumeWaitEnd n) s fun t =>
      (bc t n).resumeAt = none ∧ (bc t n).pos = bcLen (bc s n) ∧ (∀ k, k ≠ n.val → bc t k = bc s k) ∧
      (bcState t n = 1 ∨ bcState t n = 2))

/-! Contexts, management and keys (chapter 16). -/

/-- ALLOCATE of a FREE context whose frames can all be placed takes them, zeroes the counter page and enters ALLOCATED; where
neither free frames nor those that running unpicks give back can hold it, it ends with BUSY and an unknown wait, with no frame taken. ACTIVATE changes
nothing but the state; DEACTIVATE of a context with no RUNNING region does so too; a command in the wrong state ends with STATE.
RELEASE ends with CIRCUITS where the context owns a lane of the slot map; of a context with no region, port, group, meter or
session it enters UNPICKING and erases its keys and its weight cache. RELEASE_REGION of a region of another context ends with
REGION; of its own region with no work in hand that region's unpick begins, with its needles, queues and inlets gone. When it ends, the region is IDLE, unowned and its bobbins empty. At
the end of the unpick the context is FREE with PROGRESS 0xFFFF, its frames returned with every byte zero, its page zero and its
ports unowned; before that nothing happens. A due publication writes the page into the window. -/
def Obligations.Contexts : Prop :=
  let ctxOnly := fun (own : Nat → Bool) (x : Nat) (s t : State) =>
    regsQuiet (fun o => o == CTX_STAT x || own o) s t ∧ signalsOnly s t
  let plain := fun (p : Fin 13) (x : Fin 1024) (op : Nat) (s : State) =>
    accepts s p (CTX_CMD x) (BitVec.ofNat 64 op) = true ∧ s.mode = mWOVEN
  (∀ (p : Fin 13) (x : Fin 1024) (s : State), plain p x 1 s → ctxState s x = 0 → (placeFrames s x).isSome = true →
    answers (.ctxAllocate p x) s fun t =>
      let u := (placeFrames s x).getD s;
      ctxState t x = 1 ∧ fget t (CTX_STAT.CODE x) = 0 ∧ t.mem = u.mem ∧ (∀ i, i < 64 → getReg t (PMC_CTXPAGE x i) = 0) ∧
      (genWaits s (65600 + x) = false → genReady s (65600 + x) = true →
        fget t (CTX_STAT.GEN x) = (fget s (CTX_STAT.GEN x) + 1) % 256) ∧
      regsQuiet (fun o => o == CTX_STAT x || (PMC_CTXPAGE x 0 ≤ o && o < PMC_CTXPAGE x 64)) u t ∧
      signalsOnly { u with weave := t.weave } t) ∧
  (∀ (p : Fin 13) (x : Fin 1024) (s : State), plain p x 1 s → ctxState s x = 0 → placeFrames s x = none →
    placeFrames (afterUnpicks s) x = none →
    answers (.ctxAllocate p x) s fun t =>
      ctxState t x = 0 ∧ fget t (CTX_STAT.CODE x) = 2 ∧ fget t (CTX_STAT.ESTIMATE x) = 0xFFFFFF ∧ ctxOnly (fun _ => false) x s t) ∧
  (∀ (p : Fin 13) (x : Fin 1024) (s : State), plain p x 2 s → ctxState s x = 1 →
    answers (.ctxActivate p x) s fun t =>
      ctxState t x = 2 ∧ fget t (CTX_STAT.CODE x) = 0 ∧ fget t (CTX_STAT.GEN x) = fget s (CTX_STAT.GEN x) ∧
      ctxOnly (fun _ => false) x s t) ∧
  (∀ (p : Fin 13) (x : Fin 1024) (s : State), plain p x 2 s → ctxState s x ≠ 1 →
    answers (.ctxActivate p x) s fun t =>
      ctxState t x = ctxState s x ∧ fget t (CTX_STAT.CODE x) = 1 ∧ ctxOnly (fun _ => false) x s t) ∧
  (∀ (p : Fin 13) (x : Fin 1024) (s : State), plain p x 3 s → ctxState s x = 2 →
    (∀ r, r < 64 → regionOwner s r = x.val → regionState s r ≠ rRUNNING) →
    answers (.ctxDeactivate p x) s fun t =>
      ctxState t x = 1 ∧ fget t (CTX_STAT.CODE x) = 0 ∧ fget t (CTX_STAT.GEN x) = fget s (CTX_STAT.GEN x) ∧
      ctxOnly (fun _ => false) x s t) ∧
  (∀ (p : Fin 13) (x : Fin 1024) (s : State), plain p x 4 s → ctxState s x = 1 ∨ ctxState s x = 2 → ownsLane s x = true →
    answers (.ctxRelease p x) s fun t =>
      ctxState t x = ctxState s x ∧ fget t (CTX_STAT.CODE x) = 3 ∧ ctxOnly (fun _ => false) x s t) ∧
  (∀ (p : Fin 13) (x : Fin 1024) (s : State), plain p x 4 s → ctxState s x = 1 ∨ ctxState s x = 2 → ownsLane s x = false →
    (∀ r, r < 64 → regionOwner s r ≠ x.val) → (∀ L, L < 1024 → ownsPort s x L = false) →
    s.pic.groups.any (fun e => gValid e.2 && gCtx e.2 == x.val) = false → s.flt.bcs.any (fun e => bcCtx e.2 == x.val && bcValid e.2) = false →
    s.tm.meters.any (fun e => wbit e.2.cfg1 TM_MTR_CFG1.OWNED && wget e.2.cfg1 TM_MTR_CFG1.OWNER == x.val) = false →
    answers (.ctxRelease p x) s fun t =>
      ctxState t x = 3 ∧ fget t (CTX_STAT.CODE x) = 0 ∧ t.sec.keys = s.sec.keys.filter (fun e => e.1 / 256 != x.val) ∧
      fget t SEC_KEYS.COUNT = t.sec.keys.length % 32768 ∧ (∀ w, w < 4 → getReg t (CTX_KEYMAP x w) = 0) ∧
      fget t (MEM_WC.EN x) = 0 ∧ (tget {} t.sec.unpick x).stamp = s.now + 1 ∧
      regsQuiet (fun o => o == CTX_STAT x || o == SEC_KEYS || o == MEM_WC x || (CTX_KEYMAP x 0 ≤ o && o < CTX_KEYMAP x 4)) s t ∧
      signalsOnly { s with sec := t.sec, free := t.free } t) ∧
  (∀ (p : Fin 13) (x : Fin 1024) (r : Fin 64) (s : State), plain p x (256 * r + 5) s → ctxState s x = 1 ∨ ctxState s x = 2 →
    regionOwner s r ≠ x.val →
    answers (.ctxReleaseRegion p x r) s fun t => fget t (CTX_STAT.CODE x) = 4 ∧ ctxOnly (fun _ => false) x s t) ∧
  (∀ (p : Fin 13) (x : Fin 1024) (r : Fin 64) (s : State), plain p x (256 * r + 5) s → ctxState s x = 1 ∨ ctxState s x = 2 →
    regionOwner s r = x.val → regionState s r ≠ rRUNNING → tget 0 s.sec.regionUnpick r = 0 → dieUp s (4 + r / 16) = true →
    (∀ n ∈ regionBobs s r, (bob s n).mma = [] ∧ (bob s n).vop = [] ∧ (bob s n).copy = [] ∧ (bob s n).send = []) →
    (∀ e ∈ s.bob.bobs, ∀ f ∈ e.2.inFlight, flitOf r e.1 s f = false) →
    answers (.ctxReleaseRegion p x r) s fun t =>
      regionState t r = rUNPICKING ∧ regionOwner t r = x.val ∧ tget 0 t.sec.regionUnpick r = s.now + 1 ∧
      fget t (CTX_STAT.CODE x) = 0 ∧ ctxState t x = ctxState s x ∧
      (genWaits s r = false → genReady s r = true → regionGen t r = (regionGen s r + 1) % 256) ∧
      regsQuiet (fun o => o == CTX_STAT x || o == BOB_RGN_STAT r || o == PRK_RGEN r) s t ∧
      (∀ n ∈ regionBobs s r, bob t n = { bob s n with needles := [], queues := [], inlets := [] }) ∧
      (∀ n, n ∉ regionBobs s r → bob t n = bob s n) ∧
      signalsOnly { s with sec := t.sec, weave := t.weave, bob := t.bob } t) ∧
  (∀ (r : Fin 64) (s : State), s.sys.powered = true → tget 0 s.sec.regionUnpick r ≠ 0 → dieUp s (4 + r / 16) = true →
    answers (.regionUnpickDone r) s fun t =>
      regionState t r = rIDLE ∧ fget t (PRK_RGEN.OWNED r) = 0 ∧ tget 0 t.sec.regionUnpick r = 0 ∧ regionGen t r = regionGen s r ∧
      (∀ n ∈ regionBobs s r, (bob t n).store = [] ∧ (bob t n).needles = [] ∧ (bob t n).queues = [] ∧ (bob t n).inlets = [] ∧
        (bob t n).record = {}) ∧
      regsBut (fun o => o == BOB_RGN_STAT r || o == PRK_RGEN r) s t ∧
      t = { s with regs := t.regs, bob := t.bob, sec := t.sec, weave := t.weave }) ∧
  (∀ (x : Fin 1024) (s : State), s.sys.powered = true → unpickReady s x = true →
    answers (.unpickDone x) s fun t =>
      ctxState t x = 0 ∧ fget t (CTX_STAT.PROGRESS x) = 0xFFFF ∧ winFrames t x = [] ∧ logFrames t x = [] ∧
      (∀ q ∈ winFrames s x ++ logFrames s x, ∀ k, k / frameBytes = 0 → memByte t q.1 (q.2 * frameBytes + k) = 0) ∧
      (∀ i, i < 64 → getReg t (PMC_CTXPAGE x i) = 0) ∧ getReg t (PIC_LOG x) = 0 ∧ getReg t (PIC_LOGTRIM x) = 0 ∧
      (∀ L, L < 1024 → ownsPort t x L = false) ∧ t.bob = s.bob ∧ t.core = s.core) ∧
  (∀ (x : Fin 1024) (s : State), unpickReady s x = false → exec (.unpickDone x) s = .next s) ∧
  (∀ (x : Fin 1024) (s : State), s.sys.powered = true → fbit s (CTX_CTRL.CNT_OPEN x) = true → ctxUsable s x = true →
    fget s (PMC_CTXPUB.PERIOD_US x) ≠ 0 →
    s.elapsed (tget 0 s.tel.pubAt x) (1000 * fget s (PMC_CTXPUB.PERIOD_US x)) = true → memSound s →
    answers (.ctxPublish x) s fun t =>
      t.mem = (ctxWrite s x (512 * (fget s (PMC_CTXPUB.OFFSET x) / 512))
        ((List.range 64).flatMap fun i => le 8 (getReg s (PMC_CTXPAGE x i)).toNat)).mem ∧
      tget 0 t.tel.pubAt x = s.now ∧ t = { s with mem := t.mem, tel := { s.tel with pubAt := t.tel.pubAt } })

/-- A connection begins a handshake, unless eight sessions are open or the port is locked out: then it is refused. A handshake of an
OWNED module completes for a client of an enrolled key and opens the last session; one that fails is closed with an alert and
counted; one of 5 s ends so by itself. The lock-out ends when it is due. A session idle for 300 s, one that the client closes, and
one whose body does not come (answered BAD_MESSAGE) ends: its locks become free and the locks of later sessions show their new
path, one lower. Neighbour discovery and echo are answered for an address of the port, an advertised network gives a global address
(its form that of RFC 4862, log entry 268), a session's send window is noted, and notifications behind one closed for over a second
are discarded; other packets are dropped. A request for an undefined operation is answered UNKNOWN and keeps the session. -/
def Obligations.Sessions : Prop :=
  let secOnly := fun (s t : State) => t = { s with sec := t.sec }
  let ended := fun (s : State) (sid : Nat) (t : State) =>
    t.sec.sessions = s.sec.sessions.filter (fun k : Session => k.sid != sid) ∧
    (∀ k, k < 16 → fget t (CTL_LOCK.HOLDER k) =
      if fget s (CTL_LOCK.HOLDER k) = sessionPath s sid then 0xF
      else if sessionPath s sid < fget s (CTL_LOCK.HOLDER k) ∧ fget s (CTL_LOCK.HOLDER k) ≠ 0xF then fget s (CTL_LOCK.HOLDER k) - 1
      else fget s (CTL_LOCK.HOLDER k)) ∧
    regsBut inLock s t ∧ t.nvs = s.nvs ∧ t.evr.recs = s.evr.recs ∧ t.sec = { s.sec with sessions := t.sec.sessions }
  (∀ s : State, clocked s = true → s.sec.lockUntil = 0 → s.sec.sessions.length < 8 →
    answers .mgmtConnect s fun t =>
      t.sec = { s.sec with conns := s.sec.conns ++ [{ conn := s.sec.nextConn, stamp := s.now }], nextConn := s.sec.nextConn + 1 } ∧
      secOnly s t) ∧
  (∀ s : State, clocked s = true → s.sec.lockUntil ≠ 0 ∨ 8 ≤ s.sec.sessions.length →
    answers .mgmtConnect s fun t => t = { s with out := .refuse :: s.out }) ∧
  (∀ (n ca : Nat) (d : List Byte) (c : Conn) (s : State), clocked s = true → s.nvs.lifecycle = 1 →
    (s.sec.conns.find? fun k : Conn => k.conn == n) = some c → s.now < c.stamp + 5000000000 → caKnown s ca = true →
    s.sec.sessions.length < 8 →
    answers (.handshakeMessage n (.authenticated ca d)) s fun t =>
      t.sec.sessions = s.sec.sessions ++ [{ sid := n, ca := ca, last := s.now, keyDigest := d }] ∧
      t.sec.conns = s.sec.conns.filter (fun k : Conn => k.conn != n) ∧ secOnly s t) ∧
  (∀ (n : Nat) (a : Byte) (c : Conn) (s : State), clocked s = true → (s.sec.conns.find? fun k : Conn => k.conn == n) = some c →
    s.now < c.stamp + 5000000000 →
    answers (.handshakeMessage n (.fails a)) s fun t =>
      getReg t SEC_AUTH_FAIL = getReg s SEC_AUTH_FAIL + 1 ∧ t.sec.sessions = s.sec.sessions ∧
      t.sec.conns = s.sec.conns.filter (fun k : Conn => k.conn != n) ∧ regsQuiet (fun o => o == SEC_AUTH_FAIL) s t ∧
      signalsOnly { s with sec := t.sec } t) ∧
  (∀ (n : Nat) (c : Conn) (s : State), s.sys.powered = true → (s.sec.conns.find? fun k : Conn => k.conn == n) = some c →
    c.stamp + 5000000000 ≤ s.now →
    answers (.handshakeTimeout n) s fun t =>
      getReg t SEC_AUTH_FAIL = getReg s SEC_AUTH_FAIL + 1 ∧ t.sec.sessions = s.sec.sessions ∧
      t.sec.conns = s.sec.conns.filter (fun k : Conn => k.conn != n) ∧ regsQuiet (fun o => o == SEC_AUTH_FAIL) s t) ∧
  (∀ s : State, s.sys.powered = true → s.sec.lockUntil ≠ 0 → s.sec.lockUntil ≤ s.now →
    answers .lockoutEnd s fun t => t = { s with sec := { s.sec with lockUntil := 0 } }) ∧
  (∀ (n : Nat) (k : Session) (s : State), s.sys.powered = true → sessionOf s n = some k → k.last + 300000000000 ≤ s.now →
    s.sec.sessions.length ≤ 8 →
    answers (.sessionIdleTimeout n) s fun t => ended s n t ∧ t.out = s.out) ∧
  (∀ (n : Nat) (s : State), s.sys.powered = true → (sessionOf s n).isSome = true → s.sec.sessions.length ≤ 8 →
    answers (.sessionClose n) s fun t => ended s n t ∧ t.out = s.out) ∧
  (∀ (n : Nat) (v o : BitVec 8) (g : BitVec 32) (s : State), s.sys.powered = true →
    (sessionOf s n).any (·.held.isEmpty) = true → s.evr.clearing ≠ some n → s.sec.sessions.length ≤ 8 →
    answers (.mgmtBodyTimeout n v o g) s fun t =>
      ended s n t ∧ t.out = .mgmt n v.toNat o.toNat 1 g.toNat [] :: s.out) ∧
  (∀ (a : BitVec 128) (s : State), clocked s = true → a ∈ mgmtAddrs s →
    answers (.mgmtPacketRx (.neighbour a)) s (fun t => t = { s with out := .packet 0 a :: s.out }) ∧
    answers (.mgmtPacketRx (.echo a)) s fun t => t = { s with out := .packet 1 a :: s.out }) ∧
  (∀ (w : BitVec 64) (v : BitVec 32) (s : State), clocked s = true → s.sec.globals = [] → w.toNat / 2 ^ 54 ≠ 0x3FA →
    v.toNat ≠ 0 → v.toNat ≠ 0xFFFFFFFF →
    answers (.mgmtPacketRx (.advert w v)) s fun t =>
      mgmtAddrs t = [linkLocal, w ++ ifaceId] ∧
      t = { s with sec := { s.sec with globals := [(w.toNat, s.now + v.toNat * 1000000000)] } }) ∧
  (∀ (n : Nat) (k : Session) (s : State), clocked s = true → sessionOf s n = some k → k.closedAt = 0 →
    answers (.mgmtPacketRx (.window n true)) s fun t =>
      t = { s with sec := { s.sec with sessions := s.sec.sessions.map fun j : Session =>
              if j.sid == n then { j with closedAt := s.now + 1 } else j } }) ∧
  (∀ (n : Nat) (k : Session) (s : State), clocked s = true → sessionOf s n = some k → k.closedAt ≠ 0 →
    k.closedAt + 1000000000 ≤ s.now →
    answers (.mgmtPacketRx (.window n false)) s fun t =>
      t.out = s.out ∧ t.evr = { s.evr with notes := s.evr.notes.filter (·.1 != n) } ∧
      (sessionOf t n).map (·.closedAt) = some 0) ∧
  (∀ (n : Nat) (s : State), exec (.mgmtPacketRx (.tcp n)) s = .next s ∧ exec (.mgmtPacketRx .other) s = .next s) ∧
  (∀ (n : Nat) (v o : BitVec 8) (g : BitVec 32) (s : State), clocked s = true →
    (sessionOf s n).any (·.held.isEmpty) = true → s.evr.clearing ≠ some n → g ≠ 0#32 → opDefined v.toNat o.toNat = false →
    answers (.mgmtRequestUndefined n v o g) s fun t =>
      t.out = .mgmt n v.toNat o.toNat 2 g.toNat [] :: s.out ∧ t.sec.sessions.map (fun k : Session => k.sid) = s.sec.sessions.map (fun k : Session => k.sid) ∧
      t = { s with sec := { s.sec with sessions := t.sec.sessions }, out := t.out })

/-- A request that the lifecycle and recovery boot offer, of an open session with no clear in progress and no request waiting. REG READ of one word answers
what a read on the session's path returns; REG WRITE of one word is a write on that path, answered OK, or REJECTED with index 0
and logged. IMAGE STAGE that may write puts its bytes into the slot and clears its verified bit. ATTEST answers a report that
begins with MAGIC, FORMAT, the lifecycle, the state and the serial. EVENTS READ answers the records from FROM, and STALE below the
first held; READ_PERM those of the permanent part; CLEAR of another LAST than the last is STALE and one of the last begins the
clear; SUBSCRIBE sets the session's severity; with a non-zero reserved header byte it is BAD_MESSAGE, and during the session's own clear, or
behind a request that waits, it waits. FIRMWARE STAGE writes its bytes and clears the image's mark, STATUS answers both
images' entries, SELECT of a verified image not below the floor marks it NEXT. A service that only answers changes nothing else. -/
def Obligations.Services : Prop :=
  let asks := fun (s : State) (n v o : Nat) (g : BitVec 32) (b : List Byte) =>
    clocked s = true ∧ (sessionOf s n).any (·.held.isEmpty) = true ∧ s.evr.clearing ≠ some n ∧ g ≠ 0#32 ∧ b.length ≤ 1048640 ∧
      opOffered s v o = true
  let touch := fun (s : State) (n : Nat) =>
    { s with sec := { s.sec with sessions := s.sec.sessions.map fun k : Session => if k.sid == n then { k with last := s.now } else k } }
  let word := fun (off : Nat) => le 8 off ++ le 4 1
  (∀ (n : Nat) (g : BitVec 32) (off : Nat) (s : State), asks s n 1 1 g (word off) → off % 8 = 0 → off < 0x4000000 →
    answers (.regRead n ⟨g, 0⟩ (word off)) s fun t =>
      let r := readReg (touch s n) (sessionPath s n) off;
      t = { r.2 with out := .mgmt n 1 1 0 g.toNat (le 8 r.1.toNat) :: r.2.out }) ∧
  (∀ (n : Nat) (g : BitVec 32) (off : Nat) (w : Word) (s : State),
    asks s n 1 2 g (word off ++ le 4 0 ++ le 8 w.toNat) → off % 8 = 0 → off < 0x4000000 →
    writeReason (touch s n) (sessionPath s n) off w = 0 →
    answers (.regWrite n ⟨g, 0⟩ (word off ++ le 4 0 ++ le 8 w.toNat)) s fun t =>
      let u := acceptWrite (touch s n) (sessionPath s n) off w none;
      t = { u with out := .mgmt n 1 2 0 g.toNat [] :: u.out }) ∧
  (∀ (n : Nat) (g : BitVec 32) (off : Nat) (w : Word) (s : State),
    asks s n 1 2 g (word off ++ le 4 0 ++ le 8 w.toNat) → off % 8 = 0 → off < 0x4000000 →
    writeReason (touch s n) (sessionPath s n) off w ≠ 0 →
    answers (.regWrite n ⟨g, 0⟩ (word off ++ le 4 0 ++ le 8 w.toNat)) s fun t =>
      getReg t CTL_WERR_CNT = getReg s CTL_WERR_CNT + 1 ∧ regsBut (fun o => o == CTL_WERR || o == CTL_WERR_DATA || o == CTL_WERR_CNT) s t ∧
      t = { touch s n with regs := t.regs, out := .mgmt n 1 2 3 g.toNat (le 4 0) :: s.out }) ∧
  (∀ (n : Nat) (g : BitVec 32) (b : List Byte) (s : State), asks s n 2 1 g b → s.sys.latchOpen = false → stageBad b = false →
    imageBad (b.take 64) = false → slotHeld s (fieldAt b 0 1) = false → s.mode ≠ mDRAINING →
    answers (.imageStage n ⟨g, 0⟩ b false) s fun t =>
      let k := fieldAt b 0 1;
      (∀ j, j ≠ k → tget [] t.nvs.slots j = tget [] s.nvs.slots j) ∧ verified t k = false ∧ t.mode = s.mode ∧
      (∀ a, fieldAt b 8 8 ≤ a → a < fieldAt b 8 8 + fieldAt b 0x18 4 →
        tget 0 (tget [] t.nvs.slots k) a = (b.drop 64).getD (a - fieldAt b 8 8) 0) ∧
      t.out = .mgmt n 2 1 0 g.toNat [] :: s.out ∧ regsBut (fun o => o == PRK_STATUS) s t) ∧
  (∀ (n : Nat) (g : BitVec 32) (b : List Byte) (s : State), asks s n 5 1 g b → b.length = 64 → inRecovery s = false →
    answers (.attestReport n ⟨g, 0⟩ b) s fun t =>
      let r := attestBody s (digestOf (fwImage s (fget s CTL_BOOT.IMAGE))) b;
      r.take 8 = le 4 0x54544148 ++ le 2 1 ++ le 1 s.nvs.lifecycle ++ le 1 s.mode ∧ (r.drop 8).take 16 = serialBytes ∧
      t = { touch s n with
        out := .mgmt n 5 1 0 g.toNat (r ++ le 4 4627 ++ fit 4627 (Config.attestSign (digestOf r)) ++ Config.certChain) :: s.out }) ∧
  (∀ (n : Nat) (g : BitVec 32) (b : List Byte) (s : State), asks s n 6 1 g b → b.length = 12 → 1 ≤ fieldAt b 8 4 →
    fieldAt b 8 4 ≤ 16384 → evrFirst s ≤ fieldAt b 0 8 →
    answers (.eventsRead n ⟨g, 0⟩ b) s fun t =>
      t = { touch s n with
        out := .mgmt n 6 1 0 g.toNat (((s.evr.recs.reverse.filter fun r => decide (fieldAt b 0 8 ≤ r.seq)).take (fieldAt b 8 4)).flatMap recBytes) :: s.out }) ∧
  (∀ (n : Nat) (g : BitVec 32) (b : List Byte) (s : State), asks s n 6 1 g b → b.length = 12 → 1 ≤ fieldAt b 8 4 →
    fieldAt b 8 4 ≤ 16384 → fieldAt b 0 8 < evrFirst s →
    answers (.eventsRead n ⟨g, 0⟩ b) s fun t => t = { touch s n with out := .mgmt n 6 1 5 g.toNat [] :: s.out }) ∧
  (∀ (n : Nat) (g : BitVec 32) (b : List Byte) (s : State), asks s n 6 2 g b → b.length = 4 →
    answers (.eventsReadPerm n ⟨g, 0⟩ b) s fun t =>
      t = { touch s n with
        out := .mgmt n 6 2 0 g.toNat (((s.nvs.perm.drop (fieldAt b 0 2)).take (fieldAt b 2 2)).flatMap recBytes) :: s.out }) ∧
  (∀ (n : Nat) (g : BitVec 32) (b : List Byte) (s : State), asks s n 6 3 g b → b.length = 8 → s.evr.clearing = none →
    s.sys.latchOpen = false → (s.nvs.perm.getLast?).any (fun r => r.seq == fieldAt b 0 8) = true →
    answers (.eventsClear n ⟨g, 0⟩ b) s fun t =>
      t = { touch s n with evr := { s.evr with
        clearing := some n, clearTag := g.toNat, clearDigest := ((sessionOf s n).map (·.keyDigest)).getD [] } }) ∧
  (∀ (n : Nat) (g : BitVec 32) (b : List Byte) (s : State), asks s n 6 3 g b → b.length = 8 → s.evr.clearing = none →
    (s.nvs.perm.getLast?).any (fun r => r.seq == fieldAt b 0 8) = false →
    answers (.eventsClear n ⟨g, 0⟩ b) s fun t => t = { touch s n with out := .mgmt n 6 3 5 g.toNat [] :: s.out }) ∧
  (∀ (n : Nat) (g rv : BitVec 32) (b : List Byte) (s : State), asks s n 6 4 g b → rv ≠ 0#32 →
    answers (.eventsSubscribe n ⟨g, rv⟩ b) s fun t => t = { touch s n with out := .mgmt n 6 4 1 g.toNat [] :: s.out }) ∧
  (∀ (n : Nat) (g rv : BitVec 32) (b : List Byte) (s : State), clocked s = true → (sessionOf s n).isSome = true →
    (s.evr.clearing = some n ∨ (sessionOf s n).any (·.held.isEmpty) = false) →
    answers (.eventsSubscribe n ⟨g, rv⟩ b) s fun t =>
      (sessionOf t n).map (·.held) = (sessionOf s n).map (·.held ++ [{ service := 6, op := 4, tag := g, resv := rv, body := b }]) ∧
      t = { s with sec := { s.sec with sessions := t.sec.sessions } }) ∧
  (∀ (n : Nat) (g : BitVec 32) (b : List Byte) (s : State), asks s n 6 4 g b → b.length = 1 →
    answers (.eventsSubscribe n ⟨g, 0⟩ b) s fun t =>
      t.sec.sessions = s.sec.sessions.map (fun k : Session => if k.sid == n then { k with last := s.now, minSev := fieldAt b 0 1 } else k) ∧
      t = { s with sec := { s.sec with sessions := t.sec.sessions }, out := .mgmt n 6 4 0 g.toNat [] :: s.out }) ∧
  (∀ (n : Nat) (g : BitVec 32) (b : List Byte) (s : State), asks s n 8 1 g b → s.sys.latchOpen = false → fwStageBad b = false →
    fwStageCode s b false = 0 →
    answers (.fwStage n ⟨g, 0⟩ b false) s fun t =>
      let i := fieldAt b 0 1;
      let o := fieldAt b 8 8;
      tget false t.nvs.fwVerified i = false ∧
      (∀ a, o ≤ a → a < o + (b.length - 16) → tget 0 (tget [] t.nvs.fwBytes i) a = b.getD (16 + a - o) 0) ∧
      o + (b.length - 16) ≤ tget 0 t.nvs.fwLen i ∧ (∀ j, j ≠ i → tget [] t.nvs.fwBytes j = tget [] s.nvs.fwBytes j) ∧
      t = { touch s n with nvs := t.nvs, out := .mgmt n 8 1 0 g.toNat [] :: s.out }) ∧
  (∀ (n : Nat) (g : BitVec 32) (s : State), asks s n 8 2 g [] →
    answers (.fwStatus n ⟨g, 0⟩ []) s fun t =>
      t = { touch s n with out := .mgmt n 8 2 0 g.toNat (fwEntry s 0 ++ fwEntry s 1) :: s.out }) ∧
  (∀ (n : Nat) (g : BitVec 32) (b : List Byte) (s : State), asks s n 8 3 g b → s.sys.latchOpen = false → b.length = 1 →
    fieldAt b 0 1 ≤ 1 → tget false s.nvs.fwVerified (fieldAt b 0 1) = true →
    s.nvs.fwFloor.toNat ≤ (tget 0 s.nvs.fwVer (fieldAt b 0 1)).toNat →
    answers (.fwSelect n ⟨g, 0⟩ b) s fun t =>
      t.nvs.fwNext = fieldAt b 0 1 ∧ tget false t.nvs.fwVerified (fieldAt b 0 1) = true ∧
      t.nvs = { s.nvs with fwNext := t.nvs.fwNext, fwVerified := t.nvs.fwVerified } ∧
      t = { touch s n with nvs := t.nvs, out := .mgmt n 8 3 0 g.toNat [] :: s.out })

/-- An owner command whose code in the order of R405 is OK has its effect in NVS, with SEQ stored: ENROL makes the module OWNED with
its root key; ADD and REMOVE change the pricking keys and the manager CAs, and REMOVE_MGR_CA closes the sessions of that CA;
RAISE_FLOOR raises a floor and lowers none; DECOMMISSION erases keys and slots, keeps the floors, and enters BASIC. A command with
another code changes nothing in NVS, and either is answered with its code. A key install puts the unwrapped key in its place with
its map bit and the count, or fails with UNWRAP and changes no key; a remove takes the key away. -/
def Obligations.OwnerAndKeys : Prop :=
  let asks := fun (s : State) (n v o : Nat) (g : BitVec 32) (b : List Byte) =>
    clocked s = true ∧ (sessionOf s n).any (·.held.isEmpty) = true ∧ s.evr.clearing ≠ some n ∧ g ≠ 0#32 ∧ b.length ≤ 1048640 ∧
      opOffered s v o = true ∧ s.sys.latchOpen = false
  let owner := fun (cmd : Nat) (s : State) (n : Nat) (g : BitVec 32) (b : List Byte) =>
    asks s n 3 1 g b ∧ recordBad b = false ∧ ownCmd b = cmd ∧ (lifeOwned s = true ∨ cmd = 1)
  let fate := fun (s : State) (n : Nat) (g : BitVec 32) (b : List Byte) (u : Nvs) (t : State) =>
    t.out.head? = some (.mgmt n 3 1 (if ownerCode s b = 0 then 0 else 3 + 256 * ownerCode s b) g.toNat []) ∧
    t.nvs = (if ownerCode s b = 0 then { u with ownerSeq := ownSeq b } else s.nvs)
  (∀ (n : Nat) (g : BitVec 32) (b : List Byte) (s : State), owner 1 s n g b →
    answers (.enrol n ⟨g, 0⟩ b) s fun t =>
      fate s n g b { s.nvs with rootKey := some (ownKey b), lifecycle := 1 } t ∧ regsQuiet (fun _ => false) s t) ∧
  (∀ (n : Nat) (g : BitVec 32) (b : List Byte) (s : State), owner 2 s n g b →
    answers (.addPrkKey n ⟨g, 0⟩ b) s fun t =>
      fate s n g b { s.nvs with prkKeys := tset [] s.nvs.prkKeys (ownArg b) (ownKey b) } t ∧ regsQuiet (fun _ => false) s t) ∧
  (∀ (n : Nat) (g : BitVec 32) (b : List Byte) (s : State), owner 3 s n g b →
    answers (.removePrkKey n ⟨g, 0⟩ b) s fun t =>
      fate s n g b { s.nvs with prkKeys := tdel s.nvs.prkKeys (ownArg b) } t ∧ regsQuiet (fun _ => false) s t) ∧
  (∀ (n : Nat) (g : BitVec 32) (b : List Byte) (s : State), owner 4 s n g b →
    answers (.addMgrCa n ⟨g, 0⟩ b) s fun t =>
      fate s n g b { s.nvs with caKeys := tset [] s.nvs.caKeys (ownArg b) (ownKey b) } t ∧ regsQuiet (fun _ => false) s t) ∧
  (∀ (n : Nat) (g : BitVec 32) (b : List Byte) (s : State), owner 5 s n g b →
    answers (.removeMgrCa n ⟨g, 0⟩ b) s fun t =>
      fate s n g b { s.nvs with caKeys := tdel s.nvs.caKeys (ownArg b) } t ∧
      (ownerCode s b = 0 → ∀ k ∈ t.sec.sessions, k.ca ≠ ownArg b + 1)) ∧
  (∀ (n : Nat) (g : BitVec 32) (b : List Byte) (s : State), owner 6 s n g b →
    answers (.raiseFloor n ⟨g, 0⟩ b) s fun t =>
      let top := fun (old : BitVec 32) => BitVec.ofNat 32 (max old.toNat (ownArg b % 2 ^ 32));
      fate s n g b (if ownArg b / 2 ^ 32 = 0 then { s.nvs with fwFloor := top s.nvs.fwFloor }
        else { s.nvs with prkFloor := top s.nvs.prkFloor }) t ∧ regsQuiet (fun _ => false) s t) ∧
  (∀ (n : Nat) (g : BitVec 32) (b : List Byte) (s : State), owner 7 s n g b → testFree s = true →
    answers (.decommission n ⟨g, 0⟩ b) s fun t =>
      fate s n g b { s.nvs with rootKey := none, prkKeys := [], caKeys := [], slots := [], lifecycle := 2 } t ∧
      (ownerCode s b = 0 → t.mode = mBASIC ∧ getReg t PRK_ACTIVE = 0 ∧ t.sys.active = none)) ∧
  (∀ (n : Nat) (g : BitVec 32) (b : List Byte) (s : State), asks s n 4 1 g b → b.length = 1624 → fieldAt b 3 1 = 1 → fieldAt b 4 4 = 0 →
    ctxUsable s (fieldAt b 0 2) = true → fieldAt b 2 1 ≠ 0 → s.sec.keys.length < 16384 →
    answers (.keyInstall n ⟨g, 0⟩ b) s fun t =>
      let i := 256 * fieldAt b 0 2 + fieldAt b 2 1;
      ((keyUnwrap s b).isSome = true →
        t.sec.keys.any (fun e => e.1 == i && e.2 == { key := (keyUnwrap s b).getD 0 }) = true ∧
        bit (getReg t (CTX_KEYMAP (fieldAt b 0 2) (fieldAt b 2 1 / 64))).toNat (fieldAt b 2 1 % 64) = true ∧
        t.out.head? = some (.mgmt n 4 1 0 g.toNat [])) ∧
      ((keyUnwrap s b).isSome = false → t.sec.keys = s.sec.keys ∧ t.out.head? = some (.mgmt n 4 1 0x303 g.toNat [])) ∧
      (∀ e ∈ s.sec.keys, e.1 ≠ i → e ∈ t.sec.keys) ∧ t.nvs = s.nvs) ∧
  (∀ (n : Nat) (g : BitVec 32) (b : List Byte) (s : State), asks s n 4 1 g b → b.length = 1624 → fieldAt b 3 1 = 2 → fieldAt b 4 4 = 0 →
    ctxUsable s (fieldAt b 0 2) = true → fieldAt b 2 1 ≠ 0 →
    answers (.keyRemove n ⟨g, 0⟩ b) s fun t =>
      t.sec.keys = s.sec.keys.filter (fun e => e.1 != 256 * fieldAt b 0 2 + fieldAt b 2 1) ∧
      bit (getReg t (CTX_KEYMAP (fieldAt b 0 2) (fieldAt b 2 1 / 64))).toNat (fieldAt b 2 1 % 64) = false ∧
      fget t SEC_KEYS.COUNT = t.sec.keys.length % 32768 ∧ t.out.head? = some (.mgmt n 4 1 0 g.toNat []) ∧
      regsQuiet (fun o => o == SEC_KEYS || o == CTX_KEYMAP (fieldAt b 0 2) (fieldAt b 2 1 / 64)) s t ∧ t.nvs = s.nvs)

/-! Host attachment, interrupts, the recorder and telemetry (chapters 17 and 18). -/

/-- Loss of the link stops all four queues with LINK, disables MSI-X and frees the host path's locks; the link comes up with every
queue's EN 0. An access that is not of eight aligned bytes is an Unsupported Request and no more. MSI-X enabled, or a vector's entry
written unmasked while it is, lets a held message go to that entry's address; a masked entry holds it. A write that sets EN starts a queue with HEAD, TAIL and status 0. A TAIL at most N ahead of HEAD
is kept, and TABLE takes its entries up to it; one further ahead stops the queue with BAD_RING. An IMAGE entry at HEAD that may
write puts its bytes into the slot, clears its verified bit and completes OK; a COUNTERS entry copies its words, each as a read
without side effect gives it. EVENTS writes the next record at HEAD. A host access that errs stops the queue with DMA. -/
def Obligations.HostAttachment : Prop :=
  let inQueue := fun (q o : Nat) => 0x1000 + 64 * q ≤ o && o < 0x1040 + 64 * q
  let stops := fun (q e : Nat) (t : State) => fbit t (CTL_DQ_STAT.STOPPED q) = true ∧ fget t (CTL_DQ_STAT.ERROR q) = e
  let tails := fun (p : Fin 13) (q : Nat) (v : Word) (s : State) => accepts s p (CTL_DQ_TAIL q) v = true ∧ dqRuns s q = true
  (∀ s : State, s.sys.powered = true → s.host.link = true →
    answers .pcieLinkLoss s fun t =>
      t.host.link = false ∧ t.host.msixEn = false ∧ (∀ q, q < 4 → stops q 2 t) ∧
      (∀ k, k < 16 → fget t (CTL_LOCK.HOLDER k) = if fget s (CTL_LOCK.HOLDER k) = 0 then 0xF else fget s (CTL_LOCK.HOLDER k)) ∧
      regsQuiet (fun o => inLock o || inDq o) s t ∧ t.nvs = s.nvs ∧ t.core = s.core) ∧
  (∀ s : State, s.sys.powered = true → s.host.link = false → inRecovery s = false →
    answers .pcieLinkUp s fun t =>
      t.host.link = true ∧ (∀ q, q < 4 → fbit t (CTL_DQ_CFG.EN q) = false) ∧ regsBut inDq s t ∧
      t = { s with regs := t.regs, host := { s.host with link := true, msixEn := false } }) ∧
  (∀ (a : BitVec 26) (n : Nat) (w : Bool) (s : State), clocked s = true → s.host.link = true → (n ≠ 8 ∨ a.toNat % 8 ≠ 0) →
    answers (.bar0Unsupported a n w) s fun t => t = { s with out := .unsupported a.toNat :: s.out }) ∧
  (∀ s : State, clocked s = true → s.host.link = true → s.host.msixEn = false →
    answers .msixEnable s fun t => t.host.msixEn = true ∧ t.host.taken = s.host.taken ∧ t = { s with host := t.host, out := t.out }) ∧
  (∀ (v : Fin 2048) (e : BitVec 128) (s : State), clocked s = true → s.host.link = true →
    answers (.msixVectorUnmask ⟨v, e⟩) s fun t =>
      let sends := tget false s.host.pba v && s.host.msixEn && !e.getLsbD 96;
      msixEntry t v = e ∧ (∀ u, u ≠ v.val → msixEntry t u = msixEntry s u ∧ tget false t.host.pba u = tget false s.host.pba u) ∧
      tget false t.host.pba v = (tget false s.host.pba v && !sends) ∧
      t = { s with host := { s.host with msixTab := t.host.msixTab, pba := t.host.pba },
                   out := if sends then .msix v (e.extractLsb' 0 64) (e.extractLsb' 64 32) :: s.out else s.out }) ∧
  (∀ (q : Fin 4) (p : Fin 13) (v : Word) (s : State), accepts s p (CTL_DQ_CFG q) v = true → fbit s (CTL_DQ_CFG.EN q) = false →
    wbit v (CTL_DQ_CFG.EN q) = true →
    answers (.dqEnable q p v) s fun t =>
      fbit t (CTL_DQ_CFG.EN q) = true ∧ fget t (CTL_DQ_CFG.LOG2N q) = wget v (CTL_DQ_CFG.LOG2N q) ∧
      dqHead t q = 0 ∧ dqTail t q = 0 ∧ getReg t (CTL_DQ_STAT q) = 0 ∧ regsBut (inQueue q) s t ∧
      t = { s with regs := t.regs, host := t.host, tbl := t.tbl }) ∧
  (∀ (q : Fin 4) (p : Fin 13) (v : Word) (e : List Byte) (s : State), tails p q v s → q ≠ 0 →
    (v.toNat + 2 ^ 32 - dqHead s q) % 2 ^ 32 ≤ dqSlots s q →
    answers (.dqTailWrite q p v e) s fun t =>
      dqTail t q = v.toNat % 2 ^ 32 ∧ regsBut (fun o => o == CTL_DQ_TAIL q) s t ∧
      t = { s with regs := t.regs, host := { s.host with evHalf := t.host.evHalf } }) ∧
  (∀ (q : Fin 4) (p : Fin 13) (v : Word) (e : List Byte) (s : State), tails p q v s → q = 0 →
    (v.toNat + 2 ^ 32 - dqHead s q) % 2 ^ 32 ≤ dqSlots s q →
    answers (.dqTailWrite q p v e) s fun t => dqTail t 0 = v.toNat % 2 ^ 32 ∧ dqHead t 0 = v.toNat % 2 ^ 32 ∧ dqRuns t 0 = true) ∧
  (∀ (q : Fin 4) (p : Fin 13) (v : Word) (e : List Byte) (s : State), tails p q v s → q ≠ 2 →
    dqSlots s q < (v.toNat + 2 ^ 32 - dqHead s q) % 2 ^ 32 →
    answers (.dqTailWrite q p v e) s fun t =>
      stops q 3 t ∧ dqHead t q = dqHead s q ∧ regsQuiet (inQueue q) s t ∧ t.core = s.core ∧ t.nvs = s.nvs) ∧
  (∀ (e : BitVec 512) (d : List Byte) (s : State), clocked s = true → dqReady s 1 = true → s.sys.latchOpen = false →
    imageBad (le 64 e.toNat) = false → slotHeld s (fieldAt (le 64 e.toNat) 0 1) = false → s.mode ≠ mDRAINING →
    answers (.imageEntry e d false false) s fun t =>
      let b := le 64 e.toNat;
      let k := fieldAt b 0 1;
      dqHead t 1 = (dqHead s 1 + 1) % 2 ^ 32 ∧ verified t k = false ∧ t.mode = s.mode ∧
      (∀ j, j ≠ k → tget [] t.nvs.slots j = tget [] s.nvs.slots j) ∧
      (∀ a, fieldAt b 8 8 ≤ a → a < fieldAt b 8 8 + fieldAt b 0x18 4 →
        tget 0 (tget [] t.nvs.slots k) a = d.getD (a - fieldAt b 8 8) 0) ∧
      .hostWrite ((getReg s (CTL_DQ_CBASE 1)).toNat + dqHead s 1 % dqSlots s 1 * 16)
        (fit 15 (le 4 0 ++ le 4 (fieldAt b 4 4)) ++ [if dqHead s 1 / dqSlots s 1 % 2 = 0 then 1 else 0]) ∈ t.out ∧
      regsQuiet (fun o => o == PRK_STATUS || o == CTL_DQ_HEAD 1) s t) ∧
  (∀ (e : BitVec 256) (s : State), clocked s = true → dqReady s 3 = true → e.toNat % 2 ^ 64 % 8 = 0 →
    1 ≤ e.toNat / 2 ^ 64 % 2 ^ 32 → e.toNat / 2 ^ 64 % 2 ^ 32 ≤ 65536 → e.toNat / 2 ^ 192 = 0 →
    e.toNat % 2 ^ 64 + 8 * (e.toNat / 2 ^ 64 % 2 ^ 32) ≤ 0x4000000 →
    answers (.countersEntry e) s fun t =>
      dqHead t 3 = (dqHead s 3 + 1) % 2 ^ 32 ∧
      .hostWrite (e.toNat / 2 ^ 128 % 2 ^ 64) (peekWords (e.toNat / 2 ^ 64 % 2 ^ 32) (e.toNat % 2 ^ 64) (dqTake s 3)).1 ∈ t.out ∧
      regsBut (fun o => o == CTL_DQ_HEAD 3) s t ∧ t = { s with regs := t.regs, out := t.out, free := t.free }) ∧
  (∀ (r : Rec) (s : State), clocked s = true → dqRuns s 2 = true →
    (dqHead s 2 + 2 ^ 32 - dqTail s 2) % 2 ^ 32 < dqSlots s 2 →
    (s.evr.recs.find? fun r => r.seq == max s.host.evPos (evrFirst s)) = some r →
    answers .dqEventWrite s fun t =>
      dqHead t 2 = (dqHead s 2 + 1) % 2 ^ 32 ∧ t.host.evPos = max s.host.evPos (evrFirst s) + 1 ∧
      .hostWrite ((getReg s (CTL_DQ_SBASE 2)).toNat + dqHead s 2 % dqSlots s 2 * 64) (recBytes r) ∈ t.out ∧
      regsQuiet (fun o => o == CTL_DQ_HEAD 2) s t ∧ t = { s with regs := t.regs, host := t.host, out := t.out }) ∧
  (∀ (q : Fin 4) (s : State), s.sys.powered = true → dqRuns s q = true →
    answers (.dqDmaTimeout q) s fun t =>
      stops q 1 t ∧ regsQuiet (fun o => o == CTL_DQ_STAT q) s t ∧ t = { s with regs := t.regs, host := t.host, tbl := t.tbl, out := t.out })

/-- A doorbell takes an INACTIVE source to PENDING and an ACTIVE one to ACTIVE_AND_PENDING, and is merged and counted otherwise. A
claim of a target's own path takes the source offered to it: enabled, PENDING, routed to the target, of a tier strictly below the
running one, and none such is better by tier, PRIO and number; it becomes ACTIVE and joins the top of the target's stack; with none
offered the read answers 0. The completion of the top takes it off the stack and to INACTIVE, or to PENDING where it had come
again. A write of `IC_SRC_s` or of `IC_TIERS` sets their fields and leaves every source's state and the stacks. -/
def Obligations.Interrupts : Prop :=
  let icOnly := fun (own : Nat → Bool) (s t : State) => regsBut own s t ∧ t = { s with regs := t.regs, host := t.host, out := t.out }
  let waits := fun (s : State) (c n : Nat) =>
    n < 4096 ∧ fget s (IC_SRC.STATE n) = 1 ∧ fbit s (IC_SRC.EN n) = true ∧ fget s (IC_SRC.TARGET n) = c ∧
    icTier s (fget s (IC_SRC.PRIO n)) < icRunTier s c
  let rank := fun (s : State) (n : Nat) => (icTier s (fget s (IC_SRC.PRIO n)) * 256 + fget s (IC_SRC.PRIO n)) * 4096 + n
  (∀ (p : Fin 13) (n : BitVec 12) (s : State), accepts s p IC_DOORBELL (BitVec.ofNat 64 n.toNat) = true →
    fget s (IC_SRC.STATE n.toNat) = 0 ∨ fget s (IC_SRC.STATE n.toNat) = 2 →
    answers (.icDoorbell p n) s fun t =>
      fget t (IC_SRC.STATE n.toNat) = fget s (IC_SRC.STATE n.toNat) + 1 ∧
      fget t (IC_SRC.PRIO n.toNat) = fget s (IC_SRC.PRIO n.toNat) ∧ t.host.taken = s.host.taken ∧
      icOnly (fun o => o == IC_SRC n.toNat) s t) ∧
  (∀ (p : Fin 13) (n : BitVec 12) (s : State), accepts s p IC_DOORBELL (BitVec.ofNat 64 n.toNat) = true →
    fget s (IC_SRC.STATE n.toNat) = 1 ∨ fget s (IC_SRC.STATE n.toNat) = 3 →
    answers (.icDoorbell p n) s fun t =>
      getReg t IC_MERGED = getReg s IC_MERGED + 1 ∧ regsBut (fun o => o == IC_MERGED) s t ∧ regsOnly s t) ∧
  (∀ (p : Fin 13) (c : Fin 5) (n : Nat) (s : State), s.sys.powered = true → pathLive s p = true → p.val = targetPath c →
    icOffer s c = some n →
    answers (.icClaim p c) s fun t =>
      fget t (IC_SRC.STATE n) = 2 ∧ tget [] t.host.taken c = (n, icTier s (fget s (IC_SRC.PRIO n))) :: tget [] s.host.taken c ∧
      (∀ d, d ≠ c.val → tget [] t.host.taken d = tget [] s.host.taken d) ∧
      t.out.head? = some (.readData p (IC_CLAIM c) (BitVec.ofNat 64 (2 ^ 63 + n))) ∧ icOnly (fun o => o == IC_SRC n) s t) ∧
  (∀ (c : Fin 5) (n : Nat) (s : State), (s.regs.map (·.1)).Pairwise (· < ·) → (∀ e ∈ s.regs, e.1 % 8 = 0) →
    icOffer s c = some n →
    (waits s c n ∧ (∀ m : Nat, waits s c m → rank s n ≤ rank s m))) ∧
  (∀ (p : Fin 13) (c : Fin 5) (s : State), s.sys.powered = true → pathLive s p = true → p.val ≠ targetPath c ∨ icOffer s c = none →
    answers (.icClaim p c) s fun t => t = { s with out := .readData p (IC_CLAIM c) 0 :: s.out }) ∧
  (∀ (p : Fin 13) (c : Fin 5) (n : BitVec 12) (s : State), accepts s p (IC_EOI c) (BitVec.ofNat 64 n.toNat) = true →
    answers (.icEoi p c n) s fun t =>
      (tget [] s.host.taken c).head?.map (·.1) = some n.toNat ∧ tget [] t.host.taken c = (tget [] s.host.taken c).tail ∧
      (∀ d, d ≠ c.val → tget [] t.host.taken d = tget [] s.host.taken d) ∧
      fget t (IC_SRC.STATE n.toNat) = (if fget s (IC_SRC.STATE n.toNat) = 3 then 1 else 0) ∧
      icOnly (fun o => o == IC_SRC n.toNat) s t) ∧
  (∀ (p : Fin 13) (n : Fin 4096) (v : Word) (s : State), accepts s p (IC_SRC n) v = true →
    answers (.icConfigWrite p (BitVec.ofNat 26 (IC_SRC n)) v) s fun t =>
      fget t (IC_SRC.PRIO n) = wget v (IC_SRC.PRIO n) ∧ fget t (IC_SRC.TARGET n) = wget v (IC_SRC.TARGET n) ∧
      fget t (IC_SRC.VECTOR n) = wget v (IC_SRC.VECTOR n) ∧ fbit t (IC_SRC.EN n) = wbit v (IC_SRC.EN n) ∧
      fget t (IC_SRC.STATE n) = fget s (IC_SRC.STATE n) ∧ t.host.taken = s.host.taken ∧ icOnly (fun o => o == IC_SRC n) s t) ∧
  (∀ (p : Fin 13) (v : Word) (s : State), accepts s p IC_TIERS v = true →
    answers (.icConfigWrite p (BitVec.ofNat 26 IC_TIERS) v) s fun t =>
      fget t IC_TIERS.BOUND = wget v IC_TIERS.BOUND ∧ t.host.taken = s.host.taken ∧ icOnly (fun o => o == IC_TIERS) s t)

/-- The oldest record not yet copied joins the permanent part while that has room and the latch is closed. A rate window that has
ended closes, or makes a SUMMARY with the number folded and opens again. Lost records become one LOST record with their number. A
write of `EVR_SEL` or `EVR_PSEL` loads that record's words, or none, into the path's own window. The end of a clear, with no
request waiting, leaves the permanent part with its CLEARED record alone, which names the client's key. At the end of its period a stream that is on queues its datagrams: the sampler four
of type 1, the watch one of type 2; datagrams whose period has passed are discarded and counted. -/
def Obligations.RecorderAndTelemetry : Prop :=
  (∀ (r : Rec) (q : List Rec) (s : State), s.sys.powered = true → s.evr.copyQ = r :: q → s.sys.latchOpen = false →
    s.evr.clearing = none → s.nvs.perm.length < 4096 →
    answers .permCopy s fun t =>
      t.nvs = { s.nvs with perm := s.nvs.perm ++ [{ r with flags := r.flags / 2 * 2 + 1 }] } ∧ t.evr.copyQ = q ∧
      t = { s with nvs := t.nvs, evr := { s.evr with copyQ := q, latchPre := s.evr.latchPre - 1 } }) ∧
  (∀ (k : Nat) (w : RateWin) (s : State), s.sys.powered = true → (s.evr.windows.find? fun e => e.1 == k) = some (k, w) →
    w.expiry ≤ s.now → w.folded = 0 →
    answers (.rateWindowEnd k) s fun t => t = { s with evr := { s.evr with windows := tdel s.evr.windows k } }) ∧
  (∀ (k : Nat) (w : RateWin) (s : State), s.sys.powered = true → (s.evr.windows.find? fun e => e.1 == k) = some (k, w) →
    w.expiry ≤ s.now → w.folded ≠ 0 → (s.evr.rateAt ≠ s.now / 1000000 ∨ s.evr.rateCnt < 20000) →
    answers (.rateWindowEnd k) s fun t =>
      let r := t.evr.recs.headD {};
      r.flags = 2 ∧ r.count = w.folded ∧ r.block = w.lastRec.block ∧ r.code = w.lastRec.code ∧ r.seq = evrNext s ∧
      ({ expiry := s.now + w.len, len := w.len } : RateWin) ∈ t.evr.windows.map (fun e => e.2) ∧
      regsQuiet (fun _ => false) s t ∧ signalsOnly s t) ∧
  (∀ s : State, s.sys.powered = true → s.evr.lost ≠ 0 → (s.evr.rateAt ≠ s.now / 1000000 ∨ s.evr.rateCnt < 20000) →
    answers .lostRecord s fun t =>
      let r := t.evr.recs.headD {};
      t.evr.lost = 0 ∧ r.block = 0x10 ∧ r.code = 1 ∧ r.count = s.evr.lost ∧ r.seq = evrNext s ∧
      getReg t (PMC_EVT 0x1001) = getReg s (PMC_EVT 0x1001) + 1 ∧ regsQuiet (fun _ => false) s t ∧ signalsOnly s t) ∧
  (∀ (p : Fin 13) (n : Word) (s : State), accepts s p EVR_SEL n = true →
    answers (.evrSelect p n) s fun t =>
      tget [] t.evr.win (pathKey s p) = recWords (s.evr.recs.find? fun r => r.seq == n.toNat) ∧
      (∀ k, k ≠ pathKey s p → tget [] t.evr.win k = tget [] s.evr.win k) ∧ regsBut (fun o => o == EVR_SEL) s t ∧
      t = { s with regs := t.regs, evr := { s.evr with win := t.evr.win } }) ∧
  (∀ (p : Fin 13) (n : Word) (s : State), accepts s p EVR_PSEL n = true →
    answers (.evrPselect p n) s fun t =>
      tget [] t.evr.win (pathKey s p) = recWords (s.nvs.perm[wget n EVR_PSEL.INDEX]?) ∧
      (∀ k, k ≠ pathKey s p → tget [] t.evr.win k = tget [] s.evr.win k) ∧ regsBut (fun o => o == EVR_PSEL) s t ∧
      t = { s with regs := t.regs, evr := { s.evr with win := t.evr.win } }) ∧
  (∀ (n : Nat) (s : State), s.sys.powered = true → s.evr.clearing = some n → (∀ k ∈ s.sec.sessions, k.held = []) →
    answers .eventsClearDone s fun t =>
      let r := t.nvs.perm.headD {};
      t.nvs.perm.length = 1 ∧ r.block = 0x10 ∧ r.code = 2 ∧ r.seq = evrNext s ∧ r.data.take 4 = le 4 s.nvs.perm.length ∧
      (r.data.drop 12).take 16 = fit 16 s.evr.clearDigest ∧
      t.evr.clearing = none ∧ t.evr.copyQ = s.evr.copyQ ∧ t.nvs = { s.nvs with perm := t.nvs.perm } ∧
      (s.sec.sessions.any (fun k => k.sid == n) = true → t.out.head? = some (.mgmt n 6 3 0 s.evr.clearTag []))) ∧
  (∀ s : State, s.sys.powered = true → fbit s TEL_CTRL.SAMP_EN = true → telDue s s.tel.sampAt (1000 * fget s TEL_CTRL.SAMP_PERIOD_US) = true →
    answers .samplerPeriod s fun t =>
      t.tel.queue.length = s.tel.queue.length + 4 ∧ t.tel.queue.take s.tel.queue.length = s.tel.queue ∧
      (∀ e ∈ t.tel.queue.drop s.tel.queue.length, e.1 = 1 ∧ e.2.1 = s.now + 1000 * fget s TEL_CTRL.SAMP_PERIOD_US ∧ e.2.2.length = 1056 ∧
        e.2.2.take 1 = [1]) ∧
      s.tel.sampSeq < t.tel.sampSeq ∧ t.tel.watchSeq = s.tel.watchSeq ∧ t = { s with tel := t.tel }) ∧
  (∀ s : State, s.sys.powered = true → fbit s TEL_CTRL.WATCH_EN = true → telDue s s.tel.watchAt 1000 = true →
    answers .watchPeriod s fun t =>
      t.tel.queue.dropLast = s.tel.queue ∧ (∀ e ∈ t.tel.queue.getLast?, e.1 = 2 ∧ e.2.1 = s.now + 1000 ∧ e.2.2.take 1 = [2] ∧
        e.2.2.length = 32 + 32 * ((List.range 64).filter fun w => fbit s (TEL_WATCH.VALID w)).length) ∧
      s.tel.watchSeq < t.tel.watchSeq ∧ t.tel.sampSeq = s.tel.sampSeq ∧ t = { s with tel := t.tel }) ∧
  (∀ s : State, s.sys.powered = true →
    answers .datagramExpire s fun t =>
      t.tel.queue = s.tel.queue.filter (fun e => !decide (e.2.1 ≤ s.now)) ∧
      getReg t TEL_LOST = getReg s TEL_LOST + BitVec.ofNat 64 (s.tel.queue.length - t.tel.queue.length) ∧
      regsBut (fun o => o == TEL_LOST) s t ∧ t = { s with regs := t.regs, tel := { s.tel with queue := t.tel.queue } })

/-! The register space (chapter 21). -/

/-- On every path and at every offset but those of `TB_SEC`, of `IC_CLAIM_0` to `IC_CLAIM_4` and of the locks, a register read
leaves the whole state as it is, but for the model's own count of free values. R423 applies to the three alone: in a COUNTERS copy
they read as zero, with no effect on anything, and every other register reads as on the host's path. -/
def Obligations.ReadsHaveNoSideEffect : Prop :=
  let special := fun (o : Nat) => o == TB_SEC || (IC_CLAIM 0 ≤ o && o < IC_CLAIM 5) || inLock o
  (∀ (p o : Nat) (s : State), special o = false → (readReg s p o).2 = { s with free := (readReg s p o).2.free }) ∧
  (∀ (o : Nat) (s : State), special o = true → peekWords 1 o s = (List.replicate 8 0, s)) ∧
  (∀ (o : Nat) (s : State), special o = false →
    peekWords 1 o s = (le 8 (readReg s 0 o).1.toNat, (readReg s 0 o).2)) ∧
  (∀ (n o : Nat) (s : State), (peekWords n o s).2 = { s with free := (peekWords n o s).2.free })

/-- While a lock of Table 21.5 is held by another path, a write of a register of its set changes only the record of rejected writes,
and its REASON is LOCKED where nothing lower stands against it; what a read of the set returns does not depend on the lock; a free lock
rejects no write with LOCKED; and locks 12 to 15 guard no register. -/
def Obligations.LocksGuardSets : Prop :=
  (∀ (p : Fin 13) (o : BitVec 26) (v : Word) (k : Nat) (s : State), s.sys.powered = true → pathLive s p = true → o.toNat % 8 = 0 →
    lockOf o.toNat = some k → fget s (CTL_LOCK.HOLDER k) ≠ 0xF → fget s (CTL_LOCK.HOLDER k) ≠ p.val →
    answers (.registerWrite p o v) s fun t =>
      getReg t CTL_WERR_CNT = getReg s CTL_WERR_CNT + 1 ∧
      (fbit s CTL_WERR.VALID = false → writeReason (fset s (CTL_LOCK.HOLDER k) p) p o.toNat v = 0 ∨
          writeReason (fset s (CTL_LOCK.HOLDER k) p) p o.toNat v = 6 →
        fget t CTL_WERR.REASON = 5 ∧ fget t CTL_WERR.PATH = p.val ∧ fget t CTL_WERR.OFFSET = o.toNat ∧ getReg t CTL_WERR_DATA = v) ∧
      regsBut (fun r => r == CTL_WERR || r == CTL_WERR_DATA || r == CTL_WERR_CNT) s t ∧ regsOnly s t) ∧
  (∀ (p o k h : Nat) (s : State), lockOf o = some k → (readReg (fset s (CTL_LOCK.HOLDER k) h) p o).1 = (readReg s p o).1) ∧
  (∀ (p o : Nat) (v : Word) (k : Nat) (s : State), lockOf o = some k → fget s (CTL_LOCK.HOLDER k) = 0xF → writeReason s p o v ≠ 5) ∧
  (∀ (o k : Nat), lockOf o = some k → k < 12)

/-- A read of a free lock takes it for the reading path and shows TAKEN with that path; a read of a held one shows its holder and
changes nothing. A release by the holder frees the lock; by another path it is rejected and counted. A write that Table 21.7
rejects on a live path changes only the record of rejected writes, which keeps an earlier entry and marks it MORE; an accepted
write of the chip number sets it and no other register. -/
def Obligations.RegisterWrites : Prop :=
  (∀ (p : Fin 13) (k : Fin 16) (s : State), s.sys.powered = true → pathLive s p = true → fget s (CTL_LOCK.HOLDER k) = 0xF →
    answers (.lockRead p k) s fun t =>
      fget t (CTL_LOCK.HOLDER k) = p.val ∧ t.out = .readData p (CTL_LOCK k) (BitVec.ofNat 64 (16 + p)) :: s.out ∧
      regsBut (fun o => o == CTL_LOCK k) s t ∧ t = { s with regs := t.regs, out := t.out }) ∧
  (∀ (p : Fin 13) (k : Fin 16) (s : State), s.sys.powered = true → pathLive s p = true → fget s (CTL_LOCK.HOLDER k) ≠ 0xF →
    answers (.lockRead p k) s fun t =>
      t = { s with out := .readData p (CTL_LOCK k) (BitVec.ofNat 64 (fget s (CTL_LOCK.HOLDER k))) :: s.out }) ∧
  (∀ (p : Fin 13) (k : Fin 16) (s : State), s.sys.powered = true → pathLive s p = true → testFree s = true →
    fget s (CTL_LOCK.HOLDER k) = p.val →
    answers (.lockRelease p k) s fun t =>
      fget t (CTL_LOCK.HOLDER k) = 0xF ∧ regsBut (fun o => o == CTL_LOCK k) s t ∧ regsOnly s t) ∧
  (∀ (p : Fin 13) (k : Fin 16) (s : State), s.sys.powered = true → pathLive s p = true → fget s (CTL_LOCK.HOLDER k) ≠ p.val →
    answers (.lockRelease p k) s fun t =>
      getReg t CTL_WERR_CNT = getReg s CTL_WERR_CNT + 1 ∧
      regsBut (fun r => r == CTL_WERR || r == CTL_WERR_DATA || r == CTL_WERR_CNT) s t ∧ regsOnly s t) ∧
  (∀ (p : Fin 13) (o : BitVec 26) (v : Word) (s : State), s.sys.powered = true → pathLive s p = true → o.toNat % 8 = 0 →
    writeReason s p o.toNat v ≠ 0 →
    answers (.registerWrite p o v) s fun t =>
      getReg t CTL_WERR_CNT = getReg s CTL_WERR_CNT + 1 ∧
      (fbit s CTL_WERR.VALID = false → fbit t CTL_WERR.VALID = true ∧ fget t CTL_WERR.REASON = writeReason s p o.toNat v ∧
        fget t CTL_WERR.PATH = p.val ∧ fget t CTL_WERR.OFFSET = o.toNat ∧ getReg t CTL_WERR_DATA = v) ∧
      (fbit s CTL_WERR.VALID = true → fbit t CTL_WERR.MORE = true ∧ getReg t CTL_WERR_DATA = getReg s CTL_WERR_DATA ∧
        fget t CTL_WERR.REASON = fget s CTL_WERR.REASON) ∧
      regsBut (fun r => r == CTL_WERR || r == CTL_WERR_DATA || r == CTL_WERR_CNT) s t ∧ regsOnly s t) ∧
  (∀ (p : Fin 13) (v : Word) (s : State), accepts s p FLT_CHIP_SEL v = true →
    answers (.registerWrite p (BitVec.ofNat 26 FLT_CHIP_SEL) v) s fun t =>
      fget t FLT_CHIP_SEL.CHIP = wget v FLT_CHIP_SEL.CHIP ∧ regsBut (fun o => o == FLT_CHIP_SEL) s t ∧ regsOnly s t)
end

