-- ==== Sys2Proof/Machine/Coding.lean ====
section
/-! DEFINITION. Lane coding (R73 to R76, R108): how the 257-bit blocks of a port become the levels of its lanes, and back. The
commands carry whole blocks and frames; these functions say what a lane carries for them. The field and the generator of the
code are those of IEEE 802.3 Clause 91, and which codeword takes which symbol of the payload is a choice (log entry 254). -/

namespace Sys2Proof.Machine

/-! Blocks on lanes (R76, R108). -/

/-- The 257 bits of a block: its flag, 1 for a data block, then its 32 bytes, each least significant bit first (R108). -/
def blockBits (data : Bool) (b : BitVec 256) : List Bool := data :: (List.range 256).map fun i => bit b.toNat i

/-- The lane that carries block n of a port of k lanes from lane L: round-robin from the lowest (R76). -/
def laneOfBlock (L k n : Nat) : Nat := L + n % k

/-- Every k-th item of a list from its head. -/
def everyNth {α : Type} (k : Nat) : Nat → List α → List α
  | _, [] => []
  | 0, a :: as => a :: everyNth k (k - 1) as
  | n + 1, _ :: as => everyNth k n as

/-- The blocks of a port dealt to its k lanes, lowest lane first (R76). -/
def dealBlocks {α : Type} (k : Nat) (bs : List α) : List (List α) := (List.range k).map fun j => everyNth k j bs

/-- The blocks of k deskewed lanes put together again, one from each lane in turn, n rounds (R76). -/
def gatherBlocks {α : Type} : Nat → List (List α) → List α
  | 0, _ => []
  | n + 1, ls => ls.filterMap List.head? ++ gatherBlocks n (ls.map List.tail)

/-! Forward error correction: RS(544,514) over GF(2^10) (R73). -/

/-- Multiplication in GF(2^10) modulo x^10 + x^3 + 1. -/
def fecMul (a b : Nat) : Nat :=
  (List.range 10).foldr (fun i r =>
    let r := if 1024 ≤ 2 * r then (2 * r) ^^^ 0x409 else 2 * r
    if bit b i then r ^^^ a else r) 0

/-- Power of the generator 2 of GF(2^10). -/
def fecPow : Nat → Nat
  | 0 => 1
  | n + 1 => fecMul 2 (fecPow n)

/-- Product of a polynomial, highest power first, and x + a. -/
def polyTimes (p : List Nat) (a : Nat) : List Nat :=
  List.zipWith (fun x y => x ^^^ y) (p ++ [0]) (0 :: p.map fun c => fecMul c a)

/-- The generator polynomial of t parity symbols: the product of x + 2^i, i below t. -/
def rsGen (t : Nat) : List Nat := (List.range t).foldl (fun p i => polyTimes p (fecPow i)) [1]

/-- Remainder after one more message symbol: division by the generator. -/
def rsStep (g r : List Nat) (m : Nat) : List Nat :=
  let q := m ^^^ r.headD 0
  List.zipWith (fun x c => x ^^^ fecMul q c) (r.drop 1 ++ [0]) (g.drop 1)

/-- A codeword: the message symbols, then the parity. -/
def rsEncode (t : Nat) (msg : List Nat) : List Nat := msg ++ msg.foldl (rsStep (rsGen t)) (List.replicate t 0)

/-- Symbols in which two words differ. -/
def rsDistance (a b : List Nat) : Nat := ((a.zip b).filter fun p => p.1 != p.2).length

/-- What a receiver corrects: a word within 15 symbols of a codeword (R75). -/
def correctable (word codeword : List Nat) : Bool := word.length == codeword.length && rsDistance word codeword ≤ 15

/-! The codeword group (R73, R74). -/

/-- Codewords of a group, message symbols of each, and groups from one alignment-marker group to the next (R73). -/
def groupWords : Nat := 4
def msgSymbols : Nat := 514
def paritySymbols : Nat := 30
def markerGroups : Nat := 1024

/-- Symbols of n bits of a bit stream, most significant bit first. -/
def symbolsOf (n : Nat) : Nat → List Bool → List Nat
  | 0, _ => []
  | fuel + 1, bs => (bs.take n).foldl (fun a b => 2 * a + b2n b) 0 :: symbolsOf n fuel (bs.drop n)

/-- The bits of a symbol, most significant first (R74). -/
def symbolBits (x : Nat) : List Bool := (List.range 10).map fun i => bit x (9 - i)

/-- The symbols of several codewords in turn, codeword 0 first (R74). -/
def interleave (cws : List (List Nat)) : List Nat := gatherBlocks ((cws.map List.length).foldl max 0) cws

/-- The symbols a lane sends for one group: 80 blocks as 2,056 message symbols, dealt to the four codewords in turn. -/
def groupSymbols (bits : List Bool) : List Nat :=
  interleave ((dealBlocks groupWords (symbolsOf 10 (groupWords * msgSymbols) bits)).map (rsEncode paritySymbols))

/-! PAM4 (R74, Table 4.2). -/

/-- Pairs of consecutive bits, the first more significant. -/
def bitPairs : List Bool → List (Bool × Bool)
  | a :: b :: t => (a, b) :: bitPairs t
  | _ => []

/-- Gray value of a bit pair. -/
def gray : Bool × Bool → Nat
  | (false, false) => 0
  | (false, true) => 1
  | (true, true) => 2
  | (true, false) => 3

/-- The bit pair of a Gray value. -/
def ungray : Nat → Bool × Bool
  | 0 => (false, false)
  | 1 => (false, true)
  | 2 => (true, true)
  | _ => (true, false)

/-- Levels sent: P(n) = (G(n) − P(n−1)) mod 4 after level p. -/
def precode : Nat → List Nat → List Nat
  | _, [] => []
  | p, g :: gs => (g + 4 - p % 4) % 4 :: precode ((g + 4 - p % 4) % 4) gs

/-- Gray values received: G(n) = (P(n) + P(n−1)) mod 4. -/
def undoPrecode : Nat → List Nat → List Nat
  | _, [] => []
  | q, p :: ps => (p + q) % 4 :: undoPrecode p ps

/-- The levels a lane drives for one codeword group after level p: interleaved symbols, bit pairs, Gray map, precoding. -/
def groupLevels (p : Nat) (bits : List Bool) : List Nat :=
  precode p ((bitPairs ((groupSymbols bits).flatMap symbolBits)).map gray)

/-- Line rate of a lane in Mb/s: the payload rate times 257/256 times 544/514 (R73). -/
def lineMbps (s : State) (L : Nat) : Nat := (if halfRate s L then 200000 else 400000) * 257 * 544 / (256 * 514)

end Sys2Proof.Machine
end

