-- ==== Sys2Proof/Laws/Coding.lean ====
section
/-! SUPPORT. Lane coding: what a receiver undoes, and that the dealing of blocks to lanes loses none. -/

namespace Sys2Proof.Machine

/-- Undoing the precoding gives the Gray values back. -/
theorem undoPrecode_precode (p : Nat) (gs : List Nat) (h : ∀ g ∈ gs, g < 4) : undoPrecode p (precode p gs) = gs := by
  induction gs generalizing p with
  | nil => rfl
  | cons g gs ih =>
    have hg : g < 4 := h g (by simp)
    simp only [precode, undoPrecode, List.cons.injEq]
    refine ⟨by omega, ih _ fun x hx => h x (by simp [hx])⟩

/-- The Gray map is undone. -/
@[simp] theorem ungray_gray (b : Bool × Bool) : ungray (gray b) = b := by
  obtain ⟨a, b⟩ := b; cases a <;> cases b <;> rfl

/-- A Gray value is below 4. -/
theorem gray_lt (b : Bool × Bool) : gray b < 4 := by
  obtain ⟨a, b⟩ := b; cases a <;> cases b <;> decide

/-- A block has 257 bits (R108). -/
@[simp] theorem blockBits_length (d : Bool) (b : BitVec 256) : (blockBits d b).length = 257 := by simp [blockBits]

/-- A port's blocks are dealt to as many lanes as it has. -/
@[simp] theorem dealBlocks_length {α : Type} (k : Nat) (bs : List α) : (dealBlocks k bs).length = k := by simp [dealBlocks]

/-- A block's lane is one of the port's. -/
theorem laneOfBlock_lt (L k n : Nat) (h : 0 < k) : laneOfBlock L k n < L + k := by
  have := Nat.mod_lt n h; simp only [laneOfBlock]; omega

end Sys2Proof.Machine
end

