-- ==== Sys2Proof/Laws/State.lean ====
section
/-! SUPPORT. One lemma per field of the state per named update of it: the updated field holds the new value, every other field
the old one. -/

namespace Sys2Proof.Machine

/-! `setReg`. -/

@[simp] theorem setReg_pending (s : State) (o : Nat) (v : Word) : (setReg s o v).pending = s.pending := rfl
@[simp] theorem setReg_free (s : State) (o : Nat) (v : Word) : (setReg s o v).free = s.free := rfl
@[simp] theorem setReg_out (s : State) (o : Nat) (v : Word) : (setReg s o v).out = s.out := rfl
@[simp] theorem setReg_tb (s : State) (o : Nat) (v : Word) : (setReg s o v).tb = s.tb := rfl
@[simp] theorem setReg_mono (s : State) (o : Nat) (v : Word) : (setReg s o v).mono = s.mono := rfl
@[simp] theorem setReg_sys (s : State) (o : Nat) (v : Word) : (setReg s o v).sys = s.sys := rfl
@[simp] theorem setReg_nvs (s : State) (o : Nat) (v : Word) : (setReg s o v).nvs = s.nvs := rfl
@[simp] theorem setReg_time (s : State) (o : Nat) (v : Word) : (setReg s o v).time = s.time := rfl
@[simp] theorem setReg_weave (s : State) (o : Nat) (v : Word) : (setReg s o v).weave = s.weave := rfl
@[simp] theorem setReg_lanes (s : State) (o : Nat) (v : Word) : (setReg s o v).lanes = s.lanes := rfl
@[simp] theorem setReg_fibres (s : State) (o : Nat) (v : Word) : (setReg s o v).fibres = s.fibres := rfl
@[simp] theorem setReg_banks (s : State) (o : Nat) (v : Word) : (setReg s o v).banks = s.banks := rfl
@[simp] theorem setReg_ports (s : State) (o : Nat) (v : Word) : (setReg s o v).ports = s.ports := rfl
@[simp] theorem setReg_core (s : State) (o : Nat) (v : Word) : (setReg s o v).core = s.core := rfl
@[simp] theorem setReg_tbl (s : State) (o : Nat) (v : Word) : (setReg s o v).tbl = s.tbl := rfl
@[simp] theorem setReg_tm (s : State) (o : Nat) (v : Word) : (setReg s o v).tm = s.tm := rfl
@[simp] theorem setReg_byp (s : State) (o : Nat) (v : Word) : (setReg s o v).byp = s.byp := rfl
@[simp] theorem setReg_pic (s : State) (o : Nat) (v : Word) : (setReg s o v).pic = s.pic := rfl
@[simp] theorem setReg_bob (s : State) (o : Nat) (v : Word) : (setReg s o v).bob = s.bob := rfl
@[simp] theorem setReg_mem (s : State) (o : Nat) (v : Word) : (setReg s o v).mem = s.mem := rfl
@[simp] theorem setReg_flt (s : State) (o : Nat) (v : Word) : (setReg s o v).flt = s.flt := rfl
@[simp] theorem setReg_sec (s : State) (o : Nat) (v : Word) : (setReg s o v).sec = s.sec := rfl
@[simp] theorem setReg_host (s : State) (o : Nat) (v : Word) : (setReg s o v).host = s.host := rfl
@[simp] theorem setReg_evr (s : State) (o : Nat) (v : Word) : (setReg s o v).evr = s.evr := rfl
@[simp] theorem setReg_tel (s : State) (o : Nat) (v : Word) : (setReg s o v).tel = s.tel := rfl
@[simp] theorem setReg_test (s : State) (o : Nat) (v : Word) : (setReg s o v).test = s.test := rfl

/-! `fset`. -/

@[simp] theorem fset_pending (s : State) (f : Fld) (v : Nat) : (fset s f v).pending = s.pending := rfl
@[simp] theorem fset_free (s : State) (f : Fld) (v : Nat) : (fset s f v).free = s.free := rfl
@[simp] theorem fset_out (s : State) (f : Fld) (v : Nat) : (fset s f v).out = s.out := rfl
@[simp] theorem fset_tb (s : State) (f : Fld) (v : Nat) : (fset s f v).tb = s.tb := rfl
@[simp] theorem fset_mono (s : State) (f : Fld) (v : Nat) : (fset s f v).mono = s.mono := rfl
@[simp] theorem fset_sys (s : State) (f : Fld) (v : Nat) : (fset s f v).sys = s.sys := rfl
@[simp] theorem fset_nvs (s : State) (f : Fld) (v : Nat) : (fset s f v).nvs = s.nvs := rfl
@[simp] theorem fset_time (s : State) (f : Fld) (v : Nat) : (fset s f v).time = s.time := rfl
@[simp] theorem fset_weave (s : State) (f : Fld) (v : Nat) : (fset s f v).weave = s.weave := rfl
@[simp] theorem fset_lanes (s : State) (f : Fld) (v : Nat) : (fset s f v).lanes = s.lanes := rfl
@[simp] theorem fset_fibres (s : State) (f : Fld) (v : Nat) : (fset s f v).fibres = s.fibres := rfl
@[simp] theorem fset_banks (s : State) (f : Fld) (v : Nat) : (fset s f v).banks = s.banks := rfl
@[simp] theorem fset_ports (s : State) (f : Fld) (v : Nat) : (fset s f v).ports = s.ports := rfl
@[simp] theorem fset_core (s : State) (f : Fld) (v : Nat) : (fset s f v).core = s.core := rfl
@[simp] theorem fset_tbl (s : State) (f : Fld) (v : Nat) : (fset s f v).tbl = s.tbl := rfl
@[simp] theorem fset_tm (s : State) (f : Fld) (v : Nat) : (fset s f v).tm = s.tm := rfl
@[simp] theorem fset_byp (s : State) (f : Fld) (v : Nat) : (fset s f v).byp = s.byp := rfl
@[simp] theorem fset_pic (s : State) (f : Fld) (v : Nat) : (fset s f v).pic = s.pic := rfl
@[simp] theorem fset_bob (s : State) (f : Fld) (v : Nat) : (fset s f v).bob = s.bob := rfl
@[simp] theorem fset_mem (s : State) (f : Fld) (v : Nat) : (fset s f v).mem = s.mem := rfl
@[simp] theorem fset_flt (s : State) (f : Fld) (v : Nat) : (fset s f v).flt = s.flt := rfl
@[simp] theorem fset_sec (s : State) (f : Fld) (v : Nat) : (fset s f v).sec = s.sec := rfl
@[simp] theorem fset_host (s : State) (f : Fld) (v : Nat) : (fset s f v).host = s.host := rfl
@[simp] theorem fset_evr (s : State) (f : Fld) (v : Nat) : (fset s f v).evr = s.evr := rfl
@[simp] theorem fset_tel (s : State) (f : Fld) (v : Nat) : (fset s f v).tel = s.tel := rfl
@[simp] theorem fset_test (s : State) (f : Fld) (v : Nat) : (fset s f v).test = s.test := rfl

/-! `bumpBy`. -/

@[simp] theorem bumpBy_pending (s : State) (o n : Nat) : (bumpBy s o n).pending = s.pending := rfl
@[simp] theorem bumpBy_free (s : State) (o n : Nat) : (bumpBy s o n).free = s.free := rfl
@[simp] theorem bumpBy_out (s : State) (o n : Nat) : (bumpBy s o n).out = s.out := rfl
@[simp] theorem bumpBy_tb (s : State) (o n : Nat) : (bumpBy s o n).tb = s.tb := rfl
@[simp] theorem bumpBy_mono (s : State) (o n : Nat) : (bumpBy s o n).mono = s.mono := rfl
@[simp] theorem bumpBy_sys (s : State) (o n : Nat) : (bumpBy s o n).sys = s.sys := rfl
@[simp] theorem bumpBy_nvs (s : State) (o n : Nat) : (bumpBy s o n).nvs = s.nvs := rfl
@[simp] theorem bumpBy_time (s : State) (o n : Nat) : (bumpBy s o n).time = s.time := rfl
@[simp] theorem bumpBy_weave (s : State) (o n : Nat) : (bumpBy s o n).weave = s.weave := rfl
@[simp] theorem bumpBy_lanes (s : State) (o n : Nat) : (bumpBy s o n).lanes = s.lanes := rfl
@[simp] theorem bumpBy_fibres (s : State) (o n : Nat) : (bumpBy s o n).fibres = s.fibres := rfl
@[simp] theorem bumpBy_banks (s : State) (o n : Nat) : (bumpBy s o n).banks = s.banks := rfl
@[simp] theorem bumpBy_ports (s : State) (o n : Nat) : (bumpBy s o n).ports = s.ports := rfl
@[simp] theorem bumpBy_core (s : State) (o n : Nat) : (bumpBy s o n).core = s.core := rfl
@[simp] theorem bumpBy_tbl (s : State) (o n : Nat) : (bumpBy s o n).tbl = s.tbl := rfl
@[simp] theorem bumpBy_tm (s : State) (o n : Nat) : (bumpBy s o n).tm = s.tm := rfl
@[simp] theorem bumpBy_byp (s : State) (o n : Nat) : (bumpBy s o n).byp = s.byp := rfl
@[simp] theorem bumpBy_pic (s : State) (o n : Nat) : (bumpBy s o n).pic = s.pic := rfl
@[simp] theorem bumpBy_bob (s : State) (o n : Nat) : (bumpBy s o n).bob = s.bob := rfl
@[simp] theorem bumpBy_mem (s : State) (o n : Nat) : (bumpBy s o n).mem = s.mem := rfl
@[simp] theorem bumpBy_flt (s : State) (o n : Nat) : (bumpBy s o n).flt = s.flt := rfl
@[simp] theorem bumpBy_sec (s : State) (o n : Nat) : (bumpBy s o n).sec = s.sec := rfl
@[simp] theorem bumpBy_host (s : State) (o n : Nat) : (bumpBy s o n).host = s.host := rfl
@[simp] theorem bumpBy_evr (s : State) (o n : Nat) : (bumpBy s o n).evr = s.evr := rfl
@[simp] theorem bumpBy_tel (s : State) (o n : Nat) : (bumpBy s o n).tel = s.tel := rfl
@[simp] theorem bumpBy_test (s : State) (o n : Nat) : (bumpBy s o n).test = s.test := rfl

/-! `bump`. -/

@[simp] theorem bump_pending (s : State) (o : Nat) : (bump s o).pending = s.pending := rfl
@[simp] theorem bump_free (s : State) (o : Nat) : (bump s o).free = s.free := rfl
@[simp] theorem bump_out (s : State) (o : Nat) : (bump s o).out = s.out := rfl
@[simp] theorem bump_tb (s : State) (o : Nat) : (bump s o).tb = s.tb := rfl
@[simp] theorem bump_mono (s : State) (o : Nat) : (bump s o).mono = s.mono := rfl
@[simp] theorem bump_sys (s : State) (o : Nat) : (bump s o).sys = s.sys := rfl
@[simp] theorem bump_nvs (s : State) (o : Nat) : (bump s o).nvs = s.nvs := rfl
@[simp] theorem bump_time (s : State) (o : Nat) : (bump s o).time = s.time := rfl
@[simp] theorem bump_weave (s : State) (o : Nat) : (bump s o).weave = s.weave := rfl
@[simp] theorem bump_lanes (s : State) (o : Nat) : (bump s o).lanes = s.lanes := rfl
@[simp] theorem bump_fibres (s : State) (o : Nat) : (bump s o).fibres = s.fibres := rfl
@[simp] theorem bump_banks (s : State) (o : Nat) : (bump s o).banks = s.banks := rfl
@[simp] theorem bump_ports (s : State) (o : Nat) : (bump s o).ports = s.ports := rfl
@[simp] theorem bump_core (s : State) (o : Nat) : (bump s o).core = s.core := rfl
@[simp] theorem bump_tbl (s : State) (o : Nat) : (bump s o).tbl = s.tbl := rfl
@[simp] theorem bump_tm (s : State) (o : Nat) : (bump s o).tm = s.tm := rfl
@[simp] theorem bump_byp (s : State) (o : Nat) : (bump s o).byp = s.byp := rfl
@[simp] theorem bump_pic (s : State) (o : Nat) : (bump s o).pic = s.pic := rfl
@[simp] theorem bump_bob (s : State) (o : Nat) : (bump s o).bob = s.bob := rfl
@[simp] theorem bump_mem (s : State) (o : Nat) : (bump s o).mem = s.mem := rfl
@[simp] theorem bump_flt (s : State) (o : Nat) : (bump s o).flt = s.flt := rfl
@[simp] theorem bump_sec (s : State) (o : Nat) : (bump s o).sec = s.sec := rfl
@[simp] theorem bump_host (s : State) (o : Nat) : (bump s o).host = s.host := rfl
@[simp] theorem bump_evr (s : State) (o : Nat) : (bump s o).evr = s.evr := rfl
@[simp] theorem bump_tel (s : State) (o : Nat) : (bump s o).tel = s.tel := rfl
@[simp] theorem bump_test (s : State) (o : Nat) : (bump s o).test = s.test := rfl

/-! `resetReg`. -/

@[simp] theorem resetReg_pending (s : State) (o : Nat) : (resetReg s o).pending = s.pending := rfl
@[simp] theorem resetReg_free (s : State) (o : Nat) : (resetReg s o).free = s.free := rfl
@[simp] theorem resetReg_out (s : State) (o : Nat) : (resetReg s o).out = s.out := rfl
@[simp] theorem resetReg_tb (s : State) (o : Nat) : (resetReg s o).tb = s.tb := rfl
@[simp] theorem resetReg_mono (s : State) (o : Nat) : (resetReg s o).mono = s.mono := rfl
@[simp] theorem resetReg_sys (s : State) (o : Nat) : (resetReg s o).sys = s.sys := rfl
@[simp] theorem resetReg_nvs (s : State) (o : Nat) : (resetReg s o).nvs = s.nvs := rfl
@[simp] theorem resetReg_time (s : State) (o : Nat) : (resetReg s o).time = s.time := rfl
@[simp] theorem resetReg_weave (s : State) (o : Nat) : (resetReg s o).weave = s.weave := rfl
@[simp] theorem resetReg_lanes (s : State) (o : Nat) : (resetReg s o).lanes = s.lanes := rfl
@[simp] theorem resetReg_fibres (s : State) (o : Nat) : (resetReg s o).fibres = s.fibres := rfl
@[simp] theorem resetReg_banks (s : State) (o : Nat) : (resetReg s o).banks = s.banks := rfl
@[simp] theorem resetReg_ports (s : State) (o : Nat) : (resetReg s o).ports = s.ports := rfl
@[simp] theorem resetReg_core (s : State) (o : Nat) : (resetReg s o).core = s.core := rfl
@[simp] theorem resetReg_tbl (s : State) (o : Nat) : (resetReg s o).tbl = s.tbl := rfl
@[simp] theorem resetReg_tm (s : State) (o : Nat) : (resetReg s o).tm = s.tm := rfl
@[simp] theorem resetReg_byp (s : State) (o : Nat) : (resetReg s o).byp = s.byp := rfl
@[simp] theorem resetReg_pic (s : State) (o : Nat) : (resetReg s o).pic = s.pic := rfl
@[simp] theorem resetReg_bob (s : State) (o : Nat) : (resetReg s o).bob = s.bob := rfl
@[simp] theorem resetReg_mem (s : State) (o : Nat) : (resetReg s o).mem = s.mem := rfl
@[simp] theorem resetReg_flt (s : State) (o : Nat) : (resetReg s o).flt = s.flt := rfl
@[simp] theorem resetReg_sec (s : State) (o : Nat) : (resetReg s o).sec = s.sec := rfl
@[simp] theorem resetReg_host (s : State) (o : Nat) : (resetReg s o).host = s.host := rfl
@[simp] theorem resetReg_evr (s : State) (o : Nat) : (resetReg s o).evr = s.evr := rfl
@[simp] theorem resetReg_tel (s : State) (o : Nat) : (resetReg s o).tel = s.tel := rfl
@[simp] theorem resetReg_test (s : State) (o : Nat) : (resetReg s o).test = s.test := rfl

/-! `setMode`. -/

@[simp] theorem setMode_pending (s : State) (m : Nat) : (setMode s m).pending = s.pending := rfl
@[simp] theorem setMode_free (s : State) (m : Nat) : (setMode s m).free = s.free := rfl
@[simp] theorem setMode_out (s : State) (m : Nat) : (setMode s m).out = s.out := rfl
@[simp] theorem setMode_tb (s : State) (m : Nat) : (setMode s m).tb = s.tb := rfl
@[simp] theorem setMode_mono (s : State) (m : Nat) : (setMode s m).mono = s.mono := rfl
@[simp] theorem setMode_sys (s : State) (m : Nat) : (setMode s m).sys = s.sys := rfl
@[simp] theorem setMode_nvs (s : State) (m : Nat) : (setMode s m).nvs = s.nvs := rfl
@[simp] theorem setMode_time (s : State) (m : Nat) : (setMode s m).time = s.time := rfl
@[simp] theorem setMode_weave (s : State) (m : Nat) : (setMode s m).weave = s.weave := rfl
@[simp] theorem setMode_lanes (s : State) (m : Nat) : (setMode s m).lanes = s.lanes := rfl
@[simp] theorem setMode_fibres (s : State) (m : Nat) : (setMode s m).fibres = s.fibres := rfl
@[simp] theorem setMode_banks (s : State) (m : Nat) : (setMode s m).banks = s.banks := rfl
@[simp] theorem setMode_ports (s : State) (m : Nat) : (setMode s m).ports = s.ports := rfl
@[simp] theorem setMode_core (s : State) (m : Nat) : (setMode s m).core = s.core := rfl
@[simp] theorem setMode_tbl (s : State) (m : Nat) : (setMode s m).tbl = s.tbl := rfl
@[simp] theorem setMode_tm (s : State) (m : Nat) : (setMode s m).tm = s.tm := rfl
@[simp] theorem setMode_byp (s : State) (m : Nat) : (setMode s m).byp = s.byp := rfl
@[simp] theorem setMode_pic (s : State) (m : Nat) : (setMode s m).pic = s.pic := rfl
@[simp] theorem setMode_bob (s : State) (m : Nat) : (setMode s m).bob = s.bob := rfl
@[simp] theorem setMode_mem (s : State) (m : Nat) : (setMode s m).mem = s.mem := rfl
@[simp] theorem setMode_flt (s : State) (m : Nat) : (setMode s m).flt = s.flt := rfl
@[simp] theorem setMode_sec (s : State) (m : Nat) : (setMode s m).sec = s.sec := rfl
@[simp] theorem setMode_host (s : State) (m : Nat) : (setMode s m).host = s.host := rfl
@[simp] theorem setMode_evr (s : State) (m : Nat) : (setMode s m).evr = s.evr := rfl
@[simp] theorem setMode_tel (s : State) (m : Nat) : (setMode s m).tel = s.tel := rfl
@[simp] theorem setMode_test (s : State) (m : Nat) : (setMode s m).test = s.test := rfl

/-! `emit`. -/

@[simp] theorem emit_pending (s : State) (o : Output) : (emit s o).pending = s.pending := rfl
@[simp] theorem emit_regs (s : State) (o : Output) : (emit s o).regs = s.regs := rfl
@[simp] theorem emit_free (s : State) (o : Output) : (emit s o).free = s.free := rfl
@[simp] theorem emit_out (s : State) (o : Output) : (emit s o).out = o :: s.out := rfl
@[simp] theorem emit_tb (s : State) (o : Output) : (emit s o).tb = s.tb := rfl
@[simp] theorem emit_mono (s : State) (o : Output) : (emit s o).mono = s.mono := rfl
@[simp] theorem emit_sys (s : State) (o : Output) : (emit s o).sys = s.sys := rfl
@[simp] theorem emit_nvs (s : State) (o : Output) : (emit s o).nvs = s.nvs := rfl
@[simp] theorem emit_time (s : State) (o : Output) : (emit s o).time = s.time := rfl
@[simp] theorem emit_weave (s : State) (o : Output) : (emit s o).weave = s.weave := rfl
@[simp] theorem emit_lanes (s : State) (o : Output) : (emit s o).lanes = s.lanes := rfl
@[simp] theorem emit_fibres (s : State) (o : Output) : (emit s o).fibres = s.fibres := rfl
@[simp] theorem emit_banks (s : State) (o : Output) : (emit s o).banks = s.banks := rfl
@[simp] theorem emit_ports (s : State) (o : Output) : (emit s o).ports = s.ports := rfl
@[simp] theorem emit_core (s : State) (o : Output) : (emit s o).core = s.core := rfl
@[simp] theorem emit_tbl (s : State) (o : Output) : (emit s o).tbl = s.tbl := rfl
@[simp] theorem emit_tm (s : State) (o : Output) : (emit s o).tm = s.tm := rfl
@[simp] theorem emit_byp (s : State) (o : Output) : (emit s o).byp = s.byp := rfl
@[simp] theorem emit_pic (s : State) (o : Output) : (emit s o).pic = s.pic := rfl
@[simp] theorem emit_bob (s : State) (o : Output) : (emit s o).bob = s.bob := rfl
@[simp] theorem emit_mem (s : State) (o : Output) : (emit s o).mem = s.mem := rfl
@[simp] theorem emit_flt (s : State) (o : Output) : (emit s o).flt = s.flt := rfl
@[simp] theorem emit_sec (s : State) (o : Output) : (emit s o).sec = s.sec := rfl
@[simp] theorem emit_host (s : State) (o : Output) : (emit s o).host = s.host := rfl
@[simp] theorem emit_evr (s : State) (o : Output) : (emit s o).evr = s.evr := rfl
@[simp] theorem emit_tel (s : State) (o : Output) : (emit s o).tel = s.tel := rfl
@[simp] theorem emit_test (s : State) (o : Output) : (emit s o).test = s.test := rfl

/-! `setLane`. -/

@[simp] theorem setLane_pending (s : State) (L : Nat) (f : LaneSt → LaneSt) : (setLane s L f).pending = s.pending := rfl
@[simp] theorem setLane_regs (s : State) (L : Nat) (f : LaneSt → LaneSt) : (setLane s L f).regs = s.regs := rfl
@[simp] theorem setLane_free (s : State) (L : Nat) (f : LaneSt → LaneSt) : (setLane s L f).free = s.free := rfl
@[simp] theorem setLane_out (s : State) (L : Nat) (f : LaneSt → LaneSt) : (setLane s L f).out = s.out := rfl
@[simp] theorem setLane_tb (s : State) (L : Nat) (f : LaneSt → LaneSt) : (setLane s L f).tb = s.tb := rfl
@[simp] theorem setLane_mono (s : State) (L : Nat) (f : LaneSt → LaneSt) : (setLane s L f).mono = s.mono := rfl
@[simp] theorem setLane_sys (s : State) (L : Nat) (f : LaneSt → LaneSt) : (setLane s L f).sys = s.sys := rfl
@[simp] theorem setLane_nvs (s : State) (L : Nat) (f : LaneSt → LaneSt) : (setLane s L f).nvs = s.nvs := rfl
@[simp] theorem setLane_time (s : State) (L : Nat) (f : LaneSt → LaneSt) : (setLane s L f).time = s.time := rfl
@[simp] theorem setLane_weave (s : State) (L : Nat) (f : LaneSt → LaneSt) : (setLane s L f).weave = s.weave := rfl
@[simp] theorem setLane_fibres (s : State) (L : Nat) (f : LaneSt → LaneSt) : (setLane s L f).fibres = s.fibres := rfl
@[simp] theorem setLane_banks (s : State) (L : Nat) (f : LaneSt → LaneSt) : (setLane s L f).banks = s.banks := rfl
@[simp] theorem setLane_ports (s : State) (L : Nat) (f : LaneSt → LaneSt) : (setLane s L f).ports = s.ports := rfl
@[simp] theorem setLane_core (s : State) (L : Nat) (f : LaneSt → LaneSt) : (setLane s L f).core = s.core := rfl
@[simp] theorem setLane_tbl (s : State) (L : Nat) (f : LaneSt → LaneSt) : (setLane s L f).tbl = s.tbl := rfl
@[simp] theorem setLane_tm (s : State) (L : Nat) (f : LaneSt → LaneSt) : (setLane s L f).tm = s.tm := rfl
@[simp] theorem setLane_byp (s : State) (L : Nat) (f : LaneSt → LaneSt) : (setLane s L f).byp = s.byp := rfl
@[simp] theorem setLane_pic (s : State) (L : Nat) (f : LaneSt → LaneSt) : (setLane s L f).pic = s.pic := rfl
@[simp] theorem setLane_bob (s : State) (L : Nat) (f : LaneSt → LaneSt) : (setLane s L f).bob = s.bob := rfl
@[simp] theorem setLane_mem (s : State) (L : Nat) (f : LaneSt → LaneSt) : (setLane s L f).mem = s.mem := rfl
@[simp] theorem setLane_flt (s : State) (L : Nat) (f : LaneSt → LaneSt) : (setLane s L f).flt = s.flt := rfl
@[simp] theorem setLane_sec (s : State) (L : Nat) (f : LaneSt → LaneSt) : (setLane s L f).sec = s.sec := rfl
@[simp] theorem setLane_host (s : State) (L : Nat) (f : LaneSt → LaneSt) : (setLane s L f).host = s.host := rfl
@[simp] theorem setLane_evr (s : State) (L : Nat) (f : LaneSt → LaneSt) : (setLane s L f).evr = s.evr := rfl
@[simp] theorem setLane_tel (s : State) (L : Nat) (f : LaneSt → LaneSt) : (setLane s L f).tel = s.tel := rfl
@[simp] theorem setLane_test (s : State) (L : Nat) (f : LaneSt → LaneSt) : (setLane s L f).test = s.test := rfl

/-! `setFibre`. -/

@[simp] theorem setFibre_pending (s : State) (L : Nat) (f : FibreSt → FibreSt) : (setFibre s L f).pending = s.pending := rfl
@[simp] theorem setFibre_regs (s : State) (L : Nat) (f : FibreSt → FibreSt) : (setFibre s L f).regs = s.regs := rfl
@[simp] theorem setFibre_free (s : State) (L : Nat) (f : FibreSt → FibreSt) : (setFibre s L f).free = s.free := rfl
@[simp] theorem setFibre_out (s : State) (L : Nat) (f : FibreSt → FibreSt) : (setFibre s L f).out = s.out := rfl
@[simp] theorem setFibre_tb (s : State) (L : Nat) (f : FibreSt → FibreSt) : (setFibre s L f).tb = s.tb := rfl
@[simp] theorem setFibre_mono (s : State) (L : Nat) (f : FibreSt → FibreSt) : (setFibre s L f).mono = s.mono := rfl
@[simp] theorem setFibre_sys (s : State) (L : Nat) (f : FibreSt → FibreSt) : (setFibre s L f).sys = s.sys := rfl
@[simp] theorem setFibre_nvs (s : State) (L : Nat) (f : FibreSt → FibreSt) : (setFibre s L f).nvs = s.nvs := rfl
@[simp] theorem setFibre_time (s : State) (L : Nat) (f : FibreSt → FibreSt) : (setFibre s L f).time = s.time := rfl
@[simp] theorem setFibre_weave (s : State) (L : Nat) (f : FibreSt → FibreSt) : (setFibre s L f).weave = s.weave := rfl
@[simp] theorem setFibre_lanes (s : State) (L : Nat) (f : FibreSt → FibreSt) : (setFibre s L f).lanes = s.lanes := rfl
@[simp] theorem setFibre_banks (s : State) (L : Nat) (f : FibreSt → FibreSt) : (setFibre s L f).banks = s.banks := rfl
@[simp] theorem setFibre_ports (s : State) (L : Nat) (f : FibreSt → FibreSt) : (setFibre s L f).ports = s.ports := rfl
@[simp] theorem setFibre_core (s : State) (L : Nat) (f : FibreSt → FibreSt) : (setFibre s L f).core = s.core := rfl
@[simp] theorem setFibre_tbl (s : State) (L : Nat) (f : FibreSt → FibreSt) : (setFibre s L f).tbl = s.tbl := rfl
@[simp] theorem setFibre_tm (s : State) (L : Nat) (f : FibreSt → FibreSt) : (setFibre s L f).tm = s.tm := rfl
@[simp] theorem setFibre_byp (s : State) (L : Nat) (f : FibreSt → FibreSt) : (setFibre s L f).byp = s.byp := rfl
@[simp] theorem setFibre_pic (s : State) (L : Nat) (f : FibreSt → FibreSt) : (setFibre s L f).pic = s.pic := rfl
@[simp] theorem setFibre_bob (s : State) (L : Nat) (f : FibreSt → FibreSt) : (setFibre s L f).bob = s.bob := rfl
@[simp] theorem setFibre_mem (s : State) (L : Nat) (f : FibreSt → FibreSt) : (setFibre s L f).mem = s.mem := rfl
@[simp] theorem setFibre_flt (s : State) (L : Nat) (f : FibreSt → FibreSt) : (setFibre s L f).flt = s.flt := rfl
@[simp] theorem setFibre_sec (s : State) (L : Nat) (f : FibreSt → FibreSt) : (setFibre s L f).sec = s.sec := rfl
@[simp] theorem setFibre_host (s : State) (L : Nat) (f : FibreSt → FibreSt) : (setFibre s L f).host = s.host := rfl
@[simp] theorem setFibre_evr (s : State) (L : Nat) (f : FibreSt → FibreSt) : (setFibre s L f).evr = s.evr := rfl
@[simp] theorem setFibre_tel (s : State) (L : Nat) (f : FibreSt → FibreSt) : (setFibre s L f).tel = s.tel := rfl
@[simp] theorem setFibre_test (s : State) (L : Nat) (f : FibreSt → FibreSt) : (setFibre s L f).test = s.test := rfl

/-! `setBank`. -/

@[simp] theorem setBank_pending (s : State) (L : Nat) (f : BankSt → BankSt) : (setBank s L f).pending = s.pending := rfl
@[simp] theorem setBank_regs (s : State) (L : Nat) (f : BankSt → BankSt) : (setBank s L f).regs = s.regs := rfl
@[simp] theorem setBank_free (s : State) (L : Nat) (f : BankSt → BankSt) : (setBank s L f).free = s.free := rfl
@[simp] theorem setBank_out (s : State) (L : Nat) (f : BankSt → BankSt) : (setBank s L f).out = s.out := rfl
@[simp] theorem setBank_tb (s : State) (L : Nat) (f : BankSt → BankSt) : (setBank s L f).tb = s.tb := rfl
@[simp] theorem setBank_mono (s : State) (L : Nat) (f : BankSt → BankSt) : (setBank s L f).mono = s.mono := rfl
@[simp] theorem setBank_sys (s : State) (L : Nat) (f : BankSt → BankSt) : (setBank s L f).sys = s.sys := rfl
@[simp] theorem setBank_nvs (s : State) (L : Nat) (f : BankSt → BankSt) : (setBank s L f).nvs = s.nvs := rfl
@[simp] theorem setBank_time (s : State) (L : Nat) (f : BankSt → BankSt) : (setBank s L f).time = s.time := rfl
@[simp] theorem setBank_weave (s : State) (L : Nat) (f : BankSt → BankSt) : (setBank s L f).weave = s.weave := rfl
@[simp] theorem setBank_lanes (s : State) (L : Nat) (f : BankSt → BankSt) : (setBank s L f).lanes = s.lanes := rfl
@[simp] theorem setBank_fibres (s : State) (L : Nat) (f : BankSt → BankSt) : (setBank s L f).fibres = s.fibres := rfl
@[simp] theorem setBank_ports (s : State) (L : Nat) (f : BankSt → BankSt) : (setBank s L f).ports = s.ports := rfl
@[simp] theorem setBank_core (s : State) (L : Nat) (f : BankSt → BankSt) : (setBank s L f).core = s.core := rfl
@[simp] theorem setBank_tbl (s : State) (L : Nat) (f : BankSt → BankSt) : (setBank s L f).tbl = s.tbl := rfl
@[simp] theorem setBank_tm (s : State) (L : Nat) (f : BankSt → BankSt) : (setBank s L f).tm = s.tm := rfl
@[simp] theorem setBank_byp (s : State) (L : Nat) (f : BankSt → BankSt) : (setBank s L f).byp = s.byp := rfl
@[simp] theorem setBank_pic (s : State) (L : Nat) (f : BankSt → BankSt) : (setBank s L f).pic = s.pic := rfl
@[simp] theorem setBank_bob (s : State) (L : Nat) (f : BankSt → BankSt) : (setBank s L f).bob = s.bob := rfl
@[simp] theorem setBank_mem (s : State) (L : Nat) (f : BankSt → BankSt) : (setBank s L f).mem = s.mem := rfl
@[simp] theorem setBank_flt (s : State) (L : Nat) (f : BankSt → BankSt) : (setBank s L f).flt = s.flt := rfl
@[simp] theorem setBank_sec (s : State) (L : Nat) (f : BankSt → BankSt) : (setBank s L f).sec = s.sec := rfl
@[simp] theorem setBank_host (s : State) (L : Nat) (f : BankSt → BankSt) : (setBank s L f).host = s.host := rfl
@[simp] theorem setBank_evr (s : State) (L : Nat) (f : BankSt → BankSt) : (setBank s L f).evr = s.evr := rfl
@[simp] theorem setBank_tel (s : State) (L : Nat) (f : BankSt → BankSt) : (setBank s L f).tel = s.tel := rfl
@[simp] theorem setBank_test (s : State) (L : Nat) (f : BankSt → BankSt) : (setBank s L f).test = s.test := rfl

/-! `setPort`. -/

@[simp] theorem setPort_pending (s : State) (L : Nat) (f : PortSt → PortSt) : (setPort s L f).pending = s.pending := rfl
@[simp] theorem setPort_regs (s : State) (L : Nat) (f : PortSt → PortSt) : (setPort s L f).regs = s.regs := rfl
@[simp] theorem setPort_free (s : State) (L : Nat) (f : PortSt → PortSt) : (setPort s L f).free = s.free := rfl
@[simp] theorem setPort_out (s : State) (L : Nat) (f : PortSt → PortSt) : (setPort s L f).out = s.out := rfl
@[simp] theorem setPort_tb (s : State) (L : Nat) (f : PortSt → PortSt) : (setPort s L f).tb = s.tb := rfl
@[simp] theorem setPort_mono (s : State) (L : Nat) (f : PortSt → PortSt) : (setPort s L f).mono = s.mono := rfl
@[simp] theorem setPort_sys (s : State) (L : Nat) (f : PortSt → PortSt) : (setPort s L f).sys = s.sys := rfl
@[simp] theorem setPort_nvs (s : State) (L : Nat) (f : PortSt → PortSt) : (setPort s L f).nvs = s.nvs := rfl
@[simp] theorem setPort_time (s : State) (L : Nat) (f : PortSt → PortSt) : (setPort s L f).time = s.time := rfl
@[simp] theorem setPort_weave (s : State) (L : Nat) (f : PortSt → PortSt) : (setPort s L f).weave = s.weave := rfl
@[simp] theorem setPort_lanes (s : State) (L : Nat) (f : PortSt → PortSt) : (setPort s L f).lanes = s.lanes := rfl
@[simp] theorem setPort_fibres (s : State) (L : Nat) (f : PortSt → PortSt) : (setPort s L f).fibres = s.fibres := rfl
@[simp] theorem setPort_banks (s : State) (L : Nat) (f : PortSt → PortSt) : (setPort s L f).banks = s.banks := rfl
@[simp] theorem setPort_core (s : State) (L : Nat) (f : PortSt → PortSt) : (setPort s L f).core = s.core := rfl
@[simp] theorem setPort_tbl (s : State) (L : Nat) (f : PortSt → PortSt) : (setPort s L f).tbl = s.tbl := rfl
@[simp] theorem setPort_tm (s : State) (L : Nat) (f : PortSt → PortSt) : (setPort s L f).tm = s.tm := rfl
@[simp] theorem setPort_byp (s : State) (L : Nat) (f : PortSt → PortSt) : (setPort s L f).byp = s.byp := rfl
@[simp] theorem setPort_pic (s : State) (L : Nat) (f : PortSt → PortSt) : (setPort s L f).pic = s.pic := rfl
@[simp] theorem setPort_bob (s : State) (L : Nat) (f : PortSt → PortSt) : (setPort s L f).bob = s.bob := rfl
@[simp] theorem setPort_mem (s : State) (L : Nat) (f : PortSt → PortSt) : (setPort s L f).mem = s.mem := rfl
@[simp] theorem setPort_flt (s : State) (L : Nat) (f : PortSt → PortSt) : (setPort s L f).flt = s.flt := rfl
@[simp] theorem setPort_sec (s : State) (L : Nat) (f : PortSt → PortSt) : (setPort s L f).sec = s.sec := rfl
@[simp] theorem setPort_host (s : State) (L : Nat) (f : PortSt → PortSt) : (setPort s L f).host = s.host := rfl
@[simp] theorem setPort_evr (s : State) (L : Nat) (f : PortSt → PortSt) : (setPort s L f).evr = s.evr := rfl
@[simp] theorem setPort_tel (s : State) (L : Nat) (f : PortSt → PortSt) : (setPort s L f).tel = s.tel := rfl
@[simp] theorem setPort_test (s : State) (L : Nat) (f : PortSt → PortSt) : (setPort s L f).test = s.test := rfl

/-! `setCore`. -/

@[simp] theorem setCore_pending (s : State) (f : CoreSt → CoreSt) : (setCore s f).pending = s.pending := rfl
@[simp] theorem setCore_regs (s : State) (f : CoreSt → CoreSt) : (setCore s f).regs = s.regs := rfl
@[simp] theorem setCore_free (s : State) (f : CoreSt → CoreSt) : (setCore s f).free = s.free := rfl
@[simp] theorem setCore_out (s : State) (f : CoreSt → CoreSt) : (setCore s f).out = s.out := rfl
@[simp] theorem setCore_tb (s : State) (f : CoreSt → CoreSt) : (setCore s f).tb = s.tb := rfl
@[simp] theorem setCore_mono (s : State) (f : CoreSt → CoreSt) : (setCore s f).mono = s.mono := rfl
@[simp] theorem setCore_sys (s : State) (f : CoreSt → CoreSt) : (setCore s f).sys = s.sys := rfl
@[simp] theorem setCore_nvs (s : State) (f : CoreSt → CoreSt) : (setCore s f).nvs = s.nvs := rfl
@[simp] theorem setCore_time (s : State) (f : CoreSt → CoreSt) : (setCore s f).time = s.time := rfl
@[simp] theorem setCore_weave (s : State) (f : CoreSt → CoreSt) : (setCore s f).weave = s.weave := rfl
@[simp] theorem setCore_lanes (s : State) (f : CoreSt → CoreSt) : (setCore s f).lanes = s.lanes := rfl
@[simp] theorem setCore_fibres (s : State) (f : CoreSt → CoreSt) : (setCore s f).fibres = s.fibres := rfl
@[simp] theorem setCore_banks (s : State) (f : CoreSt → CoreSt) : (setCore s f).banks = s.banks := rfl
@[simp] theorem setCore_ports (s : State) (f : CoreSt → CoreSt) : (setCore s f).ports = s.ports := rfl
@[simp] theorem setCore_core (s : State) (f : CoreSt → CoreSt) : (setCore s f).core = f s.core := rfl
@[simp] theorem setCore_tbl (s : State) (f : CoreSt → CoreSt) : (setCore s f).tbl = s.tbl := rfl
@[simp] theorem setCore_tm (s : State) (f : CoreSt → CoreSt) : (setCore s f).tm = s.tm := rfl
@[simp] theorem setCore_byp (s : State) (f : CoreSt → CoreSt) : (setCore s f).byp = s.byp := rfl
@[simp] theorem setCore_pic (s : State) (f : CoreSt → CoreSt) : (setCore s f).pic = s.pic := rfl
@[simp] theorem setCore_bob (s : State) (f : CoreSt → CoreSt) : (setCore s f).bob = s.bob := rfl
@[simp] theorem setCore_mem (s : State) (f : CoreSt → CoreSt) : (setCore s f).mem = s.mem := rfl
@[simp] theorem setCore_flt (s : State) (f : CoreSt → CoreSt) : (setCore s f).flt = s.flt := rfl
@[simp] theorem setCore_sec (s : State) (f : CoreSt → CoreSt) : (setCore s f).sec = s.sec := rfl
@[simp] theorem setCore_host (s : State) (f : CoreSt → CoreSt) : (setCore s f).host = s.host := rfl
@[simp] theorem setCore_evr (s : State) (f : CoreSt → CoreSt) : (setCore s f).evr = s.evr := rfl
@[simp] theorem setCore_tel (s : State) (f : CoreSt → CoreSt) : (setCore s f).tel = s.tel := rfl
@[simp] theorem setCore_test (s : State) (f : CoreSt → CoreSt) : (setCore s f).test = s.test := rfl

/-! `setTbl`. -/

@[simp] theorem setTbl_pending (s : State) (f : TblSt → TblSt) : (setTbl s f).pending = s.pending := rfl
@[simp] theorem setTbl_regs (s : State) (f : TblSt → TblSt) : (setTbl s f).regs = s.regs := rfl
@[simp] theorem setTbl_free (s : State) (f : TblSt → TblSt) : (setTbl s f).free = s.free := rfl
@[simp] theorem setTbl_out (s : State) (f : TblSt → TblSt) : (setTbl s f).out = s.out := rfl
@[simp] theorem setTbl_tb (s : State) (f : TblSt → TblSt) : (setTbl s f).tb = s.tb := rfl
@[simp] theorem setTbl_mono (s : State) (f : TblSt → TblSt) : (setTbl s f).mono = s.mono := rfl
@[simp] theorem setTbl_sys (s : State) (f : TblSt → TblSt) : (setTbl s f).sys = s.sys := rfl
@[simp] theorem setTbl_nvs (s : State) (f : TblSt → TblSt) : (setTbl s f).nvs = s.nvs := rfl
@[simp] theorem setTbl_time (s : State) (f : TblSt → TblSt) : (setTbl s f).time = s.time := rfl
@[simp] theorem setTbl_weave (s : State) (f : TblSt → TblSt) : (setTbl s f).weave = s.weave := rfl
@[simp] theorem setTbl_lanes (s : State) (f : TblSt → TblSt) : (setTbl s f).lanes = s.lanes := rfl
@[simp] theorem setTbl_fibres (s : State) (f : TblSt → TblSt) : (setTbl s f).fibres = s.fibres := rfl
@[simp] theorem setTbl_banks (s : State) (f : TblSt → TblSt) : (setTbl s f).banks = s.banks := rfl
@[simp] theorem setTbl_ports (s : State) (f : TblSt → TblSt) : (setTbl s f).ports = s.ports := rfl
@[simp] theorem setTbl_core (s : State) (f : TblSt → TblSt) : (setTbl s f).core = s.core := rfl
@[simp] theorem setTbl_tbl (s : State) (f : TblSt → TblSt) : (setTbl s f).tbl = f s.tbl := rfl
@[simp] theorem setTbl_tm (s : State) (f : TblSt → TblSt) : (setTbl s f).tm = s.tm := rfl
@[simp] theorem setTbl_byp (s : State) (f : TblSt → TblSt) : (setTbl s f).byp = s.byp := rfl
@[simp] theorem setTbl_pic (s : State) (f : TblSt → TblSt) : (setTbl s f).pic = s.pic := rfl
@[simp] theorem setTbl_bob (s : State) (f : TblSt → TblSt) : (setTbl s f).bob = s.bob := rfl
@[simp] theorem setTbl_mem (s : State) (f : TblSt → TblSt) : (setTbl s f).mem = s.mem := rfl
@[simp] theorem setTbl_flt (s : State) (f : TblSt → TblSt) : (setTbl s f).flt = s.flt := rfl
@[simp] theorem setTbl_sec (s : State) (f : TblSt → TblSt) : (setTbl s f).sec = s.sec := rfl
@[simp] theorem setTbl_host (s : State) (f : TblSt → TblSt) : (setTbl s f).host = s.host := rfl
@[simp] theorem setTbl_evr (s : State) (f : TblSt → TblSt) : (setTbl s f).evr = s.evr := rfl
@[simp] theorem setTbl_tel (s : State) (f : TblSt → TblSt) : (setTbl s f).tel = s.tel := rfl
@[simp] theorem setTbl_test (s : State) (f : TblSt → TblSt) : (setTbl s f).test = s.test := rfl

/-! `setTm`. -/

@[simp] theorem setTm_pending (s : State) (f : TmSt → TmSt) : (setTm s f).pending = s.pending := rfl
@[simp] theorem setTm_regs (s : State) (f : TmSt → TmSt) : (setTm s f).regs = s.regs := rfl
@[simp] theorem setTm_free (s : State) (f : TmSt → TmSt) : (setTm s f).free = s.free := rfl
@[simp] theorem setTm_out (s : State) (f : TmSt → TmSt) : (setTm s f).out = s.out := rfl
@[simp] theorem setTm_tb (s : State) (f : TmSt → TmSt) : (setTm s f).tb = s.tb := rfl
@[simp] theorem setTm_mono (s : State) (f : TmSt → TmSt) : (setTm s f).mono = s.mono := rfl
@[simp] theorem setTm_sys (s : State) (f : TmSt → TmSt) : (setTm s f).sys = s.sys := rfl
@[simp] theorem setTm_nvs (s : State) (f : TmSt → TmSt) : (setTm s f).nvs = s.nvs := rfl
@[simp] theorem setTm_time (s : State) (f : TmSt → TmSt) : (setTm s f).time = s.time := rfl
@[simp] theorem setTm_weave (s : State) (f : TmSt → TmSt) : (setTm s f).weave = s.weave := rfl
@[simp] theorem setTm_lanes (s : State) (f : TmSt → TmSt) : (setTm s f).lanes = s.lanes := rfl
@[simp] theorem setTm_fibres (s : State) (f : TmSt → TmSt) : (setTm s f).fibres = s.fibres := rfl
@[simp] theorem setTm_banks (s : State) (f : TmSt → TmSt) : (setTm s f).banks = s.banks := rfl
@[simp] theorem setTm_ports (s : State) (f : TmSt → TmSt) : (setTm s f).ports = s.ports := rfl
@[simp] theorem setTm_core (s : State) (f : TmSt → TmSt) : (setTm s f).core = s.core := rfl
@[simp] theorem setTm_tbl (s : State) (f : TmSt → TmSt) : (setTm s f).tbl = s.tbl := rfl
@[simp] theorem setTm_tm (s : State) (f : TmSt → TmSt) : (setTm s f).tm = f s.tm := rfl
@[simp] theorem setTm_byp (s : State) (f : TmSt → TmSt) : (setTm s f).byp = s.byp := rfl
@[simp] theorem setTm_pic (s : State) (f : TmSt → TmSt) : (setTm s f).pic = s.pic := rfl
@[simp] theorem setTm_bob (s : State) (f : TmSt → TmSt) : (setTm s f).bob = s.bob := rfl
@[simp] theorem setTm_mem (s : State) (f : TmSt → TmSt) : (setTm s f).mem = s.mem := rfl
@[simp] theorem setTm_flt (s : State) (f : TmSt → TmSt) : (setTm s f).flt = s.flt := rfl
@[simp] theorem setTm_sec (s : State) (f : TmSt → TmSt) : (setTm s f).sec = s.sec := rfl
@[simp] theorem setTm_host (s : State) (f : TmSt → TmSt) : (setTm s f).host = s.host := rfl
@[simp] theorem setTm_evr (s : State) (f : TmSt → TmSt) : (setTm s f).evr = s.evr := rfl
@[simp] theorem setTm_tel (s : State) (f : TmSt → TmSt) : (setTm s f).tel = s.tel := rfl
@[simp] theorem setTm_test (s : State) (f : TmSt → TmSt) : (setTm s f).test = s.test := rfl

/-! `setByp`. -/

@[simp] theorem setByp_pending (s : State) (f : BypSt → BypSt) : (setByp s f).pending = s.pending := rfl
@[simp] theorem setByp_regs (s : State) (f : BypSt → BypSt) : (setByp s f).regs = s.regs := rfl
@[simp] theorem setByp_free (s : State) (f : BypSt → BypSt) : (setByp s f).free = s.free := rfl
@[simp] theorem setByp_out (s : State) (f : BypSt → BypSt) : (setByp s f).out = s.out := rfl
@[simp] theorem setByp_tb (s : State) (f : BypSt → BypSt) : (setByp s f).tb = s.tb := rfl
@[simp] theorem setByp_mono (s : State) (f : BypSt → BypSt) : (setByp s f).mono = s.mono := rfl
@[simp] theorem setByp_sys (s : State) (f : BypSt → BypSt) : (setByp s f).sys = s.sys := rfl
@[simp] theorem setByp_nvs (s : State) (f : BypSt → BypSt) : (setByp s f).nvs = s.nvs := rfl
@[simp] theorem setByp_time (s : State) (f : BypSt → BypSt) : (setByp s f).time = s.time := rfl
@[simp] theorem setByp_weave (s : State) (f : BypSt → BypSt) : (setByp s f).weave = s.weave := rfl
@[simp] theorem setByp_lanes (s : State) (f : BypSt → BypSt) : (setByp s f).lanes = s.lanes := rfl
@[simp] theorem setByp_fibres (s : State) (f : BypSt → BypSt) : (setByp s f).fibres = s.fibres := rfl
@[simp] theorem setByp_banks (s : State) (f : BypSt → BypSt) : (setByp s f).banks = s.banks := rfl
@[simp] theorem setByp_ports (s : State) (f : BypSt → BypSt) : (setByp s f).ports = s.ports := rfl
@[simp] theorem setByp_core (s : State) (f : BypSt → BypSt) : (setByp s f).core = s.core := rfl
@[simp] theorem setByp_tbl (s : State) (f : BypSt → BypSt) : (setByp s f).tbl = s.tbl := rfl
@[simp] theorem setByp_tm (s : State) (f : BypSt → BypSt) : (setByp s f).tm = s.tm := rfl
@[simp] theorem setByp_byp (s : State) (f : BypSt → BypSt) : (setByp s f).byp = f s.byp := rfl
@[simp] theorem setByp_pic (s : State) (f : BypSt → BypSt) : (setByp s f).pic = s.pic := rfl
@[simp] theorem setByp_bob (s : State) (f : BypSt → BypSt) : (setByp s f).bob = s.bob := rfl
@[simp] theorem setByp_mem (s : State) (f : BypSt → BypSt) : (setByp s f).mem = s.mem := rfl
@[simp] theorem setByp_flt (s : State) (f : BypSt → BypSt) : (setByp s f).flt = s.flt := rfl
@[simp] theorem setByp_sec (s : State) (f : BypSt → BypSt) : (setByp s f).sec = s.sec := rfl
@[simp] theorem setByp_host (s : State) (f : BypSt → BypSt) : (setByp s f).host = s.host := rfl
@[simp] theorem setByp_evr (s : State) (f : BypSt → BypSt) : (setByp s f).evr = s.evr := rfl
@[simp] theorem setByp_tel (s : State) (f : BypSt → BypSt) : (setByp s f).tel = s.tel := rfl
@[simp] theorem setByp_test (s : State) (f : BypSt → BypSt) : (setByp s f).test = s.test := rfl

/-! `setPic`. -/

@[simp] theorem setPic_pending (s : State) (f : PicSt → PicSt) : (setPic s f).pending = s.pending := rfl
@[simp] theorem setPic_regs (s : State) (f : PicSt → PicSt) : (setPic s f).regs = s.regs := rfl
@[simp] theorem setPic_free (s : State) (f : PicSt → PicSt) : (setPic s f).free = s.free := rfl
@[simp] theorem setPic_out (s : State) (f : PicSt → PicSt) : (setPic s f).out = s.out := rfl
@[simp] theorem setPic_tb (s : State) (f : PicSt → PicSt) : (setPic s f).tb = s.tb := rfl
@[simp] theorem setPic_mono (s : State) (f : PicSt → PicSt) : (setPic s f).mono = s.mono := rfl
@[simp] theorem setPic_sys (s : State) (f : PicSt → PicSt) : (setPic s f).sys = s.sys := rfl
@[simp] theorem setPic_nvs (s : State) (f : PicSt → PicSt) : (setPic s f).nvs = s.nvs := rfl
@[simp] theorem setPic_time (s : State) (f : PicSt → PicSt) : (setPic s f).time = s.time := rfl
@[simp] theorem setPic_weave (s : State) (f : PicSt → PicSt) : (setPic s f).weave = s.weave := rfl
@[simp] theorem setPic_lanes (s : State) (f : PicSt → PicSt) : (setPic s f).lanes = s.lanes := rfl
@[simp] theorem setPic_fibres (s : State) (f : PicSt → PicSt) : (setPic s f).fibres = s.fibres := rfl
@[simp] theorem setPic_banks (s : State) (f : PicSt → PicSt) : (setPic s f).banks = s.banks := rfl
@[simp] theorem setPic_ports (s : State) (f : PicSt → PicSt) : (setPic s f).ports = s.ports := rfl
@[simp] theorem setPic_core (s : State) (f : PicSt → PicSt) : (setPic s f).core = s.core := rfl
@[simp] theorem setPic_tbl (s : State) (f : PicSt → PicSt) : (setPic s f).tbl = s.tbl := rfl
@[simp] theorem setPic_tm (s : State) (f : PicSt → PicSt) : (setPic s f).tm = s.tm := rfl
@[simp] theorem setPic_byp (s : State) (f : PicSt → PicSt) : (setPic s f).byp = s.byp := rfl
@[simp] theorem setPic_pic (s : State) (f : PicSt → PicSt) : (setPic s f).pic = f s.pic := rfl
@[simp] theorem setPic_bob (s : State) (f : PicSt → PicSt) : (setPic s f).bob = s.bob := rfl
@[simp] theorem setPic_mem (s : State) (f : PicSt → PicSt) : (setPic s f).mem = s.mem := rfl
@[simp] theorem setPic_flt (s : State) (f : PicSt → PicSt) : (setPic s f).flt = s.flt := rfl
@[simp] theorem setPic_sec (s : State) (f : PicSt → PicSt) : (setPic s f).sec = s.sec := rfl
@[simp] theorem setPic_host (s : State) (f : PicSt → PicSt) : (setPic s f).host = s.host := rfl
@[simp] theorem setPic_evr (s : State) (f : PicSt → PicSt) : (setPic s f).evr = s.evr := rfl
@[simp] theorem setPic_tel (s : State) (f : PicSt → PicSt) : (setPic s f).tel = s.tel := rfl
@[simp] theorem setPic_test (s : State) (f : PicSt → PicSt) : (setPic s f).test = s.test := rfl

/-! `setBob`. -/

@[simp] theorem setBob_pending (s : State) (f : BobSt → BobSt) : (setBob s f).pending = s.pending := rfl
@[simp] theorem setBob_regs (s : State) (f : BobSt → BobSt) : (setBob s f).regs = s.regs := rfl
@[simp] theorem setBob_free (s : State) (f : BobSt → BobSt) : (setBob s f).free = s.free := rfl
@[simp] theorem setBob_out (s : State) (f : BobSt → BobSt) : (setBob s f).out = s.out := rfl
@[simp] theorem setBob_tb (s : State) (f : BobSt → BobSt) : (setBob s f).tb = s.tb := rfl
@[simp] theorem setBob_mono (s : State) (f : BobSt → BobSt) : (setBob s f).mono = s.mono := rfl
@[simp] theorem setBob_sys (s : State) (f : BobSt → BobSt) : (setBob s f).sys = s.sys := rfl
@[simp] theorem setBob_nvs (s : State) (f : BobSt → BobSt) : (setBob s f).nvs = s.nvs := rfl
@[simp] theorem setBob_time (s : State) (f : BobSt → BobSt) : (setBob s f).time = s.time := rfl
@[simp] theorem setBob_weave (s : State) (f : BobSt → BobSt) : (setBob s f).weave = s.weave := rfl
@[simp] theorem setBob_lanes (s : State) (f : BobSt → BobSt) : (setBob s f).lanes = s.lanes := rfl
@[simp] theorem setBob_fibres (s : State) (f : BobSt → BobSt) : (setBob s f).fibres = s.fibres := rfl
@[simp] theorem setBob_banks (s : State) (f : BobSt → BobSt) : (setBob s f).banks = s.banks := rfl
@[simp] theorem setBob_ports (s : State) (f : BobSt → BobSt) : (setBob s f).ports = s.ports := rfl
@[simp] theorem setBob_core (s : State) (f : BobSt → BobSt) : (setBob s f).core = s.core := rfl
@[simp] theorem setBob_tbl (s : State) (f : BobSt → BobSt) : (setBob s f).tbl = s.tbl := rfl
@[simp] theorem setBob_tm (s : State) (f : BobSt → BobSt) : (setBob s f).tm = s.tm := rfl
@[simp] theorem setBob_byp (s : State) (f : BobSt → BobSt) : (setBob s f).byp = s.byp := rfl
@[simp] theorem setBob_pic (s : State) (f : BobSt → BobSt) : (setBob s f).pic = s.pic := rfl
@[simp] theorem setBob_bob (s : State) (f : BobSt → BobSt) : (setBob s f).bob = f s.bob := rfl
@[simp] theorem setBob_mem (s : State) (f : BobSt → BobSt) : (setBob s f).mem = s.mem := rfl
@[simp] theorem setBob_flt (s : State) (f : BobSt → BobSt) : (setBob s f).flt = s.flt := rfl
@[simp] theorem setBob_sec (s : State) (f : BobSt → BobSt) : (setBob s f).sec = s.sec := rfl
@[simp] theorem setBob_host (s : State) (f : BobSt → BobSt) : (setBob s f).host = s.host := rfl
@[simp] theorem setBob_evr (s : State) (f : BobSt → BobSt) : (setBob s f).evr = s.evr := rfl
@[simp] theorem setBob_tel (s : State) (f : BobSt → BobSt) : (setBob s f).tel = s.tel := rfl
@[simp] theorem setBob_test (s : State) (f : BobSt → BobSt) : (setBob s f).test = s.test := rfl

/-! `setMem`. -/

@[simp] theorem setMem_pending (s : State) (f : MemSt → MemSt) : (setMem s f).pending = s.pending := rfl
@[simp] theorem setMem_regs (s : State) (f : MemSt → MemSt) : (setMem s f).regs = s.regs := rfl
@[simp] theorem setMem_free (s : State) (f : MemSt → MemSt) : (setMem s f).free = s.free := rfl
@[simp] theorem setMem_out (s : State) (f : MemSt → MemSt) : (setMem s f).out = s.out := rfl
@[simp] theorem setMem_tb (s : State) (f : MemSt → MemSt) : (setMem s f).tb = s.tb := rfl
@[simp] theorem setMem_mono (s : State) (f : MemSt → MemSt) : (setMem s f).mono = s.mono := rfl
@[simp] theorem setMem_sys (s : State) (f : MemSt → MemSt) : (setMem s f).sys = s.sys := rfl
@[simp] theorem setMem_nvs (s : State) (f : MemSt → MemSt) : (setMem s f).nvs = s.nvs := rfl
@[simp] theorem setMem_time (s : State) (f : MemSt → MemSt) : (setMem s f).time = s.time := rfl
@[simp] theorem setMem_weave (s : State) (f : MemSt → MemSt) : (setMem s f).weave = s.weave := rfl
@[simp] theorem setMem_lanes (s : State) (f : MemSt → MemSt) : (setMem s f).lanes = s.lanes := rfl
@[simp] theorem setMem_fibres (s : State) (f : MemSt → MemSt) : (setMem s f).fibres = s.fibres := rfl
@[simp] theorem setMem_banks (s : State) (f : MemSt → MemSt) : (setMem s f).banks = s.banks := rfl
@[simp] theorem setMem_ports (s : State) (f : MemSt → MemSt) : (setMem s f).ports = s.ports := rfl
@[simp] theorem setMem_core (s : State) (f : MemSt → MemSt) : (setMem s f).core = s.core := rfl
@[simp] theorem setMem_tbl (s : State) (f : MemSt → MemSt) : (setMem s f).tbl = s.tbl := rfl
@[simp] theorem setMem_tm (s : State) (f : MemSt → MemSt) : (setMem s f).tm = s.tm := rfl
@[simp] theorem setMem_byp (s : State) (f : MemSt → MemSt) : (setMem s f).byp = s.byp := rfl
@[simp] theorem setMem_pic (s : State) (f : MemSt → MemSt) : (setMem s f).pic = s.pic := rfl
@[simp] theorem setMem_bob (s : State) (f : MemSt → MemSt) : (setMem s f).bob = s.bob := rfl
@[simp] theorem setMem_mem (s : State) (f : MemSt → MemSt) : (setMem s f).mem = f s.mem := rfl
@[simp] theorem setMem_flt (s : State) (f : MemSt → MemSt) : (setMem s f).flt = s.flt := rfl
@[simp] theorem setMem_sec (s : State) (f : MemSt → MemSt) : (setMem s f).sec = s.sec := rfl
@[simp] theorem setMem_host (s : State) (f : MemSt → MemSt) : (setMem s f).host = s.host := rfl
@[simp] theorem setMem_evr (s : State) (f : MemSt → MemSt) : (setMem s f).evr = s.evr := rfl
@[simp] theorem setMem_tel (s : State) (f : MemSt → MemSt) : (setMem s f).tel = s.tel := rfl
@[simp] theorem setMem_test (s : State) (f : MemSt → MemSt) : (setMem s f).test = s.test := rfl

/-! `setFlt`. -/

@[simp] theorem setFlt_pending (s : State) (f : FltSt → FltSt) : (setFlt s f).pending = s.pending := rfl
@[simp] theorem setFlt_regs (s : State) (f : FltSt → FltSt) : (setFlt s f).regs = s.regs := rfl
@[simp] theorem setFlt_free (s : State) (f : FltSt → FltSt) : (setFlt s f).free = s.free := rfl
@[simp] theorem setFlt_out (s : State) (f : FltSt → FltSt) : (setFlt s f).out = s.out := rfl
@[simp] theorem setFlt_tb (s : State) (f : FltSt → FltSt) : (setFlt s f).tb = s.tb := rfl
@[simp] theorem setFlt_mono (s : State) (f : FltSt → FltSt) : (setFlt s f).mono = s.mono := rfl
@[simp] theorem setFlt_sys (s : State) (f : FltSt → FltSt) : (setFlt s f).sys = s.sys := rfl
@[simp] theorem setFlt_nvs (s : State) (f : FltSt → FltSt) : (setFlt s f).nvs = s.nvs := rfl
@[simp] theorem setFlt_time (s : State) (f : FltSt → FltSt) : (setFlt s f).time = s.time := rfl
@[simp] theorem setFlt_weave (s : State) (f : FltSt → FltSt) : (setFlt s f).weave = s.weave := rfl
@[simp] theorem setFlt_lanes (s : State) (f : FltSt → FltSt) : (setFlt s f).lanes = s.lanes := rfl
@[simp] theorem setFlt_fibres (s : State) (f : FltSt → FltSt) : (setFlt s f).fibres = s.fibres := rfl
@[simp] theorem setFlt_banks (s : State) (f : FltSt → FltSt) : (setFlt s f).banks = s.banks := rfl
@[simp] theorem setFlt_ports (s : State) (f : FltSt → FltSt) : (setFlt s f).ports = s.ports := rfl
@[simp] theorem setFlt_core (s : State) (f : FltSt → FltSt) : (setFlt s f).core = s.core := rfl
@[simp] theorem setFlt_tbl (s : State) (f : FltSt → FltSt) : (setFlt s f).tbl = s.tbl := rfl
@[simp] theorem setFlt_tm (s : State) (f : FltSt → FltSt) : (setFlt s f).tm = s.tm := rfl
@[simp] theorem setFlt_byp (s : State) (f : FltSt → FltSt) : (setFlt s f).byp = s.byp := rfl
@[simp] theorem setFlt_pic (s : State) (f : FltSt → FltSt) : (setFlt s f).pic = s.pic := rfl
@[simp] theorem setFlt_bob (s : State) (f : FltSt → FltSt) : (setFlt s f).bob = s.bob := rfl
@[simp] theorem setFlt_mem (s : State) (f : FltSt → FltSt) : (setFlt s f).mem = s.mem := rfl
@[simp] theorem setFlt_flt (s : State) (f : FltSt → FltSt) : (setFlt s f).flt = f s.flt := rfl
@[simp] theorem setFlt_sec (s : State) (f : FltSt → FltSt) : (setFlt s f).sec = s.sec := rfl
@[simp] theorem setFlt_host (s : State) (f : FltSt → FltSt) : (setFlt s f).host = s.host := rfl
@[simp] theorem setFlt_evr (s : State) (f : FltSt → FltSt) : (setFlt s f).evr = s.evr := rfl
@[simp] theorem setFlt_tel (s : State) (f : FltSt → FltSt) : (setFlt s f).tel = s.tel := rfl
@[simp] theorem setFlt_test (s : State) (f : FltSt → FltSt) : (setFlt s f).test = s.test := rfl

/-! `setSec`. -/

@[simp] theorem setSec_pending (s : State) (f : SecSt → SecSt) : (setSec s f).pending = s.pending := rfl
@[simp] theorem setSec_regs (s : State) (f : SecSt → SecSt) : (setSec s f).regs = s.regs := rfl
@[simp] theorem setSec_free (s : State) (f : SecSt → SecSt) : (setSec s f).free = s.free := rfl
@[simp] theorem setSec_out (s : State) (f : SecSt → SecSt) : (setSec s f).out = s.out := rfl
@[simp] theorem setSec_tb (s : State) (f : SecSt → SecSt) : (setSec s f).tb = s.tb := rfl
@[simp] theorem setSec_mono (s : State) (f : SecSt → SecSt) : (setSec s f).mono = s.mono := rfl
@[simp] theorem setSec_sys (s : State) (f : SecSt → SecSt) : (setSec s f).sys = s.sys := rfl
@[simp] theorem setSec_nvs (s : State) (f : SecSt → SecSt) : (setSec s f).nvs = s.nvs := rfl
@[simp] theorem setSec_time (s : State) (f : SecSt → SecSt) : (setSec s f).time = s.time := rfl
@[simp] theorem setSec_weave (s : State) (f : SecSt → SecSt) : (setSec s f).weave = s.weave := rfl
@[simp] theorem setSec_lanes (s : State) (f : SecSt → SecSt) : (setSec s f).lanes = s.lanes := rfl
@[simp] theorem setSec_fibres (s : State) (f : SecSt → SecSt) : (setSec s f).fibres = s.fibres := rfl
@[simp] theorem setSec_banks (s : State) (f : SecSt → SecSt) : (setSec s f).banks = s.banks := rfl
@[simp] theorem setSec_ports (s : State) (f : SecSt → SecSt) : (setSec s f).ports = s.ports := rfl
@[simp] theorem setSec_core (s : State) (f : SecSt → SecSt) : (setSec s f).core = s.core := rfl
@[simp] theorem setSec_tbl (s : State) (f : SecSt → SecSt) : (setSec s f).tbl = s.tbl := rfl
@[simp] theorem setSec_tm (s : State) (f : SecSt → SecSt) : (setSec s f).tm = s.tm := rfl
@[simp] theorem setSec_byp (s : State) (f : SecSt → SecSt) : (setSec s f).byp = s.byp := rfl
@[simp] theorem setSec_pic (s : State) (f : SecSt → SecSt) : (setSec s f).pic = s.pic := rfl
@[simp] theorem setSec_bob (s : State) (f : SecSt → SecSt) : (setSec s f).bob = s.bob := rfl
@[simp] theorem setSec_mem (s : State) (f : SecSt → SecSt) : (setSec s f).mem = s.mem := rfl
@[simp] theorem setSec_flt (s : State) (f : SecSt → SecSt) : (setSec s f).flt = s.flt := rfl
@[simp] theorem setSec_sec (s : State) (f : SecSt → SecSt) : (setSec s f).sec = f s.sec := rfl
@[simp] theorem setSec_host (s : State) (f : SecSt → SecSt) : (setSec s f).host = s.host := rfl
@[simp] theorem setSec_evr (s : State) (f : SecSt → SecSt) : (setSec s f).evr = s.evr := rfl
@[simp] theorem setSec_tel (s : State) (f : SecSt → SecSt) : (setSec s f).tel = s.tel := rfl
@[simp] theorem setSec_test (s : State) (f : SecSt → SecSt) : (setSec s f).test = s.test := rfl

/-! `setHost`. -/

@[simp] theorem setHost_pending (s : State) (f : HostSt → HostSt) : (setHost s f).pending = s.pending := rfl
@[simp] theorem setHost_regs (s : State) (f : HostSt → HostSt) : (setHost s f).regs = s.regs := rfl
@[simp] theorem setHost_free (s : State) (f : HostSt → HostSt) : (setHost s f).free = s.free := rfl
@[simp] theorem setHost_out (s : State) (f : HostSt → HostSt) : (setHost s f).out = s.out := rfl
@[simp] theorem setHost_tb (s : State) (f : HostSt → HostSt) : (setHost s f).tb = s.tb := rfl
@[simp] theorem setHost_mono (s : State) (f : HostSt → HostSt) : (setHost s f).mono = s.mono := rfl
@[simp] theorem setHost_sys (s : State) (f : HostSt → HostSt) : (setHost s f).sys = s.sys := rfl
@[simp] theorem setHost_nvs (s : State) (f : HostSt → HostSt) : (setHost s f).nvs = s.nvs := rfl
@[simp] theorem setHost_time (s : State) (f : HostSt → HostSt) : (setHost s f).time = s.time := rfl
@[simp] theorem setHost_weave (s : State) (f : HostSt → HostSt) : (setHost s f).weave = s.weave := rfl
@[simp] theorem setHost_lanes (s : State) (f : HostSt → HostSt) : (setHost s f).lanes = s.lanes := rfl
@[simp] theorem setHost_fibres (s : State) (f : HostSt → HostSt) : (setHost s f).fibres = s.fibres := rfl
@[simp] theorem setHost_banks (s : State) (f : HostSt → HostSt) : (setHost s f).banks = s.banks := rfl
@[simp] theorem setHost_ports (s : State) (f : HostSt → HostSt) : (setHost s f).ports = s.ports := rfl
@[simp] theorem setHost_core (s : State) (f : HostSt → HostSt) : (setHost s f).core = s.core := rfl
@[simp] theorem setHost_tbl (s : State) (f : HostSt → HostSt) : (setHost s f).tbl = s.tbl := rfl
@[simp] theorem setHost_tm (s : State) (f : HostSt → HostSt) : (setHost s f).tm = s.tm := rfl
@[simp] theorem setHost_byp (s : State) (f : HostSt → HostSt) : (setHost s f).byp = s.byp := rfl
@[simp] theorem setHost_pic (s : State) (f : HostSt → HostSt) : (setHost s f).pic = s.pic := rfl
@[simp] theorem setHost_bob (s : State) (f : HostSt → HostSt) : (setHost s f).bob = s.bob := rfl
@[simp] theorem setHost_mem (s : State) (f : HostSt → HostSt) : (setHost s f).mem = s.mem := rfl
@[simp] theorem setHost_flt (s : State) (f : HostSt → HostSt) : (setHost s f).flt = s.flt := rfl
@[simp] theorem setHost_sec (s : State) (f : HostSt → HostSt) : (setHost s f).sec = s.sec := rfl
@[simp] theorem setHost_host (s : State) (f : HostSt → HostSt) : (setHost s f).host = f s.host := rfl
@[simp] theorem setHost_evr (s : State) (f : HostSt → HostSt) : (setHost s f).evr = s.evr := rfl
@[simp] theorem setHost_tel (s : State) (f : HostSt → HostSt) : (setHost s f).tel = s.tel := rfl
@[simp] theorem setHost_test (s : State) (f : HostSt → HostSt) : (setHost s f).test = s.test := rfl

/-! `setEvr`. -/

@[simp] theorem setEvr_pending (s : State) (f : EvrSt → EvrSt) : (setEvr s f).pending = s.pending := rfl
@[simp] theorem setEvr_regs (s : State) (f : EvrSt → EvrSt) : (setEvr s f).regs = s.regs := rfl
@[simp] theorem setEvr_free (s : State) (f : EvrSt → EvrSt) : (setEvr s f).free = s.free := rfl
@[simp] theorem setEvr_out (s : State) (f : EvrSt → EvrSt) : (setEvr s f).out = s.out := rfl
@[simp] theorem setEvr_tb (s : State) (f : EvrSt → EvrSt) : (setEvr s f).tb = s.tb := rfl
@[simp] theorem setEvr_mono (s : State) (f : EvrSt → EvrSt) : (setEvr s f).mono = s.mono := rfl
@[simp] theorem setEvr_sys (s : State) (f : EvrSt → EvrSt) : (setEvr s f).sys = s.sys := rfl
@[simp] theorem setEvr_nvs (s : State) (f : EvrSt → EvrSt) : (setEvr s f).nvs = s.nvs := rfl
@[simp] theorem setEvr_time (s : State) (f : EvrSt → EvrSt) : (setEvr s f).time = s.time := rfl
@[simp] theorem setEvr_weave (s : State) (f : EvrSt → EvrSt) : (setEvr s f).weave = s.weave := rfl
@[simp] theorem setEvr_lanes (s : State) (f : EvrSt → EvrSt) : (setEvr s f).lanes = s.lanes := rfl
@[simp] theorem setEvr_fibres (s : State) (f : EvrSt → EvrSt) : (setEvr s f).fibres = s.fibres := rfl
@[simp] theorem setEvr_banks (s : State) (f : EvrSt → EvrSt) : (setEvr s f).banks = s.banks := rfl
@[simp] theorem setEvr_ports (s : State) (f : EvrSt → EvrSt) : (setEvr s f).ports = s.ports := rfl
@[simp] theorem setEvr_core (s : State) (f : EvrSt → EvrSt) : (setEvr s f).core = s.core := rfl
@[simp] theorem setEvr_tbl (s : State) (f : EvrSt → EvrSt) : (setEvr s f).tbl = s.tbl := rfl
@[simp] theorem setEvr_tm (s : State) (f : EvrSt → EvrSt) : (setEvr s f).tm = s.tm := rfl
@[simp] theorem setEvr_byp (s : State) (f : EvrSt → EvrSt) : (setEvr s f).byp = s.byp := rfl
@[simp] theorem setEvr_pic (s : State) (f : EvrSt → EvrSt) : (setEvr s f).pic = s.pic := rfl
@[simp] theorem setEvr_bob (s : State) (f : EvrSt → EvrSt) : (setEvr s f).bob = s.bob := rfl
@[simp] theorem setEvr_mem (s : State) (f : EvrSt → EvrSt) : (setEvr s f).mem = s.mem := rfl
@[simp] theorem setEvr_flt (s : State) (f : EvrSt → EvrSt) : (setEvr s f).flt = s.flt := rfl
@[simp] theorem setEvr_sec (s : State) (f : EvrSt → EvrSt) : (setEvr s f).sec = s.sec := rfl
@[simp] theorem setEvr_host (s : State) (f : EvrSt → EvrSt) : (setEvr s f).host = s.host := rfl
@[simp] theorem setEvr_evr (s : State) (f : EvrSt → EvrSt) : (setEvr s f).evr = f s.evr := rfl
@[simp] theorem setEvr_tel (s : State) (f : EvrSt → EvrSt) : (setEvr s f).tel = s.tel := rfl
@[simp] theorem setEvr_test (s : State) (f : EvrSt → EvrSt) : (setEvr s f).test = s.test := rfl

/-! `setTel`. -/

@[simp] theorem setTel_pending (s : State) (f : TelSt → TelSt) : (setTel s f).pending = s.pending := rfl
@[simp] theorem setTel_regs (s : State) (f : TelSt → TelSt) : (setTel s f).regs = s.regs := rfl
@[simp] theorem setTel_free (s : State) (f : TelSt → TelSt) : (setTel s f).free = s.free := rfl
@[simp] theorem setTel_out (s : State) (f : TelSt → TelSt) : (setTel s f).out = s.out := rfl
@[simp] theorem setTel_tb (s : State) (f : TelSt → TelSt) : (setTel s f).tb = s.tb := rfl
@[simp] theorem setTel_mono (s : State) (f : TelSt → TelSt) : (setTel s f).mono = s.mono := rfl
@[simp] theorem setTel_sys (s : State) (f : TelSt → TelSt) : (setTel s f).sys = s.sys := rfl
@[simp] theorem setTel_nvs (s : State) (f : TelSt → TelSt) : (setTel s f).nvs = s.nvs := rfl
@[simp] theorem setTel_time (s : State) (f : TelSt → TelSt) : (setTel s f).time = s.time := rfl
@[simp] theorem setTel_weave (s : State) (f : TelSt → TelSt) : (setTel s f).weave = s.weave := rfl
@[simp] theorem setTel_lanes (s : State) (f : TelSt → TelSt) : (setTel s f).lanes = s.lanes := rfl
@[simp] theorem setTel_fibres (s : State) (f : TelSt → TelSt) : (setTel s f).fibres = s.fibres := rfl
@[simp] theorem setTel_banks (s : State) (f : TelSt → TelSt) : (setTel s f).banks = s.banks := rfl
@[simp] theorem setTel_ports (s : State) (f : TelSt → TelSt) : (setTel s f).ports = s.ports := rfl
@[simp] theorem setTel_core (s : State) (f : TelSt → TelSt) : (setTel s f).core = s.core := rfl
@[simp] theorem setTel_tbl (s : State) (f : TelSt → TelSt) : (setTel s f).tbl = s.tbl := rfl
@[simp] theorem setTel_tm (s : State) (f : TelSt → TelSt) : (setTel s f).tm = s.tm := rfl
@[simp] theorem setTel_byp (s : State) (f : TelSt → TelSt) : (setTel s f).byp = s.byp := rfl
@[simp] theorem setTel_pic (s : State) (f : TelSt → TelSt) : (setTel s f).pic = s.pic := rfl
@[simp] theorem setTel_bob (s : State) (f : TelSt → TelSt) : (setTel s f).bob = s.bob := rfl
@[simp] theorem setTel_mem (s : State) (f : TelSt → TelSt) : (setTel s f).mem = s.mem := rfl
@[simp] theorem setTel_flt (s : State) (f : TelSt → TelSt) : (setTel s f).flt = s.flt := rfl
@[simp] theorem setTel_sec (s : State) (f : TelSt → TelSt) : (setTel s f).sec = s.sec := rfl
@[simp] theorem setTel_host (s : State) (f : TelSt → TelSt) : (setTel s f).host = s.host := rfl
@[simp] theorem setTel_evr (s : State) (f : TelSt → TelSt) : (setTel s f).evr = s.evr := rfl
@[simp] theorem setTel_tel (s : State) (f : TelSt → TelSt) : (setTel s f).tel = f s.tel := rfl
@[simp] theorem setTel_test (s : State) (f : TelSt → TelSt) : (setTel s f).test = s.test := rfl

/-! `setSys`. -/

@[simp] theorem setSys_pending (s : State) (f : Sys → Sys) : (setSys s f).pending = s.pending := rfl
@[simp] theorem setSys_regs (s : State) (f : Sys → Sys) : (setSys s f).regs = s.regs := rfl
@[simp] theorem setSys_free (s : State) (f : Sys → Sys) : (setSys s f).free = s.free := rfl
@[simp] theorem setSys_out (s : State) (f : Sys → Sys) : (setSys s f).out = s.out := rfl
@[simp] theorem setSys_tb (s : State) (f : Sys → Sys) : (setSys s f).tb = s.tb := rfl
@[simp] theorem setSys_mono (s : State) (f : Sys → Sys) : (setSys s f).mono = s.mono := rfl
@[simp] theorem setSys_sys (s : State) (f : Sys → Sys) : (setSys s f).sys = f s.sys := rfl
@[simp] theorem setSys_nvs (s : State) (f : Sys → Sys) : (setSys s f).nvs = s.nvs := rfl
@[simp] theorem setSys_time (s : State) (f : Sys → Sys) : (setSys s f).time = s.time := rfl
@[simp] theorem setSys_weave (s : State) (f : Sys → Sys) : (setSys s f).weave = s.weave := rfl
@[simp] theorem setSys_lanes (s : State) (f : Sys → Sys) : (setSys s f).lanes = s.lanes := rfl
@[simp] theorem setSys_fibres (s : State) (f : Sys → Sys) : (setSys s f).fibres = s.fibres := rfl
@[simp] theorem setSys_banks (s : State) (f : Sys → Sys) : (setSys s f).banks = s.banks := rfl
@[simp] theorem setSys_ports (s : State) (f : Sys → Sys) : (setSys s f).ports = s.ports := rfl
@[simp] theorem setSys_core (s : State) (f : Sys → Sys) : (setSys s f).core = s.core := rfl
@[simp] theorem setSys_tbl (s : State) (f : Sys → Sys) : (setSys s f).tbl = s.tbl := rfl
@[simp] theorem setSys_tm (s : State) (f : Sys → Sys) : (setSys s f).tm = s.tm := rfl
@[simp] theorem setSys_byp (s : State) (f : Sys → Sys) : (setSys s f).byp = s.byp := rfl
@[simp] theorem setSys_pic (s : State) (f : Sys → Sys) : (setSys s f).pic = s.pic := rfl
@[simp] theorem setSys_bob (s : State) (f : Sys → Sys) : (setSys s f).bob = s.bob := rfl
@[simp] theorem setSys_mem (s : State) (f : Sys → Sys) : (setSys s f).mem = s.mem := rfl
@[simp] theorem setSys_flt (s : State) (f : Sys → Sys) : (setSys s f).flt = s.flt := rfl
@[simp] theorem setSys_sec (s : State) (f : Sys → Sys) : (setSys s f).sec = s.sec := rfl
@[simp] theorem setSys_host (s : State) (f : Sys → Sys) : (setSys s f).host = s.host := rfl
@[simp] theorem setSys_evr (s : State) (f : Sys → Sys) : (setSys s f).evr = s.evr := rfl
@[simp] theorem setSys_tel (s : State) (f : Sys → Sys) : (setSys s f).tel = s.tel := rfl
@[simp] theorem setSys_test (s : State) (f : Sys → Sys) : (setSys s f).test = s.test := rfl

/-! `setNvs`. -/

@[simp] theorem setNvs_pending (s : State) (f : Nvs → Nvs) : (setNvs s f).pending = s.pending := rfl
@[simp] theorem setNvs_regs (s : State) (f : Nvs → Nvs) : (setNvs s f).regs = s.regs := rfl
@[simp] theorem setNvs_free (s : State) (f : Nvs → Nvs) : (setNvs s f).free = s.free := rfl
@[simp] theorem setNvs_out (s : State) (f : Nvs → Nvs) : (setNvs s f).out = s.out := rfl
@[simp] theorem setNvs_tb (s : State) (f : Nvs → Nvs) : (setNvs s f).tb = s.tb := rfl
@[simp] theorem setNvs_mono (s : State) (f : Nvs → Nvs) : (setNvs s f).mono = s.mono := rfl
@[simp] theorem setNvs_sys (s : State) (f : Nvs → Nvs) : (setNvs s f).sys = s.sys := rfl
@[simp] theorem setNvs_nvs (s : State) (f : Nvs → Nvs) : (setNvs s f).nvs = f s.nvs := rfl
@[simp] theorem setNvs_time (s : State) (f : Nvs → Nvs) : (setNvs s f).time = s.time := rfl
@[simp] theorem setNvs_weave (s : State) (f : Nvs → Nvs) : (setNvs s f).weave = s.weave := rfl
@[simp] theorem setNvs_lanes (s : State) (f : Nvs → Nvs) : (setNvs s f).lanes = s.lanes := rfl
@[simp] theorem setNvs_fibres (s : State) (f : Nvs → Nvs) : (setNvs s f).fibres = s.fibres := rfl
@[simp] theorem setNvs_banks (s : State) (f : Nvs → Nvs) : (setNvs s f).banks = s.banks := rfl
@[simp] theorem setNvs_ports (s : State) (f : Nvs → Nvs) : (setNvs s f).ports = s.ports := rfl
@[simp] theorem setNvs_core (s : State) (f : Nvs → Nvs) : (setNvs s f).core = s.core := rfl
@[simp] theorem setNvs_tbl (s : State) (f : Nvs → Nvs) : (setNvs s f).tbl = s.tbl := rfl
@[simp] theorem setNvs_tm (s : State) (f : Nvs → Nvs) : (setNvs s f).tm = s.tm := rfl
@[simp] theorem setNvs_byp (s : State) (f : Nvs → Nvs) : (setNvs s f).byp = s.byp := rfl
@[simp] theorem setNvs_pic (s : State) (f : Nvs → Nvs) : (setNvs s f).pic = s.pic := rfl
@[simp] theorem setNvs_bob (s : State) (f : Nvs → Nvs) : (setNvs s f).bob = s.bob := rfl
@[simp] theorem setNvs_mem (s : State) (f : Nvs → Nvs) : (setNvs s f).mem = s.mem := rfl
@[simp] theorem setNvs_flt (s : State) (f : Nvs → Nvs) : (setNvs s f).flt = s.flt := rfl
@[simp] theorem setNvs_sec (s : State) (f : Nvs → Nvs) : (setNvs s f).sec = s.sec := rfl
@[simp] theorem setNvs_host (s : State) (f : Nvs → Nvs) : (setNvs s f).host = s.host := rfl
@[simp] theorem setNvs_evr (s : State) (f : Nvs → Nvs) : (setNvs s f).evr = s.evr := rfl
@[simp] theorem setNvs_tel (s : State) (f : Nvs → Nvs) : (setNvs s f).tel = s.tel := rfl
@[simp] theorem setNvs_test (s : State) (f : Nvs → Nvs) : (setNvs s f).test = s.test := rfl

/-! `setTime`. -/

@[simp] theorem setTime_pending (s : State) (f : TimeSt → TimeSt) : (setTime s f).pending = s.pending := rfl
@[simp] theorem setTime_regs (s : State) (f : TimeSt → TimeSt) : (setTime s f).regs = s.regs := rfl
@[simp] theorem setTime_free (s : State) (f : TimeSt → TimeSt) : (setTime s f).free = s.free := rfl
@[simp] theorem setTime_out (s : State) (f : TimeSt → TimeSt) : (setTime s f).out = s.out := rfl
@[simp] theorem setTime_tb (s : State) (f : TimeSt → TimeSt) : (setTime s f).tb = s.tb := rfl
@[simp] theorem setTime_mono (s : State) (f : TimeSt → TimeSt) : (setTime s f).mono = s.mono := rfl
@[simp] theorem setTime_sys (s : State) (f : TimeSt → TimeSt) : (setTime s f).sys = s.sys := rfl
@[simp] theorem setTime_nvs (s : State) (f : TimeSt → TimeSt) : (setTime s f).nvs = s.nvs := rfl
@[simp] theorem setTime_time (s : State) (f : TimeSt → TimeSt) : (setTime s f).time = f s.time := rfl
@[simp] theorem setTime_weave (s : State) (f : TimeSt → TimeSt) : (setTime s f).weave = s.weave := rfl
@[simp] theorem setTime_lanes (s : State) (f : TimeSt → TimeSt) : (setTime s f).lanes = s.lanes := rfl
@[simp] theorem setTime_fibres (s : State) (f : TimeSt → TimeSt) : (setTime s f).fibres = s.fibres := rfl
@[simp] theorem setTime_banks (s : State) (f : TimeSt → TimeSt) : (setTime s f).banks = s.banks := rfl
@[simp] theorem setTime_ports (s : State) (f : TimeSt → TimeSt) : (setTime s f).ports = s.ports := rfl
@[simp] theorem setTime_core (s : State) (f : TimeSt → TimeSt) : (setTime s f).core = s.core := rfl
@[simp] theorem setTime_tbl (s : State) (f : TimeSt → TimeSt) : (setTime s f).tbl = s.tbl := rfl
@[simp] theorem setTime_tm (s : State) (f : TimeSt → TimeSt) : (setTime s f).tm = s.tm := rfl
@[simp] theorem setTime_byp (s : State) (f : TimeSt → TimeSt) : (setTime s f).byp = s.byp := rfl
@[simp] theorem setTime_pic (s : State) (f : TimeSt → TimeSt) : (setTime s f).pic = s.pic := rfl
@[simp] theorem setTime_bob (s : State) (f : TimeSt → TimeSt) : (setTime s f).bob = s.bob := rfl
@[simp] theorem setTime_mem (s : State) (f : TimeSt → TimeSt) : (setTime s f).mem = s.mem := rfl
@[simp] theorem setTime_flt (s : State) (f : TimeSt → TimeSt) : (setTime s f).flt = s.flt := rfl
@[simp] theorem setTime_sec (s : State) (f : TimeSt → TimeSt) : (setTime s f).sec = s.sec := rfl
@[simp] theorem setTime_host (s : State) (f : TimeSt → TimeSt) : (setTime s f).host = s.host := rfl
@[simp] theorem setTime_evr (s : State) (f : TimeSt → TimeSt) : (setTime s f).evr = s.evr := rfl
@[simp] theorem setTime_tel (s : State) (f : TimeSt → TimeSt) : (setTime s f).tel = s.tel := rfl
@[simp] theorem setTime_test (s : State) (f : TimeSt → TimeSt) : (setTime s f).test = s.test := rfl

/-! `setWeave`. -/

@[simp] theorem setWeave_pending (s : State) (f : WeaveSt → WeaveSt) : (setWeave s f).pending = s.pending := rfl
@[simp] theorem setWeave_regs (s : State) (f : WeaveSt → WeaveSt) : (setWeave s f).regs = s.regs := rfl
@[simp] theorem setWeave_free (s : State) (f : WeaveSt → WeaveSt) : (setWeave s f).free = s.free := rfl
@[simp] theorem setWeave_out (s : State) (f : WeaveSt → WeaveSt) : (setWeave s f).out = s.out := rfl
@[simp] theorem setWeave_tb (s : State) (f : WeaveSt → WeaveSt) : (setWeave s f).tb = s.tb := rfl
@[simp] theorem setWeave_mono (s : State) (f : WeaveSt → WeaveSt) : (setWeave s f).mono = s.mono := rfl
@[simp] theorem setWeave_sys (s : State) (f : WeaveSt → WeaveSt) : (setWeave s f).sys = s.sys := rfl
@[simp] theorem setWeave_nvs (s : State) (f : WeaveSt → WeaveSt) : (setWeave s f).nvs = s.nvs := rfl
@[simp] theorem setWeave_time (s : State) (f : WeaveSt → WeaveSt) : (setWeave s f).time = s.time := rfl
@[simp] theorem setWeave_weave (s : State) (f : WeaveSt → WeaveSt) : (setWeave s f).weave = f s.weave := rfl
@[simp] theorem setWeave_lanes (s : State) (f : WeaveSt → WeaveSt) : (setWeave s f).lanes = s.lanes := rfl
@[simp] theorem setWeave_fibres (s : State) (f : WeaveSt → WeaveSt) : (setWeave s f).fibres = s.fibres := rfl
@[simp] theorem setWeave_banks (s : State) (f : WeaveSt → WeaveSt) : (setWeave s f).banks = s.banks := rfl
@[simp] theorem setWeave_ports (s : State) (f : WeaveSt → WeaveSt) : (setWeave s f).ports = s.ports := rfl
@[simp] theorem setWeave_core (s : State) (f : WeaveSt → WeaveSt) : (setWeave s f).core = s.core := rfl
@[simp] theorem setWeave_tbl (s : State) (f : WeaveSt → WeaveSt) : (setWeave s f).tbl = s.tbl := rfl
@[simp] theorem setWeave_tm (s : State) (f : WeaveSt → WeaveSt) : (setWeave s f).tm = s.tm := rfl
@[simp] theorem setWeave_byp (s : State) (f : WeaveSt → WeaveSt) : (setWeave s f).byp = s.byp := rfl
@[simp] theorem setWeave_pic (s : State) (f : WeaveSt → WeaveSt) : (setWeave s f).pic = s.pic := rfl
@[simp] theorem setWeave_bob (s : State) (f : WeaveSt → WeaveSt) : (setWeave s f).bob = s.bob := rfl
@[simp] theorem setWeave_mem (s : State) (f : WeaveSt → WeaveSt) : (setWeave s f).mem = s.mem := rfl
@[simp] theorem setWeave_flt (s : State) (f : WeaveSt → WeaveSt) : (setWeave s f).flt = s.flt := rfl
@[simp] theorem setWeave_sec (s : State) (f : WeaveSt → WeaveSt) : (setWeave s f).sec = s.sec := rfl
@[simp] theorem setWeave_host (s : State) (f : WeaveSt → WeaveSt) : (setWeave s f).host = s.host := rfl
@[simp] theorem setWeave_evr (s : State) (f : WeaveSt → WeaveSt) : (setWeave s f).evr = s.evr := rfl
@[simp] theorem setWeave_tel (s : State) (f : WeaveSt → WeaveSt) : (setWeave s f).tel = s.tel := rfl
@[simp] theorem setWeave_test (s : State) (f : WeaveSt → WeaveSt) : (setWeave s f).test = s.test := rfl

/-! `setTest`. -/

@[simp] theorem setTest_pending (s : State) (f : TestSt → TestSt) : (setTest s f).pending = s.pending := rfl
@[simp] theorem setTest_regs (s : State) (f : TestSt → TestSt) : (setTest s f).regs = s.regs := rfl
@[simp] theorem setTest_free (s : State) (f : TestSt → TestSt) : (setTest s f).free = s.free := rfl
@[simp] theorem setTest_out (s : State) (f : TestSt → TestSt) : (setTest s f).out = s.out := rfl
@[simp] theorem setTest_tb (s : State) (f : TestSt → TestSt) : (setTest s f).tb = s.tb := rfl
@[simp] theorem setTest_mono (s : State) (f : TestSt → TestSt) : (setTest s f).mono = s.mono := rfl
@[simp] theorem setTest_sys (s : State) (f : TestSt → TestSt) : (setTest s f).sys = s.sys := rfl
@[simp] theorem setTest_nvs (s : State) (f : TestSt → TestSt) : (setTest s f).nvs = s.nvs := rfl
@[simp] theorem setTest_time (s : State) (f : TestSt → TestSt) : (setTest s f).time = s.time := rfl
@[simp] theorem setTest_weave (s : State) (f : TestSt → TestSt) : (setTest s f).weave = s.weave := rfl
@[simp] theorem setTest_lanes (s : State) (f : TestSt → TestSt) : (setTest s f).lanes = s.lanes := rfl
@[simp] theorem setTest_fibres (s : State) (f : TestSt → TestSt) : (setTest s f).fibres = s.fibres := rfl
@[simp] theorem setTest_banks (s : State) (f : TestSt → TestSt) : (setTest s f).banks = s.banks := rfl
@[simp] theorem setTest_ports (s : State) (f : TestSt → TestSt) : (setTest s f).ports = s.ports := rfl
@[simp] theorem setTest_core (s : State) (f : TestSt → TestSt) : (setTest s f).core = s.core := rfl
@[simp] theorem setTest_tbl (s : State) (f : TestSt → TestSt) : (setTest s f).tbl = s.tbl := rfl
@[simp] theorem setTest_tm (s : State) (f : TestSt → TestSt) : (setTest s f).tm = s.tm := rfl
@[simp] theorem setTest_byp (s : State) (f : TestSt → TestSt) : (setTest s f).byp = s.byp := rfl
@[simp] theorem setTest_pic (s : State) (f : TestSt → TestSt) : (setTest s f).pic = s.pic := rfl
@[simp] theorem setTest_bob (s : State) (f : TestSt → TestSt) : (setTest s f).bob = s.bob := rfl
@[simp] theorem setTest_mem (s : State) (f : TestSt → TestSt) : (setTest s f).mem = s.mem := rfl
@[simp] theorem setTest_flt (s : State) (f : TestSt → TestSt) : (setTest s f).flt = s.flt := rfl
@[simp] theorem setTest_sec (s : State) (f : TestSt → TestSt) : (setTest s f).sec = s.sec := rfl
@[simp] theorem setTest_host (s : State) (f : TestSt → TestSt) : (setTest s f).host = s.host := rfl
@[simp] theorem setTest_evr (s : State) (f : TestSt → TestSt) : (setTest s f).evr = s.evr := rfl
@[simp] theorem setTest_tel (s : State) (f : TestSt → TestSt) : (setTest s f).tel = s.tel := rfl
@[simp] theorem setTest_test (s : State) (f : TestSt → TestSt) : (setTest s f).test = f s.test := rfl

end Sys2Proof.Machine
end

