-- ==== Sys2Proof/Laws/Tables.lean ====
section
/-! SUPPORT. What the sparse tables, the register file and the fields of a word read after a write, and that updates keep the
canonical form. -/

namespace Sys2Proof.Machine

variable {α : Type}

theorem tget_tdel (d : α) (t : Tab α) (i j : Nat) : tget d (tdel t i) j = if j = i then d else tget d t j := by
  induction t with
  | nil => simp [tdel, tget]
  | cons e t ih =>
    obtain ⟨k, v⟩ := e
    by_cases hk : k = i
    · subst hk
      simp only [tdel, if_true, ih, tget]
      by_cases hj : j = k
      · simp [hj]
      · simp [hj, Ne.symm hj]
    · simp only [tdel, hk, if_false, tget, ih]
      by_cases hkj : k = j
      · subst hkj; simp [hk]
      · simp [hkj]

theorem tget_tput (d : α) (t : Tab α) (i : Nat) (v : α) (h : ∀ e ∈ t, e.1 ≠ i) (j : Nat) :
    tget d (tput t i v) j = if j = i then v else tget d t j := by
  induction t with
  | nil => simp [tput, tget, eq_comm]
  | cons e t ih =>
    obtain ⟨k, w⟩ := e
    have hk : k ≠ i := h (k, w) (by simp)
    have ih := ih (fun e he => h e (by simp [he]))
    simp only [tput]
    split
    · simp only [tget]
      by_cases hj : j = i
      · simp [hj]
      · simp [hj, Ne.symm hj]
    · simp only [tget, ih]
      by_cases hkj : k = j
      · subst hkj; simp [hk]
      · simp [hkj]

theorem mem_tdel (t : Tab α) (i : Nat) : ∀ e ∈ tdel t i, e.1 ≠ i := by
  induction t with
  | nil => simp [tdel]
  | cons e t ih =>
    obtain ⟨k, v⟩ := e
    by_cases hk : k = i
    · simpa [tdel, hk] using ih
    · intro e he
      simp only [tdel, hk, if_false, List.mem_cons] at he
      rcases he with rfl | he
      · exact hk
      · exact ih e he

/-- A table reads back what was set, and every other key as before. -/
theorem tget_tset [DecidableEq α] (d : α) (t : Tab α) (i : Nat) (v : α) (j : Nat) :
    tget d (tset d t i v) j = if j = i then v else tget d t j := by
  unfold tset
  split
  · next h => rw [tget_tdel, h]
  · rw [tget_tput _ _ _ _ (mem_tdel t i), tget_tdel]
    split <;> rfl

@[simp] theorem tget_tset_same [DecidableEq α] (d : α) (t : Tab α) (i : Nat) (v : α) : tget d (tset d t i v) i = v := by
  simp [tget_tset]

theorem tget_tset_ne [DecidableEq α] (d : α) (t : Tab α) {i j : Nat} (h : j ≠ i) (v : α) :
    tget d (tset d t i v) j = tget d t j := by simp [tget_tset, h]

/-! The canonical form as a property of members. -/

theorem Canon.nil (d : Nat → α) : Canon d [] := by simp [Canon]

theorem tdel_sublist (t : Tab α) (i : Nat) : (tdel t i).Sublist t := by
  induction t with
  | nil => exact List.Sublist.refl _
  | cons e t ih =>
    obtain ⟨k, v⟩ := e
    by_cases hk : k = i
    · simpa [tdel, hk] using ih.cons _
    · simpa [tdel, hk] using ih.cons_cons (k, v)

theorem Canon.tdel {d : Nat → α} {t : Tab α} (h : Canon d t) (i : Nat) : Canon d (tdel t i) :=
  ⟨h.1.sublist (tdel_sublist t i), fun e he => h.2 e ((tdel_sublist t i).mem he)⟩

theorem mem_tput {t : Tab α} {i : Nat} {v : α} {e : Nat × α} (h : e ∈ tput t i v) : e = (i, v) ∨ e ∈ t := by
  induction t with
  | nil => simpa [tput] using h
  | cons a t ih =>
    obtain ⟨k, w⟩ := a
    simp only [tput] at h
    split at h
    · simpa using h
    · rcases List.mem_cons.1 h with rfl | h
      · simp
      · rcases ih h with rfl | h
        · simp
        · simp [h]

theorem Canon.tput {d : Nat → α} {t : Tab α} (h : Canon d t) {i : Nat} {v : α} (hi : ∀ e ∈ t, e.1 ≠ i) (hv : v ≠ d i) :
    Canon d (tput t i v) := by
  refine ⟨?_, fun e he => ?_⟩
  · induction t with
    | nil => exact List.pairwise_singleton _ _
    | cons a t ih =>
      obtain ⟨k, w⟩ := a
      have hk : k ≠ i := hi (k, w) (by simp)
      obtain ⟨hp, hd⟩ := h
      rw [List.pairwise_cons] at hp
      rw [show Machine.tput ((k, w) :: t) i v = if i < k then (i, v) :: (k, w) :: t else (k, w) :: Machine.tput t i v from rfl]
      split
      · next hlt =>
        rw [List.pairwise_cons, List.pairwise_cons]
        refine ⟨fun b hb => ?_, hp.1, hp.2⟩
        rcases List.mem_cons.1 hb with rfl | hb
        · exact hlt
        · exact Nat.lt_trans hlt (hp.1 b hb)
      · next hlt =>
        rw [List.pairwise_cons]
        refine ⟨fun b hb => ?_, ih ⟨hp.2, fun e he => hd e (by simp [he])⟩ fun e he => hi e (by simp [he])⟩
        rcases mem_tput hb with rfl | hb
        · show k < i
          omega
        · exact hp.1 b hb
  · rcases mem_tput he with rfl | he
    · exact hv
    · exact h.2 e he

/-- Setting a key keeps the canonical form; the default may depend on the key. -/
theorem Canon.tset [DecidableEq α] {d : Nat → α} {t : Tab α} (h : Canon d t) (i : Nat) (v : α) : Canon d (tset (d i) t i v) := by
  unfold Machine.tset
  split
  · exact h.tdel i
  · next hv => exact (h.tdel i).tput (mem_tdel t i) hv

theorem Canon.filter {d : Nat → α} {t : Tab α} (h : Canon d t) (p : Nat × α → Bool) : Canon d (t.filter p) :=
  ⟨h.1.filter p, fun e he => h.2 e (List.mem_of_mem_filter he)⟩

/-- Canonical tables that read alike are equal. -/
theorem Canon.ext {d : Nat → α} {t u : Tab α} (ht : Canon d t) (hu : Canon d u) (h : ∀ i, tget (d i) t i = tget (d i) u i) :
    t = u := by
  have low : ∀ (t : Tab α) (i : Nat), (∀ e ∈ t, i < e.1) → tget (d i) t i = d i := by
    intro t i hi
    induction t with
    | nil => rfl
    | cons e t ih =>
      obtain ⟨k, v⟩ := e
      have hk : i < k := hi (k, v) (by simp)
      have : ¬ k = i := by omega
      simp only [tget, this, if_false]
      exact ih fun e he => hi e (by simp [he])
  induction t generalizing u with
  | nil =>
    cases u with
    | nil => rfl
    | cons e u =>
      obtain ⟨k, v⟩ := e
      exact absurd (by simpa [tget] using (h k).symm) (hu.2 (k, v) (by simp))
  | cons e t ih =>
    obtain ⟨k, v⟩ := e
    obtain ⟨hp, hd⟩ := ht
    rw [List.pairwise_cons] at hp
    have htail : Canon d t := ⟨hp.2, fun e he => hd e (by simp [he])⟩
    cases u with
    | nil => exact absurd (by simpa [tget] using h k) (hd (k, v) (by simp))
    | cons e' u =>
      obtain ⟨k', v'⟩ := e'
      obtain ⟨hp', hd'⟩ := hu
      rw [List.pairwise_cons] at hp'
      have hutail : Canon d u := ⟨hp'.2, fun e he => hd' e (by simp [he])⟩
      rcases Nat.lt_trichotomy k k' with hlt | rfl | hlt
      · have h1 := h k
        have h2 : tget (d k) ((k', v') :: u) k = d k := low _ k (by
          intro e he
          rcases List.mem_cons.1 he with rfl | he
          · exact hlt
          · exact Nat.lt_trans hlt (hp'.1 e he))
        rw [h2] at h1
        exact absurd (by simpa [tget] using h1) (hd (k, v) (by simp))
      · have hv : v = v' := by simpa [tget] using h k
        subst hv
        congr 1
        refine ih htail hutail fun i => ?_
        by_cases hi : k = i
        · subst hi
          rw [low t k hp.1, low u k hp'.1]
        · simpa [tget, hi] using h i
      · have h1 := h k'
        have h2 : tget (d k') ((k, v) :: t) k' = d k' := low _ k' (by
          intro e he
          rcases List.mem_cons.1 he with rfl | he
          · exact hlt
          · exact Nat.lt_trans hlt (hp.1 e he))
        rw [h2] at h1
        exact absurd (by simpa [tget] using h1.symm) (hd' (k', v') (by simp))

/-! The register file. -/

/-- A register reads back what was stored, every other register as before. -/
theorem getReg_setReg (s : State) (o : Nat) (v : Word) (o' : Nat) :
    getReg (setReg s o v) o' = if o' = o then v else getReg s o' := by
  unfold getReg setReg
  by_cases h : o' = o
  · subst h; simp
  · simp only [h, if_false]
    have aux : ∀ (d e : Word) (t : Tab Word), tget d (tset e t o v) o' = tget d t o' := by
      intro d e t
      unfold tset
      split
      · rw [tget_tdel]; simp [h]
      · rw [tget_tput _ _ _ _ (mem_tdel t o), tget_tdel]; simp [h]
    exact aux _ _ _

@[simp] theorem getReg_setReg_same (s : State) (o : Nat) (v : Word) : getReg (setReg s o v) o = v := by
  simp [getReg_setReg]

theorem getReg_setReg_ne (s : State) {o o' : Nat} (h : o' ≠ o) (v : Word) : getReg (setReg s o v) o' = getReg s o' := by
  simp [getReg_setReg, h]

/-- Reading a register depends on the register file alone. -/
theorem getReg_congr {s t : State} (h : s.regs = t.regs) (o : Nat) : getReg s o = getReg t o := by
  simp [getReg, h]

theorem regsCanon_setReg {s : State} (h : regsCanon s) (o : Nat) (v : Word) : regsCanon (setReg s o v) := Canon.tset h o v

theorem regsCanon_fset {s : State} (h : regsCanon s) (f : Fld) (v : Nat) : regsCanon (fset s f v) := regsCanon_setReg h _ _

theorem regsCanon_bumpBy {s : State} (h : regsCanon s) (o n : Nat) : regsCanon (bumpBy s o n) := regsCanon_setReg h _ _

/-! Fields of a word. -/

theorem bits_lt (v lo w : Nat) : bits v lo w < 2 ^ w := Nat.mod_lt _ (Nat.two_pow_pos w)

theorem getLsbD_putBits (x : Word) (lo w v i : Nat) :
    (putBits x lo w v).getLsbD i =
      (decide (i < 64) && if lo ≤ i ∧ i < lo + w then v.testBit (i - lo) else x.getLsbD i) := by
  unfold putBits
  simp only [BitVec.getLsbD_or, BitVec.getLsbD_and, BitVec.getLsbD_not, BitVec.getLsbD_shiftLeft, BitVec.getLsbD_ofNat,
    Nat.testBit_mod_two_pow, Nat.testBit_two_pow_sub_one]
  by_cases hi : i < 64
  · by_cases h1 : i < lo
    · have : ¬ (lo ≤ i ∧ i < lo + w) := by omega
      simp [hi, h1, this]
    · by_cases h2 : i < lo + w
      · have h3 : i - lo < w := by omega
        have h4 : i - lo < 64 := by omega
        have h5 : lo ≤ i ∧ i < lo + w := by omega
        simp [hi, h1, h3, h4, h5]
      · have h3 : ¬ i - lo < w := by omega
        have h5 : ¬ (lo ≤ i ∧ i < lo + w) := by omega
        simp [hi, h1, h3, h5]
  · have : x.getLsbD i = false := BitVec.getLsbD_of_ge x i (by omega)
    simp [hi, this]

theorem testBit_bits (v lo w i : Nat) : (bits v lo w).testBit i = (decide (i < w) && v.testBit (lo + i)) := by
  simp [bits, Nat.testBit_mod_two_pow, Nat.testBit_div_two_pow, Nat.add_comm]

/-- A field set reads back. -/
theorem bits_putBits_same (x : Word) (lo w v : Nat) (h : lo + w ≤ 64) : bits (putBits x lo w v).toNat lo w = v % 2 ^ w := by
  apply Nat.eq_of_testBit_eq
  intro i
  rw [testBit_bits, Nat.testBit_mod_two_pow]
  by_cases hi : i < w
  · have h1 : lo + i < 64 := by omega
    have := getLsbD_putBits x lo w v (lo + i)
    simp only [BitVec.getLsbD] at this
    simp [hi, this, h1]
  · simp [hi]

/-- A field set leaves the bits outside it. -/
theorem bits_putBits_disj (x : Word) (lo w v lo' w' : Nat) (h : lo' + w' ≤ lo ∨ lo + w ≤ lo') :
    bits (putBits x lo w v).toNat lo' w' = bits x.toNat lo' w' := by
  apply Nat.eq_of_testBit_eq
  intro i
  rw [testBit_bits, testBit_bits]
  by_cases hi : i < w'
  · have := getLsbD_putBits x lo w v (lo' + i)
    simp only [BitVec.getLsbD] at this
    have hn : ¬ (lo ≤ lo' + i ∧ lo' + i < lo + w) := by omega
    by_cases h64 : lo' + i < 64
    · simp [hi, this, hn, h64]
    · have hx : x.toNat.testBit (lo' + i) = false := by
        have := BitVec.getLsbD_of_ge x (lo' + i) (by omega)
        simpa [BitVec.getLsbD] using this
      simp [hi, this, h64, hx]
  · simp [hi]

/-- A field reads back what was set. -/
theorem fget_fset_same (s : State) (f : Fld) (v : Nat) (h : f.lo + f.wid ≤ 64) : fget (fset s f v) f = v % 2 ^ f.wid := by
  simp [fget, fset, bits_putBits_same _ _ _ _ h]

/-- A field of another register, or apart from it in the same one, is left. -/
theorem fget_fset_ne (s : State) (f g : Fld) (v : Nat)
    (h : g.off ≠ f.off ∨ g.lo + g.wid ≤ f.lo ∨ f.lo + f.wid ≤ g.lo) : fget (fset s f v) g = fget s g := by
  unfold fget fset
  rw [getReg_setReg]
  split
  · next he =>
    rw [← he]
    rcases h with h | h
    · exact absurd he h
    · exact bits_putBits_disj _ _ _ _ _ _ h
  · rfl

/-- A field depends on the register file alone. -/
theorem fget_congr {s t : State} (h : s.regs = t.regs) (f : Fld) : fget s f = fget t f := by
  simp [fget, getReg_congr h]

theorem getReg_fset (s : State) (f : Fld) (v o : Nat) :
    getReg (fset s f v) o = if o = f.off then putBits (getReg s f.off) f.lo f.wid v else getReg s o := getReg_setReg s _ _ _

theorem getReg_bump (s : State) (o o' : Nat) : getReg (bump s o) o' = if o' = o then getReg s o + 1 else getReg s o' :=
  getReg_setReg s _ _ _

/-! Folds. -/

/-- What every step of a fold keeps, the fold keeps. -/
theorem forEach_keeps {β : Type} {P : State → Prop} {l : List β} {f : State → β → State} (hf : ∀ s a, a ∈ l → P s → P (f s a)) :
    ∀ {s : State}, P s → P (forEach l s f) := by
  induction l with
  | nil => intro s hs; exact hs
  | cons a l ih =>
    intro s hs
    exact ih (fun s b hb => hf s b (by simp [hb])) (hf s a (by simp) hs)

theorem forRange_keeps {P : State → Prop} {n : Nat} {f : State → Nat → State} (hf : ∀ s i, i < n → P s → P (f s i))
    {s : State} (hs : P s) : P (forRange n s f) :=
  forEach_keeps (l := List.range n) (fun s a ha => hf s a (List.mem_range.1 ha)) hs

end Sys2Proof.Machine
end

