-- ==== Sys2Proof/Laws/Memory.lean ====
section
/-! SUPPORT. CP memory: reads after writes, and that every operation on it keeps the canonical form. -/

namespace Sys2Proof.Machine

variable {α : Type}

theorem wf_iff_canon [DecidableEq α] (d : α) (t : Tab α) : Tab.wf d t = true ↔ Canon (fun _ => d) t := by
  induction t with
  | nil => simp [Tab.wf, Canon]
  | cons a t ih =>
    obtain ⟨k, v⟩ := a
    cases t with
    | nil => simp [Tab.wf, Canon]
    | cons b t =>
      obtain ⟨k', v'⟩ := b
      simp only [Tab.wf, Bool.and_eq_true, ih]
      simp only [Canon, List.pairwise_cons, List.mem_cons, forall_eq_or_imp, Bool.not_eq_true', decide_eq_false_iff_not,
        decide_eq_true_eq]
      constructor
      · rintro ⟨⟨hv, hk⟩, ⟨⟨hp, hq⟩, hv', hd⟩⟩
        exact ⟨⟨⟨hk, fun e he => Nat.lt_trans hk (hp e he)⟩, hp, hq⟩, hv, hv', hd⟩
      · rintro ⟨⟨⟨hk, _⟩, hp, hq⟩, hv, hv', hd⟩
        exact ⟨⟨hv, hk⟩, ⟨hp, hq⟩, hv', hd⟩

theorem wf_tset [DecidableEq α] {d : α} {t : Tab α} (h : Tab.wf d t = true) (i : Nat) (v : α) : Tab.wf d (tset d t i v) = true :=
  (wf_iff_canon d _).2 (((wf_iff_canon d t).1 h).tset i v)

theorem wf_filter [DecidableEq α] {d : α} {t : Tab α} (h : Tab.wf d t = true) (p : Nat × α → Bool) :
    Tab.wf d (t.filter p) = true :=
  (wf_iff_canon d _).2 (((wf_iff_canon d t).1 h).filter p)

theorem Memory.wf_iff (m : MemSt) : Memory.wf m = true ↔ Tab.wf 0 m.bytes = true ∧ Tab.wf false m.poison = true := by
  simp [Memory.wf]

/-- Memory at reset is canonical. -/
theorem Memory.wf_reset : Memory.wf State.reset.mem = true := by decide

/-- A store keeps the canonical form. -/
theorem Memory.wf_memPut (bs : List Byte) {s : State} (h : Memory.wf s.mem = true) (d P : Nat) :
    Memory.wf (memPut s d P bs).mem = true := by
  induction bs generalizing s P with
  | nil => exact h
  | cons b bs ih =>
    refine ih ?_ (P + 1)
    rw [Memory.wf_iff] at h ⊢
    exact ⟨wf_tset h.1 _ _, h.2⟩

/-- Zeroing a frame keeps the canonical form. -/
theorem Memory.wf_zeroFrame {s : State} (h : Memory.wf s.mem = true) (d f : Nat) : Memory.wf (zeroFrame s d f).mem = true := by
  rw [Memory.wf_iff] at h ⊢
  exact ⟨wf_filter h.1 _, wf_filter h.2 _⟩

/-- Zeroing a die keeps the canonical form. -/
theorem Memory.wf_zeroDie {s : State} (h : Memory.wf s.mem = true) (d : Nat) : Memory.wf (zeroDie s d).mem = true := by
  rw [Memory.wf_iff] at h ⊢
  exact ⟨wf_filter h.1 _, wf_filter h.2 _⟩

/-- Poisoning a line, or clearing it, keeps the canonical form. -/
theorem Memory.wf_poison {m : MemSt} (h : Memory.wf m = true) (i : Nat) (b : Bool) :
    Memory.wf { m with poison := tset false m.poison i b } = true := by
  rw [Memory.wf_iff] at h ⊢
  exact ⟨h.1, wf_tset h.2 _ _⟩

/-- A store is read back at its own bytes; every other byte of every die reads as before. -/
theorem memByte_memPut (bs : List Byte) (s : State) (d P e Q : Nat) :
    memByte (memPut s d P bs) e Q =
      if 2 ^ 40 * d + P ≤ 2 ^ 40 * e + Q ∧ 2 ^ 40 * e + Q < 2 ^ 40 * d + P + bs.length
      then bs.getD (2 ^ 40 * e + Q - (2 ^ 40 * d + P)) 0 else memByte s e Q := by
  induction bs generalizing s P with
  | nil => simp only [memPut, List.length_nil]; split <;> [omega; rfl]
  | cons b bs ih =>
    rw [memPut, ih]
    simp only [List.length_cons]
    by_cases h : 2 ^ 40 * e + Q = 2 ^ 40 * d + P
    · rw [if_neg (by omega), if_pos (by omega)]
      show tget 0 (tset 0 s.mem.bytes (2 ^ 40 * d + P) b) (2 ^ 40 * e + Q) = _
      rw [h, tget_tset_same, Nat.sub_self]
      rfl
    · by_cases h1 : 2 ^ 40 * d + P ≤ 2 ^ 40 * e + Q ∧ 2 ^ 40 * e + Q < 2 ^ 40 * d + P + (bs.length + 1)
      · rw [if_pos (by omega), if_pos h1]
        obtain ⟨k, hk⟩ : ∃ k, 2 ^ 40 * e + Q - (2 ^ 40 * d + P) = k + 1 := ⟨2 ^ 40 * e + Q - (2 ^ 40 * d + P) - 1, by omega⟩
        rw [hk, List.getD_cons_succ]
        congr 1
        omega
      · rw [if_neg (by omega), if_neg h1]
        exact tget_tset_ne _ _ h _

/-- A store changes nothing but the bytes of CP memory. -/
theorem memPut_frame (bs : List Byte) (s : State) (d P : Nat) :
    memPut s d P bs = { s with mem := { s.mem with bytes := (memPut s d P bs).mem.bytes } } := by
  induction bs generalizing s P with
  | nil => rfl
  | cons b bs ih => rw [memPut, ih]; rfl

end Sys2Proof.Machine
end

