-- ==== Sys2Proof/Laws/Signals.lean ====
section
/-! SUPPORT. What an interrupt, an event and a counter may touch: the lemmas to cite in place of unfolding them. -/

namespace Sys2Proof.Machine

/-- From `s` to `t` only the signalling registers and what an event or an interrupt leaves changed, and the register file
stayed canonical if it was. -/
def Signals (s t : State) : Prop :=
  signalsOnly s t ∧ (∀ o, signalReg o = false → getReg t o = getReg s o) ∧ (regsCanon s → regsCanon t)

theorem Signals.refl (s : State) : Signals s s := ⟨rfl, fun _ _ => rfl, id⟩

theorem Signals.trans {s t u : State} (h : Signals s t) (k : Signals t u) : Signals s u := by
  obtain ⟨h1, h2, h3⟩ := h
  obtain ⟨k1, k2, k3⟩ := k
  refine ⟨?_, fun o ho => (k2 o ho).trans (h2 o ho), fun c => k3 (h3 c)⟩
  unfold signalsOnly at *
  rw [k1, h1]

/-- A signalling register set. -/
theorem Signals.setReg (s : State) {o : Nat} (ho : signalReg o = true) (v : Word) : Signals s (setReg s o v) :=
  ⟨rfl, fun o' h => getReg_setReg_ne s (by rintro rfl; simp [ho] at h) v, fun c => regsCanon_setReg c o v⟩

theorem Signals.fset (s : State) (f : Fld) (hf : signalReg f.off = true) (v : Nat) : Signals s (fset s f v) :=
  Signals.setReg s hf _

theorem Signals.bump (s : State) {o : Nat} (ho : signalReg o = true) : Signals s (bump s o) := Signals.setReg s ho _

theorem Signals.setEvr (s : State) (f : EvrSt → EvrSt) : Signals s (setEvr s f) := ⟨rfl, fun _ _ => rfl, id⟩

theorem Signals.setHost (s : State) (f : HostSt → HostSt) : Signals s (setHost s f) := ⟨rfl, fun _ _ => rfl, id⟩

theorem Signals.emit (s : State) (o : Output) : Signals s (emit s o) := ⟨rfl, fun _ _ => rfl, id⟩

theorem Signals.forEach {β : Type} {l : List β} {f : State → β → State} (hf : ∀ s a, Signals s (f s a)) (s : State) :
    Signals s (forEach l s f) :=
  forEach_keeps (P := Signals s) (fun _ a _ h => h.trans (hf _ a)) (Signals.refl s)

theorem Signals.forRange {n : Nat} {f : State → Nat → State} (hf : ∀ s i, Signals s (f s i)) (s : State) :
    Signals s (forRange n s f) := Signals.forEach hf s

theorem Signals.ite {c : Prop} [Decidable c] {s a b : State} (ha : Signals s a) (hb : Signals s b) :
    Signals s (if c then a else b) := by split <;> assumption

theorem signalReg_evt (i : Nat) (h : i < 0x1080) : signalReg (PMC_EVT i) = true := by
  unfold signalReg PMC_EVT
  simp only [Bool.or_eq_true, Bool.and_eq_true, decide_eq_true_eq]
  left; left; left
  omega

theorem msixSend_signals (s : State) (v : Nat) : Signals s (msixSend s v) := by
  unfold msixSend
  exact Signals.ite (Signals.setHost _ _) (Signals.emit _ _)

theorem icEval_signals (s : State) : Signals s (icEval s) := by
  refine Signals.forRange (fun s t => ?_) s
  unfold icEvalOne
  dsimp only
  by_cases ht : t < 4
  · rw [if_pos ht]
    exact (Signals.setHost _ _).trans (Signals.setHost _ _)
  · rw [if_neg ht]
    refine (Signals.setHost _ _).trans (Signals.ite (Signals.refl _) ?_)
    refine (Signals.setHost _ _).trans (Signals.ite (msixSend_signals _ _) (Signals.refl _))

/-- A doorbell touches its source, the offers it makes, and the count of merged doorbells. -/
theorem ring_signals (s : State) {src : Nat} (h : src < 4096) : Signals s (ring s src) := by
  have hs : signalReg (IC_SRC.STATE src).off = true := by
    unfold signalReg
    simp only [Bool.or_eq_true]
    right
    have h1 : 0x101000 ≤ 0x101000 + 8 * src := by omega
    have h2 : 0x101000 + 8 * src < 0x109000 := by omega
    simp [inSrc, IC_SRC.STATE, IC_SRC, h2]
  unfold ring
  split
  · exact (Signals.fset s _ hs _).trans (icEval_signals _)
  · exact (Signals.fset s _ hs _).trans (icEval_signals _)
  · exact Signals.bump s rfl

theorem notify_signals (s : State) (k : Session) (r : Rec) : Signals s (notify s k r) :=
  Signals.ite (Signals.emit _ _) (Signals.ite (Signals.refl _) (Signals.setEvr _ _))

theorem notifyAll_signals (s : State) (r : Rec) : Signals s (notifyAll s r) :=
  Signals.forEach (fun _ _ => Signals.ite (notify_signals _ _ _) (Signals.refl _)) s

theorem evrWatermark_signals (s : State) : Signals s (evrWatermark s) := by
  unfold evrWatermark
  dsimp only
  split
  · exact (Signals.setEvr _ _).trans (ring_signals _ (by omega))
  · exact Signals.setEvr _ _

theorem evrTake_signals (s : State) (r : Rec) : Signals s (evrTake s r) :=
  ((Signals.setEvr _ _).trans (notifyAll_signals _ _)).trans (evrWatermark_signals _)

theorem evrOffer_signals (s : State) (r : Rec) : Signals s (evrOffer s r) := by
  unfold evrOffer
  split
  · exact (Signals.setEvr s _).trans (Signals.bump _ rfl)
  · exact evrTake_signals _ _

/-- An event counts, is recorded and rings; nothing else of the module changes. -/
theorem event_signals (s : State) {block code : Nat} (h : 256 * block + code < 0x1080) (sev die ctx unit : Nat)
    (data : List Byte) : Signals s (event s block code sev die ctx unit data) :=
  (Signals.bump s (signalReg_evt _ h)).trans (evrOffer_signals _ _)

/-- So does an event with a rate limit. -/
theorem eventLim_signals (s : State) (key len : Nat) {block code : Nat} (h : 256 * block + code < 0x1080)
    (sev die ctx unit : Nat) (data : List Byte) : Signals s (eventLim s key len block code sev die ctx unit data) := by
  unfold eventLim
  dsimp only
  refine (Signals.bump s (signalReg_evt _ h)).trans ?_
  split
  · split
    · exact Signals.setEvr _ _
    · split
      · exact (Signals.setEvr _ _).trans (evrOffer_signals _ _)
      · exact (evrOffer_signals _ _).trans (Signals.setEvr _ _)
  · exact (Signals.setEvr _ _).trans (evrOffer_signals _ _)

end Sys2Proof.Machine
end

