-- ==== Sys2Proof/Tests/Slice0.lean ====
section
/-! SUPPORT. Tests: what WellFormed refuses, single steps worked out from the spec by hand, and for every obligation states and
operands that meet the hypotheses of each of its clauses. -/

namespace Sys2Proof.Wit

open Sys2Proof.Machine Sys2Proof.Claim

set_option Elab.async false

/-! States the tests and witnesses start from. -/

/-- A powered module in a mode, with some registers set. -/
def on (m : Nat) (fs : List (Fld × Nat)) : State :=
  fs.foldl (fun s f => fset s f.1 f.2) (setMode { State.reset with sys := { powered := true, lasersOn := true, gateRules := true, bootDone := true } } m)

/-- A lit port 8 in UP in WOVEN. -/
def lit : State :=
  { on mWOVEN [(OPT_FIBRE.LIGHT 1, 1), (OPT_FIBRE.OPEN 1, 1), (OPT_LANE.LOS 8, 0), (OPT_LANE.LOL 8, 0), (OPT_LANE.NOLASER 8, 0), (PRT_STATE.STATE 8, pUP)] with
    ports := [(8, { under := pUP })], fibres := [(1, { dark := false })] }
/-- The same in Ethernet mode. -/
def eth : State := { lit with sys := { lit.sys with str := { portMode := [(8, 9)] } } }

/-- Port 9 UP beside port 8; chip 5 is reached through port 9. -/
def routed : State :=
  { fset lit (PRT_STATE.STATE 9) pUP with
    ports := [(8, { under := pUP, advD := [(3, 36)] }), (9, { under := pUP })],
    tbl := { copies := [(4, [(5, { key := directKey 4 5, data := fit 144 [0, 0, 0, 0, 9] })])] } }
/-- Ports 8 and 9 UP in Ethernet mode; a station is reached through port 9. -/
def bridged : State :=
  { fset (fset eth (PRT_STATE.STATE 9) pUP) (PRT_L3.ROUTE 8) 0 with
    sys := { eth.sys with str := { portMode := [(8, 9), (9, 9)] } },
    ports := [(8, { under := pUP }), (9, { under := pUP })],
    tbl := { copies := [(5, [(77, { key := l2Key 1 0x020202020202, data := fit 144 [0, 0, 0, 0, 9] })])] } }
/-- One frame waits on SW0 for port 9. -/
def queued : State :=
  { routed with core := { voqs := [(147, { tail := 36, ents := [.frame { id := 3, hdr := mkHdr 5 7 3 0 0 0 0 0 0 4 0 0, body := [1, 2, 3, 4], ingress := 8, chan := 3, dec := 9 }] })] } }

/-- A table command descriptor. -/
def desc (op table flags tag arg : Nat) (key data : List Byte) : List Byte :=
  le 1 op ++ le 1 table ++ le 2 flags ++ le 4 tag ++ le 8 arg ++ fit 32 key ++ fit 144 data
/-- The same with a command of the register path at the head of the order. -/
def ordered (d : List Byte) : State :=
  { fset routed TBL_CMD_STAT.BUSY 1 with
    tbl := { copies := [4, 12, 20, 28].map fun i => (i, [(5, { key := directKey 4 5, data := fit 144 [0, 0, 0, 0, 9] })]), order := [.cmd d none] } }

/-- Group 5 of context 3 on SW1: three contributions of one binary32 element a chunk, one member port 8. -/
def contrib : Frame := { hdr := mkHdr 0 7 2 3 0 0 tCONTRIB (2 ^ flRED) 0 4 0 (redW2 5 7 0), body := le 4 0x3F800000, ingress := 8, chan := 2 }
def ackFrame : Frame := { hdr := mkHdr 0 7 2 3 0 0 tRESULT_ACK (2 ^ flRED) 0 4 0 (redW2 5 7 0), body := le 4 1, ingress := 8, chan := 2 }
def resendFrame : Frame := { hdr := mkHdr 0 7 2 3 0 0 tRESEND_REQ (2 ^ flRED) 0 0 0 (redW2 5 7 0), body := [], ingress := 8, chan := 2 }
/-- One contribution has been added to its chunk 0, a second waits at IO1. -/
def reducing : State :=
  { fset lit (CTX_STAT.STATE 3) 2 with
    tbl := { copies := [6, 14, 22, 30].map fun i => (i, [(6, { key := directKey 6 6, data := fit 144 [0, 1, 0, 1] })]) },
    core := { ioq := [(1, [contrib])] },
    pic := { groups := [(5, { w0 := BitVec.ofNat 64 (1 + 2 * 1 + 3 * 2 ^ 4 + 2 * 2 ^ 16 + 6 * 2 ^ 20), w1 := BitVec.ofNat 64 (3 + 2 ^ 32) })],
             colls := [{ ctx := 3, group := 5, cseq := 7, die := 1, chunks := [{ idx := 0, n := 1, count := 1, acc := [w48of (.fin false 1 0)], engine := 8 }] }] } }

/-- A stitch: OP, W, P, TQ, RD, RA, RB, IMM. -/
def stitchOf (op w p tq rd ra rb imm : Nat) : Word :=
  BitVec.ofNat 64 (op * 2 ^ 56 + w * 2 ^ 55 + p * 2 ^ 54 + tq * 2 ^ 50 + rd * 2 ^ 46 + ra * 2 ^ 42 + rb * 2 ^ 38 + imm)
/-- A worker whose needle 1 is at a stitch: G1 = 8, G2 = −3, a token in Q2, route 0 to bobbin 4, inlet 5 of queue 2. -/
def worker (w : Word) : Bobbin :=
  { record := { role := 1, needles := 2, prog := List.replicate 8 w, routes := [BitVec.ofNat 64 0x401], inlets := [BitVec.ofNat 128 (5 + 2 * 2 ^ 8 + 4096 * 2 ^ 32 + 4096 * 2 ^ 64)] },
    region := 0, store := [(16, 7)], queues := [(2, [{ hdr := 1, w0 := 2, w1 := 3, w2 := 4 }])],
    needles := [(1, { running := true, regs := [(1, 8), (2, 0xFFFFFFFFFFFFFFFD)] })] }
/-- Region 0 of context 3 runs it as bobbin 3; bobbin 4 is the region's too. -/
def needling (w : Word) : State :=
  { on mWOVEN [(BOB_RGN_STAT.STATE 0, 2), (PRK_RGEN.OWNED 0, 1), (PRK_RGEN.CONTEXT 0, 3), (CTX_STAT.STATE 3, 2)] with
    bob := { bobs := [(3, worker w), (4, { region := 0, record := { role := 2 } })] },
    sys := { powered := true, active := some { cp := [(0, 1)] } },
    mem := { winFr := [(3, [(4, 0)])] } }
/-- The same with bytes in inlet 5's ring and G1 inside it. -/
def ringed (w : Word) : State :=
  { needling w with bob := { bobs := [(3, { worker w with inlets := [(0, { head := 128, used := 64 })], needles := [(1, { running := true, regs := [(1, 4096 + 72)] })] })] } }
/-- An asynchronous stitch with its descriptor at G1 = 8. -/
def described (op : Nat) (d : List Byte) : State :=
  let w := stitchOf op 0 0 0 0 1 0 0x15
  { needling w with bob := { bobs := [(3, { worker w with store := (List.range 64).filterMap fun i => if fieldAt d i 1 = 0 then none else some (8 + i, BitVec.ofNat 8 (fieldAt d i 1)) }), (4, { region := 0, record := { role := 2 } })] } }
/-- Region 0's bobbin 3, with one asynchronous stitch outstanding, changed. -/
def holding (f : Bobbin → Bobbin) : State :=
  { needling 0 with bob := { bobs := [(3, f { worker 0 with needles := [(1, { running := true, pendAsync := 1 })] }), (4, { region := 0, record := { role := 2 } })] } }
/-- A DATA frame for inlet 5 of region 0 waits at IO4. -/
def delivering : State :=
  { holding (fun b => { b with inlets := [(0, { head := 100, used := 72 })] }) with
    core := { ioq := [(4, [{ hdr := mkHdr 0 7 2 3 0 0 tDATA 0 0 5 0 (5 * 2 ^ 34), body := [1, 2, 3, 4, 5] }])] } }
/-- A PUT, a GET and a GET_RESP of context 3. -/
def putFrame : Frame := { hdr := mkHdr 0 7 2 3 0 0 tPUT 0 0 3 0 64, body := [1, 2, 3], chan := 2 }
def getFrame : Frame := { hdr := mkHdr 0 7 2 3 0 0 tGET 0 0 16 0 64, body := le 4 3 ++ le 4 0 ++ le 8 77, chan := 2 }
def respFrame : Frame := { hdr := mkHdr 0 9 10 3 0 0 tGET_RESP 0 0 64 0 77, body := List.replicate 64 0, chan := 10 }
/-- Context 3 has one window frame on CP0, and a frame waits at an internal output. -/
def holdsIo (io : Nat) (f : Frame) : State := { needling 0 with core := { ioq := [(io, [f])] } }
/-- An owner record with no payload and no signature. -/
def ownRec (cmd : Nat) : List Byte := le 4 0x4E574F48 ++ le 2 cmd ++ List.replicate 46 (0 : Byte)

/-! What WellFormed refuses: for each check one command that breaks it. -/

theorem test_wf_codewords : (Instr.sdWindow 0 5 4).wf = false := by decide
theorem test_wf_codewords_all_corrected : (Instr.sdWindow 0 5 5).wf = true := by decide
theorem test_wf_payload : (Instr.frameRx 0 0 (List.replicate 8193 0) false false).wf = false := by
  simp only [Instr.wf, List.length_replicate]; decide
theorem test_wf_eth_frame : (Instr.ethFrameRx 0 (List.replicate 65536 0) false false).wf = false := by
  simp only [Instr.wf, List.length_replicate]; decide
theorem test_wf_waveguide : (Instr.interposerLaneFail 6 20 0).wf = false := by decide
theorem test_wf_wavelength : (Instr.interposerLaneFail 6 19 34).wf = false := by decide
theorem test_wf_last_waveguide : (Instr.interposerLaneFail 6 19 33).wf = true := by decide
theorem test_wf_body : bodyOk (List.replicate (2 ^ 32) 0) = false := by
  simp only [bodyOk, List.length_replicate]; decide
theorem test_wf_digest : (Instr.handshakeMessage 0 (.authenticated 1 [0])).wf = false := by decide
theorem test_wf_image_data : (Instr.imageEntry 0 (List.replicate 1048577 0) false false).wf = false := by
  simp only [Instr.wf, List.length_replicate]; decide
theorem test_wf_queue_entries : (Instr.dqTailWrite 0 0 0 [0]).wf = false := by decide
theorem test_wf_unsupported : (Instr.bar0Unsupported 8 8 false).wf = false := by decide
theorem test_wf_unsupported_size : (Instr.bar0Unsupported 8 4 false).wf = true := by decide

/-! One step each; what is expected is worked out by hand from the rule named. -/

/-- What the command leaves, seen through `f`. -/
def after {α : Type} (c : Instr) (s : State) (f : State → α) : Option α :=
  match exec c s with
  | .next t => some (f t)
  | _ => none

/-- The state a step leaves. -/
def stepped (s : State) : State :=
  match step s with
  | .next t => t
  | _ => s

/-- Check values of the two CRCs over "123456789" (R176 and Ethernet's FCS; values from the CRC catalogue). -/
theorem test_crc32_check : crc32 [0x31, 0x32, 0x33, 0x34, 0x35, 0x36, 0x37, 0x38, 0x39] = 0xCBF43926 := by decide +kernel
theorem test_crc32c_check : crc32c [0x31, 0x32, 0x33, 0x34, 0x35, 0x36, 0x37, 0x38, 0x39] = 0xE3069283 := by decide +kernel

/-- AES-256-GCM of one block of zeros under key and nonce zero: ciphertext and tag of test case 14 of the GCM specification. -/
theorem test_gcm_block : gcmSeal 0 0 [] (List.replicate 16 0) =
    [0xCE, 0xA7, 0x40, 0x3D, 0x4D, 0x60, 0x6B, 0x6E, 0x07, 0x4E, 0xC5, 0xD3, 0xBA, 0xF3, 0x9D, 0x18,
     0xD0, 0xD1, 0xC8, 0xA7, 0x99, 0x99, 0x6B, 0xF0, 0x26, 0x5B, 0x98, 0xB5, 0xD4, 0x8A, 0xB9, 0x19] := by decide +kernel
/-- R379: with both references lost REFOUT carries nothing, and `TB_STAT.REF` reads 2. -/
theorem test_both_lost : after (.refLoss false) { on mBASIC [] with sys := { powered := true, refGood := 1 } }
    (fun t => (fget t TB_STAT.REF, refOut t)) = some (2, none) := by decide +kernel
/-- R455: a module powered with one good reference starts in BOOT, which is 0. -/
theorem test_powerup_boot : after (.powerUp 0 0 0 true true) State.reset (fun t => (t.sys.powered, t.mode)) = some (true, 0) := by
  decide +kernel
/-- R456: BASIC is entered once the lasers have power. -/
theorem test_basic : after .enterBasic { on mBOOT [] with sys := { powered := true, lasersOn := true } } State.mode = some 1 := by
  decide +kernel
/-- R20: a strap that differs sets CHANGED, bit 22. -/
theorem test_strap_changed : after (.strapCheck 5) (on mBASIC []) (fun t => bits (getReg t 0x40).toNat 22 1) = some 1 := by
  decide +kernel
/-- R32: RATE in [15:0], TJ in [43:32] of the monitor's register. -/
theorem test_pace_window : after (.paceWindow 3 1300 400) { on mBASIC [] with tb := 10000 * 2 ^ 32 }
    (fun t => (fget t (PMC_PACE.RATE 3), fget t (PMC_PACE.TJ 3), fbit t (PMC_PACE.BELOW 3))) = some (1300, 400, false) := by
  decide +kernel
/-- R33: a rate below 1,200 M/s sets BELOW of a bobbin's monitor. -/
theorem test_pace_below : after (.paceWindow 3 1199 400) { on mBASIC [] with tb := 10000 * 2 ^ 32 } (fun t => fbit t (PMC_PACE.BELOW 3)) = some true := by
  decide +kernel
/-- R79: loss of signal on a lane of a port that is down sets LOS and keeps the received power. -/
theorem test_los : after (.losAssert 8 3) (on mWOVEN [(OPT_LANE.LOS 8, 0)]) (fun t => fget t (OPT_LANE.LOS 8)) = some 1 := by
  decide +kernel
/-- R147: with room at its egress die, a frame alone in the switch core leaves its VOQ in an epoch. -/
theorem test_frame_queued : after .schedEpoch queued (fun t => (voq t 147).ents.length) = some 0 := by decide +kernel

/-! Stitches: G1 = 8, G2 = −3 (Table 11.7). -/

/-- Register G3 of the needle after the stitch. -/
def g3 (c : Instr) (w : Word) : Option Int := after c (needling w) fun t => (gReg (bob t 3) 1 3).toInt

theorem test_add : g3 (.add 3 1) (stitchOf 0x11 0 0 0 3 1 2 0) = some 5 := by decide +kernel
theorem test_sub : g3 (.sub 3 1) (stitchOf 0x12 0 0 0 3 1 2 0) = some 11 := by decide +kernel
theorem test_mul : g3 (.mul 3 1) (stitchOf 0x13 0 0 0 3 1 2 0) = some (-24) := by decide +kernel
theorem test_addi_sign : g3 (.addi 3 1) (stitchOf 0x10 0 0 0 3 1 0 0xFFFFFFFF) = some 7 := by decide +kernel
theorem test_and : g3 (.and 3 1) (stitchOf 0x14 0 0 0 3 1 2 0) = some 8 := by decide +kernel
theorem test_or : g3 (.or 3 1) (stitchOf 0x15 0 0 0 3 1 2 0) = some (-3) := by decide +kernel
theorem test_xor : g3 (.xor 3 1) (stitchOf 0x16 0 0 0 3 1 2 0) = some (-11) := by decide +kernel
theorem test_shl_amount : g3 (.shl 3 1) (stitchOf 0x17 0 0 0 3 1 0 65) = some 16 := by decide +kernel
theorem test_shr_logical : g3 (.shr 3 1) (stitchOf 0x18 0 0 0 3 2 0 60) = some 15 := by decide +kernel
theorem test_li_zero_extends : g3 (.li 3 1) (stitchOf 0x19 0 0 0 3 1 2 0xFFFFFFFF) = some 0xFFFFFFFF := by decide +kernel
theorem test_lih : g3 (.lih 3 1) (stitchOf 0x1A 0 0 0 3 1 2 2) = some 0x200000008 := by decide +kernel
/-- The store holds 7 at byte 16. -/
theorem test_ld : g3 (.ld 3 1) (stitchOf 0x1B 0 0 0 3 1 2 8) = some 7 := by decide +kernel
theorem test_ld_misaligned : after (.ld 3 1) (needling (stitchOf 0x1B 0 0 0 3 1 2 4)) (fun t => fget t (BOB_RGN_STAT.FAULT 0)) = some 1 := by
  decide +kernel
theorem test_jmp : after (.jmp 3 1) (needling (stitchOf 0x03 0 0 0 0 0 0 5)) (fun t => (needle (bob t 3) 1).pc) = some 5 := by
  decide +kernel
theorem test_blt_signed : after (.blt 3 1) (needling (stitchOf 0x05 0 0 0 0 2 1 5)) (fun t => (needle (bob t 3) 1).pc) = some 5 := by
  decide +kernel
theorem test_err_value : after (.err 3 1) (needling (stitchOf 0x02 0 0 0 0 0 0 0xABCD))
    (fun t => (fget t (BOB_RGN_STAT.FAULT 0), fget t (BOB_RGN_STAT.FVALUE 0))) = some (6, 0xABCD) := by decide +kernel
theorem test_tokw_header : g3 (.tokw 3 1) (stitchOf 0x06 1 0 2 3 0 0 3) = some 1 := by decide +kernel

/-! Interrupts (R426): IDLE 0, PENDING 1, TAKEN 2, TAKEN with another ring 3. -/

theorem test_doorbell : after (.icDoorbell 1 300) (on mWOVEN []) (fun t => fget t (IC_SRC.STATE 300)) = some 1 := by decide +kernel
theorem test_doorbell_taken : after (.icDoorbell 1 300) (on mWOVEN [(IC_SRC.STATE 300, 2)]) (fun t => fget t (IC_SRC.STATE 300)) = some 3 := by
  decide +kernel
theorem test_doorbell_merged : after (.icDoorbell 1 300) (on mWOVEN [(IC_SRC.STATE 300, 1)])
    (fun t => (fget t (IC_SRC.STATE 300), getReg t IC_MERGED)) = some (1, 1) := by decide +kernel

/-! The whole block. -/

/-- An empty queue: a nanosecond passes on a powered module. -/
theorem test_idle : (stepped (on mWOVEN [])).tb = 2 ^ 32 := by decide +kernel
/-- A step takes the front command and leaves the rest. -/
theorem test_step_takes_front : (stepped { on mWOVEN [] with pending := [.strapCheck 5, .latchOpen] }).pending = [.latchOpen] := by
  decide +kernel
/-- The table gives no row bits, so no word spells a command. -/
theorem test_no_bits : decodeTableWord 32 5 = none := rfl

/-- A state with canonical registers from which a step answers a state. -/
theorem witness_StepKeepsRegistersCanonical : ∃ s t : State, regsCanon s ∧ step s = .next t := by
  refine ⟨{ on mWOVEN [] with pending := [.strapCheck 5] }, stepped { on mWOVEN [] with pending := [.strapCheck 5] }, ?_, ?_⟩
  · unfold regsCanon Canon
    decide +kernel
  · rfl

/-- A safe run: the straps are checked twice. -/
theorem witness_SafeRun : SafeRun [.strapCheck 5, .strapCheck 7] (on mBASIC []) := by
  refine ⟨by decide, ?_, by decide +kernel, stepped (stepped { on mBASIC [] with pending := [.strapCheck 5, .strapCheck 7] }),
    rfl, ?_, ?_, ?_⟩
  · unfold regsCanon Canon
    decide +kernel
  · decide +kernel
  · unfold regsCanon Canon
    decide +kernel
  · decide +kernel

/-! Witnesses of the obligations. -/

/-- Every clause of IdleStepPassesTime has states and operands that meet its hypotheses. -/
theorem witness_IdleStepPassesTime :
    (∃ (s : State),
      (s.pending = []) ∧ (s.sys.powered = true) ∧ (s.tel.queue = [])) ∧
    (∃ (s : State),
      (s.pending = []) ∧ (s.sys.powered = false) ∧ (s.tel.queue = [])) := by
  refine ⟨⟨on mWOVEN [], ?_⟩,
    ⟨State.reset, ?_⟩⟩ <;> (try dsimp only) <;> decide

/-- Every clause of PowerUpStartsInBoot has states and operands that meet its hypotheses. -/
theorem witness_PowerUpStartsInBoot :
    (∃ (s : State) (s0 : BitVec 11) (s1 : BitVec 11) (s2 : BitVec 11) (xa : Bool) (xb : Bool),
      (s.sys.powered = false)) ∧
    (∃ (s : State),
      (s.sys.powered = false)) := by
  refine ⟨⟨({ State.reset with sys := { latchOpen := true } } : State), 0#11, 0#11, 5#11, true, true, ?_⟩,
    ⟨({ State.reset with sys := { latchOpen := true } } : State), ?_⟩⟩ <;> (try dsimp only) <;> decide

/-- Every clause of NoPowerNothingRuns has states and operands that meet its hypotheses. -/
theorem witness_NoPowerNothingRuns :
    (∃ (c : Instr) (s : State),
      (s.sys.powered = false) ∧ (isPowerUp c = false)) ∧
    (∃ (s : State),
      (s.sys.powered = true)) := by
  refine ⟨⟨.latchOpen, ({ State.reset with nvs := { powerCount := 4 } } : State), ?_⟩,
    ⟨on mWOVEN [(PRK_AT.NS, 5)], ?_⟩⟩ <;> (try dsimp only) <;> decide

/-- Every clause of StartSequence has states and operands that meet its hypotheses. -/
theorem witness_StartSequence :
    (∃ (s : State),
      (s.sys.powered = true) ∧ (s.sys.lasersOn = false) ∧ (s.sys.latchOpen = false) ∧ (s.sys.bootDone = true) ∧
      (s.sys.ctlFault = false)) ∧
    (∃ (s : State),
      (s.sys.powered = true) ∧ (s.mode = mBOOT) ∧ (s.sys.lasersOn = true) ∧ (s.sys.latchOpen = false)) ∧
    (∃ (s : State) (pins : BitVec 11),
      (s.sys.powered = true) ∧ (pins ≠ s.sys.straps)) ∧
    (∃ (s : State),
      (s.sys.powered = true)) ∧
    (∃ (s : State),
      (s.sys.powered = true) ∧ (s.sys.latchOpen = false) ∧ (testFree s = true)) ∧
    (∃ (s : State),
      ((∀ k ∈ s.sec.sessions, k.held = []))) := by
  refine ⟨⟨({ on mBASIC [] with sys := { powered := true, bootDone := true } } : State), ?_⟩,
    ⟨on mBOOT [], ?_⟩,
    ⟨on mWOVEN [], 9#11, ?_⟩,
    ⟨on mWOVEN [], ?_⟩,
    ⟨on mWOVEN [], ?_⟩,
    ⟨on mWOVEN [], ?_⟩⟩ <;> (try dsimp only) <;> decide

/-- Every clause of ModeCommands has states and operands that meet its hypotheses. -/
theorem witness_ModeCommands :
    (∃ (p : Fin 13) (s : State),
      (accepts s p CTL_MODE_CMD 1 = true) ∧ (s.mode = mBASIC ∨ s.mode = mWOVEN)) ∧
    (∃ (p : Fin 13) (s : State),
      (accepts s p CTL_MODE_CMD 2 = true) ∧ (s.mode = mMAINT)) ∧
    (∃ (p : Fin 13) (s : State),
      (accepts s p CTL_MODE_CMD 3 = true) ∧ (s.mode = mBASIC ∨ s.mode = mWOVEN ∨ s.mode = mMAINT)) ∧
    (∃ (p : Fin 13) (s : State),
      (accepts s p CTL_MODE_CMD 4 = true) ∧ (s.mode = mDRAINING) ∧ (s.sys.drainFrom = mBASIC ∨ s.sys.drainFrom = mMAINT)) := by
  refine ⟨⟨1, on mWOVEN [], ?_⟩,
    ⟨2, on mMAINT [(PRK_ACTIVE.IMAGE_ID, 7)], ?_⟩,
    ⟨3, on mBASIC [], ?_⟩,
    ⟨1, ({ on mDRAINING [] with sys := { (on mDRAINING []).sys with drainFrom := mMAINT } } : State), ?_⟩⟩ <;> (try dsimp only) <;> decide

/-- Every clause of SelfTests has states and operands that meet its hypotheses. -/
theorem witness_SelfTests :
    (∃ (p : Fin 13) (s : State) (u : BitVec 10),
      (accepts s p CTL_TEST_CMD (BitVec.ofNat 64 (u.toNat * 2 ^ 16 + 1 * 2 ^ 8 + 1)) = true) ∧ (s.mode ≠ mDRAINING) ∧
      (portFenced s u.toNat = true)) ∧
    (∃ (p : Fin 13) (s : State) (k : BitVec 4) (u : BitVec 10),
      (accepts s p CTL_TEST_CMD (BitVec.ofNat 64 (u.toNat * 2 ^ 16 + k.toNat * 2 ^ 8 + 1)) = true) ∧ ((s.mode = mDRAINING ∨
      (k.toNat < 6 ∨ k.toNat = 8) ∧ testHolds s k.toNat u.toNat = false))) ∧
    (∃ (p : Fin 13) (s : State),
      (s.sys.powered = true) ∧ (pathLive s p.val = true) ∧ (writeReason s p.val CTL_TEST_CMD 2 = 0) ∧ (testActive s = true)
      ∧ (testKind s ≠ 7) ∧ (s.test.started ≠ 0)) ∧
    (∃ (s : State),
      (s.sys.powered = true) ∧ (fget s CTL_TEST_STAT.STATE = 1) ∧ (testKind s = 4) ∧ (engineFree s (testUnit s) = true)) ∧
    (∃ (s : State),
      (s.sys.powered = true) ∧ (fget s CTL_TEST_STAT.STATE = 1) ∧ (testKind s = 4) ∧ (s.test.started ≠ 0) ∧ (s.elapsed
      s.test.wait 60000000000 = true)) ∧
    (∃ (s : State) (d : BitVec 8) (r0 : BitVec 24) (r1 : BitVec 40),
      (s.sys.powered = true) ∧ (fget s CTL_TEST_STAT.STATE = 2) ∧ (testKind s = 4) ∧ (testUnit s < 32) ∧ (s.test.started ≠
      0) ∧ (s.sys.ctlFault = false)) ∧
    (∃ (pass : Bool) (s : State) (d : BitVec 8) (r0 : BitVec 24) (r1 : BitVec 40),
      (s.sys.powered = true) ∧ (fget s CTL_TEST_STAT.STATE = 2) ∧ ((testKind s = 2 ∨ testKind s = 8)) ∧ (s.test.started ≠ 0)) := by
  refine ⟨⟨1, ({ on mMAINT [(PRT_STATE.FENCE 8, 1)] with ports := [(8, { under := pDOWN })] } : State), 8#10, ?_⟩,
    ⟨1, on mDRAINING [], 3#4, 9#10, ?_⟩,
    ⟨1, ({ on mMAINT [(CTL_TEST_STAT.STATE, 2), (CTL_TEST_STAT.KIND, 2)] with test := { started := 1 } } : State), ?_⟩,
    ⟨({ on mMAINT [(CTL_TEST_STAT.STATE, 1), (CTL_TEST_STAT.KIND, 4), (CTL_TEST_STAT.UNIT, 31)] with test := { started := 1 } } : State), ?_⟩,
    ⟨({ on mMAINT [(CTL_TEST_STAT.STATE, 1), (CTL_TEST_STAT.KIND, 4), (CTL_TEST_STAT.UNIT, 31)] with test := { started := 1 }, mono := 60000000000 * 2 ^ 32 } : State), ?_⟩,
    ⟨({ on mMAINT [(CTL_TEST_STAT.STATE, 2), (CTL_TEST_STAT.KIND, 4), (CTL_TEST_STAT.UNIT, 31)] with test := { started := 1 } } : State), 3#8, 4#24, 5#40, ?_⟩,
    ⟨false, ({ on mMAINT [(CTL_TEST_STAT.STATE, 2), (CTL_TEST_STAT.KIND, 8), (CTL_TEST_STAT.UNIT, 31)] with test := { started := 1 } } : State), 3#8, 4#24, 5#40, ?_⟩⟩ <;> (try dsimp only) <;> decide

/-- Every clause of Monitors has states and operands that meet its hypotheses. -/
theorem witness_Monitors :
    (∃ (n : Fin 1160) (rate : BitVec 16) (tj : BitVec 12) (s : State),
      (s.sys.powered = true) ∧ (paceReserved n.val = false) ∧ ((paceDie n.val = 8 ∨ dieUp s (paceDie n.val) = true)) ∧ (tget
      0 s.sys.paceWin n.val ≠ paceIndex s)) ∧
    (∃ (p : Fin 13) (s : State),
      (accepts s p PMC_PACE_CLR 1 = true)) ∧
    (∃ (d : Fin 4) (k : Fin 16) (temp : BitVec 12) (s : State),
      let cur := tget 0 s.sys.thermal (16 * d.val + k.val)
      (s.sys.powered = true) ∧ (testFree s = true) ∧ (temp.toNat < 1000) ∧ (cur ≤ 2)) ∧
    (∃ (temp : BitVec 12) (d : Fin 4) (n : Fin 16) (s : State),
      (testFree s = true) ∧ (temp.toNat < 1000)) ∧
    (∃ (temp : BitVec 12) (d : Fin 4) (k : Fin 16) (s : State),
      (s.sys.powered = true) ∧ (testFree s = true) ∧ (1000 ≤ temp.toNat)) ∧
    (∃ (chan : BitVec 32) (k : Fin 4) (mask : BitVec 8) (waited : Nat) (s : State),
      (s.sys.powered = true) ∧ (testFree s = true) ∧ (isIsolated s chan.toNat = false) ∧ (1000000 ≤ waited) ∧ (waited ≤
      s.now) ∧ ((s.sec.sessions.map (·.sid)).Nodup)) ∧
    (∃ (chan : BitVec 32) (i : Fin 640) (waited : Nat) (s : State),
      (s.sys.powered = true) ∧ (testFree s = true) ∧ (isIsolated s chan.toNat = false) ∧ (40000 ≤ waited) ∧ (waited ≤ s.now)) ∧
    (∃ (chan : BitVec 32) (e : Fin 32) (d : Fin 9) (waited : Nat) (s : State),
      (s.sys.powered = true) ∧ (testFree s = true) ∧ (isIsolated s chan.toNat = false) ∧ (10000 ≤ waited) ∧ (waited ≤ s.now)) ∧
    (∃ (chan : BitVec 32) (u : WdTarget) (waited : Nat) (it : WdItem) (s : State),
      (testFree s = true) ∧ ((isIsolated s chan.toNat = true ∨ waited < wdLimit u))) ∧
    (∃ (chan : BitVec 32) (s : State),
      (s.sys.powered = true) ∧ (isIsolated s chan.toNat = true)) := by
  refine ⟨⟨0, 0x400#16, 800#12, ({ on mWOVEN [] with tb := 12345 * 2 ^ 32 } : State), ?_⟩,
    ⟨1, on mWOVEN [], ?_⟩,
    ⟨3, 15, 921#12, on mWOVEN [], ?_⟩,
    ⟨839#12, 2, 9, on mWOVEN [], ?_⟩,
    ⟨1000#12, 2, 3, on mWOVEN [], ?_⟩,
    ⟨7#32, 2, 2#8, 1000000, ({ on mWOVEN [(CTL_LOCK.HOLDER 5, 3)] with mono := 2 ^ 60, sec := { sessions := [{ sid := 4 }, { sid := 7 }, { sid := 9 }] } } : State), ?_⟩,
    ⟨7#32, 82, 40000, ({ on mWOVEN [] with mono := 2 ^ 60 } : State), ?_⟩,
    ⟨7#32, 9, 5, 10000, ({ on mWOVEN [] with mono := 2 ^ 60 } : State), ?_⟩,
    ⟨7#32, .engine 3, 9999, .other, on mWOVEN [], ?_⟩,
    ⟨7#32, ({ on mWOVEN [] with sys := { (on mWOVEN []).sys with isolated := [(7, some { die := 1 })] } } : State), ?_⟩⟩ <;> (try dsimp only) <;> decide

/-- Every clause of VerifySlot has states and operands that meet its hypotheses. -/
theorem witness_VerifySlot :
    (∃ (p : Fin 13) (slot : BitVec 5) (s : State),
      (accepts s p PRK_CMD (BitVec.ofNat 64 (1 + slot.toNat * 2 ^ 8)) = true) ∧ (s.weave.op = 0) ∧ (s.weave.verifyQ = []) ∧
      (noneDue s)) ∧
    (∃ (p : Fin 13) (slot : BitVec 5) (s : State),
      (accepts s p PRK_CMD (BitVec.ofNat 64 (1 + slot.toNat * 2 ^ 8)) = true) ∧ (s.weave.op ≠ 0)) ∧
    (∃ (s : State),
      (s.sys.powered = true) ∧ (s.weave.op = 1) ∧ (s.weave.verifyQ = []) ∧ (noneDue s) ∧ (s.weave.slot < 18)) ∧
    (∃ (s : State),
      (s.sys.powered = true) ∧ (s.weave.op = 1) ∧ (s.weave.verifyQ = []) ∧ (noneDue s) ∧ (s.weave.slot < 18) ∧ (rdBytes
      (slotBytes s s.weave.slot) 0 4 ≠ [0x48, 0x50, 0x52, 0x4B])) ∧
    (∃ (s : State),
      (s.sys.powered = true) ∧ (s.weave.op = 1) ∧ (s.weave.verifyQ = []) ∧ (noneDue s) ∧ (s.weave.slot < 18) ∧
      (s.weave.restaged = false)) := by
  refine ⟨⟨1, 3, on mWOVEN [], ?_⟩,
    ⟨1, 17, ({ on mWOVEN [] with weave := { op := 2 } } : State), ?_⟩,
    ⟨({ on mWOVEN [] with weave := { op := 1, slot := 5 } } : State), ?_⟩,
    ⟨({ on mWOVEN [] with weave := { op := 1, slot := 5 } } : State), ?_⟩,
    ⟨({ on mWOVEN [] with weave := { op := 1, slot := 5 } } : State), ?_⟩⟩ <;> (try dsimp only) <;> decide

/-- Every clause of FullWeave has states and operands that meet its hypotheses. -/
theorem witness_FullWeave :
    let word := fun (slot : BitVec 5) (timed preempt : Bool) => BitVec.ofNat 64 (2 + slot.toNat * 2 ^ 8 + b2n preempt * 2 ^ 16 + b2n timed * 2 ^ 20)
    (∃ (p : Fin 13) (slot : BitVec 5) (preempt : Bool) (s : State),
      (accepts s p PRK_CMD (word slot false preempt) = true) ∧ (slot.toNat < 2) ∧ (fullAllowed s slot.toNat = true)) ∧
    (∃ (p : Fin 13) (slot : BitVec 5) (preempt : Bool) (s : State),
      (accepts s p PRK_CMD (word slot false preempt) = true) ∧ (slot.toNat < 2) ∧ (fullAllowed s slot.toNat = false)) ∧
    (∃ (p : Fin 13) (slot : BitVec 5) (preempt : Bool) (s : State),
      (accepts s p PRK_CMD (word slot true preempt) = true) ∧ (slot.toNat < 2)) ∧
    (∃ (s : State),
      (s.sys.powered = true) ∧ (s.mode = mWEAVING) ∧ (s.weave.op = 2) ∧ (s.weave.verifyQ = []) ∧ (noneDue s) ∧ (s.weave.slot
      < 2) ∧ ((∀ d, d < 8 → dieUp s d = true))) ∧
    (∃ (s : State),
      (s.sys.powered = true) ∧ (s.mode = mWEAVING) ∧ (s.weave.op = 2) ∧ (s.weave.verifyQ = []) ∧ (noneDue s) ∧ (s.weave.slot
      < 2)) ∧
    (∃ (how : WeaveEnd) (s : State),
      (s.sys.powered = true) ∧ (s.mode ≠ mWEAVING) ∧ (s.weave.op = 2) ∧ (s.weave.verifyQ = []) ∧ (noneDue s) ∧ (s.weave.slot
      < 2)) := by
  refine ⟨⟨1, 0, false, fset (on mBASIC []) PRK_STATUS.VERIFIED 1, ?_⟩,
    ⟨1, 0, false, on mBASIC [], ?_⟩,
    ⟨1, 1, false, on mBASIC [], ?_⟩,
    ⟨({ on mWEAVING [] with weave := { op := 2, slot := 1 } } : State), ?_⟩,
    ⟨({ on mWEAVING [] with weave := { op := 2, slot := 1 } } : State), ?_⟩,
    ⟨.ok, ({ on mFAULTED [] with weave := { op := 2, slot := 1 } } : State), ?_⟩⟩ <;> (try dsimp only) <;> decide +kernel

/-- Every clause of MotifCommit has states and operands that meet its hypotheses. -/
theorem witness_MotifCommit :
    let word := fun (slot : BitVec 5) (preempt : Bool) => BitVec.ofNat 64 (2 + slot.toNat * 2 ^ 8 + b2n preempt * 2 ^ 16)
    (∃ (p : Fin 13) (slot : BitVec 5) (preempt : Bool) (s : State),
      (accepts s p PRK_CMD (word slot preempt) = true) ∧ (2 ≤ slot.toNat) ∧ (s.mode = mWOVEN) ∧ (verified s slot.toNat =
      true) ∧ (rdN (slotBytes s slot.toNat) 0x20 8 = (getReg s PRK_ACTIVE).toNat) ∧ (s.weave.pend.length < 16) ∧ ((∀ m ∈
      s.weave.pend, m.kind ≠ rdN (slotBytes s slot.toNat) 6 2))) ∧
    (∃ (p : Fin 13) (slot : BitVec 5) (preempt : Bool) (s : State),
      (accepts s p PRK_CMD (word slot preempt) = true) ∧ (2 ≤ slot.toNat) ∧ (s.mode ≠ mWOVEN)) ∧
    (∃ (p : Fin 13) (slot : BitVec 5) (preempt : Bool) (s : State),
      (accepts s p PRK_CMD (word slot preempt) = true) ∧ (2 ≤ slot.toNat) ∧ (s.mode = mWOVEN) ∧ (verified s slot.toNat =
      false)) ∧
    (∃ (p : Fin 13) (slot : BitVec 5) (s : State),
      (accepts s p PRK_CMD (BitVec.ofNat 64 (3 + slot.toNat * 2 ^ 8)) = true) ∧ ((∃ m ∈ s.weave.pend, m.slot = slot.toNat))) ∧
    (∃ (p : Fin 13) (slot : BitVec 5) (s : State),
      (accepts s p PRK_CMD (BitVec.ofNat 64 (3 + slot.toNat * 2 ^ 8)) = true) ∧ ((∀ m ∈ s.weave.pend, m.slot ≠ slot.toNat))) := by
  refine ⟨⟨1, 2, true, fset (on mWOVEN []) PRK_STATUS.VERIFIED 4, ?_⟩,
    ⟨1, 2, true, on mMAINT [], ?_⟩,
    ⟨1, 2, true, on mWOVEN [], ?_⟩,
    ⟨1, 2, ({ on mWOVEN [] with weave := { pend := [{ slot := 2 }] } } : State), ?_⟩,
    ⟨1, 3, ({ on mWOVEN [] with weave := { pend := [{ slot := 2 }] } } : State), ?_⟩⟩ <;> (try dsimp only) <;> decide

/-- Every clause of MotifAndDieWeave has states and operands that meet its hypotheses. -/
theorem witness_MotifAndDieWeave :
    (∃ (m : Motif) (im : Image) (s : State),
      (s.sys.powered = true) ∧ (s.weave.op = 0) ∧ (s.weave.pend = [m]) ∧ (m.start ≤ s.tbNs) ∧ (m.kind = 2) ∧ (m.target < 64)
      ∧ (s.sys.active = some im) ∧ (s.mode = mWOVEN) ∧ (testActive s = false) ∧ (regionState s m.target = rIDLE) ∧
      (regionOwner s m.target = 1024) ∧ ((∃ e ∈ im.cp, e.1 = m.target)) ∧ (1024 ≤ rdN (slotBytes s m.slot) (sectAt
      (slotBytes s m.slot) 0).off 2) ∧ (genReady s m.target = true) ∧ (genWaits s m.target = false)) ∧
    (∃ (im : Image) (s : State),
      (s.sys.powered = true) ∧ (s.weave.op = 3) ∧ (s.weave.verifyQ = []) ∧ (noneDue s) ∧ (s.weave.slot < 18) ∧
      (s.weave.region < 64) ∧ (s.sys.active = some im) ∧ (dieUp s (4 + s.weave.region / 16) = true)) ∧
    (∃ (s : State),
      (s.sys.powered = true) ∧ (s.weave.op = 3) ∧ (s.weave.verifyQ = []) ∧ (noneDue s) ∧ (s.weave.slot < 18)) ∧
    (∃ (p : Fin 13) (d : BitVec 4) (s : State),
      (accepts s p PRK_CMD (BitVec.ofNat 64 (4 + d.toNat * 2 ^ 4)) = true) ∧ (reweaveOk s d.toNat = true) ∧ (s.weave.op = 0)
      ∧ (s.weave.verifyQ = []) ∧ (noneDue s)) ∧
    (∃ (p : Fin 13) (d : BitVec 4) (s : State),
      (accepts s p PRK_CMD (BitVec.ofNat 64 (4 + d.toNat * 2 ^ 4)) = true) ∧ (fget s (FLT_DIE.STATE d.toNat) ≠ 3)) ∧
    (∃ (s : State),
      (s.sys.powered = true) ∧ (s.weave.op = 4) ∧ (s.weave.verifyQ = []) ∧ (noneDue s) ∧ (s.weave.die < 4) ∧ (fget s
      (FLT_DIE.STATE s.weave.die) = 3)) ∧
    (∃ (r : Fin 64) (s : State),
      (s.sys.powered = true) ∧ (genWaits s r = true) ∧ (genReady s r = true)) ∧
    (∃ (r : Fin 64) (s : State),
      (genReady s r = false)) := by
  refine ⟨⟨{ slot := 4, kind := 2, target := 9 }, { cp := [(9, 1)] }, ({ on mWOVEN [] with weave := { pend := [{ slot := 4, kind := 2, target := 9 }] }, sys := { (on mWOVEN []).sys with active := some { cp := [(9, 1)] } }, nvs := { State.reset.nvs with slots := [(4, (List.range 2).map fun k => (k, (0xFF : Byte)))] } } : State), ?_⟩,
    ⟨{}, ({ on mWOVEN [] with weave := { op := 3, slot := 4, region := 9 }, sys := { (on mWOVEN []).sys with active := some {} } } : State), ?_⟩,
    ⟨({ on mWOVEN [] with weave := { op := 3, slot := 4, region := 9 } } : State), ?_⟩,
    ⟨1, 2, fset (on mWOVEN []) (FLT_DIE.STATE 2) 3, ?_⟩,
    ⟨1, 2, on mWOVEN [], ?_⟩,
    ⟨({ on mWOVEN [(FLT_DIE.STATE 2, 3)] with weave := { op := 4, die := 2 } } : State), ?_⟩,
    ⟨7, ({ on mWOVEN [] with weave := { genWait := [(7, 2)], genAt := [(7, 1)] }, mono := 1000000 * 2 ^ 32 } : State), ?_⟩,
    ⟨7, ({ on mWOVEN [] with weave := { genWait := [(7, 2)], genAt := [(7, 1)] }, mono := 999999 * 2 ^ 32 } : State), ?_⟩⟩ <;> (try dsimp only) <;> decide

/-- Every clause of LaneConditions has states and operands that meet its hypotheses. -/
theorem witness_LaneConditions :
    let calm := fun (s : State) (l : Nat) => s.sys.powered = true ∧ dieUp s (swOf l) = true ∧ suspended s l = false ∧ (port s (portOf s l)).under = pDOWN
    (∃ (l : Fin 1024) (pwr : BitVec 16) (s : State),
      (calm s l)) ∧
    (∃ (l : Fin 1024) (s : State),
      (calm s l)) ∧
    (∃ (l : Fin 1024) (s : State),
      (calm s l)) ∧
    (∃ (l : Fin 1024) (s : State),
      (calm s l)) ∧
    (∃ (l : Fin 1024) (s : State),
      (calm s l)) ∧
    (∃ (l : Fin 1024) (c : Nat) (r : Nat) (s : State),
      (s.sys.powered = true) ∧ (dieUp s (swOf l) = true) ∧ (suspended s l = false)) := by
  refine ⟨⟨8, 77#16, ({ on mWOVEN [(OPT_FIBRE.LIGHT 1, 1), (OPT_FIBRE.OPEN 1, 1), (OPT_LANE.LOS 8, 0), (OPT_LANE.LOL 8, 0), (OPT_LANE.NOLASER 8, 0)] with ports := [(8, { under := pDOWN })], fibres := [(1, { dark := false })] } : State), ?_⟩,
    ⟨8, ({ on mWOVEN [(OPT_FIBRE.LIGHT 1, 1), (OPT_FIBRE.OPEN 1, 1), (OPT_LANE.LOS 8, 0), (OPT_LANE.LOL 8, 0), (OPT_LANE.NOLASER 8, 0)] with ports := [(8, { under := pDOWN })], fibres := [(1, { dark := false })] } : State), ?_⟩,
    ⟨8, ({ on mWOVEN [(OPT_FIBRE.LIGHT 1, 1), (OPT_FIBRE.OPEN 1, 1), (OPT_LANE.LOS 8, 0), (OPT_LANE.LOL 8, 0), (OPT_LANE.NOLASER 8, 0)] with ports := [(8, { under := pDOWN })], fibres := [(1, { dark := false })] } : State), ?_⟩,
    ⟨8, ({ on mWOVEN [(OPT_FIBRE.LIGHT 1, 1), (OPT_FIBRE.OPEN 1, 1), (OPT_LANE.LOS 8, 0), (OPT_LANE.LOL 8, 0), (OPT_LANE.NOLASER 8, 0)] with ports := [(8, { under := pDOWN })], fibres := [(1, { dark := false })] } : State), ?_⟩,
    ⟨8, ({ on mWOVEN [(OPT_FIBRE.LIGHT 1, 1), (OPT_FIBRE.OPEN 1, 1), (OPT_LANE.LOS 8, 0), (OPT_LANE.LOL 8, 0), (OPT_LANE.NOLASER 8, 0)] with ports := [(8, { under := pDOWN })], fibres := [(1, { dark := false })] } : State), ?_⟩,
    ⟨8, 2, 10000, on mWOVEN [], ?_⟩⟩ <;> (try dsimp only) <;> decide

/-- Every clause of LaneConditionFencesPort has states and operands that meet its hypotheses. -/
theorem witness_LaneConditionFencesPort :
    let works := fun (s : State) (l : Nat) => s.sys.powered = true ∧ dieUp s (swOf l) = true ∧ suspended s l = false ∧ isPort s (portOf s l) = true ∧ swOf (portOf s l) = swOf l ∧ linkWorks s (portOf s l) = true ∧ fibreDark s (portOf s l / 8) = false ∧ portFenced s (portOf s l) = false ∧ s.sys.refPhase ≠ 1
    (∃ (l : Fin 1024) (pwr : BitVec 16) (s : State),
      (works s l) ∧ (fbit s (OPT_LANE.LOS l) = false)) ∧
    (∃ (l : Fin 1024) (s : State),
      (works s l) ∧ (fbit s (OPT_LANE.LOL l) = false)) := by
  refine ⟨⟨8, 77#16, ({ on mWOVEN [(OPT_FIBRE.LIGHT 1, 1), (OPT_FIBRE.OPEN 1, 1), (OPT_LANE.LOS 8, 0), (OPT_LANE.LOL 8, 0), (OPT_LANE.NOLASER 8, 0)] with ports := [(8, { under := pUP })], fibres := [(1, { dark := false })] } : State), ?_⟩,
    ⟨8, ({ on mWOVEN [(OPT_FIBRE.LIGHT 1, 1), (OPT_FIBRE.OPEN 1, 1), (OPT_LANE.LOS 8, 0), (OPT_LANE.LOL 8, 0), (OPT_LANE.NOLASER 8, 0)] with ports := [(8, { under := pUP })], fibres := [(1, { dark := false })] } : State), ?_⟩⟩ <;> (try dsimp only) <;> decide

/-- Every clause of BringUp has states and operands that meet its hypotheses. -/
theorem witness_BringUp :
    (∃ (l : Fin 1024) (pwr : BitVec 16) (s : State),
      let s1 := fset (fset s (OPT_LANE.RXPWR l) pwr.toNat) (OPT_LANE.LOS l) 0
      (s.sys.powered = true) ∧ (dieUp s (swOf l) = true) ∧ (canTrain s1 (portOf s l) = true) ∧ ((port s (portOf s
      l)).retryWait = false)) ∧
    (∃ (L : Fin 1024) (s : State),
      (s.sys.powered = true) ∧ (canTrain s L = true) ∧ ((port s L).retryWait = true) ∧ ((port s L).retryAt ≤ s.now)) ∧
    (∃ (l : Fin 1024) (s : State),
      (s.sys.powered = true) ∧ (dieUp s (swOf l) = true) ∧ (portLanes s (portOf s l) = [l.val]) ∧ (portOf s l = l.val) ∧
      ((port s l).under = pTRAINING) ∧ ((port s l).aligned = false) ∧ (isEth s l = false) ∧ (fbit s (OPT_LANE.LOL l) =
      false) ∧ (fbit s (OPT_LANE.LOS l) = false)) ∧
    (∃ (L : Fin 1024) (s : State),
      (s.sys.powered = true) ∧ (isEth s L = false) ∧ ((port s L).under = pTRAINING) ∧ ((port s L).aligned = true) ∧ ((port s
      L).stored = none) ∧ ((port s L).pair = none) ∧ (s.elapsed (port s L).alignAt 10000000 = true)) ∧
    (∃ (L : Fin 1024) (s : State),
      (s.sys.powered = true) ∧ ((port s L).under = pTRAINING) ∧ (s.elapsed (port s L).trainAt 50000000 = true)) := by
  refine ⟨⟨8, 7#16, ({ on mWOVEN [(OPT_FIBRE.LIGHT 1, 1), (OPT_FIBRE.OPEN 1, 1), (OPT_LANE.LOS 8, 0), (OPT_LANE.LOL 8, 0), (OPT_LANE.NOLASER 8, 0), (OPT_LANE.LOS 8, 1)] with ports := [(8, { under := pDOWN })], fibres := [(1, { dark := false })] } : State), ?_⟩,
    ⟨8, ({ on mWOVEN [(OPT_FIBRE.LIGHT 1, 1), (OPT_FIBRE.OPEN 1, 1), (OPT_LANE.LOS 8, 0), (OPT_LANE.LOL 8, 0), (OPT_LANE.NOLASER 8, 0)] with ports := [(8, { under := pDOWN, retryWait := true })], fibres := [(1, { dark := false })] } : State), ?_⟩,
    ⟨8, ({ on mWOVEN [(OPT_FIBRE.LIGHT 1, 1), (OPT_FIBRE.OPEN 1, 1), (OPT_LANE.LOS 8, 0), (OPT_LANE.LOL 8, 0), (OPT_LANE.NOLASER 8, 0)] with ports := [(8, { under := pTRAINING })], fibres := [(1, { dark := false })] } : State), ?_⟩,
    ⟨8, ({ on mWOVEN [(OPT_FIBRE.LIGHT 1, 1), (OPT_FIBRE.OPEN 1, 1), (OPT_LANE.LOS 8, 0), (OPT_LANE.LOL 8, 0), (OPT_LANE.NOLASER 8, 0)] with ports := [(8, { under := pTRAINING, aligned := true })], fibres := [(1, { dark := false })], mono := 10000000 * 2 ^ 32 } : State), ?_⟩,
    ⟨8, ({ on mWOVEN [(OPT_FIBRE.LIGHT 1, 1), (OPT_FIBRE.OPEN 1, 1), (OPT_LANE.LOS 8, 0), (OPT_LANE.LOL 8, 0), (OPT_LANE.NOLASER 8, 0)] with ports := [(8, { under := pTRAINING })], fibres := [(1, { dark := false })], mono := 50000000 * 2 ^ 32 } : State), ?_⟩⟩ <;> (try dsimp only) <;> decide

/-- Every clause of Ident has states and operands that meet its hypotheses. -/
theorem witness_Ident :
    let lit := fun (s : State) (L : Nat) => clocked s = true ∧ isEth s L = false ∧ isPort s L = true ∧ dieUp s (swOf L) = true ∧ fibreDark s (L / 8) = false ∧ linkWorks s L = true
    (∃ (L : Fin 1024) (s : State),
      (lit s L) ∧ (s.elapsed (port s L).identAt 1000000000 = true)) ∧
    (∃ (L : Fin 1024) (r : BitVec 256) (a : Bool) (s : State),
      (lit s L) ∧ ((a = false ∨ idValid r = false))) ∧
    (∃ (L : Fin 1024) (r : BitVec 256) (s : State),
      (lit s L) ∧ (idValid r = true) ∧ ((port s L).pair ≠ some r)) ∧
    (∃ (L : Fin 1024) (r : BitVec 256) (s : State),
      (lit s L) ∧ (idValid r = true) ∧ ((port s L).pair = some r)) := by
  refine ⟨⟨8, ({ on mWOVEN [(OPT_FIBRE.LIGHT 1, 1), (OPT_FIBRE.OPEN 1, 1), (OPT_LANE.LOS 8, 0), (OPT_LANE.LOL 8, 0), (OPT_LANE.NOLASER 8, 0)] with ports := [(8, { under := pUP })], fibres := [(1, { dark := false })], mono := 1000000000 * 2 ^ 32 } : State), ?_⟩,
    ⟨8, 0, false, ({ on mWOVEN [(OPT_FIBRE.LIGHT 1, 1), (OPT_FIBRE.OPEN 1, 1), (OPT_LANE.LOS 8, 0), (OPT_LANE.LOL 8, 0), (OPT_LANE.NOLASER 8, 0)] with ports := [(8, { under := pUP })], fibres := [(1, { dark := false })] } : State), ?_⟩,
    ⟨8, mkBlk 1 [], ({ on mWOVEN [(OPT_FIBRE.LIGHT 1, 1), (OPT_FIBRE.OPEN 1, 1), (OPT_LANE.LOS 8, 0), (OPT_LANE.LOL 8, 0), (OPT_LANE.NOLASER 8, 0)] with ports := [(8, { under := pUP })], fibres := [(1, { dark := false })] } : State), ?_⟩,
    ⟨8, mkBlk 1 [], ({ on mWOVEN [(OPT_FIBRE.LIGHT 1, 1), (OPT_FIBRE.OPEN 1, 1), (OPT_LANE.LOS 8, 0), (OPT_LANE.LOL 8, 0), (OPT_LANE.NOLASER 8, 0)] with ports := [(8, { under := pUP, pair := some (mkBlk 1 []) })], fibres := [(1, { dark := false })] } : State), ?_⟩⟩ <;> (try dsimp only) <;> decide +kernel

/-- Every clause of PortCommands has states and operands that meet its hypotheses. -/
theorem witness_PortCommands :
    (∃ (p : Fin 13) (L : Fin 1024) (s : State),
      (accepts s p (PRT_CMD L) 2 = true)) ∧
    (∃ (p : Fin 13) (L : Fin 1024) (s : State),
      (accepts s p (PRT_CMD L) 1 = true) ∧ ((port s L).under ≠ pDOWN)) ∧
    (∃ (p : Fin 13) (L : Fin 1024) (w : Word) (r : BitVec 256) (s : State),
      (accepts s p (PRT_NBR_EXP L) w = true) ∧ (isEth s L = false) ∧ ((port s L).under = pUP) ∧ (fibreDark s (L / 8) =
      false) ∧ ((port s L).stored = some r)) := by
  refine ⟨⟨1, 8, ({ on mWOVEN [(OPT_FIBRE.LIGHT 1, 1), (OPT_FIBRE.OPEN 1, 1)] with ports := [(8, { under := pUP })], fibres := [(1, { dark := false })] } : State), ?_⟩,
    ⟨1, 8, ({ on mWOVEN [(OPT_FIBRE.LIGHT 1, 1), (OPT_FIBRE.OPEN 1, 1)] with ports := [(8, { under := pUP })], fibres := [(1, { dark := false })] } : State), ?_⟩,
    ⟨1, 8, 0, 0, ({ on mWOVEN [(OPT_FIBRE.LIGHT 1, 1), (OPT_FIBRE.OPEN 1, 1)] with ports := [(8, { under := pUP, stored := some 0 })], fibres := [(1, { dark := false })] } : State), ?_⟩⟩ <;> (try dsimp only) <;> decide

/-- Every clause of SpareChangeover has states and operands that meet its hypotheses. -/
theorem witness_SpareChangeover :
    (∃ (i : Fin 160) (rel : BitVec 16) (s : State),
      (s.sys.powered = true) ∧ (s.sys.lasersOn = true) ∧ (lasState s i = lasOK) ∧ (sext 16 rel.toNat ≤ -150) ∧ (-300 < sext
      16 rel.toNat)) ∧
    (∃ (b : Fin 16) (s : State),
      (s.sys.powered = true) ∧ ((bank s b).active = true) ∧ ((bank s b).locked = false)) ∧
    (∃ (b : Fin 16) (s : State),
      (s.sys.powered = true) ∧ ((bank s b).active = true) ∧ ((bank s b).locked = false) ∧ ((bank s b).lockBy ≤ s.now) ∧
      (((bank s b).spare = 8 ∨ (bank s b).spare = 9)) ∧ ((bank s b).pos < 8) ∧ ((bank s b).waiting = [])) ∧
    (∃ (b : Fin 16) (s : State),
      let l := bankLane b (bank s b).next (fget s (LAS_STAT.W (10 * b + (bank s b).spare)))
      (s.sys.powered = true) ∧ ((bank s b).active = true) ∧ ((bank s b).locked = true) ∧ ((bank s b).next < 7) ∧ ((port s
      (portOf s l)).txBusy = none) ∧ ((bank s b).spare < 16)) := by
  refine ⟨⟨3, 0xFF60#16, on mWOVEN [(LAS_STAT.STATE 3, 1)], ?_⟩,
    ⟨0, ({ on mWOVEN [] with banks := [(0, { active := true })] } : State), ?_⟩,
    ⟨0, ({ on mWOVEN [] with banks := [(0, { active := true, spare := 8 })] } : State), ?_⟩,
    ⟨0, ({ on mWOVEN [] with banks := [(0, { active := true, spare := 8, locked := true })] } : State), ?_⟩⟩ <;> (try dsimp only) <;> decide

/-- Every clause of FibreGates has states and operands that meet its hypotheses. -/
theorem witness_FibreGates :
    (∃ (F : Fin 128) (s : State),
      (s.sys.powered = true) ∧ (dieUp s (F / 32) = true) ∧ (gateMay s F = true) ∧ (fibreDark s F = false)) ∧
    (∃ (F : Fin 128) (s : State),
      (s.sys.powered = true) ∧ (dieUp s (F / 32) = true) ∧ (gateMay s F = true) ∧ (fibreDark s F = true) ∧ ((fibre s
      F).probing = false) ∧ ((fibre s F).probeAt ≤ s.now)) ∧
    (∃ (F : Fin 128) (s : State),
      (s.sys.powered = true) ∧ ((fibre s F).probing = true) ∧ ((fibre s F).probeEnd ≤ s.now)) ∧
    (∃ (F : Fin 128) (s : State),
      (s.sys.powered = true) ∧ (dieUp s (F / 32) = true) ∧ (gateMay s F = true) ∧ (fibreDark s F = true)) ∧
    (∃ (p : Fin 13) (F : Fin 128) (s : State),
      (accepts s p (OPT_FIBRE F) 4 = true) ∧ (fbit s (OPT_FIBRE.FORCE_CLOSE F) = false)) := by
  refine ⟨⟨1, ({ on mWOVEN [(OPT_FIBRE.LIGHT 1, 1), (OPT_FIBRE.OPEN 1, 1)] with ports := [(8, { under := pUP })], fibres := [(1, { dark := false })] } : State), ?_⟩,
    ⟨1, on mWOVEN [], ?_⟩,
    ⟨1, ({ on mWOVEN [] with fibres := [(1, { probing := true })] } : State), ?_⟩,
    ⟨1, on mWOVEN [], ?_⟩,
    ⟨1, 1, ({ on mWOVEN [(OPT_FIBRE.LIGHT 1, 1), (OPT_FIBRE.OPEN 1, 1)] with ports := [(8, { under := pUP })], fibres := [(1, { dark := false })] } : State), ?_⟩⟩ <;> (try dsimp only) <;> decide

/-- Every clause of ControlBlocks has states and operands that meet its hypotheses. -/
theorem witness_ControlBlocks :
    let okBlk := fun (L : Fin 1024) (b : BitVec 256) (k : Nat) (s : State) => clocked s = true ∧ rxOpen s L = true ∧ blkBad b = false ∧ blkByte b 0 = k
    (∃ (L : Fin 1024) (b : BitVec 256) (s : State),
      (clocked s = true) ∧ (rxOpen s L = true) ∧ (blkBad b = true)) ∧
    (∃ (L : Fin 1024) (b : BitVec 256) (s : State),
      (okBlk L b 0x1E s)) ∧
    (∃ (L : Fin 1024) (b : BitVec 256) (s : State),
      (okBlk L b 0x56 s)) ∧
    (∃ (L : Fin 1024) (b : BitVec 256) (s : State),
      (okBlk L b 0x4B s)) ∧
    (∃ (L : Fin 1024) (b : BitVec 256) (s : State),
      (okBlk L b 0x66 s)) ∧
    (∃ (L : Fin 1024) (b : BitVec 256) (s : State),
      (okBlk L b 0x2D s)) ∧
    (∃ (L : Fin 1024) (b : BitVec 256) (s : State),
      (okBlk L b 0x2F s)) ∧
    (∃ (L : Fin 1024) (b : BitVec 256) (s : State),
      (okBlk L b 0x55 s) ∧ (widthOf s L ≠ 5) ∧ ((port s L).suspended = false)) ∧
    (∃ (L : Fin 1024) (b : BitVec 256) (s : State),
      (okBlk L b 0x55 s) ∧ ((port s L).suspended = true) ∧ (s.now ≤ (port s L).suspend)) ∧
    (∃ (L : Fin 1024) (s : State),
      (s.sys.powered = true) ∧ ((port s L).suspended = true) ∧ ((port s L).suspend ≤ s.now)) := by
  refine ⟨⟨8, 5, lit, ?_⟩,
    ⟨8, mkBlk 0x1E [], lit, ?_⟩,
    ⟨8, mkBlk 0x56 [], lit, ?_⟩,
    ⟨8, mkBlk 0x4B [0, 1], lit, ?_⟩,
    ⟨8, mkBlk 0x66 [], lit, ?_⟩,
    ⟨8, mkBlk 0x2D [1, 0, 0, 9, 9], ({ lit with ports := [(8, { under := pUP, peerRet := [(8, 0xFFFFFF), (3, 4)] })] } : State), ?_⟩,
    ⟨8, mkBlk 0x2F [1, 0, 0, 36, 0], lit, ?_⟩,
    ⟨8, mkBlk 0x55 [8], lit, ?_⟩,
    ⟨8, mkBlk 0x55 [8], ({ lit with ports := [(8, { under := pUP, suspended := true, suspend := 900 })], mono := 500 * 2 ^ 32 } : State), ?_⟩,
    ⟨8, ({ lit with ports := [(8, { under := pUP, suspended := true })] } : State), ?_⟩⟩ <;> (try dsimp only) <;> decide +kernel

/-- Every clause of ControlBlocksSent has states and operands that meet its hypotheses. -/
theorem witness_ControlBlocksSent :
    (∃ (L : Fin 1024) (n : Fin 2) (s : State),
      (clocked s = true) ∧ (txOpen s L = true) ∧ (bit (port s L).retDirty.toNat n = true)) ∧
    (∃ (L : Fin 1024) (s : State),
      (clocked s = true) ∧ (txOpen s L = true) ∧ ((port s L).under = pUP) ∧ (portUnpicking s L = false) ∧ ((port s L).initAt
      = 0) ∧ (36 ≤ tget 192 s.sys.str.voqMib (swOf L)) ∧ (tget 192 s.sys.str.voqMib (swOf L) ≤ 224)) ∧
    (∃ (L : Fin 1024) (s : State),
      (s.sys.powered = true) ∧ (txOpen s L = true) ∧ (portFenced s L = false) ∧ (s.sys.refPhase ≠ 1) ∧ ((port s L).suspended
      = false) ∧ (s.elapsed (port s L).creditAt 50000 = true)) ∧
    (∃ (l : Fin 1024) (s : State),
      (clocked s = true) ∧ (isEth s (portOf s l) = false) ∧ (laneSends s l = true) ∧ (markerDue s l = true)) ∧
    (∃ (l : Fin 1024) (s : State),
      (clocked s = true) ∧ (portUnpicking s (portOf s l) = true) ∧ (isEth s (portOf s l) = false) ∧ (isDisabled s (portOf s
      l) = false) ∧ (laneLive s l = true) ∧ (fibreDark s (l / 8) = false) ∧ (txSelector s l = .oe)) := by
  refine ⟨⟨8, 1, ({ lit with ports := [(8, { under := pUP, retDirty := 2, returned := [(9, 2 ^ 24 + 5)] })] } : State), ?_⟩,
    ⟨8, lit, ?_⟩,
    ⟨8, ({ lit with mono := 50000 * 2 ^ 32 } : State), ?_⟩,
    ⟨8, ({ lit with lanes := [(8, { gateOpen := true, alignCnt := 2 ^ 32 - 1 })] } : State), ?_⟩,
    ⟨8, fset (fset (fset lit (PRT_OWNER.OWNED 8) 1) (PRT_OWNER.CTX 8) 3) (CTX_STAT.STATE 3) 3, ?_⟩⟩ <;> (try dsimp only) <;> decide

/-- Every clause of PriorityFlowControl has states and operands that meet its hypotheses. -/
theorem witness_PriorityFlowControl :
    (∃ (L : Fin 1024) (en : BitVec 8) (q : BitVec 128) (s : State),
      (clocked s = true) ∧ (isPort s L = true) ∧ (isEth s L = true) ∧ (dieUp s (swOf L) = true) ∧ (linkWorks s L = true) ∧
      (fibreDark s (L / 8) = false)) ∧
    (∃ (L : Fin 1024) (p : Fin 8) (s : State),
      (s.sys.powered = true) ∧ (tget 0 (port s L).pfcUntil p ≤ s.now)) ∧
    (∃ (L : Fin 1024) (c : Fin 8) (s : State),
      (clocked s = true) ∧ (isEth s L = true) ∧ (linkWorks s L = true) ∧ (tget false (port s L).xoff c = true) ∧ (s.elapsed
      (tget 0 (port s L).xoffAt c) 20000 = true) ∧ (ethRemain s L c < 1344 * lanesOf s L)) := by
  refine ⟨⟨8, 3#8, 0xFFFF0001#128, eth, ?_⟩,
    ⟨8, 3, ({ eth with ports := [(8, { under := pUP, pfcUntil := [(3, 7)] })], mono := 7 * 2 ^ 32 } : State), ?_⟩,
    ⟨8, 2, ({ eth with ports := [(8, { under := pUP, xoff := [(2, true)], ethHeld := [(2, 3072 + 36 - 288 - 1343)] })], mono := 20000 * 2 ^ 32 } : State), ?_⟩⟩ <;> (try dsimp only) <;> decide

/-- Every clause of FabricReceive has states and operands that meet its hypotheses. -/
theorem witness_FabricReceive :
    let open_ := fun (s : State) (L : Nat) => clocked s = true ∧ isPort s L = true ∧ isEth s L = false ∧ dieUp s (swOf L) = true ∧ fibreDark s (L / 8) = false ∧ linkWorks s L = true ∧ (port s L).resync = false
    let clear := fun (s : State) (L : Nat) => portState s L = pUP ∧ portFenced s L = false ∧ fbit s (PRT_OWNER.OWNED L) = false
    (∃ (L : Fin 1024) (h : BitVec 256) (b : List Byte) (s : State),
      (open_ s L) ∧ (hf h 3 0 16 ≠ hcrcOf h)) ∧
    (∃ (L : Fin 1024) (h : BitVec 256) (b : List Byte) (s : State),
      (open_ s L) ∧ (hf h 3 0 16 = hcrcOf h) ∧ (hLen h = b.length) ∧ (b.length ≤ 8192) ∧ (hf h 3 32 32 ≠ frameCrc h b)) ∧
    (∃ (L : Fin 1024) (E : Fin 1024) (h : BitVec 256) (b : List Byte) (e : Entry) (s : State),
      (open_ s L) ∧ (s.mode = mWOVEN) ∧ (hf h 3 0 16 = hcrcOf h) ∧ (hLen h = b.length) ∧ (b.length ≤ 8192) ∧ (hf h 3 32 32 =
      frameCrc h b) ∧ (overCredit (port s L) (hChan h) (unitsOf (32 + b.length)) = false) ∧ (fieldBad s L h = false) ∧
      (clear s L) ∧ ((tget {} s.flt.chips (hSrc h)).fenced = false) ∧ ((tget {} s.flt.chips (hSrc h)).check = false) ∧
      ((tget {} s.flt.chips (hDst h)).fenced = false) ∧ (hMcast h = false) ∧ (hUnord h = false) ∧ (hEnc h = false) ∧ (fbit s
      TBL_SELF.VALID = false) ∧ (direct s (swOf L) 4 (hDst h) = some e) ∧ (eAction e = 0) ∧ (eTarget e = E.val) ∧ (fbit s
      (PRT_TMCLS.MTR_EN L (hChan h)) = false) ∧ (isPort s E = true) ∧ (isEth s E = false) ∧ (portState s E = pUP) ∧
      (portUnpicking s E = false) ∧ (chanLossy s (hChan h) = false) ∧ (newCells (voq s (voqKey (swOf L) E (hChan h))) (32 +
      b.length) ≤ cellsFree s (swOf L))) := by
  refine ⟨⟨8, mkHdr 5 7 3 0 0 0 0 0 0 4 0 0, [1, 2, 3, 4], lit, ?_⟩,
    ⟨8, sealHdr (mkHdr 5 7 3 0 0 0 0 0 0 4 0 0) [1, 2, 3, 4], [1, 2, 3, 5], lit, ?_⟩,
    ⟨8, 9, sealHdr (mkHdr 5 7 3 0 0 0 0 0 0 4 0 0) [1, 2, 3, 4], [1, 2, 3, 4], { key := directKey 4 5, data := fit 144 [0, 0, 0, 0, 9] }, routed, ?_⟩⟩ <;> (try dsimp only) <;> decide +kernel

/-- Every clause of EthernetReceive has states and operands that meet its hypotheses. -/
theorem witness_EthernetReceive :
    let open_ := fun (s : State) (L : Nat) => clocked s = true ∧ isPort s L = true ∧ isEth s L = true ∧ dieUp s (swOf L) = true ∧ fibreDark s (L / 8) = false ∧ linkWorks s L = true
    let clear := fun (s : State) (L : Nat) => portState s L = pUP ∧ portFenced s L = false ∧ fbit s (PRT_OWNER.OWNED L) = false
    (∃ (L : Fin 1024) (b : List Byte) (s : State),
      (open_ s L) ∧ ((b.length < 64 ∨ 9216 < b.length))) ∧
    (∃ (L : Fin 1024) (b : List Byte) (s : State),
      (open_ s L) ∧ (64 ≤ b.length) ∧ (b.length ≤ 9216) ∧ (ethFcsOk b = false)) ∧
    (∃ (L : Fin 1024) (E : Fin 1024) (c : Nat) (i : Nat) (b : List Byte) (e : Entry) (s : State),
      (open_ s L) ∧ (s.mode = mWOVEN) ∧ (64 ≤ b.length) ∧ (b.length ≤ 9216) ∧ (ethFcsOk b = true) ∧ (ethTagged b = false) ∧
      (ethType b ≠ 0x8808) ∧ (ptpOffset b = none) ∧ (ethChan s (fget s (PRT_ETH.DEF_PRIO L)) = some c) ∧ (clear s L) ∧ (fbit
      s (PRT_L3.LEARN L) = false) ∧ (fbit s (PRT_L3.ROUTE L) = false) ∧ (findKey (tcopy s (swOf L) 5) (l2Key (fget s
      (PRT_L3.DEF_VLAN L)) (ethDmac b)) = some (i, e)) ∧ (eAction e = 0) ∧ (eTarget e = E.val) ∧ (fbit s (PRT_TMCLS.MTR_EN L
      c) = false) ∧ (isPort s E = true) ∧ (isEth s E = true) ∧ (portState s E = pUP) ∧ (portUnpicking s E = false) ∧
      (chanLossy s c = false) ∧ (newCells (voq s (voqKey (swOf L) E c)) b.length ≤ cellsFree s (swOf L))) := by
  refine ⟨⟨8, [1, 2, 3], eth, ?_⟩,
    ⟨8, List.replicate 64 7, eth, ?_⟩,
    ⟨8, 9, 0, 77, ethSeal (List.replicate 64 2), { key := l2Key 1 0x020202020202, data := fit 144 [0, 0, 0, 0, 9] }, bridged, ?_⟩⟩ <;> (try dsimp only) <;> decide +kernel

/-- Every clause of Cells has states and operands that meet its hypotheses. -/
theorem witness_Cells :
    (∃ (s : State),
      (s.sys.powered = true)) ∧
    (∃ (E : Fin 1024) (f : Frame) (q : Voq) (s : State),
      (s.sys.powered = true) ∧ (s.mode = mWOVEN) ∧ (s.core.voqs = [(voqKey (swOf E) E f.chan, q)]) ∧ (q.ents = [.frame f]) ∧
      (q.crossed = 0) ∧ (f.bob = none) ∧ (f.eth = false) ∧ (f.chan < 16) ∧ (frameLen f ≤ 256) ∧ (isEth s E = false) ∧
      (widthOf s E = 1) ∧ (32 ≤ tget 48 s.sys.str.egrMib (swOf E)) ∧ (q.reqs = []) ∧ (s.core.flight = []) ∧ (s.core.egrBytes
      = []) ∧ (s.core.egrDesc = []) ∧ (dieUp s (swOf E) = true)) ∧
    (∃ (i : Fin 4) (j : Fin 4) (r : Fin 5) (f : Frame) (n : Nat) (c : Cell) (E : Fin 1024) (s : State),
      (s.sys.powered = true) ∧ (tget [] s.core.flight (4 * i + j) = [c]) ∧ (c.relay = r.val) ∧ (c.held = false) ∧ (c.pieces
      = [{ f := f, n := n, last := true, outs := [E.val] }]) ∧ (tget 0 s.core.seqRx (4 * i + j) = c.seq) ∧ (tget []
      s.core.early (4 * i + j) = []) ∧ (f.dec < 1024) ∧ (tget false s.core.lost (lostKey f E) = false) ∧ (portState s E =
      pUP) ∧ (portUnpicking s E = false)) ∧
    (∃ (i : Fin 4) (j : Fin 4) (r : Fin 5) (c : Cell) (rest : List Cell) (s : State),
      (s.sys.powered = true) ∧ (tget [] s.core.flight (4 * i + j) = c :: rest) ∧ (c.relay = r.val) ∧ (c.held = false) ∧
      (tget 0 s.core.seqRx (4 * i + j) < c.seq) ∧ (tget 0 s.core.gapAt (4 * i + j) = 0)) ∧
    (∃ (i : Fin 4) (j : Fin 4) (c : Cell) (x : Cell) (s : State),
      (s.sys.powered = true) ∧ (tget 0 s.core.gapAt (4 * i + j) ≠ 0) ∧ (s.elapsed (tget 0 s.core.gapAt (4 * i + j) - 1)
      10000 = true) ∧ (tget [] s.core.early (4 * i + j) = [x]) ∧ (tget [] s.core.flight (4 * i + j) = [c]) ∧ (c.seq < x.seq)
      ∧ (c.seq < tget 0 s.core.seqTx (4 * i + j))) := by
  refine ⟨⟨queued, ?_⟩,
    ⟨9, { id := 3, hdr := mkHdr 5 7 3 0 0 0 0 0 0 4 0 0, body := [1, 2, 3, 4], ingress := 8, chan := 3, dec := 9 }, { tail := 36, ents := [.frame { id := 3, hdr := mkHdr 5 7 3 0 0 0 0 0 0 4 0 0, body := [1, 2, 3, 4], ingress := 8, chan := 3, dec := 9 }] }, queued, ?_⟩,
    ⟨1, 0, 4, { chan := 3, dec := 9 }, 32, { seq := 6, pieces := [{ f := { chan := 3, dec := 9 }, n := 32, last := true, outs := [9] }] }, 9, ({ routed with core := { flight := [(4, [{ seq := 6, pieces := [{ f := { chan := 3, dec := 9 }, n := 32, last := true, outs := [9] }] }])], seqRx := [(4, 6)] } } : State), ?_⟩,
    ⟨1, 0, 4, { seq := 6 }, [], ({ routed with core := { flight := [(4, [{ seq := 6 }])] } } : State), ?_⟩,
    ⟨1, 0, { seq := 0 }, { seq := 1 }, ({ routed with core := { flight := [(4, [{ seq := 0 }])], early := [(4, [{ seq := 1 }])], gapAt := [(4, 1)], seqTx := [(4, 2)] }, mono := 10000 * 2 ^ 32 } : State), ?_⟩⟩ <;> (try dsimp only) <;> decide

/-- Every clause of MulticastResidue has states and operands that meet its hypotheses. -/
theorem witness_MulticastResidue :
    (∃ (d : Fin 4) (c : Fin 16) (p : Fin 1024) (f : Frame) (s : State),
      (s.sys.powered = true) ∧ (mcHead s d c = some f) ∧ ((tget {} s.core.mc f.id).headAt ≠ 0) ∧ (s.elapsed ((tget {}
      s.core.mc f.id).headAt - 1) 20000 = true) ∧ ((tget {} s.core.mc f.id).todo = [p.val]) ∧ (portFenced s p = false) ∧
      (portState s p = pUP) ∧ (unpickShut s p c = false)) ∧
    (∃ (d : Fin 4) (c : Fin 16) (f : Frame) (s : State),
      (mcHead s d c = some f) ∧ ((tget {} s.core.mc f.id).headAt ≠ 0) ∧ (s.elapsed ((tget {} s.core.mc f.id).headAt - 1)
      20000 = false)) ∧
    (∃ (p : Nat) (f : Frame) (rest : List (Nat × Frame)) (s : State),
      (s.sys.powered = true) ∧ (s.core.reports = (p, f) :: rest) ∧ (hType f.hdr ≠ tRESULT)) := by
  refine ⟨⟨0, 3, 9, { id := 4, chan := 3, dec := 2048, members := [9] }, ({ routed with core := { voqs := [(65536 + 131, { tail := 32, ents := [.frame { id := 4, chan := 3, dec := 2048, members := [9] }] })], mc := [(4, { f := { id := 4, chan := 3, dec := 2048, members := [9] }, todo := [9], headAt := 1 })] }, mono := 20000 * 2 ^ 32 } : State), ?_⟩,
    ⟨0, 3, { id := 4 }, ({ routed with core := { voqs := [(65536 + 131, { ents := [.frame { id := 4 }] })], mc := [(4, { headAt := 1 })] } } : State), ?_⟩,
    ⟨9, {}, [], ({ routed with core := { reports := [(9, {})] } } : State), ?_⟩⟩ <;> (try dsimp only) <;> decide

/-- Every clause of TableCommands has states and operands that meet its hypotheses. -/
theorem witness_TableCommands :
    let front := fun (s : State) (d : List Byte) (op : Nat) (rest : List Submission) => s.sys.powered = true ∧ s.tbl.order = .cmd d none :: rest ∧ dOp d = op ∧ bit (dFlags d) 4 = false ∧ s.mode ≠ mBOOT ∧ s.mode ≠ mFAULTED ∧ (∀ k, k < 4 → dieUp s k = true)
    (∃ (d : List Byte) (i : Nat) (e : Entry) (rest : List Submission) (s : State),
      (front s d 1 rest) ∧ (bit (dFlags d) 1 = false) ∧ (badKey (dTable d) (dKey d) false = false) ∧ (zeroBytes (dData d) 0
      144 = true) ∧ (dTable d ≠ 5) ∧ (findKey (tcopy s 0 (dTable d)) (dKey d) = some (i, e)) ∧ (e.data.length = 144)) ∧
    (∃ (d : List Byte) (rest : List Submission) (s : State),
      (front s d 1 rest) ∧ (bit (dFlags d) 1 = false) ∧ (badKey (dTable d) (dKey d) false = false) ∧ (zeroBytes (dData d) 0
      144 = true) ∧ (findKey (tcopy s 0 (dTable d)) (dKey d) = none)) ∧
    (∃ (d : List Byte) (i : Nat) (e : Entry) (pre : Tab Entry) (post : Tab Entry) (rest : List Submission) (s : State),
      (front s d 2 rest) ∧ (zeroBytes (dKey d) 0 32 = true) ∧ (zeroBytes (dData d) 0 144 = true) ∧ (dTable d ≠ 5) ∧ (tcopy s
      0 (dTable d) = pre ++ (i, e) :: post) ∧ ((∀ x ∈ pre, x.1 < dArg d)) ∧ (dArg d ≤ i) ∧ (i < 2 ^ 24) ∧ (e.data.length =
      144)) ∧
    (∃ (d : List Byte) (n : Nat) (rest : List Submission) (s : State),
      (front s d 3 rest) ∧ (bit (dFlags d) 0 = false) ∧ (dTable d = 4) ∧ (n < 2 ^ 20) ∧ (dKey d = directKey 4 n) ∧ (badEntry
      s 4 (dData d) = false) ∧ ((∀ k, k < 4 → findKey (tcopy s k 4) (dKey d) = none)) ∧ ((tcopy s 0 4).length < 2 ^ 20)) ∧
    (∃ (d : List Byte) (i : Nat) (e : Entry) (rest : List Submission) (s : State),
      (front s d 4 rest) ∧ (1 ≤ dTable d) ∧ (dTable d ≤ 7) ∧ (badKey (dTable d) (dKey d) false = false) ∧ (zeroBytes (dData
      d) 0 144 = true) ∧ (findKey (tcopy s 0 (dTable d)) (dKey d) = some (i, e))) := by
  refine ⟨⟨desc 1 4 0 7 0 (directKey 4 5) [], 5, { key := directKey 4 5, data := fit 144 [0, 0, 0, 0, 9] }, [], ordered (desc 1 4 0 7 0 (directKey 4 5) []), ?_⟩,
    ⟨desc 1 4 0 7 0 (directKey 4 6) [], [], ordered (desc 1 4 0 7 0 (directKey 4 6) []), ?_⟩,
    ⟨desc 2 4 0 7 3 [] [], 5, { key := directKey 4 5, data := fit 144 [0, 0, 0, 0, 9] }, [], [], [], ordered (desc 2 4 0 7 3 [] []), ?_⟩,
    ⟨desc 3 4 0 7 0 (directKey 4 6) [0, 0, 0, 0, 8], 6, [], ordered (desc 3 4 0 7 0 (directKey 4 6) [0, 0, 0, 0, 8]), ?_⟩,
    ⟨desc 4 4 0 7 0 (directKey 4 5) [], 5, { key := directKey 4 5, data := fit 144 [0, 0, 0, 0, 9] }, [], ordered (desc 4 4 0 7 0 (directKey 4 5) []), ?_⟩⟩ <;> (try dsimp only) <;> decide +kernel

/-- Every clause of FlushMarkDrain has states and operands that meet its hypotheses. -/
theorem witness_FlushMarkDrain :
    let front := fun (s : State) (d : List Byte) (op : Nat) (rest : List Submission) => s.sys.powered = true ∧ s.tbl.order = .cmd d none :: rest ∧ dOp d = op ∧ bit (dFlags d) 4 = false ∧ s.mode ≠ mBOOT ∧ s.mode ≠ mFAULTED ∧ (∀ k, k < 4 → dieUp s k = true) ∧ zeroBytes (dKey d) 0 32 = true ∧ zeroBytes (dData d) 0 144 = true
    (∃ (d : List Byte) (rest : List Submission) (s : State),
      (front s d 5 rest) ∧ (bit (dFlags d) 2 = true) ∧ (bit (dFlags d) 3 = false)) ∧
    (∃ (d : List Byte) (rest : List Submission) (s : State),
      (front s d 7 rest) ∧ (dArg d < 2 ^ 32)) ∧
    (∃ (d : List Byte) (rest : List Submission) (s : State),
      (front s d 6 rest) ∧ (s.tbl.drains.length < 8) ∧ (framesBefore s (getReg s TBL_EPOCH).toNat = 0)) ∧
    (∃ (d : List Byte) (rest : List Submission) (s : State),
      (front s d 6 rest) ∧ (s.tbl.drains.length < 8) ∧ (framesBefore s (getReg s TBL_EPOCH).toNat ≠ 0)) ∧
    (∃ (x : Drain) (s : State),
      (s.sys.powered = true) ∧ (s.tbl.drains = [x]) ∧ (x.dma = none) ∧ (bit (dFlags x.desc) 4 = false) ∧ (framesBefore s
      x.epoch = 0)) ∧
    (∃ (x : Drain) (s : State),
      (s.sys.powered = true) ∧ (s.tbl.drains = [x]) ∧ (x.dma = none) ∧ (bit (dFlags x.desc) 4 = false) ∧ (framesBefore s
      x.epoch ≠ 0) ∧ (x.deadline ≤ s.now)) := by
  refine ⟨⟨desc 5 0 4 7 9 [] [], [], ordered (desc 5 0 4 7 9 [] []), ?_⟩,
    ⟨desc 7 0 0 7 99 [] [], [], ordered (desc 7 0 0 7 99 [] []), ?_⟩,
    ⟨desc 6 0 0 7 5 [] [], [], ordered (desc 6 0 0 7 5 [] []), ?_⟩,
    ⟨desc 6 0 0 7 5 [] [], [], setReg ({ ordered (desc 6 0 0 7 5 [] []) with core := queued.core } : State) TBL_EPOCH 4, ?_⟩,
    ⟨{ epoch := 4, desc := desc 6 0 0 7 5 [] [] }, ({ routed with tbl := { drains := [{ epoch := 4, desc := desc 6 0 0 7 5 [] [] }] } } : State), ?_⟩,
    ⟨{ epoch := 4, desc := desc 6 0 0 7 5 [] [] }, ({ queued with tbl := { drains := [{ epoch := 4, desc := desc 6 0 0 7 5 [] [] }] } } : State), ?_⟩⟩ <;> (try dsimp only) <;> decide +kernel

/-- Every clause of RawOperations has states and operands that meet its hypotheses. -/
theorem witness_RawOperations :
    let front := fun (s : State) (w : Word) (op : Nat) (rest : List Submission) => s.sys.powered = true ∧ s.tbl.order = .raw w :: rest ∧ bits w.toNat 0 2 = op
    let die := fun (w : Word) => bits w.toNat 52 4
    let table := fun (w : Word) => bits w.toNat 40 8
    let index := fun (w : Word) => bits w.toNat 8 24
    (∃ (w : Word) (e : Entry) (rest : List Submission) (s : State),
      (front s w 1 rest) ∧ (table w ≠ 5) ∧ (die w < 4) ∧ (entryAt s (die w) (table w) (index w) = some e) ∧ (e.key.length =
      32) ∧ (e.data.length = 144)) ∧
    (∃ (w : Word) (rest : List Submission) (s : State),
      (front s w 2 rest) ∧ (1 ≤ table w) ∧ (table w ≤ 6) ∧ (table w ≠ 5) ∧ (die w < 4) ∧ (fieldAt (rawBuf s) 0 1 = 1)) ∧
    (∃ (w : Word) (rest : List Submission) (s : State),
      (front s w 3 rest)) := by
  refine ⟨⟨BitVec.ofNat 64 (2 ^ 52 + 4 * 2 ^ 40 + 5 * 2 ^ 8 + 1), { key := directKey 4 5, data := fit 144 [0, 0, 0, 0, 9] }, [], ({ ordered [] with tbl := { (ordered []).tbl with order := [.raw (BitVec.ofNat 64 (2 ^ 52 + 4 * 2 ^ 40 + 5 * 2 ^ 8 + 1))] } } : State), ?_⟩,
    ⟨BitVec.ofNat 64 (2 ^ 52 + 4 * 2 ^ 40 + 5 * 2 ^ 8 + 2), [], setReg ({ ordered [] with tbl := { (ordered []).tbl with order := [.raw (BitVec.ofNat 64 (2 ^ 52 + 4 * 2 ^ 40 + 5 * 2 ^ 8 + 2))] } } : State) (TBL_RAW_W 0) 1, ?_⟩,
    ⟨BitVec.ofNat 64 (2 ^ 52 + 4 * 2 ^ 40 + 5 * 2 ^ 8 + 3), [], ({ ordered [] with tbl := { (ordered []).tbl with order := [.raw (BitVec.ofNat 64 (2 ^ 52 + 4 * 2 ^ 40 + 5 * 2 ^ 8 + 3))] } } : State), ?_⟩⟩ <;> (try dsimp only) <;> decide

/-- Every clause of LearningAndAging has states and operands that meet its hypotheses. -/
theorem witness_LearningAndAging :
    (∃ (v : Nat) (m : BitVec 48) (L : Nat) (rest : List Submission) (s : State),
      (s.sys.powered = true) ∧ (s.tbl.order = .learn v m false L :: rest) ∧ (v < 4096) ∧ (L < 1024) ∧ ((∀ k, k < 4 → dieUp s
      k = true)) ∧ ((∀ k, k < 4 → findKey (tcopy s k 5) (l2Key v m.toNat) = none)) ∧ ((tcopy s 0 5).length < 262144) ∧
      (s.tbl.learnCnt < 1000000)) ∧
    (∃ (s : State),
      (s.sys.powered = true) ∧ (s.elapsed s.tbl.tickAt (fget s TBL_L2.AGE_UNIT * 1000000) = true)) ∧
    (∃ (i : Nat) (rest : List Submission) (s : State),
      (s.sys.powered = true) ∧ (s.tbl.order = .age i :: rest) ∧ ((∀ k, k < 4 → dieUp s k = true)) ∧ (i ∈ learnedEntries s) ∧
      (aged s i = true)) ∧
    (∃ (g : Fin 4096) (e : Entry) (s : State),
      (s.sys.powered = true) ∧ (direct s (refDie s) 7 g = some e) ∧ ((∃ j, j < lgCount e ∧ memberUsable s (refDie s) e j =
      true))) := by
  refine ⟨⟨1, 7#48, 8, [], ({ bridged with tbl := { order := [.learn 1 7#48 false 8] } } : State), ?_⟩,
    ⟨({ bridged with mono := 1000000000 * 2 ^ 32 } : State), ?_⟩,
    ⟨77, [], fset (fset ({ bridged with tbl := { bridged.tbl with copies := [5, 13, 21, 29].map fun j => (j, [(77, { key := l2Key 1 5, data := fit 144 [] })]), order := [.age 77] } } : State) TBL_L2.AGE_LIMIT 3) TBL_L2.TICK 9, ?_⟩,
    ⟨2, { key := directKey 7 2, data := fit 144 [0, 2, 0, 0, 8, 0, 9, 0] }, ({ bridged with tbl := { copies := [(7, [(2, { key := directKey 7 2, data := fit 144 [0, 2, 0, 0, 8, 0, 9, 0] })])] } } : State), ?_⟩⟩ <;> (try dsimp only) <;> decide

/-- Every clause of TrafficSettings has states and operands that meet its hypotheses. -/
theorem witness_TrafficSettings :
    (∃ (p : Fin 13) (s : State),
      (accepts s p TM_MTR_CMD 1 = true)) ∧
    (∃ (p : Fin 13) (s : State),
      (accepts s p TM_MTR_CMD 2 = true)) ∧
    (∃ (p : Fin 13) (s : State),
      (accepts s p TM_NODE_CMD 1 = true) ∧ (fget s TM_NODE_SEL.LEVEL = 1)) ∧
    (∃ (p : Fin 13) (s : State),
      (accepts s p TM_NODE_CMD 2 = true)) ∧
    (∃ (p : Fin 13) (a : Fin 1024) (b : Fin 1024) (s : State),
      (accepts s p TM_WSET_CMD (BitVec.ofNat 64 (2 ^ 63 + b.val * 2 ^ 16 + a.val)) = true)) ∧
    (∃ (L : Fin 1024) (c : Fin 16) (s : State),
      (s.sys.powered = true) ∧ (s.tm.wset = true) ∧ (s.tm.wFirst ≤ L) ∧ (L ≤ s.tm.wLast) ∧ (isPort s L = true) ∧
      (s.tm.wWeights.getD c 0 < 256)) ∧
    (∃ (p : Fin 13) (L : Fin 1024) (n : BitVec 7) (s : State),
      (accepts s p (PRT_GATE_CMD L) (BitVec.ofNat 64 (2 ^ 8 + n.toNat)) = true)) ∧
    (∃ (p : Fin 13) (L : Fin 1024) (s : State),
      (accepts s p (PRT_GATE_CMD L) (BitVec.ofNat 64 (2 ^ 9)) = true)) ∧
    (∃ (L : Fin 1024) (s : State),
      (s.sys.powered = true) ∧ ((gate s L).pend = true) ∧ ((gate s L).switchAt ≤ s.tbNs) ∧ ((gate s L).pendLen ≤ 64)) ∧
    (∃ (L : Fin 1024) (s : State),
      (s.sys.powered = true) ∧ (1 ≤ fget s (PRT_GATE_STAT.LEN L)) ∧ (fget s (PRT_GATE_STAT.LEN L) ≤ 64) ∧ ((gate s
      L).entryAt + fget s (TM_GCL.DURATION L (fget s (PRT_GATE_STAT.BANK L)) (fget s (PRT_GATE_STAT.ENTRY L))) ≤ s.tbNs)) := by
  refine ⟨⟨1, on mWOVEN [(TM_MTR_SEL.INDEX, 5), (TM_MTR_CFG0.PIR, 9), (TM_MTR_CFG1.CBS, 9216), (TM_MTR_CFG1.PBS, 9216)], ?_⟩,
    ⟨1, ({ on mWOVEN [(TM_MTR_SEL.INDEX, 5)] with tm := { meters := [(5, { cfg0 := 7, green := 3 })] } } : State), ?_⟩,
    ⟨1, on mWOVEN [(TM_NODE_SEL.LEVEL, 1), (TM_NODE_SEL.PORT, 8), (TM_NODE_SEL.CHAN, 3), (TM_NODE_DATA.RATE, 9), (TM_NODE_DATA.BURST, 9216)], ?_⟩,
    ⟨1, on mWOVEN [(TM_NODE_SEL.LEVEL, 1), (TM_NODE_SEL.PORT, 8), (TM_NODE_SEL.CHAN, 9)], ?_⟩,
    ⟨1, 0, 1023, on mWOVEN [], ?_⟩,
    ⟨8, 3, ({ setReg (on mWOVEN []) TM_WSET_W0 0x0807060504030201 with tm := { wset := true, wFirst := 8, wLast := 9, wWeights := [9, 9, 9, 200], wMask := 8 } } : State), ?_⟩,
    ⟨1, 8, 2, on mWOVEN [], ?_⟩,
    ⟨1, 8, on mWOVEN [(PRT_GATE_STAT.PENDING 8, 1)], ?_⟩,
    ⟨8, ({ on mWOVEN [(PRT_GATE_STAT.PENDING 8, 1)] with tm := { gates := [(8, { pend := true, pendLen := 3 })] } } : State), ?_⟩,
    ⟨8, ({ on mWOVEN [(PRT_GATE_STAT.LEN 8, 2), (PRT_GATE_STAT.ENTRY 8, 1)] with tb := 1000 * 2 ^ 32 } : State), ?_⟩⟩ <;> (try dsimp only) <;> decide

/-- Every clause of PortSends has states and operands that meet its hypotheses. -/
theorem witness_PortSends :
    let waits := fun (s : State) (L sub : Nat) (f : Frame) (fs : List Frame) => clocked s = true ∧ isPort s L = true ∧ isEth s L = false ∧ portState s L = pUP ∧ (port s L).txBusy = none ∧ s.core.egr = [(egrKey L f.chan sub, f :: fs)] ∧ f.chan < 16 ∧ sub < 64 ∧ f.eth = false ∧ creditOk (port s L) f.chan (unitsOf (frameLen f)) = true ∧ portUnpicking s L = false ∧ (port s L).fillEnd ≤ s.now ∧ retuning s (16 + L / 64) = false
    (∃ (L : Fin 1024) (sub : Nat) (f : Frame) (fs : List Frame) (s : State),
      (waits s L sub f fs) ∧ (s.asBasic = true)) ∧
    (∃ (L : Fin 1024) (sub : Nat) (f : Frame) (fs : List Frame) (s : State),
      (waits s L sub f fs) ∧ (s.mode = mWOVEN) ∧ (fget s (PRT_GATE_STAT.LEN L) = 0) ∧ ((gate s L).pend = false) ∧ (outLen f
      ≤ 9216) ∧ (nStrict (node s (nodeKey 1 L f.chan 0)) = true) ∧ (1 ≤ nWeight (node s (nodeKey 2 L f.chan sub))) ∧ (nRate
      (node s (nodeKey 0 L 0 0)) = 0) ∧ (nRate (node s (nodeKey 1 L f.chan 0)) = 0) ∧ (nRate (node s (nodeKey 2 L f.chan
      sub)) = 0)) ∧
    (∃ (L : Fin 1024) (f : Frame) (s : State),
      (clocked s = true) ∧ ((port s L).txBusy = some f) ∧ ((port s L).txEnd ≤ s.now) ∧ (f.chan < 16)) := by
  refine ⟨⟨8, 3, { chan := 3, hdr := 9 }, [], ({ lit with sys := { lit.sys with maintBasic := true }, core := { egr := [(egrKey 8 3 3, [{ chan := 3, hdr := 9 }])] }, ports := [(8, { under := pUP, initRx := 3, peerD := [(3, 33)] })], regs := (setMode lit mBASIC).regs } : State), ?_⟩,
    ⟨8, 3, { chan := 9, hdr := 9 }, [], ({ lit with core := { egr := [(egrKey 8 9 3, [{ chan := 9, hdr := 9 }])] }, ports := [(8, { under := pUP, initRx := 3, peerD := [(9, 33)] })] } : State), ?_⟩,
    ⟨8, { chan := 3, hdr := 9 }, ({ lit with ports := [(8, { under := pUP, txBusy := some { chan := 3, hdr := 9 } })], core := { egrDesc := [(131, 1)] } } : State), ?_⟩⟩ <;> (try dsimp only) <;> decide

/-- Every clause of BypassMap has states and operands that meet its hypotheses. -/
theorem witness_BypassMap :
    (∃ (p : Fin 13) (s : State),
      (accepts s p BYP_MAP_CMD 1 = true)) ∧
    (∃ (p : Fin 13) (s : State),
      (accepts s p BYP_MAP_CMD 2 = true)) ∧
    (∃ (p : Fin 13) (s : State),
      (accepts s p BYP_MAP_CMD 4 = true)) ∧
    (∃ (p : Fin 13) (s : State),
      (accepts s p BYP_MAP_CMD 8 = true)) ∧
    (∃ (p : Fin 13) (s : State),
      (accepts s p BYP_MAP_CMD 16 = true)) ∧
    (∃ (p : Fin 13) (a : Nat) (s : State),
      (accepts s p BYP_MAP_CMD 16 = true) ∧ (s.mode = mWOVEN) ∧ (s.byp.pend = none) ∧ ((curSlot s).isSome = true) ∧
      (slotStart s (getReg s BYP_COMMIT_AT).toNat = some a) ∧ (s.tbNs + 100000 ≤ a) ∧ (a ≤ s.tbNs + 10000000000) ∧
      (busyLanes s.byp.shadow = []) ∧ (minLanesBad s s.byp.shadow = none)) ∧
    (∃ (p : Fin 13) (s : State),
      (accepts s p BYP_MAP_CMD 32 = true)) ∧
    (∃ (n : Nat) (s : State),
      (s.sys.powered = true) ∧ (curSlot s = some n) ∧ (s.byp.pend = none) ∧ (testFree s = true)) ∧
    (∃ (n : Nat) (N : Nat) (s : State),
      (s.sys.powered = true) ∧ (curSlot s = some n) ∧ (s.byp.pend = some N) ∧ (N ≤ n) ∧ ((lateCheck s s.byp.shadow).1 = 0)) ∧
    (∃ (n : Nat) (N : Nat) (s : State),
      (s.sys.powered = true) ∧ (curSlot s = some n) ∧ (s.byp.pend = some N) ∧ (N ≤ n) ∧ ((lateCheck s s.byp.shadow).1 ≠ 0) ∧
      (testFree s = true)) := by
  refine ⟨⟨1, ({ on mWOVEN [(BYP_MAP_SEL.LANE, 11), (BYP_MAP_DATA.MODE, 2), (BYP_MAP_DATA.PARTNER, 19), (BYP_MAP_DATA.OWNER, 3)] with byp := { shadow := [(19, { mode := 2 })] } } : State), ?_⟩,
    ⟨1, ({ on mWOVEN [(BYP_MAP_SEL.LANE, 11)] with byp := { shadow := [(11, { mode := 2, partner := 19, owner := 7 })] } } : State), ?_⟩,
    ⟨1, ({ on mWOVEN [(BYP_MAP_SEL.LANE, 11)] with byp := { oper := [(11, { mode := 2, partner := 19, owner := 7 })] } } : State), ?_⟩,
    ⟨1, ({ on mWOVEN [] with byp := { oper := [(11, { mode := 2, partner := 19, owner := 7 })] } } : State), ?_⟩,
    ⟨1, ({ on mWOVEN [(BYP_COMMIT_AT.SLOT, 400)] with byp := { origin := some 0 } } : State), ?_⟩,
    ⟨1, 102400, ({ on mWOVEN [(BYP_COMMIT_AT.SLOT, 400)] with byp := { origin := some 0 } } : State), ?_⟩,
    ⟨1, ({ on mWOVEN [(BYP_STAT.PENDING, 1)] with byp := { origin := some 0, pend := some 5 } } : State), ?_⟩,
    ⟨2, ({ on mWOVEN [] with tb := 600 * 2 ^ 32, byp := { origin := some 0, granted := [(17, [(3, 4)])] } } : State), ?_⟩,
    ⟨2, 2, ({ on mWOVEN [] with tb := 600 * 2 ^ 32, byp := { origin := some 0, pend := some 2, oper := [(11, { mode := 2, partner := 19, owner := 7 }), (19, { mode := 2, partner := 11, owner := 7 })] } } : State), ?_⟩,
    ⟨2, 2, ({ on mWOVEN [] with tb := 600 * 2 ^ 32, byp := { origin := some 0, pend := some 2, shadow := [(11, { mode := 2, partner := 19, owner := 7 }), (19, { mode := 2, partner := 11, owner := 7 })] } } : State), ?_⟩⟩ <;> (try dsimp only) <;> decide +kernel

/-- Every clause of BypassSlots has states and operands that meet its hypotheses. -/
theorem witness_BypassSlots :
    let okBlk := fun (L : Nat) (b : BitVec 256) (k : Nat) (s : State) => clocked s = true ∧ rxOpen s L = true ∧ blkBad b = false ∧ blkByte b 0 = k
    (∃ (F : Fin 128) (L : Nat) (s : State),
      (s.sys.powered = true) ∧ (anchor s F = some L) ∧ (portUp s L = true) ∧ ((rng s F).startAt = 0)) ∧
    (∃ (F : Fin 128) (L : Nat) (s : State),
      (clocked s = true) ∧ (anchor s F = some L) ∧ (portUp s L = true) ∧ ((rng s F).active = true) ∧ ((rng s F).sentCnt <
      64) ∧ (s.elapsed (rng s F).lastAt 10000 = true)) ∧
    (∃ (F : Fin 128) (L : Nat) (b : BitVec 256) (s : State),
      (anchor s F = some L) ∧ (okBlk L b 0xA1 s) ∧ ((rng s F).active = true) ∧ (tget 0 (rng s F).pings (blkByte b 1) ≠ 0) ∧
      (tget 0 (rng s F).pings (blkByte b 1) + blkField b 4 4 ≤ now16 s + 1)) ∧
    (∃ (F : Fin 128) (s : State),
      (s.sys.powered = true) ∧ ((rng s F).active = true) ∧ (64 ≤ (rng s F).sentCnt)) ∧
    (∃ (F : Fin 128) (L : Nat) (s : State),
      (clocked s = true) ∧ (anchor s F = some L) ∧ (portUp s L = true) ∧ (fbit s (BYP_FIBRE.RANGED F) = true) ∧ ((rng s
      F).setAt = 0)) ∧
    (∃ (F : Fin 128) (L : Nat) (n : Nat) (s : State),
      (clocked s = true) ∧ (anchor s F = some L) ∧ (portUp s L = true) ∧ (curSlot s = some n) ∧ ((rng s F).tickAt = 0)) ∧
    (∃ (F : Fin 128) (L : Nat) (b : BitVec 256) (s : State),
      (anchor s F = some L) ∧ (okBlk L b 0xA4 s) ∧ (bit (blkByte b 4) 7 = true) ∧ ((∀ k, k < 6 → k ≠ 0 → bit (blkByte b (4 +
      4 * k)) 7 = false))) ∧
    (∃ (W : Fin 8) (n : Nat) (s : State),
      (s.sys.powered = true) ∧ (slotDue s = some n) ∧ (tget 0 s.byp.matched W ≤ n) ∧ (dieUp s (W / 2) = true)) ∧
    (∃ (l : Fin 1024) (v : BitVec 16) (s : State),
      (s.sys.powered = true) ∧ (dieUp s (swOf l) = true) ∧ ((mapLane s.byp.oper l).mode = 2) ∧ (fbit s (BYP_LANE.DARK l) =
      false)) ∧
    (∃ (l : Fin 1024) (v : BitVec 16) (s : State),
      (s.sys.powered = true) ∧ (dieUp s (swOf l) = true) ∧ (fbit s (BYP_LANE.DARK l) = true)) := by
  refine ⟨⟨1, 8, lit, ?_⟩,
    ⟨1, 8, ({ lit with mono := 20000 * 2 ^ 32, byp := { rng := [(1, { active := true, sentCnt := 3, lastAt := 10000 })] } } : State), ?_⟩,
    ⟨1, 8, mkBlk 0xA1 [3, 0, 0, 16], ({ lit with mono := 21000 * 2 ^ 32, byp := { rng := [(1, { active := true, sentCnt := 4, pings := [(3, 320001)], rtts := [9] })] } } : State), ?_⟩,
    ⟨1, ({ lit with byp := { rng := [(1, { active := true, sentCnt := 64, rtts := List.replicate 48 16000 })] } } : State), ?_⟩,
    ⟨1, 8, fset (fset lit (BYP_FIBRE.RANGED 1) 1) (BYP_FIBRE.RTT 1) 16000, ?_⟩,
    ⟨1, 8, 2, ({ lit with tb := 600 * 2 ^ 32, byp := { origin := some 0 } } : State), ?_⟩,
    ⟨1, 8, mkBlk 0xA4 [0, 0, 0, 0x82, 5, 7, 1], ({ lit with byp := { oper := [(10, { mode := 1, owner := 3 }), (42, { mode := 1, owner := 3 })] } } : State), ?_⟩,
    ⟨2, 27, ({ fset (fset (fset lit (BYP_FIBRE.RANGED 1) 1) (BYP_FIBRE.RANGED 5) 1) (OPT_FIBRE.OPEN 5) 1 with tb := 600 * 2 ^ 32, byp := { origin := some 0, req := [(1285, 4)], oper := [(10, { mode := 1, owner := 3 }), (42, { mode := 1, owner := 3 })] } } : State), ?_⟩,
    ⟨11, 0x8001, ({ on mWOVEN [] with byp := { oper := [(11, { mode := 2, partner := 19, owner := 7 })] } } : State), ?_⟩,
    ⟨11, 0xFF00, ({ on mWOVEN [(BYP_LANE.DARK 11, 1)] with byp := { oper := [(11, { mode := 2, partner := 19, owner := 7 })] } } : State), ?_⟩⟩ <;> (try dsimp only) <;> decide +kernel

/-- Every clause of ReductionGroups has states and operands that meet its hypotheses. -/
theorem witness_ReductionGroups :
    let woven := fun (s : State) => s.mode = mWOVEN ∨ s.mode = mMAINT ∨ s.mode = mDRAINING
    (∃ (p : Fin 13) (s : State),
      (accepts s p PIC_GRP_CMD 0 = true) ∧ (woven s)) ∧
    (∃ (p : Fin 13) (s : State),
      (accepts s p PIC_GRP_CMD 1 = true) ∧ (woven s) ∧ (grpCheck s = 0) ∧ (gValid (group s (fget s PIC_GRP_SEL.GROUP)) =
      false)) ∧
    (∃ (p : Fin 13) (s : State),
      (accepts s p PIC_GRP_CMD 1 = true) ∧ (¬ woven s)) ∧
    (∃ (p : Fin 13) (s : State),
      (accepts s p PIC_GRP_CMD 0 = true) ∧ (¬ woven s)) ∧
    (∃ (p : Fin 13) (s : State),
      (accepts s p PIC_GRP_CMD 2 = true) ∧ (¬ woven s)) ∧
    (∃ (p : Fin 13) (s : State),
      (accepts s p PIC_GRP_CMD 3 = true) ∧ (¬ woven s)) ∧
    (∃ (p : Fin 13) (s : State),
      (accepts s p PIC_GRP_CMD 2 = true) ∧ (woven s) ∧ ((∀ c ∈ s.pic.colls, c.group ≠ fget s PIC_GRP_SEL.GROUP))) ∧
    (∃ (p : Fin 13) (s : State),
      (accepts s p PIC_GRP_CMD 3 = true) ∧ (woven s) ∧ ((∀ c ∈ s.pic.colls, c.group = fget s PIC_GRP_SEL.GROUP → c.ctx =
      gCtx (group s c.group)))) ∧
    (∃ (p : Fin 13) (e : Fin 32) (s : State),
      (accepts s p PIC_ENG_CMD (BitVec.ofNat 64 (32 + e)) = true)) ∧
    (∃ (p : Fin 13) (x : Fin 1024) (v : Word) (s : State),
      (accepts s p (PIC_LOGTRIM x) v = true)) ∧
    (∃ (g : Fin 65536) (s : State),
      (s.sys.powered = true) ∧ (gMirror (group s g) = true) ∧ (gValid (group s g) = true) ∧ ((group s g).unconf.isSome =
      true) ∧ ((group s g).mirrorDown = false) ∧ (s.pic.gets.any (fun m => m.group == g.val && s.elapsed m.stamp (gT (group
      s g))) = true)) := by
  refine ⟨⟨1, ({ on mWOVEN [(PIC_GRP_SEL.GROUP, 5)] with pic := { groups := [(5, { w0 := 1, w1 := 0x100000002 })] } } : State), ?_⟩,
    ⟨1, ({ on mWOVEN [(PIC_GRP_SEL.GROUP, 5), (PIC_GRP_W0.VALID, 1), (PIC_GRP_W0.CTX, 3), (PIC_GRP_W0.CHAN, 2), (PIC_GRP_W0.MCG, 6), (PIC_GRP_W1.COUNT, 2), (PIC_GRP_W1.CHUNKS, 1), (CTX_STAT.STATE 3, 2)] with tbl := { copies := [(6, [(6, { key := directKey 6 6, data := fit 144 [255] })])] } } : State), ?_⟩,
    ⟨1, on mBASIC [], ?_⟩,
    ⟨1, on mBASIC [], ?_⟩,
    ⟨1, on mBASIC [], ?_⟩,
    ⟨1, on mBASIC [], ?_⟩,
    ⟨1, ({ on mWOVEN [(PIC_GRP_SEL.GROUP, 5)] with pic := { groups := [(5, { w0 := 1, w1 := 0x100000002 })] } } : State), ?_⟩,
    ⟨1, ({ on mWOVEN [(PIC_GRP_SEL.GROUP, 5)] with pic := { groups := [(5, { w0 := 1 })], colls := [{ group := 5, cseq := 2 }, { group := 6 }] } } : State), ?_⟩,
    ⟨1, 9, on mWOVEN [(PIC_ENG.FENCED 9, 1), (PIC_ENG.TESTED 9, 1)], ?_⟩,
    ⟨1, 3, 64, setReg (on mWOVEN []) (PIC_LOG 3) 128, ?_⟩,
    ⟨5, ({ on mWOVEN [] with mono := 10 ^ 9 * 2 ^ 32, pic := { groups := [(5, { w0 := 0x1000000000001, unconf := some 0 })], gets := [{ group := 5 }] } } : State), ?_⟩⟩ <;> (try dsimp only) <;> decide +kernel

/-- Every clause of ReductionFrames has states and operands that meet its hypotheses. -/
theorem witness_ReductionFrames :
    let passes := fun (s : State) (d : Nat) (f : Frame) (data : List Byte) (c : Coll) => s.sys.powered = true ∧ (ioFrames s d).head? = some f ∧ dieUp s d = true ∧ (picRows16 s d f).isNone = true ∧ picRows79 s f = (none, data) ∧ hasTomb s (hCtx f.hdr) (hGroup f.hdr) (hCseq f.hdr) = false ∧ findColl s (hCtx f.hdr) (hGroup f.hdr) (hCseq f.hdr) = some c ∧ hCtx f.hdr = gCtx (group s (hGroup f.hdr))
    (∃ (d : Fin 4) (f : Frame) (data : List Byte) (c : Coll) (k : Chunk) (s : State),
      (passes s d f data c) ∧ (hType f.hdr = tCONTRIB) ∧ (findChunk c (hChunk f.hdr) = some k) ∧ (collBad s c (hChunk f.hdr)
      = false) ∧ (0 < k.count) ∧ (k.count + 1 < gCount (group s (hGroup f.hdr)))) ∧
    (∃ (d : Fin 4) (f : Frame) (data : List Byte) (s : State),
      (s.sys.powered = true) ∧ ((ioFrames s d).head? = some f) ∧ (dieUp s d = true) ∧ ((picRows16 s d f).isNone = true) ∧
      (picRows79 s f = (none, data)) ∧ (s.pic.tombs = []) ∧ (s.pic.colls = []) ∧ (hType f.hdr = tCONTRIB) ∧ (2 ≤ (tget {}
      s.sec.share (gCtx (group s (hGroup f.hdr)))).rslotQuota.getD d 0) ∧ (1 ≤ tget 64 s.sys.str.rslotMib d) ∧ ((∀ j, j < 8
      → fbit s (PIC_ENG.FENCED (8 * d + j)) = false)) ∧ (1 < gCount (group s (hGroup f.hdr)))) ∧
    (∃ (d : Fin 4) (f : Frame) (data : List Byte) (c : Coll) (k : Chunk) (s : State),
      (passes s d f data c) ∧ (hType f.hdr = tCONTRIB) ∧ (findChunk c (hChunk f.hdr) = some k) ∧ (collBad s c (hChunk f.hdr)
      = false) ∧ (k.count + 1 = gCount (group s (hGroup f.hdr))) ∧ (k.freed = false) ∧ (gEnc (group s (hGroup f.hdr)) =
      false) ∧ (gLog (group s (hGroup f.hdr)) = false) ∧ ((tget {} s.flt.chips (fget s TBL_SELF.CHIP)) = {})) ∧
    (∃ (d : Fin 4) (f : Frame) (data : List Byte) (c : Coll) (k : Chunk) (s : State),
      (passes s d f data c) ∧ (hType f.hdr = tCONTRIB) ∧ (findChunk c (hChunk f.hdr) = some k) ∧ (collBad s c (hChunk f.hdr)
      = false) ∧ (k.count < gCount (group s (hGroup f.hdr))) ∧ (s.pic.colls = [c]) ∧ (k.engine < 32)) ∧
    (∃ (d : Fin 4) (f : Frame) (data : List Byte) (c : Coll) (s : State),
      (passes s d f data c) ∧ (hType f.hdr = tRESULT_ACK)) ∧
    (∃ (d : Fin 4) (f : Frame) (data : List Byte) (c : Coll) (s : State),
      (passes s d f data c) ∧ (hType f.hdr = tRESEND_REQ) ∧ ((∀ k, findChunk c (hChunk f.hdr) = some k → k.done = true →
      k.freed = false → False))) ∧
    (∃ (d : Fin 4) (f : Frame) (data : List Byte) (c : Coll) (k : Chunk) (s : State),
      (passes s d f data c) ∧ (hType f.hdr = tRESEND_REQ) ∧ (findChunk c (hChunk f.hdr) = some k) ∧ (k.done = true) ∧
      (k.freed = false) ∧ (collBad s c k.idx = false)) ∧
    (∃ (p : Nat) (f : Frame) (q : List (Nat × Frame)) (c : Coll) (k : Chunk) (s : State),
      (s.sys.powered = true) ∧ (s.core.reports = (p, f) :: q) ∧ (hType f.hdr = tRESULT) ∧ (findColl s (hCtx f.hdr) (hGroup
      f.hdr) (hCseq f.hdr) = some c) ∧ (findChunk c (hChunk f.hdr) = some k) ∧ (k.done = true) ∧ (k.freed = false) ∧ (p ∈
      k.acks)) ∧
    (∃ (p : Nat) (f : Frame) (q : List (Nat × Frame)) (c : Coll) (k : Chunk) (s : State),
      (s.sys.powered = true) ∧ (s.core.reports = (p, f) :: q) ∧ (hType f.hdr = tRESULT) ∧ (findColl s (hCtx f.hdr) (hGroup
      f.hdr) (hCseq f.hdr) = some c) ∧ (findChunk c (hChunk f.hdr) = some k) ∧ (p ∉ k.acks) ∧ ((k.freed = true ∨ k.acks ≠
      []))) := by
  refine ⟨⟨1, contrib, le 4 0x3F800000, { ctx := 3, group := 5, cseq := 7, die := 1, chunks := [{ idx := 0, n := 1, count := 1, acc := [w48of (.fin false 1 0)], engine := 8 }] }, { idx := 0, n := 1, count := 1, acc := [w48of (.fin false 1 0)], engine := 8 }, reducing, ?_⟩,
    ⟨1, contrib, le 4 0x3F800000, ({ reducing with pic := { reducing.pic with colls := [] }, sec := { share := [(3, { rslotQuota := [0, 2, 0, 0] })] } } : State), ?_⟩,
    ⟨1, contrib, le 4 0x3F800000, { ctx := 3, group := 5, cseq := 7, die := 1, chunks := [{ idx := 0, n := 1, count := 2, acc := [w48of (.fin false 1 0)], engine := 8 }] }, { idx := 0, n := 1, count := 2, acc := [w48of (.fin false 1 0)], engine := 8 }, ({ reducing with pic := { reducing.pic with colls := [{ ctx := 3, group := 5, cseq := 7, die := 1, chunks := [{ idx := 0, n := 1, count := 2, acc := [w48of (.fin false 1 0)], engine := 8 }] }] } } : State), ?_⟩,
    ⟨1, contrib, le 4 0x3F800000, { ctx := 3, group := 5, cseq := 7, die := 1, chunks := [{ idx := 0, n := 1, count := 1, acc := [w48of (.fin false 1 0)], engine := 8 }] }, { idx := 0, n := 1, count := 1, acc := [w48of (.fin false 1 0)], engine := 8 }, reducing, ?_⟩,
    ⟨1, ackFrame, [], { ctx := 3, group := 5, cseq := 7, die := 1, chunks := [{ idx := 0, n := 1, count := 3, done := true, acks := [8] }] }, ({ reducing with core := { ioq := [(1, [ackFrame])] }, pic := { reducing.pic with colls := [{ ctx := 3, group := 5, cseq := 7, die := 1, chunks := [{ idx := 0, n := 1, count := 3, done := true, acks := [8] }] }] } } : State), ?_⟩,
    ⟨1, resendFrame, [], { ctx := 3, group := 5, cseq := 7, die := 1, chunks := [{ idx := 0, n := 1, count := 1, engine := 8 }] }, ({ reducing with core := { ioq := [(1, [resendFrame])] }, pic := { reducing.pic with colls := [{ ctx := 3, group := 5, cseq := 7, die := 1, chunks := [{ idx := 0, n := 1, count := 1, engine := 8 }] }] } } : State), ?_⟩,
    ⟨1, resendFrame, [], { ctx := 3, group := 5, cseq := 7, die := 1, chunks := [{ idx := 0, n := 1, count := 1, done := true, acks := [8] }] }, { idx := 0, n := 1, count := 1, done := true, acks := [8] }, ({ reducing with core := { ioq := [(1, [resendFrame])] }, pic := { reducing.pic with colls := [{ ctx := 3, group := 5, cseq := 7, die := 1, chunks := [{ idx := 0, n := 1, count := 1, done := true, acks := [8] }] }] } } : State), ?_⟩,
    ⟨8, { hdr := mkHdr 0 0 10 3 0 0 tRESULT (2 ^ flRED) 0 4 0 (redW2 5 7 0), body := [] }, [], { ctx := 3, group := 5, cseq := 7, die := 1, chunks := [{ idx := 0, n := 1, count := 1, done := true, acks := [8, 9] }] }, { idx := 0, n := 1, count := 1, done := true, acks := [8, 9] }, ({ reducing with core := { reports := [(8, { hdr := mkHdr 0 0 10 3 0 0 tRESULT (2 ^ flRED) 0 4 0 (redW2 5 7 0), body := [] })] }, pic := { reducing.pic with colls := [{ ctx := 3, group := 5, cseq := 7, die := 1, chunks := [{ idx := 0, n := 1, count := 1, done := true, acks := [8, 9] }] }] } } : State), ?_⟩,
    ⟨8, { hdr := mkHdr 0 0 10 3 0 0 tRESULT (2 ^ flRED) 0 4 0 (redW2 5 7 0), body := [] }, [], { ctx := 3, group := 5, cseq := 7, die := 1, chunks := [{ idx := 0, n := 1, count := 1, done := true, freed := true }] }, { idx := 0, n := 1, count := 1, done := true, freed := true }, ({ reducing with core := { reports := [(8, { hdr := mkHdr 0 0 10 3 0 0 tRESULT (2 ^ flRED) 0 4 0 (redW2 5 7 0), body := [] })] }, pic := { reducing.pic with colls := [{ ctx := 3, group := 5, cseq := 7, die := 1, chunks := [{ idx := 0, n := 1, count := 1, done := true, freed := true }] }] } } : State), ?_⟩⟩ <;> (try dsimp only) <;> decide +kernel

/-- Every clause of ReductionEnds has states and operands that meet its hypotheses. -/
theorem witness_ReductionEnds :
    (∃ (x : Fin 1024) (g : Fin 65536) (q : BitVec 24) (c : Coll) (s : State),
      (s.sys.powered = true) ∧ (findColl s x g q.toNat = some c) ∧ (gValid (group s g) = true) ∧ (dieUp s c.die = true) ∧
      (gLog (group s g) = false) ∧ (gMirror (group s g) = false) ∧ ((∀ i, i < gChunks (group s g) → (findChunk c i).any
      (·.freed) = true))) ∧
    (∃ (x : Fin 1024) (g : Fin 65536) (q : BitVec 24) (c : Coll) (i : Nat) (s : State),
      (findColl s x g q.toNat = some c) ∧ (i < gChunks (group s g)) ∧ (i ≤ c.chunks.length) ∧ ((findChunk c i).all
      (!·.freed) = true)) ∧
    (∃ (x : Fin 1024) (g : Fin 65536) (q : BitVec 24) (s : State),
      (gMirror (group s g) = true) ∧ ((group s g).unconf.isSome = true) ∧ ((group s g).mirrorDown = false)) ∧
    (∃ (x : Fin 1024) (g : Fin 65536) (q : BitVec 24) (c : Coll) (s : State),
      (s.sys.powered = true) ∧ (gCtx (group s g) = x.val) ∧ (findColl s x g q.toNat = some c) ∧ ((c.chunks.any fun k =>
      !k.done && s.elapsed k.stamp (gT (group s g))) = true ∨ s.elapsed c.stamp (gT (group s g)) = true)) ∧
    (∃ (x : Fin 1024) (g : Fin 65536) (q : BitVec 24) (c : Coll) (s : State),
      (s.sys.powered = true) ∧ (gCtx (group s g) = x.val) ∧ (findColl s x g q.toNat = some c) ∧ ((c.chunks.any fun k =>
      k.done && !k.freed && !k.acks.isEmpty && s.elapsed k.doneAt (gT (group s g))) = true)) ∧
    (∃ (x : Fin 1024) (g : Fin 65536) (q : BitVec 24) (s : State),
      (s.sys.powered = true) ∧ (hasTomb s x g q.toNat = false)) := by
  refine ⟨⟨3, 5, 7, { ctx := 3, group := 5, cseq := 7, die := 1, chunks := [{ idx := 0, done := true, freed := true }] }, ({ reducing with pic := { reducing.pic with colls := [{ ctx := 3, group := 5, cseq := 7, die := 1, chunks := [{ idx := 0, done := true, freed := true }] }] } } : State), ?_⟩,
    ⟨3, 5, 7, { ctx := 3, group := 5, cseq := 7, die := 1, chunks := [{ idx := 0, done := true }] }, 0, ({ reducing with pic := { reducing.pic with colls := [{ ctx := 3, group := 5, cseq := 7, die := 1, chunks := [{ idx := 0, done := true }] }] } } : State), ?_⟩,
    ⟨3, 5, 7, ({ reducing with pic := { reducing.pic with groups := [(5, { w0 := 0x1000000000001, unconf := some 0 })], colls := [{ ctx := 3, group := 5, cseq := 7 }] } } : State), ?_⟩,
    ⟨3, 5, 7, { ctx := 3, group := 5, cseq := 7, die := 1, stamp := 1, chunks := [{ idx := 0 }] }, ({ reducing with mono := 10 ^ 9 * 2 ^ 32, pic := { reducing.pic with colls := [{ ctx := 3, group := 5, cseq := 7, die := 1, stamp := 1, chunks := [{ idx := 0 }] }] } } : State), ?_⟩,
    ⟨3, 5, 7, { ctx := 3, group := 5, cseq := 7, die := 1, stamp := 1, chunks := [{ idx := 0, done := true, acks := [8] }] }, ({ reducing with mono := 10 ^ 9 * 2 ^ 32, pic := { reducing.pic with colls := [{ ctx := 3, group := 5, cseq := 7, die := 1, stamp := 1, chunks := [{ idx := 0, done := true, acks := [8] }] }] } } : State), ?_⟩,
    ⟨3, 5, 7, ({ reducing with mono := 10 ^ 9 * 2 ^ 32, pic := { reducing.pic with tombs := [{ ctx := 3, group := 5, cseq := 7, expiry := 9 }, { group := 1 }] } } : State), ?_⟩⟩ <;> (try dsimp only) <;> decide

/-- Every clause of Stitches has states and operands that meet its hypotheses. -/
theorem witness_Stitches :
    let at1 := fun (n : Bob) (j : Fin 4) (s : State) => stitchAt (bob s n) j
    let fires := fun (n : Bob) (j : Fin 4) (op next : Nat) (s : State) => s.sys.powered = true ∧ canFire s n j = true ∧ sOp (stitchAt (bob s n) j) = op ∧ (bob s n).progBad.contains (needle (bob s n) j).pc = false ∧ next < (bob s n).record.prog.length
    (∃ (n : Bob) (j : Fin 4) (s : State),
      (fires n j 0x00 (nextPc (bob s n) j) s)) ∧
    (∃ (n : Bob) (j : Fin 4) (s : State),
      (fires n j 0x03 (sImm (at1 n j s)) s)) ∧
    (∃ (n : Bob) (j : Fin 4) (s : State),
      (fires n j 0x04 (if vRa (bob s n) j (at1 n j s) ≠ 0 then sImm (at1 n j s) else nextPc (bob s n) j) s)) ∧
    (∃ (n : Bob) (j : Fin 4) (s : State),
      (fires n j 0x05 (if (vRa (bob s n) j (at1 n j s)).toInt < (vRb (bob s n) j (at1 n j s)).toInt then sImm (at1 n j s)
      else nextPc (bob s n) j) s)) ∧
    (∃ (n : Bob) (j : Fin 4) (s : State),
      (fires n j 0x28 (nextPc (bob s n) j) s)) ∧
    (∃ (n : Bob) (j : Fin 4) (s : State),
      (fires n j 0x06 (nextPc (bob s n) j) s)) ∧
    (∃ (n : Bob) (j : Fin 4) (s : State),
      (fires n j 0x10 (nextPc (bob s n) j) s)) ∧
    (∃ (n : Bob) (j : Fin 4) (s : State),
      (fires n j 0x11 (nextPc (bob s n) j) s)) ∧
    (∃ (n : Bob) (j : Fin 4) (s : State),
      (fires n j 0x12 (nextPc (bob s n) j) s)) ∧
    (∃ (n : Bob) (j : Fin 4) (s : State),
      (fires n j 0x13 (nextPc (bob s n) j) s)) ∧
    (∃ (n : Bob) (j : Fin 4) (s : State),
      (fires n j 0x14 (nextPc (bob s n) j) s)) ∧
    (∃ (n : Bob) (j : Fin 4) (s : State),
      (fires n j 0x15 (nextPc (bob s n) j) s)) ∧
    (∃ (n : Bob) (j : Fin 4) (s : State),
      (fires n j 0x16 (nextPc (bob s n) j) s)) ∧
    (∃ (n : Bob) (j : Fin 4) (s : State),
      (fires n j 0x17 (nextPc (bob s n) j) s)) ∧
    (∃ (n : Bob) (j : Fin 4) (s : State),
      (fires n j 0x18 (nextPc (bob s n) j) s)) ∧
    (∃ (n : Bob) (j : Fin 4) (s : State),
      (fires n j 0x19 (nextPc (bob s n) j) s)) ∧
    (∃ (n : Bob) (j : Fin 4) (s : State),
      (fires n j 0x1A (nextPc (bob s n) j) s)) ∧
    (∃ (n : Bob) (j : Fin 4) (s : State),
      (fires n j 0x1D (nextPc (bob s n) j) s)) ∧
    (∃ (n : Bob) (j : Fin 4) (s : State),
      (fires n j 0x01 0 s)) ∧
    (∃ (n : Bob) (j : Fin 4) (a : Nat) (s : State),
      (fires n j 0x1B (nextPc (bob s n) j) s) ∧ ((vRa (bob s n) j (at1 n j s) + (BitVec.ofInt 64 (sext 32 (sImm (at1 n j
      s))))).toNat = a) ∧ (a % 8 = 0) ∧ (a + 8 ≤ storeSize) ∧ (storeBad (bob s n) a 8 = false) ∧ ((bob s n).eccOne.any
      (wordIn a 8) = false)) ∧
    (∃ (n : Bob) (j : Fin 4) (a : Nat) (s : State),
      (fires n j 0x1C (nextPc (bob s n) j) s) ∧ ((vRa (bob s n) j (at1 n j s) + (BitVec.ofInt 64 (sext 32 (sImm (at1 n j
      s))))).toNat = a) ∧ (a % 8 = 0) ∧ (a + 8 ≤ storeSize)) ∧
    (∃ (n : Bob) (j : Fin 4) (a : Nat) (s : State),
      (fires n j 0x1B (nextPc (bob s n) j) s) ∧ ((vRa (bob s n) j (at1 n j s) + (BitVec.ofInt 64 (sext 32 (sImm (at1 n j
      s))))).toNat = a) ∧ (a % 8 ≠ 0 ∨ storeSize < a + 8)) ∧
    (∃ (n : Bob) (j : Fin 4) (a : Nat) (s : State),
      (fires n j 0x1C (nextPc (bob s n) j) s) ∧ ((vRa (bob s n) j (at1 n j s) + (BitVec.ofInt 64 (sext 32 (sImm (at1 n j
      s))))).toNat = a) ∧ (a % 8 ≠ 0 ∨ storeSize < a + 8)) ∧
    (∃ (n : Bob) (j : Fin 4) (s : State),
      (fires n j 0x02 0 s)) ∧
    (∃ (n : Bob) (j : Fin 4) (s : State),
      (fires n j 0x08 (nextPc (bob s n) j) s)) ∧
    (∃ (n : Bob) (j : Fin 4) (k : Nat) (s : State),
      (fires n j 0x07 (nextPc (bob s n) j) s) ∧ (sImm (at1 n j s) % 16 = k) ∧ (routeKind (bob s n) k ≠ 0) ∧ (routeDest (bob
      s n) n k ≠ n.val) ∧ (reach s (bobDie n) (bobDie (routeDest (bob s n) n k)) = true)) ∧
    (∃ (n : Bob) (j : Fin 4) (e : Nat × BitVec 128) (x : Inlet) (s : State),
      (fires n j 0x09 (nextPc (bob s n) j) s) ∧ (inletEntry (bob s n) (sImm (at1 n j s) % 16) = some e) ∧ (releaseTo (bob s
      n) e.1 e.2 (vRa (bob s n) j (at1 n j s)).toNat = some x)) := by
  refine ⟨⟨3, 1, needling (stitchOf 0x00 1 1 2 3 1 2 5), ?_⟩,
    ⟨3, 1, needling (stitchOf 0x03 0 0 2 3 1 2 5), ?_⟩,
    ⟨3, 1, needling (stitchOf 0x04 0 0 2 3 1 2 5), ?_⟩,
    ⟨3, 1, needling (stitchOf 0x05 0 0 2 3 1 2 5), ?_⟩,
    ⟨3, 1, needling (stitchOf 0x28 0 0 2 3 1 2 5), ?_⟩,
    ⟨3, 1, needling (stitchOf 0x06 1 1 2 3 1 2 5), ?_⟩,
    ⟨3, 1, needling (stitchOf 0x10 0 0 2 0 1 2 5), ?_⟩,
    ⟨3, 1, needling (stitchOf 0x11 0 0 2 3 1 2 5), ?_⟩,
    ⟨3, 1, needling (stitchOf 0x12 0 0 2 3 1 2 5), ?_⟩,
    ⟨3, 1, needling (stitchOf 0x13 0 0 2 3 1 2 5), ?_⟩,
    ⟨3, 1, needling (stitchOf 0x14 0 0 2 3 1 2 5), ?_⟩,
    ⟨3, 1, needling (stitchOf 0x15 0 0 2 3 1 2 5), ?_⟩,
    ⟨3, 1, needling (stitchOf 0x16 0 0 2 3 1 2 5), ?_⟩,
    ⟨3, 1, needling (stitchOf 0x17 0 0 2 3 1 2 5), ?_⟩,
    ⟨3, 1, needling (stitchOf 0x18 0 0 2 3 1 2 5), ?_⟩,
    ⟨3, 1, needling (stitchOf 0x19 0 0 2 3 1 2 5), ?_⟩,
    ⟨3, 1, needling (stitchOf 0x1A 0 0 2 3 1 2 5), ?_⟩,
    ⟨3, 1, needling (stitchOf 0x1D 0 0 2 3 1 2 5), ?_⟩,
    ⟨3, 1, needling (stitchOf 0x01 0 0 2 3 1 2 5), ?_⟩,
    ⟨3, 1, 16, needling (stitchOf 0x1B 0 0 2 3 1 2 8), ?_⟩,
    ⟨3, 1, 16, needling (stitchOf 0x1C 0 0 2 3 1 2 8), ?_⟩,
    ⟨3, 1, 17, needling (stitchOf 0x1B 0 0 2 3 1 2 9), ?_⟩,
    ⟨3, 1, 17, needling (stitchOf 0x1C 0 0 2 3 1 2 9), ?_⟩,
    ⟨3, 1, needling (stitchOf 0x02 0 0 2 3 1 2 332340), ?_⟩,
    ⟨3, 1, needling (stitchOf 0x08 0 0 2 3 1 2 32), ?_⟩,
    ⟨3, 1, 0, needling (stitchOf 0x07 0 0 2 3 1 2 48), ?_⟩,
    ⟨3, 1, (0, 0x1000_00001000_00000205), { head := 128, used := 56 }, ringed (stitchOf 0x09 0 0 2 3 1 2 5), ?_⟩⟩ <;> (try dsimp only) <;> decide

/-- Every clause of AsyncStitches has states and operands that meet its hypotheses. -/
theorem witness_AsyncStitches :
    let reads := fun (n : Bob) (j : Fin 4) (op len : Nat) (d : List Byte) (s : State) => s.sys.powered = true ∧ canFire s n j = true ∧ sOp (stitchAt (bob s n) j) = op ∧ (bob s n).progBad.contains (needle (bob s n) j).pc = false ∧ nextPc (bob s n) j < (bob s n).record.prog.length ∧ descAt (bob s n) (vRa (bob s n) j (stitchAt (bob s n) j)).toNat len = .inr d
    (∃ (n : Bob) (j : Fin 4) (d : List Byte) (s : State),
      (reads n j 0x20 64 d s) ∧ (mmaOk d = true)) ∧
    (∃ (n : Bob) (j : Fin 4) (d : List Byte) (s : State),
      (reads n j 0x20 64 d s) ∧ (mmaOk d = false)) ∧
    (∃ (n : Bob) (j : Fin 4) (d : List Byte) (s : State),
      (reads n j 0x21 64 d s) ∧ (dF d 0 1 = 0x01) ∧ (vopOk d = true)) ∧
    (∃ (n : Bob) (j : Fin 4) (d : List Byte) (s : State),
      (reads n j 0x21 64 d s) ∧ (dF d 0 1 = 0x02) ∧ (vopOk d = true)) ∧
    (∃ (n : Bob) (j : Fin 4) (d : List Byte) (s : State),
      (reads n j 0x21 64 d s) ∧ (dF d 0 1 = 0x03) ∧ (vopOk d = true)) ∧
    (∃ (n : Bob) (j : Fin 4) (d : List Byte) (s : State),
      (reads n j 0x21 64 d s) ∧ (dF d 0 1 = 0x04) ∧ (vopOk d = true)) ∧
    (∃ (n : Bob) (j : Fin 4) (d : List Byte) (s : State),
      (reads n j 0x21 64 d s) ∧ (dF d 0 1 = 0x05) ∧ (vopOk d = true)) ∧
    (∃ (n : Bob) (j : Fin 4) (d : List Byte) (s : State),
      (reads n j 0x21 64 d s) ∧ (dF d 0 1 = 0x06) ∧ (vopOk d = true)) ∧
    (∃ (n : Bob) (j : Fin 4) (d : List Byte) (s : State),
      (reads n j 0x21 64 d s) ∧ (dF d 0 1 = 0x07) ∧ (vopOk d = true)) ∧
    (∃ (n : Bob) (j : Fin 4) (d : List Byte) (s : State),
      (reads n j 0x21 64 d s) ∧ (dF d 0 1 = 0x08) ∧ (vopOk d = true)) ∧
    (∃ (n : Bob) (j : Fin 4) (d : List Byte) (s : State),
      (reads n j 0x21 64 d s) ∧ (dF d 0 1 = 0x09) ∧ (vopOk d = true)) ∧
    (∃ (n : Bob) (j : Fin 4) (d : List Byte) (s : State),
      (reads n j 0x21 64 d s) ∧ (dF d 0 1 = 0x0A) ∧ (vopOk d = true)) ∧
    (∃ (n : Bob) (j : Fin 4) (d : List Byte) (s : State),
      (reads n j 0x21 64 d s) ∧ (dF d 0 1 = 0x0B) ∧ (vopOk d = true)) ∧
    (∃ (n : Bob) (j : Fin 4) (d : List Byte) (s : State),
      (reads n j 0x21 64 d s) ∧ (dF d 0 1 = 0x0C) ∧ (vopOk d = true)) ∧
    (∃ (n : Bob) (j : Fin 4) (d : List Byte) (s : State),
      (reads n j 0x21 64 d s) ∧ (dF d 0 1 = 0x0D) ∧ (vopOk d = true)) ∧
    (∃ (n : Bob) (j : Fin 4) (d : List Byte) (s : State),
      (reads n j 0x21 64 d s) ∧ (dF d 0 1 = 0x0E) ∧ (vopOk d = true)) ∧
    (∃ (n : Bob) (j : Fin 4) (d : List Byte) (s : State),
      (reads n j 0x21 64 d s) ∧ (dF d 0 1 = 0x0F) ∧ (vopOk d = true)) ∧
    (∃ (n : Bob) (j : Fin 4) (d : List Byte) (s : State),
      (reads n j 0x21 64 d s) ∧ (dF d 0 1 = 0x10) ∧ (vopOk d = true)) ∧
    (∃ (n : Bob) (j : Fin 4) (d : List Byte) (s : State),
      (reads n j 0x22 64 d s) ∧ (dF d 0 1 = 0) ∧ (copyCheck s n (bob s n) d = 0)) ∧
    (∃ (n : Bob) (j : Fin 4) (d : List Byte) (s : State),
      (reads n j 0x22 64 d s) ∧ (dF d 0 1 = 2) ∧ (copyCheck s n (bob s n) d = 0)) ∧
    (∃ (n : Bob) (j : Fin 4) (d : List Byte) (s : State),
      (reads n j 0x22 64 d s) ∧ (dF d 0 1 = 3) ∧ (copyCheck s n (bob s n) d = 0)) ∧
    (∃ (n : Bob) (j : Fin 4) (d : List Byte) (s : State),
      (reads n j 0x22 64 d s) ∧ (dF d 0 1 = 4) ∧ (copyCheck s n (bob s n) d = 0)) ∧
    (∃ (n : Bob) (j : Fin 4) (d : List Byte) (s : State),
      (reads n j 0x22 64 d s) ∧ (dF d 0 1 = 5) ∧ (copyCheck s n (bob s n) d = 0)) ∧
    (∃ (n : Bob) (j : Fin 4) (d : List Byte) (s : State),
      (reads n j 0x22 64 d s) ∧ (dF d 0 1 = 1) ∧ (copyCheck s n (bob s n) d = 0) ∧ ((∀ i, i < dF d 4 4 → storeBad (bob s n)
      (copyRow (bob s n) d i).1 (dF d 8 4) = false)) ∧ (routeDest (bob s n) n (dF d 1 1) ≠ n.val) ∧ (reach s (bobDie n)
      (bobDie (routeDest (bob s n) n (dF d 1 1))) = true)) ∧
    (∃ (n : Bob) (j : Fin 4) (d : List Byte) (s : State),
      (reads n j 0x23 32 d s) ∧ (sendOk s (regionOwner s (bob s n).region) d = true) ∧ (storeBad (bob s n) (dF d 0x18 4) (if
      bit (dF d 6 1) 1 then dF d 0x14 4 - 28 else dF d 0x14 4) = false)) := by
  refine ⟨⟨3, 1, fit 64 [5, 5, 0, 0, 4, 0, 4, 0, 32], described 0x20 [5, 5, 0, 0, 4, 0, 4, 0, 32], ?_⟩,
    ⟨3, 1, fit 64 [0, 5], described 0x20 [0, 5], ?_⟩,
    ⟨3, 1, fit 64 [1, 0, 0, 0, 2], described 0x21 [1, 0, 0, 0, 2], ?_⟩,
    ⟨3, 1, fit 64 [2, 0, 0, 0, 2], described 0x21 [2, 0, 0, 0, 2], ?_⟩,
    ⟨3, 1, fit 64 [3, 0, 0, 0, 2], described 0x21 [3, 0, 0, 0, 2], ?_⟩,
    ⟨3, 1, fit 64 [4, 0, 0, 0, 2], described 0x21 [4, 0, 0, 0, 2], ?_⟩,
    ⟨3, 1, fit 64 [5, 0, 0, 0, 2], described 0x21 [5, 0, 0, 0, 2], ?_⟩,
    ⟨3, 1, fit 64 [6, 0, 0, 0, 2], described 0x21 [6, 0, 0, 0, 2], ?_⟩,
    ⟨3, 1, fit 64 [7, 0, 0, 0, 2], described 0x21 [7, 0, 0, 0, 2], ?_⟩,
    ⟨3, 1, fit 64 [8, 0, 0, 0, 2], described 0x21 [8, 0, 0, 0, 2], ?_⟩,
    ⟨3, 1, fit 64 [9, 0, 0, 0, 2], described 0x21 [9, 0, 0, 0, 2], ?_⟩,
    ⟨3, 1, fit 64 [10, 0, 0, 0, 2], described 0x21 [10, 0, 0, 0, 2], ?_⟩,
    ⟨3, 1, fit 64 [11, 0, 0, 0, 2], described 0x21 [11, 0, 0, 0, 2], ?_⟩,
    ⟨3, 1, fit 64 [12, 0, 0, 0, 2], described 0x21 [12, 0, 0, 0, 2], ?_⟩,
    ⟨3, 1, fit 64 [13, 0, 0, 0, 2], described 0x21 [13, 0, 0, 0, 2], ?_⟩,
    ⟨3, 1, fit 64 [14, 0, 0, 0, 2], described 0x21 [14, 0, 0, 0, 2], ?_⟩,
    ⟨3, 1, fit 64 [15, 0, 0, 0, 2], described 0x21 [15, 0, 0, 0, 2], ?_⟩,
    ⟨3, 1, fit 64 [16, 0, 0, 0, 2], described 0x21 [16, 0, 0, 0, 2], ?_⟩,
    ⟨3, 1, fit 64 [0, 0, 0, 0, 1, 0, 0, 0, 64], described 0x22 [0, 0, 0, 0, 1, 0, 0, 0, 64], ?_⟩,
    ⟨3, 1, fit 64 [2, 0, 0, 0, 1, 0, 0, 0, 64], described 0x22 [2, 0, 0, 0, 1, 0, 0, 0, 64], ?_⟩,
    ⟨3, 1, fit 64 [3, 0, 0, 0, 1, 0, 0, 0, 64], described 0x22 [3, 0, 0, 0, 1, 0, 0, 0, 64], ?_⟩,
    ⟨3, 1, fit 64 [4, 0, 0, 0, 1, 0, 0, 0, 64], described 0x22 [4, 0, 0, 0, 1, 0, 0, 0, 64], ?_⟩,
    ⟨3, 1, fit 64 [5, 0, 0, 0, 1, 0, 0, 0, 64], described 0x22 [5, 0, 0, 0, 1, 0, 0, 0, 64], ?_⟩,
    ⟨3, 1, fit 64 [1, 0, 0, 0, 2, 0, 0, 0, 64], described 0x22 [1, 0, 0, 0, 2, 0, 0, 0, 64], ?_⟩,
    ⟨3, 1, fit 32 [1], described 0x23 [1], ?_⟩⟩ <;> (try dsimp only) <;> decide

/-- Every clause of UnitCompletions has states and operands that meet its hypotheses. -/
theorem witness_UnitCompletions :
    let due := fun (n : Bob) (l : List Work) (k : Work) (r : List Work) (s : State) => s.sys.powered = true ∧ l = k :: r ∧ dieUp s (bobDie n) = true ∧ postRoom s n k = true
    (∃ (n : Bob) (k : Work) (r : List Work) (s : State),
      (due n (bob s n).mma k r s) ∧ (mmaOk k.desc = true) ∧ ((mmaReads k.desc).any (fun q => storeBad (bob s n) q.1 q.2) =
      false) ∧ (4 * dF k.desc 6 2 ≤ dF k.desc 0x24 4)) ∧
    (∃ (n : Bob) (k : Work) (r : List Work) (s : State),
      (due n (bob s n).vop k r s) ∧ (vopOk k.desc = true) ∧ ((vopReads k.desc).any (fun q => storeBad (bob s n) q.1 q.2) =
      false) ∧ ((bob s n).region < 64)) ∧
    (∃ (n : Bob) (k : Work) (r : List Work) (s : State),
      (due n (bob s n).copy k r s) ∧ (k.kind = 0) ∧ (dF k.desc 0 1 = 0) ∧ (dF k.desc 4 4 = 1) ∧ (storeBad (bob s n) (dF
      k.desc 0x10 8) (dF k.desc 8 4) = false)) ∧
    (∃ (n : Bob) (k : Work) (r : List Work) (x : Nat) (s : State),
      (due n (bob s n).copy k r s) ∧ (k.kind = 2) ∧ (dF k.desc 0 1 = 2) ∧ (dF k.desc 4 4 = 1) ∧ (bobOwner s n = x) ∧
      (inWindow s x (dF k.desc 0x10 8) (dF k.desc 8 4) = true) ∧ (ctxFar s n x (dF k.desc 0x10 8) (dF k.desc 8 4) = false) ∧
      (ctxHeld s n x (dF k.desc 0x10 8) (dF k.desc 8 4) = false) ∧ (memSound s) ∧ (ctxBad s x (dF k.desc 0x10 8) (dF k.desc
      8 4) = false)) ∧
    (∃ (n : Bob) (k : Work) (r : List Work) (x : Nat) (s : State),
      (due n (bob s n).copy k r s) ∧ (k.kind = 3) ∧ (dF k.desc 0 1 = 3) ∧ (dF k.desc 4 4 = 1) ∧ (bobOwner s n = x) ∧
      (inWindow s x (dF k.desc 0x20 8) (dF k.desc 8 4) = true) ∧ (storeBad (bob s n) (dF k.desc 0x10 8) (dF k.desc 8 4) =
      false) ∧ (ctxFar s n x (dF k.desc 0x20 8) (dF k.desc 8 4) = false) ∧ (ctxHeld s n x (dF k.desc 0x20 8) (dF k.desc 8 4)
      = false) ∧ (memSound s) ∧ (ctxPartBad s x (dF k.desc 0x20 8) (dF k.desc 8 4) = false)) ∧
    (∃ (n : Bob) (k : Work) (r : List Work) (s : State),
      (due n (bob s n).copy k r s) ∧ (k.kind = 1) ∧ (copyOnWay s k.frameId = false)) ∧
    (∃ (n : Bob) (k : Work) (r : List Work) (s : State),
      (due n (bob s n).send k r s) ∧ (k.crossed = true)) := by
  refine ⟨⟨3, { needle := 1, desc := fit 64 [3, 3, 0, 0, 4, 0, 4, 0, 4, 0, 0, 0, 0, 0, 0, 0, 0, 0, 0, 0, 64, 0, 0, 0, 64, 0, 0, 0, 64, 0, 0, 0, 0, 2, 0, 0, 64], post := true, queue := 5, w0 := 9 }, [], holding fun b => { b with store := [(0, 0x38), (1, 0x38), (64, 0x38)], mma := [{ needle := 1, desc := fit 64 [3, 3, 0, 0, 4, 0, 4, 0, 4, 0, 0, 0, 0, 0, 0, 0, 0, 0, 0, 0, 64, 0, 0, 0, 64, 0, 0, 0, 64, 0, 0, 0, 0, 2, 0, 0, 64], post := true, queue := 5, w0 := 9 }] }, ?_⟩,
    ⟨3, { needle := 1, desc := fit 64 [7, 0, 0, 0, 2, 0, 0, 0, 0, 0, 0, 0, 0, 0, 0, 0, 0, 0, 0, 0, 64] }, [], holding fun b => { b with store := [(3, 0xBF)], vop := [{ needle := 1, desc := fit 64 [7, 0, 0, 0, 2, 0, 0, 0, 0, 0, 0, 0, 0, 0, 0, 0, 0, 0, 0, 0, 64] }] }, ?_⟩,
    ⟨3, { needle := 1, desc := fit 64 [0, 0, 0, 0, 1, 0, 0, 0, 64, 0, 0, 0, 0, 0, 0, 0, 0, 0, 0, 0, 0, 0, 0, 0, 0, 0, 0, 0, 0, 0, 0, 0, 64] }, [], holding fun b => { b with store := [(3, 0xBF)], copy := [{ needle := 1, desc := fit 64 [0, 0, 0, 0, 1, 0, 0, 0, 64, 0, 0, 0, 0, 0, 0, 0, 0, 0, 0, 0, 0, 0, 0, 0, 0, 0, 0, 0, 0, 0, 0, 0, 64] }] }, ?_⟩,
    ⟨3, { needle := 1, kind := 2, desc := fit 64 [2, 0, 0, 0, 1, 0, 0, 0, 64] }, [], 3, ({ holding (fun b => { b with copy := [{ needle := 1, kind := 2, desc := fit 64 [2, 0, 0, 0, 1, 0, 0, 0, 64] }] }) with mem := { winFr := [(3, [(4, 0)])], bytes := [(2 ^ 42 + 5, 9)] } } : State), ?_⟩,
    ⟨3, { needle := 1, kind := 3, desc := fit 64 [3, 0, 0, 0, 1, 0, 0, 0, 64] }, [], 3, ({ holding (fun b => { b with store := [(3, 9)], copy := [{ needle := 1, kind := 3, desc := fit 64 [3, 0, 0, 0, 1, 0, 0, 0, 64] }] }) with mem := { winFr := [(3, [(4, 0)])] } } : State), ?_⟩,
    ⟨3, { needle := 1, kind := 1, frameId := 4 }, [], holding fun b => { b with copy := [{ needle := 1, kind := 1, frameId := 4 }] }, ?_⟩,
    ⟨3, { needle := 1, crossed := true }, [], holding fun b => { b with send := [{ needle := 1, crossed := true }] }, ?_⟩⟩ <;> (try dsimp only) <;> decide

/-- Every clause of BobbinArrivals has states and operands that meet its hypotheses. -/
theorem witness_BobbinArrivals :
    (∃ (n : Bob) (f : Flit) (k : Token) (r : List Flit) (s : State),
      (s.sys.powered = true) ∧ (dieUp s (bobDie n) = true) ∧ ((bob s n).inFlight = f :: r) ∧ (f.tok = some k) ∧ (flitComes s
      n f = true) ∧ ((bob s n).region = f.srcRgn) ∧ (f.srcRgn < 64)) ∧
    (∃ (n : Bob) (f : Flit) (r : List Flit) (s : State),
      (s.sys.powered = true) ∧ (dieUp s (bobDie n) = true) ∧ ((bob s n).inFlight = f :: r) ∧ (f.tok = none) ∧ (flitComes s n
      f = true) ∧ ((bob s n).region = f.srcRgn) ∧ (f.srcRgn < 64)) ∧
    (∃ (n : Bob) (f : Flit) (r : List Flit) (s : State),
      (s.sys.powered = true) ∧ (dieUp s (bobDie n) = true) ∧ ((bob s n).inFlight = f :: r) ∧ (flitComes s n f = true) ∧
      ((bob s n).region ≠ f.srcRgn) ∧ ((bob s n).region < 64) ∧ (regionOwner s (bob s n).region ≠ f.ctx ∨ f.gen.toNat ≠
      regionGen s (bob s n).region ∨ regionState s (bob s n).region ≠ rRUNNING)) ∧
    (∃ (c : Fin 4) (f : Frame) (n : Nat) (i : Nat) (e : BitVec 128) (o : Nat) (x : Inlet) (s : State),
      (s.sys.powered = true) ∧ (ioReady s (4 + c) = true) ∧ ((ioFrames s (4 + c)).head? = some f) ∧ (hType f.hdr = tDATA) ∧
      (regionWeaving s (dataRegion f.hdr) = false) ∧ (hRgen f.hdr = regionGen s (dataRegion f.hdr)) ∧ (hCtx f.hdr =
      regionOwner s (dataRegion f.hdr)) ∧ (regionState s (dataRegion f.hdr) = rRUNNING) ∧ (hOffset f.hdr % 2 ^ 34 = 0) ∧
      (hEnc f.hdr = false) ∧ (findInlet s (dataRegion f.hdr) (dataInlet f.hdr) = some (n, i, e)) ∧ (ringPut (tget {} (bob s
      n).inlets i) (inSize e) f.body.length = some (o, x)) ∧ (queueFull (bob s n) (inQueue e) = false) ∧ (f.body.length ≤
      8192) ∧ (inBase e + o < storeSize)) ∧
    (∃ (c : Fin 4) (f : Frame) (s : State),
      (s.sys.powered = true) ∧ (ioReady s (4 + c) = true) ∧ ((ioFrames s (4 + c)).head? = some f) ∧ (hType f.hdr = tDATA) ∧
      (regionWeaving s (dataRegion f.hdr) = false) ∧ (hRgen f.hdr = regionGen s (dataRegion f.hdr)) ∧ (hCtx f.hdr =
      regionOwner s (dataRegion f.hdr)) ∧ (regionState s (dataRegion f.hdr) ≠ rRUNNING) ∧ (dataRegion f.hdr < 64)) ∧
    (∃ (r : Region) (f : Frame) (g : List Frame) (n : Nat) (i : Nat) (e : BitVec 128) (o : Nat) (x : Inlet) (s : State),
      (s.sys.powered = true) ∧ (dieUp s (4 + r / 16) = true) ∧ (tget [] s.pic.handoff r = f :: g) ∧ (hRgen f.hdr = regionGen
      s r) ∧ (regionState s r = rRUNNING) ∧ (findInlet s r 15 = some (n, i, e)) ∧ (ringPut (tget {} (bob s n).inlets i)
      (inSize e) f.body.length = some (o, x)) ∧ (queueFull (bob s n) (inQueue e) = false)) := by
  refine ⟨⟨3, { tok := some { w0 := 7 }, queue := 2, srcRgn := 0 }, { w0 := 7 }, [], holding fun b => { b with inFlight := [{ tok := some { w0 := 7 }, queue := 2, srcRgn := 0 }] }, ?_⟩,
    ⟨3, { addr := 64, data := [1, 2], srcRgn := 0 }, [], holding fun b => { b with inFlight := [{ addr := 64, data := [1, 2], srcRgn := 0 }] }, ?_⟩,
    ⟨3, { tok := some {}, queue := 2, srcRgn := 9, ctx := 4 }, [], holding fun b => { b with inFlight := [{ tok := some {}, queue := 2, srcRgn := 9, ctx := 4 }] }, ?_⟩,
    ⟨0, { hdr := mkHdr 0 7 2 3 0 0 tDATA 0 0 5 0 (5 * 2 ^ 34), body := [1, 2, 3, 4, 5] }, 3, 0, 0x1000_00001000_00000205, 128, { head := 133, used := 105 }, delivering, ?_⟩,
    ⟨0, { hdr := mkHdr 0 7 2 3 0 0 tDATA 0 0 5 0 (5 * 2 ^ 34), body := [1, 2, 3, 4, 5] }, fset delivering (BOB_RGN_STAT.STATE 0) 1, ?_⟩,
    ⟨0, { hdr := mkHdr 0 7 2 3 0 0 tRESULT 0 0 5 0 0, body := [1, 2, 3, 4, 5] }, [], 3, 0, 0x1000_00001000_0000020F, 0, { head := 5, used := 5 }, ({ holding (fun b => { b with record := { b.record with inlets := [0x1000_00001000_0000020F] } }) with pic := { handoff := [(0, [{ hdr := mkHdr 0 7 2 3 0 0 tRESULT 0 0 5 0 0, body := [1, 2, 3, 4, 5] }])] } } : State), ?_⟩⟩ <;> (try dsimp only) <;> decide

/-- Every clause of RegionCommands has states and operands that meet its hypotheses. -/
theorem witness_RegionCommands :
    (∃ (p : Fin 13) (r : Region) (m : Nat) (s : State),
      (accepts s p BOB_RGN_CMD (BitVec.ofNat 64 (256 + r)) = true) ∧ (regionValid s r = true) ∧ (regionState s r = rWOVEN) ∧
      (regionOwner s r < 1024) ∧ (ctxState s (regionOwner s r) = 2) ∧ ((bob s m).region = r) ∧ ((bob s m).record.needles ≠
      0)) ∧
    (∃ (p : Fin 13) (r : Region) (s : State),
      (accepts s p BOB_RGN_CMD (BitVec.ofNat 64 (256 + r)) = true)) ∧
    (∃ (p : Fin 13) (r : Region) (s : State),
      (accepts s p BOB_RGN_CMD (BitVec.ofNat 64 (512 + r)) = true) ∧ (regionValid s r = true) ∧ (regionState s r = rRUNNING)) ∧
    (∃ (p : Fin 13) (r : Region) (s : State),
      (accepts s p BOB_RGN_CMD (BitVec.ofNat 64 (512 + r)) = true) ∧ (regionValid s r = true) ∧ (regionState s r ≠ rRUNNING)) := by
  refine ⟨⟨1, 0, 3, fset (needling 0) (BOB_RGN_STAT.STATE 0) 1, ?_⟩,
    ⟨1, 0, fset (needling 0) (BOB_RGN_STAT.STATE 0) 2, ?_⟩,
    ⟨1, 0, needling 0, ?_⟩,
    ⟨1, 0, fset (needling 0) (BOB_RGN_STAT.STATE 0) 1, ?_⟩⟩ <;> (try dsimp only) <;> decide

/-- Every clause of OneSidedMemory has states and operands that meet its hypotheses. -/
theorem witness_OneSidedMemory :
    let head := fun (io : Fin 8) (f : Frame) (ty : Nat) (s : State) => s.sys.powered = true ∧ (ioFrames s io).head? = some f ∧ hType f.hdr = ty ∧ ioReady s io = true ∧ memSound s
    let passes := fun (f : Frame) (n : Nat) (s : State) => hRgen f.hdr = ctxGen s (hCtx f.hdr) ∧ ctxUsable s (hCtx f.hdr) = true ∧ 0 < n ∧ hOffset f.hdr + n ≤ winBytes s (hCtx f.hdr) ∧ oneFrame (hOffset f.hdr) n = true ∧ touchesSlot s (hCtx f.hdr) (hOffset f.hdr) n = false
    (∃ (io : Fin 8) (f : Frame) (d : Nat) (P : Nat) (s : State),
      (head io f tPUT s) ∧ (passes f (hLen f.hdr) s) ∧ (f.body.length = hLen f.hdr) ∧ (ctxLoc s (hCtx f.hdr) (hOffset f.hdr)
      = some (d, P)) ∧ (P + hLen f.hdr ≤ 2 ^ 40) ∧ (writeBlocked s d P (hLen f.hdr) = false)) ∧
    (∃ (io : Fin 8) (f : Frame) (d : Nat) (P : Nat) (s : State),
      (head io f tPUT s) ∧ (passes f (hLen f.hdr) s) ∧ (ctxLoc s (hCtx f.hdr) (hOffset f.hdr) = some (d, P)) ∧ (writeBlocked
      s d P (hLen f.hdr) = true)) ∧
    (∃ (io : Fin 8) (f : Frame) (s : State),
      (head io f tPUT s) ∧ (hRgen f.hdr = ctxGen s (hCtx f.hdr)) ∧ (ctxUsable s (hCtx f.hdr) = false)) ∧
    (∃ (io : Fin 8) (f : Frame) (s : State),
      (head io f tGET s) ∧ (getShape f = true) ∧ (passes f (getLen f) s) ∧ (ctxBad s (hCtx f.hdr) (hOffset f.hdr) (getLen f)
      = false)) ∧
    (∃ (io : Fin 8) (f : Frame) (d : Nat) (P : Nat) (s : State),
      (s.sys.powered = true) ∧ ((ioFrames s io).head? = some f) ∧ (hType f.hdr = tGET) ∧ (ioReady s io = true) ∧ (getShape f
      = true) ∧ (passes f (getLen f) s) ∧ (ctxLoc s (hCtx f.hdr) (hOffset f.hdr) = some (d, P)) ∧ (P % 64 + getLen f ≤ 64) ∧
      (lineBad s d P = false) ∧ (d < 8) ∧ (P < 2 ^ 40) ∧ (spareOf s (memChanOf d P) (memChanAddr P / 512) = none) ∧ (worst
      (lineErrs s (memChanOf d P) (memChanAddr P)) = 3) ∧ (worst (lineErrs s (memChanOf d P) (0x1C0000000 + memChanAddr P /
      512 * 64)) < 2)) ∧
    (∃ (io : Fin 8) (f : Frame) (s : State),
      (head io f tGET s) ∧ (hRgen f.hdr = ctxGen s (hCtx f.hdr)) ∧ (ctxUsable s (hCtx f.hdr) = false)) ∧
    (∃ (io : Fin 8) (f : Frame) (m : MirrorGet) (s : State),
      (head io f tGET_RESP s) ∧ (hLen f.hdr ≠ 0) ∧ (s.pic.gets = [m]) ∧ (m.ctx = hCtx f.hdr) ∧ (m.ret = hOffset f.hdr) ∧
      (m.buddy = hSrc f.hdr) ∧ (m.posEnd < 2 ^ 64)) ∧
    (∃ (io : Fin 8) (f : Frame) (s : State),
      (head io f tGET_RESP s) ∧ (s.pic.gets.all (fun m => !(m.ctx == hCtx f.hdr && m.ret == hOffset f.hdr)) = true)) ∧
    (∃ (c : Fin 640) (a : BitVec 33) (s : State),
      (s.sys.powered = true) ∧ (dieUp s (c / 80) = true) ∧ (a.toNat < 0x1C0000000) ∧ (memSound s) ∧ (spareOf s c (a.toNat /
      512) = none) ∧ (lineBad s (c / 80) (memDieAddr c a.toNat) = false)) ∧
    (∃ (c : Fin 640) (a : BitVec 33) (s : State),
      (s.sys.powered = true) ∧ (dieUp s (c / 80) = true) ∧ (a.toNat < 0x1C0000000) ∧ (memSound s) ∧ ((tget [] s.nvs.retired
      c).length < 4095) ∧ ((tget [] s.nvs.retired c).contains (a.toNat / 512) = false) ∧ ((∀ k, k < 8 → lineBad s (c / 80)
      (memDieAddr c (a.toNat / 512 * 512 + 64 * k)) = false))) ∧
    (∃ (p : Fin 13) (w : Word) (s : State),
      (accepts s p MEM_MAP_SEL w = true) ∧ (wbit w MEM_MAP_SEL.KIND = false)) := by
  refine ⟨⟨4, putFrame, 4, 64, holdsIo 4 putFrame, ?_⟩,
    ⟨4, putFrame, 4, 64, ({ holdsIo 4 putFrame with mem := { winFr := [(3, [(4, 0)])], poison := [(2 ^ 42 + 1, true)] } } : State), ?_⟩,
    ⟨4, putFrame, fset (holdsIo 4 putFrame) (CTX_STAT.STATE 3) 0, ?_⟩,
    ⟨4, getFrame, holdsIo 4 getFrame, ?_⟩,
    ⟨4, getFrame, 4, 64, ({ holdsIo 4 getFrame with mem := { winFr := [(3, [(4, 0)])], latent := [(wordKey 320 72, .uncorrectable)] } } : State), ?_⟩,
    ⟨4, getFrame, fset (holdsIo 4 getFrame) (CTX_STAT.STATE 3) 0, ?_⟩,
    ⟨1, respFrame, { ctx := 3, group := 5, ret := 77, posEnd := 64, buddy := 9 }, ({ holdsIo 1 respFrame with pic := { gets := [{ ctx := 3, group := 5, ret := 77, posEnd := 64, buddy := 9 }] } } : State), ?_⟩,
    ⟨1, respFrame, holdsIo 1 respFrame, ?_⟩,
    ⟨161, 0x1040, on mWOVEN [], ?_⟩,
    ⟨161, 0x1040, on mWOVEN [], ?_⟩,
    ⟨1, 3, holdsIo 1 respFrame, ?_⟩⟩ <;> (try dsimp only) <;> decide

/-- Every clause of Timebase has states and operands that meet its hypotheses. -/
theorem witness_Timebase :
    (∃ (p : Fin 13) (s : State),
      (s.sys.powered = true) ∧ (pathLive s p = true)) ∧
    (∃ (p : Fin 13) (v : Word) (s : State),
      (accepts s p TB_SET_NS v = true)) ∧
    (∃ (p : Fin 13) (v : Word) (s : State),
      (accepts s p TB_OFFSET v = true) ∧ (fbit s TB_SERVO.EN = false)) ∧
    (∃ (p : Fin 13) (v : Word) (s : State),
      (accepts s p TB_OFFSET v = true) ∧ (fbit s TB_SERVO.EN = true) ∧ (fbit s TB_SERVO.STEP_EN = true) ∧ (fget s
      TB_SERVO.STEP_NS * 65536 ≤ v.toInt.natAbs) ∧ (slottedNow s = false)) ∧
    (∃ (p : Fin 13) (v : Word) (s : State),
      (accepts s p TB_OFFSET v = true) ∧ (fbit s TB_SERVO.EN = true) ∧ (fbit s TB_SERVO.STEP_EN = false ∨ v.toInt.natAbs <
      fget s TB_SERVO.STEP_NS * 65536 ∨ slottedNow s = true)) ∧
    (∃ (s : State),
      (s.sys.powered = true) ∧ (fget s TB_STAT.SERVO = svLOCKING ∨ fget s TB_STAT.SERVO = svLOCKED) ∧ (s.elapsed
      s.time.lastSample (fget s TB_SERVO.HOLD_MS * 1000000) = true)) ∧
    (∃ (p : Fin 13) (s : State),
      (accepts s p TB_CAP_POP 1 = true)) ∧
    (∃ (p : Fin 13) (k : Fin 64) (v : Word) (s : State),
      (accepts s p (TB_TRIG_C k) v = true) ∧ (wbit v (TB_TRIG_C.ARMED k) = true)) ∧
    (∃ (k : Fin 64) (s : State),
      (s.sys.powered = true) ∧ (trigReady s k = true) ∧ ((∀ j, j < 64 → j ≠ k.val → trigReady s j = false)) ∧ (fget s
      (TB_TRIG_C.ACTION k) = 0)) ∧
    (∃ (k : Fin 64) (n : Nat) (s : State),
      (s.sys.powered = true) ∧ (trigReady s k = true) ∧ ((∀ j, j < 64 → j ≠ k.val → trigReady s j = false)) ∧ (fget s
      (TB_TRIG_C.ACTION k) = 1) ∧ ((regionBobs s (fget s (TB_TRIG_C.REGION k)))[fget s (TB_TRIG_C.BOBBIN k)]? = some n) ∧
      (fget s (TB_TRIG_C.GEN k) = regionGen s (fget s (TB_TRIG_C.REGION k))) ∧ (regionState s (fget s (TB_TRIG_C.REGION k))
      = rRUNNING)) := by
  refine ⟨⟨1, ({ on mWOVEN [] with tb := (5 * 1000000000 + 77) * 2 ^ 32 + 2 ^ 31 } : State), ?_⟩,
    ⟨1, 9, on mBASIC [(TB_SET_SEC.SEC, 7)], ?_⟩,
    ⟨1, 9, on mBASIC [], ?_⟩,
    ⟨1, 0x100000000, ({ on mBASIC [(TB_SERVO.EN, 1)] with tb := 2 ^ 60 } : State), ?_⟩,
    ⟨1, 0x10000, ({ on mBASIC [(TB_SERVO.EN, 1)] with tb := 2 ^ 60 } : State), ?_⟩,
    ⟨({ on mBASIC [(TB_STAT.SERVO, 2)] with mono := 10 ^ 9 * 2 ^ 32 } : State), ?_⟩,
    ⟨1, ({ on mWOVEN [] with time := { capFifo := [[1, 2, 3, 4, 5, 6], [9]] } } : State), ?_⟩,
    ⟨1, 5, 0x8000000000000000, on mWOVEN [(TB_TRIG_T.SEC 5, 3)], ?_⟩,
    ⟨5, ({ on mWOVEN [(TB_TRIG_C.ARMED 5, 1)] with tb := 2 ^ 60, time := { trigAt := [(5, 9)], trigDue := [(5, true)] } } : State), ?_⟩,
    ⟨5, 3, ({ fset (fset (needling 0) (TB_TRIG_C.ARMED 5) 1) (TB_TRIG_C.ACTION 5) 1 with tb := 2 ^ 63, time := { trigAt := [(5, 1000000009)] } } : State), ?_⟩⟩ <;> (try dsimp only) <;> decide

/-- Every clause of DieFaults has states and operands that meet its hypotheses. -/
theorem witness_DieFaults :
    (∃ (d : Fin 8) (s : State),
      (s.sys.powered = true) ∧ (testFree s = true) ∧ (fget s (FLT_DIE.STATE d) = 0)) ∧
    (∃ (d : Fin 8) (s : State),
      (s.sys.powered = true) ∧ (testFree s = true) ∧ (fget s (FLT_DIE.STATE d) = 0)) ∧
    (∃ (d : Fin 8) (s : State),
      (s.sys.powered = true) ∧ (testFree s = true) ∧ (fget s (FLT_DIE.STATE d) = 3)) ∧
    (∃ (d : Fin 8) (s : State),
      (s.sys.powered = true) ∧ (testFree s = true) ∧ (fget s (FLT_DIE.STATE d) = 3)) ∧
    (∃ (d : Fin 8) (s : State),
      (testFree s = true) ∧ (fget s (FLT_DIE.STATE d) ≠ 0) ∧ (fget s (FLT_DIE.STATE d) ≠ 3)) ∧
    (∃ (d : Fin 8) (s : State),
      (s.sys.powered = true) ∧ (fget s (FLT_DIE.STATE d) = 2)) ∧
    (∃ (d : Fin 8) (s : State),
      (s.sys.powered = true) ∧ (testFree s = true) ∧ (4 ≤ d.val) ∧ (fget s (FLT_DIE.STATE d) = 3) ∧ (tget false
      s.flt.dieJoin d = true) ∧ (coolEnough s d = true)) ∧
    (∃ (d : Fin 8) (s : State),
      (s.sys.powered = true)) ∧
    (∃ (s : State),
      (s.sys.powered = true) ∧ (testFree s = true)) ∧
    (∃ (n : Fin 16) (s : State),
      (s.sys.powered = true) ∧ (dieUp s (n / 4) = true) ∧ (s.sys.refPhase ≠ 1)) ∧
    (∃ (v : Fin 40) (s : State),
      (s.sys.powered = true) ∧ (dieUp s (v / 5) = true)) := by
  refine ⟨⟨1, routed, ?_⟩,
    ⟨5, holding (fun b => { b with }), ?_⟩,
    ⟨2, ({ on mWOVEN [(FLT_DIE.STATE 2, 3), (FLT_DIE.CAUSE 2, 1)] with mono := 2 ^ 80, flt := { dieFaults := [(2, [5, 65536000000000])] } } : State), ?_⟩,
    ⟨2, ({ on mWOVEN [(FLT_DIE.STATE 2, 3), (FLT_DIE.CAUSE 2, 1)] with mono := 2 ^ 80 } : State), ?_⟩,
    ⟨2, on mWOVEN [(FLT_DIE.STATE 2, 4)], ?_⟩,
    ⟨2, ({ on mWOVEN [(FLT_DIE.STATE 2, 2)] with flt := { dieHeld := [(2, true)] } } : State), ?_⟩,
    ⟨5, ({ on mWOVEN [(FLT_DIE.STATE 5, 3)] with flt := { dieJoin := [(5, true)] }, mem := { bytes := [(5 * 2 ^ 40 + 7, 9), (6 * 2 ^ 40 + 7, 9)], winFr := [(3, [(5, 0)])] } } : State), ?_⟩,
    ⟨5, ({ on mWOVEN [(FLT_DIE.STATE 5, 3)] with mono := 2 ^ 80, flt := { dieFaults := [(5, [5, 65536000000000])] } } : State), ?_⟩,
    ⟨lit, ?_⟩,
    ⟨0, lit, ?_⟩,
    ⟨7, on mWOVEN [], ?_⟩⟩ <;> (try dsimp only) <;> decide

/-- Every clause of BundlesAndReferences has states and operands that meet its hypotheses. -/
theorem witness_BundlesAndReferences :
    (∃ (b : Fin 32) (s : State),
      (s.sys.powered = true) ∧ ((bundleDies b).all (dieUp s) = true)) ∧
    (∃ (b : Fin 40) (g : Nat) (l : Nat) (s : State),
      (s.sys.powered = true) ∧ ((bundleDies b).all (dieUp s) = true) ∧ (g < bundleN b) ∧ (b.val < 32) ∧ (tget 0 (bundle s
      b).spareUsed g < 2)) ∧
    (∃ (b : Fin 40) (g : Nat) (l : Nat) (s : State),
      (s.sys.powered = true) ∧ ((bundleDies b).all (dieUp s) = true) ∧ (g < bundleN b) ∧ (tget 0 (bundle s b).spareUsed g =
      2) ∧ (b.val < 16)) ∧
    (∃ (b : Fin 40) (l : Nat) (s : State),
      (s.sys.powered = true) ∧ (testFree s = true) ∧ (32 ≤ b.val) ∧ (l < 4) ∧ (fget s (FLT_DIE.STATE (b - 32)) = 0)) ∧
    (∃ (b : Fin 32) (s : State),
      (s.sys.powered = true) ∧ ((bundle s b).retuneEnd ≠ 0) ∧ ((bundle s b).retuneEnd ≤ s.now)) ∧
    (∃ (x : Bool) (s : State),
      (s.sys.powered = true) ∧ (s.sys.refGood = 3#2) ∧ (fget s TB_STAT.REF = b2n x)) ∧
    (∃ (x : Bool) (s : State),
      (s.sys.powered = true) ∧ (s.sys.refGood.getLsbD (b2n x) = true) ∧ (s.sys.refGood.getLsbD (1 - b2n x) = false) ∧ (fget
      s TB_STAT.REF = b2n x)) ∧
    (∃ (x : Bool) (s : State),
      (s.sys.powered = true) ∧ (s.sys.refGood.getLsbD (b2n x) = true) ∧ (fget s TB_STAT.REF ≠ b2n x)) ∧
    (∃ (s : State),
      (s.sys.powered = true) ∧ (s.sys.refPhase = 1)) ∧
    (∃ (s : State),
      (s.sys.powered = true) ∧ (testFree s = true) ∧ (s.sys.refPhase = 2) ∧ (s.elapsed s.sys.refLostAt 1000000000 = true) ∧
      (s.mode ≠ mFAULTED) ∧ (s.sys.refUp = false)) ∧
    (∃ (s : State),
      (s.sys.powered = true) ∧ (testFree s = true) ∧ (s.sys.refPhase = 2) ∧ (s.mode ≠ mFAULTED) ∧ (s.sys.refUp = true)) ∧
    (∃ (x : Bool) (s : State),
      (s.sys.powered = true)) := by
  refine ⟨⟨8, on mWOVEN [], ?_⟩,
    ⟨8, 3, 2, on mWOVEN [], ?_⟩,
    ⟨8, 3, 2, ({ on mWOVEN [] with flt := { bundles := [(8, { spareUsed := [(3, 2)] })] } } : State), ?_⟩,
    ⟨33, 3, routed, ?_⟩,
    ⟨8, ({ on mWOVEN [] with mono := 2 ^ 50, flt := { bundles := [(8, { retuneEnd := 2000 })] } } : State), ?_⟩,
    ⟨false, ({ on mWOVEN [] with sys := { powered := true, refGood := 3 } } : State), ?_⟩,
    ⟨false, ({ on mWOVEN [] with sys := { powered := true, refGood := 1 }, mono := 2 ^ 60 } : State), ?_⟩,
    ⟨true, ({ on mWOVEN [] with sys := { powered := true, refGood := 3 } } : State), ?_⟩,
    ⟨({ on mWOVEN [] with sys := { powered := true, refPhase := 1, refGood := 0 } } : State), ?_⟩,
    ⟨({ on mWOVEN [] with mono := 2 ^ 70, sys := { powered := true, refPhase := 2, refGood := 0 } } : State), ?_⟩,
    ⟨({ on mMAINT [(PRK_ACTIVE.IMAGE_ID, 7)] with mono := 2 ^ 40, sys := { powered := true, refPhase := 2, refGood := 0, refUp := true } } : State), ?_⟩,
    ⟨true, ({ on mWOVEN [] with sys := { powered := true, refGood := 1 } } : State), ?_⟩⟩ <;> (try dsimp only) <;> decide +kernel

/-- Every clause of Fences has states and operands that meet its hypotheses. -/
theorem witness_Fences :
    let chip := fun (s : State) => tget {} s.flt.chips (fget s FLT_CHIP_SEL.CHIP)
    let newer := fun (s : State) => (fget s FLT_CHIP_DATA.INC + 256 - (chip s).inc.toNat) % 256
    (∃ (p : Fin 13) (L : Fin 1024) (s : State),
      (accepts s p FLT_PORT_CMD (BitVec.ofNat 64 (L * 65536 + 1)) = true) ∧ (portFenced s L = false) ∧ (fibreDark s (L / 8)
      = false)) ∧
    (∃ (p : Fin 13) (L : Fin 1024) (s : State),
      (accepts s p FLT_PORT_CMD (BitVec.ofNat 64 (L * 65536 + 1)) = true) ∧ (portFenced s L = true)) ∧
    (∃ (p : Fin 13) (L : Fin 1024) (s : State),
      (accepts s p FLT_PORT_CMD (BitVec.ofNat 64 (L * 65536 + 2)) = true) ∧ (portFenced s L = true) ∧ (fibreDark s (L / 8) =
      false) ∧ (dieUp s (swOf L) = true)) ∧
    (∃ (p : Fin 13) (L : Fin 1024) (s : State),
      (accepts s p FLT_PORT_CMD (BitVec.ofNat 64 (L * 65536 + 2)) = true) ∧ (portFenced s L = false)) ∧
    (∃ (L : Fin 1024) (s : State),
      (s.sys.powered = true) ∧ (testFree s = true) ∧ (fbit s FLT_CTRL.PORT_AUTO = true) ∧ ((port s L).under = pUP) ∧
      (s.elapsed (port s L).upAt 1000000000 = true) ∧ (portFenced s L = true) ∧ (fibreDark s (L / 8) = false) ∧ (dieUp s
      (swOf L) = true)) ∧
    (∃ (p : Fin 13) (s : State),
      (accepts s p FLT_CHIP_CMD 1 = true)) ∧
    (∃ (p : Fin 13) (s : State),
      (accepts s p FLT_CHIP_CMD 2 = true) ∧ ((chip s).fenced = false)) ∧
    (∃ (p : Fin 13) (s : State),
      (accepts s p FLT_CHIP_CMD 3 = true) ∧ (fget s FLT_CHIP_SEL.CHIP ≠ fget s TBL_SELF.CHIP)) ∧
    (∃ (p : Fin 13) (s : State),
      (accepts s p FLT_CHIP_CMD 4 = true) ∧ ((chip s).fenced = true) ∧ (1 ≤ newer s) ∧ (newer s ≤ 127)) ∧
    (∃ (p : Fin 13) (s : State),
      (accepts s p FLT_CHIP_CMD 2 = true) ∧ ((chip s).fenced = true)) ∧
    (∃ (p : Fin 13) (s : State),
      (accepts s p FLT_CHIP_CMD 4 = true) ∧ ((chip s).fenced = false)) ∧
    (∃ (p : Fin 13) (s : State),
      (accepts s p FLT_CHIP_CMD 4 = true) ∧ ((chip s).fenced = true) ∧ (newer s = 0 ∨ 128 ≤ newer s)) ∧
    (∃ (p : Fin 13) (s : State),
      (accepts s p FLT_CHIP_CMD 3 = true) ∧ (fget s FLT_CHIP_SEL.CHIP = fget s TBL_SELF.CHIP)) := by
  refine ⟨⟨1, 8, { lit with tb := 2 ^ 40 }, ?_⟩,
    ⟨1, 8, fset lit (PRT_STATE.FENCE 8) 1, ?_⟩,
    ⟨1, 8, fset (fset lit (PRT_STATE.FENCE 8) 1) (PRT_STATE.STATE 8) pFENCED, ?_⟩,
    ⟨1, 8, lit, ?_⟩,
    ⟨8, { fset (fset (fset lit (PRT_STATE.FENCE 8) 1) (PRT_STATE.STATE 8) pFENCED) FLT_CTRL.PORT_AUTO 1 with mono := 2 ^ 62 }, ?_⟩,
    ⟨0, ({ on mWOVEN [(FLT_CHIP_SEL.CHIP, 77)] with host := { link := true }, flt := { chips := [(77, { fenced := true, inc := 5 })] } } : State), ?_⟩,
    ⟨1, on mWOVEN [(FLT_CHIP_SEL.CHIP, 77), (FLT_CHIP_DATA.INC, 9), (FLT_CHIP_DATA.CHECK, 1)], ?_⟩,
    ⟨1, on mWOVEN [(FLT_CHIP_SEL.CHIP, 77), (TBL_SELF.CHIP, 4)], ?_⟩,
    ⟨1, ({ on mWOVEN [(FLT_CHIP_SEL.CHIP, 77), (FLT_CHIP_DATA.INC, 2)] with flt := { chips := [(77, { fenced := true, inc := 255 })] } } : State), ?_⟩,
    ⟨1, ({ on mWOVEN [(FLT_CHIP_SEL.CHIP, 77)] with flt := { chips := [(77, { fenced := true, inc := 255 })] } } : State), ?_⟩,
    ⟨1, on mWOVEN [(FLT_CHIP_SEL.CHIP, 77)], ?_⟩,
    ⟨1, ({ on mWOVEN [(FLT_CHIP_SEL.CHIP, 77), (FLT_CHIP_DATA.INC, 127)] with flt := { chips := [(77, { fenced := true, inc := 255 })] } } : State), ?_⟩,
    ⟨1, on mWOVEN [(FLT_CHIP_SEL.CHIP, 77), (TBL_SELF.CHIP, 77)], ?_⟩⟩ <;> (try dsimp only) <;> decide

/-- Every clause of Broadcast has states and operands that meet its hypotheses. -/
theorem witness_Broadcast :
    let staged := fun (s : State) => ({ w0 := getReg s FLT_BC_W0, w1 := getReg s FLT_BC_W1, w2 := getReg s FLT_BC_W2, w3 := getReg s FLT_BC_W3, w4 := getReg s FLT_BC_W4 } : BcSt)
    let sel := fun (s : State) => fget s FLT_BC_SEL.SESSION
    let runs := fun (s : State) (n : Nat) => s.sys.powered = true ∧ bcState s n = 1 ∧ memSound s
    let gets := fun (s : State) (x : Fin 8) (f : Frame) (ty : Nat) => s.sys.powered = true ∧ ioReady s x = true ∧ (ioFrames s x).head? = some f ∧ hType f.hdr = ty ∧ memSound s
    (∃ (p : Fin 13) (s : State),
      (accepts s p FLT_BC_CMD 1 = true) ∧ (s.mode = mWOVEN)) ∧
    (∃ (p : Fin 13) (s : State),
      (accepts s p FLT_BC_CMD 2 = true) ∧ (bcCheck s 2 (sel s) (staged s) = 0)) ∧
    (∃ (p : Fin 13) (s : State),
      (accepts s p FLT_BC_CMD 2 = true) ∧ (bcState s (sel s) = 1)) ∧
    (∃ (p : Fin 13) (s : State),
      (accepts s p FLT_BC_CMD 3 = true) ∧ (bcState s (sel s) = 1)) ∧
    (∃ (p : Fin 13) (s : State),
      (accepts s p FLT_BC_CMD 4 = true) ∧ (bcState s (sel s) = 1)) ∧
    (∃ (p : Fin 13) (s : State),
      (accepts s p FLT_BC_CMD 3 = true) ∧ (s.mode = mWOVEN) ∧ (bcState s (sel s) ≠ 1) ∧ (bcValid (bc s (sel s)) = true) ∧
      (bcRoot (bc s (sel s)) = false)) ∧
    (∃ (p : Fin 13) (s : State),
      (accepts s p FLT_BC_CMD 4 = true) ∧ (s.mode = mWOVEN) ∧ (bcState s (sel s) ≠ 1) ∧ (memSound s) ∧ (bcValid (bc s (sel
      s)) = true) ∧ (bcRoot (bc s (sel s)) = true) ∧ (bcListBad s (bc s (sel s)) = false)) ∧
    (∃ (p : Fin 13) (s : State),
      (accepts s p FLT_BC_CMD 5 = true) ∧ (s.mode = mWOVEN) ∧ (bcState s (sel s) = 1)) ∧
    (∃ (n : Fin 64) (s : State),
      (runs s n) ∧ (bcRoot (bc s n) = true) ∧ ((bc s n).resumeAt = none) ∧ ((bc s n).uni = []) ∧ ((bc s n).pos < bcLen (bc s
      n)) ∧ (ctxBad s (bcCtx (bc s n)) (bcBase (bc s n) + (bc s n).pos) (min 8192 (bcLen (bc s n) - (bc s n).pos)) = false)) ∧
    (∃ (n : Fin 64) (s : State),
      (runs s n) ∧ (bcRoot (bc s n) = true) ∧ ((bc s n).resumeAt = none) ∧ ((bc s n).pos < bcLen (bc s n)) ∧ (ctxBad s
      (bcCtx (bc s n)) (bcBase (bc s n) + (bc s n).pos) (min 8192 (bcLen (bc s n) - (bc s n).pos)) = true)) ∧
    (∃ (x : Fin 8) (f : Frame) (s : State),
      (gets s x f tBCAST_DATA) ∧ (bcBad s f = false) ∧ (bcRoot (bc s (bcSession f.hdr)) = false) ∧ (bcState s (bcSession
      f.hdr) = 1) ∧ (hLen f.hdr ≠ 0) ∧ ((bc s (bcSession f.hdr)).holes = []) ∧ (bcPosition f.hdr ≤ (bc s (bcSession
      f.hdr)).held) ∧ (ctxPartBad s (bcCtx (bc s (bcSession f.hdr))) (bcBase (bc s (bcSession f.hdr)) + bcPosition f.hdr)
      (hLen f.hdr) = false)) ∧
    (∃ (x : Fin 8) (f : Frame) (s : State),
      (gets s x f tBCAST_DATA) ∧ (bcValid (bc s (bcSession f.hdr)) = false)) ∧
    (∃ (x : Fin 8) (f : Frame) (s : State),
      (gets s x f tBCAST_PROGRESS) ∧ (bcBad s f = false) ∧ (hLen f.hdr = 8) ∧ (bcRoot (bc s (bcSession f.hdr)) = true) ∧
      (bcState s (bcSession f.hdr) = 1) ∧ (bcListBad s (bc s (bcSession f.hdr)) = false) ∧ ((bc s (bcSession
      f.hdr)).resumeAt.isSome = true)) ∧
    (∃ (x : Fin 8) (f : Frame) (s : State),
      (gets s x f tBCAST_PROGRESS) ∧ (bcBad s f = false) ∧ (hLen f.hdr = 8) ∧ (bcRoot (bc s (bcSession f.hdr)) = true) ∧
      (bcState s (bcSession f.hdr) = 1) ∧ (bcListBad s (bc s (bcSession f.hdr)) = false) ∧ ((bc s (bcSession
      f.hdr)).resumeAt = none)) ∧
    (∃ (x : Fin 8) (f : Frame) (s : State),
      (gets s x f tBCAST_PROGRESS) ∧ (bcBad s f = false) ∧ (hLen f.hdr = 8) ∧ (bcRoot (bc s (bcSession f.hdr)) = false) ∧
      (bcState s (bcSession f.hdr) = 1) ∧ (hSrc f.hdr = bcPeer (bc s (bcSession f.hdr)))) ∧
    (∃ (n : Fin 64) (s : State),
      (runs s n) ∧ (bcRoot (bc s n) = false) ∧ ((bc s n).reportAt = 0 ∨ s.elapsed ((bc s n).reportAt - 1) 100000 = true)) ∧
    (∃ (n : Fin 64) (r : BitVec 20) (s : State),
      (runs s n) ∧ (bcRoot (bc s n) = true) ∧ (bcListBad s (bc s n) = false) ∧ ((tget {} s.flt.chips r.toNat).fenced = true)
      ∧ (((List.range (bcCount (bc s n))).filter fun i => (bcEntry s (bc s n) i).2.1 == r.toNat) ≠ [])) ∧
    (∃ (n : Fin 64) (r : BitVec 20) (s : State),
      ((tget {} s.flt.chips r.toNat).fenced = false) ∧ (s.elapsed (max (tget 0 (bc s n).relayAt r.toNat) (bc s n).startAt)
      (bcTimeout (bc s n) * 1000) = false)) ∧
    (∃ (n : Fin 64) (s : State),
      (runs s n) ∧ (bcListBad s (bc s n) = false) ∧ ((bc s n).resumeAt.any (fun a => a ≤ s.now) = true)) := by
  refine ⟨⟨1, ({ on mWOVEN [(FLT_BC_SEL.SESSION, 7)] with flt := { bcs := [(7, { w0 := 5, w1 := 6, w2 := 7, w3 := 8, w4 := 9 })] } } : State), ?_⟩,
    ⟨1, ({ on mWOVEN [(FLT_BC_SEL.SESSION, 7), (FLT_BC_W0.VALID, 1), (FLT_BC_W0.CTX, 3), (FLT_BC_W0.CHAN, 3), (FLT_BC_W2.LENGTH, 100), (FLT_BC_W4.SECOND, 9), (MEM_WC.EN 3, 1), (MEM_WC.LEN 3, 1), (CTX_STAT.STATE 3, 2)] with flt := { bcs := [(7, { w0 := 5, pos := 6 })] } } : State), ?_⟩,
    ⟨1, on mWOVEN [(FLT_BC_SEL.SESSION, 7), (FLT_BC_S.STATE 7, 1)], ?_⟩,
    ⟨1, on mWOVEN [(FLT_BC_SEL.SESSION, 7), (FLT_BC_S.STATE 7, 1)], ?_⟩,
    ⟨1, on mWOVEN [(FLT_BC_SEL.SESSION, 7), (FLT_BC_S.STATE 7, 1)], ?_⟩,
    ⟨1, ({ on mWOVEN [(FLT_BC_SEL.SESSION, 7), (FLT_BC_S.ORPHANS 7, 4)] with flt := { bcs := [(7, { w0 := 2 ^ 63, pos := 6, held := 4, startAt := 7 })] } } : State), ?_⟩,
    ⟨1, ({ on mWOVEN [(FLT_BC_SEL.SESSION, 7)] with flt := { bcs := [(7, { w0 := 2 ^ 63 + 2 ^ 16, pos := 6 })] } } : State), ?_⟩,
    ⟨1, ({ on mWOVEN [(FLT_BC_SEL.SESSION, 7), (FLT_BC_S.STATE 7, 1)] with flt := { bcs := [(7, { w0 := 2 ^ 63, resumeAt := some 6 })] } } : State), ?_⟩,
    ⟨7, ({ on mWOVEN [(FLT_BC_S.STATE 7, 1)] with flt := { bcs := [(7, { w0 := 2 ^ 63 + 2 ^ 16, w2 := 9, pos := 6 })] } } : State), ?_⟩,
    ⟨7, ({ on mWOVEN [(FLT_BC_S.STATE 7, 1)] with flt := { bcs := [(7, { w0 := 2 ^ 63 + 2 ^ 16 + 3, w2 := 9, pos := 6 })] }, mem := { winFr := [(3, [(4, 0)])], poison := [(2 ^ 42, true)] } } : State), ?_⟩,
    ⟨4, { hdr := mkHdr 0 9 3 3 0 0 tBCAST_DATA 0 0 4 0 (2 + 7 * 2 ^ 40), body := [1, 2, 3, 4], chan := 3 }, ({ holdsIo 4 { hdr := mkHdr 0 9 3 3 0 0 tBCAST_DATA 0 0 4 0 (2 + 7 * 2 ^ 40), body := [1, 2, 3, 4], chan := 3 } with flt := { bcs := [(7, { w0 := 2 ^ 63 + 3 * 2 ^ 17 + 3, w2 := 100, held := 2 })] }, regs := (fset (needling 0) (FLT_BC_S.STATE 7) 1).regs } : State), ?_⟩,
    ⟨4, { hdr := mkHdr 0 9 3 3 0 0 tBCAST_DATA 0 0 4 0 (2 + 7 * 2 ^ 40), body := [1, 2, 3, 4], chan := 3 }, holdsIo 4 { hdr := mkHdr 0 9 3 3 0 0 tBCAST_DATA 0 0 4 0 (2 + 7 * 2 ^ 40), body := [1, 2, 3, 4], chan := 3 }, ?_⟩,
    ⟨4, { hdr := mkHdr 0 9 3 3 0 0 tBCAST_PROGRESS 0 0 8 0 (50 + 7 * 2 ^ 40), body := le 4 77 ++ le 4 0, chan := 3 }, ({ holdsIo 4 { hdr := mkHdr 0 9 3 3 0 0 tBCAST_PROGRESS 0 0 8 0 (50 + 7 * 2 ^ 40), body := le 4 77 ++ le 4 0, chan := 3 } with mono := 2 ^ 40, flt := { bcs := [(7, { w0 := 2 ^ 63 + 2 ^ 16 + 3 * 2 ^ 17 + 3, w2 := 100, w3 := 2 * 2 ^ 48 + 128, resumeAt := some 99 })] }, mem := { winFr := [(3, [(4, 0)])], bytes := [(2 ^ 42 + 128, 77)] }, regs := (fset (needling 0) (FLT_BC_S.STATE 7) 1).regs } : State), ?_⟩,
    ⟨4, { hdr := mkHdr 0 9 3 3 0 0 tBCAST_PROGRESS 0 0 8 0 (50 + 7 * 2 ^ 40), body := le 4 77 ++ le 4 0, chan := 3 }, ({ holdsIo 4 { hdr := mkHdr 0 9 3 3 0 0 tBCAST_PROGRESS 0 0 8 0 (50 + 7 * 2 ^ 40), body := le 4 77 ++ le 4 0, chan := 3 } with mono := 2 ^ 40, flt := { bcs := [(7, { w0 := 2 ^ 63 + 2 ^ 16 + 3 * 2 ^ 17 + 3, w2 := 100, w3 := 2 * 2 ^ 48 + 128 })] }, mem := { winFr := [(3, [(4, 0)])], bytes := [(2 ^ 42 + 128, 77)] }, regs := (fset (needling 0) (FLT_BC_S.STATE 7) 1).regs } : State), ?_⟩,
    ⟨4, { hdr := mkHdr 0 9 3 3 0 0 tBCAST_PROGRESS 0 0 8 0 (50 + 7 * 2 ^ 40), body := le 4 77 ++ le 4 0, chan := 3 }, ({ holdsIo 4 { hdr := mkHdr 0 9 3 3 0 0 tBCAST_PROGRESS 0 0 8 0 (50 + 7 * 2 ^ 40), body := le 4 77 ++ le 4 0, chan := 3 } with flt := { bcs := [(7, { w0 := 2 ^ 63 + 9 * 2 ^ 20 + 3 * 2 ^ 17 + 3, w2 := 100 })] }, regs := (fset (needling 0) (FLT_BC_S.STATE 7) 1).regs } : State), ?_⟩,
    ⟨7, ({ on mWOVEN [(FLT_BC_S.STATE 7, 1)] with mono := 2 ^ 60, flt := { bcs := [(7, { w0 := 2 ^ 63, held := 6, reportAt := 9 })] } } : State), ?_⟩,
    ⟨7, 9, ({ needling 0 with regs := (fset (needling 0) (FLT_BC_S.STATE 7) 1).regs, flt := { chips := [(9, { fenced := true })], bcs := [(7, { w0 := 2 ^ 63 + 2 ^ 16 + 3, w3 := 2 ^ 48 + 128 })] }, mem := { winFr := [(3, [(4, 0)])], bytes := [(2 ^ 42 + 128, 77), (2 ^ 42 + 132, 9)] } } : State), ?_⟩,
    ⟨7, 9, ({ needling 0 with regs := (fset (needling 0) (FLT_BC_S.STATE 7) 1).regs, flt := { bcs := [(7, { w0 := 2 ^ 63 + 2 ^ 16 + 3, w3 := 2 ^ 48 + 128 })] } } : State), ?_⟩,
    ⟨7, ({ on mWOVEN [(FLT_BC_S.STATE 7, 1)] with mono := 2 ^ 60, flt := { bcs := [(7, { w0 := 2 ^ 63 + 2 ^ 16, w2 := 50, resumeAt := some 9 })] } } : State), ?_⟩⟩ <;> (try dsimp only) <;> decide +kernel

/-- Every clause of Contexts has states and operands that meet its hypotheses. -/
theorem witness_Contexts :
    let plain := fun (p : Fin 13) (x : Fin 1024) (op : Nat) (s : State) => accepts s p (CTX_CMD x) (BitVec.ofNat 64 op) = true ∧ s.mode = mWOVEN
    (∃ (p : Fin 13) (x : Fin 1024) (s : State),
      (plain p x 1 s) ∧ (ctxState s x = 0) ∧ ((placeFrames s x).isSome = true)) ∧
    (∃ (p : Fin 13) (x : Fin 1024) (s : State),
      (plain p x 1 s) ∧ (ctxState s x = 0) ∧ (placeFrames s x = none) ∧ (placeFrames (afterUnpicks s) x = none)) ∧
    (∃ (p : Fin 13) (x : Fin 1024) (s : State),
      (plain p x 2 s) ∧ (ctxState s x = 1)) ∧
    (∃ (p : Fin 13) (x : Fin 1024) (s : State),
      (plain p x 2 s) ∧ (ctxState s x ≠ 1)) ∧
    (∃ (p : Fin 13) (x : Fin 1024) (s : State),
      (plain p x 3 s) ∧ (ctxState s x = 2) ∧ ((∀ r, r < 64 → regionOwner s r = x.val → regionState s r ≠ rRUNNING))) ∧
    (∃ (p : Fin 13) (x : Fin 1024) (s : State),
      (plain p x 4 s) ∧ (ctxState s x = 1 ∨ ctxState s x = 2) ∧ (ownsLane s x = true)) ∧
    (∃ (p : Fin 13) (x : Fin 1024) (s : State),
      (plain p x 4 s) ∧ (ctxState s x = 1 ∨ ctxState s x = 2) ∧ (ownsLane s x = false) ∧ ((∀ r, r < 64 → regionOwner s r ≠
      x.val)) ∧ ((∀ L, L < 1024 → ownsPort s x L = false)) ∧ (s.pic.groups.any (fun e => gValid e.2 && gCtx e.2 == x.val) =
      false) ∧ (s.flt.bcs.any (fun e => bcCtx e.2 == x.val && bcValid e.2) = false) ∧ (s.tm.meters.any (fun e => wbit
      e.2.cfg1 TM_MTR_CFG1.OWNED && wget e.2.cfg1 TM_MTR_CFG1.OWNER == x.val) = false)) ∧
    (∃ (p : Fin 13) (x : Fin 1024) (r : Fin 64) (s : State),
      (plain p x (256 * r + 5) s) ∧ (ctxState s x = 1 ∨ ctxState s x = 2) ∧ (regionOwner s r ≠ x.val)) ∧
    (∃ (p : Fin 13) (x : Fin 1024) (r : Fin 64) (s : State),
      (plain p x (256 * r + 5) s) ∧ (ctxState s x = 1 ∨ ctxState s x = 2) ∧ (regionOwner s r = x.val) ∧ (regionState s r ≠
      rRUNNING) ∧ (tget 0 s.sec.regionUnpick r = 0) ∧ (dieUp s (4 + r / 16) = true) ∧ ((∀ n ∈ regionBobs s r, (bob s n).mma
      = [] ∧ (bob s n).vop = [] ∧ (bob s n).copy = [] ∧ (bob s n).send = [])) ∧ ((∀ e ∈ s.bob.bobs, ∀ f ∈ e.2.inFlight,
      flitOf r e.1 s f = false))) ∧
    (∃ (r : Fin 64) (s : State),
      (s.sys.powered = true) ∧ (tget 0 s.sec.regionUnpick r ≠ 0) ∧ (dieUp s (4 + r / 16) = true)) ∧
    (∃ (x : Fin 1024) (s : State),
      (s.sys.powered = true) ∧ (unpickReady s x = true)) ∧
    (∃ (x : Fin 1024) (s : State),
      (unpickReady s x = false)) ∧
    (∃ (x : Fin 1024) (s : State),
      (s.sys.powered = true) ∧ (fbit s (CTX_CTRL.CNT_OPEN x) = true) ∧ (ctxUsable s x = true) ∧ (fget s
      (PMC_CTXPUB.PERIOD_US x) ≠ 0) ∧ (s.elapsed (tget 0 s.tel.pubAt x) (1000 * fget s (PMC_CTXPUB.PERIOD_US x)) = true) ∧
      (memSound s)) := by
  refine ⟨⟨1, 3, ({ on mWOVEN [(PMC_CTXPAGE 3 5 |> fun o => ⟨o, 0, 64⟩, 9)] with sec := { share := [(3, { winGib := 1 })] } } : State), ?_⟩,
    ⟨1, 3, ({ on mWOVEN ((List.range 8).map fun d => (MEM_DIE.FREE d, 0)) with sec := { share := [(3, { winGib := 1 }), (9, { logGib := 2240 })] }, mem := { winFr := (List.range 4).map fun d => (10 + d, List.replicate 4480 (4 + d, 0)) } } : State), ?_⟩,
    ⟨1, 3, on mWOVEN [(CTX_STAT.STATE 3, 1), (CTX_STAT.GEN 3, 7)], ?_⟩,
    ⟨1, 3, on mWOVEN [(CTX_STAT.STATE 3, 2)], ?_⟩,
    ⟨1, 3, on mWOVEN [(CTX_STAT.STATE 3, 2), (BOB_RGN_STAT.STATE 0, 2), (PRK_RGEN.OWNED 0, 1), (PRK_RGEN.CONTEXT 0, 4)], ?_⟩,
    ⟨1, 3, ({ on mWOVEN [(CTX_STAT.STATE 3, 2)] with byp := { oper := [(7, { mode := 1, owner := 3 })] } } : State), ?_⟩,
    ⟨1, 3, ({ on mWOVEN [(CTX_STAT.STATE 3, 2), (CTX_KEYMAP 3 1 |> fun o => ⟨o, 0, 64⟩, 2), (MEM_WC.EN 3, 1), (SEC_KEYS.COUNT, 2)] with sec := { keys := [(833, {}), (1025, {})] } } : State), ?_⟩,
    ⟨1, 3, 5, on mWOVEN [(CTX_STAT.STATE 3, 2), (PRK_RGEN.OWNED 5, 1), (PRK_RGEN.CONTEXT 5, 4)], ?_⟩,
    ⟨1, 3, 5, on mWOVEN [(CTX_STAT.STATE 3, 2), (PRK_RGEN.OWNED 5, 1), (PRK_RGEN.CONTEXT 5, 3), (BOB_RGN_STAT.STATE 5, 1)], ?_⟩,
    ⟨0, ({ fset (holding fun b => { b with store := [(7, 7)] }) (BOB_RGN_STAT.STATE 0) 3 with sec := { regionUnpick := [(0, 9)] } } : State), ?_⟩,
    ⟨3, ({ on mWOVEN [(CTX_STAT.STATE 3, 3), (PRT_OWNER.OWNED 9, 1), (PRT_OWNER.CTX 9, 3), (PIC_LOG 3 |> fun o => ⟨o, 0, 64⟩, 64)] with mem := { winFr := [(3, [(4, 0), (2, 1)])], bytes := [(4 * 2 ^ 40 + 7, 7)] } } : State), ?_⟩,
    ⟨3, ({ on mWOVEN [(CTX_STAT.STATE 3, 3), (FLT_DIE.STATE 4, 2)] with mem := { winFr := [(3, [(4, 0), (2, 1)])] } } : State), ?_⟩,
    ⟨3, ({ on mWOVEN [(CTX_STAT.STATE 3, 2), (CTX_CTRL.CNT_OPEN 3, 1), (PMC_CTXPUB.PERIOD_US 3, 100)] with mono := 2 ^ 50, mem := { winFr := [(3, [(4, 0)])] } } : State), ?_⟩⟩ <;> (try dsimp only) <;> decide +kernel

/-- Every clause of Sessions has states and operands that meet its hypotheses. -/
theorem witness_Sessions :
    (∃ (s : State),
      (clocked s = true) ∧ (s.sec.lockUntil = 0) ∧ (s.sec.sessions.length < 8)) ∧
    (∃ (s : State),
      (clocked s = true) ∧ (s.sec.lockUntil ≠ 0 ∨ 8 ≤ s.sec.sessions.length)) ∧
    (∃ (n : Nat) (ca : Nat) (d : List Byte) (c : Conn) (s : State),
      (clocked s = true) ∧ (s.nvs.lifecycle = 1) ∧ ((s.sec.conns.find? fun k : Conn => k.conn == n) = some c) ∧ (s.now <
      c.stamp + 5000000000) ∧ (caKnown s ca = true) ∧ (s.sec.sessions.length < 8)) ∧
    (∃ (n : Nat) (a : Byte) (c : Conn) (s : State),
      (clocked s = true) ∧ ((s.sec.conns.find? fun k : Conn => k.conn == n) = some c) ∧ (s.now < c.stamp + 5000000000)) ∧
    (∃ (n : Nat) (c : Conn) (s : State),
      (s.sys.powered = true) ∧ ((s.sec.conns.find? fun k : Conn => k.conn == n) = some c) ∧ (c.stamp + 5000000000 ≤ s.now)) ∧
    (∃ (s : State),
      (s.sys.powered = true) ∧ (s.sec.lockUntil ≠ 0) ∧ (s.sec.lockUntil ≤ s.now)) ∧
    (∃ (n : Nat) (k : Session) (s : State),
      (s.sys.powered = true) ∧ (sessionOf s n = some k) ∧ (k.last + 300000000000 ≤ s.now) ∧ (s.sec.sessions.length ≤ 8)) ∧
    (∃ (n : Nat) (s : State),
      (s.sys.powered = true) ∧ ((sessionOf s n).isSome = true) ∧ (s.sec.sessions.length ≤ 8)) ∧
    (∃ (n : Nat) (v : BitVec 8) (o : BitVec 8) (g : BitVec 32) (s : State),
      (s.sys.powered = true) ∧ ((sessionOf s n).any (·.held.isEmpty) = true) ∧ (s.evr.clearing ≠ some n) ∧
      (s.sec.sessions.length ≤ 8)) ∧
    (∃ (a : BitVec 128) (s : State),
      (clocked s = true) ∧ (a ∈ mgmtAddrs s)) ∧
    (∃ (w : BitVec 64) (v : BitVec 32) (s : State),
      (clocked s = true) ∧ (s.sec.globals = []) ∧ (w.toNat / 2 ^ 54 ≠ 0x3FA) ∧ (v.toNat ≠ 0) ∧ (v.toNat ≠ 0xFFFFFFFF)) ∧
    (∃ (n : Nat) (k : Session) (s : State),
      (clocked s = true) ∧ (sessionOf s n = some k) ∧ (k.closedAt = 0)) ∧
    (∃ (n : Nat) (k : Session) (s : State),
      (clocked s = true) ∧ (sessionOf s n = some k) ∧ (k.closedAt ≠ 0) ∧ (k.closedAt + 1000000000 ≤ s.now)) ∧
    (∃ (n : Nat) (v : BitVec 8) (o : BitVec 8) (g : BitVec 32) (s : State),
      (clocked s = true) ∧ ((sessionOf s n).any (·.held.isEmpty) = true) ∧ (s.evr.clearing ≠ some n) ∧ (g ≠ 0#32) ∧
      (opDefined v.toNat o.toNat = false)) := by
  refine ⟨⟨({ on mBASIC [] with sec := { nextConn := 4 } } : State), ?_⟩,
    ⟨({ on mBASIC [] with sec := { nextConn := 4, lockUntil := 9 } } : State), ?_⟩,
    ⟨4, 0, [1, 2], { conn := 4, stamp := 0 }, ({ on mBASIC [] with nvs := { lifecycle := 1, rootKey := some [1] }, sec := { conns := [{ conn := 4 }, { conn := 5 }] } } : State), ?_⟩,
    ⟨4, 42, { conn := 4, stamp := 0 }, ({ on mBASIC [] with sec := { conns := [{ conn := 4 }, { conn := 5 }] } } : State), ?_⟩,
    ⟨4, { conn := 4, stamp := 0 }, ({ on mBASIC [] with mono := 2 ^ 70, sec := { conns := [{ conn := 4 }, { conn := 5 }] } } : State), ?_⟩,
    ⟨({ on mBASIC [] with mono := 2 ^ 70, sec := { lockUntil := 9 } } : State), ?_⟩,
    ⟨4, { sid := 4 }, ({ on mBASIC [(CTL_LOCK.HOLDER 3, 5), (CTL_LOCK.HOLDER 4, 6), (CTL_LOCK.HOLDER 5, 2)] with mono := 2 ^ 80, sec := { sessions := [{ sid := 4 }, { sid := 9 }] } } : State), ?_⟩,
    ⟨9, ({ on mBASIC [(CTL_LOCK.HOLDER 3, 5), (CTL_LOCK.HOLDER 4, 6), (CTL_LOCK.HOLDER 5, 7)] with sec := { sessions := [{ sid := 4 }, { sid := 9 }, { sid := 10 }] } } : State), ?_⟩,
    ⟨9, 2, 1, 77, ({ on mBASIC [(CTL_LOCK.HOLDER 4, 6)] with sec := { sessions := [{ sid := 4 }, { sid := 9 }] } } : State), ?_⟩,
    ⟨linkLocal, on mBASIC [], ?_⟩,
    ⟨0x20010DB800000000#64, 9000#32, on mBASIC [], ?_⟩,
    ⟨9, { sid := 9 }, ({ on mBASIC [] with sec := { sessions := [{ sid := 4 }, { sid := 9 }] } } : State), ?_⟩,
    ⟨9, { sid := 9, closedAt := 1 }, ({ on mBASIC [] with evr := { notes := [(4, {}), (9, {})] }, mono := 10 ^ 9 * 2 ^ 32 + 2 ^ 32, sec := { sessions := [{ sid := 4 }, { sid := 9, closedAt := 1 }] } } : State), ?_⟩,
    ⟨9, 7, 1, 77, ({ on mBASIC [] with sec := { sessions := [{ sid := 4 }, { sid := 9 }] } } : State), ?_⟩⟩ <;> (try dsimp only) <;>
    first | exact ⟨by decide, List.mem_cons_self⟩ | decide

/-- Every clause of Services has states and operands that meet its hypotheses. -/
theorem witness_Services :
    let asks := fun (s : State) (n v o : Nat) (g : BitVec 32) (b : List Byte) => clocked s = true ∧ (sessionOf s n).any (·.held.isEmpty) = true ∧ s.evr.clearing ≠ some n ∧ g ≠ 0#32 ∧ b.length ≤ 1048640 ∧ opOffered s v o = true
    let touch := fun (s : State) (n : Nat) => { s with sec := { s.sec with sessions := s.sec.sessions.map fun k : Session => if k.sid == n then { k with last := s.now } else k } }
    let word := fun (off : Nat) => le 8 off ++ le 4 1
    (∃ (n : Nat) (g : BitVec 32) (off : Nat) (s : State),
      (asks s n 1 1 g (word off)) ∧ (off % 8 = 0) ∧ (off < 0x4000000)) ∧
    (∃ (n : Nat) (g : BitVec 32) (off : Nat) (w : Word) (s : State),
      (asks s n 1 2 g (word off ++ le 4 0 ++ le 8 w.toNat)) ∧ (off % 8 = 0) ∧ (off < 0x4000000) ∧ (writeReason (touch s n)
      (sessionPath s n) off w = 0)) ∧
    (∃ (n : Nat) (g : BitVec 32) (off : Nat) (w : Word) (s : State),
      (asks s n 1 2 g (word off ++ le 4 0 ++ le 8 w.toNat)) ∧ (off % 8 = 0) ∧ (off < 0x4000000) ∧ (writeReason (touch s n)
      (sessionPath s n) off w ≠ 0)) ∧
    (∃ (n : Nat) (g : BitVec 32) (b : List Byte) (s : State),
      (asks s n 2 1 g b) ∧ (s.sys.latchOpen = false) ∧ (stageBad b = false) ∧ (imageBad (b.take 64) = false) ∧ (slotHeld s
      (fieldAt b 0 1) = false) ∧ (s.mode ≠ mDRAINING)) ∧
    (∃ (n : Nat) (g : BitVec 32) (b : List Byte) (s : State),
      (asks s n 5 1 g b) ∧ (b.length = 64) ∧ (inRecovery s = false)) ∧
    (∃ (n : Nat) (g : BitVec 32) (b : List Byte) (s : State),
      (asks s n 6 1 g b) ∧ (b.length = 12) ∧ (1 ≤ fieldAt b 8 4) ∧ (fieldAt b 8 4 ≤ 16384) ∧ (evrFirst s ≤ fieldAt b 0 8)) ∧
    (∃ (n : Nat) (g : BitVec 32) (b : List Byte) (s : State),
      (asks s n 6 1 g b) ∧ (b.length = 12) ∧ (1 ≤ fieldAt b 8 4) ∧ (fieldAt b 8 4 ≤ 16384) ∧ (fieldAt b 0 8 < evrFirst s)) ∧
    (∃ (n : Nat) (g : BitVec 32) (b : List Byte) (s : State),
      (asks s n 6 2 g b) ∧ (b.length = 4)) ∧
    (∃ (n : Nat) (g : BitVec 32) (b : List Byte) (s : State),
      (asks s n 6 3 g b) ∧ (b.length = 8) ∧ (s.evr.clearing = none) ∧ (s.sys.latchOpen = false) ∧ ((s.nvs.perm.getLast?).any
      (fun r => r.seq == fieldAt b 0 8) = true)) ∧
    (∃ (n : Nat) (g : BitVec 32) (b : List Byte) (s : State),
      (asks s n 6 3 g b) ∧ (b.length = 8) ∧ (s.evr.clearing = none) ∧ ((s.nvs.perm.getLast?).any (fun r => r.seq == fieldAt
      b 0 8) = false)) ∧
    (∃ (n : Nat) (g : BitVec 32) (rv : BitVec 32) (b : List Byte) (s : State),
      (asks s n 6 4 g b) ∧ (rv ≠ 0#32)) ∧
    (∃ (n : Nat) (g : BitVec 32) (rv : BitVec 32) (b : List Byte) (s : State),
      (clocked s = true) ∧ ((sessionOf s n).isSome = true) ∧ ((s.evr.clearing = some n ∨ (sessionOf s n).any
      (·.held.isEmpty) = false))) ∧
    (∃ (n : Nat) (g : BitVec 32) (b : List Byte) (s : State),
      (asks s n 6 4 g b) ∧ (b.length = 1)) ∧
    (∃ (n : Nat) (g : BitVec 32) (b : List Byte) (s : State),
      (asks s n 8 1 g b) ∧ (s.sys.latchOpen = false) ∧ (fwStageBad b = false) ∧ (fwStageCode s b false = 0)) ∧
    (∃ (n : Nat) (g : BitVec 32) (s : State),
      (asks s n 8 2 g [])) ∧
    (∃ (n : Nat) (g : BitVec 32) (b : List Byte) (s : State),
      (asks s n 8 3 g b) ∧ (s.sys.latchOpen = false) ∧ (b.length = 1) ∧ (fieldAt b 0 1 ≤ 1) ∧ (tget false s.nvs.fwVerified
      (fieldAt b 0 1) = true) ∧ (s.nvs.fwFloor.toNat ≤ (tget 0 s.nvs.fwVer (fieldAt b 0 1)).toNat)) := by
  refine ⟨⟨9, 77, 0x40, ({ on mBASIC [] with nvs := { lifecycle := 1 }, sec := { sessions := [{ sid := 4 }, { sid := 9 }] } } : State), ?_⟩,
    ⟨9, 77, PMC_PACE_CLR, 1, ({ on mBASIC [] with nvs := { lifecycle := 1 }, sec := { sessions := [{ sid := 4 }, { sid := 9 }] } } : State), ?_⟩,
    ⟨9, 77, PMC_PACE_CLR, 2, ({ on mBASIC [] with nvs := { lifecycle := 1 }, sec := { sessions := [{ sid := 4 }, { sid := 9 }] } } : State), ?_⟩,
    ⟨9, 77, le 1 3 ++ le 1 1 ++ le 2 0 ++ le 4 0 ++ le 8 0 ++ le 8 0 ++ le 4 4096 ++ List.replicate 36 0 ++ List.replicate 4096 7, ({ on mBASIC [(PRK_STATUS.VERIFIED, 8)] with nvs := { lifecycle := 1 }, sec := { sessions := [{ sid := 4 }, { sid := 9 }] } } : State), ?_⟩,
    ⟨9, 77, List.replicate 64 5, ({ on mWOVEN [] with nvs := { lifecycle := 1 }, sec := { sessions := [{ sid := 4 }, { sid := 9 }] } } : State), ?_⟩,
    ⟨9, 77, le 8 4 ++ le 4 2, ({ on mWOVEN [] with evr := { recs := [{ seq := 6 }, { seq := 5 }, { seq := 4 }, { seq := 3 }], next := 7 }, nvs := { lifecycle := 1 }, sec := { sessions := [{ sid := 4 }, { sid := 9 }] } } : State), ?_⟩,
    ⟨9, 77, le 8 2 ++ le 4 2, ({ on mWOVEN [] with evr := { recs := [{ seq := 6 }, { seq := 5 }, { seq := 4 }, { seq := 3 }], next := 7 }, nvs := { lifecycle := 1 }, sec := { sessions := [{ sid := 4 }, { sid := 9 }] } } : State), ?_⟩,
    ⟨9, 77, le 2 1 ++ le 2 1, ({ on mWOVEN [] with nvs := { lifecycle := 1, perm := [{ seq := 6 }, { seq := 8 }] }, sec := { sessions := [{ sid := 4 }, { sid := 9 }] } } : State), ?_⟩,
    ⟨9, 77, le 8 8, ({ on mWOVEN [] with nvs := { lifecycle := 1, perm := [{ seq := 6 }, { seq := 8 }] }, sec := { sessions := [{ sid := 4 }, { sid := 9 }] } } : State), ?_⟩,
    ⟨9, 77, le 8 6, ({ on mWOVEN [] with nvs := { lifecycle := 1, perm := [{ seq := 6 }, { seq := 8 }] }, sec := { sessions := [{ sid := 4 }, { sid := 9 }] } } : State), ?_⟩,
    ⟨9, 77, 1, [2], ({ on mWOVEN [] with nvs := { lifecycle := 1 }, sec := { sessions := [{ sid := 4 }, { sid := 9 }] } } : State), ?_⟩,
    ⟨9, 77, 1, [2], ({ on mWOVEN [] with evr := { clearing := some 9 }, sec := { sessions := [{ sid := 4 }, { sid := 9, held := [{ service := 1 }] }] } } : State), ?_⟩,
    ⟨9, 77, [2], ({ on mWOVEN [] with nvs := { lifecycle := 1 }, sec := { sessions := [{ sid := 4 }, { sid := 9 }] } } : State), ?_⟩,
    ⟨9, 77, [1, 0, 0, 0, 0, 0, 0, 0] ++ le 8 4096 ++ [1, 2, 3], ({ on mWOVEN [] with nvs := { lifecycle := 1, fwVerified := [(1, true)] }, sec := { sessions := [{ sid := 4 }, { sid := 9 }] } } : State), ?_⟩,
    ⟨9, 77, ({ on mWOVEN [] with nvs := { lifecycle := 1, fwVerified := [(1, true)] }, sec := { sessions := [{ sid := 4 }, { sid := 9 }] } } : State), ?_⟩,
    ⟨9, 77, [1], ({ on mWOVEN [] with nvs := { lifecycle := 1, fwVerified := [(1, true)] }, sec := { sessions := [{ sid := 4 }, { sid := 9 }] } } : State), ?_⟩⟩ <;> (try dsimp only) <;> decide +kernel

/-- Every clause of OwnerAndKeys has states and operands that meet its hypotheses. -/
theorem witness_OwnerAndKeys :
    let asks := fun (s : State) (n v o : Nat) (g : BitVec 32) (b : List Byte) => clocked s = true ∧ (sessionOf s n).any (·.held.isEmpty) = true ∧ s.evr.clearing ≠ some n ∧ g ≠ 0#32 ∧ b.length ≤ 1048640 ∧ opOffered s v o = true ∧ s.sys.latchOpen = false
    let owner := fun (cmd : Nat) (s : State) (n : Nat) (g : BitVec 32) (b : List Byte) => asks s n 3 1 g b ∧ recordBad b = false ∧ ownCmd b = cmd ∧ (lifeOwned s = true ∨ cmd = 1)
    (∃ (n : Nat) (g : BitVec 32) (b : List Byte) (s : State),
      (owner 1 s n g b)) ∧
    (∃ (n : Nat) (g : BitVec 32) (b : List Byte) (s : State),
      (owner 2 s n g b)) ∧
    (∃ (n : Nat) (g : BitVec 32) (b : List Byte) (s : State),
      (owner 3 s n g b)) ∧
    (∃ (n : Nat) (g : BitVec 32) (b : List Byte) (s : State),
      (owner 4 s n g b)) ∧
    (∃ (n : Nat) (g : BitVec 32) (b : List Byte) (s : State),
      (owner 5 s n g b)) ∧
    (∃ (n : Nat) (g : BitVec 32) (b : List Byte) (s : State),
      (owner 6 s n g b)) ∧
    (∃ (n : Nat) (g : BitVec 32) (b : List Byte) (s : State),
      (owner 7 s n g b) ∧ (testFree s = true)) ∧
    (∃ (n : Nat) (g : BitVec 32) (b : List Byte) (s : State),
      (asks s n 4 1 g b) ∧ (b.length = 1624) ∧ (fieldAt b 3 1 = 1) ∧ (fieldAt b 4 4 = 0) ∧ (ctxUsable s (fieldAt b 0 2) =
      true) ∧ (fieldAt b 2 1 ≠ 0) ∧ (s.sec.keys.length < 16384)) ∧
    (∃ (n : Nat) (g : BitVec 32) (b : List Byte) (s : State),
      (asks s n 4 1 g b) ∧ (b.length = 1624) ∧ (fieldAt b 3 1 = 2) ∧ (fieldAt b 4 4 = 0) ∧ (ctxUsable s (fieldAt b 0 2) =
      true) ∧ (fieldAt b 2 1 ≠ 0)) := by
  refine ⟨⟨9, 77, ownRec 1, ({ on mBASIC [] with sec := { sessions := [{ sid := 9 }] } } : State), ?_⟩,
    ⟨9, 77, ownRec 2, ({ on mBASIC [] with nvs := { lifecycle := 1 }, sec := { sessions := [{ sid := 9 }] } } : State), ?_⟩,
    ⟨9, 77, ownRec 3, ({ on mBASIC [] with nvs := { lifecycle := 1 }, sec := { sessions := [{ sid := 9 }] } } : State), ?_⟩,
    ⟨9, 77, ownRec 4, ({ on mBASIC [] with nvs := { lifecycle := 1 }, sec := { sessions := [{ sid := 9 }] } } : State), ?_⟩,
    ⟨9, 77, ownRec 5, ({ on mBASIC [] with nvs := { lifecycle := 1 }, sec := { sessions := [{ sid := 9 }] } } : State), ?_⟩,
    ⟨9, 77, ownRec 6, ({ on mBASIC [] with nvs := { lifecycle := 1 }, sec := { sessions := [{ sid := 9 }] } } : State), ?_⟩,
    ⟨9, 77, ownRec 7, ({ on mMAINT [] with nvs := { lifecycle := 1 }, sec := { sessions := [{ sid := 9 }] } } : State), ?_⟩,
    ⟨9, 77, le 2 3 ++ [5, 1] ++ List.replicate 1620 0, ({ on mWOVEN [(CTX_STAT.STATE 3, 1)] with nvs := { lifecycle := 1 }, sec := { sessions := [{ sid := 9 }] } } : State), ?_⟩,
    ⟨9, 77, le 2 3 ++ [5, 2] ++ List.replicate 1620 0, ({ on mWOVEN [(CTX_STAT.STATE 3, 1), (CTX_KEYMAP 3 0 |> fun o => ⟨o, 0, 64⟩, 96), (SEC_KEYS.COUNT, 2)] with nvs := { lifecycle := 1 }, sec := { keys := [(773, {}), (774, {})], sessions := [{ sid := 9 }] } } : State), ?_⟩⟩ <;> (try dsimp only) <;> decide +kernel

/-- Every clause of HostAttachment has states and operands that meet its hypotheses. -/
theorem witness_HostAttachment :
    let tails := fun (p : Fin 13) (q : Nat) (v : Word) (s : State) => accepts s p (CTL_DQ_TAIL q) v = true ∧ dqRuns s q = true
    (∃ (s : State),
      (s.sys.powered = true) ∧ (s.host.link = true)) ∧
    (∃ (s : State),
      (s.sys.powered = true) ∧ (s.host.link = false) ∧ (inRecovery s = false)) ∧
    (∃ (a : BitVec 26) (n : Nat) (w : Bool) (s : State),
      (clocked s = true) ∧ (s.host.link = true) ∧ ((n ≠ 8 ∨ a.toNat % 8 ≠ 0))) ∧
    (∃ (s : State),
      (clocked s = true) ∧ (s.host.link = true) ∧ (s.host.msixEn = false)) ∧
    (∃ (v : Fin 2048) (e : BitVec 128) (s : State),
      (clocked s = true) ∧ (s.host.link = true)) ∧
    (∃ (q : Fin 4) (p : Fin 13) (v : Word) (s : State),
      (accepts s p (CTL_DQ_CFG q) v = true) ∧ (fbit s (CTL_DQ_CFG.EN q) = false) ∧ (wbit v (CTL_DQ_CFG.EN q) = true)) ∧
    (∃ (q : Fin 4) (p : Fin 13) (v : Word) (e : List Byte) (s : State),
      (tails p q v s) ∧ (q ≠ 0) ∧ ((v.toNat + 2 ^ 32 - dqHead s q) % 2 ^ 32 ≤ dqSlots s q)) ∧
    (∃ (q : Fin 4) (p : Fin 13) (v : Word) (e : List Byte) (s : State),
      (tails p q v s) ∧ (q = 0) ∧ ((v.toNat + 2 ^ 32 - dqHead s q) % 2 ^ 32 ≤ dqSlots s q)) ∧
    (∃ (q : Fin 4) (p : Fin 13) (v : Word) (e : List Byte) (s : State),
      (tails p q v s) ∧ (q ≠ 2) ∧ (dqSlots s q < (v.toNat + 2 ^ 32 - dqHead s q) % 2 ^ 32)) ∧
    (∃ (e : BitVec 512) (d : List Byte) (s : State),
      (clocked s = true) ∧ (dqReady s 1 = true) ∧ (s.sys.latchOpen = false) ∧ (imageBad (le 64 e.toNat) = false) ∧ (slotHeld
      s (fieldAt (le 64 e.toNat) 0 1) = false) ∧ (s.mode ≠ mDRAINING)) ∧
    (∃ (e : BitVec 256) (s : State),
      (clocked s = true) ∧ (dqReady s 3 = true) ∧ (e.toNat % 2 ^ 64 % 8 = 0) ∧ (1 ≤ e.toNat / 2 ^ 64 % 2 ^ 32) ∧ (e.toNat /
      2 ^ 64 % 2 ^ 32 ≤ 65536) ∧ (e.toNat / 2 ^ 192 = 0) ∧ (e.toNat % 2 ^ 64 + 8 * (e.toNat / 2 ^ 64 % 2 ^ 32) ≤ 0x4000000)) ∧
    (∃ (r : Rec) (s : State),
      (clocked s = true) ∧ (dqRuns s 2 = true) ∧ ((dqHead s 2 + 2 ^ 32 - dqTail s 2) % 2 ^ 32 < dqSlots s 2) ∧
      ((s.evr.recs.find? fun r => r.seq == max s.host.evPos (evrFirst s)) = some r)) ∧
    (∃ (q : Fin 4) (s : State),
      (s.sys.powered = true) ∧ (dqRuns s q = true)) := by
  refine ⟨⟨({ on mWOVEN [(CTL_LOCK.HOLDER 3, 0), (CTL_LOCK.HOLDER 4, 2)] with host := { link := true, msixEn := true } } : State), ?_⟩,
    ⟨on mWOVEN [(CTL_DQ_CFG.EN 1, 1)], ?_⟩,
    ⟨0x44, 4, true, ({ on mWOVEN [] with host := { link := true } } : State), ?_⟩,
    ⟨({ on mWOVEN [(IC_SRC.STATE 9, 1), (IC_SRC.EN 9, 1), (IC_SRC.TARGET 9, 4)] with host := { link := true, msixTab := [(0, 0xFEE00000)] } } : State), ?_⟩,
    ⟨7, 5 + 9 * 2 ^ 64, ({ on mWOVEN [] with host := { link := true, msixEn := true, pba := [(7, true), (8, true)] } } : State), ?_⟩,
    ⟨3, 1, 0x104, on mWOVEN [(CTL_DQ_TAIL.TAIL 3, 4), (CTL_DQ_STAT.STOPPED 3, 1)], ?_⟩,
    ⟨3, 1, 2, [], on mWOVEN [(CTL_DQ_CFG.EN 3, 1)], ?_⟩,
    ⟨0, 1, 1, List.replicate 256 0, on mWOVEN [(CTL_DQ_CFG.EN 0, 1)], ?_⟩,
    ⟨1, 1, 200, [], on mWOVEN [(CTL_DQ_CFG.EN 1, 1)], ?_⟩,
    ⟨3 + 2 * 2 ^ 8 + 4096 * 2 ^ 192, [1, 2, 3], ({ on mWOVEN [(CTL_DQ_CFG.EN 1, 1), (CTL_DQ_TAIL.TAIL 1, 2), (PRK_STATUS.VERIFIED, 8), (CTL_DQ_CBASE.ADDR 1, 0x10000)] with host := { link := true } } : State), ?_⟩,
    ⟨0x40 + 2 * 2 ^ 64 + 0x9000 * 2 ^ 128, ({ on mWOVEN [(CTL_DQ_CFG.EN 3, 1), (CTL_DQ_TAIL.TAIL 3, 2)] with host := { link := true } } : State), ?_⟩,
    ⟨{ seq := 5, sev := 1 }, ({ on mWOVEN [(CTL_DQ_CFG.EN 2, 1), (CTL_DQ_TAIL.TAIL 2, 0)] with host := { link := true, evPos := 5 }, nvs := {}, evr := { recs := [{ seq := 6 }, { seq := 5, sev := 1 }], next := 7 } } : State), ?_⟩,
    ⟨2, on mWOVEN [(CTL_DQ_CFG.EN 2, 1)], ?_⟩⟩ <;> (try dsimp only) <;> decide +kernel

/-- Every clause of Interrupts has states and operands that meet its hypotheses. -/
theorem witness_Interrupts :
    (∃ (p : Fin 13) (n : BitVec 12) (s : State),
      (accepts s p IC_DOORBELL (BitVec.ofNat 64 n.toNat) = true) ∧ (fget s (IC_SRC.STATE n.toNat) = 0 ∨ fget s (IC_SRC.STATE
      n.toNat) = 2)) ∧
    (∃ (p : Fin 13) (n : BitVec 12) (s : State),
      (accepts s p IC_DOORBELL (BitVec.ofNat 64 n.toNat) = true) ∧ (fget s (IC_SRC.STATE n.toNat) = 1 ∨ fget s (IC_SRC.STATE
      n.toNat) = 3)) ∧
    (∃ (p : Fin 13) (c : Fin 5) (n : Nat) (s : State),
      (s.sys.powered = true) ∧ (pathLive s p = true) ∧ (p.val = targetPath c) ∧ (icOffer s c = some n)) ∧
    (∃ (c : Fin 5) (n : Nat) (s : State),
      ((s.regs.map (·.1)).Pairwise (· < ·)) ∧ ((∀ e ∈ s.regs, e.1 % 8 = 0)) ∧ (icOffer s c = some n)) ∧
    (∃ (p : Fin 13) (c : Fin 5) (s : State),
      (s.sys.powered = true) ∧ (pathLive s p = true) ∧ (p.val ≠ targetPath c ∨ icOffer s c = none)) ∧
    (∃ (p : Fin 13) (c : Fin 5) (n : BitVec 12) (s : State),
      (accepts s p (IC_EOI c) (BitVec.ofNat 64 n.toNat) = true)) ∧
    (∃ (p : Fin 13) (n : Fin 4096) (v : Word) (s : State),
      (accepts s p (IC_SRC n) v = true)) ∧
    (∃ (p : Fin 13) (v : Word) (s : State),
      (accepts s p IC_TIERS v = true)) := by
  refine ⟨⟨1, 9, on mWOVEN [(IC_SRC.STATE 9, 2), (IC_SRC.EN 9, 1)], ?_⟩,
    ⟨1, 9, on mWOVEN [(IC_SRC.STATE 9, 1), (IC_SRC.EN 9, 1)], ?_⟩,
    ⟨1, 0, 9, ({ on mWOVEN [(IC_SRC.STATE 9, 1), (IC_SRC.EN 9, 1), (IC_SRC.PRIO 9, 0x31), (IC_SRC.STATE 8, 1), (IC_SRC.EN 8, 1), (IC_SRC.PRIO 8, 0x35)] with host := { taken := [(0, [(1030, 2)])] } } : State), ?_⟩,
    ⟨0, 9, ({ on mWOVEN [(IC_SRC.STATE 8, 1), (IC_SRC.EN 8, 1), (IC_SRC.PRIO 8, 0x35), (IC_SRC.STATE 9, 1), (IC_SRC.EN 9, 1), (IC_SRC.PRIO 9, 0x31)] with host := { taken := [(0, [(1030, 2)])] } } : State), ?_⟩,
    ⟨1, 0, ({ on mWOVEN [(IC_SRC.STATE 9, 1), (IC_SRC.EN 9, 1), (IC_SRC.PRIO 9, 0x52)] with host := { taken := [(0, [(1030, 2)])] } } : State), ?_⟩,
    ⟨1, 0, 9, ({ on mWOVEN [(IC_SRC.STATE 9, 3), (IC_SRC.EN 9, 1)] with host := { taken := [(0, [(9, 2), (8, 3)])] } } : State), ?_⟩,
    ⟨1, 9, 0x80070331, on mWOVEN [(IC_SRC.STATE 9, 1)], ?_⟩,
    ⟨1, 0x70605040302010, on mWOVEN [], ?_⟩⟩ <;> (try dsimp only) <;> decide

/-- Every clause of RecorderAndTelemetry has states and operands that meet its hypotheses. -/
theorem witness_RecorderAndTelemetry :
    (∃ (r : Rec) (q : List Rec) (s : State),
      (s.sys.powered = true) ∧ (s.evr.copyQ = r :: q) ∧ (s.sys.latchOpen = false) ∧ (s.evr.clearing = none) ∧
      (s.nvs.perm.length < 4096)) ∧
    (∃ (k : Nat) (w : RateWin) (s : State),
      (s.sys.powered = true) ∧ ((s.evr.windows.find? fun e => e.1 == k) = some (k, w)) ∧ (w.expiry ≤ s.now) ∧ (w.folded = 0)) ∧
    (∃ (k : Nat) (w : RateWin) (s : State),
      (s.sys.powered = true) ∧ ((s.evr.windows.find? fun e => e.1 == k) = some (k, w)) ∧ (w.expiry ≤ s.now) ∧ (w.folded ≠ 0)
      ∧ ((s.evr.rateAt ≠ s.now / 1000000 ∨ s.evr.rateCnt < 20000))) ∧
    (∃ (s : State),
      (s.sys.powered = true) ∧ (s.evr.lost ≠ 0) ∧ ((s.evr.rateAt ≠ s.now / 1000000 ∨ s.evr.rateCnt < 20000))) ∧
    (∃ (p : Fin 13) (n : Word) (s : State),
      (accepts s p EVR_SEL n = true)) ∧
    (∃ (p : Fin 13) (n : Word) (s : State),
      (accepts s p EVR_PSEL n = true)) ∧
    (∃ (n : Nat) (s : State),
      (s.sys.powered = true) ∧ (s.evr.clearing = some n) ∧ ((∀ k ∈ s.sec.sessions, k.held = []))) ∧
    (∃ (s : State),
      (s.sys.powered = true) ∧ (fbit s TEL_CTRL.SAMP_EN = true) ∧ (telDue s s.tel.sampAt (1000 * fget s
      TEL_CTRL.SAMP_PERIOD_US) = true)) ∧
    (∃ (s : State),
      (s.sys.powered = true) ∧ (fbit s TEL_CTRL.WATCH_EN = true) ∧ (telDue s s.tel.watchAt 1000 = true)) ∧
    (∃ (s : State),
      (s.sys.powered = true)) := by
  refine ⟨⟨{ seq := 7 }, [{ seq := 8 }], ({ on mWOVEN [] with evr := { copyQ := [{ seq := 7 }, { seq := 8 }] } } : State), ?_⟩,
    ⟨7, { expiry := 5 }, ({ on mWOVEN [] with mono := 2 ^ 40, evr := { windows := [(7, { expiry := 5 })] } } : State), ?_⟩,
    ⟨7, { expiry := 5, len := 9, folded := 3 }, ({ on mWOVEN [] with mono := 2 ^ 40, evr := { windows := [(7, { expiry := 5, len := 9, folded := 3 })] } } : State), ?_⟩,
    ⟨({ on mWOVEN [] with evr := { lost := 4 } } : State), ?_⟩,
    ⟨1, 7, ({ on mWOVEN [] with evr := { recs := [{ seq := 8 }, { seq := 7, block := 5 }] } } : State), ?_⟩,
    ⟨1, 1, ({ on mWOVEN [] with nvs := { perm := [{ seq := 8 }, { seq := 7, block := 5 }] } } : State), ?_⟩,
    ⟨9, ({ on mWOVEN [] with evr := { clearing := some 9, clearTag := 5, copyQ := [{ seq := 9 }] }, nvs := { perm := [{ seq := 8 }, { seq := 7, block := 5 }] }, sec := { sessions := [{ sid := 9 }] } } : State), ?_⟩,
    ⟨({ on mWOVEN [(TEL_CTRL.SAMP_EN, 1), (TEL_CTRL.SAMP_PERIOD_US, 1)] with tb := 2 ^ 50, tel := { sampSeq := 6 } } : State), ?_⟩,
    ⟨({ on mWOVEN [(TEL_CTRL.WATCH_EN, 1), (TEL_WATCH.VALID 5, 1), (TEL_WATCH.PORT 5, 8)] with tb := 2 ^ 50, tel := { watchSeq := 6 } } : State), ?_⟩,
    ⟨({ on mWOVEN [] with mono := 2 ^ 40, tel := { queue := [(1, 5, []), (2, 500, [])] } } : State), ?_⟩⟩ <;> (try dsimp only) <;> decide

/-- Every clause of ReadsHaveNoSideEffect has states and operands that meet its hypotheses. -/
theorem witness_ReadsHaveNoSideEffect :
    let special := fun (o : Nat) => o == TB_SEC || (IC_CLAIM 0 ≤ o && o < IC_CLAIM 5) || inLock o
    (∃ (p : Nat) (o : Nat) (s : State),
      (special o = false)) ∧
    (∃ (o : Nat) (s : State),
      (special o = true)) ∧
    (∃ (o : Nat) (s : State),
      (special o = false)) := by
  refine ⟨⟨7, PRK_AT, on mWOVEN [], ?_⟩,
    ⟨TB_SEC, ({ on mWOVEN [] with tb := 2 ^ 80 } : State), ?_⟩,
    ⟨PRK_AT, on mWOVEN [(PRK_AT.NS, 77)], ?_⟩⟩ <;> (try dsimp only) <;> decide

/-- Every clause of LocksGuardSets has states and operands that meet its hypotheses. -/
theorem witness_LocksGuardSets :
    (∃ (p : Fin 13) (o : BitVec 26) (v : Word) (k : Nat) (s : State),
      (s.sys.powered = true) ∧ (pathLive s p = true) ∧ (o.toNat % 8 = 0) ∧ (lockOf o.toNat = some k) ∧ (fget s
      (CTL_LOCK.HOLDER k) ≠ 0xF) ∧ (fget s (CTL_LOCK.HOLDER k) ≠ p.val)) ∧
    (∃ (p : Nat) (o : Nat) (k : Nat) (h : Nat) (s : State),
      (lockOf o = some k)) ∧
    (∃ (p : Nat) (o : Nat) (v : Word) (k : Nat) (s : State),
      (lockOf o = some k) ∧ (fget s (CTL_LOCK.HOLDER k) = 0xF)) ∧
    (∃ (o : Nat) (k : Nat),
      (lockOf o = some k)) := by
  refine ⟨⟨2, BitVec.ofNat 26 FLT_BC_W0, 5, 8, on mWOVEN [(CTL_LOCK.HOLDER 8, 3)], ?_⟩,
    ⟨2, FLT_BC_W0, 8, 3, on mWOVEN [(FLT_BC_W0.CTX, 3)], ?_⟩,
    ⟨2, FLT_BC_W0, 7, 8, on mWOVEN [], ?_⟩,
    ⟨PRK_AT, 11, ?_⟩⟩ <;> (try dsimp only) <;> decide

/-- Every clause of RegisterWrites has states and operands that meet its hypotheses. -/
theorem witness_RegisterWrites :
    (∃ (p : Fin 13) (k : Fin 16) (s : State),
      (s.sys.powered = true) ∧ (pathLive s p = true) ∧ (fget s (CTL_LOCK.HOLDER k) = 0xF)) ∧
    (∃ (p : Fin 13) (k : Fin 16) (s : State),
      (s.sys.powered = true) ∧ (pathLive s p = true) ∧ (fget s (CTL_LOCK.HOLDER k) ≠ 0xF)) ∧
    (∃ (p : Fin 13) (k : Fin 16) (s : State),
      (s.sys.powered = true) ∧ (pathLive s p = true) ∧ (testFree s = true) ∧ (fget s (CTL_LOCK.HOLDER k) = p.val)) ∧
    (∃ (p : Fin 13) (k : Fin 16) (s : State),
      (s.sys.powered = true) ∧ (pathLive s p = true) ∧ (fget s (CTL_LOCK.HOLDER k) ≠ p.val)) ∧
    (∃ (p : Fin 13) (o : BitVec 26) (v : Word) (s : State),
      (s.sys.powered = true) ∧ (pathLive s p = true) ∧ (o.toNat % 8 = 0) ∧ (writeReason s p o.toNat v ≠ 0)) ∧
    (∃ (p : Fin 13) (v : Word) (s : State),
      (accepts s p FLT_CHIP_SEL v = true)) := by
  refine ⟨⟨7, 12, ({ on mWOVEN [] with sec := { sessions := [{ sid := 1 }, { sid := 2 }, { sid := 3 }] } } : State), ?_⟩,
    ⟨1, 12, on mWOVEN [(CTL_LOCK.HOLDER 12, 2)], ?_⟩,
    ⟨2, 12, on mWOVEN [(CTL_LOCK.HOLDER 12, 2)], ?_⟩,
    ⟨1, 12, on mWOVEN [(CTL_LOCK.HOLDER 12, 2)], ?_⟩,
    ⟨1, 0x3800008, 0x100000, on mWOVEN [], ?_⟩,
    ⟨1, 77, on mWOVEN [], ?_⟩⟩ <;> (try dsimp only) <;> decide

end Sys2Proof.Wit
end

section
/-! SUPPORT. Rules about what an operation on registers leaves: everything but the registers, and every register but its own. -/

namespace Sys2Proof.Claim

open Machine

/-! What an operation on registers leaves. -/

theorem regsOnly.refl (s : State) : regsOnly s s := rfl

theorem regsOnly.trans {s t u : State} (h : regsOnly s t) (k : regsOnly t u) : regsOnly s u := by
  unfold regsOnly at *
  rw [k, h]

theorem regsOnly_setReg (s : State) (o : Nat) (v : Word) : regsOnly s (setReg s o v) := rfl

theorem regsOnly_fset (s : State) (f : Fld) (v : Nat) : regsOnly s (fset s f v) := rfl

theorem regsOnly_bumpBy (s : State) (o n : Nat) : regsOnly s (bumpBy s o n) := rfl

theorem regsOnly_bump (s : State) (o : Nat) : regsOnly s (bump s o) := rfl

/-- What every step of a fold does to the registers alone, the fold does to them alone. -/
theorem regsOnly_forEach {β : Type} {l : List β} {f : State → β → State} (hf : ∀ s a, regsOnly s (f s a)) (s : State) :
    regsOnly s (forEach l s f) :=
  forEach_keeps (P := regsOnly s) (fun t a _ h => h.trans (hf t a)) (regsOnly.refl s)

theorem regsBut.refl (own : Nat → Bool) (s : State) : regsBut own s s := fun _ _ => rfl

theorem regsBut.trans {own : Nat → Bool} {s t u : State} (h : regsBut own s t) (k : regsBut own t u) : regsBut own s u :=
  fun o ho => (k o ho).trans (h o ho)

theorem regsBut_setReg {own : Nat → Bool} (s : State) {o : Nat} (ho : own o = true) (v : Word) : regsBut own s (setReg s o v) :=
  fun o' h => getReg_setReg_ne s (by rintro rfl; simp [ho] at h) v

theorem regsBut_fset {own : Nat → Bool} (s : State) (f : Fld) (hf : own f.off = true) (v : Nat) : regsBut own s (fset s f v) :=
  regsBut_setReg s hf _

theorem regsBut_bump {own : Nat → Bool} (s : State) {o : Nat} (ho : own o = true) : regsBut own s (bump s o) :=
  regsBut_setReg s ho _

end Sys2Proof.Claim
end

section
/-! SUPPORT. What an idle step does: it settles O2. -/

namespace Sys2Proof.Machine

open Claim

/-! Time (R3, R353). -/

/-- The units of 2^-32 ns that one tick adds at the servo's rate. -/
def tickUnits (s : State) : Nat := (2 ^ 32 + sext 32 (fget s TB_RATE.RATE)).toNat

theorem levelPort_regsOnly (dt : Nat) (s : State) (L : Nat) : regsOnly s (levelPort dt s L) := by
  have add : ∀ (u : State) (c : Bool) (o : Nat), regsOnly u (if c then bumpBy u o dt else u) := by
    intro u c o
    cases c
    · exact regsOnly.refl u
    · exact regsOnly_bumpBy u o dt
  unfold levelPort
  split
  · exact regsOnly.refl s
  · exact ((((add _ _ _).trans (add _ _ _)).trans (add _ _ _)).trans (add _ _ _)).trans (add _ _ _)

theorem ctxBump_regsOnly (s : State) (x k n : Nat) : regsOnly s (ctxBump s x k n) := by
  unfold ctxBump
  split
  · exact regsOnly_bumpBy _ _ _
  · exact regsOnly.refl s

theorem tdAdd_regsOnly (s : State) (n k t : Nat) : regsOnly s (tdAdd s n k t) :=
  (regsOnly_bumpBy s _ t).trans (ctxBump_regsOnly _ _ _ _)

theorem levelBob_regsOnly (dt : Nat) (s : State) (n : Nat) : regsOnly s (levelBob dt s n) := by
  unfold levelBob
  dsimp only
  split
  · exact tdAdd_regsOnly _ _ _ _
  · exact regsOnly.refl s

/-- A tick advances both clocks; beside them only the counters by level move. -/
theorem tick_of_powered {s : State} (h : s.sys.powered = true) :
    regsOnly { s with tb := (s.tb + tickUnits s) % tbMod, mono := s.mono + tickUnits s } (tick s) := by
  unfold tick
  rw [if_neg (by simp [h])]
  exact (regsOnly_forEach (levelPort_regsOnly _) _).trans (regsOnly_forEach (levelBob_regsOnly _) _)

theorem tick_of_unpowered {s : State} (h : s.sys.powered = false) : tick s = s := by
  simp [tick, h]

/-- No datagram waits, so none leaves. -/
theorem telSend_of_empty {s : State} (h : s.tel.queue = []) : telSend s = s := by
  simp [telSend, h]

/-- Where no datagram waits, idling is a tick. -/
theorem idle_of_empty {s : State} (h : (tick s).tel.queue = []) : idle s = tick s := by
  simp [idle, telSend_of_empty h]

theorem step_of_idle {s : State} (h : s.pending = []) : step s = .next (idle s) := by
  simp [step, h]

/-- Settles O2: a tick moves the clocks and the counters by level, and no datagram waits to leave. -/
theorem idleStepPassesTime : Obligations.IdleStepPassesTime := by
  unfold Obligations.IdleStepPassesTime
  refine ⟨fun s hp hpow hq => ?_, fun s hp hpow hq => ?_⟩
  · have ht : regsOnly _ (tick s) := tick_of_powered hpow
    unfold regsOnly at ht
    have hi : idle s = tick s := idle_of_empty (by rw [ht]; exact hq)
    refine ⟨tick s, (step_of_idle hp).trans (by rw [hi]), ?_⟩
    rw [ht]
    exact ⟨rfl, rfl, rfl, rfl, rfl, rfl, rfl⟩
  · have ht : tick s = s := tick_of_unpowered hpow
    rw [step_of_idle hp, idle_of_empty (by rw [ht]; exact hq), ht]

end Sys2Proof.Machine
end

section
/-! SUPPORT. Register access on a path: what a rejected write records, when a write is accepted, and which registers have no
rule of their own. -/

namespace Sys2Proof.Machine

open Claim

/-! Running a command. -/

/-- A command runs on a powered module. -/
theorem live_of_powered {s : State} (h : s.sys.powered = true) (f : State → State) : live s f = .next (f s) := by
  simp [live, h]

/-! Fields and registers. -/

theorem fget_setReg_ne (s : State) {o : Nat} (v : Word) {f : Fld} (h : f.off ≠ o) : fget (setReg s o v) f = fget s f := by
  simp [fget, getReg_setReg_ne s h]

theorem fget_bump_ne (s : State) {o : Nat} {f : Fld} (h : f.off ≠ o) : fget (bump s o) f = fget s f := fget_setReg_ne s _ h

/-- A field reads what the stored word holds in it. -/
theorem fget_setReg_same (s : State) (f : Fld) (v : Word) : fget (setReg s f.off v) f = wget v f := by
  simp [fget, wget]

/-! Rejected writes (R493). -/

/-- The word of `CTL_WERR` that records a rejected write. -/
def werrWord (p off reason : Nat) : Word := BitVec.ofNat 64 (2 ^ 63 + p * 2 ^ 52 + reason * 2 ^ 48 + off / 8 * 8)

/-- The first rejected write is recorded. -/
theorem logReject_first {s : State} (h : fbit s CTL_WERR.VALID = false) (p off reason : Nat) (w : Word) :
    logReject s p off reason w = setReg (setReg (bump s CTL_WERR_CNT) CTL_WERR (werrWord p off reason)) CTL_WERR_DATA w := by
  have hv : fbit (bump s CTL_WERR_CNT) CTL_WERR.VALID = false := by
    rw [← h]; unfold fbit; rw [fget_bump_ne s (by decide)]
  simp [logReject, hv, werrWord]

/-- A later one sets MORE. -/
theorem logReject_later {s : State} (h : fbit s CTL_WERR.VALID = true) (p off reason : Nat) (w : Word) :
    logReject s p off reason w = fset (bump s CTL_WERR_CNT) CTL_WERR.MORE 1 := by
  have hv : fbit (bump s CTL_WERR_CNT) CTL_WERR.VALID = true := by
    rw [← h]; unfold fbit; rw [fget_bump_ne s (by decide)]
  simp [logReject, hv]

/-- The fields of the recorded word do not overlap. -/
theorem werrWord_toNat {p off reason : Nat} (hp : p < 16) (ho : off < 2 ^ 26) (h8 : off % 8 = 0) (hr : reason < 16) :
    (werrWord p off reason).toNat = 2 ^ 63 + p * 2 ^ 52 + reason * 2 ^ 48 + off := by
  have hoff : off / 8 * 8 = off := by omega
  rw [werrWord, hoff, BitVec.toNat_ofNat, Nat.mod_eq_of_lt]
  omega

/-- Each field of the recorded word is what it was made of. -/
theorem werrWord_fields {p off reason : Nat} (hp : p < 16) (ho : off < 2 ^ 26) (h8 : off % 8 = 0) (hr : reason < 16) :
    wget (werrWord p off reason) CTL_WERR.VALID = 1 ∧ wget (werrWord p off reason) CTL_WERR.PATH = p ∧
      wget (werrWord p off reason) CTL_WERR.REASON = reason ∧ wget (werrWord p off reason) CTL_WERR.OFFSET = off := by
  simp only [wget, bits, werrWord_toNat hp ho h8 hr, CTL_WERR.VALID, CTL_WERR.PATH, CTL_WERR.REASON, CTL_WERR.OFFSET]
  refine ⟨?_, ?_, ?_, ?_⟩ <;> omega

/-- A rejected write touches the registers alone. -/
theorem logReject_regsOnly (s : State) (p off reason : Nat) (w : Word) : regsOnly s (logReject s p off reason w) := by
  cases h : fbit s CTL_WERR.VALID
  · rw [logReject_first h]
    exact ((regsOnly_bump s _).trans (regsOnly_setReg _ _ _)).trans (regsOnly_setReg _ _ _)
  · rw [logReject_later h]
    exact (regsOnly_bump s _).trans (regsOnly_fset _ _ _)

/-- Is it a register of the record of rejected writes? -/
def inWerr (r : Nat) : Bool := r == CTL_WERR || r == CTL_WERR_DATA || r == CTL_WERR_CNT

/-- Of the registers, a rejected write touches the record of rejected writes alone. -/
theorem logReject_regsBut (s : State) (p off reason : Nat) (w : Word) : regsBut inWerr s (logReject s p off reason w) := by
  cases h : fbit s CTL_WERR.VALID
  · rw [logReject_first h]
    exact ((regsBut_bump s rfl).trans (regsBut_setReg _ rfl _)).trans (regsBut_setReg _ rfl _)
  · rw [logReject_later h]
    exact (regsBut_bump s rfl).trans (regsBut_fset _ _ rfl _)

/-- A rejected write is counted. -/
theorem getReg_logReject_cnt (s : State) (p off reason : Nat) (w : Word) :
    getReg (logReject s p off reason w) CTL_WERR_CNT = getReg s CTL_WERR_CNT + 1 := by
  have hb : getReg (bump s CTL_WERR_CNT) CTL_WERR_CNT = getReg s CTL_WERR_CNT + 1 := by simp [getReg_bump]
  cases h : fbit s CTL_WERR.VALID
  · rw [logReject_first h, getReg_setReg_ne _ (by decide), getReg_setReg_ne _ (by decide), hb]
  · rw [logReject_later h, getReg_fset, if_neg (by decide), hb]

/-- What the record shows of the first rejected write. -/
theorem logReject_first_fields {s : State} (h : fbit s CTL_WERR.VALID = false) {p off reason : Nat} (w : Word) (hp : p < 16)
    (ho : off < 2 ^ 26) (h8 : off % 8 = 0) (hr : reason < 16) :
    fbit (logReject s p off reason w) CTL_WERR.VALID = true ∧ fget (logReject s p off reason w) CTL_WERR.REASON = reason ∧
      fget (logReject s p off reason w) CTL_WERR.PATH = p ∧ fget (logReject s p off reason w) CTL_WERR.OFFSET = off ∧
      getReg (logReject s p off reason w) CTL_WERR_DATA = w := by
  obtain ⟨hvalid, hpath, hreason, hoff⟩ := werrWord_fields hp ho h8 hr
  have hf : ∀ f : Fld, f.off = CTL_WERR → fget (logReject s p off reason w) f = wget (werrWord p off reason) f := by
    intro f hfo
    rw [logReject_first h, fget_setReg_ne _ _ (by rw [hfo]; decide), ← hfo, fget_setReg_same]
  refine ⟨?_, (hf _ rfl).trans hreason, (hf _ rfl).trans hpath, (hf _ rfl).trans hoff, ?_⟩
  · simp [fbit, hf CTL_WERR.VALID rfl, hvalid]
  · rw [logReject_first h, getReg_setReg_same]

/-- A later rejected write leaves the record of the first but for MORE. -/
theorem logReject_later_fields {s : State} (h : fbit s CTL_WERR.VALID = true) (p off reason : Nat) (w : Word) :
    fbit (logReject s p off reason w) CTL_WERR.MORE = true ∧
      getReg (logReject s p off reason w) CTL_WERR_DATA = getReg s CTL_WERR_DATA ∧
      fget (logReject s p off reason w) CTL_WERR.REASON = fget s CTL_WERR.REASON := by
  rw [logReject_later h]
  refine ⟨?_, ?_, ?_⟩
  · unfold fbit
    rw [fget_fset_same _ _ _ (by decide)]
    rfl
  · rw [getReg_fset, if_neg (by decide), getReg_bump, if_neg (by decide)]
  · rw [fget_fset_ne _ _ _ _ (by decide), fget_bump_ne _ (by decide)]

/-! Writes on a path (R5, R493). -/

theorem writeReason_le_seven (s : State) (p off : Nat) (w : Word) : writeReason s p off w ≤ 7 := by
  unfold writeReason
  split
  · exact le_rfl
  · split_ifs <;> omega

/-- A write that meets another path's lock has a REASON, that of the lock or a lower one. -/
theorem writeReason_of_locked {s : State} {p off : Nat} {w : Word} (h : lockedBad s p off w = true) :
    writeReason s p off w ≠ 0 := by
  unfold writeReason
  split
  · decide
  · rw [if_pos h]
    split_ifs <;> decide

/-- A write to which nothing of Table 21.7 applies is accepted. -/
theorem writeReason_of_clear {s : State} {p off : Nat} {w : Word} {d : RegDesc} (hd : regAt s off = some d)
    (hnamed : w &&& ~~~(BitVec.ofNat 64 d.named) = 0) (hrange : rangeBad s off w = false) (hrwl : d.rwl = 0)
    (hstate : stateBad s p off w = false) (hpath : pathBad p off w = false) (hlock : lockedBad s p off w = false)
    (hdie : regDieDown s off = false) : writeReason s p off w = 0 := by
  simp [writeReason, hd, hnamed, hrange, hrwl, hstate, hpath, hlock, hdie]

theorem putReg_of_accepted {s : State} {p off : Nat} {w : Word} (h : writeReason s p off w = 0) (e : Option (List Byte)) :
    putReg s p off w e = acceptWrite s p off w e := by
  simp [putReg, h]

theorem putReg_of_rejected {s : State} {p off : Nat} {w : Word} (h : writeReason s p off w ≠ 0) (e : Option (List Byte)) :
    putReg s p off w e = logReject s p off (writeReason s p off w) w := by
  unfold putReg
  split
  · next h0 => exact absurd h0 h
  · rfl

/-- On a live path a write of an aligned offset reaches its register. -/
theorem writeReg_of_live {s : State} {p off : Nat} (hl : pathLive s p = true) (h8 : off % 8 = 0) (w : Word) :
    writeReg s p off w = putReg s p off w none := by
  simp [writeReg, hl, h8]

/-- A write of a word on a live path answers what the register makes of it. -/
theorem writeWord_of_live {s : State} {p : Fin 13} {off : Nat} (hpow : s.sys.powered = true) (hl : pathLive s p.val = true)
    (h8 : off % 8 = 0) (w : Word) : writeWord p off w s = .next (putReg s p.val off w none) := by
  rw [writeWord, live_of_powered hpow, writeReg_of_live hl h8]

/-- What an accepted write rests on. -/
theorem accepts_iff {s : State} {p : Fin 13} {off : Nat} {w : Word} :
    accepts s p off w = true ↔
      s.sys.powered = true ∧ pathLive s p.val = true ∧ writeReason s p.val off w = 0 ∧ off % 8 = 0 ∧ testFree s = true := by
  simp [accepts, and_assoc]

/-- Where a register has no W1C bits, a write replaces its RW and RWL bits. -/
theorem storeFields_of_no_w1c {d : RegDesc} (h : d.w1c = 0) (old w : Word) :
    storeFields d old w =
      (old &&& ~~~(BitVec.ofNat 64 (d.rw ||| d.rwl))) ||| (w &&& BitVec.ofNat 64 (d.rw ||| d.rwl)) := by
  simp only [storeFields, h, BitVec.zero_and, BitVec.not_zero, BitVec.and_allOnes]

/-- A read of an aligned offset on a live path answers its value. -/
theorem readOff_of_live {s : State} {p : Fin 13} {off : Nat} (hpow : s.sys.powered = true) (hl : pathLive s p.val = true)
    (h8 : off % 8 = 0) :
    readOff p off s = .next (emit (readReg s p.val off).2 (.readData p.val off (readReg s p.val off).1)) := by
  rw [readOff, live_of_powered hpow]
  simp [readCmd, hl, h8]

/-! Self-tests. -/

/-- Where no self-test waits, runs or has just ended, none is swept. -/
theorem testSweep_of_free {s : State} (h : testFree s = true) : testSweep s = s := by
  unfold testFree at h
  rw [Bool.and_eq_true, Bool.not_eq_true', beq_iff_eq] at h
  obtain ⟨hact, hstart⟩ := h
  simp [testSweep, hact, hstart]

/-- Being free of self-tests depends on `CTL_TEST_STAT` and the tests' own times. -/
theorem testFree_congr {s t : State} (hreg : getReg t CTL_TEST_STAT = getReg s CTL_TEST_STAT) (htest : t.test = s.test) :
    testFree t = testFree s := by
  have hf : fget t CTL_TEST_STAT.STATE = fget s CTL_TEST_STAT.STATE := by
    unfold fget
    rw [show CTL_TEST_STAT.STATE.off = CTL_TEST_STAT from rfl, hreg]
  simp [testFree, testActive, hf, htest]

/-- A register but `CTL_TEST_STAT` has no part in it. -/
theorem testFree_setReg (s : State) {o : Nat} (h : CTL_TEST_STAT ≠ o) (v : Word) : testFree (setReg s o v) = testFree s :=
  testFree_congr (getReg_setReg_ne s h v) rfl

/-! Registers with no rule of their own: those below 0x400, the record of rejected writes and the locks among them. -/

theorem beq_of_low {off c : Nat} (h : off < 0x400) (hc : 0x400 ≤ c) : (off == c) = false :=
  beq_eq_false_iff_ne.2 (by omega)

theorem not_le_of_low {off c : Nat} (h : off < 0x400) (hc : 0x400 ≤ c) : decide (c ≤ off) = false :=
  decide_eq_false (by omega)

theorem inPortPage_of_low {off : Nat} (h : off < 0x400) : inPortPage off = false := by
  simp (disch := decide) only [inPortPage, not_le_of_low h, Bool.false_and]

/-- None of them has a field whose values are bounded. -/
theorem rangeBad_of_low {off : Nat} (h : off < 0x400) (s : State) (w : Word) : rangeBad s off w = false := by
  simp (disch := decide) only [rangeBad, coreRange, portRange, tmRange, bypRange, picRange, bobRange, memRange, tbRange,
    fltRange, bcRange, weaveRange, ctxRange, startRange, evtRange, hostRange, inPortPage_of_low h, inCtxPage, inSrc, inDq, inGcl,
    not_le_of_low h, beq_of_low h, Bool.false_and, Bool.false_or, Bool.false_eq_true, if_false]

/-- Nor has their write a state condition. -/
theorem stateBad_of_low {off : Nat} (h : off < 0x400) (s : State) (p : Nat) (w : Word) : stateBad s p off w = false := by
  simp (disch := decide) only [stateBad, coreState, portStateBad, tmState, bypState, picState, bobState, tbState, fltState,
    ctxStateBad, startState, hostState, inPortPage_of_low h, inDq, inEoi, inGcl, not_le_of_low h, beq_of_low h,
    Bool.false_and, Bool.false_or, Bool.false_eq_true, if_false]

/-- No path is refused them. -/
theorem pathBad_of_low {off : Nat} (h : off < 0x400) (p : Nat) (w : Word) : pathBad p off w = false := by
  simp (disch := decide) only [pathBad, hostPath, inEoi, inPortPage_of_low h, inCtxPage, not_le_of_low h, beq_of_low h,
    Bool.false_and, Bool.false_or, Bool.false_eq_true, if_false, Bool.and_false]

/-- They are held in CTL, not on a die that can be down. -/
theorem regDieDown_of_low {off : Nat} (h : off < 0x400) (s : State) : regDieDown s off = false := by
  have hd : regDie off = none := by
    simp (disch := decide) only [regDie, inPortPage_of_low h, not_le_of_low h, Bool.false_and, Bool.false_eq_true, if_false]
  rw [regDieDown, hd]

/-- What a write of one sets off is among the effects of `coreEffect`. -/
theorem regEffect_of_low {off : Nat} (h : off < 0x400) (old s : State) (p : Nat) (w : Word) (e : Option (List Byte)) :
    regEffect old s p off w e = coreEffect old s off w := by
  have hhost : ∀ t, hostEffect old t off w e = t := by
    intro t
    simp (disch := decide) only [hostEffect, inSrc, inEoi, inDq, not_le_of_low h, beq_of_low h, Bool.false_and, Bool.false_or,
      Bool.false_eq_true, if_false]
  have hstart : ∀ t, startEffect t off w = t := by
    intro t
    simp (disch := decide) only [startEffect, beq_of_low h, Bool.false_eq_true, if_false]
  rw [regEffect, if_pos (by omega), hhost, hstart]

end Sys2Proof.Machine
end

section
/-! SUPPORT. Locks and the chip number: they settle O60. -/

namespace Sys2Proof.Machine

open Claim

/-! Locks (R490). -/

/-- The row of the locks in the register table. -/
def lockRow : RegDesc := ⟨0x80, 8, 16, 0xF, 0x3F, 0x0, 0x0, 0x0, 0x20⟩

theorem findReg_lock : ∀ k : Fin 16, findReg (CTL_LOCK k) = some lockRow := by decide +kernel

theorem lock_low (k : Fin 16) : CTL_LOCK k < 0x400 := by
  unfold CTL_LOCK; omega

theorem lock_aligned (k : Nat) : CTL_LOCK k % 8 = 0 := by
  unfold CTL_LOCK; omega

theorem inLock_lock (k : Fin 16) : inLock (CTL_LOCK k) = true := by
  have := k.isLt
  unfold inLock CTL_LOCK
  rw [Bool.and_eq_true, decide_eq_true_eq, decide_eq_true_eq]
  omega

theorem lockNo_lock (k : Nat) : lockNo (CTL_LOCK k) = k := by
  simp [lockNo, CTL_LOCK]

theorem regAt_lock (s : State) (k : Fin 16) : regAt s (CTL_LOCK k) = some lockRow := by
  simp [regAt, inPortPage_of_low (lock_low k), findReg_lock]

/-- A read of a lock is the read that takes it. -/
theorem readReg_lock (s : State) (p : Nat) (k : Fin 16) : readReg s p (CTL_LOCK k) = lockRead s p k := by
  simp (disch := decide) only [readReg, beq_of_low (lock_low k), not_le_of_low (lock_low k), inLock_lock, lock_aligned, lockNo_lock,
    Bool.false_and, Bool.false_eq_true, if_false, beq_self_eq_true, Bool.and_self, if_true]

theorem lockRead_free {s : State} {k : Nat} (h : fget s (CTL_LOCK.HOLDER k) = 0xF) (p : Nat) :
    lockRead s p k = (BitVec.ofNat 64 (16 + p), fset s (CTL_LOCK.HOLDER k) p) := by
  simp [lockRead, h]

theorem lockRead_held {s : State} {k : Nat} (h : fget s (CTL_LOCK.HOLDER k) ≠ 0xF) (p : Nat) :
    lockRead s p k = (BitVec.ofNat 64 (fget s (CTL_LOCK.HOLDER k)), s) := by
  simp [lockRead, h]

/-- A holder is read back as it was set. -/
theorem holder_set (s : State) (k : Nat) {h : Nat} (hh : h < 16) : fget (fset s (CTL_LOCK.HOLDER k) h) (CTL_LOCK.HOLDER k) = h := by
  rw [fget_fset_same _ _ _ (show 0 + 4 ≤ 64 by decide)]
  exact Nat.mod_eq_of_lt hh

/-- Setting a holder touches its lock alone. -/
theorem holder_set_regsBut (s : State) (k h : Nat) : regsBut (fun o => o == CTL_LOCK k) s (fset s (CTL_LOCK.HOLDER k) h) :=
  regsBut_fset s _ (by simp [CTL_LOCK.HOLDER]) h

/-- The word that releases a lock. -/
def releaseWord : Word := 32

theorem releaseWord_release : wbit releaseWord (CTL_LOCK.RELEASE 0) = true := by decide

/-- A release is barred exactly where another path holds the lock. -/
theorem lockedBad_release (s : State) (p : Nat) (k : Fin 16) :
    lockedBad s p (CTL_LOCK k) releaseWord = (fget s (CTL_LOCK.HOLDER k) != p) := by
  simp [lockedBad, inLock_lock, lockNo_lock, releaseWord_release]

theorem writeReason_release {s : State} {p : Nat} {k : Fin 16} (h : fget s (CTL_LOCK.HOLDER k) = p) :
    writeReason s p (CTL_LOCK k) releaseWord = 0 :=
  writeReason_of_clear (regAt_lock s k) (by decide) (rangeBad_of_low (lock_low k) s _) rfl
    (stateBad_of_low (lock_low k) s p _) (pathBad_of_low (lock_low k) p _) (by simp [lockedBad_release, h])
    (regDieDown_of_low (lock_low k) s)

/-- A lock keeps nothing of a word written to it. -/
theorem storeFields_lock (old w : Word) : storeFields lockRow old w = old := by
  rw [storeFields_of_no_w1c rfl, show lockRow.rw ||| lockRow.rwl = 0 from rfl, BitVec.not_zero, BitVec.and_allOnes,
    BitVec.and_zero, BitVec.or_zero]

/-- An accepted release frees the lock. -/
theorem acceptWrite_release {s : State} (hfree : testFree s = true) (p : Nat) (k : Fin 16) (e : Option (List Byte)) :
    acceptWrite s p (CTL_LOCK k) releaseWord e =
      fset (setReg s (CTL_LOCK k) (getReg s (CTL_LOCK k))) (CTL_LOCK.HOLDER k) 0xF := by
  have hwerr : (CTL_LOCK k == CTL_WERR) = false :=
    beq_eq_false_iff_ne.2 (by unfold CTL_LOCK CTL_WERR; omega)
  have hcore : ∀ t, coreEffect s t (CTL_LOCK k) releaseWord = fset t (CTL_LOCK.HOLDER k) 0xF := by
    intro t
    simp (disch := decide) only [coreEffect, beq_of_low (lock_low k), not_le_of_low (lock_low k), hwerr, inLock_lock, lockNo_lock,
      releaseWord_release, Bool.false_and, Bool.false_eq_true, if_false, if_true]
  have htest : CTL_TEST_STAT ≠ CTL_LOCK k := by
    have := lock_low k
    have : 0x400 ≤ CTL_TEST_STAT := by decide
    omega
  rw [acceptWrite, regAt_lock]
  dsimp only
  rw [regEffect_of_low (lock_low k), hcore, storeFields_lock, testSweep_of_free]
  exact (testFree_setReg _ htest _).trans ((testFree_setReg _ htest _).trans hfree)

/-! The chip number (R368). -/

/-- The row of the chip number in the register table. -/
def chipSelRow : RegDesc := ⟨FLT_CHIP_SEL, 8, 1, 0x0, 0xFFFFF, 0xFFFFF, 0x0, 0x0, 0x0⟩

theorem findReg_chipSel : findReg FLT_CHIP_SEL = some chipSelRow := by decide +kernel

theorem regAt_chipSel (s : State) : regAt s FLT_CHIP_SEL = some chipSelRow := by
  rw [regAt, if_neg (by simp [show inPortPage FLT_CHIP_SEL = false by decide]), findReg_chipSel]

/-- A write of the chip number sets nothing off. -/
theorem regEffect_chipSel (old s : State) (p : Nat) (w : Word) (e : Option (List Byte)) :
    regEffect old s p FLT_CHIP_SEL w e = s := rfl

/-- A write of it replaces the number and leaves the reserved bits. -/
theorem storeFields_chipSel (old w : Word) : storeFields chipSelRow old w = putBits old 0 20 w.toNat := by
  have hw : w &&& BitVec.ofNat 64 (2 ^ 20 - 1) = BitVec.ofNat 64 (w.toNat % 2 ^ 20) := by
    rw [← Nat.and_two_pow_sub_one_eq_mod, BitVec.ofNat_and, BitVec.ofNat_toNat, BitVec.setWidth_eq]
  rw [storeFields_of_no_w1c rfl, show chipSelRow.rw ||| chipSelRow.rwl = 2 ^ 20 - 1 from rfl, hw]
  simp only [putBits, BitVec.shiftLeft_zero]

/-- The number then reads as written. -/
theorem wget_storeFields_chipSel (old w : Word) :
    wget (storeFields chipSelRow old w) FLT_CHIP_SEL.CHIP = wget w FLT_CHIP_SEL.CHIP := by
  have hsame : bits (putBits old 0 20 w.toNat).toNat 0 20 = w.toNat % 2 ^ 20 := bits_putBits_same old 0 20 _ (by decide)
  rw [storeFields_chipSel]
  simpa [wget, bits, FLT_CHIP_SEL.CHIP] using hsame

/-- An accepted write of the chip number stores it and does nothing else. -/
theorem acceptWrite_chipSel {s : State} (hfree : testFree s = true) (p : Nat) (w : Word) (e : Option (List Byte)) :
    acceptWrite s p FLT_CHIP_SEL w e = setReg s FLT_CHIP_SEL (storeFields chipSelRow (getReg s FLT_CHIP_SEL) w) := by
  rw [acceptWrite, regAt_chipSel]
  dsimp only
  rw [regEffect_chipSel, testSweep_of_free]
  exact (testFree_setReg _ (by decide) _).trans hfree

/-- Settles O60: a lock is read through `lockRead` and freed by the one effect of an accepted release, a rejected write is
`logReject`, and the chip number has no effect beside its own register. -/
theorem registerWrites : Obligations.RegisterWrites := by
  unfold Obligations.RegisterWrites
  refine ⟨fun p k s hpow hl hfree => ?_, fun p k s hpow hl hheld => ?_, fun p k s hpow hl htest hown => ?_,
    fun p k s hpow hl hother => ?_, fun p o v s hpow hl h8 hr => ?_, fun p v s hacc => ?_⟩
  · refine ⟨_, readOff_of_live hpow hl (lock_aligned k), ?_⟩
    rw [readReg_lock, lockRead_free hfree]
    exact ⟨holder_set s k (by omega), rfl, holder_set_regsBut s k p, rfl⟩
  · refine ⟨_, readOff_of_live hpow hl (lock_aligned k), ?_⟩
    rw [readReg_lock, lockRead_held hheld]
    rfl
  · refine ⟨_, writeWord_of_live hpow hl (lock_aligned k) releaseWord, ?_⟩
    rw [putReg_of_accepted (writeReason_release hown), acceptWrite_release htest]
    exact ⟨holder_set _ k (by decide), (regsBut_setReg s (by simp) _).trans (holder_set_regsBut _ k _), rfl⟩
  · have hr : writeReason s p.val (CTL_LOCK k) releaseWord ≠ 0 :=
      writeReason_of_locked (by simp [lockedBad_release, hother])
    refine ⟨_, writeWord_of_live hpow hl (lock_aligned k) releaseWord, ?_⟩
    rw [putReg_of_rejected hr]
    exact ⟨getReg_logReject_cnt _ _ _ _ _, logReject_regsBut _ _ _ _ _, logReject_regsOnly _ _ _ _ _⟩
  · refine ⟨_, writeWord_of_live hpow hl h8 v, ?_⟩
    rw [putReg_of_rejected hr]
    have hle := writeReason_le_seven s p.val o.toNat v
    exact ⟨getReg_logReject_cnt _ _ _ _ _,
      fun hv => logReject_first_fields hv v (by omega) o.isLt h8 (by omega),
      fun hv => logReject_later_fields hv _ _ _ _, logReject_regsBut _ _ _ _ _, logReject_regsOnly _ _ _ _ _⟩
  · obtain ⟨hpow, hl, hr, h8, htest⟩ := accepts_iff.1 hacc
    refine ⟨_, writeWord_of_live hpow hl h8 v, ?_⟩
    rw [putReg_of_accepted (e := none) hr, acceptWrite_chipSel htest]
    exact ⟨(fget_setReg_same s FLT_CHIP_SEL.CHIP _).trans (wget_storeFields_chipSel _ v), regsBut_setReg s (by simp) _, rfl⟩

end Sys2Proof.Machine
end

section
/-! SUPPORT. What the loss of a port's queued traffic leaves: every field of the state but the ports', the switch core's, the
traffic manager's and the bobbins', and every register but those that count it. -/

namespace Sys2Proof.Machine

open Claim

/-! Registers that lost traffic touches. -/

/-- Registers that the loss of queued traffic may touch: those that signal, those of the port pages, the counters of contexts, the
frames sent by regions, and the suppressed multicast copies. -/
def lossReg (o : Nat) : Bool :=
  signalReg o || inPortPage o || inCtxCount o || (BOB_SEND 0 ≤ o && o < BOB_SEND 64) || o == SWC_MC_SUPP

theorem lossReg_of_signal {o : Nat} (h : signalReg o = true) : lossReg o = true := by simp [lossReg, h]

/-- A register of a port's page is one of them. -/
theorem lossReg_port {L c : Nat} (hL : L < 1024) (hc : c < 0x1000) : lossReg (portPage L + c) = true := by
  have hpage : inPortPage (portPage L + c) = true := by
    unfold inPortPage portPage
    rw [Bool.and_eq_true, decide_eq_true_eq, decide_eq_true_eq]
    omega
  simp [lossReg, hpage]

theorem lossReg_ctx {x i : Nat} (hx : x < 1024) (hi : i < 64) : lossReg (PMC_CTXPAGE x i) = true := by
  have hctx : inCtxCount (PMC_CTXPAGE x i) = true := by
    unfold inCtxCount PMC_CTXPAGE
    rw [Bool.and_eq_true, decide_eq_true_eq, decide_eq_true_eq]
    omega
  simp [lossReg, hctx]

theorem lossReg_send {r : Nat} (hr : r < 64) : lossReg (BOB_SEND r) = true := by
  have hsend : (decide (BOB_SEND 0 ≤ BOB_SEND r) && decide (BOB_SEND r < BOB_SEND 64)) = true := by
    unfold BOB_SEND
    rw [Bool.and_eq_true, decide_eq_true_eq, decide_eq_true_eq]
    omega
  simp [lossReg, hsend]

/-! The relation. -/

/-- From `s` to `t` queued traffic was lost, and nothing else happened. -/
def TrafficLoss (s t : State) : Prop :=
  t = { s with regs := t.regs, ports := t.ports, core := t.core, tm := t.tm, bob := t.bob, host := t.host, evr := t.evr,
               out := t.out } ∧
    regsBut lossReg s t

theorem TrafficLoss.refl (s : State) : TrafficLoss s s := ⟨rfl, regsBut.refl _ s⟩

theorem TrafficLoss.trans {s t u : State} (h : TrafficLoss s t) (k : TrafficLoss t u) : TrafficLoss s u := by
  obtain ⟨hst, hregs⟩ := h
  obtain ⟨ktu, kregs⟩ := k
  refine ⟨?_, hregs.trans kregs⟩
  rw [ktu, hst]

theorem TrafficLoss.ite {c : Prop} [Decidable c] {s a b : State} (ha : c → TrafficLoss s a) (hb : ¬ c → TrafficLoss s b) :
    TrafficLoss s (if c then a else b) := by
  split
  · next h => exact ha h
  · next h => exact hb h

theorem TrafficLoss.forEach {β : Type} {l : List β} {f : State → β → State} (hf : ∀ s, ∀ a ∈ l, TrafficLoss s (f s a))
    (s : State) : TrafficLoss s (forEach l s f) :=
  forEach_keeps (P := TrafficLoss s) (fun t a ha h => h.trans (hf t a ha)) (TrafficLoss.refl s)

theorem TrafficLoss.forRange {n : Nat} {f : State → Nat → State} (hf : ∀ s, ∀ i < n, TrafficLoss s (f s i)) (s : State) :
    TrafficLoss s (forRange n s f) :=
  TrafficLoss.forEach (fun s i hi => hf s i (List.mem_range.1 hi)) s

theorem TrafficLoss.setReg (s : State) {o : Nat} (ho : lossReg o = true) (v : Word) : TrafficLoss s (setReg s o v) :=
  ⟨rfl, regsBut_setReg s ho v⟩

theorem TrafficLoss.bump (s : State) {o : Nat} (ho : lossReg o = true) : TrafficLoss s (bump s o) := TrafficLoss.setReg s ho _

theorem TrafficLoss.setPort (s : State) (L : Nat) (f : PortSt → PortSt) : TrafficLoss s (setPort s L f) :=
  ⟨rfl, fun _ _ => rfl⟩

theorem TrafficLoss.setCore (s : State) (f : CoreSt → CoreSt) : TrafficLoss s (setCore s f) := ⟨rfl, fun _ _ => rfl⟩

theorem TrafficLoss.setTm (s : State) (f : TmSt → TmSt) : TrafficLoss s (setTm s f) := ⟨rfl, fun _ _ => rfl⟩

theorem TrafficLoss.setBob (s : State) (f : BobSt → BobSt) : TrafficLoss s (setBob s f) := ⟨rfl, fun _ _ => rfl⟩

/-- What only signals loses nothing more. -/
theorem TrafficLoss.of_signals {s t : State} (h : Signals s t) : TrafficLoss s t := by
  obtain ⟨hst, hregs, -⟩ := h
  refine ⟨?_, fun o ho => hregs o ?_⟩
  · rw [hst]
  · cases hs : signalReg o
    · rfl
    · simp [lossReg_of_signal hs] at ho

/-! Frames. -/

theorem ctxBump_loss (s : State) (x n : Nat) {i : Nat} (hi : i < 64) : TrafficLoss s (ctxBump s x i n) :=
  TrafficLoss.ite (fun hx => TrafficLoss.setReg s (lossReg_ctx hx hi) _) fun _ => TrafficLoss.refl s

theorem creditReturn_loss (s : State) (f : Frame) : TrafficLoss s (creditReturn s f) := by
  unfold creditReturn
  refine TrafficLoss.ite (fun _ => TrafficLoss.refl s) fun _ => TrafficLoss.ite (fun _ => TrafficLoss.refl s) fun _ => ?_
  exact TrafficLoss.ite (fun _ => TrafficLoss.setPort s _ _) fun _ => TrafficLoss.setPort s _ _

theorem releaseCharge_loss (s : State) (f : Frame) : TrafficLoss s (releaseCharge s f) := by
  unfold releaseCharge
  refine TrafficLoss.ite (fun _ => TrafficLoss.refl s) fun _ => ?_
  exact TrafficLoss.ite (fun _ => TrafficLoss.setCore s _) fun _ => (TrafficLoss.setCore s _).trans (creditReturn_loss _ f)

theorem sendCrossed_loss (s : State) (f : Frame) : TrafficLoss s (sendCrossed s f) := by
  unfold sendCrossed
  split
  · exact TrafficLoss.refl s
  · exact TrafficLoss.setBob s _

theorem frameCrossed_loss (s : State) (f : Frame) : TrafficLoss s (frameCrossed s f) := by
  unfold frameCrossed
  split
  · exact releaseCharge_loss s f
  · exact (TrafficLoss.ite (fun hr => TrafficLoss.bump s (lossReg_send hr)) fun _ => TrafficLoss.refl s).trans
      (sendCrossed_loss _ f)

theorem copyDrop_loss (s : State) (f : Frame) : TrafficLoss s (copyDrop s f) := ctxBump_loss s _ _ (by decide)

theorem ctxDrop_loss (s : State) (f : Frame) : TrafficLoss s (ctxDrop s f) :=
  (copyDrop_loss s f).trans (sendCrossed_loss _ f)

theorem lostAt_loss (s : State) (f : Frame) : TrafficLoss s (lostAt s f) :=
  TrafficLoss.ite (fun _ => copyDrop_loss s f) fun _ => ctxDrop_loss s f

theorem discardFrame_loss (s : State) (f : Frame) : TrafficLoss s (discardFrame s f) :=
  (ctxDrop_loss s f).trans (releaseCharge_loss _ f)

theorem countDiscard_loss (s : State) {L : Nat} (hL : L < 1024) : TrafficLoss s (countDiscard s L) :=
  TrafficLoss.ite (fun _ => TrafficLoss.setPort s _ _) fun _ => TrafficLoss.bump s (lossReg_port hL (by decide))

theorem suppress_loss (s : State) {L : Nat} (hL : L < 1024) (f : Frame) : TrafficLoss s (suppress s L f) := by
  have hcount : TrafficLoss s (bump (bump s (PRT_MC_SUPP L)) SWC_MC_SUPP) :=
    (TrafficLoss.bump s (lossReg_port hL (by decide))).trans (TrafficLoss.bump _ (by decide))
  exact TrafficLoss.ite (fun _ => hcount.trans (TrafficLoss.setCore _ _)) fun _ => hcount

theorem egrRelease_loss (s : State) (L c : Nat) (f : Frame) : TrafficLoss s (egrRelease s L c f) := TrafficLoss.setCore s _

theorem giveUp_loss (s : State) (o : Nat) (f : Frame) : TrafficLoss s (giveUp s o f) := by
  unfold giveUp
  exact (TrafficLoss.ite (fun _ => egrRelease_loss s o f.chan f) fun _ => TrafficLoss.refl s).trans (TrafficLoss.setCore _ _)

/-! Queues. -/

theorem mcFree_loss (s : State) (m : Nat) : TrafficLoss s (mcFree s m) := by
  unfold mcFree
  exact TrafficLoss.ite (fun _ => (TrafficLoss.setCore s _).trans (frameCrossed_loss _ _)) fun _ => TrafficLoss.refl s

theorem mcUnref_loss (s : State) (m : Nat) : TrafficLoss s (mcUnref s m) := (TrafficLoss.setCore s _).trans (mcFree_loss _ m)

theorem voqErase_loss (s : State) (k n : Nat) (e : QEnt) : TrafficLoss s (voqErase s k n e) := by
  unfold voqErase trimVoq setVoq
  exact (TrafficLoss.setCore s _).trans (TrafficLoss.setCore _ _)

theorem discardEnt_loss (s : State) {o : Nat} (ho : o < 1024) (e : QEnt) : TrafficLoss s (discardEnt s o e) := by
  cases e with
  | frame f =>
    exact (TrafficLoss.ite (fun _ => countDiscard_loss s ho) fun _ => TrafficLoss.refl s).trans (discardFrame_loss _ f)
  | ref m b =>
    refine TrafficLoss.trans ?_ (mcUnref_loss _ m)
    exact TrafficLoss.ite (fun _ => suppress_loss s ho _) fun _ =>
      (TrafficLoss.bump s (lossReg_port ho (by decide))).trans (copyDrop_loss _ _)

theorem discardEnts_loss (s : State) {k : Nat} (hk : voqOut k < 1024) (p : QEnt → Bool) : TrafficLoss s (discardEnts s k p) :=
  ((TrafficLoss.forEach (fun s _ _ => TrafficLoss.ite (fun _ => giveUp_loss s _ _) fun _ => TrafficLoss.refl s) s).trans
    (TrafficLoss.forEach (fun s _ _ => voqErase_loss s _ _ _) _)).trans
    (TrafficLoss.forEach (fun s _ _ => discardEnt_loss s hk _) _)

/-- The queue of a port's channel is that port's. -/
theorem voqOut_voqKey {d L c : Nat} (hd : d < 4) (hL : L < 1024) (hc : c < 16) : voqOut (voqKey d L c) = L := by
  unfold voqKey
  rw [if_pos hL, voqOut, if_pos (by omega)]
  omega

theorem noDeficit_loss (s : State) (k : Nat) : TrafficLoss s (noDeficit s k) :=
  TrafficLoss.ite (fun _ => TrafficLoss.refl s) fun _ => TrafficLoss.setTm s _

theorem emptied_loss (s : State) (L c sub : Nat) : TrafficLoss s (emptied s L c sub) := by
  unfold emptied
  refine TrafficLoss.ite (fun _ => TrafficLoss.refl s) fun _ => ?_
  have hturn : ∀ (u : State) (b : Bool) (f : TmSt → TmSt), TrafficLoss u (if b then setTm u f else u) :=
    fun u b f => TrafficLoss.ite (fun _ => TrafficLoss.setTm u f) fun _ => TrafficLoss.refl u
  have hqueue : ∀ (b : Bool) (f : TmSt → TmSt),
      TrafficLoss s (if b then setTm (noDeficit s (nodeKey 2 L c sub)) f else noDeficit s (nodeKey 2 L c sub)) :=
    fun b f => (noDeficit_loss s _).trans (hturn _ b f)
  exact TrafficLoss.ite (fun _ => hqueue _ _) fun _ => (hqueue _ _).trans ((noDeficit_loss _ _).trans (hturn _ _ _))

theorem egrDiscard_loss (s : State) {L : Nat} (hL : L < 1024) (c : Nat) (f : Frame) : TrafficLoss s (egrDiscard s L c f) :=
  (egrRelease_loss s L c f).trans
    (TrafficLoss.ite (fun _ => suppress_loss _ hL f) fun _ => (countDiscard_loss _ hL).trans (lostAt_loss _ f))

/-! Ports. -/

theorem discardEgress_loss (s : State) {L : Nat} (hL : L < 1024) (p : Nat → Bool) : TrafficLoss s (discardEgress s L p) := by
  refine TrafficLoss.forRange (fun s c _ => ?_) s
  refine TrafficLoss.ite (fun _ => ?_) fun _ => TrafficLoss.refl s
  refine TrafficLoss.forRange (fun s sub _ => ?_) s
  refine TrafficLoss.ite (fun _ => TrafficLoss.refl s) fun _ => ?_
  exact ((TrafficLoss.setCore s _).trans (emptied_loss _ _ _ _)).trans
    (TrafficLoss.forEach (fun s _ _ => egrDiscard_loss s hL _ _) _)

/-- Discards from the queues of a port, on every die and channel. -/
theorem forRange_discardEnts_loss (s : State) {L : Nat} (hL : L < 1024) (p : Nat → QEnt → Bool) :
    TrafficLoss s (forRange 4 s fun s d => forRange 16 s fun s c =>
      if (voq s (voqKey d L c)).ents.isEmpty then s else discardEnts s (voqKey d L c) (p c)) := by
  refine TrafficLoss.forRange (fun s d hd => TrafficLoss.forRange (fun s c hc => ?_) s) s
  refine TrafficLoss.ite (fun _ => TrafficLoss.refl s) fun _ => discardEnts_loss s ?_ _
  rw [voqOut_voqKey hd hL hc]
  exact hL

theorem discardPort_loss (s : State) {L : Nat} (hL : L < 1024) : TrafficLoss s (discardPort s L) :=
  (forRange_discardEnts_loss s hL fun _ _ => true).trans (discardEgress_loss _ hL _)

theorem discardQuar_loss (s : State) {L : Nat} (hL : L < 1024) : TrafficLoss s (discardQuar s L) :=
  (forRange_discardEnts_loss s hL _).trans (discardEgress_loss _ hL _)

/-- A port brought to what it shows. -/
theorem portRefresh_loss (s : State) {L : Nat} (hL : L < 1024) : TrafficLoss s (portRefresh s L) := by
  unfold portRefresh
  refine TrafficLoss.ite (fun _ => TrafficLoss.refl s) fun _ => ?_
  refine TrafficLoss.trans ?_ (TrafficLoss.of_signals (ring_signals _ (by omega)))
  refine TrafficLoss.trans ?_ (TrafficLoss.ite (fun _ => discardPort_loss _ hL) fun _ =>
    TrafficLoss.ite (fun _ => discardQuar_loss _ hL) fun _ => TrafficLoss.refl _)
  refine TrafficLoss.trans ?_ (TrafficLoss.ite (fun _ => TrafficLoss.setPort _ _ _) fun _ => TrafficLoss.refl _)
  refine TrafficLoss.trans ?_ (TrafficLoss.ite (fun _ => TrafficLoss.bump _ (lossReg_port hL (by decide))) fun _ => TrafficLoss.refl _)
  exact TrafficLoss.setReg s (lossReg_port hL (by decide)) _

/-- A port gone DOWN. -/
theorem setUnder_down_loss (s : State) {L : Nat} (hL : L < 1024) : TrafficLoss s (setUnder s L pDOWN) :=
  (TrafficLoss.setPort s L _).trans (portRefresh_loss _ hL)

/-- The ports of a fibre brought to what they show. -/
theorem fibrePorts_loss (s : State) {F : Nat} (hF : F < 128) : TrafficLoss s (fibrePorts s F) := by
  refine TrafficLoss.forRange (fun s W hW => ?_) s
  have hL : 8 * F + W < 1024 := by omega
  exact TrafficLoss.ite (fun _ => TrafficLoss.refl s) fun _ =>
    TrafficLoss.ite (fun _ => setUnder_down_loss s hL) fun _ => portRefresh_loss s hL

end Sys2Proof.Machine
end

section
/-! SUPPORT. What an event does to the counters of events: it counts once, and its recording counts nothing. -/

namespace Sys2Proof.Machine

open Claim

/-- Registers that the recording of an event may touch: lost records, merged doorbells and interrupt sources. -/
def recordReg (o : Nat) : Bool := o == EVR_LOST || o == IC_MERGED || inSrc o

/-- What leaves the register file alone leaves every register. -/
theorem regsBut_of_regs_eq {own : Nat → Bool} {s t : State} (h : t.regs = s.regs) : regsBut own s t :=
  fun o _ => getReg_congr h o

theorem regsBut_ite {own : Nat → Bool} {c : Prop} [Decidable c] {s a b : State} (ha : regsBut own s a) (hb : regsBut own s b) :
    regsBut own s (if c then a else b) := by split <;> assumption

theorem icEval_regsBut (own : Nat → Bool) (s : State) : regsBut own s (icEval s) := by
  have hsend : ∀ u v, regsBut own u (msixSend u v) := fun u v => regsBut_ite (regsBut_of_regs_eq rfl) (regsBut_of_regs_eq rfl)
  refine forRange_keeps (P := regsBut own s) (fun u t _ h => h.trans ?_) (regsBut.refl own s)
  unfold icEvalOne
  dsimp only
  refine regsBut_ite (regsBut_of_regs_eq rfl) (regsBut_ite (regsBut_of_regs_eq rfl) ?_)
  exact regsBut_ite ((regsBut_of_regs_eq rfl).trans (hsend _ _)) (regsBut_of_regs_eq rfl)

/-- A doorbell touches its source or the count of merged doorbells. -/
theorem ring_regsBut (s : State) {src : Nat} (h : src < 4096) : regsBut recordReg s (ring s src) := by
  have hsrc : recordReg (IC_SRC.STATE src).off = true := by
    have hin : inSrc (IC_SRC src) = true := by
      unfold inSrc IC_SRC
      rw [Bool.and_eq_true, decide_eq_true_eq, decide_eq_true_eq]
      omega
    simp [recordReg, show (IC_SRC.STATE src).off = IC_SRC src from rfl, hin]
  have hset : ∀ v, regsBut recordReg s (icEval (fset s (IC_SRC.STATE src) v)) :=
    fun v => (regsBut_fset s _ hsrc v).trans (icEval_regsBut _ _)
  unfold ring
  split
  · exact hset 1
  · exact hset 3
  · exact regsBut_bump s rfl

theorem notifyAll_regsBut (own : Nat → Bool) (s : State) (r : Rec) : regsBut own s (notifyAll s r) := by
  have hnotify : ∀ u k, regsBut own u (notify u k r) := fun u k =>
    regsBut_ite (regsBut_of_regs_eq rfl) (regsBut_ite (regsBut.refl own u) (regsBut_of_regs_eq rfl))
  exact forEach_keeps (P := regsBut own s) (fun u k _ h => h.trans (regsBut_ite (hnotify u k) (regsBut.refl own u)))
    (regsBut.refl own s)

theorem evrWatermark_regsBut (s : State) : regsBut recordReg s (evrWatermark s) := by
  unfold evrWatermark
  dsimp only
  exact regsBut_ite ((regsBut_of_regs_eq rfl).trans (ring_regsBut _ (by decide))) (regsBut_of_regs_eq rfl)

theorem evrOffer_regsBut (s : State) (r : Rec) : regsBut recordReg s (evrOffer s r) := by
  have hrec : ∀ f, regsBut recordReg s (setEvr s f) := fun f => regsBut_of_regs_eq rfl
  unfold evrOffer evrTake
  exact regsBut_ite ((hrec _).trans (regsBut_bump _ rfl))
    (((hrec _).trans (notifyAll_regsBut _ _ _)).trans (evrWatermark_regsBut _))

theorem recordReg_evt {i : Nat} (h : i < 0x1080) : recordReg (PMC_EVT i) = false := by
  have hlost : PMC_EVT i ≠ EVR_LOST := by unfold PMC_EVT EVR_LOST; omega
  have hmerged : PMC_EVT i ≠ IC_MERGED := by unfold PMC_EVT IC_MERGED; omega
  have hsrc : inSrc (PMC_EVT i) = false := by
    unfold inSrc PMC_EVT
    rw [Bool.and_eq_false_iff, decide_eq_false_iff_not, decide_eq_false_iff_not]
    omega
  simp [recordReg, hlost, hmerged, hsrc]

/-- An event is counted once. -/
theorem getReg_event_count (s : State) {block code : Nat} (h : 256 * block + code < 0x1080) (sev die ctx unit : Nat)
    (data : List Byte) :
    getReg (event s block code sev die ctx unit data) (PMC_EVT (256 * block + code)) =
      getReg s (PMC_EVT (256 * block + code)) + 1 := by
  rw [event, evrOffer_regsBut _ _ _ (recordReg_evt h), getReg_bump, if_pos rfl]

end Sys2Proof.Machine
end

section
/-! SUPPORT. Start-up, straps and the latch: they settle O7. -/

namespace Sys2Proof.Machine

open Claim

/-! Registers and fields. -/

theorem regsBut.mono {own own' : Nat → Bool} {s t : State} (h : regsBut own s t) (hown : ∀ o, own o = true → own' o = true) :
    regsBut own' s t := by
  intro o ho
  refine h o ?_
  cases hc : own o
  · rfl
  · simp [hown o hc] at ho

/-- From `s` to `t` the registers of `own` were written, and nothing else happened. -/
def OnlyRegs (own : Nat → Bool) (s t : State) : Prop := regsOnly s t ∧ regsBut own s t

theorem OnlyRegs.refl (own : Nat → Bool) (s : State) : OnlyRegs own s s := ⟨rfl, regsBut.refl own s⟩

theorem OnlyRegs.trans {own : Nat → Bool} {s t u : State} (h : OnlyRegs own s t) (k : OnlyRegs own t u) : OnlyRegs own s u :=
  ⟨h.1.trans k.1, h.2.trans k.2⟩

theorem OnlyRegs.fset {own : Nat → Bool} (s : State) {f : Fld} (hf : own f.off = true) (v : Nat) : OnlyRegs own s (fset s f v) :=
  ⟨rfl, regsBut_fset s f hf v⟩

theorem OnlyRegs.ite {own : Nat → Bool} {c : Prop} [Decidable c] {s a b : State} (ha : OnlyRegs own s a)
    (hb : OnlyRegs own s b) : OnlyRegs own s (if c then a else b) := by split <;> assumption

theorem OnlyRegs.forRange {own : Nat → Bool} {n : Nat} {f : State → Nat → State} (hf : ∀ s, ∀ i < n, OnlyRegs own s (f s i))
    (s : State) : OnlyRegs own s (forRange n s f) :=
  forRange_keeps (P := OnlyRegs own s) (fun t i hi h => h.trans (hf t i hi)) (OnlyRegs.refl own s)

/-- A field depends on its own register alone. -/
theorem fget_of_getReg_eq {s t : State} {f : Fld} (h : getReg t f.off = getReg s f.off) : fget t f = fget s f := by
  simp [fget, h]

theorem forRange_succ (n : Nat) (s : State) (f : State → Nat → State) : forRange (n + 1) s f = f (forRange n s f) n := by
  simp [forRange, List.range_succ]

/-! Lasers (R96, R105). -/

/-- Is it a register of the lasers, or of the lanes and fibres they light? -/
def opticsReg (o : Nat) : Bool := 0x1400000 ≤ o && o < 0x1408500

theorem opticsReg_fibre {F : Nat} (hF : F < 128) : opticsReg (OPT_FIBRE F) = true := by
  unfold opticsReg OPT_FIBRE
  rw [Bool.and_eq_true, decide_eq_true_eq, decide_eq_true_eq]
  omega

theorem opticsReg_lane {l : Nat} (hl : l < 1024) : opticsReg (OPT_LANE l) = true := by
  unfold opticsReg OPT_LANE
  rw [Bool.and_eq_true, decide_eq_true_eq, decide_eq_true_eq]
  omega

/-- Is it the register of a laser? -/
def laserReg (o : Nat) : Bool := 0x1408000 ≤ o && o < 0x1408500

theorem laserReg_laser {i : Nat} (hi : i < 160) : laserReg (LAS_STAT i) = true := by
  unfold laserReg LAS_STAT
  rw [Bool.and_eq_true, decide_eq_true_eq, decide_eq_true_eq]
  omega

theorem opticsReg_of_laser {o : Nat} (h : laserReg o = true) : opticsReg o = true := by
  unfold laserReg at h
  unfold opticsReg
  rw [Bool.and_eq_true, decide_eq_true_eq, decide_eq_true_eq] at *
  omega

/-- From `s` to `t` the lasers and the SOAs went on, or off, the banks may have changed, registers of `own` were written, and
nothing else happened. -/
def LasersSwitched (own : Nat → Bool) (on : Bool) (s t : State) : Prop :=
  t = { s with regs := t.regs, banks := t.banks, sys := { s.sys with lasersOn := on }, byp := { s.byp with soaOn := on } } ∧
    regsBut own s t

theorem LasersSwitched.of_regs {own : Nat → Bool} {s u : State} (h : OnlyRegs own s u) (on : Bool) :
    LasersSwitched own on s (setByp (setSys u fun y => { y with lasersOn := on }) fun b => { b with soaOn := on }) := by
  obtain ⟨hst, hregs⟩ := h
  refine ⟨?_, hregs⟩
  rw [hst]
  rfl

theorem LasersSwitched.clearBanks {own : Nat → Bool} {on : Bool} {s t : State} (h : LasersSwitched own on s t) :
    LasersSwitched own on s { t with banks := [] } := by
  obtain ⟨hst, hregs⟩ := h
  refine ⟨?_, hregs⟩
  rw [hst]

/-- LASERS_POWERED writes registers of the optics. -/
theorem lasersOn_switched (s : State) : LasersSwitched opticsReg true s (lasersOn s) := by
  unfold lasersOn
  refine LasersSwitched.of_regs (OnlyRegs.trans (OnlyRegs.forRange (fun t i hi => ?_) s)
    (OnlyRegs.forRange (fun t l hl => ?_) _)) true
  · have hlas := opticsReg_of_laser (laserReg_laser hi)
    exact (OnlyRegs.fset t (f := LAS_STAT.W i) hlas _).trans (OnlyRegs.fset _ (f := LAS_STAT.STATE i) hlas _)
  · have hlane := opticsReg_lane hl
    exact (OnlyRegs.fset t (f := OPT_LANE.SOURCE l) hlane _).trans (OnlyRegs.fset _ (f := OPT_LANE.NOLASER l) hlane _)

/-- Turning the lasers off writes the lasers' registers. -/
theorem lasersOff_switched (s : State) : LasersSwitched laserReg false s (lasersOff s) := by
  unfold lasersOff
  refine (LasersSwitched.of_regs (OnlyRegs.forRange (fun t i hi => ?_) s) false).clearBanks
  have hlas := laserReg_laser hi
  have hspare : ∀ c : Bool, OnlyRegs laserReg t (if c then fset t (LAS_STAT.W i) 0xF else t) :=
    fun c => OnlyRegs.ite (OnlyRegs.fset t hlas _) (OnlyRegs.refl _ t)
  exact OnlyRegs.ite (hspare _) (((hspare _).trans (OnlyRegs.fset _ (f := LAS_STAT.STATE i) hlas _)).trans
    (OnlyRegs.fset _ (f := LAS_STAT.REL_PWR i) hlas _))

/-! Fibre gates (R102 to R106). -/

/-- Registers that opening and closing gates may touch. -/
def gateReg (o : Nat) : Bool := lossReg o || opticsReg o

/-- From `s` to `t` fibre gates opened or closed, traffic was lost, and nothing else happened. -/
def GateWork (s t : State) : Prop :=
  t = { s with regs := t.regs, free := t.free, fibres := t.fibres, ports := t.ports, core := t.core, tm := t.tm, bob := t.bob,
               host := t.host, evr := t.evr, out := t.out } ∧
    regsBut gateReg s t

theorem gateReg_status : gateReg PRK_STATUS = false := by decide +kernel

theorem GateWork.refl (s : State) : GateWork s s := ⟨rfl, regsBut.refl _ s⟩

theorem GateWork.trans {s t u : State} (h : GateWork s t) (k : GateWork t u) : GateWork s u := by
  obtain ⟨hst, hregs⟩ := h
  obtain ⟨ktu, kregs⟩ := k
  refine ⟨?_, hregs.trans kregs⟩
  rw [ktu, hst]

theorem GateWork.forRange {n : Nat} {f : State → Nat → State} (hf : ∀ s, ∀ i < n, GateWork s (f s i)) (s : State) :
    GateWork s (forRange n s f) :=
  forRange_keeps (P := GateWork s) (fun t i hi h => h.trans (hf t i hi)) (GateWork.refl s)

theorem GateWork.of_loss {s t : State} (h : TrafficLoss s t) : GateWork s t := by
  obtain ⟨hst, hregs⟩ := h
  refine ⟨?_, regsBut.mono hregs fun o ho => by simp [gateReg, ho]⟩
  rw [hst]

theorem GateWork.setFibre (s : State) (F : Nat) (f : FibreSt → FibreSt) : GateWork s (setFibre s F f) :=
  ⟨rfl, fun _ _ => rfl⟩

/-- Showing a fibre touches its register alone. -/
theorem fibreShow_onlyRegs (s : State) (F : Nat) : OnlyRegs (fun o => o == OPT_FIBRE F) s (fibreShow s F) := by
  have hset : ∀ (u : State) (f : Fld) (v : Nat), f.off = OPT_FIBRE F → OnlyRegs (fun o => o == OPT_FIBRE F) u (fset u f v) :=
    fun u f v hf => OnlyRegs.fset (own := fun o => o == OPT_FIBRE F) u (beq_iff_eq.2 hf) v
  exact OnlyRegs.ite ((hset s (OPT_FIBRE.OPEN F) _ rfl).trans (hset _ (OPT_FIBRE.LIGHT F) _ rfl)) (OnlyRegs.refl _ s)

theorem fibreShow_work (s : State) {F : Nat} (hF : F < 128) : GateWork s (fibreShow s F) := by
  obtain ⟨hst, hregs⟩ := fibreShow_onlyRegs s F
  refine ⟨?_, regsBut.mono hregs fun o ho => ?_⟩
  · rw [hst]
  · rw [beq_iff_eq.1 ho, gateReg, opticsReg_fibre hF, Bool.or_true]

theorem gateClose_work (s : State) {F : Nat} (hF : F < 128) : GateWork s (gateClose s F) :=
  ((GateWork.setFibre s F _).trans (fibreShow_work _ hF)).trans (GateWork.of_loss (fibrePorts_loss _ hF))

theorem gateBegin_work (s : State) {F : Nat} (hF : F < 128) : GateWork s (gateBegin s F) := by
  have hdraw : ∀ u : State, GateWork u { u with free := u.free + 1 } := fun u => ⟨rfl, fun _ _ => rfl⟩
  exact ((gateClose_work s hF).trans (hdraw _)).trans (GateWork.setFibre _ F _)

theorem gatesBegin_work (s : State) : GateWork (setSys s fun y => { y with gateRules := true }) (gatesBegin s) := by
  refine GateWork.forRange (fun t F hF => ?_) _
  split
  · exact gateClose_work t hF
  · exact gateBegin_work t hF

/-- The gate of a fibre is closed, no probe sends, and on a working die its register says so. -/
def GateClosed (s : State) (F : Nat) : Prop :=
  fibreSends s F = false ∧ (dieUp s (F / 32) = true → fget s (OPT_FIBRE.OPEN F) = 0)

theorem dieUp_of_getReg_eq {s t : State} {d : Nat} (h : getReg t (FLT_DIE d) = getReg s (FLT_DIE d)) : dieUp t d = dieUp s d := by
  unfold dieUp
  rw [fget_of_getReg_eq (f := FLT_DIE.STATE d) h]

/-- A gate stays closed while its fibre, its register and the state of its die stay. -/
theorem GateClosed.of_eq {s t : State} {F : Nat} (h : GateClosed s F) (hfib : fibre t F = fibre s F)
    (hopen : getReg t (OPT_FIBRE F) = getReg s (OPT_FIBRE F))
    (hdie : getReg t (FLT_DIE (F / 32)) = getReg s (FLT_DIE (F / 32))) : GateClosed t F := by
  obtain ⟨hdark, hreg⟩ := h
  refine ⟨?_, fun hup => ?_⟩
  · rw [← hdark, fibreSends, fibreSends, fibreDark, fibreDark, hfib]
  · rw [dieUp_of_getReg_eq hdie] at hup
    exact (fget_of_getReg_eq (f := OPT_FIBRE.OPEN F) hopen).trans (hreg hup)

theorem lossReg_fibre : ∀ F : Fin 128, lossReg (OPT_FIBRE F) = false := by decide +kernel

theorem gateReg_die : ∀ d : Fin 8, gateReg (FLT_DIE d) = false := by decide +kernel

/-- Losing traffic opens no gate. -/
theorem GateClosed.of_loss {s t : State} {F : Nat} (hF : F < 128) (h : GateClosed s F) (hst : TrafficLoss s t) :
    GateClosed t F := by
  obtain ⟨hfields, hregs⟩ := hst
  have hdie : lossReg (FLT_DIE (F / 32)) = false :=
    (Bool.or_eq_false_iff.1 (gateReg_die ⟨F / 32, by omega⟩)).1
  refine h.of_eq ?_ (hregs _ (lossReg_fibre ⟨F, hF⟩)) (hregs _ hdie)
  rw [hfields]
  rfl

theorem fibre_fibreShow (s : State) (F G : Nat) : fibre (fibreShow s F) G = fibre s G := by
  rw [(fibreShow_onlyRegs s F).1]
  rfl

theorem fibre_setFibre (s : State) (F G : Nat) (f : FibreSt → FibreSt) :
    fibre (setFibre s F f) G = if G = F then f (fibre s F) else fibre s G :=
  tget_tset _ _ _ _ _

/-- A gate just closed is closed. -/
theorem gateClosed_gateClose_same (s : State) {F : Nat} (hF : F < 128) : GateClosed (gateClose s F) F := by
  refine GateClosed.of_loss hF ?_ (fibrePorts_loss _ hF)
  generalize hu : setFibre s F _ = u
  have hsends : fibreSends u F = false := by
    rw [← hu, fibreSends, fibreDark, fibre_setFibre, if_pos rfl]
    rfl
  have hshow : fibreSends (fibreShow u F) F = fibreSends u F := by
    rw [fibreSends, fibreSends, fibreDark, fibreDark, fibre_fibreShow]
  refine ⟨hshow.trans hsends, fun hup => ?_⟩
  have hne : FLT_DIE (F / 32) ≠ OPT_FIBRE F := by unfold FLT_DIE OPT_FIBRE; omega
  rw [dieUp_of_getReg_eq ((fibreShow_onlyRegs u F).2 _ (beq_eq_false_iff_ne.2 hne))] at hup
  rw [fibreShow, if_pos hup, fget_fset_ne _ (OPT_FIBRE.LIGHT F) (OPT_FIBRE.OPEN F) _ (Or.inr (Or.inl (Nat.le_refl 1))), hsends]
  exact fget_fset_same u (OPT_FIBRE.OPEN F) 0 (show 0 + 1 ≤ 64 by decide)

/-- Closing a gate leaves the closed ones closed. -/
theorem GateClosed.gateClose {s : State} {F G : Nat} (hF : F < 128) (hG : G < 128) (h : GateClosed s G) :
    GateClosed (gateClose s F) G := by
  by_cases hGF : G = F
  · subst hGF
    exact gateClosed_gateClose_same s hG
  · refine GateClosed.of_loss hG ?_ (fibrePorts_loss _ hF)
    have hregs := (fibreShow_onlyRegs (setFibre s F fun f => { f with dark := true, probing := false }) F).2
    refine h.of_eq ?_ (hregs _ ?_) (hregs _ ?_)
    · rw [fibre_fibreShow, fibre_setFibre, if_neg hGF]
    · exact beq_eq_false_iff_ne.2 (by unfold OPT_FIBRE; omega)
    · exact beq_eq_false_iff_ne.2 (by unfold FLT_DIE OPT_FIBRE; omega)

/-- Closing the gates of the first n fibres closes each of them. -/
theorem gateClosed_forRange {n : Nat} (hn : n ≤ 128) (s : State) : ∀ F < n, GateClosed (forRange n s gateClose) F := by
  induction n with
  | zero => intro F hF; omega
  | succ n ih =>
    intro F hF
    rw [forRange_succ]
    rcases Nat.lt_succ_iff_lt_or_eq.1 hF with hlt | rfl
    · exact (ih (by omega) F hlt).gateClose (by omega) (by omega)
    · exact gateClosed_gateClose_same _ (by omega)

theorem gateClose_all_work (s : State) : GateWork s (forRange 128 s gateClose) :=
  GateWork.forRange (fun t _ hF => gateClose_work t hF) s

theorem laserReg_fibre : ∀ F : Fin 128, laserReg (OPT_FIBRE F) = false := by decide +kernel

theorem laserReg_die : ∀ d : Fin 8, laserReg (FLT_DIE d) = false := by decide +kernel

/-- Lasers going off open no gate. -/
theorem GateClosed.lasersOff {s : State} {F : Nat} (hF : F < 128) (h : GateClosed s F) : GateClosed (lasersOff s) F := by
  obtain ⟨hfields, hregs⟩ := lasersOff_switched s
  refine h.of_eq ?_ (hregs _ (laserReg_fibre ⟨F, hF⟩)) (hregs _ (laserReg_die ⟨F / 32, by omega⟩))
  rw [hfields]
  rfl

/-! The steps of start-up (R105, R455, R20). -/

/-- The module powers its lasers and the rules of open fibres begin. -/
theorem lasersPowered_eq {s : State} (hoff : s.sys.lasersOn = false) (hlatch : s.sys.latchOpen = false)
    (hboot : s.sys.bootDone = true) (hctl : s.sys.ctlFault = false) : lasersPowered s = gatesBegin (lasersOn s) := by
  simp [lasersPowered, hoff, hlatch, hboot, hctl]

/-- What the lasers' switching on and the rules' beginning make of a state. -/
theorem gatesBegin_of_switched {s u : State} (h : LasersSwitched opticsReg true s u) :
    (gatesBegin u).sys = { s.sys with lasersOn := true, gateRules := true } ∧ (gatesBegin u).byp.soaOn = true ∧
      (gatesBegin u).nvs = s.nvs ∧ (gatesBegin u).mode = s.mode := by
  obtain ⟨hon, honRegs⟩ := h
  obtain ⟨hgate, hgateRegs⟩ := gatesBegin_work u
  have hmode : getReg (gatesBegin u) PRK_STATUS = getReg s PRK_STATUS :=
    (hgateRegs PRK_STATUS gateReg_status).trans (honRegs PRK_STATUS (Bool.or_eq_false_iff.1 gateReg_status).2)
  refine ⟨?_, ?_, ?_, fget_of_getReg_eq (f := PRK_STATUS.STATE) hmode⟩
  · rw [hgate, hon]
    rfl
  · rw [hgate, hon]
    rfl
  · rw [hgate, hon]
    rfl

/-- ENTER_BASIC where it is due. -/
theorem enterBasic_eq {s : State} (hmode : s.mode = mBOOT) (hon : s.sys.lasersOn = true) (hlatch : s.sys.latchOpen = false) :
    enterBasic s = setMode (setSys s fun y => { y with maintBasic := true }) mBASIC := by
  simp [enterBasic, hmode, hon, hlatch]

theorem mode_setMode (s : State) (m : Nat) : (setMode s m).mode = m % 8 := fget_fset_same s PRK_STATUS.STATE m (by decide)

/-- STRAP_CHECK of other pins after the cycle's one event. -/
theorem strapCheck_again {s : State} {pins : BitVec 11} (hpins : pins ≠ s.sys.straps) (hev : s.sys.strapEvent = true) :
    strapCheck s pins = fset s CTL_STRAP.CHANGED 1 := by
  simp [strapCheck, hpins, hev]

/-- STRAP_CHECK of other pins for the first time in a power cycle. -/
theorem strapCheck_first {s : State} {pins : BitVec 11} (hpins : pins ≠ s.sys.straps) (hev : s.sys.strapEvent = false) :
    strapCheck s pins =
      event (setSys (fset s CTL_STRAP.CHANGED 1) fun y => { y with strapEvent := true }) 0x01 2 1 8 0xFFFF 0 (le 4 pins.toNat) := by
  simp [strapCheck, hpins, hev]

theorem strapCheck_same (s : State) : strapCheck s s.sys.straps = s := by simp [strapCheck]

/-- STRAP_CHECK of other pins marks the change; beyond that it only signals. -/
theorem strapCheck_signals {s : State} {pins : BitVec 11} (hpins : pins ≠ s.sys.straps) :
    Signals (setSys (fset s CTL_STRAP.CHANGED 1) fun y => { y with strapEvent := true }) (strapCheck s pins) := by
  cases hev : s.sys.strapEvent
  · rw [strapCheck_first hpins hev]
    exact event_signals _ (by decide) _ _ _ _ _
  · rw [strapCheck_again hpins hev]
    have hsame : ({ s.sys with strapEvent := true } : Sys) = s.sys := by rw [← hev]
    have hset : (setSys (fset s CTL_STRAP.CHANGED 1) fun y => { y with strapEvent := true }) = fset s CTL_STRAP.CHANGED 1 :=
      congrArg (fun y => { fset s CTL_STRAP.CHANGED 1 with sys := y }) hsame
    rw [hset]
    exact Signals.refl _

/-- It is recorded once in a power cycle (R20). -/
theorem strapCheck_count {s : State} {pins : BitVec 11} (hpins : pins ≠ s.sys.straps) :
    getReg (strapCheck s pins) (PMC_EVT 0x102) = getReg s (PMC_EVT 0x102) + if s.sys.strapEvent then 0 else 1 := by
  have hmark : getReg (fset s CTL_STRAP.CHANGED 1) (PMC_EVT 0x102) = getReg s (PMC_EVT 0x102) :=
    getReg_setReg_ne s (by decide) _
  cases hev : s.sys.strapEvent
  · rw [strapCheck_first hpins hev, ← hmark]
    exact getReg_event_count _ (block := 1) (code := 2) (by decide) _ _ _ _ _
  · simp [strapCheck_again hpins hev, hmark]

/-- Marking the straps as changed leaves the latched values. -/
theorem strap_fields_of_marked {s t : State} (h : getReg t CTL_STRAP = getReg (fset s CTL_STRAP.CHANGED 1) CTL_STRAP) :
    fbit t CTL_STRAP.CHANGED = true ∧ fget t CTL_STRAP.SLOT = fget s CTL_STRAP.SLOT ∧
      fget t CTL_STRAP.REF = fget s CTL_STRAP.REF := by
  have hfield : ∀ f : Fld, f.off = CTL_STRAP → fget t f = fget (fset s CTL_STRAP.CHANGED 1) f :=
    fun f hf => fget_of_getReg_eq (by rw [hf, h])
  refine ⟨?_, ?_, ?_⟩
  · rw [fbit, hfield _ rfl, fget_fset_same s _ _ (by decide)]
    rfl
  · rw [hfield _ rfl, fget_fset_ne s _ _ _ (by decide)]
  · rw [hfield _ rfl, fget_fset_ne s _ _ _ (by decide)]

/-! The latch (R105, R467). -/

/-- The module as the latch opens: clean if it was ready, and no rule of open fibres in force. -/
def unlatched (s : State) : State :=
  setSys (setNvs (setEvr (setSys s fun y => { y with latchOpen := true }) fun e => { e with latchPre := e.copyQ.length })
    fun n => { n with clean := modeReady s }) fun y => { y with gateRules := false }

/-- The gates closed and the lasers off. -/
def latchedOff (s : State) : State := lasersOff (forRange 128 (unlatched s) gateClose)

/-- What neither gates nor lasers touch is as before the latch opened. -/
theorem latchedOff_fields (s : State) :
    (latchedOff s).sys = { s.sys with latchOpen := true, gateRules := false, lasersOn := false } ∧
      (latchedOff s).byp.soaOn = false ∧ (latchedOff s).nvs = { s.nvs with clean := modeReady s } ∧
      (latchedOff s).test = s.test := by
  have hoff := (lasersOff_switched (forRange 128 (unlatched s) gateClose)).1
  have hgates := (gateClose_all_work (unlatched s)).1
  refine ⟨?_, ?_, ?_, ?_⟩
  · rw [latchedOff, hoff, hgates]
    rfl
  · rw [latchedOff, hoff]
  · rw [latchedOff, hoff, hgates]
    rfl
  · rw [latchedOff, hoff, hgates]
    rfl

theorem getReg_latchedOff (s : State) {o : Nat} (hg : gateReg o = false) : getReg (latchedOff s) o = getReg s o := by
  have hl : laserReg o = false := by
    cases h : laserReg o
    · rfl
    · simp [gateReg, opticsReg_of_laser h] at hg
  exact ((lasersOff_switched _).2 o hl).trans ((gateClose_all_work _).2 o hg)

/-- With no self-test about, LATCH_OPEN closes the gates and turns the lasers off. -/
theorem latchOpen_eq {s : State} (hpow : s.sys.powered = true) (hlatch : s.sys.latchOpen = false) (hfree : testFree s = true) :
    latchOpen s = latchedOff s := by
  obtain ⟨-, -, -, htest⟩ := latchedOff_fields s
  have hfree' : testFree (latchedOff s) = true := (testFree_congr (getReg_latchedOff s (by decide)) htest).trans hfree
  have hidle : latchTest (latchedOff s) = false := by
    have hact := (Bool.and_eq_true_iff.1 hfree').1
    rw [Bool.not_eq_true'] at hact
    simp [latchTest, hact]
  have hsteps : latchOpen s = testSweep (if latchTest (latchedOff s) then testEnd (latchedOff s) 4 else latchedOff s) := by
    unfold latchOpen
    rw [if_neg (by simp [hlatch]), if_neg (by simp [hpow])]
    rfl
  rw [hsteps, hidle, if_neg (by decide), testSweep_of_free hfree']

/-- Every fibre gate is closed. -/
theorem gateClosed_latchedOff (s : State) {F : Nat} (hF : F < 128) : GateClosed (latchedOff s) F :=
  (gateClosed_forRange (Nat.le_refl 128) _ F hF).lasersOff hF

/-- No session holds a request, so none is served. -/
theorem mgmtDrain_of_none_held {s : State} (h : ∀ k ∈ s.sec.sessions, k.held = []) : mgmtDrain s = s := by
  refine forEach_keeps (P := fun t => t = s) (fun t k hk ht => ?_) rfl
  rw [h k hk]
  exact ht

/-- Settles O7: what the lasers, the gates and an event touch is a frame of its own, and each clause reads off its step. -/
theorem startSequence : Obligations.StartSequence := by
  unfold Obligations.StartSequence
  refine ⟨fun s hpow hoff hlatch hboot hctl => ?_, fun s hpow hmode hon hlatch => ?_, fun s pins hpow hpins => ?_,
    fun s hpow => ?_, fun s hpow hlatch hfree => ?_, fun s hheld => ?_⟩
  · refine ⟨_, live_of_powered hpow _, ?_⟩
    obtain ⟨hsys, hsoa, hnvs, hmode⟩ := gatesBegin_of_switched (lasersOn_switched s)
    rw [lasersPowered_eq hoff hlatch hboot hctl, hsys]
    exact ⟨rfl, rfl, hsoa, hnvs, hmode⟩
  · refine ⟨_, live_of_powered hpow _, ?_⟩
    rw [enterBasic_eq hmode hon hlatch]
    have hbasic : (setMode (setSys s fun y => { y with maintBasic := true }) mBASIC).mode = mBASIC := mode_setMode _ _
    exact ⟨hbasic, by simp [State.asBasic, hbasic], regsBut_fset _ _ rfl _, rfl⟩
  · refine ⟨_, live_of_powered hpow fun s => strapCheck s pins, ?_⟩
    obtain ⟨honly, hregs, -⟩ := strapCheck_signals hpins
    obtain ⟨hchanged, hslot, href⟩ := strap_fields_of_marked (hregs CTL_STRAP (by decide))
    have hmark : regsBut (fun o => o == CTL_STRAP) s (fset s CTL_STRAP.CHANGED 1) := regsBut_fset s _ rfl _
    exact ⟨hchanged, hslot, href, strapCheck_count hpins, fun o ho hsig => (hregs o hsig).trans (hmark o ho), honly⟩
  · exact (live_of_powered hpow fun t => strapCheck t s.sys.straps).trans (congrArg Host.Outcome.next (strapCheck_same s))
  · refine ⟨latchedOff s, congrArg Host.Outcome.next (latchOpen_eq hpow hlatch hfree), ?_⟩
    obtain ⟨hsys, hsoa, hnvs, -⟩ := latchedOff_fields s
    have hmode : (latchedOff s).mode = s.mode := fget_of_getReg_eq (f := PRK_STATUS.STATE) (getReg_latchedOff s gateReg_status)
    rw [hsys, hnvs]
    refine ⟨rfl, hmode, rfl, rfl, rfl, hsoa, fun F hF => ?_⟩
    obtain ⟨hdark, hopen⟩ := gateClosed_latchedOff s hF
    refine ⟨hdark, fun hup => hopen ?_⟩
    rwa [dieUp_of_getReg_eq (getReg_latchedOff s (gateReg_die ⟨F / 32, by omega⟩))]
  · rw [show exec .latchClosed s = execLatchClosed s from rfl, execLatchClosed]
    dsimp only
    rw [mgmtDrain_of_none_held (s := setSys s fun y => { y with latchOpen := false }) hheld, ite_self]
    rfl

end Sys2Proof.Machine
end

section
/-! SUPPORT. A lane failure of a CTL bundle in a state whose memory window names a frame on a die the module does not have: it
refutes O48. -/

namespace Sys2Proof.Machine

open Claim

/-- A die code far above those of the eight dies. Nothing that the obligation asks of a state keeps a window frame off it. -/
def strayDie : Nat := 19558

/-- On the stray die, channel 44: its `MEM_CH` lies at the offset of `FLT_DIE_4`. -/
def strayChan : Nat := 80 * strayDie + 44

theorem strayChan_register : MEM_CH strayChan = FLT_DIE 4 := by decide

/-- A copy under way to memory: kind 3, one row of one byte, to offset 0x5800 of the window, which lies on channel 44. -/
def strayCopy : Work :=
  { desc := [3, 0, 0, 0, 1, 0, 0, 0, 1, 0, 0, 0] ++ List.replicate 20 0 ++ [0, 0x58] }

/-- A powered module, every die UP. Context 0 owns region 0, whose bobbin 0 on die 4 is writing to the context's window; the
window's one frame is on the stray die, where the line written holds a two-bit error. -/
def strayState : State :=
  { fset State.reset (PRK_RGEN.OWNED 0) 1 with
    sys := { powered := true }
    bob := { bobs := [(0, { region := 0, copy := [strayCopy] })] }
    mem := { winFr := [(0, [(strayDie, 0)])], latent := [(2 ^ 30 * strayChan, .two)] } }

theorem strayState_testFree : testFree strayState = true := by decide +kernel

theorem strayState_die_up : fget strayState (FLT_DIE.STATE 4) = 0 := by decide +kernel

/-- A lane failure of a CTL bundle is a fault of the die it serves (R381). -/
theorem exec_ctl_lane_fail {s : State} {b : Fin 40} {l : Nat} (h : s.sys.powered = true) (hb : 32 ≤ b.val) (hl : l < 4) :
    exec (.interposerLaneFail b 0 l) s = .next (testSweep (dieFault s (b - 32) 5)) := by
  have hctl : ¬ b.val < 32 := by omega
  have hlane : ¬ (decide (0 < 0) || decide (4 ≤ l)) = true := by simpa using hl
  rw [show exec (.interposerLaneFail b 0 l) s = execInterposerLaneFail b 0 l s from rfl, execInterposerLaneFail,
    live_of_powered h, if_neg hctl, if_neg hlane]

/-- The copy that the fault discards meets the two-bit error and retires its group (R330): the channel's count of retired
groups is written over the cause of the fault. -/
theorem strayState_cause_lost : fget (testSweep (dieFault strayState 4 5)) (FLT_DIE.CAUSE 4) = 0 := by decide +kernel

/-- Refutes O48: its clause on a lane of a CTL bundle does not ask that the frames of a window be on a die of the module. In
`strayState` the fault of die 4 discards a copy whose line is on such a stray die, and the `MEM_CH` register that this writes is
`FLT_DIE_4` itself (`strayChan_register`), whose CAUSE then reads 0 in place of 5. -/
theorem not_bundlesAndReferences : ¬ Obligations.BundlesAndReferences := by
  unfold Obligations.BundlesAndReferences
  rintro ⟨-, -, -, hctl, -⟩
  obtain ⟨t, ht, -, hcause⟩ :=
    hctl 36 0 strayState rfl strayState_testFree (by decide) (by decide) strayState_die_up
  rw [exec_ctl_lane_fail (b := 36) rfl (by decide) (by decide)] at ht
  rw [← Host.Outcome.next.inj ht] at hcause
  exact absurd (strayState_cause_lost.symm.trans hcause) (by decide)

end Sys2Proof.Machine
end

section
/-! SUPPORT. What the fault of a die or of CTL cannot reach, function by function of all that it sets off. -/

namespace Sys2Proof.Machine

open Claim

/-- The part of the state that no fault reaches: the queue of commands, the clocks, the time unit, the weave, the fibres and the
banks, sessions and keys, and the self-test. -/
def unreached (s : State) : List Instr × Nat × Nat × TimeSt × WeaveSt × Tab FibreSt × Tab BankSt × SecSt × TestSt :=
  (s.pending, s.tb, s.mono, s.time, s.weave, s.fibres, s.banks, s.sec, s.test)

theorem test_of_unreached {s t : State} (h : unreached t = unreached s) : t.test = s.test :=
  congrArg (fun x => x.2.2.2.2.2.2.2.2) h

/-! Updates of other parts. (The proofs are `(rfl)`, so that `simp` takes each as a rewrite and not as a step of `dsimp`, which
it could not use for the side conditions of the folds below.) -/

@[simp] theorem unreached_setReg (s : State) (o : Nat) (v : Word) : unreached (setReg s o v) = unreached s := (rfl)
@[simp] theorem unreached_fset (s : State) (f : Fld) (v : Nat) : unreached (fset s f v) = unreached s := (rfl)
@[simp] theorem unreached_bumpBy (s : State) (o n : Nat) : unreached (bumpBy s o n) = unreached s := (rfl)
@[simp] theorem unreached_bump (s : State) (o : Nat) : unreached (bump s o) = unreached s := (rfl)
@[simp] theorem unreached_setMode (s : State) (m : Nat) : unreached (setMode s m) = unreached s := (rfl)
@[simp] theorem unreached_draw (s : State) : unreached (draw s).2 = unreached s := (rfl)
@[simp] theorem unreached_setLane (s : State) (L : Nat) (f : LaneSt → LaneSt) : unreached (setLane s L f) = unreached s := (rfl)
@[simp] theorem unreached_setPort (s : State) (L : Nat) (f : PortSt → PortSt) : unreached (setPort s L f) = unreached s := (rfl)
@[simp] theorem unreached_setCore (s : State) (f : CoreSt → CoreSt) : unreached (setCore s f) = unreached s := (rfl)
@[simp] theorem unreached_setTbl (s : State) (f : TblSt → TblSt) : unreached (setTbl s f) = unreached s := (rfl)
@[simp] theorem unreached_setByp (s : State) (f : BypSt → BypSt) : unreached (setByp s f) = unreached s := (rfl)
@[simp] theorem unreached_setPic (s : State) (f : PicSt → PicSt) : unreached (setPic s f) = unreached s := (rfl)
@[simp] theorem unreached_setMem (s : State) (f : MemSt → MemSt) : unreached (setMem s f) = unreached s := (rfl)
@[simp] theorem unreached_setFlt (s : State) (f : FltSt → FltSt) : unreached (setFlt s f) = unreached s := (rfl)
@[simp] theorem unreached_setSys (s : State) (f : Sys → Sys) : unreached (setSys s f) = unreached s := (rfl)
@[simp] theorem unreached_setNvs (s : State) (f : Nvs → Nvs) : unreached (setNvs s f) = unreached s := (rfl)

/-! Branches and folds. -/

@[simp] theorem unreached_ite {c : Prop} [Decidable c] (a b : State) :
    unreached (if c then a else b) = if c then unreached a else unreached b := apply_ite unreached c a b

@[simp] theorem unreached_forEach {β : Type} {f : State → β → State} (hf : ∀ s a, unreached (f s a) = unreached s) (l : List β)
    (s : State) : unreached (forEach l s f) = unreached s :=
  forEach_keeps (P := fun t => unreached t = unreached s) (fun t a _ h => (hf t a).trans h) rfl

@[simp] theorem unreached_forRange {f : State → Nat → State} (hf : ∀ s i, unreached (f s i) = unreached s) (n : Nat) (s : State) :
    unreached (forRange n s f) = unreached s := unreached_forEach hf _ s

/-! Signals and lost traffic, by the frames they have. -/

theorem unreached_of_signals {s t : State} (h : Signals s t) : unreached t = unreached s := by
  obtain ⟨hst, -, -⟩ := h
  rw [hst]
  rfl

theorem unreached_of_loss {s t : State} (h : TrafficLoss s t) : unreached t = unreached s := by
  obtain ⟨hst, -⟩ := h
  rw [hst]
  rfl

@[simp] theorem unreached_ring (s : State) (src : Nat) : unreached (ring s src) = unreached s := by
  have hset : ∀ v, unreached (icEval (fset s (IC_SRC.STATE src) v)) = unreached s :=
    fun v => unreached_of_signals (s := fset s (IC_SRC.STATE src) v) (icEval_signals _)
  unfold ring
  split
  · exact hset 1
  · exact hset 3
  · rfl

@[simp] theorem unreached_event (s : State) (block code sev die ctx unit : Nat) (data : List Byte) :
    unreached (event s block code sev die ctx unit data) = unreached s := by
  rw [event, unreached_of_signals (evrOffer_signals _ _), unreached_bump]

@[simp] theorem unreached_ctxBump (s : State) (x i n : Nat) : unreached (ctxBump s x i n) = unreached s := by
  simp [ctxBump]

@[simp] theorem unreached_creditReturn (s : State) (f : Frame) : unreached (creditReturn s f) = unreached s :=
  unreached_of_loss (creditReturn_loss s f)

@[simp] theorem unreached_sendCrossed (s : State) (f : Frame) : unreached (sendCrossed s f) = unreached s :=
  unreached_of_loss (sendCrossed_loss s f)

@[simp] theorem unreached_copyDrop (s : State) (f : Frame) : unreached (copyDrop s f) = unreached s :=
  unreached_of_loss (copyDrop_loss s f)

@[simp] theorem unreached_ctxDrop (s : State) (f : Frame) : unreached (ctxDrop s f) = unreached s :=
  unreached_of_loss (ctxDrop_loss s f)

@[simp] theorem unreached_lostAt (s : State) (f : Frame) : unreached (lostAt s f) = unreached s :=
  unreached_of_loss (lostAt_loss s f)

@[simp] theorem unreached_discardFrame (s : State) (f : Frame) : unreached (discardFrame s f) = unreached s :=
  unreached_of_loss (discardFrame_loss s f)

@[simp] theorem unreached_egrRelease (s : State) (L c : Nat) (f : Frame) : unreached (egrRelease s L c f) = unreached s :=
  unreached_of_loss (egrRelease_loss s L c f)

@[simp] theorem unreached_giveUp (s : State) (o : Nat) (f : Frame) : unreached (giveUp s o f) = unreached s :=
  unreached_of_loss (giveUp_loss s o f)

@[simp] theorem unreached_mcFree (s : State) (m : Nat) : unreached (mcFree s m) = unreached s :=
  unreached_of_loss (mcFree_loss s m)

@[simp] theorem unreached_mcUnref (s : State) (m : Nat) : unreached (mcUnref s m) = unreached s :=
  unreached_of_loss (mcUnref_loss s m)

@[simp] theorem unreached_voqErase (s : State) (k n : Nat) (e : QEnt) : unreached (voqErase s k n e) = unreached s :=
  unreached_of_loss (voqErase_loss s k n e)

@[simp] theorem unreached_emptied (s : State) (L c sub : Nat) : unreached (emptied s L c sub) = unreached s :=
  unreached_of_loss (emptied_loss s L c sub)

/-! Queues of any output (chapter 6). -/

@[simp] theorem unreached_setVoq (s : State) (k : Nat) (f : Voq → Voq) : unreached (setVoq s k f) = unreached s := (rfl)

@[simp] theorem unreached_countDiscard (s : State) (L : Nat) : unreached (countDiscard s L) = unreached s := by
  simp [countDiscard]

@[simp] theorem unreached_suppress (s : State) (L : Nat) (f : Frame) : unreached (suppress s L f) = unreached s := by
  simp [suppress]

@[simp] theorem unreached_discardEnt (s : State) (o : Nat) (e : QEnt) : unreached (discardEnt s o e) = unreached s := by
  cases e <;> simp [discardEnt]

@[simp] theorem unreached_discardEnts (s : State) (k : Nat) (p : QEnt → Bool) : unreached (discardEnts s k p) = unreached s := by
  simp [discardEnts]

@[simp] theorem unreached_discardVoq (s : State) (k : Nat) : unreached (discardVoq s k) = unreached s := by
  simp [discardVoq]

@[simp] theorem unreached_egrDiscard (s : State) (L c : Nat) (f : Frame) : unreached (egrDiscard s L c f) = unreached s := by
  simp [egrDiscard]

@[simp] theorem unreached_discardEgress (s : State) (L : Nat) (p : Nat → Bool) : unreached (discardEgress s L p) = unreached s := by
  unfold discardEgress
  exact unreached_forRange (fun s c => by simp) 16 s

@[simp] theorem unreached_discardPort (s : State) (L : Nat) : unreached (discardPort s L) = unreached s := by
  simp [discardPort]

@[simp] theorem unreached_discardQuar (s : State) (L : Nat) : unreached (discardQuar s L) = unreached s := by
  simp [discardQuar]

@[simp] theorem unreached_pushMulticast (s : State) (k : Nat) (f : Frame) : unreached (pushMulticast s k f) = unreached s := by
  unfold pushMulticast
  dsimp only
  split <;> simp

@[simp] theorem unreached_pushTail (s : State) (k : Nat) : unreached (pushTail s k) = unreached s := by
  unfold pushTail
  dsimp only
  split
  · rfl
  · next e _ => cases e <;> simp

@[simp] theorem unreached_pushQueue (need k fuel : Nat) (s : State) : unreached (pushQueue need k fuel s) = unreached s := by
  induction fuel generalizing s with
  | zero => rfl
  | succ fuel ih => simp [pushQueue, ih]

@[simp] theorem unreached_pushOut (need d fuel : Nat) (s : State) : unreached (pushOut need d fuel s) = unreached s := by
  induction fuel generalizing s with
  | zero => rfl
  | succ fuel ih =>
    unfold pushOut
    split
    · rfl
    · split
      · rfl
      · simp [ih]

@[simp] theorem unreached_enqueue (s : State) (k : Nat) (f : Frame) : unreached (enqueue s k f) = unreached s := by
  simp [enqueue, mcStore, queueFrame]

@[simp] theorem unreached_dropAtAdmission (s : State) (f : Frame) (off : Nat) : unreached (dropAtAdmission s f off) = unreached s := by
  simp [dropAtAdmission]

@[simp] theorem unreached_telEcn (s : State) (f : Frame) : unreached (telEcn s f) = unreached s := (rfl)

@[simp] theorem unreached_admitFrame (s : State) (f : Frame) : unreached (admitFrame s f) = unreached s := by
  simp [admitFrame]

@[simp] theorem unreached_egressState (s : State) (f : Frame) : unreached (egressState s f) = unreached s := by
  simp [egressState]

@[simp] theorem unreached_mcAdvance (s : State) (d c : Nat) : unreached (mcAdvance s d c) = unreached s := by
  unfold mcAdvance
  split
  · rfl
  · simp

@[simp] theorem unreached_mcGone (s : State) (f : Frame) (p : Nat) : unreached (mcGone s f p) = unreached s := by
  simp [mcGone]

@[simp] theorem unreached_deliver (s : State) (o : Nat) (f : Frame) : unreached (deliver s o f) = unreached s := by
  simp [deliver]

@[simp] theorem unreached_takePiece (s : State) (p : Piece) : unreached (takePiece s p) = unreached s := by
  simp [takePiece]

@[simp] theorem unreached_losePiece (s : State) (p : Piece) : unreached (losePiece s p) = unreached s := by
  simp [losePiece]

@[simp] theorem unreached_releaseEarly (st fuel : Nat) (s : State) : unreached (releaseEarly st fuel s) = unreached s := by
  induction fuel generalizing s with
  | zero => rfl
  | succ fuel ih =>
    unfold releaseEarly
    dsimp only
    split
    · rfl
    · simp [ih]

@[simp] theorem unreached_loseCells (s : State) (i j : Nat) (p : Cell → Bool) : unreached (loseCells s i j p) = unreached s := by
  simp [loseCells]

/-! Ports. -/

@[simp] theorem unreached_portRefresh (s : State) (L : Nat) : unreached (portRefresh s L) = unreached s := by
  simp [portRefresh]

@[simp] theorem unreached_setUnder (s : State) (L u : Nat) : unreached (setUnder s L u) = unreached s := by
  simp [setUnder]

@[simp] theorem unreached_fencePort (s : State) (L cause : Nat) : unreached (fencePort s L cause) = unreached s := by
  simp [fencePort]

@[simp] theorem unreached_retryAtTime (s : State) (L t : Nat) : unreached (retryAtTime s L t) = unreached s := (rfl)

/-! CP memory (chapter 13). -/

@[simp] theorem unreached_memPut (s : State) (d P : Nat) (bs : List Byte) : unreached (memPut s d P bs) = unreached s := by
  rw [memPut_frame]
  rfl

@[simp] theorem unreached_clearErrs (s : State) (i A : Nat) : unreached (clearErrs s i A) = unreached s := (rfl)

@[simp] theorem unreached_poisonLine (s : State) (i A : Nat) : unreached (poisonLine s i A) = unreached s := by
  simp [poisonLine]

@[simp] theorem unreached_poisonGroup (s : State) (i A : Nat) : unreached (poisonGroup s i A) = unreached s := by
  simp [poisonGroup]

@[simp] theorem unreached_retireGroup (s : State) (i A : Nat) : unreached (retireGroup s i A) = unreached s := by
  simp [retireGroup]

@[simp] theorem unreached_lineTouch (s : State) (i A : Nat) : unreached (lineTouch s i A) = unreached s := by
  simp [lineTouch]

@[simp] theorem unreached_memTouchPart (s : State) (d P n : Nat) : unreached (memTouchPart s d P n) = unreached s := by
  simp [memTouchPart]

@[simp] theorem unreached_lineWritten (s : State) (i A : Nat) : unreached (lineWritten s i A) = unreached s := by
  simp [lineWritten]

@[simp] theorem unreached_memWrite (s : State) (d P : Nat) (bs : List Byte) : unreached (memWrite s d P bs) = unreached s := by
  simp [memWrite]

@[simp] theorem unreached_ctxTouchPart (s : State) (x o n : Nat) : unreached (ctxTouchPart s x o n) = unreached s := by
  unfold ctxTouchPart
  split
  · rfl
  · refine unreached_forEach (fun t l => ?_) _ s
    split <;> simp

@[simp] theorem unreached_ctxPut (s : State) (x o : Nat) (bs : List Byte) : unreached (ctxPut s x o bs) = unreached s := by
  refine unreached_forEach (fun t l => ?_) _ s
  split <;> simp

@[simp] theorem unreached_ctxWrite (s : State) (x o : Nat) (bs : List Byte) : unreached (ctxWrite s x o bs) = unreached s := by
  simp [ctxWrite]

/-! Frames that the module originates. -/

@[simp] theorem unreached_lookGroup (s : State) (d g h c : Nat) (unord : Bool) (rw : Option Rewrite) :
    unreached (lookGroup s d g h c unord rw).1 = unreached s := by
  unfold lookGroup
  split
  · rfl
  · dsimp only
    split_ifs <;> rfl

@[simp] theorem unreached_lookFabric (s : State) (d : Nat) (f : Frame) : unreached (lookFabric s d f).1 = unreached s := by
  unfold lookFabric
  dsimp only
  split_ifs
  · split
    · rfl
    · split_ifs <;> rfl
  · rfl
  · rfl
  · split
    · rfl
    · split
      · rfl
      · exact unreached_lookGroup s _ _ _ _ _ _
      · rfl

@[simp] theorem unreached_newId (s : State) : unreached (newId s).2 = unreached s := (rfl)

/-- The lookups are generalized, and the general statement fixed by `id`: the kernel would otherwise evaluate them to compare
the branches. -/
@[simp] theorem unreached_originTo (s : State) (d : Nat) (h : BitVec 256) (body : List Byte) (bob : Option Nat) :
    unreached (originTo s d h body bob).1 = unreached s := by
  have hlook := unreached_lookFabric
  unfold originTo
  generalize lookFabric = look at hlook ⊢
  generalize originFence = fence
  generalize ownOutput = own
  generalize sealHdr = sealed
  revert look fence own sealed
  refine @id _ fun look hlook fence own sealed => ?_
  rw [← unreached_newId s]
  generalize newId s = p
  obtain ⟨n, u⟩ := p
  dsimp only
  split
  · simp
  · split
    · next heq => rw [← hlook u d, heq]
    · next heq => rw [← hlook u d, heq]
    · next heq =>
      rw [← hlook u d, heq]
      split <;> simp
    · next heq =>
      rw [← hlook u d, heq]
      simp

@[simp] theorem unreached_originate (s : State) (d : Nat) (h : BitVec 256) (body : List Byte) :
    unreached (originate s d h body) = unreached s := by
  have horigin := unreached_originTo s d h body none
  unfold originate
  split
  · next heq => rw [unreached_egressState, ← horigin, heq]
  · next heq => rw [← horigin, heq]

/-! Reduction (chapter 10). -/

@[simp] theorem unreached_setGroup (s : State) (g : Nat) (f : GroupSt → GroupSt) : unreached (setGroup s g f) = unreached s := (rfl)

@[simp] theorem unreached_putTomb (s : State) (x g q T : Nat) : unreached (putTomb s x g q T) = unreached s := (rfl)

@[simp] theorem unreached_logPut (s : State) (x p : Nat) (bs : List Byte) : unreached (logPut s x p bs) = unreached s := by
  simp [logPut]

@[simp] theorem unreached_peerRgen (s : State) : unreached (peerRgen s).2 = unreached s := (rfl)

@[simp] theorem unreached_mirrorPut (s : State) (g : GroupSt) (fuel p : Nat) (bs : List Byte) :
    unreached (mirrorPut s g fuel p bs) = unreached s := by
  induction fuel generalizing s p bs with
  | zero => rfl
  | succ fuel ih =>
    unfold mirrorPut
    simp [ih]

@[simp] theorem unreached_mirrorGet (s : State) (gn : Nat) (g : GroupSt) (p posEnd : Nat) :
    unreached (mirrorGet s gn g p posEnd) = unreached s := by
  simp [mirrorGet]

@[simp] theorem unreached_logAppend (s : State) (gn q kind reason chunk : Nat) (data : List Byte) :
    unreached ((logAppend s gn q kind reason chunk data).getD s) = unreached s := by
  unfold logAppend
  dsimp only
  split
  · rfl
  · rw [Option.getD_some]
    simp

@[simp] theorem unreached_sendRedFrom (s : State) (d gn q type chunk : Nat) (data : List Byte) (dst : Option Nat) :
    unreached (sendRedFrom s d gn q type chunk data dst) = unreached s := by
  simp [sendRedFrom]

@[simp] theorem unreached_sendRed (s : State) (gn q type chunk : Nat) (data : List Byte) (dst : Option Nat) :
    unreached (sendRed s gn q type chunk data dst) = unreached s := by
  simp [sendRed]

@[simp] theorem unreached_handOff (s : State) (gn q type chunk : Nat) (data : List Byte) :
    unreached (handOff s gn q type chunk data) = unreached s := by
  simp [handOff]

@[simp] theorem unreached_logShut (s : State) (x gn q : Nat) : unreached (logShut s x gn q) = unreached s := (rfl)

@[simp] theorem unreached_abortColl (s : State) (gn q reason chunk port : Nat) (send : Bool) :
    unreached (abortColl s gn q reason chunk port send) = unreached s := by
  simp [abortColl]

@[simp] theorem unreached_abortWhere (s : State) (p : Coll → Bool) (reason : Nat) (send : Bool) :
    unreached (abortWhere s p reason send) = unreached s := by
  simp [abortWhere]

/-! Bobbins and regions (chapters 11 and 12). -/

@[simp] theorem unreached_setBobbin (s : State) (n : Nat) (f : Bobbin → Bobbin) : unreached (setBobbin s n f) = unreached s := (rfl)

@[simp] theorem unreached_storeUndefine (s : State) (n a len : Nat) : unreached (storeUndefine s n a len) = unreached s := (rfl)

@[simp] theorem unreached_freeBytes (s : State) (n : Nat) : unreached (freeBytes s n).2 = unreached s := (rfl)

@[simp] theorem unreached_copyUndefine (s : State) (n owner : Nat) (w : Work) : unreached (copyUndefine s n owner w) = unreached s := by
  unfold copyUndefine
  dsimp only
  split
  · rfl
  · exact unreached_forRange (fun t i => by simp) _ s
  · exact unreached_forRange (fun t i => by simp) _ s
  · simp

@[simp] theorem unreached_stripVoq (s : State) (k id : Nat) : unreached (stripVoq s k id) = unreached s := by
  unfold stripVoq
  dsimp only
  split <;> simp

@[simp] theorem unreached_discardSends (s : State) (n : Nat) : unreached (discardSends s n) = unreached s := by
  simp [discardSends]

@[simp] theorem unreached_tdAdd (s : State) (n k t : Nat) : unreached (tdAdd s n k t) = unreached s := by
  simp [tdAdd]

@[simp] theorem unreached_clearBobbin (s : State) (owner n : Nat) : unreached (clearBobbin s owner n) = unreached s := by
  unfold clearBobbin
  dsimp only
  split <;> simp

@[simp] theorem unreached_discardFlits (s : State) (r : Nat) : unreached (discardFlits s r) = unreached s := by
  simp [discardFlits]

@[simp] theorem unreached_clearRegion (s : State) (r : Nat) : unreached (clearRegion s r) = unreached s := by
  simp [clearRegion]

@[simp] theorem unreached_regionEnd (s : State) (r how : Nat) : unreached (regionEnd s r how) = unreached s := by
  simp [regionEnd]

/-! Faults (chapter 15). -/

@[simp] theorem unreached_freezeViews (s : State) (d : Nat) : unreached (freezeViews s d) = unreached s := by
  unfold freezeViews
  extract_lets keep
  have hkeep : ∀ (t : State) (o : Nat), unreached (keep t o) = unreached t := by
    intro t o
    dsimp only [keep]
    split <;> rfl
  clear_value keep
  split
  · rfl
  · refine (unreached_forEach (fun t L => ?_) _ _).trans ((unreached_forEach (fun t k => hkeep t _) _ _).trans ?_)
    · exact (unreached_forRange (fun u c => hkeep u _) _ _).trans (hkeep t _)
    · exact (hkeep _ _).trans (hkeep _ _)

@[simp] theorem unreached_bundlesRefresh (s : State) : unreached (bundlesRefresh s) = unreached s := by
  simp [bundlesRefresh]

@[simp] theorem unreached_loseIoQueues (s : State) (x : Nat) : unreached (loseIoQueues s x) = unreached s := by
  simp [loseIoQueues]

@[simp] theorem unreached_loseIoFrames (s : State) (x : Nat) : unreached (loseIoFrames s x) = unreached s := by
  simp [loseIoFrames]

@[simp] theorem unreached_loseHome (s : State) (d x : Nat) : unreached (loseHome s d x) = unreached s := by
  unfold loseHome
  dsimp only
  rw [unreached_ite, unreached_loseIoQueues, ite_self]
  refine (unreached_forRange (fun t i => unreached_forRange (fun t c => ?_) _ t) _ _).trans
    ((unreached_forRange (fun t i => ?_) _ _).trans (unreached_loseIoFrames s _))
  · split <;> simp
  · simp

@[simp] theorem unreached_loseQueues (s : State) (d : Nat) : unreached (loseQueues s d) = unreached s := by
  refine (unreached_setCore _ _).trans ((unreached_forEach (fun t m => ?_) _ _).trans (unreached_forEach (fun t e => ?_) _ s))
  · simp
  · refine (unreached_forEach (fun u x => ?_) _ _).trans ?_
    · cases x <;> simp
    · split <;> simp

@[simp] theorem unreached_loseMembers (s : State) (d : Nat) : unreached (loseMembers s d) = unreached s := by
  simp [loseMembers]

@[simp] theorem unreached_loseStreams (s : State) (d : Nat) : unreached (loseStreams s d) = unreached s := by
  simp [loseStreams]

@[simp] theorem unreached_abortGroups (s : State) (d : Nat) : unreached (abortGroups s d) = unreached s := by
  unfold abortGroups
  dsimp only
  split <;> simp

@[simp] theorem unreached_swFault (s : State) (d : Nat) (homes : List Nat) : unreached (swFault s d homes) = unreached s := by
  simp [swFault]

@[simp] theorem unreached_cpFault (s : State) (d : Nat) (hot : Bool) : unreached (cpFault s d hot) = unreached s := by
  refine (unreached_forEach (fun t n => ?_) _ _).trans ((unreached_forRange (fun t k => ?_) _ _).trans ?_)
  · rfl
  · simp
  · simp

@[simp] theorem unreached_testEnd (s : State) (code : Nat) : unreached (testEnd s code) = unreached s := (rfl)

@[simp] theorem unreached_dieSet (s : State) (d st : Nat) : unreached (dieSet s d st) = unreached s := by
  simp [dieSet]

/-- A die's fault ends no self-test: that is left to `testSweep`. -/
@[simp] theorem unreached_dieFault (s : State) (d cause : Nat) : unreached (dieFault s d cause) = unreached s := by
  simp [dieFault]

@[simp] theorem unreached_applyMap (s : State) (m : Tab LaneMap) : unreached (applyMap s m) = unreached s := by
  simp [applyMap, showLane]

@[simp] theorem unreached_allElectronic (s : State) : unreached (allElectronic s) = unreached s := by
  simp [allElectronic]

end Sys2Proof.Machine
end

section
/-! SUPPORT. What a die's fault and a fault of CTL end in, and that the sweep of self-tests after it leaves that. -/

namespace Sys2Proof.Machine

open Claim

/-- With no self-test begun, the sweep at most ends one, in `CTL_TEST_STAT`. -/
theorem testSweep_regsBut {s : State} (h : s.test.started = 0) : regsBut (fun o => o == CTL_TEST_STAT) s (testSweep s) := by
  have hend : regsBut (fun o => o == CTL_TEST_STAT) s (testEnd s 4) :=
    ((regsBut_fset s _ rfl _).trans (regsBut_fset _ _ rfl _)).trans (regsBut_fset _ _ rfl _)
  unfold testSweep
  dsimp only
  split
  · rw [if_neg (by simp [testEnd, h])]
    exact hend
  · rw [if_neg (by simp [h])]
    exact regsBut.refl _ s

theorem signalReg_die : ∀ d : Fin 8, signalReg (FLT_DIE d) = false := by decide +kernel

/-- A die's state is as it was set. -/
theorem dieSet_state (s : State) {d st : Nat} (hd : d < 8) (hst : st < 8) : fget (dieSet s d st) (FLT_DIE.STATE d) = st := by
  unfold dieSet
  dsimp only
  generalize hu : fset s (FLT_DIE.STATE d) st = u
  obtain ⟨-, hevent, -⟩ := event_signals u (block := 0x0D) (code := 1) (by decide) (if st == 0 || st == 3 then 1 else 2) d 0xFFFF d
    (le 1 st ++ le 1 (fget u (FLT_DIE.CAUSE d)))
  obtain ⟨-, hring, -⟩ := ring_signals (event u 0x0D 1 (if st == 0 || st == 3 then 1 else 2) d 0xFFFF d
    (le 1 st ++ le 1 (fget u (FLT_DIE.CAUSE d)))) (src := 2) (by decide)
  have hquiet := signalReg_die ⟨d, hd⟩
  rw [fget_of_getReg_eq (f := FLT_DIE.STATE d) ((hring _ hquiet).trans (hevent _ hquiet)), ← hu,
    fget_fset_same _ _ _ (show 0 + 3 ≤ 64 by decide)]
  exact Nat.mod_eq_of_lt hst

/-- A fault of a working die ends in its reset (R373). -/
theorem dieFault_state {s : State} {d : Nat} (hd : d < 8) (hup : fget s (FLT_DIE.STATE d) = 0) (cause : Nat) :
    fget (dieFault s d cause) (FLT_DIE.STATE d) = 2 := by
  unfold dieFault
  dsimp only
  rw [if_neg (by simp [hup])]
  exact dieSet_state _ hd (by decide)

theorem test_dieFault (s : State) (d cause : Nat) : (dieFault s d cause).test = s.test :=
  test_of_unreached (unreached_dieFault s d cause)

theorem started_of_testFree {s : State} (h : testFree s = true) : s.test.started = 0 := by
  unfold testFree at h
  rw [Bool.and_eq_true, beq_iff_eq] at h
  exact h.2

/-- Where no self-test was begun, a fault of a working die leaves it in reset. -/
theorem testSweep_dieFault_state {s : State} {d : Nat} (hd : d < 8) (hup : fget s (FLT_DIE.STATE d) = 0)
    (hnone : s.test.started = 0) (cause : Nat) : fget (testSweep (dieFault s d cause)) (FLT_DIE.STATE d) = 2 := by
  have hoff : (FLT_DIE d == CTL_TEST_STAT) = false := beq_eq_false_iff_ne.2 (by unfold FLT_DIE CTL_TEST_STAT; omega)
  have hsweep := testSweep_regsBut (s := dieFault s d cause) (by rw [test_dieFault, hnone]) (FLT_DIE d) hoff
  rw [fget_of_getReg_eq (f := FLT_DIE.STATE d) hsweep, dieFault_state hd hup]

theorem test_ctlFault (s : State) : (ctlFault s).test = s.test := by
  have hgates : (forRange 128 s gateClose).test = s.test := by
    rw [(gateClose_all_work s).1]
  have hfaulted : unreached (ctlFault s) = unreached (forRange 128 s gateClose) := by
    simp only [ctlFault, enterFaulted, unreached_setMode, unreached_allElectronic, unreached_setSys]
  exact (test_of_unreached hfaulted).trans hgates

/-- Where no self-test was begun, a fault of CTL leaves the module FAULTED (R378). -/
theorem testSweep_ctlFault_mode {s : State} (hnone : s.test.started = 0) : (testSweep (ctlFault s)).mode = mFAULTED := by
  have hsweep := testSweep_regsBut (s := ctlFault s) (by rw [test_ctlFault, hnone]) PRK_STATUS (by decide)
  exact (fget_of_getReg_eq (f := PRK_STATUS.STATE) hsweep).trans (mode_setMode _ _)

end Sys2Proof.Machine
end

section
/-! SUPPORT. Pace monitors and thermal sensors: the clauses of O10 that speak of them. -/

namespace Sys2Proof.Machine

open Claim

/-! Steps of CTL that signal and keep their own account. -/

/-- From `s` to `t` only CTL's own account changed, beside registers and what an event or an interrupt leaves. -/
def SysSignals (s t : State) : Prop := signalsOnly { s with sys := t.sys } t

theorem SysSignals.trans {s t u : State} (h : SysSignals s t) (k : SysSignals t u) : SysSignals s u := by
  unfold SysSignals signalsOnly at *
  rw [k, h]

theorem SysSignals.setSys (s : State) (f : Sys → Sys) : SysSignals s (setSys s f) := rfl

theorem SysSignals.of_signals {s t : State} (h : Signals s t) : SysSignals s t := by
  obtain ⟨hst, -, -⟩ := h
  unfold SysSignals signalsOnly at *
  rw [hst]

theorem SysSignals.of_regsOnly {s t : State} (h : regsOnly s t) : SysSignals s t := by
  unfold SysSignals signalsOnly
  rw [h]

theorem sys_of_signals {s t : State} (h : Signals s t) : t.sys = s.sys := by
  obtain ⟨hst, -, -⟩ := h
  rw [hst]

theorem mono_of_sysSignals {s t : State} (h : SysSignals s t) : t.mono = s.mono := by
  unfold SysSignals signalsOnly at h
  rw [h]

theorem test_of_sysSignals {s t : State} (h : SysSignals s t) : t.test = s.test := by
  unfold SysSignals signalsOnly at h
  rw [h]

theorem sec_of_sysSignals {s t : State} (h : SysSignals s t) : t.sec = s.sec := by
  unfold SysSignals signalsOnly at h
  rw [h]

theorem mem_of_sysSignals {s t : State} (h : SysSignals s t) : t.mem = s.mem := by
  unfold SysSignals signalsOnly at h
  rw [h]

theorem pic_of_sysSignals {s t : State} (h : SysSignals s t) : t.pic = s.pic := by
  unfold SysSignals signalsOnly at h
  rw [h]

/-- Of the registers, an event touches its counter and what its recording may. -/
theorem event_regsBut (s : State) (block code sev die ctx unit : Nat) (data : List Byte) :
    regsBut (fun o => o == PMC_EVT (256 * block + code) || recordReg o) s (event s block code sev die ctx unit data) := by
  exact (regsBut_bump (o := PMC_EVT (256 * block + code)) s (by simp)).trans
    (regsBut.mono (evrOffer_regsBut _ _) fun o ho => by simp [ho])

/-- An event counts no other event. -/
theorem getReg_event_other (s : State) {block code i : Nat} (hi : i < 0x1080) (h : i ≠ 256 * block + code)
    (sev die ctx unit : Nat) (data : List Byte) :
    getReg (event s block code sev die ctx unit data) (PMC_EVT i) = getReg s (PMC_EVT i) := by
  refine event_regsBut s block code sev die ctx unit data _ ?_
  have hne : PMC_EVT i ≠ PMC_EVT (256 * block + code) := by unfold PMC_EVT; omega
  simp [recordReg_evt hi, hne]

/-- A sweep of self-tests finds none after a step that leaves `CTL_TEST_STAT` and the tests' own times. -/
theorem testSweep_of_kept {s t : State} (hfree : testFree s = true) (hreg : getReg t CTL_TEST_STAT = getReg s CTL_TEST_STAT)
    (htest : t.test = s.test) : testSweep t = t :=
  testSweep_of_free ((testFree_congr hreg htest).trans hfree)

/-! Pace monitors (R31 to R34). -/

/-- MIN after a window of the given rate: a clear that is due takes the rate (R33). -/
def paceLow (s : State) (n rate : Nat) : Nat :=
  if s.sys.clrMin && !tget false s.sys.clrMinDone n then rate else min rate (fget s (PMC_PACE.MIN n))

/-- Is a rate under the block's guaranteed one? -/
def paceBelow (n rate : Nat) : Bool :=
  match paceRate n with
  | some g => decide (rate < g)
  | none => false

/-- The account of a window's end: the window is reported and a clear that was due is done. -/
def paceSys (s : State) (n : Nat) : Sys :=
  { s.sys with
    paceWin := tset 0 s.sys.paceWin n (paceIndex s)
    clrMinDone := if s.sys.clrMin && !tget false s.sys.clrMinDone n then tset false s.sys.clrMinDone n true else s.sys.clrMinDone }

/-- A monitor with the values of a window. -/
def paceTaken (s : State) (n rate tj : Nat) : State :=
  fset (fset (fset { s with sys := paceSys s n } (PMC_PACE.RATE n) rate) (PMC_PACE.TJ n) tj) (PMC_PACE.MIN n) (paceLow s n rate)

theorem fget_paceTaken_below (s : State) (n rate tj : Nat) :
    fget (paceTaken s n rate tj) (PMC_PACE.BELOW n) = fget s (PMC_PACE.BELOW n) := by
  unfold paceTaken
  rw [fget_fset_ne _ _ _ _ (Or.inr (Or.inr (show 16 + 16 ≤ 47 by decide))),
    fget_fset_ne _ _ _ _ (Or.inr (Or.inr (show 32 + 12 ≤ 47 by decide))),
    fget_fset_ne _ _ _ _ (Or.inr (Or.inr (show 0 + 16 ≤ 47 by decide)))]
  rfl

theorem paceTaken_fields (s : State) (n : Nat) {rate tj : Nat} (hrate : rate < 2 ^ 16) (htj : tj < 2 ^ 12) :
    fget (paceTaken s n rate tj) (PMC_PACE.RATE n) = rate ∧ fget (paceTaken s n rate tj) (PMC_PACE.TJ n) = tj ∧
      fget (paceTaken s n rate tj) (PMC_PACE.MIN n) = paceLow s n rate := by
  have hlow : paceLow s n rate < 2 ^ 16 := by
    unfold paceLow
    split <;> omega
  unfold paceTaken
  refine ⟨?_, ?_, ?_⟩
  · rw [fget_fset_ne _ _ _ _ (Or.inr (Or.inl (show 0 + 16 ≤ 16 by decide))),
      fget_fset_ne _ _ _ _ (Or.inr (Or.inl (show 0 + 16 ≤ 32 by decide))),
      fget_fset_same _ _ _ (show 0 + 16 ≤ 64 by decide)]
    exact Nat.mod_eq_of_lt hrate
  · rw [fget_fset_ne _ _ _ _ (Or.inr (Or.inr (show 16 + 16 ≤ 32 by decide))), fget_fset_same _ _ _ (show 32 + 12 ≤ 64 by decide)]
    exact Nat.mod_eq_of_lt htj
  · rw [fget_fset_same _ _ _ (show 16 + 16 ≤ 64 by decide)]
    exact Nat.mod_eq_of_lt hlow

/-- The monitor as the window leaves it: BELOW is set where the window was under the rate and it was not set. -/
def paceMarked (s : State) (n rate tj : Nat) : State :=
  if paceBelow n rate && !fbit s (PMC_PACE.BELOW n) then fset (paceTaken s n rate tj) (PMC_PACE.BELOW n) 1
  else paceTaken s n rate tj

/-- What is reported of a window that had not been. -/
theorem paceWindow_eq {s : State} {n : Nat} (rate tj : Nat) (hres : paceReserved n = false)
    (hdie : paceDie n = 8 ∨ dieUp s (paceDie n) = true) (hwin : tget 0 s.sys.paceWin n ≠ paceIndex s) :
    paceWindow s n rate tj =
      if paceBelow n rate && !fbit s (PMC_PACE.BELOW n) then
        event (paceMarked s n rate tj) 0x0F 1 1 (paceDie n) 0xFFFF n (le 2 rate ++ le 2 tj)
      else paceMarked s n rate tj := by
  have hgo : ¬ (paceReserved n || (paceDie n < 8 && !dieUp s (paceDie n)) || tget 0 s.sys.paceWin n == paceIndex s) = true := by
    rcases hdie with hdie | hdie <;> simp [hres, hdie, hwin]
  have hbelow : fbit (paceTaken s n rate tj) (PMC_PACE.BELOW n) = fbit s (PMC_PACE.BELOW n) := by
    simp [fbit, fget_paceTaken_below]
  have hsteps : paceWindow s n rate tj =
      if !paceBelow n rate || fbit (paceTaken s n rate tj) (PMC_PACE.BELOW n) then paceTaken s n rate tj
      else event (fset (paceTaken s n rate tj) (PMC_PACE.BELOW n) 1) 0x0F 1 1 (paceDie n) 0xFFFF n (le 2 rate ++ le 2 tj) := by
    unfold paceWindow
    rw [if_neg hgo]
    rfl
  rw [hsteps, hbelow, paceMarked]
  cases paceBelow n rate <;> cases fbit s (PMC_PACE.BELOW n) <;> rfl

theorem paceWindow_signals {s : State} {n : Nat} (rate tj : Nat) (hres : paceReserved n = false)
    (hdie : paceDie n = 8 ∨ dieUp s (paceDie n) = true) (hwin : tget 0 s.sys.paceWin n ≠ paceIndex s) :
    Signals (paceMarked s n rate tj) (paceWindow s n rate tj) := by
  rw [paceWindow_eq rate tj hres hdie hwin]
  exact Signals.ite (event_signals _ (by decide) _ _ _ _ _) (Signals.refl _)

theorem paceMarked_regsBut (s : State) (n rate tj : Nat) : regsBut (fun o => o == PMC_PACE n) s (paceMarked s n rate tj) := by
  have hown : (fun o => o == PMC_PACE n) (PMC_PACE n) = true := by simp
  have hset : ∀ (u : State) (f : Fld) (v : Nat), f.off = PMC_PACE n → regsBut (fun o => o == PMC_PACE n) u (fset u f v) :=
    fun u f v hf => regsBut_fset u f (by simp [hf]) v
  have hsys : regsBut (fun o => o == PMC_PACE n) s { s with sys := paceSys s n } := regsBut_of_regs_eq rfl
  have htaken : regsBut (fun o => o == PMC_PACE n) s (paceTaken s n rate tj) :=
    ((hsys.trans (hset _ (PMC_PACE.RATE n) _ rfl)).trans (hset _ (PMC_PACE.TJ n) _ rfl)).trans (hset _ (PMC_PACE.MIN n) _ rfl)
  exact regsBut_ite (htaken.trans (hset _ (PMC_PACE.BELOW n) _ rfl)) htaken

theorem paceMarked_regsOnly (s : State) (n rate tj : Nat) : regsOnly { s with sys := paceSys s n } (paceMarked s n rate tj) := by
  unfold paceMarked
  split <;> rfl

theorem paceMarked_fields (s : State) (n : Nat) {rate tj : Nat} (hrate : rate < 2 ^ 16) (htj : tj < 2 ^ 12) :
    fget (paceMarked s n rate tj) (PMC_PACE.RATE n) = rate ∧ fget (paceMarked s n rate tj) (PMC_PACE.TJ n) = tj ∧
      fget (paceMarked s n rate tj) (PMC_PACE.MIN n) = paceLow s n rate ∧
      fbit (paceMarked s n rate tj) (PMC_PACE.BELOW n) = (fbit s (PMC_PACE.BELOW n) || paceBelow n rate) := by
  obtain ⟨hr, ht, hm⟩ := paceTaken_fields s n hrate htj
  have hb : fbit (paceTaken s n rate tj) (PMC_PACE.BELOW n) = fbit s (PMC_PACE.BELOW n) := by
    simp [fbit, fget_paceTaken_below]
  unfold paceMarked
  split
  · next h =>
    have hone : fbit (fset (paceTaken s n rate tj) (PMC_PACE.BELOW n) 1) (PMC_PACE.BELOW n) = true := by
      rw [fbit, fget_fset_same _ _ _ (show 47 + 1 ≤ 64 by decide)]
      rfl
    rw [Bool.and_eq_true] at h
    rw [fget_fset_ne _ _ _ _ (Or.inr (Or.inl (show 0 + 16 ≤ 47 by decide))),
      fget_fset_ne _ _ _ _ (Or.inr (Or.inl (show 32 + 12 ≤ 47 by decide))),
      fget_fset_ne _ _ _ _ (Or.inr (Or.inl (show 16 + 16 ≤ 47 by decide))), hone, h.1]
    exact ⟨hr, ht, hm, (Bool.or_true _).symm⟩
  · next h =>
    refine ⟨hr, ht, hm, hb.trans ?_⟩
    cases hp : paceBelow n rate
    · rw [Bool.or_false]
    · simpa [hp] using h

/-- A window under the rate is counted once, where BELOW was not set. -/
theorem paceWindow_count {s : State} {n : Nat} (rate tj : Nat) (hres : paceReserved n = false)
    (hdie : paceDie n = 8 ∨ dieUp s (paceDie n) = true) (hwin : tget 0 s.sys.paceWin n ≠ paceIndex s) (hn : n < 1160) :
    getReg (paceWindow s n rate tj) (PMC_EVT 0x0F01) =
      getReg s (PMC_EVT 0x0F01) + (if paceBelow n rate && !fbit s (PMC_PACE.BELOW n) then 1 else 0) := by
  have hmark : getReg (paceMarked s n rate tj) (PMC_EVT 0x0F01) = getReg s (PMC_EVT 0x0F01) :=
    paceMarked_regsBut s n rate tj _ (beq_eq_false_iff_ne.2 (by unfold PMC_EVT PMC_PACE; omega))
  rw [paceWindow_eq rate tj hres hdie hwin]
  split
  · rw [← hmark]
    exact getReg_event_count _ (block := 0x0F) (code := 1) (by decide) _ _ _ _ _
  · exact hmark.trans (BitVec.add_zero _).symm

/-- The row of `PMC_PACE_CLR` in the register table. -/
def paceClrRow : RegDesc := ⟨PMC_PACE_CLR, 8, 1, 0x0, 0x1, 0x0, 0x0, 0x0, 0x1⟩

theorem findReg_paceClr : findReg PMC_PACE_CLR = some paceClrRow := by decide +kernel

theorem regAt_paceClr (s : State) : regAt s PMC_PACE_CLR = some paceClrRow := by
  rw [regAt, if_neg (by simp [show inPortPage PMC_PACE_CLR = false by decide]), findReg_paceClr]

/-- A write of CLR_MIN makes the clear due at every monitor and sets nothing else off. -/
theorem regEffect_paceClr (old s : State) (p : Nat) (e : Option (List Byte)) :
    regEffect old s p PMC_PACE_CLR 1 e = setSys s fun y => { y with clrMin := true, clrMinDone := [] } := rfl

/-- The register keeps nothing of a word written to it. -/
theorem storeFields_paceClr (old w : Word) : storeFields paceClrRow old w = old := by
  rw [storeFields_of_no_w1c rfl, show paceClrRow.rw ||| paceClrRow.rwl = 0 from rfl, BitVec.not_zero, BitVec.and_allOnes,
    BitVec.and_zero, BitVec.or_zero]

/-- An accepted write of CLR_MIN. -/
theorem acceptWrite_paceClr {s : State} (hfree : testFree s = true) (p : Nat) (e : Option (List Byte)) :
    acceptWrite s p PMC_PACE_CLR 1 e =
      setSys (setReg s PMC_PACE_CLR (getReg s PMC_PACE_CLR)) fun y => { y with clrMin := true, clrMinDone := [] } := by
  rw [acceptWrite, regAt_paceClr]
  dsimp only
  rw [regEffect_paceClr, storeFields_paceClr, testSweep_of_free]
  exact (testFree_setReg _ (by decide) _).trans hfree

/-- A register stored as it reads leaves every register. -/
theorem regsBut_setReg_getReg (own : Nat → Bool) (s : State) (o : Nat) : regsBut own s (setReg s o (getReg s o)) := by
  intro o' _
  rw [getReg_setReg]
  split
  · next h => rw [h]
  · rfl

/-! Thermal sensors (R41 to R43). -/

/-- The limit of a sensor by its temperature, as R41 says it. -/
theorem throttleLevel_eq {cur : Nat} (temp : Nat) (hcur : cur ≤ 2) :
    throttleLevel cur temp =
      if 920 < temp then 2 else if cur = 2 ∧ 896 ≤ temp then 2 else if 880 < temp then 1
        else if (cur = 1 ∨ cur = 2) ∧ 856 ≤ temp then 1 else 0 := by
  have hlimited : cur ≠ 0 ↔ cur = 1 ∨ cur = 2 := by omega
  by_cases h : 920 < temp <;> simp [throttleLevel, h, hlimited]

/-- The account of a reading of a compute die's sensor. -/
def sensed (s : State) (id temp : Nat) : State := setSys s fun y => { y with sensorHot := tset 0 y.sensorHot id temp }

/-- A reading below 125 °C that leaves the limit. -/
theorem cpSensor_same {s : State} {d k temp : Nat} (hcool : temp < 1000)
    (h : throttleLevel (tget 0 s.sys.thermal (16 * d + k)) temp = tget 0 s.sys.thermal (16 * d + k)) :
    cpSensor s d k temp = sensed s (16 * d + k) temp := by
  have hcur : tget 0 (sensed s (16 * d + k) temp).sys.thermal (16 * d + k) = tget 0 s.sys.thermal (16 * d + k) := rfl
  unfold cpSensor
  dsimp only
  rw [if_neg (by omega)]
  exact if_pos (beq_iff_eq.2 h)

/-- A reading below 125 °C that changes the limit. -/
theorem cpSensor_changed {s : State} {d k temp : Nat} (hcool : temp < 1000)
    (h : throttleLevel (tget 0 s.sys.thermal (16 * d + k)) temp ≠ tget 0 s.sys.thermal (16 * d + k)) :
    cpSensor s d k temp =
      event (setSys (sensed s (16 * d + k) temp) fun y =>
          { y with thermal := tset 0 y.thermal (16 * d + k) (throttleLevel (tget 0 s.sys.thermal (16 * d + k)) temp) })
        0x0A 2 1 (4 + d) 0xFFFF (16 * d + k) (le 1 (throttleLevel (tget 0 s.sys.thermal (16 * d + k)) temp) ++ le 2 temp) := by
  unfold cpSensor
  dsimp only
  rw [if_neg (by omega)]
  exact if_neg fun hc => h (beq_iff_eq.1 hc)

/-- What a reading below 125 °C of a compute die's sensor leaves. -/
theorem cpSensor_cool {s : State} {d k temp : Nat} (hcool : temp < 1000) :
    tget 0 (cpSensor s d k temp).sys.thermal (16 * d + k) = throttleLevel (tget 0 s.sys.thermal (16 * d + k)) temp ∧
      tget 0 (cpSensor s d k temp).sys.sensorHot (16 * d + k) = temp ∧
      (∀ i, i ≠ 16 * d + k → tget 0 (cpSensor s d k temp).sys.thermal i = tget 0 s.sys.thermal i) ∧
      getReg (cpSensor s d k temp) (PMC_EVT 0x0A02) = getReg s (PMC_EVT 0x0A02) +
        (if throttleLevel (tget 0 s.sys.thermal (16 * d + k)) temp = tget 0 s.sys.thermal (16 * d + k) then 0 else 1) ∧
      regsQuiet (fun _ => false) s (cpSensor s d k temp) ∧ SysSignals s (cpSensor s d k temp) := by
  by_cases h : throttleLevel (tget 0 s.sys.thermal (16 * d + k)) temp = tget 0 s.sys.thermal (16 * d + k)
  · rw [cpSensor_same hcool h, if_pos h]
    exact ⟨h.symm, tget_tset_same _ _ _ _, fun _ _ => rfl, (BitVec.add_zero _).symm, fun _ _ _ => rfl, SysSignals.setSys s _⟩
  · rw [cpSensor_changed hcool h, if_neg h]
    generalize hu : setSys (sensed s (16 * d + k) temp) _ = u
    have hsig := event_signals u (block := 0x0A) (code := 2) (by decide) 1 (4 + d) 0xFFFF (16 * d + k)
      (le 1 (throttleLevel (tget 0 s.sys.thermal (16 * d + k)) temp) ++ le 2 temp)
    have hcount := getReg_event_count u (block := 0x0A) (code := 2) (by decide) 1 (4 + d) 0xFFFF (16 * d + k)
      (le 1 (throttleLevel (tget 0 s.sys.thermal (16 * d + k)) temp) ++ le 2 temp)
    rw [sys_of_signals hsig]
    rw [← hu] at hsig hcount ⊢
    refine ⟨tget_tset_same _ _ _ _, tget_tset_same _ _ _ _, fun i hi => tget_tset_ne _ _ hi _, hcount, ?_, ?_⟩
    · exact fun o _ ho => hsig.2.1 o ho
    · exact ((SysSignals.setSys s _).trans (SysSignals.setSys _ _)).trans (SysSignals.of_signals hsig)

/-- A reading of 125 °C of a working compute die's sensor resets the die (R42). -/
theorem cpSensor_hot {s : State} {d k temp : Nat} (hd : d < 4) (hhot : 1000 ≤ temp) (hnone : s.test.started = 0)
    (hup : fget s (FLT_DIE.STATE (4 + d)) = 0) : fget (testSweep (cpSensor s d k temp)) (FLT_DIE.STATE (4 + d)) = 2 := by
  unfold cpSensor
  dsimp only
  rw [if_pos hhot]
  have hquiet : signalReg (FLT_DIE (4 + d)) = false := signalReg_die ⟨4 + d, by omega⟩
  have hlimit : ∀ u : State, SysSignals s u → getReg u (FLT_DIE (4 + d)) = getReg s (FLT_DIE (4 + d)) →
      fget (testSweep (dieFault (setSys u fun y => { y with heatStop := tset false y.heatStop d true }) (4 + d) 3))
        (FLT_DIE.STATE (4 + d)) = 2 := by
    intro u hu hreg
    refine testSweep_dieFault_state (by omega) ?_ ?_ 3
    · exact (fget_of_getReg_eq (f := FLT_DIE.STATE (4 + d)) hreg).trans hup
    · exact (congrArg TestSt.started (test_of_sysSignals hu)).trans hnone
  split
  · exact hlimit _ (SysSignals.setSys s _) rfl
  · have hsig := fun u die ctx unit data => event_signals u (block := 0x0A) (code := 2) (by decide) 1 die ctx unit data
    refine hlimit _ (((SysSignals.setSys s _).trans (SysSignals.setSys _ _)).trans (SysSignals.of_signals (hsig _ _ _ _ _))) ?_
    exact (hsig _ _ _ _ _).2.1 _ hquiet

end Sys2Proof.Machine
end

section
/-! SUPPORT. Watchdogs (R37 to R39, R362): the clauses of O10 that speak of them. -/

namespace Sys2Proof.Machine

open Claim

/-! Frames of registers beside those that signal. -/

theorem regsQuiet.trans {own : Nat → Bool} {s t u : State} (h : regsQuiet own s t) (k : regsQuiet own t u) : regsQuiet own s u :=
  fun o ho hq => (k o ho hq).trans (h o ho hq)

theorem regsQuiet.of_regsBut {own : Nat → Bool} {s t : State} (h : regsBut own s t) : regsQuiet own s t := fun o ho _ => h o ho

theorem regsQuiet.of_signals {own : Nat → Bool} {s t : State} (h : Signals s t) : regsQuiet own s t := fun o _ ho => h.2.1 o ho

/-- A sweep of self-tests finds none after a step of CTL's own account that leaves `CTL_TEST_STAT`. -/
theorem testSweep_of_sysSignals {s t : State} (hfree : testFree s = true) (h : SysSignals s t)
    (hreg : getReg t CTL_TEST_STAT = getReg s CTL_TEST_STAT) : testSweep t = t :=
  testSweep_of_kept hfree hreg (test_of_sysSignals h)

/-! Isolation and its record. -/

/-- The module with a channel isolated and the item counted for the channel. -/
def wdIsolated (s : State) (chan : Nat) (w : WdTarget) : State :=
  setSys s fun y => { y with
    isolated := tset none y.isolated chan (some (wdIsol s w))
    discards := tmod 0 y.discards chan (· + 1) }

/-- The same with the event recorded. -/
def wdRecorded (s : State) (chan : Nat) (w : WdTarget) : State :=
  event (wdIsolated s chan w) 0x01 3 2 (wdDie w) 0xFFFF chan (le 4 (wdLimit w))

theorem wdRecorded_signals (s : State) (chan : Nat) (w : WdTarget) : Signals (wdIsolated s chan w) (wdRecorded s chan w) :=
  event_signals _ (by decide) _ _ _ _ _

theorem wdRecorded_sys (s : State) (chan : Nat) (w : WdTarget) : (wdRecorded s chan w).sys = (wdIsolated s chan w).sys :=
  sys_of_signals (wdRecorded_signals s chan w)

theorem wdRecorded_sysSignals (s : State) (chan : Nat) (w : WdTarget) : SysSignals s (wdRecorded s chan w) :=
  (SysSignals.setSys s _).trans (SysSignals.of_signals (wdRecorded_signals s chan w))

theorem wdRecorded_quiet (own : Nat → Bool) (s : State) (chan : Nat) (w : WdTarget) : regsQuiet own s (wdRecorded s chan w) :=
  regsQuiet.trans (t := wdIsolated s chan w) (fun _ _ _ => rfl) (regsQuiet.of_signals (wdRecorded_signals s chan w))

theorem wdRecorded_count (s : State) (chan : Nat) (w : WdTarget) :
    getReg (wdRecorded s chan w) (PMC_EVT 0x0103) = getReg s (PMC_EVT 0x0103) + 1 :=
  getReg_event_count (wdIsolated s chan w) (block := 0x01) (code := 3) (by decide) _ _ _ _ _

/-- With its account as the watchdog leaves it, the channel is isolated and counts one item more. -/
theorem isolated_of_kept {s t : State} {chan : Nat} {w : WdTarget} (hiso : t.sys.isolated = (wdIsolated s chan w).sys.isolated)
    (hmono : t.mono = s.mono) : isIsolated t chan = true := by
  have hget : tget none t.sys.isolated chan = some (wdIsol s w) := by
    rw [hiso]
    exact tget_tset_same none s.sys.isolated chan (some (wdIsol s w))
  have hnow : t.now = s.now := congrArg (· / 2 ^ 32) hmono
  rw [isIsolated, hget, hnow]
  cases w with
  | core k mask => simp [wdIsol]
  | memChan i => rfl
  | engine e => rfl
  | die d => rfl

theorem wdIsolated_discards (s : State) (chan : Nat) (w : WdTarget) :
    tget 0 (wdIsolated s chan w).sys.discards chan = tget 0 s.sys.discards chan + 1 :=
  tget_tset_same 0 s.sys.discards chan (tget 0 s.sys.discards chan + 1)

theorem wdExpires_iff {s : State} {chan : Nat} {w : WdTarget} {waited : Nat} :
    wdExpires s chan w waited = true ↔ isIsolated s chan = false ∧ wdLimit w ≤ waited ∧ waited ≤ s.now := by
  simp [wdExpires, and_assoc]

/-- On an isolated channel, or short of the limit, no watchdog expires. -/
theorem watchdogExpire_idle {s : State} {chan : Nat} {w : WdTarget} {waited : Nat} (h : wdExpires s chan w waited = false)
    (it : WdItem) : watchdogExpire s chan w waited it = s := by
  have hidle : watchdog s chan w waited it = s := if_pos (by simp [h])
  cases w with
  | core _ mask => exact (if_neg (by simp [h])).trans hidle
  | memChan i => exact hidle
  | engine e => exact hidle
  | die d => exact hidle

/-! What an expired watchdog treats as failed. -/

theorem watchdogExpire_core {s : State} {chan : Nat} {k : Fin 4} {mask : BitVec 8} {waited : Nat}
    (h : wdExpires s chan (.core k mask) waited = true) :
    watchdogExpire s chan (.core k mask) waited .other = coreSessions (coreFails (wdRecorded s chan (.core k mask)) k) mask := by
  have hfails : watchdog s chan (.core k mask) waited .other = coreFails (wdRecorded s chan (.core k mask)) k := if_neg (by simp [h])
  rw [← hfails]
  exact if_pos h

theorem watchdogExpire_memChan {s : State} {chan : Nat} {i : Fin 640} {waited : Nat}
    (h : wdExpires s chan (.memChan i) waited = true) :
    watchdogExpire s chan (.memChan i) waited .other = failChannel (wdRecorded s chan (.memChan i)) i := if_neg (by simp [h])

theorem watchdogExpire_engine {s : State} {chan : Nat} {e : Fin 32} {waited : Nat}
    (h : wdExpires s chan (.engine e) waited = true) :
    watchdogExpire s chan (.engine e) waited .other =
      if fbit (wdRecorded s chan (.engine e)) (PIC_ENG.FENCED e) then wdRecorded s chan (.engine e)
      else fenceEngine (wdRecorded s chan (.engine e)) e 0xFFFF 0xFFFFFF := if_neg (by simp [h])

theorem watchdogExpire_die {s : State} {chan : Nat} {d : Fin 9} {waited : Nat} (hd : d.val < 8)
    (h : wdExpires s chan (.die d) waited = true) :
    watchdogExpire s chan (.die d) waited .other = dieFault (wdRecorded s chan (.die d)) d 2 := by
  have hfault : watchdog s chan (.die d) waited .other = faultDie (wdRecorded s chan (.die d)) d 2 := if_neg (by simp [h])
  exact hfault.trans (if_neg (by omega))

/-! Locks of a path (R490). -/

/-- One lock, freed if the path holds it. -/
def freeLock (path : Nat) (s : State) (k : Nat) : State :=
  if fget s (CTL_LOCK.HOLDER k) == path then fset s (CTL_LOCK.HOLDER k) 0xF else s

theorem freeLocks_eq (s : State) (path : Nat) : freeLocks s path = forRange 16 s (freeLock path) := rfl

theorem fset_holder_onlyRegs (s : State) {k : Nat} (hk : k < 16) (h : Nat) : OnlyRegs inLock s (fset s (CTL_LOCK.HOLDER k) h) :=
  OnlyRegs.fset s (inLock_lock ⟨k, hk⟩) h

theorem freeLocks_onlyRegs (s : State) (path : Nat) : OnlyRegs inLock s (freeLocks s path) :=
  OnlyRegs.forRange (fun u _ hk => OnlyRegs.ite (fset_holder_onlyRegs u hk 0xF) (OnlyRegs.refl inLock u)) s

/-- Another lock keeps its holder. -/
theorem holder_freeLock_ne (path : Nat) (s : State) {j k : Nat} (h : j ≠ k) :
    fget (freeLock path s k) (CTL_LOCK.HOLDER j) = fget s (CTL_LOCK.HOLDER j) := by
  have hoff : (CTL_LOCK j == CTL_LOCK k) = false := beq_eq_false_iff_ne.2 (by unfold CTL_LOCK; omega)
  refine fget_of_getReg_eq (f := CTL_LOCK.HOLDER j) ?_
  exact regsBut_ite (holder_set_regsBut s k 0xF) (regsBut.refl _ s) (CTL_LOCK j) hoff

theorem holder_freeLock_same (path : Nat) (s : State) (k : Nat) :
    fget (freeLock path s k) (CTL_LOCK.HOLDER k) = if fget s (CTL_LOCK.HOLDER k) = path then 0xF else fget s (CTL_LOCK.HOLDER k) := by
  unfold freeLock
  by_cases h : fget s (CTL_LOCK.HOLDER k) = path
  · rw [if_pos (beq_iff_eq.2 h), if_pos h]
    exact holder_set s k (by decide)
  · rw [if_neg fun hc => h (beq_iff_eq.1 hc), if_neg h]

/-- Of the first n locks, those the path holds are freed. -/
theorem holder_freeFirst (path : Nat) (s : State) (j n : Nat) :
    fget (forRange n s (freeLock path)) (CTL_LOCK.HOLDER j) =
      if j < n ∧ fget s (CTL_LOCK.HOLDER j) = path then 0xF else fget s (CTL_LOCK.HOLDER j) := by
  induction n with
  | zero => exact (if_neg (by simp)).symm
  | succ n ih =>
    rw [forRange_succ]
    rcases eq_or_ne j n with rfl | h
    · rw [holder_freeLock_same, ih]
      simp
    · rw [holder_freeLock_ne path _ h, ih]
      have hlt : j < n ↔ j < n + 1 := by omega
      simp only [hlt]

theorem holder_freeLocks (s : State) (path : Nat) {j : Nat} (hj : j < 16) :
    fget (freeLocks s path) (CTL_LOCK.HOLDER j) = if fget s (CTL_LOCK.HOLDER j) = path then 0xF else fget s (CTL_LOCK.HOLDER j) := by
  rw [freeLocks_eq, holder_freeFirst]
  simp [hj]

/-! A management core fails (R362). -/

/-- The module with a core in reset. -/
def coreInReset (s : State) (k : Nat) : State :=
  setSys s fun y => { y with coreReset := tset 0 y.coreReset k (s.now + 1000000) }

theorem coreInReset_regs (s : State) (k : Nat) : (coreInReset s k).regs = s.regs := setSys_regs s _

/-- The module with a core in reset and its locks freed. -/
def coreStopped (s : State) (k : Nat) : State := freeLocks (coreInReset s k) (k + 1)

theorem coreFails_signals (s : State) (k : Nat) : Signals (coreStopped s k) (coreFails s k) :=
  event_signals _ (by decide) _ _ _ _ _

theorem coreStopped_regsBut (s : State) (k : Nat) : regsBut inLock s (coreStopped s k) :=
  (regsBut_of_regs_eq (coreInReset_regs s k)).trans (freeLocks_onlyRegs (coreInReset s k) (k + 1)).2

theorem coreFails_sysSignals (s : State) (k : Nat) : SysSignals s (coreFails s k) :=
  ((SysSignals.setSys s _).trans (SysSignals.of_regsOnly (freeLocks_onlyRegs (coreInReset s k) (k + 1)).1)).trans
    (SysSignals.of_signals (coreFails_signals s k))

theorem coreFails_sys (s : State) (k : Nat) : (coreFails s k).sys = (coreInReset s k).sys := by
  have hfreed : (coreStopped s k).sys = (coreInReset s k).sys := by
    obtain ⟨hst, -⟩ := freeLocks_onlyRegs (coreInReset s k) (k + 1)
    rw [coreStopped, hst]
  exact (sys_of_signals (coreFails_signals s k)).trans hfreed

theorem coreFails_quiet (s : State) (k : Nat) : regsQuiet inLock s (coreFails s k) :=
  regsQuiet.trans (regsQuiet.of_regsBut (coreStopped_regsBut s k)) (regsQuiet.of_signals (coreFails_signals s k))

/-- A core's failure is counted once. -/
theorem coreFails_count (s : State) (k : Nat) : getReg (coreFails s k) (PMC_EVT 0x0104) = getReg s (PMC_EVT 0x0104) + 1 := by
  rw [← coreStopped_regsBut s k (PMC_EVT 0x0104) (by decide)]
  exact getReg_event_count (coreStopped s k) (block := 0x01) (code := 4) (by decide) _ _ _ _ _

/-- A core's failure counts no watchdog. -/
theorem coreFails_count_watchdog (s : State) (k : Nat) : getReg (coreFails s k) (PMC_EVT 0x0103) = getReg s (PMC_EVT 0x0103) := by
  rw [← coreStopped_regsBut s k (PMC_EVT 0x0103) (by decide)]
  exact getReg_event_other (coreStopped s k) (block := 0x01) (code := 4) (by decide) (by decide) _ _ _ _ _

theorem signalReg_lock : ∀ j : Fin 16, signalReg (CTL_LOCK j) = false := by decide +kernel

/-- The failure of core k frees the locks of its path, k + 1. -/
theorem holder_coreFails (s : State) (k : Nat) {j : Nat} (hj : j < 16) :
    fget (coreFails s k) (CTL_LOCK.HOLDER j) = if fget s (CTL_LOCK.HOLDER j) = k + 1 then 0xF else fget s (CTL_LOCK.HOLDER j) := by
  rw [fget_of_getReg_eq (f := CTL_LOCK.HOLDER j) ((coreFails_signals s k).2.1 _ (signalReg_lock ⟨j, hj⟩))]
  rw [coreStopped, holder_freeLocks _ _ hj, fget_congr (coreInReset_regs s k)]

/-! The sessions a core served (R404, R490). -/

/-- From `s` to `t` sessions ended: locks, the record of events and the latches of their paths may have changed, and the sessions. -/
def SessionsEnded (s t : State) : Prop :=
  t = { s with regs := t.regs, evr := t.evr, time := t.time, sec := { s.sec with sessions := t.sec.sessions } } ∧ regsBut inLock s t

theorem SessionsEnded.refl (s : State) : SessionsEnded s s := ⟨rfl, regsBut.refl inLock s⟩

theorem SessionsEnded.trans {s t u : State} (h : SessionsEnded s t) (k : SessionsEnded t u) : SessionsEnded s u := by
  obtain ⟨hst, hregs⟩ := h
  obtain ⟨htu, kregs⟩ := k
  refine ⟨?_, hregs.trans kregs⟩
  rw [htu, hst]

theorem SessionsEnded.of_onlyRegs {s t : State} (h : OnlyRegs inLock s t) : SessionsEnded s t := by
  obtain ⟨hst, hregs⟩ := h
  refine ⟨?_, hregs⟩
  rw [hst]

/-- A lock held by a later path is held by the one below once a session ends. -/
def lowerLock (path : Nat) (s : State) (k : Nat) : State :=
  if path < fget s (CTL_LOCK.HOLDER k) && fget s (CTL_LOCK.HOLDER k) != 0xF then
    fset s (CTL_LOCK.HOLDER k) (fget s (CTL_LOCK.HOLDER k) - 1)
  else s

theorem lowerLocks_onlyRegs (path : Nat) (s : State) : OnlyRegs inLock s (forRange 16 s (lowerLock path)) :=
  OnlyRegs.forRange (fun u _ hk => OnlyRegs.ite (fset_holder_onlyRegs u hk _) (OnlyRegs.refl inLock u)) s

/-- The locks as the end of a session leaves them. -/
def locksOfEnded (s : State) (sid : Nat) : State :=
  forRange 16 (freeLocks (dropNotes s sid) (sessionPath s sid)) (lowerLock (sessionPath s sid))

theorem locksOfEnded_onlyRegs (s : State) (sid : Nat) : OnlyRegs inLock (dropNotes s sid) (locksOfEnded s sid) :=
  (freeLocks_onlyRegs _ _).trans (lowerLocks_onlyRegs _ _)

/-- A session taken off the list, with its window of records and its latch. -/
def sessionLeft (s : State) (sid : Nat) : State :=
  setTime (setEvr (setSec s fun c => { c with sessions := c.sessions.filter (·.sid != sid) })
    fun e => { e with win := tdel e.win (16 + sid) }) fun t => { t with latches := tdel t.latches (16 + sid) }

/-- The end of an open session. -/
theorem sessionEnd_open {s : State} {sid : Nat} (h : (sessionOf s sid).isNone = false) :
    sessionEnd s sid = sessionLeft (locksOfEnded s sid) sid := by
  rw [sessionEnd, if_neg (by simp [h])]
  rfl

theorem sessionEnd_closed {s : State} {sid : Nat} (h : (sessionOf s sid).isNone = true) : sessionEnd s sid = s := if_pos h

theorem sessionEnd_sessionsEnded (s : State) (sid : Nat) : SessionsEnded s (sessionEnd s sid) := by
  cases h : (sessionOf s sid).isNone
  · rw [sessionEnd_open h]
    have hnotes : SessionsEnded s (dropNotes s sid) := ⟨rfl, regsBut_of_regs_eq rfl⟩
    have hleft : ∀ u, SessionsEnded u (sessionLeft u sid) := fun _ => ⟨rfl, regsBut_of_regs_eq rfl⟩
    exact (hnotes.trans (SessionsEnded.of_onlyRegs (locksOfEnded_onlyRegs s sid))).trans (hleft _)
  · rw [sessionEnd_closed h]
    exact SessionsEnded.refl s

/-- The session is gone, and no other. -/
theorem sessions_sessionEnd (s : State) (sid : Nat) :
    (sessionEnd s sid).sec.sessions = s.sec.sessions.filter (·.sid != sid) := by
  cases h : (sessionOf s sid).isNone
  · have hkept : (locksOfEnded s sid).sec = s.sec := by
      obtain ⟨hst, -⟩ := locksOfEnded_onlyRegs s sid
      rw [hst]
      rfl
    rw [sessionEnd_open h, ← hkept]
    rfl
  · rw [sessionEnd_closed h]
    rw [Option.isNone_iff_eq_none, sessionOf, List.find?_eq_none] at h
    exact (List.filter_eq_self.2 fun k hk => by simpa using h k hk).symm

/-- Sessions ended one after another. -/
theorem sessions_forEach_sessionEnd (lost : List Nat) (s : State) :
    (forEach lost s sessionEnd).sec.sessions = s.sec.sessions.filter fun k => !lost.contains k.sid := by
  induction lost generalizing s with
  | nil => simp [forEach]
  | cons sid lost ih =>
    rw [show forEach (sid :: lost) s sessionEnd = forEach lost (sessionEnd s sid) sessionEnd from rfl, ih, sessions_sessionEnd,
      List.filter_filter]
    refine List.filter_congr fun k _ => ?_
    rw [List.contains_cons, Bool.not_or, Bool.and_comm]
    rfl

theorem forEach_sessionEnd_sessionsEnded (lost : List Nat) (s : State) : SessionsEnded s (forEach lost s sessionEnd) :=
  forEach_keeps (P := SessionsEnded s) (fun u sid _ h => h.trans (sessionEnd_sessionsEnded u sid)) (SessionsEnded.refl s)

/-- The numbers of the sessions at marked places. -/
def markedSids (mask : BitVec 8) (l : List Session) : List Nat := (l.zipIdx.filter fun e => mask.getLsbD e.2).map fun e => e.1.sid

/-- With no number twice, dropping the numbers at marked places drops the marked places. -/
theorem filter_markedSids (mask : BitVec 8) {l : List Session} (hl : (l.map (·.sid)).Nodup) :
    (l.filter fun k => !(markedSids mask l).contains k.sid) = (l.zipIdx.filter fun e => !mask.getLsbD e.2).map (·.1) := by
  have hplace : ∀ e ∈ l.zipIdx, ∀ e' ∈ l.zipIdx, e'.1.sid = e.1.sid → e'.2 = e.2 := by
    intro e he e' he' hsid
    rw [List.mem_zipIdx_iff_getElem?] at he he'
    have hlt : e'.2 < (l.map (·.sid)).length := by
      rw [List.length_map]
      exact (List.getElem?_eq_some_iff.1 he').1
    refine (List.getElem?_inj hlt hl).1 ?_
    rw [List.getElem?_map, List.getElem?_map, he, he', Option.map_some, Option.map_some, hsid]
  have hmarked : ∀ e ∈ l.zipIdx, (markedSids mask l).contains e.1.sid = mask.getLsbD e.2 := by
    intro e he
    rw [Bool.eq_iff_iff, List.contains_iff_mem, markedSids, List.mem_map]
    constructor
    · rintro ⟨e', he', hsid⟩
      obtain ⟨hin, hbit⟩ := List.mem_filter.1 he'
      rwa [hplace e he e' hin hsid] at hbit
    · exact fun hbit => ⟨e, List.mem_filter.2 ⟨he, hbit⟩, rfl⟩
  have hplaces : (l.filter fun k => !(markedSids mask l).contains k.sid) =
      (l.zipIdx.filter fun e => !(markedSids mask l).contains e.1.sid).map (·.1) := by
    rw [← Function.comp_def (fun k : Session => !(markedSids mask l).contains k.sid) Prod.fst, ← List.filter_map,
      List.zipIdx_map_fst]
  rw [hplaces, List.filter_congr fun e he => congrArg (! ·) (hmarked e he)]

/-- The module once what waited on the lost sessions' clears is dropped. -/
def clearsDropped (s : State) (lost : List Nat) : State :=
  setEvr s fun e => { e with clearing := e.clearing.filter fun sid => !lost.contains sid }

theorem coreSessions_eq (s : State) (mask : BitVec 8) :
    coreSessions s mask =
      forEach (markedSids mask s.sec.sessions) (clearsDropped s (markedSids mask s.sec.sessions)) sessionEnd := rfl

theorem coreSessions_sessionsEnded (s : State) (mask : BitVec 8) : SessionsEnded s (coreSessions s mask) := by
  rw [coreSessions_eq]
  refine SessionsEnded.trans ?_ (forEach_sessionEnd_sessionsEnded _ _)
  exact ⟨rfl, regsBut_of_regs_eq rfl⟩

/-- The sessions at marked places end. -/
theorem sessions_coreSessions {s : State} (mask : BitVec 8) (hsid : (s.sec.sessions.map (·.sid)).Nodup) :
    (coreSessions s mask).sec.sessions = (s.sec.sessions.zipIdx.filter fun e => !mask.getLsbD e.2).map (·.1) := by
  rw [coreSessions_eq, sessions_forEach_sessionEnd]
  exact filter_markedSids mask hsid

/-- A core that served none ends none. -/
theorem coreSessions_none (s : State) : Signals s (coreSessions s 0#8) := by
  have hnone : markedSids 0#8 s.sec.sessions = [] := by simp [markedSids]
  rw [coreSessions_eq, hnone]
  exact Signals.setEvr s fun e => { e with clearing := e.clearing.filter fun sid => !([] : List Nat).contains sid }

/-! A memory channel fails. -/

theorem failChannel_failed {s : State} {i : Nat} (h : tget false s.mem.failed i = true) : failChannel s i = s := if_pos h

/-- A channel marked as failed. -/
def channelFailed (s : State) (i : Nat) : State := setMem s fun m => { m with failed := tset false m.failed i true }

/-- A channel that had not failed is marked, beside what the event signals. -/
theorem failChannel_signals {s : State} {i : Nat} (h : ¬ tget false s.mem.failed i = true) :
    Signals (channelFailed s i) (failChannel s i) := by
  rw [failChannel, if_neg h]
  exact event_signals _ (by decide) _ _ _ _ _

/-- What a memory channel's failure does: the channel is failed, and it signals. -/
theorem failChannel_frame (s : State) (i : Nat) :
    (∀ j, tget false (failChannel s i).mem.failed j = true ↔ tget false s.mem.failed j = true ∨ j = i) ∧
      Signals { s with mem := { s.mem with failed := (failChannel s i).mem.failed } } (failChannel s i) ∧
      getReg (failChannel s i) (PMC_EVT 0x0103) = getReg s (PMC_EVT 0x0103) := by
  by_cases h : tget false s.mem.failed i = true
  · rw [failChannel_failed h]
    refine ⟨fun j => ⟨Or.inl, ?_⟩, Signals.refl s, rfl⟩
    rintro (hj | rfl)
    · exact hj
    · exact h
  · have hsig := failChannel_signals h
    have hmem : (failChannel s i).mem = (channelFailed s i).mem := by
      obtain ⟨hst, -, -⟩ := hsig
      rw [hst]
    rw [hmem]
    refine ⟨fun j => ?_, hsig, ?_⟩
    · rw [show (channelFailed s i).mem.failed = tset false s.mem.failed i true from rfl, tget_tset]
      by_cases hj : j = i <;> simp [hj]
    · rw [failChannel, if_neg h]
      exact getReg_event_other (channelFailed s i) (block := 0x0B) (code := 4) (by decide) (by decide) _ _ _ _ _

/-! A reduction engine is fenced. -/

/-- An engine marked as fenced. -/
def engineFenced (s : State) (e : Nat) : State := fset (fset s (PIC_ENG.FENCED e) 1) (PIC_ENG.TESTED e) 0

theorem engineFenced_onlyRegs (s : State) (e : Nat) : OnlyRegs (fun o => o == PIC_ENG e) s (engineFenced s e) :=
  (OnlyRegs.fset s (f := PIC_ENG.FENCED e) (by simp [PIC_ENG.FENCED]) 1).trans
    (OnlyRegs.fset _ (f := PIC_ENG.TESTED e) (by simp [PIC_ENG.TESTED]) 0)

theorem engineFenced_fenced (s : State) (e : Nat) : fbit (engineFenced s e) (PIC_ENG.FENCED e) = true := by
  rw [fbit, engineFenced, fget_fset_ne _ _ _ _ (Or.inr (Or.inl (show 32 + 1 ≤ 33 by decide))),
    fget_fset_same _ _ _ (show 32 + 1 ≤ 64 by decide)]
  rfl

/-- With no chunk at the engine no collective aborts: it is marked, beside what it signals. -/
theorem fenceEngine_signals {s : State} {e : Nat}
    (hfree : ∀ c ∈ s.pic.colls, ∀ k ∈ c.chunks, k.freed = false → k.engine ≠ e) (gn q : Nat) :
    Signals (engineFenced s e) (fenceEngine s e gn q) := by
  have hevent := event_signals (engineFenced s e) (block := 0x09) (code := 3) (by decide) 2 (e / 8)
    (gCtx (group (engineFenced s e) gn)) e (le 2 gn ++ le 4 q)
  generalize hu : event (engineFenced s e) 0x09 3 2 (e / 8) (gCtx (group (engineFenced s e) gn)) e (le 2 gn ++ le 4 q) = u at hevent
  have hpic : u.pic = s.pic := by
    obtain ⟨hst, -, -⟩ := hevent
    rw [hst]
    rfl
  have hnone : (u.pic.colls.filter fun c => c.chunks.any fun k => !k.freed && k.engine == e) = [] := by
    rw [hpic, List.filter_eq_nil_iff]
    intro c hc hany
    obtain ⟨k, hk, hchunk⟩ := List.any_eq_true.1 hany
    rw [Bool.and_eq_true, Bool.not_eq_true', beq_iff_eq] at hchunk
    exact hfree c hc k hk hchunk.1 hchunk.2
  have hsteps : fenceEngine s e gn q =
      ring (abortWhere u (fun c => c.chunks.any fun k => !k.freed && k.engine == e) aENGINE true) 4 := by
    rw [← hu]
    rfl
  rw [hsteps, abortWhere, hnone]
  exact hevent.trans (ring_signals u (by decide))

end Sys2Proof.Machine
end

section
/-! SUPPORT. Pace monitors, thermal sensors and watchdogs, by their commands: they settle O10. -/

namespace Sys2Proof.Machine

open Claim

/-! What each command completes with. -/

theorem signalReg_pace {n : Nat} (hn : n < 1160) : signalReg (PMC_PACE n) = false := by
  have hlost : PMC_PACE n ≠ EVR_LOST := by unfold PMC_PACE EVR_LOST; omega
  have hmerged : PMC_PACE n ≠ IC_MERGED := by unfold PMC_PACE IC_MERGED; omega
  have hsrc : inSrc (PMC_PACE n) = false := by
    unfold inSrc PMC_PACE
    rw [Bool.and_eq_false_iff, decide_eq_false_iff_not, decide_eq_false_iff_not]
    omega
  have hcount : 0x3420000 ≤ PMC_PACE n → 0x3428800 ≤ PMC_PACE n := by unfold PMC_PACE; omega
  simpa [signalReg, hlost, hmerged, hsrc] using hcount

theorem signalReg_engine : ∀ e : Fin 32, signalReg (PIC_ENG e) = false := by decide +kernel

theorem engine_ne_testStat : ∀ e : Fin 32, (CTL_TEST_STAT == PIC_ENG e) = false := by decide +kernel

/-- What the first report of a window leaves: the monitor marked, its account kept, one event where BELOW came on. -/
theorem paceWindow_frame {s : State} {n : Nat} (rate tj : Nat) (hn : n < 1160) (hres : paceReserved n = false)
    (hdie : paceDie n = 8 ∨ dieUp s (paceDie n) = true) (hwin : tget 0 s.sys.paceWin n ≠ paceIndex s) :
    getReg (paceWindow s n rate tj) (PMC_PACE n) = getReg (paceMarked s n rate tj) (PMC_PACE n) ∧
      (paceWindow s n rate tj).sys = paceSys s n ∧ regsQuiet (fun o => o == PMC_PACE n) s (paceWindow s n rate tj) ∧
      SysSignals s (paceWindow s n rate tj) := by
  have hsig := paceWindow_signals rate tj hres hdie hwin
  have hmark := paceMarked_regsOnly s n rate tj
  refine ⟨hsig.2.1 _ (signalReg_pace hn), ?_, ?_, ?_⟩
  · rw [sys_of_signals hsig, hmark]
  · exact regsQuiet.trans (regsQuiet.of_regsBut (paceMarked_regsBut s n rate tj)) (regsQuiet.of_signals hsig)
  · exact ((SysSignals.setSys s fun _ => paceSys s n).trans (SysSignals.of_regsOnly hmark)).trans (SysSignals.of_signals hsig)

/-- A reading that sets nothing off changes nothing, powered or not. -/
theorem exec_thermal_idle {s : State} (hfree : testFree s = true) {u : ThermalUnit} {temp : BitVec 12}
    (h : thermal s u temp.toNat = s) : exec (.thermalSensor u temp) s = .next s := by
  rw [show exec (.thermalSensor u temp) s = live s fun s => testSweep (thermal s u temp.toNat) from rfl, live, h,
    testSweep_of_free hfree, ite_self]

theorem exec_thermal {s : State} (hpow : s.sys.powered = true) (u : ThermalUnit) (temp : BitVec 12) :
    exec (.thermalSensor u temp) s = .next (testSweep (thermal s u temp.toNat)) :=
  live_of_powered hpow fun s => testSweep (thermal s u temp.toNat)

theorem exec_watchdog {s : State} (hpow : s.sys.powered = true) (chan : BitVec 32) (w : WdExpiry) :
    exec (.watchdogExpire chan w) s = .next (testSweep (watchdogExpire s chan.toNat w.target w.waited w.item)) :=
  live_of_powered hpow fun s => testSweep (watchdogExpire s chan.toNat w.target w.waited w.item)

/-- A watchdog whose failure leaves self-tests alone completes with what it treats as failed. -/
theorem exec_watchdog_of_kept {s : State} (hpow : s.sys.powered = true) (hfree : testFree s = true) (chan : BitVec 32)
    (w : WdTarget) (waited : Nat) {t : State} (ht : watchdogExpire s chan.toNat w waited .other = t)
    (hreg : getReg t CTL_TEST_STAT = getReg s CTL_TEST_STAT) (htest : t.test = s.test) :
    exec (.watchdogExpire chan ⟨w, waited, .other⟩) s = .next t := by
  rw [exec_watchdog hpow, ht, testSweep_of_kept hfree hreg htest]

/-- On an isolated channel, or short of the limit, WATCHDOG_EXPIRE changes nothing. -/
theorem exec_watchdog_idle {s : State} (hfree : testFree s = true) {chan : BitVec 32} {w : WdTarget} {waited : Nat}
    (h : isIsolated s chan.toNat = true ∨ waited < wdLimit w) (it : WdItem) :
    exec (.watchdogExpire chan ⟨w, waited, it⟩) s = .next s := by
  have hidle : wdExpires s chan.toNat w waited = false := by
    rw [Bool.eq_false_iff, ne_eq, wdExpires_iff]
    rintro ⟨hiso, hlim, -⟩
    rcases h with h | h
    · simp [hiso] at h
    · omega
  rw [show exec (.watchdogExpire chan ⟨w, waited, it⟩) s =
      live s fun s => testSweep (watchdogExpire s chan.toNat w waited it) from rfl,
    live, watchdogExpire_idle hidle, testSweep_of_free hfree, ite_self]

/-! What an expired watchdog leaves, block by block. -/

/-- The channel is isolated, and counts the item. -/
def ChannelIsolated (s : State) (chan : Nat) (t : State) : Prop :=
  isIsolated t chan = true ∧ tget 0 t.sys.discards chan = tget 0 s.sys.discards chan + 1

theorem ChannelIsolated.of_sys {s t : State} {chan : Nat} {w : WdTarget} (hsys : t.sys = (wdIsolated s chan w).sys)
    (hmono : t.mono = s.mono) : ChannelIsolated s chan t := by
  refine ⟨isolated_of_kept (congrArg Sys.isolated hsys) hmono, ?_⟩
  rw [hsys, wdIsolated_discards]

theorem wdRecorded_isolated (s : State) (chan : Nat) (w : WdTarget) : ChannelIsolated s chan (wdRecorded s chan w) :=
  ChannelIsolated.of_sys (wdRecorded_sys s chan w) (mono_of_sysSignals (wdRecorded_sysSignals s chan w))

/-- What keeps CTL's account and its clock keeps a channel isolated. -/
theorem ChannelIsolated.of_kept {s t u : State} {chan : Nat} (h : ChannelIsolated s chan t)
    (hiso : u.sys.isolated = t.sys.isolated) (hdis : u.sys.discards = t.sys.discards) (hmono : u.mono = t.mono) :
    ChannelIsolated s chan u := by
  obtain ⟨hin, hcount⟩ := h
  have hnow : u.now = t.now := congrArg (· / 2 ^ 32) hmono
  refine ⟨?_, by rw [hdis, hcount]⟩
  rw [isIsolated, hiso, hnow]
  exact hin

/-- A management core (R362). -/
theorem watchdog_core {s : State} {chan : Nat} {k : Fin 4} {mask : BitVec 8} {waited : Nat}
    (h : wdExpires s chan (.core k mask) waited = true) (hsid : (s.sec.sessions.map (·.sid)).Nodup) {t : State}
    (ht : watchdogExpire s chan (.core k mask) waited .other = t) :
    (getReg t (PMC_EVT 0x0103) = getReg s (PMC_EVT 0x0103) + 1 ∧ getReg t (PMC_EVT 0x0104) = getReg s (PMC_EVT 0x0104) + 1) ∧
      ChannelIsolated s chan t ∧ tget 0 t.sys.coreReset k.val = s.now + 1000000 ∧
      t.sec.sessions = (s.sec.sessions.zipIdx.filter fun e => !mask.getLsbD e.2).map (·.1) ∧
      regsQuiet inLock s t ∧ t.test = s.test := by
  have hrec := wdRecorded_sysSignals s chan (.core k mask)
  have hiso := wdRecorded_isolated s chan (.core k mask)
  have hcore : getReg (wdRecorded s chan (.core k mask)) (PMC_EVT 0x0104) = getReg s (PMC_EVT 0x0104) :=
    getReg_event_other (wdIsolated s chan (.core k mask)) (block := 0x01) (code := 3) (by decide) (by decide) _ _ _ _ _
  have hthree := wdRecorded_count s chan (.core k mask)
  have hquiet := wdRecorded_quiet inLock s chan (.core k mask)
  rw [watchdogExpire_core h] at ht
  generalize wdRecorded s chan (.core k mask) = r at *
  have hfails := hrec.trans (coreFails_sysSignals r k)
  obtain ⟨hst, hregs⟩ := coreSessions_sessionsEnded (coreFails r k) mask
  have hsys : t.sys = (coreInReset r k).sys := by rw [← ht, hst, coreFails_sys]
  have hmono : t.mono = r.mono := by rw [← ht, hst, mono_of_sysSignals (coreFails_sysSignals r k)]
  have hsec : (coreFails r k).sec = s.sec := sec_of_sysSignals hfails
  have htest : (coreFails r k).test = s.test := test_of_sysSignals hfails
  refine ⟨⟨?_, ?_⟩, ?_, ?_, ?_, ?_, ?_⟩
  · rw [← ht, hregs _ (by decide), coreFails_count_watchdog, hthree]
  · rw [← ht, hregs _ (by decide), coreFails_count, hcore]
  · refine hiso.of_kept ?_ ?_ hmono
    · rw [hsys, coreInReset, setSys_sys]
    · rw [hsys, coreInReset, setSys_sys]
  · have hnow : r.now = s.now := congrArg (· / 2 ^ 32) (mono_of_sysSignals hrec)
    rw [hsys, ← hnow]
    exact tget_tset_same 0 r.sys.coreReset k.val (r.now + 1000000)
  · rw [← ht, sessions_coreSessions mask (by rw [hsec]; exact hsid), hsec]
  · rw [← ht]
    exact regsQuiet.trans (regsQuiet.trans hquiet (coreFails_quiet r k)) (regsQuiet.of_regsBut hregs)
  · rw [← ht, hst]
    exact htest

/-- A management core that served no session: its locks are freed, and it signals. -/
theorem watchdog_core_unserved {s : State} {chan : Nat} {k : Fin 4} {waited : Nat}
    (h : wdExpires s chan (.core k 0#8) waited = true) {t : State} (ht : watchdogExpire s chan (.core k 0#8) waited .other = t) :
    SysSignals s t ∧ ∀ j, j < 16 → fget t (CTL_LOCK.HOLDER j) =
      if fget s (CTL_LOCK.HOLDER j) = k.val + 1 then 0xF else fget s (CTL_LOCK.HOLDER j) := by
  have hrec := wdRecorded_sysSignals s chan (.core k 0#8)
  have hquiet := wdRecorded_quiet (fun _ => false) s chan (.core k 0#8)
  rw [watchdogExpire_core h] at ht
  generalize wdRecorded s chan (.core k 0#8) = r at *
  have hnone := coreSessions_none (coreFails r k)
  rw [ht] at hnone
  refine ⟨(hrec.trans (coreFails_sysSignals r k)).trans (SysSignals.of_signals hnone), fun j hj => ?_⟩
  have hlock := signalReg_lock ⟨j, hj⟩
  rw [fget_of_getReg_eq (f := CTL_LOCK.HOLDER j) (hnone.2.1 _ hlock), holder_coreFails r k hj,
    fget_of_getReg_eq (f := CTL_LOCK.HOLDER j) (hquiet _ rfl hlock)]

/-- A memory channel. -/
theorem watchdog_memChan {s : State} {chan : Nat} {i : Fin 640} {waited : Nat}
    (h : wdExpires s chan (.memChan i) waited = true) {t : State} (ht : watchdogExpire s chan (.memChan i) waited .other = t) :
    getReg t (PMC_EVT 0x0103) = getReg s (PMC_EVT 0x0103) + 1 ∧ ChannelIsolated s chan t ∧
      (∀ j, tget false t.mem.failed j = true ↔ tget false s.mem.failed j = true ∨ j = i.val) ∧
      regsQuiet (fun _ => false) s t ∧
      signalsOnly { s with sys := t.sys, mem := { s.mem with failed := t.mem.failed } } t ∧ t.test = s.test := by
  have hrec := wdRecorded_sysSignals s chan (.memChan i)
  have hiso := wdRecorded_isolated s chan (.memChan i)
  have hcount := wdRecorded_count s chan (.memChan i)
  have hquiet := wdRecorded_quiet (fun _ => false) s chan (.memChan i)
  rw [watchdogExpire_memChan h] at ht
  generalize wdRecorded s chan (.memChan i) = r at *
  obtain ⟨hfailed, hsig, hkept⟩ := failChannel_frame r i
  rw [ht] at hfailed hsig hkept
  obtain ⟨hst, hregs, -⟩ := hsig
  have hsys : t.sys = r.sys := by rw [hst]
  have htest : r.test = s.test := test_of_sysSignals hrec
  have honly : signalsOnly { s with sys := t.sys, mem := { s.mem with failed := t.mem.failed } } t := by
    unfold SysSignals signalsOnly at *
    rw [hsys, hst, hrec]
  have hmono : t.mono = r.mono := by rw [hst]
  refine ⟨hkept.trans hcount, hiso.of_kept (congrArg Sys.isolated hsys) (congrArg Sys.discards hsys) hmono, fun j => ?_,
    fun o _ ho => (hregs o ho).trans (hquiet o rfl ho), honly, ?_⟩
  · rw [hfailed, mem_of_sysSignals hrec]
  · rw [hst]
    exact htest

/-- A reduction engine none of whose chunks is in progress. -/
theorem watchdog_engine {s : State} {chan : Nat} {e : Fin 32} {waited : Nat}
    (h : wdExpires s chan (.engine e) waited = true)
    (hidle : ∀ c ∈ s.pic.colls, ∀ k ∈ c.chunks, k.freed = false → k.engine ≠ e.val) {t : State}
    (ht : watchdogExpire s chan (.engine e) waited .other = t) :
    fbit t (PIC_ENG.FENCED e.val) = true ∧ ChannelIsolated s chan t ∧ regsQuiet (fun o => o == PIC_ENG e.val) s t ∧
      SysSignals s t := by
  have hrec := wdRecorded_sysSignals s chan (.engine e)
  have hiso := wdRecorded_isolated s chan (.engine e)
  have hquiet := wdRecorded_quiet (fun o => o == PIC_ENG e.val) s chan (.engine e)
  rw [watchdogExpire_engine h] at ht
  generalize wdRecorded s chan (.engine e) = r at *
  by_cases hf : fbit r (PIC_ENG.FENCED e) = true
  · rw [if_pos hf] at ht
    rw [← ht]
    exact ⟨hf, hiso, hquiet, hrec⟩
  · rw [if_neg hf] at ht
    have hsig := fenceEngine_signals (s := r) (e := e) (by rwa [pic_of_sysSignals hrec]) 0xFFFF 0xFFFFFF
    rw [ht] at hsig
    obtain ⟨honly, hregs⟩ := engineFenced_onlyRegs r e
    have hsys : t.sys = r.sys := by rw [sys_of_signals hsig, honly]
    have hstep : SysSignals r t := (SysSignals.of_regsOnly honly).trans (SysSignals.of_signals hsig)
    refine ⟨?_, hiso.of_kept (congrArg Sys.isolated hsys) (congrArg Sys.discards hsys) (mono_of_sysSignals hstep),
      regsQuiet.trans hquiet (regsQuiet.trans (regsQuiet.of_regsBut hregs) (regsQuiet.of_signals hsig)), hrec.trans hstep⟩
    rw [fbit, fget_of_getReg_eq (f := PIC_ENG.FENCED e) (hsig.2.1 _ (signalReg_engine e))]
    exact engineFenced_fenced r e

/-- A working die (R38). -/
theorem watchdog_die {s : State} (hfree : testFree s = true) {chan : Nat} {d : Fin 9} {waited : Nat} (hd : d.val < 8)
    (h : wdExpires s chan (.die d) waited = true) (hup : fget s (FLT_DIE.STATE d) = 0) :
    fget (testSweep (watchdogExpire s chan (.die d) waited .other)) (FLT_DIE.STATE d) = 2 := by
  have hreg := wdRecorded_quiet (fun _ => false) s chan (.die d) (FLT_DIE d) rfl (signalReg_die ⟨d, hd⟩)
  have htest := test_of_sysSignals (wdRecorded_sysSignals s chan (.die d))
  rw [watchdogExpire_die hd h]
  refine testSweep_dieFault_state hd ?_ ?_ 2
  · rw [fget_of_getReg_eq (f := FLT_DIE.STATE d) hreg, hup]
  · rw [htest, started_of_testFree hfree]

/-- Settles O10: each command's step is an account of CTL, the block's own registers and what it signals, clause by clause. -/
theorem monitors : Obligations.Monitors := by
  unfold Obligations.Monitors
  refine ⟨fun n rate tj s hpow hres hdie hwin => ?_, fun p s hacc => ?_, fun d k temp s hpow hfree hcool hcur => ?_,
    fun temp d n s hfree hcool => ⟨?_, ?_, fun hoe => ?_⟩,
    fun temp d k s hpow hfree hhot => ⟨fun hup => ?_, fun hup => ?_, fun hok => ?_⟩,
    fun chan k mask waited s hpow hfree hiso hlim hnow hsid => ?_, fun chan i waited s hpow hfree hiso hlim hnow => ?_,
    fun chan e d waited s hpow hfree hiso hlim hnow => ⟨fun hidle => ?_, fun hd hup => ?_⟩,
    fun chan w waited it s hfree h => exec_watchdog_idle hfree h it, fun chan s hpow hiso => ?_⟩
  · refine ⟨_, live_of_powered hpow fun s => paceWindow s n rate.toNat tj.toNat, ?_⟩
    obtain ⟨hreg, hsys, hquiet, honly⟩ := paceWindow_frame rate.toNat tj.toNat n.isLt hres hdie hwin
    obtain ⟨hr, ht, hm, hb⟩ := paceMarked_fields s n rate.isLt tj.isLt
    refine ⟨(fget_of_getReg_eq (f := PMC_PACE.RATE n) hreg).trans hr, (fget_of_getReg_eq (f := PMC_PACE.TJ n) hreg).trans ht,
      (fget_of_getReg_eq (f := PMC_PACE.MIN n) hreg).trans hm, ?_, paceWindow_count _ _ hres hdie hwin n.isLt, ?_, ?_, hquiet, honly⟩
    · rw [fbit, fget_of_getReg_eq (f := PMC_PACE.BELOW n) hreg]
      exact hb
    · rw [hsys]
      exact tget_tset_same 0 s.sys.paceWin n.val (paceIndex s)
    · rw [hsys]
      rfl
  · obtain ⟨hpow, hlive, hreason, h8, hfree⟩ := accepts_iff.1 hacc
    have hexec : exec (.paceClrMin p) s = .next (acceptWrite s p PMC_PACE_CLR 1 none) := by
      rw [← putReg_of_accepted hreason]
      exact writeWord_of_live hpow hlive h8 1
    refine ⟨_, hexec, ?_⟩
    rw [acceptWrite_paceClr hfree]
    exact ⟨regsBut_setReg_getReg _ s _, rfl⟩
  · obtain ⟨hlevel, hhot, hother, hcount, hquiet, honly⟩ := cpSensor_cool (s := s) (d := d) (k := k) hcool
    rw [throttleLevel_eq _ hcur] at hlevel hcount
    refine ⟨_, (exec_thermal hpow _ _).trans (congrArg Host.Outcome.next ?_), hlevel, hhot, hother, hcount, hquiet, honly⟩
    exact testSweep_of_sysSignals hfree honly (hquiet _ rfl (by decide))
  · exact exec_thermal_idle hfree (if_neg (by omega))
  · exact exec_thermal_idle hfree (if_neg (by omega))
  · exact exec_thermal_idle hfree (if_neg (by omega))
  · refine ⟨_, exec_thermal hpow _ _, ?_⟩
    rw [show thermal s (.sw d) temp.toNat = dieFault s d.val 3 from if_pos hhot]
    exact testSweep_dieFault_state (by omega) hup (started_of_testFree hfree) 3
  · exact ⟨_, exec_thermal hpow _ _, cpSensor_hot d.isLt hhot (started_of_testFree hfree) hup⟩
  · refine ⟨_, exec_thermal hpow _ _, ?_⟩
    rw [show thermal s .ctl temp.toNat = ctlFault s from if_pos hhot]
    exact testSweep_ctlFault_mode (started_of_testFree hfree)
  · have hexp : wdExpires s chan.toNat (.core k mask) waited = true := wdExpires_iff.2 ⟨hiso, hlim, hnow⟩
    obtain ⟨⟨hthree, hfour⟩, ⟨hin, hdis⟩, hreset, hsessions, hquiet, htest⟩ := watchdog_core hexp hsid rfl
    refine ⟨_, exec_watchdog_of_kept hpow hfree chan _ _ rfl (hquiet _ (by decide) (by decide)) htest, hthree, hfour, hin, hdis,
      hreset, hsessions, hquiet, ?_⟩
    rintro rfl
    exact watchdog_core_unserved hexp rfl
  · have hexp : wdExpires s chan.toNat (.memChan i) waited = true := wdExpires_iff.2 ⟨hiso, hlim, hnow⟩
    obtain ⟨hcount, ⟨hin, hdis⟩, hfailed, hquiet, honly, htest⟩ := watchdog_memChan hexp rfl
    exact ⟨_, exec_watchdog_of_kept hpow hfree chan _ _ rfl (hquiet _ rfl (by decide)) htest, hcount, hin, hdis, hfailed,
      hquiet, honly⟩
  · have hexp : wdExpires s chan.toNat (.engine e) waited = true := wdExpires_iff.2 ⟨hiso, hlim, hnow⟩
    obtain ⟨hfenced, ⟨hin, -⟩, hquiet, honly⟩ := watchdog_engine hexp hidle rfl
    exact ⟨_, exec_watchdog_of_kept hpow hfree chan _ _ rfl (hquiet _ (engine_ne_testStat e) (by decide)) (test_of_sysSignals honly),
      hfenced, hin, hquiet, honly⟩
  · have hexp : wdExpires s chan.toNat (.die d) waited = true := wdExpires_iff.2 ⟨hiso, hlim, hnow⟩
    exact ⟨_, exec_watchdog hpow _ _, watchdog_die hfree hd hexp hup⟩
  · refine (live_of_powered hpow fun s => lateAck s chan.toNat).trans (congrArg Host.Outcome.next ?_)
    exact if_pos hiso

end Sys2Proof.Machine
end

section
/-! SUPPORT. Writes of `PRK_CMD`: the operation that each command of chapter 3 names, and that a write sets nothing else off. -/

namespace Sys2Proof.Machine

open Claim

/-! The register. -/

/-- The row of `PRK_CMD` in the register table. -/
def prkCmdRow : RegDesc := ⟨PRK_CMD, 8, 1, 0x0, 0x111FFF, 0x0, 0x0, 0x0, 0x111FFF⟩

theorem findReg_prkCmd : findReg PRK_CMD = some prkCmdRow := by decide +kernel

theorem regAt_prkCmd (s : State) : regAt s PRK_CMD = some prkCmdRow := by
  rw [regAt, if_neg (by simp [show inPortPage PRK_CMD = false by decide]), findReg_prkCmd]

/-- The register keeps nothing of a word written to it. -/
theorem storeFields_prkCmd (old w : Word) : storeFields prkCmdRow old w = old := by
  rw [storeFields_of_no_w1c rfl, show prkCmdRow.rw ||| prkCmdRow.rwl = 0 from rfl, BitVec.not_zero, BitVec.and_allOnes,
    BitVec.and_zero, BitVec.or_zero]

/-- The module with a word of `PRK_CMD` written, before its effect: every register reads as before. -/
def prkTaken (s : State) : State := setReg s PRK_CMD (getReg s PRK_CMD)

theorem getReg_prkTaken (s : State) (o : Nat) : getReg (prkTaken s) o = getReg s o :=
  regsBut_setReg_getReg (fun _ => false) s PRK_CMD o rfl

@[simp] theorem fget_prkTaken (s : State) (f : Fld) : fget (prkTaken s) f = fget s f := fget_of_getReg_eq (getReg_prkTaken s _)

theorem prkTaken_regsBut (own : Nat → Bool) (s : State) : regsBut own s (prkTaken s) := fun o _ => getReg_prkTaken s o

/-! Words of the register. -/

theorem prkWord_lt {op slot die : Nat} (hop : op < 16) (hslot : slot < 32) (hdie : die < 16) (timed preempt : Bool) :
    prkWord op slot die timed preempt < 2 ^ 64 := by
  cases timed <;> cases preempt <;> simp only [prkWord, b2n] <;> split_ifs <;> omega

/-- Each field of a word is what the word was made of. -/
theorem prkWord_fields {op slot die : Nat} (hop : op < 16) (hslot : slot < 32) (hdie : die < 16) (timed preempt : Bool)
    {w : Word} (hw : w = BitVec.ofNat 64 (prkWord op slot die timed preempt)) :
    wget w PRK_CMD.OP = op ∧ wget w PRK_CMD.SLOT = slot ∧ wget w PRK_CMD.DIE = die ∧ wbit w PRK_CMD.PREEMPT = preempt ∧
      wbit w PRK_CMD.TIMED = timed := by
  have hflag : ∀ b : Bool, b2n b < 2 ∧ (b2n b == 1) = b := by decide
  obtain ⟨ht, htimed⟩ := hflag timed
  obtain ⟨hp, hpre⟩ := hflag preempt
  have hnat : w.toNat = op + die * 2 ^ 4 + slot * 2 ^ 8 + b2n preempt * 2 ^ 16 + b2n timed * 2 ^ 20 := by
    rw [hw, BitVec.toNat_ofNat, Nat.mod_eq_of_lt (prkWord_lt hop hslot hdie timed preempt), prkWord]
  simp only [wbit, wget, bits, hnat, PRK_CMD.OP, PRK_CMD.SLOT, PRK_CMD.DIE, PRK_CMD.PREEMPT, PRK_CMD.TIMED]
  refine ⟨by omega, by omega, by omega, ?_, ?_⟩
  · exact (congrArg (a₂ := b2n preempt) (· == 1) (by omega)).trans hpre
  · exact (congrArg (a₂ := b2n timed) (· == 1) (by omega)).trans htimed

/-- An accepted write meets no self-test. -/
theorem testFree_of_accepts {s : State} {p : Fin 13} {off : Nat} {w : Word} (h : accepts s p off w = true) :
    testFree s = true := by
  obtain ⟨-, -, -, -, hfree⟩ := accepts_iff.1 h
  exact hfree

/-! The commands. -/

/-- A write of it sets off the operation that its word names. -/
theorem regEffect_prkCmd (old s : State) (p : Nat) (w : Word) (e : Option (List Byte)) :
    regEffect old s p PRK_CMD w e = weaveEffect s PRK_CMD w := rfl

theorem acceptWrite_prkCmd (s : State) (p : Nat) (w : Word) (e : Option (List Byte)) :
    acceptWrite s p PRK_CMD w e = testSweep (weaveEffect (prkTaken s) PRK_CMD w) := by
  rw [acceptWrite, regAt_prkCmd]
  dsimp only
  rw [regEffect_prkCmd, storeFields_prkCmd, prkTaken]

/-- An accepted command of `PRK_CMD` answers what its operation makes of the state. -/
theorem writeNum_prkCmd {s : State} {p : Fin 13} {v : Nat} (h : accepts s p PRK_CMD (BitVec.ofNat 64 v) = true) :
    writeNum p PRK_CMD v s = .next (testSweep (weaveEffect (prkTaken s) PRK_CMD (BitVec.ofNat 64 v))) := by
  obtain ⟨hpow, hlive, hreason, h8, -⟩ := accepts_iff.1 h
  rw [← acceptWrite_prkCmd s p _ none, ← putReg_of_accepted hreason]
  exact writeWord_of_live hpow hlive h8 _

/-- VERIFY. -/
theorem exec_verify {s : State} {p : Fin 13} {slot : BitVec 5}
    (h : accepts s p PRK_CMD (BitVec.ofNat 64 (1 + slot.toNat * 2 ^ 8)) = true) :
    exec (.verify p slot) s = .next (testSweep (weaveVerify (prkTaken s) slot.toNat)) := by
  have hword : prkWord 1 slot.toNat 0 false false = 1 + slot.toNat * 2 ^ 8 := by simp [prkWord, b2n]
  obtain ⟨hop, hslot, -⟩ := prkWord_fields (op := 1) (die := 0) (by decide) slot.isLt (by decide) false false rfl
  rw [← hword] at h
  refine (writeNum_prkCmd h).trans ?_
  simp [weaveEffect, hop, hslot]

/-- An untimed COMMIT of a motif slot. -/
theorem exec_commitMotif {s : State} {p : Fin 13} {slot : BitVec 5} {preempt : Bool}
    (h : accepts s p PRK_CMD (BitVec.ofNat 64 (2 + slot.toNat * 2 ^ 8 + b2n preempt * 2 ^ 16)) = true) (h2 : 2 ≤ slot.toNat) :
    exec (.commitMotif p slot false preempt) s = .next (testSweep (commitMotif (prkTaken s) slot.toNat false preempt)) := by
  have hword : prkWord 2 slot.toNat 0 false preempt = 2 + slot.toNat * 2 ^ 8 + b2n preempt * 2 ^ 16 := by simp [prkWord, b2n]
  obtain ⟨hop, hslot, -, hpre, htimed⟩ :=
    prkWord_fields (op := 2) (die := 0) (by decide) slot.isLt (by decide) false preempt rfl
  rw [← hword] at h
  refine (writeNum_prkCmd h).trans ?_
  simp [weaveEffect, hop, hslot, hpre, htimed, show ¬ slot.toNat ≤ 1 by omega]

/-- CANCEL. -/
theorem exec_prkCancel {s : State} {p : Fin 13} {slot : BitVec 5}
    (h : accepts s p PRK_CMD (BitVec.ofNat 64 (3 + slot.toNat * 2 ^ 8)) = true) :
    exec (.prkCancel p slot) s = .next (testSweep (weaveCancel (prkTaken s) slot.toNat)) := by
  have hword : prkWord 3 slot.toNat 0 false false = 3 + slot.toNat * 2 ^ 8 := by simp [prkWord, b2n]
  obtain ⟨hop, hslot, -⟩ := prkWord_fields (op := 3) (die := 0) (by decide) slot.isLt (by decide) false false rfl
  rw [← hword] at h
  refine (writeNum_prkCmd h).trans ?_
  simp [weaveEffect, hop, hslot]

/-- REWEAVE_DIE. -/
theorem exec_reweaveDie {s : State} {p : Fin 13} {d : BitVec 4}
    (h : accepts s p PRK_CMD (BitVec.ofNat 64 (4 + d.toNat * 2 ^ 4)) = true) :
    exec (.reweaveDie p d) s = .next (testSweep (weaveDie (prkTaken s) d.toNat)) := by
  have hword : prkWord 4 0 d.toNat false false = 4 + d.toNat * 2 ^ 4 := by simp [prkWord, b2n]
  obtain ⟨hop, -, hdie, -⟩ := prkWord_fields (op := 4) (slot := 0) (by decide) (by decide) d.isLt false false rfl
  rw [← hword] at h
  refine (writeNum_prkCmd h).trans ?_
  simp [weaveEffect, hop, hdie]

end Sys2Proof.Machine
end

section
/-! SUPPORT. How an operation of the weave engine ends (R55), and what the engine takes next (R54, R64). -/

namespace Sys2Proof.Machine

open Claim

/-- A register set leaves every other. -/
theorem regsBut_setReg_self (s : State) (o : Nat) (v : Word) : regsBut (fun x => x == o) s (setReg s o v) :=
  regsBut_setReg (own := fun x => x == o) s (beq_self_eq_true o) v

/-! The engine takes the next operation. -/

theorem firstMotif_mem {l : List Motif} {m : Motif} (h : firstMotif l = some m) : m ∈ l := by
  induction l generalizing m with
  | nil => simp [firstMotif] at h
  | cons a l ih =>
    unfold firstMotif at h
    split at h
    · next => simp [← Option.some.inj h]
    · next b hb =>
      have hmem := ih hb
      split at h
      · simp [← Option.some.inj h]
      · simp [← Option.some.inj h, hmem]

/-- Where no pending motif's time has come, none starts. -/
theorem motifsDue_of_noneDue {s : State} (h : noneDue s) (fuel : Nat) : motifsDue fuel s = s := by
  cases fuel with
  | zero => rfl
  | succ fuel =>
    unfold motifsDue
    split
    · rfl
    · next m hm => simp [h m (firstMotif_mem hm)]

theorem engineNext_of_busy {s : State} (h : s.weave.op ≠ 0) : engineNext s = s := if_pos (by simp [h])

theorem engineNext_of_idle {s : State} (hop : s.weave.op = 0) (hdue : noneDue s) :
    engineNext s = engineTake s.weave.verifyQ s := by
  unfold engineNext
  simp [hop, motifsDue_of_noneDue hdue]

/-- With nothing waiting and nothing due, the engine stays idle. -/
theorem engineNext_of_empty {s : State} (hop : s.weave.op = 0) (hq : s.weave.verifyQ = []) (hdue : noneDue s) :
    engineNext s = s := by
  rw [engineNext_of_idle hop hdue, hq, engineTake, ← hq]
  rfl

/-- The engine with operation `op` begun, of a die and a slot, nothing waiting behind it. -/
def engineStarted (s : State) (op die slot : Nat) : State :=
  setEngine (setWeave s fun w => { w with verifyQ := [], slot := slot, die := die, restaged := false }) op

theorem engineTake_verify (s : State) {slot : Nat} (h : slot < 32) :
    engineTake [slot] s = engineStarted s 1 s.weave.die slot := if_pos h

theorem engineTake_reweave {s : State} {d : Nat} (h : reweaveOk s d = true) :
    engineTake [32 + d] s = engineStarted s 4 d 0 := by
  have hsub : 32 + d - 32 = d := Nat.add_sub_cancel_left 32 d
  unfold engineTake
  dsimp only
  rw [if_neg (by omega), hsub, if_pos h]
  rfl

theorem fget_engineStarted (s : State) {op : Nat} (h : op < 16) (die slot : Nat) :
    fget (engineStarted s op die slot) PRK_STATUS.ENGINE = op :=
  (fget_fset_same _ PRK_STATUS.ENGINE op (by decide)).trans (Nat.mod_eq_of_lt h)

theorem setWeave_regsBut (own : Nat → Bool) (s : State) (f : WeaveSt → WeaveSt) : regsBut own s (setWeave s f) :=
  regsBut_of_regs_eq rfl

theorem setEngine_regsBut {own : Nat → Bool} (h : own PRK_STATUS = true) (s : State) (op : Nat) :
    regsBut own s (setEngine s op) :=
  (setWeave_regsBut own s fun w => { w with op := op }).trans (regsBut_fset _ PRK_STATUS.ENGINE h op)

theorem engineStarted_regsBut (s : State) (op die slot : Nat) :
    regsBut (fun o => o == PRK_STATUS) s (engineStarted s op die slot) :=
  (setWeave_regsBut _ s _).trans (setEngine_regsBut (own := fun o => o == PRK_STATUS) (beq_self_eq_true PRK_STATUS) _ op)

/-! A result. -/

/-- The word of `PRK_RESULT`. -/
def resultWord (code slot sect est : Nat) : Word := BitVec.ofNat 64 (code * 2 ^ 56 + slot * 2 ^ 48 + sect * 2 ^ 32 + est)

/-- Each field of the word is what the word was made of. -/
theorem resultWord_fields {code slot sect est : Nat} (hcode : code < 256) (hslot : slot < 32) (hsect : sect < 65536)
    (hest : est < 2 ^ 24) :
    wget (resultWord code slot sect est) PRK_RESULT.CODE = code ∧ wget (resultWord code slot sect est) PRK_RESULT.SLOT = slot ∧
      wget (resultWord code slot sect est) PRK_RESULT.SECTION = sect := by
  have hnat : (resultWord code slot sect est).toNat = code * 2 ^ 56 + slot * 2 ^ 48 + sect * 2 ^ 32 + est := by
    rw [resultWord, BitVec.toNat_ofNat, Nat.mod_eq_of_lt]
    omega
  simp only [wget, bits, hnat, PRK_RESULT.CODE, PRK_RESULT.SLOT, PRK_RESULT.SECTION]
  refine ⟨?_, ?_, ?_⟩ <;> omega

/-- Beyond `PRK_RESULT`, a result only signals. -/
theorem weaveResult_signals (s : State) (code slot sect est : Nat) :
    Signals (setReg s PRK_RESULT (resultWord code slot sect est)) (weaveResult s code slot sect est) :=
  (event_signals _ (by decide) _ _ _ _ _).trans (ring_signals _ (by decide))

theorem getReg_weaveResult (s : State) (code slot sect est : Nat) :
    getReg (weaveResult s code slot sect est) PRK_RESULT = resultWord code slot sect est :=
  ((weaveResult_signals s code slot sect est).2.1 _ (by decide)).trans (getReg_setReg_same _ _ _)

/-- Of the registers, a result touches `PRK_RESULT` and those that signal. -/
theorem weaveResult_quiet (s : State) (code slot sect est : Nat) :
    regsQuiet (fun o => o == PRK_RESULT) s (weaveResult s code slot sect est) :=
  regsQuiet.trans (t := setReg s PRK_RESULT (resultWord code slot sect est))
    (regsQuiet.of_regsBut (regsBut_setReg_self s _ _)) (regsQuiet.of_signals (weaveResult_signals s code slot sect est))

/-- A register set is part of what only signals. -/
theorem signalsOnly_of_setReg {s t : State} {o : Nat} {v : Word} (h : signalsOnly (setReg s o v) t) : signalsOnly s t := by
  unfold signalsOnly at *
  exact h

theorem weaveResult_signalsOnly (s : State) (code slot sect est : Nat) : signalsOnly s (weaveResult s code slot sect est) :=
  signalsOnly_of_setReg (weaveResult_signals s code slot sect est).1

/-- A result is counted once. -/
theorem weaveResult_count (s : State) (code slot sect est : Nat) :
    getReg (weaveResult s code slot sect est) (PMC_EVT 0x0201) = getReg s (PMC_EVT 0x0201) + 1 := by
  rw [weaveResult, ring_regsBut _ (by decide) _ (recordReg_evt (by decide)),
    ← getReg_setReg_ne s (show PMC_EVT 0x0201 ≠ PRK_RESULT by decide) (resultWord code slot sect est)]
  exact getReg_event_count _ (block := 0x02) (code := 1) (by decide) _ _ _ _ _

/-! Steps of the weave engine that signal and keep its own account. -/

/-- From `s` to `t` only the weave engine's account changed, beside registers and what an event or an interrupt leaves. -/
def WeaveSignals (s t : State) : Prop := signalsOnly { s with weave := t.weave } t

theorem WeaveSignals.trans {s t u : State} (h : WeaveSignals s t) (k : WeaveSignals t u) : WeaveSignals s u := by
  unfold WeaveSignals signalsOnly at *
  rw [k, h]

theorem WeaveSignals.of_signalsOnly {s t : State} (h : signalsOnly s t) : WeaveSignals s t := by
  unfold WeaveSignals signalsOnly at *
  rw [h]

theorem WeaveSignals.of_regsOnly {s t : State} (h : regsOnly s t) : WeaveSignals s t := by
  unfold WeaveSignals signalsOnly
  rw [h]

theorem test_of_weaveSignals {s t : State} (h : WeaveSignals s t) : t.test = s.test := by
  unfold WeaveSignals signalsOnly at h
  rw [h]

/-- A sweep of self-tests finds none after a step of the engine that leaves `CTL_TEST_STAT`. -/
theorem testSweep_of_weaveSignals {s t : State} (hfree : testFree s = true) (h : WeaveSignals s t)
    (hreg : getReg t CTL_TEST_STAT = getReg s CTL_TEST_STAT) : testSweep t = t :=
  testSweep_of_kept hfree hreg (test_of_weaveSignals h)

/-! The end of an operation. -/

/-- Registers in which an operation of the engine shows how it ended. -/
def engineReg (o : Nat) : Bool := o == PRK_STATUS || o == PRK_RESULT

/-- From `s` to `t` the running operation ended with a result, and nothing else happened. -/
structure WeaveEnded (s t : State) (code slot sect : Nat) : Prop where
  /-- The engine is idle, and its account otherwise as before. -/
  weave : t.weave = { s.weave with op := 0 }
  /-- `PRK_STATUS` shows the engine idle. -/
  status : getReg t PRK_STATUS = getReg (fset s PRK_STATUS.ENGINE 0) PRK_STATUS
  /-- `PRK_RESULT` holds the result. -/
  result : getReg t PRK_RESULT = resultWord code slot sect 0
  /-- The event is counted. -/
  count : getReg t (PMC_EVT 0x0201) = getReg s (PMC_EVT 0x0201) + 1
  /-- Beyond these two, only registers that signal changed. -/
  quiet : regsQuiet engineReg s t
  /-- No other unit took part. -/
  signals : WeaveSignals s t

/-- With nothing waiting and nothing due, an operation ends and the engine stays idle. -/
theorem weaveEnd_ended {s : State} (hq : s.weave.verifyQ = []) (hdue : noneDue s) (code slot sect : Nat) :
    WeaveEnded s (weaveEnd s code slot sect) code slot sect := by
  have hidle : setEngine s 0 = { fset s PRK_STATUS.ENGINE 0 with weave := { s.weave with op := 0 } } := rfl
  have hsig := weaveResult_signalsOnly (setEngine s 0) code slot sect 0
  have hweave : (weaveResult (setEngine s 0) code slot sect 0).weave = { s.weave with op := 0 } := by
    rw [hsig]
    rfl
  have htb : (weaveResult (setEngine s 0) code slot sect 0).tbNs = s.tbNs := by
    rw [hsig]
    rfl
  have hnext : weaveEnd s code slot sect = weaveResult (setEngine s 0) code slot sect 0 := by
    refine engineNext_of_empty ?_ ?_ ?_
    · rw [hweave]
    · rw [hweave]
      exact hq
    · rw [noneDue, hweave, htb]
      exact hdue
  have hstatus : regsBut engineReg s (setEngine s 0) := setEngine_regsBut (by decide) s 0
  have hquiet := weaveResult_quiet (setEngine s 0) code slot sect 0
  rw [hnext]
  refine ⟨hweave, hquiet _ (by decide) (by decide), getReg_weaveResult _ _ _ _ _, ?_, ?_, ?_⟩
  · rw [weaveResult_count, hstatus _ (by decide)]
  · refine regsQuiet.trans (regsQuiet.of_regsBut hstatus) fun o ho => hquiet o ?_
    exact (Bool.or_eq_false_iff.1 ho).2
  · exact WeaveSignals.trans (t := setEngine s 0) rfl (WeaveSignals.of_signalsOnly hsig)

namespace WeaveEnded

variable {s t : State} {code slot sect : Nat}

/-- The fields of the result. -/
theorem result_fields (h : WeaveEnded s t code slot sect) (hcode : code < 256) (hslot : slot < 32) (hsect : sect < 65536) :
    fget t PRK_RESULT.CODE = code ∧ fget t PRK_RESULT.SLOT = slot ∧ fget t PRK_RESULT.SECTION = sect := by
  have hword : ∀ f : Fld, f.off = PRK_RESULT → fget t f = wget (resultWord code slot sect 0) f := by
    intro f hf
    rw [fget, hf, h.result, wget]
  obtain ⟨hc, hs, hsec⟩ := resultWord_fields hcode hslot hsect (show 0 < 2 ^ 24 by decide)
  exact ⟨(hword _ rfl).trans hc, (hword _ rfl).trans hs, (hword _ rfl).trans hsec⟩

theorem engine_idle (h : WeaveEnded s t code slot sect) : fget t PRK_STATUS.ENGINE = 0 :=
  (fget_of_getReg_eq (f := PRK_STATUS.ENGINE) h.status).trans (fget_fset_same s PRK_STATUS.ENGINE 0 (by decide))

theorem mode_kept (h : WeaveEnded s t code slot sect) : t.mode = s.mode :=
  (fget_of_getReg_eq (f := PRK_STATUS.STATE) h.status).trans (fget_fset_ne s _ _ 0 (by decide))

theorem verified_kept (h : WeaveEnded s t code slot sect) : fget t PRK_STATUS.VERIFIED = fget s PRK_STATUS.VERIFIED :=
  (fget_of_getReg_eq (f := PRK_STATUS.VERIFIED) h.status).trans (fget_fset_ne s _ _ 0 (by decide))

end WeaveEnded

end Sys2Proof.Machine
end

section
/-! SUPPORT. Verification of a slot (R54 to R56): it settles O11. -/

namespace Sys2Proof.Machine

open Claim

/-! The verified bits. -/

theorem bit_eq_testBit (v k : Nat) : bit v k = v.testBit k := by
  rw [bit, Nat.testBit_eq_decide_div_mod_eq]
  rfl

/-- Setting a slot's verified bit sets that bit and no other. -/
theorem verified_setVerified (s : State) (slot : Nat) {k : Nat} (hk : k < 18) :
    verified (setVerified s slot true) k = (verified s k || (k == slot)) := by
  have hread : fget (setVerified s slot true) PRK_STATUS.VERIFIED = (fget s PRK_STATUS.VERIFIED ||| 2 ^ slot) % 2 ^ 18 :=
    fget_fset_same s PRK_STATUS.VERIFIED _ (by decide)
  rw [verified, verified, hread, bit_eq_testBit, bit_eq_testBit, Nat.testBit_mod_two_pow, Nat.testBit_or, Nat.testBit_two_pow]
  simp only [hk, decide_true, Bool.true_and]
  congr 1
  exact decide_eq_decide.2 eq_comm

theorem setVerified_regsBut (s : State) (slot : Nat) (v : Bool) : regsBut engineReg s (setVerified s slot v) :=
  regsBut_fset s PRK_STATUS.VERIFIED (by decide) _

theorem mode_setVerified (s : State) (slot : Nat) (v : Bool) : (setVerified s slot v).mode = s.mode :=
  fget_fset_ne s PRK_STATUS.VERIFIED PRK_STATUS.STATE _ (by decide)

/-! VERIFY. -/

/-- What waits for the engine, with one operation more. -/
def prkQueued (s : State) (v : Nat) : State :=
  setWeave (prkTaken s) fun w => { w with verifyQ := w.verifyQ ++ [v] }

/-- With the engine idle, the verification starts. -/
theorem weaveVerify_idle {s : State} {slot : Nat} (hop : s.weave.op = 0) (hq : s.weave.verifyQ = []) (hdue : noneDue s)
    (hslot : slot < 32) : weaveVerify (prkTaken s) slot = engineStarted (prkQueued s slot) 1 s.weave.die slot := by
  have hnext : weaveVerify (prkTaken s) slot = engineTake (s.weave.verifyQ ++ [slot]) (prkQueued s slot) :=
    engineNext_of_idle (s := prkQueued s slot) hop hdue
  rw [hnext, hq, List.nil_append, engineTake_verify _ hslot]
  rfl

/-- With the engine busy, it waits behind what waits already. -/
theorem weaveVerify_busy {s : State} {slot : Nat} (hop : s.weave.op ≠ 0) : weaveVerify (prkTaken s) slot = prkQueued s slot :=
  engineNext_of_busy (s := prkQueued s slot) hop

theorem prkQueued_regsBut (own : Nat → Bool) (s : State) (v : Nat) : regsBut own s (prkQueued s v) :=
  (prkTaken_regsBut own s).trans (setWeave_regsBut own _ _)

/-- An operation that begins with the engine idle touches `PRK_STATUS` alone. -/
theorem engineStarted_prkQueued_regsBut (s : State) (op die slot v : Nat) :
    regsBut (fun o => o == PRK_STATUS) s (engineStarted (prkQueued s v) op die slot) :=
  (prkQueued_regsBut _ s v).trans (engineStarted_regsBut _ op die slot)

/-! VERIFY_DONE. -/

/-- The state that a verification ends in, before its result: the slot's verified bit set where it passed. -/
def verifyJudged (s : State) (code : Nat) : State :=
  if code == wOK && !s.weave.restaged then setVerified s s.weave.slot true else s

theorem verifyJudged_regsOnly (s : State) (code : Nat) : regsOnly s (verifyJudged s code) := by
  unfold verifyJudged
  split
  · exact regsOnly_fset s _ _
  · exact regsOnly.refl s

theorem verifyJudged_regsBut (s : State) (code : Nat) : regsBut engineReg s (verifyJudged s code) :=
  regsBut_ite (setVerified_regsBut s _ true) (regsBut.refl _ s)

theorem mode_verifyJudged (s : State) (code : Nat) : (verifyJudged s code).mode = s.mode := by
  unfold verifyJudged
  split
  · exact mode_setVerified s _ true
  · rfl

theorem verified_verifyJudged {s : State} (h : s.weave.restaged = false) (code : Nat) {k : Nat} (hk : k < 18) :
    verified (verifyJudged s code) k = (verified s k || (k == s.weave.slot && code == 0)) := by
  unfold verifyJudged
  by_cases hcode : code = 0
  · rw [if_pos (by simp [h, hcode, wOK]), verified_setVerified s _ hk]
    simp [hcode]
  · rw [if_neg (by simp [h, hcode, wOK])]
    simp [hcode]

/-- A verification that does not pass leaves the verified bits. -/
theorem verifyJudged_of_fail (s : State) {code : Nat} (h : code ≠ 0) : verifyJudged s code = s :=
  if_neg (by simp [h, wOK])

theorem verifyDone_of_error {s : State} (hop : s.weave.op = 1) :
    verifyDone s true = weaveEnd (verifyJudged s wNVS_ERROR) wNVS_ERROR s.weave.slot noSect := by
  unfold verifyDone
  rw [if_neg (by simp [hop])]
  rfl

theorem verifyDone_of_read {s : State} (hop : s.weave.op = 1) :
    verifyDone s false =
      weaveEnd (verifyJudged s (verifySlot s s.weave.slot).1) (verifySlot s s.weave.slot).1 s.weave.slot
        (verifySlot s s.weave.slot).2 := by
  unfold verifyDone
  rw [if_neg (by simp [hop])]
  rfl

/-- The end of a verification touches the engine's registers, its account and what signals. -/
theorem verifyEnd_frame {s : State} (hq : s.weave.verifyQ = []) (hdue : noneDue s) (judged code slot sect : Nat) {t : State}
    (ht : weaveEnd (verifyJudged s judged) code slot sect = t) :
    WeaveEnded (verifyJudged s judged) t code slot sect ∧ t.weave.op = 0 ∧ t.mode = s.mode ∧
      getReg t (PMC_EVT 0x0201) = getReg s (PMC_EVT 0x0201) + 1 ∧ regsQuiet engineReg s t ∧ WeaveSignals s t := by
  have hregs := verifyJudged_regsOnly s judged
  have hbut := verifyJudged_regsBut s judged
  have hweave : (verifyJudged s judged).weave = s.weave := by rw [hregs]
  have htb : (verifyJudged s judged).tbNs = s.tbNs := by
    rw [hregs]
    rfl
  have hend : WeaveEnded (verifyJudged s judged) t code slot sect := by
    rw [← ht]
    refine weaveEnd_ended ?_ ?_ code slot sect
    · rw [hweave, hq]
    · rw [noneDue, hweave, htb]
      exact hdue
  refine ⟨hend, by rw [hend.weave], hend.mode_kept.trans (mode_verifyJudged s judged), ?_, ?_, ?_⟩
  · rw [hend.count, hbut _ (by decide)]
  · exact regsQuiet.trans (regsQuiet.of_regsBut hbut) hend.quiet
  · exact (WeaveSignals.of_regsOnly hregs).trans hend.signals

/-- Bytes spell one number only. -/
theorem le_unle (bs : List Byte) : le bs.length (unle bs) = bs := by
  induction bs with
  | nil => rfl
  | cons b bs ih =>
    have hlow : BitVec.ofNat 8 (b.toNat + 256 * unle bs) = b := by
      apply BitVec.eq_of_toNat_eq
      rw [BitVec.toNat_ofNat]
      omega
    have hhigh : (b.toNat + 256 * unle bs) / 256 = unle bs := by omega
    rw [List.length_cons, unle, le, hlow, hhigh, ih]

/-- An image that does not begin with MAGIC fails the first check (Table 3.7). -/
theorem verifySlot_of_bad_magic {s : State} {slot : Nat} (h : rdBytes (slotBytes s slot) 0 4 ≠ [0x48, 0x50, 0x52, 0x4B]) :
    verifySlot s slot = (0x01, noSect) := by
  have hmagic : rdN (slotBytes s slot) 0 4 ≠ 0x4B525048 := by
    intro hnum
    have hbytes : le 4 (rdN (slotBytes s slot) 0 4) = rdBytes (slotBytes s slot) 0 4 := le_unle (rdBytes (slotBytes s slot) 0 4)
    rw [hnum] at hbytes
    exact h hbytes.symm
  have hhead : headCheck s slot (slotBytes s slot) = (0x01, noSect) := by
    unfold headCheck
    simp [hmagic]
  unfold verifySlot
  simp [hhead, wOK]

end Sys2Proof.Machine

namespace Sys2Proof.Claim

open Machine

/-- Settles O11: VERIFY queues the slot and the idle engine takes it; VERIFY_DONE judges the slot and ends with `weaveEnd`. -/
theorem verifySlot : Obligations.VerifySlot := by
  unfold Obligations.VerifySlot
  refine ⟨fun p slot s hacc hop hq hdue => ?_, fun p slot s hacc hop => ?_, fun s hpow hop hq hdue hslot => ?_,
    fun s hpow hop hq hdue hslot hmagic => ?_, fun s hpow hop hq hdue hslot hstaged => ?_⟩
  · have hbut := engineStarted_prkQueued_regsBut s 1 s.weave.die slot.toNat slot.toNat
    refine ⟨_, exec_verify hacc, ?_⟩
    rw [weaveVerify_idle hop hq hdue slot.isLt, testSweep_of_kept (testFree_of_accepts hacc) (hbut _ (by decide)) rfl]
    exact ⟨fget_engineStarted _ (by decide) _ _, rfl, rfl, hbut, rfl⟩
  · have hbut := prkQueued_regsBut (fun _ => false) s slot.toNat
    refine ⟨_, exec_verify hacc, ?_⟩
    rw [weaveVerify_busy hop, testSweep_of_kept (testFree_of_accepts hacc) (hbut _ rfl) rfl]
    exact ⟨rfl, hbut, rfl⟩
  · obtain ⟨hend, hidle, hmode, hcount, hquiet, hsig⟩ := verifyEnd_frame hq hdue wNVS_ERROR wNVS_ERROR s.weave.slot noSect rfl
    obtain ⟨hcode, hs, -⟩ := hend.result_fields (by decide) (by omega) (by decide)
    refine ⟨_, live_of_powered hpow fun s => verifyDone s true, ?_⟩
    rw [verifyDone_of_error hop]
    refine ⟨⟨hend.engine_idle, hidle, hs, hmode, hcount, hquiet, hsig⟩, hcode, ?_⟩
    rw [hend.verified_kept, verifyJudged_of_fail s (by decide)]
  · obtain ⟨hend, hidle, hmode, hcount, hquiet, hsig⟩ := verifyEnd_frame hq hdue 0x01 0x01 s.weave.slot noSect rfl
    obtain ⟨hcode, hs, hsect⟩ := hend.result_fields (by decide) (by omega) (by decide)
    refine ⟨_, live_of_powered hpow fun s => verifyDone s false, ?_⟩
    rw [verifyDone_of_read hop, verifySlot_of_bad_magic hmagic]
    refine ⟨⟨hend.engine_idle, hidle, hs, hmode, hcount, hquiet, hsig⟩, hcode, hsect, ?_⟩
    rw [hend.verified_kept, verifyJudged_of_fail s (by decide)]
  · obtain ⟨hend, hidle, hmode, hcount, hquiet, hsig⟩ :=
      verifyEnd_frame hq hdue (Machine.verifySlot s s.weave.slot).1 (Machine.verifySlot s s.weave.slot).1 s.weave.slot
        (Machine.verifySlot s s.weave.slot).2 rfl
    refine ⟨_, live_of_powered hpow fun s => verifyDone s false, ?_⟩
    rw [verifyDone_of_read hop]
    refine ⟨fun k hk => ?_, fun hpass => ?_⟩
    · rw [verified, hend.verified_kept]
      exact verified_verifyJudged hstaged _ hk
    · rw [hpass] at hend hidle hmode hcount hquiet hsig ⊢
      obtain ⟨hcode, hs, -⟩ := hend.result_fields (by decide) (by omega) (by decide)
      exact ⟨⟨hend.engine_idle, hidle, hs, hmode, hcount, hquiet, hsig⟩, hcode⟩

end Sys2Proof.Claim
end

section
/-! SUPPORT. Commit and cancel of motifs (R63, R64): it settles O13. -/

namespace Sys2Proof.Machine

open Claim

/-! A command that ends at once with a code. -/

theorem weaveCode_fields (s : State) {code slot : Nat} (hcode : code < 256) (hslot : slot < 32) :
    fget (weaveCode s code slot) PRK_RESULT.CODE = code ∧ fget (weaveCode s code slot) PRK_RESULT.SLOT = slot := by
  obtain ⟨hc, hs, -⟩ := resultWord_fields hcode hslot (show noSect < 65536 by decide) (show 0 < 2 ^ 24 by decide)
  have hword : ∀ f : Fld, f.off = PRK_RESULT → fget (weaveCode s code slot) f = wget (resultWord code slot noSect 0) f := by
    intro f hf
    rw [fget, hf, weaveCode, getReg_weaveResult, wget]
  exact ⟨(hword _ rfl).trans hc, (hword _ rfl).trans hs⟩

/-- A command that meets no self-test and ends with a code changes `PRK_RESULT`, and signals. -/
theorem prkEnded_frame {s : State} (hfree : testFree s = true) {code slot : Nat} (hcode : code < 256) (hslot : slot < 32)
    {t : State} (ht : testSweep (weaveCode (prkTaken s) code slot) = t) :
    fget t PRK_RESULT.CODE = code ∧ fget t PRK_RESULT.SLOT = slot ∧ regsQuiet (fun o => o == PRK_RESULT) s t ∧
      signalsOnly s t := by
  have hquiet : regsQuiet (fun o => o == PRK_RESULT) s (weaveCode (prkTaken s) code slot) :=
    regsQuiet.trans (regsQuiet.of_regsBut (prkTaken_regsBut _ s)) (weaveResult_quiet (prkTaken s) code slot noSect 0)
  have hsig : signalsOnly s (weaveCode (prkTaken s) code slot) :=
    signalsOnly_of_setReg (weaveResult_signalsOnly (prkTaken s) code slot noSect 0)
  obtain ⟨hc, hs⟩ := weaveCode_fields (prkTaken s) hcode hslot
  rw [testSweep_of_weaveSignals hfree (WeaveSignals.of_signalsOnly hsig) (hquiet _ (by decide) (by decide))] at ht
  rw [← ht]
  exact ⟨hc, hs, hquiet, hsig⟩

/-! The list of pending motifs. -/

theorem fget_pendCount (s : State) (h : s.weave.pend.length < 256) :
    fget (pendCount s) PRK_STATUS.PENDING = s.weave.pend.length :=
  (fget_fset_same s PRK_STATUS.PENDING _ (by decide)).trans (Nat.mod_eq_of_lt h)

theorem pendCount_regsBut (s : State) : regsBut (fun o => o == PRK_STATUS) s (pendCount s) :=
  regsBut_setReg_self s PRK_STATUS _

theorem fget_dropMotif_pending {s : State} {slot : Nat} (h : (s.weave.pend.filter (·.slot != slot)).length < 256) :
    fget (dropMotif s slot) PRK_STATUS.PENDING = (s.weave.pend.filter (·.slot != slot)).length := fget_pendCount _ h

theorem dropMotif_regsBut (s : State) (slot : Nat) : regsBut (fun o => o == PRK_STATUS) s (dropMotif s slot) :=
  (setWeave_regsBut _ s _).trans (pendCount_regsBut _)

/-! COMMIT. -/

/-- The motif that a commit of a slot makes pending. -/
def motifOf (s : State) (slot start : Nat) (preempt : Bool) : Motif :=
  { slot := slot, start := start, preempt := preempt, kind := imKind (slotBytes s slot),
    target := (sectAt (slotBytes s slot) 0).target }

/-- The module with a motif made pending. -/
def motifPending (s : State) (m : Motif) : State := pendCount (setWeave s fun w => { w with pend := w.pend ++ [m] })

/-- A commit that meets every condition makes the motif pending. -/
theorem commitMotif_accepted {s : State} {slot : Nat} (hmode : s.mode = mWOVEN) (hver : verified s slot = true)
    (hbase : imBase (slotBytes s slot) = fget s PRK_ACTIVE.IMAGE_ID) (hroom : s.weave.pend.length < 16)
    (hkind : ∀ m ∈ s.weave.pend, m.kind ≠ imKind (slotBytes s slot)) (preempt : Bool) :
    commitMotif s slot false preempt = motifPending s (motifOf s slot s.tbNs preempt) := by
  have hnone : (s.weave.pend.any fun m =>
      m.kind == imKind (slotBytes s slot) && m.target == (sectAt (slotBytes s slot) 0).target) = false := by
    rw [List.any_eq_false]
    intro m hm
    simp [hkind m hm]
  unfold commitMotif
  dsimp only
  rw [if_neg (by simp [hmode]), if_neg (by simp [hver]), if_neg (by simp [hbase]), if_neg (by simp [hnone, hroom]),
    if_neg (by simp)]
  rfl

theorem commitMotif_of_mode {s : State} (h : s.mode ≠ mWOVEN) (slot : Nat) (timed preempt : Bool) :
    commitMotif s slot timed preempt = weaveCode s wBUSY slot := if_pos (by simp [h])

theorem commitMotif_of_unverified {s : State} {slot : Nat} (hmode : s.mode = mWOVEN) (hver : verified s slot = false)
    (timed preempt : Bool) : commitMotif s slot timed preempt = weaveCode s wNOT_VERIFIED slot := by
  unfold commitMotif
  dsimp only
  rw [if_neg (by simp [hmode]), if_pos (by simp [hver])]

/-- The field that fills `PRK_ACTIVE` is its word. -/
theorem fget_imageId (s : State) : fget s PRK_ACTIVE.IMAGE_ID = (getReg s PRK_ACTIVE).toNat := by
  unfold fget bits
  rw [show PRK_ACTIVE.IMAGE_ID = ⟨PRK_ACTIVE, 0, 64⟩ from rfl]
  dsimp only
  omega

theorem mode_prkTaken (s : State) : (prkTaken s).mode = s.mode := fget_prkTaken s _

theorem verified_prkTaken (s : State) (slot : Nat) : verified (prkTaken s) slot = verified s slot := by
  rw [verified, verified, fget_prkTaken]

/-! CANCEL. -/

theorem weaveCancel_of_pending {s : State} {slot : Nat} (h : ∃ m ∈ s.weave.pend, m.slot = slot) :
    weaveCancel s slot = weaveCode (dropMotif s slot) wCANCELLED slot := by
  obtain ⟨m, hm, hslot⟩ := h
  exact if_pos (List.any_eq_true.2 ⟨m, hm, by simp [hslot]⟩)

theorem weaveCancel_of_none {s : State} {slot : Nat} (h : ∀ m ∈ s.weave.pend, m.slot ≠ slot) : weaveCancel s slot = s := by
  refine if_neg ?_
  rw [Bool.not_eq_true, List.any_eq_false]
  intro m hm
  simp [h m hm]

/-- What CANCEL of a pending motif leaves. -/
theorem cancelled_frame (s : State) (slot : Nat) {t : State} (ht : weaveCode (dropMotif (prkTaken s) slot) wCANCELLED slot = t) :
    t.weave = { s.weave with pend := s.weave.pend.filter (·.slot != slot) } ∧
      regsQuiet (fun o => o == PRK_RESULT || o == PRK_STATUS) s t ∧ WeaveSignals s t := by
  have hsig : signalsOnly (dropMotif (prkTaken s) slot) t := by
    rw [← ht]
    exact weaveResult_signalsOnly _ _ _ _ _
  have hdrop : regsBut (fun o => o == PRK_STATUS) s (dropMotif (prkTaken s) slot) :=
    (prkTaken_regsBut _ s).trans (dropMotif_regsBut _ slot)
  have hquiet := weaveResult_quiet (dropMotif (prkTaken s) slot) wCANCELLED slot noSect 0
  refine ⟨?_, ?_, WeaveSignals.trans (t := dropMotif (prkTaken s) slot) rfl (WeaveSignals.of_signalsOnly hsig)⟩
  · rw [hsig]
    rfl
  · rw [← ht]
    intro o ho hs
    obtain ⟨hres, hstat⟩ := Bool.or_eq_false_iff.1 ho
    exact (hquiet o hres hs).trans (hdrop o hstat)

/-- Settles O13: each condition of R63 that fails ends COMMIT with its code, and CANCEL filters the list. -/
theorem motifCommit : Obligations.MotifCommit := by
  unfold Obligations.MotifCommit
  refine ⟨fun p slot preempt s hacc h2 hmode hver hbase hroom hkind => ?_, fun p slot preempt s hacc h2 hmode => ?_,
    fun p slot preempt s hacc h2 hmode hver => ?_, fun p slot s hacc hpend => ?_, fun p slot s hacc hnone => ?_⟩
  · have hmotif : commitMotif (prkTaken s) slot.toNat false preempt =
        motifPending (prkTaken s) (motifOf s slot.toNat s.tbNs preempt) :=
      commitMotif_accepted ((mode_prkTaken s).trans hmode) ((verified_prkTaken s _).trans hver)
        (hbase.trans ((fget_imageId s).symm.trans (fget_prkTaken s _).symm)) hroom hkind preempt
    have hbut : regsBut (fun o => o == PRK_STATUS) s
        (motifPending (prkTaken s) (motifOf s slot.toNat s.tbNs preempt)) :=
      ((prkTaken_regsBut _ s).trans (setWeave_regsBut _ _ _)).trans (pendCount_regsBut _)
    refine ⟨_, exec_commitMotif hacc h2, ?_⟩
    rw [hmotif, testSweep_of_kept (testFree_of_accepts hacc) (hbut _ (by decide)) rfl]
    refine ⟨?_, rfl, ?_, hbut, rfl⟩
    · exact List.map_append
    · refine (fget_pendCount _ ?_).trans List.length_append
      exact Nat.lt_trans (List.length_append.trans_lt (Nat.succ_lt_succ hroom)) (by decide)
  · refine ⟨_, exec_commitMotif hacc h2, ?_⟩
    rw [commitMotif_of_mode (by rwa [mode_prkTaken])]
    exact prkEnded_frame (testFree_of_accepts hacc) (by decide) slot.isLt rfl
  · refine ⟨_, exec_commitMotif hacc h2, ?_⟩
    rw [commitMotif_of_unverified ((mode_prkTaken s).trans hmode) ((verified_prkTaken s _).trans hver)]
    exact prkEnded_frame (testFree_of_accepts hacc) (by decide) slot.isLt rfl
  · obtain ⟨hweave, hquiet, hsig⟩ := cancelled_frame s slot.toNat rfl
    obtain ⟨hcode, hslot⟩ := weaveCode_fields (dropMotif (prkTaken s) slot.toNat) (code := wCANCELLED) (by decide) slot.isLt
    refine ⟨_, exec_prkCancel hacc, ?_⟩
    rw [weaveCancel_of_pending (s := prkTaken s) hpend,
      testSweep_of_weaveSignals (testFree_of_accepts hacc) hsig (hquiet _ (by decide) (by decide))]
    exact ⟨hweave, hcode, hslot, hquiet, hsig⟩
  · refine ⟨_, exec_prkCancel hacc, ?_⟩
    rw [weaveCancel_of_none (s := prkTaken s) hnone, testSweep_of_kept (testFree_of_accepts hacc) (getReg_prkTaken s _) rfl]
    exact ⟨prkTaken_regsBut _ s, rfl⟩

end Sys2Proof.Machine
end

section
/-! SUPPORT. Motif weaves, die re-weaves and deferred role generations (R62 to R70): they settle O14. -/

namespace Sys2Proof.Machine

open Claim

/-! Role generations (R68, R70). -/

/-- Neither the engine's registers nor those that signal are a region's. -/
theorem regionReg_quiet : ∀ r : Fin 64,
    (engineReg (PRK_RGEN r) = false ∧ signalReg (PRK_RGEN r) = false) ∧
      engineReg (BOB_RGN_STAT r) = false ∧ signalReg (BOB_RGN_STAT r) = false := by decide +kernel

theorem genStep_region (s : State) {r : Nat} (hr : r < 64) :
    genStep s r = fset (setWeave s fun w => { w with genAt := tset 0 w.genAt r (s.now + 1) }) (PRK_RGEN.GEN r)
      (regionGen s r + 1) := if_pos hr

theorem fget_genStep_gen (s : State) {r : Nat} (hr : r < 64) :
    fget (genStep s r) (PRK_RGEN.GEN r) = (fget s (PRK_RGEN.GEN r) + 1) % 256 := by
  rw [genStep_region s hr]
  exact fget_fset_same _ (PRK_RGEN.GEN r) _ (show 0 + 8 ≤ 64 by decide)

theorem genStep_regsBut (s : State) {r : Nat} (hr : r < 64) : regsBut (fun o => o == PRK_RGEN r) s (genStep s r) := by
  rw [genStep_region s hr]
  exact (setWeave_regsBut _ s _).trans (regsBut_setReg_self _ (PRK_RGEN r) _)

/-- A change that may take effect, with none waiting, does so at once. -/
theorem genAdvance_of_ready {s : State} {k : Nat} (hready : genReady s k = true) (hwait : genWaits s k = false) :
    genAdvance s k = genStep s k := by
  have hnone : tget 0 s.weave.genWait k = 0 := by simpa [genWaits] using hwait
  exact if_pos (by simp [hready, hnone])

/-- The module with one waiting change of a unit fewer. -/
def genUnqueued (s : State) (k : Nat) : State := setWeave s fun w => { w with genWait := tmod 0 w.genWait k (· - 1) }

/-- Only a group's command waits for a role generation. -/
theorem grpWaitDone_region (s : State) {r : Nat} (hr : r < 64) : grpWaitDone s r = s := by
  unfold grpWaitDone
  split
  · next g _ =>
    have hne : (r == 64 + g) = false := beq_eq_false_iff_ne.2 (by omega)
    simp [hne]
  · rfl

theorem roleGenDeferred_region {s : State} {r : Nat} (hr : r < 64) (hwait : genWaits s r = true) (hready : genReady s r = true) :
    roleGenDeferred s r = genStep (genUnqueued s r) r := by
  unfold roleGenDeferred
  rw [if_pos (by simp [hwait, hready])]
  exact grpWaitDone_region _ hr

/-! MOTIF_START (R64, R65). -/

/-- The one pending motif starts, when its time is reached and the engine is free. -/
theorem motifStart_of_one {s : State} {m : Motif} {im : Image} (hop : s.weave.op = 0) (hpend : s.weave.pend = [m])
    (hstart : m.start ≤ s.tbNs) (hkind : m.kind = 2) (hact : s.sys.active = some im) (hmode : s.mode = mWOVEN) :
    motifStart s = regionMotif (dropMotif s m.slot) m im := by
  have hdue : ¬ (s.weave.op != 0 || decide (s.tbNs < m.start)) = true := by
    simp [hop, hstart]
  have hdrop : (dropMotif s m.slot).mode = mWOVEN :=
    (fget_fset_ne _ PRK_STATUS.PENDING PRK_STATUS.STATE _ (by decide)).trans hmode
  have hwoven : (dropMotif s m.slot).asWoven = true := by simp [State.asWoven, hdrop]
  have hsys : (dropMotif s m.slot).sys.active = some im := hact
  unfold motifStart
  rw [hpend]
  dsimp only [firstMotif]
  rw [if_neg hdue, hsys]
  dsimp only
  rw [if_neg (by simp [hwoven]), if_neg (by simp [hkind])]

/-- The module with a region motif's weave begun. -/
def motifBegun (s : State) (m : Motif) : State :=
  setEngine (setWeave (genStep (fset s (BOB_RGN_STAT.STATE m.target) rIDLE) m.target) fun w =>
    { w with region := m.target, slot := m.slot }) 3

/-- For an IDLE region that nothing owns, and an image that names no owner, the weave begins. -/
theorem regionMotif_begins {s : State} {m : Motif} {im : Image} (hstate : regionState s m.target = rIDLE)
    (hown : regionOwner s m.target = 1024) (hvalid : ∃ e ∈ im.cp, e.1 = m.target)
    (hctx : 1024 ≤ rdN (slotBytes s m.slot) (sectAt (slotBytes s m.slot) 0).off 2) (htest : testActive s = false)
    (hready : genReady s m.target = true) (hwait : genWaits s m.target = false) : regionMotif s m im = motifBegun s m := by
  obtain ⟨e, he, htarget⟩ := hvalid
  have hfree : ¬ rdN (slotBytes s m.slot) (sectAt (slotBytes s m.slot) 0).off 2 < 1024 := by omega
  have hcp : (im.cp.any fun e => e.1 == m.target) = true := List.any_eq_true.2 ⟨e, he, by simp [htarget]⟩
  have hgen : genAdvance (fset s (BOB_RGN_STAT.STATE m.target) rIDLE) m.target =
      genStep (fset s (BOB_RGN_STAT.STATE m.target) rIDLE) m.target := genAdvance_of_ready hready hwait
  unfold regionMotif
  dsimp only
  rw [if_neg (by simp [hstate, rIDLE, rUNPICKING]), if_neg (by simp [htest, hstate, rIDLE, rRUNNING]),
    if_neg (by simp [hctx, hown]), if_neg (by simp [hfree]), if_neg (by simp [hcp]), if_neg (by simp [hstate, rIDLE, rRUNNING]), hgen]
  rfl

/-- Taking a motif off the list leaves what its start is judged by. -/
theorem dropMotif_kept (s : State) (slot : Nat) {r : Nat} (hr : r < 64) :
    regionState (dropMotif s slot) r = regionState s r ∧ regionOwner (dropMotif s slot) r = regionOwner s r ∧
      testActive (dropMotif s slot) = testActive s ∧
      fget (dropMotif s slot) (PRK_RGEN.GEN r) = fget s (PRK_RGEN.GEN r) := by
  have hkeep : ∀ f : Fld, f.off ≠ PRK_STATUS → fget (dropMotif s slot) f = fget s f := fun f hf =>
    fget_of_getReg_eq (dropMotif_regsBut s slot _ (beq_eq_false_iff_ne.2 hf))
  have hne : BOB_RGN_STAT r ≠ PRK_STATUS ∧ PRK_RGEN r ≠ PRK_STATUS := by
    unfold BOB_RGN_STAT PRK_RGEN PRK_STATUS
    omega
  obtain ⟨hstat, hrgen⟩ := hne
  refine ⟨hkeep (BOB_RGN_STAT.STATE r) hstat, ?_, ?_, hkeep (PRK_RGEN.GEN r) hrgen⟩
  · unfold regionOwner fbit
    rw [hkeep (PRK_RGEN.OWNED r) hrgen, hkeep (PRK_RGEN.CONTEXT r) hrgen]
  · unfold testActive
    rw [hkeep CTL_TEST_STAT.STATE (by decide)]

theorem motifBegun_kept (s : State) {m : Motif} (hr : m.target < 64) :
    (motifBegun s m).weave.pend = s.weave.pend ∧ (motifBegun s m).nvs = s.nvs := by
  unfold motifBegun
  rw [genStep_region _ hr]
  exact ⟨rfl, rfl⟩

/-- Registers that the begin of a region motif's weave touches. -/
theorem motifBegun_fields (s : State) {m : Motif} (hr : m.target < 64) :
    fget (motifBegun s m) PRK_STATUS.ENGINE = 3 ∧ fget (motifBegun s m) PRK_STATUS.PENDING = fget s PRK_STATUS.PENDING ∧
      fget (motifBegun s m) (PRK_RGEN.GEN m.target) = (fget s (PRK_RGEN.GEN m.target) + 1) % 256 ∧
      regionState (motifBegun s m) m.target = rIDLE := by
  obtain ⟨⟨hrgen, -⟩, hstat, -⟩ := regionReg_quiet ⟨m.target, hr⟩
  have hne : BOB_RGN_STAT m.target ≠ PRK_RGEN m.target := by unfold BOB_RGN_STAT PRK_RGEN; omega
  have hengine : regsBut engineReg (genStep (fset s (BOB_RGN_STAT.STATE m.target) rIDLE) m.target) (motifBegun s m) :=
    (setWeave_regsBut _ _ _).trans (setEngine_regsBut (by decide) _ 3)
  have hgen := genStep_regsBut (fset s (BOB_RGN_STAT.STATE m.target) rIDLE) hr
  have hstatus : PRK_STATUS ≠ PRK_RGEN m.target ∧ PRK_STATUS ≠ BOB_RGN_STAT m.target := by
    unfold PRK_STATUS PRK_RGEN BOB_RGN_STAT
    omega
  refine ⟨fget_fset_same _ PRK_STATUS.ENGINE 3 (by decide), ?_, ?_, ?_⟩
  · refine (fget_fset_ne _ PRK_STATUS.ENGINE PRK_STATUS.PENDING 3 (by decide)).trans ?_
    refine (fget_of_getReg_eq (f := PRK_STATUS.PENDING) (hgen _ ?_)).trans ?_
    · exact beq_eq_false_iff_ne.2 hstatus.1
    · exact fget_fset_ne _ _ _ _ (Or.inl hstatus.2)
  · rw [fget_of_getReg_eq (f := PRK_RGEN.GEN m.target) (hengine _ hrgen), fget_genStep_gen _ hr,
      fget_fset_ne _ _ _ _ (Or.inl hne.symm)]
  · rw [regionState, fget_of_getReg_eq (f := BOB_RGN_STAT.STATE m.target) (hengine _ hstat),
      fget_of_getReg_eq (f := BOB_RGN_STAT.STATE m.target) (hgen _ (beq_eq_false_iff_ne.2 hne))]
    exact fget_fset_same _ (BOB_RGN_STAT.STATE m.target) _ (show 0 + 3 ≤ 64 by decide)

/-! What a region's section writes (R51, R65). -/

/-- From `s` to `t` bobbins, the sections last written and registers of `own` changed, and nothing else. -/
def RegionWork (own : Nat → Bool) (s t : State) : Prop :=
  t = { s with regs := t.regs, bob := t.bob, weave := { s.weave with regionLive := t.weave.regionLive } } ∧ regsBut own s t

theorem RegionWork.trans {own : Nat → Bool} {s t u : State} (h : RegionWork own s t) (k : RegionWork own t u) :
    RegionWork own s u := by
  obtain ⟨hst, hregs⟩ := h
  obtain ⟨ktu, kregs⟩ := k
  refine ⟨?_, hregs.trans kregs⟩
  rw [ktu, hst]

theorem RegionWork.of_onlyRegs {own : Nat → Bool} {s t : State} (h : OnlyRegs own s t) : RegionWork own s t := by
  obtain ⟨hst, hregs⟩ := h
  refine ⟨?_, hregs⟩
  rw [hst]

theorem RegionWork.setBobbin (own : Nat → Bool) (s : State) (n : Nat) (f : Bobbin → Bobbin) :
    RegionWork own s (setBobbin s n f) := ⟨rfl, regsBut_of_regs_eq rfl⟩

/-- Registers of region r that its section writes. -/
def sectionReg (r o : Nat) : Bool := o == BOB_RGN_STAT r || o == PRK_RGEN r

/-- The module with a region's bobbins and section written, its registers still as before. -/
def regionFilled (s : State) (r mask : Nat) (sec : Option RegionSec) : State :=
  setWeave
    (forRange (maskBobs r mask).length s fun s i =>
      setBobbin s ((maskBobs r mask).getD i 0) fun b =>
        { b with region := r, record := ((sec.map (·.recs)).getD []).getD i {}, progBad := [] })
    fun w => { w with regionLive := tset {} w.regionLive r (sec.getD {}) }

theorem regionFilled_work (own : Nat → Bool) (s : State) (r mask : Nat) (sec : Option RegionSec) :
    RegionWork own s (regionFilled s r mask sec) := by
  refine RegionWork.trans (t := forRange _ s _) ?_ ⟨rfl, setWeave_regsBut _ _ _⟩
  exact forRange_keeps (P := RegionWork own s) (fun u i _ h => h.trans (RegionWork.setBobbin own u _ _)) ⟨rfl, regsBut.refl _ s⟩

theorem writeRegion_eq (s : State) (r mask : Nat) (sec : Option RegionSec) :
    writeRegion s r mask sec =
      setReg (regionFilled s r mask sec) (BOB_RGN_STAT r)
        (BitVec.ofNat 64 (if sec.isSome && dieUp (regionFilled s r mask sec) (4 + r / 16) then rWOVEN else rIDLE)) := by
  cases sec <;> rfl

theorem writeRegion_work (s : State) (r mask : Nat) (sec : Option RegionSec) :
    RegionWork (sectionReg r) s (writeRegion s r mask sec) := by
  rw [writeRegion_eq]
  exact (regionFilled_work _ s r mask sec).trans ⟨rfl, regsBut_setReg _ (by simp [sectionReg]) _⟩

/-- On a working die a region whose section is written reads WOVEN. -/
theorem regionState_writeRegion {s : State} {r : Nat} (hup : dieUp s (4 + r / 16) = true) (mask : Nat) (sec : RegionSec) :
    regionState (writeRegion s r mask (some sec)) r = rWOVEN := by
  have hstill : dieUp (regionFilled s r mask (some sec)) (4 + r / 16) = true := by
    rw [← hup]
    exact dieUp_of_getReg_eq ((regionFilled_work (fun _ => false) s r mask (some sec)).2 _ rfl)
  rw [writeRegion_eq, hstill]
  refine (fget_setReg_same _ (BOB_RGN_STAT.STATE r) _).trans ?_
  simp [wget, bits, BOB_RGN_STAT.STATE, rWOVEN]

theorem regionOwn_onlyRegs (s : State) (r : Nat) (sec : Option RegionSec) :
    OnlyRegs (fun o => o == PRK_RGEN r) s (regionOwn s r sec) := by
  have hset : ∀ (u : State) (f : Fld) (v : Nat), f.off = PRK_RGEN r → OnlyRegs (fun o => o == PRK_RGEN r) u (fset u f v) :=
    fun u f v hf => OnlyRegs.fset (own := fun o => o == PRK_RGEN r) u (beq_iff_eq.2 hf) v
  refine OnlyRegs.trans (hset s (PRK_RGEN.ROLE_TAG r) (sec.getD {}).roleTag.toNat rfl) (OnlyRegs.ite ?_ ?_)
  · exact (hset _ (PRK_RGEN.OWNED r) _ rfl).trans (hset _ (PRK_RGEN.CONTEXT r) _ rfl)
  · exact (hset _ (PRK_RGEN.OWNED r) _ rfl).trans (hset _ (PRK_RGEN.CONTEXT r) _ rfl)

/-- Owner and role tag leave the role generation. -/
theorem fget_regionOwn_gen (s : State) (r : Nat) (sec : Option RegionSec) :
    fget (regionOwn s r sec) (PRK_RGEN.GEN r) = fget s (PRK_RGEN.GEN r) := by
  have hkeep : ∀ (u : State) (f : Fld) (v : Nat), 8 ≤ f.lo → fget (fset u f v) (PRK_RGEN.GEN r) = fget u (PRK_RGEN.GEN r) :=
    fun u f v hlo => fget_fset_ne u f _ v (Or.inr (Or.inl hlo))
  have hown : ∀ (u : State) (a b : Nat), fget (fset (fset u (PRK_RGEN.OWNED r) a) (PRK_RGEN.CONTEXT r) b) (PRK_RGEN.GEN r) =
      fget u (PRK_RGEN.GEN r) := fun u a b =>
    (hkeep _ (PRK_RGEN.CONTEXT r) b (show 8 ≤ 16 by decide)).trans (hkeep u (PRK_RGEN.OWNED r) a (show 8 ≤ 26 by decide))
  unfold regionOwn
  dsimp only
  split <;> exact (hown _ _ _).trans (hkeep s (PRK_RGEN.ROLE_TAG r) _ (show 8 ≤ 32 by decide))

/-! REGION_MOTIF_DONE (R65, R67). -/

/-- The module with a region's section in force and MOD_GEN one on. -/
def regionWoven (s : State) (r mask : Nat) (sec : RegionSec) : State :=
  modGenStep (regionOwn (writeRegion s r mask (some sec)) r (some sec))

/-- A region motif's weave whose die works ends OK with its section in force. -/
theorem regionMotifDone_ok {s : State} {im : Image} (hop : s.weave.op = 3) (hact : s.sys.active = some im)
    (hup : dieUp s (4 + s.weave.region / 16) = true) :
    ∃ mask sec, regionMotifDone s .ok = weaveEnd (regionWoven s s.weave.region mask sec) wOK s.weave.slot noSect := by
  refine ⟨(tget 0 im.cp s.weave.region).toNat,
    readRegion (slotBytes s s.weave.slot) (sectAt (slotBytes s s.weave.slot) 0)
      (16 * (maskGroups (tget 0 im.cp s.weave.region).toNat).length), ?_⟩
  unfold regionMotifDone
  rw [if_neg (by simp [hop]), hact]
  dsimp only
  rw [if_neg (by simp [hup])]
  rfl

/-- A region motif's weave that fails leaves the region's section empty. -/
theorem regionMotifDone_nvsError {s : State} (hop : s.weave.op = 3) :
    regionMotifDone s .nvsError =
      weaveEnd (setWeave s fun w => { w with regionLive := tset {} w.regionLive s.weave.region {} }) wNVS_ERROR s.weave.slot
        noSect := by
  unfold regionMotifDone
  rw [if_neg (by simp [hop])]

theorem modGenStep_regsBut (s : State) : regsBut (fun o => o == PRK_GEN) s (modGenStep s) :=
  regsBut.trans (t := setNvs s fun n => { n with modGen := n.modGen + 1 }) (regsBut_of_regs_eq rfl)
    (regsBut_setReg_self _ PRK_GEN _)

theorem modGenStep_eq (s : State) :
    modGenStep s = setReg (setNvs s fun n => { n with modGen := n.modGen + 1 }) PRK_GEN (s.nvs.modGen + 1) := rfl

/-- A section's registers are the region's own. -/
theorem regionOwned_work (s : State) (r mask : Nat) (sec : Option RegionSec) :
    RegionWork (sectionReg r) s (regionOwn (writeRegion s r mask sec) r sec) := by
  obtain ⟨hst, hregs⟩ := regionOwn_onlyRegs (writeRegion s r mask sec) r sec
  exact (writeRegion_work s r mask sec).trans
    (RegionWork.of_onlyRegs ⟨hst, regsBut.mono hregs fun o ho => by simp [sectionReg, beq_iff_eq.1 ho]⟩)

/-- What a section in force leaves beside the region's own. -/
theorem regionWoven_frame (s : State) (r mask : Nat) (sec : RegionSec) :
    (regionWoven s r mask sec).weave = { s.weave with regionLive := (regionWoven s r mask sec).weave.regionLive } ∧
      (regionWoven s r mask sec).tbNs = s.tbNs ∧ (regionWoven s r mask sec).nvs.modGen = s.nvs.modGen + 1 ∧
      getReg (regionWoven s r mask sec) PRK_GEN = (regionWoven s r mask sec).nvs.modGen := by
  obtain ⟨hst, -⟩ := regionOwned_work s r mask (some sec)
  unfold regionWoven
  rw [modGenStep_eq]
  generalize regionOwn (writeRegion s r mask (some sec)) r (some sec) = u at hst ⊢
  refine ⟨?_, ?_, ?_, getReg_setReg_same _ _ _⟩
  · rw [setReg_weave, setNvs_weave, hst]
  · rw [hst]
    rfl
  · rw [hst]
    rfl

/-- What a section in force shows of its region. -/
theorem regionWoven_fields {s : State} {r : Nat} (hr : r < 64) (hup : dieUp s (4 + r / 16) = true) (mask : Nat)
    (sec : RegionSec) :
    regionState (regionWoven s r mask sec) r = rWOVEN ∧
      fget (regionWoven s r mask sec) (PRK_RGEN.GEN r) = fget s (PRK_RGEN.GEN r) := by
  have hgen := modGenStep_regsBut
  have hown := (regionOwn_onlyRegs (writeRegion s r mask (some sec)) r (some sec)).2
  have hne : BOB_RGN_STAT r ≠ PRK_GEN ∧ BOB_RGN_STAT r ≠ PRK_RGEN r ∧ PRK_RGEN r ≠ PRK_GEN := by
    unfold BOB_RGN_STAT PRK_RGEN PRK_GEN
    omega
  obtain ⟨hstat, hsep, hrgen⟩ := hne
  refine ⟨?_, ?_⟩
  · rw [← regionState_writeRegion hup mask sec]
    exact (fget_of_getReg_eq (f := BOB_RGN_STAT.STATE r) (hgen _ _ (beq_eq_false_iff_ne.2 hstat))).trans
      (fget_of_getReg_eq (f := BOB_RGN_STAT.STATE r) (hown _ (beq_eq_false_iff_ne.2 hsep)))
  · have hwrite : regsBut (fun o => o == BOB_RGN_STAT r) s (writeRegion s r mask (some sec)) := by
      rw [writeRegion_eq]
      exact (regionFilled_work _ s r mask _).2.trans (regsBut_setReg_self _ _ _)
    exact (fget_of_getReg_eq (f := PRK_RGEN.GEN r) (hgen _ _ (beq_eq_false_iff_ne.2 hrgen))).trans
      ((fget_regionOwn_gen _ r _).trans
        (fget_of_getReg_eq (f := PRK_RGEN.GEN r) (hwrite _ (beq_eq_false_iff_ne.2 hsep.symm))))

/-! REWEAVE_DIE and REWEAVE_DONE (R62). -/

theorem reweaveOk_congr {s t : State} {d : Nat} (hreg : getReg t (FLT_DIE d) = getReg s (FLT_DIE d)) (hsys : t.sys = s.sys) :
    reweaveOk t d = reweaveOk s d := by
  unfold reweaveOk coolEnough
  rw [fget_of_getReg_eq (f := FLT_DIE.STATE d) hreg, hsys]

/-- A re-weave that may start does, with the engine idle. -/
theorem weaveDie_idle {s : State} {d : Nat} (hok : reweaveOk s d = true) (hop : s.weave.op = 0) (hq : s.weave.verifyQ = [])
    (hdue : noneDue s) : weaveDie (prkTaken s) d = engineStarted (prkQueued s (32 + d)) 4 d 0 := by
  have htaken : reweaveOk (prkTaken s) d = true := (reweaveOk_congr (getReg_prkTaken s _) rfl).trans hok
  have hqueued : reweaveOk (prkQueued s (32 + d)) d = true :=
    (reweaveOk_congr (prkQueued_regsBut (fun _ => false) s _ _ rfl) rfl).trans hok
  have hnext : engineNext (prkQueued s (32 + d)) = engineTake (s.weave.verifyQ ++ [32 + d]) (prkQueued s (32 + d)) :=
    engineNext_of_idle (s := prkQueued s (32 + d)) hop hdue
  unfold weaveDie
  rw [if_neg (by simp [htaken])]
  refine hnext.trans ?_
  rw [hq, List.nil_append, engineTake_reweave hqueued]

theorem weaveDie_of_not_ready {s : State} {d : Nat} (h : fget s (FLT_DIE.STATE d) ≠ 3) :
    weaveDie (prkTaken s) d = weaveCode (prkTaken s) wBUSY 0 := by
  refine if_pos ?_
  simp [reweaveOk, h]

/-- The module with a switch die re-woven, before the result. -/
def dieRewoven (s : State) (d : Nat) : State :=
  modGenStep (setFlt s fun t => { t with dieJoin := tset false t.dieJoin d true })

theorem reweaveDone_switch {s : State} (hop : s.weave.op = 4) (hdie : s.weave.die < 4)
    (hready : fget s (FLT_DIE.STATE s.weave.die) = 3) :
    reweaveDone s = weaveEnd (dieRewoven s s.weave.die) wOK 0 noSect := by
  unfold reweaveDone
  dsimp only
  rw [if_neg (by simp [hop]), if_neg (by simp [hready]), if_neg (by omega)]
  rfl

theorem dieRewoven_regsBut (s : State) (d : Nat) : regsBut (fun o => o == PRK_GEN) s (dieRewoven s d) :=
  regsBut.trans (t := setFlt s _) (regsBut_of_regs_eq rfl) (modGenStep_regsBut _)

/-- What the end of an operation keeps of the state it ended in. -/
theorem WeaveEnded.kept {s t : State} {code slot sect : Nat} (h : WeaveEnded s t code slot sect) :
    t.nvs = s.nvs ∧ t.bob = s.bob ∧ t.flt = s.flt := by
  have hsig := h.signals
  unfold WeaveSignals signalsOnly at hsig
  rw [hsig]
  exact ⟨rfl, rfl, rfl⟩

/-- Settles O14: the start is `motifBegun`, and each end is `weaveEnd` of what the weave put in force. -/
theorem motifAndDieWeave : Obligations.MotifAndDieWeave := by
  unfold Obligations.MotifAndDieWeave
  refine ⟨fun m im s hpow hop hpend hstart hkind hr hact hmode htest hstate hown hvalid hctx hready hwait => ?_,
    fun im s hpow hop hq hdue hslot hr hact hup => ?_, fun s hpow hop hq hdue hslot => ?_,
    fun p d s hacc hok hop hq hdue => ?_, fun p d s hacc hdie => ?_, fun s hpow hop hq hdue hdie hready => ?_,
    fun r s hpow hwait hready => ?_, fun r s hready => ?_⟩
  · obtain ⟨hstate', hown', htest', hgen'⟩ := dropMotif_kept s m.slot hr
    have hbegin : motifStart s = motifBegun (dropMotif s m.slot) m :=
      (motifStart_of_one hop hpend hstart hkind hact hmode).trans
        (regionMotif_begins (hstate'.trans hstate) (hown'.trans hown) hvalid hctx (htest'.trans htest) hready hwait)
    have hlist : s.weave.pend.filter (·.slot != m.slot) = [] := by simp [hpend]
    obtain ⟨hpend', hnvs⟩ := motifBegun_kept (dropMotif s m.slot) hr
    obtain ⟨hengine, hcount, hgen, hidle⟩ := motifBegun_fields (dropMotif s m.slot) hr
    refine ⟨_, live_of_powered hpow motifStart, ?_⟩
    rw [hbegin]
    refine ⟨hengine, rfl, rfl, rfl, ?_, ?_, hgen.trans (by rw [hgen']), hidle, ?_⟩
    · exact hpend'.trans hlist
    · rw [hcount, fget_dropMotif_pending (by simp [hlist]), hlist]
      rfl
    · exact hnvs
  · obtain ⟨mask, sec, hdone⟩ := regionMotifDone_ok hop hact hup
    obtain ⟨hweave, htb, hmod, hgen⟩ := regionWoven_frame s s.weave.region mask sec
    obtain ⟨hwoven, hrgen⟩ := regionWoven_fields hr hup mask sec
    have hend := weaveEnd_ended (s := regionWoven s s.weave.region mask sec) (by rw [hweave, hq])
      (by rw [noneDue, hweave, htb]; exact hdue) wOK s.weave.slot noSect
    obtain ⟨hcode, hs, -⟩ := hend.result_fields (by decide) (by omega) (by decide)
    obtain ⟨hnvs, -, -⟩ := hend.kept
    obtain ⟨⟨hown, hquiet⟩, hown', hquiet'⟩ := regionReg_quiet ⟨s.weave.region, hr⟩
    refine ⟨_, live_of_powered hpow fun s => regionMotifDone s .ok, ?_⟩
    rw [hdone]
    refine ⟨?_, ?_, ?_, hcode, hs, hend.engine_idle, ?_⟩
    · exact (fget_of_getReg_eq (f := BOB_RGN_STAT.STATE _) (hend.quiet _ hown' hquiet')).trans hwoven
    · rw [hnvs, hmod]
    · rw [hend.quiet _ (by decide) (by decide), hgen, hnvs]
    · exact (fget_of_getReg_eq (f := PRK_RGEN.GEN _) (hend.quiet _ hown hquiet)).trans hrgen
  · have hend := weaveEnd_ended (s := setWeave s fun w => { w with regionLive := tset {} w.regionLive s.weave.region {} }) hq hdue
      wNVS_ERROR s.weave.slot noSect
    obtain ⟨hcode, -, -⟩ := hend.result_fields (by decide) (by omega) (by decide)
    obtain ⟨hnvs, hbob, -⟩ := hend.kept
    refine ⟨_, live_of_powered hpow fun s => regionMotifDone s .nvsError, ?_⟩
    rw [regionMotifDone_nvsError hop]
    exact ⟨hcode, hend.engine_idle, hnvs, hbob, hend.quiet, WeaveSignals.trans (t := setWeave s _) rfl hend.signals⟩
  · have hbut := engineStarted_prkQueued_regsBut s 4 d.toNat 0 (32 + d.toNat)
    refine ⟨_, exec_reweaveDie hacc, ?_⟩
    rw [weaveDie_idle hok hop hq hdue, testSweep_of_kept (testFree_of_accepts hacc) (hbut _ (by decide)) rfl]
    exact ⟨fget_engineStarted _ (by decide) _ _, rfl, rfl, hbut, rfl⟩
  · refine ⟨_, exec_reweaveDie hacc, ?_⟩
    rw [weaveDie_of_not_ready hdie]
    obtain ⟨hcode, -, hquiet, hsig⟩ :=
      prkEnded_frame (testFree_of_accepts hacc) (code := wBUSY) (slot := 0) (by decide) (by decide) rfl
    exact ⟨hcode, hquiet, hsig⟩
  · have hend := weaveEnd_ended (s := dieRewoven s s.weave.die) hq hdue wOK 0 noSect
    obtain ⟨hcode, -, -⟩ := hend.result_fields (by decide) (by decide) (by decide)
    obtain ⟨hnvs, hbob, hflt⟩ := hend.kept
    refine ⟨_, live_of_powered hpow reweaveDone, ?_⟩
    rw [reweaveDone_switch hop hdie hready]
    refine ⟨?_, ?_, hcode, ?_, hbob, ?_⟩
    · rw [hnvs]
      rfl
    · rw [hend.quiet _ (by decide) (by decide), hnvs]
      exact getReg_setReg_same _ _ _
    · rw [hflt]
      exact tget_tset_same false s.flt.dieJoin s.weave.die true
    · intro o ho hs
      obtain ⟨howner, hgen⟩ := Bool.or_eq_false_iff.1 ho
      exact (hend.quiet o howner hs).trans (dieRewoven_regsBut s _ o hgen)
  · refine ⟨_, live_of_powered hpow fun s => roleGenDeferred s r, ?_⟩
    rw [roleGenDeferred_region r.isLt hwait hready]
    refine ⟨fget_genStep_gen _ r.isLt, ?_, ?_, (setWeave_regsBut _ s _).trans (genStep_regsBut (genUnqueued s r) r.isLt), ?_⟩
    · rw [genStep_region _ r.isLt]
      exact tget_tset_same 0 s.weave.genWait r.val (tget 0 s.weave.genWait r - 1)
    · rw [genStep_region _ r.isLt]
      exact tget_tset_same 0 s.weave.genAt r.val (s.now + 1)
    · rw [genStep_region _ r.isLt]
      rfl
  · have hidle : roleGenDeferred s r = s := if_neg (by simp [hready])
    rw [show exec (.roleGenDeferred (.region r)) s = live s fun s => roleGenDeferred s r from rfl, live, hidle, ite_self]

end Sys2Proof.Machine
end

section
/-! SUPPORT. A full weave that ends within 1 ms of the last, in a state that lists a region as late at that weave though no change
of the region waits: it refutes O12. -/

namespace Sys2Proof.Machine

open Claim

/-- Within 1 ms of the last full weave every unit's change waits (R70). -/
theorem genAll_of_recent {s : State} (hlast : s.weave.allAt ≠ 0) (hsoon : s.elapsed (s.weave.allAt - 1) 1000000 = false) :
    ∃ more : Tab Nat → Tab Nat, genAll s = setWeave s fun w => { w with genWait := more w.genWait } :=
  ⟨addToAll 0 66624, if_pos (by simp [hlast, hsoon])⟩

/-- A full weave that ends outside WEAVING (R378, R379). -/
theorem fullWeaveDone_of_left {s : State} (hop : s.weave.op = 2) (hmode : s.mode ≠ mWEAVING) (how : WeaveEnd) :
    fullWeaveDone s how = weaveEnd (genAll (setWeave s fun w => { w with holds := [] })) wDIE_FAULT s.weave.slot noSect := by
  have hleft : (setWeave s fun w => { w with holds := [] }).mode ≠ mWEAVING := hmode
  unfold fullWeaveDone
  dsimp only
  rw [if_neg (by simp [hop]), if_pos (by simpa using hleft)]

/-- So soon after the last, the end of a full weave outside WEAVING leaves every region's role generation. -/
theorem fullWeaveDone_gen_of_recent {s : State} (hop : s.weave.op = 2) (hmode : s.mode ≠ mWEAVING) (hq : s.weave.verifyQ = [])
    (hdue : noneDue s) (hlast : s.weave.allAt ≠ 0) (hsoon : s.elapsed (s.weave.allAt - 1) 1000000 = false) (how : WeaveEnd)
    {r : Nat} (hr : r < 64) : fget (fullWeaveDone s how) (PRK_RGEN.GEN r) = fget s (PRK_RGEN.GEN r) := by
  obtain ⟨⟨hown, hquiet⟩, -⟩ := regionReg_quiet ⟨r, hr⟩
  obtain ⟨more, hgen⟩ := genAll_of_recent (s := setWeave s fun w => { w with holds := [] }) hlast hsoon
  have hend := weaveEnd_ended
    (s := setWeave (setWeave s fun w => { w with holds := [] }) fun w => { w with genWait := more w.genWait }) hq hdue wDIE_FAULT
    s.weave.slot noSect
  rw [fullWeaveDone_of_left hop hmode, hgen]
  exact fget_of_getReg_eq (f := PRK_RGEN.GEN r) (hend.quiet _ hown hquiet)

/-- A powered module in BOOT whose weave engine runs a full weave at time 0, the time of the last full weave. Region 0 is
listed as late at that weave, but never changed by itself and waits for no change: nothing that the obligation asks of a state
excludes it. -/
def lateState : State :=
  { State.reset with sys := { powered := true }, weave := { op := 2, allAt := 1, lateAll := [0] } }

/-- A late region is judged by its own last change alone, so region 0 may change. -/
theorem lateState_ready : genReady lateState 0 = true ∧ genWaits lateState 0 = false := by decide +kernel

theorem lateState_left : lateState.mode ≠ mWEAVING := by decide +kernel

theorem lateState_soon : lateState.elapsed (lateState.weave.allAt - 1) 1000000 = false := by decide +kernel

theorem lateState_noneDue : noneDue lateState := fun m hm => by cases hm

theorem lateState_gen : fget lateState (PRK_RGEN.GEN 0) = 0 := by decide +kernel

/-- Refutes O12: its last clause does not ask that a region late at the last full weave have a change that waits. In `lateState` a
full weave ends 0 ns after the last, with the module outside WEAVING; region 0 may change by its own last change (`genReady`), but
`genAll` lets every unit wait so soon after a full weave, and the region's role generation stays 0. -/
theorem not_fullWeave : ¬ Obligations.FullWeave := by
  unfold Obligations.FullWeave
  rintro ⟨-, -, -, -, -, hleft⟩
  obtain ⟨hready, hwait⟩ := lateState_ready
  obtain ⟨t, ht, -, -, -, -, -, hgens⟩ := hleft .ok lateState rfl lateState_left rfl rfl lateState_noneDue (by decide)
  have hdone : Host.Outcome.next t = .next (fullWeaveDone lateState .ok) :=
    ht.symm.trans (live_of_powered rfl fun s => fullWeaveDone s .ok)
  have hsame : fget t (PRK_RGEN.GEN 0) = 0 := by
    rw [Host.Outcome.next.inj hdone, ← lateState_gen]
    exact fullWeaveDone_gen_of_recent rfl lateState_left rfl lateState_noneDue (by decide) lateState_soon .ok (by decide)
  have hgen := hgens 0 (by decide) hready hwait
  rw [hsame, lateState_gen] at hgen
  exact absurd hgen (by decide)

end Sys2Proof.Machine
end

section
/-! SUPPORT. What the loss of a port's queued traffic leaves of registers and ports, finely: the registers of the port pages but a
few counters, and all of a port but its account of frames and credits. -/

namespace Sys2Proof.Machine

open Claim

/-! Registers that count. -/

/-- Registers that the loss of a port's traffic, a change of what the port shows, or the recording of an event counts or signals
in: `PRT_EGR_DROP`, `PRT_MC_SUPP` and `PRT_STATE_CHG` of the port pages, the counters of contexts, the frames sent by regions, the
suppressed copies, and what the recording of an event may touch. -/
def countReg (o : Nat) : Bool :=
  recordReg o || inCtxCount o || (BOB_SEND 0 ≤ o && o < BOB_SEND 64) || o == SWC_MC_SUPP ||
    (inPortPage o && (o % 0x1000 == 0x1A0 || o % 0x1000 == 0x1A8 || o % 0x1000 == 0x630))

theorem inPortPage_page {L c : Nat} (hL : L < 1024) (hc : c < 0x1000) : inPortPage (portPage L + c) = true := by
  unfold inPortPage portPage
  rw [Bool.and_eq_true, decide_eq_true_eq, decide_eq_true_eq]
  omega

theorem page_offset (L : Nat) {c : Nat} (hc : c < 0x1000) : (portPage L + c) % 0x1000 = c := by
  unfold portPage
  omega

theorem countReg_of_record {o : Nat} (h : recordReg o = true) : countReg o = true := by simp [countReg, h]

/-- The counters of a port's page. -/
theorem countReg_port {L : Nat} (hL : L < 1024) :
    countReg (PRT_EGR_DROP L) = true ∧ countReg (PRT_MC_SUPP L) = true ∧ countReg (PRT_STATE_CHG L) = true := by
  have hpage : ∀ c < 0x1000, (c == 0x1A0 || c == 0x1A8 || c == 0x630) = true → countReg (portPage L + c) = true := by
    intro c hc h
    rw [countReg, inPortPage_page hL hc, page_offset L hc, h, Bool.and_self, Bool.or_true]
  exact ⟨hpage 0x1A0 (by decide) rfl, hpage 0x1A8 (by decide) rfl, hpage 0x630 (by decide) rfl⟩

/-- Every other register of a port's page is none of them. -/
theorem countReg_page {L c : Nat} (hL : L < 1024) (hc : c < 0x1000)
    (h : (c == 0x1A0 || c == 0x1A8 || c == 0x630) = false) : countReg (portPage L + c) = false := by
  have hrec : recordReg (portPage L + c) = false := by
    unfold recordReg inSrc portPage EVR_LOST IC_MERGED
    simp only [Bool.or_eq_false_iff, Bool.and_eq_false_iff, beq_eq_false_iff_ne, decide_eq_false_iff_not]
    omega
  have hctx : inCtxCount (portPage L + c) = false := by
    unfold inCtxCount portPage
    simp only [Bool.and_eq_false_iff, decide_eq_false_iff_not]
    omega
  have hsend : (decide (BOB_SEND 0 ≤ portPage L + c) && decide (portPage L + c < BOB_SEND 64)) = false := by
    unfold BOB_SEND portPage
    simp only [Bool.and_eq_false_iff, decide_eq_false_iff_not]
    omega
  have hsupp : (portPage L + c == SWC_MC_SUPP) = false := beq_eq_false_iff_ne.2 (by unfold portPage SWC_MC_SUPP; omega)
  rw [countReg, hrec, hctx, hsend, hsupp, page_offset L hc, h]
  simp

theorem countReg_ctx {x i : Nat} (hx : x < 1024) (hi : i < 64) : countReg (PMC_CTXPAGE x i) = true := by
  have hctx : inCtxCount (PMC_CTXPAGE x i) = true := by
    unfold inCtxCount PMC_CTXPAGE
    rw [Bool.and_eq_true, decide_eq_true_eq, decide_eq_true_eq]
    omega
  simp [countReg, hctx]

theorem countReg_send {r : Nat} (hr : r < 64) : countReg (BOB_SEND r) = true := by
  have hsend : (decide (BOB_SEND 0 ≤ BOB_SEND r) && decide (BOB_SEND r < BOB_SEND 64)) = true := by
    unfold BOB_SEND
    rw [Bool.and_eq_true, decide_eq_true_eq, decide_eq_true_eq]
    omega
  simp [countReg, hsend]

/-! The relation. -/

/-- A port but for its account of frames and credits, and the time at which it last began to show UP. -/
def portRest (p : PortSt) : PortSt :=
  { p with held := [], returned := [], retDirty := 0, ethHeld := [], dropQuar := 0, shownUp := 0 }

/-- Of the registers and the ports, only what counts and what ports account for changed from `s` to `t`. -/
def CountsOnly (s t : State) : Prop := regsBut countReg s t ∧ ∀ L, portRest (port t L) = portRest (port s L)

theorem port_setPort (s : State) (L k : Nat) (f : PortSt → PortSt) :
    port (setPort s L f) k = if k = L then f (port s L) else port s k := tget_tset _ _ _ _ _

@[simp] theorem port_setPort_same (s : State) (L : Nat) (f : PortSt → PortSt) : port (setPort s L f) L = f (port s L) := by
  rw [port_setPort, if_pos rfl]

theorem CountsOnly.refl (s : State) : CountsOnly s s := ⟨regsBut.refl _ s, fun _ => rfl⟩

theorem CountsOnly.trans {s t u : State} (h : CountsOnly s t) (k : CountsOnly t u) : CountsOnly s u :=
  ⟨h.1.trans k.1, fun L => (k.2 L).trans (h.2 L)⟩

theorem CountsOnly.ite {c : Prop} [Decidable c] {s a b : State} (ha : c → CountsOnly s a) (hb : ¬ c → CountsOnly s b) :
    CountsOnly s (if c then a else b) := by
  split
  · next h => exact ha h
  · next h => exact hb h

theorem CountsOnly.forEach {β : Type} {l : List β} {f : State → β → State} (hf : ∀ s, ∀ a ∈ l, CountsOnly s (f s a)) (s : State) :
    CountsOnly s (forEach l s f) :=
  forEach_keeps (P := CountsOnly s) (fun t a ha h => h.trans (hf t a ha)) (CountsOnly.refl s)

theorem CountsOnly.forRange {n : Nat} {f : State → Nat → State} (hf : ∀ s, ∀ i < n, CountsOnly s (f s i)) (s : State) :
    CountsOnly s (forRange n s f) :=
  CountsOnly.forEach (fun s i hi => hf s i (List.mem_range.1 hi)) s

theorem CountsOnly.bump (s : State) {o : Nat} (ho : countReg o = true) : CountsOnly s (bump s o) :=
  ⟨regsBut_bump s ho, fun _ => rfl⟩

theorem CountsOnly.setPort (s : State) (L : Nat) {f : PortSt → PortSt} (hf : ∀ p, portRest (f p) = portRest p) :
    CountsOnly s (setPort s L f) := by
  refine ⟨fun _ _ => rfl, fun k => ?_⟩
  rw [port_setPort]
  split
  · next h => rw [h, hf]
  · rfl

/-- A step that leaves the register file and the ports alone. -/
theorem CountsOnly.of_eq {s t : State} (hregs : t.regs = s.regs) (hports : t.ports = s.ports) : CountsOnly s t :=
  ⟨regsBut_of_regs_eq hregs, fun L => by rw [port, port, hports]⟩

theorem CountsOnly.setCore (s : State) (f : CoreSt → CoreSt) : CountsOnly s (setCore s f) := CountsOnly.of_eq rfl rfl

theorem CountsOnly.setTm (s : State) (f : TmSt → TmSt) : CountsOnly s (setTm s f) := CountsOnly.of_eq rfl rfl

theorem ports_of_signals {s t : State} (h : Signals s t) : t.ports = s.ports := by
  obtain ⟨hst, -, -⟩ := h
  rw [hst]

theorem ring_counts (s : State) {src : Nat} (h : src < 4096) : CountsOnly s (ring s src) :=
  ⟨regsBut.mono (ring_regsBut s h) fun _ => countReg_of_record, fun L => by rw [port, port, ports_of_signals (ring_signals s h)]⟩

/-! Frames. -/

theorem creditReturn_counts (s : State) (f : Frame) : CountsOnly s (creditReturn s f) := by
  unfold creditReturn
  refine CountsOnly.ite (fun _ => CountsOnly.refl s) fun _ => CountsOnly.ite (fun _ => CountsOnly.refl s) fun _ => ?_
  exact CountsOnly.ite (fun _ => CountsOnly.setPort s _ fun _ => rfl) fun _ => CountsOnly.setPort s _ fun _ => rfl

theorem releaseCharge_counts (s : State) (f : Frame) : CountsOnly s (releaseCharge s f) := by
  unfold releaseCharge
  refine CountsOnly.ite (fun _ => CountsOnly.refl s) fun _ => ?_
  exact CountsOnly.ite (fun _ => CountsOnly.setCore s _) fun _ => (CountsOnly.setCore s _).trans (creditReturn_counts _ f)

theorem sendCrossed_counts (s : State) (f : Frame) : CountsOnly s (sendCrossed s f) := by
  unfold sendCrossed
  split <;> exact CountsOnly.of_eq rfl rfl

theorem frameCrossed_counts (s : State) (f : Frame) : CountsOnly s (frameCrossed s f) := by
  unfold frameCrossed
  split
  · exact releaseCharge_counts s f
  · exact (CountsOnly.ite (fun hr => CountsOnly.bump s (countReg_send hr)) fun _ => CountsOnly.refl s).trans
      (sendCrossed_counts _ f)

theorem copyDrop_counts (s : State) (f : Frame) : CountsOnly s (copyDrop s f) :=
  CountsOnly.ite (fun hx => CountsOnly.bump s (countReg_ctx hx (by decide))) fun _ => CountsOnly.refl s

theorem ctxDrop_counts (s : State) (f : Frame) : CountsOnly s (ctxDrop s f) :=
  (copyDrop_counts s f).trans (sendCrossed_counts _ f)

theorem discardFrame_counts (s : State) (f : Frame) : CountsOnly s (discardFrame s f) :=
  (ctxDrop_counts s f).trans (releaseCharge_counts _ f)

theorem countDiscard_counts (s : State) {L : Nat} (hL : L < 1024) : CountsOnly s (countDiscard s L) :=
  CountsOnly.ite (fun _ => CountsOnly.setPort s L fun _ => rfl) fun _ => CountsOnly.bump s (countReg_port hL).1

theorem suppress_counts (s : State) {L : Nat} (hL : L < 1024) (f : Frame) : CountsOnly s (suppress s L f) := by
  have hcount : CountsOnly s (bump (bump s (PRT_MC_SUPP L)) SWC_MC_SUPP) :=
    (CountsOnly.bump s (countReg_port hL).2.1).trans (CountsOnly.bump _ (by decide))
  exact CountsOnly.ite (fun _ => hcount.trans (CountsOnly.setCore _ _)) fun _ => hcount

theorem giveUp_counts (s : State) (o : Nat) (f : Frame) : CountsOnly s (giveUp s o f) :=
  (CountsOnly.ite (fun _ => CountsOnly.setCore s _) fun _ => CountsOnly.refl s).trans (CountsOnly.setCore _ _)

/-! Queues. -/

theorem mcUnref_counts (s : State) (m : Nat) : CountsOnly s (mcUnref s m) :=
  (CountsOnly.setCore s _).trans
    (CountsOnly.ite (fun _ => (CountsOnly.setCore _ _).trans (frameCrossed_counts _ _)) fun _ => CountsOnly.refl _)

theorem voqErase_counts (s : State) (k n : Nat) (e : QEnt) : CountsOnly s (voqErase s k n e) := by
  unfold voqErase trimVoq setVoq
  exact (CountsOnly.setCore s _).trans (CountsOnly.setCore _ _)

theorem discardEnt_counts (s : State) {o : Nat} (ho : o < 1024) (e : QEnt) : CountsOnly s (discardEnt s o e) := by
  cases e with
  | frame f =>
    exact (CountsOnly.ite (fun _ => countDiscard_counts s ho) fun _ => CountsOnly.refl s).trans (discardFrame_counts _ f)
  | ref m b =>
    refine CountsOnly.trans ?_ (mcUnref_counts _ m)
    exact CountsOnly.ite (fun _ => suppress_counts s ho _) fun _ =>
      (CountsOnly.bump s (countReg_port ho).1).trans (copyDrop_counts _ _)

theorem discardEnts_counts (s : State) {k : Nat} (hk : voqOut k < 1024) (p : QEnt → Bool) : CountsOnly s (discardEnts s k p) :=
  ((CountsOnly.forEach (fun s _ _ => CountsOnly.ite (fun _ => giveUp_counts s _ _) fun _ => CountsOnly.refl s) s).trans
    (CountsOnly.forEach (fun s _ _ => voqErase_counts s _ _ _) _)).trans
    (CountsOnly.forEach (fun s _ _ => discardEnt_counts s hk _) _)

theorem noDeficit_counts (s : State) (k : Nat) : CountsOnly s (noDeficit s k) :=
  CountsOnly.ite (fun _ => CountsOnly.refl s) fun _ => CountsOnly.setTm s _

theorem emptied_counts (s : State) (L c sub : Nat) : CountsOnly s (emptied s L c sub) := by
  have hturn : ∀ (u : State) (b : Bool) (f : TmSt → TmSt), CountsOnly u (if b then setTm u f else u) :=
    fun u b f => CountsOnly.ite (fun _ => CountsOnly.setTm u f) fun _ => CountsOnly.refl u
  refine CountsOnly.ite (fun _ => CountsOnly.refl s) fun _ => ?_
  refine CountsOnly.ite (fun _ => ?_) fun _ => ?_
  · exact (noDeficit_counts s _).trans (hturn _ _ _)
  · exact ((noDeficit_counts s _).trans (hturn _ _ _)).trans ((noDeficit_counts _ _).trans (hturn _ _ _))

theorem egrDiscard_counts (s : State) {L : Nat} (hL : L < 1024) (c : Nat) (f : Frame) : CountsOnly s (egrDiscard s L c f) := by
  have hlost : ∀ u, CountsOnly u (lostAt u f) :=
    fun u => CountsOnly.ite (fun _ => copyDrop_counts u f) fun _ => ctxDrop_counts u f
  exact (CountsOnly.setCore s _).trans
    (CountsOnly.ite (fun _ => suppress_counts _ hL f) fun _ => (countDiscard_counts _ hL).trans (hlost _))

/-! Ports. -/

theorem discardEgress_counts (s : State) {L : Nat} (hL : L < 1024) (p : Nat → Bool) : CountsOnly s (discardEgress s L p) := by
  refine CountsOnly.forRange (fun s c _ => ?_) s
  refine CountsOnly.ite (fun _ => ?_) fun _ => CountsOnly.refl s
  refine CountsOnly.forRange (fun s sub _ => ?_) s
  refine CountsOnly.ite (fun _ => CountsOnly.refl s) fun _ => ?_
  exact ((CountsOnly.setCore s _).trans (emptied_counts _ _ _ _)).trans
    (CountsOnly.forEach (fun s _ _ => egrDiscard_counts s hL _ _) _)

theorem forRange_discardEnts_counts (s : State) {L : Nat} (hL : L < 1024) (p : Nat → QEnt → Bool) :
    CountsOnly s (forRange 4 s fun s d => forRange 16 s fun s c =>
      if (voq s (voqKey d L c)).ents.isEmpty then s else discardEnts s (voqKey d L c) (p c)) := by
  refine CountsOnly.forRange (fun s d hd => CountsOnly.forRange (fun s c hc => ?_) s) s
  refine CountsOnly.ite (fun _ => CountsOnly.refl s) fun _ => discardEnts_counts s ?_ _
  rw [voqOut_voqKey hd hL hc]
  exact hL

theorem discardPort_counts (s : State) {L : Nat} (hL : L < 1024) : CountsOnly s (discardPort s L) :=
  (forRange_discardEnts_counts s hL fun _ _ => true).trans (discardEgress_counts _ hL _)

theorem discardQuar_counts (s : State) {L : Nat} (hL : L < 1024) : CountsOnly s (discardQuar s L) :=
  (forRange_discardEnts_counts s hL _).trans (discardEgress_counts _ hL _)

end Sys2Proof.Machine
end

section
/-! SUPPORT. Ports (chapter 4): what a change of the underlying state shows and leaves, and fences. -/

namespace Sys2Proof.Machine

open Claim

/-! Fields stored as they read. -/

theorem putBits_self (x : Word) (lo w : Nat) : putBits x lo w (bits x.toNat lo w) = x := by
  refine BitVec.eq_of_getLsbD_eq fun i hi => ?_
  rw [getLsbD_putBits, testBit_bits]
  by_cases h : lo ≤ i ∧ i < lo + w
  · have hlt : i - lo < w := by omega
    have hidx : lo + (i - lo) = i := by omega
    simp [hi, h, hlt, hidx, BitVec.getLsbD]
  · simp [hi, h]

/-- A field set to what it reads leaves every register. -/
theorem getReg_fset_self (s : State) (f : Fld) (o : Nat) : getReg (fset s f (fget s f)) o = getReg s o := by
  rw [getReg_fset]
  split
  · next h => rw [h, fget, putBits_self]
  · rfl

theorem getReg_fset_ne (s : State) {f : Fld} {o : Nat} (h : o ≠ f.off) (v : Nat) : getReg (fset s f v) o = getReg s o :=
  getReg_setReg_ne s h _

theorem fibreDark_congr {s t : State} (h : t.fibres = s.fibres) (F : Nat) : fibreDark t F = fibreDark s F := by
  rw [fibreDark, fibreDark, fibre, fibre, h]

/-! What a port shows (R82). -/

/-- A register of a port's page that counts nothing. -/
theorem countReg_portRegs {L : Nat} (hL : L < 1024) :
    countReg (PRT_STATE L) = false ∧ countReg (PRT_NBR_EXP L) = false ∧ countReg (PRT_NBR_SEEN L) = false ∧
      countReg (PRT_FENCE L) = false :=
  ⟨countReg_page (c := 0) hL (by decide) rfl, countReg_page (c := 0x10) hL (by decide) rfl,
    countReg_page (c := 0x28) hL (by decide) rfl, countReg_page (c := 0x480) hL (by decide) rfl⟩

/-- The module with a port's register at what the port shows. -/
def portMarked (s : State) (L : Nat) : State := fset s (PRT_STATE.STATE L) (portShown s L)

/-- A port brought to what it shows: beyond its register, only what counts changes. -/
theorem portRefresh_counts (s : State) {L : Nat} (hL : L < 1024) : CountsOnly (portMarked s L) (portRefresh s L) := by
  unfold portRefresh
  dsimp only
  split
  · next h =>
    refine ⟨fun o _ => ?_, fun _ => rfl⟩
    rw [portMarked, beq_iff_eq.1 h, portState, getReg_fset_self]
  · refine CountsOnly.trans ?_ (ring_counts _ (by omega))
    refine CountsOnly.trans ?_ (CountsOnly.ite (fun _ => discardPort_counts _ hL) fun _ =>
      CountsOnly.ite (fun _ => discardQuar_counts _ hL) fun _ => CountsOnly.refl _)
    refine CountsOnly.trans ?_ (CountsOnly.ite (fun _ => CountsOnly.setPort _ L fun _ => rfl) fun _ => CountsOnly.refl _)
    exact CountsOnly.ite (fun _ => CountsOnly.bump _ (countReg_port hL).2.2) fun _ => CountsOnly.refl _

/-- The register of a port reads what the port shows. -/
theorem portState_portRefresh (s : State) {L : Nat} (hL : L < 1024) (h : portShown s L < 8) :
    portState (portRefresh s L) L = portShown s L := by
  rw [portState, fget_of_getReg_eq (f := PRT_STATE.STATE L) ((portRefresh_counts s hL).1 _ (countReg_portRegs hL).1),
    portMarked, fget_fset_same _ _ _ (show 0 + 3 ≤ 64 by decide)]
  exact Nat.mod_eq_of_lt h

/-- Showing a port's state leaves the rest of its register. -/
theorem fget_portMarked (s : State) {L : Nat} {f : Fld} (h : f.off ≠ PRT_STATE L ∨ 3 ≤ f.lo) : fget (portMarked s L) f = fget s f :=
  fget_fset_ne s (PRT_STATE.STATE L) f _ (h.imp_right Or.inr)

/-- A field that counts nothing and is not the state shown is as it was. -/
theorem fget_portRefresh (s : State) {L : Nat} (hL : L < 1024) {f : Fld} (hf : countReg f.off = false)
    (h : f.off ≠ PRT_STATE L ∨ 3 ≤ f.lo) : fget (portRefresh s L) f = fget s f :=
  (fget_of_getReg_eq ((portRefresh_counts s hL).1 _ hf)).trans (fget_portMarked s h)

theorem portRest_portRefresh (s : State) {L : Nat} (hL : L < 1024) (k : Nat) :
    portRest (port (portRefresh s L) k) = portRest (port s k) := (portRefresh_counts s hL).2 k

/-! The underlying state. -/

/-- The module with an UP port noted for R379, where one is awaited. -/
def upNoted (s : State) (u : Nat) : State :=
  if u == pUP && s.sys.refPhase == 2 && !s.elapsed s.sys.refLostAt 1000000000 then setSys s fun y => { y with refUp := true } else s

/-- A port with underlying state u entered. -/
def portEntered (s : State) (L u : Nat) (p : PortSt) : PortSt :=
  { p with under := u
           upAt := if u == pUP && (port s L).under != pUP then (upNoted s u).now else p.upAt
           initAt := if u != (port s L).under then 0 else p.initAt
           creditAt := if (u == pUP || u == pQUARANTINE) && (port s L).under != pUP && (port s L).under != pQUARANTINE then
             (upNoted s u).now else p.creditAt
           firstFail := p.firstFail || u == pUP || u == pQUARANTINE
           aligned := p.aligned && u != pDOWN
           fastIdent := p.fastIdent && u == pTRAINING
           reident := if u == pDOWN then 0 else p.reident
           pair := if u == pDOWN then none else p.pair
           resync := p.resync && u != pDOWN
           suspended := p.suspended && u != pDOWN }

theorem setUnder_eq (s : State) (L u : Nat) :
    setUnder s L u = portRefresh (setPort (upNoted s u) L (portEntered s L u)) L := rfl

theorem upNoted_frame (s : State) (u : Nat) :
    (upNoted s u).regs = s.regs ∧ (upNoted s u).ports = s.ports ∧ (upNoted s u).fibres = s.fibres := by
  unfold upNoted
  split <;> exact ⟨rfl, rfl, rfl⟩

/-- A field that counts nothing and is not the state shown is as it was. -/
theorem fget_setUnder (s : State) {L : Nat} (hL : L < 1024) (u : Nat) {f : Fld} (hf : countReg f.off = false)
    (h : f.off ≠ PRT_STATE L ∨ 3 ≤ f.lo) : fget (setUnder s L u) f = fget s f := by
  rw [setUnder_eq, fget_portRefresh _ hL hf h]
  exact fget_congr (upNoted_frame s u).1 f

/-- A register that counts nothing and is not the port's own is as it was. -/
theorem getReg_setUnder (s : State) {L : Nat} (hL : L < 1024) (u : Nat) {o : Nat} (ho : countReg o = false)
    (h : o ≠ PRT_STATE L) : getReg (setUnder s L u) o = getReg s o := by
  rw [setUnder_eq, (portRefresh_counts _ hL).1 o ho, portMarked, getReg_fset_ne _ h]
  exact getReg_congr (upNoted_frame s u).1 o

/-- The port is in the state that it entered, and nothing else of it changed but what that state rules. -/
theorem port_setUnder (s : State) {L : Nat} (hL : L < 1024) (u : Nat) :
    portRest (port (setUnder s L u) L) = portRest (portEntered s L u (port s L)) := by
  have hport : port (upNoted s u) L = port s L := by rw [port, port, (upNoted_frame s u).2.1]
  rw [setUnder_eq, portRest_portRefresh _ hL, port_setPort_same, hport]

theorem under_setUnder (s : State) {L : Nat} (hL : L < 1024) (u : Nat) : (port (setUnder s L u) L).under = u :=
  (congrArg PortSt.under (port_setUnder s hL u) :)

theorem trainAt_setUnder (s : State) {L : Nat} (hL : L < 1024) (u : Nat) :
    (port (setUnder s L u) L).trainAt = (port s L).trainAt := (congrArg PortSt.trainAt (port_setUnder s hL u) :)

theorem trainGen_setUnder (s : State) {L : Nat} (hL : L < 1024) (u : Nat) :
    (port (setUnder s L u) L).trainGen = (port s L).trainGen := (congrArg PortSt.trainGen (port_setUnder s hL u) :)

theorem portFenced_setUnder (s : State) {L : Nat} (hL : L < 1024) (u : Nat) : portFenced (setUnder s L u) L = portFenced s L := by
  rw [portFenced, portFenced, fbit, fbit,
    fget_setUnder s hL u (countReg_portRegs hL).1 (f := PRT_STATE.FENCE L) (Or.inr (Nat.le_refl 3))]

/-! A port gone DOWN (R84). -/

theorem portDown_port (s : State) {L : Nat} (hL : L < 1024) :
    (port (portDown s L) L).under = pDOWN ∧ (port (portDown s L) L).retryWait = true ∧ (port (portDown s L) L).retryAt = s.now := by
  rw [portDown, retryAtTime, port_setPort_same]
  exact ⟨under_setUnder s hL pDOWN, rfl, rfl⟩

theorem portDown_loss (s : State) {L : Nat} (hL : L < 1024) : TrafficLoss s (portDown s L) :=
  (setUnder_down_loss s hL).trans (TrafficLoss.setPort _ L _)

theorem portFenced_portDown (s : State) {L : Nat} (hL : L < 1024) : portFenced (portDown s L) L = portFenced s L :=
  portFenced_setUnder s hL pDOWN

/-! Fences (R366). -/

/-- The module with a fence recorded on a port, before the port shows it. -/
def fenceMarked (s : State) (L cause : Nat) : State :=
  fset (fset (fset s (PRT_FENCE.CAUSE L) cause) (PRT_FENCE.TS L) s.shortTs) (PRT_STATE.FENCE L) 1

theorem fencePort_eq {s : State} {L : Nat} (h : portFenced s L = false) (cause : Nat) :
    fencePort s L cause =
      ring (event (portRefresh (fenceMarked s L cause) L) 0x0D 4 1 (swOf L) 0xFFFF L [1, BitVec.ofNat 8 cause]) 2 := by
  rw [fencePort, h]
  rfl

/-- The registers in which a fence shows. -/
theorem fenceMarked_fields (s : State) (L : Nat) {cause : Nat} (hcause : cause < 16) :
    portFenced (fenceMarked s L cause) L = true ∧ fget (fenceMarked s L cause) (PRT_FENCE.CAUSE L) = cause := by
  have hoff : PRT_FENCE L ≠ PRT_STATE L := by unfold PRT_FENCE PRT_STATE; omega
  unfold fenceMarked
  constructor
  · rw [portFenced, fbit, fget_fset_same _ _ _ (show 3 + 1 ≤ 64 by decide)]
    rfl
  · rw [fget_fset_ne _ (PRT_STATE.FENCE L) _ _ (Or.inl hoff),
      fget_fset_ne _ (PRT_FENCE.TS L) _ _ (Or.inr (Or.inl (show 0 + 4 ≤ 32 by decide))),
      fget_fset_same _ _ _ (show 0 + 4 ≤ 64 by decide)]
    exact Nat.mod_eq_of_lt hcause

theorem signalReg_page {L c : Nat} (hL : L < 1024) (hc : c < 0x1000) : signalReg (portPage L + c) = false := by
  unfold signalReg inSrc portPage EVR_LOST IC_MERGED
  simp only [Bool.or_eq_false_iff, Bool.and_eq_false_iff, beq_eq_false_iff_ne, decide_eq_false_iff_not]
  omega

/-- A fence shown only signals. -/
theorem fencePort_signals {s : State} {L : Nat} (h : portFenced s L = false) (cause : Nat) :
    Signals (portRefresh (fenceMarked s L cause) L) (fencePort s L cause) := by
  rw [fencePort_eq h]
  exact (event_signals _ (by decide) _ _ _ _ _).trans (ring_signals _ (by decide))

/-- The die of a port's switch has no register in a port's page. -/
theorem getReg_fenceMarked_die (s : State) {L : Nat} (hL : L < 1024) (cause : Nat) :
    getReg (fenceMarked s L cause) (FLT_DIE (swOf L)) = getReg s (FLT_DIE (swOf L)) := by
  have hne : ∀ c, FLT_DIE (swOf L) ≠ portPage L + c ∨ 0x1000 ≤ c := by
    intro c
    unfold FLT_DIE swOf portPage
    omega
  have hfence : FLT_DIE (swOf L) ≠ PRT_FENCE L := (hne 0x480).resolve_right (by decide)
  have hstate : FLT_DIE (swOf L) ≠ PRT_STATE L := (hne 0).resolve_right (by decide)
  rw [fenceMarked, getReg_fset_ne _ hstate, getReg_fset_ne _ hfence, getReg_fset_ne _ hfence]

/-- A fence on a lit, unfenced port of a working die is recorded with its cause, and shows. -/
theorem fencePort_fences {s : State} {L : Nat} (hL : L < 1024) {cause : Nat} (hcause : cause < 16) (hun : portFenced s L = false)
    (hup : dieUp s (swOf L) = true) (hlit : fibreDark s (L / 8) = false) :
    (port (fencePort s L cause) L).under = (port s L).under ∧ portFenced (fencePort s L cause) L = true ∧
      fget (fencePort s L cause) (PRT_FENCE.CAUSE L) = cause ∧ portState (fencePort s L cause) L = pFENCED := by
  obtain ⟨hfence, hcauseRead⟩ := fenceMarked_fields s L hcause
  obtain ⟨hstate, -, -, hfenceReg⟩ := countReg_portRegs hL
  have hsig := fencePort_signals hun cause
  have hports := ports_of_signals hsig
  have hreg : ∀ f : Fld, signalReg f.off = false →
      fget (fencePort s L cause) f = fget (portRefresh (fenceMarked s L cause) L) f := fun f hf =>
    fget_of_getReg_eq (hsig.2.1 _ hf)
  have hquiet : signalReg (PRT_STATE L) = false := signalReg_page (c := 0) hL (by decide)
  have hquietFence : signalReg (PRT_FENCE L) = false := signalReg_page (c := 0x480) hL (by decide)
  have hdie : dieUp (fenceMarked s L cause) (swOf L) = true :=
    (dieUp_of_getReg_eq (getReg_fenceMarked_die s hL cause)).trans hup
  have hdark : fibreDark (fenceMarked s L cause) (L / 8) = false :=
    (fibreDark_congr (by simp only [fenceMarked, fset_fibres]) _).trans hlit
  have hunder : (port (fenceMarked s L cause) L).under = (port s L).under := by
    simp only [port, fenceMarked, fset_ports]
  generalize fenceMarked s L cause = m at *
  have hshown : portShown m L = pFENCED := by
    rw [portShown, hdie, hdark, hfence]
    rfl
  refine ⟨?_, ?_, ?_, ?_⟩
  · rw [port, hports, ← hunder]
    exact (congrArg PortSt.under (portRest_portRefresh m hL L) :)
  · rw [portFenced, fbit, hreg (PRT_STATE.FENCE L) hquiet, fget_portRefresh m hL hstate (Or.inr (Nat.le_refl 3))]
    exact hfence
  · have hoff : PRT_FENCE L ≠ PRT_STATE L := by unfold PRT_FENCE PRT_STATE; omega
    rw [hreg (PRT_FENCE.CAUSE L) hquietFence, fget_portRefresh m hL (f := PRT_FENCE.CAUSE L) hfenceReg (Or.inl hoff), hcauseRead]
  · rw [portState, hreg (PRT_STATE.STATE L) hquiet]
    exact (portState_portRefresh m hL (by rw [hshown]; decide)).trans hshown

end Sys2Proof.Machine
end

section
/-! SUPPORT. Lane conditions on a port that is down, and signal degrade (R79, R80): they settle O15. -/

namespace Sys2Proof.Machine

open Claim

/-! Registers. -/

/-- No register of the optics signals. -/
theorem signalReg_optics {o : Nat} (h : 0x1400000 ≤ o) (h' : o < 0x1410000) : signalReg o = false := by
  unfold signalReg inSrc EVR_LOST IC_MERGED
  simp only [Bool.or_eq_false_iff, Bool.and_eq_false_iff, beq_eq_false_iff_ne, decide_eq_false_iff_not]
  omega

theorem signalReg_lane (l : Fin 1024) : signalReg (OPT_LANE l) = false ∧ signalReg (OPT_FEC_CORR l) = false := by
  constructor
  · exact signalReg_optics (by unfold OPT_LANE; omega) (by unfold OPT_LANE; omega)
  · exact signalReg_optics (by unfold OPT_FEC_CORR; omega) (by unfold OPT_FEC_CORR; omega)

/-- A field of a lane's register set touches that register alone. -/
theorem laneField_onlyRegs (s : State) (l : Nat) {f : Fld} (hf : f.off = OPT_LANE l) (v : Nat) :
    OnlyRegs (fun o => o == OPT_LANE l) s (fset s f v) :=
  OnlyRegs.fset (own := fun o => o == OPT_LANE l) s (beq_iff_eq.2 hf) v

/-- A flag set reads 1. -/
theorem fbit_fset_one (s : State) {f : Fld} (hw : f.wid = 1) (hf : f.lo + f.wid ≤ 64) : fbit (fset s f 1) f = true := by
  rw [fbit, fget_fset_same _ _ _ hf, hw]
  rfl

theorem fget_fset_zero (s : State) {f : Fld} (hf : f.lo + f.wid ≤ 64) : fget (fset s f 0) f = 0 := by
  rw [fget_fset_same _ _ _ hf, Nat.zero_mod]

/-! Conditions on a port that is DOWN. -/

theorem laneCondition_of_down {s : State} {l : Nat} (h : (port s (portOf s l)).under = pDOWN) (cause : Nat) :
    laneCondition s l cause = s := by
  simp [laneCondition, h, pDOWN, pUP, pQUARANTINE, pTRAINING]

theorem losAssert_of_down {s : State} {l : Nat} (hup : dieUp s (swOf l) = true) (hdown : (port s (portOf s l)).under = pDOWN)
    (pwr : BitVec 16) :
    losAssert s l pwr =
      if fbit s (OPT_LANE.LOS l) then fset s (OPT_LANE.RXPWR l) pwr.toNat
      else fset (fset s (OPT_LANE.RXPWR l) pwr.toNat) (OPT_LANE.LOS l) 1 := by
  have hlos : fbit (fset s (OPT_LANE.RXPWR l) pwr.toNat) (OPT_LANE.LOS l) = fbit s (OPT_LANE.LOS l) := by
    rw [fbit, fbit, fget_fset_ne s (OPT_LANE.RXPWR l) (OPT_LANE.LOS l) _ (Or.inr (Or.inl (show 0 + 1 ≤ 32 by decide)))]
  rw [losAssert, laneLive, hup, if_neg (by decide)]
  dsimp only
  rw [hlos, laneCondition_of_down (s := fset (fset s (OPT_LANE.RXPWR l) pwr.toNat) (OPT_LANE.LOS l) 1) hdown]

theorem fget_rxpwr_set (s : State) (l : Nat) (pwr : BitVec 16) :
    fget (fset s (OPT_LANE.RXPWR l) pwr.toNat) (OPT_LANE.RXPWR l) = pwr.toNat := by
  rw [fget_fset_same s _ _ (show 32 + 16 ≤ 64 by decide)]
  exact Nat.mod_eq_of_lt pwr.isLt

theorem lolAssert_of_down {s : State} {l : Nat} (hup : dieUp s (swOf l) = true) (hsus : suspended s l = false)
    (hdown : (port s (portOf s l)).under = pDOWN) :
    lolAssert s l = if fbit s (OPT_LANE.LOL l) then s else fset s (OPT_LANE.LOL l) 1 := by
  rw [lolAssert, laneLive, hup, hsus, if_neg (by decide),
    laneCondition_of_down (s := fset s (OPT_LANE.LOL l) 1) hdown]

theorem alignmentLoss_of_down {s : State} {l : Nat} (hup : dieUp s (swOf l) = true) (hsus : suspended s l = false)
    (hdown : (port s (portOf s l)).under = pDOWN) :
    alignmentLoss s l = if fbit s (OPT_LANE.ALIGN l) then fset s (OPT_LANE.ALIGN l) 0 else s := by
  rw [alignmentLoss, laneLive, hup, hsus, if_neg (by decide),
    laneCondition_of_down (s := fset s (OPT_LANE.ALIGN l) 0) hdown]
  cases fbit s (OPT_LANE.ALIGN l) <;> rfl

/-- A flag that does not read 1 reads 0. -/
theorem fget_of_not_fbit {s : State} {f : Fld} (hw : f.wid = 1) (h : fbit s f = false) : fget s f = 0 := by
  have hlt : fget s f < 2 ^ f.wid := bits_lt _ _ _
  rw [hw] at hlt
  have hne : fget s f ≠ 1 := beq_eq_false_iff_ne.1 h
  omega

/-- The times of the uncorrectable codewords of a lane with one more now. -/
def uncTimes (s : State) (l : Nat) : List Nat := recent s (lane s l).unc 10000 ++ [s.now]

theorem uncorrectable_of_down {s : State} {l : Nat} (hup : dieUp s (swOf l) = true) (hsus : suspended s l = false)
    (hdown : (port s (portOf s l)).under = pDOWN) :
    uncorrectable s l = setLane (bump s (OPT_FEC_UNC l)) l fun x => { x with unc := uncTimes s l } := by
  rw [uncorrectable, laneLive, hup, hsus, if_neg (by decide)]
  dsimp only
  rw [laneCondition_of_down (s := setLane (bump s (OPT_FEC_UNC l)) l _) hdown, ite_self]
  rfl

/-! Signal degrade. -/

/-- SD after a window of r symbols of which c were corrected (R79). -/
def sdAfter (old : Bool) (c r : Nat) : Bool := if old then !decide (20000 * c < r) else decide (r < 10000 * c)

/-- A window counts its corrected symbols; one that changes SD is recorded. -/
theorem sdWindow_eq {s : State} (l : Fin 1024) (hup : dieUp s (swOf l) = true) (c r : Nat) :
    sdWindow s l c r =
      if sdAfter (fbit s (OPT_LANE.SD l)) c r = fbit s (OPT_LANE.SD l) then bumpBy s (OPT_FEC_CORR l) c
      else event (fset (bumpBy s (OPT_FEC_CORR l) c) (OPT_LANE.SD l) (b2n (sdAfter (fbit s (OPT_LANE.SD l)) c r)))
        0x05 1 1 (swOf l) 0xFFFF l ([BitVec.ofNat 8 (b2n (sdAfter (fbit s (OPT_LANE.SD l)) c r))] ++ le 8 c) := by
  have hne : OPT_LANE l ≠ OPT_FEC_CORR l := by unfold OPT_LANE OPT_FEC_CORR; omega
  have hsd : fbit (bumpBy s (OPT_FEC_CORR l) c) (OPT_LANE.SD l) = fbit s (OPT_LANE.SD l) := by
    rw [fbit, fbit]
    exact congrArg (· == 1) (fget_setReg_ne s (f := OPT_LANE.SD l) _ hne)
  rw [sdWindow, laneLive, hup, if_neg (by decide)]
  dsimp only
  rw [hsd]
  cases fbit s (OPT_LANE.SD l)
  · by_cases h : r < c * 10000
    · simp [sdAfter, h, Nat.mul_comm 10000 c, b2n]
    · simp [sdAfter, h, Nat.mul_comm 10000 c]
  · by_cases h : c * 20000 < r
    · simp [sdAfter, h, Nat.mul_comm 20000 c, b2n]
    · simp [sdAfter, h, Nat.mul_comm 20000 c]

/-- What a window leaves. -/
theorem sdWindow_frame {s : State} (l : Fin 1024) (hup : dieUp s (swOf l) = true) (c r : Nat) :
    let t := sdWindow s l c r
    let new := sdAfter (fbit s (OPT_LANE.SD l)) c r
    fbit t (OPT_LANE.SD l) = new ∧ getReg t (OPT_FEC_CORR l) = getReg s (OPT_FEC_CORR l) + BitVec.ofNat 64 c ∧
      getReg t (PMC_EVT 0x0501) = getReg s (PMC_EVT 0x0501) + (if new = fbit s (OPT_LANE.SD l) then 0 else 1) ∧
      regsQuiet (fun o => o == OPT_LANE l || o == OPT_FEC_CORR l) s t ∧ signalsOnly s t := by
  intro t new
  have hne : OPT_LANE l ≠ OPT_FEC_CORR l := by unfold OPT_LANE OPT_FEC_CORR; omega
  have hevtCorr : PMC_EVT 0x0501 ≠ OPT_FEC_CORR l := by unfold PMC_EVT OPT_FEC_CORR; omega
  have hevtLane : PMC_EVT 0x0501 ≠ OPT_LANE l := by unfold PMC_EVT OPT_LANE; omega
  have hcorr : getReg (bumpBy s (OPT_FEC_CORR l) c) (OPT_FEC_CORR l) = getReg s (OPT_FEC_CORR l) + BitVec.ofNat 64 c :=
    getReg_setReg_same s _ _
  have hcount : regsBut (fun o => o == OPT_LANE l || o == OPT_FEC_CORR l) s (bumpBy s (OPT_FEC_CORR l) c) :=
    regsBut_setReg s (by simp) _
  have ht : t = _ := sdWindow_eq l hup c r
  by_cases h : new = fbit s (OPT_LANE.SD l)
  · rw [if_pos h] at ht
    rw [ht, if_pos h, h]
    refine ⟨?_, hcorr, ?_, regsQuiet.of_regsBut hcount, rfl⟩
    · exact congrArg (· == 1) (fget_setReg_ne s (f := OPT_LANE.SD l) _ hne)
    · exact (getReg_setReg_ne s hevtCorr _).trans (BitVec.add_zero _).symm
  · rw [if_neg h] at ht
    rw [if_neg h]
    generalize hu : fset (bumpBy s (OPT_FEC_CORR l) c) (OPT_LANE.SD l) (b2n new) = u at ht
    have hset : regsBut (fun o => o == OPT_LANE l || o == OPT_FEC_CORR l) (bumpBy s (OPT_FEC_CORR l) c) u := by
      rw [← hu]
      exact regsBut_fset _ (OPT_LANE.SD l) (by simp [OPT_LANE.SD]) _
    obtain ⟨honly, hregs, -⟩ := event_signals u (block := 5) (code := 1) (by decide) 1 (swOf l) 0xFFFF l
      ([BitVec.ofNat 8 (b2n new)] ++ le 8 c)
    have hevt := getReg_event_count u (block := 5) (code := 1) (by decide) 1 (swOf l) 0xFFFF l
      ([BitVec.ofNat 8 (b2n new)] ++ le 8 c)
    rw [← ht] at honly hregs hevt
    refine ⟨?_, ?_, ?_, ?_, ?_⟩
    · rw [fbit, fget_of_getReg_eq (f := OPT_LANE.SD l) (hregs _ (signalReg_lane l).1), ← hu,
        fget_fset_same _ _ _ (show 3 + 1 ≤ 64 by decide)]
      cases new <;> rfl
    · rw [hregs _ (signalReg_lane l).2, ← hu, getReg_fset_ne _ (f := OPT_LANE.SD l) hne.symm, hcorr]
    · refine hevt.trans (congrArg (· + 1) ?_)
      rw [← hu]
      exact (getReg_setReg_ne _ hevtLane _).trans (getReg_setReg_ne s hevtCorr _)
    · exact regsQuiet.trans (regsQuiet.of_regsBut (hcount.trans hset)) fun o _ ho => hregs o ho
    · rw [← hu] at honly
      unfold signalsOnly at *
      rw [honly]
      rfl

/-- Settles O15: on a port that is DOWN a condition ends with its lane's register, and a window's end is `sdWindow_eq`. -/
theorem laneConditions : Obligations.LaneConditions := by
  unfold Obligations.LaneConditions
  intro calm only
  have hset : ∀ (l : Nat) (s : State) (f : Fld) (v : Nat), f.off = OPT_LANE l → only l s (fset s f v) :=
    fun l s f v hf => (laneField_onlyRegs s l hf v).symm
  have hkept : ∀ (l : Nat) (s : State), only l s s := fun l s => ⟨regsBut.refl _ s, rfl⟩
  refine ⟨fun l pwr s hcalm => ?_, fun l s hcalm => ?_, fun l s hcalm => ?_, fun l s hcalm => ?_, fun l s hcalm => ?_,
    fun l c r s hpow hup _ => ?_⟩
  · obtain ⟨hpow, hup, -, hdown⟩ := hcalm
    refine ⟨_, live_of_powered hpow fun s => losAssert s l pwr, ?_⟩
    rw [losAssert_of_down hup hdown]
    have hpwr := fget_rxpwr_set s l pwr
    split
    · next h =>
      refine ⟨?_, hpwr, hset l s (OPT_LANE.RXPWR l) _ rfl⟩
      rw [fbit, fget_fset_ne s (OPT_LANE.RXPWR l) (OPT_LANE.LOS l) _ (Or.inr (Or.inl (show 0 + 1 ≤ 32 by decide)))]
      exact h
    · refine ⟨fbit_fset_one _ rfl (show 0 + 1 ≤ 64 by decide), ?_,
        ((laneField_onlyRegs s l rfl _).trans (laneField_onlyRegs _ l rfl 1)).symm⟩
      rw [fget_fset_ne _ (OPT_LANE.LOS l) (OPT_LANE.RXPWR l) _ (Or.inr (Or.inr (show 0 + 1 ≤ 32 by decide))), hpwr]
  · obtain ⟨hpow, hup, hsus, hdown⟩ := hcalm
    refine ⟨_, live_of_powered hpow fun s => lolAssert s l, ?_⟩
    rw [lolAssert_of_down hup hsus hdown]
    split
    · next h => exact ⟨h, hkept l s⟩
    · exact ⟨fbit_fset_one _ rfl (show 1 + 1 ≤ 64 by decide), hset l s (OPT_LANE.LOL l) _ rfl⟩
  · obtain ⟨hpow, hup, hsus, hdown⟩ := hcalm
    refine ⟨_, live_of_powered hpow fun s => alignmentLoss s l, ?_⟩
    rw [alignmentLoss_of_down hup hsus hdown]
    split
    · exact ⟨fget_fset_zero s (show 2 + 1 ≤ 64 by decide), hset l s (OPT_LANE.ALIGN l) _ rfl⟩
    · next h => exact ⟨fget_of_not_fbit rfl (Bool.eq_false_iff.2 h), hkept l s⟩
  · obtain ⟨hpow, hup, hsus, hdown⟩ := hcalm
    refine ⟨_, live_of_powered hpow fun s => uncorrectable s l, ?_⟩
    rw [uncorrectable_of_down hup hsus hdown]
    exact ⟨(getReg_bump s _ _).trans (if_pos rfl), regsBut_bump s (by simp), rfl⟩
  · obtain ⟨hpow, hup, -, -⟩ := hcalm
    refine ⟨_, live_of_powered hpow fun s => clockLock s l, ?_⟩
    rw [show clockLock s l = fset s (OPT_LANE.LOL l) 0 from if_pos hup]
    exact ⟨fget_fset_zero s (show 1 + 1 ≤ 64 by decide), hset l s (OPT_LANE.LOL l) _ rfl⟩
  · exact ⟨_, live_of_powered hpow fun s => sdWindow s l c r, sdWindow_frame l hup c r⟩

end Sys2Proof.Machine
end

section
/-! SUPPORT. A lane condition on a working port (R80, R366): it settles O16. -/

namespace Sys2Proof.Machine

open Claim

theorem portOf_lt (s : State) {l : Nat} (hl : l < 1024) : portOf s l < 1024 := by
  unfold portOf
  split_ifs <;> omega

/-- On a lit port that works, a lane condition is a link failure of the port gone DOWN. -/
theorem laneCondition_of_working {s : State} {l : Nat} (hlit : fibreDark s (portOf s l / 8) = false)
    (hwork : linkWorks s (portOf s l) = true) (cause : Nat) :
    laneCondition s l cause = linkFailure (portDown s (portOf s l)) (portOf s l) cause := by
  rw [laneCondition, hlit, if_neg (by decide)]
  exact if_pos hwork

/-- A link failure of an unfenced port on a working die, gone DOWN, fences it. -/
theorem linkFailure_portDown {s : State} {L : Nat} (hL : L < 1024) {cause : Nat} (hcause : cause < 16)
    (hun : portFenced s L = false) (hup : dieUp s (swOf L) = true) (hlit : fibreDark s (L / 8) = false)
    (href : s.sys.refPhase ≠ 1) {t : State} (ht : linkFailure (portDown s L) L cause = t) :
    (port t L).under = pDOWN ∧ portFenced t L = true ∧ fget t (PRT_FENCE.CAUSE L) = cause ∧ portState t L = pFENCED := by
  obtain ⟨hst, hregs⟩ := portDown_loss s hL
  have hsys : (portDown s L).sys = s.sys := by rw [hst]
  have hfibres : (portDown s L).fibres = s.fibres := by rw [hst]
  have hdie : dieUp (portDown s L) (swOf L) = true := by
    have hquiet : lossReg (FLT_DIE (swOf L)) = false :=
      (Bool.or_eq_false_iff.1 (gateReg_die ⟨swOf L, by unfold swOf; omega⟩)).1
    rw [dieUp_of_getReg_eq (hregs _ hquiet), hup]
  have hfenced : linkFailure (portDown s L) L cause = fencePort (portDown s L) L cause := by
    rw [linkFailure, if_neg (by simp [hsys, href])]
  obtain ⟨hunder, hfields⟩ := fencePort_fences hL hcause ((portFenced_portDown s hL).trans hun) hdie
    ((fibreDark_congr hfibres _).trans hlit)
  rw [hfenced] at ht
  subst ht
  exact ⟨hunder.trans (portDown_port s hL).1, hfields⟩

/-- Fresh on a lane, the condition fences the lane's port with its cause, whatever of the lane's register it set before. -/
theorem laneCondition_fences {s u : State} {l : Nat} (hl : l < 1024) (hu : OnlyRegs (fun o => o == OPT_LANE l) s u) {cause : Nat}
    (hcause : cause < 16) (hup : dieUp s (swOf (portOf s l)) = true) (hwork : linkWorks s (portOf s l) = true)
    (hlit : fibreDark s (portOf s l / 8) = false) (hun : portFenced s (portOf s l) = false) (href : s.sys.refPhase ≠ 1) {t : State}
    (ht : laneCondition u l cause = t) :
    (port t (portOf s l)).under = pDOWN ∧ portFenced t (portOf s l) = true ∧ fget t (PRT_FENCE.CAUSE (portOf s l)) = cause ∧
      portState t (portOf s l) = pFENCED := by
  obtain ⟨hst, hregs⟩ := hu
  have hL : portOf s l < 1024 := portOf_lt s hl
  have hport : portOf u l = portOf s l := by rw [hst]; rfl
  have hwork' : linkWorks u (portOf s l) = true := by rw [← hwork, hst]; rfl
  have hlit' : fibreDark u (portOf s l / 8) = false := by rw [← hlit, hst]; rfl
  have href' : u.sys.refPhase ≠ 1 := by rw [hst]; exact href
  have hun' : portFenced u (portOf s l) = false := by
    have hne : PRT_STATE (portOf s l) ≠ OPT_LANE l := by unfold PRT_STATE portPage OPT_LANE; omega
    rw [portFenced, fbit, fget_of_getReg_eq (f := PRT_STATE.FENCE (portOf s l)) (hregs _ (beq_eq_false_iff_ne.2 hne))]
    exact hun
  have hup' : dieUp u (swOf (portOf s l)) = true := by
    have hne : FLT_DIE (swOf (portOf s l)) ≠ OPT_LANE l := by unfold FLT_DIE swOf OPT_LANE; omega
    rw [dieUp_of_getReg_eq (hregs _ (beq_eq_false_iff_ne.2 hne)), hup]
  rw [laneCondition_of_working (hport ▸ hlit') (hport ▸ hwork'), hport] at ht
  exact linkFailure_portDown hL hcause hun' hup' hlit' href' ht

/-- Settles O16: LOS and LOL are the two causes of `laneCondition_fences`. -/
theorem laneConditionFencesPort : Obligations.LaneConditionFencesPort := by
  unfold Obligations.LaneConditionFencesPort
  refine ⟨fun l pwr s hworks hfresh => ?_, fun l s hworks hfresh => ?_⟩
  · obtain ⟨hpow, hup, -, -, hsame, hwork, hlit, hun, href⟩ := hworks
    refine ⟨_, live_of_powered hpow fun s => losAssert s l pwr, ?_⟩
    have hlos : fbit (fset s (OPT_LANE.RXPWR l) pwr.toNat) (OPT_LANE.LOS l) = false := by
      rw [fbit, fget_fset_ne s (OPT_LANE.RXPWR l) (OPT_LANE.LOS l) _ (Or.inr (Or.inl (show 0 + 1 ≤ 32 by decide)))]
      exact hfresh
    have hstep : losAssert s l pwr = laneCondition (fset (fset s (OPT_LANE.RXPWR l) pwr.toNat) (OPT_LANE.LOS l) 1) l 1 := by
      rw [losAssert, laneLive, hup, if_neg (by decide)]
      dsimp only
      rw [hlos, if_neg (by decide)]
    exact laneCondition_fences l.isLt ((laneField_onlyRegs s l rfl _).trans (laneField_onlyRegs _ l rfl 1)) (by decide)
      (hsame ▸ hup) hwork hlit hun href hstep.symm
  · obtain ⟨hpow, hup, hsus, -, hsame, hwork, hlit, hun, href⟩ := hworks
    refine ⟨_, live_of_powered hpow fun s => lolAssert s l, ?_⟩
    have hstep : lolAssert s l = laneCondition (fset s (OPT_LANE.LOL l) 1) l 2 := by
      rw [lolAssert, laneLive, hup, hsus, if_neg (by decide), hfresh, if_neg (by decide)]
    exact laneCondition_fences l.isLt (laneField_onlyRegs s l rfl 1) (by decide) (hsame ▸ hup) hwork hlit hun href hstep.symm

end Sys2Proof.Machine
end

section
/-! SUPPORT. Bring-up (R84, R85, R88): it settles O17. -/

namespace Sys2Proof.Machine

open Claim

/-! Entry into TRAINING (R84). -/

/-- No register of the optics counts. -/
theorem countReg_optics {o : Nat} (h : 0x1400000 ≤ o) (h' : o < 0x1410000) : countReg o = false := by
  unfold countReg recordReg inSrc EVR_LOST IC_MERGED inCtxCount BOB_SEND SWC_MC_SUPP inPortPage
  simp only [Bool.or_eq_false_iff, Bool.and_eq_false_iff, beq_eq_false_iff_ne, decide_eq_false_iff_not]
  omega

/-- The module with the receivers of a port started afresh. -/
def receiversReset (s : State) (L : Nat) : State :=
  forEach (portLanes s L) s fun s l =>
    setLane (fset (fset s (OPT_LANE.LOL l) 1) (OPT_LANE.ALIGN l) 0) l fun x => { x with markAt := 0 }

/-- From `s` to `t` registers and lanes changed, and nothing else. -/
def LaneWork (s t : State) : Prop := t = { s with regs := t.regs, lanes := t.lanes }

theorem LaneWork.trans {s t u : State} (h : LaneWork s t) (k : LaneWork t u) : LaneWork s u := by
  unfold LaneWork at *
  rw [k, h]

theorem LaneWork.fset (s : State) (f : Fld) (v : Nat) : LaneWork s (fset s f v) := rfl

theorem LaneWork.setLane (s : State) (l : Nat) (f : LaneSt → LaneSt) : LaneWork s (setLane s l f) := rfl

theorem LaneWork.now {s t : State} (h : LaneWork s t) : t.now = s.now :=
  congrArg (· / 2 ^ 32) (show t.mono = s.mono by rw [h])

theorem LaneWork.port {s t : State} (h : LaneWork s t) (L : Nat) : port t L = port s L :=
  congrArg (fun ps => tget ({} : PortSt) ps L) (show t.ports = s.ports by rw [h])

/-- The receivers started afresh leave everything but registers and lanes, and every LOS. -/
theorem receiversReset_frame (s : State) (L : Nat) :
    LaneWork s (receiversReset s L) ∧ ∀ l, fget (receiversReset s L) (OPT_LANE.LOS l) = fget s (OPT_LANE.LOS l) := by
  refine forEach_keeps (P := fun t => LaneWork s t ∧ ∀ l, fget t (OPT_LANE.LOS l) = fget s (OPT_LANE.LOS l))
    (fun t k _ ht => ?_) ⟨rfl, fun _ => rfl⟩
  obtain ⟨hwork, hlos⟩ := ht
  refine ⟨((hwork.trans (LaneWork.fset _ _ _)).trans (LaneWork.fset _ _ _)).trans (LaneWork.setLane _ _ _), fun l => ?_⟩
  rw [fget_congr (setLane_regs _ _ _),
    fget_fset_ne _ (OPT_LANE.ALIGN k) (OPT_LANE.LOS l) 0 (Or.inr (Or.inl (show 0 + 1 ≤ 2 by decide))),
    fget_fset_ne t (OPT_LANE.LOL k) (OPT_LANE.LOS l) 1 (Or.inr (Or.inl (show 0 + 1 ≤ 1 by decide))), hlos]

/-- The same with the neighbour forgotten. -/
def trainingCleared (s : State) (L : Nat) : State :=
  fset (fset (receiversReset s L) (PRT_NBR_SEEN.VALID L) 0) (PRT_JLP.VER L) 0

theorem trainingCleared_work (s : State) (L : Nat) : LaneWork s (trainingCleared s L) :=
  ((receiversReset_frame s L).1.trans (LaneWork.fset _ _ _)).trans (LaneWork.fset _ _ _)

theorem trainingCleared_fields (s : State) {L : Nat} (hL : L < 1024) :
    fget (trainingCleared s L) (PRT_NBR_SEEN.VALID L) = 0 ∧
      ∀ l, fget (trainingCleared s L) (OPT_LANE.LOS l) = fget s (OPT_LANE.LOS l) := by
  have hseen : PRT_NBR_SEEN L ≠ PRT_JLP L := by unfold PRT_NBR_SEEN PRT_JLP; omega
  unfold trainingCleared
  refine ⟨?_, fun l => ?_⟩
  · rw [fget_fset_ne _ (PRT_JLP.VER L) (PRT_NBR_SEEN.VALID L) _ (Or.inl hseen)]
    exact fget_fset_zero _ (show 0 + 1 ≤ 64 by decide)
  · have hlane : OPT_LANE l ≠ PRT_JLP L ∧ OPT_LANE l ≠ PRT_NBR_SEEN L := by
      unfold OPT_LANE PRT_JLP PRT_NBR_SEEN portPage
      omega
    rw [fget_fset_ne _ (PRT_JLP.VER L) (OPT_LANE.LOS l) _ (Or.inl hlane.1),
      fget_fset_ne _ (PRT_NBR_SEEN.VALID L) (OPT_LANE.LOS l) _ (Or.inl hlane.2), (receiversReset_frame s L).2]

/-- A port as it enters TRAINING at a time. -/
def trainingPort (now : Nat) (p : PortSt) : PortSt :=
  { p with trainAt := now, retryWait := false, retryAt := 0, trainGen := p.trainGen + 1, stored := none, pair := none,
           aligned := false, initRx := 0, sent := [], peerRet := [], peerD := [], peerS := [], held := [], returned := [],
           advD := [], advS := [], retDirty := 0, ethHeld := [], xoff := [], pfcUntil := [], resync := false }

theorem enterTraining_eq (s : State) (L : Nat) :
    enterTraining s L =
      setUnder (setPort (trainingCleared s L) L (trainingPort (trainingCleared s L).now)) L pTRAINING := rfl

/-- What entry into TRAINING leaves. -/
theorem enterTraining_frame (s : State) {L : Nat} (hL : L < 1024) {t : State} (ht : enterTraining s L = t) :
    (port t L).under = pTRAINING ∧ (port t L).trainAt = s.now ∧ (port t L).trainGen = (port s L).trainGen + 1 ∧
      fget t (PRT_NBR_SEEN.VALID L) = 0 ∧ ∀ l < 1024, fget t (OPT_LANE.LOS l) = fget s (OPT_LANE.LOS l) := by
  have hwork := trainingCleared_work s L
  obtain ⟨hvalid, hlos⟩ := trainingCleared_fields s hL
  have hseen : PRT_NBR_SEEN L ≠ PRT_STATE L := by unfold PRT_NBR_SEEN PRT_STATE; omega
  obtain ⟨-, -, hquiet, -⟩ := countReg_portRegs hL
  rw [enterTraining_eq, hwork.now] at ht
  subst ht
  refine ⟨under_setUnder _ hL _, ?_, ?_, ?_, fun l hl => ?_⟩
  · rw [trainAt_setUnder _ hL, port_setPort_same]
    rfl
  · rw [trainGen_setUnder _ hL, port_setPort_same, hwork.port]
    rfl
  · rw [fget_setUnder _ hL _ (f := PRT_NBR_SEEN.VALID L) hquiet (Or.inl hseen), fget_congr (setPort_regs _ _ _), hvalid]
  · have hoptics : countReg (OPT_LANE l) = false := countReg_optics (by unfold OPT_LANE; omega) (by unfold OPT_LANE; omega)
    have hne : OPT_LANE l ≠ PRT_STATE L := by unfold OPT_LANE PRT_STATE portPage; omega
    rw [fget_setUnder _ hL _ (f := OPT_LANE.LOS l) hoptics (Or.inl hne), fget_congr (setPort_regs _ _ _), hlos]

/-! Alignment (R76, R84). -/

/-- One lane has no skew against another. -/
theorem deskewed_of_one {s : State} {L l : Nat} (h : portLanes s L = [l]) : deskewed s L = true := by
  have hone : ∀ a ∈ ((portLanes s L).map fun l => ((lane s l).markCnt, (lane s l).markAt)).filter fun m => m.2 != 0,
      a = ((lane s l).markCnt, (lane s l).markAt) := by
    intro a ha
    simpa [h] using List.mem_of_mem_filter ha
  rw [deskewed, List.all_eq_true]
  intro a ha
  rw [List.all_eq_true]
  intro b hb
  rw [hone a ha, hone b hb]
  simp

/-- A port marked as aligned at a time: IDENT is due from then on. -/
def alignedPort (now : Nat) (p : PortSt) : PortSt := { p with aligned := true, alignAt := now, fastIdent := true, identAt := 0 }

/-- ALIGN_LOCK of the one lane of a fabric port in TRAINING marks alignment. -/
theorem alignLock_of_one {s : State} {l : Nat} (hup : dieUp s (swOf l) = true) (hlanes : portLanes s (portOf s l) = [l])
    (hport : portOf s l = l) (htrain : (port s l).under = pTRAINING) (hnew : (port s l).aligned = false)
    (hfab : isEth s l = false) (hlol : fbit s (OPT_LANE.LOL l) = false) (hlos : fbit s (OPT_LANE.LOS l) = false) :
    alignLock s l = setPort (fset s (OPT_LANE.ALIGN l) 1) l (alignedPort s.now) := by
  generalize hu : fset s (OPT_LANE.ALIGN l) 1 = u
  have halign : fbit u (OPT_LANE.ALIGN l) = true := by
    rw [← hu]
    exact fbit_fset_one s rfl (show 2 + 1 ≤ 64 by decide)
  have hother : ∀ f : Fld, f.lo + f.wid ≤ 2 → fbit u f = fbit s f := fun f hf => by
    rw [← hu, fbit, fbit, fget_fset_ne s (OPT_LANE.ALIGN l) f 1 (Or.inr (Or.inl hf))]
  have hst : u = { s with regs := u.regs } := by rw [← hu]; rfl
  have hportOf : portOf u l = l := by rw [hst]; exact hport
  have hlanes' : portLanes u l = [l] := by rw [hst, ← hlanes, hport]; rfl
  have hports : port u l = port s l := by rw [hst]; rfl
  have hnow : u.now = s.now := by rw [hst]; rfl
  have hfab' : ∀ f, isEth (setPort u l f) l = false := by
    intro f
    rw [hst]
    exact hfab
  have hlol' : fbit u (OPT_LANE.LOL l) = false := (hother _ (show 1 + 1 ≤ 2 by decide)).trans hlol
  have hlos' : fbit u (OPT_LANE.LOS l) = false := (hother _ (show 0 + 1 ≤ 2 by decide)).trans hlos
  rw [alignLock, laneLive, hup, if_neg (by decide), hu]
  dsimp only
  rw [hportOf, hports, hlanes', hnow, deskewed_of_one hlanes', if_pos (by simp [htrain, hnew, halign, hlol', hlos']), hfab',
    if_neg (by decide)]
  rfl

/-! Time-outs (R85, R88). -/

/-- What a port judged UP or QUARANTINE with a reason is, beyond what signals. -/
theorem judged_frame (s : State) {L : Nat} (hL : L < 1024) {q : Nat} (hq : q < 256) (u : Nat) {t : State}
    (ht : Signals (setUnder (fset s (PRT_STATE.QREASON L) q) L u) t) :
    (port t L).under = u ∧ fget t (PRT_STATE.QREASON L) = q ∧
      (∀ f : Fld, countReg f.off = false → signalReg f.off = false → f.off ≠ PRT_STATE L → fget t f = fget s f) ∧
      t.test = s.test := by
  have hregs := ht.2.1
  obtain ⟨hstate, -⟩ := countReg_portRegs hL
  refine ⟨?_, ?_, fun f hcount hsig hne => ?_, ?_⟩
  · rw [port, ports_of_signals ht]
    exact under_setUnder _ hL u
  · rw [fget_of_getReg_eq (f := PRT_STATE.QREASON L) (hregs _ (signalReg_page (c := 0) hL (by decide))),
      fget_setUnder _ hL u (f := PRT_STATE.QREASON L) hstate (Or.inr (show 3 ≤ 8 by decide)),
      fget_fset_same _ _ _ (show 8 + 8 ≤ 64 by decide)]
    exact Nat.mod_eq_of_lt hq
  · rw [fget_of_getReg_eq (hregs _ hsig), fget_setUnder _ hL u hcount (Or.inl hne),
      fget_fset_ne s (PRT_STATE.QREASON L) f q (Or.inl hne)]
  · exact test_of_unreached ((unreached_of_signals ht).trans ((unreached_setUnder _ _ _).trans (unreached_fset _ _ _)))

theorem portToQuar_signals (s : State) (L reason : Nat) (serial : List Byte) :
    Signals (setUnder (fset s (PRT_STATE.QREASON L) reason) L pQUARANTINE) (portToQuar s L reason serial) :=
  Signals.ite (event_signals _ (by decide) _ _ _ _ _) (Signals.refl _)

theorem portToUp_signals (s : State) (L ver : Nat) (serial : List Byte) :
    Signals (setUnder (fset s (PRT_STATE.QREASON L) 0) L pUP) (portToUp s L ver serial) :=
  Signals.ite (event_signals _ (by decide) _ _ _ _ _) (Signals.refl _)

theorem noIdentTimeout_eq {s : State} {L : Nat} (hfab : isEth s L = false) (htrain : (port s L).under = pTRAINING)
    (hal : (port s L).aligned = true) (hstored : (port s L).stored = none) (hpair : (port s L).pair = none)
    (hdue : s.elapsed (port s L).alignAt 10000000 = true) :
    noIdentTimeout s L = portToQuar s L 1 (List.replicate 16 0) := by
  rw [noIdentTimeout]
  exact if_pos (by simp [hfab, htrain, hal, hstored, hpair, hdue])

/-- An event with a rate limit is counted once. -/
theorem getReg_eventLim_count (s : State) (key len : Nat) {block code : Nat} (h : 256 * block + code < 0x1080)
    (sev die ctx unit : Nat) (data : List Byte) :
    getReg (eventLim s key len block code sev die ctx unit data) (PMC_EVT (256 * block + code)) =
      getReg s (PMC_EVT (256 * block + code)) + 1 := by
  have hset : ∀ (u : State) (f : EvrSt → EvrSt), regsBut recordReg u (setEvr u f) := fun u f => regsBut_of_regs_eq rfl
  have hrec : regsBut recordReg (bump s (PMC_EVT (256 * block + code))) (eventLim s key len block code sev die ctx unit data) := by
    unfold eventLim
    dsimp only
    split
    · split
      · exact hset _ _
      · split
        · exact (hset _ _).trans (evrOffer_regsBut _ _)
        · exact (evrOffer_regsBut _ _).trans (hset _ _)
    · exact (hset _ _).trans (evrOffer_regsBut _ _)
  rw [hrec _ (recordReg_evt h), getReg_bump, if_pos rfl]

/-- The module with a port's training given up: a retry is due in 10 ms. -/
def trainingFailed (s : State) (L : Nat) : State := retryAtTime (setUnder s L pDOWN) L (s.now + 10000000)

/-- TRAIN_TIMEOUT 50 ms after entry: failures folded before are reported, and this one is counted. -/
theorem trainTimeout_eq {s : State} {L : Nat} (htrain : (port s L).under = pTRAINING)
    (hdue : s.elapsed (port s L).trainAt 50000000 = true) :
    ∃ u, Signals (trainingFailed s L) u ∧ regsBut recordReg (trainingFailed s L) u ∧
      trainTimeout s L = eventLim (setPort u L fun p => { p with firstFail := false }) (winKey 0x04 1 L 0) 10000000000 0x04 1 1
        (swOf L) 0xFFFF L [] := by
  refine ⟨_, ?_, ?_, if_pos (by simp [htrain, hdue])⟩
  · refine Signals.ite (Signals.trans ?_ (Signals.setEvr _ _)) (Signals.refl _)
    split
    · exact Signals.ite (evrOffer_signals _ _) (Signals.refl _)
    · exact Signals.refl _
  · refine regsBut_ite (regsBut.trans ?_ (regsBut_of_regs_eq rfl)) (regsBut.refl _ _)
    split
    · exact regsBut_ite (evrOffer_regsBut _ _) (regsBut.refl _ _)
    · exact regsBut.refl _ _

theorem countReg_evt : countReg (PMC_EVT 0x0401) = false := by decide +kernel

/-- What TRAIN_TIMEOUT leaves. -/
theorem trainTimeout_frame {s : State} {L : Nat} (hL : L < 1024) (htrain : (port s L).under = pTRAINING)
    (hdue : s.elapsed (port s L).trainAt 50000000 = true) :
    (port (trainTimeout s L) L).under = pDOWN ∧ (port (trainTimeout s L) L).retryWait = true ∧
      (port (trainTimeout s L) L).retryAt = s.now + 10000000 ∧
      getReg (trainTimeout s L) (PMC_EVT 0x0401) = getReg s (PMC_EVT 0x0401) + 1 := by
  obtain ⟨u, hsig, hregs, heq⟩ := trainTimeout_eq htrain hdue
  have hport : port (trainTimeout s L) L = { port (trainingFailed s L) L with firstFail := false } := by
    rw [heq, port, ports_of_signals (eventLim_signals _ _ _ (by decide) _ _ _ _ _)]
    refine (port_setPort_same u L _).trans ?_
    rw [port, ports_of_signals hsig]
    rfl
  have hfailed : port (trainingFailed s L) L =
      { port (setUnder s L pDOWN) L with retryWait := true, retryAt := s.now + 10000000 } := port_setPort_same _ _ _
  have hcount : getReg u (PMC_EVT 0x0401) = getReg s (PMC_EVT 0x0401) := by
    have hne : PMC_EVT 0x0401 ≠ PRT_STATE L := by unfold PMC_EVT PRT_STATE portPage; omega
    exact (hregs _ (recordReg_evt (by decide))).trans (getReg_setUnder s hL pDOWN countReg_evt hne)
  rw [hport, hfailed]
  refine ⟨under_setUnder s hL pDOWN, rfl, rfl, ?_⟩
  rw [heq, ← hcount]
  exact getReg_eventLim_count (setPort u L _) _ _ (block := 0x04) (code := 1) (by decide) _ _ _ _ _

/-- Settles O17: both ways into TRAINING are `enterTraining`, and each other clause is the equation of its command. -/
theorem bringUp : Obligations.BringUp := by
  unfold Obligations.BringUp
  refine ⟨fun l pwr s hpow hup => ?_, fun L s hpow hcan hwait hdue => ?_,
    fun l s hpow hup hlanes hport htrain hnew hfab hlol hlos => ?_, fun L s hpow hfab htrain hal hstored hpair hdue => ?_,
    fun L s hpow htrain hdue => ⟨_, live_of_powered hpow fun s => trainTimeout s L, trainTimeout_frame L.isLt htrain hdue⟩⟩
  · intro s1 hcan hwait
    have hstep : losClear s l pwr = enterTraining s1 (portOf s l) := by
      rw [losClear, laneLive, hup, if_neg (by decide)]
      have hnowait : (port s1 (portOf s l)).retryWait = false := hwait
      exact if_pos (by rw [show portOf s1 l = portOf s l from rfl, hcan, hnowait]; rfl)
    refine ⟨_, live_of_powered hpow fun s => losClear s l pwr, ?_⟩
    obtain ⟨hunder, hat, hgen, hvalid, hlos⟩ := enterTraining_frame s1 (portOf_lt s l.isLt) hstep.symm
    refine ⟨hunder, hat, hgen, ?_, hvalid⟩
    rw [hlos l l.isLt]
    exact fget_fset_zero _ (show 0 + 1 ≤ 64 by decide)
  · have hstep : trainRetry s L = enterTraining s L := if_pos (by simp [hwait, hdue, hcan])
    refine ⟨_, live_of_powered hpow fun s => trainRetry s L, ?_⟩
    obtain ⟨hunder, hat, -⟩ := enterTraining_frame s L.isLt hstep.symm
    exact ⟨hunder, hat⟩
  · refine ⟨_, live_of_powered hpow fun s => alignLock s l, ?_⟩
    rw [alignLock_of_one hup hlanes hport htrain hnew hfab hlol hlos]
    have halign : port (setPort (fset s (OPT_LANE.ALIGN l) 1) l (alignedPort s.now)) l = alignedPort s.now (port s l) :=
      port_setPort_same _ _ _
    dsimp only
    rw [halign]
    exact ⟨fbit_fset_one s rfl (show 2 + 1 ≤ 64 by decide), rfl, rfl, htrain,
      regsBut_fset s (OPT_LANE.ALIGN l) (by simp [OPT_LANE.ALIGN]) 1, rfl⟩
  · refine ⟨_, live_of_powered hpow fun s => noIdentTimeout s L, ?_⟩
    rw [noIdentTimeout_eq hfab htrain hal hstored hpair hdue]
    obtain ⟨hunder, hreason, -⟩ := judged_frame s L.isLt (by decide) _ (portToQuar_signals s L 1 (List.replicate 16 0))
    exact ⟨hunder, hreason⟩

end Sys2Proof.Machine
end

section
/-! SUPPORT. IDENT (R87, R88): it settles O18. -/

namespace Sys2Proof.Machine

open Claim

/-! A command of the clocked periphery. -/

theorem liveClocked_of_clocked {s : State} (h : clocked s = true) (f : State → State) : liveClocked s f = .next (f s) := by
  obtain ⟨hpow, href⟩ := Bool.and_eq_true_iff.1 h
  have hrun : (s.sys.refPhase == 1) = false := by simpa using href
  rw [liveClocked, live_of_powered hpow, hrun]
  rfl

/-! The record (Table 4.10). -/

@[simp] theorem length_le (n v : Nat) : (le n v).length = n := by
  induction n generalizing v with
  | zero => rfl
  | succ n ih => simp [le, ih]

theorem unle_le (n v : Nat) : unle (le n v) = v % 256 ^ n := by
  induction n generalizing v with
  | zero => simp [le, unle, Nat.mod_one]
  | succ n ih =>
    rw [le, unle, ih, BitVec.toNat_ofNat, show 256 ^ (n + 1) = 256 * 256 ^ n from Nat.pow_succ']
    exact Nat.mod_mul.symm

@[simp] theorem length_serialBytes : serialBytes.length = 16 := by simp [serialBytes]

/-- The two bytes of the record that say where the port is: the module's slot and the port's width. -/
def identPlace (s : State) (L : Nat) : List Byte := le 1 (fget s CTL_STRAP.SLOT) ++ le 1 (widthOf s L)

theorem length_identPlace (s : State) (L : Nat) : (identPlace s L).length = 2 := by simp [identPlace]

/-- The record before its CRC. -/
def identBody (s : State) (L : Nat) : List Byte :=
  ([1, 7] ++ le 2 L) ++ (le 4 (fget s CTL_FW.FW_VERSION) ++ (serialBytes ++ (identPlace s L ++ le 2 (L / 8))))

theorem identRecord_eq (s : State) (L : Nat) : identRecord s L = identBody s L ++ le 4 (crc32 (identBody s L)) := by
  have hbody : [1, 7] ++ le 2 L ++ le 4 (fget s CTL_FW.FW_VERSION) ++ serialBytes ++ le 1 (fget s CTL_STRAP.SLOT) ++
      le 1 (widthOf s L) ++ le 2 (L / 8) = identBody s L := by
    simp only [identBody, identPlace, List.append_assoc]
  rw [identRecord, hbody]

theorem length_identBody (s : State) (L : Nat) : (identBody s L).length = 28 := by
  simp [identBody, identPlace]

/-- What the record carries. -/
theorem identRecord_fields (s : State) {L : Nat} (hL : L < 1024) :
    (identRecord s L).length = 32 ∧ (identRecord s L).take 4 = [1, 7] ++ le 2 L ∧
      ((identRecord s L).drop 8).take 16 = serialBytes ∧ fieldAt (identRecord s L) 0x1A 2 = L / 8 ∧
      (identRecord s L).drop 28 = le 4 (crc32 ((identRecord s L).take 28)) := by
  have hbody := length_identBody s L
  have hhead : ([1, 7] ++ le 2 L : List Byte).length = 4 := by simp
  have htake : (identRecord s L).take 28 = identBody s L := by rw [identRecord_eq, List.take_left' hbody]
  have hdrop : (identRecord s L).drop 8 =
      serialBytes ++ (identPlace s L ++ (le 2 (L / 8) ++ le 4 (crc32 (identBody s L)))) := by
    have h4 : (identRecord s L).drop 4 = le 4 (fget s CTL_FW.FW_VERSION) ++
        (serialBytes ++ (identPlace s L ++ (le 2 (L / 8) ++ le 4 (crc32 (identBody s L))))) := by
      rw [identRecord_eq, identBody, List.append_assoc, List.drop_left' hhead]
      simp only [List.append_assoc]
    calc (identRecord s L).drop 8 = ((identRecord s L).drop 4).drop 4 := by rw [List.drop_drop]
      _ = _ := by rw [h4, List.drop_left' (length_le 4 _)]
  have hfibre : (identRecord s L).drop 0x1A = le 2 (L / 8) ++ le 4 (crc32 (identBody s L)) := by
    calc (identRecord s L).drop 0x1A = (((identRecord s L).drop 8).drop 16).drop 2 := by simp only [List.drop_drop]
      _ = _ := by rw [hdrop, List.drop_left' length_serialBytes, List.drop_left' (length_identPlace s L)]
  refine ⟨?_, ?_, ?_, ?_, ?_⟩
  · rw [identRecord_eq, List.length_append, hbody, length_le]
  · rw [identRecord_eq, identBody, List.append_assoc, List.take_left' hhead]
  · rw [hdrop, List.take_left' length_serialBytes]
  · rw [fieldAt, hfibre, List.take_left' (length_le _ _), unle_le]
    omega
  · rw [htake, identRecord_eq, List.drop_left' hbody]

/-! Sending (R88). -/

/-- IDENT_TX due on a port whose link works sends the record in two blocks. -/
theorem identTx_due {s : State} {L : Nat} (hfab : isEth s L = false) (hport : isPort s L = true) (hup : dieUp s (swOf L) = true)
    (hlit : fibreDark s (L / 8) = false) (hwork : linkWorks s L = true) (hdue : s.elapsed (port s L).identAt 1000000000 = true) :
    identTx s L =
      emit (emit (setPort s L fun p => { p with identAt := max s.now 1 }) (.block L (mkBlk 0x33 ((identRecord s L).take 16))))
        (.block L (mkBlk 0x34 ((identRecord s L).drop 16))) := by
  have hsoon : s.elapsed (port s L).identAt 100000 = true := by
    unfold State.elapsed at hdue ⊢
    rw [decide_eq_true_eq] at hdue ⊢
    omega
  rw [identTx]
  dsimp only
  rw [if_neg (by simp [hfab, hport, laneLive, hup, hlit])]
  generalize ((port s L).under == pTRAINING && (port s L).fastIdent || decide (s.now < (port s L).reident)) = fast
  rw [if_neg (by cases fast <;> simp [hwork, hdue, hsoon])]

/-- Two things put out, the later first. -/
theorem out_emit_two (s : State) (a b : Output) : (emit (emit s a) b).out = b :: a :: s.out := rfl

theorem emit_two_setPort (s : State) (L : Nat) (f : PortSt → PortSt) (a b : Output) :
    emit (emit (setPort s L f) a) b =
      { s with ports := (emit (emit (setPort s L f) a) b).ports, out := (emit (emit (setPort s L f) a) b).out } := rfl

/-! Receiving (R87, R88). -/

theorem rxOpen_of_working {s : State} {L : Nat} (hfab : isEth s L = false) (hport : isPort s L = true)
    (hup : dieUp s (swOf L) = true) (hlit : fibreDark s (L / 8) = false) (hwork : linkWorks s L = true) : rxOpen s L = true := by
  simp [rxOpen, hfab, hport, laneLive, hup, hlit, hwork]

theorem identRx_ignored {s : State} {L : Nat} (hopen : rxOpen s L = true) {r : BitVec 256} {a : Bool}
    (hbad : a = false ∨ idValid r = false) : identRx s L r a = bump (endResync s L) (PRT_RX_IDENT L) := by
  rw [identRx, hopen, if_neg (by decide)]
  exact if_pos (by rcases hbad with h | h <;> simp [h])

theorem pair_endResync (s : State) (L : Nat) : (port (endResync s L) L).pair = (port s L).pair := by
  rw [endResync, port_setPort_same]

theorem identRx_first {s : State} {L : Nat} (hopen : rxOpen s L = true) {r : BitVec 256} (hvalid : idValid r = true)
    (hfirst : (port s L).pair ≠ some r) :
    identRx s L r true = setPort (endResync s L) L fun p => { p with pair := some r } := by
  rw [identRx, hopen, if_neg (by decide)]
  dsimp only
  rw [if_neg (by simp [hvalid]), pair_endResync, if_neg (by simpa using hfirst)]

theorem identRx_second {s : State} {L : Nat} (hopen : rxOpen s L = true) {r : BitVec 256} (hvalid : idValid r = true)
    (hpair : (port s L).pair = some r) : identRx s L r true = identStore (endResync s L) L r := by
  rw [identRx, hopen, if_neg (by decide)]
  dsimp only
  rw [if_neg (by simp [hvalid]), pair_endResync, if_pos (by simp [hpair])]

/-! The comparison (R90). -/

theorem identReason_lt (s : State) (L : Nat) (r : BitVec 256) : identReason s L r < 256 := by
  unfold identReason
  dsimp only
  split_ifs <;> omega

/-- The comparison of a fabric port's stored record judges the port by the first failing check. -/
theorem compareNbr_signals {s : State} {L : Nat} (hfab : isEth s L = false) {r : BitVec 256}
    (hstored : (port s L).stored = some r) :
    Signals (setUnder (fset s (PRT_STATE.QREASON L) (identReason s L r)) L (if identReason s L r = 0 then pUP else pQUARANTINE))
      (compareNbr s L) := by
  rw [compareNbr, hfab, if_neg Bool.false_ne_true, hstored]
  dsimp only
  generalize identReason s L r = q
  cases q with
  | zero => exact portToUp_signals _ _ _ _
  | succ q => exact portToQuar_signals _ _ _ _

/-! The stored record (R88). -/

/-- The word of `PRT_NBR_SEEN` for a record. -/
def seenWord (r : BitVec 256) : Word :=
  BitVec.ofNat 64 (idFw r * 2 ^ 32 + idPeerPort r * 2 ^ 16 + idVersions r % 8 * 2 ^ 8 + idKind r * 2 ^ 4 + 1)

/-- Each field of the word is the record's. -/
theorem seenWord_fields {r : BitVec 256} (h : idValid r = true) (L : Nat) :
    wget (seenWord r) (PRT_NBR_SEEN.VALID L) = 1 ∧ wget (seenWord r) (PRT_NBR_SEEN.PEER_PORT L) = idPeerPort r ∧
      wget (seenWord r) (PRT_NBR_SEEN.KIND L) = idKind r ∧ wget (seenWord r) (PRT_NBR_SEEN.FW_VERSION L) = idFw r := by
  have hkind : idKind r ≤ 3 := by
    simp only [idValid, Bool.and_eq_true, decide_eq_true_eq] at h
    exact h.2
  have hfw : idFw r < 2 ^ 32 := bits_lt _ _ _
  have hport : idPeerPort r < 2 ^ 16 := bits_lt _ _ _
  have hver : idVersions r % 8 < 8 := Nat.mod_lt _ (by decide)
  have hnat : (seenWord r).toNat =
      idFw r * 2 ^ 32 + idPeerPort r * 2 ^ 16 + idVersions r % 8 * 2 ^ 8 + idKind r * 2 ^ 4 + 1 := by
    rw [seenWord, BitVec.toNat_ofNat, Nat.mod_eq_of_lt]
    omega
  generalize idVersions r % 8 = v at *
  simp only [wget, bits, hnat, PRT_NBR_SEEN.VALID, PRT_NBR_SEEN.PEER_PORT, PRT_NBR_SEEN.KIND, PRT_NBR_SEEN.FW_VERSION]
  refine ⟨?_, ?_, ?_, ?_⟩ <;> omega

/-- The module with a record stored and shown in the neighbour's registers. -/
def recordStored (s : State) (L : Nat) (r : BitVec 256) : State :=
  setReg (setReg (setReg (setPort s L fun p => { p with pair := none, stored := some r }) (PRT_NBR_SEEN L) (seenWord r))
    (PRT_NBR_SEEN_SER_LO L) (BitVec.ofNat 64 (unle ((idSerial r).take 8))))
    (PRT_NBR_SEEN_SER_HI L) (BitVec.ofNat 64 (unle ((idSerial r).drop 8)))

theorem identStore_eq (s : State) (L : Nat) (r : BitVec 256) :
    identStore s L r =
      if (port (recordStored s L r) L).under == pUP && fget s (PRT_JLP.VER L) != idVer r then portDown (recordStored s L r) L
      else compareNbr (fset (recordStored s L r) (PRT_JLP.VER L) (idVer r)) L := rfl

theorem getReg_recordStored_seen (s : State) (L : Nat) (r : BitVec 256) :
    getReg (recordStored s L r) (PRT_NBR_SEEN L) = seenWord r := by
  have hlo : PRT_NBR_SEEN L ≠ PRT_NBR_SEEN_SER_LO L := by unfold PRT_NBR_SEEN PRT_NBR_SEEN_SER_LO; omega
  have hhi : PRT_NBR_SEEN L ≠ PRT_NBR_SEEN_SER_HI L := by unfold PRT_NBR_SEEN PRT_NBR_SEEN_SER_HI; omega
  rw [recordStored, getReg_setReg_ne _ hhi, getReg_setReg_ne _ hlo, getReg_setReg_same]

theorem stored_recordStored (s : State) (L : Nat) (r : BitVec 256) : (port (recordStored s L r) L).stored = some r := by
  rw [recordStored, port, setReg_ports, setReg_ports, setReg_ports]
  exact congrArg PortSt.stored (port_setPort_same s L _)

theorem isEth_recordStored (s : State) (L : Nat) (r : BitVec 256) : isEth (recordStored s L r) L = isEth s L := by
  rw [isEth, isEth, portMode, portMode, recordStored, setReg_sys, setReg_sys, setReg_sys, setPort_sys]

theorem isEth_fset (s : State) (f : Fld) (v L : Nat) : isEth (fset s f v) L = isEth s L := by
  rw [isEth, isEth, portMode, portMode, fset_sys]

theorem port_fset (s : State) (f : Fld) (v L : Nat) : port (fset s f v) L = port s L := by
  rw [port, port, fset_ports]

/-- A record stored is read in the neighbour's register, however the port is judged by it. -/
theorem identStore_seen (s : State) {L : Nat} (hL : L < 1024) (hfab : isEth s L = false) (r : BitVec 256) {f : Fld}
    (hf : f.off = PRT_NBR_SEEN L) : fget (identStore s L r) f = wget (seenWord r) f := by
  obtain ⟨-, -, hcount, -⟩ := countReg_portRegs hL
  have hne : PRT_NBR_SEEN L ≠ PRT_STATE L := by unfold PRT_NBR_SEEN PRT_STATE; omega
  have hver : PRT_NBR_SEEN L ≠ PRT_JLP L := by unfold PRT_NBR_SEEN PRT_JLP; omega
  have hsig : signalReg (PRT_NBR_SEEN L) = false := signalReg_page (c := 0x28) hL (by decide)
  have hshown : fget (recordStored s L r) f = wget (seenWord r) f := by
    rw [fget, hf, getReg_recordStored_seen, wget]
  rw [← hf] at hcount hne hver hsig
  rw [identStore_eq, ← hshown]
  have hstored := stored_recordStored s L r
  have hfab' : isEth (recordStored s L r) L = false := (isEth_recordStored s L r).trans hfab
  generalize recordStored s L r = u at *
  split
  · rw [portDown, retryAtTime, fget_congr (setPort_regs _ _ _), fget_setUnder u hL pDOWN hcount (Or.inl hne)]
  · have hjudged := compareNbr_signals ((isEth_fset u (PRT_JLP.VER L) (idVer r) L).trans hfab')
      ((congrArg PortSt.stored (port_fset u _ _ L)).trans hstored)
    obtain ⟨-, -, hkept, -⟩ := judged_frame _ hL (identReason_lt _ L r) _ hjudged
    rw [hkept f hcount hsig hne, fget_fset_ne u (PRT_JLP.VER L) f _ (Or.inl hver)]

/-- Settles O18: the record's bytes are those of `identRecord_fields`, and IDENT_RX is one of three equations. -/
theorem ident : Obligations.Ident := by
  unfold Obligations.Ident
  refine ⟨fun L s hlit hdue => ?_, fun L r a s hlit hbad => ?_, fun L r s hlit hvalid hfirst => ?_,
    fun L r s hlit hvalid hpair => ?_⟩
  all_goals obtain ⟨hclk, hfab, hport, hup, hdark, hwork⟩ := hlit
  · refine ⟨_, liveClocked_of_clocked hclk fun s => identTx s L, ?_⟩
    obtain ⟨hlen, hhead, hserial, hfibre, hcrc⟩ := identRecord_fields s L.isLt
    rw [identTx_due hfab hport hup hdark hwork hdue]
    exact ⟨hlen, hhead, hserial, hfibre, hcrc, out_emit_two _ _ _, emit_two_setPort s L _ _ _⟩
  · refine ⟨_, liveClocked_of_clocked hclk fun s => identRx s L r a, ?_⟩
    rw [identRx_ignored (rxOpen_of_working hfab hport hup hdark hwork) hbad]
    have hports : ∀ k : Nat, port (bump (endResync s L) (PRT_RX_IDENT L)) k =
        if k = L then { port s L with resync := false } else port s k := fun k => by
      rw [port, bump_ports]
      exact port_setPort s L k _
    refine ⟨(getReg_bump _ _ _).trans (if_pos rfl), regsBut_bump _ (by simp), ?_, fun k hk => ?_, rfl⟩
    · rw [hports, if_pos rfl]
    · rw [hports, if_neg hk]
  · refine ⟨_, liveClocked_of_clocked hclk fun s => identRx s L r true, ?_⟩
    rw [identRx_first (rxOpen_of_working hfab hport hup hdark hwork) hvalid hfirst]
    exact ⟨congrArg PortSt.pair (port_setPort_same _ _ _), rfl⟩
  · refine ⟨_, liveClocked_of_clocked hclk fun s => identRx s L r true, ?_⟩
    rw [identRx_second (rxOpen_of_working hfab hport hup hdark hwork) hvalid hpair]
    have hseen := fun (f : Fld) (hf : f.off = PRT_NBR_SEEN L) => identStore_seen (endResync s L) L.isLt hfab r hf
    obtain ⟨hv, hp, hk, hw⟩ := seenWord_fields hvalid L
    refine ⟨?_, (hseen _ rfl).trans hp, (hseen _ rfl).trans hk, (hseen _ rfl).trans hw⟩
    rw [fbit, hseen _ rfl, hv]
    rfl

end Sys2Proof.Machine
end

section
/-! SUPPORT. Writes of the port page (R86, R89, R90): they settle O19. -/

namespace Sys2Proof.Machine

open Claim

/-! Writes of a port's page. -/

theorem pageOf_page (L : Nat) {c : Nat} (hc : c < 0x1000) : pageOf (portPage L + c) = L := by
  unfold pageOf portPage
  omega

/-- The row of a port's register is that of its place in the page. -/
theorem findReg_page {L c : Nat} (hL : L < 1024) (hc : c < 0x1000) :
    findReg (portPage L + c) = portRegs.find? (·.covers c) := by
  have hin : 0x1000000 ≤ portPage L + c ∧ portPage L + c < 0x1400000 := by unfold portPage; omega
  have hhole : regHole (portPage L + c) = false := by
    rw [regHole, if_neg (by omega), if_neg (by omega)]
  rw [findReg, hhole, if_neg Bool.false_ne_true, if_pos hin, page_offset L hc]

/-- A write accepted of a register that has a row stores the row's fields and sets off its effect. -/
theorem acceptWrite_of_row {s : State} {p off : Nat} {w : Word} {d : RegDesc} (h : writeReason s p off w = 0)
    (hd : findReg off = some d) (e : Option (List Byte)) :
    acceptWrite s p off w e = testSweep (regEffect s (setReg s off (storeFields d (getReg s off) w)) p off w e) := by
  have hrow : regAt s off = some d := by
    unfold regAt
    split
    · next hnone =>
      rw [writeReason, regAt, if_pos hnone] at h
      cases h
    · exact hd
  rw [acceptWrite, hrow]

/-- An accepted write of a word to a register that has a row answers what its effect makes of the state. -/
theorem writeWord_of_row {s : State} {p : Fin 13} {off : Nat} {w : Word} {d : RegDesc} (h : accepts s p off w = true)
    (hd : findReg off = some d) :
    writeWord p off w s = .next (testSweep (regEffect s (setReg s off (storeFields d (getReg s off) w)) p off w none)) := by
  obtain ⟨hpow, hlive, hreason, h8, -⟩ := accepts_iff.1 h
  rw [writeWord_of_live hpow hlive h8, putReg_of_accepted hreason, acceptWrite_of_row hreason hd]

/-- Of the effects, a write in a port's page, but of its gate command, has that of chapter 4. -/
theorem regEffect_page {L c : Nat} (hL : L < 1024) (hc : c < 0x1000) (hgate : c ≠ 0x390) (old s : State) (p : Nat) (w : Word)
    (e : Option (List Byte)) : regEffect old s p (portPage L + c) w e = portEffect s (portPage L + c) w := by
  have hlow : ∀ n, n ≤ 0x1000000 → ¬ portPage L + c < n := by
    intro n hn
    unfold portPage
    omega
  have htm : tmEffect s (portPage L + c) w = s := by
    have hne : ∀ n, 0x1400000 ≤ n → (portPage L + c == n) = false := by
      intro n hn
      rw [beq_eq_false_iff_ne]
      unfold portPage
      omega
    rw [tmEffect, page_offset L hc, if_neg (by simp [hgate]), hne _ (by decide), if_neg Bool.false_ne_true, hne _ (by decide),
      if_neg Bool.false_ne_true, hne _ (by decide), if_neg Bool.false_ne_true]
  rw [regEffect, if_neg (hlow _ (by decide)), if_neg (hlow _ (by decide)), if_neg (hlow _ (by decide)),
    if_neg (hlow _ (by decide)), if_neg (hlow _ (by decide)), if_pos (inPortPage_page hL hc), htm]

/-! `PRT_CMD` (Table 4.9). -/

/-- The row of `PRT_CMD` in the register table. -/
def prtCmdRow : RegDesc := ⟨0x8, 8, 1, 0x0, 0x3, 0x0, 0x0, 0x0, 0x3⟩

theorem findReg_prtCmd (L : Fin 1024) : findReg (PRT_CMD L) = some prtCmdRow :=
  (findReg_page (c := 8) L.isLt (by decide)).trans (by decide)

/-- The register keeps nothing of a word written to it. -/
theorem storeFields_prtCmd (old w : Word) : storeFields prtCmdRow old w = old := by
  rw [storeFields_of_no_w1c rfl, show prtCmdRow.rw ||| prtCmdRow.rwl = 0 from rfl, BitVec.not_zero, BitVec.and_allOnes,
    BitVec.and_zero, BitVec.or_zero]

/-- The module with a word of a port's `PRT_CMD` written, before its effect: every register reads as before. -/
def prtTaken (s : State) (L : Nat) : State := setReg s (PRT_CMD L) (getReg s (PRT_CMD L))

theorem prtTaken_regsBut (own : Nat → Bool) (s : State) (L : Nat) : regsBut own s (prtTaken s L) :=
  regsBut_setReg_getReg own s (PRT_CMD L)

theorem port_prtTaken (s : State) (L k : Nat) : port (prtTaken s L) k = port s k := by
  rw [port, port, prtTaken, setReg_ports]

theorem testFree_prtTaken {s : State} {p : Fin 13} (L : Fin 1024) {w : Word} (h : accepts s p (PRT_CMD L) w = true) :
    testFree (prtTaken s L) = true :=
  (testFree_setReg s (by unfold CTL_TEST_STAT PRT_CMD portPage; omega) _).trans (testFree_of_accepts h)

/-- An accepted command answers its effect. -/
theorem writeNum_prtCmd {s : State} {p : Fin 13} (L : Fin 1024) {v : Nat} (h : accepts s p (PRT_CMD L) (BitVec.ofNat 64 v) = true) :
    writeNum p (PRT_CMD L) v s = .next (testSweep (portEffect (prtTaken s L) (PRT_CMD L) (BitVec.ofNat 64 v))) := by
  have heffect : ∀ t, regEffect s t p (PRT_CMD L) (BitVec.ofNat 64 v) none = portEffect t (PRT_CMD L) (BitVec.ofNat 64 v) :=
    fun t => regEffect_page (c := 8) L.isLt (by decide) (by decide) s t p _ none
  refine (writeWord_of_row h (findReg_prtCmd L)).trans ?_
  rw [storeFields_prtCmd, heffect, prtTaken]

/-- A port with IDENT due for 1 ms and no half pair. -/
def reidentPort (now : Nat) (p : PortSt) : PortSt := { p with reident := now + 1000000, pair := none, identAt := 0 }

/-- REIDENT. -/
theorem portEffect_reident (s : State) (L : Fin 1024) :
    portEffect s (PRT_CMD L) (BitVec.ofNat 64 2) = setPort s L (reidentPort s.now) := by
  rw [portEffect, show PRT_CMD L = portPage L + 8 from rfl, inPortPage_page L.isLt (by decide), pageOf_page L.val (by decide),
    page_offset L.val (by decide)]
  rfl

/-- RETRAIN of a port that is not DOWN. -/
theorem portEffect_retrain {s : State} (L : Fin 1024) (h : (port s L).under ≠ pDOWN) :
    portEffect s (PRT_CMD L) (BitVec.ofNat 64 1) = portDown s L := by
  rw [portEffect, show PRT_CMD L = portPage L + 8 from rfl, inPortPage_page L.isLt (by decide), pageOf_page L.val (by decide),
    page_offset L.val (by decide)]
  have hreident : wbit (BitVec.ofNat 64 1) (PRT_CMD.REIDENT 0) = false := by decide
  have hretrain : wbit (BitVec.ofNat 64 1) (PRT_CMD.RETRAIN 0) = true := by decide
  dsimp only
  rw [hreident, hretrain]
  simp [h]

/-- A sweep of self-tests finds none after a port went DOWN. -/
theorem testSweep_portDown {s : State} (hfree : testFree s = true) {L : Nat} (hL : L < 1024) :
    testSweep (portDown s L) = portDown s L := by
  obtain ⟨hst, hregs⟩ := portDown_loss s hL
  refine testSweep_of_kept hfree (hregs _ (by decide)) ?_
  rw [hst]

/-! `PRT_NBR_EXP` (Table 4.11). -/

/-- The row of `PRT_NBR_EXP` in the register table: every field is RW. -/
def nbrExpRow : RegDesc := ⟨0x10, 8, 1, 0x0, 0xFFFFFFFFFFFF00F3, 0xFFFFFFFFFFFF00F3, 0x0, 0x0, 0x0⟩

theorem findReg_nbrExp (L : Fin 1024) : findReg (PRT_NBR_EXP L) = some nbrExpRow :=
  (findReg_page (c := 0x10) L.isLt (by decide)).trans (by decide)

/-- A field all of whose bits are RW reads as written. -/
theorem wget_storeFields_rw {d : RegDesc} (hw1c : d.w1c = 0) (old w : Word) {f : Fld}
    (hf : ∀ i < f.wid, (BitVec.ofNat 64 (d.rw ||| d.rwl)).getLsbD (f.lo + i) = true) :
    wget (storeFields d old w) f = wget w f := by
  rw [storeFields_of_no_w1c hw1c]
  generalize BitVec.ofNat 64 (d.rw ||| d.rwl) = m at hf
  refine Nat.eq_of_testBit_eq fun i => ?_
  rw [wget, wget, testBit_bits, testBit_bits]
  by_cases hi : i < f.wid
  · have hm : m.toNat.testBit (f.lo + i) = true := hf i hi
    have hbit : ((old &&& ~~~m) ||| (w &&& m)).getLsbD (f.lo + i) = w.getLsbD (f.lo + i) := by
      rw [BitVec.getLsbD_or, BitVec.getLsbD_and, BitVec.getLsbD_and, BitVec.getLsbD_not, hf i hi]
      simp
    exact congrArg (decide (i < f.wid) && ·) hbit
  · simp [hi]

/-- The bits of its fields. -/
def nbrExpMask : Word := BitVec.ofNat 64 (nbrExpRow.rw ||| nbrExpRow.rwl)

/-- The fields of `PRT_NBR_EXP` read as written. -/
theorem wget_nbrExp (old w : Word) (L : Nat) :
    wget (storeFields nbrExpRow old w) (PRT_NBR_EXP.CHECK L) = wget w (PRT_NBR_EXP.CHECK L) ∧
      wget (storeFields nbrExpRow old w) (PRT_NBR_EXP.KIND L) = wget w (PRT_NBR_EXP.KIND L) ∧
      wget (storeFields nbrExpRow old w) (PRT_NBR_EXP.PEER_PORT L) = wget w (PRT_NBR_EXP.PEER_PORT L) ∧
      wget (storeFields nbrExpRow old w) (PRT_NBR_EXP.FW_MIN L) = wget w (PRT_NBR_EXP.FW_MIN L) :=
  ⟨wget_storeFields_rw rfl old w (f := PRT_NBR_EXP.CHECK L) (show ∀ i < 2, nbrExpMask.getLsbD (0 + i) = true by decide),
    wget_storeFields_rw rfl old w (f := PRT_NBR_EXP.KIND L) (show ∀ i < 4, nbrExpMask.getLsbD (4 + i) = true by decide),
    wget_storeFields_rw rfl old w (f := PRT_NBR_EXP.PEER_PORT L) (show ∀ i < 16, nbrExpMask.getLsbD (16 + i) = true by decide),
    wget_storeFields_rw rfl old w (f := PRT_NBR_EXP.FW_MIN L) (show ∀ i < 32, nbrExpMask.getLsbD (32 + i) = true by decide)⟩

/-- The module with a word of a port's `PRT_NBR_EXP` stored, before the comparison. -/
def nbrExpTaken (s : State) (L : Nat) (w : Word) : State :=
  setReg s (PRT_NBR_EXP L) (storeFields nbrExpRow (getReg s (PRT_NBR_EXP L)) w)

/-- The stored fields read as written. -/
theorem fget_nbrExpTaken (s : State) (L : Nat) (w : Word) :
    fget (nbrExpTaken s L w) (PRT_NBR_EXP.CHECK L) = wget w (PRT_NBR_EXP.CHECK L) ∧
      fget (nbrExpTaken s L w) (PRT_NBR_EXP.KIND L) = wget w (PRT_NBR_EXP.KIND L) ∧
      fget (nbrExpTaken s L w) (PRT_NBR_EXP.PEER_PORT L) = wget w (PRT_NBR_EXP.PEER_PORT L) ∧
      fget (nbrExpTaken s L w) (PRT_NBR_EXP.FW_MIN L) = wget w (PRT_NBR_EXP.FW_MIN L) := by
  obtain ⟨hcheck, hkind, hpeer, hfw⟩ := wget_nbrExp (getReg s (PRT_NBR_EXP L)) w L
  exact ⟨(fget_setReg_same s (PRT_NBR_EXP.CHECK L) _).trans hcheck, (fget_setReg_same s (PRT_NBR_EXP.KIND L) _).trans hkind,
    (fget_setReg_same s (PRT_NBR_EXP.PEER_PORT L) _).trans hpeer, (fget_setReg_same s (PRT_NBR_EXP.FW_MIN L) _).trans hfw⟩

/-- What the write leaves. -/
theorem nbrExpTaken_kept (s : State) (L : Nat) (w : Word) :
    port (nbrExpTaken s L w) L = port s L ∧ isEth (nbrExpTaken s L w) L = isEth s L ∧
      fibreDark (nbrExpTaken s L w) (L / 8) = fibreDark s (L / 8) ∧ testFree (nbrExpTaken s L w) = testFree s := by
  unfold nbrExpTaken
  refine ⟨?_, ?_, fibreDark_congr (setReg_fibres _ _ _) _, ?_⟩
  · rw [port, port, setReg_ports]
  · rw [isEth, isEth, portMode, portMode, setReg_sys]
  · exact testFree_setReg s (by unfold CTL_TEST_STAT PRT_NBR_EXP portPage; omega) _

/-- The first failing check is that of the word as written. -/
theorem identReason_nbrExpTaken (s : State) (L : Nat) (w : Word) (r : BitVec 256) :
    identReason (nbrExpTaken s L w) L r = identReason (setReg s (PRT_NBR_EXP L) w) L r := by
  obtain ⟨hcheck, hkind, hpeer, hfw⟩ := fget_nbrExpTaken s L w
  have hread : ∀ f : Fld, f.off = PRT_NBR_EXP L → fget (setReg s (PRT_NBR_EXP L) w) f = wget w f := by
    intro f hf
    rw [← hf, fget_setReg_same]
  have hser : ∀ o, o ≠ PRT_NBR_EXP L → getReg (nbrExpTaken s L w) o = getReg (setReg s (PRT_NBR_EXP L) w) o := by
    intro o ho
    rw [nbrExpTaken, getReg_setReg_ne s ho, getReg_setReg_ne s ho]
  have hlo : PRT_NBR_EXP_SER_LO L ≠ PRT_NBR_EXP L := by unfold PRT_NBR_EXP_SER_LO PRT_NBR_EXP; omega
  have hhi : PRT_NBR_EXP_SER_HI L ≠ PRT_NBR_EXP L := by unfold PRT_NBR_EXP_SER_HI PRT_NBR_EXP; omega
  unfold identReason
  simp only [hread (PRT_NBR_EXP.CHECK L) rfl, hread (PRT_NBR_EXP.KIND L) rfl, hread (PRT_NBR_EXP.PEER_PORT L) rfl,
    hread (PRT_NBR_EXP.FW_MIN L) rfl, hcheck, hkind, hpeer, hfw, hser _ hlo, hser _ hhi]

/-- A write of it on a lit port whose link works sets off the comparison. -/
theorem portEffect_nbrExp {s : State} (L : Fin 1024) (hwork : linkWorks s L = true) (hlit : fibreDark s (L / 8) = false)
    (w : Word) : portEffect s (PRT_NBR_EXP L) w = compareNbr s L := by
  rw [portEffect, show PRT_NBR_EXP L = portPage L + 0x10 from rfl, inPortPage_page L.isLt (by decide),
    pageOf_page L.val (by decide), page_offset L.val (by decide)]
  dsimp only
  rw [hwork, hlit]
  rfl

/-- A port judged by a comparison leaves self-tests alone. -/
theorem testSweep_of_judged {s t : State} (hfree : testFree s = true) {L : Nat} (hL : L < 1024) {q : Nat} (hq : q < 256) {u : Nat}
    (ht : Signals (setUnder (fset s (PRT_STATE.QREASON L) q) L u) t) : testSweep t = t := by
  obtain ⟨-, -, -, htest⟩ := judged_frame s hL hq u ht
  have hne : CTL_TEST_STAT ≠ PRT_STATE L := by unfold CTL_TEST_STAT PRT_STATE portPage; omega
  refine testSweep_of_kept hfree ?_ htest
  rw [ht.2.1 _ (by decide), getReg_setUnder _ hL u (by decide) hne, getReg_fset_ne s (f := PRT_STATE.QREASON L) hne]

/-- An accepted write of it on an UP fabric port, lit and with a record stored, answers the comparison. -/
theorem exec_nbrExpWrite {s : State} {p : Fin 13} (L : Fin 1024) {w : Word} (hacc : accepts s p (PRT_NBR_EXP L) w = true)
    (hfab : isEth s L = false) (hunder : (port s L).under = pUP) (hlit : fibreDark s (L / 8) = false) {r : BitVec 256}
    (hstored : (port s L).stored = some r) : exec (.nbrExpWrite p L w) s = .next (compareNbr (nbrExpTaken s L w) L) := by
  obtain ⟨hport, heth, hdark, htest⟩ := nbrExpTaken_kept s L w
  have heffect : ∀ t, regEffect s t p (PRT_NBR_EXP L) w none = portEffect t (PRT_NBR_EXP L) w :=
    fun t => regEffect_page (c := 0x10) L.isLt (by decide) (by decide) s t p w none
  have hwork : linkWorks (nbrExpTaken s L w) L = true := by
    rw [linkWorks, hport, hunder]
    rfl
  refine (writeWord_of_row hacc (findReg_nbrExp L)).trans ?_
  rw [heffect, ← nbrExpTaken, portEffect_nbrExp L hwork (hdark.trans hlit),
    testSweep_of_judged (htest.trans (testFree_of_accepts hacc)) L.isLt (identReason_lt _ L r)
      (compareNbr_signals (heth.trans hfab) (by rw [hport, hstored]))]

/-- Settles O19: REIDENT and RETRAIN are the effects of `PRT_CMD`, and a write of `PRT_NBR_EXP` is judged by `compareNbr`. -/
theorem portCommands : Obligations.PortCommands := by
  unfold Obligations.PortCommands
  refine ⟨fun p L s hacc => ?_, fun p L s hacc hdown => ?_, fun p L w r s hacc hfab hunder hlit hstored => ?_⟩
  · have hsweep : testSweep (setPort (prtTaken s L) L (reidentPort s.now)) = setPort (prtTaken s L) L (reidentPort s.now) :=
      testSweep_of_kept (testFree_prtTaken L hacc) rfl rfl
    have hport : port (setPort (prtTaken s L) L (reidentPort s.now)) L = reidentPort s.now (port s L) := by
      rw [port_setPort_same, port_prtTaken]
    refine ⟨_, writeNum_prtCmd L hacc, ?_⟩
    rw [portEffect_reident, show (prtTaken s L).now = s.now from rfl, hsweep]
    dsimp only
    rw [hport]
    exact ⟨rfl, rfl, rfl, rfl, prtTaken_regsBut _ s L, rfl⟩
  · refine ⟨_, writeNum_prtCmd L hacc, ?_⟩
    rw [portEffect_retrain L (by rwa [port_prtTaken]), testSweep_portDown (testFree_prtTaken L hacc) L.isLt]
    obtain ⟨hunder, hwait, hat⟩ := portDown_port (prtTaken s L) L.isLt
    refine ⟨hunder, ?_, hat, hwait⟩
    rw [portFenced_portDown _ L.isLt, portFenced, portFenced, fbit, fbit,
      fget_of_getReg_eq (f := PRT_STATE.FENCE L) (prtTaken_regsBut (fun _ => false) s L _ rfl)]
  · refine ⟨_, exec_nbrExpWrite L hacc hfab hunder hlit hstored, ?_⟩
    obtain ⟨hport, heth, -, -⟩ := nbrExpTaken_kept s L w
    obtain ⟨hstate, hq, hkept, -⟩ := judged_frame _ L.isLt (identReason_lt _ L r) _
      (compareNbr_signals (heth.trans hfab) (by rw [hport, hstored]))
    rw [identReason_nbrExpTaken] at hstate hq
    obtain ⟨hcheck, hkind, -, -⟩ := fget_nbrExpTaken s L w
    obtain ⟨-, hquiet, -, -⟩ := countReg_portRegs L.isLt
    have hsignal : signalReg (PRT_NBR_EXP L) = false := signalReg_page (c := 0x10) L.isLt (by decide)
    have hne : PRT_NBR_EXP L ≠ PRT_STATE L := by unfold PRT_NBR_EXP PRT_STATE; omega
    exact ⟨hq, hstate, (hkept (PRT_NBR_EXP.CHECK L) hquiet hsignal hne).trans hcheck,
      (hkept (PRT_NBR_EXP.KIND L) hquiet hsignal hne).trans hkind⟩

end Sys2Proof.Machine
end

section
/-! SUPPORT. A changeover between two swaps, less than 50 µs after the last: it refutes O20. -/

namespace Sys2Proof.Machine

open Claim

/-- A lane that sends light waits for its swap until 50 µs after the lane before it. -/
theorem fibreSwap_waits {s : State} {b : Nat} {x : BankSt} (hx : bank s b = x)
    (hquiet : swapQuiet s (bankLane b x.next (fget s (LAS_STAT.W (10 * b + x.spare)))) = false) (hnext : x.next ≠ 0)
    (hsoon : s.elapsed x.swapAt 50000 = false) : fibreSwap s b = s := by
  unfold fibreSwap
  rw [hx]
  dsimp only
  rw [hquiet, hsoon]
  simp [hnext]

/-- A powered module at time 0. In bank 0 the spare 8 of wavelength 0 is locked and the bank's first fibre has just been swapped;
the next lane is lane 8, on an open fibre, its gate open and its port UP with no frame in flight. -/
def swapState : State :=
  { fset State.reset (LAS_STAT.W 8) 0 with
    sys := { powered := true }
    lanes := [(8, { gateOpen := true })]
    fibres := [(1, { dark := false })]
    ports := [(8, { under := pUP })]
    banks := [(0, { active := true, locked := true, next := 1 })] }

/-- Lane 8 sends light, and 50 µs have not passed since the lane before it. -/
theorem fibreSwap_swapState : fibreSwap swapState 0 = swapState :=
  fibreSwap_waits (x := { active := true, locked := true, next := 1 }) rfl (by decide +kernel) (by decide) (by decide +kernel)

/-- Refutes O20: its clause on FIBRE_SWAP does not ask that 50 µs have passed since the lane before. In `swapState` they have not,
and the command leaves the changeover at the fibre it was at. -/
theorem not_spareChangeover : ¬ Obligations.SpareChangeover := by
  unfold Obligations.SpareChangeover
  rintro ⟨-, -, -, hswap⟩
  obtain ⟨t, ht, -, -, hnext, -⟩ := hswap 0 swapState rfl rfl rfl (by decide +kernel) (by decide +kernel) (by decide +kernel)
  rw [show exec (.fibreSwap 0) swapState = .next (fibreSwap swapState 0) from live_of_powered rfl fun s => fibreSwap s 0] at ht
  rw [← Host.Outcome.next.inj ht, fibreSwap_swapState] at hnext
  exact absurd hnext (by decide)

end Sys2Proof.Machine
end

section
/-! SUPPORT. The end of a probe on a fibre whose switch die is not UP: it refutes O21. -/

namespace Sys2Proof.Machine

open Claim

/-- The end of a probe leaves the register of a fibre whose switch die is not UP. -/
theorem getReg_probeEnd_of_down {s : State} {F : Nat} (h : dieUp s (F / 32) = false) (o : Nat) :
    getReg (probeEnd s F) o = getReg s o := by
  have hshow : ∀ f, fibreShow (setFibre s F f) F = setFibre s F f := by
    intro f
    have hdie : dieUp (setFibre s F f) (F / 32) = false := h
    rw [fibreShow, hdie, if_neg (by decide)]
  unfold probeEnd
  dsimp only
  rw [hshow]
  split <;> rfl

/-- A powered module whose switch die 0 was isolated by a fault while a probe held the gate of fibre 0 open: the fibre's register
keeps what it read at isolation (R489). -/
def probeState : State :=
  { fset (fset State.reset (FLT_DIE.STATE 0) 1) (OPT_FIBRE.OPEN 0) 1 with
    sys := { powered := true }
    fibres := [(0, { probing := true })] }

theorem probeState_die : dieUp probeState (0 / 32) = false := by decide +kernel

/-- The probe ends, and the register still reads OPEN. -/
theorem probeState_keeps_open : fget (probeEnd probeState 0) (OPT_FIBRE.OPEN 0) = 1 := by
  rw [fget_of_getReg_eq (f := OPT_FIBRE.OPEN 0) (getReg_probeEnd_of_down probeState_die _)]
  decide +kernel

/-- Refutes O21: its clause on PROBE_END does not ask that the fibre's switch die work. In `probeState` it does not, and
`OPT_FIBRE_0` keeps OPEN at 1 as the probe ends. -/
theorem not_fibreGates : ¬ Obligations.FibreGates := by
  unfold Obligations.FibreGates
  rintro ⟨-, -, hend, -⟩
  obtain ⟨t, ht, hopen, -⟩ := hend 0 probeState rfl rfl (by decide)
  rw [show exec (.probeEnd 0) probeState = .next (probeEnd probeState 0) from live_of_powered rfl fun s => probeEnd s 0] at ht
  rw [← Host.Outcome.next.inj ht] at hopen
  exact absurd (probeState_keeps_open.symm.trans hopen) (by decide)

end Sys2Proof.Machine
end

section
/-! SUPPORT. Control blocks received (R110, R112, R117, R119, R128): they settle O22. -/

namespace Sys2Proof.Machine

open Claim

/-! Sparse tables under a fold. -/

/-- A run of keys changed one after another: each key of the run is changed once, every other reads as before. -/
theorem tget_foldl_tmod {α : Type} [DecidableEq α] (d : α) (base n : Nat) (g : Nat → α → α) (t : Tab α) (i : Nat) :
    tget d ((List.range n).foldl (fun t k => tmod d t (base + k) (g k)) t) i =
      if base ≤ i ∧ i < base + n then g (i - base) (tget d t i) else tget d t i := by
  induction n with
  | zero => rw [if_neg (by omega)]; rfl
  | succ n ih =>
    rw [List.range_succ, List.foldl_append, List.foldl_cons, List.foldl_nil, tmod, tget_tset]
    by_cases hi : i = base + n
    · subst hi
      rw [if_pos rfl, ih, if_neg (by omega), if_pos (by omega), Nat.add_sub_cancel_left]
    · rw [if_neg hi, ih]
      by_cases hlow : base ≤ i ∧ i < base + n
      · rw [if_pos hlow, if_pos (by omega)]
      · rw [if_neg hlow, if_neg (by omega)]

/-- The same for keys set. -/
theorem tget_foldl_tset {α : Type} [DecidableEq α] (d : α) (base n : Nat) (v : Nat → α) (t : Tab α) (i : Nat) :
    tget d ((List.range n).foldl (fun t k => tset d t (base + k) (v k)) t) i =
      if base ≤ i ∧ i < base + n then v (i - base) else tget d t i :=
  tget_foldl_tmod d base n (fun k _ => v k) t i

/-! A block taken (R110, R112). -/

/-- A control block of the command's own type, to a port that takes it, has its effect and ends a discarding. -/
theorem rxBlock_taken {s : State} {L : Nat} {b : BitVec 256} {type : Nat} (hopen : rxOpen s L = true) (hgood : blkBad b = false)
    (htype : blkByte b 0 = type) (halign : type ≠ 0x4B) (f : State → State) : rxBlock s L b [type] f = f (endResync s L) := by
  simp [rxBlock, hopen, hgood, htype, halign]

/-- ALIGN has its effect and ends no discarding. -/
theorem rxBlock_align {s : State} {L : Nat} {b : BitVec 256} (hopen : rxOpen s L = true) (hgood : blkBad b = false)
    (htype : blkByte b 0 = 0x4B) (f : State → State) : rxBlock s L b [0x4B] f = f s := by
  simp [rxBlock, hopen, hgood, htype]

/-- A block to be ignored is counted and ends a discarding. -/
theorem rxBlock_bad {s : State} {L : Nat} {b : BitVec 256} (hopen : rxOpen s L = true) (hbad : blkBad b = true) (ts : List Nat)
    (f : State → State) : rxBlock s L b ts f = bump (endResync s L) (PRT_RX_CTRL L) := by
  simp [rxBlock, hopen, hbad]

/-! Ports. -/

/-- A port that discards no longer. -/
def resyncEnded (p : PortSt) : PortSt := { p with resync := false }

theorem port_endResync (s : State) (L k : Nat) : port (endResync s L) k = if k = L then resyncEnded (port s L) else port s k :=
  port_setPort s L k _

/-- From `s` to `t` one port alone changed, and it discards no longer. -/
def OnlyPort (L : Nat) (s t : State) : Prop :=
  t = { s with ports := t.ports } ∧ (∀ k, k ≠ L → port t k = port s k) ∧ (port t L).resync = false

theorem endResync_only (s : State) (L : Nat) : OnlyPort L s (endResync s L) :=
  ⟨rfl, fun k hk => by rw [port_endResync, if_neg hk], by rw [port_endResync, if_pos rfl]; rfl⟩

/-- A block's effect on its port. -/
theorem port_taken (s : State) (L : Nat) (f : PortSt → PortSt) :
    port (setPort (endResync s L) L f) L = f (resyncEnded (port s L)) := by
  rw [port_setPort_same, port_endResync, if_pos rfl]

theorem taken_only (s : State) (L : Nat) {f : PortSt → PortSt} (hf : ∀ p, (f p).resync = p.resync) :
    OnlyPort L s (setPort (endResync s L) L f) := by
  refine ⟨rfl, fun k hk => ?_, ?_⟩
  · rw [port_setPort, if_neg hk, port_endResync, if_neg hk]
  · rw [port_taken, hf]
    rfl

/-! CREDIT (R117, R120). -/

/-- A total brought up to a count modulo 2^24. -/
def raisedTo (count old : Nat) : Nat := old + (count + 2 ^ 24 - old % 2 ^ 24) % 2 ^ 24

theorem raisedTo_spec {count : Nat} (h : count < 2 ^ 24) (old : Nat) :
    raisedTo count old % 2 ^ 24 = count ∧ old ≤ raisedTo count old ∧ raisedTo count old < old + 2 ^ 24 := by
  unfold raisedTo
  omega

theorem blkField_lt (b : BitVec 256) (k n : Nat) : blkField b k n < 2 ^ (8 * n) := bits_lt _ _ _

/-- A port with the totals of a CREDIT block taken. -/
def creditedPort (now : Nat) (b : BitVec 256) (p : PortSt) : PortSt :=
  { p with creditAt := max now (if p.suspended then p.suspend else 0)
           peerRet := (List.range 8).foldl
             (fun t k => tmod 0 t (8 * blkByte b 1 + k) (raisedTo (blkField b (4 + 3 * k) 3))) p.peerRet }

theorem creditRx_taken {s : State} {L : Nat} {b : BitVec 256} (hopen : rxOpen s L = true) (hgood : blkBad b = false)
    (htype : blkByte b 0 = 0x2D) : creditRx s L b = setPort (endResync s L) L (creditedPort s.now b) :=
  rxBlock_taken hopen hgood htype (by decide) _

/-- The returned total of every channel after a CREDIT block. -/
theorem peerRet_creditedPort (now : Nat) (b : BitVec 256) (p : PortSt) (c : Nat) :
    tget 0 (creditedPort now b p).peerRet c =
      if 8 * blkByte b 1 ≤ c ∧ c < 8 * blkByte b 1 + 8 then
        raisedTo (blkField b (4 + 3 * (c - 8 * blkByte b 1)) 3) (tget 0 p.peerRet c)
      else tget 0 p.peerRet c := by
  rw [creditedPort, tget_foldl_tmod]

/-! CREDIT_INIT (R119). -/

/-- A port with the limits of a CREDIT_INIT block taken. -/
def limitedPort (b : BitVec 256) (p : PortSt) : PortSt :=
  { p with initRx := p.initRx ||| (1 <<< blkByte b 1)
           peerD := (List.range 8).foldl (fun t k => tset 0 t (8 * blkByte b 1 + k) (blkField b (4 + 2 * k) 2)) p.peerD
           peerS := tset 0 p.peerS (blkByte b 1) (blkField b 20 3) }

theorem creditInitRx_taken {s : State} {L : Nat} {b : BitVec 256} (hopen : rxOpen s L = true) (hgood : blkBad b = false)
    (htype : blkByte b 0 = 0x2F) : creditInitRx s L b = setPort (endResync s L) L (limitedPort b) :=
  rxBlock_taken hopen hgood htype (by decide) _

theorem peerD_limitedPort (b : BitVec 256) (p : PortSt) (c : Nat) :
    tget 0 (limitedPort b p).peerD c =
      if 8 * blkByte b 1 ≤ c ∧ c < 8 * blkByte b 1 + 8 then blkField b (4 + 2 * (c - 8 * blkByte b 1)) 2 else tget 0 p.peerD c :=
  tget_foldl_tset 0 _ 8 (fun k => blkField b (4 + 2 * k) 2) _ c

/-! PAUSE_SWAP (R128). -/

/-- A port whose detection is suspended until a time, or longer where it is already. -/
def suspendedPort (now stop : Nat) (p : PortSt) : PortSt :=
  let old := if p.suspended then max p.suspend now else now
  { p with suspended := true, suspend := max old stop, creditAt := p.creditAt + (max old stop - old) }

theorem pauseSwapRx_taken {s : State} {L : Nat} {b : BitVec 256} (hopen : rxOpen s L = true) (hgood : blkBad b = false)
    (htype : blkByte b 0 = 0x55) :
    pauseSwapRx s L b = setPort (endResync s L) L (suspendedPort s.now (s.now + groupsNs s L (blkByte b 1) + 600)) :=
  rxBlock_taken hopen hgood htype (by decide) _

/-- Codeword groups take 51.2 ns each on a port of full rate, rounded up. -/
theorem groupsNs_full {s : State} {L : Nat} (h : widthOf s L ≠ 5) (n : Nat) :
    512 * n ≤ 10 * groupsNs s L n ∧ 10 * groupsNs s L n < 512 * n + 10 := by
  have hrate : halfRate s L = false := beq_eq_false_iff_ne.2 h
  simp only [groupsNs, hrate, Bool.false_eq_true, if_false, ceilDiv]
  omega

theorem pauseSwapEnd_due {s : State} {L : Nat} (hsus : (port s L).suspended = true) (hdue : (port s L).suspend ≤ s.now) :
    pauseSwapEnd s L = setPort s L fun p => { p with suspended := false } :=
  if_pos (by simp [hsus, hdue])

/-- Settles O22: each block has its equation, and what it does to its port is read off the port. -/
theorem controlBlocks : Obligations.ControlBlocks := by
  unfold Obligations.ControlBlocks
  intro okBlk portOnly
  have hends : ∀ (L : Fin 1024) (b : BitVec 256) (s : State) (type : Nat), okBlk L b type s → type ≠ 0x4B →
      portOnly L s (rxBlock s L b [type] id) := by
    intro L b s type hok halign
    obtain ⟨-, hopen, hgood, htype⟩ := hok
    rw [rxBlock_taken hopen hgood htype halign]
    exact endResync_only s L
  refine ⟨fun L b s hclk hopen hbad => ?_, fun L b s hok => ?_, fun L b s hok => ?_, fun L b s hok => ?_, fun L b s hok => ?_,
    fun L b s hok => ?_, fun L b s hok => ?_, fun L b s hok hrate hsus => ?_, fun L b s hok hsus hrun => ?_,
    fun L s hpow hsus hdue => ?_⟩
  · refine ⟨_, liveClocked_of_clocked hclk fun s => rxBlock s L b [] id, ?_⟩
    rw [rxBlock_bad hopen hbad]
    have hport : port (bump (endResync s L) (PRT_RX_CTRL L)) L = resyncEnded (port s L) :=
      (port_endResync s L L).trans (if_pos rfl)
    refine ⟨(getReg_bump _ _ _).trans (if_pos rfl), ?_, ?_, regsBut_bump _ (by simp), rfl⟩ <;> rw [hport] <;> rfl
  · exact ⟨_, liveClocked_of_clocked hok.1 fun s => rxBlock s L b [0x1E] id, hends L b s _ hok (by decide)⟩
  · exact ⟨_, liveClocked_of_clocked hok.1 fun s => rxBlock s L b [0x56] id, hends L b s _ hok (by decide)⟩
  · obtain ⟨hclk, hopen, hgood, htype⟩ := hok
    have hsame : alignRx s L b = s := by rw [alignRx, if_pos hopen, rxBlock_align hopen hgood htype, id]
    exact (liveClocked_of_clocked hclk fun s => alignRx s L b).trans (congrArg _ hsame)
  · obtain ⟨hclk, hopen, hgood, htype⟩ := hok
    refine ⟨_, liveClocked_of_clocked hclk fun s => rxBlock s L b [0x66] fun s => bump s (PRT_RX_SCRUB L), ?_⟩
    rw [rxBlock_taken hopen hgood htype (by decide)]
    obtain ⟨-, hothers, hended⟩ := endResync_only s L
    exact ⟨(getReg_bump _ _ _).trans (if_pos rfl), regsBut_bump _ (by simp), rfl, hothers, hended⟩
  · obtain ⟨hclk, hopen, hgood, htype⟩ := hok
    refine ⟨_, liveClocked_of_clocked hclk fun s => creditRx s L b, ?_⟩
    rw [creditRx_taken hopen hgood htype]
    have hport := port_taken s L (creditedPort s.now b)
    refine ⟨taken_only s L fun _ => rfl, ?_, fun k hk => ?_, fun c hc => ?_⟩
    · rw [hport]
      rfl
    · rw [hport, peerRet_creditedPort, if_pos (by omega), Nat.add_sub_cancel_left]
      exact raisedTo_spec (blkField_lt b _ 3) _
    · rw [hport, peerRet_creditedPort, if_neg (by omega)]
      rfl
  · obtain ⟨hclk, hopen, hgood, htype⟩ := hok
    refine ⟨_, liveClocked_of_clocked hclk fun s => creditInitRx s L b, ?_⟩
    rw [creditInitRx_taken hopen hgood htype]
    have hport := port_taken s L (limitedPort b)
    refine ⟨taken_only s L fun _ => rfl, ?_, fun k hk => ?_, fun c hc => ?_⟩
    · rw [hport]
      exact tget_tset_same _ _ _ _
    · rw [hport, peerD_limitedPort, if_pos (by omega), Nat.add_sub_cancel_left]
    · rw [hport, peerD_limitedPort, if_neg (by omega)]
      rfl
  · obtain ⟨hclk, hopen, hgood, htype⟩ := hok
    refine ⟨_, liveClocked_of_clocked hclk fun s => pauseSwapRx s L b, ?_⟩
    rw [pauseSwapRx_taken hopen hgood htype]
    obtain ⟨hlow, hhigh⟩ := groupsNs_full hrate (blkByte b 1)
    refine ⟨taken_only s L fun _ => rfl, ?_⟩
    rw [port_taken]
    simp only [suspendedPort, resyncEnded, hsus, Bool.false_eq_true, if_false, true_and]
    omega
  · obtain ⟨hclk, hopen, hgood, htype⟩ := hok
    refine ⟨_, liveClocked_of_clocked hclk fun s => pauseSwapRx s L b, ?_⟩
    rw [pauseSwapRx_taken hopen hgood htype]
    refine ⟨taken_only s L fun _ => rfl, ?_⟩
    rw [port_taken]
    simp only [suspendedPort, resyncEnded, hsus, if_true, true_and]
    omega
  · refine ⟨_, live_of_powered hpow fun s => pauseSwapEnd s L, ?_⟩
    rw [pauseSwapEnd_due hsus hdue]
    exact ⟨port_setPort_same _ _ _, fun k hk => by rw [port_setPort, if_neg hk], rfl⟩

end Sys2Proof.Machine
end

section
/-! SUPPORT. The bytes of a control block (R112): what its fields read, and that the CRC of one the VS1 makes holds. -/

namespace Sys2Proof.Machine

/-! Numbers spelled by bytes. -/

theorem unle_lt (bs : List Byte) : unle bs < 256 ^ bs.length := by
  induction bs with
  | nil => simp [unle]
  | cons b bs ih =>
    have hb : b.toNat < 256 := b.isLt
    rw [unle, List.length_cons, Nat.pow_succ']
    omega

theorem unle_drop (bs : List Byte) (k : Nat) : unle (bs.drop k) = unle bs / 256 ^ k := by
  induction k generalizing bs with
  | zero => simp
  | succ k ih =>
    cases bs with
    | nil => simp [unle]
    | cons b bs =>
      have hb : b.toNat < 256 := b.isLt
      rw [List.drop_succ_cons, ih, unle, Nat.pow_succ', ← Nat.div_div_eq_div_mul, Nat.add_mul_div_left _ _ (by decide),
        Nat.div_eq_of_lt hb, Nat.zero_add]

theorem unle_take (bs : List Byte) (k : Nat) : unle (bs.take k) = unle bs % 256 ^ k := by
  induction k generalizing bs with
  | zero => simp [unle, Nat.mod_one]
  | succ k ih =>
    cases bs with
    | nil => simp [unle]
    | cons b bs =>
      have hb : b.toNat < 256 := b.isLt
      rw [List.take_succ_cons, unle, unle, ih, Nat.pow_succ', Nat.mod_mul, Nat.add_mul_mod_self_left, Nat.mod_eq_of_lt hb,
        Nat.add_mul_div_left _ _ (by decide), Nat.div_eq_of_lt hb, Nat.zero_add]

/-- A field of a number's bytes is that of the bytes it is spelled by. -/
theorem bits_unle (bs : List Byte) (k n : Nat) : bits (unle bs) (8 * k) (8 * n) = fieldAt bs k n := by
  rw [fieldAt, unle_take, unle_drop, bits, Nat.pow_mul, Nat.pow_mul]

/-! Fields of byte strings put together. -/

theorem fieldAt_append_left {a : List Byte} {k n : Nat} (h : k + n ≤ a.length) (b : List Byte) :
    fieldAt (a ++ b) k n = fieldAt a k n := by
  rw [fieldAt, fieldAt, List.drop_append_of_le_length (by omega), List.take_append_of_le_length (by rw [List.length_drop]; omega)]

theorem fieldAt_append_right {a : List Byte} {m : Nat} (h : a.length = m) (b : List Byte) (k n : Nat) :
    fieldAt (a ++ b) (m + k) n = fieldAt b k n := by
  rw [fieldAt, fieldAt, ← List.drop_drop, List.drop_left' h]

theorem fieldAt_le (n v : Nat) : fieldAt (le n v) 0 n = v % 256 ^ n := by
  rw [fieldAt, List.drop_zero, List.take_of_length_le (by rw [length_le]), unle_le]

theorem length_flatMap_le (n m : Nat) (f : Nat → Nat) : ((List.range m).flatMap fun k => le n (f k)).length = n * m := by
  induction m with
  | zero => rfl
  | succ m ih => rw [List.range_succ, List.flatMap_append, List.length_append, ih]; simp [Nat.mul_succ]

/-- In a run of fields of n bytes, field k. -/
theorem fieldAt_flatMap_le (n : Nat) {m k : Nat} (hk : k < m) (f : Nat → Nat) :
    fieldAt ((List.range m).flatMap fun k => le n (f k)) (n * k) n = f k % 256 ^ n := by
  induction m with
  | zero => omega
  | succ m ih =>
    rw [List.range_succ, List.flatMap_append]
    rcases Nat.lt_or_eq_of_le (Nat.le_of_lt_succ hk) with hlt | rfl
    · have hroom : n * k + n ≤ n * m := by
        rw [← Nat.mul_succ]
        exact Nat.mul_le_mul_left n hlt
      rw [fieldAt_append_left (by rw [length_flatMap_le]; exact hroom), ih hlt]
    · have hlast := fieldAt_append_right (length_flatMap_le n k f) ([k].flatMap fun k => le n (f k)) 0 n
      rw [Nat.add_zero] at hlast
      rw [hlast, List.flatMap_singleton, fieldAt_le]

theorem fit_of_le {n : Nat} {bs : List Byte} (h : bs.length ≤ n) : fit n bs = bs ++ List.replicate (n - bs.length) 0 := by
  rw [fit, bytesAt, List.drop_zero, List.take_of_length_le h]

theorem fit_length (bs : List Byte) : fit bs.length bs = bs := by
  rw [fit_of_le (Nat.le_refl _), Nat.sub_self, List.replicate_zero, List.append_nil]

/-! The CRC (R112). -/

theorem crcBit_lt {p c : Nat} (hp : p < 2 ^ 32) (hc : c < 2 ^ 32) : crcBit p c < 2 ^ 32 := by
  have hhalf : c / 2 < 2 ^ 32 := Nat.lt_of_le_of_lt (Nat.div_le_self c 2) hc
  unfold crcBit
  split
  · exact Nat.xor_lt_two_pow hhalf hp
  · exact hhalf

theorem crcByte_lt {p c : Nat} (hp : p < 2 ^ 32) (hc : c < 2 ^ 32) (b : Byte) : crcByte p c b < 2 ^ 32 := by
  have hb : b.toNat < 2 ^ 32 := Nat.lt_trans b.isLt (by decide)
  have hstart : c ^^^ b.toNat < 2 ^ 32 := Nat.xor_lt_two_pow hc hb
  unfold crcByte
  dsimp only
  iterate 8 apply crcBit_lt hp
  exact hstart

theorem crc32_lt (bs : List Byte) : crc32 bs < 2 ^ 32 := by
  have hfold : ∀ (bs : List Byte) (c : Nat), c < 2 ^ 32 → bs.foldl (crcByte 0xEDB88320) c < 2 ^ 32 := by
    intro bs
    induction bs with
    | nil => exact fun c hc => hc
    | cons b bs ih => exact fun c hc => ih _ (crcByte_lt (by decide) hc b)
  exact Nat.xor_lt_two_pow (hfold bs _ (by decide)) (by decide)

/-! Blocks. -/

/-- The 256 bits of 32 bytes. -/
theorem toNat_hdrOf {bs : List Byte} (h : bs.length = 32) : (hdrOf bs).toNat = unle bs := by
  have hlt := unle_lt bs
  rw [h, show (256 ^ 32 : Nat) = 2 ^ 256 from by decide] at hlt
  rw [hdrOf, ← h, fit_length, BitVec.toNat_ofNat, Nat.mod_eq_of_lt hlt]

theorem blkField_hdrOf {bs : List Byte} (h : bs.length = 32) (k n : Nat) : blkField (hdrOf bs) k n = fieldAt bs k n := by
  rw [blkField, toNat_hdrOf h, bits_unle]

theorem hdrBytes_hdrOf {bs : List Byte} (h : bs.length = 32) : hdrBytes (hdrOf bs) = bs := by
  rw [hdrBytes, toNat_hdrOf h, ← h, le_unle]

/-- The bytes of a block of a type that its CRC covers. -/
def blkBody (type : Nat) (rest : List Byte) : List Byte := BitVec.ofNat 8 type :: fit 27 rest

theorem mkBlk_eq (type : Nat) (rest : List Byte) :
    mkBlk type rest = hdrOf (blkBody type rest ++ le 4 (crc32 (blkBody type rest))) := rfl

section
variable {type : Nat} {rest : List Byte} (hrest : rest.length ≤ 27)
include hrest

theorem length_blkBody : (blkBody type rest).length = 28 := by
  rw [blkBody, fit_of_le hrest]
  simp only [List.length_cons, List.length_append, List.length_replicate]
  omega

theorem length_blk : (blkBody type rest ++ le 4 (crc32 (blkBody type rest))).length = 32 := by
  rw [List.length_append, length_blkBody hrest, length_le]

/-- The CRC of a block that the VS1 makes holds. -/
theorem blkCrcOk_mkBlk : blkCrcOk (mkBlk type rest) = true := by
  have hlen := length_blk (type := type) hrest
  have hbody := length_blkBody (type := type) hrest
  have hfield : blkField (mkBlk type rest) 28 4 = crc32 (blkBody type rest) := by
    rw [mkBlk_eq, blkField_hdrOf hlen]
    have htail := fieldAt_append_right hbody (le 4 (crc32 (blkBody type rest))) 0 4
    rw [Nat.add_zero, fieldAt_le] at htail
    rw [htail]
    exact Nat.mod_eq_of_lt (crc32_lt _)
  have hcover : (hdrBytes (mkBlk type rest)).take 28 = blkBody type rest := by
    rw [mkBlk_eq, hdrBytes_hdrOf hlen, List.take_left' hbody]
  rw [blkCrcOk, blkCrc, hfield, hcover, beq_self_eq_true]

/-- Its first byte is its type. -/
theorem blkByte_mkBlk_type : blkByte (mkBlk type rest) 0 = type % 256 := by
  have hhead : fieldAt (blkBody type rest) 0 1 = type % 256 := by
    simp [fieldAt, blkBody, unle]
  rw [show blkByte (mkBlk type rest) 0 = blkField (mkBlk type rest) 0 1 from rfl, mkBlk_eq, blkField_hdrOf (length_blk hrest),
    fieldAt_append_left (by rw [length_blkBody hrest]; decide), hhead]

/-- Its other fields are those of the bytes after the type. -/
theorem blkField_mkBlk {k n : Nat} (h : k + n ≤ rest.length) : blkField (mkBlk type rest) (1 + k) n = fieldAt rest k n := by
  have hin : fieldAt (blkBody type rest) (1 + k) n = fieldAt (fit 27 rest) k n :=
    fieldAt_append_right (a := [BitVec.ofNat 8 type]) rfl _ k n
  rw [mkBlk_eq, blkField_hdrOf (length_blk hrest), fieldAt_append_left (by rw [length_blkBody hrest]; omega), hin, fit_of_le hrest,
    fieldAt_append_left h]

end

end Sys2Proof.Machine
end

section
/-! SUPPORT. Control blocks sent and the credit timer (R111, R118 to R121, R129): they settle O23. -/

namespace Sys2Proof.Machine

open Claim

/-! CREDIT (R120). -/

/-- The counts of a CREDIT block. -/
def creditCounts (s : State) (L n : Nat) : List Byte := (List.range 8).flatMap fun k => le 3 (retShown s L (8 * n + k))

/-- The bytes of a CREDIT block after its type. -/
def creditRest (s : State) (L n : Nat) : List Byte := le 1 n ++ [0, 0] ++ creditCounts s L n

/-- A port whose CREDIT block of network n has just been sent. -/
def creditSentPort (s : State) (L n : Nat) (p : PortSt) : PortSt :=
  { p with sentRet := (List.range 8).foldl (fun t k => tset 0 t (8 * n + k) (retShown s L (8 * n + k))) p.sentRet,
           retDirty := p.retDirty &&& ~~~((1 : BitVec 2) <<< n), creditTxAt := tset 0 p.creditTxAt n (max s.now 1)
           dataRun := 0 }

/-- CREDIT_TX of changed counts sends a block and notes it. -/
theorem creditTx_dirty {s : State} {L n : Nat} (hopen : txOpen s L = true) (hdirty : bit (port s L).retDirty.toNat n = true) :
    creditTx s L n = emit (setPort s L (creditSentPort s L n)) (.block L (mkBlk 0x2D (creditRest s L n))) := by
  rw [creditTx]
  dsimp only
  rw [if_neg (by simp [hopen, hdirty])]
  rfl

theorem length_creditHead (n : Nat) : (le 1 n ++ [0, 0] : List Byte).length = 3 := by simp

theorem length_creditRest (s : State) (L n : Nat) : (creditRest s L n).length = 27 := by
  rw [creditRest, List.length_append, length_creditHead, creditCounts, length_flatMap_le]

/-- What a CREDIT block carries. -/
theorem creditBlock_fields (s : State) (L : Nat) {n : Nat} (hn : n < 2) :
    let b := mkBlk 0x2D (creditRest s L n)
    blkCrcOk b = true ∧ blkByte b 0 = 0x2D ∧ blkByte b 1 = n ∧
      ∀ k, k < 8 → blkField b (4 + 3 * k) 3 = retShown s L (8 * n + k) % 2 ^ 24 := by
  have hlen := length_creditRest s L n
  have hle : (creditRest s L n).length ≤ 27 := hlen.le
  refine ⟨blkCrcOk_mkBlk hle, blkByte_mkBlk_type hle, ?_, fun k hk => ?_⟩
  · calc blkByte _ 1 = fieldAt (creditRest s L n) 0 1 := blkField_mkBlk hle (k := 0) (n := 1) (by rw [hlen]; decide)
      _ = fieldAt (le 1 n) 0 1 := by
        rw [creditRest, List.append_assoc, fieldAt_append_left (by rw [length_le])]
      _ = n := by rw [fieldAt_le]; omega
  · rw [show 4 + 3 * k = 1 + (3 + 3 * k) by omega]
    calc blkField _ (1 + (3 + 3 * k)) 3 = fieldAt (creditRest s L n) (3 + 3 * k) 3 :=
          blkField_mkBlk hle (by rw [hlen]; omega)
      _ = fieldAt (creditCounts s L n) (3 * k) 3 := fieldAt_append_right (length_creditHead n) _ _ _
      _ = _ := fieldAt_flatMap_le 3 hk _

/-- A flag of two taken out reads 0. -/
theorem bit_cleared (x : BitVec 2) (n : Fin 2) : bit (x &&& ~~~((1 : BitVec 2) <<< n.val)).toNat n = false := by
  revert x n
  decide

/-! CREDIT_INIT (R118, R119). -/

/-- The allocations of a CREDIT_INIT block, channel by channel. -/
def initLimits (s : State) (L n : Nat) : List Byte := (List.range 8).flatMap fun k => le 2 (allocD s L (8 * n + k))

/-- The bytes of a CREDIT_INIT block after its type. -/
def initRest (s : State) (L n : Nat) : List Byte := le 1 n ++ [0, 0] ++ initLimits s L n ++ le 3 (allocS s L)

theorem creditInitBlock_eq (s : State) (L n : Nat) : creditInitBlock s L n = mkBlk 0x2F (initRest s L n) := rfl

theorem length_initLimits (s : State) (L n : Nat) : (initLimits s L n).length = 16 := length_flatMap_le 2 8 _

theorem length_initRest (s : State) (L n : Nat) : (initRest s L n).length = 22 := by
  simp [initRest, length_initLimits]

/-- What a CREDIT_INIT block carries. -/
theorem creditInitBlock_fields (s : State) (L : Nat) {n : Nat} (hn : n < 2) :
    let b := creditInitBlock s L n
    blkCrcOk b = true ∧ blkByte b 0 = 0x2F ∧ blkByte b 1 = n ∧
      (∀ k, k < 8 → blkField b (4 + 2 * k) 2 = allocD s L (8 * n + k) % 2 ^ 16) ∧
      blkField b 20 3 = allocS s L % 2 ^ 24 := by
  have hlen := length_initRest s L n
  have hle : (initRest s L n).length ≤ 27 := by rw [hlen]; decide
  have hassoc : initRest s L n = (le 1 n ++ [0, 0]) ++ (initLimits s L n ++ le 3 (allocS s L)) := List.append_assoc _ _ _
  refine ⟨blkCrcOk_mkBlk hle, blkByte_mkBlk_type hle, ?_, fun k hk => ?_, ?_⟩
  · calc blkByte _ 1 = fieldAt (initRest s L n) 0 1 := blkField_mkBlk hle (k := 0) (n := 1) (by rw [hlen]; decide)
      _ = fieldAt (le 1 n) 0 1 := by
        rw [hassoc, List.append_assoc, fieldAt_append_left (by rw [length_le])]
      _ = n := by rw [fieldAt_le]; omega
  · rw [show 4 + 2 * k = 1 + (3 + 2 * k) by omega]
    calc blkField _ (1 + (3 + 2 * k)) 2 = fieldAt (initRest s L n) (3 + 2 * k) 2 := blkField_mkBlk hle (by rw [hlen]; omega)
      _ = fieldAt (initLimits s L n ++ le 3 (allocS s L)) (2 * k) 2 := by
        rw [hassoc, fieldAt_append_right (length_creditHead n)]
      _ = fieldAt (initLimits s L n) (2 * k) 2 := fieldAt_append_left (by rw [length_initLimits]; omega) _
      _ = _ := fieldAt_flatMap_le 2 hk _
  · calc blkField _ 20 3 = fieldAt (initRest s L n) 19 3 := blkField_mkBlk hle (k := 19) (by rw [hlen])
      _ = fieldAt (initLimits s L n ++ le 3 (allocS s L)) 16 3 := by
        rw [hassoc]
        exact fieldAt_append_right (length_creditHead n) _ 16 3
      _ = fieldAt (le 3 (allocS s L)) 0 3 := fieldAt_append_right (length_initLimits s L n) _ 0 3
      _ = _ := fieldAt_le 3 _

/-- A port whose allocations have just been advertised. -/
def advertisedPort (s : State) (L : Nat) (p : PortSt) : PortSt :=
  { p with initAt := max s.now 1
           advD := (List.range 16).foldl (fun t c => tset 0 t c (allocD s L c)) []
           advS := (List.range 2).foldl (fun t n => tset 0 t n (allocS s L)) [] }

/-- CREDIT_INIT_TX due sends both networks' allocations. -/
theorem creditInitTx_due {s : State} {L : Nat} (hopen : txOpen s L = true) (hdue : (port s L).initAt = 0) :
    creditInitTx s L =
      emit (emit (setPort s L (advertisedPort s L)) (.block L (creditInitBlock s L 0))) (.block L (creditInitBlock s L 1)) := by
  rw [creditInitTx]
  dsimp only
  rw [if_neg (by simp [hopen, hdue])]
  rfl

theorem lanesOf_le (s : State) (L : Nat) : lanesOf s L ≤ 8 := by
  unfold lanesOf lanesOfWidth
  split <;> decide

/-- A port in UP that is not its unpicking owner's advertises every channel. -/
theorem narrow_of_up {s : State} {L : Nat} (hup : (port s L).under = pUP) (hown : portUnpicking s L = false) :
    narrow s L = false := by
  rw [narrow, hup, hown]
  rfl

theorem allocD_of_up {s : State} {L : Nat} (hup : (port s L).under = pUP) (hown : portUnpicking s L = false) (c : Nat) :
    allocD s L c = 36 * lanesOf s L := by
  simp [allocD, narrow_of_up hup hown]

theorem allocS_of_up {s : State} {L : Nat} (hup : (port s L).under = pUP) (hown : portUnpicking s L = false) :
    allocS s L = (8 * tget 192 s.sys.str.voqMib (swOf L) - 288) * lanesOf s L := by
  simp [allocS, narrow_of_up hup hown]

/-- The shared allocation of the largest VOQ memory fits its field. -/
theorem allocS_lt {s : State} {L : Nat} (hmib : tget 192 s.sys.str.voqMib (swOf L) ≤ 224) :
    (8 * tget 192 s.sys.str.voqMib (swOf L) - 288) * lanesOf s L < 2 ^ 24 :=
  calc _ ≤ (8 * 224 - 288) * 8 := Nat.mul_le_mul (by omega) (lanesOf_le s L)
    _ < 2 ^ 24 := by decide

/-! The credit timer (R121). -/

theorem txOpen_iff {s : State} {L : Nat} :
    txOpen s L = true ↔
      isPort s L = true ∧ isEth s L = false ∧ dieUp s (swOf L) = true ∧ fibreDark s (L / 8) = false ∧ linkWorks s L = true := by
  simp [txOpen, laneLive, and_assoc]

theorem creditTimeout_due {s : State} {L : Nat} (hopen : txOpen s L = true) (hsus : (port s L).suspended = false)
    (hdue : s.elapsed (port s L).creditAt 50000 = true) : creditTimeout s L = linkFailure (portDown s L) L 5 :=
  if_pos (by simp [hopen, hsus, hdue])

/-! ALIGN (R73, R111) and SCRUB (R129). -/

/-- The bytes of an ALIGN block after its type. -/
def alignRest (s : State) (l : Nat) : List Byte :=
  (le 1 (l - portOf s l) ++ le 1 (widthOf s (portOf s l)) ++ [0]) ++ le 4 (lane s l).alignCnt

theorem length_alignHead (i w : Nat) : (le 1 i ++ le 1 w ++ [0] : List Byte).length = 3 := by simp

/-- A lane whose marker has just been sent. -/
def markedLane (s : State) (l : Nat) (x : LaneSt) : LaneSt :=
  { x with alignCnt := ((lane s l).alignCnt + 1) % 2 ^ 32, alignAt := max s.mono 1 }

/-- A due ALIGN_TX of a fabric port's lane sends its count and counts on. -/
theorem alignTx_due {s : State} {l : Nat} (hfab : isEth s (portOf s l) = false) (hsends : laneSends s l = true)
    (hdue : markerDue s l = true) :
    alignTx s l = emit (setLane s l (markedLane s l)) (.block (portOf s l) (mkBlk 0x4B (alignRest s l))) := by
  have hfab' : isEth (setLane s l (markedLane s l)) (portOf s l) = false := hfab
  rw [alignTx]
  dsimp only
  rw [if_neg (by simp [hsends, hdue])]
  exact if_neg (Bool.eq_false_iff.1 hfab')

/-- What an ALIGN block carries. -/
theorem alignBlock_fields (s : State) (l : Nat) :
    let b := mkBlk 0x4B (alignRest s l)
    blkCrcOk b = true ∧ blkByte b 0 = 0x4B ∧ blkField b 4 4 = (lane s l).alignCnt % 2 ^ 32 := by
  have hlen : (alignRest s l).length = 7 := by simp [alignRest]
  have hle : (alignRest s l).length ≤ 27 := by rw [hlen]; decide
  refine ⟨blkCrcOk_mkBlk hle, blkByte_mkBlk_type hle, ?_⟩
  calc blkField _ 4 4 = fieldAt (alignRest s l) 3 4 := blkField_mkBlk hle (k := 3) (by rw [hlen])
    _ = fieldAt (le 4 (lane s l).alignCnt) 0 4 := fieldAt_append_right (length_alignHead _ _) _ 0 4
    _ = _ := fieldAt_le 4 _

theorem lane_setLane_same (s : State) (l : Nat) (f : LaneSt → LaneSt) : lane (setLane s l f) l = f (lane s l) :=
  tget_tset_same _ _ _ _

theorem scrubTx_sends {s : State} {l : Nat} (hown : portUnpicking s (portOf s l) = true) (hfab : isEth s (portOf s l) = false)
    (hable : isDisabled s (portOf s l) = false) (hlive : laneLive s l = true) (hlit : fibreDark s (l / 8) = false)
    (hsel : txSelector s l = .oe) : scrubTx s l = emit s (.block (portOf s l) (mkBlk 0x66 [])) :=
  if_pos (by simp [hown, hfab, hable, hlive, hlit, hsel])

/-- Settles O23: each command due is one equation, and what its block carries is read off the bytes it is made of. -/
theorem controlBlocksSent : Obligations.ControlBlocksSent := by
  unfold Obligations.ControlBlocksSent
  intro sends
  refine ⟨fun L n s hclk hopen hdirty => ?_, fun L s hclk hopen hup hown hdue hlow hhigh => ?_,
    fun L s hpow hopen hun href hsus hdue => ?_, fun l s hclk hfab hsend hdue => ?_,
    fun l s hclk hown hfab hable hlive hlit hsel => ?_⟩
  · refine ⟨_, liveClocked_of_clocked hclk fun s => creditTx s L n, ?_⟩
    rw [creditTx_dirty hopen hdirty]
    obtain ⟨hcrc, htype, hnet, hcounts⟩ := creditBlock_fields s L n.isLt
    generalize mkBlk 0x2D (creditRest s L n) = b at *
    refine ⟨⟨rfl, hcrc, htype, rfl⟩, hnet, fun k hk => ?_, ?_⟩
    · refine (hcounts k hk).trans ?_
      rw [retShown]
      split <;> rfl
    · have hport : port (emit (setPort s L (creditSentPort s L n)) (.block L b)) L = creditSentPort s L n (port s L) :=
        port_setPort_same s L _
      rw [hport]
      exact bit_cleared _ n
  · refine ⟨_, liveClocked_of_clocked hclk fun s => creditInitTx s L, ?_⟩
    rw [creditInitTx_due hopen hdue]
    obtain ⟨hcrc, htype, hnet, hlimits, hshared⟩ := creditInitBlock_fields s L (n := 1) (by decide)
    refine ⟨hcrc, htype, hnet, rfl, rfl, fun k hk => ?_, ?_, emit_two_setPort s L _ _ _⟩
    · refine (hlimits k hk).trans ?_
      have hlanes := lanesOf_le s L
      rw [allocD_of_up hup hown]
      exact Nat.mod_eq_of_lt (by omega)
    · refine hshared.trans ?_
      rw [allocS_of_up hup hown]
      exact Nat.mod_eq_of_lt (allocS_lt hhigh)
  · obtain ⟨-, -, hdie, hlit, -⟩ := txOpen_iff.1 hopen
    refine ⟨_, live_of_powered hpow fun s => creditTimeout s L, ?_⟩
    obtain ⟨hunder, hfence, hcause, hstate⟩ :=
      linkFailure_portDown L.isLt (by decide) hun hdie hlit href (creditTimeout_due hopen hsus hdue).symm
    exact ⟨hunder, hfence, hstate, hcause⟩
  · refine ⟨_, liveClocked_of_clocked hclk fun s => alignTx s l, ?_⟩
    rw [alignTx_due hfab hsend hdue]
    obtain ⟨hcrc, htype, hcount⟩ := alignBlock_fields s l
    generalize mkBlk 0x4B (alignRest s l) = b at *
    have hlane : lane (emit (setLane s l (markedLane s l)) (.block (portOf s l) b)) l = markedLane s l (lane s l) :=
      lane_setLane_same s l _
    refine ⟨⟨rfl, hcrc, htype, rfl⟩, hcount, ?_, rfl⟩
    rw [hlane]
    rfl
  · refine ⟨_, liveClocked_of_clocked hclk fun s => scrubTx s l, ?_⟩
    rw [scrubTx_sends hown hfab hable hlive hlit hsel]
    have hle : ([] : List Byte).length ≤ 27 := by decide
    exact ⟨⟨rfl, blkCrcOk_mkBlk hle, blkByte_mkBlk_type hle, rfl⟩, rfl, rfl⟩

end Sys2Proof.Machine
end

section
/-! SUPPORT. An XOFF that stands on a port of an unpicking owner, which sends idle alone (R129): it refutes O24. -/

namespace Sys2Proof.Machine

open Claim

/-- A port whose owner is UNPICKING repeats no XOFF. -/
theorem pfcRepeat_of_unpicking {s : State} {L : Nat} (h : portUnpicking s L = true) (c : Nat) : pfcRepeat s L c = s := by
  simp [pfcRepeat, h]

/-- A powered module 20 µs after power-up. Port 8, UP in Ethernet mode, belongs to context 3, which is UNPICKING; channel 0 holds
2,000 units of it, and its XOFF stands since time 0. -/
def xoffState : State :=
  { fset (fset (fset State.reset (PRT_OWNER.OWNED 8) 1) (PRT_OWNER.CTX 8) 3) (CTX_STAT.STATE 3) 3 with
    sys := { powered := true, str := { portMode := [(8, 9)] } }
    mono := 20000 * 2 ^ 32
    ports := [(8, { under := pUP, xoff := [(0, true)], ethHeld := [(0, 2000)] })] }

theorem xoffState_unpicking : portUnpicking xoffState 8 = true := by decide +kernel

/-- The room of channel 0 is below its threshold. -/
theorem xoffState_short : ethRemain xoffState 8 0 < 1344 * lanesOf xoffState 8 := by decide +kernel

/-- Refutes O24: its clause on PFC_XOFF_REPEAT does not ask that the port's owner is not UNPICKING. In `xoffState` it is, and the
command sends nothing. -/
theorem not_priorityFlowControl : ¬ Obligations.PriorityFlowControl := by
  unfold Obligations.PriorityFlowControl
  rintro ⟨-, -, hrepeat⟩
  obtain ⟨t, ht, hout, -⟩ := hrepeat 8 0 xoffState (by decide) (by decide +kernel) (by decide +kernel) (by decide +kernel)
    (by decide +kernel) xoffState_short
  rw [show exec (.pfcXoffRepeat 8 0) xoffState = .next (pfcRepeat xoffState 8 0) from
      liveClocked_of_clocked (by decide) fun s => pfcRepeat s 8 0,
    pfcRepeat_of_unpicking xoffState_unpicking] at ht
  rw [← Host.Outcome.next.inj ht] at hout
  exact List.cons_ne_self _ _ hout.symm

end Sys2Proof.Machine
end

section
/-! SUPPORT. The round over a channel's subscriber queues (R201) where one of them alone can send. -/

namespace Sys2Proof.Machine

/-! Deficit round robin over 64 members. -/

/-- Turns from member v to member i. -/
def turnsTo (i v : Nat) : Nat := (i + 64 - v % 64) % 64

/-- The round after a member that has no eligible frame. -/
def roundPassed (holds : Nat → Bool) (r : Round) : Round :=
  { visit := (r.visit % 64 + 1) % 64, given := false,
    deficit := if holds (r.visit % 64) then r.deficit else tset 0 r.deficit (r.visit % 64) 0 }

/-- A member with no eligible frame is passed. -/
theorem dwrr_passes {len : Nat → Option Nat} (holds : Nat → Bool) (weight : Nat → Nat) (fuel : Nat) {r : Round}
    (h : len (r.visit % 64) = none) :
    dwrr 64 len holds weight (fuel + 1) r =
      dwrr 64 len holds weight fuel (roundPassed holds r) := by
  rw [dwrr, h]
  rfl

/-- The deficit of a member as it is visited. -/
def visitDeficit (weight : Nat → Nat) (r : Round) : Nat :=
  if r.given then tget 0 r.deficit (r.visit % 64)
  else tget 0 r.deficit (r.visit % 64) + weight (r.visit % 64) * 1024

/-- The round after a member whose deficit does not cover its frame. -/
def roundShort (weight : Nat → Nat) (r : Round) : Round :=
  { visit := (r.visit % 64 + 1) % 64, given := false, deficit := tset 0 r.deficit (r.visit % 64) (visitDeficit weight r) }

/-- A member with an eligible frame sends where its deficit covers it, and is passed with its deficit where not. -/
theorem dwrr_visits {len : Nat → Option Nat} (holds : Nat → Bool) (weight : Nat → Nat) (fuel : Nat) {r : Round} {B : Nat}
    (h : len (r.visit % 64) = some B) :
    dwrr 64 len holds weight (fuel + 1) r =
      if B ≤ visitDeficit weight r then
        some (r.visit % 64, { visit := r.visit % 64, given := true,
                              deficit := tset 0 r.deficit (r.visit % 64) (visitDeficit weight r - B) })
      else dwrr 64 len holds weight fuel (roundShort weight r) := by
  rw [dwrr, h]
  rfl

section
variable {len : Nat → Option Nat} {holds : Nat → Bool} {weight : Nat → Nat} {i B : Nat}
  (hi : i < 64) (hlen : ∀ j, len j = if i = j then some B else none)
include hi hlen

/-- The round comes to the one member that can send; its deficit is as it was. -/
theorem dwrr_comes_to (n : Nat) (fuel : Nat) {r : Round} (hn : turnsTo i r.visit = n) :
    ∃ r', r'.visit % 64 = i ∧ tget 0 r'.deficit i = tget 0 r.deficit i ∧ (r.given = false → r'.given = false) ∧
      dwrr 64 len holds weight (fuel + n) r = dwrr 64 len holds weight fuel r' := by
  induction n generalizing r with
  | zero =>
    refine ⟨r, ?_, rfl, id, rfl⟩
    unfold turnsTo at hn
    omega
  | succ n ih =>
    have hne : i ≠ r.visit % 64 := by
      rintro rfl
      unfold turnsTo at hn
      omega
    rw [← Nat.add_assoc, dwrr_passes holds weight _ ((hlen _).trans (if_neg hne))]
    obtain ⟨r', hat, hdef, hgiven, hrun⟩ := ih (r := roundPassed holds r) (by
      unfold turnsTo roundPassed at *
      dsimp only
      omega)
    refine ⟨r', hat, hdef.trans ?_, fun _ => hgiven rfl, hrun⟩
    dsimp only [roundPassed]
    split
    · rfl
    · exact tget_tset_ne 0 _ hne 0

/-- At the member that can send, each turn of the round adds its quantum until its deficit covers the frame. -/
theorem dwrr_sends_at (hw : 1 ≤ weight i) (turns fuel : Nat) {r : Round} (hat : r.visit % 64 = i)
    (hB : B ≤ tget 0 r.deficit i + (turns + if r.given then 0 else 1) * 1024) (hfuel : turns * 64 < fuel) :
    ∃ r', dwrr 64 len holds weight fuel r = some (i, r') := by
  have hgain : tget 0 r.deficit i + (if r.given then 0 else 1) * 1024 ≤ visitDeficit weight r := by
    unfold visitDeficit
    rw [hat]
    split <;> omega
  induction turns generalizing fuel r with
  | zero =>
    obtain ⟨fuel, rfl⟩ : ∃ k, fuel = k + 1 := ⟨fuel - 1, by omega⟩
    rw [dwrr_visits holds weight _ ((hlen _).trans (if_pos hat.symm)), if_pos (by omega), hat]
    exact ⟨_, rfl⟩
  | succ turns ih =>
    obtain ⟨fuel, rfl⟩ : ∃ k, fuel = k + 63 + 1 := ⟨fuel - 64, by omega⟩
    rw [dwrr_visits holds weight _ ((hlen _).trans (if_pos hat.symm))]
    split
    · rw [hat]
      exact ⟨_, rfl⟩
    · obtain ⟨r', hat', hdef, hgiven, hrun⟩ := dwrr_comes_to (holds := holds) (weight := weight) hi hlen 63 fuel
        (r := roundShort weight r) (by
          unfold turnsTo roundShort
          dsimp only
          omega)
      have hdef' : tget 0 r'.deficit i = visitDeficit weight r := by
        rw [hdef, roundShort, hat]
        exact tget_tset_same _ _ _ _
      have hgiven' : r'.given = false := hgiven rfl
      rw [hrun]
      refine ih fuel hat' ?_ (by omega) ?_
      · simp only [hgiven', hdef', Bool.false_eq_true, if_false]
        omega
      · simp [visitDeficit, hgiven', hat', hdef', hw]

/-- Where one member alone can send, a frame of at most nine quanta goes within 1,024 turns. -/
theorem dwrr_sends (hw : 1 ≤ weight i) (hB : B ≤ 9216) (r : Round) : ∃ r', dwrr 64 len holds weight 1024 r = some (i, r') := by
  have hturns : turnsTo i r.visit < 64 := Nat.mod_lt _ (by decide)
  obtain ⟨r', hat, -, -, hrun⟩ :=
    dwrr_comes_to (holds := holds) (weight := weight) hi hlen _ (1024 - turnsTo i r.visit) (r := r) rfl
  rw [Nat.sub_add_cancel (by omega)] at hrun
  rw [hrun]
  exact dwrr_sends_at hi hlen hw 9 _ hat (by omega) (by omega)

end

end Sys2Proof.Machine
end

section
/-! SUPPORT. A port sends a frame (R110, R117, R155, R200 to R213, R442 to R445): it settles O34. -/

namespace Sys2Proof.Machine

open Claim

/-! What a choice leaves. -/

/-- From `s` to `t` the traffic manager's state alone changed. -/
def TmWork (s t : State) : Prop := t = { s with tm := t.tm }

theorem TmWork.refl (s : State) : TmWork s s := rfl

theorem TmWork.trans {s t u : State} (h : TmWork s t) (k : TmWork t u) : TmWork s u := by
  unfold TmWork at *
  rw [k, h]

theorem TmWork.setTm (s : State) (f : TmSt → TmSt) : TmWork s (setTm s f) := rfl

theorem TmWork.ite {c : Prop} [Decidable c] {s a b : State} (ha : TmWork s a) (hb : TmWork s b) :
    TmWork s (if c then a else b) := by
  split <;> assumption

theorem TmWork.storeSub (s : State) (L c : Nat) (r : Round) : TmWork s (storeSub s L c r) := by
  have hround : TmWork s (storeRound s 64 (fun i => nodeKey 2 L c i) r) := by
    unfold storeRound
    refine forRange_keeps (P := TmWork s) (fun t i _ h => h.trans ?_) (TmWork.refl s)
    exact TmWork.ite (TmWork.refl t) (TmWork.setTm t _)
  unfold Machine.storeSub
  exact hround.trans (TmWork.setTm _ _)

theorem TmWork.nodeTake (s : State) (k B : Nat) : TmWork s (nodeTake s k B) := TmWork.ite (TmWork.refl s) (TmWork.setTm s _)

theorem TmWork.noDeficit (s : State) (k : Nat) : TmWork s (noDeficit s k) := TmWork.ite (TmWork.refl s) (TmWork.setTm s _)

theorem TmWork.emptied (s : State) (L c sub : Nat) : TmWork s (emptied s L c sub) := by
  have hturn : ∀ (u : State) (b : Bool) (f : TmSt → TmSt), TmWork u (if b then Machine.setTm u f else u) :=
    fun u b f => TmWork.ite (TmWork.setTm u f) (TmWork.refl u)
  refine TmWork.ite (TmWork.refl s) (TmWork.ite ?_ ?_)
  · exact (TmWork.noDeficit s _).trans (hturn _ _ _)
  · exact (((TmWork.noDeficit s _).trans (hturn _ _ _)).trans (TmWork.noDeficit _ _)).trans (hturn _ _ _)

/-! The head frame. -/

theorem egrKey_parts {L c sub : Nat} (hc : c < 16) (hsub : sub < 64) :
    egrKey L c sub / 1024 = L ∧ egrKey L c sub / 64 % 16 = c ∧ egrKey L c sub % 64 = sub := by
  unfold egrKey
  omega

/-- Of one egress queue the head frame is the port's one. -/
theorem headFrames_of_one {s : State} {L c sub : Nat} {f : Frame} {fs : List Frame} (hc : c < 16) (hsub : sub < 64)
    (hegr : s.core.egr = [(egrKey L c sub, f :: fs)]) : headFrames s L = [(c, sub, f)] := by
  obtain ⟨hport, hchan, hidx⟩ := egrKey_parts (L := L) hc hsub
  simp [headFrames, hegr, hport, hchan, hidx]

/-- A frame that credits let go fits the peer's allocation (R117, R119). -/
theorem creditNever_of_ok {p : PortSt} {c u : Nat} (h : creditOk p c u = true) : creditNever p c u = false := by
  have hfit : outUnits p c + u ≤ tget 0 p.peerD c + tget 0 p.peerS (c / 8) := by
    simp only [creditOk, beq_self_eq_true, if_true, Bool.and_eq_true, decide_eq_true_eq] at h
    exact h.1.1.2
  have hroom : decide (tget 0 p.peerD c + tget 0 p.peerS (c / 8) < u) = false := by
    rw [decide_eq_false_iff_not]
    omega
  rw [creditNever, hroom, Bool.and_false]

/-- Where the one head frame fits, and no gate list holds it for ever, nothing is dropped. -/
theorem dropUnsendable_of_one {s : State} {L c sub : Nat} {f : Frame} (hhead : headFrames s L = [(c, sub, f)])
    (hfits : creditNever (port s L) c (unitsOf (frameLen f)) = false)
    (hgate : s.asBasic = true ∨ gateLongest s L c = none) (fuel : Nat) : dropUnsendable s L fuel = s := by
  cases fuel with
  | zero => rfl
  | succ fuel =>
    rw [dropUnsendable, hhead]
    rcases hgate with h | h <;> simp [hfits, h]

/-- A JLP frame within the peer's credits on a port that is not its unpicking owner's may go, where no shaper or gate holds it. -/
theorem eligible_of_credit {s : State} {L c sub : Nat} {f : Frame} (hfab : f.eth = false)
    (hcredit : creditOk (port s L) f.chan (unitsOf (frameLen f)) = true) (hown : portUnpicking s L = false)
    (hfree : s.asBasic = true ∨ (gateOk s L c (outLen f) && nodeHolds s (nodeKey 2 L c sub) (outLen f) &&
      nodeHolds s (nodeKey 1 L c 0) (outLen f) && nodeHolds s (nodeKey 0 L 0 0) (outLen f)) = true) :
    eligible s L (c, sub, f) = true := by
  have hlink : linkReady s L f = true := by simp [linkReady, hfab, hcredit]
  have hheld : unpickHeld s L f = false := by simp [unpickHeld, hown]
  rw [eligible, hlink, hheld]
  rcases hfree with h | h
  · rw [h]; rfl
  · rw [h, Bool.or_true]; rfl

/-! No gate list, no shaper. -/

theorem gateLongest_of_none {s : State} {L : Nat} (h : fget s (PRT_GATE_STAT.LEN L) = 0) (c : Nat) : gateLongest s L c = none := by
  simp [gateLongest, h]

theorem gateOk_of_none {s : State} {L : Nat} (h : fget s (PRT_GATE_STAT.LEN L) = 0) (hpend : (gate s L).pend = false) (c B : Nat) :
    gateOk s L c B = true := by
  simp [gateOk, h, hpend, gateFits]

theorem nodeHolds_of_off {s : State} {k : Nat} (h : nRate (node s k) = 0) (B : Nat) : nodeHolds s k B = true := by
  have hrate : nRate (nodeAccrue s (node s k)) = 0 := by
    rw [nodeAccrue]
    split <;> exact h
  simp [nodeHolds, hrate]

/-! The choice (R155, R201). -/

/-- Strict priority comes to every channel. -/
theorem strictOrder_find {p : Nat → Bool} {c : Nat} (hc : c < 16) (hp : ∀ k, p k = (k == c)) : strictOrder.find? p = some c := by
  have hall : ∀ c < 16, strictOrder.find? (fun k => k == c) = some c := by decide
  rw [show p = fun k => k == c from funext hp, hall c hc]

theorem chooseStrict_of_one {c : Nat} (hc : c < 16) (sub : Nat) (f : Frame) :
    chooseStrict [(c, sub, f)] = some (c, sub, f) := by
  have hfind : strictOrder.find? (fun k => [(c, sub, f)].any fun h => h.1 == k) = some c :=
    strictOrder_find hc fun k => (Bool.or_false _).trans BEq.comm
  rw [chooseStrict, hfind]
  simp

/-- A channel whose one head frame is at most nine quanta long sends it. -/
theorem chooseSub_of_one {s : State} {L c sub : Nat} {f : Frame} (hsub : sub < 64) (hlen : outLen f ≤ 9216)
    (hweight : 1 ≤ nWeight (node s (nodeKey 2 L c sub))) (all : List (Nat × Nat × Frame)) :
    ∃ r, chooseSub s L c [(c, sub, f)] all = some (sub, f, r) := by
  have hmine : ([(c, sub, f)] : List (Nat × Nat × Frame)).filter (fun h => h.1 == c) = [(c, sub, f)] := by simp
  have hlens : ∀ i, (([(c, sub, f)] : List (Nat × Nat × Frame)).find? fun h => h.2.1 == i).map (fun h => outLen h.2.2) =
      if sub = i then some (outLen f) else none := by
    intro i
    by_cases h : sub = i <;> simp [h]
  obtain ⟨r, hr⟩ := dwrr_sends (holds := fun i => all.any fun h => h.1 == c && h.2.1 == i) (i := sub)
    (weight := fun i => nWeight (node s (nodeKey 2 L c i))) hsub hlens hweight hlen
    { visit := tget 0 s.tm.subVisit (16 * L + c), given := tget false s.tm.visited (1024 + 16 * L + c),
      deficit := deficits s 64 fun i => nodeKey 2 L c i }
  refine ⟨r, ?_⟩
  rw [chooseSub]
  dsimp only
  rw [hmine, if_neg (by simp), hr]
  simp

theorem chooseSub_of_other {s : State} {L c k sub : Nat} {f : Frame} (h : c ≠ k) (all : List (Nat × Nat × Frame)) :
    chooseSub s L k [(c, sub, f)] all = none := by
  simp [chooseSub, h]

/-- On a strict channel the hierarchy comes to the one head frame. -/
theorem chooseHier_of_one {s : State} {L c sub : Nat} {f : Frame} (hc : c < 16) (hsub : sub < 64) (hlen : outLen f ≤ 9216)
    (hstrict : nStrict (node s (nodeKey 1 L c 0)) = true) (hweight : 1 ≤ nWeight (node s (nodeKey 2 L c sub)))
    (all : List (Nat × Nat × Frame)) :
    ∃ r, chooseHier s L [(c, sub, f)] all = some (storeSub s L c r, c, sub, f) := by
  obtain ⟨r, hr⟩ := chooseSub_of_one hsub hlen hweight all
  have hfind : strictOrder.find?
      (fun k => nStrict (node s (nodeKey 1 L k 0)) && (chooseSub s L k [(c, sub, f)] all).isSome) = some c := by
    refine strictOrder_find hc fun k => ?_
    by_cases hk : k = c
    · subst hk
      simp [hr, hstrict]
    · simp [chooseSub_of_other (Ne.symm hk), hk]
  refine ⟨r, ?_⟩
  rw [chooseHier]
  dsimp only
  rw [hfind]
  dsimp only
  rw [hr, Option.map_some]

/-! The start (R110, R117). -/

/-- A port on which a JLP frame of channel c starts. -/
def startedPort (s : State) (L c : Nat) (f : Frame) (p : PortSt) : PortSt :=
  { p with txBusy := some f, txEnd := s.now + txTime s L (outLen f),
           sent := tmod 0 p.sent c (· + unitsOf (frameLen f))
           dataRun := (if idleDue s L f then 0 else p.dataRun) + ceilDiv (frameLen f) 32 }

/-- The queues with the head frame of one taken. -/
def headTaken (L c sub : Nat) (k : CoreSt) : CoreSt := { k with egr := tmod [] k.egr (egrKey L c sub) (·.drop 1) }

/-- What goes out as a JLP frame starts, the last first. -/
def startedOut (s : State) (L : Nat) (f : Frame) : List Output :=
  .frame L (hdrOut f) f.body :: (if idleDue s L f then [.block L (mkBlk 0x1E [])] else []) ++ s.out

/-- The start of a JLP frame. -/
theorem startFrame_eq (s : State) (L c sub : Nat) {f : Frame} (hfab : f.eth = false) :
    ∃ x, startFrame s L c sub f =
      { s with ports := tmod {} s.ports L (startedPort s L c f), core := headTaken L c sub s.core, tm := x
               out := startedOut s L f } := by
  have hwork : TmWork (setCore s (headTaken L c sub)) (emptied (setCore s (headTaken L c sub)) L c sub) := TmWork.emptied _ L c sub
  refine ⟨(emptied (setCore s (headTaken L c sub)) L c sub).tm, ?_⟩
  have hstart : startFrame s L c sub f =
      let u := emptied (setCore s (headTaken L c sub)) L c sub
      let v := if idleDue u L f then emit u (.block L (mkBlk 0x1E [])) else u
      emit (setPort v L fun p =>
        { p with txBusy := some f, txEnd := v.now + txTime v L (outLen f), sent := tmod 0 p.sent c (· + unitsOf (frameLen f))
                 dataRun := (if idleDue u L f then 0 else p.dataRun) + ceilDiv (frameLen f) 32 }) (.frame L (hdrOut f) f.body) := by
    simp only [startFrame, hfab, Bool.false_and, Bool.false_eq_true, if_false]
    rfl
  rw [hstart]
  generalize emptied (setCore s (headTaken L c sub)) L c sub = u at hwork
  generalize hx : u.tm = x
  unfold TmWork at hwork
  rw [hx] at hwork
  subst hwork
  dsimp only
  have hdue : idleDue { setCore s (headTaken L c sub) with tm := x } L f = idleDue s L f := rfl
  rw [hdue, startedOut]
  unfold startedPort
  cases idleDue s L f
  · simp only [Bool.false_eq_true, if_false]
    rfl
  · simp only [if_true]
    rfl

/-- A JLP frame of channel c starts from the head of its queue, whatever the traffic manager's state. -/
def FrameStarts (s : State) (L c sub : Nat) (f : Frame) (t : State) : Prop :=
  (port t L).txBusy = some f ∧ tget [] t.core.egr (egrKey L c sub) = (tget [] s.core.egr (egrKey L c sub)).drop 1 ∧
    tget 0 (port t L).sent c = tget 0 (port s L).sent c + unitsOf (frameLen f) ∧
    (port t L).txEnd = s.now + ceilDiv (outLen f * 8) (portGbps s L) ∧ t.out = startedOut s L f ∧
    regsBut (fun _ => false) s t ∧ t = { s with ports := t.ports, core := t.core, tm := t.tm, out := t.out }

theorem startFrame_starts {s u : State} (hu : TmWork s u) (L c sub : Nat) {f : Frame} (hfab : f.eth = false) :
    FrameStarts s L c sub f (startFrame u L c sub f) := by
  obtain ⟨x, hx⟩ := startFrame_eq u L c sub hfab
  unfold TmWork at hu
  rw [hx]
  generalize u.tm = y at hu
  subst hu
  have hport : ∀ t : State, t.ports = tmod {} s.ports L (startedPort s L c f) → port t L = startedPort s L c f (port s L) := by
    intro t ht
    rw [port, ht]
    exact tget_tset_same _ _ _ _
  refine ⟨?_, tget_tset_same _ _ _ _, ?_, ?_, rfl, fun _ _ => rfl, rfl⟩
  · rw [hport _ rfl]
    rfl
  · rw [hport _ rfl]
    exact tget_tset_same _ _ _ _
  · rw [hport _ rfl]
    rfl

/-- Where no 1,024 blocks would pass, a JLP frame goes out alone, else behind an IDLE block. -/
theorem startedOut_eq (s : State) (L : Nat) {f : Frame} (hfab : f.eth = false) :
    startedOut s L f = .frame L (hdrOut f) f.body ::
      (if 1023 < (port s L).dataRun + ceilDiv (frameLen f) 32 then [.block L (mkBlk 0x1E [])] else []) ++ s.out := by
  simp only [startedOut, idleDue, hfab, Bool.not_false, Bool.true_and, decide_eq_true_eq]

/-- One frame waits at the head of the module's one egress queue, for an idle UP fabric port that may send it. -/
structure HeadWaits (s : State) (L sub : Nat) (f : Frame) (fs : List Frame) : Prop where
  names : isPort s L = true
  up : portState s L = pUP
  free : txFree s L = true
  queue : s.core.egr = [(egrKey L f.chan sub, f :: fs)]
  chan : f.chan < 16
  sub : sub < 64
  jlp : f.eth = false
  credit : creditOk (port s L) f.chan (unitsOf (frameLen f)) = true
  own : portUnpicking s L = false

theorem HeadWaits.head {s : State} {L sub : Nat} {f : Frame} {fs : List Frame} (h : HeadWaits s L sub f fs) :
    headFrames s L = [(f.chan, sub, f)] :=
  headFrames_of_one h.chan h.sub h.queue

/-- Where the module forwards as BASIC, the waiting frame starts. -/
theorem frameTxStart_of_basic {s : State} {L sub : Nat} {f : Frame} {fs : List Frame} (h : HeadWaits s L sub f fs)
    (hbasic : s.asBasic = true) : frameTxStart s L = startFrame s L f.chan sub f := by
  have hel : eligible s L (f.chan, sub, f) = true := eligible_of_credit h.jlp h.credit h.own (Or.inl hbasic)
  have hdrop := dropUnsendable_of_one h.head (creditNever_of_ok h.credit) (Or.inl hbasic)
  rw [frameTxStart]
  dsimp only
  rw [if_neg (by simp [h.names, h.up, h.free, hbasic]), hdrop, h.head]
  simp only [List.filter_cons, hel, if_true, List.filter_nil, hbasic, chooseStrict_of_one h.chan]

/-- In WOVEN, on a strict channel with no gate list and no shaper on, it starts too: only the traffic manager's state was
touched before. -/
theorem frameTxStart_of_strict {s : State} {L sub : Nat} {f : Frame} {fs : List Frame} (h : HeadWaits s L sub f fs)
    (hmode : s.mode = mWOVEN) (hlist : fget s (PRT_GATE_STAT.LEN L) = 0) (hpend : (gate s L).pend = false)
    (hlen : outLen f ≤ 9216) (hstrict : nStrict (node s (nodeKey 1 L f.chan 0)) = true)
    (hweight : 1 ≤ nWeight (node s (nodeKey 2 L f.chan sub))) (hport : nRate (node s (nodeKey 0 L 0 0)) = 0)
    (hserv : nRate (node s (nodeKey 1 L f.chan 0)) = 0) (hsubs : nRate (node s (nodeKey 2 L f.chan sub)) = 0) :
    ∃ u, TmWork s u ∧ frameTxStart s L = startFrame u L f.chan sub f := by
  have hnot : s.asBasic = false := by simp [State.asBasic, hmode, mBASIC, mWEAVING, mMAINT, mDRAINING, mWOVEN]
  have hfwd : s.asWoven = true := by simp [State.asWoven, hmode]
  have hel : eligible s L (f.chan, sub, f) = true :=
    eligible_of_credit h.jlp h.credit h.own (Or.inr (by
      simp [gateOk_of_none hlist hpend, nodeHolds_of_off hport, nodeHolds_of_off hserv, nodeHolds_of_off hsubs]))
  have hdrop := dropUnsendable_of_one h.head (creditNever_of_ok h.credit) (Or.inr (gateLongest_of_none hlist f.chan))
  obtain ⟨r, hr⟩ := chooseHier_of_one h.chan h.sub hlen hstrict hweight [(f.chan, sub, f)]
  refine ⟨nodeTake (nodeTake (nodeTake (storeSub s L f.chan r) (nodeKey 2 L f.chan sub) (outLen f)) (nodeKey 1 L f.chan 0)
    (outLen f)) (nodeKey 0 L 0 0) (outLen f), ?_, ?_⟩
  · exact (((TmWork.storeSub s _ _ _).trans (TmWork.nodeTake _ _ _)).trans (TmWork.nodeTake _ _ _)).trans
      (TmWork.nodeTake _ _ _)
  · rw [frameTxStart]
    dsimp only
    rw [if_neg (by simp [h.names, h.up, h.free, hfwd]), hdrop, h.head]
    simp only [List.filter_cons, hel, if_true, List.filter_nil, hnot, Bool.false_eq_true, if_false, hr]

/-! The end (R153, R442, R444, R445). -/

theorem inCtxCount_page {x i : Nat} (hx : x < 1024) (hi : i < 64) : inCtxCount (PMC_CTXPAGE x i) = true := by
  unfold inCtxCount PMC_CTXPAGE
  rw [Bool.and_eq_true, decide_eq_true_eq, decide_eq_true_eq]
  omega

/-- A counter of a context raised. -/
theorem ctxBump_regsBut {own : Nat → Bool} (s : State) (x n : Nat) {i : Nat} (hi : i < 64)
    (hown : ∀ o, inCtxCount o = true → own o = true) : regsBut own s (ctxBump s x i n) := by
  unfold ctxBump
  split
  · next hx => exact regsBut_setReg s (hown _ (inCtxCount_page hx hi)) _
  · exact regsBut.refl own s

/-- Is it the offset of a counter in a port's page, or of a counter of a context? -/
def trafficReg (L o : Nat) : Bool := (inPortPage o && pageOf o == L) || inCtxCount o

theorem trafficReg_page {L c : Nat} (hL : L < 1024) (hc : c < 0x1000) : trafficReg L (portPage L + c) = true := by
  rw [trafficReg, inPortPage_page hL hc, pageOf_page L hc, beq_self_eq_true]
  rfl

theorem trafficReg_of_ctx {L o : Nat} (h : inCtxCount o = true) : trafficReg L o = true := by
  rw [trafficReg, h, Bool.or_true]

/-- A port's page holds no counter of a context. -/
theorem inCtxCount_portPage {L c : Nat} (hL : L < 1024) (hc : c < 0x1000) : inCtxCount (portPage L + c) = false := by
  unfold inCtxCount portPage
  simp only [Bool.and_eq_false_iff, decide_eq_false_iff_not]
  omega

/-- A frame and its bytes counted at two pairs of registers: for the port, and for its channel. -/
def countedTwice (s : State) (frames bytes chFrames chBytes n : Nat) : State :=
  bumpBy (bump (bumpBy (bump s frames) bytes n) chFrames) chBytes n

/-- Of counters that are apart, the port's two are raised; no register but the four changes. -/
theorem countedTwice_frame (s : State) {a b c d : Nat} (n : Nat) (hab : a ≠ b) (hac : a ≠ c) (had : a ≠ d) (hbc : b ≠ c)
    (hbd : b ≠ d) :
    getReg (countedTwice s a b c d n) a = getReg s a + 1 ∧
      getReg (countedTwice s a b c d n) b = getReg s b + BitVec.ofNat 64 n ∧
      ∀ own : Nat → Bool, own a = true → own b = true → own c = true → own d = true →
        regsBut own s (countedTwice s a b c d n) := by
  unfold countedTwice
  refine ⟨?_, ?_, fun own ha hb hc hd => ?_⟩
  · rw [bumpBy, getReg_setReg_ne _ had, getReg_bump, if_neg hac, bumpBy, getReg_setReg_ne _ hab, getReg_bump, if_pos rfl]
  · rw [bumpBy, getReg_setReg_ne _ hbd, getReg_bump, if_neg hbc, bumpBy, getReg_setReg_same, getReg_bump, if_neg hab.symm]
  · exact (((regsBut_bump s ha).trans (regsBut_setReg _ hb _)).trans (regsBut_bump _ hc)).trans (regsBut_setReg _ hd _)

theorem countedTwice_regsOnly (s : State) (a b c d n : Nat) : regsOnly s (countedTwice s a b c d n) :=
  (((regsOnly_bump s a).trans (regsOnly_bumpBy _ b n)).trans (regsOnly_bump _ c)).trans (regsOnly_bumpBy _ d n)

/-- Two counters of a context raised. -/
theorem ctxBump_two_regsBut (s : State) (x y m n : Nat) {i j : Nat} (hi : i < 64) (hj : j < 64) :
    regsBut inCtxCount s (ctxBump (ctxBump s x i m) y j n) :=
  (ctxBump_regsBut s x m hi fun _ h => h).trans (ctxBump_regsBut _ y n hj fun _ h => h)

/-- The module with a port's frame gone and its place in the egress queue free. -/
def txFreed (s : State) (L : Nat) (f : Frame) : State := egrRelease (setPort s L fun p => { p with txBusy := none }) L f.chan f

/-- The same with the frame counted for the port. -/
def txCounted (s : State) (L : Nat) (f : Frame) : State :=
  countedTwice (txFreed s L f) (PRT_TX_FRAMES L) (PRT_TX_BYTES L) (PRT_CHF_TX L f.chan) (PRT_CHB_TX L f.chan) (outLen f)

theorem frameTxEnd_due {s : State} {L : Nat} {f : Frame} (hbusy : (port s L).txBusy = some f) (hdue : (port s L).txEnd ≤ s.now) :
    frameTxEnd s L = ctxBump (ctxBump (txCounted s L f) (frameCtx (txCounted s L f) f) 2 1) (frameCtx (txCounted s L f) f) 3
      (outLen f) := by
  rw [frameTxEnd, hbusy]
  exact if_neg (by omega)

/-- What FRAME_TX_END leaves. -/
theorem frameTxEnd_frame {s : State} {L : Nat} (hL : L < 1024) {f : Frame} (hbusy : (port s L).txBusy = some f)
    (hdue : (port s L).txEnd ≤ s.now) (hchan : f.chan < 16) :
    let t := frameTxEnd s L
    getReg t (PRT_TX_FRAMES L) = getReg s (PRT_TX_FRAMES L) + 1 ∧
      getReg t (PRT_TX_BYTES L) = getReg s (PRT_TX_BYTES L) + BitVec.ofNat 64 (outLen f) ∧
      regsBut (trafficReg L) s t ∧ regsOnly (txFreed s L f) t := by
  intro t
  have hchf : PRT_CHF_TX L f.chan = portPage L + (0x800 + 8 * f.chan) := Nat.add_assoc _ _ _
  have hchb : PRT_CHB_TX L f.chan = portPage L + (0x880 + 8 * f.chan) := Nat.add_assoc _ _ _
  obtain ⟨hframes, hbytes, hregs⟩ := countedTwice_frame (txFreed s L f) (a := PRT_TX_FRAMES L) (b := PRT_TX_BYTES L)
    (c := PRT_CHF_TX L f.chan) (d := PRT_CHB_TX L f.chan) (outLen f) (by unfold PRT_TX_FRAMES PRT_TX_BYTES; omega)
    (by rw [hchf, PRT_TX_FRAMES]; omega) (by rw [hchb, PRT_TX_FRAMES]; omega) (by rw [hchf, PRT_TX_BYTES]; omega)
    (by rw [hchb, PRT_TX_BYTES]; omega)
  have hown := hregs (trafficReg L) (trafficReg_page hL (by decide)) (trafficReg_page hL (by decide))
    (by rw [hchf]; exact trafficReg_page hL (by omega)) (by rw [hchb]; exact trafficReg_page hL (by omega))
  have ht : t = _ := frameTxEnd_due hbusy hdue
  have hctx := ctxBump_two_regsBut (txCounted s L f) (frameCtx (txCounted s L f) f) (frameCtx (txCounted s L f) f) 1 (outLen f)
    (i := 2) (j := 3) (by decide) (by decide)
  rw [← ht] at hctx
  have honly : regsOnly (txCounted s L f) t := by
    rw [ht]
    exact (ctxBump_regsOnly _ _ _ _).trans (ctxBump_regsOnly _ _ _ _)
  refine ⟨(hctx _ (inCtxCount_portPage hL (by decide))).trans hframes, (hctx _ (inCtxCount_portPage hL (by decide))).trans hbytes,
    ?_, regsOnly.trans (countedTwice_regsOnly _ _ _ _ _ _) honly⟩
  exact regsBut.trans (regsBut.trans (fun _ _ => rfl) hown) (regsBut.mono hctx fun _ => trafficReg_of_ctx)

/-- Settles O34: the one head frame is the port's choice in either mode, and its start and its end are one equation each. -/
theorem portSends : Obligations.PortSends := by
  unfold Obligations.PortSends
  intro waits gone
  have hwaits : ∀ (L : Fin 1024) (sub : Nat) (f : Frame) (fs : List Frame) (s : State), waits s L sub f fs →
      clocked s = true ∧ HeadWaits s L sub f fs := by
    intro L sub f fs s hw
    obtain ⟨hclk, hport, -, hup, hbusy, hqueue, hchan, hsub, hfab, hcredit, hown, hfill, hretune⟩ := hw
    exact ⟨hclk, hport, hup, by simp [txFree, hbusy, hfill, hretune], hqueue, hchan, hsub, hfab, hcredit, hown⟩
  have hgone : ∀ (L : Fin 1024) (sub : Nat) (f : Frame) (fs : List Frame) (s u : State), HeadWaits s L sub f fs → TmWork s u →
      let t := startFrame u L f.chan sub f
      gone s L sub f fs t ∧ t = { s with ports := t.ports, core := t.core, tm := t.tm, out := t.out } := by
    intro L sub f fs s u hw hu
    obtain ⟨hbusy, hqueue, hsent, hend, hout, hregs, hrest⟩ := startFrame_starts hu L f.chan sub hw.jlp
    refine ⟨⟨hbusy, hqueue.trans ?_, hsent, hend, hout.trans (startedOut_eq s L hw.jlp), hregs⟩, hrest⟩
    simp [hw.queue, tget]
  refine ⟨fun L sub f fs s hw hbasic => ?_,
    fun L sub f fs s hw hmode hlist hpend hlen hstrict hweight hport hserv hsubs => ?_, fun L f s hclk hbusy hdue hchan => ?_⟩
  · obtain ⟨hclk, hhead⟩ := hwaits L sub f fs s hw
    refine ⟨_, liveClocked_of_clocked hclk fun s => frameTxStart s L, ?_⟩
    rw [frameTxStart_of_basic hhead hbasic]
    exact hgone L sub f fs s s hhead (TmWork.refl s)
  · obtain ⟨hclk, hhead⟩ := hwaits L sub f fs s hw
    refine ⟨_, liveClocked_of_clocked hclk fun s => frameTxStart s L, ?_⟩
    obtain ⟨u, hu, heq⟩ := frameTxStart_of_strict hhead hmode hlist hpend hlen hstrict hweight hport hserv hsubs
    rw [heq]
    exact hgone L sub f fs s u hhead hu
  · refine ⟨_, liveClocked_of_clocked hclk fun s => frameTxEnd s L, ?_⟩
    obtain ⟨hframes, hbytes, hregs, honly⟩ := frameTxEnd_frame L.isLt hbusy hdue hchan
    generalize frameTxEnd s L = t at *
    unfold regsOnly at honly
    have hports : (port t L).txBusy = none := by
      rw [port, show t.ports = (txFreed s L f).ports by rw [honly]]
      exact (congrArg PortSt.txBusy (port_setPort_same s L fun p => { p with txBusy := none }) :)
    have hcore : t.core = (txFreed s L f).core := by rw [honly]
    refine ⟨hports, hframes, hbytes, ?_, hregs, ?_⟩
    · rw [hcore]
      exact tget_tset_same _ _ _ _
    · rw [honly]
      rfl

end Sys2Proof.Machine
end

section
/-! SUPPORT. Frames received: the receive checks, what passes stages 2 to 7 of Table 6.1, and what storing a frame leaves (R116,
R137 to R141). -/

namespace Sys2Proof.Machine

open Claim

/-! A failed receive check (R116). -/

theorem rxFail_signals (s : State) (L row off : Nat) : Signals (bump s off) (rxFail s L row off) :=
  eventLim_signals _ _ _ (by decide) _ _ _ _ _

/-- A failed check is counted; beyond that it only signals. -/
theorem rxFail_frame (s : State) {L off : Nat} (hoff : signalReg off = false) (row : Nat) {t : State}
    (ht : rxFail s L row off = t) :
    getReg t off = getReg s off + 1 ∧ regsQuiet (fun o => o == off) s t ∧ signalsOnly s t := by
  obtain ⟨honly, hregs, -⟩ := rxFail_signals s L row off
  rw [ht] at honly hregs
  refine ⟨?_, fun o hown hsig => ?_, ?_⟩
  · rw [hregs _ hoff, getReg_bump, if_pos rfl]
  · rw [hregs _ hsig, getReg_bump, if_neg (beq_eq_false_iff_ne.1 hown)]
  · unfold signalsOnly at *
    rw [honly]
    rfl

/-! Counters of a frame received (R444). -/

/-- Is it one of the counters of a frame received on a port and channel? -/
def rxCountReg (L c o : Nat) : Bool :=
  o == PRT_RX_FRAMES L || o == PRT_RX_BYTES L || o == PRT_CHF_RX L c || o == PRT_CHB_RX L c || o == PRT_RX_MCAST L

/-- No register of a port's page below its counters of traffic is one. -/
theorem rxCountReg_page {L c : Nat} (hc : c < 16) (E : Nat) {o : Nat} (ho : o < 0x600) : rxCountReg L c (portPage E + o) = false := by
  unfold rxCountReg PRT_RX_FRAMES PRT_RX_BYTES PRT_CHF_RX PRT_CHB_RX PRT_RX_MCAST portPage
  simp only [Bool.or_eq_false_iff, beq_eq_false_iff_ne]
  omega

/-- Nor is one outside the port pages. -/
theorem rxCountReg_outside {L c : Nat} (hL : L < 1024) (hc : c < 16) {o : Nat} (ho : o < 0x1000000 ∨ 0x1400000 ≤ o) :
    rxCountReg L c o = false := by
  unfold rxCountReg PRT_RX_FRAMES PRT_RX_BYTES PRT_CHF_RX PRT_CHB_RX PRT_RX_MCAST portPage
  simp only [Bool.or_eq_false_iff, beq_eq_false_iff_ne]
  omega

theorem trafficReg_of_rx {L c : Nat} (hL : L < 1024) (hc : c < 16) {o : Nat} (h : rxCountReg L c o = true) :
    trafficReg L o = true := by
  have hpage : ∃ k < 0x1000, o = portPage L + k := by
    simp only [rxCountReg, Bool.or_eq_true, beq_iff_eq] at h
    rcases h with (((h | h) | h) | h) | h
    · exact ⟨0x600, by decide, h⟩
    · exact ⟨0x608, by decide, h⟩
    · exact ⟨0x700 + 8 * c, by omega, h.trans (Nat.add_assoc _ _ _)⟩
    · exact ⟨0x780 + 8 * c, by omega, h.trans (Nat.add_assoc _ _ _)⟩
    · exact ⟨0x620, by decide, h⟩
  obtain ⟨k, hk, rfl⟩ := hpage
  exact trafficReg_page hL hk

theorem countRx_eq (s : State) (f : Frame) (mc : Bool) :
    countRx s f mc =
      let u := countedTwice s (PRT_RX_FRAMES f.ingress) (PRT_RX_BYTES f.ingress) (PRT_CHF_RX f.ingress f.chan)
        (PRT_CHB_RX f.ingress f.chan) (frameLen f)
      if mc then bump u (PRT_RX_MCAST f.ingress) else u := rfl

/-- A frame received is counted, with its bytes, and nothing else of the module changes. -/
theorem countRx_frame (s : State) {f : Frame} (hc : f.chan < 16) (mc : Bool) :
    getReg (countRx s f mc) (PRT_RX_FRAMES f.ingress) = getReg s (PRT_RX_FRAMES f.ingress) + 1 ∧
      getReg (countRx s f mc) (PRT_RX_BYTES f.ingress) = getReg s (PRT_RX_BYTES f.ingress) + BitVec.ofNat 64 (frameLen f) ∧
      OnlyRegs (rxCountReg f.ingress f.chan) s (countRx s f mc) := by
  obtain ⟨hframes, hbytes, hregs⟩ := countedTwice_frame s (a := PRT_RX_FRAMES f.ingress) (b := PRT_RX_BYTES f.ingress)
    (c := PRT_CHF_RX f.ingress f.chan) (d := PRT_CHB_RX f.ingress f.chan) (frameLen f)
    (by unfold PRT_RX_FRAMES PRT_RX_BYTES; omega) (by unfold PRT_RX_FRAMES PRT_CHF_RX; omega)
    (by unfold PRT_RX_FRAMES PRT_CHB_RX; omega) (by unfold PRT_RX_BYTES PRT_CHF_RX; omega)
    (by unfold PRT_RX_BYTES PRT_CHB_RX; omega)
  have hown := hregs (rxCountReg f.ingress f.chan) (by simp [rxCountReg]) (by simp [rxCountReg]) (by simp [rxCountReg])
    (by simp [rxCountReg])
  have honly := countedTwice_regsOnly s (PRT_RX_FRAMES f.ingress) (PRT_RX_BYTES f.ingress) (PRT_CHF_RX f.ingress f.chan)
    (PRT_CHB_RX f.ingress f.chan) (frameLen f)
  rw [countRx_eq]
  dsimp only
  generalize countedTwice s _ _ _ _ _ = u at *
  cases mc with
  | false => exact ⟨hframes, hbytes, honly, hown⟩
  | true =>
    have hmf : PRT_RX_FRAMES f.ingress ≠ PRT_RX_MCAST f.ingress := by unfold PRT_RX_FRAMES PRT_RX_MCAST; omega
    have hmb : PRT_RX_BYTES f.ingress ≠ PRT_RX_MCAST f.ingress := by unfold PRT_RX_BYTES PRT_RX_MCAST; omega
    refine ⟨?_, ?_, honly.trans (regsOnly_bump u _), hown.trans (regsBut_bump u (by simp [rxCountReg]))⟩
    · rw [if_pos rfl, getReg_bump, if_neg hmf, hframes]
    · rw [if_pos rfl, getReg_bump, if_neg hmb, hbytes]

/-! What has changed when a frame comes to stage 2. -/

/-- From `s` to `v` a frame was counted on a port and channel and given a number; ports and the stamps of learned entries may
have changed beside. -/
structure Received (s v : State) (L c : Nat) : Prop where
  regs : regsBut (rxCountReg L c) s v
  rest : v = { s with regs := v.regs, ports := v.ports, core := { s.core with nextId := v.core.nextId }
                      tbl := { s.tbl with stamps := v.tbl.stamps } }

namespace Received

variable {s v : State} {L c : Nat}

theorem sys_eq (h : Received s v L c) : v.sys = s.sys := by rw [h.rest]

theorem flt_eq (h : Received s v L c) : v.flt = s.flt := by rw [h.rest]

theorem voqs_eq (h : Received s v L c) : v.core.voqs = s.core.voqs := by rw [h.rest]

theorem mc_eq (h : Received s v L c) : v.core.mc = s.core.mc := by rw [h.rest]

theorem egr_eq (h : Received s v L c) : v.core.egr = s.core.egr := by rw [h.rest]

theorem copies_eq (h : Received s v L c) : v.tbl.copies = s.tbl.copies := by rw [h.rest]

/-- A field of a port's page below its counters of traffic is as it was. -/
theorem fget_page (h : Received s v L c) (hc : c < 16) {F : Fld} {E o : Nat} (hF : F.off = portPage E + o) (ho : o < 0x600) :
    fget v F = fget s F :=
  fget_of_getReg_eq (h.regs _ (by rw [hF]; exact rxCountReg_page hc E ho))

/-- So is one outside the port pages. -/
theorem fget_outside (h : Received s v L c) (hL : L < 1024) (hc : c < 16) {F : Fld}
    (ho : F.off < 0x1000000 ∨ 0x1400000 ≤ F.off) : fget v F = fget s F :=
  fget_of_getReg_eq (h.regs _ (rxCountReg_outside hL hc ho))

theorem portState_eq (h : Received s v L c) (hc : c < 16) (E : Nat) : portState v E = portState s E :=
  h.fget_page hc (F := PRT_STATE.STATE E) (E := E) (o := 0) rfl (by decide)

theorem portUnpicking_eq (h : Received s v L c) (hL : L < 1024) (hc : c < 16) (E : Nat) :
    portUnpicking v E = portUnpicking s E := by
  have hctx : ∀ x, ctxState v x = ctxState s x := fun x =>
    h.fget_outside hL hc (F := CTX_STAT.STATE x) (Or.inr (by simp only [CTX_STAT.STATE, CTX_STAT, ctxPage]; omega))
  rw [portUnpicking, portUnpicking, fbit, fbit, hctx,
    h.fget_page hc (F := PRT_OWNER.OWNED E) (E := E) (o := 0x500) rfl (by decide),
    h.fget_page hc (F := PRT_OWNER.CTX E) (E := E) (o := 0x500) rfl (by decide)]

theorem chanLossy_eq (h : Received s v L c) (k : Nat) : chanLossy v k = chanLossy s k := by
  rw [chanLossy, chanLossy, chanWord, chanWord, h.sys_eq]

theorem isPort_eq (h : Received s v L c) (E : Nat) : isPort v E = isPort s E := by
  rw [isPort, isPort, widthOf, widthOf, portMode, portMode, h.sys_eq]

theorem isEth_eq (h : Received s v L c) (E : Nat) : isEth v E = isEth s E := by
  rw [isEth, isEth, portMode, portMode, h.sys_eq]

theorem voq_eq (h : Received s v L c) (k : Nat) : voq v k = voq s k := by rw [voq, voq, h.voqs_eq]

theorem tcopy_eq (h : Received s v L c) (d t : Nat) : tcopy v d t = tcopy s d t := by rw [tcopy, tcopy, h.copies_eq]

theorem cellsFree_eq (h : Received s v L c) (d : Nat) : cellsFree v d = cellsFree s d := by
  have hused : cellsUsed v d false = cellsUsed s d false := by
    simp only [cellsUsed, mcCells, h.voqs_eq, h.mc_eq, Bool.not_false, Bool.true_or, Bool.and_true]
  rw [cellsFree, cellsFree, hused, voqCells, voqCells, h.sys_eq]

end Received

/-! What a frame meets on its way to a port. -/

/-- A frame of B bytes from port L on channel c for port E meets nothing in a module in WOVEN: L is UP and nobody's, no meter is on,
E is UP, the channel lossless, and its ingress die has room. -/
structure WayFree (s : State) (L E c B : Nat) : Prop where
  woven : s.mode = mWOVEN
  up : portState s L = pUP
  unfenced : portFenced s L = false
  unowned : fbit s (PRT_OWNER.OWNED L) = false
  unmetered : fbit s (PRT_TMCLS.MTR_EN L c) = false
  names : isPort s E = true
  upE : portState s E = pUP
  ownE : portUnpicking s E = false
  lossless : chanLossy s c = false
  room : newCells (voq s (voqKey (swOf L) E c)) B ≤ cellsFree s (swOf L)

/-- A frame's being counted puts nothing in its way. -/
theorem WayFree.received {s v : State} {L E c B : Nat} (h : WayFree s L E c B) (hv : Received s v L c) (hL : L < 1024)
    (hc : c < 16) : WayFree v L E c B where
  woven := (hv.fget_outside hL hc (F := PRK_STATUS.STATE) (Or.inl (by decide))).trans h.woven
  up := (hv.portState_eq hc L).trans h.up
  unfenced := (congrArg (· == 1) (hv.fget_page hc (F := PRT_STATE.FENCE L) (E := L) (o := 0) rfl (by decide))).trans h.unfenced
  unowned := (congrArg (· == 1) (hv.fget_page hc (F := PRT_OWNER.OWNED L) (E := L) (o := 0x500) rfl (by decide))).trans h.unowned
  unmetered := (congrArg (· == 1) (hv.fget_page hc (F := PRT_TMCLS.MTR_EN L c) (E := L) (o := 0x300 + 8 * c)
    (Nat.add_assoc _ _ _) (by omega))).trans h.unmetered
  names := (hv.isPort_eq E).trans h.names
  upE := (hv.portState_eq hc E).trans h.upE
  ownE := (hv.portUnpicking_eq hL hc E).trans h.ownE
  lossless := (hv.chanLossy_eq c).trans h.lossless
  room := by rw [hv.voq_eq, hv.cellsFree_eq]; exact h.room

/-- Stages 2 and 3 let it pass, where the chip checks do. -/
theorem stages23_of_wayFree {s : State} {f : Frame} {E : Nat} (h : WayFree s f.ingress E f.chan (frameLen f))
    (hchips : f.eth = true ∨ chipChecks s f = (s, true)) : stages23 s f = (s, true) := by
  have hchecks : (if f.eth then (s, true) else chipChecks s f) = (s, true) := by
    rcases hchips with h | h
    · rw [h, if_pos rfl]
    · rw [h, ite_self]
  have howner : ownerCheck s f = (s, true) := by
    rw [ownerCheck]
    exact if_pos (by rw [h.unowned]; rfl)
  rw [stages23, h.unfenced, h.up, if_neg (by decide), if_neg (by simp [pUP, pQUARANTINE]), hchecks]
  exact howner

theorem asBasic_of_woven {s : State} (h : s.mode = mWOVEN) : s.asBasic = false := by
  simp [State.asBasic, h, mBASIC, mWEAVING, mMAINT, mDRAINING, mWOVEN]

theorem asWoven_of_woven {s : State} (h : s.mode = mWOVEN) : s.asWoven = true := by simp [State.asWoven, h]

/-- Stages 2 to 5 of a JLP frame whose chip passes and whose entry names a port. -/
theorem ingress_of_fabric {s : State} {f : Frame} {E : Nat} (h : WayFree s f.ingress E f.chan (frameLen f)) (hfab : f.eth = false)
    (hchips : chipChecks s f = (s, true)) (hlook : lookFabric s f.idie f = (s, .port E none)) :
    ingress s f = stages678 s { f with dec := E, rw := none } := by
  rw [ingress, if_neg (by simp [h.woven, mWOVEN, mBOOT]), if_neg (by simp [asWoven_of_woven h.woven]),
    if_neg (by simp [h.lossless]), stages23_of_wayFree h (Or.inr hchips)]
  simp only [hfab, hlook, decided, Bool.false_eq_true, if_false]

/-- The same of an Ethernet frame, after learning. -/
theorem ingress_of_eth {s : State} {f : Frame} {E : Nat} (h : WayFree s f.ingress E f.chan (frameLen f)) (heth : f.eth = true)
    (hlook : lookEth (ethLearn s f) f.idie f = (ethLearn s f, .port E none)) :
    ingress s f = stages678 (ethLearn s f) { f with dec := E, rw := none } := by
  rw [ingress, if_neg (by simp [h.woven, mWOVEN, mBOOT]), if_neg (by simp [asWoven_of_woven h.woven]),
    if_neg (by simp [h.lossless]), stages23_of_wayFree h (Or.inl heth)]
  simp only [heth, hlook, decided, if_true]

/-! Storing (R139 to R141). -/

/-- A queue with a frame stored at its tail. -/
def storedVoq (f : Frame) (q : Voq) : Voq :=
  let q := if q.tail ≤ q.head then { q with head := ceilDiv q.tail 256 * 256, tail := ceilDiv q.tail 256 * 256 } else q
  { q with tail := q.tail + (if f.bob.isSome then 0 else frameLen f), ents := q.ents ++ [.frame f] }

theorem ents_storedVoq (f : Frame) (q : Voq) : (storedVoq f q).ents = q.ents ++ [.frame f] := by
  unfold storedVoq
  dsimp only
  split <;> rfl

theorem enqueue_unicast {s : State} {f : Frame} (hf : f.dec ≠ 2048) (k : Nat) :
    enqueue s k f = setCore (setVoq s k (storedVoq f)) fun c => { c with charge := tmod 0 c.charge f.ingress (· + unitsOf (frameLen f)) } := by
  rw [enqueue, mcStore, if_neg (by simpa using hf)]
  rfl

/-- The module with a frame stored at the tail of a queue and counted for its context. -/
def frameStored (s : State) (k : Nat) (f : Frame) : State :=
  ctxBump (ctxBump (enqueue s k f) (frameCtx (enqueue s k f) f) 0 1) (frameCtx (enqueue s k f) f) 1 (frameLen f)

/-- What storing a unicast frame leaves. -/
theorem frameStored_frame (s : State) (k : Nat) {f : Frame} (hf : f.dec ≠ 2048) {t : State} (ht : frameStored s k f = t) :
    (voq t k).ents = (voq s k).ents ++ [.frame f] ∧ (∀ k', k' ≠ k → voq t k' = voq s k') ∧ t.core.egr = s.core.egr ∧
      regsBut inCtxCount s t ∧ t = { s with regs := t.regs, core := t.core } := by
  have hregs : regsBut inCtxCount (enqueue s k f) t := by
    rw [← ht]
    exact ctxBump_two_regsBut _ _ _ _ _ (by decide) (by decide)
  have honly : regsOnly (enqueue s k f) t := by
    rw [← ht]
    exact (ctxBump_regsOnly _ _ _ _).trans (ctxBump_regsOnly _ _ _ _)
  rw [enqueue_unicast hf] at hregs honly
  unfold regsOnly at honly
  have hcore : t.core = { (setVoq s k (storedVoq f)).core with
      charge := tmod 0 s.core.charge f.ingress (· + unitsOf (frameLen f)) } := by rw [honly]; rfl
  have hvoq : ∀ k', voq t k' = if k' = k then storedVoq f (voq s k) else voq s k' := by
    intro k'
    rw [voq, hcore]
    exact tget_tset _ _ _ _ _
  refine ⟨?_, fun k' hk => ?_, ?_, fun o ho => hregs o ho, ?_⟩
  · rw [hvoq, if_pos rfl, ents_storedVoq]
  · rw [hvoq, if_neg hk]
  · rw [hcore]
    rfl
  · rw [honly]
    rfl

/-- A frame decided for a port that it may leave by, with a free way, is stored at the tail of its queue with its subscriber. -/
theorem stages678_of_wayFree {s : State} {f : Frame} {E : Nat} (h : WayFree s f.ingress E f.chan (frameLen f))
    (hL : f.ingress < 1024) (hE : E < 1024) (hdie : f.idie = swOf f.ingress) (hkind : isEth s E = f.eth)
    (hplain : f.eth = true ∨ hUnord f.hdr = false ∧ hEnc f.hdr = false) :
    stages678 s { f with dec := E, rw := none } =
      frameStored s (voqKey (swOf f.ingress) E f.chan)
        { f with dec := E, rw := none, sub := fget s (PRT_TMCLS.SUB f.ingress f.chan) } := by
  generalize hg : ({ f with dec := E, rw := none, sub := fget s (PRT_TMCLS.SUB f.ingress f.chan) } : Frame) = g
  have hpolice : police s { f with dec := E, rw := none } = (s, some g) := by
    rw [police, if_neg (by dsimp only; omega)]
    dsimp only
    rw [h.unmetered, if_pos (by decide), hg]
  have hdec : g.dec = E := by rw [← hg]
  have hchan : g.chan = f.chan := by rw [← hg]
  have hidie : g.idie = swOf f.ingress := by rw [← hg]; exact hdie
  have heth : g.eth = f.eth := by rw [← hg]
  have hlen : frameLen g = frameLen f := by rw [← hg]; rfl
  have hver : (!f.eth && (hUnord g.hdr && decide (fget s (PRT_JLP.VER E) < 2) ||
      hEnc g.hdr && decide (fget s (PRT_JLP.VER E) < 3))) = false := by
    rw [show g.hdr = f.hdr by rw [← hg]]
    rcases hplain with heth | ⟨hunord, henc⟩
    · rw [heth]; rfl
    · rw [hunord, henc]; simp
  have hkey : voqFor g = voqKey (swOf f.ingress) E f.chan := by
    rw [voqFor, hdec, hchan, hidie, if_neg (by simp; omega)]
  have hegress : egressState s g = admitFrame s g := by
    rw [egressState, hdec, if_pos hE]
    dsimp only
    rw [h.upE, if_neg (by simp), if_neg (by simp [pUP, pQUARANTINE]), hkind, heth, unpickShut, h.ownE, if_neg (by simp), hver,
      if_neg (by simp), if_neg (by simp)]
  have hroom : pushOut (newCells (voq s (voqFor g)) (frameLen g)) g.idie (s.core.voqs.length + 1) s = s := by
    rw [pushOut, hkey, hlen, hidie, if_pos h.room]
  rw [stages678, hpolice]
  dsimp only
  rw [hegress, admitFrame]
  dsimp only
  rw [hchan, h.lossless, if_neg (by decide), hroom, hkey]
  rfl

/-- A frame stored last at the tail of a queue. -/
theorem lastFrame_of_ents {t : State} {k : Nat} {q : List QEnt} {f : Frame} (h : (voq t k).ents = q ++ [QEnt.frame f]) :
    (voq t k).ents.dropLast = q ∧ lastFrame t k = some f := by
  refine ⟨by rw [h, List.dropLast_concat], ?_⟩
  rw [lastFrame, h, List.getLast?_concat]

/-- What is left when a received frame has been stored in the queue of its output. -/
theorem stored_frame {s v : State} {L c : Nat} (hL : L < 1024) (hc : c < 16) (hv : Received s v L c) (k : Nat) {f : Frame}
    (hf : f.dec ≠ 2048) {t : State} (ht : frameStored v k f = t) :
    ((voq t k).ents.dropLast = (voq s k).ents ∧ lastFrame t k = some f) ∧ (∀ k', k' ≠ k → voq t k' = voq s k') ∧
      t.core.egr = s.core.egr ∧ (∀ o < 0x1000, getReg t (portPage L + o) = getReg v (portPage L + o)) ∧
      regsBut (trafficReg L) s t ∧ t = { v with regs := t.regs, core := t.core } := by
  obtain ⟨hents, hothers, hegr, hregs, hrest⟩ := frameStored_frame v k hf ht
  rw [hv.voq_eq] at hents
  refine ⟨lastFrame_of_ents hents, fun k' hk => (hothers k' hk).trans (hv.voq_eq k'), hegr.trans hv.egr_eq,
    fun o ho => hregs _ (inCtxCount_portPage hL ho), ?_, hrest⟩
  exact (regsBut.mono hv.regs fun _ => trafficReg_of_rx hL hc).trans (regsBut.mono hregs fun _ => trafficReg_of_ctx)

end Sys2Proof.Machine
end

section
/-! SUPPORT. Frames received on a fabric port (R116, R117, R120, R137, R166). -/

namespace Sys2Proof.Machine

open Claim

/-- Is it a lit working fabric port that is not discarding, on a die that is UP? -/
structure FabricOpen (s : State) (L : Nat) : Prop where
  named : isPort s L = true
  fabric : isEth s L = false
  die : dieUp s (swOf L) = true
  lit : fibreDark s (L / 8) = false
  works : linkWorks s L = true
  taking : (port s L).resync = false

/-- Such a port takes what comes. -/
theorem FabricOpen.takes {s : State} {L : Nat} (h : FabricOpen s L) :
    ¬ (!isPort s L || isEth s L || !laneLive s L || fibreDark s (L / 8) || !linkWorks s L || (port s L).resync) = true := by
  simp [laneLive, h.named, h.fabric, h.die, h.lit, h.works, h.taking]

/-- A frame as it comes off a fabric port. -/
def rxFrame (s : State) (L : Nat) (h : BitVec 256) (b : List Byte) : Frame :=
  { id := s.core.nextId, hdr := h, body := b, ingress := L, idie := swOf L, chan := hChan h, rxTs := s.tb / 2 ^ 16,
    epoch := curEpoch s, trainGen := (port s L).trainGen }

/-- The module with a frame numbered and its units counted against the sender's credits. -/
def rxHeld (s : State) (L : Nat) (h : BitVec 256) (b : List Byte) : State :=
  setPort (newId s).2 L fun p => { p with held := tmod 0 p.held (hChan h) (· + unitsOf (32 + b.length)) }

theorem port_rxHeld (s : State) (L : Nat) (h : BitVec 256) (b : List Byte) :
    port (rxHeld s L h b) L =
      { port s L with held := tmod 0 (port s L).held (hChan h) (· + unitsOf (32 + b.length)) } := port_setPort_same _ _ _

theorem frameRx_badHeader {s : State} {L : Nat} (hopen : FabricOpen s L) {h : BitVec 256} (hbad : hf h 3 0 16 ≠ hcrcOf h)
    (b : List Byte) :
    frameRx s L h b false false = rxFail (setPort s L fun p => { p with resync := true }) L 1 (PRT_RX_HDR L) := by
  rw [frameRx, if_neg hopen.takes, if_pos (bne_iff_ne.2 hbad)]

section
variable {s : State} {L : Nat} (hopen : FabricOpen s L) {h : BitVec 256} (hhdr : hf h 3 0 16 = hcrcOf h) {b : List Byte}
  (hlen : hLen h = b.length) (hshort : b.length ≤ 8192)
include hopen hhdr hlen hshort

theorem frameRx_badCrc (hbad : hf h 3 32 32 ≠ frameCrc h b) :
    frameRx s L h b false false = creditReturn (rxFail (rxHeld s L h b) L 3 (PRT_RX_CRC L)) (rxFrame s L h b) := by
  rw [frameRx, if_neg hopen.takes, if_neg (by simp [hhdr]), if_neg (by omega), hlen, fit_length]
  simp only [Bool.false_or, bne_iff_ne.2 hbad, if_true, Bool.false_eq_true, if_false]
  rfl

theorem frameRx_good (hcrc : hf h 3 32 32 = frameCrc h b)
    (hcredit : overCredit (port s L) (hChan h) (unitsOf (32 + b.length)) = false) (hfields : fieldBad s L h = false) :
    frameRx s L h b false false =
      Machine.ingress (countRx (rxHeld s L h b) (rxFrame s L h b) (hMcast h)) (rxFrame s L h b) := by
  have hcredit' : overCredit (port (newId s).2 L) (hChan h) (unitsOf (32 + b.length)) = false := hcredit
  have hfields' : fieldBad (rxHeld s L h b) L h = false := hfields
  rw [frameRx, if_neg hopen.takes, if_neg (by simp [hhdr]), if_neg (by omega), hlen, fit_length]
  unfold rxHeld at hfields'
  simp only [Bool.false_or, hcrc, bne_self_eq_false, hcredit', hfields', Bool.false_eq_true, if_false]
  rfl

end

theorem ports_of_signalsOnly {s t : State} (h : signalsOnly s t) : t.ports = s.ports := by
  unfold signalsOnly at h
  rw [h]

theorem core_of_signalsOnly {s t : State} (h : signalsOnly s t) : t.core = s.core := by
  unfold signalsOnly at h
  rw [h]

/-- A port with a frame's units returned. -/
def unitsReturned (f : Frame) (p : PortSt) : PortSt :=
  { p with held := tmod 0 p.held f.chan (· - unitsOf (frameLen f)),
           returned := tmod 0 p.returned f.chan fun r => (r + unitsOf (frameLen f)) % 2 ^ 24,
           retDirty := p.retDirty ||| (1 <<< (f.chan / 8)) }

theorem creditReturn_fabric {t : State} {f : Frame} (hL : f.ingress < 1024) (hfab : f.eth = false)
    (hgen : f.trainGen = (port t f.ingress).trainGen) : creditReturn t f = setPort t f.ingress (unitsReturned f) := by
  rw [creditReturn, if_neg (Nat.not_le.2 hL), if_neg (by simp [hgen]), if_neg (by simp [hfab])]
  rfl

/-- A frame whose units were counted has them back: its channel holds what it held before. -/
theorem creditReturn_rxHeld {s t : State} {L : Nat} (hL : L < 1024) {h : BitVec 256} {b : List Byte} (hlen : hLen h = b.length)
    (ht : t.ports = (rxHeld s L h b).ports) {u : State} (hu : creditReturn t (rxFrame s L h b) = u) :
    tget 0 (port u L).returned (hChan h) = (tget 0 (port s L).returned (hChan h) + unitsOf (32 + b.length)) % 2 ^ 24 ∧
      tget 0 (port u L).held (hChan h) = tget 0 (port s L).held (hChan h) ∧ u.regs = t.regs ∧ u.core = t.core := by
  have hport : port t L = port (rxHeld s L h b) L := by rw [port, port, ht]
  have hunits : frameLen (rxFrame s L h b) = 32 + b.length := by rw [← hlen]; rfl
  rw [creditReturn_fabric hL rfl (by rw [show (rxFrame s L h b).ingress = L from rfl, hport, port_rxHeld]; rfl)] at hu
  have hafter : port u L = unitsReturned (rxFrame s L h b) (port (rxHeld s L h b) L) := by
    rw [← hu, ← hport]
    exact port_setPort_same _ _ _
  rw [hafter, port_rxHeld, unitsReturned, hunits]
  refine ⟨tget_tset_same _ _ _ _, ?_, by rw [← hu]; rfl, by rw [← hu]; rfl⟩
  simp only [rxFrame, tmod, tget_tset_same, Nat.add_sub_cancel]

/-- The endpoint entry of a unicast header names port E, and no chip record of its ends is in its way. -/
structure Addressed (s : State) (L E : Nat) (h : BitVec 256) : Prop where
  sender : (tget {} s.flt.chips (hSrc h)).fenced = false
  unchecked : (tget {} s.flt.chips (hSrc h)).check = false
  receiver : (tget {} s.flt.chips (hDst h)).fenced = false
  unicast : hMcast h = false
  noSelf : fbit s TBL_SELF.VALID = false
  entry : ∃ e, direct s (swOf L) 4 (hDst h) = some e ∧ eAction e = 0 ∧ eTarget e = E

/-- A frame's being counted changes no address. -/
theorem Addressed.received {s v : State} {L E c : Nat} {h : BitVec 256} (ha : Addressed s L E h) (hv : Received s v L c)
    (hL : L < 1024) (hc : c < 16) : Addressed v L E h where
  sender := by rw [hv.flt_eq]; exact ha.sender
  unchecked := by rw [hv.flt_eq]; exact ha.unchecked
  receiver := by rw [hv.flt_eq]; exact ha.receiver
  unicast := ha.unicast
  noSelf := (congrArg (· == 1) (hv.fget_outside hL hc (F := TBL_SELF.VALID) (Or.inl (by decide)))).trans ha.noSelf
  entry := by rw [direct, entryAt, hv.tcopy_eq]; exact ha.entry

/-- It is looked up to that port (Table 7.1). -/
theorem Addressed.lookFabric_eq {s : State} {L E : Nat} {f : Frame} (ha : Addressed s L E f.hdr) (hE : E < 1024)
    (hport : isPort s E = true) : lookFabric s (swOf L) f = (s, .port E none) := by
  obtain ⟨e, hentry, hact, htgt⟩ := ha.entry
  rw [lookFabric, if_neg (by simp [ha.unicast]), if_neg (by simp [ha.noSelf])]
  simp only [hentry, hact, lookPort, htgt, hport, hE, decide_true, Bool.and_self, if_true]

/-- It passes the chip checks. -/
theorem Addressed.chipChecks_eq {s : State} {L E : Nat} {f : Frame} (ha : Addressed s L E f.hdr) : chipChecks s f = (s, true) := by
  rw [chipChecks]
  simp only [ha.sender, ha.unchecked, ha.receiver, Bool.and_false, Bool.false_and, Bool.false_eq_true, if_false]

theorem hChan_lt (h : BitVec 256) : hChan h < 16 := bits_lt _ _ _

/-- A frame counted and numbered has been received. -/
theorem received_rxFrame (s : State) (L : Nat) (h : BitVec 256) (b : List Byte) :
    Received s (countRx (rxHeld s L h b) (rxFrame s L h b) (hMcast h)) L (hChan h) := by
  obtain ⟨-, -, honly, hregs⟩ := countRx_frame (rxHeld s L h b) (f := rxFrame s L h b) (hChan_lt h) (hMcast h)
  refine ⟨hregs, ?_⟩
  unfold regsOnly at honly
  rw [honly]
  rfl

/-- A frame received on a fabric port that has a free way to where it is addressed is stored. -/
theorem ingress_rxFrame {s v : State} {L E : Nat} (hL : L < 1024) (hE : E < 1024) {h : BitVec 256} {b : List Byte}
    (hlen : hLen h = b.length) (hway : WayFree s L E (hChan h) (32 + b.length)) (haddr : Addressed s L E h)
    (hfab : isEth s E = false) (hunord : hUnord h = false) (henc : hEnc h = false) (hv : Received s v L (hChan h)) :
    Machine.ingress v (rxFrame s L h b) =
      frameStored v (voqKey (swOf L) E (hChan h))
        { rxFrame s L h b with dec := E, rw := none, sub := fget v (PRT_TMCLS.SUB L (hChan h)) } := by
  have hbytes : frameLen (rxFrame s L h b) = 32 + b.length := by rw [← hlen]; rfl
  have hw : WayFree v L E (hChan h) (frameLen (rxFrame s L h b)) := hbytes ▸ hway.received hv hL (hChan_lt h)
  have ha : Addressed v L E (rxFrame s L h b).hdr := haddr.received hv hL (hChan_lt h)
  rw [ingress_of_fabric (E := E) hw rfl ha.chipChecks_eq (ha.lookFabric_eq hE hw.names)]
  exact stages678_of_wayFree (f := rxFrame s L h b) hw hL hE rfl ((hv.isEth_eq E).trans hfab) (Or.inr ⟨hunord, henc⟩)

/-- Settles O25: a failed check counts and signals; a good frame is followed through the stages of Table 6.1, each of which lets
it pass, to its queue. -/
theorem fabricReceive : Obligations.FabricReceive := by
  unfold Obligations.FabricReceive
  intro open_ clear
  have hopens : ∀ (s : State) (L : Nat), open_ s L → FabricOpen s L := fun s L ⟨_, hname, hfab, hdie, hlit, hworks, htaking⟩ =>
    ⟨hname, hfab, hdie, hlit, hworks, htaking⟩
  refine ⟨fun L h b s hop hbad => ?_, fun L h b s hop hhdr hlen hshort hbad => ?_, ?_⟩
  · refine ⟨_, liveClocked_of_clocked hop.1 fun s => frameRx s L h b false false, ?_⟩
    rw [frameRx_badHeader (hopens s L hop) hbad]
    have hsig : signalReg (PRT_RX_HDR L) = false := signalReg_page L.isLt (c := 0x108) (by decide)
    generalize ht : rxFail _ L 1 (PRT_RX_HDR L) = t
    obtain ⟨hcount, hregs, honly⟩ := rxFail_frame _ hsig 1 ht
    have hports : t.ports = (setPort s L fun p => { p with resync := true }).ports := ports_of_signalsOnly honly
    have hport : port t L = { port s L with resync := true } := by
      rw [port, hports]
      exact port_setPort_same _ _ _
    refine ⟨hcount, ?_, ?_, hregs, ?_⟩
    · rw [hport]
    · rw [hport]
    · rw [hports]
      exact honly
  · refine ⟨_, liveClocked_of_clocked hop.1 fun s => frameRx s L h b false false, ?_⟩
    rw [frameRx_badCrc (hopens s L hop) hhdr hlen hshort hbad]
    have hsig : signalReg (PRT_RX_CRC L) = false := signalReg_page L.isLt (c := 0x100) (by decide)
    generalize ht : rxFail _ L 3 (PRT_RX_CRC L) = t
    obtain ⟨hcount, hregs, honly⟩ := rxFail_frame _ hsig 3 ht
    generalize hu : creditReturn t (rxFrame s L h b) = u
    obtain ⟨hreturned, hheld, hregs', hcore⟩ := creditReturn_rxHeld L.isLt hlen (ports_of_signalsOnly honly) hu
    refine ⟨?_, hreturned, hheld, ?_, fun o hown hsig => ?_⟩
    · rw [getReg, hregs']
      exact hcount
    · rw [hcore, core_of_signalsOnly honly]
      rfl
    · rw [getReg, hregs']
      exact hregs o hown hsig
  · intro L E h b e s hop hwoven hhdr hlen hshort hcrc hcredit hfields hclear hsrc hcheck hdst hmc hunord henc hself hentry hact
      htgt hmtr hname hfab hup hown hlossless hroom
    refine ⟨_, liveClocked_of_clocked hop.1 fun s => frameRx s L h b false false, ?_⟩
    obtain ⟨hupL, hfence, howned⟩ := hclear
    have hway : WayFree s L E (hChan h) (32 + b.length) :=
      ⟨hwoven, hupL, hfence, howned, hmtr, hname, hup, hown, hlossless, hroom⟩
    have haddr : Addressed s L E h := ⟨hsrc, hcheck, hdst, hmc, hself, e, hentry, hact, htgt⟩
    have hv := received_rxFrame s L h b
    obtain ⟨hframes, hbytes, hcount, -⟩ := countRx_frame (rxHeld s L h b) (f := rxFrame s L h b) (hChan_lt h) (hMcast h)
    rw [frameRx_good (hopens s L hop) hhdr hlen hshort hcrc hcredit hfields,
      ingress_rxFrame L.isLt E.isLt hlen hway haddr hfab hunord henc hv]
    unfold regsOnly at hcount
    generalize countRx _ _ _ = v at *
    generalize ht : frameStored _ _ _ = t
    obtain ⟨⟨hents, hlast⟩, hothers, hegr, hpage, hregs, hrest⟩ := stored_frame L.isLt (hChan_lt h) hv _
      (by simp only; omega) ht
    refine ⟨hents, by rw [hlast]; rfl, hothers, hegr, ?_, ?_, hregs, ?_⟩
    · exact (hpage 0x600 (by decide)).trans hframes
    · rw [← hlen]
      exact (hpage 0x608 (by decide)).trans hbytes
    · rw [hrest, hcount]
      rfl

end Sys2Proof.Machine
end

section
/-! SUPPORT. Frames received on an Ethernet-mode port (R131 to R133, R137, R178, R179). -/

namespace Sys2Proof.Machine

open Claim

/-- Is it a lit working Ethernet-mode port on a die that is UP? -/
structure EthOpen (s : State) (L : Nat) : Prop where
  named : isPort s L = true
  eth : isEth s L = true
  die : dieUp s (swOf L) = true
  lit : fibreDark s (L / 8) = false
  works : linkWorks s L = true

/-- Such a port takes what comes. -/
theorem EthOpen.takes {s : State} {L : Nat} (h : EthOpen s L) :
    ¬ (!isPort s L || !isEth s L || !laneLive s L || fibreDark s (L / 8) || !linkWorks s L) = true := by
  simp [laneLive, h.named, h.eth, h.die, h.lit, h.works]

theorem ethFrameRx_badSize {s : State} {L : Nat} (hopen : EthOpen s L) {b : List Byte} (hsize : b.length < 64 ∨ 9216 < b.length) :
    ethFrameRx s L b false false = bump s (PRT_ETH_SIZE L) := by
  rw [ethFrameRx, if_neg hopen.takes, if_neg (by decide), if_pos (by simpa using hsize)]

theorem ethFrameRx_badFcs {s : State} {L : Nat} (hopen : EthOpen s L) {b : List Byte} (hmin : 64 ≤ b.length)
    (hmax : b.length ≤ 9216) (hfcs : ethFcsOk b = false) : ethFrameRx s L b false false = bump s (PRT_RX_CRC L) := by
  rw [ethFrameRx, if_neg hopen.takes, if_neg (by decide), if_neg (by simp; omega), if_pos (by simp [hfcs])]

/-- A frame as it comes off an Ethernet-mode port, on the channel its priority maps to. -/
def rxEthFrame (s : State) (L : Nat) (b : List Byte) (c : Nat) : Frame :=
  { id := s.core.nextId, eth := true, body := b, ingress := L, idie := swOf L, chan := c, rxTs := s.tb / 2 ^ 16,
    ptp := fbit s (PRT_PTP.TC_EN L) && ptpEvent b, epoch := curEpoch s, trainGen := (port s L).trainGen }

/-- The module with a frame numbered and its units counted against the port's room. -/
def rxEthHeld (s : State) (L : Nat) (b : List Byte) (c : Nat) : State :=
  setPort (newId s).2 L fun p => { p with ethHeld := tmod 0 p.ethHeld c (· + unitsOf b.length) }

/-- The module with a frame counted, before stage 2. -/
def rxEthCounted (s : State) (L : Nat) (b : List Byte) (c : Nat) : State :=
  countRx (rxEthHeld s L b c) (rxEthFrame s L b c) (macGroup (ethDmac b))

theorem ethFrameRx_good {s : State} {L : Nat} (hopen : EthOpen s L) {b : List Byte} (hmin : 64 ≤ b.length)
    (hmax : b.length ≤ 9216) (hfcs : ethFcsOk b = true) (htag : ethTagged b = false) (hpause : ethType b ≠ 0x8808)
    (hptp : ptpOffset b = none) {c : Nat} (hchan : ethChan s (fget s (PRT_ETH.DEF_PRIO L)) = some c) :
    ethFrameRx s L b false false = pfcScan (Machine.ingress (rxEthCounted s L b c) (rxEthFrame s L b c)) L := by
  have hcapture : capture (rxEthCounted s L b c) (rxEthFrame s L b c) = rxEthCounted s L b c := by
    rw [capture, show (rxEthFrame s L b c).body = b from rfl, hptp]
  rw [ethFrameRx, if_neg hopen.takes, if_neg (by decide), if_neg (by simp; omega), if_neg (by simp [hfcs]),
    if_neg (by simp [hpause]), htag, if_neg (by decide), hchan, ← hcapture]
  rfl

/-- A request channel of an Ethernet priority is one of the first eight. -/
theorem ethChan_lt {s : State} {p c : Nat} (h : ethChan s p = some c) : c < 8 :=
  List.mem_range.1 (List.mem_of_find?_eq_some h)

/-! Learning off (R178, R179). -/

theorem l2Learn_off {s : State} {L : Nat} (h : fbit s (PRT_L3.LEARN L) = false) (vlan mac : Nat) : l2Learn s L vlan mac = s := by
  rw [l2Learn, if_pos (by simp [h])]

theorem l2Refresh_stamps (s : State) (d vlan mac : Nat) :
    l2Refresh s d vlan mac = { s with tbl := { s.tbl with stamps := (l2Refresh s d vlan mac).tbl.stamps } } := by
  unfold l2Refresh
  split
  · split <;> rfl
  · rfl

/-- With learning off a frame sets at most the stamp of a learned entry. -/
theorem ethLearn_stamps {s : State} {f : Frame} (hlearn : fbit s (PRT_L3.LEARN f.ingress) = false) :
    ethLearn s f = { s with tbl := { s.tbl with stamps := (ethLearn s f).tbl.stamps } } := by
  have hoff : ∀ d vlan mac, fbit (l2Refresh s d vlan mac) (PRT_L3.LEARN f.ingress) = false := by
    intro d vlan mac
    rw [l2Refresh_stamps]
    exact hlearn
  unfold ethLearn
  dsimp only
  split
  · rfl
  · rw [l2Learn_off (hoff _ _ _)]
    exact l2Refresh_stamps _ _ _ _

/-- So what was received stays received. -/
theorem Received.learned {s v : State} {L c : Nat} (h : Received s v L c) {f : Frame}
    (hlearn : fbit v (PRT_L3.LEARN f.ingress) = false) : Received s (ethLearn v f) L c := by
  have hstamps := ethLearn_stamps hlearn
  refine ⟨?_, ?_⟩
  · rw [hstamps]
    exact h.regs
  · rw [hstamps, h.rest]

theorem ethVlan_of_untagged {b : List Byte} (htag : ethTagged b = false) (s : State) (L : Nat) :
    ethVlan s L b = fget s (PRT_L3.DEF_VLAN L) := by
  simp [ethVlan, ethTci, htag]

/-- With learning and routing off on port L, the L2 entry of an untagged frame's VLAN and destination MAC names port E. -/
structure Bridged (s : State) (L E : Nat) (b : List Byte) : Prop where
  untagged : ethTagged b = false
  learnOff : fbit s (PRT_L3.LEARN L) = false
  routeOff : fbit s (PRT_L3.ROUTE L) = false
  entry : ∃ i e, findKey (tcopy s (swOf L) 5) (l2Key (fget s (PRT_L3.DEF_VLAN L)) (ethDmac b)) = some (i, e) ∧ eAction e = 0 ∧
    eTarget e = E

/-- A frame's being received changes none of it. -/
theorem Bridged.received {s v : State} {L E c : Nat} {b : List Byte} (hb : Bridged s L E b) (hv : Received s v L c)
    (hc : c < 16) : Bridged v L E b where
  untagged := hb.untagged
  learnOff := (congrArg (· == 1) (hv.fget_page hc (F := PRT_L3.LEARN L) (E := L) (o := 0x200) rfl (by decide))).trans hb.learnOff
  routeOff := (congrArg (· == 1) (hv.fget_page hc (F := PRT_L3.ROUTE L) (E := L) (o := 0x200) rfl (by decide))).trans hb.routeOff
  entry := by
    rw [hv.tcopy_eq, hv.fget_page hc (F := PRT_L3.DEF_VLAN L) (E := L) (o := 0x200) rfl (by decide)]
    exact hb.entry

/-- It is looked up to that port (Table 7.3). -/
theorem Bridged.lookEth_eq {s : State} {L E : Nat} {f : Frame} (hb : Bridged s L E f.body) (hL : f.ingress = L) (hE : E < 1024)
    (hwoven : s.mode = mWOVEN) (hport : isPort s E = true) : lookEth s (swOf L) f = (s, .port E none) := by
  obtain ⟨i, e, hentry, hact, htgt⟩ := hb.entry
  rw [lookEth, hL]
  simp only [hb.untagged, ethVlan_of_untagged hb.untagged, hb.routeOff, asBasic_of_woven hwoven, hentry, hact, lookPort, htgt,
    hport, hE, Bool.and_false, Bool.false_and, Bool.false_eq_true, if_false, decide_true, Bool.and_self, if_true]

/-! PFC sent as the room changes (R133). -/

/-- From `s` to `t` one port's PFC was looked at: neither the switch core nor a table changed, and one counter may have. -/
def PfcLooked (L : Nat) (s t : State) : Prop :=
  t.core = s.core ∧ t.tbl = s.tbl ∧ regsBut (fun o => o == PRT_PFC_TX L) s t

theorem sendPfc_looked (s : State) (L c quanta : Nat) : PfcLooked L s (sendPfc s L c quanta) := by
  have hsent : PfcLooked L s (emit (bump s (PRT_PFC_TX L)) (.pfc L (chanEthPrio s c) quanta)) :=
    ⟨rfl, rfl, regsBut_bump s (by simp)⟩
  unfold sendPfc
  dsimp only
  split
  · exact hsent
  · exact hsent

theorem pfcOne_looked (s : State) (L c : Nat) : PfcLooked L s (pfcOne s L c) := by
  unfold pfcOne
  dsimp only
  split
  · exact ⟨rfl, rfl, regsBut.refl _ _⟩
  · split
    · exact sendPfc_looked (setPort s L _) L c _
    · split
      · exact sendPfc_looked (setPort s L _) L c _
      · exact ⟨rfl, rfl, regsBut.refl _ _⟩

theorem PfcLooked.trans {L : Nat} {s t u : State} (h : PfcLooked L s t) (k : PfcLooked L t u) : PfcLooked L s u :=
  ⟨k.1.trans h.1, k.2.1.trans h.2.1, h.2.2.trans k.2.2⟩

theorem pfcScan_looked (s : State) (L : Nat) : PfcLooked L s (pfcScan s L) := by
  have hsame : PfcLooked L s s := ⟨rfl, rfl, regsBut.refl _ _⟩
  unfold pfcScan
  split
  · exact forRange_keeps (P := PfcLooked L s) (fun t c _ h => h.trans (pfcOne_looked t L c)) hsame
  · exact hsame

/-- A frame counted and numbered has been received. -/
theorem received_rxEthFrame (s : State) (L : Nat) (b : List Byte) {c : Nat} (hc : c < 16) :
    Received s (rxEthCounted s L b c) L c := by
  obtain ⟨-, -, honly, hregs⟩ := countRx_frame (rxEthHeld s L b c) (f := rxEthFrame s L b c) hc (macGroup (ethDmac b))
  refine ⟨hregs, ?_⟩
  unfold regsOnly at honly
  rw [rxEthCounted, honly]
  rfl

/-- A frame received on an Ethernet-mode port that has a free way to where it is bridged is stored, after learning. -/
theorem ingress_rxEthFrame {s v : State} {L E c : Nat} (hL : L < 1024) (hE : E < 1024) (hc : c < 16) {b : List Byte}
    (hway : WayFree s L E c b.length) (hbridged : Bridged s L E b) (heth : isEth s E = true) (hv : Received s v L c) :
    Machine.ingress v (rxEthFrame s L b c) =
      frameStored (ethLearn v (rxEthFrame s L b c)) (voqKey (swOf L) E c)
        { rxEthFrame s L b c with
          dec := E, rw := none, sub := fget (ethLearn v (rxEthFrame s L b c)) (PRT_TMCLS.SUB L c) } := by
  have hlearned : Received s (ethLearn v (rxEthFrame s L b c)) L c := hv.learned (hbridged.received hv hc).learnOff
  have hbytes : frameLen (rxEthFrame s L b c) = b.length := rfl
  have hwv : WayFree v L E c (frameLen (rxEthFrame s L b c)) := hbytes ▸ hway.received hv hL hc
  have hw : WayFree (ethLearn v (rxEthFrame s L b c)) L E c (frameLen (rxEthFrame s L b c)) :=
    hbytes ▸ hway.received hlearned hL hc
  have hb := hbridged.received hlearned hc
  rw [ingress_of_eth (f := rxEthFrame s L b c) (E := E) hwv rfl
    (Bridged.lookEth_eq (f := rxEthFrame s L b c) hb rfl hE hw.woven hw.names)]
  exact stages678_of_wayFree (f := rxEthFrame s L b c) hw hL hE rfl ((hlearned.isEth_eq E).trans heth) (Or.inl rfl)

/-- Settles O26: a frame that fails a check is counted alone; a good one is followed through the stages of Table 6.1 to its queue,
which neither learning nor the look at the port's PFC touches. -/
theorem ethernetReceive : Obligations.EthernetReceive := by
  unfold Obligations.EthernetReceive
  intro open_ clear
  have hopens : ∀ (s : State) (L : Nat), open_ s L → EthOpen s L := fun s L ⟨_, hname, heth, hdie, hlit, hworks⟩ =>
    ⟨hname, heth, hdie, hlit, hworks⟩
  refine ⟨fun L b s hop hsize => ?_, fun L b s hop hmin hmax hfcs => ?_, ?_⟩
  · refine ⟨_, liveClocked_of_clocked hop.1 fun s => ethFrameRx s L b false false, ?_⟩
    rw [ethFrameRx_badSize (hopens s L hop) hsize]
    exact ⟨(getReg_bump _ _ _).trans (if_pos rfl), regsBut_bump s (by simp), regsOnly_bump s _⟩
  · refine ⟨_, liveClocked_of_clocked hop.1 fun s => ethFrameRx s L b false false, ?_⟩
    rw [ethFrameRx_badFcs (hopens s L hop) hmin hmax hfcs]
    exact ⟨(getReg_bump _ _ _).trans (if_pos rfl), regsBut_bump s (by simp), regsOnly_bump s _⟩
  · intro L E c i b e s hop hwoven hmin hmax hfcs htag hpause hptp hchan hclear hlearn hroute hentry hact htgt hmtr hname heth hup
      hown hlossless hroom
    refine ⟨_, liveClocked_of_clocked hop.1 fun s => ethFrameRx s L b false false, ?_⟩
    obtain ⟨hupL, hfence, howned⟩ := hclear
    have hc : c < 16 := Nat.lt_of_lt_of_le (ethChan_lt hchan) (by decide)
    have hway : WayFree s L E c b.length := ⟨hwoven, hupL, hfence, howned, hmtr, hname, hup, hown, hlossless, hroom⟩
    have hbridged : Bridged s L E b := ⟨htag, hlearn, hroute, i, e, hentry, hact, htgt⟩
    have hv := received_rxEthFrame s L b hc
    have hoff := (hbridged.received hv hc).learnOff
    have hw := hv.learned (f := rxEthFrame s L b c) hoff
    have hlearned := congrArg State.regs (ethLearn_stamps (f := rxEthFrame s L b c) hoff)
    obtain ⟨hframes, -⟩ := countRx_frame (rxEthHeld s L b c) (f := rxEthFrame s L b c) hc (macGroup (ethDmac b))
    rw [ethFrameRx_good (hopens s L hop) hmin hmax hfcs htag hpause hptp hchan,
      ingress_rxEthFrame L.isLt E.isLt hc hway hbridged heth hv]
    generalize ht : frameStored _ _ _ = t
    obtain ⟨⟨hents, hlast⟩, hothers, hegr, hpage, -, hrest⟩ := stored_frame L.isLt hc hw _ (by simp only; omega) ht
    obtain ⟨hcore, htbl, hregs⟩ := pfcScan_looked t L
    generalize pfcScan t L = u at hcore htbl hregs
    have hvoq : ∀ k, voq u k = voq t k := fun k => by rw [voq, voq, hcore]
    refine ⟨?_, ?_, fun k' hk => (hvoq k').trans (hothers k' hk), ?_, ?_, ?_⟩
    · rw [hvoq, hents]
    · rw [lastFrame, hvoq]
      exact congrArg _ hlast
    · rw [hcore, hegr]
    · rw [htbl, hrest]
      exact hw.copies_eq
    · have hpfc : PRT_RX_FRAMES L ≠ PRT_PFC_TX L := by unfold PRT_RX_FRAMES PRT_PFC_TX; omega
      calc getReg u (PRT_RX_FRAMES L)
        _ = getReg t (PRT_RX_FRAMES L) := hregs _ (beq_eq_false_iff_ne.2 hpfc)
        _ = getReg (ethLearn (rxEthCounted s L b c) (rxEthFrame s L b c)) (PRT_RX_FRAMES L) := hpage 0x600 (by decide)
        _ = getReg (rxEthCounted s L b c) (PRT_RX_FRAMES L) := by rw [getReg, getReg, hlearned]
        _ = getReg s (PRT_RX_FRAMES L) + 1 := hframes

end Sys2Proof.Machine
end

section
/-! SUPPORT. Multicast at the head of its queue (R159, R160), and reports of suppressed copies (R162): they settle O28. -/

namespace Sys2Proof.Machine

open Claim

/-! Queues and stored multicast frames. -/

/-- A VOQ reads back what was done to it, and every other one as before. -/
theorem voq_setVoq (s : State) (k : Nat) (f : Voq → Voq) (j : Nat) :
    voq (setVoq s k f) j = if j = k then f (voq s k) else voq s j := tget_tset _ _ _ _ _

/-- A unicast VOQ of a port is not a multicast VOQ. -/
theorem voqKey_ne_mcKey {d p c : Nat} (hd : d < 4) (hp : p < 1024) (hc : c < 16) (d' c' : Nat) : voqKey d p c ≠ mcKey d' c' := by
  have hport : voqKey d p c = 16384 * d + 16 * p + c := if_pos hp
  have hmc : mcKey d' c' = 65536 + 144 * d' + 16 * (1032 - 1024) + c' := rfl
  omega

/-- The record of a stored multicast frame. -/
def mcRec (s : State) (m : Nat) : McFrame := tget {} s.core.mc m

/-- The module with that record changed. -/
def setMc (s : State) (m : Nat) (g : McFrame → McFrame) : State := setCore s fun k => { k with mc := tmod {} k.mc m g }

theorem mcRec_setMc_same (s : State) (m : Nat) (g : McFrame → McFrame) : mcRec (setMc s m g) m = g (mcRec s m) :=
  tget_tset_same _ _ _ _

theorem mcRec_setVoq (s : State) (k : Nat) (f : Voq → Voq) (m : Nat) : mcRec (setVoq s k f) m = mcRec s m := rfl

theorem voq_setMc (s : State) (m : Nat) (g : McFrame → McFrame) (k : Nat) : voq (setMc s m g) k = voq s k := rfl

/-- The head frame depends on the multicast VOQ alone. -/
theorem mcHead_congr {s t : State} {d c : Nat} (h : voq t (mcKey d c) = voq s (mcKey d c)) : mcHead t d c = mcHead s d c := by
  rw [mcHead, mcHead, h]

/-! The residue of a member (R159, R160). -/

/-- Bytes of a stored frame that a member has had when it gets a reference: those before the head cell, and the head cell
where it has been sent to it. -/
def residueFrom (m : McFrame) (p : Nat) : Nat := if m.cell.contains p then m.pos else m.pos + 256

/-- The record of a stored frame of which member p is served by a reference. -/
def residueMc (p : Nat) (m : McFrame) : McFrame :=
  { m with todo := m.todo.filter (· != p), cell := m.cell.filter (· != p), refs := m.refs + 1 }

theorem todo_residueMc_last {p : Nat} {m : McFrame} (h : m.todo = [p]) : (residueMc p m).todo = [] := by simp [residueMc, h]

/-- The module with a reference to stored frame m at the tail of a VOQ, for member p, which has had its first b bytes. -/
def residueQueued (s : State) (k m p b : Nat) : State :=
  setVoq (setMc s m (residueMc p)) k fun q => { q with ents := q.ents ++ [.ref m b] }

theorem voq_residueQueued (s : State) (k m p b j : Nat) : voq (residueQueued s k m p b) j =
    if j = k then { voq s k with ents := (voq s k).ents ++ [.ref m b] } else voq s j := voq_setVoq _ _ _ _

theorem mcRec_residueQueued (s : State) (k m p b : Nat) : mcRec (residueQueued s k m p b) m = residueMc p (mcRec s m) :=
  mcRec_setMc_same _ _ _

/-- `t` is `s` but for the switch core. -/
def coreOnly (s t : State) : Prop := t = { s with core := t.core }

theorem coreOnly.trans {s t u : State} (h : coreOnly s t) (k : coreOnly t u) : coreOnly s u := by
  unfold coreOnly at *
  rw [k, h]

theorem coreOnly_residueQueued (s : State) (k m p b : Nat) : coreOnly s (residueQueued s k m p b) := rfl

/-- A member that is UP, without a fence, on an open channel gets a reference. -/
theorem residueRef_of_up {s : State} {c p : Nat} (hfence : portFenced s p = false) (hup : portState s p = pUP)
    (hopen : unpickShut s p c = false) (d : Nat) (f : Frame) (b : Nat) :
    residueRef s d c f p b = residueQueued s (voqKey d p c) f.id p b := by
  rw [residueRef, hfence, if_neg (by decide), hup, hopen, if_neg (by decide)]
  rfl

/-! The multicast VOQ moves on (R159, R160). -/

/-- The multicast VOQ past its head frame f. -/
def pastHead (s : State) (f : Frame) (q : Voq) : Voq :=
  { q with head := if f.bob.isSome then q.head else (mcRec s f.id).start + frameLen f, ents := q.ents.drop 1 }

/-- The record of a stored frame that has left its multicast VOQ. -/
def leftHead (m : McFrame) : McFrame := { m with cell := [], split := true }

/-- The module with the head frame f of a multicast VOQ passed. -/
def headPassed (s : State) (d c : Nat) (f : Frame) : State := setMc (setVoq s (mcKey d c) (pastHead s f)) f.id leftHead

theorem voq_headPassed (s : State) (d c : Nat) (f : Frame) (j : Nat) : voq (headPassed s d c f) j =
    if j = mcKey d c then pastHead s f (voq s (mcKey d c)) else voq s j := voq_setVoq _ _ _ _

theorem mcRec_headPassed (s : State) (d c : Nat) (f : Frame) : mcRec (headPassed s d c f) f.id = leftHead (mcRec s f.id) :=
  mcRec_setMc_same _ _ _

theorem coreOnly_headPassed (s : State) (d c : Nat) (f : Frame) : coreOnly s (headPassed s d c f) := rfl

/-- A frame that is still referenced stays stored. -/
theorem mcFree_of_refs {s : State} {m : Nat} (h : (mcRec s m).refs ≠ 0) : mcFree s m = s := by
  unfold mcFree
  rw [show tget {} s.core.mc m = mcRec s m from rfl]
  exact if_neg (by simp [h])

/-- A head frame for which no member waits, and which is still referenced, is passed and stays stored. -/
theorem mcAdvance_of_served {s : State} {d c : Nat} {f : Frame} (hhead : mcHead s d c = some f)
    (htodo : (mcRec s f.id).todo = []) (hrefs : (mcRec s f.id).refs ≠ 0) : mcAdvance s d c = headPassed s d c f := by
  have hkept : (mcRec (headPassed s d c f) f.id).refs ≠ 0 := by rwa [mcRec_headPassed]
  rw [mcAdvance, hhead]
  dsimp only
  rw [show tget {} s.core.mc f.id = mcRec s f.id from rfl, htodo, if_pos (by rfl)]
  exact mcFree_of_refs hkept

/-! The command (R159). -/

/-- Before a head frame's time there is no residue. -/
theorem mcResidue_early {s : State} {d c : Nat} {f : Frame} (hhead : mcHead s d c = some f)
    (hearly : s.elapsed ((mcRec s f.id).headAt - 1) 20000 = false) : mcResidue s d c = s := by
  rw [mcResidue, hhead]
  dsimp only
  rw [show tget {} s.core.mc f.id = mcRec s f.id from rfl, hearly]
  exact if_pos (by simp)

/-- At its time each member that waits is treated, and the queue moves on. -/
theorem mcResidue_due {s : State} {d c : Nat} {f : Frame} (hhead : mcHead s d c = some f)
    (hat : (mcRec s f.id).headAt ≠ 0) (hdue : s.elapsed ((mcRec s f.id).headAt - 1) 20000 = true) :
    mcResidue s d c = mcAdvance (forEach (mcRec s f.id).todo s fun u p =>
      residueRef u d c f p (residueFrom (mcRec s f.id) p)) d c := by
  rw [mcResidue, hhead]
  dsimp only
  rw [show tget {} s.core.mc f.id = mcRec s f.id from rfl, hdue]
  exact if_neg (by simpa using hat)

/-- The last member that waits, an UP port, gets its reference, which keeps the frame stored when the queue passes it. -/
theorem mcResidue_last {s : State} {d c p : Nat} {f : Frame} (hkey : voqKey d p c ≠ mcKey d c) (hhead : mcHead s d c = some f)
    (hat : (mcRec s f.id).headAt ≠ 0) (hdue : s.elapsed ((mcRec s f.id).headAt - 1) 20000 = true)
    (htodo : (mcRec s f.id).todo = [p]) (hfence : portFenced s p = false) (hup : portState s p = pUP)
    (hopen : unpickShut s p c = false) :
    mcResidue s d c = headPassed (residueQueued s (voqKey d p c) f.id p (residueFrom (mcRec s f.id) p)) d c f := by
  have hrec := mcRec_residueQueued s (voqKey d p c) f.id p (residueFrom (mcRec s f.id) p)
  have hsame := (voq_residueQueued s (voqKey d p c) f.id p (residueFrom (mcRec s f.id) p) _).trans (if_neg hkey.symm)
  have hone : (forEach [p] s fun u p => residueRef u d c f p (residueFrom (mcRec s f.id) p)) =
      residueQueued s (voqKey d p c) f.id p (residueFrom (mcRec s f.id) p) := residueRef_of_up hfence hup hopen d f _
  rw [mcResidue_due hhead hat hdue, htodo, hone]
  refine mcAdvance_of_served ((mcHead_congr hsame).trans hhead) ?_ ?_
  · rw [hrec, todo_residueMc_last htodo]
  · rw [hrec]
    exact Nat.succ_ne_zero _

/-- A report of a copy of no RESULT is taken off, and that is all. -/
theorem suppressReport_of_other {s : State} {p : Nat} {f : Frame} {rest : List (Nat × Frame)}
    (hreports : s.core.reports = (p, f) :: rest) (htype : hType f.hdr ≠ tRESULT) :
    suppressReport s = setCore s fun c => { c with reports := rest } := by
  rw [suppressReport, hreports]
  exact if_pos (by simpa using htype)

/-- Settles O28: what the command leaves is one equation, of which each clause reads its queue or record. -/
theorem multicastResidue : Obligations.MulticastResidue := by
  unfold Obligations.MulticastResidue
  refine ⟨fun d c p f s hpow hhead hat hdue htodo hfence hup hopen => ?_, fun d c f s hhead _ hearly => ?_,
    fun p f rest s hpow hreports htype => ?_⟩
  · have hkey := voqKey_ne_mcKey d.isLt p.isLt c.isLt d c
    refine ⟨_, (live_of_powered hpow fun s => mcResidue s d c).trans
      (congrArg _ (mcResidue_last hkey hhead hat hdue htodo hfence hup hopen)), ?_⟩
    have hrec := (mcRec_headPassed _ d c f).trans (congrArg leftHead
      (mcRec_residueQueued s (voqKey d p c) f.id p (residueFrom (mcRec s f.id) p)))
    refine ⟨?_, ?_, (congrArg McFrame.todo hrec).trans (todo_residueMc_last htodo), congrArg McFrame.refs hrec,
      (coreOnly_residueQueued _ _ _ _ _).trans (coreOnly_headPassed _ d c f)⟩
    · rw [voq_headPassed, if_neg hkey, voq_residueQueued, if_pos rfl]
      rfl
    · rw [voq_headPassed, if_pos rfl, voq_residueQueued, if_neg hkey.symm]
      rfl
  · calc exec (.mcResidueTimeout d c) s
      _ = .next (if s.sys.powered then mcResidue s d c else s) := rfl
      _ = .next s := by rw [mcResidue_early hhead hearly, ite_self]
  · exact ⟨_, (live_of_powered hpow suppressReport).trans (congrArg _ (suppressReport_of_other hreports htype)), rfl⟩

end Sys2Proof.Machine
end

section
/-! SUPPORT. An epoch that sends a cell to an output the module does not have: it refutes O27. -/

namespace Sys2Proof.Machine

open Claim

/-- The look at every port's PFC after an epoch leaves the switch core. -/
theorem pfcRelease_core (s : State) : (pfcRelease s).core = s.core :=
  forEach_keeps (P := fun t => t.core = s.core) (fun t L _ h => (pfcScan_looked t L).1.trans h) rfl

theorem exec_schedEpoch_of_woven {s : State} (hpow : s.sys.powered = true) (hmode : s.mode = mWOVEN) :
    exec .schedEpoch s = .next (pfcRelease (schedEpoch s)) := by
  rw [show exec .schedEpoch s = execSchedEpoch s from rfl, execSchedEpoch, live_of_powered hpow,
    if_pos (by simp [asWoven_of_woven hmode])]

/-- A frame of 8,192 bytes on SW1 for IO1. -/
def ownFrame (n : Nat) : Frame :=
  { id := n, hdr := mkHdr 0 7 0 0 0 0 0 0 0 8160 0 0, body := List.replicate 8160 0, idie := 1, dec := 1025 }

/-- A multicast frame on SW0 whose one member is 1,032, one above the last output (Table 6.2). -/
def strayCast : Frame :=
  { id := 9, hdr := mkHdr 0 7 0 0 0 0 0 0 0 4 0 0, body := [1, 2, 3, 4], dec := 2048, members := [1032] }

/-- A powered module in WOVEN, its dies UP since 1 ns. On SW0 `strayCast` is at the head of its multicast VOQ, and on SW1 eight
frames wait for IO1, whose 256 lanes can take their 65,536 bytes in one epoch. -/
def strayEpoch : State :=
  { setMode ([0, 1, 4, 8].foldl (fun s d => fset s (FLT_DIE.TS d) 1) State.reset) mWOVEN with
    sys := { powered := true }
    core := { voqs := [(mcKey 0 0, { tail := 36, ents := [.frame strayCast] }),
                       (voqKey 1 1025 0, { tail := 65536, ents := [1, 2, 3, 4, 5, 6, 7, 8].map fun n => .frame (ownFrame n) })],
              mc := [(9, { f := strayCast, todo := [1032], cell := [1032], headAt := 1 })] } }

/-- The formula for the egress die of IO4 to IO7 gives the stray output CP0 as its egress die, die 4: what SW0 sends to it is
counted in stream 4 · 0 + 4, which is that from SW1 to SW0. -/
theorem strayEpoch_outDie : outDie strayEpoch 1032 = 4 := by decide +kernel

/-- SW0 sends one cell and SW1 its 256, and the streams 4 and 5, both those from SW1, count them. -/
theorem strayEpoch_seqTx : (schedEpoch strayEpoch).core.seqTx = [(4, 1), (5, 256)] := by decide +kernel

/-- Refutes O27: its first clause, on any state, does not ask that the members of a stored multicast frame be outputs of the
module. In `strayEpoch` one is not, and the cell sent to it by SW0 is counted for SW1 (`strayEpoch_outDie`), on top of the 256
that SW1 sends itself. -/
theorem not_cells : ¬ Obligations.Cells := by
  unfold Obligations.Cells
  rintro ⟨hepoch, -⟩
  obtain ⟨t, ht, hsent, -⟩ := hepoch strayEpoch rfl
  rw [exec_schedEpoch_of_woven rfl (by decide +kernel)] at ht
  have hcount : t.core.seqTx = [(4, 1), (5, 256)] := by
    rw [← Host.Outcome.next.inj ht, pfcRelease_core, strayEpoch_seqTx]
  have hmax := hsent 1 (by decide)
  beta_reduce at hmax
  rw [hcount] at hmax
  exact absurd hmax (by decide)

end Sys2Proof.Machine
end

section
/-! SUPPORT. The copies of the forwarding tables (R171, R187, R191): what they hold at a physical index after an entry is set or
removed. -/

namespace Sys2Proof.Machine

open Claim

/-! One copy. -/

/-- The entry at a physical index of a copy. -/
def heldAt (c : Tab Entry) (j : Nat) : Option Entry := (c.find? fun e => e.1 == j).map (·.2)

/-- A copy with the entry at a physical index set or removed. -/
def withEntry (c : Tab Entry) (i : Nat) : Option Entry → Tab Entry
  | some e => tput (tdel c i) i e
  | none => tdel c i

theorem heldAt_cons (k : Nat) (e : Entry) (c : Tab Entry) (j : Nat) :
    heldAt ((k, e) :: c) j = if k = j then some e else heldAt c j := by
  by_cases h : k = j <;> simp [heldAt, h]

theorem heldAt_tdel (c : Tab Entry) (i j : Nat) : heldAt (tdel c i) j = if j = i then none else heldAt c j := by
  induction c with
  | nil => simp [tdel, heldAt]
  | cons x c ih =>
    obtain ⟨k, e⟩ := x
    rw [tdel, heldAt_cons]
    by_cases hk : k = i
    · rw [if_pos hk, ih]
      by_cases hj : j = i
      · rw [if_pos hj, if_pos hj]
      · rw [if_neg hj, if_neg hj, if_neg (by omega)]
    · rw [if_neg hk, heldAt_cons, ih]
      by_cases hj : k = j
      · rw [if_pos hj, if_pos hj, if_neg (by omega)]
      · rw [if_neg hj, if_neg hj]

theorem heldAt_tput {c : Tab Entry} {i : Nat} (h : ∀ x ∈ c, x.1 ≠ i) (e : Entry) (j : Nat) :
    heldAt (tput c i e) j = if j = i then some e else heldAt c j := by
  induction c with
  | nil => simp [tput, heldAt, eq_comm (a := i)]
  | cons x c ih =>
    obtain ⟨k, e'⟩ := x
    have hk : k ≠ i := h (k, e') (by simp)
    rw [tput]
    split
    · simp only [heldAt_cons, eq_comm]
    · rw [heldAt_cons, heldAt_cons, ih fun x hx => h x (by simp [hx])]
      by_cases hj : k = j
      · subst hj
        simp [hk]
      · simp [hj]

/-- A copy holds what was set at an index, and everywhere else what it held. -/
theorem heldAt_withEntry (c : Tab Entry) (i : Nat) (e : Option Entry) (j : Nat) :
    heldAt (withEntry c i e) j = if j = i then e else heldAt c j := by
  cases e with
  | none => exact heldAt_tdel c i j
  | some e =>
    rw [withEntry, heldAt_tput (mem_tdel c i), heldAt_tdel]
    split <;> rfl

/-! The copies of all dies. -/

theorem tcopy_putEntry (s : State) (d t i : Nat) (e : Option Entry) (k t' : Nat) :
    tcopy (putEntry s d t i e) k t' = if 8 * k + t' = 8 * d + t then withEntry (tcopy s d t) i e else tcopy s k t' := by
  cases e <;> exact tget_tset _ _ _ _ _

theorem entryAt_putEntry (s : State) (d t i : Nat) (e : Option Entry) (k j : Nat) :
    entryAt (putEntry s d t i e) k t j = if k = d ∧ j = i then e else entryAt s k t j := by
  change heldAt (tcopy _ k t) j = _
  rw [tcopy_putEntry]
  by_cases hk : k = d
  · subst hk
    simp only [if_true, heldAt_withEntry, true_and]
    rfl
  · rw [if_neg (by omega), if_neg (by simp [hk])]
    rfl

theorem tcopy_usedUpdate (s : State) (n d t : Nat) : tcopy (usedUpdate s n) d t = tcopy s d t := rfl

theorem entryAt_usedUpdate (s : State) (n d t j : Nat) : entryAt (usedUpdate s n) d t j = entryAt s d t j := rfl

/-- An entry set on one die after another. -/
theorem entryAt_forEach_putEntry (dies : List Nat) (s : State) (t i : Nat) (e : Option Entry) (k j : Nat) :
    entryAt (forEach dies s fun s d => putEntry s d t i e) k t j = if k ∈ dies ∧ j = i then e else entryAt s k t j := by
  induction dies generalizing s with
  | nil => simp [forEach]
  | cons d dies ih =>
    refine (ih (putEntry s d t i e)).trans ?_
    rw [entryAt_putEntry]
    by_cases hk : k = d <;> by_cases hj : j = i <;> simp [hk, hj]

theorem mem_copyDies {s : State} {k : Nat} (hk : k < 4) (hup : dieUp s k = true) : k ∈ copyDies s :=
  List.mem_filter.2 ⟨List.mem_range.2 hk, hup⟩

/-- A change of one entry reaches the copy of every die that is UP (R191). -/
theorem entryAt_putAll {s : State} {k : Nat} (hk : k < 4) (hup : dieUp s k = true) (t i : Nat) (e : Option Entry) (j : Nat) :
    entryAt (putAll s t i e) k t j = if j = i then e else entryAt s k t j := by
  rw [putAll, entryAt_usedUpdate, entryAt_forEach_putEntry]
  simp [mem_copyDies hk hup]

/-! What a change of entries leaves. -/

/-- From `s` to `t` entries of table n and stamps changed, and the count of the table's entries was shown. -/
def Rewritten (n : Nat) (s t : State) : Prop :=
  t = { s with regs := t.regs, tbl := { s.tbl with copies := t.tbl.copies, stamps := t.tbl.stamps } } ∧
    regsBut (fun o => o == TBL_USED n) s t

theorem Rewritten.refl (n : Nat) (s : State) : Rewritten n s s := ⟨rfl, regsBut.refl _ s⟩

theorem Rewritten.trans {n : Nat} {s t u : State} (h : Rewritten n s t) (k : Rewritten n t u) : Rewritten n s u := by
  obtain ⟨ht, hregs⟩ := h
  obtain ⟨hu, hregs'⟩ := k
  refine ⟨?_, hregs.trans hregs'⟩
  rw [hu, ht]

theorem putEntry_rewritten (s : State) (d n i : Nat) (e : Option Entry) : Rewritten n s (putEntry s d n i e) :=
  ⟨rfl, fun _ _ => rfl⟩

theorem usedUpdate_rewritten (s : State) (n : Nat) : Rewritten n s (usedUpdate s n) :=
  ⟨rfl, regsBut_fset (own := fun o => o == TBL_USED n) s (TBL_USED.COUNT n) (beq_self_eq_true _) _⟩

theorem putAll_rewritten (s : State) (n i : Nat) (e : Option Entry) : Rewritten n s (putAll s n i e) :=
  Rewritten.trans (forEach_keeps (P := Rewritten n s) (fun u d _ h => h.trans (putEntry_rewritten u d n i e)) (Rewritten.refl n s))
    (usedUpdate_rewritten _ n)

theorem stampAll_rewritten (s : State) (n i v : Nat) : Rewritten n s (stampAll s i v) := ⟨rfl, fun _ _ => rfl⟩

theorem Rewritten.order {n : Nat} {s t : State} (h : Rewritten n s t) : t.tbl.order = s.tbl.order := by rw [h.1]

theorem Rewritten.getReg_eq {n : Nat} {s t : State} (h : Rewritten n s t) {o : Nat} (ho : o ≠ TBL_USED n) :
    getReg t o = getReg s o := h.2 o (beq_eq_false_iff_ne.2 ho)

/-- The table's epoch, which passes with the transaction, not with its entries (R188). -/
theorem Rewritten.epoch {n : Nat} {s t : State} (h : Rewritten n s t) : getReg t TBL_EPOCH = getReg s TBL_EPOCH :=
  h.getReg_eq (by unfold TBL_EPOCH TBL_USED; omega)

theorem Rewritten.dieUp_eq {n : Nat} {s t : State} (h : Rewritten n s t) (hn : n < 8) (d : Nat) : dieUp t d = dieUp s d :=
  dieUp_of_getReg_eq (h.getReg_eq (by unfold FLT_DIE TBL_USED; omega))

end Sys2Proof.Machine
end

section
/-! SUPPORT. Byte strings shown in a run of registers: the completion of the register path (R184) and the raw buffer (R186). -/

namespace Sys2Proof.Machine

open Claim

/-! A run of registers. -/

/-- A run of registers set to words, each to its own. -/
theorem getReg_forRange_setReg (s : State) (base : Nat) (v : Nat → Word) {n k : Nat} (hk : k < n) :
    getReg (forRange n s fun s k => setReg s (base + 8 * k) (v k)) (base + 8 * k) = v k := by
  induction n with
  | zero => omega
  | succ n ih =>
    rw [forRange_succ, getReg_setReg]
    by_cases h : k = n
    · rw [h, if_pos rfl]
    · rw [if_neg (by omega), ih (by omega)]

/-- A word set to 8 bytes spells them. -/
theorem le_word {b : List Byte} {k : Nat} (h : 8 * k + 8 ≤ b.length) :
    le 8 (BitVec.ofNat 64 (fieldAt b (8 * k) 8)).toNat = (b.drop (8 * k)).take 8 := by
  have hlen : ((b.drop (8 * k)).take 8).length = 8 := by simp; omega
  have hlt := unle_lt ((b.drop (8 * k)).take 8)
  have hsame := le_unle ((b.drop (8 * k)).take 8)
  rw [hlen] at hlt hsame
  rw [show (256 ^ 8 : Nat) = 2 ^ 64 from rfl] at hlt
  rw [BitVec.toNat_ofNat, fieldAt, Nat.mod_eq_of_lt hlt, hsame]

/-- A string in pieces of 8 bytes. -/
theorem flatMap_pieces (b : List Byte) (n : Nat) : ((List.range n).flatMap fun k => (b.drop (8 * k)).take 8) = b.take (8 * n) := by
  induction n with
  | zero => rfl
  | succ n ih => rw [List.range_succ, List.flatMap_append, ih, List.flatMap_singleton, Nat.mul_succ, List.take_add]

/-- Registers set to the words of a string show the string. -/
theorem bytes_of_words {s : State} {base n : Nat} {b : List Byte} (hlen : b.length = 8 * n)
    (h : ∀ k < n, getReg s (base + 8 * k) = BitVec.ofNat 64 (fieldAt b (8 * k) 8)) :
    ((List.range n).flatMap fun k => le 8 (getReg s (base + 8 * k)).toNat) = b := by
  have hwords : ∀ k ∈ List.range n, le 8 (getReg s (base + 8 * k)).toNat = (b.drop (8 * k)).take 8 := by
    intro k hk
    have hk := List.mem_range.1 hk
    rw [h k hk, le_word (by omega)]
  rw [List.flatMap_congr hwords, flatMap_pieces, ← hlen, List.take_length]

/-! The bytes of a completion (Table 7.9). -/

@[simp] theorem length_fit (n : Nat) (bs : List Byte) : (fit n bs).length = n := by
  simp only [fit, bytesAt, List.drop_zero, List.length_append, List.length_take, List.length_replicate]
  omega

/-- The fixed fields of a completion. -/
def complHead (d : List Byte) (code epoch arg count : Nat) : List Byte :=
  le 1 code ++ le 1 (dTable d) ++ [0, 0] ++ le 4 (dTag d) ++ le 8 epoch ++ le 8 arg ++ le 8 count

theorem length_complBytes (d : List Byte) (code epoch arg count : Nat) (key data : List Byte) :
    (complBytes d code epoch arg count key data).length = 8 * 26 := by simp [complBytes]

theorem fieldAt_complBytes {d : List Byte} {code epoch arg count : Nat} {k n : Nat} (h : k + n ≤ 32) (key data : List Byte) :
    fieldAt (complBytes d code epoch arg count key data) k n = fieldAt (complHead d code epoch arg count) k n := by
  have hlen : (complHead d code epoch arg count).length = 32 := by simp [complHead]
  rw [show complBytes d code epoch arg count key data = complHead d code epoch arg count ++ fit 32 key ++ fit 144 data from rfl,
    List.append_assoc, fieldAt_append_left (by rw [hlen]; exact h)]

section
variable (d : List Byte) (code epoch arg count : Nat) (key data : List Byte)

theorem code_complBytes : fieldAt (complBytes d code epoch arg count key data) 0 1 = code % 256 := by
  rw [fieldAt_complBytes (by decide)]
  simp only [complHead, List.append_assoc]
  rw [fieldAt_append_left (by simp), fieldAt_le, pow_one]

theorem arg_complBytes : fieldAt (complBytes d code epoch arg count key data) 0x10 8 = arg % 2 ^ 64 := by
  rw [fieldAt_complBytes (by decide), complHead, fieldAt_append_left (by simp)]
  refine (fieldAt_append_right (m := 16) (by simp) (le 8 arg) 0 8).trans ?_
  exact fieldAt_le 8 arg

theorem count_complBytes : fieldAt (complBytes d code epoch arg count key data) 0x18 8 = count % 2 ^ 64 := by
  rw [fieldAt_complBytes (by decide), complHead]
  refine (fieldAt_append_right (m := 24) (by simp) (le 8 count) 0 8).trans ?_
  exact fieldAt_le 8 count

end

/-! A completion on the register path (R184). -/

/-- The registers that show a completion. -/
def resReg (o : Nat) : Bool := (TBL_RES_W 0 ≤ o && o < TBL_RES_W 26) || o == TBL_CMD_STAT

/-- From `s` to `t` a completion came on the register path, and nothing else happened. -/
structure Completed (b : List Byte) (s t : State) : Prop where
  shown : resBytes t = b
  idle : fbit t TBL_CMD_STAT.BUSY = false
  only : OnlyRegs resReg s t

theorem Completed.tbl {b : List Byte} {s t : State} (h : Completed b s t) : t.tbl = s.tbl := by rw [h.only.1]

theorem Completed.core {b : List Byte} {s t : State} (h : Completed b s t) : t.core = s.core := by rw [h.only.1]

theorem Completed.epoch {b : List Byte} {s t : State} (h : Completed b s t) : getReg t TBL_EPOCH = getReg s TBL_EPOCH :=
  h.only.2 _ (by decide)

theorem tblCompleteAt_completed {d : List Byte} (hirq : bit (dFlags d) 4 = false) (s : State) (E code arg count : Nat)
    (key data : List Byte) :
    Completed (complBytes d code E arg count key data) s (tblCompleteAt s E d none code arg count key data) := by
  have hlen := length_complBytes d code E arg count key data
  simp only [tblCompleteAt]
  rw [hirq, if_neg (by decide)]
  generalize complBytes d code E arg count key data = b at *
  refine ⟨bytes_of_words hlen fun k hk => ?_, ?_,
    OnlyRegs.trans (OnlyRegs.forRange (fun u k hk => ?_) s) (OnlyRegs.fset _ rfl _)⟩
  · rw [getReg_fset_ne _ (f := TBL_CMD_STAT.BUSY) (by simp only [TBL_CMD_STAT.BUSY, TBL_CMD_STAT]; omega)]
    exact getReg_forRange_setReg s 0x800200 (fun n => BitVec.ofNat 64 (fieldAt b (8 * n) 8)) hk
  · rw [fbit, fget_fset_same _ _ _ (by decide)]
    rfl
  · refine ⟨rfl, regsBut_setReg u (Bool.or_eq_true_iff.2 (.inl ?_)) _⟩
    rw [Bool.and_eq_true, decide_eq_true_eq, decide_eq_true_eq]
    unfold TBL_RES_W
    omega

end Sys2Proof.Machine
end

section
/-! SUPPORT. Flushing, marking and draining (R183, R184, R188 to R190): they settle O30. -/

namespace Sys2Proof.Machine

open Claim

/-! The head of the submission order (R181). -/

/-- The module with the head gone from the submission order, of which the rest is left. -/
def popped (s : State) (rest : List Submission) : State := setTbl s fun t => { t with order := rest }

@[simp] theorem popped_mode (s : State) (rest : List Submission) : (popped s rest).mode = s.mode := rfl

theorem tblPop_of_order {s : State} {x : Submission} {rest : List Submission} (h : s.tbl.order = x :: rest) :
    tblPop s = popped s rest := by
  rw [tblPop, popped, setTbl, setTbl, h]
  rfl

/-- The command with an OP is at the head, from the register path and without an interrupt, in a state that takes it, and KEY and
DATA, which it does not use, are zero. -/
structure AtHead (s : State) (d : List Byte) (op : Nat) (rest : List Submission) : Prop where
  order : s.tbl.order = .cmd d none :: rest
  op : dOp d = op
  noIrq : bit (dFlags d) 4 = false
  notBoot : s.mode ≠ mBOOT
  notFaulted : s.mode ≠ mFAULTED
  noKey : zeroBytes (dKey d) 0 32 = true
  noData : zeroBytes (dData d) 0 144 = true

section
variable {s : State} {d : List Byte} {op : Nat} {rest : List Submission} (h : AtHead s d op rest)
include h

theorem AtHead.runs (f : State → List Byte → Option Nat → State) : tblHead s op f = f (popped s rest) d none := by
  have hmode : ¬ ((popped s rest).mode == mBOOT || (popped s rest).mode == mFAULTED) = true := by
    simpa using And.intro h.notBoot h.notFaulted
  rw [tblHead, h.order]
  dsimp only
  rw [if_pos (by simp [h.op]), tblPop_of_order h.order, if_neg hmode]

theorem AtHead.unused : unusedCheck d = none := by simp [unusedCheck, h.noKey, h.noData]

/-- Its completion at the current epoch (R184). -/
theorem AtHead.completes (u : State) (code arg count : Nat) (key data : List Byte) :
    Completed (complBytes d code (curEpoch u) arg count key data) u (tblComplete u d none code arg count key data) :=
  tblCompleteAt_completed h.noIrq u (curEpoch u) code arg count key data

end

/-! FLUSH_PORT (R190). -/

/-- A learned entry of table 5 removed, with its stamps. -/
def stationGone (s : State) (i : Nat) : State := stampAll (putAll s 5 i none) i 0

/-- Stations removed one after another. -/
def stationsGone (s : State) (is : List Nat) : State := forEach is s stationGone

theorem stationGone_rewritten (s : State) (i : Nat) : Rewritten 5 s (stationGone s i) :=
  (putAll_rewritten s 5 i none).trans (stampAll_rewritten _ 5 i 0)

theorem stationsGone_rewritten (s : State) (is : List Nat) : Rewritten 5 s (stationsGone s is) :=
  forEach_keeps (P := Rewritten 5 s) (fun u i _ h => h.trans (stationGone_rewritten u i)) (Rewritten.refl 5 s)

/-- The copy of a die that is UP holds none of the stations removed, and each other entry as before. -/
theorem entryAt_stationsGone {k : Nat} (hk : k < 4) (is : List Nat) {s : State} (hup : dieUp s k = true) (j : Nat) :
    entryAt (stationsGone s is) k 5 j = if j ∈ is then none else entryAt s k 5 j := by
  induction is generalizing s with
  | nil => rfl
  | cons i is ih =>
    have hstep : entryAt (stationGone s i) k 5 j = if j = i then none else entryAt s k 5 j :=
      entryAt_putAll hk hup 5 i none j
    have hup' : dieUp (stationGone s i) k = true := ((stationGone_rewritten s i).dieUp_eq (by decide) k).trans hup
    refine (ih hup').trans ?_
    rw [hstep]
    by_cases hj : j = i <;> simp [hj]

/-- Learned entries removed in one transaction, which is none where there are none (R188). -/
def learnedFlushed (s : State) (is : List Nat) : State := if is.isEmpty then s else epochStep (stationsGone s is)

theorem learnedFlushed_order (s : State) (is : List Nat) : (learnedFlushed s is).tbl.order = s.tbl.order := by
  rw [learnedFlushed]
  split
  · rfl
  · exact (stationsGone_rewritten s is).order

theorem learnedFlushed_epoch (s : State) (is : List Nat) :
    getReg (learnedFlushed s is) TBL_EPOCH = getReg s TBL_EPOCH + if is = [] then 0 else 1 := by
  cases is with
  | nil => simp [learnedFlushed]
  | cons i is =>
    calc getReg (epochStep (stationsGone s (i :: is))) TBL_EPOCH
      _ = getReg (stationsGone s (i :: is)) TBL_EPOCH + 1 := by rw [epochStep, getReg_bump, if_pos rfl]
      _ = getReg s TBL_EPOCH + 1 := by rw [(stationsGone_rewritten s _).epoch]

theorem entryAt_learnedFlushed {s : State} {k : Nat} (hk : k < 4) (hup : dieUp s k = true) {is : List Nat} {i : Nat}
    (hi : i ∈ is) : entryAt (learnedFlushed s is) k 5 i = none := by
  rw [learnedFlushed, if_neg (by simpa using List.ne_nil_of_mem hi)]
  exact (entryAt_stationsGone hk is hup i).trans (if_pos hi)

/-- FLUSH_PORT with FL_L2 alone removes the port's learned entries and counts them. -/
theorem opFlush_learned {s : State} {d : List Byte} (hunused : unusedCheck d = none) (hl2 : bit (dFlags d) 2 = true)
    (hqueue : bit (dFlags d) 3 = false) :
    opFlush s d none = tblComplete (learnedFlushed s (learnedTo s (dArg d))) d none tcOK 0 (learnedTo s (dArg d)).length [] [] := by
  rw [opFlush, hunused]
  dsimp only
  rw [hl2, hqueue]
  rfl

/-! MARK (R183) and DRAIN (R189). -/

section
variable {s : State} {d : List Byte} (hunused : unusedCheck d = none)
include hunused

theorem opMark_stored : opMark s d none = tblCode (fset s TBL_MARK.TAG (dArg d)) d none tcOK := by rw [opMark, hunused]

/-- With no frame of an earlier epoch left a DRAIN is over at once. -/
theorem opDrain_over (hroom : s.tbl.drains.length < 8) (hnone : framesBefore s (curEpoch s) = 0) :
    opDrain s d none = tblCode s d none tcOK := by
  rw [opDrain, hunused]
  dsimp only
  rw [if_neg (Nat.not_le_of_lt hroom), if_pos (beq_iff_eq.2 hnone)]

/-- Else it waits. -/
theorem opDrain_waits (hroom : s.tbl.drains.length < 8) (hsome : framesBefore s (curEpoch s) ≠ 0) :
    opDrain s d none = setTbl s fun t =>
      { t with drains := t.drains ++ [{ epoch := curEpoch s, deadline := s.now + dArg d * 1000000, desc := d, dma := none }] } := by
  rw [opDrain, hunused]
  dsimp only
  rw [if_neg (Nat.not_le_of_lt hroom), if_neg (mt beq_iff_eq.1 hsome)]

end

/-- The one outstanding DRAIN, on the register path and without an interrupt, ends when it meets a test. -/
theorem endDrain_completed {s : State} {x : Drain} (hdrains : s.tbl.drains = [x]) (hdma : x.dma = none)
    (hirq : bit (dFlags x.desc) 4 = false) {p : Drain → Bool} (hp : p x = true) (code : Nat) :
    Completed (complBytes x.desc code x.epoch (if code == tcTIMEOUT then framesBefore s x.epoch else 0) 0 [] [])
      (setTbl s fun t => { t with drains := [] }) (endDrain s p code) := by
  have herase : (setTbl s fun t => { t with drains := t.drains.erase x }) = setTbl s fun t => { t with drains := [] } := by
    rw [setTbl, setTbl, hdrains, List.erase_cons_head]
  rw [endDrain, hdrains, List.find?_cons_of_pos hp]
  dsimp only
  rw [herase, hdma]
  exact tblCompleteAt_completed hirq _ _ _ _ _ _ _

/-- Settles O30: a command at the head runs on the order's rest, and what it leaves is read past its completion, which shows its
fields and changes no table. -/
theorem flushMarkDrain : Obligations.FlushMarkDrain := by
  unfold Obligations.FlushMarkDrain
  intro front done
  have hhead : ∀ {s : State} {d : List Byte} {op : Nat} {rest : List Submission}, front s d op rest → AtHead s d op rest :=
    fun ⟨_, horder, hop, hirq, hboot, hfault, _, hkey, hdata⟩ => ⟨horder, hop, hirq, hboot, hfault, hkey, hdata⟩
  have hdone : ∀ {d : List Byte} {code epoch arg count : Nat} {s t : State}, code < 256 →
      Completed (complBytes d code epoch arg count [] []) s t → done code t := fun hcode h =>
    ⟨(congrArg (fieldAt · 0 1) h.shown).trans ((code_complBytes _ _ _ _ _ _ _).trans (Nat.mod_eq_of_lt hcode)), h.idle⟩
  refine ⟨fun d rest s hf hl2 hqueue => ?_, fun d rest s hf harg => ?_, fun d rest s hf hroom hnone => ?_,
    fun d rest s hf hroom hsome => ?_, fun x s hpow hdrains hdma hirq hnone => ?_,
    fun x s hpow hdrains hdma hirq hsome hover => ?_⟩
  · have h := hhead hf
    obtain ⟨hpow, -, -, -, -, -, hup, -⟩ := hf
    refine ⟨_, live_of_powered hpow fun s => tblHead s 5 opFlush, ?_⟩
    rw [h.runs, opFlush_learned h.unused hl2 hqueue, show learnedTo (popped s rest) (dArg d) = learnedTo s (dArg d) from rfl]
    have hcompl := h.completes (learnedFlushed (popped s rest) (learnedTo s (dArg d))) tcOK 0 (learnedTo s (dArg d)).length [] []
    refine ⟨hdone (by decide) hcompl, ?_, ?_, fun i hi k hk => ?_, ?_⟩
    · exact (congrArg TblSt.order hcompl.tbl).trans (learnedFlushed_order _ _)
    · exact (congrArg (fieldAt · 0x18 8) hcompl.shown).trans (count_complBytes _ _ _ _ _ _ _)
    · rw [entryAt, tcopy, hcompl.tbl]
      exact entryAt_learnedFlushed (s := popped s rest) hk (hup k hk) hi
    · exact hcompl.epoch.trans (learnedFlushed_epoch _ _)
  · have h := hhead hf
    refine ⟨_, live_of_powered hf.1 fun s => tblHead s 7 opMark, ?_⟩
    rw [h.runs, opMark_stored h.unused]
    have hcompl := h.completes (fset (popped s rest) TBL_MARK.TAG (dArg d)) tcOK 0 0 [] []
    refine ⟨hdone (by decide) hcompl, hcompl.tbl, ?_, ?_⟩
    · refine (fget_of_getReg_eq (hcompl.only.2 TBL_MARK.TAG.off (by decide))).trans ?_
      rw [fget_fset_same _ _ _ (by decide)]
      exact Nat.mod_eq_of_lt harg
    · exact hcompl.epoch.trans (getReg_fset_ne _ (by decide) _)
  · have h := hhead hf
    refine ⟨_, live_of_powered hf.1 fun s => tblHead s 6 opDrain, ?_⟩
    rw [h.runs, opDrain_over (s := popped s rest) h.unused hroom hnone]
    have hcompl := h.completes (popped s rest) tcOK 0 0 [] []
    exact ⟨hdone (by decide) hcompl, hcompl.tbl, hcompl.core⟩
  · have h := hhead hf
    refine ⟨_, live_of_powered hf.1 fun s => tblHead s 6 opDrain, ?_⟩
    rw [h.runs, opDrain_waits (s := popped s rest) h.unused hroom hsome]
    exact ⟨rfl, rfl, rfl⟩
  · refine ⟨_, live_of_powered hpow fun s => endDrain s (fun x => framesBefore s x.epoch == 0) tcOK, ?_⟩
    have hcompl := endDrain_completed (p := fun x => framesBefore s x.epoch == 0) hdrains hdma hirq (beq_iff_eq.2 hnone) tcOK
    exact ⟨hdone (by decide) hcompl, congrArg TblSt.drains hcompl.tbl, hcompl.core⟩
  · refine ⟨_, live_of_powered hpow fun s => endDrain s (fun x => framesBefore s x.epoch != 0 && x.deadline ≤ s.now) tcTIMEOUT,
      ?_⟩
    have hcompl := endDrain_completed (p := fun x => framesBefore s x.epoch != 0 && x.deadline ≤ s.now) hdrains hdma hirq
      (by simp [hsome, hover]) tcTIMEOUT
    refine ⟨hdone (by decide) hcompl, ?_, congrArg TblSt.drains hcompl.tbl, hcompl.core⟩
    exact (congrArg (fieldAt · 0x10 8) hcompl.shown).trans (arg_complBytes _ _ _ _ _ _ _)

end Sys2Proof.Machine
end

section
/-! SUPPORT. Raw operations (R186): they settle O31. -/

namespace Sys2Proof.Machine

open Claim

/-! The end of a raw operation. -/

/-- The module with BUSY and OP of the raw command register clear. -/
def rawEnded (s : State) : State := fset (fset s TBL_RAW_CMD.BUSY 0) TBL_RAW_CMD.OP 0

theorem rawHead_of_order {s : State} {w : Word} {op : Nat} {rest : List Submission} (horder : s.tbl.order = .raw w :: rest)
    (hop : bits w.toNat 0 2 = op) (f : State → Nat → Nat → Nat → State) :
    rawHead s op f = rawEnded (f (popped s rest) (bits w.toNat 52 4) (bits w.toNat 40 8) (bits w.toNat 8 24)) := by
  rw [rawHead, horder]
  dsimp only
  rw [if_pos (beq_iff_eq.2 hop), tblPop_of_order horder]
  rfl

theorem rawEnded_busy (s : State) : fget (rawEnded s) TBL_RAW_CMD.BUSY = 0 := by
  rw [rawEnded, fget_fset_ne _ _ _ _ (by decide), fget_fset_same _ _ _ (by decide), Nat.zero_mod]

theorem rawEnded_op (s : State) : fget (rawEnded s) TBL_RAW_CMD.OP = 0 := by
  rw [rawEnded, fget_fset_same _ _ _ (by decide), Nat.zero_mod]

theorem rawEnded_mismatch (s : State) : fbit (rawEnded s) TBL_RAW_CMD.MISMATCH = fbit s TBL_RAW_CMD.MISMATCH := by
  rw [fbit, rawEnded, fget_fset_ne _ _ _ _ (by decide), fget_fset_ne _ _ _ _ (by decide)]
  rfl

theorem getReg_rawEnded (s : State) {o : Nat} (ho : o ≠ TBL_RAW_CMD) : getReg (rawEnded s) o = getReg s o := by
  rw [rawEnded, getReg_fset_ne (f := TBL_RAW_CMD.OP) _ ho, getReg_fset_ne (f := TBL_RAW_CMD.BUSY) _ ho]

@[simp] theorem rawEnded_tbl (s : State) : (rawEnded s).tbl = s.tbl := rfl

/-! READ. -/

/-- A buffer set reads back once the operation has ended. -/
theorem rawBuf_setRawBuf (s : State) {b : List Byte} (hlen : b.length = 8 * 24) : rawBuf (rawEnded (setRawBuf s b)) = b := by
  refine bytes_of_words hlen fun k hk => ?_
  rw [getReg_rawEnded _ (by unfold TBL_RAW_CMD; omega)]
  exact getReg_forRange_setReg s 0x800400 (fun n => BitVec.ofNat 64 (fieldAt b (8 * n) 8)) hk

theorem setRawBuf_only (s : State) (b : List Byte) :
    OnlyRegs (fun o => TBL_RAW_W 0 ≤ o && o < TBL_RAW_W 24) s (setRawBuf s b) := by
  refine OnlyRegs.forRange (fun u k hk => ⟨regsOnly_setReg u _ _, regsBut_setReg u ?_ _⟩) s
  rw [Bool.and_eq_true, decide_eq_true_eq, decide_eq_true_eq]
  unfold TBL_RAW_W
  omega

/-- The buffer that shows an entry of table n: VALID, the table, KEY and DATA. -/
def rawShown (n : Nat) (e : Entry) : List Byte := [1, BitVec.ofNat 8 n] ++ List.replicate 14 0 ++ e.key ++ e.data

theorem length_rawShown {n : Nat} {e : Entry} (hkey : e.key.length = 32) (hdata : e.data.length = 144) :
    (rawShown n e).length = 8 * 24 := by simp [rawShown, hkey, hdata]

theorem rawReadOp_of_some {s : State} {d n i : Nat} {e : Entry} (hn : n ≠ 5) (hentry : entryAt s d n i = some e)
    (hkey : e.key.length = 32) (hdata : e.data.length = 144) : rawReadOp s d n i = setRawBuf s (rawShown n e) := by
  have hkeyFit : fit 32 e.key = e.key := by rw [← hkey, fit_length]
  have hdataFit : fit 144 e.data = e.data := by rw [← hdata, fit_length]
  rw [rawReadOp, hentry]
  dsimp only
  rw [if_neg (by simpa using hn), hkeyFit, hdataFit]
  rfl

/-! WRITE. -/

/-- The entry in the buffer. -/
def rawEntry (s : State) : Entry := { key := dKey (rawBuf s), data := dData (rawBuf s) }

section
variable {s : State} {d n : Nat} (hd : d ≠ 15) (hstamps : n ≠ 5) (hbuckets : n ≠ 7) (hvalid : fieldAt (rawBuf s) 0 1 = 1)
  (i : Nat)
include hd hstamps hbuckets hvalid

/-- A valid buffer goes to one die, as an entry of a table of neither stamps nor buckets. -/
theorem rawWriteOp_one : rawWriteOp s d n i = usedUpdate (putEntry s d n i (some (rawEntry s))) n := by
  simp [rawWriteOp, rawEntry, freshGroup, forEach, hd, hstamps, hbuckets, hvalid]

theorem rawWriteOp_one_rewritten : Rewritten n s (rawWriteOp s d n i) := by
  rw [rawWriteOp_one hd hstamps hbuckets hvalid]
  exact (putEntry_rewritten s d n i _).trans (usedUpdate_rewritten _ n)

theorem entryAt_rawWriteOp_one : entryAt (rawWriteOp s d n i) d n i = some (rawEntry s) := by
  rw [rawWriteOp_one hd hstamps hbuckets hvalid, entryAt_usedUpdate, entryAt_putEntry, if_pos ⟨rfl, rfl⟩]

theorem tcopy_rawWriteOp_one {k : Nat} (hk : k ≠ d) : tcopy (rawWriteOp s d n i) k n = tcopy s k n := by
  rw [rawWriteOp_one hd hstamps hbuckets hvalid, tcopy_usedUpdate, tcopy_putEntry, if_neg (by omega)]

end

/-! COMPARE. -/

/-- MISMATCH is clear where every copy holds what that of die 0 holds. -/
theorem rawCompareOp_mismatch (s : State) (d n i : Nat) :
    fbit (rawCompareOp s d n i) TBL_RAW_CMD.MISMATCH = false ↔ ∀ k, k < 4 → entryAt s k n i = entryAt s 0 n i := by
  have hflag : ∀ b : Bool, fbit (fset s TBL_RAW_CMD.MISMATCH (b2n b)) TBL_RAW_CMD.MISMATCH = b := by
    intro b
    rw [fbit, fget_fset_same _ _ _ (by decide)]
    cases b <;> rfl
  rw [rawCompareOp, hflag]
  simp [List.any_eq_false]

/-- Settles O31: each operation runs on the order's rest, and its end touches the raw command register alone. -/
theorem rawOperations : Obligations.RawOperations := by
  unfold Obligations.RawOperations
  intro front die table index ended
  have hended : ∀ {rest : List Submission} {u : State}, u.tbl.order = rest → ended rest (rawEnded u) := fun h =>
    ⟨rawEnded_busy _, rawEnded_op _, h⟩
  refine ⟨fun w e rest s hf hn hd hentry hkey hdata => ?_, fun w rest s hf hlow hhigh hn hd hvalid => ?_, fun w rest s hf => ?_⟩
  all_goals obtain ⟨hpow, horder, hop⟩ := hf
  · refine ⟨_, live_of_powered hpow fun s => rawHead s 1 rawReadOp, ?_⟩
    rw [rawHead_of_order horder hop, rawReadOp_of_some (s := popped s rest) hn hentry hkey hdata]
    obtain ⟨honly, hregs⟩ := setRawBuf_only (popped s rest) (rawShown (table w) e)
    refine ⟨hended ?_, rawBuf_setRawBuf _ (length_rawShown hkey hdata), ?_, ?_⟩
    · rw [honly]
      rfl
    · rw [rawEnded_tbl, honly]
      rfl
    · exact (getReg_rawEnded _ (by decide)).trans (hregs TBL_EPOCH (by decide))
  · refine ⟨_, live_of_powered hpow fun s => rawHead s 2 rawWriteOp, ?_⟩
    have hone : die w ≠ 15 := by omega
    have hbuckets : table w ≠ 7 := by omega
    have hrewritten := rawWriteOp_one_rewritten (s := popped s rest) hone hn hbuckets hvalid (index w)
    rw [rawHead_of_order horder hop]
    exact ⟨hended hrewritten.order, (getReg_rawEnded _ (by decide)).trans hrewritten.epoch,
      entryAt_rawWriteOp_one (s := popped s rest) hone hn hbuckets hvalid (index w),
      fun k _ hk => tcopy_rawWriteOp_one (s := popped s rest) hone hn hbuckets hvalid (index w) hk⟩
  · refine ⟨_, live_of_powered hpow fun s => rawHead s 3 rawCompareOp, ?_⟩
    rw [rawHead_of_order horder hop]
    refine ⟨hended rfl, rfl, ?_⟩
    rw [rawEnded_mismatch]
    exact rawCompareOp_mismatch (popped s rest) (die w) (table w) (index w)

end Sys2Proof.Machine
end

section
/-! SUPPORT. A SEARCH of a direct table for a key that a raw WRITE stored at another index: it refutes O29. -/

namespace Sys2Proof.Machine

open Claim

/-- The entry of endpoint 7: port 0. -/
def endpointSeven : Entry := { key := directKey 4 7, data := List.replicate 144 0 }

/-- SEARCH of table 4 for the key of endpoint 7. -/
def searchSeven : List Byte := [1, 4] ++ List.replicate 14 0 ++ directKey 4 7 ++ List.replicate 144 0

/-- A powered module in BASIC. -/
def basicState : State := { setMode State.reset mBASIC with sys := { powered := true } }

/-- The same after a raw WRITE to all four dies of the entry of endpoint 7 at index 5 of table 4, which raw WRITE does not check
(R186), with the SEARCH at the head of the order. -/
def misplacedState : State :=
  setTbl (rawWriteOp (setRawBuf basicState (rawShown 4 endpointSeven)) 15 4 5) fun t =>
    { t with order := [.cmd searchSeven none] }

/-- Copy 0 holds the entry at index 5. -/
theorem misplacedState_found : findKey (tcopy misplacedState 0 4) (directKey 4 7) = some (5, endpointSeven) := by decide +kernel

/-- Entry 7 of table 4 is absent, so the SEARCH completes with NOT_FOUND. -/
theorem misplacedState_code : fieldAt (resBytes (tblHead misplacedState 1 opSearch)) 0 1 = tcNOT_FOUND := by decide +kernel

/-- Refutes O29: its first clause takes the entry of a direct table by its KEY, and does not ask that the KEY spell the index. In
`misplacedState` it does not: SEARCH, which takes an entry of a direct table by its index (`keyEntry`), answers NOT_FOUND where the
clause asks for OK. -/
theorem not_tableCommands : ¬ Obligations.TableCommands := by
  unfold Obligations.TableCommands
  rintro ⟨hsearch, -⟩
  obtain ⟨t, ht, ⟨hok, -⟩, -⟩ := hsearch searchSeven 5 endpointSeven [] misplacedState (by decide +kernel) (by decide +kernel)
    (by decide +kernel) (by decide +kernel) (by decide +kernel) misplacedState_found (List.length_replicate ..)
  have hrun : Host.Outcome.next t = .next (tblHead misplacedState 1 opSearch) :=
    ht.symm.trans (live_of_powered rfl fun s => tblHead s 1 opSearch)
  rw [Host.Outcome.next.inj hrun, misplacedState_code] at hok
  exact absurd hok (by decide)

end Sys2Proof.Machine
end

section
/-! SUPPORT. A hand-over of buckets in a module of which no switch die is UP: it refutes O32. -/

namespace Sys2Proof.Machine

open Claim

/-- Buckets are handed over in the copies of the dies that are UP alone. -/
theorem handOver_of_allDown {s : State} (hdown : ∀ d < 4, dieUp s d = false) (g : Nat) : handOver s g = s := by
  have hnone : (List.range 4).filter (fun d => dieUp s d) = [] :=
    List.filter_eq_nil_iff.2 fun d hd => by simp [hdown d (List.mem_range.1 hd)]
  rw [handOver, hnone]
  rfl

/-- A link group of KIND 0 of two members, ports 0 and 1. -/
def twoPorts : Entry := { key := directKey 7 0, data := fit 144 [0, 2, 0, 0, 0, 0, 1, 0] }

/-- A powered module whose four switch dies are in RESET (R373) and whose port 0, not port 1, still reads UP; die 0's copy has
`twoPorts` as group 0. -/
def allDownState : State :=
  { fset ((List.range 4).foldl (fun s d => fset s (FLT_DIE.STATE d) 2) State.reset) (PRT_STATE.STATE 0) pUP with
    sys := { powered := true }
    tbl := { copies := [(7, [(0, twoPorts)])] } }

theorem allDownState_down : ∀ d < 4, dieUp allDownState d = false := by decide +kernel

theorem allDownState_group : direct allDownState (refDie allDownState) 7 0 = some twoPorts := by decide +kernel

/-- Port 0 is usable. -/
theorem allDownState_usable : 0 < lgCount twoPorts ∧ memberUsable allDownState (refDie allDownState) twoPorts 0 = true := by
  decide +kernel

/-- Bucket 1 is that of port 1, which is not. -/
theorem allDownState_bucket :
    memberUsable allDownState (refDie allDownState) twoPorts
      (bucketOf allDownState (refDie allDownState) 0 twoPorts 1) = false := by
  decide +kernel

/-- Refutes O32: its last clause asks neither that a switch die be UP nor that a port of one that is not read other than UP. In
`allDownState` no copy takes part in the hand-over (R191), and bucket 1 of group 0 stays with a member that is not usable, though
member 0 is. -/
theorem not_learningAndAging : ¬ Obligations.LearningAndAging := by
  unfold Obligations.LearningAndAging
  rintro ⟨-, -, -, hbuckets⟩
  obtain ⟨t, ht, hmoved, -⟩ := hbuckets 0 twoPorts allDownState rfl allDownState_group ⟨0, allDownState_usable⟩
  have hrun : Host.Outcome.next t = .next allDownState :=
    ht.symm.trans ((live_of_powered rfl fun s => handOver s 0).trans (congrArg _ (handOver_of_allDown allDownState_down 0)))
  obtain ⟨-, husable, -⟩ := hmoved 1 (by decide)
  rw [Host.Outcome.next.inj hrun] at husable
  exact Bool.false_ne_true (allDownState_bucket.symm.trans husable)

end Sys2Proof.Machine
end

section
/-! SUPPORT. Commands given by a write-only register, and commands that set the traffic manager alone. -/

namespace Sys2Proof.Machine

open Claim

/-! What a setting leaves. -/

/-- From `s` to `t` registers of `own` and the traffic manager's state changed, and nothing else. -/
def TmOnly (own : Nat → Bool) (s t : State) : Prop := regsBut own s t ∧ t = { s with regs := t.regs, tm := t.tm }

theorem TmOnly.trans {own : Nat → Bool} {s t u : State} (h : TmOnly own s t) (k : TmOnly own t u) : TmOnly own s u := by
  obtain ⟨hregs, hst⟩ := h
  obtain ⟨kregs, ktu⟩ := k
  refine ⟨hregs.trans kregs, ?_⟩
  rw [ktu, hst]

theorem TmOnly.setTm (own : Nat → Bool) (s : State) (f : TmSt → TmSt) : TmOnly own s (setTm s f) := ⟨fun _ _ => rfl, rfl⟩

theorem TmOnly.setReg {own : Nat → Bool} (s : State) {o : Nat} (ho : own o = true) (v : Word) : TmOnly own s (setReg s o v) :=
  ⟨regsBut_setReg s ho v, rfl⟩

theorem TmOnly.fset {own : Nat → Bool} (s : State) (f : Fld) (hf : own f.off = true) (v : Nat) : TmOnly own s (fset s f v) :=
  TmOnly.setReg s hf _

/-- A sweep of self-tests finds none after a setting. -/
theorem testSweep_of_tmOnly {own : Nat → Bool} {s t : State} (hfree : testFree s = true) (hown : own CTL_TEST_STAT = false)
    (h : TmOnly own s t) : testSweep t = t :=
  testSweep_of_kept hfree (h.1 _ hown) (by rw [h.2])

/-! Registers that only take commands (R6). -/

/-- Does the register at an offset keep nothing of a word written to it? -/
def WriteOnly (off : Nat) : Prop := ∃ d, findReg off = some d ∧ d.rw ||| d.rwl = 0 ∧ d.w1c = 0

theorem storeFields_of_writeOnly {d : RegDesc} (hrw : d.rw ||| d.rwl = 0) (hw1c : d.w1c = 0) (old w : Word) :
    storeFields d old w = old := by
  rw [storeFields_of_no_w1c hw1c, hrw, BitVec.not_zero, BitVec.and_allOnes, BitVec.and_zero, BitVec.or_zero]

/-- The module with a word of a write-only register taken, before its effect: every register reads as before. -/
def cmdTaken (s : State) (off : Nat) : State := setReg s off (getReg s off)

@[simp] theorem getReg_cmdTaken (s : State) (off o : Nat) : getReg (cmdTaken s off) o = getReg s o :=
  regsBut_setReg_getReg (fun _ => false) s off o rfl

@[simp] theorem fget_cmdTaken (s : State) (off : Nat) (f : Fld) : fget (cmdTaken s off) f = fget s f :=
  fget_of_getReg_eq (getReg_cmdTaken s off _)

@[simp] theorem fbit_cmdTaken (s : State) (off : Nat) (f : Fld) : fbit (cmdTaken s off) f = fbit s f := by
  rw [fbit, fget_cmdTaken, fbit]

@[simp] theorem cmdTaken_tbNs (s : State) (off : Nat) : (cmdTaken s off).tbNs = s.tbNs := rfl

@[simp] theorem cmdTaken_tm (s : State) (off : Nat) : (cmdTaken s off).tm = s.tm := rfl

theorem TmOnly.cmdTaken (own : Nat → Bool) (s : State) (off : Nat) : TmOnly own s (cmdTaken s off) :=
  ⟨regsBut_setReg_getReg own s off, rfl⟩

/-- An accepted command whose effect is a setting answers the setting. -/
theorem writeNum_of_tmOnly {own : Nat → Bool} {s t : State} {p : Fin 13} {off v : Nat}
    (hacc : accepts s p off (BitVec.ofNat 64 v) = true) (hwo : WriteOnly off)
    (hown : own CTL_TEST_STAT = false) (heffect : regEffect s (cmdTaken s off) p off (BitVec.ofNat 64 v) none = t)
    (ht : TmOnly own (cmdTaken s off) t) :
    writeNum p off v s = .next t ∧ TmOnly own s t := by
  obtain ⟨d, hd, hrw, hw1c⟩ := hwo
  have hst := (TmOnly.cmdTaken own s off).trans ht
  refine ⟨(writeWord_of_row hacc hd).trans ?_, hst⟩
  rw [storeFields_of_writeOnly hrw hw1c, ← cmdTaken, heffect, testSweep_of_tmOnly (testFree_of_accepts hacc) hown hst]

theorem writeOnly_mtrCmd : WriteOnly TM_MTR_CMD :=
  ⟨⟨TM_MTR_CMD, 8, 1, 0x0, 0x3, 0x0, 0x0, 0x0, 0x3⟩, by decide +kernel, rfl, rfl⟩

theorem writeOnly_nodeCmd : WriteOnly TM_NODE_CMD :=
  ⟨⟨TM_NODE_CMD, 8, 1, 0x0, 0x3, 0x0, 0x0, 0x0, 0x3⟩, by decide +kernel, rfl, rfl⟩

theorem writeOnly_wsetCmd : WriteOnly TM_WSET_CMD :=
  ⟨⟨TM_WSET_CMD, 8, 1, 0x0, 0x8000000003FF03FF, 0x0, 0x0, 0x0, 0x8000000003FF03FF⟩, by decide +kernel, rfl, rfl⟩

theorem writeOnly_gateCmd (L : Fin 1024) : WriteOnly (PRT_GATE_CMD L) :=
  ⟨⟨0x390, 8, 1, 0x0, 0x37F, 0x0, 0x0, 0x0, 0x37F⟩, (findReg_page (c := 0x390) L.isLt (by decide)).trans (by decide), rfl, rfl⟩

end Sys2Proof.Machine
end

section
/-! SUPPORT. Traffic management settings (R198, R204 to R210): they settle O33. -/

namespace Sys2Proof.Machine

open Claim

/-! Meters (R198). -/

theorem meter_setMeter (s : State) (m k : Nat) (x : Meter) : meter (setMeter s m x) k = if k = m then x else meter s k :=
  tget_tset _ _ _ _ _

/-- A meter given both configuration words, with full buckets from `now` on. -/
def filledMeter (now : Nat) (c0 c1 : Word) (x : Meter) : Meter :=
  { x with cfg0 := c0, cfg1 := c1, tc := wget c1 TM_MTR_CFG1.CBS * 8000, tp := wget c1 TM_MTR_CFG1.PBS * 8000, stamp := now }

/-- A WRITE fills the selected meter and leaves the others. -/
theorem meter_mtrWrite (s : State) (k : Nat) :
    meter (mtrWrite s) k =
      if k = fget s TM_MTR_SEL.INDEX then filledMeter s.now (getReg s TM_MTR_CFG0) (getReg s TM_MTR_CFG1) (meter s k)
      else meter s k := by
  rw [mtrWrite, meter_setMeter]
  split
  · next h => rw [h]; rfl
  · rfl

theorem mtrWrite_tmOnly (own : Nat → Bool) (s : State) : TmOnly own s (mtrWrite s) := TmOnly.setTm own s _

/-- The registers that a READ shows a meter in. -/
def mtrReg (o : Nat) : Bool := o == TM_MTR_CFG0 || o == TM_MTR_CFG1 || (TM_MTR_CNT_G ≤ o && o ≤ TM_MTR_CNT_R)

theorem mtrRead_tmOnly (s : State) : TmOnly mtrReg s (mtrRead s) :=
  ((((TmOnly.setReg s (by decide) _).trans (TmOnly.setReg _ (by decide) _)).trans (TmOnly.setReg _ (by decide) _)).trans
    (TmOnly.setReg _ (by decide) _)).trans (TmOnly.setReg _ (by decide) _)

/-- A READ shows the selected meter's configuration and counts. -/
theorem getReg_mtrRead (s : State) :
    getReg (mtrRead s) TM_MTR_CFG0 = (meter s (fget s TM_MTR_SEL.INDEX)).cfg0 ∧
      getReg (mtrRead s) TM_MTR_CFG1 = (meter s (fget s TM_MTR_SEL.INDEX)).cfg1 ∧
      getReg (mtrRead s) TM_MTR_CNT_G = (meter s (fget s TM_MTR_SEL.INDEX)).green ∧
      getReg (mtrRead s) TM_MTR_CNT_Y = (meter s (fget s TM_MTR_SEL.INDEX)).yellow ∧
      getReg (mtrRead s) TM_MTR_CNT_R = (meter s (fget s TM_MTR_SEL.INDEX)).red := by
  simp [mtrRead, getReg_setReg, TM_MTR_CFG0, TM_MTR_CFG1, TM_MTR_CNT_G, TM_MTR_CNT_Y, TM_MTR_CNT_R]

/-! Nodes (R204, R206, R207). -/

/-- A key that is not set reads as before, whatever the default of the key that is. -/
theorem tget_tset_of_ne {α : Type} [DecidableEq α] (d e : α) (t : Tab α) {i j : Nat} (h : j ≠ i) (v : α) :
    tget d (tset e t i v) j = tget d t j := by
  unfold tset
  split
  · rw [tget_tdel, if_neg h]
  · rw [tget_tput _ _ _ _ (mem_tdel t i), if_neg h, tget_tdel, if_neg h]

@[simp] theorem node_setNode_same (s : State) (k : Nat) (x : Node) : node (setNode s k x) k = x := tget_tset_same _ _ _ _

theorem node_setNode_ne (s : State) {j k : Nat} (h : j ≠ k) (x : Node) : node (setNode s k x) j = node s j :=
  tget_tset_of_ne _ _ _ h x

/-- A WRITE of a service node, whatever SUB selects (R204), sets its data, tokens and deficit. -/
theorem nodeWrite_service {s : State} (h : fget s TM_NODE_SEL.LEVEL = 1) :
    ∃ k, k = nodeKey 1 (fget s TM_NODE_SEL.PORT) (fget s TM_NODE_SEL.CHAN) 0 ∧
      nodeWrite s = setNode s k
        { node s k with
          data := getReg s TM_NODE_DATA
          tok := if fbit s TM_SHP.RESET_MODE then 0 else fget s TM_NODE_DATA.BURST * 8000
          stamp := s.now
          deficit := min (node s k).deficit (fget s TM_NODE_DATA.WEIGHT * 1024) } := by
  refine ⟨_, rfl, ?_⟩
  rw [nodeWrite, h]
  rfl

/-- The registers that a READ shows a node in. -/
def nodeReg (o : Nat) : Bool := o == TM_NODE_DATA || o == TM_NODE_TOK

theorem nodeRead_tmOnly (s : State) : TmOnly nodeReg s (nodeRead s) :=
  (TmOnly.setReg s (by decide) _).trans (TmOnly.setReg _ (by decide) _)

/-- Accruing tokens leaves a node's settings. -/
theorem nodeAccrue_data (s : State) (x : Node) : (nodeAccrue s x).data = x.data := by
  rw [nodeAccrue]
  split <;> rfl

theorem getReg_nodeRead (s : State) :
    getReg (nodeRead s) TM_NODE_DATA = (node s (nodeKey (fget s TM_NODE_SEL.LEVEL) (fget s TM_NODE_SEL.PORT)
      (fget s TM_NODE_SEL.CHAN) (fget s TM_NODE_SEL.SUB))).data := by
  rw [nodeRead, getReg_setReg_ne _ (by decide), getReg_setReg_same, nodeAccrue_data]

/-! Weight sets (R205, R207). -/

/-- The fields of a word of `TM_WSET_CMD` with GO. -/
theorem wsetGo_fields (a b : Fin 1024) {w : Word} (hw : w = BitVec.ofNat 64 (2 ^ 63 + b.val * 2 ^ 16 + a.val)) :
    wbit w TM_WSET_CMD.GO = true ∧ wget w TM_WSET_CMD.FIRST = a ∧ wget w TM_WSET_CMD.LAST = b := by
  have hnat : w.toNat = 2 ^ 63 + b.val * 2 ^ 16 + a.val := by
    rw [hw, BitVec.toNat_ofNat, Nat.mod_eq_of_lt (by omega)]
  simp only [wbit, wget, bits, hnat, TM_WSET_CMD.GO, TM_WSET_CMD.FIRST, TM_WSET_CMD.LAST, beq_iff_eq]
  refine ⟨?_, ?_, ?_⟩ <;> omega

theorem wsetStart_tmOnly (s : State) (a b : Nat) : TmOnly (· == TM_WSET_STAT) s (wsetStart s a b) :=
  (TmOnly.setTm _ s _).trans (TmOnly.fset _ TM_WSET_STAT.BUSY rfl _)

theorem wsetStart_busy (s : State) (a b : Nat) : fbit (wsetStart s a b) TM_WSET_STAT.BUSY = true := by
  rw [fbit, wsetStart, fget_fset_same _ _ _ (by decide)]
  rfl

@[simp] theorem wsetWeight_cmdTaken (s : State) (off : Nat) : wsetWeight (cmdTaken s off) = wsetWeight s := by
  funext c
  rw [wsetWeight, getReg_cmdTaken, wsetWeight]

/-- A service node of channel c with the weight and the strict mark of the set being applied. -/
def wsetNode (s : State) (c : Nat) (x : Node) : Node :=
  { x with data := putBits x.data 0 9 (s.tm.wWeights.getD c 0 + 256 * b2n (bit s.tm.wMask c))
           deficit := min x.deficit (s.tm.wWeights.getD c 0 * 1024) }

/-- The set replaces weight and strict mark, and leaves RATE and the tokens. -/
theorem wsetNode_fields {s : State} {c : Nat} (hw : s.tm.wWeights.getD c 0 < 256) (x : Node) :
    nWeight (wsetNode s c x) = s.tm.wWeights.getD c 0 ∧ nStrict (wsetNode s c x) = bit s.tm.wMask c ∧
      (wsetNode s c x).tok = x.tok ∧ nRate (wsetNode s c x) = nRate x := by
  have hflag : ∀ b : Bool, b2n b < 2 ∧ (b2n b == 1) = b := by decide
  obtain ⟨hlt, hstrict⟩ := hflag (bit s.tm.wMask c)
  have hlow := bits_putBits_same x.data 0 9 (s.tm.wWeights.getD c 0 + 256 * b2n (bit s.tm.wMask c)) (by decide)
  refine ⟨?_, ?_, rfl, bits_putBits_disj _ _ _ _ _ _ (.inr (by decide))⟩
  · simp only [bits] at hlow
    simp only [nWeight, wget, wsetNode, bits, TM_NODE_DATA.WEIGHT]
    omega
  · refine (congrArg (a₂ := b2n (bit s.tm.wMask c)) (· == 1) ?_).trans hstrict
    simp only [bits] at hlow
    simp only [wget, wsetNode, bits, TM_NODE_DATA.STRICT]
    omega

/-- From `s` to `t` nodes alone changed. -/
def NodesOnly (s t : State) : Prop := t = { s with tm := { s.tm with nodes := t.tm.nodes } }

theorem NodesOnly.trans {s t u : State} (h : NodesOnly s t) (k : NodesOnly t u) : NodesOnly s u := by
  unfold NodesOnly at *
  rw [k, h]

theorem NodesOnly.isPort_eq {s t : State} (h : NodesOnly s t) (L : Nat) : isPort t L = isPort s L := by
  rw [h]
  rfl

theorem NodesOnly.wsetNode_eq {s t : State} (h : NodesOnly s t) : wsetNode t = wsetNode s := by
  rw [h]
  rfl

theorem NodesOnly.tmOnly {s t : State} (h : NodesOnly s t) (own : Nat → Bool) : TmOnly own s t := by
  rw [h]
  exact TmOnly.setTm own s fun x => { x with nodes := t.tm.nodes }

/-- Where one step of a fold alone touches a part of the state, the fold makes of the part what that step makes of it. -/
theorem forRange_at {β : Type} {P : State → Prop} {f : State → Nat → State} (g : State → β) (h : β → β) {n i : Nat} (hi : i < n)
    (hkeep : ∀ t j, P t → P (f t j)) (hother : ∀ t, ∀ j ≠ i, g (f t j) = g t) (hat : ∀ t, P t → g (f t i) = h (g t)) {s : State}
    (hs : P s) : g (forRange n s f) = h (g s) := by
  induction n with
  | zero => omega
  | succ n ih =>
    rw [forRange_succ]
    rcases Nat.lt_succ_iff_lt_or_eq.1 hi with hlt | rfl
    · rw [hother _ _ (by omega), ih hlt]
    · have hbefore : g (forRange i s f) = g s :=
        forRange_keeps (P := fun t => g t = g s) (fun t j hj h => (hother t j (by omega)).trans h) rfl
      rw [hat _ (forRange_keeps (fun t j _ => hkeep t j) hs), hbefore]

/-- Service nodes of different ports or channels have different keys. -/
theorem serviceKey_inj {L c L' c' : Nat} (hc : c < 16) (hc' : c' < 16) (h : nodeKey 1 L c 0 = nodeKey 1 L' c' 0) :
    L = L' ∧ c = c' := by
  simp only [nodeKey] at h
  omega

/-- The set applied to one channel of a port. -/
def wsetChan (L : Nat) (s : State) (c : Nat) : State :=
  setNode s (nodeKey 1 L c 0) (wsetNode s c (node s (nodeKey 1 L c 0)))

theorem wsetPort_eq (s : State) (L : Nat) : wsetPort s L = forRange 16 s (wsetChan L) := rfl

theorem wsetChan_nodesOnly (L : Nat) (s : State) (c : Nat) : NodesOnly s (wsetChan L s c) := rfl

theorem wsetPort_nodesOnly (s : State) (L : Nat) : NodesOnly s (wsetPort s L) :=
  forRange_keeps (P := NodesOnly s) (fun t c _ h => h.trans (wsetChan_nodesOnly L t c)) rfl

/-- The set applied to a port reaches each of its service nodes. -/
theorem node_wsetPort_same (s : State) (L : Nat) {c : Nat} (hc : c < 16) :
    node (wsetPort s L) (nodeKey 1 L c 0) = wsetNode s c (node s (nodeKey 1 L c 0)) := by
  rw [wsetPort_eq]
  refine forRange_at (P := NodesOnly s) (fun t => node t (nodeKey 1 L c 0)) (wsetNode s c) hc
    (fun t j h => h.trans (wsetChan_nodesOnly L t j)) (fun t j hj => node_setNode_ne t (fun h => hj ?_) _) (fun t h => ?_) rfl
  · simp only [nodeKey] at h
    omega
  · rw [wsetChan, node_setNode_same, h.wsetNode_eq]

/-- It leaves those of another port. -/
theorem node_wsetPort_ne (s : State) {L L' c : Nat} (hc : c < 16) (hL : L ≠ L') :
    node (wsetPort s L') (nodeKey 1 L c 0) = node s (nodeKey 1 L c 0) :=
  forRange_keeps (f := wsetChan L') (P := fun t => node t (nodeKey 1 L c 0) = node s (nodeKey 1 L c 0))
    (fun t _ hj h => (node_setNode_ne t (fun heq => hL (serviceKey_inj hc hj heq).1) _).trans h) rfl

/-- The set applied to the i-th lane from `first` on, where it names a port. -/
def wsetLane (first : Nat) (s : State) (i : Nat) : State := if isPort s (first + i) then wsetPort s (first + i) else s

theorem wsetLane_nodesOnly (first : Nat) (s : State) (i : Nat) : NodesOnly s (wsetLane first s i) := by
  unfold wsetLane
  split
  · exact wsetPort_nodesOnly s _
  · rfl

theorem node_wsetLane_ne (s : State) {first i L c : Nat} (hc : c < 16) (hL : L ≠ first + i) :
    node (wsetLane first s i) (nodeKey 1 L c 0) = node s (nodeKey 1 L c 0) := by
  unfold wsetLane
  split
  · exact node_wsetPort_ne s hc hL
  · rfl

/-- The module with the set applied to every port of its range. -/
def wsetApplied (s : State) : State := forRange (s.tm.wLast + 1 - s.tm.wFirst) s (wsetLane s.tm.wFirst)

theorem wsetApplied_nodesOnly (s : State) : NodesOnly s (wsetApplied s) :=
  forRange_keeps (P := NodesOnly s) (fun t i _ h => h.trans (wsetLane_nodesOnly _ t i)) rfl

/-- Each service node of a port of the range has the set. -/
theorem node_wsetApplied {s : State} {L c : Nat} (hc : c < 16) (hfirst : s.tm.wFirst ≤ L) (hlast : L ≤ s.tm.wLast)
    (hport : isPort s L = true) : node (wsetApplied s) (nodeKey 1 L c 0) = wsetNode s c (node s (nodeKey 1 L c 0)) := by
  have hlane : s.tm.wFirst + (L - s.tm.wFirst) = L := by omega
  refine forRange_at (P := NodesOnly s) (i := L - s.tm.wFirst) (fun t => node t (nodeKey 1 L c 0)) (wsetNode s c) (by omega)
    (fun t i h => h.trans (wsetLane_nodesOnly _ t i)) (fun t i hi => node_wsetLane_ne t hc (by omega)) (fun t h => ?_) rfl
  rw [wsetLane, hlane, h.isPort_eq, hport, if_pos rfl, node_wsetPort_same t L hc, h.wsetNode_eq]

theorem wsetFinish_of_wset {s : State} (h : s.tm.wset = true) :
    wsetFinish s = fset (setTm (wsetApplied s) fun t => { t with wset := false }) TM_WSET_STAT.BUSY 0 := by
  rw [wsetFinish, if_pos h]
  rfl

theorem wsetFinish_tmOnly {s : State} (h : s.tm.wset = true) : TmOnly (· == TM_WSET_STAT) s (wsetFinish s) := by
  rw [wsetFinish_of_wset h]
  exact (((wsetApplied_nodesOnly s).tmOnly _).trans (TmOnly.setTm _ _ _)).trans (TmOnly.fset _ TM_WSET_STAT.BUSY rfl _)

theorem node_wsetFinish {s : State} (h : s.tm.wset = true) (k : Nat) : node (wsetFinish s) k = node (wsetApplied s) k := by
  rw [wsetFinish_of_wset h]
  rfl

theorem wsetFinish_idle {s : State} (h : s.tm.wset = true) : fbit (wsetFinish s) TM_WSET_STAT.BUSY = false := by
  rw [wsetFinish_of_wset h, fbit, fget_fset_same _ _ _ (by decide)]
  rfl

/-! Gate lists (R208 to R210). -/

theorem gate_setGate_same (s : State) (L : Nat) (f : GateSt → GateSt) : gate (setGate s L f) L = f (gate s L) :=
  tget_tset_same _ _ _ _

@[simp] theorem gate_fset (s : State) (f : Fld) (v L : Nat) : gate (fset s f v) L = gate s L := rfl

@[simp] theorem fget_setGate (s : State) (L : Nat) (g : GateSt → GateSt) (f : Fld) : fget (setGate s L g) f = fget s f := rfl

theorem TmOnly.setGate (own : Nat → Bool) (s : State) (L : Nat) (f : GateSt → GateSt) : TmOnly own s (setGate s L f) :=
  TmOnly.setTm own s _

theorem TmOnly.gateStat {L : Nat} {s t : State} (h : TmOnly (fun o => o == PRT_GATE_STAT L) s t) {f : Fld}
    (hf : f.off = PRT_GATE_STAT L) (v : Nat) : TmOnly (fun o => o == PRT_GATE_STAT L) s (Machine.fset t f v) :=
  h.trans (TmOnly.fset (own := fun o => o == PRT_GATE_STAT L) t f (beq_iff_eq.2 hf) v)

theorem gateStat_ne_testStat (L : Nat) : (CTL_TEST_STAT == PRT_GATE_STAT L) = false := by
  rw [beq_eq_false_iff_ne]
  unfold CTL_TEST_STAT PRT_GATE_STAT portPage
  omega

/-- Of the effects, a write of a port's gate command has that of chapter 8. -/
theorem regEffect_gateCmd (L : Fin 1024) (old s : State) (p : Nat) (w : Word) (e : Option (List Byte)) :
    regEffect old s p (PRT_GATE_CMD L) w e =
      if wbit w (PRT_GATE_CMD.COMMIT 0) then gateCommit s L (wget w (PRT_GATE_CMD.LEN 0))
      else if wbit w (PRT_GATE_CMD.CANCEL 0) then gateCancel s L else s := by
  have hlow : ∀ n, n ≤ 0x1000000 → ¬ PRT_GATE_CMD L < n := by
    intro n hn
    unfold PRT_GATE_CMD portPage
    omega
  have hpage : inPortPage (PRT_GATE_CMD L) = true := inPortPage_page (c := 0x390) L.isLt (by decide)
  have hplace : PRT_GATE_CMD L % 0x1000 = 0x390 := page_offset L (by decide)
  have hport : ∀ t, portEffect t (PRT_GATE_CMD L) w = t := by
    intro t
    simp [portEffect, hpage, hplace]
  rw [regEffect, if_neg (hlow _ (by decide)), if_neg (hlow _ (by decide)), if_neg (hlow _ (by decide)),
    if_neg (hlow _ (by decide)), if_neg (hlow _ (by decide)), if_pos hpage, hport, tmEffect, hpage, hplace,
    show pageOf (PRT_GATE_CMD L) = L from pageOf_page L (by decide)]
  rfl

/-- The fields of a COMMIT word. -/
theorem gateCommit_fields (n : BitVec 7) {w : Word} (hw : w = BitVec.ofNat 64 (2 ^ 8 + n.toNat)) :
    wbit w (PRT_GATE_CMD.COMMIT 0) = true ∧ wget w (PRT_GATE_CMD.LEN 0) = n.toNat := by
  have hn := n.isLt
  have hnat : w.toNat = 2 ^ 8 + n.toNat := by rw [hw, BitVec.toNat_ofNat, Nat.mod_eq_of_lt (by omega)]
  simp only [wbit, wget, bits, hnat, PRT_GATE_CMD.COMMIT, PRT_GATE_CMD.LEN, beq_iff_eq]
  constructor <;> omega

/-- No accepted write has a value that chapter 8 puts out of range. -/
theorem tmRange_of_accepted {s : State} {p off : Nat} {w : Word} (h : writeReason s p off w = 0) : tmRange s off w = false := by
  by_contra hbad
  rw [Bool.not_eq_false] at hbad
  have hrange : rangeBad s off w = true := by simp only [rangeBad, hbad, Bool.or_true, Bool.true_or]
  unfold writeReason at h
  split at h
  · cases h
  · rw [hrange, if_pos rfl] at h
    split at h <;> cases h

/-- The cycle of a COMMIT of entries that is in range is not 0 (R209). -/
theorem gateCycle_pos_of_tmRange {s : State} {L : Fin 1024} {w : Word} (h : tmRange s (PRT_GATE_CMD L) w = false)
    (hcommit : wbit w (PRT_GATE_CMD.COMMIT 0) = true) (hone : 1 ≤ wget w (PRT_GATE_CMD.LEN 0)) :
    0 < gateCycle s L (1 - fget s (PRT_GATE_STAT.BANK L)) (wget w (PRT_GATE_CMD.LEN 0)) := by
  rw [tmRange, show inPortPage (PRT_GATE_CMD L) = true from inPortPage_page (c := 0x390) L.isLt (by decide),
    show pageOf (PRT_GATE_CMD L) = L from pageOf_page L (by decide),
    show PRT_GATE_CMD L % 0x1000 = 0x390 from page_offset L (by decide)] at h
  simp [hcommit] at h
  omega

/-- The switch time of a commit is 10 µs ahead or later (R210). -/
theorem le_gateSwitchTime {s : State} {L b n : Nat} (h : 1 ≤ n → 0 < gateCycle s L b n) :
    s.tbNs + 10000 ≤ gateSwitchTime s L b n := by
  rw [gateSwitchTime]
  dsimp only
  split
  · exact le_max_right _ _
  · next hn =>
    have hcy := h (Nat.one_le_iff_ne_zero.2 (by simpa using hn))
    split
    · assumption
    · generalize gateCycle s L b n = cy at hcy
      have hup : s.tbNs + 10000 - gateBase s L ≤ ceilDiv (s.tbNs + 10000 - gateBase s L) cy * cy := by
        have := Nat.lt_div_mul_add (a := s.tbNs + 10000 - gateBase s L + cy - 1) hcy
        unfold ceilDiv
        omega
      omega

theorem gateCycle_cmdTaken (s : State) (off L b n : Nat) : gateCycle (cmdTaken s off) L b n = gateCycle s L b n := by
  simp [gateCycle]

/-- What a COMMIT shows and makes pending. -/
theorem gateCommit_spec (s : State) (L n : Nat) :
    (gate (gateCommit s L n) L).pend = true ∧ (gate (gateCommit s L n) L).pendLen = n ∧
      (gate (gateCommit s L n) L).switchAt = gateSwitchTime s L (1 - fget s (PRT_GATE_STAT.BANK L)) n ∧
      fbit (gateCommit s L n) (PRT_GATE_STAT.PENDING L) = true ∧
      fget (gateCommit s L n) (PRT_GATE_STAT.BANK L) = fget s (PRT_GATE_STAT.BANK L) ∧
      TmOnly (fun o => o == PRT_GATE_STAT L) s (gateCommit s L n) := by
  rw [gateCommit]
  refine ⟨?_, ?_, ?_, ?_, ?_, (TmOnly.setGate _ s L _).gateStat rfl _⟩
  · rw [gate_fset, gate_setGate_same]
  · rw [gate_fset, gate_setGate_same]
  · rw [gate_fset, gate_setGate_same]
  · rw [fbit, fget_fset_same _ _ _ (show 48 + 1 ≤ 64 by decide)]
    rfl
  · rw [fget_fset_ne _ _ _ _ (.inr (.inl (show 40 + 1 ≤ 48 by decide))), fget_setGate]

/-- A CANCEL leaves no commit pending. -/
theorem gateCancel_spec (s : State) (L : Nat) :
    (gate (gateCancel s L) L).pend = false ∧ fbit (gateCancel s L) (PRT_GATE_STAT.PENDING L) = false ∧
      TmOnly (fun o => o == PRT_GATE_STAT L) s (gateCancel s L) := by
  rw [gateCancel]
  refine ⟨?_, ?_, (TmOnly.setGate _ s L _).gateStat rfl _⟩
  · rw [gate_fset, gate_setGate_same]
  · rw [fbit, fget_fset_same _ _ _ (show 48 + 1 ≤ 64 by decide)]
    rfl

/-- A due switch takes the other bank and the pending LEN, and starts entry 0 at the switch time. -/
theorem gateSwitch_spec {s : State} {L : Nat} (hpend : (gate s L).pend = true) (hdue : (gate s L).switchAt ≤ s.tbNs)
    (hlen : (gate s L).pendLen ≤ 64) :
    fget (gateSwitch s L) (PRT_GATE_STAT.BANK L) = 1 - fget s (PRT_GATE_STAT.BANK L) ∧
      fget (gateSwitch s L) (PRT_GATE_STAT.LEN L) = (gate s L).pendLen ∧
      fget (gateSwitch s L) (PRT_GATE_STAT.ENTRY L) = 0 ∧ (gate (gateSwitch s L) L).pend = false ∧
      (gate (gateSwitch s L) L).entryAt = (gate s L).switchAt ∧ TmOnly (fun o => o == PRT_GATE_STAT L) s (gateSwitch s L) := by
  rw [gateSwitch]
  dsimp only
  rw [if_pos (by simp [hpend, hdue])]
  refine ⟨?_, ?_, ?_, ?_, ?_,
    ((((TmOnly.setGate _ s L _).gateStat rfl _).gateStat rfl _).gateStat rfl _).gateStat rfl _⟩
  · rw [fget_fset_ne _ _ _ _ (.inr (.inr (show 0 + 6 ≤ 40 by decide))),
      fget_fset_ne _ _ _ _ (.inr (.inr (show 32 + 7 ≤ 40 by decide))), fget_fset_same _ _ _ (show 40 + 1 ≤ 64 by decide),
      fget_setGate]
    exact Nat.mod_eq_of_lt (show 1 - fget s (PRT_GATE_STAT.BANK L) < 2 by omega)
  · rw [fget_fset_ne _ _ _ _ (.inr (.inr (show 0 + 6 ≤ 32 by decide))), fget_fset_same _ _ _ (show 32 + 7 ≤ 64 by decide)]
    exact Nat.mod_eq_of_lt (show (gate s L).pendLen < 128 by omega)
  · rw [fget_fset_same _ _ _ (show 0 + 6 ≤ 64 by decide), Nat.zero_mod]
  · simp only [gate_fset, gate_setGate_same]
  · simp only [gate_fset, gate_setGate_same]

/-- Once the current entry has run, the next one of the list follows. -/
theorem gateStep_spec {s : State} {L : Nat} (hone : 1 ≤ fget s (PRT_GATE_STAT.LEN L)) (hlen : fget s (PRT_GATE_STAT.LEN L) ≤ 64)
    (hrun : (gate s L).entryAt +
      fget s (TM_GCL.DURATION L (fget s (PRT_GATE_STAT.BANK L)) (fget s (PRT_GATE_STAT.ENTRY L))) ≤ s.tbNs) :
    fget (gateStep s L) (PRT_GATE_STAT.ENTRY L) = (fget s (PRT_GATE_STAT.ENTRY L) + 1) % fget s (PRT_GATE_STAT.LEN L) ∧
      TmOnly (fun o => o == PRT_GATE_STAT L) s (gateStep s L) := by
  rw [gateStep]
  rw [if_neg (by simp; omega)]
  refine ⟨?_, (TmOnly.setGate _ s L _).gateStat rfl _⟩
  rw [fget_fset_same _ _ _ (show 0 + 6 ≤ 64 by decide)]
  exact Nat.mod_eq_of_lt (lt_of_lt_of_le (Nat.mod_lt _ hone) hlen)

/-- Settles O33: each command's effect is a setting, read by the lemmas about it. -/
theorem trafficSettings : Obligations.TrafficSettings := by
  unfold Obligations.TrafficSettings
  intro tmOnly
  refine ⟨fun p s hacc => ?_, fun p s hacc => ?_, fun p s hacc hlevel => ?_, fun p s hacc => ?_, fun p a b s hacc => ?_,
    fun L c s hpow hwset hfirst hlast hport hweight => ?_, fun p L n s hacc => ?_, fun p L s hacc => ?_,
    fun L s hpow hpend hdue hlen => ?_, fun L s hpow hone hlen hrun => ?_⟩
  · obtain ⟨hnext, honly⟩ := writeNum_of_tmOnly (v := 1) (t := mtrWrite _) hacc writeOnly_mtrCmd rfl rfl
      (mtrWrite_tmOnly (fun _ => false) (cmdTaken s TM_MTR_CMD))
    have hmeter := meter_mtrWrite (cmdTaken s TM_MTR_CMD)
    simp only [fget_cmdTaken, getReg_cmdTaken] at hmeter
    refine ⟨_, hnext, ?_⟩
    dsimp only
    rw [hmeter, if_pos rfl]
    exact ⟨rfl, rfl, rfl, rfl, rfl, rfl, fun k hk => (hmeter k).trans (if_neg hk), honly⟩
  · obtain ⟨hnext, honly⟩ := writeNum_of_tmOnly (v := 2) hacc writeOnly_mtrCmd (by decide) rfl
      (mtrRead_tmOnly (cmdTaken s TM_MTR_CMD))
    obtain ⟨hcfg0, hcfg1, hgreen, hyellow, hred⟩ := getReg_mtrRead (cmdTaken s TM_MTR_CMD)
    rw [fget_cmdTaken] at hcfg0 hcfg1 hgreen hyellow hred
    exact ⟨_, hnext, hcfg0, hcfg1, hgreen, hyellow, hred, honly⟩
  · obtain ⟨k, hk, hwrite⟩ := nodeWrite_service (s := cmdTaken s TM_NODE_CMD) ((fget_cmdTaken _ _ _).trans hlevel)
    simp only [fget_cmdTaken, fbit_cmdTaken, getReg_cmdTaken] at hk hwrite
    obtain ⟨hnext, honly⟩ := writeNum_of_tmOnly (v := 1) hacc writeOnly_nodeCmd rfl hwrite (TmOnly.setTm (fun _ => false) _ _)
    refine ⟨_, hnext, ?_⟩
    dsimp only
    rw [← hk, node_setNode_same]
    exact ⟨rfl, rfl, rfl, fun j hj => node_setNode_ne _ hj _, honly⟩
  · obtain ⟨hnext, honly⟩ := writeNum_of_tmOnly (v := 2) hacc writeOnly_nodeCmd (by decide) rfl
      (nodeRead_tmOnly (cmdTaken s TM_NODE_CMD))
    have hdata := getReg_nodeRead (cmdTaken s TM_NODE_CMD)
    simp only [fget_cmdTaken] at hdata
    exact ⟨_, hnext, hdata, honly⟩
  · obtain ⟨hgo, hfirst, hlast⟩ := wsetGo_fields a b rfl
    have heffect : regEffect s (cmdTaken s TM_WSET_CMD) p TM_WSET_CMD (BitVec.ofNat 64 (2 ^ 63 + b.val * 2 ^ 16 + a.val)) none =
        wsetStart (cmdTaken s TM_WSET_CMD) a b :=
      (if_pos hgo).trans (by rw [hfirst, hlast])
    obtain ⟨hnext, honly⟩ := writeNum_of_tmOnly hacc writeOnly_wsetCmd (by decide) heffect (wsetStart_tmOnly _ a b)
    refine ⟨_, hnext, ?_, wsetStart_busy _ a b, honly⟩
    rw [wsetStart, fset_tm, setTm_tm, wsetWeight_cmdTaken, fget_cmdTaken, cmdTaken_tm]
  · obtain ⟨hw, hstrict, htok, hrate⟩ := wsetNode_fields hweight (node s (nodeKey 1 L c 0))
    refine ⟨_, live_of_powered hpow wsetFinish, ?_⟩
    dsimp only
    rw [node_wsetFinish hwset, node_wsetApplied c.isLt hfirst hlast hport]
    exact ⟨hw, hstrict, htok, hrate, wsetFinish_idle hwset, wsetFinish_tmOnly hwset⟩
  · obtain ⟨hcommit, hlen⟩ := gateCommit_fields n rfl
    have heffect := regEffect_gateCmd L s (cmdTaken s (PRT_GATE_CMD L)) p (BitVec.ofNat 64 (2 ^ 8 + n.toNat)) none
    rw [if_pos hcommit, hlen] at heffect
    obtain ⟨hpend, hpendLen, hswitch, hpending, hbank, htm⟩ := gateCommit_spec (cmdTaken s (PRT_GATE_CMD L)) L n.toNat
    obtain ⟨hnext, honly⟩ := writeNum_of_tmOnly (own := fun o => o == PRT_GATE_STAT L) hacc (writeOnly_gateCmd L)
      (gateStat_ne_testStat L) heffect htm
    refine ⟨_, hnext, hpend, hpendLen, ?_, hpending, hbank.trans (fget_cmdTaken _ _ _), honly⟩
    rw [hswitch, fget_cmdTaken, ← cmdTaken_tbNs s (PRT_GATE_CMD L)]
    refine le_gateSwitchTime fun hone => ?_
    obtain ⟨-, -, hreason, -, -⟩ := accepts_iff.1 hacc
    rw [gateCycle_cmdTaken, ← hlen]
    exact gateCycle_pos_of_tmRange (tmRange_of_accepted hreason) hcommit (hlen.symm ▸ hone)
  · have heffect := regEffect_gateCmd L s (cmdTaken s (PRT_GATE_CMD L)) p (BitVec.ofNat 64 (2 ^ 9)) none
    rw [if_neg (by decide), if_pos (by decide)] at heffect
    obtain ⟨hpend, hpending, htm⟩ := gateCancel_spec (cmdTaken s (PRT_GATE_CMD L)) L
    obtain ⟨hnext, honly⟩ := writeNum_of_tmOnly (own := fun o => o == PRT_GATE_STAT L) hacc (writeOnly_gateCmd L)
      (gateStat_ne_testStat L) heffect htm
    exact ⟨_, hnext, hpend, hpending, honly⟩
  · exact ⟨_, live_of_powered hpow fun s => gateSwitch s L, gateSwitch_spec hpend hdue hlen⟩
  · exact ⟨_, live_of_powered hpow fun s => gateStep s L, gateStep_spec hone hlen hrun⟩

end Sys2Proof.Machine
end

section
/-! SUPPORT. A commit of the slot map that comes due (R220, R231) while a MODULE test runs (R470): it refutes O35. -/

namespace Sys2Proof.Machine

open Claim

/-! A new operational map (R220, R231). -/

/-- Registers that a new operational map may touch: those that show it, and those of the traffic that is lost. -/
def mapReg (o : Nat) : Bool := lossReg o || o == BYP_STAT || (BYP_LANE 0 ≤ o && o < BYP_LANE 1024)

theorem mapReg_lane {L : Nat} (hL : L < 1024) : mapReg (BYP_LANE L) = true := by
  have hlane : (decide (BYP_LANE 0 ≤ BYP_LANE L) && decide (BYP_LANE L < BYP_LANE 1024)) = true := by
    unfold BYP_LANE
    rw [Bool.and_eq_true, decide_eq_true_eq, decide_eq_true_eq]
    omega
  simp [mapReg, hlane]

/-- From `s` to `t` registers and ports followed the operational map, traffic was lost, and nothing else happened. -/
def MapShown (s t : State) : Prop :=
  t = { s with regs := t.regs, ports := t.ports, core := t.core, tm := t.tm, bob := t.bob, host := t.host, evr := t.evr,
               out := t.out } ∧
    regsBut mapReg s t

theorem MapShown.refl (s : State) : MapShown s s := ⟨rfl, regsBut.refl _ s⟩

theorem MapShown.trans {s t u : State} (h : MapShown s t) (k : MapShown t u) : MapShown s u := by
  obtain ⟨hst, hregs⟩ := h
  obtain ⟨ktu, kregs⟩ := k
  refine ⟨?_, hregs.trans kregs⟩
  rw [ktu, hst]

theorem MapShown.of_loss {s t : State} (h : TrafficLoss s t) : MapShown s t :=
  ⟨h.1, regsBut.mono h.2 fun o ho => by simp [mapReg, ho]⟩

theorem MapShown.of_signals {s t : State} (h : Signals s t) : MapShown s t := MapShown.of_loss (TrafficLoss.of_signals h)

theorem MapShown.fset (s : State) {f : Fld} (hf : mapReg f.off = true) (v : Nat) : MapShown s (fset s f v) :=
  ⟨rfl, regsBut_fset s f hf v⟩

theorem MapShown.byp_eq {s t : State} (h : MapShown s t) : t.byp = s.byp := by rw [h.1]

theorem MapShown.sys_eq {s t : State} (h : MapShown s t) : t.sys = s.sys := by rw [h.1]

theorem MapShown.test_eq {s t : State} (h : MapShown s t) : t.test = s.test := by rw [h.1]

theorem showLane_shown (s : State) {L : Nat} (hL : L < 1024) : MapShown s (showLane s L) :=
  ((MapShown.fset s (f := BYP_LANE.MODE L) (mapReg_lane hL) _).trans
    (MapShown.fset _ (f := BYP_LANE.PARTNER L) (mapReg_lane hL) _)).trans
    (MapShown.fset _ (f := BYP_LANE.OWNER L) (mapReg_lane hL) _)

/-- The bypass with another operational map. -/
def mapTaken (m : Tab LaneMap) (b : BypSt) : BypSt :=
  { b with oper := m, req := b.req.filter fun e => (mapLane m (e.1 / 128)).mode == 1 }

/-- A new map is in force at once; registers and ports follow it. -/
theorem applyMap_shown (s : State) (m : Tab LaneMap) : MapShown (setByp s (mapTaken m)) (applyMap s m) := by
  refine forEach_keeps (P := MapShown (setByp s (mapTaken m))) (fun t L hL h => h.trans ?_) (MapShown.refl _)
  have hlane : L < 1024 := List.mem_range.1 (List.mem_filter.1 hL).1
  refine (showLane_shown t hlane).trans ?_
  dsimp only
  split
  · exact MapShown.of_loss (setUnder_down_loss _ (portOf_lt _ hlane))
  · split
    · exact MapShown.of_loss (TrafficLoss.setPort _ _ _)
    · exact MapShown.refl _

theorem oper_applyMap (s : State) (m : Tab LaneMap) : (applyMap s m).byp.oper = m := by
  rw [(applyMap_shown s m).byp_eq]
  rfl

/-- The bypass with its shadow map in force and no commit pending. -/
def commitTaken (b : BypSt) : BypSt := mapTaken b.shadow { b with pend := none }

/-- A due commit that passes the repeated checks takes effect. -/
theorem commitDue_shown {s : State} {n N : Nat} (hpend : s.byp.pend = some N) (hdue : N ≤ n)
    (hpass : (lateCheck s s.byp.shadow).1 = 0) : MapShown (setByp s commitTaken) (commitDue s n) := by
  rw [commitDue, hpend]
  dsimp only
  rw [if_neg (Nat.not_lt.2 hdue), hpass, if_neg (by decide)]
  have hmap := applyMap_shown (setByp (fset s BYP_STAT.PENDING 0) fun b => { b with pend := none }) s.byp.shadow
  have hstat : MapShown (setByp s commitTaken) (fset (setByp s commitTaken) BYP_STAT.PENDING 0) :=
    MapShown.fset _ (by decide) 0
  refine (hstat.trans hmap).trans ?_
  exact (MapShown.of_signals (event_signals _ (by decide) _ _ _ _ _)).trans (MapShown.of_signals (ring_signals _ (by decide)))

/-- The planes on the matching of slot n. -/
def slotPaths (n : Nat) (b : BypSt) : BypSt :=
  { b with path := (List.range 8).foldl (fun t W => tset [] t W (tget [] b.granted (8 * n + W))) []
           granted := b.granted.filter fun e => n ≤ e.1 / 8 }

theorem slotBoundary_of_slot {s : State} {n : Nat} (h : curSlot s = some n) :
    slotBoundary s = setByp (commitDue s n) (slotPaths n) := by
  rw [slotBoundary, h]
  rfl

/-- At the slot of a commit that passes the repeated checks the shadow map takes effect. -/
theorem slotBoundary_taken {s : State} {n N : Nat} (hslot : curSlot s = some n) (hpend : s.byp.pend = some N) (hdue : N ≤ n)
    (hpass : (lateCheck s s.byp.shadow).1 = 0) :
    (slotBoundary s).byp.oper = s.byp.shadow ∧ (slotBoundary s).sys = s.sys ∧ (slotBoundary s).test = s.test ∧
      regsBut mapReg s (slotBoundary s) := by
  have hshown := commitDue_shown hpend hdue hpass
  rw [slotBoundary_of_slot hslot]
  refine ⟨?_, hshown.sys_eq, hshown.test_eq, hshown.2⟩
  rw [setByp_byp, hshown.byp_eq]
  rfl

/-! The end of a MODULE test (R470). -/

theorem byp_of_signals {s t : State} (h : Signals s t) : t.byp = s.byp := (MapShown.of_signals h).byp_eq

theorem byp_forRange {n : Nat} {f : State → Nat → State} (hf : ∀ s, ∀ i < n, (f s i).byp = s.byp) (s : State) :
    (forRange n s f).byp = s.byp :=
  forRange_keeps (P := fun t => t.byp = s.byp) (fun t i hi h => (hf t i hi).trans h) rfl

theorem byp_dieSet (s : State) (d st : Nat) : (dieSet s d st).byp = s.byp := by
  rw [dieSet, byp_of_signals (ring_signals _ (by decide)), byp_of_signals (event_signals _ (by decide) _ _ _ _ _), fset_byp]

theorem byp_regionOwn (s : State) (r : Nat) (sec : Option RegionSec) : (regionOwn s r sec).byp = s.byp := by
  unfold regionOwn
  dsimp only
  split <;> rfl

theorem byp_laneGates (s : State) (d : Nat) : (laneGates s d).byp = s.byp := byp_forRange (fun t _ _ => setLane_byp t _ _) s

theorem byp_bootStructure (s : State) : (bootStructure s).byp = s.byp := by
  unfold bootStructure
  dsimp only
  rw [byp_forRange fun t d _ => byp_laneGates t d]
  split
  · rw [fset_byp, setSys_byp]
  · rw [fset_byp, setSys_byp]

theorem byp_bundlesRefresh (s : State) : (bundlesRefresh s).byp = s.byp :=
  (fset_byp _ _ _).trans (byp_forRange (fun _ _ _ => (fset_byp _ _ _).trans ((fset_byp _ _ _).trans (fset_byp _ _ _))) s)

theorem byp_memDieUpdate (s : State) : (memDieUpdate s).byp = s.byp :=
  byp_forRange (fun _ _ _ => (fset_byp _ _ _).trans (fset_byp _ _ _)) s

theorem byp_portRefresh (s : State) {L : Nat} (hL : L < 1024) : (portRefresh s L).byp = s.byp :=
  (MapShown.of_loss (portRefresh_loss s hL)).byp_eq

theorem byp_gatesBegin (s : State) : (gatesBegin s).byp = s.byp := by
  rw [(gatesBegin_work s).1, setSys_byp]

/-- The entry into BASIC leaves every lane ELECTRONIC (R218). -/
theorem oper_basicEntry (s : State) : (basicEntry s).byp.oper = [] := by
  rw [basicEntry, setSys_byp, setReg_byp, allElectronic, oper_applyMap]

/-- What follows the entry into BASIC after a MODULE test leaves the bypass. -/
theorem byp_moduleAfter (s : State) : (moduleAfter s).byp = (basicEntry s).byp := by
  unfold moduleAfter
  generalize basicEntry s = u
  extract_lets begun regions bobbins dies core tables cooled booted bundled ports shown entered
  have hbegun : begun.byp = u.byp := rfl
  clear_value begun
  have hregions : regions.byp = u.byp := by
    rw [← hbegun]
    exact byp_forRange (fun t r _ => by rw [byp_regionOwn, setReg_byp]) begun
  have hbobbins : bobbins.byp = u.byp := by rw [← hregions, setBob_byp, setWeave_byp]
  have hdies : dies.byp = u.byp := by
    rw [← hbobbins]
    refine byp_forRange (fun t d _ => ?_) bobbins
    dsimp only
    rw [setFlt_byp, zeroDie, setMem_byp]
    split
    · rw [byp_dieSet, setFlt_byp]
    · rfl
  have hcooled : cooled.byp = u.byp := by rw [← hdies, setSys_byp, setTbl_byp, setCore_byp]
  have hbooted : booted.byp = u.byp := by
    rw [← hcooled, byp_bootStructure]
    exact byp_forRange (fun t k _ => by rw [usedUpdate, fset_byp]) cooled
  have hbundled : bundled.byp = u.byp := by rw [← hbooted, byp_bundlesRefresh, byp_memDieUpdate, setSec_byp]
  have hports : ports.byp = u.byp := by
    rw [← hbundled]
    exact byp_forRange (fun t L _ => setPort_byp t L _) bundled
  have hshown : shown.byp = u.byp := by
    rw [← hports]
    refine byp_forRange (fun t L hL => ?_) ports
    split
    · exact byp_portRefresh t hL
    · rfl
  have hentered : entered.byp = u.byp := by rw [← hshown, setMode_byp]
  split
  · rw [byp_gatesBegin, hentered]
  · exact hentered

theorem testActive_testEnd (s : State) (code : Nat) : testActive (testEnd s code) = false := by
  have hstate : fget (testEnd s code) CTL_TEST_STAT.STATE = 3 := by
    rw [testEnd, fget_fset_ne _ _ _ _ (.inr (.inl (by decide))), fget_fset_same _ _ _ (by decide)]
    rfl
  rw [testActive, hstate]
  rfl

theorem testKind_testEnd (s : State) (code : Nat) : testKind (testEnd s code) = testKind s := by
  rw [testKind, testEnd, fget_fset_ne _ _ _ _ (.inr (.inl (by decide))), fget_fset_ne _ _ _ _ (.inr (.inr (by decide))),
    fget_fset_ne _ _ _ _ (.inr (.inr (by decide))), testKind]

theorem testAfter_module {s : State} (h : s.sys.ctlFault = false) (u : Nat) : testAfter s 7 u = moduleAfter s := by
  simp [testAfter, h]

/-- A MODULE test that runs where a lane is not ELECTRONIC is ended by the sweep. -/
theorem testSweep_module {s : State} (hactive : testActive s = true) (hkind : testKind s = 7) (hstart : s.test.started ≠ 0)
    (hfault : s.sys.ctlFault = false) (hlanes : s.byp.oper ≠ []) :
    testSweep s = moduleAfter (setTest (testEnd s 4) fun t => { t with started := 0 }) := by
  have hlost : testHolds s 7 (testUnit s) = false := by simp [testHolds, hlanes]
  have hfirst : (testActive s && !testHolds s (testKind s) (testUnit s)) = true := by rw [hactive, hkind, hlost]; rfl
  have hrun : (testEnd s 4).test.started ≠ 0 := hstart
  have hkept : (testEnd s 4).sys.ctlFault = false := hfault
  unfold testSweep
  rw [if_pos hfirst]
  dsimp only
  rw [if_pos (by simp [hrun, testActive_testEnd]), testKind_testEnd, hkind, testAfter_module (by rw [setTest_sys, hkept])]

/-- Its end leaves every lane ELECTRONIC. -/
theorem oper_testSweep_module {s : State} (hactive : testActive s = true) (hkind : testKind s = 7)
    (hstart : s.test.started ≠ 0) (hfault : s.sys.ctlFault = false) (hlanes : s.byp.oper ≠ []) :
    (testSweep s).byp.oper = [] := by
  rw [testSweep_module hactive hkind hstart hfault hlanes, byp_moduleAfter, oper_basicEntry]

theorem testStat_unmapped : mapReg CTL_TEST_STAT = false := by decide +kernel

/-- A powered module in MAINT at the start of slot 0. A MODULE test runs, and the commit due at the slot makes a circuit of lanes 11
and 19 for context 7, which is ALLOCATED. -/
def testedState : State :=
  { fset (fset (fset (setMode State.reset mMAINT) CTL_TEST_STAT.STATE 2) CTL_TEST_STAT.KIND 7) (CTX_STAT.STATE 7) 1 with
    sys := { powered := true }
    test := { started := 1 }
    byp := { origin := some 0, pend := some 0,
             shadow := [(11, { mode := 2, partner := 19, owner := 7 }), (19, { mode := 2, partner := 11, owner := 7 })] } }

theorem testedState_passes : (lateCheck testedState testedState.byp.shadow).1 = 0 := by decide +kernel

theorem testedState_slot : curSlot testedState = some 0 := by decide +kernel

/-- Refutes O35: its clause on a due commit that passes the repeated checks does not ask, as its others do, that no self-test runs. In
`testedState` a MODULE test does; it ends as the circuit is made, and leaves every lane ELECTRONIC. -/
theorem not_bypassMap : ¬ Obligations.BypassMap := by
  unfold Obligations.BypassMap
  rintro ⟨-, -, -, -, -, -, -, -, hdue, -⟩
  obtain ⟨t, ht, hoper, -⟩ := hdue 0 0 testedState rfl testedState_slot rfl le_rfl testedState_passes
  rw [show exec .slotBoundary testedState = .next (testSweep (slotBoundary testedState)) from
    live_of_powered rfl fun s => testSweep (slotBoundary s)] at ht
  obtain ⟨hmap, hsys, hstart, hregs⟩ := slotBoundary_taken testedState_slot rfl le_rfl testedState_passes
  have htest : ∀ f : Fld, f.off = CTL_TEST_STAT → fget (slotBoundary testedState) f = fget testedState f :=
    fun f hf => fget_of_getReg_eq (by rw [hf, hregs _ testStat_unmapped])
  have hempty : t.byp.oper = [] := by
    rw [← Host.Outcome.next.inj ht]
    refine oper_testSweep_module ?_ ?_ (by rw [hstart]; decide) (by rw [hsys]; rfl) (by rw [hmap]; decide)
    · rw [testActive, htest _ rfl]
      decide +kernel
    · rw [testKind, htest _ rfl]
      decide +kernel
  rw [hempty] at hoper
  cases hoper

end Sys2Proof.Machine
end

section
/-! SUPPORT. What a step leaves that sets registers of its own and signals. -/

namespace Sys2Proof.Machine

open Claim

/-- From `s` to `t` registers of `own` were set, an event or an interrupt signalled, and nothing else happened. -/
def SignalsBut (own : Nat → Bool) (s t : State) : Prop := regsQuiet own s t ∧ signalsOnly s t

theorem SignalsBut.trans {own : Nat → Bool} {s t u : State} (h : SignalsBut own s t) (k : SignalsBut own t u) :
    SignalsBut own s u := by
  obtain ⟨hregs, hst⟩ := h
  obtain ⟨kregs, ktu⟩ := k
  refine ⟨regsQuiet.trans hregs kregs, ?_⟩
  unfold signalsOnly at *
  rw [ktu, hst]

theorem SignalsBut.fset {own : Nat → Bool} (s : State) {f : Fld} (hf : own f.off = true) (v : Nat) :
    SignalsBut own s (fset s f v) :=
  ⟨regsQuiet.of_regsBut (regsBut_fset s f hf v), rfl⟩

theorem SignalsBut.of_signals {own : Nat → Bool} {s t : State} (h : Signals s t) : SignalsBut own s t :=
  ⟨regsQuiet.of_signals h, h.1⟩

theorem SignalsBut.byp_eq {own : Nat → Bool} {s t : State} (h : SignalsBut own s t) : t.byp = s.byp := by rw [h.2]

/-- What signals leaves a field of a register that does not. -/
theorem fget_of_signals {s t : State} (h : Signals s t) {f : Fld} (hf : signalReg f.off = false) : fget t f = fget s f :=
  fget_of_getReg_eq (h.2.1 _ hf)

theorem fbit_of_signals {s t : State} (h : Signals s t) {f : Fld} (hf : signalReg f.off = false) : fbit t f = fbit s f := by
  rw [fbit, fget_of_signals h hf, fbit]

/-- A flag set to a truth value reads it. -/
theorem fbit_fset_b2n (s : State) {f : Fld} (hw : f.wid = 1) (hf : f.lo + f.wid ≤ 64) (b : Bool) :
    fbit (fset s f (b2n b)) f = b := by
  rw [fbit, fget_fset_same _ _ _ hf, hw]
  cases b <;> rfl

/-- No register of the bypass signals. -/
theorem signalReg_byp {o : Nat} (h : BYP_CTRL ≤ o) (h' : o ≤ BYP_REQ_IGN) : signalReg o = false := by
  unfold BYP_CTRL at h
  unfold BYP_REQ_IGN at h'
  unfold signalReg inSrc EVR_LOST IC_MERGED
  simp only [Bool.or_eq_false_iff, Bool.and_eq_false_iff, beq_eq_false_iff_ne, decide_eq_false_iff_not]
  omega

end Sys2Proof.Machine
end

section
/-! SUPPORT. Ranging (R224 to R226): the clauses of O36 that speak of it. -/

namespace Sys2Proof.Machine

open Claim

/-! Ranging state. -/

theorem rng_setRng_same (s : State) (F : Nat) (f : RangeSt → RangeSt) : rng (setRng s F f) F = f (rng s F) :=
  tget_tset_same _ _ _ _

/-- From `s` to `t` the bypass changed in the ranging of one fibre alone. -/
def OnlyRng (F : Nat) (s t : State) : Prop :=
  (∀ k, k ≠ F → rng t k = rng s k) ∧ t.byp = { s.byp with rng := t.byp.rng }

theorem rng_congr {s t : State} (h : t.byp = s.byp) (k : Nat) : rng t k = rng s k := by rw [rng, rng, h]

theorem OnlyRng.of_setRng {s t : State} {F : Nat} {f : RangeSt → RangeSt} (h : t.byp = (setRng s F f).byp) : OnlyRng F s t := by
  refine ⟨fun k hk => (rng_congr h k).trans (tget_tset_ne _ _ hk _), ?_⟩
  rw [h]
  rfl

/-! RANGING_START (R225). -/

/-- A ranging begun at a time. -/
def rangingBegun (now : Nat) (r : RangeSt) : RangeSt :=
  { r with active := true, sentCnt := 0, pings := [], rtts := [], startAt := now + 1 }

theorem rangingStart_first {s : State} {F L : Nat} (hanchor : anchor s F = some L) (hup : portUp s L = true)
    (hfirst : (rng s F).startAt = 0) : rangingStart s F = setRng s F (rangingBegun s.now) := by
  rw [rangingStart, hanchor]
  dsimp only
  rw [if_neg (by simp [hup, hfirst])]
  rfl

/-! RANGE_PING_TX (R225). -/

/-- A ranging whose next ping has just left. -/
def pingSent (s : State) (r : RangeSt) : RangeSt :=
  { r with sentCnt := r.sentCnt + 1, lastAt := s.now, pings := tset 0 r.pings r.sentCnt (now16 s + 1) }

theorem pings_pingSent (s : State) (r : RangeSt) : tget 0 (pingSent s r).pings r.sentCnt = now16 s + 1 :=
  tget_tset_same 0 r.pings r.sentCnt (now16 s + 1)

theorem rangePing_due {s : State} {F L : Nat} (hanchor : anchor s F = some L) (hup : portUp s L = true)
    (hactive : (rng s F).active = true) (hleft : (rng s F).sentCnt < 64) (hdue : s.elapsed (rng s F).lastAt 10000 = true) :
    rangePing s F = emit (setRng s F (pingSent s)) (.block L (mkBlk 0xA0 (le 1 (rng s F).sentCnt))) := by
  rw [rangePing, hanchor]
  dsimp only
  rw [if_neg (by simp [hup, hactive, hdue, Nat.not_le.2 hleft])]
  rfl

/-- What a ping carries. -/
theorem pingBlock_fields {q : Nat} (hq : q < 64) :
    blkCrcOk (mkBlk 0xA0 (le 1 q)) = true ∧ blkByte (mkBlk 0xA0 (le 1 q)) 0 = 0xA0 ∧ blkByte (mkBlk 0xA0 (le 1 q)) 1 = q := by
  have hle : (le 1 q).length ≤ 27 := by rw [length_le]; decide
  refine ⟨blkCrcOk_mkBlk hle, blkByte_mkBlk_type hle, ?_⟩
  calc blkByte (mkBlk 0xA0 (le 1 q)) 1 = fieldAt (le 1 q) 0 1 := blkField_mkBlk hle (k := 0) (n := 1) (by rw [length_le])
    _ = q := by rw [fieldAt_le]; omega

/-! RANGE_ECHO_RX (R225). -/

/-- A ranging with the echo of ping q, which the far end held for `turn`. -/
def echoTaken (s : State) (q turn : Nat) (r : RangeSt) : RangeSt :=
  { r with pings := tset 0 r.pings q 0, rtts := (now16 s - (tget 0 r.pings q - 1) - turn) :: r.rtts }

theorem rtts_echoTaken (s : State) {q : Nat} (turn : Nat) {r : RangeSt} (hsent : tget 0 r.pings q ≠ 0) :
    (echoTaken s q turn r).rtts = (now16 s + 1 - tget 0 r.pings q - turn) :: r.rtts := by
  have htrip : now16 s - (tget 0 r.pings q - 1) - turn = now16 s + 1 - tget 0 r.pings q - turn := by omega
  rw [← htrip, echoTaken]

theorem pings_echoTaken (s : State) (q turn : Nat) (r : RangeSt) : tget 0 (echoTaken s q turn r).pings q = 0 :=
  tget_tset_same 0 r.pings q 0

theorem rangeEcho_taken {s : State} {F L : Nat} {b : BitVec 256} (hanchor : anchor s F = some L) (hopen : rxOpen s L = true)
    (hgood : blkBad b = false) (htype : blkByte b 0 = 0xA1) (hactive : (rng s F).active = true)
    (hsent : tget 0 (rng s F).pings (blkByte b 1) ≠ 0)
    (htime : tget 0 (rng s F).pings (blkByte b 1) + blkField b 4 4 ≤ now16 s + 1) :
    rangeEcho s F b = setRng (endResync s L) F (echoTaken s (blkByte b 1) (blkField b 4 4)) := by
  have hvalid : ¬ (!(rng (endResync s L) F).active || tget 0 (rng (endResync s L) F).pings (blkByte b 1) == 0 ||
      now16 (endResync s L) < tget 0 (rng (endResync s L) F).pings (blkByte b 1) - 1 + blkField b 4 4) = true := by
    rw [show rng (endResync s L) F = rng s F from rfl, show now16 (endResync s L) = now16 s from rfl]
    simp [hactive, hsent]
    omega
  rw [rangeEcho, hanchor]
  dsimp only
  rw [rxBlock_taken hopen hgood htype (by decide), if_neg hvalid]
  rfl

/-! RANGING_DONE (R225, R229). -/

/-- A ranging that is over. -/
def rangingEnded (r : RangeSt) : RangeSt := { r with active := false, pings := [], rtts := [], setAt := 0 }

/-- Is a ranged fibre FAR (R229)? -/
def farNow (s : State) (F : Nat) : Bool :=
  fbit s (BYP_FIBRE.RANGED F) && (fget s BYP_CTRL.LEAD_NS - 512) * 16 < fget s (BYP_FIBRE.RTT F)

theorem farCheck_signals (s : State) (F : Nat) : Signals (fset s (BYP_FIBRE.FAR F) (b2n (farNow s F))) (farCheck s F) := by
  unfold farCheck
  exact Signals.ite (event_signals _ (by decide) _ _ _ _ _) (Signals.refl _)

/-- A fibre ranged with a round trip. -/
def ranged (s : State) (F rtt : Nat) : State := fset (fset s (BYP_FIBRE.RTT F) rtt) (BYP_FIBRE.RANGED F) 1

theorem ranged_ranged (s : State) (F rtt : Nat) : fbit (ranged s F rtt) (BYP_FIBRE.RANGED F) = true :=
  fbit_fset_one _ rfl (show 32 + 1 ≤ 64 by decide)

theorem rtt_ranged (s : State) (F rtt : Nat) : fget (ranged s F rtt) (BYP_FIBRE.RTT F) = rtt % 2 ^ 32 := by
  rw [ranged, fget_fset_ne _ _ _ _ (.inr (.inl (show 0 + 32 ≤ 32 by decide))), fget_fset_same _ _ _ (show 0 + 32 ≤ 64 by decide)]
  rfl

theorem lead_ranged (s : State) (F rtt : Nat) : fget (ranged s F rtt) BYP_CTRL.LEAD_NS = fget s BYP_CTRL.LEAD_NS := by
  have hne : BYP_CTRL ≠ BYP_FIBRE F := by unfold BYP_CTRL BYP_FIBRE; omega
  rw [ranged, fget_fset_ne _ _ _ _ (.inl hne), fget_fset_ne _ _ _ _ (.inl hne)]

theorem signalReg_fibre {F : Nat} (hF : F < 128) : signalReg (BYP_FIBRE F) = false :=
  signalReg_byp (by unfold BYP_CTRL BYP_FIBRE; omega) (by unfold BYP_REQ_IGN BYP_FIBRE; omega)

section
variable {F : Nat} (hF : F < 128)
include hF

theorem farCheck_far (s : State) : fbit (farCheck s F) (BYP_FIBRE.FAR F) = farNow s F := by
  rw [fbit_of_signals (farCheck_signals s F) (f := BYP_FIBRE.FAR F) (signalReg_fibre hF)]
  exact fbit_fset_b2n _ rfl (show 33 + 1 ≤ 64 by decide) _

theorem farCheck_ranged (s : State) : fbit (farCheck s F) (BYP_FIBRE.RANGED F) = fbit s (BYP_FIBRE.RANGED F) := by
  rw [fbit_of_signals (farCheck_signals s F) (f := BYP_FIBRE.RANGED F) (signalReg_fibre hF), fbit,
    fget_fset_ne _ _ _ _ (.inr (.inl (show 32 + 1 ≤ 33 by decide))), fbit]

theorem farCheck_rtt (s : State) : fget (farCheck s F) (BYP_FIBRE.RTT F) = fget s (BYP_FIBRE.RTT F) := by
  rw [fget_of_signals (farCheck_signals s F) (f := BYP_FIBRE.RTT F) (signalReg_fibre hF),
    fget_fset_ne _ _ _ _ (.inr (.inl (show 0 + 32 ≤ 33 by decide)))]

end

section
variable {s : State} {F : Nat} (hactive : (rng s F).active = true) (hsent : 64 ≤ (rng s F).sentCnt)
include hactive hsent

theorem rangingDone_few (hfew : (rng s F).rtts.length < 48) :
    Signals (fset (setRng s F rangingEnded) (BYP_FIBRE.RANGED F) 0) (rangingDone s F) := by
  unfold rangingDone
  dsimp only
  rw [if_neg (by simp [hactive, hsent]), if_pos hfew]
  exact event_signals _ (by decide) _ _ _ _ _

theorem rangingDone_many (hmany : 48 ≤ (rng s F).rtts.length) :
    rangingDone s F = farCheck (ranged (setRng s F rangingEnded) F ((rng s F).rtts.sum / (rng s F).rtts.length)) F := by
  unfold rangingDone
  dsimp only
  rw [if_neg (by simp [hactive, hsent]), if_neg (Nat.not_lt.2 hmany)]
  rfl

/-- Of the registers the end of a ranging touches the fibre's own. -/
theorem rangingDone_signalsBut : SignalsBut (fun o => o == BYP_FIBRE F) (setRng s F rangingEnded) (rangingDone s F) := by
  have hset : ∀ (u : State) (f : Fld) (v : Nat), f.off = BYP_FIBRE F → SignalsBut (fun o => o == BYP_FIBRE F) u (fset u f v) :=
    fun u f v hf => SignalsBut.fset (own := fun o => o == BYP_FIBRE F) u (beq_iff_eq.2 hf) v
  rcases Nat.lt_or_ge (rng s F).rtts.length 48 with hfew | hmany
  · exact (hset _ _ _ rfl).trans (SignalsBut.of_signals (rangingDone_few hactive hsent hfew))
  · rw [rangingDone_many hactive hsent hmany]
    exact (((hset _ _ _ rfl).trans (hset _ _ _ rfl)).trans (hset _ _ _ rfl)).trans (SignalsBut.of_signals (farCheck_signals _ F))

variable (hF : F < 128)
include hF

/-- The fibre is ranged where 48 round trips or more came. -/
theorem ranged_rangingDone : fbit (rangingDone s F) (BYP_FIBRE.RANGED F) = decide (48 ≤ (rng s F).rtts.length) := by
  rcases Nat.lt_or_ge (rng s F).rtts.length 48 with hfew | hmany
  · rw [fbit_of_signals (rangingDone_few hactive hsent hfew) (f := BYP_FIBRE.RANGED F) (signalReg_fibre hF), fbit,
      fget_fset_zero _ (show 32 + 1 ≤ 64 by decide), decide_eq_false (Nat.not_le.2 hfew)]
    rfl
  · rw [rangingDone_many hactive hsent hmany, farCheck_ranged hF, decide_eq_true hmany]
    exact ranged_ranged _ _ _

variable (hmany : 48 ≤ (rng s F).rtts.length)
include hmany

/-- Its round trip is then their mean, rounded down. -/
theorem rtt_rangingDone :
    fget (rangingDone s F) (BYP_FIBRE.RTT F) = (rng s F).rtts.sum / (rng s F).rtts.length % 2 ^ 32 := by
  rw [rangingDone_many hactive hsent hmany, farCheck_rtt hF, rtt_ranged]

/-- It is then FAR where the round trip does not fit LEAD. -/
theorem far_rangingDone :
    fbit (rangingDone s F) (BYP_FIBRE.FAR F) =
      decide ((fget s BYP_CTRL.LEAD_NS - 512) * 16 < fget (rangingDone s F) (BYP_FIBRE.RTT F)) := by
  rw [rangingDone_many hactive hsent hmany, farCheck_rtt hF, farCheck_far hF, farNow, ranged_ranged, Bool.true_and, lead_ranged]
  rfl

end

/-! RANGE_SET_TX (R225). -/

/-- What a block of RANGE_SET_TX says of plane W: 0xFFFFFF of a lane that is not SLOTTED. -/
def rangeTime (s : State) (F : Nat) (f : Nat → Int) (W : Nat) : Nat :=
  if (mapLane s.byp.oper (8 * F + W)).mode == 1 then ofInt 24 (f W) else 0xFFFFFF

/-- The bytes of such a block after its type. -/
def rangeRest (s : State) (F : Nat) (f : Nat → Int) : List Byte :=
  [0, 0, 0] ++ (List.range 8).flatMap fun W => le 3 (rangeTime s F f W)

/-- A ranging whose result has just been sent. -/
def rangeNoted (now : Nat) (r : RangeSt) : RangeSt := { r with setAt := max now 1 }

theorem rangeSet_due {s : State} {F L : Nat} (hanchor : anchor s F = some L) (hup : portUp s L = true)
    (hranged : fbit s (BYP_FIBRE.RANGED F) = true) (hdue : (rng s F).setAt = 0) :
    rangeSet s F =
      emit (emit (setRng s F (rangeNoted s.now)) (.block L (mkBlk 0xA2 (rangeRest s F fun W =>
          (fget s (BYP_FIBRE.RTT F) : Int) + Config.planeIn (8 * F + W) - 96))))
        (.block L (mkBlk 0xA7 (rangeRest s F fun W => (96 : Int) + Config.planeOut (8 * F + W)))) := by
  rw [rangeSet, hanchor]
  dsimp only
  rw [if_neg (by simp [hup, hranged, hdue])]
  rfl

theorem length_rangeRest (s : State) (F : Nat) (f : Nat → Int) : (rangeRest s F f).length = 27 := by
  rw [rangeRest, List.length_append, length_flatMap_le]
  rfl

/-- What such a block carries. -/
theorem rangeBlock_fields (s : State) (F : Nat) (f : Nat → Int) :
    let b := mkBlk 0xA7 (rangeRest s F f)
    blkCrcOk b = true ∧ blkByte b 0 = 0xA7 ∧ ∀ W, W < 8 → blkField b (4 + 3 * W) 3 = rangeTime s F f W % 2 ^ 24 := by
  have hlen := length_rangeRest s F f
  have hle : (rangeRest s F f).length ≤ 27 := hlen.le
  refine ⟨blkCrcOk_mkBlk hle, blkByte_mkBlk_type hle, fun W hW => ?_⟩
  rw [show 4 + 3 * W = 1 + (3 + 3 * W) by omega]
  calc blkField _ (1 + (3 + 3 * W)) 3 = fieldAt (rangeRest s F f) (3 + 3 * W) 3 := blkField_mkBlk hle (by rw [hlen]; omega)
    _ = fieldAt ((List.range 8).flatMap fun W => le 3 (rangeTime s F f W)) (3 * W) 3 :=
      fieldAt_append_right (a := [0, 0, 0]) rfl _ _ _
    _ = _ := fieldAt_flatMap_le 3 hW _

/-! SLOT_TICK_TX (R226). -/

/-- The time to the start of the slot after slot n, in 1/16 ns. -/
def tickTime (s : State) (n : Nat) : Nat := ((slotStart s (n + 1)).getD 0 * 2 ^ 32 - s.tb) / 2 ^ 28

/-- The bytes of a SLOT_TICK block after its type. -/
def tickRest (s : State) (n : Nat) : List Byte :=
  [0, 0, 0] ++ le 8 (n + 1) ++ le 4 (tickTime s n) ++ le 2 (16 * slotNs s)

/-- A fibre that has just been told of the next slot. -/
def tickNoted (now : Nat) (r : RangeSt) : RangeSt := { r with tickAt := max now 1 }

theorem slotTick_due {s : State} {F L n : Nat} (hanchor : anchor s F = some L) (hup : portUp s L = true)
    (hslot : curSlot s = some n) (hdue : (rng s F).tickAt = 0) :
    slotTick s F = emit (setRng s F (tickNoted s.now)) (.block L (mkBlk 0xA3 (tickRest s n))) := by
  rw [slotTick, hanchor, hslot]
  dsimp only
  rw [if_neg (by simp [hup, hdue])]
  rfl

/-- What a SLOT_TICK block carries. -/
theorem tickBlock_fields (s : State) (n : Nat) :
    let b := mkBlk 0xA3 (tickRest s n)
    blkCrcOk b = true ∧ blkByte b 0 = 0xA3 ∧ blkField b 4 8 = (n + 1) % 2 ^ 64 ∧ blkField b 16 2 = 16 * slotNs s % 2 ^ 16 ∧
      blkField b 12 4 = tickTime s n % 2 ^ 32 := by
  have hlen : (tickRest s n).length = 17 := by simp [tickRest]
  have hle : (tickRest s n).length ≤ 27 := by rw [hlen]; decide
  have htime : ([0, 0, 0] ++ le 8 (n + 1)).length = 11 := by simp
  have hlength : ([0, 0, 0] ++ le 8 (n + 1) ++ le 4 (tickTime s n)).length = 15 := by simp
  refine ⟨blkCrcOk_mkBlk hle, blkByte_mkBlk_type hle, ?_, ?_, ?_⟩
  · calc blkField _ (1 + 3) 8 = fieldAt (tickRest s n) 3 8 := blkField_mkBlk hle (by rw [hlen]; decide)
      _ = fieldAt ([0, 0, 0] ++ le 8 (n + 1)) 3 8 := by
        rw [tickRest, List.append_assoc, fieldAt_append_left (by rw [htime])]
      _ = fieldAt (le 8 (n + 1)) 0 8 := fieldAt_append_right (a := [0, 0, 0]) rfl _ 0 8
      _ = _ := fieldAt_le 8 _
  · calc blkField _ (1 + 15) 2 = fieldAt (tickRest s n) 15 2 := blkField_mkBlk hle (by rw [hlen])
      _ = fieldAt (le 2 (16 * slotNs s)) 0 2 := fieldAt_append_right hlength _ 0 2
      _ = _ := fieldAt_le 2 _
  · calc blkField _ (1 + 11) 4 = fieldAt (tickRest s n) 11 4 := blkField_mkBlk hle (by rw [hlen]; decide)
      _ = fieldAt ([0, 0, 0] ++ le 8 (n + 1) ++ le 4 (tickTime s n)) 11 4 := fieldAt_append_left (by rw [hlength]) _
      _ = fieldAt (le 4 (tickTime s n)) 0 4 := fieldAt_append_right htime _ 0 4
      _ = _ := fieldAt_le 4 _

end Sys2Proof.Machine
end

section
/-! SUPPORT. Requests of slots (R227) and light on the planes' inputs (R233): the clauses of O36 that speak of them. -/

namespace Sys2Proof.Machine

open Claim

/-! SLOT_REQ_RX (R227). -/

/-- A fold whose steps after the first change nothing is its first step. -/
theorem forRange_first {f : State → Nat → State} {s : State} (n : Nat) (hf : ∀ t k, k < n + 1 → k ≠ 0 → f t k = t) :
    forRange (n + 1) s f = f s 0 := by
  induction n with
  | zero => rfl
  | succ n ih => rw [forRange_succ, hf _ _ (by omega) (by omega), ih fun t k hk => hf t k (by omega)]

/-- The bypass with a request count of source lane `8F + W` for destination fibre G. -/
def reqTaken (F W G count : Nat) (y : BypSt) : BypSt := { y with req := tset 0 y.req (128 * (8 * F + W) + G) count }

/-- Does the first entry of a SLOT_REQ join SLOTTED lanes of one owner? -/
def reqJoins (s : State) (F : Nat) (b : BitVec 256) : Prop :=
  let src := mapLane s.byp.oper (8 * F + blkByte b 4 % 8)
  let dst := mapLane s.byp.oper (8 * blkByte b 5 + blkByte b 4 % 8)
  blkByte b 5 < 128 ∧ src.mode = 1 ∧ dst.mode = 1 ∧ src.owner = dst.owner

/-- Where it is the only one, a SLOT_REQ replaces that request count, or the entry is ignored and counted. -/
theorem slotReq_one {s : State} {F L : Nat} {b : BitVec 256} (hanchor : anchor s F = some L) (hopen : rxOpen s L = true)
    (hgood : blkBad b = false) (htype : blkByte b 0 = 0xA4) (hvalid : bit (blkByte b 4) 7 = true)
    (hrest : ∀ k, k < 6 → k ≠ 0 → bit (blkByte b (4 + 4 * k)) 7 = false) :
    (reqJoins s F b →
      slotReq s F b = setByp (endResync s L) (reqTaken F (blkByte b 4 % 8) (blkByte b 5) (blkField b 6 2))) ∧
    (¬ reqJoins s F b → slotReq s F b = bump (endResync s L) BYP_REQ_IGN) := by
  have hbyp : (endResync s L).byp = s.byp := rfl
  rw [slotReq, hanchor]
  dsimp only
  rw [rxBlock_taken hopen hgood htype (by decide), forRange_first 5 fun t k hk h0 => by simp [hrest k hk h0], hbyp,
    if_neg (by simp [hvalid])]
  constructor
  · rintro ⟨hG, hsrc, hdst, howner⟩
    exact if_neg (by simp [hG, hsrc, hdst, howner])
  · intro hbad
    refine if_pos ?_
    by_contra hjoins
    refine hbad ?_
    simpa [reqJoins, not_or, and_assoc, and_left_comm] using hjoins

/-! PLANE_INPUT_DARK and PLANE_INPUT_LIGHT (R233). -/

theorem signalReg_bypLane {l : Nat} (hl : l < 1024) : signalReg (BYP_LANE l) = false :=
  signalReg_byp (by unfold BYP_CTRL BYP_LANE; omega) (by unfold BYP_REQ_IGN BYP_LANE; omega)

/-- After a doorbell its source is PENDING, or ACTIVE and PENDING. -/
theorem ring_source (s : State) {src : Nat} (h : src < 4096) :
    fget (ring s src) (IC_SRC.STATE src) = 1 ∨ fget (ring s src) (IC_SRC.STATE src) = 3 := by
  have hset : ∀ v, v < 4 → fget (icEval (fset s (IC_SRC.STATE src) v)) (IC_SRC.STATE src) = v := fun v hv => by
    rw [fget_of_getReg_eq (f := IC_SRC.STATE src) (icEval_regsBut (fun _ => false) _ _ rfl),
      fget_fset_same _ _ _ (show 32 + 2 ≤ 64 by decide)]
    exact Nat.mod_eq_of_lt hv
  have hlt : fget s (IC_SRC.STATE src) < 4 := bits_lt _ _ 2
  unfold ring
  split
  · exact .inl (hset 1 (by decide))
  · exact .inr (hset 3 (by decide))
  · next h0 h2 =>
    rw [fget_bump_ne s (show IC_SRC src ≠ IC_MERGED by unfold IC_SRC IC_MERGED; omega)]
    have hother : fget s (IC_SRC.STATE src) ≠ 0 ∧ fget s (IC_SRC.STATE src) ≠ 2 := ⟨h0, h2⟩
    omega

/-- An input lane whose received power was read. -/
def powerRead (s : State) (l : Nat) (v : BitVec 16) : State := fset s (BYP_LANE.PWR l) v.toNat

theorem powerRead_dark (s : State) (l : Nat) (v : BitVec 16) :
    fbit (powerRead s l v) (BYP_LANE.DARK l) = fbit s (BYP_LANE.DARK l) := by
  rw [fbit, powerRead, fget_fset_ne _ _ _ _ (.inr (.inl (show 28 + 1 ≤ 48 by decide))), fbit]

/-- The power read stays with the DARK flag set or cleared. -/
theorem power_of_read (s : State) (l : Nat) (v : BitVec 16) (dark : Nat) :
    fget (fset (powerRead s l v) (BYP_LANE.DARK l) dark) (BYP_LANE.PWR l) = v.toNat := by
  rw [fget_fset_ne _ _ _ _ (.inr (.inr (show 28 + 1 ≤ 48 by decide))), powerRead,
    fget_fset_same _ _ _ (show 48 + 16 ≤ 64 by decide)]
  exact Nat.mod_eq_of_lt v.isLt

/-- Of the registers both touch the lane's own. -/
theorem laneShown_signalsBut (s : State) (l : Nat) (v : BitVec 16) (dark : Nat) :
    SignalsBut (fun o => o == BYP_LANE l) s (fset (powerRead s l v) (BYP_LANE.DARK l) dark) :=
  (SignalsBut.fset (own := fun o => o == BYP_LANE l) s (f := BYP_LANE.PWR l) (beq_self_eq_true _) _).trans
    (SignalsBut.fset (own := fun o => o == BYP_LANE l) _ (f := BYP_LANE.DARK l) (beq_self_eq_true _) _)

/-- A lane whose input went dark: DARK is set, the event recorded and the bypass interrupt source rung. -/
def darkSignalled (s : State) (l : Nat) (v : BitVec 16) : State :=
  ring (event (fset (powerRead s l v) (BYP_LANE.DARK l) 1) 0x08 1 1 (l / 256) 0xFFFF l [1]) 3

/-- What it shows, counts and leaves. -/
theorem darkSignalled_spec (s : State) {l : Nat} (hl : l < 1024) (v : BitVec 16) :
    fbit (darkSignalled s l v) (BYP_LANE.DARK l) = true ∧ fget (darkSignalled s l v) (BYP_LANE.PWR l) = v.toNat ∧
      getReg (darkSignalled s l v) (PMC_EVT 0x801) = getReg s (PMC_EVT 0x801) + 1 ∧
      SignalsBut (fun o => o == BYP_LANE l) s (darkSignalled s l v) := by
  have hlane : PMC_EVT 0x801 ≠ BYP_LANE l := by unfold PMC_EVT BYP_LANE; omega
  have hshown := laneShown_signalsBut s l v 1
  have hpower := power_of_read s l v 1
  have hflag : fbit (fset (powerRead s l v) (BYP_LANE.DARK l) 1) (BYP_LANE.DARK l) = true :=
    fbit_fset_one _ rfl (show 28 + 1 ≤ 64 by decide)
  have hreg : getReg (fset (powerRead s l v) (BYP_LANE.DARK l) 1) (PMC_EVT 0x801) = getReg s (PMC_EVT 0x801) := by
    rw [getReg_fset_ne _ hlane, powerRead, getReg_fset_ne _ hlane]
  unfold darkSignalled
  generalize fset (powerRead s l v) (BYP_LANE.DARK l) 1 = u at *
  have hcount := getReg_event_count u (block := 0x08) (code := 1) (by decide) 1 (l / 256) 0xFFFF l [1]
  have hevent := event_signals u (block := 0x08) (code := 1) (by decide) 1 (l / 256) 0xFFFF l [1]
  generalize event u 0x08 1 1 (l / 256) 0xFFFF l [1] = w at *
  have hsig := hevent.trans (ring_signals w (src := 3) (by decide))
  have hquiet := signalReg_bypLane hl
  refine ⟨(fbit_of_signals hsig (f := BYP_LANE.DARK l) hquiet).trans hflag,
    (fget_of_signals hsig (f := BYP_LANE.PWR l) hquiet).trans hpower, ?_,
    hshown.trans (SignalsBut.of_signals hsig)⟩
  rw [ring_regsBut w (by decide) _ (recordReg_evt (by decide)), ← hreg]
  exact hcount

theorem planeDark_circuit {s : State} {l : Nat} (hup : dieUp s (swOf l) = true) (hmode : (mapLane s.byp.oper l).mode = 2)
    (hlit : fbit s (BYP_LANE.DARK l) = false) (v : BitVec 16) :
    planeDark s l v = darkSignalled s l v := by
  have hkept : fbit (fset s (BYP_LANE.PWR l) v.toNat) (BYP_LANE.DARK l) = false := (powerRead_dark s l v).trans hlit
  unfold swOf at hup
  unfold planeDark
  rw [hup, if_neg (by decide)]
  exact if_neg (by simp [hkept, hmode])

theorem planeLight_dark {s : State} {l : Nat} (hup : dieUp s (swOf l) = true) (hdark : fbit s (BYP_LANE.DARK l) = true)
    (v : BitVec 16) :
    planeLight s l v = event (fset (powerRead s l v) (BYP_LANE.DARK l) 0) 0x08 1 1 (l / 256) 0xFFFF l [0] := by
  have hkept : fbit (fset s (BYP_LANE.PWR l) v.toNat) (BYP_LANE.DARK l) = true := (powerRead_dark s l v).trans hdark
  unfold swOf at hup
  unfold planeLight
  rw [hup, if_neg (by decide)]
  exact if_neg (by simp [hkept])

/-- The register of a port's state is none that the recording of an event touches, and no counter of events but those at the start
of a page. -/
theorem portState_unrecorded (L : Nat) : recordReg (PRT_STATE L) = false ∧ PRT_STATE L ≠ PMC_EVT 0x801 := by
  unfold recordReg inSrc EVR_LOST IC_MERGED PRT_STATE portPage PMC_EVT
  simp only [Bool.or_eq_false_iff, Bool.and_eq_false_iff, beq_eq_false_iff_ne, decide_eq_false_iff_not]
  omega

/-- Darkness on a lane fences no port. -/
theorem portFenced_darkSignalled (s : State) (l : Nat) (v : BitVec 16) (L : Nat) :
    portFenced (darkSignalled s l v) L = portFenced s L := by
  obtain ⟨hrec, hevt⟩ := portState_unrecorded L
  have hfield : fget (fset (powerRead s l v) (BYP_LANE.DARK l) 1) (PRT_STATE.FENCE L) = fget s (PRT_STATE.FENCE L) := by
    rw [powerRead, fget_fset_ne _ _ _ _ (.inr (.inl (show 3 + 1 ≤ 28 by decide))),
      fget_fset_ne _ _ _ _ (.inr (.inl (show 3 + 1 ≤ 48 by decide)))]
  unfold darkSignalled
  generalize fset (powerRead s l v) (BYP_LANE.DARK l) 1 = u at *
  have hevent := event_regsBut u 0x08 1 1 (l / 256) 0xFFFF l [1] (PRT_STATE L) (by simp [hrec, hevt])
  have hring := ring_regsBut (event u 0x08 1 1 (l / 256) 0xFFFF l [1]) (src := 3) (by decide) _ hrec
  rw [portFenced, fbit, fget_of_getReg_eq (f := PRT_STATE.FENCE L) (hring.trans hevent), hfield, portFenced, fbit]

end Sys2Proof.Machine
end

section
/-! SUPPORT. The matching of a plane (R148, R149, R227 to R229): the clause of O36 that speaks of it. -/

namespace Sys2Proof.Machine

open Claim

/-! One round of a plane. -/

/-- From `s` to `t` the pointers of the bypass moved, and nothing else happened. -/
def PtrOnly (s t : State) : Prop := t = { s with byp := { s.byp with gPtr := t.byp.gPtr, aPtr := t.byp.aPtr } }

theorem PtrOnly.trans {s t u : State} (h : PtrOnly s t) (k : PtrOnly t u) : PtrOnly s u := by
  unfold PtrOnly at *
  rw [k, h]

/-- What a fibre requests does not depend on the pointers. -/
theorem PtrOnly.wants_eq {s t : State} (h : PtrOnly s t) (m : Tab LaneMap) (W F G : Nat) : wants t m W F G = wants s m W F G := by
  rw [h]
  rfl

/-- The numbers of the fibres from a pointer on, once round. -/
def fibresFrom (p : Nat) : List Nat := (List.range 128).map fun i => (p + i) % 128

theorem mem_fibresFrom {p F : Nat} : F ∈ fibresFrom p ↔ F < 128 := by
  rw [fibresFrom, List.mem_map]
  constructor
  · rintro ⟨i, -, rfl⟩
    exact Nat.mod_lt _ (by decide)
  · intro hF
    exact ⟨(F + 128 - p % 128) % 128, List.mem_range.2 (Nat.mod_lt _ (by decide)), by omega⟩

/-- Is fibre F free of the pairs matched so far, as a source and as a destination? -/
def freeIn (done : List (Nat × Nat)) (F : Nat) : Bool := !(done.any fun p => p.1 == F)
def freeOut (done : List (Nat × Nat)) (G : Nat) : Bool := !(done.any fun p => p.2 == G)

/-- The source fibre to which destination fibre G grants. -/
def planeGrant (s : State) (m : Tab LaneMap) (W : Nat) (done : List (Nat × Nat)) (G : Nat) : Option Nat :=
  (fibresFrom (tget 0 s.byp.gPtr (8 * G + W))).find? fun F => freeIn done F && wants s m W F G

/-- The grants of a round. -/
def roundGrants (s : State) (m : Tab LaneMap) (W : Nat) (done : List (Nat × Nat)) : List (Nat × Nat) :=
  (List.range 128).filterMap fun G => if !freeOut done G then none else (planeGrant s m W done G).map fun F => (F, G)

/-- The destination fibre whose grant source fibre F accepts. -/
def planeAccept (s : State) (m : Tab LaneMap) (W : Nat) (done : List (Nat × Nat)) (F : Nat) : Option Nat :=
  (fibresFrom (tget 0 s.byp.aPtr (8 * F + W))).find? fun G => (roundGrants s m W done).contains (F, G)

/-- The pairs that a round adds. -/
def roundAccepts (s : State) (m : Tab LaneMap) (W : Nat) (done : List (Nat × Nat)) : List (Nat × Nat) :=
  (List.range 128).filterMap fun F => (planeAccept s m W done F).map fun G => (F, G)

theorem planeRound_pairs (m : Tab LaneMap) (W : Nat) (first : Bool) (a : State × List (Nat × Nat)) :
    (planeRound m W first a).2 = a.2 ++ roundAccepts a.1 m W a.2 := rfl

theorem planeRound_ptrOnly (m : Tab LaneMap) (W : Nat) (first : Bool) (a : State × List (Nat × Nat)) :
    PtrOnly a.1 (planeRound m W first a).1 := by
  cases first <;> rfl

section
variable {s : State} {m : Tab LaneMap} {W : Nat} {done : List (Nat × Nat)} {F G : Nat}

theorem mem_roundGrants : (F, G) ∈ roundGrants s m W done ↔ G < 128 ∧ freeOut done G = true ∧ planeGrant s m W done G = some F := by
  rw [roundGrants, List.mem_filterMap]
  constructor
  · rintro ⟨G', hG', heq⟩
    split at heq
    · cases heq
    · next hfree =>
      obtain ⟨F', hF', hpair⟩ := Option.map_eq_some_iff.1 heq
      cases hpair
      exact ⟨List.mem_range.1 hG', by simpa using hfree, hF'⟩
  · rintro ⟨hG, hfree, hgrant⟩
    exact ⟨G, List.mem_range.2 hG, by simp [hfree, hgrant]⟩

theorem mem_roundAccepts : (F, G) ∈ roundAccepts s m W done ↔ F < 128 ∧ planeAccept s m W done F = some G := by
  simp [roundAccepts, List.mem_filterMap]

/-- A grant goes to a free source that requests it. -/
theorem planeGrant_spec (h : planeGrant s m W done G = some F) : F < 128 ∧ freeIn done F = true ∧ wants s m W F G = true := by
  have hfound : (freeIn done F && wants s m W F G) = true := List.find?_some (p := fun F => freeIn done F && wants s m W F G) h
  obtain ⟨hfree, hwants⟩ := Bool.and_eq_true_iff.1 hfound
  exact ⟨mem_fibresFrom.1 (List.mem_of_find?_eq_some h), hfree, hwants⟩

/-- What is accepted was granted. -/
theorem granted_of_accepted (h : (F, G) ∈ roundAccepts s m W done) : (F, G) ∈ roundGrants s m W done := by
  obtain ⟨-, haccept⟩ := mem_roundAccepts.1 h
  have hfound : (roundGrants s m W done).contains (F, G) = true :=
    List.find?_some (p := fun G => (roundGrants s m W done).contains (F, G)) haccept
  exact List.contains_iff_mem.1 hfound

end

/-! Matchings. -/

/-- Are the pairs a matching of fibres that request one another on plane W? -/
structure PlaneMatching (s : State) (m : Tab LaneMap) (W : Nat) (l : List (Nat × Nat)) : Prop where
  fibres : ∀ q ∈ l, q.1 < 128 ∧ q.2 < 128
  wanted : ∀ q ∈ l, wants s m W q.1 q.2 = true
  sources : (l.map (·.1)).Nodup
  dests : (l.map (·.2)).Nodup

theorem PlaneMatching.nil (s : State) (m : Tab LaneMap) (W : Nat) : PlaneMatching s m W [] :=
  ⟨by simp, by simp, List.nodup_nil, List.nodup_nil⟩

theorem PlaneMatching.congr {s t : State} (h : PtrOnly s t) {m : Tab LaneMap} {W : Nat} {l : List (Nat × Nat)} :
    PlaneMatching t m W l ↔ PlaneMatching s m W l :=
  ⟨fun k => ⟨k.fibres, fun q hq => (h.wants_eq m W _ _).symm.trans (k.wanted q hq), k.sources, k.dests⟩,
    fun k => ⟨k.fibres, fun q hq => (h.wants_eq m W _ _).trans (k.wanted q hq), k.sources, k.dests⟩⟩

/-- A round's pairs are a matching: each source accepts once, and each destination grants once. -/
theorem roundAccepts_matching (s : State) (m : Tab LaneMap) (W : Nat) (done : List (Nat × Nat)) :
    PlaneMatching s m W (roundAccepts s m W done) := by
  have hspec : ∀ q ∈ roundAccepts s m W done, q.2 < 128 ∧ planeGrant s m W done q.2 = some q.1 := fun q hq => by
    obtain ⟨hG, -, hgrant⟩ := mem_roundGrants.1 (granted_of_accepted hq)
    exact ⟨hG, hgrant⟩
  have hsources : ((roundAccepts s m W done).map (·.1)).Nodup := by
    rw [roundAccepts, List.map_filterMap]
    refine List.Nodup.filterMap (fun a a' b ha ha' => ?_) List.nodup_range
    simp only [Option.map_map, Option.mem_def, Option.map_eq_some_iff, Function.comp_apply] at ha ha'
    obtain ⟨-, -, rfl⟩ := ha
    obtain ⟨-, -, rfl⟩ := ha'
    rfl
  refine ⟨fun q hq => ?_, fun q hq => ?_, hsources, List.Nodup.map_on (fun x hx y hy hxy => ?_) hsources.of_map⟩
  · obtain ⟨hG, hgrant⟩ := hspec q hq
    exact ⟨(planeGrant_spec hgrant).1, hG⟩
  · obtain ⟨-, hgrant⟩ := hspec q hq
    exact (planeGrant_spec hgrant).2.2
  · obtain ⟨-, hx⟩ := hspec x hx
    obtain ⟨-, hy⟩ := hspec y hy
    rw [hxy, hy] at hx
    exact Prod.ext (Option.some.inj hx).symm hxy

/-- A round adds pairs of free fibres to a matching. -/
theorem PlaneMatching.round {s : State} {m : Tab LaneMap} {W : Nat} {done : List (Nat × Nat)} (h : PlaneMatching s m W done) :
    PlaneMatching s m W (done ++ roundAccepts s m W done) := by
  have k := roundAccepts_matching s m W done
  have hfree : ∀ q ∈ roundAccepts s m W done, freeIn done q.1 = true ∧ freeOut done q.2 = true := fun q hq => by
    obtain ⟨-, hout, hgrant⟩ := mem_roundGrants.1 (granted_of_accepted hq)
    exact ⟨(planeGrant_spec hgrant).2.1, hout⟩
  refine ⟨fun q hq => ?_, fun q hq => ?_, ?_, ?_⟩
  · exact (List.mem_append.1 hq).elim (h.fibres q) (k.fibres q)
  · exact (List.mem_append.1 hq).elim (h.wanted q) (k.wanted q)
  · rw [List.map_append]
    refine h.sources.append k.sources fun F hF hF' => ?_
    obtain ⟨p, hp, rfl⟩ := List.mem_map.1 hF
    obtain ⟨q, hq, hqp⟩ := List.mem_map.1 hF'
    have hin := (hfree q hq).1
    simp only [freeIn, Bool.not_eq_true', List.any_eq_false, beq_iff_eq] at hin
    exact hin p hp hqp.symm
  · rw [List.map_append]
    refine h.dests.append k.dests fun G hG hG' => ?_
    obtain ⟨p, hp, rfl⟩ := List.mem_map.1 hG
    obtain ⟨q, hq, hqp⟩ := List.mem_map.1 hG'
    have hout := (hfree q hq).2
    simp only [freeOut, Bool.not_eq_true', List.any_eq_false, beq_iff_eq] at hout
    exact hout p hp hqp.symm

/-- The one requested pair is matched in the first round. -/
theorem mem_roundAccepts_of_only {s : State} {m : Tab LaneMap} {W F G : Nat} (hF : F < 128) (hG : G < 128)
    (hwants : wants s m W F G = true)
    (honly : ∀ A B, A < 128 → B < 128 → wants s m W A B = true → A = F ∧ B = G) : (F, G) ∈ roundAccepts s m W [] := by
  have hgrant : (F, G) ∈ roundGrants s m W [] := by
    refine mem_roundGrants.2 ⟨hG, rfl, ?_⟩
    have hsome : (planeGrant s m W [] G).isSome = true :=
      List.find?_isSome.2 ⟨F, mem_fibresFrom.2 hF, by simp [freeIn, hwants]⟩
    obtain ⟨A, hA⟩ := Option.isSome_iff_exists.1 hsome
    obtain ⟨hlt, -, hw⟩ := planeGrant_spec hA
    rw [hA, (honly A G hlt hG hw).1]
  have hsome : (planeAccept s m W [] F).isSome = true :=
    List.find?_isSome.2 ⟨G, mem_fibresFrom.2 hG, List.contains_iff_mem.2 hgrant⟩
  obtain ⟨B, haccept⟩ := Option.isSome_iff_exists.1 hsome
  have hpair : (F, B) ∈ roundAccepts s m W [] := mem_roundAccepts.2 ⟨hF, haccept⟩
  have hmatch := roundAccepts_matching s m W []
  obtain ⟨-, hB⟩ := hmatch.fibres (F, B) hpair
  obtain ⟨-, rfl⟩ := honly F B hF hB (hmatch.wanted (F, B) hpair)
  exact hpair

/-- A list without repetition that holds one value alone. -/
theorem eq_singleton_of_nodup {α : Type} {l : List α} {a : α} (hl : l.Nodup) (ha : a ∈ l) (honly : ∀ b ∈ l, b = a) : l = [a] := by
  cases l with
  | nil => cases ha
  | cons b l =>
    obtain rfl := honly b (by simp)
    cases l with
    | nil => rfl
    | cons c l =>
      obtain rfl := honly c (by simp)
      simp at hl

/-! BYPASS_MATCH (R228). -/

/-- The three rounds of a plane. -/
def planeMatch (s : State) (m : Tab LaneMap) (W : Nat) : State × List (Nat × Nat) :=
  planeRound m W false (planeRound m W false (planeRound m W true (s, [])))

theorem planeMatch_ptrOnly (s : State) (m : Tab LaneMap) (W : Nat) : PtrOnly s (planeMatch s m W).1 :=
  ((planeRound_ptrOnly m W true (s, [])).trans (planeRound_ptrOnly m W false _)).trans (planeRound_ptrOnly m W false _)

theorem planeRound_matching {s : State} {m : Tab LaneMap} {W : Nat} {a : State × List (Nat × Nat)} (first : Bool)
    (hptr : PtrOnly s a.1) (h : PlaneMatching s m W a.2) : PlaneMatching s m W (planeRound m W first a).2 := by
  rw [planeRound_pairs]
  exact (PlaneMatching.congr hptr).1 (PlaneMatching.round ((PlaneMatching.congr hptr).2 h))

theorem planeMatch_matching (s : State) (m : Tab LaneMap) (W : Nat) : PlaneMatching s m W (planeMatch s m W).2 := by
  have hfirst := planeRound_ptrOnly m W true (s, [])
  have hmatch := planeRound_matching (a := (s, [])) true rfl (PlaneMatching.nil s m W)
  exact planeRound_matching false (hfirst.trans (planeRound_ptrOnly m W false _)) (planeRound_matching false hfirst hmatch)

/-- Where one pair alone is requested, it is the matching. -/
theorem planeMatch_of_only {s : State} {m : Tab LaneMap} {W F G : Nat} (hF : F < 128) (hG : G < 128)
    (hwants : wants s m W F G = true)
    (honly : ∀ A B, A < 128 → B < 128 → wants s m W A B = true → A = F ∧ B = G) : (planeMatch s m W).2 = [(F, G)] := by
  have hmatch := planeMatch_matching s m W
  refine eq_singleton_of_nodup hmatch.sources.of_map ?_ fun q hq => ?_
  · have hfirst := mem_roundAccepts_of_only hF hG hwants honly
    simp only [planeMatch, planeRound_pairs, List.nil_append]
    exact List.mem_append_left _ (List.mem_append_left _ hfirst)
  · obtain ⟨hA, hB⟩ := hmatch.fibres q hq
    obtain ⟨hsrc, hdst⟩ := honly q.1 q.2 hA hB (hmatch.wanted q hq)
    exact Prod.ext hsrc hdst

/-- The bypass with the matching of plane W for slot n. -/
def matchTaken (W n : Nat) (pairs : List (Nat × Nat)) (b : BypSt) : BypSt :=
  { b with matched := tset 0 b.matched W (n + 1), granted := tset [] b.granted (8 * n + W) pairs
           req := pairs.foldl (fun t p => tmod 0 t (128 * (8 * p.1 + W) + p.2) (· - 1)) b.req }

/-- The module with the matching of plane W for slot n made and counted. -/
def planeMatched (s : State) (W n : Nat) : State :=
  let r := planeMatch s (mapAt s n) W
  setByp (bumpBy r.1 (BYP_GRANT W) r.2.length) (matchTaken W n r.2)

/-- What it holds, counts and leaves. -/
theorem planeMatched_spec (s : State) (W n : Nat) :
    let pairs := (planeMatch s (mapAt s n) W).2
    let t := planeMatched s W n
    tget [] t.byp.granted (8 * n + W) = pairs ∧ tget 0 t.byp.matched W = n + 1 ∧
      getReg t (BYP_GRANT W) = getReg s (BYP_GRANT W) + BitVec.ofNat 64 pairs.length ∧ t.byp.oper = s.byp.oper ∧
      regsBut (fun o => o == BYP_GRANT W) s t ∧ t = { s with regs := t.regs, byp := t.byp } := by
  have hptr := planeMatch_ptrOnly s (mapAt s n) W
  unfold planeMatched
  generalize planeMatch s (mapAt s n) W = r at *
  obtain ⟨u, pairs⟩ := r
  unfold PtrOnly at hptr
  dsimp only at *
  have hregs : ∀ o, getReg u o = getReg s o := fun o => getReg_congr (by rw [hptr]) o
  refine ⟨tget_tset_same [] u.byp.granted (8 * n + W) pairs, tget_tset_same 0 u.byp.matched W (n + 1), ?_, ?_, fun o ho => ?_, ?_⟩
  · rw [← hregs]
    exact getReg_setReg_same u (BYP_GRANT W) _
  · rw [setByp_byp, bumpBy_byp, hptr]
    rfl
  · rw [← hregs]
    exact getReg_setReg_ne u (by simpa using ho) _
  · rw [setByp, bumpBy, setReg, hptr]

/-- The request count of the one pair of a matching is one lower. -/
theorem req_planeMatched {s : State} {W n F G : Nat} (h : (planeMatch s (mapAt s n) W).2 = [(F, G)]) :
    tget 0 (planeMatched s W n).byp.req (128 * (8 * F + W) + G) = tget 0 s.byp.req (128 * (8 * F + W) + G) - 1 := by
  have hreq : (planeMatch s (mapAt s n) W).1.byp.req = s.byp.req := by rw [planeMatch_ptrOnly s (mapAt s n) W]
  unfold planeMatched
  dsimp only
  rw [setByp_byp, bumpBy_byp, matchTaken, h, hreq]
  exact tget_tset_same _ _ _ _

/-- From `s` to `t` something was sent, and nothing else happened. -/
def SentOnly (s t : State) : Prop := ∃ out, t = { s with out := out }

theorem slotBlocks_sentOnly (s : State) (n : Nat) : SentOnly s (slotBlocks s n) := by
  have hsent : ∀ (c : Bool) (u : State) (o : Output), SentOnly s u → SentOnly s (if c then emit u o else u) := by
    rintro c u o ⟨out, rfl⟩
    cases c
    · exact ⟨out, rfl⟩
    · exact ⟨o :: out, rfl⟩
  refine forRange_keeps (P := SentOnly s) (fun t F _ h => ?_) ⟨s.out, rfl⟩
  split
  · exact h
  · exact hsent _ _ _ (hsent _ _ _ h)

/-- A matching that is due is made; blocks may go out. -/
theorem bypassMatch_due {s : State} {W n : Nat} (hdue : slotDue s = some n) (hfirst : tget 0 s.byp.matched W ≤ n)
    (hup : dieUp s (W / 2) = true) : SentOnly (planeMatched s W n) (bypassMatch s W) := by
  unfold bypassMatch
  rw [hdue]
  dsimp only
  rw [if_neg (by simp [hup, hfirst])]
  split
  · exact slotBlocks_sentOnly _ n
  · exact ⟨_, rfl⟩

end Sys2Proof.Machine
end

section
/-! SUPPORT. Ranging, requests, matching, and light on the planes (R224 to R229, R233): they settle O36. -/

namespace Sys2Proof.Machine

open Claim

/-- Settles O36: each command has its equation or its frame, the blocks are read off the bytes they are made of, and the matching of
a plane is one by its rounds. -/
theorem bypassSlots : Obligations.BypassSlots := by
  unfold Obligations.BypassSlots
  intro okBlk rngOnly
  refine ⟨fun F L s hpow hanchor hup hfirst => ?_, fun F L s hclk hanchor hup hactive hleft hdue => ?_,
    fun F L b s hanchor hok hactive hsent htime => ?_, fun F s hpow hactive hsent => ?_,
    fun F L s hclk hanchor hup hranged hdue => ?_, fun F L n s hclk hanchor hup hslot hdue => ?_,
    fun F L b s hanchor hok hvalid hrest => ?_, fun W n s hpow hdue hfirst hup => ?_,
    fun l v s hpow hup hmode hlit => ?_, fun l v s hpow hup hdark => ?_⟩
  · refine ⟨_, live_of_powered hpow fun s => rangingStart s F, ?_⟩
    rw [rangingStart_first hanchor hup hfirst]
    exact ⟨rng_setRng_same s F _, OnlyRng.of_setRng rfl, rfl⟩
  · refine ⟨_, liveClocked_of_clocked hclk fun s => rangePing s F, ?_⟩
    rw [rangePing_due hanchor hup hactive hleft hdue]
    obtain ⟨hcrc, htype, hseq⟩ := pingBlock_fields hleft
    generalize mkBlk 0xA0 (le 1 (rng s F).sentCnt) = b at *
    have hrng : rng (emit (setRng s F (pingSent s)) (.block L b)) F = pingSent s (rng s F) := rng_setRng_same s F _
    refine ⟨rfl, hcrc, htype, hseq, ?_, ?_, OnlyRng.of_setRng rfl, rfl⟩ <;> rw [hrng]
    · rfl
    · exact pings_pingSent s _
  · obtain ⟨hclk, hopen, hgood, htype⟩ := hok
    refine ⟨_, liveClocked_of_clocked hclk fun s => rangeEcho s F b, ?_⟩
    rw [rangeEcho_taken hanchor hopen hgood htype hactive hsent htime]
    have hrng : rng (setRng (endResync s L) F (echoTaken s (blkByte b 1) (blkField b 4 4))) F =
        echoTaken s (blkByte b 1) (blkField b 4 4) (rng s F) := rng_setRng_same _ F _
    refine ⟨?_, ?_, OnlyRng.of_setRng rfl, rfl⟩ <;> rw [hrng]
    · exact rtts_echoTaken s _ hsent
    · exact pings_echoTaken s _ _ _
  · refine ⟨_, live_of_powered hpow fun s => rangingDone s F, ?_⟩
    have hshown := rangingDone_signalsBut hactive hsent
    refine ⟨?_, ranged_rangingDone hactive hsent F.isLt, rtt_rangingDone hactive hsent F.isLt,
      far_rangingDone hactive hsent F.isLt, OnlyRng.of_setRng hshown.byp_eq, hshown.1, ?_⟩
    · rw [rng_congr hshown.byp_eq, rng_setRng_same]
      rfl
    · rw [hshown.byp_eq]
      exact hshown.2
  · refine ⟨_, liveClocked_of_clocked hclk fun s => rangeSet s F, ?_⟩
    rw [rangeSet_due hanchor hup hranged hdue]
    obtain ⟨hcrc, htype, htimes⟩ := rangeBlock_fields s F fun W => (96 : Int) + Config.planeOut (8 * F + W)
    generalize mkBlk 0xA7 _ = b at *
    refine ⟨hcrc, htype, rfl, rfl, fun W hW hmode => (htimes W hW).trans ?_, ?_, OnlyRng.of_setRng rfl, rfl⟩
    · rw [rangeTime, if_neg (by simpa using hmode)]
      rfl
    · exact congrArg RangeSt.setAt (rng_setRng_same s F (rangeNoted s.now))
  · refine ⟨_, liveClocked_of_clocked hclk fun s => slotTick s F, ?_⟩
    rw [slotTick_due hanchor hup hslot hdue]
    obtain ⟨hcrc, htype, hnext, hlength, htime⟩ := tickBlock_fields s n
    generalize mkBlk 0xA3 (tickRest s n) = b at *
    exact ⟨rfl, hcrc, htype, hnext, hlength, htime, OnlyRng.of_setRng rfl, rfl⟩
  · obtain ⟨hclk, hopen, hgood, htype⟩ := hok
    refine ⟨_, liveClocked_of_clocked hclk fun s => slotReq s F b, ?_⟩
    obtain ⟨hjoined, hignored⟩ := slotReq_one hanchor hopen hgood htype hvalid hrest
    refine ⟨fun hG hsrc hdst howner => ?_, fun hbad => ?_, ?_⟩
    · rw [hjoined ⟨hG, hsrc, hdst, howner⟩]
      exact ⟨tget_tset_same _ _ _ _, fun k hk => tget_tset_ne _ _ hk _, fun _ _ => rfl⟩
    · rw [hignored fun ⟨_, hsrc, hdst, howner⟩ => hbad.elim (· hsrc) (·.elim (· hdst) (· howner))]
      exact ⟨(getReg_bump _ _ _).trans (if_pos rfl), rfl, regsBut_bump _ (by simp)⟩
    · by_cases hjoins : reqJoins s F b
      · rw [hjoined hjoins]
        rfl
      · rw [hignored hjoins]
        rfl
  · refine ⟨_, live_of_powered hpow fun s => bypassMatch s W, ?_⟩
    obtain ⟨out, hout⟩ := bypassMatch_due hdue hfirst hup
    obtain ⟨hgranted, hmatched, hcount, hoper, hregs, hframe⟩ := planeMatched_spec s W n
    have hmatch := planeMatch_matching s (mapAt s n) W
    rw [hout]
    dsimp only
    rw [hgranted]
    refine ⟨hmatch.wanted, hmatch.sources, hmatch.dests, fun F G hF hG hwants honly => ?_, hmatched, hcount, hoper, hregs, ?_⟩
    · have hone := planeMatch_of_only hF hG hwants honly
      exact ⟨hone, req_planeMatched hone⟩
    · rw [hframe]
  · refine ⟨_, live_of_powered hpow fun s => planeDark s l v, ?_⟩
    rw [planeDark_circuit hup hmode hlit]
    obtain ⟨hflag, hpower, hcount, hshown⟩ := darkSignalled_spec s l.isLt v
    exact ⟨hflag, hpower, hcount, ring_source _ (by decide), portFenced_darkSignalled s l v, hshown.1, hshown.2⟩
  · refine ⟨_, live_of_powered hpow fun s => planeLight s l v, ?_⟩
    rw [planeLight_dark hup hdark]
    have hsig := event_signals (fset (powerRead s l v) (BYP_LANE.DARK l) 0) (block := 0x08) (code := 1) (by decide) 1 (l / 256)
      0xFFFF l [0]
    have hshown := (laneShown_signalsBut s l v 0).trans (SignalsBut.of_signals hsig)
    have hquiet := signalReg_bypLane l.isLt
    refine ⟨?_, (fget_of_signals hsig hquiet).trans (power_of_read s l v 0), hshown.1, hshown.2⟩
    rw [fbit_of_signals hsig hquiet, fbit, fget_fset_zero _ (show 28 + 1 ≤ 64 by decide)]
    rfl

end Sys2Proof.Machine
end

section
/-! SUPPORT. A mirror GET left unanswered for T while a later one, for the record that now awaits its confirmation, is not T old:
it refutes O37. -/

namespace Sys2Proof.Machine

open Claim

/-- The time of R263 runs from the GET of the SEAL record that awaits its confirmation: before T has passed since then, the
time-out does nothing. -/
theorem mirrorTimeout_waits {s : State} {g : Nat} (hsoon : s.elapsed (group s g).unconfAt (gT (group s g)) = false) :
    mirrorTimeout s g = s := by
  simp [mirrorTimeout, hsoon]

/-- A valid group of context 3 with LOG and MIRROR set and T at 200 ms. The SEAL record at log position 320 awaits its confirmation
since its GET at 300 ms. -/
def mirroredGroup : GroupSt :=
  { w0 := BitVec.ofNat 64 (2 ^ 48 + 2 ^ 47 + 3 * 2 ^ 4 + 1)
    w1 := BitVec.ofNat 64 (2 ^ 32 + 1)
    unconf := some 320
    unconfAt := 300000000 }

/-- A powered module in WOVEN, 301 ms after its start. The buddy of group 5 answered neither GET: that of the SEAL record before,
sent at 0 ms, set MIRROR_DOWN after T, the group then sealed without a hold, and a WRITE of its entry cleared MIRROR_DOWN
(R263). -/
def twoGetsState : State :=
  { setMode State.reset mWOVEN with
    sys := { powered := true }
    mono := 301000000 * 2 ^ 32
    pic := { groups := [(5, mirroredGroup)]
             gets := [{ ctx := 3, group := 5, posEnd := 192 },
                      { ctx := 3, group := 5, posEnd := 384, stamp := 300000000 }] } }

theorem group_twoGetsState : group twoGetsState 5 = mirroredGroup := rfl

/-- The older of the two GETs is T old. -/
theorem twoGetsState_older :
    (twoGetsState.pic.gets.any fun m => m.group == 5 && twoGetsState.elapsed m.stamp (gT (group twoGetsState 5))) = true := by
  decide +kernel

/-- The GET of the record that awaits its confirmation is 1 ms old. -/
theorem twoGetsState_newer :
    twoGetsState.elapsed (group twoGetsState 5).unconfAt (gT (group twoGetsState 5)) = false := by
  decide +kernel

/-- Refutes O37: its clause on MIRROR_TIMEOUT asks that some outstanding GET of the group be T old, where R263 times the
confirmation of the last SEAL record. In `twoGetsState` an earlier GET is T old and that record's is not, and the command sets no
MIRROR_DOWN. -/
theorem not_reductionGroups : ¬ Obligations.ReductionGroups := by
  unfold Obligations.ReductionGroups
  intro h
  obtain ⟨-, -, -, -, -, -, -, -, -, -, htimeout⟩ := h
  obtain ⟨t, ht, hdown, -⟩ := htimeout 5 twoGetsState rfl (by decide +kernel) (by decide +kernel) rfl rfl twoGetsState_older
  have hrun : Host.Outcome.next t = .next twoGetsState :=
    ht.symm.trans ((live_of_powered rfl fun s => mirrorTimeout s 5).trans (congrArg _ (mirrorTimeout_waits twoGetsState_newer)))
  rw [Host.Outcome.next.inj hrun] at hdown
  exact absurd (congrArg GroupSt.mirrorDown hdown) (by decide)

end Sys2Proof.Machine
end

section
/-! SUPPORT. A collective whose record is memory-backed and meets an uncorrectable line (R251, R259, Table 13.2). -/

namespace Sys2Proof.Machine

open Claim

/-- Where no word of memory holds an unmet error, the reads of a slot change nothing. -/
theorem slotTouch_of_sound {s : State} (h : memSound s) (x d k : Nat) : slotTouch s x d k = s := by
  unfold slotTouch
  split
  · simp [memTouch, show s.mem.latent = [] from h]
  · rfl

/-- Nor do those of a collective's slots and record. -/
theorem collTouch_of_sound {s : State} (h : memSound s) (c : Coll) (i : Nat) : collTouch s c i = s := by
  have hrecord : (if c.onDie then s else slotTouch s c.ctx c.die c.slot) = s := by
    simp [slotTouch_of_sound h]
  unfold collTouch
  dsimp only
  rw [hrecord]
  split
  · simp [slotTouch_of_sound h]
  · rfl

/-- A record in memory that meets an uncorrectable line makes every use of its collective meet one. -/
theorem collBad_of_record {s : State} {c : Coll} (hmem : c.onDie = false) (hbad : slotBad s c.ctx c.die c.slot = true) (i : Nat) :
    collBad s c i = true := by
  simp [collBad, hmem, hbad]

/-- Collective 7 of group 5 in context 3, owned by SW1, with one chunk, its record in the context's slot 0 on that die. -/
def memoryColl (k : Chunk) : Coll := { ctx := 3, group := 5, cseq := 7, die := 1, onDie := false, chunks := [k] }

/-- The RESULT_ACK for chunk 0 of that collective from port 8, at IO1. -/
def chunkAck : Frame :=
  { hdr := mkHdr 0 7 2 3 0 0 tRESULT_ACK (2 ^ flRED) 0 4 0 (redW2 5 7 0), body := le 4 1, ingress := 8, chan := 2 }

/-- Entry 6 of the multicast table: port 8 alone. -/
def portEight : Entry := { key := directKey 6 6, data := fit 144 [0, 1, 0, 1] }

/-- Group 5: valid, SW1, context 3, channel 2, multicast group 6, two contributions, one chunk. -/
def chunkGroup : GroupSt :=
  { w0 := BitVec.ofNat 64 (6 * 2 ^ 20 + 2 * 2 ^ 16 + 3 * 2 ^ 4 + 2 * 1 + 1), w1 := BitVec.ofNat 64 (2 ^ 32 + 2) }

/-- A powered module in WOVEN in which that collective is in progress. Context 3 has one window frame, frame 0 on SW1, which is a
slot frame, and its first line is poisoned (R327). -/
def poisonedState (k : Chunk) : State :=
  { setMode (fset (fset State.reset (CTX_STAT.STATE 3) 2) (MEM_CTX.SLOT1 3) 1) mWOVEN with
    sys := { powered := true }
    tbl := { copies := [6, 14, 22, 30].map fun i => (i, [(6, portEight)]) }
    core := { ioq := [(1, [chunkAck])] }
    mem := { winFr := [(3, [(1, 0)])], poison := [(2 ^ 40, true)] }
    pic := { groups := [(5, chunkGroup)], colls := [memoryColl k] } }

theorem poisonedState_sound (k : Chunk) : memSound (poisonedState k) := rfl

theorem findColl_poisonedState (k : Chunk) : findColl (poisonedState k) 3 5 7 = some (memoryColl k) := rfl

end Sys2Proof.Machine
end

section
/-! SUPPORT. A RESULT_ACK for a collective whose record meets an uncorrectable line: it refutes O38. -/

namespace Sys2Proof.Machine

open Claim

/-- Of the frames at a working internal output, the oldest is taken where its TYPE is accepted. -/
theorem takeIo_of_head {s : State} {x : Nat} {h : Frame} {t : List Frame} {p : Nat → Bool} (hio : ioFrames s x = h :: t)
    (hp : p (hType h.hdr) = true) (hready : ioReady s x = true) (f : State → Frame → State) :
    takeIo s x p f = f (setCore s fun c => { c with ioq := tset [] c.ioq x t }) h := by
  simp [takeIo, hio, hp, hready]

/-- Does a RESULT_ACK name the chunk, and is its result still held (R254)? -/
def ackNames (f : Frame) (k : Chunk) : Bool :=
  hChunk f.hdr + 1 - fieldAt f.body 0 4 ≤ k.idx && k.idx ≤ hChunk f.hdr && k.done && !k.freed

/-- A RESULT_ACK that names a result still held aborts the collective with ECC where its record meets an uncorrectable line. -/
theorem resultAckRx_of_bad {s : State} {d : Nat} {f : Frame} {data : List Byte} {c : Coll} {k : Chunk} (hsound : memSound s)
    (h16 : picRows16 s d f = none) (h79 : picRows79 s f = (none, data))
    (htomb : hasTomb s (gCtx (group s (hGroup f.hdr))) (hGroup f.hdr) (hCseq f.hdr) = false)
    (hcoll : findColl s (gCtx (group s (hGroup f.hdr))) (hGroup f.hdr) (hCseq f.hdr) = some c)
    (hmem : k ∈ c.chunks) (hnamed : ackNames f k = true) (hbad : ∀ i, collBad s c i = true) :
    resultAckRx s d f = abortColl s (hGroup f.hdr) (hCseq f.hdr) aECC (hChunk f.hdr) noPort true := by
  have htouch : ∀ l : List Chunk, forEach l s (fun s k => collTouch s c k.idx) = s := fun l =>
    forEach_keeps (P := fun t => t = s) (fun t k _ ht => by rw [ht, collTouch_of_sound hsound]) rfl
  have hmet : (c.chunks.filter (ackNames f)).any (fun k => collBad s c k.idx) = true :=
    List.any_eq_true.2 ⟨k, List.mem_filter.2 ⟨hmem, hnamed⟩, hbad _⟩
  unfold resultAckRx
  simp only [h16, h79, htomb, hcoll, htouch, Bool.false_eq_true, if_false]
  exact if_pos hmet

/-- The result of chunk 0, multicast and not yet acknowledged by port 8. -/
def unackedChunk : Chunk := { count := 2, done := true, acks := [8] }

/-- The state in which port 8 acknowledges that result. -/
abbrev ackState : State := poisonedState unackedChunk

/-- The same with the frame taken. -/
abbrev ackTaken : State := setCore ackState fun c => { c with ioq := tset [] c.ioq 1 [] }

theorem ackTaken_bad (i : Nat) : collBad ackTaken (memoryColl unackedChunk) i = true :=
  collBad_of_record rfl (by decide +kernel) i

/-- The acknowledgement meets the uncorrectable line. -/
theorem resultAckRx_ackTaken : resultAckRx ackTaken 1 chunkAck = abortColl ackTaken 5 7 aECC 0 noPort true :=
  resultAckRx_of_bad (c := memoryColl unackedChunk) (k := unackedChunk) (data := []) rfl (by decide +kernel) (by decide +kernel)
    (by decide +kernel) (by decide +kernel) (List.mem_singleton_self _) (by decide +kernel) ackTaken_bad

/-- The abort frees the record and the slot. -/
theorem ackTaken_aborted : (abortColl ackTaken 5 7 aECC 0 noPort true).pic.colls = [] := by decide +kernel

theorem exec_resultAckRx_ackState : exec (.resultAckRx 1) ackState = .next (abortColl ackTaken 5 7 aECC 0 noPort true) := by
  rw [show exec (.resultAckRx 1) ackState = execResultAckRx 1 ackState from rfl, execResultAckRx, live_of_powered rfl,
    takeIo_of_head (h := chunkAck) (t := []) rfl (by decide +kernel) (by decide +kernel)]
  exact congrArg _ resultAckRx_ackTaken

/-- Refutes O38: its clause on RESULT_ACK does not ask that the slots and the record read be correctable. In `ackState` the record is
in memory and its line is poisoned, and the acknowledgement ends the collective with ECC (R258, Table 13.2) where the clause asks for
its chunk. -/
theorem not_reductionFrames : ¬ Obligations.ReductionFrames := by
  unfold Obligations.ReductionFrames
  intro h
  obtain ⟨-, -, -, -, hack, -⟩ := h
  obtain ⟨t, ht, hchunks, -⟩ := hack 1 chunkAck [] (memoryColl unackedChunk) ackState
    ⟨rfl, rfl, by decide +kernel, by decide +kernel, by decide +kernel, by decide +kernel, by decide +kernel, by decide +kernel⟩
    (by decide +kernel)
  have hgone : t.pic.colls = [] := by
    rw [← Host.Outcome.next.inj (exec_resultAckRx_ackState.symm.trans ht), ackTaken_aborted]
  have hnone : findColl t (hCtx chunkAck.hdr) (hGroup chunkAck.hdr) (hCseq chunkAck.hdr) = none := by
    rw [findColl, hgone, List.find?_nil]
  have hchunk := hchunks 0
  beta_reduce at hchunk
  rw [hnone] at hchunk
  exact absurd hchunk (by simp [findChunk, memoryColl, unackedChunk])

end Sys2Proof.Machine
end

section
/-! SUPPORT. The seal of a collective whose record meets an uncorrectable line: it refutes O39. -/

namespace Sys2Proof.Machine

open Claim

/-- COLLECTIVE_SEAL aborts the collective with ECC where its record meets an uncorrectable line, whatever was released. -/
theorem sealColl_of_bad {s : State} {x g q : Nat} {c : Coll} (hsound : memSound s) (hcoll : findColl s x g q = some c)
    (hvalid : gValid (group s g) = true) (hdie : dieUp s c.die = true) (hmirror : gMirror (group s g) = false)
    (hfreed : ∀ i, i < gChunks (group s g) → (findChunk c i).any (·.freed) = true) (hbad : ∀ i, collBad s c i = true) :
    sealColl s x g q = abortColl s g q aECC noChunk noPort true := by
  unfold sealColl
  simp only [hcoll, hvalid, hdie, hmirror, Bool.not_true, Bool.false_or, Bool.false_and, Bool.or_false]
  rw [if_neg, collTouch_of_sound hsound, if_pos (hbad _)]
  intro hopen
  obtain ⟨i, hi, hheld⟩ := List.all_eq_false.1 (by simpa only [Bool.not_eq_true'] using hopen)
  have hfree := hfreed i (lt_of_lt_of_le (List.mem_range.1 hi) (min_le_left _ _))
  cases hk : findChunk c i with
  | none => simp [hk] at hfree
  | some k =>
    rw [hk] at hfree hheld
    exact hheld hfree

/-- Chunk 0, released. -/
def releasedChunk : Chunk := { count := 2, done := true, freed := true }

/-- The state in which the collective is to be sealed. -/
abbrev sealState : State := poisonedState releasedChunk

theorem sealState_bad (i : Nat) : collBad sealState (memoryColl releasedChunk) i = true :=
  collBad_of_record rfl (by decide +kernel) i

theorem sealState_released (i : Nat) (hi : i < gChunks (group sealState 5)) :
    (findChunk (memoryColl releasedChunk) i).any (·.freed) = true := by
  have hzero : i = 0 := Nat.lt_one_iff.1 (lt_of_lt_of_eq hi (by decide +kernel))
  rw [hzero]
  rfl

theorem exec_collectiveSeal_sealState :
    exec (.collectiveSeal 3 5 7) sealState = .next (abortColl sealState 5 7 aECC noChunk noPort true) :=
  (live_of_powered rfl fun s => sealColl s 3 5 7).trans <| congrArg _ <|
    sealColl_of_bad (poisonedState_sound _) (findColl_poisonedState _) (by decide +kernel) (by decide +kernel) (by decide +kernel)
      sealState_released sealState_bad

/-- No seal is counted. -/
theorem sealState_aborted : getReg (abortColl sealState 5 7 aECC noChunk noPort true) PIC_SEALS = 0 := by decide +kernel

/-- Refutes O39: its first clause does not ask that the collective's record be correctable. In `sealState` the record is in memory and
its line is poisoned, and COLLECTIVE_SEAL ends the collective with ECC (R258, Table 13.2) and counts no seal. -/
theorem not_reductionEnds : ¬ Obligations.ReductionEnds := by
  unfold Obligations.ReductionEnds
  intro h
  obtain ⟨hseal, -⟩ := h
  obtain ⟨t, ht, -, -, hcount, -⟩ := hseal 3 5 7 (memoryColl releasedChunk) sealState rfl (findColl_poisonedState _)
    (by decide +kernel) (by decide +kernel) (by decide +kernel) (by decide +kernel) sealState_released
  rw [← Host.Outcome.next.inj (exec_collectiveSeal_sealState.symm.trans ht), sealState_aborted] at hcount
  exact absurd hcount (by decide +kernel)

end Sys2Proof.Machine
end

section
/-! SUPPORT. The queue, reset and the absence of power: they settle O1, O4 and O6. -/

namespace Sys2Proof.Machine

open Claim

/-- Settles O1: the front of the queue is what a step matches on. -/
theorem stepRunsFrontCommand : Obligations.StepRunsFrontCommand := by
  unfold Obligations.StepRunsFrontCommand
  exact fun c s rest => rfl

/-- Where no register is listed, each reads its reset value. -/
theorem getReg_of_unlisted {s : State} (h : s.regs = []) (o : Nat) : getReg s o = regReset o := by
  rw [getReg, h, tget]

/-- Settles O4: at reset no register is listed. -/
theorem resetRegistersCanonical : Obligations.ResetRegistersCanonical := by
  unfold Obligations.ResetRegistersCanonical
  exact ⟨Canon.nil regReset, getReg_of_unlisted rfl⟩

/-! Without power (R454). -/


/-- Without power no command has an effect (R454). -/
theorem live_of_unpowered {s : State} (h : s.sys.powered = false) (f : State → State) : live s f = .next s := by
  simp [live, h]

theorem execIcConfigWrite_of_unpowered {s : State} (h : s.sys.powered = false) (p : Fin 13) (o : BitVec 26) (w : Word) :
    execIcConfigWrite p o w s = .next s := by
  unfold execIcConfigWrite
  split
  · exact live_of_unpowered h _
  · rfl

/-- Is it a command that an unpowered module obeys: POWER_UP, or a move of the removal latch? -/
def unpoweredObeys (c : Instr) : Bool :=
  match c with
  | .powerUp _ _ _ _ _ => true
  | .latchOpen => true
  | .latchClosed => true
  | _ => false

/-- Every other command leaves an unpowered module as it is. -/
theorem exec_of_unpowered {s : State} (h : s.sys.powered = false) {c : Instr} (hc : unpoweredObeys c = false) :
    exec c s = .next s := by
  cases c
  case powerUp => cases hc
  case latchOpen => cases hc
  case latchClosed => cases hc
  case powerOff => exact congrArg Host.Outcome.next (if_neg (by simp [h]))
  case icConfigWrite p o w => exact execIcConfigWrite_of_unpowered h p o w
  all_goals apply live_of_unpowered h

/-- What a loss of power leaves is what R454 says is kept. -/
theorem exec_powerOff_of_powered {s : State} (h : s.sys.powered = true) : exec .powerOff s = .next (coldState s) :=
  congrArg Host.Outcome.next (if_pos h)

/-- Settles O6: an unpowered module obeys the latch alone, and a powered one loses all but what `coldState` keeps. -/
theorem noPowerNothingRuns : Obligations.NoPowerNothingRuns := by
  unfold Obligations.NoPowerNothingRuns
  refine ⟨fun c s h hc => ?_, fun s h => exec_powerOff_of_powered h⟩
  cases hobeys : unpoweredObeys c
  · exact ⟨s, exec_of_unpowered h hobeys, rfl⟩
  · cases c
    case powerUp => cases hc
    case latchOpen =>
      refine ⟨latchOpen s, rfl, ?_⟩
      unfold latchOpen
      split
      · rfl
      · rw [if_pos (by simp [h])]; rfl
    case latchClosed =>
      exact ⟨_, congrArg Host.Outcome.next (if_neg (by simp [h])), rfl⟩
    all_goals cases hobeys

end Sys2Proof.Machine
end

section
/-! SUPPORT. Reads of the progress of an unpick, which move it on: they refute O58. -/

namespace Sys2Proof.Machine

open Claim

theorem findReg_ctxPage {x c : Nat} (hx : x < 1024) (hc : c < 0x1000) : findReg (ctxPage x + c) = ctxRegs.find? (·.covers c) := by
  have hin : 0x3000000 ≤ ctxPage x + c ∧ ctxPage x + c < 0x3400000 := by unfold ctxPage; omega
  have hport : ¬ (0x1000000 ≤ ctxPage x + c ∧ ctxPage x + c < 0x1400000) := by omega
  have hhole : regHole (ctxPage x + c) = false := by
    rw [regHole, if_neg (by omega), if_neg (by omega)]
  have hoff : (ctxPage x + c) % 0x1000 = c := by unfold ctxPage; omega
  rw [findReg, hhole, if_neg Bool.false_ne_true, if_neg hport, if_pos hin, hoff]

/-- The row of a context's state in the register table. -/
def ctxStatRow : RegDesc := ⟨0x0, 8, 1, 0x0, 0xFFFFFFFFFFFFFF07, 0x0, 0x0, 0x0, 0x0⟩

theorem regAt_ctxStat (s : State) : regAt s (CTX_STAT 0) = some ctxStatRow := by
  rw [regAt, if_neg (by simp [show inPortPage (CTX_STAT 0) = false by decide])]
  exact (findReg_ctxPage (x := 0) (c := 0) (by decide) (by decide)).trans (by decide)

/-- A read of `CTX_STAT_0` while context 0 is UNPICKING moves the unpick on. -/
theorem readReg_unpicking {s : State} (h : ctxState s 0 = 3) (p : Nat) : (readReg s p (CTX_STAT 0)).2 = unpickMove s 0 := by
  have hoff : ctxOf (CTX_STAT 0) = 0 := by decide
  have hsec : (CTX_STAT 0 == TB_SEC) = false := by decide
  have hclaim : (decide (IC_CLAIM 0 ≤ CTX_STAT 0) && decide (CTX_STAT 0 < IC_CLAIM 5)) = false := by decide
  have hlock : inLock (CTX_STAT 0) = false := by decide
  have hns : (CTX_STAT 0 == TB_NS) = false := by decide
  have hshort : (CTX_STAT 0 == TB_SHORT) = false := by decide
  have hrec : (decide (EVR_REC_W 0 ≤ CTX_STAT 0) && decide (CTX_STAT 0 < EVR_REC_W 8)) = false := by decide
  have hctx : (inCtxPage (CTX_STAT 0) && CTX_STAT 0 % 0x1000 == 0) = true := by decide
  simp only [readReg, peekReg, regAt_ctxStat, hsec, hclaim, hlock, Bool.or_self, Bool.false_and, hns, hshort, hrec, hctx, hoff, h, beq_self_eq_true, Bool.and_self, Bool.false_eq_true, if_false, if_true]

/-- The unpick's fields after a read, of which the values drawn are free (Table 16.3). -/
theorem unpickMove_estimate (s : State) (x : Nat) :
    fget (unpickMove s x) (CTX_STAT.ESTIMATE x) =
      (Config.freeValue (s.free + 1)).toNat % (fget s (CTX_STAT.ESTIMATE x) + 1) % 2 ^ 24 :=
  fget_fset_same _ _ _ (by decide : 40 + 24 ≤ 64)

theorem unpickMove_progress (s : State) (x : Nat) :
    fget (unpickMove s x) (CTX_STAT.PROGRESS x) =
      (fget s (CTX_STAT.PROGRESS x) + (Config.freeValue s.free).toNat % (0xFFFF - fget s (CTX_STAT.PROGRESS x))) % 2 ^ 16 :=
  (fget_fset_ne _ _ _ _ (.inr (.inl (by decide : 24 + 16 ≤ 40)))).trans (fget_fset_same _ _ _ (by decide : 24 + 16 ≤ 64))

/-- Context 0 is UNPICKING, with two parts of 65,535 to go and an estimate of 1; the next free value is number `n`. -/
def unpickState (n : Nat) : State :=
  { regs := [(CTX_STAT 0, BitVec.ofNat 64 (2 ^ 40 + 0xFFFD * 2 ^ 24 + 3))], free := n }

/-- Refutes O58: a read of `CTX_STAT_x` of a context that is UNPICKING draws PROGRESS and ESTIMATE anew (log entry 157). Were both
left by every read, free value 1 would be even as a step of PROGRESS in `unpickState 1` and odd as an ESTIMATE in `unpickState 0`. -/
theorem not_readsHaveNoSideEffect : ¬ Obligations.ReadsHaveNoSideEffect := by
  unfold Obligations.ReadsHaveNoSideEffect
  intro h
  obtain ⟨hread, -⟩ := h
  have hstate : ∀ n, ctxState (unpickState n) 0 = 3 := fun n =>
    (fget_congr rfl _ : _ = ctxState (unpickState 0) 0).trans (by decide)
  have hkept : ∀ (n : Nat) (f : Fld), fget (unpickMove (unpickState n) 0) f = fget (unpickState n) f := by
    intro n f
    have hn := hread 0 (CTX_STAT 0) (unpickState n) (by decide)
    rw [readReg_unpicking (hstate n)] at hn
    exact fget_congr (congrArg State.regs hn) f
  have hodd : (Config.freeValue 1).toNat % 2 % 2 ^ 24 = 1 := (unpickMove_estimate (unpickState 0) 0).symm.trans (hkept 0 _)
  have heven : (0xFFFD + (Config.freeValue 1).toNat % 2) % 2 ^ 16 = 0xFFFD :=
    (unpickMove_progress (unpickState 1) 0).symm.trans (hkept 1 _)
  omega

end Sys2Proof.Machine
end

section
/-! SUPPORT. A module whose NVS holds a retired check group of a memory channel it does not have: it refutes O5. -/

namespace Sys2Proof.Machine

open Claim

/-- The module has 640 memory channels (Table 21.1); NVS holds a retired group of channel 516,096. -/
def retiredState : State := { nvs := { retired := [(516096, [0])] } }

/-- The register of that channel would stand where `CTX_STAT_0` does. -/
theorem memCh_eq_ctxStat : MEM_CH 516096 = CTX_STAT 0 := by decide

/-- Powered up with its straps in recovery, it counts the retired group there. -/
theorem ctxState_powerUp_retiredState : ctxState (powerUp retiredState 1 1 1 true true) 0 = 1 := by decide

/-- Refutes O5: its first clause does not ask that what NVS holds be of channels the module has. In `retiredState` it is not, and the
count of retired groups that R494 has BOOT show falls on the state of context 0. -/
theorem not_powerUpStartsInBoot : ¬ Obligations.PowerUpStartsInBoot := by
  unfold Obligations.PowerUpStartsInBoot
  intro h
  obtain ⟨hup, -⟩ := h
  obtain ⟨t, ht, -, -, -, -, -, -, -, hctx, -⟩ := hup retiredState 1 1 1 true true rfl
  have hnone : ctxState (powerUp retiredState 1 1 1 true true) 0 = 0 := by
    rw [Host.Outcome.next.inj ht]
    exact hctx 0 (by decide)
  rw [ctxState_powerUp_retiredState] at hnone
  exact absurd hnone (by decide)

end Sys2Proof.Machine
end

section
/-! SUPPORT. Commands of a write-only register, and the mode commands (R463 to R465): they settle O8. -/

namespace Sys2Proof.Machine

open Claim

/-! Commands. -/

/-- An accepted command answers what its effect makes of the state, self-tests swept. -/
theorem writeNum_of_writeOnly {s : State} {p : Fin 13} {off v : Nat} (hacc : accepts s p off (BitVec.ofNat 64 v) = true)
    (hwo : WriteOnly off) :
    writeNum p off v s = .next (testSweep (regEffect s (cmdTaken s off) p off (BitVec.ofNat 64 v) none)) := by
  obtain ⟨d, hd, hrw, hw1c⟩ := hwo
  refine (writeWord_of_row hacc hd).trans ?_
  rw [storeFields_of_writeOnly hrw hw1c, ← cmdTaken]

/-- A register but `CTL_TEST_STAT` taken as a command has no part in the self-tests. -/
theorem testFree_cmdTaken {s : State} (hfree : testFree s = true) (off : Nat) : testFree (cmdTaken s off) = true :=
  (testFree_congr (getReg_cmdTaken s off _) rfl).trans hfree

theorem testActive_of_free {s : State} (hfree : testFree s = true) : testActive s = false := by
  unfold testFree at hfree
  rw [Bool.and_eq_true, Bool.not_eq_true'] at hfree
  exact hfree.1

@[simp] theorem mode_cmdTaken (s : State) (off : Nat) : (cmdTaken s off).mode = s.mode := fget_cmdTaken s off _

/-! Modes. -/

theorem writeOnly_modeCmd : WriteOnly CTL_MODE_CMD :=
  ⟨⟨CTL_MODE_CMD, 8, 1, 0x0, 0x7, 0x0, 0x0, 0x0, 0x7⟩, rfl, rfl, rfl⟩

theorem regEffect_modeCmd (old s : State) (p : Nat) (w : Word) (e : Option (List Byte)) :
    regEffect old s p CTL_MODE_CMD w e = modeCommand s (wget w CTL_MODE_CMD.OP) := rfl

/-- What the model keeps beside the registers of the state it enters: which way it forwards, and whence it drains (R463). -/
def modeSys (s : State) (op : Nat) (y : Sys) : Sys :=
  { y with maintBasic := if s.mode == mBASIC then true else if s.mode == mWOVEN then false else y.maintBasic,
           drainFrom := if op == 3 then s.mode else y.drainFrom }

/-- The state a mode command leads to. -/
def modeEntered (s : State) (op m : Nat) : State := setMode (fset (setSys s (modeSys s op)) CTL_MODE_STAT.CODE 0) m

/-- A mode command that is accepted, with no self-test running, enters its state. -/
theorem modeCommand_of_modeTo {s : State} {op m : Nat} (hfree : testFree s = true) (hop : op ≠ 0) (hm : modeTo s op = some m) :
    modeCommand s op = modeEntered s op m := by
  simp only [modeCommand, hm, testActive_of_free hfree, beq_eq_false_iff_ne.2 hop, Bool.and_false, Bool.false_and,
    Bool.false_eq_true, if_false]
  rfl

/-- Is it the register of the module's state or of the last mode command's code? -/
def modeReg (o : Nat) : Bool := o == PRK_STATUS || o == CTL_MODE_STAT

theorem modeEntered_regsBut (s : State) (op m : Nat) : regsBut modeReg s (modeEntered s op m) :=
  ((regsBut_of_regs_eq rfl : regsBut modeReg s (setSys s (modeSys s op))).trans (regsBut_fset _ _ rfl _)).trans
    (regsBut_fset _ _ rfl _)

/-- The code of a mode command that enters its state is OK. -/
theorem code_modeEntered (s : State) (op m : Nat) : fget (modeEntered s op m) CTL_MODE_STAT.CODE = 0 :=
  (fget_fset_ne _ _ _ _ (by decide)).trans (fget_fset_same _ _ _ (by decide))

/-- A mode command as the module takes it: the state it leads to, OK, and no other register changed. -/
theorem writeNum_modeCmd {s : State} {p : Fin 13} {op m : Nat} (hacc : accepts s p CTL_MODE_CMD (BitVec.ofNat 64 op) = true)
    (hop : op ≠ 0) (hop' : op < 8) (hm : m < 8) (hto : modeTo (cmdTaken s CTL_MODE_CMD) op = some m) :
    ∃ t, writeNum p CTL_MODE_CMD op s = .next t ∧
      (t.mode = m ∧ fget t CTL_MODE_STAT.CODE = 0 ∧ regsBut modeReg s t ∧ t = { s with regs := t.regs, sys := t.sys }) ∧
      t.sys = modeSys (cmdTaken s CTL_MODE_CMD) op s.sys := by
  have hfree := testFree_cmdTaken (testFree_of_accepts hacc) CTL_MODE_CMD
  have hword : wget (BitVec.ofNat 64 op) CTL_MODE_CMD.OP = op := by
    simp only [wget, bits, CTL_MODE_CMD.OP, BitVec.toNat_ofNat]
    omega
  refine ⟨modeEntered (cmdTaken s CTL_MODE_CMD) op m, ?_, ⟨(mode_setMode _ m).trans (Nat.mod_eq_of_lt hm), code_modeEntered _ _ _,
    (regsBut_setReg_getReg modeReg s _).trans (modeEntered_regsBut _ _ _), rfl⟩, rfl⟩
  rw [writeNum_of_writeOnly hacc writeOnly_modeCmd, regEffect_modeCmd, hword, modeCommand_of_modeTo hfree hop hto]
  exact congrArg _ (testSweep_of_kept hfree (modeEntered_regsBut _ _ _ _ rfl) rfl)

/-- Settles O8: each command is the one its state allows, and what it enters is read off. -/
theorem modeCommands : Obligations.ModeCommands := by
  unfold Obligations.ModeCommands
  refine ⟨fun p s hacc hmode => ?_, fun p s hacc hmode => ?_, fun p s hacc hmode => ?_, fun p s hacc hmode hfrom => ?_⟩
  · have hto : modeTo (cmdTaken s CTL_MODE_CMD) 1 = some mMAINT := by
      rcases hmode with h | h <;> simp [modeTo, h]
    obtain ⟨t, ht, hsaid, -⟩ := writeNum_modeCmd hacc (by decide) (by decide) (by decide) hto
    exact ⟨t, ht, hsaid⟩
  · have hto : modeTo (cmdTaken s CTL_MODE_CMD) 2 = some (if getReg s PRK_ACTIVE ≠ 0 then mWOVEN else mBASIC) := by
      simp [modeTo, hmode]
    obtain ⟨t, ht, hsaid, -⟩ := writeNum_modeCmd hacc (by decide) (by decide) (by split <;> decide) hto
    exact ⟨t, ht, hsaid⟩
  · have hto : modeTo (cmdTaken s CTL_MODE_CMD) 3 = some mDRAINING := by
      rcases hmode with h | h | h <;> simp [modeTo, h]
    obtain ⟨t, ht, hsaid, hsys⟩ := writeNum_modeCmd hacc (by decide) (by decide) (by decide) hto
    exact ⟨t, ht, hsaid, by rw [hsys]; exact mode_cmdTaken s _⟩
  · have hto : modeTo (cmdTaken s CTL_MODE_CMD) 4 = some s.sys.drainFrom := by
      have hsys : (cmdTaken s CTL_MODE_CMD).sys = s.sys := rfl
      rcases hfrom with h | h <;> simp [modeTo, hmode, hsys, h, mBASIC, mMAINT, mWOVEN]
    have hlt : s.sys.drainFrom < 8 := by rcases hfrom with h | h <;> rw [h] <;> decide
    obtain ⟨t, ht, hsaid, -⟩ := writeNum_modeCmd hacc (by decide) (by decide) hlt hto
    exact ⟨t, ht, hsaid⟩

end Sys2Proof.Machine
end

section
/-! SUPPORT. Self-tests (R469, R470): they settle O9. -/

namespace Sys2Proof.Machine

open Claim

/-! The registers of a test (Table 19.8). -/

/-- Is it a result register or the status of the self-tests? -/
def testReg (o : Nat) : Bool := o == CTL_TEST_STAT || o == CTL_TEST_RES0 || o == CTL_TEST_RES1

/-- Every register above those of the self-tests is none of theirs. -/
theorem testReg_of_above {o : Nat} (h : 0x438 ≤ o) : testReg o = false := by
  unfold testReg CTL_TEST_STAT CTL_TEST_RES0 CTL_TEST_RES1
  simp only [Bool.or_eq_false_iff, beq_eq_false_iff_ne]
  omega

/-- The preconditions of Table 19.7 but those of kinds 6 and 7 depend on no register of the self-tests. -/
theorem testHolds_congr {s t : State} (hregs : regsBut testReg s t) (hbyp : t.byp = s.byp) {k : Nat} (hk : k < 6 ∨ k = 8)
    (u : Nat) : testHolds t k u = testHolds s k u := by
  have hf : ∀ f : Fld, 0x438 ≤ f.off → fget t f = fget s f := fun f h => fget_of_getReg_eq (hregs _ (testReg_of_above h))
  have hforce : fget t (OPT_FIBRE.FORCE_CLOSE u) = fget s (OPT_FIBRE.FORCE_CLOSE u) :=
    hf _ (show 0x438 ≤ 0x1400000 + 8 * u by omega)
  have hdie : ∀ d, fget t (FLT_DIE.STATE d) = fget s (FLT_DIE.STATE d) := fun d => hf _ (show 0x438 ≤ 0x3800040 + 8 * d by omega)
  have hfence : fget t (PRT_STATE.FENCE u) = fget s (PRT_STATE.FENCE u) :=
    hf _ (show 0x438 ≤ 0x1000000 + 0x1000 * u + 0 by omega)
  have hstat : fget t (BOB_RGN_STAT.STATE u) = fget s (BOB_RGN_STAT.STATE u) := hf _ (show 0x438 ≤ 0x2800100 + 8 * u by omega)
  have hown : fget t (PRK_RGEN.OWNED u) = fget s (PRK_RGEN.OWNED u) := hf _ (by simp only [PRK_RGEN.OWNED, PRK_RGEN]; omega)
  have hctx : fget t (PRK_RGEN.CONTEXT u) = fget s (PRK_RGEN.CONTEXT u) := hf _ (by simp only [PRK_RGEN.CONTEXT, PRK_RGEN]; omega)
  obtain h | h | h | h | h | h | h : k = 0 ∨ k = 1 ∨ k = 2 ∨ k = 3 ∨ k = 4 ∨ k = 5 ∨ k = 8 := by omega
  all_goals
    subst h
    simp only [testHolds, portFenced, regionState, regionOwner, dieUp, fbit, hforce, hdie, hfence, hstat, hown, hctx, hbyp] <;>
      rfl

/-! The end of a test. -/

theorem testEnd_regsBut (s : State) (code : Nat) : regsBut (fun o => o == CTL_TEST_STAT) s (testEnd s code) :=
  ((regsBut_fset s _ rfl _).trans (regsBut_fset _ _ rfl _)).trans (regsBut_fset _ _ rfl _)

theorem testEnd_regsOnly (s : State) (code : Nat) : regsOnly s (testEnd s code) :=
  ((regsOnly_fset s _ _).trans (regsOnly_fset _ _ _)).trans (regsOnly_fset _ _ _)

/-- A test that has ended shows its code. -/
theorem testEnd_shows (s : State) {code : Nat} (h : code < 256) :
    fget (testEnd s code) CTL_TEST_STAT.STATE = 3 ∧ fget (testEnd s code) CTL_TEST_STAT.CODE = code := by
  unfold testEnd
  constructor
  · rw [fget_fset_ne _ _ _ _ (by decide), fget_fset_same _ _ _ (by decide)]
    rfl
  · rw [fget_fset_ne _ _ _ _ (by decide), fget_fset_ne _ _ _ _ (by decide), fget_fset_same _ _ _ (by decide)]
    exact Nat.mod_eq_of_lt h

/-- It keeps its kind, its unit and its DETAIL. -/
theorem testEnd_keeps (s : State) (code : Nat) {f : Fld} (hf : f = CTL_TEST_STAT.KIND ∨ f = CTL_TEST_STAT.UNIT ∨ f = CTL_TEST_STAT.DETAIL) :
    fget (testEnd s code) f = fget s f := by
  have hdisj : ∀ g ∈ [CTL_TEST_STAT.CODE, CTL_TEST_STAT.STATE, CTL_TEST_STAT.ESTIMATE],
      f.off ≠ g.off ∨ f.lo + f.wid ≤ g.lo ∨ g.lo + g.wid ≤ f.lo := by
    rcases hf with rfl | rfl | rfl <;> decide
  unfold testEnd
  rw [fget_fset_ne _ _ _ _ (hdisj _ (by simp)), fget_fset_ne _ _ _ _ (hdisj _ (by simp)), fget_fset_ne _ _ _ _ (hdisj _ (by simp))]

theorem testUnit_testEnd (s : State) (code : Nat) : testUnit (testEnd s code) = testUnit s := testEnd_keeps s code (.inr (.inl rfl))

/-- A test that has ended is left to its unit's after-state. -/
theorem testSweep_testEnd {s : State} (h : s.test.started ≠ 0) (code : Nat) :
    testSweep (testEnd s code) =
      testAfter (setTest (testEnd s code) fun t => { t with started := 0 }) (testKind s) (testUnit s) := by
  have hrun : (testEnd s code).test.started ≠ 0 := h
  rw [testSweep]
  simp only [testActive_testEnd, Bool.false_and, Bool.false_eq_true, if_false, Bool.not_false, Bool.and_true, bne_iff_ne, ne_eq, hrun,
    not_false_eq_true, if_true, testKind_testEnd, testUnit_testEnd]

theorem fget_setTest (s : State) (g : TestSt → TestSt) (f : Fld) : fget (setTest s g) f = fget s f := fget_congr (setTest_regs s g) f

/-- A test that never began to run is swept without trace. -/
theorem testSweep_testEnd_of_unbegun {s : State} (h : s.test.started = 0) (code : Nat) : testSweep (testEnd s code) = testEnd s code := by
  have hbegun : (testEnd s code).test.started = 0 := h
  exact testSweep_of_free (by simp [testFree, testActive_testEnd, hbegun])

/-- What shows a test's result: its status, and that it is over. -/
def TestOver (s t : State) : Prop := getReg t CTL_TEST_STAT = getReg s CTL_TEST_STAT ∧ t.test = s.test

/-- The after-state of a unit, but of a MODULE test, leaves the result of the test. -/
theorem testAfter_over (s : State) {k u : Nat} (hk : k ≠ 7) (hu : u < 1024)
    (hcode : fget s CTL_TEST_STAT.CODE = 4) : TestOver s (testAfter s k u) := by
  unfold testAfter
  split
  · exact ⟨rfl, rfl⟩
  · dsimp only
    split
    · split
      · obtain ⟨hst, hregs⟩ := portDown_loss s hu
        exact ⟨hregs _ (by decide), by rw [hst]⟩
      · exact ⟨rfl, rfl⟩
    · refine forEach_keeps (P := TestOver s) (fun t n _ h => ?_) ⟨rfl, rfl⟩
      exact h
    · rw [if_neg (by simp [hcode])]
      exact ⟨rfl, rfl⟩
    · rw [if_neg (by simp [hcode])]
      exact ⟨rfl, rfl⟩
    · rw [if_neg (by simp [hcode]), if_neg (by simp [hcode])]
      exact ⟨rfl, rfl⟩
    · exact absurd rfl hk
    · exact ⟨rfl, rfl⟩

/-! `CTL_TEST_CMD`. -/

theorem writeOnly_testCmd : WriteOnly CTL_TEST_CMD :=
  ⟨⟨CTL_TEST_CMD, 8, 1, 0x0, 0x3FF0F03, 0x0, 0x0, 0x0, 0x3FF0F03⟩, rfl, rfl, rfl⟩

/-- The word of a START. -/
def testWord (k u : Nat) : Word := BitVec.ofNat 64 (u * 2 ^ 16 + k * 2 ^ 8 + 1)

theorem testWord_fields {k u : Nat} (hk : k < 16) (hu : u < 1024) :
    wget (testWord k u) CTL_TEST_CMD.OP = 1 ∧ wget (testWord k u) CTL_TEST_CMD.KIND = k ∧
      wget (testWord k u) CTL_TEST_CMD.UNIT = u := by
  simp only [wget, bits, testWord, BitVec.toNat_ofNat, CTL_TEST_CMD.OP, CTL_TEST_CMD.KIND, CTL_TEST_CMD.UNIT]
  omega

theorem regEffect_testStart (old s : State) (p : Nat) {k u : Nat} (hk : k < 16) (hu : u < 1024) (e : Option (List Byte)) :
    regEffect old s p CTL_TEST_CMD (testWord k u) e = testStart s k u := by
  obtain ⟨hop, hkind, hunit⟩ := testWord_fields hk hu
  have hstart : regEffect old s p CTL_TEST_CMD (testWord k u) e = startEffect s CTL_TEST_CMD (testWord k u) := rfl
  have hmode : (CTL_TEST_CMD == CTL_MODE_CMD) = false := by decide
  simp only [hstart, startEffect, hop, hkind, hunit, hmode, beq_self_eq_true, Bool.false_eq_true, if_false, if_true]

/-- An accepted START. -/
theorem exec_testStart {s : State} {p : Fin 13} {k : BitVec 4} {u : BitVec 10}
    (hacc : accepts s p CTL_TEST_CMD (testWord k.toNat u.toNat) = true) :
    exec (.testStart p k u) s = .next (testSweep (testStart (cmdTaken s CTL_TEST_CMD) k.toNat u.toNat)) :=
  (writeNum_of_writeOnly hacc writeOnly_testCmd).trans (by rw [← testWord, regEffect_testStart _ _ _ k.isLt u.isLt])

/-- The registers of a test at its START: no result, its kind and its unit. -/
def testCleared (s : State) (k u : Nat) : State :=
  fset (fset (setReg (setReg (setReg s CTL_TEST_RES0 0) CTL_TEST_RES1 0) CTL_TEST_STAT 0) CTL_TEST_STAT.KIND k) CTL_TEST_STAT.UNIT u

theorem testCleared_regsBut (s : State) (k u : Nat) : regsBut testReg s (testCleared s k u) :=
  ((((regsBut_setReg s rfl _).trans (regsBut_setReg _ rfl _)).trans (regsBut_setReg _ rfl _)).trans
    (regsBut_fset _ _ rfl _)).trans (regsBut_fset _ _ rfl _)

theorem testCleared_regsOnly (s : State) (k u : Nat) : regsOnly s (testCleared s k u) :=
  (((regsOnly_setReg s _ _).trans (regsOnly_setReg _ _ _)).trans (regsOnly_setReg _ _ _)).trans
    ((regsOnly_fset _ _ _).trans (regsOnly_fset _ _ _))

/-- What they show. -/
theorem testCleared_shows (s : State) {k u : Nat} (hk : k < 16) (hu : u < 1024) :
    fget (testCleared s k u) CTL_TEST_STAT.KIND = k ∧ fget (testCleared s k u) CTL_TEST_STAT.UNIT = u ∧
      getReg (testCleared s k u) CTL_TEST_RES0 = 0 ∧ getReg (testCleared s k u) CTL_TEST_RES1 = 0 := by
  unfold testCleared
  refine ⟨?_, ?_, ?_, ?_⟩
  · rw [fget_fset_ne _ _ _ _ (by decide), fget_fset_same _ _ _ (by decide)]
    exact Nat.mod_eq_of_lt hk
  · rw [fget_fset_same _ _ _ (by decide)]
    exact Nat.mod_eq_of_lt hu
  · simp (disch := decide) only [getReg_fset_ne, getReg_setReg_ne, getReg_setReg_same]
  · simp (disch := decide) only [getReg_fset_ne, getReg_setReg_ne, getReg_setReg_same]

theorem mode_testCleared (s : State) (k u : Nat) : (testCleared s k u).mode = s.mode :=
  fget_of_getReg_eq (testCleared_regsBut s k u _ (by decide))

/-- A START that is barred ends at once, with BUSY where the module drains and with STATE elsewhere. -/
theorem testStart_barred {s : State} {k u : Nat} (h : s.mode = mDRAINING ∨ (k < 6 ∨ k = 8) ∧ testHolds s k u = false) :
    testStart s k u = testEnd (testCleared s k u) (if s.mode = mDRAINING then 2 else 3) := by
  have hmode := mode_testCleared s k u
  change (if (testCleared s k u).mode == mDRAINING || ((k == 6 || k == 7) && (testCleared s k u).mode != mMAINT) then
    testEnd (testCleared s k u) 2 else if !testHolds (testCleared s k u) k u then testEnd (testCleared s k u) 3 else _) = _
  by_cases hd : s.mode = mDRAINING
  · simp [hmode, hd]
  · obtain ⟨hk, hholds⟩ := h.resolve_left hd
    have hbar : testHolds (testCleared s k u) k u = false :=
      (testHolds_congr (testCleared_regsBut s k u) rfl hk u).trans hholds
    have hkind : (k == 6 || k == 7) = false := by
      simp only [Bool.or_eq_false_iff, beq_eq_false_iff_ne]
      omega
    simp [hmode, hd, hbar, hkind]

/-- A START that is barred, as the module takes it. -/
theorem exec_testStart_barred {s : State} {p : Fin 13} {k : BitVec 4} {u : BitVec 10}
    (hacc : accepts s p CTL_TEST_CMD (testWord k.toNat u.toNat) = true)
    (h : s.mode = mDRAINING ∨ (k.toNat < 6 ∨ k.toNat = 8) ∧ testHolds s k.toNat u.toNat = false) :
    exec (.testStart p k u) s = .next
      (testEnd (testCleared (cmdTaken s CTL_TEST_CMD) k.toNat u.toNat) (if s.mode = mDRAINING then 2 else 3)) := by
  have hbar : (cmdTaken s CTL_TEST_CMD).mode = mDRAINING ∨
      (k.toNat < 6 ∨ k.toNat = 8) ∧ testHolds (cmdTaken s CTL_TEST_CMD) k.toNat u.toNat = false := by
    refine h.imp (fun hd => (mode_cmdTaken s _).trans hd) fun ⟨hk, hholds⟩ => ⟨hk, ?_⟩
    exact (testHolds_congr (regsBut_setReg_getReg testReg s _) rfl hk _).trans hholds
  have hbegun : s.test.started = 0 := started_of_testFree (testFree_of_accepts hacc)
  rw [exec_testStart hacc, testStart_barred hbar, testSweep_testEnd_of_unbegun (s := testCleared (cmdTaken s _) _ _) hbegun, mode_cmdTaken]

/-! A PORT test. -/

/-- A PORT test as it runs, before its port's link goes down. -/
def portTestBegun (s : State) (u : Nat) : State :=
  fset (setTest (testCleared s 1 u) fun t => { t with started := s.now + 1, wait := s.now }) CTL_TEST_STAT.STATE 2

theorem portTestBegun_regsBut (s : State) (u : Nat) : regsBut testReg s (portTestBegun s u) :=
  ((testCleared_regsBut s 1 u).trans (regsBut_of_regs_eq rfl)).trans (regsBut_fset _ _ rfl _)

theorem portTestBegun_frame (s : State) (u : Nat) :
    portTestBegun s u = { s with regs := (portTestBegun s u).regs, test := (portTestBegun s u).test } := rfl

/-- A PORT test of a fenced port begins, with the port's link taken down. -/
theorem testStart_port {s : State} {u : Nat} (hmode : s.mode ≠ mDRAINING) (hfence : portFenced s u = true) :
    testStart s 1 u =
      if (port s u).under ≠ pDOWN then setUnder (portTestBegun s u) u pDOWN else portTestBegun s u := by
  have hm := mode_testCleared s 1 u
  have hholds : testHolds (testCleared s 1 u) 1 u = true :=
    (testHolds_congr (testCleared_regsBut s 1 u) rfl (by omega) u).trans hfence
  change (if (testCleared s 1 u).mode == mDRAINING || (false && (testCleared s 1 u).mode != mMAINT) then _
    else if !testHolds (testCleared s 1 u) 1 u then _
    else if (port s u).under != pDOWN then setUnder (portTestBegun s u) u pDOWN else portTestBegun s u) = _
  simp [hm, hmode, hholds]

/-- What a running PORT test shows. -/
theorem portTestBegun_shows (s : State) {u : Nat} (hu : u < 1024) :
    fget (portTestBegun s u) CTL_TEST_STAT.STATE = 2 ∧ fget (portTestBegun s u) CTL_TEST_STAT.KIND = 1 ∧
      fget (portTestBegun s u) CTL_TEST_STAT.UNIT = u ∧ getReg (portTestBegun s u) CTL_TEST_RES0 = 0 ∧
      getReg (portTestBegun s u) CTL_TEST_RES1 = 0 := by
  obtain ⟨hkind, hunit, hres0, hres1⟩ := testCleared_shows s (k := 1) (by decide) hu
  refine ⟨fget_fset_same _ _ _ (by decide), (fget_fset_ne _ _ _ _ (by decide)).trans hkind,
    (fget_fset_ne _ _ _ _ (by decide)).trans hunit, (getReg_fset_ne _ (by decide) _).trans hres0,
    (getReg_fset_ne _ (by decide) _).trans hres1⟩

/-- A register of the self-tests counts nothing and belongs to no port. -/
theorem getReg_setUnder_test (s : State) {u : Nat} (hu : u < 1024) {o : Nat} (ho : testReg o = true) :
    getReg (setUnder s u pDOWN) o = getReg s o := by
  have hcases : o = CTL_TEST_STAT ∨ o = CTL_TEST_RES0 ∨ o = CTL_TEST_RES1 := by
    simpa [testReg, or_assoc] using ho
  obtain ⟨-, hregs⟩ := setUnder_down_loss s hu
  refine hregs o ?_
  rcases hcases with rfl | rfl | rfl <;> decide

/-- A self-test that runs and whose precondition holds is left by the sweep. -/
theorem testSweep_of_running {s : State} (hact : testActive s = true) (hholds : testHolds s (testKind s) (testUnit s) = true) :
    testSweep s = s := by
  simp [testSweep, hact, hholds]

/-- The PORT test of a fenced port as the module takes it. -/
theorem exec_testStart_port {s : State} {p : Fin 13} {u : BitVec 10}
    (hacc : accepts s p CTL_TEST_CMD (testWord 1 u.toNat) = true) (hmode : s.mode ≠ mDRAINING)
    (hfence : portFenced s u.toNat = true) :
    exec (.testStart p 1 u) s = .next (testStart (cmdTaken s CTL_TEST_CMD) 1 u.toNat) := by
  have hu := u.isLt
  have hfence' : portFenced (cmdTaken s CTL_TEST_CMD) u.toNat = true := by rw [portFenced, fbit_cmdTaken, ← portFenced, hfence]
  have hbegun : portFenced (portTestBegun (cmdTaken s CTL_TEST_CMD) u.toNat) u.toNat = true :=
    (testHolds_congr (portTestBegun_regsBut _ _) rfl (by omega) u.toNat (k := 1)).trans hfence'
  obtain ⟨hstate, hkind, hunit, -⟩ := portTestBegun_shows (cmdTaken s CTL_TEST_CMD) hu
  rw [exec_testStart (k := 1) hacc]
  refine congrArg _ ?_
  rw [show (1 : BitVec 4).toNat = 1 from rfl, testStart_port ((mode_cmdTaken s _).trans_ne hmode) hfence']
  split
  · have hstat : ∀ f : Fld, f.off = CTL_TEST_STAT →
        fget (setUnder (portTestBegun (cmdTaken s CTL_TEST_CMD) u.toNat) u.toNat pDOWN) f =
          fget (portTestBegun (cmdTaken s CTL_TEST_CMD) u.toNat) f := fun f hf =>
      fget_of_getReg_eq (getReg_setUnder_test _ hu (by rw [hf]; rfl))
    refine testSweep_of_running (by simp [testActive, hstat CTL_TEST_STAT.STATE rfl, hstate]) ?_
    rw [testKind, testUnit, hstat _ rfl, hstat _ rfl, hkind, hunit]
    exact (portFenced_setUnder _ hu _).trans hbegun
  · refine testSweep_of_running (by simp [testActive, hstate]) ?_
    rw [testKind, testUnit, hkind, hunit]
    exact hbegun

/-! The ends of tests. -/

/-- ABORT of a test that waits or runs. -/
theorem exec_testAbort {s : State} {p : Fin 13} (hpow : s.sys.powered = true) (hlive : pathLive s p.val = true)
    (hreason : writeReason s p.val CTL_TEST_CMD 2 = 0) (hact : testActive s = true) :
    exec (.testAbort p) s = .next (testSweep (testEnd (cmdTaken s CTL_TEST_CMD) 4)) := by
  obtain ⟨d, hd, hrw, hw1c⟩ := writeOnly_testCmd
  have heffect : ∀ t, regEffect s t p.val CTL_TEST_CMD 2 none = if testActive t then testEnd t 4 else t := fun t => rfl
  have hact' : testActive (cmdTaken s CTL_TEST_CMD) = true := by
    rw [testActive, fget_cmdTaken, ← testActive, hact]
  have hexec : exec (.testAbort p) s = writeWord p CTL_TEST_CMD 2 s := rfl
  rw [hexec, writeWord_of_live hpow hlive (by decide), putReg_of_accepted hreason, acceptWrite_of_row hreason hd,
    storeFields_of_writeOnly hrw hw1c, ← cmdTaken, heffect, if_pos hact']

/-- What an aborted test leaves. -/
theorem testAbort_shows {s : State} (hkind : testKind s ≠ 7) (hbegun : s.test.started ≠ 0) :
    fget (testSweep (testEnd s 4)) CTL_TEST_STAT.STATE = 3 ∧ fget (testSweep (testEnd s 4)) CTL_TEST_STAT.CODE = 4 ∧
      (testSweep (testEnd s 4)).test.started = 0 := by
  obtain ⟨hstate, hcode⟩ := testEnd_shows s (code := 4) (by decide)
  have hunit : testUnit s < 1024 := bits_lt _ 30 10
  rw [testSweep_testEnd hbegun]
  obtain ⟨hstat, htest⟩ := testAfter_over (setTest (testEnd s 4) fun t => { t with started := 0 }) hkind hunit hcode
  refine ⟨(fget_of_getReg_eq hstat).trans hstate, (fget_of_getReg_eq hstat).trans hcode, ?_⟩
  rw [htest]
  rfl

/-- An ENGINE test that ends in anything but PASS leaves its engine fenced and untested. -/
theorem testSweep_engine_fail {s : State} (hkind : testKind s = 4) (hbegun : s.test.started ≠ 0) {code : Nat} (h : code < 256)
    (hfail : code ≠ 0) : testSweep (testEnd s code) = setTest (testEnd s code) fun t => { t with started := 0 } := by
  have hcode : fget (setTest (testEnd s code) fun t => { t with started := 0 }) CTL_TEST_STAT.CODE = code :=
    (fget_setTest _ _ _).trans (testEnd_shows s h).2
  rw [testSweep_testEnd hbegun, hkind, testAfter]
  simp [hcode, hfail]

/-- One that ends in PASS marks its engine TESTED (R470). -/
theorem testSweep_engine_pass {s : State} (hkind : testKind s = 4) (hbegun : s.test.started ≠ 0) (hctl : s.sys.ctlFault = false) :
    testSweep (testEnd s 0) = fset (setTest (testEnd s 0) fun t => { t with started := 0 }) (PIC_ENG.TESTED (testUnit s)) 1 := by
  have hcode : fget (setTest (testEnd s 0) fun t => { t with started := 0 }) CTL_TEST_STAT.CODE = 0 :=
    (fget_setTest _ _ _).trans (testEnd_shows s (code := 0) (by decide)).2
  have hctl' : (testEnd s 0).sys.ctlFault = false := hctl
  rw [testSweep_testEnd hbegun, hkind, testAfter]
  simp [hcode, hctl']

/-- A FIBRE or FIBRE_CAL test leaves its fibre as it is. -/
theorem testSweep_fibre {s : State} (hkind : testKind s = 2 ∨ testKind s = 8) (hbegun : s.test.started ≠ 0) (code : Nat) :
    testSweep (testEnd s code) = setTest (testEnd s code) fun t => { t with started := 0 } := by
  rw [testSweep_testEnd hbegun, testAfter]
  rcases hkind with h | h <;> simp [h]

/-- The state of a test that is done, with its DETAIL, before it ends. -/
def testDetailed (s : State) (d : BitVec 8) : State := fset s CTL_TEST_STAT.DETAIL d.toNat

theorem testDetailed_detail (s : State) (d : BitVec 8) : fget (testDetailed s d) CTL_TEST_STAT.DETAIL = d.toNat :=
  (fget_fset_same _ _ _ (by decide)).trans (Nat.mod_eq_of_lt d.isLt)

theorem testDetailed_regsBut (s : State) (d : BitVec 8) : regsBut (fun o => o == CTL_TEST_STAT) s (testDetailed s d) :=
  regsBut_fset s _ rfl _

theorem testKind_testDetailed (s : State) (d : BitVec 8) : testKind (testDetailed s d) = testKind s :=
  fget_fset_ne _ _ _ _ (by decide)

theorem testUnit_testDetailed (s : State) (d : BitVec 8) : testUnit (testDetailed s d) = testUnit s :=
  fget_fset_ne _ _ _ _ (by decide)

/-- TEST_DONE of a running test that is not of the whole module. -/
theorem exec_testDone {s : State} (hpow : s.sys.powered = true) (hrun : fget s CTL_TEST_STAT.STATE = 2) (hkind : testKind s ≠ 7)
    (pass : Bool) (d : BitVec 8) (r0 : BitVec 24) (r1 : BitVec 40) :
    exec (.testDone pass d r0 r1) s = .next (testSweep (testEnd (testDetailed s d) (if pass then 0 else 1))) := by
  refine (live_of_powered hpow fun s => testDone s pass d.toNat r0.toNat r1.toNat).trans (congrArg _ ?_)
  have hk : testKind (fset s CTL_TEST_STAT.DETAIL d.toNat) ≠ 7 := (testKind_testDetailed s d).trans_ne hkind
  simp [testDone, hrun, hk, testDetailed]

/-- Settles O9: a START is barred or begins its test, and a test that ends is left to the after-state of its kind. -/
theorem selfTests : Obligations.SelfTests := by
  unfold Obligations.SelfTests
  refine ⟨fun p s u hacc hmode hfence => ?_, fun p s k u hacc hbar => ?_,
    fun p s hpow hlive hreason hact hkind hbegun => ?_, fun s hpow hwait hkind hfree => ?_,
    fun s hpow hwait hkind hbegun hel => ?_, fun s d r0 r1 hpow hrun hkind hunit hbegun hctl => ?_,
    fun pass s d r0 r1 hpow hrun hkind hbegun => ?_⟩
  · have hu := u.isLt
    refine ⟨_, exec_testStart_port hacc hmode hfence, ?_⟩
    have hfence' : portFenced (cmdTaken s CTL_TEST_CMD) u.toNat = true := by rw [portFenced, fbit_cmdTaken, ← portFenced, hfence]
    rw [testStart_port ((mode_cmdTaken s _).trans_ne hmode) hfence']
    obtain ⟨hstate, hkind, hunit, hres0, hres1⟩ := portTestBegun_shows (cmdTaken s CTL_TEST_CMD) hu
    split
    · next hup =>
      have hreg := fun o ho => getReg_setUnder_test (portTestBegun (cmdTaken s CTL_TEST_CMD) u.toNat) hu (o := o) ho
      exact ⟨(fget_of_getReg_eq (hreg _ rfl)).trans hstate, (fget_of_getReg_eq (hreg _ rfl)).trans hkind,
        (fget_of_getReg_eq (hreg _ rfl)).trans hunit, (hreg _ rfl).trans hres0, (hreg _ rfl).trans hres1,
        under_setUnder _ hu _, fun hdown => absurd hdown hup⟩
    · next hdown =>
      exact ⟨hstate, hkind, hunit, hres0, hres1, not_not.1 hdown, fun _ =>
        ⟨(regsBut_setReg_getReg testReg s CTL_TEST_CMD).trans (portTestBegun_regsBut _ _), portTestBegun_frame _ _⟩⟩
  · refine ⟨_, exec_testStart_barred hacc hbar, ?_⟩
    obtain ⟨hkind, hunit, hres0, hres1⟩ := testCleared_shows (cmdTaken s CTL_TEST_CMD) k.isLt u.isLt
    obtain ⟨hstate, hcode⟩ := testEnd_shows (testCleared (cmdTaken s CTL_TEST_CMD) k.toNat u.toNat)
      (code := if s.mode = mDRAINING then 2 else 3) (by split <;> decide)
    have hend : regsBut _ _ _ := testEnd_regsBut (testCleared (cmdTaken s CTL_TEST_CMD) k.toNat u.toNat) (if s.mode = mDRAINING then 2 else 3)
    refine ⟨hstate, hcode, (testEnd_keeps _ _ (.inl rfl)).trans hkind, (testEnd_keeps _ _ (.inr (.inl rfl))).trans hunit,
      (hend _ rfl).trans hres0, (hend _ rfl).trans hres1, ?_,
      ((regsOnly_setReg s _ _).trans (testCleared_regsOnly _ _ _)).trans (testEnd_regsOnly _ _)⟩
    exact (regsBut_setReg_getReg _ s _).trans ((testCleared_regsBut _ _ _).trans
      (regsBut.mono hend fun o ho => by simp [beq_iff_eq.1 ho, testReg]))
  · refine ⟨_, exec_testAbort hpow hlive hreason hact, ?_⟩
    exact testAbort_shows (s := cmdTaken s CTL_TEST_CMD) ((fget_cmdTaken s _ _).trans_ne hkind) hbegun
  · refine ⟨fset (setTest s fun t => { t with started := s.now + 1 }) CTL_TEST_STAT.STATE 2,
      (live_of_powered hpow _).trans (congrArg _ ?_), fget_fset_same _ _ _ (by decide), regsBut_fset _ _ rfl _, rfl⟩
    rw [testEngineIdle, if_pos (by simp [hwait, hkind, hfree])]
  · refine ⟨testSweep (testEnd s 5), (live_of_powered hpow _).trans (congrArg _ ?_), ?_⟩
    · rw [testWaitTimeout, if_pos (by simp [hwait, hel])]
    · rw [testSweep_engine_fail hkind hbegun (by decide) (by decide)]
      obtain ⟨hstate, hcode⟩ := testEnd_shows s (code := 5) (by decide)
      exact ⟨(fget_setTest _ _ _).trans hstate, (fget_setTest _ _ _).trans hcode⟩
  · refine ⟨_, exec_testDone hpow hrun (by omega) true d r0 r1, ?_⟩
    have hkind' := (testKind_testDetailed s d).trans hkind
    obtain ⟨hstate, hcode⟩ := testEnd_shows (testDetailed s d) (code := 0) (by decide)
    have hne : ∀ f : Fld, f.off = CTL_TEST_STAT → f.off ≠ PIC_ENG (testUnit (testDetailed s d)) := by
      intro f hf
      rw [hf]
      unfold CTL_TEST_STAT PIC_ENG
      omega
    have hset := fun f => fget_setTest (testEnd (testDetailed s d) 0) (fun t => { t with started := 0 }) f
    rw [if_pos rfl, testSweep_engine_pass hkind' hbegun hctl]
    refine ⟨(fget_fset_ne _ _ _ _ (.inl (hne _ rfl))).trans ((hset _).trans hstate),
      (fget_fset_ne _ _ _ _ (.inl (hne _ rfl))).trans ((hset _).trans hcode),
      (fget_fset_ne _ _ _ _ (.inl (hne _ rfl))).trans ((hset _).trans
        ((testEnd_keeps _ _ (.inr (.inr rfl))).trans (testDetailed_detail s d))), ?_⟩
    rw [fbit, testUnit_testDetailed, fget_fset_same _ _ _ (by decide : 33 + 1 ≤ 64)]
    rfl
  · have hkind' : testKind (testDetailed s d) = 2 ∨ testKind (testDetailed s d) = 8 := by rwa [testKind_testDetailed]
    refine ⟨_, exec_testDone hpow hrun (by omega) pass d r0 r1, ?_⟩
    obtain ⟨hstate, hcode⟩ := testEnd_shows (testDetailed s d) (code := if pass then 0 else 1) (by split <;> decide)
    rw [testSweep_fibre hkind' hbegun]
    exact ⟨(fget_setTest _ _ _).trans hstate, (fget_setTest _ _ _).trans hcode,
      (fget_setTest _ _ _).trans ((testEnd_keeps _ _ (.inr (.inr rfl))).trans (testDetailed_detail s d)), rfl,
      ((testDetailed_regsBut s d).trans (testEnd_regsBut _ _)).trans (regsBut_of_regs_eq (setTest_regs _ _)),
      congrArg (fun u => setTest u fun t => { t with started := 0 })
        ((regsOnly_fset s _ _).trans (testEnd_regsOnly (testDetailed s d) _))⟩

end Sys2Proof.Machine
end

section
/-! SUPPORT. The sets that locks guard (Table 21.5): they settle O59. -/

namespace Sys2Proof.Machine

open Claim

/-! The sets. -/

/-- The stretches of the register map that hold the sets of Table 21.5, all above the locks and outside the pages of ports, of
contexts and of gate lists. -/
def inLockSet (o : Nat) : Prop :=
  o = 0x300110 ∨ (0x400000 ≤ o ∧ o ≤ 0x400008) ∨ (0x800100 ≤ o ∧ o < 0x8004C0) ∨ (0x1C00008 ≤ o ∧ o ≤ 0x1C00118) ∨
    (0x2000018 ≤ o ∧ o ≤ 0x2000030) ∨ (0x2400000 ≤ o ∧ o ≤ 0x2400040) ∨ o = 0x2C00000 ∨ (0x3800008 ≤ o ∧ o ≤ 0x3800430)

/-- Where a choice by cases answers a value, its first case does or the rest does. -/
theorem some_of_ite {c : Prop} [Decidable c] {i k : Nat} {x : Option Nat} (h : (if c then some i else x) = some k) :
    (c ∧ i = k) ∨ x = some k := by
  split at h
  · next hc => exact .inl ⟨hc, Option.some.inj h⟩
  · exact .inr h

/-- A lock that guards a register is one of the first twelve. -/
theorem lockOf_some {o k : Nat} (h : lockOf o = some k) : k < 12 ∧ inLockSet o := by
  unfold lockOf at h
  simp only [Bool.and_eq_true, Bool.or_eq_true, decide_eq_true_eq, beq_iff_eq] at h
  simp only [TBL_CMD_W, TBL_CMD_GO, TBL_RAW_CMD, TBL_RAW_W, TM_NODE_SEL, TM_NODE_DATA, TM_NODE_CMD, TM_WSET_W0, TM_WSET_W1,
    TM_WSET_STRICT, TM_WSET_CMD, TM_MTR_SEL, TM_MTR_CFG0, TM_MTR_CFG1, TM_MTR_CMD, BYP_MAP_SEL, BYP_MAP_DATA, BYP_MAP_CMD,
    BYP_COMMIT_AT, PIC_GRP_SEL, PIC_GRP_CMD, FLT_CHIP_SEL, FLT_CHIP_DATA, FLT_CHIP_CMD, FLT_BC_SEL, FLT_BC_CMD, MEM_MAP_SEL,
    TB_CAP_POP, PRK_AT, PRK_CMD] at h
  unfold inLockSet
  repeat
    rcases some_of_ite h with ⟨hset, rfl⟩ | h
    · omega
  cases h

/-- Which of the tests on an offset a register of a set fails. -/
theorem inLockSet_apart {o : Nat} (h : inLockSet o) :
    inPortPage o = false ∧ inCtxPage o = false ∧ inGcl o = false ∧ inDq o = false ∧ inEoi o = false ∧ inSrc o = false ∧
      inLock o = false := by
  unfold inLockSet at h
  simp only [inPortPage, inCtxPage, inGcl, inDq, inEoi, inSrc, inLock, Bool.and_eq_false_iff, decide_eq_false_iff_not]
  unfold CTL_LOCK
  refine ⟨?_, ?_, ?_, ?_, ?_, ?_, ?_⟩ <;> omega

/-- A range of offsets that ends before the first register of a set or begins between two of them. -/
theorem not_within_of_lockSet {o a b : Nat} (h : inLockSet o)
    (hab : b ≤ 0x300110 ∨ (0x300111 ≤ a ∧ b ≤ 0x400000) ∨ (0x400009 ≤ a ∧ b ≤ 0x800100) ∨ (0x8004C0 ≤ a ∧ b ≤ 0x1C00008) ∨
      (0x2000031 ≤ a ∧ b ≤ 0x2400000) ∨ (0x2400041 ≤ a ∧ b ≤ 0x2C00000) ∨ (0x2C00001 ≤ a ∧ b ≤ 0x3800008) ∨ 0x3800431 ≤ a) :
    (decide (a ≤ o) && decide (o < b)) = false := by
  unfold inLockSet at h
  rw [Bool.and_eq_false_iff, decide_eq_false_iff_not, decide_eq_false_iff_not]
  omega

/-! What the checks of a write to a set read (Table 21.7). -/

/-- From `s` to `t` at most registers below 0x100 changed: the locks are there. -/
def LowOnly (s t : State) : Prop := regsOnly s t ∧ ∀ o, 0x100 ≤ o → getReg t o = getReg s o

theorem LowOnly.fset_holder (s : State) {k : Nat} (hk : k < 16) (h : Nat) : LowOnly s (fset s (CTL_LOCK.HOLDER k) h) := by
  refine ⟨rfl, fun o ho => getReg_fset_ne s ?_ h⟩
  change o ≠ 0x80 + 8 * k
  omega

section
variable {s t : State} (h : LowOnly s t)
include h

theorem LowOnly.fget_eq (f : Fld) (hf : 0x100 ≤ f.off) : fget t f = fget s f := fget_of_getReg_eq (h.2 _ hf)

theorem LowOnly.fbit_eq (f : Fld) (hf : 0x100 ≤ f.off) : fbit t f = fbit s f := by rw [fbit, h.fget_eq f hf, ← fbit]

theorem LowOnly.isPort_eq (L : Nat) : isPort t L = isPort s L := by
  rw [isPort, widthOf, portMode, h.1]
  rfl

theorem LowOnly.regAt_eq (o : Nat) : regAt t o = regAt s o := by
  simp only [regAt, h.isPort_eq]

theorem LowOnly.regDieDown_eq (o : Nat) : regDieDown t o = regDieDown s o := by
  unfold regDieDown
  split
  · next d _ => rw [dieUp, dieUp, h.fget_eq _ (show 0x100 ≤ 0x3800040 + 8 * d by omega)]
  · rfl

theorem LowOnly.rwlOpen_eq : rwlOpen t = rwlOpen s := by
  simp only [rwlOpen, State.mode, h.fget_eq PRK_STATUS.STATE (by decide)]

/-- No field out of range depends on a lock. -/
theorem LowOnly.rangeBad_eq {o : Nat} (ho : inLockSet o) (w : Word) : rangeBad t o w = rangeBad s o w := by
  obtain ⟨hport, hctx, hgcl, -⟩ := inLockSet_apart ho
  have hpic : (decide (0x2410008 ≤ o) && decide (o < 0x2418000)) = false := not_within_of_lockSet ho (by omega)
  have hmem : (decide (0x2C03000 ≤ o) && decide (o < 0x2C05000)) = false := not_within_of_lockSet ho (by omega)
  have htrig : (decide (0x301000 ≤ o) && decide (o < 0x301400)) = false := not_within_of_lockSet ho (by omega)
  have hpub : (decide (0x3400000 ≤ o) && decide (o < 0x3402000)) = false := not_within_of_lockSet ho (by omega)
  have htest : (o == CTL_TEST_CMD) = false := by
    rw [beq_eq_false_iff_ne]
    unfold inLockSet at ho
    unfold CTL_TEST_CMD
    omega
  have hw : ∀ c, wsetWeight t c = wsetWeight s c := by
    intro c
    rw [wsetWeight, wsetWeight, h.2 _ (by split <;> decide)]
  have htm : tmRange t o w = tmRange s o w := by
    simp only [tmRange, hport, hgcl, h.isPort_eq, hw, h.fget_eq TM_WSET_STRICT.MASK (by decide), h.fget_eq TM_MTR_CFG0.PIR (by decide),
      h.fget_eq TM_MTR_CFG0.CIR (by decide), h.fget_eq TM_MTR_CFG1.CBS (by decide), h.fget_eq TM_MTR_CFG1.PBS (by decide), Bool.false_eq_true, if_false]
  simp only [rangeBad, htm, picRange, hpic, memRange, hmem, tbRange, htrig, fltRange, h.isPort_eq, ctxRange, hctx, hpub, startRange,
    htest, evtRange, Bool.false_and, Bool.false_eq_true, if_false]

/-- No busy, pending or state condition does. -/
theorem LowOnly.stateBad_eq {o : Nat} (ho : inLockSet o) (p : Nat) (w : Word) : stateBad t p o w = stateBad s p o w := by
  obtain ⟨hport, -, hgcl, hdq, heoi, -⟩ := inLockSet_apart ho
  have hne : ∀ c, (c = CTL_TEST_CMD ∨ c = TB_SET_NS ∨ c = BOB_RGN_CMD ∨ c = PIC_ENG_CMD) → (o == c) = false := by
    intro c hc
    rw [beq_eq_false_iff_ne]
    unfold inLockSet at ho
    unfold CTL_TEST_CMD TB_SET_NS BOB_RGN_CMD PIC_ENG_CMD at hc
    omega
  have hmeters : ∀ x, metersOwned t x = metersOwned s x := fun x => by
    rw [metersOwned, h.1]
    rfl
  have htm : t.tm = s.tm := by rw [h.1]
  have hsec : t.sec = s.sec := by rw [h.1]
  have hbyp : t.byp = s.byp := by rw [h.1]
  simp only [stateBad, coreState, portStateBad, tmState, bypState, picState, bobState, tbState, fltState, ctxStateBad, startState,
    hostState, hport, hgcl, hdq, heoi, hne CTL_TEST_CMD (by simp), hne TB_SET_NS (by simp), hne BOB_RGN_CMD (by simp),
    hne PIC_ENG_CMD (by simp), hmeters, htm, hsec, hbyp, h.fbit_eq TBL_CMD_STAT.BUSY (by decide), h.fbit_eq TBL_RAW_CMD.BUSY (by decide),
    h.fget_eq TM_MTR_CFG1.OWNER (by decide), h.fbit_eq TM_MTR_CFG1.OWNED (by decide), h.fbit_eq PIC_GRP_STAT.BUSY (by decide),
    h.fbit_eq FLT_CHIP_STAT.BUSY (by decide), Bool.false_and, Bool.false_eq_true, if_false]

end

/-! The lock in a write's REASON. -/

/-- Outside the locks themselves a write meets the lock of its register's set. -/
theorem lockedBad_of_set {o k : Nat} (hk : lockOf o = some k) (s : State) (p : Nat) (w : Word) :
    lockedBad s p o w = (fget s (CTL_LOCK.HOLDER k) != 0xF && fget s (CTL_LOCK.HOLDER k) != p) := by
  obtain ⟨-, -, -, -, -, -, hlock⟩ := inLockSet_apart (lockOf_some hk).2
  simp [lockedBad, hlock, hk]

/-- A write that nothing lower than the lock stands against is rejected with LOCKED, were the lock not the path's own. -/
theorem writeReason_locked {s t : State} (h : LowOnly s t) {o : Nat} (ho : inLockSet o) {p : Nat} {w : Word}
    (hlock : lockedBad s p o w = true) (hown : writeReason t p o w = 0 ∨ writeReason t p o w = 6) : writeReason s p o w = 5 := by
  unfold writeReason at hown ⊢
  rw [h.regAt_eq, h.rangeBad_eq ho, h.stateBad_eq ho, h.rwlOpen_eq] at hown
  cases hat : regAt s o with
  | none => simp [hat] at hown
  | some d =>
    simp only [hat] at hown ⊢
    rw [if_pos hlock]
    split_ifs at hown ⊢ <;> simp_all

/-- A write that meets no lock is not rejected with LOCKED. -/
theorem writeReason_ne_locked {s : State} {p o : Nat} {w : Word} (hlock : lockedBad s p o w = false) : writeReason s p o w ≠ 5 := by
  unfold writeReason
  split
  · decide
  · simp only [hlock, Bool.false_eq_true, if_false]
    split_ifs <;> decide

/-! What a read of a set returns. -/

/-- A register of a set reads what is stored. -/
theorem readReg_lockSet {o : Nat} (ho : inLockSet o) (s : State) (p : Nat) :
    (readReg s p o).1 = match regAt s o with
      | none => 0
      | some _ => getReg s o := by
  obtain ⟨hport, hctx, -, -, -, -, hlock⟩ := inLockSet_apart ho
  have hclaim : (decide (IC_CLAIM 0 ≤ o) && decide (o < IC_CLAIM 5)) = false := not_within_of_lockSet ho (by decide)
  have hrec : (decide (EVR_REC_W 0 ≤ o) && decide (o < EVR_REC_W 8)) = false := not_within_of_lockSet ho (by decide)
  have hrun : (decide (IC_RUN 0 ≤ o) && decide (o < IC_RUN 5)) = false := not_within_of_lockSet ho (by decide)
  have hdie : (decide (SWC_DIE 0 ≤ o) && decide (o < SWC_DIE 4)) = false := not_within_of_lockSet ho (by decide)
  have hfence : (decide (SWC_FENCE 0 ≤ o) && decide (o < SWC_FENCE 16)) = false := not_within_of_lockSet ho (by decide)
  have hvoq : (decide (SWC_VOQ 0 ≤ o) && decide (o < SWC_VOQ 65536)) = false := not_within_of_lockSet ho (by decide)
  have hivoq : (decide (SWC_IVOQ 0 ≤ o) && decide (o < SWC_IVOQ 576)) = false := not_within_of_lockSet ho (by decide)
  have hpicDie : (decide (PIC_DIE 0 ≤ o) && decide (o < PIC_DIE 4)) = false := not_within_of_lockSet ho (by decide)
  have hpicCtx : (decide (PIC_CTX 0 ≤ o) && decide (o < PIC_CTX 1024)) = false := not_within_of_lockSet ho (by decide)
  have hview : viewOf s o = none := by
    simp only [viewOf, hport, hdie, hfence, hvoq, hivoq, hpicDie, hpicCtx, Bool.false_eq_true, if_false]
  have hne : ∀ c, c < 0x300110 ∨ c = BYP_SLOT ∨ c = BYP_ORIGIN ∨ 0x3C00000 ≤ c → (o == c) = false := by
    intro c hc
    rw [beq_eq_false_iff_ne]
    unfold BYP_SLOT BYP_ORIGIN at hc
    unfold inLockSet at ho
    omega
  have hctl : ctlView s o = none := by
    simp (disch := decide) only [ctlView, hne, hrun, Bool.false_eq_true, if_false]
  have hpeek : (peekReg s p o).1 = match regAt s o with
      | none => 0
      | some _ => getReg s o := by
    unfold peekReg
    cases regAt s o with
    | none => rfl
    | some d =>
      simp (disch := decide) only [hne, hclaim, hlock, hrec, hctx, hview, hctl, Bool.or_self, Bool.false_and, Bool.false_eq_true, if_false]
      split <;> rfl
  rw [← hpeek]
  simp (disch := decide) only [readReg, hne, hclaim, hlock, Bool.false_and, Bool.false_eq_true, if_false]

/-- Settles O59: the holder of a lock is read by the check of locks alone, and by no read of a set. -/
theorem locksGuardSets : Obligations.LocksGuardSets := by
  unfold Obligations.LocksGuardSets
  refine ⟨fun p o v k s hpow hl h8 hk hheld hother => ?_, fun p o k h s hk => ?_, fun p o v k s hk hfree => ?_,
    fun o k hk => (lockOf_some hk).1⟩
  · obtain ⟨hk12, ho⟩ := lockOf_some hk
    have hlock : lockedBad s p.val o.toNat v = true := by simp [lockedBad_of_set hk, hheld, hother]
    have hr := writeReason_of_locked hlock
    have hle := writeReason_le_seven s p.val o.toNat v
    refine ⟨_, writeWord_of_live hpow hl h8 v, ?_⟩
    rw [putReg_of_rejected hr]
    refine ⟨getReg_logReject_cnt _ _ _ _ _, fun hv hown => ?_, logReject_regsBut _ _ _ _ _, logReject_regsOnly _ _ _ _ _⟩
    obtain ⟨-, hreason, hpath, hoff, hdata⟩ := logReject_first_fields (p := p.val) (reason := writeReason s p.val o.toNat v) hv v
      (by omega) o.isLt h8 (by omega)
    exact ⟨hreason.trans (writeReason_locked (LowOnly.fset_holder s (by omega) p.val) ho hlock hown), hpath, hoff, hdata⟩
  · obtain ⟨hk12, ho⟩ := lockOf_some hk
    have hlow := LowOnly.fset_holder s (show k < 16 by omega) h
    have habove : 0x100 ≤ o := by
      unfold inLockSet at ho
      omega
    rw [readReg_lockSet ho, readReg_lockSet ho, hlow.regAt_eq, hlow.2 o habove]
  · exact writeReason_ne_locked (by simp [lockedBad_of_set hk, hfree])

end Sys2Proof.Machine
end

section
/-! SUPPORT. A delivery that drops a frame of the module's own SEND: it refutes O43. -/

namespace Sys2Proof.Machine

open Claim

/-- A DATA frame for region 0, which a SEND of bobbin 0 made. -/
def ownData : Frame := { hdr := mkHdr 0 0 0 0 0 0 tDATA 0 0 0 0 0, bob := some 0 }

/-- Region 0 of context 0 is IDLE, the frame stands at the bundle entry of CP0, and the SEND of bobbin 0 waits for it. -/
def ownDataState : State :=
  { sys := { powered := true }, regs := [(PRK_RGEN 0, BitVec.ofNat 64 (2 ^ 26))],
    core := { ioq := [(4, [ownData])] }, bob := { bobs := [(0, { send := [{}] })] } }

/-- The frame comes to a region that is not RUNNING, and its drop lets the stitch that sent it complete (R300). -/
theorem ownDataState_drops :
    ioReady ownDataState 4 = true ∧ hType ownData.hdr = tDATA ∧ regionWeaving ownDataState (dataRegion ownData.hdr) = false ∧
      hRgen ownData.hdr = regionGen ownDataState (dataRegion ownData.hdr) ∧
      hCtx ownData.hdr = regionOwner ownDataState (dataRegion ownData.hdr) ∧
      regionState ownDataState (dataRegion ownData.hdr) ≠ rRUNNING ∧ dataRegion ownData.hdr < 64 ∧
      (takeIo ownDataState 4 (· == tDATA) fun s f => inletDelivery s 0 f).bob ≠ ownDataState.bob := by
  decide

/-- Refutes O43: its fifth clause, that a frame dropped for a region that is not RUNNING leaves every bobbin as it was, does not
leave out the frames that bobbins send. In `ownDataState` the drop marks the SEND of bobbin 0 as crossed. -/
theorem not_bobbinArrivals : ¬ Obligations.BobbinArrivals := by
  unfold Obligations.BobbinArrivals
  intro h
  obtain ⟨-, -, -, -, hdrop, -⟩ := h
  obtain ⟨hready, htype, hweave, hgen, hctx, hrun, hregion, hbob⟩ := ownDataState_drops
  have hnext : exec (.inletDelivery 0) ownDataState = .next (takeIo ownDataState 4 (· == tDATA) fun s f => inletDelivery s 0 f) :=
    live_of_powered rfl fun s => takeIo s 4 (· == tDATA) fun s f => inletDelivery s 0 f
  obtain ⟨t, ht, -, hsame, -⟩ := hdrop 0 ownData ownDataState rfl hready rfl htype hweave hgen hctx hrun hregion
  have htaken : takeIo ownDataState 4 (· == tDATA) (fun s f => inletDelivery s 0 f) = t :=
    Host.Outcome.next.inj (hnext.symm.trans ht)
  rw [htaken] at hbob
  exact hbob hsame

end Sys2Proof.Machine
end

section
/-! SUPPORT. A GET whose answer pushes a multicast frame out of a full die, one of whose members is no port: it refutes O45. -/

namespace Sys2Proof.Machine

open Claim

/-- A GET of 8 bytes at offset 26,624 of context 0, from chip 0. -/
def lostGet : Frame := { hdr := mkHdr 0 0 0 0 0 0 tGET 0 0 16 0 26624, body := le 4 8 ++ List.replicate 12 0 }

/-- A multicast frame on the lossy channel 5 whose one member is port 7,216: the module has 1,024. -/
def lostMulticast : Frame := { id := 7, hdr := mkHdr 0 0 5 0 0 0 tPUT 0 0 0 0 0, chan := 5, dec := 2048, members := [0x1C30] }

/-- WOVEN, chip 0, context 0 ALLOCATED with frame 0 of SW0, an uncorrectable error where the GET reads; SW0 has no VOQ memory, and
its multicast queue holds that frame. -/
def lostState : State :=
  { sys := { powered := true, str := { voqMib := [(0, 0)] } },
    regs := [(PRK_STATUS, BitVec.ofNat 64 mWOVEN), (TBL_SELF, BitVec.ofNat 64 (2 ^ 20)), (CTX_STAT 0, 1)],
    mem := { winFr := [(0, [(0, 0)])], latent := [(wordKey 52 0, .uncorrectable)] },
    core := { ioq := [(0, [lostGet])], voqs := [(mcKey 0 5, { tail := 32, ents := [.frame lostMulticast] })],
              mc := [(7, { f := lostMulticast, todo := [0x1C30] })] } }

/-- That port's count of dropped frames would stand where channel 52 counts its uncorrectable errors. -/
theorem egrDrop_eq_memUe : PRT_EGR_DROP 0x1C30 = MEM_UE 52 := by decide

/-- The GET passes and reads a line with an uncorrectable error; it counts the line, and the push-out that its answer needs counts the
lost member there too. -/
theorem lostState_counts :
    hType lostGet.hdr = tGET ∧ ioReady lostState 0 = true ∧ getShape lostGet = true ∧
      (hRgen lostGet.hdr = ctxGen lostState (hCtx lostGet.hdr) ∧ ctxUsable lostState (hCtx lostGet.hdr) = true ∧ 0 < getLen lostGet ∧
        hOffset lostGet.hdr + getLen lostGet ≤ winBytes lostState (hCtx lostGet.hdr) ∧
        oneFrame (hOffset lostGet.hdr) (getLen lostGet) = true ∧
        touchesSlot lostState (hCtx lostGet.hdr) (hOffset lostGet.hdr) (getLen lostGet) = false) ∧
      ctxLoc lostState (hCtx lostGet.hdr) (hOffset lostGet.hdr) = some (0, 26624) ∧ 26624 % 64 + getLen lostGet ≤ 64 ∧
      lineBad lostState 0 26624 = false ∧ spareOf lostState (memChanOf 0 26624) (memChanAddr 26624 / 512) = none ∧
      worst (lineErrs lostState (memChanOf 0 26624) (memChanAddr 26624)) = 3 ∧
      worst (lineErrs lostState (memChanOf 0 26624) (0x1C0000000 + memChanAddr 26624 / 512 * 64)) < 2 ∧
      getReg (takeIo lostState 0 (· == tGET) fun s f => oneSidedGet s 0 f) (MEM_UE (memChanOf 0 26624)) ≠
        getReg lostState (MEM_UE (memChanOf 0 26624)) + 1 := by
  decide +kernel

/-- Refutes O45: its fifth clause does not ask that the members of stored multicast frames be ports. In `lostState` one is not, and
its count falls on `MEM_UE_52`, which so rises by two. -/
theorem not_oneSidedMemory : ¬ Obligations.OneSidedMemory := by
  unfold Obligations.OneSidedMemory
  intro h
  obtain ⟨-, -, -, -, hget, -⟩ := h
  obtain ⟨htype, hready, hshape, hpass, hloc, hline, hbad, hspare, herr, hinfo, hcount⟩ := lostState_counts
  have hnext : exec (.oneSidedGet 0) lostState = .next (takeIo lostState 0 (· == tGET) fun s f => oneSidedGet s 0 f) :=
    live_of_powered rfl fun s => takeIo s 0 (· == tGET) fun s f => oneSidedGet s 0 f
  obtain ⟨t, ht, -, hone, -⟩ := hget 0 lostGet 0 26624 lostState rfl rfl htype hready hshape hpass hloc hline hbad (by decide)
    (by decide) hspare herr hinfo
  have hsame : takeIo lostState 0 (· == tGET) (fun s f => oneSidedGet s 0 f) = t := Host.Outcome.next.inj (hnext.symm.trans ht)
  rw [hsame] at hcount
  exact hcount hone

end Sys2Proof.Machine
end

section
/-! SUPPORT. A fence of a port that was DARK when its die was isolated: it refutes O49. -/

namespace Sys2Proof.Machine

open Claim

/-- SW0 is in READY, port 0 read DARK when the die was isolated (R489), and its fibre has had light again since. -/
def darkPortState : State :=
  { sys := { powered := true }, regs := [(PRT_STATE 0, BitVec.ofNat 64 pDARK), (FLT_DIE 0, 3)],
    fibres := [(0, { dark := false })] }

/-- What a fence through `FLT_PORT_CMD` by management core 0 leaves. -/
def darkPortFenced : State := writeReg darkPortState 1 FLT_PORT_CMD (BitVec.ofNat 64 1)

/-- The fence is accepted, and the port keeps showing DARK. -/
theorem darkPortState_fences :
    accepts darkPortState 1 FLT_PORT_CMD (BitVec.ofNat 64 (0 * 65536 + 1)) = true ∧ portFenced darkPortState 0 = false ∧
      fibreDark darkPortState (0 / 8) = false ∧ portState darkPortFenced 0 = pDARK := by
  decide

/-- Refutes O49: its first clause does not ask that the port's die be UP. In `darkPortState` it is not, and the fenced port shows
DARK, as it did at isolation. -/
theorem not_fences : ¬ Obligations.Fences := by
  unfold Obligations.Fences
  intro h
  obtain ⟨hfence, -⟩ := h
  obtain ⟨hacc, hopen, hlight, hdark⟩ := darkPortState_fences
  obtain ⟨t, ht, -, hshown, -⟩ := hfence 1 0 darkPortState hacc hopen hlight
  have hnext : exec (.portFenceCmd 1 0) darkPortState = .next darkPortFenced :=
    live_of_powered rfl fun s => writeReg s 1 FLT_PORT_CMD (BitVec.ofNat 64 1)
  rw [← Host.Outcome.next.inj (hnext.symm.trans ht)] at hshown
  exact absurd (hdark.symm.trans hshown) (by decide)

end Sys2Proof.Machine
end

section
/-! SUPPORT. A COUNTERS copy of the progress of an unpick, which moves it on: it refutes O55. -/

namespace Sys2Proof.Machine

open Claim

/-- A completion that asks for no interrupt changes no register. -/
theorem regs_dqPut (s : State) (q i : Nat) (body : List Byte) : (dqPut s q i body false).regs = s.regs := by
  unfold dqPut
  split <;> rfl

/-- A COUNTERS copy of `CTX_STAT_0` reads it as the host's path does. -/
theorem peekReg_ctxStat (s : State) : peekReg s 0 (CTX_STAT 0) = readReg s 0 (CTX_STAT 0) := by
  have hsec : (CTX_STAT 0 == TB_SEC) = false := by decide
  have hclaim : (decide (IC_CLAIM 0 ≤ CTX_STAT 0) && decide (CTX_STAT 0 < IC_CLAIM 5)) = false := by decide
  have hlock : inLock (CTX_STAT 0) = false := by decide
  simp only [readReg, hsec, hclaim, hlock, Bool.false_and, Bool.false_eq_true, if_false]

/-- The entry asks for one word, that of `CTX_STAT_0`. -/
def ctxStatEntry : BitVec 256 := BitVec.ofNat 256 (CTX_STAT 0 + 2 ^ 64)

theorem ctxStatEntry_fields :
    fieldAt (le 32 ctxStatEntry.toNat) 0 8 = CTX_STAT 0 ∧ fieldAt (le 32 ctxStatEntry.toNat) 8 4 = 1 ∧
      fieldAt (le 32 ctxStatEntry.toNat) 0x18 1 = 0 ∧ zeroBytes (le 32 ctxStatEntry.toNat) 0x19 32 = true := by
  decide

/-- The unpick of `unpickState`, with an entry in the host's COUNTERS queue. -/
def counterState (n : Nat) : State :=
  { sys := { powered := true },
    regs := [(CTL_DQ_CFG 3, 256), (CTL_DQ_TAIL 3, 1), (CTX_STAT 0, BitVec.ofNat 64 (2 ^ 40 + 0xFFFD * 2 ^ 24 + 3))], free := n }

/-- The entry's read of `CTX_STAT_0` moves the unpick on. -/
theorem regs_countersEntry (n : Nat) :
    (countersEntry (counterState n) (le 32 ctxStatEntry.toNat)).regs = (unpickMove (dqTake (counterState n) 3) 0).regs := by
  have hready : dqReady (counterState n) 3 = true := by
    have hruns : ∀ f, fget (counterState n) f = fget (counterState 0) f := fget_congr rfl
    simp only [dqReady, dqRuns, dqHead, dqTail, fbit, hruns]
    decide
  have hstate : ctxState (dqTake (counterState n) 3) 0 = 3 :=
    (fget_congr rfl _ : _ = ctxState (dqTake (counterState 0) 3) 0).trans (by decide)
  obtain ⟨hoff, hcount, hflags, hzero⟩ := ctxStatEntry_fields
  have hirq : bit 0 1 = false := by decide
  have hgood : (CTX_STAT 0 % 8 != 0 || decide (1 < 1) || decide (65536 < 1) || (0 / 2 * 2 % 256 != 0) || decide (2 < 0) || false ||
      decide (0x4000000 < CTX_STAT 0 + 8 * 1)) = false := by decide
  have hread : (peekReg (dqTake (counterState n) 3) 0 (CTX_STAT 0)).2 = unpickMove (dqTake (counterState n) 3) 0 := by
    rw [peekReg_ctxStat, readReg_unpicking hstate]
  simp only [countersEntry, hready, hoff, hcount, hflags, hzero, hirq, hgood, peekWords, regs_dqPut, Bool.not_true,
    Bool.false_eq_true, if_false, emit]
  rw [hread]

/-- The copy's answer is a next state. -/
theorem exec_countersEntry (n : Nat) :
    exec (.countersEntry ctxStatEntry) (counterState n) = .next (countersEntry (counterState n) (le 32 ctxStatEntry.toNat)) :=
  rfl

/-- Refutes O55: a COUNTERS copy of `CTX_STAT_x` of a context that is UNPICKING draws PROGRESS and ESTIMATE anew, as a read does (log
entry 157). Were the register left by every copy, free value 1 would be even as a step of PROGRESS in `counterState 1` and odd as an
ESTIMATE in `counterState 0`. -/
theorem not_hostAttachment : ¬ Obligations.HostAttachment := by
  unfold Obligations.HostAttachment
  intro h
  obtain ⟨-, -, -, -, -, -, -, -, -, -, hcounters, -⟩ := h
  have hclear : ∀ n, clocked (counterState n) = true := fun _ => rfl
  have hsame : ∀ (n : Nat) (f : Fld), fget (counterState n) f = fget (counterState 0) f := fun n => fget_congr rfl
  have hready : ∀ n, dqReady (counterState n) 3 = true := by
    intro n
    simp only [dqReady, dqRuns, dqHead, dqTail, fbit, hsame]
    decide
  have hkept : ∀ (n : Nat) (f : Fld), f.off = CTX_STAT 0 →
      fget (unpickMove (dqTake (counterState n) 3) 0) f = fget (counterState n) f := by
    intro n f hf
    obtain ⟨t, ht, -, -, hregs, -⟩ := hcounters ctxStatEntry (counterState n) (hclear n) (hready n) (by decide) (by decide) (by decide)
      (by decide) (by decide)
    have hnext := Host.Outcome.next.inj ((exec_countersEntry n).symm.trans ht)
    calc fget (unpickMove (dqTake (counterState n) 3) 0) f
        = fget t f := fget_congr ((regs_countersEntry n).symm.trans (congrArg State.regs hnext)) f
      _ = fget (counterState n) f := fget_of_getReg_eq (hregs f.off (by rw [hf]; decide))
  have hodd := (unpickMove_estimate (dqTake (counterState 0) 3) 0).symm.trans (hkept 0 _ rfl)
  have heven := (unpickMove_progress (dqTake (counterState 1) 3) 0).symm.trans (hkept 1 _ rfl)
  have hfree : ∀ n, (dqTake (counterState n) 3).free = n := fun _ => rfl
  have hest : ∀ n, fget (dqTake (counterState n) 3) (CTX_STAT.ESTIMATE 0) = 1 := fun n =>
    (fget_congr rfl _ : _ = fget (dqTake (counterState 0) 3) (CTX_STAT.ESTIMATE 0)).trans (by decide)
  have hprog : ∀ n, fget (dqTake (counterState n) 3) (CTX_STAT.PROGRESS 0) = 0xFFFD := fun n =>
    (fget_congr rfl _ : _ = fget (dqTake (counterState 0) 3) (CTX_STAT.PROGRESS 0)).trans (by decide)
  have hone : fget (counterState 0) (CTX_STAT.ESTIMATE 0) = 1 := by decide
  have htwo : fget (counterState 1) (CTX_STAT.PROGRESS 0) = 0xFFFD := (hsame 1 _).trans (by decide)
  rw [hfree, hest, hone, Nat.zero_add] at hodd
  rw [hfree, hprog, htwo] at heven
  omega

end Sys2Proof.Machine
end

section
/-! SUPPORT. The event recorder (R437 to R439, R495) and telemetry (R449 to R451): they settle O57. -/

namespace Sys2Proof.Machine

open Claim

/-! What an interrupt and a notification leave of the recorder. -/

@[simp] theorem msixSend_evr (s : State) (v : Nat) : (msixSend s v).evr = s.evr := by
  unfold msixSend
  dsimp only
  split <;> rfl

@[simp] theorem icEvalOne_evr (s : State) (t : Nat) : (icEvalOne s t).evr = s.evr := by
  unfold icEvalOne
  dsimp only
  split_ifs <;> simp

@[simp] theorem icEval_evr (s : State) : (icEval s).evr = s.evr :=
  forRange_keeps (P := fun t => t.evr = s.evr) (fun u t _ h => (icEvalOne_evr u t).trans h) rfl

@[simp] theorem ring_evr (s : State) (src : Nat) : (ring s src).evr = s.evr := by
  unfold ring
  split <;> simp

/-- The recorder but for what waits for a session's send window and the count towards the watermark. -/
def EvrSt.core (e : EvrSt) : EvrSt := { e with notes := [], wmark := 0 }

theorem notify_core (s : State) (k : Session) (r : Rec) : (notify s k r).evr.core = s.evr.core := by
  unfold notify
  split_ifs <;> rfl

theorem notifyAll_core (s : State) (r : Rec) : (notifyAll s r).evr.core = s.evr.core := by
  refine forEach_keeps (P := fun t => t.evr.core = s.evr.core) (fun u k _ h => ?_) rfl
  split
  · exact (notify_core u k r).trans h
  · exact h

theorem evrWatermark_core (s : State) : (evrWatermark s).evr.core = s.evr.core := by
  unfold evrWatermark
  dsimp only
  split
  · rw [ring_evr]; rfl
  · rfl

/-! Taking a record. -/

/-- The recorder once it has taken a record. -/
def evrTaken (s : State) (r : Rec) : EvrSt :=
  { s.evr with next := s.evr.next + 1, recs := ({ r with seq := evrNext s } :: s.evr.recs).take 65536,
               copyQ := s.evr.copyQ ++ [{ r with seq := evrNext s }],
               rateCnt := (if s.evr.rateAt == s.now / 1000000 then s.evr.rateCnt else 0) + 1, rateAt := s.now / 1000000 }

theorem evrTake_core (s : State) (r : Rec) : (evrTake s r).evr.core = (evrTaken s r).core :=
  (evrWatermark_core _).trans (notifyAll_core _ _)

/-- A record taken is the newest of the circular part, numbered. -/
theorem headD_evrTake (s : State) (r : Rec) : (evrTake s r).evr.recs.headD {} = { r with seq := evrNext s } := by
  show (evrTake s r).evr.core.recs.headD {} = _
  rw [evrTake_core]
  rfl

theorem lost_evrTake (s : State) (r : Rec) : (evrTake s r).evr.lost = s.evr.lost := by
  show (evrTake s r).evr.core.lost = _
  rw [evrTake_core]
  rfl

theorem clearing_evrTake (s : State) (r : Rec) : (evrTake s r).evr.clearing = s.evr.clearing := by
  show (evrTake s r).evr.core.clearing = _
  rw [evrTake_core]
  rfl

theorem clearTag_evrTake (s : State) (r : Rec) : (evrTake s r).evr.clearTag = s.evr.clearTag := by
  show (evrTake s r).evr.core.clearTag = _
  rw [evrTake_core]
  rfl

theorem evrTake_regsBut (s : State) (r : Rec) : regsBut recordReg s (evrTake s r) := by
  have hrec : ∀ f, regsBut recordReg s (setEvr s f) := fun f => regsBut_of_regs_eq rfl
  unfold evrTake
  exact ((hrec _).trans (notifyAll_regsBut _ _ _)).trans (evrWatermark_regsBut _)

/-- Below 20,000 records in the millisecond the recorder takes what it is offered. -/
theorem evrOffer_of_room {s : State} (h : s.evr.rateAt ≠ s.now / 1000000 ∨ s.evr.rateCnt < 20000) (r : Rec) :
    evrOffer s r = evrTake s r := by
  refine if_neg ?_
  rw [Bool.and_eq_true, beq_iff_eq, decide_eq_true_eq]
  omega

theorem lostRecord_of_room {s : State} (hlost : s.evr.lost ≠ 0) (h : s.evr.rateAt ≠ s.now / 1000000 ∨ s.evr.rateCnt < 20000) :
    lostRecord s = evrTake (bump (setEvr s fun e => { e with lost := 0 }) (PMC_EVT 0x1001))
      { mkRec s 0x10 1 1 8 0xFFFF 0 [] with count := s.evr.lost } := by
  refine if_neg ?_
  rw [Bool.or_eq_true, Bool.and_eq_true, beq_iff_eq, beq_iff_eq, decide_eq_true_eq]
  omega

/-! Rate windows. -/

theorem mem_tput_same {α : Type} (t : Tab α) (i : Nat) (v : α) : (i, v) ∈ tput t i v := by
  induction t with
  | nil => exact List.mem_singleton.2 rfl
  | cons e t ih =>
    obtain ⟨k, w⟩ := e
    unfold tput
    split
    · exact List.mem_cons_self
    · exact List.mem_cons_of_mem _ ih

/-- A window that has ended, nothing folded, closes. -/
theorem rateWindowEnd_of_empty {s : State} {k : Nat} {w : RateWin} (hfind : (s.evr.windows.find? fun e => e.1 == k) = some (k, w))
    (hend : w.expiry ≤ s.now) (hnone : w.folded = 0) :
    rateWindowEnd s k = setEvr s fun e => { e with windows := tdel e.windows k } := by
  simp [rateWindowEnd, hfind, hnone, Nat.not_lt.2 hend]

/-- A doorbell of FENCE_EVIDENCE for a record of it. -/
def ringEvidence (s : State) (r : Rec) : State := if r.block == 0x0D && r.code == 6 then ring s 2 else s

theorem ringEvidence_evr (s : State) (r : Rec) : (ringEvidence s r).evr = s.evr := by
  unfold ringEvidence
  split <;> simp

theorem ringEvidence_signals (s : State) (r : Rec) : Signals s (ringEvidence s r) :=
  Signals.ite (ring_signals s (by decide)) (Signals.refl s)

/-- One that has folded occurrences makes their SUMMARY and opens again. -/
theorem rateWindowEnd_of_folded {s : State} {k : Nat} {w : RateWin} (hfind : (s.evr.windows.find? fun e => e.1 == k) = some (k, w))
    (hend : w.expiry ≤ s.now) (hsome : w.folded ≠ 0) (hroom : s.evr.rateAt ≠ s.now / 1000000 ∨ s.evr.rateCnt < 20000) :
    ∃ now, now = s.now ∧ rateWindowEnd s k =
      setEvr (ringEvidence (evrTake s { w.lastRec with flags := 2, count := w.folded }) w.lastRec)
        fun e => { e with windows := tput (tdel e.windows k) k { expiry := now + w.len, len := w.len } } := by
  have hsig := (evrTake_signals s { w.lastRec with flags := 2, count := w.folded }).trans (ringEvidence_signals _ w.lastRec)
  refine ⟨(ringEvidence (evrTake s { w.lastRec with flags := 2, count := w.folded }) w.lastRec).now, ?_, ?_⟩
  · rw [hsig.1]; rfl
  · unfold ringEvidence
    simp only [rateWindowEnd, hfind, hsome, Nat.not_lt.2 hend, if_false, beq_iff_eq, evrOffer_of_room hroom]

/-! Record windows. -/

theorem findReg_evrSel :
    findReg EVR_SEL = some ⟨EVR_SEL, 8, 1, 0x0, 0xFFFFFFFFFFFFFFFF, 0xFFFFFFFFFFFFFFFF, 0x0, 0x0, 0x0⟩ := rfl

theorem findReg_evrPsel : findReg EVR_PSEL = some ⟨EVR_PSEL, 8, 1, 0x0, 0xFFF, 0xFFF, 0x0, 0x0, 0x0⟩ := rfl

theorem regEffect_evrSel (old s : State) (p : Nat) (w : Word) (e : Option (List Byte)) :
    regEffect old s p EVR_SEL w e = evrLoad s p (s.evr.recs.find? fun r => r.seq == w.toNat) := rfl

theorem regEffect_evrPsel (old s : State) (p : Nat) (w : Word) (e : Option (List Byte)) :
    regEffect old s p EVR_PSEL w e = evrLoad s p s.nvs.perm[wget w EVR_PSEL.INDEX]? := rfl

/-- A write of a register whose effect is to load a record loads it into the path's own window. -/
theorem writeWord_evrLoad {s : State} {p : Fin 13} {off : Nat} {w : Word} {d : RegDesc} {r : Option Rec}
    (hacc : accepts s p off w = true) (hd : findReg off = some d) (hne : CTL_TEST_STAT ≠ off)
    (heff : ∀ v, regEffect s (setReg s off v) p off w none = evrLoad (setReg s off v) p r) :
    ∃ t, writeWord p off w s = .next t ∧ tget [] t.evr.win (pathKey s p) = recWords r ∧
      (∀ k, k ≠ pathKey s p → tget [] t.evr.win k = tget [] s.evr.win k) ∧ regsBut (fun o => o == off) s t ∧
      t = { s with regs := t.regs, evr := { s.evr with win := t.evr.win } } := by
  refine ⟨evrLoad (setReg s off (storeFields d (getReg s off) w)) p r, (writeWord_of_row hacc hd).trans ?_, tget_tset_same [] s.evr.win (pathKey s p) (recWords r),
    fun k hk => tget_tset_ne [] s.evr.win hk (recWords r),
    (regsBut_setReg (own := fun o => o == off) s (beq_self_eq_true off) (storeFields d (getReg s off) w)).trans (regsBut_of_regs_eq rfl), rfl⟩
  rw [heff, testSweep_of_free]
  exact (testFree_congr (s := setReg s off (storeFields d (getReg s off) w)) rfl rfl).trans
    ((testFree_setReg s hne _).trans (testFree_of_accepts hacc))

/-! The permanent part. -/

/-- Where no session has a request waiting, none is served. -/
theorem mgmtDrain_of_idle {s : State} (h : ∀ k ∈ s.sec.sessions, k.held = []) : mgmtDrain s = s := by
  refine forEach_keeps (P := fun t => t = s) (fun t k hk ht => ?_) rfl
  rw [h k hk, ht]
  rfl

/-- The record that a clear leaves: how many records there were, and the client that asked. -/
def clearedRec (s : State) : Rec :=
  { mkRec s 0x10 2 0 8 0xFFFF 0 (le 4 s.nvs.perm.length ++ le 8 ((s.nvs.perm.head?.map (·.seq)).getD 0) ++ fit 16 s.evr.clearDigest) with
    seq := evrNext s }

/-- The permanent part with the CLEARED record alone. -/
def permCleared (s : State) : State :=
  setEvr (setNvs (evrTake (bump (setEvr s fun e => { e with clearing := none }) (PMC_EVT 0x1002)) (clearedRec s))
    fun n => { n with perm := [{ clearedRec s with flags := 1 }] }) fun e => { e with copyQ := s.evr.copyQ }

theorem permCleared_signals (s : State) :
    signalsOnly s (evrTake (bump (setEvr s fun e => { e with clearing := none }) (PMC_EVT 0x1002)) (clearedRec s)) :=
  (((Signals.setEvr s _).trans (Signals.bump _ (signalReg_evt 0x1002 (by decide)))).trans (evrTake_signals _ _)).1

theorem permCleared_nvs (s : State) : (permCleared s).nvs = { s.nvs with perm := [{ clearedRec s with flags := 1 }] } := by
  unfold permCleared
  rw [permCleared_signals s]
  rfl

theorem permCleared_sec (s : State) : (permCleared s).sec = s.sec := by
  unfold permCleared
  rw [permCleared_signals s]
  rfl

theorem clearing_permCleared (s : State) : (permCleared s).evr.clearing = none :=
  clearing_evrTake _ _

theorem clearTag_permCleared (s : State) : (permCleared s).evr.clearTag = s.evr.clearTag :=
  clearTag_evrTake _ _

theorem eventsClearDone_of_clearing {s : State} {n : Nat} (h : s.evr.clearing = some n) :
    eventsClearDone s = if s.sec.sessions.any (fun k => k.sid == n) then emit (permCleared s) (.mgmt n 6 3 0 s.evr.clearTag [])
      else permCleared s := by
  have heq : eventsClearDone s = if (permCleared s).sec.sessions.any (fun k => k.sid == n) then
      emit (permCleared s) (.mgmt n 6 3 0 (permCleared s).evr.clearTag []) else permCleared s := by
    unfold eventsClearDone
    rw [h]
    rfl
  rw [heq, permCleared_sec, clearTag_permCleared]

/-- The number of records and the client's digest stand in the CLEARED record's data. -/
theorem clearedRec_data (s : State) : (clearedRec s).data.take 4 = le 4 s.nvs.perm.length ∧
    ((clearedRec s).data.drop 12).take 16 = fit 16 s.evr.clearDigest := by
  have hdata : (clearedRec s).data = le 4 s.nvs.perm.length ++ (le 8 ((s.nvs.perm.head?.map (·.seq)).getD 0) ++ fit 16 s.evr.clearDigest) :=
    List.append_assoc _ _ _
  have hdrop : (clearedRec s).data.drop 12 = fit 16 s.evr.clearDigest :=
    List.drop_left' (by rw [List.length_append, length_le, length_le])
  exact ⟨by rw [hdata, List.take_left' (length_le _ _)], by rw [hdrop, List.take_of_length_le (by rw [length_fit])]⟩

/-! Telemetry. -/

theorem length_telHeader (s : State) (kind first count seq start period : Nat) :
    (telHeader s kind first count seq start period).length = 32 := by
  simp [telHeader]

theorem take_telHeader (s : State) (kind first count seq start period : Nat) (bs : List Byte) :
    (telHeader s kind first count seq start period ++ bs).take 1 = [BitVec.ofNat 8 kind] := rfl

theorem length_watchRecord (s : State) (L : Nat) : (watchRecord s L).length = 32 := by
  simp [watchRecord]

theorem telPeriods_pos (a b p : Nat) : 0 < telPeriods a b p := by
  unfold telPeriods
  omega

/-- A list of entries of n bytes each has n bytes for each. -/
theorem length_flatMap_const {α : Type} {l : List α} {f : α → List Byte} {n : Nat} (h : ∀ a ∈ l, (f a).length = n) :
    (l.flatMap f).length = n * l.length := by
  rw [List.length_flatMap, List.map_congr_left h, List.map_const', List.sum_replicate, smul_eq_mul, Nat.mul_comm]

/-- Datagram j of a sampler period. -/
def samplerDatagram (s : State) (j : Nat) : List Byte :=
  telHeader s 1 (256 * j) 256 s.tel.sampSeq s.tel.sampAt (1000 * fget s TEL_CTRL.SAMP_PERIOD_US) ++
    (List.range 256).flatMap fun k => le 4 (samplerEntry s (1000 * fget s TEL_CTRL.SAMP_PERIOD_US) (256 * j + k))

theorem length_samplerDatagram (s : State) (j : Nat) : (samplerDatagram s j).length = 1056 := by
  rw [samplerDatagram, List.length_append, length_telHeader, length_flatMap_const fun k _ => length_le 4 _, List.length_range]

/-- The datagram of a watch period. -/
def watchDatagram (s : State) : List Byte :=
  let ports := ((List.range 64).filter fun w => fbit s (TEL_WATCH.VALID w)).map fun w => fget s (TEL_WATCH.PORT w)
  telHeader s 2 0 ports.length s.tel.watchSeq s.tel.watchAt 1000 ++ ports.flatMap (watchRecord s)

theorem length_watchDatagram (s : State) :
    (watchDatagram s).length = 32 + 32 * ((List.range 64).filter fun w => fbit s (TEL_WATCH.VALID w)).length := by
  rw [watchDatagram, List.length_append, length_telHeader, length_flatMap_const fun L _ => length_watchRecord s L, List.length_map]

/-- What a sampler period that has ended leaves. -/
theorem samplerPeriod_of_due {s : State} (hon : fbit s TEL_CTRL.SAMP_EN = true)
    (hdue : telDue s s.tel.sampAt (1000 * fget s TEL_CTRL.SAMP_PERIOD_US) = true) :
    ∃ n snap at', 0 < n ∧ samplerPeriod s = setTel s fun t =>
      { t with queue := t.queue ++ (List.range 4).map fun j => (1, s.now + 1000 * fget s TEL_CTRL.SAMP_PERIOD_US, samplerDatagram s j),
               sampSeq := t.sampSeq + n, sampAt := at', snap := snap, ecnFor := [] } := by
  let p := 1000 * fget s TEL_CTRL.SAMP_PERIOD_US
  exact ⟨telPeriods s.tel.sampAt (s.tbNs / p * p) p, telSnap s, s.tbNs / p * p, telPeriods_pos _ _ _,
    if_neg (by simp [hon, hdue])⟩

/-- What a watch period that has ended leaves. -/
theorem watchPeriod_of_due {s : State} (hon : fbit s TEL_CTRL.WATCH_EN = true) (hdue : telDue s s.tel.watchAt 1000 = true) :
    ∃ n snap at', 0 < n ∧ watchPeriod s = setTel s fun t =>
      { t with queue := t.queue ++ [(2, s.now + 1000, watchDatagram s)],
               watchSeq := t.watchSeq + n, watchAt := at', wsnap := snap, xoffSent := [] } := by
  exact ⟨telPeriods s.tel.watchAt (s.tbNs / 1000 * 1000) 1000, telSnap s, s.tbNs / 1000 * 1000, telPeriods_pos _ _ _,
    if_neg (by simp [hon, hdue])⟩

/-- What a filter and its complement keep adds up. -/
theorem length_sub_filter {α : Type} (l : List α) (p : α → Bool) :
    l.length - (l.filter fun a => !p a).length = (l.filter p).length := by
  have := List.length_eq_length_filter_add (l := l) p
  omega

/-- Settles O57: the recorder takes each record in one place, and a stream queues its datagrams in one place. -/
theorem recorderAndTelemetry : Obligations.RecorderAndTelemetry := by
  unfold Obligations.RecorderAndTelemetry
  refine ⟨fun r q s hpow hq hopen hclear hroom => ?_, fun k w s hpow hfind hend hnone => ?_,
    fun k w s hpow hfind hend hsome hroom => ?_, fun s hpow hlost hroom => ?_, fun p n s hacc => ?_, fun p n s hacc => ?_,
    fun n s hpow hclear hidle => ?_, fun s hpow hon hdue => ?_, fun s hpow hon hdue => ?_, fun s hpow => ?_⟩
  · have hcopy : permCopy s = setNvs (setEvr s fun e => { e with copyQ := q, latchPre := e.latchPre - 1 })
        fun n => { n with perm := n.perm ++ [{ r with flags := r.flags / 2 * 2 + 1 }] } := by
      simp [permCopy, hq, hopen, hclear, hroom]
    refine ⟨_, live_of_powered hpow permCopy, ?_⟩
    rw [hcopy]
    exact ⟨rfl, rfl, rfl⟩
  · exact ⟨_, live_of_powered hpow fun s => rateWindowEnd s k, rateWindowEnd_of_empty hfind hend hnone⟩
  · obtain ⟨now, rfl, heq⟩ := rateWindowEnd_of_folded hfind hend hsome hroom
    refine ⟨_, live_of_powered hpow fun s => rateWindowEnd s k, ?_⟩
    have hsig : Signals s (rateWindowEnd s k) := by
      rw [heq]
      exact ((evrTake_signals s _).trans (ringEvidence_signals _ _)).trans (Signals.setEvr _ _)
    have hrec : (rateWindowEnd s k).evr.recs.headD {} = { w.lastRec with flags := 2, count := w.folded, seq := evrNext s } := by
      rw [heq]
      exact (congrArg (fun e : EvrSt => e.recs.headD {}) (ringEvidence_evr _ _)).trans (headD_evrTake s _)
    refine ⟨by rw [hrec], by rw [hrec], by rw [hrec], by rw [hrec], by rw [hrec], ?_, regsQuiet.of_signals hsig, hsig.1⟩
    rw [heq]
    exact List.mem_map.2 ⟨_, mem_tput_same _ k _, rfl⟩
  · refine ⟨_, live_of_powered hpow lostRecord, ?_⟩
    rw [lostRecord_of_room hlost hroom]
    have hsig := ((Signals.setEvr s fun e => { e with lost := 0 }).trans
      (Signals.bump _ (signalReg_evt 0x1001 (by decide)))).trans
        (evrTake_signals _ { mkRec s 0x10 1 1 8 0xFFFF 0 [] with count := s.evr.lost })
    have hrec := headD_evrTake (bump (setEvr s fun e => { e with lost := 0 }) (PMC_EVT 0x1001))
      { mkRec s 0x10 1 1 8 0xFFFF 0 [] with count := s.evr.lost }
    refine ⟨lost_evrTake _ _, by rw [hrec]; rfl, by rw [hrec]; rfl, by rw [hrec], by rw [hrec]; rfl, ?_,
      regsQuiet.of_signals hsig, hsig.1⟩
    rw [evrTake_regsBut _ _ _ (recordReg_evt (by decide)), getReg_bump, if_pos rfl]
    rfl
  · exact writeWord_evrLoad hacc findReg_evrSel (by decide) fun v => regEffect_evrSel s _ p n none
  · exact writeWord_evrLoad hacc findReg_evrPsel (by decide) fun v => regEffect_evrPsel s _ p n none
  · refine ⟨_, live_of_powered hpow fun s => mgmtDrain (eventsClearDone s), ?_⟩
    have hdone := eventsClearDone_of_clearing hclear
    have hsec : (eventsClearDone s).sec = s.sec := by
      rw [hdone]
      split <;> exact permCleared_sec s
    have hnvs : (eventsClearDone s).nvs = { s.nvs with perm := [{ clearedRec s with flags := 1 }] } := by
      rw [hdone]
      split <;> exact permCleared_nvs s
    have hclr : (eventsClearDone s).evr.clearing = none := by
      rw [hdone]
      split <;> exact clearing_permCleared s
    have hcopy : (eventsClearDone s).evr.copyQ = s.evr.copyQ := by
      rw [hdone]
      split <;> rfl
    rw [mgmtDrain_of_idle (by rw [hsec]; exact hidle)]
    dsimp only
    rw [hnvs]
    refine ⟨rfl, rfl, rfl, rfl, (clearedRec_data s).1, (clearedRec_data s).2, hclr, hcopy, rfl, fun hany => ?_⟩
    rw [hdone, if_pos hany]
    rfl
  · obtain ⟨n, snap, at', hn, heq⟩ := samplerPeriod_of_due hon hdue
    refine ⟨_, live_of_powered hpow samplerPeriod, ?_⟩
    rw [heq]
    refine ⟨List.length_append, List.take_left' rfl, fun e he => ?_, Nat.lt_add_of_pos_right hn, rfl, rfl⟩
    rw [show (setTel s _).tel.queue.drop s.tel.queue.length = _ from List.drop_left' rfl, List.mem_map] at he
    obtain ⟨j, -, rfl⟩ := he
    exact ⟨rfl, rfl, length_samplerDatagram s j, take_telHeader _ _ _ _ _ _ _ _⟩
  · obtain ⟨n, snap, at', hn, heq⟩ := watchPeriod_of_due hon hdue
    refine ⟨_, live_of_powered hpow watchPeriod, ?_⟩
    rw [heq]
    refine ⟨List.dropLast_concat, fun e he => ?_, Nat.lt_add_of_pos_right hn, rfl, rfl⟩
    change e ∈ (s.tel.queue ++ [(2, s.now + 1000, watchDatagram s)]).getLast? at he
    rw [List.getLast?_concat] at he
    obtain rfl : (2, s.now + 1000, watchDatagram s) = e := Option.some.inj he
    exact ⟨rfl, rfl, take_telHeader _ _ _ _ _ _ _ _, length_watchDatagram s⟩
  · refine ⟨_, live_of_powered hpow datagramExpire, rfl, ?_, ?_, rfl⟩
    · rw [datagramExpire, bumpBy, getReg_setReg_same]
      exact congrArg (fun n => getReg s TEL_LOST + BitVec.ofNat 64 n) (length_sub_filter _ _).symm
    · exact (regsBut_of_regs_eq rfl).trans (regsBut_setReg _ rfl _)

end Sys2Proof.Machine
end

section
/-! SUPPORT. Rows of a range of the register space, and the interrupt controller (R425 to R430): they settle O56. -/

namespace Sys2Proof.Machine

open Claim

/-! Rows. -/

/-- Does the row meet the offsets from lo to hi? -/
def RegDesc.meets (lo hi : Nat) (d : RegDesc) : Bool :=
  decide (d.base < hi) && (decide (lo ≤ d.base) || decide (lo < d.base + d.stride * d.count))

theorem RegDesc.meets_of_covers {lo hi off : Nat} {d : RegDesc} (hlo : lo ≤ off) (hhi : off < hi) (h : d.covers off = true) :
    d.meets lo hi = true := by
  simp only [RegDesc.covers, Bool.and_eq_true, decide_eq_true_eq, beq_iff_eq] at h
  obtain ⟨⟨hbase, hmod⟩, hcount⟩ := h
  have hoff : off = d.base ∨ off < d.base + d.stride * d.count := by
    have hdiv := Nat.div_add_mod (off - d.base) d.stride
    rcases Nat.eq_zero_or_pos d.stride with h0 | hpos
    · rw [h0, Nat.zero_mul] at hdiv
      rw [h0] at hmod
      omega
    · have := Nat.mul_lt_mul_of_pos_left hcount hpos
      omega
  simp only [RegDesc.meets, Bool.and_eq_true, Bool.or_eq_true, decide_eq_true_eq]
  omega

/-- Between two offsets only the rows that meet them hold a register. -/
theorem find?_covers_filter (l : List RegDesc) {lo hi off : Nat} (hlo : lo ≤ off) (hhi : off < hi) :
    l.find? (·.covers off) = (l.filter (RegDesc.meets lo hi)).find? (·.covers off) := by
  rw [List.find?_filter]
  congr 1
  funext d
  cases h : d.covers off
  · simp
  · simp [RegDesc.meets_of_covers hlo hhi h]

/-- The row of an offset outside the ports' and the contexts' pages, where one row meets the range. -/
theorem findReg_of_range {lo hi off : Nat} {d : RegDesc} (hrow : globalRegs.filter (RegDesc.meets lo hi) = [d])
    (hcov : d.covers off = true) (hlo : lo ≤ off) (hhi : off < hi) (hhole : regHole off = false)
    (hport : ¬ (0x1000000 ≤ off ∧ off < 0x1400000)) (hctx : ¬ (0x3000000 ≤ off ∧ off < 0x3400000)) : findReg off = some d := by
  rw [findReg, hhole, if_neg (by decide), if_neg hport, if_neg hctx, find?_covers_filter _ hlo hhi, hrow, List.find?_cons, hcov]

/-- An accepted write meets no state condition and is refused no path. -/
theorem conditions_of_accepted {s : State} {p off : Nat} {w : Word} (h : writeReason s p off w = 0) :
    stateBad s p off w = false ∧ pathBad p off w = false := by
  have hbad : stateBad s p off w = true ∨ pathBad p off w = true → writeReason s p off w ≠ 0 := by
    intro hbad
    unfold writeReason
    split
    · decide
    · rcases hbad with hs | hp
      · rw [hs, Bool.or_true, if_pos rfl]
        split_ifs <;> decide
      · rw [hp, if_pos rfl]
        split_ifs <;> decide
  exact ⟨Bool.not_eq_true _ ▸ fun hs => hbad (.inl hs) h, Bool.not_eq_true _ ▸ fun hp => hbad (.inr hp) h⟩

/-! What the controller touches. -/

/-- Only registers, interrupt state and what went out differ. -/
def icLeft (s t : State) : Prop := t = { s with regs := t.regs, host := t.host, out := t.out }

theorem icLeft.trans {s t u : State} (h : icLeft s t) (k : icLeft t u) : icLeft s u := by
  unfold icLeft at *
  rw [k, h]

theorem icEval_left (s : State) : icLeft s (icEval s) := by
  have h := (icEval_signals s).1
  unfold signalsOnly at h
  rw [icEval_evr] at h
  exact h

@[simp] theorem icEvalOne_taken (s : State) (t : Nat) : (icEvalOne s t).host.taken = s.host.taken := by
  have hsend : ∀ u v, (msixSend u v).host.taken = u.host.taken := by
    intro u v
    unfold msixSend
    dsimp only
    split <;> rfl
  unfold icEvalOne
  dsimp only
  split_ifs
  · rfl
  · rfl
  · exact hsend _ _
  · rfl

/-- An evaluation leaves the stacks. -/
@[simp] theorem icEval_taken (s : State) : (icEval s).host.taken = s.host.taken :=
  forRange_keeps (P := fun t => t.host.taken = s.host.taken) (fun u t _ h => (icEvalOne_taken u t).trans h) rfl

/-- A source put into a state. -/
def icSet (s : State) (n v : Nat) : State := icEval (fset s (IC_SRC.STATE n) v)

theorem fget_icEval (s : State) (f : Fld) : fget (icEval s) f = fget s f :=
  fget_of_getReg_eq (icEval_regsBut (fun _ => false) s _ rfl)

/-- It touches that source's register alone, and leaves the stacks. -/
theorem icSet_left (s : State) (n v : Nat) : regsBut (fun o => o == IC_SRC n) s (icSet s n v) ∧ icLeft s (icSet s n v) :=
  ⟨(regsBut_fset (own := fun o => o == IC_SRC n) s (IC_SRC.STATE n) (beq_self_eq_true _) v).trans (icEval_regsBut _ _),
    icLeft.trans (t := fset s (IC_SRC.STATE n) v) rfl (icEval_left _)⟩

theorem state_icSet (s : State) (n : Nat) {v : Nat} (hv : v < 4) : fget (icSet s n v) (IC_SRC.STATE n) = v := by
  rw [icSet, fget_icEval, fget_fset_same _ _ _ (show 32 + 2 ≤ 64 by decide)]
  exact Nat.mod_eq_of_lt hv

theorem taken_icSet (s : State) (n v : Nat) : (icSet s n v).host.taken = s.host.taken := icEval_taken _

theorem prio_icSet (s : State) (n v : Nat) : fget (icSet s n v) (IC_SRC.PRIO n) = fget s (IC_SRC.PRIO n) := by
  rw [icSet, fget_icEval, fget_fset_ne _ _ _ _ (.inr (.inl (show 0 + 8 ≤ 32 by decide)))]

theorem testReg_icSrc {n : Nat} : CTL_TEST_STAT ≠ IC_SRC n := by
  unfold CTL_TEST_STAT IC_SRC
  omega

/-- Putting a source into a state meets no self-test. -/
theorem testSweep_icSet {s : State} (hfree : testFree s = true) (n v : Nat) : testSweep (icSet s n v) = icSet s n v :=
  testSweep_of_kept hfree ((icSet_left s n v).1 _ (beq_eq_false_iff_ne.2 testReg_icSrc))
    (by have h := (icSet_left s n v).2; unfold icLeft at h; rw [h])

/-- A target's stack changed. -/
def icStack (s : State) (c : Nat) (f : List (Nat × Nat) → List (Nat × Nat)) : State :=
  setHost s fun h => { h with taken := tmod [] h.taken c f }

theorem taken_icStack (s : State) (c : Nat) (f : List (Nat × Nat) → List (Nat × Nat)) :
    tget [] (icStack s c f).host.taken c = f (tget [] s.host.taken c) := by
  show tget [] (tset [] s.host.taken c (f (tget [] s.host.taken c))) c = _
  exact tget_tset_same _ _ _ _

theorem taken_icStack_ne (s : State) {c d : Nat} (h : d ≠ c) (f : List (Nat × Nat) → List (Nat × Nat)) :
    tget [] (icStack s c f).host.taken d = tget [] s.host.taken d := by
  show tget [] (tset [] s.host.taken c (f (tget [] s.host.taken c))) d = _
  exact tget_tset_ne _ _ h _

/-! Doorbells (R425, R426). -/

theorem writeOnly_doorbell : WriteOnly IC_DOORBELL := ⟨⟨IC_DOORBELL, 8, 1, 0x0, 0xFFF, 0x0, 0x0, 0x0, 0xFFF⟩, rfl, rfl, rfl⟩

theorem regEffect_doorbell (old s : State) (p : Nat) (w : Word) (e : Option (List Byte)) :
    regEffect old s p IC_DOORBELL w e = ring s (wget w IC_DOORBELL.SOURCE) := rfl

theorem wget_source {f : Fld} (hlo : f.lo = 0) (hwid : f.wid = 12) (n : BitVec 12) : wget (BitVec.ofNat 64 n.toNat) f = n.toNat := by
  have := n.isLt
  rw [wget, hlo, hwid, bits, BitVec.toNat_ofNat]
  omega

/-- An accepted doorbell rings its source. -/
theorem exec_doorbell {p : Fin 13} {n : BitVec 12} {s : State} (hacc : accepts s p IC_DOORBELL (BitVec.ofNat 64 n.toNat) = true) :
    exec (.icDoorbell p n) s = .next (testSweep (ring (cmdTaken s IC_DOORBELL) n.toNat)) := by
  refine (writeNum_of_writeOnly hacc writeOnly_doorbell).trans ?_
  rw [regEffect_doorbell, wget_source rfl rfl]

/-- A doorbell of an INACTIVE or an ACTIVE source takes it to the next state. -/
theorem ring_of_quiet {s : State} {n : Nat} (h : fget s (IC_SRC.STATE n) = 0 ∨ fget s (IC_SRC.STATE n) = 2) :
    ring s n = icSet s n (fget s (IC_SRC.STATE n) + 1) := by
  unfold ring
  rcases h with h | h <;> rw [h] <;> rfl

/-- One of a source that waits already is merged. -/
theorem ring_of_waiting {s : State} {n : Nat} (h : fget s (IC_SRC.STATE n) = 1 ∨ fget s (IC_SRC.STATE n) = 3) :
    ring s n = bump s IC_MERGED := by
  unfold ring
  rcases h with h | h <;> rw [h] <;> rfl

/-! The offer (R427, R428). -/

/-- The sources of a target that may be offered: tier, PRIO and number. -/
def icCand (s : State) (t : Nat) : List (Nat × Nat × Nat) :=
  (icPending s).filterMap fun (n, w) =>
    let tier := icTier s (bits w 0 8)
    if bits w 8 3 == t && tier < icRunTier s t then some (tier, bits w 0 8, n) else none

/-- The better of a candidate and the best so far. -/
def icPick (b : Option (Nat × Nat × Nat)) (c : Nat × Nat × Nat) : Option (Nat × Nat × Nat) :=
  match b with
  | none => some c
  | some d => if icBetter c d then some c else some d

theorem icOffer_eq (s : State) (t : Nat) :
    icOffer s t = if t == 4 && !s.host.msixEn then none else ((icCand s t).foldl icPick none).map (·.2.2) := rfl

/-- The order of R428 as a number. -/
def icRank (c : Nat × Nat × Nat) : Nat := (c.1 * 256 + c.2.1) * 4096 + c.2.2

theorem icBetter_iff {a b : Nat × Nat × Nat} (ha : a.2.1 < 256 ∧ a.2.2 < 4096) (hb : b.2.1 < 256 ∧ b.2.2 < 4096) :
    icBetter a b = true ↔ icRank a < icRank b := by
  simp only [icBetter, icRank, Bool.or_eq_true, Bool.and_eq_true, decide_eq_true_eq, beq_iff_eq]
  omega

/-- What is picked is a candidate, or the best before, and none ranks before it. -/
theorem icPick_foldl {l : List (Nat × Nat × Nat)} (hl : ∀ c ∈ l, c.2.1 < 256 ∧ c.2.2 < 4096) {b : Option (Nat × Nat × Nat)}
    (hb : ∀ c ∈ b, c.2.1 < 256 ∧ c.2.2 < 4096) {r : Nat × Nat × Nat} (h : l.foldl icPick b = some r) :
    (r ∈ l ∨ b = some r) ∧ (∀ c ∈ l, icRank r ≤ icRank c) ∧ ∀ c ∈ b, icRank r ≤ icRank c := by
  induction l generalizing b with
  | nil =>
    obtain rfl : b = some r := h
    exact ⟨.inr rfl, by simp, fun c hc => (congrArg icRank (Option.some.inj hc)).le⟩
  | cons a l ih =>
    have ha := hl a List.mem_cons_self
    have hpick : (icPick b a = some a ∧ ∀ c ∈ b, icRank a ≤ icRank c) ∨ (icPick b a = b ∧ ∃ d, b = some d ∧ icRank d ≤ icRank a) := by
      cases b with
      | none => exact .inl ⟨rfl, by simp⟩
      | some d =>
        have hiff := icBetter_iff ha (hb d rfl)
        by_cases hbet : icBetter a d = true
        · exact .inl ⟨if_pos hbet, fun c hc => by rw [← Option.some.inj hc]; exact (hiff.1 hbet).le⟩
        · exact .inr ⟨if_neg hbet, d, rfl, Nat.not_lt.1 fun hlt => hbet (hiff.2 hlt)⟩
    have hl' : ∀ c ∈ l, c.2.1 < 256 ∧ c.2.2 < 4096 := fun c hc => hl c (List.mem_cons_of_mem a hc)
    rw [List.foldl_cons] at h
    rcases hpick with ⟨hp, hbest⟩ | ⟨hp, d, rfl, hd⟩
    · rw [hp] at h
      obtain ⟨hmem, hmin, hacc⟩ := ih hl' (fun c hc => by rw [← Option.some.inj hc]; exact ha) h
      have hra := hacc a rfl
      refine ⟨.inl ?_, fun c hc => ?_, fun c hc => hra.trans (hbest c hc)⟩
      · rcases hmem with hmem | hmem
        · exact List.mem_cons_of_mem a hmem
        · rw [← Option.some.inj hmem]
          exact List.mem_cons_self
      · rcases List.mem_cons.1 hc with rfl | hc
        · exact hra
        · exact hmin c hc
    · rw [hp] at h
      obtain ⟨hmem, hmin, hacc⟩ := ih hl' hb h
      refine ⟨hmem.imp_left (List.mem_cons_of_mem a), fun c hc => ?_, hacc⟩
      rcases List.mem_cons.1 hc with rfl | hc
      · exact (hacc d rfl).trans hd
      · exact hmin c hc

/-- Where keys rise, a listed register is what it reads as. -/
theorem tget_of_mem {α : Type} {d : α} {t : Tab α} (h : (t.map (·.1)).Pairwise (· < ·)) {k : Nat} {v : α} (hm : (k, v) ∈ t) :
    tget d t k = v := by
  induction t with
  | nil => cases hm
  | cons e t ih =>
    obtain ⟨i, w⟩ := e
    rw [List.map_cons, List.pairwise_cons] at h
    unfold tget
    rcases List.mem_cons.1 hm with heq | hm
    · obtain ⟨rfl, rfl⟩ := Prod.mk.inj heq
      exact if_pos rfl
    · have hlt : i < k := h.1 k (List.mem_map.2 ⟨_, hm, rfl⟩)
      exact (if_neg hlt.ne).trans (ih h.2 hm)

/-- What reads other than the default is listed. -/
theorem mem_of_tget_ne {α : Type} {d : α} {t : Tab α} {k : Nat} (h : tget d t k ≠ d) : (k, tget d t k) ∈ t := by
  induction t with
  | nil => exact absurd rfl h
  | cons e t ih =>
    obtain ⟨i, w⟩ := e
    unfold tget at h ⊢
    by_cases hi : i = k
    · subst hi
      rw [if_pos rfl]
      exact List.mem_cons_self
    · rw [if_neg hi] at h ⊢
      exact List.mem_cons_of_mem _ (ih h)

/-- The row of the sources. -/
def icSrcRow : RegDesc := ⟨0x101000, 8, 4096, 0x80, 0x387FF07FF, 0x87FF07FF, 0x0, 0x0, 0x0⟩

theorem findReg_icSrc {n : Nat} (h : n < 4096) : findReg (IC_SRC n) = some icSrcRow := by
  have hoff : 0x101000 ≤ IC_SRC n ∧ IC_SRC n < 0x109000 := by unfold IC_SRC; omega
  obtain ⟨hlo, hhi⟩ := hoff
  refine findReg_of_range (lo := 0x101000) (hi := 0x109000) (d := icSrcRow) rfl ?_ hlo hhi ?_ (by omega) (by omega)
  · rw [RegDesc.covers, Bool.and_eq_true, Bool.and_eq_true]
    exact ⟨⟨decide_eq_true hlo, beq_iff_eq.2 (show (0x101000 + 8 * n - 0x101000) % 8 = 0 by omega)⟩,
      decide_eq_true (show (0x101000 + 8 * n - 0x101000) / 8 < 4096 by omega)⟩
  · rw [regHole, if_neg (by omega), if_neg (by omega)]

theorem regReset_icSrc {n : Nat} (h : n < 4096) : regReset (IC_SRC n) = 0x80 := by
  rw [regReset, findReg_icSrc h, if_neg (by unfold IC_SRC; omega), if_neg (by unfold IC_SRC; omega)]
  rfl

/-- A source in the list of PENDING ones has its register listed. -/
theorem mem_icPending {s : State} {n w : Nat} :
    (n, w) ∈ icPending s ↔ ∃ k v, (k, v) ∈ s.regs ∧ (0x101000 ≤ k ∧ k < 0x109000) ∧ bits v.toNat 32 2 = 1 ∧
      bit v.toNat 31 = true ∧ n = (k - 0x101000) / 8 ∧ w = v.toNat := by
  unfold icPending
  rw [List.mem_filterMap]
  constructor
  · rintro ⟨⟨k, v⟩, hm, heq⟩
    dsimp only at heq
    split at heq
    · next hc =>
      simp only [Bool.and_eq_true, decide_eq_true_eq, beq_iff_eq] at hc
      obtain ⟨⟨hrange, hst⟩, hen⟩ := hc
      obtain ⟨hn, hw⟩ := Prod.mk.inj (Option.some.inj heq)
      exact ⟨k, v, hm, hrange, hst, hen, hn.symm, hw.symm⟩
    · cases heq
  · rintro ⟨k, v, hm, hrange, hst, hen, rfl, rfl⟩
    refine ⟨(k, v), hm, ?_⟩
    dsimp only
    rw [if_pos]
    simp only [Bool.and_eq_true, decide_eq_true_eq, beq_iff_eq]
    exact ⟨⟨hrange, hst⟩, hen⟩

theorem mem_icCand {s : State} {t : Nat} {c : Nat × Nat × Nat} :
    c ∈ icCand s t ↔ ∃ w, (c.2.2, w) ∈ icPending s ∧ bits w 8 3 = t ∧ icTier s (bits w 0 8) < icRunTier s t ∧
      c.1 = icTier s (bits w 0 8) ∧ c.2.1 = bits w 0 8 := by
  unfold icCand
  rw [List.mem_filterMap]
  constructor
  · rintro ⟨⟨n, w⟩, hm, heq⟩
    dsimp only at heq
    split at heq
    · next hc =>
      simp only [Bool.and_eq_true, decide_eq_true_eq, beq_iff_eq] at hc
      rw [← Option.some.inj heq]
      exact ⟨w, hm, hc.1, hc.2, rfl, rfl⟩
    · cases heq
  · rintro ⟨w, hm, ht, hrun, h1, h2⟩
    refine ⟨_, hm, ?_⟩
    dsimp only
    rw [if_pos (by simp [ht, hrun]), ← h1, ← h2]

theorem icCand_bounded {s : State} {t : Nat} : ∀ c ∈ icCand s t, c.2.1 < 256 ∧ c.2.2 < 4096 := by
  intro c hc
  obtain ⟨w, hm, -, -, -, hprio⟩ := mem_icCand.1 hc
  obtain ⟨k, v, -, hrange, -, -, hn, -⟩ := mem_icPending.1 hm
  have hlt : bits w 0 8 < 2 ^ 8 := bits_lt w 0 8
  exact ⟨by omega, by omega⟩

/-- What is offered is the candidate that ranks first. -/
theorem icOffer_first {s : State} {t n : Nat} (h : icOffer s t = some n) :
    ∃ r ∈ icCand s t, r.2.2 = n ∧ ∀ c ∈ icCand s t, icRank r ≤ icRank c := by
  rw [icOffer_eq] at h
  split at h
  · cases h
  · obtain ⟨r, hr, hn⟩ := Option.map_eq_some_iff.1 h
    obtain ⟨hmem, hmin, -⟩ := icPick_foldl icCand_bounded (by simp) hr
    exact ⟨r, hmem.resolve_right (by simp), hn, hmin⟩

theorem icOffer_lt {s : State} {t n : Nat} (h : icOffer s t = some n) : n < 4096 := by
  obtain ⟨r, hr, rfl, -⟩ := icOffer_first h
  exact (icCand_bounded r hr).2

/-- An enabled PENDING source, as its register reads. -/
theorem mem_icPending_of_reads {s : State} {m : Nat} (hm : m < 4096) (hst : fget s (IC_SRC.STATE m) = 1)
    (hen : fbit s (IC_SRC.EN m) = true) : (m, (getReg s (IC_SRC m)).toNat) ∈ icPending s := by
  have hne : getReg s (IC_SRC m) ≠ regReset (IC_SRC m) := by
    intro heq
    rw [fget, show (IC_SRC.STATE m).off = IC_SRC m from rfl, heq, regReset_icSrc hm] at hst
    exact absurd hst (show ¬ bits (0x80 : Word).toNat 32 2 = 1 by decide)
  refine mem_icPending.2 ⟨IC_SRC m, getReg s (IC_SRC m), mem_of_tget_ne hne, by unfold IC_SRC; omega, hst, ?_, by unfold IC_SRC; omega, rfl⟩
  exact hen

/-- A candidate reads as one that waits, where the registers are listed in order. -/
theorem reads_of_mem_icPending {s : State} (hsorted : (s.regs.map (·.1)).Pairwise (· < ·)) (halign : ∀ e ∈ s.regs, e.1 % 8 = 0)
    {n w : Nat} (h : (n, w) ∈ icPending s) :
    n < 4096 ∧ w = (getReg s (IC_SRC n)).toNat ∧ fget s (IC_SRC.STATE n) = 1 ∧ fbit s (IC_SRC.EN n) = true := by
  obtain ⟨k, v, hm, hrange, hst, hen, hn, rfl⟩ := mem_icPending.1 h
  have h8 : k % 8 = 0 := halign _ hm
  have hk : IC_SRC n = k := by unfold IC_SRC; omega
  have hread : getReg s (IC_SRC n) = v := by
    rw [hk]
    exact tget_of_mem hsorted hm
  refine ⟨by omega, by rw [hread], ?_, ?_⟩
  · rw [fget, show (IC_SRC.STATE n).off = IC_SRC n from rfl, hread]
    exact hst
  · rw [fbit, fget, show (IC_SRC.EN n).off = IC_SRC n from rfl, hread]
    exact hen

/-! A claim (R429). -/

theorem readReg_icClaim (s : State) (p : Nat) (c : Fin 5) :
    readReg s p (IC_CLAIM c) = if p == targetPath c then icClaim s c else (0, s) := by
  have hc := c.isLt
  have htb : (IC_CLAIM c == TB_SEC) = false := beq_eq_false_iff_ne.2 (by unfold IC_CLAIM TB_SEC; omega)
  have hin : (decide (IC_CLAIM 0 ≤ IC_CLAIM c) && decide (IC_CLAIM c < IC_CLAIM 5)) = true := by
    rw [Bool.and_eq_true, decide_eq_true_eq, decide_eq_true_eq]
    unfold IC_CLAIM
    omega
  have hdiv : (IC_CLAIM c - IC_CLAIM 0) / 8 = c := by unfold IC_CLAIM; omega
  have h8 : (IC_CLAIM c % 8 == 0) = true := beq_iff_eq.2 (by unfold IC_CLAIM; omega)
  simp only [readReg, htb, hin, hdiv, h8, Bool.false_eq_true, if_false, if_true, Bool.true_and]

theorem exec_icClaim {p : Fin 13} {c : Fin 5} {s : State} (hpow : s.sys.powered = true) (hlive : pathLive s p = true) :
    exec (.icClaim p c) s =
      .next (emit (readReg s p (IC_CLAIM c)).2 (.readData p (IC_CLAIM c) (readReg s p (IC_CLAIM c)).1)) :=
  readOff_of_live hpow hlive (by unfold IC_CLAIM; omega)

/-- What a claim that takes a source leaves. -/
def icClaimed (s : State) (c n : Nat) : State :=
  icSet (icStack s c fun l => (n, icTier s (fget s (IC_SRC.PRIO n))) :: l) n 2

theorem icClaim_of_offer {s : State} {c n : Nat} (h : icOffer s c = some n) :
    icClaim s c = (BitVec.ofNat 64 (2 ^ 63 + n), icClaimed s c n) := by
  unfold icClaim
  rw [h]
  rfl

theorem icClaim_of_none {s : State} {c : Nat} (h : icOffer s c = none) : icClaim s c = (0, s) := by
  unfold icClaim
  rw [h]

/-! Completions (R429). -/

theorem writeOnly_eoi (c : Fin 5) : WriteOnly (IC_EOI c) := by
  have hlo : 0x100180 ≤ IC_EOI c := by unfold IC_EOI; omega
  have hhi : IC_EOI c < 0x1001A8 := by unfold IC_EOI; omega
  refine ⟨⟨0x100180, 8, 5, 0x0, 0xFFF, 0x0, 0x0, 0x0, 0xFFF⟩, ?_, rfl, rfl⟩
  refine findReg_of_range (lo := 0x100180) (hi := 0x1001A8) rfl ?_ hlo hhi ?_ (by omega) (by omega)
  · rw [RegDesc.covers, Bool.and_eq_true, Bool.and_eq_true]
    exact ⟨⟨decide_eq_true hlo, beq_iff_eq.2 (show (0x100180 + 8 * c.val - 0x100180) % 8 = 0 by omega)⟩,
      decide_eq_true (show (0x100180 + 8 * c.val - 0x100180) / 8 < 5 by omega)⟩
  · rw [regHole, if_neg (by omega), if_neg (by omega)]

theorem inEoi_eoi (c : Fin 5) : inEoi (IC_EOI c) = true := by
  rw [inEoi, Bool.and_eq_true, decide_eq_true_eq, decide_eq_true_eq]
  unfold IC_EOI
  omega

theorem eoi_target (c : Fin 5) : (IC_EOI c - 0x100180) / 8 = c := by
  unfold IC_EOI
  omega

theorem regEffect_eoi (old s : State) (p : Nat) (c : Fin 5) (w : Word) (e : Option (List Byte)) :
    regEffect old s p (IC_EOI c) w e = icComplete s c (wget w (IC_EOI.SOURCE 0)) := by
  match c with
  | 0 => rfl
  | 1 => rfl
  | 2 => rfl
  | 3 => rfl
  | 4 => rfl

/-- An accepted completion names the top of its target's stack. -/
theorem icTop_of_accepts {s : State} {p : Fin 13} {c : Fin 5} {n : BitVec 12}
    (hacc : accepts s p (IC_EOI c) (BitVec.ofNat 64 n.toNat) = true) : icTop s c n.toNat = true := by
  obtain ⟨-, -, hreason, -⟩ := accepts_iff.1 hacc
  obtain ⟨hstate, hpath⟩ := conditions_of_accepted hreason
  have hhost : hostState s p (IC_EOI c) (BitVec.ofNat 64 n.toNat) = false := (Bool.or_eq_false_iff.1 hstate).2
  have hdoor : (IC_EOI c == IC_DOORBELL) = false := beq_eq_false_iff_ne.2 (by unfold IC_EOI IC_DOORBELL; omega)
  have hdq : inDq (IC_EOI c) = false := by
    rw [inDq, Bool.and_eq_false_iff, decide_eq_false_iff_not, decide_eq_false_iff_not]
    unfold IC_EOI
    omega
  have htarget : (p.val != targetPath c) = false := by
    have h : hostPath p (IC_EOI c) (BitVec.ofNat 64 n.toNat) = false := (Bool.or_eq_false_iff.1 hpath).1
    simpa only [hostPath, hdoor, inEoi_eoi, eoi_target, Bool.false_eq_true, if_false, Bool.true_and] using h
  have hp : (p.val == targetPath c) = true := by simpa using htarget
  simpa only [hostState, hdq, inEoi_eoi, eoi_target, hp, wget_source (f := IC_EOI.SOURCE 0) rfl rfl, Bool.false_eq_true, if_false,
    Bool.true_and, Bool.not_eq_false'] using hhost

/-- What a completion leaves. -/
theorem icComplete_eq (s : State) (c n : Nat) :
    icComplete s c n = icSet (icStack s c (·.drop 1)) n
      (if fget s (IC_SRC.STATE n) = 3 then 1 else 0) := by
  unfold icComplete icSet
  by_cases h : fget s (IC_SRC.STATE n) = 3
  · rw [if_pos h]
    exact congrArg (fun v => icEval (fset _ (IC_SRC.STATE n) v)) (if_pos (beq_iff_eq.2 h))
  · rw [if_neg h]
    exact congrArg (fun v => icEval (fset _ (IC_SRC.STATE n) v)) (if_neg (fun hb => h (beq_iff_eq.1 hb)))

/-! Configuration (R427, R430). -/

theorem findReg_tiers :
    findReg IC_TIERS = some ⟨IC_TIERS, 8, 1, 0xE0C0A080604020, 0xFFFFFFFFFFFFFF, 0xFFFFFFFFFFFFFF, 0x0, 0x0, 0x0⟩ := rfl

/-- A write of the controller's configuration is followed by an evaluation. -/
theorem regEffect_icConfig {off : Nat} (h : off = IC_TIERS ∨ inSrc off = true) (old s : State) (p : Nat) (w : Word)
    (e : Option (List Byte)) : regEffect old s p off w e = icEval s := by
  have hrange : 0x100000 ≤ off ∧ off < 0x109000 := by
    rcases h with rfl | h
    · decide
    · rw [inSrc, Bool.and_eq_true, decide_eq_true_eq, decide_eq_true_eq] at h
      omega
  have hne : ∀ c, c < 0x100000 ∨ 0x109000 ≤ c → (off == c) = false := fun c hc => beq_eq_false_iff_ne.2 (by omega)
  have hge : ∀ c, 0x109000 ≤ c → decide (c ≤ off) = false := fun c hc => decide_eq_false (by omega)
  have hlock : inLock off = false := by
    rw [inLock, Bool.and_eq_false_iff, decide_eq_false_iff_not, decide_eq_false_iff_not]
    unfold CTL_LOCK
    omega
  have hcore : coreEffect old s off w = s := by
    simp (disch := decide) only [coreEffect, hne, hge, hlock, Bool.false_and, Bool.false_eq_true, if_false]
  have hstart : ∀ t, startEffect t off w = t := fun t => by
    simp (disch := decide) only [startEffect, hne, Bool.false_eq_true, if_false]
  have hhost : hostEffect old s off w e = icEval s := if_pos (by simpa using h)
  rw [regEffect, if_pos (by omega), hcore, hhost, hstart]

/-- What an accepted write of it leaves. -/
theorem exec_icConfig {p : Fin 13} {off : Nat} {v : Word} {d : RegDesc} {s : State} (hacc : accepts s p off v = true)
    (h : off = IC_TIERS ∨ inSrc off = true) (hlt : off < 2 ^ 26) (hd : findReg off = some d) :
    exec (.icConfigWrite p (BitVec.ofNat 26 off) v) s = .next (icEval (setReg s off (storeFields d (getReg s off) v))) := by
  have hoff : (BitVec.ofNat 26 off).toNat = off := Nat.mod_eq_of_lt hlt
  have hne : CTL_TEST_STAT ≠ off := by
    rcases h with rfl | h
    · decide
    · rw [inSrc, Bool.and_eq_true, decide_eq_true_eq, decide_eq_true_eq] at h
      unfold CTL_TEST_STAT
      omega
  refine (if_pos (by rw [hoff]; simpa using h)).trans ?_
  rw [hoff, writeWord_of_row hacc hd, regEffect_icConfig h]
  refine congrArg _ (testSweep_of_kept (testFree_of_accepts hacc) ?_ ?_)
  · rw [icEval_regsBut (fun _ => false) _ _ rfl, getReg_setReg_ne s hne]
  · have hleft := icEval_left (setReg s off (storeFields d (getReg s off) v))
    unfold icLeft at hleft
    rw [hleft]
    rfl

/-- A field with no RW bit keeps what it holds. -/
theorem wget_storeFields_kept {d : RegDesc} (hw1c : d.w1c = 0) (old w : Word) {f : Fld}
    (hf : ∀ i < f.wid, (BitVec.ofNat 64 (d.rw ||| d.rwl)).getLsbD (f.lo + i) = false) :
    wget (storeFields d old w) f = wget old f := by
  rw [storeFields_of_no_w1c hw1c]
  generalize BitVec.ofNat 64 (d.rw ||| d.rwl) = m at hf
  refine Nat.eq_of_testBit_eq fun i => ?_
  rw [wget, wget, testBit_bits, testBit_bits]
  by_cases hi : i < f.wid
  · have hbit : ((old &&& ~~~m) ||| (w &&& m)).getLsbD (f.lo + i) = old.getLsbD (f.lo + i) := by
      rw [BitVec.getLsbD_or, BitVec.getLsbD_and, BitVec.getLsbD_and, BitVec.getLsbD_not, hf i hi]
      by_cases hlt : f.lo + i < 64
      · simp [hlt]
      · simp [hlt, BitVec.getLsbD_of_ge _ _ (Nat.not_lt.1 hlt)]
    exact congrArg (decide (i < f.wid) && ·) hbit
  · simp [hi]

/-- A field of a register written and then evaluated reads what was stored in it. -/
theorem fget_icConfigured (s : State) (v : Word) (f : Fld) : fget (icEval (setReg s f.off v)) f = wget v f :=
  (fget_icEval _ f).trans (fget_setReg_same s f v)

/-- The bits of the fields of a source. -/
def icSrcMask : Word := BitVec.ofNat 64 (icSrcRow.rw ||| icSrcRow.rwl)

/-- The fields of a source read as written, and its state as before. -/
theorem wget_icSrc (old w : Word) (n : Nat) :
    wget (storeFields icSrcRow old w) (IC_SRC.PRIO n) = wget w (IC_SRC.PRIO n) ∧
      wget (storeFields icSrcRow old w) (IC_SRC.TARGET n) = wget w (IC_SRC.TARGET n) ∧
      wget (storeFields icSrcRow old w) (IC_SRC.VECTOR n) = wget w (IC_SRC.VECTOR n) ∧
      wget (storeFields icSrcRow old w) (IC_SRC.EN n) = wget w (IC_SRC.EN n) ∧
      wget (storeFields icSrcRow old w) (IC_SRC.STATE n) = wget old (IC_SRC.STATE n) :=
  ⟨wget_storeFields_rw rfl old w (f := IC_SRC.PRIO n) (show ∀ i < 8, icSrcMask.getLsbD (0 + i) = true by decide),
    wget_storeFields_rw rfl old w (f := IC_SRC.TARGET n) (show ∀ i < 3, icSrcMask.getLsbD (8 + i) = true by decide),
    wget_storeFields_rw rfl old w (f := IC_SRC.VECTOR n) (show ∀ i < 11, icSrcMask.getLsbD (16 + i) = true by decide),
    wget_storeFields_rw rfl old w (f := IC_SRC.EN n) (show ∀ i < 1, icSrcMask.getLsbD (31 + i) = true by decide),
    wget_storeFields_kept rfl old w (f := IC_SRC.STATE n) (show ∀ i < 2, icSrcMask.getLsbD (32 + i) = false by decide)⟩

/-- Settles O56: a doorbell, a claim and a completion each put one source into a state, and the offer is the least of the ranks. -/
theorem interrupts : Obligations.Interrupts := by
  unfold Obligations.Interrupts
  refine ⟨fun p n s hacc hst => ?_, fun p n s hacc hst => ?_, fun p c n s hpow hlive hp hoff => ?_,
    fun c n s hsorted halign hoff => ?_, fun p c s hpow hlive hnone => ?_, fun p c n s hacc => ?_, fun p n v s hacc => ?_,
    fun p v s hacc => ?_⟩
  · have hfree := testFree_cmdTaken (testFree_of_accepts hacc) IC_DOORBELL
    have hst' := fget_cmdTaken s IC_DOORBELL (IC_SRC.STATE n.toNat)
    refine ⟨icSet (cmdTaken s IC_DOORBELL) n.toNat (fget s (IC_SRC.STATE n.toNat) + 1), (exec_doorbell hacc).trans ?_, ?_⟩
    · rw [ring_of_quiet (by rwa [hst']), hst', testSweep_icSet hfree]
    · obtain ⟨hregs, hleft⟩ := icSet_left (cmdTaken s IC_DOORBELL) n.toNat (fget s (IC_SRC.STATE n.toNat) + 1)
      exact ⟨state_icSet _ _ (by omega), (prio_icSet _ _ _).trans (fget_cmdTaken s _ _), taken_icSet _ _ _,
        (regsBut_setReg_getReg _ s _).trans hregs, icLeft.trans (t := cmdTaken s IC_DOORBELL) rfl hleft⟩
  · have hfree := testFree_cmdTaken (testFree_of_accepts hacc) IC_DOORBELL
    have hst' := fget_cmdTaken s IC_DOORBELL (IC_SRC.STATE n.toNat)
    refine ⟨bump (cmdTaken s IC_DOORBELL) IC_MERGED, (exec_doorbell hacc).trans ?_, ?_, ?_, rfl⟩
    · rw [ring_of_waiting (by rwa [hst'])]
      exact congrArg _ (testSweep_of_kept hfree (getReg_setReg_ne _ (by decide) _) rfl)
    · rw [getReg_bump, if_pos rfl, getReg_cmdTaken]
    · exact (regsBut_setReg_getReg _ s _).trans (regsBut_bump _ rfl)
  · refine ⟨emit (icClaimed s c n) (.readData p (IC_CLAIM c) (BitVec.ofNat 64 (2 ^ 63 + n))), ?_, ?_, ?_, fun d hd => ?_, rfl, ?_, ?_⟩
    · rw [exec_icClaim hpow hlive, readReg_icClaim, if_pos (by simpa using hp), icClaim_of_offer hoff]
    · exact state_icSet _ n (by decide)
    · exact (congrArg (fun t => tget [] t c.val) (taken_icSet _ _ _)).trans (taken_icStack _ _ _)
    · exact (congrArg (fun t => tget [] t d) (taken_icSet _ _ _)).trans (taken_icStack_ne _ hd _)
    · exact (icSet_left (icStack s c _) n 2).1
    · exact icLeft.trans (t := icClaimed s c n) (icLeft.trans (t := icStack s c _) rfl (icSet_left _ n 2).2) rfl
  · obtain ⟨r, hr, rfl, hmin⟩ := icOffer_first hoff
    obtain ⟨w, hm, htarget, hrun, htier, hprio⟩ := mem_icCand.1 hr
    obtain ⟨hn, rfl, hst, hen⟩ := reads_of_mem_icPending hsorted halign hm
    refine ⟨⟨hn, hst, hen, htarget, hrun⟩, fun m ⟨hlt, hmst, hmen, hmtarget, hmrun⟩ => ?_⟩
    have hrank := hmin (icTier s (fget s (IC_SRC.PRIO m)), fget s (IC_SRC.PRIO m), m)
      (mem_icCand.2 ⟨_, mem_icPending_of_reads hlt hmst hmen, hmtarget, hmrun, rfl, rfl⟩)
    unfold icRank at hrank
    rw [htier, hprio] at hrank
    exact hrank
  · refine ⟨_, exec_icClaim hpow hlive, ?_⟩
    have hread : readReg s p (IC_CLAIM c) = (0, s) := by
      rw [readReg_icClaim]
      by_cases hp : p.val = targetPath c
      · rw [if_pos (by simpa using hp), icClaim_of_none (hnone.resolve_left (fun h => h hp))]
      · rw [if_neg (by simpa using hp)]
    rw [hread]
    rfl
  · have hfree := testFree_cmdTaken (testFree_of_accepts hacc) (IC_EOI c)
    have htop := icTop_of_accepts hacc
    let u := icStack (cmdTaken s (IC_EOI c)) c (·.drop 1)
    let v := if fget s (IC_SRC.STATE n.toNat) = 3 then 1 else 0
    have hfree' : testFree u = true := (testFree_congr (s := cmdTaken s (IC_EOI c)) rfl rfl).trans hfree
    obtain ⟨hregs, hleft⟩ := icSet_left u n.toNat v
    refine ⟨icSet u n.toNat v, ?_, by simpa [icTop] using htop, ?_, fun d hd => ?_, state_icSet _ _ (by dsimp only [v]; split <;> decide),
      ((regsBut_setReg_getReg _ s _).trans (regsBut_of_regs_eq (t := u) rfl)).trans hregs, icLeft.trans (t := u) rfl hleft⟩
    · refine (writeNum_of_writeOnly hacc (writeOnly_eoi c)).trans ?_
      rw [regEffect_eoi, wget_source rfl rfl, icComplete_eq, fget_cmdTaken, testSweep_icSet hfree']
    · exact ((congrArg (fun t => tget [] t c.val) (taken_icSet _ _ _)).trans (taken_icStack _ _ _)).trans List.drop_one
    · exact (congrArg (fun t => tget [] t d) (taken_icSet _ _ _)).trans (taken_icStack_ne _ hd _)
  · have hn := n.isLt
    have hsrc : inSrc (IC_SRC n) = true := by
      rw [inSrc, Bool.and_eq_true, decide_eq_true_eq, decide_eq_true_eq]
      unfold IC_SRC
      omega
    obtain ⟨hprio, htarget, hvector, hen, hstate⟩ := wget_icSrc (getReg s (IC_SRC n)) v n
    have hread := fget_icConfigured s (storeFields icSrcRow (getReg s (IC_SRC n)) v)
    refine ⟨_, exec_icConfig hacc (.inr hsrc) (by unfold IC_SRC; omega) (findReg_icSrc hn), (hread (IC_SRC.PRIO n)).trans hprio,
      (hread (IC_SRC.TARGET n)).trans htarget, (hread (IC_SRC.VECTOR n)).trans hvector, ?_, (hread (IC_SRC.STATE n)).trans hstate,
      icEval_taken _, (regsBut_setReg (own := fun o => o == IC_SRC n) s (beq_self_eq_true _) _).trans (icEval_regsBut _ _),
      icLeft.trans (t := setReg s (IC_SRC n) (storeFields icSrcRow (getReg s (IC_SRC n)) v)) rfl (icEval_left _)⟩
    rw [fbit, wbit, ← hen]
    exact congrArg (· == 1) (hread (IC_SRC.EN n))
  · refine ⟨_, exec_icConfig hacc (.inl rfl) (by decide) findReg_tiers, ?_, icEval_taken _,
      (regsBut_setReg (own := fun o => o == IC_TIERS) s rfl _).trans (icEval_regsBut _ _),
      icLeft.trans (t := setReg s IC_TIERS _) rfl (icEval_left _)⟩
    refine (fget_icConfigured s _ IC_TIERS.BOUND).trans (wget_storeFields_rw rfl _ v (f := IC_TIERS.BOUND) ?_)
    exact (by decide : ∀ i < 56, (0xFFFFFFFFFFFFFF : Word).getLsbD (0 + i) = true)

end Sys2Proof.Machine
end

section
/-! SUPPORT. The end of a session, and requests on one (R404, R433, R490, R499): rules that O52 and O53 share. -/

namespace Sys2Proof.Machine

open Claim

/-! The end of a session. -/

theorem holder_lowerLock_ne (path : Nat) (s : State) {j k : Nat} (h : j ≠ k) :
    fget (lowerLock path s k) (CTL_LOCK.HOLDER j) = fget s (CTL_LOCK.HOLDER j) := by
  have hoff : (CTL_LOCK j == CTL_LOCK k) = false := beq_eq_false_iff_ne.2 (by unfold CTL_LOCK; omega)
  refine fget_of_getReg_eq (f := CTL_LOCK.HOLDER j) ?_
  exact regsBut_ite (holder_set_regsBut s k _) (regsBut.refl _ s) (CTL_LOCK j) hoff

/-- The holder of a lock once a path below it is gone. -/
def holderLowered (path h : Nat) : Nat := if path < h ∧ h ≠ 0xF then h - 1 else h

theorem holder_lowerLock_same (path : Nat) (s : State) (k : Nat) :
    fget (lowerLock path s k) (CTL_LOCK.HOLDER k) = holderLowered path (fget s (CTL_LOCK.HOLDER k)) := by
  have hlt : fget s (CTL_LOCK.HOLDER k) < 16 := bits_lt _ 0 4
  unfold lowerLock holderLowered
  by_cases h : path < fget s (CTL_LOCK.HOLDER k) ∧ fget s (CTL_LOCK.HOLDER k) ≠ 0xF
  · rw [if_pos h, if_pos (by simpa using h)]
    exact holder_set s k (by omega)
  · rw [if_neg h, if_neg (by simpa using h)]

/-- Of the first n locks, those of later paths show the path below. -/
theorem holder_lowerFirst (path : Nat) (s : State) (j n : Nat) :
    fget (forRange n s (lowerLock path)) (CTL_LOCK.HOLDER j) =
      if j < n then holderLowered path (fget s (CTL_LOCK.HOLDER j)) else fget s (CTL_LOCK.HOLDER j) := by
  induction n with
  | zero => rfl
  | succ n ih =>
    rw [forRange_succ]
    rcases eq_or_ne j n with rfl | h
    · rw [holder_lowerLock_same, ih, if_neg (Nat.lt_irrefl j), if_pos (Nat.lt_succ_self j)]
    · rw [holder_lowerLock_ne path _ h, ih]
      have hlt : j < n ↔ j < n + 1 := by omega
      simp only [hlt]

theorem isNone_of_isSome {s : State} {sid : Nat} (h : (sessionOf s sid).isSome = true) : (sessionOf s sid).isNone = false := by
  rw [Option.isNone_eq_false_iff]
  exact h

theorem sessionPath_le {s : State} {sid : Nat} (h : (sessionOf s sid).isSome = true) (hlen : s.sec.sessions.length ≤ 8) :
    sessionPath s sid ≤ 12 := by
  have hfind : s.sec.sessions.findIdx (·.sid == sid) < s.sec.sessions.length := by
    rw [List.findIdx_lt_length]
    exact List.find?_isSome.1 h
  unfold sessionPath
  omega

theorem regs_sessionLeft (s : State) (sid : Nat) : (sessionLeft s sid).regs = s.regs := rfl

/-- Once a session has ended its locks are free, and those of later sessions show the path below. -/
theorem holder_sessionEnd {s : State} {sid k : Nat} (h : (sessionOf s sid).isSome = true) (hlen : s.sec.sessions.length ≤ 8)
    (hk : k < 16) :
    fget (sessionEnd s sid) (CTL_LOCK.HOLDER k) =
      if fget s (CTL_LOCK.HOLDER k) = sessionPath s sid then 0xF
      else if sessionPath s sid < fget s (CTL_LOCK.HOLDER k) ∧ fget s (CTL_LOCK.HOLDER k) ≠ 0xF then fget s (CTL_LOCK.HOLDER k) - 1
      else fget s (CTL_LOCK.HOLDER k) := by
  have hpath := sessionPath_le h hlen
  have hread : fget (sessionEnd s sid) (CTL_LOCK.HOLDER k) = fget (locksOfEnded s sid) (CTL_LOCK.HOLDER k) := by
    rw [sessionEnd_open (isNone_of_isSome h)]
    exact fget_congr (regs_sessionLeft _ _) _
  have hdrop : fget (dropNotes s sid) (CTL_LOCK.HOLDER k) = fget s (CTL_LOCK.HOLDER k) := rfl
  rw [hread, locksOfEnded, holder_lowerFirst, if_pos hk, holder_freeLocks _ _ hk, hdrop]
  unfold holderLowered
  by_cases hown : fget s (CTL_LOCK.HOLDER k) = sessionPath s sid
  · rw [if_pos hown, if_neg (by omega), if_pos hown]
  · rw [if_neg hown, if_neg hown]

theorem out_sessionEnd (s : State) (sid : Nat) : (sessionEnd s sid).out = s.out := by
  rw [(sessionEnd_sessionsEnded s sid).1]

theorem recs_sessionEnd (s : State) (sid : Nat) : (sessionEnd s sid).evr.recs = s.evr.recs := by
  cases h : (sessionOf s sid).isNone
  · have hkept : (locksOfEnded s sid).evr = (dropNotes s sid).evr := by
      obtain ⟨hst, -⟩ := locksOfEnded_onlyRegs s sid
      rw [hst]
    rw [sessionEnd_open h]
    show (locksOfEnded s sid).evr.recs = _
    rw [hkept]
    rfl
  · rw [sessionEnd_closed h]

/-- What the end of a session leaves, but for what went out. -/
theorem sessionEnd_ended {s : State} {sid : Nat} (h : (sessionOf s sid).isSome = true) (hlen : s.sec.sessions.length ≤ 8) :
    (sessionEnd s sid).sec.sessions = s.sec.sessions.filter (fun k : Session => k.sid != sid) ∧
    (∀ k, k < 16 → fget (sessionEnd s sid) (CTL_LOCK.HOLDER k) =
      if fget s (CTL_LOCK.HOLDER k) = sessionPath s sid then 0xF
      else if sessionPath s sid < fget s (CTL_LOCK.HOLDER k) ∧ fget s (CTL_LOCK.HOLDER k) ≠ 0xF then fget s (CTL_LOCK.HOLDER k) - 1
      else fget s (CTL_LOCK.HOLDER k)) ∧
    regsBut inLock s (sessionEnd s sid) ∧ (sessionEnd s sid).nvs = s.nvs ∧ (sessionEnd s sid).evr.recs = s.evr.recs ∧
    (sessionEnd s sid).sec = { s.sec with sessions := (sessionEnd s sid).sec.sessions } := by
  obtain ⟨hst, hregs⟩ := sessionEnd_sessionsEnded s sid
  exact ⟨sessions_sessionEnd s sid, fun k hk => holder_sessionEnd h hlen hk, hregs, by rw [hst], recs_sessionEnd s sid, by rw [hst]⟩

/-! Requests (R433). -/

/-- The sessions with one of them marked active now. -/
def sessionTouched (s : State) (sid : Nat) : State :=
  setSec s fun c => { c with sessions := c.sessions.map fun k => if k.sid == sid then { k with last := s.now } else k }

theorem sids_sessionTouched (s : State) (sid : Nat) :
    (sessionTouched s sid).sec.sessions.map (fun k : Session => k.sid) = s.sec.sessions.map (fun k : Session => k.sid) := by
  show (s.sec.sessions.map _).map _ = _
  rw [List.map_map]
  refine List.map_congr_left fun k _ => ?_
  rw [Function.comp_apply]
  split <;> rfl

/-- A request of a service that the manual does not define is UNKNOWN. -/
theorem request_of_undefined {s : State} {sid service op : Nat} {tag resv : BitVec 32} {len : Nat}
    (hopen : (sessionOf s sid).isSome = true) (htag : tag ≠ 0#32) (hlen : len ≤ 1048640) (hundef : opDefined service op = false)
    (f : State → Reply × State) :
    request s sid service op tag resv len f = emit (sessionTouched s sid) (.mgmt sid service op 2 tag.toNat []) := by
  have hbad : ¬ ((tag == 0 || decide (1048640 < len)) = true) := by
    simpa [htag] using hlen
  unfold request
  rw [isNone_of_isSome hopen, if_neg (by decide)]
  dsimp only
  rw [if_neg hbad, hundef, Bool.not_false, Bool.true_or, if_pos rfl]
  rfl

/-- Nothing serves it. -/
theorem requestServe_of_undefined {r : Request} (hlate : r.late = false) (hundef : opDefined r.service r.op = false) (sid : Nat)
    (s : State) : requestServe sid r s = request s sid r.service r.op r.tag r.resv r.body.length fun s => (stUnknown, s) := by
  unfold requestServe
  dsimp only
  rw [hlate, if_neg (by decide)]
  split
  case h_14 => rfl
  all_goals
    rename_i hservice hop
    rw [hservice, hop] at hundef
    exact absurd hundef (by decide)

/-- Nor does it write NVS. -/
theorem requestWrites_of_undefined {r : Request} (hundef : opDefined r.service r.op = false) (s : State) (sid : Nat) :
    requestWrites s sid r = false := by
  unfold requestWrites
  rw [Bool.and_eq_false_iff]
  right
  split
  case h_6 => rfl
  all_goals
    rename_i hservice hop
    rw [hservice, hop] at hundef
    exact absurd hundef (by decide)

/-- A request of an open session behind no other, that does not wait, is served. -/
theorem mgmtArrive_of_free {s : State} {sid : Nat} {r : Request} (hfree : (sessionOf s sid).any (·.held.isEmpty) = true)
    (hwait : requestWaits s sid r = false) : mgmtArrive sid r s = requestServe sid r s := by
  unfold mgmtArrive
  cases hk : sessionOf s sid with
  | none =>
    rw [hk] at hfree
    cases hfree
  | some k =>
    have hheld : k.held.isEmpty = true := by simpa [hk] using hfree
    dsimp only
    rw [hheld, hwait]
    rfl

theorem isSome_of_free {s : State} {sid : Nat} (hfree : (sessionOf s sid).any (·.held.isEmpty) = true) :
    (sessionOf s sid).isSome = true := by
  cases hk : sessionOf s sid with
  | none =>
    rw [hk] at hfree
    cases hfree
  | some k => rfl

end Sys2Proof.Machine
end

section
/-! SUPPORT. Connections, sessions and packets of the management port: they settle O52. -/

namespace Sys2Proof.Machine

open Claim

/-! Handshakes (R404). -/

/-- A handshake closed with an alert. -/
def alerted (s : State) (conn : Nat) : State :=
  setSec (emit s (.alert conn)) fun c => { c with conns := c.conns.filter (·.conn != conn) }

/-- It is recorded and counted. -/
def failCounted (s : State) (conn : Nat) (alert : Byte) : State :=
  bump (event (alerted s conn) 0x0E 1 1 8 0xFFFF 0 [alert]) SEC_AUTH_FAIL

/-- The failures of the last minute, this one among them. -/
def failNoted (s : State) : State :=
  setSec s fun c => { c with fails := (c.fails.filter fun t => s.now < t + 60000000000) ++ [s.now] }

/-- The port locked out for a minute. -/
def lockedOut (s : State) : State :=
  event (setSec s fun c => { c with lockUntil := s.now + 60000000000 }) 0x0E 2 2 8 0xFFFF 0 []

theorem handshakeFail_eq (s : State) (conn : Nat) (alert : Byte) :
    handshakeFail s conn alert =
      if (failNoted (failCounted s conn alert)).sec.lockUntil == 0 && 32 ≤ (failNoted (failCounted s conn alert)).sec.fails.length then
        lockedOut (failNoted (failCounted s conn alert))
      else failNoted (failCounted s conn alert) := rfl

/-- From `s` to `t` a handshake failed: counted once, its connection gone, and beside what signals only the list of failures and the
lock-out moved. -/
def HandshakeFailed (conn : Nat) (s t : State) : Prop :=
  getReg t SEC_AUTH_FAIL = getReg s SEC_AUTH_FAIL + 1 ∧ t.sec.sessions = s.sec.sessions ∧
    t.sec.conns = s.sec.conns.filter (fun k : Conn => k.conn != conn) ∧ regsQuiet (fun o => o == SEC_AUTH_FAIL) s t ∧
    signalsOnly { s with sec := t.sec } t

theorem signalsOnly_sec {s t : State} (h : signalsOnly s t) : t.sec = s.sec := by
  unfold signalsOnly at h
  rw [h]

theorem failCounted_failed (s : State) (conn : Nat) (alert : Byte) : HandshakeFailed conn s (failCounted s conn alert) := by
  obtain ⟨honly, hregs, -⟩ := event_signals (alerted s conn) (block := 0x0E) (code := 1) (by decide) 1 8 0xFFFF 0 [alert]
  have hsec := signalsOnly_sec honly
  have hfailed : (failCounted s conn alert).sec = (alerted s conn).sec := hsec
  refine ⟨?_, by rw [hfailed]; rfl, by rw [hfailed]; rfl, fun o ho hsig => ?_, ?_⟩
  · rw [failCounted, getReg_bump, if_pos rfl, hregs _ (by decide)]
    rfl
  · rw [failCounted, getReg_bump, if_neg (by simpa using ho), hregs o hsig]
    rfl
  · unfold signalsOnly at honly ⊢
    rw [failCounted, honly]
    rfl

/-- What notes the failure, and what locks the port out, leave a failed handshake so. -/
theorem HandshakeFailed.trans_signals {conn : Nat} {s t u v : State} (h : HandshakeFailed conn s t)
    (hu : u = { t with sec := { u.sec with sessions := t.sec.sessions, conns := t.sec.conns } }) (hv : Signals u v) :
    HandshakeFailed conn s v := by
  obtain ⟨hcount, hsess, hconns, hregs, hleft⟩ := h
  obtain ⟨honly, hquiet, -⟩ := hv
  have hread : ∀ o, getReg u o = getReg t o := fun o => by rw [hu]; rfl
  have hsec := signalsOnly_sec honly
  refine ⟨?_, ?_, ?_, fun o ho hsig => ?_, ?_⟩
  · rw [hquiet _ (by decide), hread, hcount]
  · rw [hsec, ← hsess, hu]
  · rw [hsec, ← hconns, hu]
  · rw [hquiet o hsig, hread, hregs o ho hsig]
  · unfold signalsOnly at honly hleft ⊢
    rw [honly, hu, hleft]

theorem handshakeFail_failed (s : State) (conn : Nat) (alert : Byte) : HandshakeFailed conn s (handshakeFail s conn alert) := by
  rw [handshakeFail_eq]
  have hcounted := failCounted_failed s conn alert
  split
  · exact hcounted.trans_signals (u := setSec (failNoted (failCounted s conn alert)) _) rfl (event_signals _ (by decide) _ _ _ _ _)
  · exact hcounted.trans_signals (u := failNoted (failCounted s conn alert)) rfl (Signals.refl _)

/-- A failure whose alert is left open is one but for the count of free values. -/
theorem handshakeFree_failed (s : State) (conn : Nat) :
    getReg (handshakeFree s conn) SEC_AUTH_FAIL = getReg s SEC_AUTH_FAIL + 1 ∧ (handshakeFree s conn).sec.sessions = s.sec.sessions ∧
      (handshakeFree s conn).sec.conns = s.sec.conns.filter (fun k : Conn => k.conn != conn) ∧
      regsQuiet (fun o => o == SEC_AUTH_FAIL) s (handshakeFree s conn) := by
  obtain ⟨hcount, hsess, hconns, hregs, -⟩ := handshakeFail_failed (draw s).2 conn ((draw s).1.setWidth 8)
  exact ⟨hcount, hsess, hconns, hregs⟩

theorem not_elapsed {s : State} {t0 d : Nat} (h : s.now < t0 + d) : s.elapsed t0 d = false := decide_eq_false (by omega)

theorem elapsed_of_le {s : State} {t0 d : Nat} (h : t0 + d ≤ s.now) : s.elapsed t0 d = true := decide_eq_true h

/-! Packets (R432). -/

/-- The window of a session opens after more than a second: what waited is discarded. -/
theorem windowChange_late {s : State} {n : Nat} {k : Session} (hk : sessionOf s n = some k) (hlate : k.closedAt + 1000000000 ≤ s.now) :
    windowChange s n false =
      dropNotes (setSec s fun c => { c with sessions := c.sessions.map fun j => if j.sid == n then { j with closedAt := 0 } else j }) n := by
  unfold windowChange
  rw [hk]
  dsimp only
  rw [if_neg (by decide), if_pos (by omega)]

/-- The session found after a change of the sessions of one number that keeps the number. -/
theorem find?_map_sid {l : List Session} {n : Nat} {f : Session → Session} (hf : ∀ j, (f j).sid = j.sid) :
    (l.map fun j => if j.sid == n then f j else j).find? (·.sid == n) = (l.find? (·.sid == n)).map f := by
  induction l with
  | nil => rfl
  | cons j l ih =>
    rw [List.map_cons, List.find?_cons, List.find?_cons]
    cases h : j.sid == n
    · simp only [Bool.false_eq_true, if_false, h]
      exact ih
    · simp [hf, h]

/-- Settles O52: a handshake, the end of a session and a packet each change one thing. -/
theorem sessions : Obligations.Sessions := by
  unfold Obligations.Sessions
  refine ⟨fun s hclk hopen hlen => ?_, fun s hclk href => ?_, fun n ca d c s hclk hlife hc ht hca hlen => ?_,
    fun n a c s hclk hc ht => ?_, fun n c s hpow hc ht => ?_, fun s hpow hlock hdue => ?_, fun n k s hpow hk ht hlen => ?_,
    fun n s hpow hk hlen => ?_, fun n v o g s hpow hfree hclear hlen => ?_, fun a s hclk ha => ?_,
    fun w v s hclk hnone hll hv0 hv1 => ?_, fun n k s hclk hk hwin => ?_, fun n k s hclk hk hwin hlate => ?_, fun n s => ?_,
    fun n v o g s hclk hfree hclear hg hundef => ?_⟩
  · refine ⟨_, liveClocked_of_clocked hclk mgmtConnect, ?_⟩
    rw [mgmtConnect, if_neg (by simp [hopen, hlen])]
    exact ⟨rfl, rfl⟩
  · exact ⟨_, liveClocked_of_clocked hclk mgmtConnect, if_pos (by simpa using href)⟩
  · have hmsg : handshakeMessage s n (.authenticated ca d) = sessionOpen s n ca d := by
      unfold handshakeMessage
      rw [hc]
      dsimp only
      rw [not_elapsed ht, lifeOwned, hlife, hca]
      rfl
    refine ⟨_, liveClocked_of_clocked hclk fun s => handshakeMessage s n (.authenticated ca d), ?_⟩
    rw [hmsg, show sessionOpen s n ca d = setSec (setSec s fun c => { c with conns := c.conns.filter (·.conn != n) })
      fun c => { c with sessions := c.sessions ++ [{ sid := n, ca := ca, last := s.now, keyDigest := d }] } from
        if_neg (Nat.not_le.2 hlen)]
    exact ⟨rfl, rfl, rfl⟩
  · have hmsg : handshakeMessage s n (.fails a) = handshakeFail s n a := by
      unfold handshakeMessage
      rw [hc]
      dsimp only
      rw [not_elapsed ht]
      rfl
    refine ⟨_, liveClocked_of_clocked hclk fun s => handshakeMessage s n (.fails a), ?_⟩
    rw [hmsg]
    exact handshakeFail_failed s n a
  · have hmsg : handshakeTimeout s n = handshakeFree s n := by
      unfold handshakeTimeout
      rw [hc]
      exact if_pos (elapsed_of_le ht)
    refine ⟨_, live_of_powered hpow fun s => handshakeTimeout s n, ?_⟩
    rw [hmsg]
    exact handshakeFree_failed s n
  · exact ⟨_, live_of_powered hpow lockoutEnd, if_pos (by simp [hlock, hdue])⟩
  · have hend : sessionIdle s n = sessionEnd s n := by
      unfold sessionIdle
      rw [hk]
      exact if_pos (elapsed_of_le ht)
    refine ⟨_, live_of_powered hpow fun s => sessionIdle s n, ?_⟩
    rw [hend]
    exact ⟨sessionEnd_ended (by rw [hk]; rfl) hlen, out_sessionEnd s n⟩
  · exact ⟨_, live_of_powered hpow fun s => sessionEnd s n, sessionEnd_ended hk hlen, out_sessionEnd s n⟩
  · have hsome := isSome_of_free hfree
    have hwait : requestWaits s n { service := v.toNat, op := o.toNat, tag := g, late := true } = false := by
      simp [requestWaits, requestWrites, hclear]
    refine ⟨_, live_of_powered hpow _, ?_⟩
    rw [mgmtArrive_of_free hfree hwait]
    have hserve : requestServe n { service := v.toNat, op := o.toNat, tag := g, late := true } s =
        sessionEnd (emit s (.mgmt n v.toNat o.toNat 1 g.toNat [])) n := by
      refine (rfl : requestServe _ _ _ = bodyTimeout s n v.toNat o.toNat g).trans ?_
      rw [bodyTimeout, isNone_of_isSome hsome]
      rfl
    rw [hserve]
    exact ⟨sessionEnd_ended (s := emit s (.mgmt n v.toNat o.toNat 1 g.toNat [])) hsome hlen, out_sessionEnd _ _⟩
  · exact ⟨⟨_, liveClocked_of_clocked hclk fun s => mgmtPacket s (.neighbour a), if_pos (List.contains_iff_mem.2 ha)⟩,
      ⟨_, liveClocked_of_clocked hclk fun s => mgmtPacket s (.echo a), if_pos (List.contains_iff_mem.2 ha)⟩⟩
  · have hadv : advertRx s w.toNat v.toNat = { s with sec := { s.sec with globals := [(w.toNat, s.now + v.toNat * 1000000000)] } } := by
      have hll' : ¬ w.toNat / 18014398509481984 = 1018 := hll
      simp [advertRx, hll', hnone, hv0, hv1, tput, tdel, setSec]
    refine ⟨_, liveClocked_of_clocked hclk fun s => mgmtPacket s (.advert w v), ?_, hadv⟩
    show mgmtAddrs (advertRx s w.toNat v.toNat) = _
    rw [hadv]
    show linkLocal :: (List.filter (fun e => e.2 == 0 || decide (s.now < e.2)) [(w.toNat, s.now + v.toNat * 1000000000)]).map _ = _
    simp [Nat.pos_of_ne_zero hv0]
  · refine ⟨_, liveClocked_of_clocked hclk fun s => mgmtPacket s (.window n true), ?_⟩
    show windowChange s n true = _
    unfold windowChange
    rw [hk]
    dsimp only
    rw [hwin]
    rfl
  · refine ⟨_, liveClocked_of_clocked hclk fun s => mgmtPacket s (.window n false), ?_⟩
    show (windowChange s n false).out = _ ∧ (windowChange s n false).evr = _ ∧ (sessionOf (windowChange s n false) n).map _ = _
    rw [windowChange_late hk hlate]
    refine ⟨rfl, rfl, ?_⟩
    have hfind : sessionOf (dropNotes (setSec s fun c =>
        { c with sessions := c.sessions.map fun j => if j.sid == n then { j with closedAt := 0 } else j }) n) n =
          (sessionOf s n).map fun j => { j with closedAt := 0 } := find?_map_sid fun j => rfl
    rw [hfind, hk]
    rfl
  · have hdrop : ∀ m, mgmtPacket s m = s → exec (.mgmtPacketRx m) s = .next s := by
      intro m hm
      show live s (fun s => if s.sys.refPhase == 1 then s else mgmtPacket s m) = _
      cases hpow : s.sys.powered
      · exact live_of_unpowered hpow _
      · rw [live_of_powered hpow, hm, ite_self]
    exact ⟨hdrop _ rfl, hdrop _ rfl⟩
  · have hwait : requestWaits s n { service := v.toNat, op := o.toNat, tag := g } = false := by
      rw [requestWaits, requestWrites_of_undefined (r := { service := v.toNat, op := o.toNat, tag := g }) hundef, Bool.and_false,
        Bool.or_false]
      simpa using hclear
    refine ⟨_, liveClocked_of_clocked hclk fun s =>
      if opDefined v.toNat o.toNat && opOffered s v.toNat o.toNat then s
      else mgmtArrive n { service := v.toNat, op := o.toNat, tag := g } s, ?_⟩
    have hserve : requestServe n { service := v.toNat, op := o.toNat, tag := g } s =
        request s n v.toNat o.toNat g 0 0 fun s => (stUnknown, s) := requestServe_of_undefined rfl hundef n s
    rw [hundef, Bool.false_and, if_neg (by decide), mgmtArrive_of_free hfree hwait, hserve,
      request_of_undefined (isSome_of_free hfree) hg (Nat.zero_le _) hundef]
    exact ⟨rfl, sids_sessionTouched s n, rfl⟩

end Sys2Proof.Machine
end

section
/-! SUPPORT. The services of a management session (R434, R439, R461, R496): they settle O53. -/

namespace Sys2Proof.Machine

open Claim

/-! A request that is served. -/

/-- A request on an open session behind no other, that has a tag, is not too long, meets no clear of its own session, and is
offered. -/
def Asked (s : State) (n v o : Nat) (g : BitVec 32) (b : List Byte) : Prop :=
  clocked s = true ∧ (sessionOf s n).any (·.held.isEmpty) = true ∧ s.evr.clearing ≠ some n ∧ g ≠ 0#32 ∧ b.length ≤ 1048640 ∧
    opOffered s v o = true

theorem Asked.notClearing {s : State} {n v o : Nat} {g : BitVec 32} {b : List Byte} (h : Asked s n v o g b) :
    s.evr.clearing ≠ some n := h.2.2.1

/-- What a service answers, on the session that asked. -/
def answered (n v o : Nat) (g : BitVec 32) (r : Reply × State) : State := emit r.2 (.mgmt n v o r.1.1 g.toNat r.1.2)

theorem request_of_offered {s : State} {n v o : Nat} {g rv : BitVec 32} {b : List Byte} (h : Asked s n v o g b)
    (hdef : opDefined v o = true) (f : State → Reply × State) :
    request s n v o g rv b.length f =
      if rv ≠ 0 then answered n v o g (stBadMessage, sessionTouched s n) else answered n v o g (f (sessionTouched s n)) := by
  obtain ⟨-, hfree, -, htag, hlen, hoff⟩ := h
  have hbad : ¬ ((g == 0 || decide (1048640 < b.length)) = true) := by simpa [htag] using hlen
  have hoff' : opOffered (sessionTouched s n) v o = true := hoff
  unfold sessionTouched at hoff' ⊢
  unfold request
  rw [isNone_of_isSome (isSome_of_free hfree), if_neg (by decide)]
  dsimp only
  rw [if_neg hbad, hdef, hoff', if_neg (by decide)]
  by_cases hrv : rv = 0
  · rw [if_neg (by simpa using hrv), if_neg (by simpa using hrv)]
    rfl
  · rw [if_pos (by simpa using hrv), if_pos hrv]
    rfl

theorem requestWaits_of_reading {s : State} {n : Nat} {r : Request} (hclear : s.evr.clearing ≠ some n)
    (hw : requestWrites s n r = false) : requestWaits s n r = false := by
  rw [requestWaits, hw, Bool.and_false, Bool.or_false]
  simpa using hclear

theorem requestWaits_of_closed {s : State} {n : Nat} {r : Request} (hclear : s.evr.clearing ≠ some n)
    (hlatch : s.sys.latchOpen = false) : requestWaits s n r = false := by
  rw [requestWaits, hlatch, Bool.false_and, Bool.or_false]
  simpa using hclear

/-- A request of a service that does not write NVS. -/
theorem requestWrites_of_reading {s : State} {n : Nat} {r : Request}
    (h : (r.service, r.op) ∈ [(1, 1), (1, 2), (5, 1), (6, 1), (6, 2), (6, 4), (8, 2)]) : requestWrites s n r = false := by
  unfold requestWrites
  rw [Bool.and_eq_false_iff]
  right
  simp only [List.mem_cons, List.not_mem_nil, or_false, Prod.mk.injEq] at h
  rcases h with ⟨h1, h2⟩ | ⟨h1, h2⟩ | ⟨h1, h2⟩ | ⟨h1, h2⟩ | ⟨h1, h2⟩ | ⟨h1, h2⟩ | ⟨h1, h2⟩ <;> rw [h1, h2] <;> rfl

/-- A request that arrives, does not wait, and is a service's own. -/
theorem arrive_served {s : State} {n : Nat} {r : Request} {f : State → Reply × State} (h : Asked s n r.service r.op r.tag r.body)
    (hdef : opDefined r.service r.op = true) (hresv : r.resv = 0) (hwait : requestWaits s n r = false)
    (hserve : requestServe n r s = request s n r.service r.op r.tag r.resv r.body.length f) :
    mgmtArrive n r s = answered n r.service r.op r.tag (f (sessionTouched s n)) := by
  obtain ⟨-, hfree, -⟩ := id h
  rw [mgmtArrive_of_free hfree hwait, hserve, request_of_offered h hdef, if_neg (by simpa using hresv)]

/-- The command of such a request answers what the service makes of it. -/
theorem exec_served {c : Instr} {s : State} {n v o : Nat} {g : BitVec 32} {b : List Byte} {e : Bool} (f : State → Reply × State)
    (h : Asked s n v o g b)
    (hexec : exec c s = liveClocked s (mgmtArrive n { service := v, op := o, tag := g, resv := 0, body := b, nvsErr := e }))
    (hdef : opDefined v o = true)
    (hwait : requestWaits s n { service := v, op := o, tag := g, resv := 0, body := b, nvsErr := e } = false)
    (hserve : requestServe n { service := v, op := o, tag := g, resv := 0, body := b, nvsErr := e } s =
      request s n v o g 0 b.length f) : exec c s = .next (answered n v o g (f (sessionTouched s n))) := by
  rw [hexec, liveClocked_of_clocked h.1]
  exact congrArg _ (arrive_served (r := { service := v, op := o, tag := g, resv := 0, body := b, nvsErr := e }) h hdef rfl hwait hserve)

/-- A request behind another, or during the session's own clear, waits. -/
theorem mgmtArrive_of_waiting {s : State} {n : Nat} {k : Session} {r : Request} (hk : sessionOf s n = some k)
    (hwait : s.evr.clearing = some n ∨ k.held.isEmpty = false) : mgmtArrive n r s = setHeld s n (k.held ++ [r]) := by
  unfold mgmtArrive
  rw [hk]
  refine if_neg ?_
  rcases hwait with hclear | hheld
  · simp [requestWaits, hclear]
  · simp [hheld]

/-! Bytes written one after another. -/

/-- A run of bytes written into a table from an offset on. -/
def bytesWritten (t : Tab Byte) (o : Nat) (bs : List Byte) : Tab Byte :=
  (bs.foldl (fun (a : Tab Byte × Nat) b => (tset 0 a.1 a.2 b, a.2 + 1)) (t, o)).1

theorem tget_bytesWritten (bs : List Byte) (t : Tab Byte) (o a : Nat) :
    tget 0 (bytesWritten t o bs) a = if o ≤ a ∧ a < o + bs.length then bs.getD (a - o) 0 else tget 0 t a := by
  induction bs generalizing t o with
  | nil => exact (if_neg (by simp)).symm
  | cons b bs ih =>
    rw [show bytesWritten t o (b :: bs) = bytesWritten (tset 0 t o b) (o + 1) bs from rfl, ih, List.length_cons]
    by_cases hrun : o + 1 ≤ a ∧ a < o + 1 + bs.length
    · rw [if_pos hrun, if_pos (by omega), show a - o = a - (o + 1) + 1 by omega, List.getD_cons_succ]
    · rw [if_neg hrun, tget_tset]
      by_cases ha : a = o
      · rw [if_pos ha, if_pos (by omega), ha, Nat.sub_self]
        rfl
      · rw [if_neg ha, if_neg (by omega)]

theorem fieldAt_take {m k n : Nat} (h : k + n ≤ m) (bs : List Byte) : fieldAt (bs.take m) k n = fieldAt bs k n := by
  unfold fieldAt
  rw [List.drop_take, List.take_take, Nat.min_eq_left (by omega)]

/-! REG (R434). -/

/-- The body that names one register: its offset and the number 1. -/
def regWord (off : Nat) : List Byte := le 8 off ++ le 4 1

theorem length_regWord (off : Nat) : (regWord off).length = 12 := by
  rw [regWord, List.length_append, length_le, length_le]

theorem fieldAt_regWord {off : Nat} (h : off < 0x4000000) : fieldAt (regWord off) 0 8 = off ∧ fieldAt (regWord off) 8 4 = 1 := by
  constructor
  · rw [regWord, fieldAt_append_left (by rw [length_le]), fieldAt_le]
    exact Nat.mod_eq_of_lt (by omega)
  · rw [regWord, fieldAt_append_right (m := 8) (length_le 8 off) (le 4 1) 0 4]
    decide

theorem offBad_of_offset {off : Nat} (h8 : off % 8 = 0) (h : off < 0x4000000) : offBad off = false := by
  rw [offBad, h8, decide_eq_false (by omega)]
  rfl

theorem sessionPath_sessionTouched (s : State) (n m : Nat) : sessionPath (sessionTouched s n) m = sessionPath s m := by
  have hfind : (sessionTouched s n).sec.sessions.findIdx (·.sid == m) = s.sec.sessions.findIdx (·.sid == m) := by
    show (s.sec.sessions.map _).findIdx _ = _
    rw [List.findIdx_map]
    congr 1
    funext k
    rw [Function.comp_apply]
    split <;> rfl
  rw [sessionPath, sessionPath, hfind]

theorem serve_regRead (n : Nat) (g : BitVec 32) (b : List Byte) (s : State) :
    requestServe n { service := 1, op := 1, tag := g, resv := 0, body := b } s =
      request s n 1 1 g 0 b.length fun u => svcRegRead u n b := rfl

theorem serve_regWrite (n : Nat) (g : BitVec 32) (b : List Byte) (s : State) :
    requestServe n { service := 1, op := 2, tag := g, resv := 0, body := b } s =
      request s n 1 2 g 0 b.length fun u => svcRegWrite u n b := rfl

/-- A read of one register answers what a read on the session's path returns. -/
theorem svcRegRead_one {off : Nat} (h8 : off % 8 = 0) (h : off < 0x4000000) (s : State) (n : Nat) :
    svcRegRead s n (regWord off) =
      ((0, le 8 (readReg s (sessionPath s n) off).1.toNat), (readReg s (sessionPath s n) off).2) := by
  obtain ⟨hoff, hone⟩ := fieldAt_regWord h
  simp [svcRegRead, hoff, hone, length_regWord, regWords, offBad_of_offset h8 h]

/-- The body of a write of one word. -/
def regWriteBody (off : Nat) (w : Word) : List Byte := regWord off ++ le 4 0 ++ le 8 w.toNat

theorem fieldAt_regWriteBody {off : Nat} (h : off < 0x4000000) (w : Word) :
    fieldAt (regWriteBody off w) 0 8 = off ∧ fieldAt (regWriteBody off w) 8 4 = 1 ∧ fieldAt (regWriteBody off w) 12 4 = 0 ∧
      (regWriteBody off w).length = 24 ∧ (regWriteBody off w).drop 16 = le 8 w.toNat := by
  obtain ⟨hoff, hone⟩ := fieldAt_regWord h
  have hlen : (regWord off ++ le 4 0).length = 16 := by rw [List.length_append, length_regWord, length_le]
  have hhead : ∀ k m, k + m ≤ 12 → fieldAt (regWriteBody off w) k m = fieldAt (regWord off) k m := fun k m hkm => by
    rw [regWriteBody, fieldAt_append_left (by omega), fieldAt_append_left (by rw [length_regWord]; exact hkm)]
  refine ⟨(hhead 0 8 (by decide)).trans hoff, (hhead 8 4 (by decide)).trans hone, ?_, ?_, List.drop_left' hlen⟩
  · rw [regWriteBody, fieldAt_append_left (by omega), fieldAt_append_right (m := 12) (length_regWord off) (le 4 0) 0 4]
    decide
  · rw [regWriteBody, List.length_append, hlen, length_le]

theorem fieldAt_le_word (w : Word) : BitVec.ofNat 64 (fieldAt (le 8 w.toNat) 0 8) = w := by
  rw [fieldAt_le, Nat.mod_eq_of_lt (show w.toNat < 256 ^ 8 from w.isLt), BitVec.ofNat_toNat, BitVec.setWidth_eq]

theorem regWrites_one {off : Nat} (h8 : off % 8 = 0) (h : off < 0x4000000) (w : Word) (s : State) (p : Nat) :
    regWrites 1 0 p off (le 8 w.toNat) s =
      if writeReason s p off w = 0 then (none, acceptWrite s p off w none)
      else (some 0, logReject s p off (writeReason s p off w) w) := by
  simp only [regWrites, offBad_of_offset h8 h, fieldAt_le_word, Bool.false_eq_true, if_false]
  split
  · next hr => rw [if_pos hr]
  · next hr => rw [if_neg hr]

/-- A write of one word is a write on the session's path: taken, or rejected and logged. -/
theorem svcRegWrite_one {off : Nat} (h8 : off % 8 = 0) (h : off < 0x4000000) (w : Word) (s : State) (n : Nat) :
    svcRegWrite s n (regWriteBody off w) =
      if writeReason s (sessionPath s n) off w = 0 then (stOK, acceptWrite s (sessionPath s n) off w none)
      else ((3, le 4 0), logReject s (sessionPath s n) off (writeReason s (sessionPath s n) off w) w) := by
  obtain ⟨hoff, hone, hzero, hlen, hdrop⟩ := fieldAt_regWriteBody h w
  have hgood : svcRegWrite s n (regWriteBody off w) =
      match regWrites 1 0 (sessionPath s n) off (le 8 w.toNat) s with
      | (none, s) => (stOK, s)
      | (some i, s) => ((3, le 4 i), s) := by
    simp [svcRegWrite, hoff, hone, hzero, hlen, hdrop] <;> rfl
  rw [hgood, regWrites_one h8 h]
  by_cases hr : writeReason s (sessionPath s n) off w = 0
  · rw [if_pos hr, if_pos hr]
  · rw [if_neg hr, if_neg hr]

/-! IMAGE (R434, R422). -/

theorem verified_cleared (s : State) (k : Nat) : verified (setVerified s k false) k = false := by
  have hlt : fget s PRK_STATUS.VERIFIED < 2 ^ 18 := bits_lt _ _ 18
  have hread : ∀ v, v < 2 ^ 18 → fget (fset s PRK_STATUS.VERIFIED v) PRK_STATUS.VERIFIED = v := fun v hv => by
    rw [fget_fset_same _ _ _ (by decide)]
    exact Nat.mod_eq_of_lt hv
  unfold verified setVerified
  dsimp only
  rw [if_neg (by decide)]
  cases hbit : bit (fget s PRK_STATUS.VERIFIED) k
  · rw [if_neg (by decide), hread _ hlt, hbit]
  · rw [if_pos rfl, hread _ (lt_of_le_of_lt (Nat.sub_le _ _) hlt)]
    have hodd : fget s PRK_STATUS.VERIFIED / 2 ^ k % 2 = 1 := by simpa [bit] using hbit
    have hdiv : (fget s PRK_STATUS.VERIFIED - 2 ^ k) / 2 ^ k = fget s PRK_STATUS.VERIFIED / 2 ^ k - 1 := by
      simpa using Nat.sub_mul_div (fget s PRK_STATUS.VERIFIED) (2 ^ k) 1
    rw [bit, hdiv, beq_eq_false_iff_ne]
    omega

/-- What a STAGE that may write leaves. -/
def imageStaged (s : State) (b : List Byte) : State :=
  slotWrite (stagedSlot s (fieldAt b 0 1)) (fieldAt b 0 1) (fieldAt b 8 8) (fieldAt b 1 1 % 2 == 1) (b.drop 64)

theorem slot_of_stageable {b : List Byte} (h : imageBad (b.take 64) = false) : fieldAt b 0 1 ≤ 17 := by
  by_contra hlt
  have hbad : imageBad (b.take 64) = true := by
    unfold imageBad
    simp only [fieldAt_take (m := 64) (k := 0) (n := 1) (by decide), decide_eq_true (show 17 < fieldAt b 0 1 by omega), Bool.true_or]
  rw [h] at hbad
  cases hbad

theorem length_of_stage {b : List Byte} (h : stageBad b = false) : b.length = 64 + fieldAt b 0x18 4 := by
  unfold stageBad at h
  simpa using (Bool.or_eq_false_iff.1 h).2

theorem svcImageStage_of_good {s : State} {b : List Byte} (hstage : stageBad b = false) (himage : imageBad (b.take 64) = false)
    (hheld : slotHeld s (fieldAt b 0 1) = false) (hmode : s.mode ≠ mDRAINING) :
    svcImageStage s b false = (svc 0 0, imageStaged s b) := by
  have hslot := slot_of_stageable himage
  have hfit : fit (fieldAt b 0x18 4) (b.drop 64) = b.drop 64 := by
    have hlen : (b.drop 64).length = fieldAt b 0x18 4 := by rw [List.length_drop, length_of_stage hstage]; omega
    rw [← hlen]
    exact fit_length _
  have hheld' : slotHeld (stagedSlot s (fieldAt b 0 1)) (fieldAt b 0 1) = false := hheld
  have hmode' : (stagedSlot s (fieldAt b 0 1)).mode = s.mode := mode_setVerified s _ _
  have hfree : (slotHeld (stagedSlot s (fieldAt b 0 1)) (fieldAt b 0 1) || (stagedSlot s (fieldAt b 0 1)).mode == mDRAINING) = false := by
    rw [hheld', hmode', Bool.false_or]
    simpa using hmode
  unfold svcImageStage imageStage
  rw [hstage, if_neg (by decide), himage]
  simp only [fieldAt_take (m := 64) (k := 0) (n := 1) (by decide), fieldAt_take (m := 64) (k := 8) (n := 8) (by decide),
    fieldAt_take (m := 64) (k := 0x18) (n := 4) (by decide), fieldAt_take (m := 64) (k := 1) (n := 1) (by decide), if_pos hslot,
    hfree, hfit, Bool.false_eq_true, if_false]
  rfl

/-- Only the slot written changes, and it holds the bytes. -/
theorem imageStaged_slots (s : State) {b : List Byte} (hstage : stageBad b = false) :
    (∀ j, j ≠ fieldAt b 0 1 → tget [] (imageStaged s b).nvs.slots j = tget [] s.nvs.slots j) ∧
      ∀ a, fieldAt b 8 8 ≤ a → a < fieldAt b 8 8 + fieldAt b 0x18 4 →
        tget 0 (tget [] (imageStaged s b).nvs.slots (fieldAt b 0 1)) a = (b.drop 64).getD (a - fieldAt b 8 8) 0 := by
  let old : Tab Byte := if fieldAt b 1 1 % 2 == 1 then [] else tget [] s.nvs.slots (fieldAt b 0 1)
  have hslots : (imageStaged s b).nvs.slots = tset [] s.nvs.slots (fieldAt b 0 1) (bytesWritten old (fieldAt b 8 8) (b.drop 64)) := rfl
  have hlen : (b.drop 64).length = fieldAt b 0x18 4 := by rw [List.length_drop, length_of_stage hstage]; omega
  refine ⟨fun j hj => by rw [hslots, tget_tset_ne _ _ hj], fun a hlo hhi => ?_⟩
  rw [hslots, tget_tset_same, tget_bytesWritten, if_pos ⟨hlo, by omega⟩]

theorem imageStaged_left (s : State) (b : List Byte) : verified (imageStaged s b) (fieldAt b 0 1) = false ∧
    (imageStaged s b).mode = s.mode ∧ (imageStaged s b).out = s.out ∧ regsBut (fun o => o == PRK_STATUS) s (imageStaged s b) :=
  ⟨verified_cleared s _, mode_setVerified s _ _, rfl, regsBut_fset (own := fun o => o == PRK_STATUS) s PRK_STATUS.VERIFIED (by decide) _⟩

/-! FIRMWARE (R461). -/

/-- A firmware image with a run of bytes written. -/
theorem fwWrite_left (s : State) (i o : Nat) (first : Bool) (bs : List Byte) :
    tget false (fwWrite s i o first bs).nvs.fwVerified i = false ∧
    (∀ a, o ≤ a → a < o + bs.length → tget 0 (tget [] (fwWrite s i o first bs).nvs.fwBytes i) a = bs.getD (a - o) 0) ∧
    o + bs.length ≤ tget 0 (fwWrite s i o first bs).nvs.fwLen i ∧
    (∀ j, j ≠ i → tget [] (fwWrite s i o first bs).nvs.fwBytes j = tget [] s.nvs.fwBytes j) ∧
    fwWrite s i o first bs = { s with nvs := (fwWrite s i o first bs).nvs } := by
  let old : Tab Byte := if first then [] else tget [] s.nvs.fwBytes i
  let len := max (if first then 0 else tget 0 s.nvs.fwLen i) (o + bs.length)
  have hbytes : (fwWrite s i o first bs).nvs.fwBytes = tset [] s.nvs.fwBytes i (bytesWritten old o bs) := rfl
  have hlen : (fwWrite s i o first bs).nvs.fwLen = tset 0 s.nvs.fwLen i len := rfl
  have hver : (fwWrite s i o first bs).nvs.fwVerified = tset false s.nvs.fwVerified i false := rfl
  refine ⟨by rw [hver, tget_tset_same], fun a hlo hhi => ?_, ?_, fun j hj => ?_, rfl⟩
  · rw [hbytes, tget_tset_same, tget_bytesWritten, if_pos ⟨hlo, hhi⟩]
  · rw [hlen, tget_tset_same]
    exact Nat.le_max_right _ _
  · rw [hbytes, tget_tset_ne _ _ hj]

/-! ATTEST (R413). -/

/-- The report begins with MAGIC, FORMAT, the lifecycle and the state, and the serial follows. -/
theorem attestBody_head (s : State) (fw challenge : List Byte) :
    (attestBody s fw challenge).take 8 = le 4 0x54544148 ++ le 2 1 ++ le 1 s.nvs.lifecycle ++ le 1 s.mode ∧
      ((attestBody s fw challenge).drop 8).take 16 = serialBytes := by
  have hhead : (le 4 0x54544148 ++ le 2 1 ++ le 1 s.nvs.lifecycle ++ le 1 s.mode).length = 8 := by
    simp only [List.length_append, length_le]
  have hserial : serialBytes.length = 16 := by
    unfold serialBytes
    rw [List.length_append, length_le, length_le]
  obtain ⟨rest, hrest⟩ : ∃ rest, attestBody s fw challenge =
      (le 4 0x54544148 ++ le 2 1 ++ le 1 s.nvs.lifecycle ++ le 1 s.mode) ++ (serialBytes ++ rest) := by
    apply Exists.intro
    unfold attestBody
    simp only [List.append_assoc]
    rfl
  rw [hrest]
  exact ⟨List.take_left' hhead, by rw [List.drop_left' hhead, List.take_left' hserial]⟩

/-! EVENTS CLEAR (R439). -/

theorem clearStatus_of_last {s : State} {b : List Byte} (hlen : b.length = 8) (hclear : s.evr.clearing = none) :
    clearStatus s b = if (s.nvs.perm.getLast?).any (fun r => r.seq == fieldAt b 0 8) then none else some 5 := by
  unfold clearStatus
  rw [hlen, hclear, if_neg (by decide), if_neg (by decide)]
  cases h : s.nvs.perm.getLast? with
  | none => rfl
  | some r =>
    by_cases hseq : r.seq = fieldAt b 0 8
    · simp [hseq]
    · simp [hseq, Ne.symm hseq]

theorem served_of_asked {s : State} {n v o : Nat} {g : BitVec 32} {b : List Byte} (h : Asked s n v o g b) :
    served s n v o g 0 b.length = true := by
  obtain ⟨-, hfree, -, htag, hlen, hoff⟩ := h
  simp [served, isSome_of_free hfree, htag, hlen, hoff]

/-- What a clear that is accepted leaves. -/
theorem eventsClear_of_last {s : State} {n : Nat} {g : BitVec 32} {b : List Byte} (h : Asked s n 6 3 g b) (hlen : b.length = 8)
    (hclear : s.evr.clearing = none) (hlast : (s.nvs.perm.getLast?).any (fun r => r.seq == fieldAt b 0 8) = true) :
    eventsClear s n g 0 b = setEvr (sessionTouched s n) fun e =>
      { e with clearing := some n, clearTag := g.toNat, clearDigest := ((sessionOf s n).map (·.keyDigest)).getD [] } := by
  refine if_pos ?_
  rw [clearBegins, served_of_asked h, clearStatus_of_last hlen hclear, if_pos hlast]
  rfl

/-- Settles O53: each service is a function of the state with the session marked active, and what it answers goes out. -/
theorem services : Obligations.Services := by
  unfold Obligations.Services
  refine ⟨fun n g off s h h8 hoff => ?_, fun n g off w s h h8 hoff hr => ?_, fun n g off w s h h8 hoff hr => ?_,
    fun n g b s h hlatch hstage himage hheld hmode => ?_, fun n g b s h hlen hrec => ?_, fun n g b s h hlen h1 hmax hfrom => ?_,
    fun n g b s h hlen h1 hmax hfrom => ?_, fun n g b s h hlen => ?_, fun n g b s h hlen hclear hlatch hlast => ?_,
    fun n g b s h hlen hclear hlast => ?_, fun n g rv b s h hrv => ?_, fun n g rv b s hclk hopen hwait => ?_,
    fun n g b s h hlen => ?_, fun n g b s h hlatch hbad hcode => ?_, fun n g s h => ?_,
    fun n g b s h hlatch hlen hi hver hfloor => ?_⟩
  · refine ⟨_, exec_served (e := false) (fun u => svcRegRead u n (regWord off)) h rfl rfl
      (requestWaits_of_reading (Asked.notClearing h) (requestWrites_of_reading (by simp))) (serve_regRead _ _ _ _), ?_⟩
    rw [svcRegRead_one h8 hoff, sessionPath_sessionTouched]
    rfl
  · refine ⟨_, exec_served (e := false) (fun u => svcRegWrite u n (regWriteBody off w)) h rfl rfl
      (requestWaits_of_reading (Asked.notClearing h) (requestWrites_of_reading (by simp))) (serve_regWrite _ _ _ _), ?_⟩
    change writeReason (sessionTouched s n) (sessionPath s n) off w = 0 at hr
    rw [svcRegWrite_one h8 hoff, sessionPath_sessionTouched, if_pos hr]
    rfl
  · refine ⟨_, exec_served (e := false) (fun u => svcRegWrite u n (regWriteBody off w)) h rfl rfl
      (requestWaits_of_reading (Asked.notClearing h) (requestWrites_of_reading (by simp))) (serve_regWrite _ _ _ _), ?_⟩
    change writeReason (sessionTouched s n) (sessionPath s n) off w ≠ 0 at hr
    rw [svcRegWrite_one h8 hoff, sessionPath_sessionTouched, if_neg hr]
    have honly := logReject_regsOnly (sessionTouched s n) (sessionPath s n) off
      (writeReason (sessionTouched s n) (sessionPath s n) off w) w
    refine ⟨getReg_logReject_cnt (sessionTouched s n) _ _ _ _, logReject_regsBut (sessionTouched s n) _ _ _ _, ?_⟩
    unfold regsOnly at honly
    unfold answered
    dsimp only
    rw [honly]
    rfl
  · refine ⟨_, exec_served (e := false) (fun u => svcImageStage u b false) h rfl rfl
      (requestWaits_of_closed (Asked.notClearing h) hlatch) rfl, ?_⟩
    rw [svcImageStage_of_good (s := sessionTouched s n) hstage himage hheld hmode]
    obtain ⟨hother, hbytes⟩ := imageStaged_slots (sessionTouched s n) hstage
    obtain ⟨hver, hkept, hout, hregs⟩ := imageStaged_left (sessionTouched s n) b
    exact ⟨hother, hver, hkept, hbytes, congrArg (List.cons _) hout, hregs⟩
  · refine ⟨_, exec_served (e := false) (fun u => svcAttest u b) h rfl rfl
      (requestWaits_of_reading (Asked.notClearing h) (requestWrites_of_reading (by simp))) rfl, (attestBody_head s _ b).1, (attestBody_head s _ b).2, ?_⟩
    have hrec' : inRecovery (sessionTouched s n) = false := hrec
    unfold svcAttest fwDigest
    rw [hlen, hrec', if_neg (by decide), if_neg (by decide)]
    rfl
  · refine ⟨_, exec_served (e := false) (fun u => svcEventsRead u b) h rfl rfl
      (requestWaits_of_reading (Asked.notClearing h) (requestWrites_of_reading (by simp))) rfl, ?_⟩
    have hfrom' : ¬ fieldAt b 0 8 < evrFirst (sessionTouched s n) := Nat.not_lt.2 hfrom
    unfold svcEventsRead
    rw [if_neg (by simp; omega), if_neg hfrom']
    rfl
  · refine ⟨_, exec_served (e := false) (fun u => svcEventsRead u b) h rfl rfl
      (requestWaits_of_reading (Asked.notClearing h) (requestWrites_of_reading (by simp))) rfl, ?_⟩
    have hfrom' : fieldAt b 0 8 < evrFirst (sessionTouched s n) := hfrom
    unfold svcEventsRead
    rw [if_neg (by simp; omega), if_pos hfrom']
    rfl
  · refine ⟨_, exec_served (e := false) (fun u => svcEventsPerm u b) h rfl rfl
      (requestWaits_of_reading (Asked.notClearing h) (requestWrites_of_reading (by simp))) rfl, ?_⟩
    unfold svcEventsPerm
    rw [if_neg (by simp [hlen])]
    rfl
  · refine ⟨_, liveClocked_of_clocked h.1 _, ?_⟩
    rw [mgmtArrive_of_free h.2.1 (requestWaits_of_closed (Asked.notClearing h) hlatch)]
    exact eventsClear_of_last h hlen hclear hlast
  · have hstatus : clearStatus s b = some 5 := by rw [clearStatus_of_last hlen hclear, hlast]; rfl
    have hwrites : requestWrites s n { service := 6, op := 3, tag := g, resv := 0, body := b } = false := by
      unfold requestWrites
      dsimp only
      rw [hstatus]
      exact Bool.and_false _
    refine ⟨_, exec_served (e := false) (fun u => (((clearStatus u b).getD 0, []), u)) h rfl rfl
      (requestWaits_of_reading (Asked.notClearing h) hwrites) ?_, ?_⟩
    · exact if_neg (by simp [clearBegins, hstatus])
    · rw [show clearStatus (sessionTouched s n) b = some 5 from hstatus]
      rfl
  · refine ⟨_, liveClocked_of_clocked h.1 _, ?_⟩
    rw [mgmtArrive_of_free h.2.1 (requestWaits_of_reading (Asked.notClearing h) (requestWrites_of_reading (by simp)))]
    exact (request_of_offered h rfl fun u => svcSubscribe u n b).trans (if_pos hrv)
  · obtain ⟨k, hk⟩ := Option.isSome_iff_exists.1 hopen
    refine ⟨_, liveClocked_of_clocked hclk _, ?_⟩
    rw [mgmtArrive_of_waiting hk (hwait.imp id (by rw [hk]; exact id))]
    refine ⟨?_, rfl⟩
    have hfind : sessionOf (setHeld s n (k.held ++ [{ service := 6, op := 4, tag := g, resv := rv, body := b }])) n =
        (sessionOf s n).map fun j => { j with held := k.held ++ [{ service := 6, op := 4, tag := g, resv := rv, body := b }] } :=
      find?_map_sid fun j => rfl
    rw [hfind, hk]
    rfl
  · refine ⟨_, exec_served (e := false) (fun u => svcSubscribe u n b) h rfl rfl
      (requestWaits_of_reading (Asked.notClearing h) (requestWrites_of_reading (by simp))) rfl, ?_⟩
    unfold svcSubscribe
    rw [if_neg (by simp [hlen])]
    refine ⟨?_, rfl⟩
    show (s.sec.sessions.map _).map _ = _
    rw [List.map_map]
    refine List.map_congr_left fun k _ => ?_
    rw [Function.comp_apply]
    by_cases hk : (k.sid == n) = true
    · rw [if_pos hk, if_pos hk, if_pos hk]
    · rw [if_neg hk, if_neg hk, if_neg hk]
  · refine ⟨_, exec_served (e := false) (fun u => svcFwStage u b false) h rfl rfl
      (requestWaits_of_closed (Asked.notClearing h) hlatch) rfl, ?_⟩
    have hcode' : fwStageCode (sessionTouched s n) b false = 0 := hcode
    have hserve : svcFwStage (sessionTouched s n) b false = (fwReply 0,
        fwWrite (sessionTouched s n) (fieldAt b 0 1) (fieldAt b 8 8) (fieldAt b 1 1 == 1) (b.drop 16)) := by
      unfold svcFwStage
      rw [hbad, hcode']
      rfl
    rw [hserve]
    obtain ⟨hver, hbytes, hlen, hother, hleft⟩ :=
      fwWrite_left (sessionTouched s n) (fieldAt b 0 1) (fieldAt b 8 8) (fieldAt b 1 1 == 1) (b.drop 16)
    rw [List.length_drop] at hbytes hlen
    refine ⟨hver, fun a hlo hhi => (hbytes a hlo hhi).trans ?_, hlen, hother, ?_⟩
    · rw [List.getD_eq_getElem?_getD, List.getD_eq_getElem?_getD, List.getElem?_drop]
      congr 2
      omega
    · exact congrArg (fun u => emit u (.mgmt n 8 1 0 g.toNat [])) hleft
  · exact ⟨_, exec_served (e := false) (fun u => svcFwStatus u []) h rfl rfl
      (requestWaits_of_reading (Asked.notClearing h) (requestWrites_of_reading (by simp))) rfl, rfl⟩
  · refine ⟨_, exec_served (e := false) (fun u => svcFwSelect u b) h rfl rfl
      (requestWaits_of_closed (Asked.notClearing h) hlatch) rfl, ?_⟩
    have hcode : fwSelectCode (sessionTouched s n) (fieldAt b 0 1) = 0 := by
      have hver' : tget false (sessionTouched s n).nvs.fwVerified (fieldAt b 0 1) = true := hver
      have hfloor' : ¬ (tget 0 (sessionTouched s n).nvs.fwVer (fieldAt b 0 1)).toNat < (sessionTouched s n).nvs.fwFloor.toNat :=
        Nat.not_lt.2 hfloor
      unfold fwSelectCode
      rw [if_neg (by omega), hver', Bool.true_or, if_neg (by decide), if_neg hfloor']
    have hserve : svcFwSelect (sessionTouched s n) b = (fwReply 0, setNvs (sessionTouched s n) fun v =>
        { v with fwVerified := tset false v.fwVerified (fieldAt b 0 1) true, fwNext := fieldAt b 0 1 }) := by
      unfold svcFwSelect
      rw [if_neg (by simp [hlen]), hcode]
      rfl
    rw [hserve]
    exact ⟨rfl, tget_tset_same false s.nvs.fwVerified _ true, rfl, rfl⟩

end Sys2Proof.Machine
end

section
/-! SUPPORT. Bobbins by number: what a change of one leaves. -/

namespace Sys2Proof.Machine

open Claim

@[simp] theorem bob_setBobbin_same (s : State) (n : Nat) (f : Bobbin → Bobbin) : bob (setBobbin s n f) n = f (bob s n) := by
  show tget {} (tset {} s.bob.bobs n (f (tget {} s.bob.bobs n))) n = _
  exact tget_tset_same _ _ _ _

theorem bob_setBobbin_ne (s : State) {n m : Nat} (h : m ≠ n) (f : Bobbin → Bobbin) : bob (setBobbin s n f) m = bob s m := by
  show tget {} (tset {} s.bob.bobs n (f (tget {} s.bob.bobs n))) m = _
  exact tget_tset_ne _ _ h _

end Sys2Proof.Machine
end

section
/-! SUPPORT. The timebase (R343 to R359): it settles O46. -/

namespace Sys2Proof.Machine

open Claim

/-! What steps of the timebase, and what acts with them, leave. -/

/-- Registers of the module's own control and of the timebase: no trigger, gate or event writes them. -/
def tbKept (o : Nat) : Bool := decide (o < 0x100000) || (decide (0x300000 ≤ o) && decide (o < 0x301000))

theorem tbKept_iff {o : Nat} : tbKept o = true ↔ o < 0x100000 ∨ (0x300000 ≤ o ∧ o < 0x301000) := by simp [tbKept]

/-- From `s` to `t` neither the clocks nor what the timebase and the self-tests hold moved. -/
def TbKept (s t : State) : Prop :=
  t.tb = s.tb ∧ t.mono = s.mono ∧ t.time = s.time ∧ t.test = s.test ∧ ∀ o, tbKept o = true → getReg t o = getReg s o

theorem TbKept.refl (s : State) : TbKept s s := ⟨rfl, rfl, rfl, rfl, fun _ _ => rfl⟩

theorem TbKept.trans {s t u : State} (h : TbKept s t) (k : TbKept t u) : TbKept s u := by
  obtain ⟨h1, h2, h3, h4, h5⟩ := h
  obtain ⟨k1, k2, k3, k4, k5⟩ := k
  exact ⟨k1.trans h1, k2.trans h2, k3.trans h3, k4.trans h4, fun o ho => (k5 o ho).trans (h5 o ho)⟩

theorem TbKept.setReg (s : State) {o : Nat} (h : tbKept o = false) (v : Word) : TbKept s (setReg s o v) :=
  ⟨rfl, rfl, rfl, rfl, fun o' ho => getReg_setReg_ne s (by rintro rfl; simp [h] at ho) v⟩

theorem TbKept.fset (s : State) (f : Fld) (h : tbKept f.off = false) (v : Nat) : TbKept s (fset s f v) := TbKept.setReg s h _

theorem TbKept.of_signals {s t : State} (h : Signals s t) : TbKept s t := by
  obtain ⟨honly, hregs, -⟩ := h
  unfold signalsOnly at honly
  refine ⟨by rw [honly], by rw [honly], by rw [honly], by rw [honly], fun o ho => hregs o ?_⟩
  rw [tbKept_iff] at ho
  unfold signalReg inSrc EVR_LOST IC_MERGED
  simp only [Bool.or_eq_false_iff, Bool.and_eq_false_iff, decide_eq_false_iff_not, beq_eq_false_iff_ne]
  omega

theorem TbKept.ite {c : Prop} [Decidable c] {s a b : State} (ha : TbKept s a) (hb : TbKept s b) : TbKept s (if c then a else b) := by
  split <;> assumption

theorem TbKept.forEach {β : Type} {l : List β} {f : State → β → State} (hf : ∀ s, ∀ a ∈ l, TbKept s (f s a)) (s : State) :
    TbKept s (forEach l s f) :=
  forEach_keeps (P := TbKept s) (fun u a ha h => h.trans (hf u a ha)) (TbKept.refl s)

theorem tbKept_of_ge {o : Nat} (h : 0x301000 ≤ o) : tbKept o = false := by
  rw [Bool.eq_false_iff, Ne, tbKept_iff]
  omega

/-! Triggers. -/

theorem ctxBump_kept (s : State) (x i n : Nat) : TbKept s (ctxBump s x i n) := by
  unfold ctxBump
  exact TbKept.ite (TbKept.setReg s (o := PMC_CTXPAGE x i) (tbKept_of_ge (by unfold PMC_CTXPAGE; omega)) _) (TbKept.refl s)

theorem flitDrop_kept (s : State) (r : Nat) : TbKept s (flitDrop s r) := by
  unfold flitDrop flitDrops
  refine TbKept.ite ?_ (TbKept.refl s)
  have hcount : TbKept s (bumpBy s (BOB_TOK_DROP r) 1) := TbKept.setReg s (tbKept_of_ge (by unfold BOB_TOK_DROP; omega)) _
  exact hcount.trans (ctxBump_kept _ _ _ _)

theorem trigToken_kept (s : State) (k : Nat) : TbKept s (trigToken s k) := by
  unfold trigToken
  dsimp only
  split
  · exact flitDrop_kept s _
  · exact TbKept.ite (flitDrop_kept s _) ⟨rfl, rfl, rfl, rfl, fun _ _ => rfl⟩

theorem trigReg_kept (k : Nat) : tbKept (TB_TRIG_C k) = false := tbKept_of_ge (by unfold TB_TRIG_C; omega)

/-- The trigger's own register as its firing leaves it. -/
def trigFired (s : State) (k : Nat) : State :=
  let s := fset (fset s (TB_TRIG_C.ARMED k) 0) (TB_TRIG_C.FIRED k) 1
  if tget false s.time.trigDue k then fset s (TB_TRIG_C.LATE k) 1 else s

theorem trigAct_eq (s : State) (k : Nat) :
    trigAct s k = if fget (trigFired s k) (TB_TRIG_C.ACTION k) == 0 then ring (trigFired s k) (80 + k) else trigToken (trigFired s k) k :=
  rfl

theorem trigFired_kept (s : State) (k : Nat) : TbKept s (trigFired s k) := by
  have hset : ∀ (u : State) (f : Fld) v, f.off = TB_TRIG_C k → TbKept u (fset u f v) :=
    fun u f v hf => TbKept.fset u f (by rw [hf]; exact trigReg_kept k) v
  have hfirst := (hset s (TB_TRIG_C.ARMED k) 0 rfl).trans (hset _ (TB_TRIG_C.FIRED k) 1 rfl)
  unfold trigFired
  exact TbKept.ite (hfirst.trans (hset _ (TB_TRIG_C.LATE k) 1 rfl)) hfirst

theorem trigAct_kept (s : State) {k : Nat} (h : k < 64) : TbKept s (trigAct s k) := by
  rw [trigAct_eq]
  exact (trigFired_kept s k).trans (TbKept.ite (TbKept.of_signals (ring_signals _ (by omega))) (trigToken_kept _ k))

/-- A trigger in the order is one whose time is reached. -/
theorem mem_trigOrder {s : State} {k : Nat} (h : k ∈ trigOrder s) : k < 64 ∧ trigReady s k = true := by
  have hins : ∀ (key : Nat → Nat) (l acc : List Nat),
      (∀ j ∈ l.foldl (fun l j => (l.filter fun i => key i < key j) ++ [j] ++ l.filter fun i => key j < key i) acc, j ∈ l ∨ j ∈ acc) := by
    intro key l
    induction l with
    | nil => exact fun acc j hj => .inr hj
    | cons a l ih =>
      intro acc j hj
      rcases ih _ j hj with hl | hacc
      · exact .inl (List.mem_cons_of_mem a hl)
      · rw [List.mem_append, List.mem_append, List.mem_filter, List.mem_filter, List.mem_singleton] at hacc
        rcases hacc with (⟨hm, -⟩ | rfl) | ⟨hm, -⟩
        · exact .inr hm
        · exact .inl List.mem_cons_self
        · exact .inr hm
  rcases hins _ _ _ k h with hm | hm
  · obtain ⟨hk, hready⟩ := List.mem_filter.1 hm
    exact ⟨List.mem_range.1 hk, hready⟩
  · cases hm

theorem trigAll_kept (s : State) : TbKept s (trigAll s) :=
  TbKept.forEach (fun u _ hk => trigAct_kept u (mem_trigOrder hk).1) s

/-! Steps and sets (R352, R356). -/

theorem gateSwitch_kept (s : State) (L : Nat) : TbKept s (gateSwitch s L) := by
  have hreg : tbKept (PRT_GATE_STAT L) = false := tbKept_of_ge (by unfold PRT_GATE_STAT portPage; omega)
  have hgate : ∀ u f, TbKept u (setGate u L f) := fun u f => ⟨rfl, rfl, rfl, rfl, fun _ _ => rfl⟩
  have hset : ∀ (u : State) (f : Fld) v, f.off = PRT_GATE_STAT L → TbKept u (fset u f v) :=
    fun u f v hf => TbKept.fset u f (by rw [hf]; exact hreg) v
  unfold gateSwitch
  refine TbKept.ite ?_ (TbKept.refl s)
  exact ((((hgate s _).trans (hset _ _ _ rfl)).trans (hset _ _ _ rfl)).trans (hset _ _ _ rfl)).trans (hset _ _ _ rfl)

theorem gateEnter_kept (s : State) (L : Nat) : TbKept s (gateEnter s L) := by
  have hreg : tbKept (PRT_GATE_STAT L) = false := tbKept_of_ge (by unfold PRT_GATE_STAT portPage; omega)
  have hgate : ∀ u f, TbKept u (setGate u L f) := fun u f => ⟨rfl, rfl, rfl, rfl, fun _ _ => rfl⟩
  unfold gateEnter
  exact TbKept.ite (TbKept.refl s) ((hgate s _).trans (TbKept.fset _ (PRT_GATE_STAT.ENTRY L) hreg _))

/-- The timebase with its new value. -/
def tbMoved (s : State) (new : Int) : State := { s with tb := (new % tbMod).toNat }

/-- What the step leaves of the state it met: STEPPED set, the event recorded and the interrupt source rung. -/
def tbStepped (s : State) (step : Int) : State :=
  ring (event (fset s TB_STAT.STEPPED 1) 0x0C 1 1 8 0xFFFF 0 (le 8 (ofInt 64 step))) 6

/-- A step back forgets the slots matched. -/
def slotsForgotten (s : State) (step : Int) : State := if step < 0 then setByp s fun b => { b with matched := [], granted := [] } else s

theorem tbJump_eq (s : State) (new : Int) :
    let u := trigAll s
    let step := (new - u.tb) / 65536
    let v := slotsForgotten (tbStepped (tbMoved u new) step) step
    tbJump s new = trigAll (forEach (v.tm.gates.map (·.1)) v fun s L => gateEnter (gateSwitch s L) L) := rfl

/-- After a step or a set the timebase holds the new value and STEPPED is set; of the registers of the timebase no other moved, nor
did the servo's state. -/
theorem tbJump_spec (s : State) (new : Int) :
    (tbJump s new).tb = (new % tbMod).toNat ∧ (tbJump s new).mono = s.mono ∧ (tbJump s new).time = s.time ∧
      (tbJump s new).test = s.test ∧ (∀ o, tbKept o = true → o ≠ TB_STAT → getReg (tbJump s new) o = getReg s o) ∧
      fbit (tbJump s new) TB_STAT.STEPPED = true ∧ fget (tbJump s new) TB_STAT.SERVO = fget s TB_STAT.SERVO := by
  obtain ⟨-, hmono, htime, htest, hregs⟩ := trigAll_kept s
  rw [tbJump_eq]
  generalize (new - (trigAll s).tb) / 65536 = step
  have hmoved : TbKept (fset (tbMoved (trigAll s) new) TB_STAT.STEPPED 1) (slotsForgotten (tbStepped (tbMoved (trigAll s) new) step) step) := by
    refine TbKept.trans (t := tbStepped (tbMoved (trigAll s) new) step) ?_ ?_
    · exact TbKept.of_signals ((event_signals _ (by decide) _ _ _ _ _).trans (ring_signals _ (by decide)))
    · exact TbKept.ite ⟨rfl, rfl, rfl, rfl, fun _ _ => rfl⟩ (TbKept.refl _)
  generalize slotsForgotten (tbStepped (tbMoved (trigAll s) new) step) step = v at hmoved ⊢
  have hacts := hmoved.trans ((TbKept.forEach (l := v.tm.gates.map (·.1))
    (fun u L _ => (gateSwitch_kept u L).trans (gateEnter_kept _ L)) v).trans (trigAll_kept _))
  generalize trigAll (forEach (v.tm.gates.map (·.1)) v fun s L => gateEnter (gateSwitch s L) L) = t at hacts ⊢
  obtain ⟨jtb, jmono, jtime, jtest, jregs⟩ := hacts
  have hfield : ∀ f : Fld, f.off = TB_STAT → fget t f = fget (fset (tbMoved (trigAll s) new) TB_STAT.STEPPED 1) f :=
    fun f hf => fget_of_getReg_eq (by rw [hf]; exact jregs _ (by decide))
  refine ⟨jtb, jmono.trans hmono, jtime.trans htime, jtest.trans htest, fun o ho hne => ?_, ?_, ?_⟩
  · rw [jregs o ho, getReg_fset_ne _ hne, ← hregs o ho]
    rfl
  · rw [fbit, hfield TB_STAT.STEPPED rfl, fget_fset_same _ _ _ (by decide)]
    rfl
  · rw [hfield TB_STAT.SERVO rfl, fget_fset_ne _ _ _ _ (by decide), ← fget_of_getReg_eq (f := TB_STAT.SERVO) (hregs _ (by decide))]
    rfl

/-! The servo (R352 to R354). -/

/-- What an entry of the servo into another state leaves. -/
theorem servoTo_spec (s : State) {st : Nat} (h : st < 8) :
    fget (servoTo s st) TB_STAT.SERVO = st ∧ fbit (servoTo s st) TB_STAT.STEPPED = fbit s TB_STAT.STEPPED ∧
      regsQuiet (fun o => o == TB_STAT) s (servoTo s st) ∧ signalsOnly s (servoTo s st) := by
  unfold servoTo
  by_cases hsame : fget s TB_STAT.SERVO = st
  · rw [if_pos (beq_iff_eq.2 hsame)]
    exact ⟨hsame, rfl, fun _ _ _ => rfl, rfl⟩
  · rw [if_neg fun hb => hsame (beq_iff_eq.1 hb)]
    have hsig : Signals (fset s TB_STAT.SERVO st)
        (if st == svLOCKED || st == svHOLDOVER then event (ring (fset s TB_STAT.SERVO st) 6) 0x0C 2 0 8 0xFFFF 0 (le 1 st)
         else ring (fset s TB_STAT.SERVO st) 6) :=
      (ring_signals _ (by decide)).trans (Signals.ite (event_signals _ (by decide) _ _ _ _ _) (Signals.refl _))
    have hfield : ∀ f : Fld, f.off = TB_STAT → fget _ f = fget (fset s TB_STAT.SERVO st) f :=
      fun f hf => fget_of_signals hsig (by rw [hf]; decide)
    refine ⟨?_, ?_, fun o ho hs => (hsig.2.1 o hs).trans (getReg_fset_ne s (beq_eq_false_iff_ne.1 ho) _), ?_⟩
    · exact (hfield TB_STAT.SERVO rfl).trans ((fget_fset_same _ _ _ (by decide)).trans (Nat.mod_eq_of_lt h))
    · exact congrArg (· == 1) ((hfield TB_STAT.STEPPED rfl).trans (fget_fset_ne _ _ _ _ (by decide)))
    · have honly := hsig.1
      unfold signalsOnly at honly ⊢
      rw [honly]
      rfl

/-- From `s` to `t` the servo was judged: the timebase, its integrator and the registers of the timebase but `TB_STAT` stand. -/
def Judged (s t : State) : Prop :=
  t.tb = s.tb ∧ t.time.integ = s.time.integ ∧ t.test = s.test ∧ (∀ o, tbKept o = true → o ≠ TB_STAT → getReg t o = getReg s o) ∧
    fbit t TB_STAT.STEPPED = fbit s TB_STAT.STEPPED

theorem Judged.trans {s t u : State} (h : Judged s t) (k : Judged t u) : Judged s u := by
  obtain ⟨h1, h2, h3, h4, h5⟩ := h
  obtain ⟨k1, k2, k3, k4, k5⟩ := k
  exact ⟨k1.trans h1, k2.trans h2, k3.trans h3, fun o ho hne => (k4 o ho hne).trans (h4 o ho hne), k5.trans h5⟩

theorem Judged.of_kept {s t : State} (h : TbKept s t) : Judged s t := by
  obtain ⟨htb, -, htime, htest, hregs⟩ := h
  exact ⟨htb, by rw [htime], htest, fun o ho _ => hregs o ho,
    congrArg (· == 1) (fget_of_getReg_eq (f := TB_STAT.STEPPED) (hregs _ (by decide)))⟩

theorem signalReg_of_tbKept {o : Nat} (h : tbKept o = true) : signalReg o = false := by
  rw [tbKept_iff] at h
  unfold signalReg inSrc EVR_LOST IC_MERGED
  simp only [Bool.or_eq_false_iff, Bool.and_eq_false_iff, decide_eq_false_iff_not, beq_eq_false_iff_ne]
  omega

theorem servoTo_judged (s : State) {st : Nat} (h : st < 8) : Judged s (servoTo s st) := by
  obtain ⟨-, hstep, hregs, honly⟩ := servoTo_spec s h
  unfold signalsOnly at honly
  exact ⟨by rw [honly], by rw [honly], by rw [honly],
    fun o ho hne => hregs o (beq_eq_false_iff_ne.2 hne) (signalReg_of_tbKept ho), hstep⟩

/-- The count of good samples kept, and the servo's next state. -/
def sampleJudged (s : State) (e : Int) : State :=
  let small := e.natAbs ≤ 100 * 65536
  let s := setTime s fun t => { t with good := if small then t.good + 1 else 0 }
  match fget s TB_STAT.SERVO with
  | 2 => if small then s else servoTo s svLOCKING
  | 1 => if 8 ≤ s.time.good then servoTo s svLOCKED else s
  | _ => servoTo (setTime s fun t => { t with good := if small then 1 else 0 }) svLOCKING

theorem sampleJudged_judged (s : State) (e : Int) : Judged s (sampleJudged s e) := by
  have htime : ∀ (u : State) (f : TimeSt → TimeSt), (f u.time).integ = u.time.integ → Judged u (setTime u f) :=
    fun u f hf => ⟨rfl, hf, rfl, fun _ _ _ => rfl, rfl⟩
  unfold sampleJudged
  dsimp only
  refine (htime s (fun t => { t with good := if e.natAbs ≤ 100 * 65536 then t.good + 1 else 0 }) rfl).trans ?_
  generalize setTime s _ = u
  split
  · split
    · exact ⟨rfl, rfl, rfl, fun _ _ _ => rfl, rfl⟩
    · exact servoTo_judged u (by decide)
  · split
    · exact servoTo_judged u (by decide)
    · exact ⟨rfl, rfl, rfl, fun _ _ _ => rfl, rfl⟩
  · exact (htime u (fun t => { t with good := if e.natAbs ≤ 100 * 65536 then 1 else 0 }) rfl).trans (servoTo_judged _ (by decide))

/-- A sample that is not small unlocks a locked servo. -/
theorem sampleJudged_unlocks {s : State} {e : Int} (hlocked : fget s TB_STAT.SERVO = svLOCKED) (hbig : 100 * 65536 < e.natAbs) :
    fget (sampleJudged s e) TB_STAT.SERVO = svLOCKING := by
  have hst : fget (setTime s fun t => { t with good := if e.natAbs ≤ 100 * 65536 then t.good + 1 else 0 }) TB_STAT.SERVO = 2 := hlocked
  unfold sampleJudged
  dsimp only
  rw [hst]
  exact (congrArg (fun u => fget u TB_STAT.SERVO) (if_neg (Nat.not_le.2 hbig))).trans (servoTo_spec _ (by decide)).1

/-- A sample that steps. -/
def sampleStep (s : State) (e : Int) : State :=
  tbJump (setTime s fun t => { t with integ := 0, refused := false }) ((s.tb : Int) - e * 65536)

/-- The integrator's next value. -/
def sampleInteg (s : State) (e : Int) : Int × State :=
  let r := openRound s (fget s TB_GAIN.KI * e)
  (clampRate (s.time.integ + r.1), r.2)

/-- A sample that does not. -/
def sampleSteer (s : State) (e : Int) (big : Bool) : State :=
  let s := if big && !s.time.refused then event s 0x0C 3 1 8 0xFFFF 0 (le 8 (ofInt 64 e)) else s
  let s := setTime s fun t => { t with refused := big }
  let i := sampleInteg s e
  let p := openRound i.2 (fget i.2 TB_GAIN.KP * e)
  fset (setTime p.2 fun t => { t with integ := i.1 }) TB_RATE.RATE (ofInt 32 (clampRate (-(p.1 + i.1))))

theorem sample_eq (s : State) (e : Int) :
    sample s e =
      let big := fbit s TB_SERVO.STEP_EN && fget s TB_SERVO.STEP_NS * 65536 ≤ e.natAbs
      let u := setTime s fun t => { t with lastSample := s.now }
      sampleJudged (if big && !slottedNow s then sampleStep u e else sampleSteer u e big) e := rfl

theorem natAbs_clampRate (v : Int) : (clampRate v).natAbs ≤ 858993 := by
  unfold clampRate
  omega

/-- A rate is read back as it was set. -/
theorem sext_ofInt_clampRate (v : Int) : sext 32 (ofInt 32 (clampRate v) % 2 ^ 32) = clampRate v := by
  have h := natAbs_clampRate v
  generalize clampRate v = r at h ⊢
  unfold sext ofInt
  split <;> omega

/-- Steering keeps the timebase, and the integrator and RATE within their bounds. -/
theorem sampleSteer_spec (s : State) (e : Int) (big : Bool) :
    (sampleSteer s e big).tb = s.tb ∧ (sampleSteer s e big).time.integ.natAbs ≤ 858993 ∧
      (sext 32 (fget (sampleSteer s e big) TB_RATE.RATE)).natAbs ≤ 858993 ∧ (sampleSteer s e big).test = s.test ∧
      ∀ o, tbKept o = true → o ≠ TB_RATE → getReg (sampleSteer s e big) o = getReg s o := by
  unfold sampleSteer
  dsimp only
  have hrefused : TbKept s (if big && !s.time.refused then event s 0x0C 3 1 8 0xFFFF 0 (le 8 (ofInt 64 e)) else s) :=
    TbKept.ite (TbKept.of_signals (event_signals _ (by decide) _ _ _ _ _)) (TbKept.refl s)
  generalize (if big && !s.time.refused then event s 0x0C 3 1 8 0xFFFF 0 (le 8 (ofInt 64 e)) else s) = u at hrefused ⊢
  obtain ⟨htb, -, -, htest, hregs⟩ := hrefused
  refine ⟨htb, natAbs_clampRate _, ?_, htest, fun o ho hne => ?_⟩
  · rw [fget_fset_same _ _ _ (by decide)]
    exact (congrArg Int.natAbs (sext_ofInt_clampRate _)).trans_le (natAbs_clampRate _)
  · exact (getReg_fset_ne _ hne _).trans (hregs o ho)

/-- A sample that steps moves the timebase by −e. -/
theorem sampleStep_spec (s : State) (e : Int) :
    (sampleStep s e).tb = (((s.tb : Int) - e * 65536) % tbMod).toNat ∧ (sampleStep s e).time.integ = 0 ∧
      (sampleStep s e).test = s.test ∧ fbit (sampleStep s e) TB_STAT.STEPPED = true ∧
      ∀ o, tbKept o = true → o ≠ TB_STAT → getReg (sampleStep s e) o = getReg s o := by
  obtain ⟨htb, -, htime, htest, hregs, hstep, -⟩ :=
    tbJump_spec (setTime s fun t => { t with integ := 0, refused := false }) ((s.tb : Int) - e * 65536)
  exact ⟨htb, congrArg (fun t : TimeSt => t.integ) htime, htest, hstep, hregs⟩

/-! Samples written (R352). -/

/-- The row of `TB_OFFSET`. -/
def offsetRow : RegDesc := ⟨TB_OFFSET, 8, 1, 0x0, 0xFFFFFFFFFFFFFFFF, 0xFFFFFFFFFFFFFFFF, 0x0, 0x0, 0x0⟩

theorem findReg_offset : findReg TB_OFFSET = some offsetRow := rfl

/-- All of a word written to it is kept. -/
theorem storeFields_offset (old w : Word) : storeFields offsetRow old w = w := by
  rw [storeFields_of_no_w1c rfl, show BitVec.ofNat 64 (offsetRow.rw ||| offsetRow.rwl) = BitVec.allOnes 64 from by decide]
  rw [BitVec.and_allOnes, BitVec.not_allOnes, BitVec.and_zero, BitVec.zero_or]

/-- A sample as the module takes it. -/
def sampled (s : State) (v : Word) : State := setReg (setReg s TB_OFFSET v) TB_LAST v

theorem sampled_regsBut (s : State) (v : Word) : regsBut (fun o => o == TB_LAST || o == TB_OFFSET) s (sampled s v) :=
  (regsBut_setReg (own := fun o => o == TB_LAST || o == TB_OFFSET) s rfl v).trans (regsBut_setReg _ rfl v)

theorem regEffect_offset (old s : State) (p : Nat) (w : Word) (e : Option (List Byte)) :
    regEffect old s p TB_OFFSET w e = tbOffset s := rfl

theorem exec_offsetSample {p : Fin 13} {v : Word} {s : State} (hacc : accepts s p TB_OFFSET v = true) :
    exec (.tbOffsetSample p v) s =
      .next (testSweep (if fbit (sampled s v) TB_SERVO.EN then sample (sampled s v) v.toInt else sampled s v)) := by
  refine (writeWord_of_row hacc findReg_offset).trans ?_
  rw [storeFields_offset, regEffect_offset, tbOffset, getReg_setReg_same]
  have hread : getReg (setReg (setReg s TB_OFFSET v) TB_LAST v) TB_OFFSET = v := by
    rw [getReg_setReg_ne _ (by decide), getReg_setReg_same]
  rw [hread]
  rfl

theorem fget_sampled (s : State) (v : Word) {f : Fld} (h : f.off ≠ TB_LAST ∧ f.off ≠ TB_OFFSET) : fget (sampled s v) f = fget s f := by
  rw [sampled, fget_setReg_ne _ _ h.1, fget_setReg_ne _ _ h.2]

theorem testFree_sampled {s : State} (h : testFree s = true) (v : Word) : testFree (sampled s v) = true := by
  rw [sampled, testFree_setReg _ (by decide), testFree_setReg _ (by decide), h]

/-! Triggers by command (R358). -/

/-- The rows of the triggers' times, and of the triggers. -/
def trigTimeRow : RegDesc := ⟨0x301000, 16, 64, 0x0, 0xFFFFFFFFFFFFFFFF, 0xFFFFFFFFFFFFFFFF, 0x0, 0x0, 0x0⟩

def trigRow : RegDesc := ⟨0x301008, 16, 64, 0x0, 0xE3FFFFFF80000000, 0x83FFFFFF80000000, 0x0, 0x4000000000000000, 0x0⟩

theorem findReg_trig (k : Fin 64) : findReg (TB_TRIG_C k) = some trigRow := by
  have hlo : 0x301008 ≤ TB_TRIG_C k := by unfold TB_TRIG_C; omega
  have hhi : TB_TRIG_C k < 0x301400 := by unfold TB_TRIG_C; omega
  have hcov : trigRow.covers (TB_TRIG_C k) = true := by
    rw [RegDesc.covers, Bool.and_eq_true, Bool.and_eq_true]
    exact ⟨⟨decide_eq_true hlo, beq_iff_eq.2 (show (0x301008 + 16 * k.val - 0x301008) % 16 = 0 by omega)⟩,
      decide_eq_true (show (0x301008 + 16 * k.val - 0x301008) / 16 < 64 by omega)⟩
  have hother : trigTimeRow.covers (TB_TRIG_C k) = false := by
    rw [RegDesc.covers, Bool.and_eq_false_iff, Bool.and_eq_false_iff]
    exact .inl (.inr (beq_eq_false_iff_ne.2 (show (0x301008 + 16 * k.val - 0x301000) % 16 ≠ 0 by omega)))
  rw [findReg, if_neg (by rw [regHole, if_neg (by omega), if_neg (by omega)]; decide), if_neg (by omega), if_neg (by omega),
    find?_covers_filter _ hlo hhi, show globalRegs.filter (RegDesc.meets 0x301008 0x301400) = [trigTimeRow, trigRow] from rfl,
    List.find?_cons, hother, List.find?_cons, hcov]

/-- The bits of its RW fields. -/
def trigMask : Word := BitVec.ofNat 64 (trigRow.rw ||| trigRow.rwl)

/-- A field all of whose bits are RW, and none W1C, reads as written. -/
theorem wget_storeFields_plain {d : RegDesc} (old w : Word) {f : Fld}
    (hf : ∀ i < f.wid, (BitVec.ofNat 64 (d.rw ||| d.rwl)).getLsbD (f.lo + i) = true)
    (hw1c : ∀ i < f.wid, (BitVec.ofNat 64 d.w1c).getLsbD (f.lo + i) = false) : wget (storeFields d old w) f = wget w f := by
  unfold storeFields
  generalize BitVec.ofNat 64 (d.rw ||| d.rwl) = m at hf ⊢
  generalize BitVec.ofNat 64 d.w1c = c at hw1c ⊢
  refine Nat.eq_of_testBit_eq fun i => ?_
  rw [wget, wget, testBit_bits, testBit_bits]
  by_cases hi : i < f.wid
  · have hlt : f.lo + i < 64 := by
      by_contra hge
      have := hf i hi
      rw [BitVec.getLsbD_of_ge _ _ (Nat.not_lt.1 hge)] at this
      cases this
    have hbit : (((old &&& ~~~m) ||| (w &&& m)) &&& ~~~(c &&& w)).getLsbD (f.lo + i) = w.getLsbD (f.lo + i) := by
      rw [BitVec.getLsbD_and, BitVec.getLsbD_or, BitVec.getLsbD_and, BitVec.getLsbD_and, BitVec.getLsbD_not, BitVec.getLsbD_not,
        BitVec.getLsbD_and, hf i hi, hw1c i hi]
      simp [hlt]
    exact congrArg (decide (i < f.wid) && ·) hbit
  · simp [hi]

theorem wget_trig (old w : Word) (k : Nat) :
    wget (storeFields trigRow old w) (TB_TRIG_C.ARMED k) = wget w (TB_TRIG_C.ARMED k) ∧
      wget (storeFields trigRow old w) (TB_TRIG_C.ACTION k) = wget w (TB_TRIG_C.ACTION k) ∧
      wget (storeFields trigRow old w) (TB_TRIG_C.GEN k) = wget w (TB_TRIG_C.GEN k) :=
  ⟨wget_storeFields_plain old w (f := TB_TRIG_C.ARMED k) (show ∀ i < 1, trigMask.getLsbD (63 + i) = true by decide)
      (show ∀ i < 1, (0x4000000000000000 : Word).getLsbD (63 + i) = false by decide),
    wget_storeFields_plain old w (f := TB_TRIG_C.ACTION k) (show ∀ i < 2, trigMask.getLsbD (56 + i) = true by decide)
      (show ∀ i < 2, (0x4000000000000000 : Word).getLsbD (56 + i) = false by decide),
    wget_storeFields_plain old w (f := TB_TRIG_C.GEN k) (show ∀ i < 8, trigMask.getLsbD (48 + i) = true by decide)
      (show ∀ i < 8, (0x4000000000000000 : Word).getLsbD (48 + i) = false by decide)⟩

/-- A write of a trigger's register may arm it. -/
theorem regEffect_trig (old s : State) (p : Nat) (k : Fin 64) (w : Word) (e : Option (List Byte)) :
    regEffect old s p (TB_TRIG_C k) w e = trigArm s k := by
  have hrange : 0x301008 ≤ TB_TRIG_C k ∧ TB_TRIG_C k < 0x301400 := by unfold TB_TRIG_C; omega
  obtain ⟨hlo, hhi⟩ := hrange
  have hne : ∀ c, c < 0x301000 → (TB_TRIG_C k == c) = false := fun c hc => beq_eq_false_iff_ne.2 (by omega)
  have hin : (decide (0x301000 ≤ TB_TRIG_C k) && decide (TB_TRIG_C k < 0x301400) && TB_TRIG_C k % 16 == 8) = true := by
    rw [Bool.and_eq_true, Bool.and_eq_true, decide_eq_true_eq, decide_eq_true_eq, beq_iff_eq]
    unfold TB_TRIG_C
    omega
  have hdiv : (TB_TRIG_C k - 0x301000) / 16 = k := by unfold TB_TRIG_C; omega
  rw [regEffect, if_neg (by omega), if_neg (by omega), if_pos (by omega), tbEffect]
  simp (disch := decide) only [hne, hin, hdiv, Bool.false_eq_true, if_false, if_true]

/-- The trigger's register once armed. -/
def trigArmed (s : State) (k : Nat) (v : Word) : State :=
  let u := setReg s (TB_TRIG_C k) (storeFields trigRow (getReg s (TB_TRIG_C k)) v)
  fset (setTime u fun m => { m with trigAt := tset 0 m.trigAt k (trigTime u k), trigDue := tset false m.trigDue k (trigTime u k ≤ u.tbNs) })
    (TB_TRIG_C.LATE k) 0

theorem trigTime_setReg (s : State) (k : Nat) (v : Word) :
    trigTime (setReg s (TB_TRIG_C k) v) k = nearTime s (fget s (TB_TRIG_T.SEC k)) (fget s (TB_TRIG_T.NS k)) := by
  have hne : TB_TRIG_T k ≠ TB_TRIG_C k := by unfold TB_TRIG_T TB_TRIG_C; omega
  rw [trigTime, fget_setReg_ne _ _ (f := TB_TRIG_T.SEC k) hne, fget_setReg_ne _ _ (f := TB_TRIG_T.NS k) hne]
  rfl

/-- Registers apart it changes what the timebase holds. -/
theorem fset_setTime_only (s : State) (o : Nat) (w : Word) (g : TimeSt → TimeSt) (f : Fld) (v : Nat) :
    fset (setTime (setReg s o w) g) f v = { s with regs := (fset (setTime (setReg s o w) g) f v).regs, time := g s.time } := rfl

theorem getReg_setTime (s : State) (g : TimeSt → TimeSt) (o : Nat) : getReg (setTime s g) o = getReg s o := rfl

/-- What an armed trigger leaves: all but its own register, its time and whether that is past. -/
theorem trigArmed_only (s : State) (k : Nat) (v : Word) :
    trigArmed s k v = { s with
      regs := (trigArmed s k v).regs
      time := { s.time with
        trigAt := tset 0 s.time.trigAt k (nearTime s (fget s (TB_TRIG_T.SEC k)) (fget s (TB_TRIG_T.NS k)))
        trigDue := tset false s.time.trigDue k (decide (nearTime s (fget s (TB_TRIG_T.SEC k)) (fget s (TB_TRIG_T.NS k)) ≤ s.tbNs)) } } := by
  rw [← trigTime_setReg s k (storeFields trigRow (getReg s (TB_TRIG_C k)) v)]
  exact fset_setTime_only s _ _ _ _ _

theorem trigArmed_regsBut (s : State) (k : Nat) (v : Word) : regsBut (fun o => o == TB_TRIG_C k) s (trigArmed s k v) := by
  intro o ho
  have hne : o ≠ TB_TRIG_C k := beq_eq_false_iff_ne.1 ho
  unfold trigArmed
  dsimp only
  rw [getReg_fset_ne _ (f := TB_TRIG_C.LATE k) hne, getReg_setTime, getReg_setReg_ne _ hne]

/-- The fields of an armed trigger but LATE and FIRED are as written. -/
theorem fget_trigArmed (s : State) (k : Nat) (v : Word) {f : Fld} (hf : f.off = TB_TRIG_C k) (hlo : f.lo = 63 ∨ f.lo + f.wid ≤ 61) :
    fget (trigArmed s k v) f = wget (storeFields trigRow (getReg s (TB_TRIG_C k)) v) f := by
  unfold trigArmed
  dsimp only
  rw [fget_fset_ne _ _ _ _ ?_]
  · rw [← hf]
    exact (fget_congr (s := setTime _ _) (t := setReg s f.off (storeFields trigRow (getReg s f.off) v)) rfl f).trans
      (fget_setReg_same s f _)
  · rcases hlo with hlo | hlo
    · exact .inr (.inr (show 61 + 1 ≤ f.lo by omega))
    · exact .inr (.inl (show f.lo + f.wid ≤ 61 from hlo))

theorem testReg_trig (k : Nat) : CTL_TEST_STAT ≠ TB_TRIG_C k := by
  unfold CTL_TEST_STAT TB_TRIG_C
  omega

/-- A trigger that the write leaves armed takes its time. -/
theorem trigArm_of_armed {u : State} {k : Nat} (h : fbit u (TB_TRIG_C.ARMED k) = true) :
    trigArm u k = fset (setTime u fun m =>
      { m with trigAt := tset 0 m.trigAt k (trigTime u k), trigDue := tset false m.trigDue k (trigTime u k ≤ u.tbNs) })
      (TB_TRIG_C.LATE k) 0 := by
  unfold trigArm
  rw [h]
  rfl

/-- A field set in the registers is set in no self-test, nor is a change of what the timebase holds. -/
theorem fset_setTime_test (s : State) (o : Nat) (w : Word) (g : TimeSt → TimeSt) (f : Fld) (v : Nat) :
    (fset (setTime (setReg s o w) g) f v).test = s.test := rfl

theorem testKept_trigArmed (s : State) (k : Nat) (v : Word) :
    getReg (trigArmed s k v) CTL_TEST_STAT = getReg s CTL_TEST_STAT ∧ (trigArmed s k v).test = s.test := by
  unfold trigArmed
  dsimp only
  refine ⟨?_, fset_setTime_test s _ _ _ _ _⟩
  rw [getReg_fset_ne _ (testReg_trig k), getReg_setTime]
  exact getReg_setReg_ne s (testReg_trig k) _

theorem exec_triggerArm {p : Fin 13} {k : Fin 64} {v : Word} {s : State} (hacc : accepts s p (TB_TRIG_C k) v = true)
    (harm : wbit v (TB_TRIG_C.ARMED k) = true) : exec (.triggerArm p k v) s = .next (trigArmed s k v) := by
  have hset : fbit (setReg s (TB_TRIG_C k) (storeFields trigRow (getReg s (TB_TRIG_C k)) v)) (TB_TRIG_C.ARMED k) = true := by
    rw [fbit, show TB_TRIG_C k = (TB_TRIG_C.ARMED k).off from rfl, fget_setReg_same]
    exact (congrArg (· == 1) (wget_trig _ v k).1).trans harm
  refine (writeWord_of_row hacc (findReg_trig k)).trans ?_
  rw [regEffect_trig, trigArm_of_armed hset]
  obtain ⟨hreg, htest⟩ := testKept_trigArmed s k v
  exact congrArg _ (testSweep_of_kept (testFree_of_accepts hacc) hreg htest)

/-! Firing (R358). -/

/-- Where one number below a bound alone passes a test, the filter leaves it alone. -/
theorem filter_range_of_alone {p : Nat → Bool} {n k : Nat} (hk : k < n) (hp : p k = true) (halone : ∀ j, j < n → j ≠ k → p j = false) :
    (List.range n).filter p = [k] := by
  have hcongr : (List.range n).filter p = (List.range n).filter (· == k) := by
    refine List.filter_congr fun j hj => ?_
    by_cases hjk : j = k
    · rw [hjk, hp, beq_self_eq_true]
    · rw [halone j (List.mem_range.1 hj) hjk, beq_eq_false_iff_ne.2 hjk]
  rw [hcongr, List.filter_beq, List.nodup_range.count, if_pos (List.mem_range.2 hk), List.replicate_one]

/-- Where one trigger alone is ready it alone fires. -/
theorem trigFire_of_alone {s : State} {k : Nat} (hk : k < 64) (hready : trigReady s k = true)
    (halone : ∀ j, j < 64 → j ≠ k → trigReady s j = false) : trigFire s k = trigAct s k := by
  have horder : trigOrder s = [k] := by
    rw [trigOrder, filter_range_of_alone hk hready halone, List.foldl_cons, List.foldl_nil, List.filter_nil, List.filter_nil]
    rfl
  have hbefore : [k].takeWhile (· != k) = [] := by rw [List.takeWhile_cons, bne_self_eq_false]; rfl
  rw [trigFire, if_pos hready, horder, hbefore]
  rfl

theorem trigFired_regs (s : State) (k : Nat) : regsBut (fun o => o == TB_TRIG_C k) s (trigFired s k) ∧ regsOnly s (trigFired s k) := by
  unfold trigFired
  dsimp only
  have hown : (TB_TRIG_C k == TB_TRIG_C k) = true := beq_self_eq_true _
  have hset : ∀ (u : State) (f : Fld) v, f.off = TB_TRIG_C k → regsBut (fun o => o == TB_TRIG_C k) u (fset u f v) :=
    fun u f v hf => regsBut_fset u f (by rw [hf]; exact hown) v
  have hfirst := (hset s (TB_TRIG_C.ARMED k) 0 rfl).trans (hset _ (TB_TRIG_C.FIRED k) 1 rfl)
  constructor
  · split
    · exact hfirst.trans (hset _ (TB_TRIG_C.LATE k) 1 rfl)
    · exact hfirst
  · split <;> rfl

/-- What the trigger's own register then shows. -/
theorem trigFired_shows (s : State) (k : Nat) : fbit (trigFired s k) (TB_TRIG_C.ARMED k) = false ∧
    fbit (trigFired s k) (TB_TRIG_C.FIRED k) = true ∧
    (tget false s.time.trigDue k = true → fbit (trigFired s k) (TB_TRIG_C.LATE k) = true) := by
  have hlate : ∀ (u : State) (f : Fld), f.off = TB_TRIG_C k → f.lo = 63 ∨ f.lo = 62 → f.wid = 1 →
      fbit (if tget false u.time.trigDue k then fset u (TB_TRIG_C.LATE k) 1 else u) f = fbit u f := by
    intro u f hoff hlo hwid
    split
    · rw [fbit, fget_fset_ne _ _ _ _ (.inr (.inr (show 61 + 1 ≤ f.lo by omega))), fbit]
    · rfl
  unfold trigFired
  dsimp only
  refine ⟨?_, ?_, fun hdue => ?_⟩
  · rw [hlate _ _ rfl (.inl rfl) rfl, fbit, fget_fset_ne _ _ _ _ (.inr (.inr (show 62 + 1 ≤ 63 by decide))),
      fget_fset_same _ _ _ (show 63 + 1 ≤ 64 by decide)]
    rfl
  · rw [hlate _ _ rfl (.inr rfl) rfl, fbit, fget_fset_same _ _ _ (show 62 + 1 ≤ 64 by decide)]
    rfl
  · rw [if_pos (show tget false (fset (fset s (TB_TRIG_C.ARMED k) 0) (TB_TRIG_C.FIRED k) 1).time.trigDue k = true from hdue), fbit,
      fget_fset_same _ _ _ (show 61 + 1 ≤ 64 by decide)]
    rfl

/-- Its other fields stand. -/
theorem trigFired_field (s : State) (k : Nat) {f : Fld} (hlo : f.lo + f.wid ≤ 61) :
    fget (trigFired s k) f = fget s f := by
  unfold trigFired
  dsimp only
  split
  · rw [fget_fset_ne _ _ _ _ (.inr (.inl (show f.lo + f.wid ≤ 61 from hlo))),
      fget_fset_ne _ _ _ _ (.inr (.inl (show f.lo + f.wid ≤ 62 by omega))),
      fget_fset_ne _ _ _ _ (.inr (.inl (show f.lo + f.wid ≤ 63 by omega)))]
  · rw [fget_fset_ne _ _ _ _ (.inr (.inl (show f.lo + f.wid ≤ 62 by omega))),
      fget_fset_ne _ _ _ _ (.inr (.inl (show f.lo + f.wid ≤ 63 by omega)))]

/-! Tokens of triggers. -/

/-- The token that a trigger sends its bobbin. -/
def trigFlit (s : State) (k n : Nat) (v : Word) : Flit :=
  let r := fget s (TB_TRIG_C.REGION k)
  let t := tget 0 s.time.trigAt k
  { tok := some { hdr := tokHdr 0 (v.toNat % 256) (v.toNat / 2 ^ 8) (v.toNat / 2 ^ 16) (fget s (TB_TRIG_C.GEN k))
                    (fget s (TB_TRIG_C.QUEUE k)) (v.toNat / 2 ^ 32),
                  w0 := BitVec.ofNat 64 (t / 1000000000 % 2 ^ 32 * 2 ^ 32 + t % 1000000000), w1 := BitVec.ofNat 64 k },
    queue := fget s (TB_TRIG_C.QUEUE k), src := n, srcRgn := r, ctx := regionOwner s r }

theorem trigToken_sent {s : State} {k n : Nat} (hbob : (regionBobs s (fget s (TB_TRIG_C.REGION k)))[fget s (TB_TRIG_C.BOBBIN k)]? = some n)
    (hgen : fget s (TB_TRIG_C.GEN k) = regionGen s (fget s (TB_TRIG_C.REGION k)))
    (hrun : regionState s (fget s (TB_TRIG_C.REGION k)) = rRUNNING) :
    trigToken s k = setBobbin (draw s).2 n fun b => { b with inFlight := b.inFlight ++ [trigFlit s k n (draw s).1] } := by
  unfold trigToken
  dsimp only
  rw [hbob]
  refine (if_neg ?_).trans rfl
  simp [hgen, hrun]

/-! The record of captures (R351). -/

theorem writeOnly_capPop : WriteOnly TB_CAP_POP := ⟨⟨TB_CAP_POP, 8, 1, 0x0, 0x1, 0x0, 0x0, 0x0, 0x1⟩, rfl, rfl, rfl⟩

/-- The oldest record taken off, and the number left shown. -/
def capTaken (s : State) : State := capShow (setTime s fun t => { t with capFifo := t.capFifo.drop 1 })

/-- The record registers then show it. -/
def capPopped (s : State) : State := forRange 6 (capTaken s) fun u k => setReg u (TB_CAP_W k) ((s.time.capFifo.headD []).getD k 0)

/-- Is it a register of the capture record? -/
def capReg (o : Nat) : Bool := o == TB_CAP_STAT || (TB_CAP_W 0 ≤ o && o ≤ TB_CAP_W 5)

theorem capPopped_regsBut (s : State) : regsBut capReg s (capPopped s) := by
  have hshow : regsBut capReg s (capTaken s) := regsBut_fset (own := capReg) (setTime s _) TB_CAP_STAT.COUNT (by decide) _
  refine forRange_keeps (P := regsBut capReg s) (fun u k hk h => h.trans (regsBut_setReg u ?_ _)) hshow
  rw [capReg, Bool.or_eq_true, Bool.and_eq_true, decide_eq_true_eq, decide_eq_true_eq]
  right
  unfold TB_CAP_W
  omega

/-- But for the registers, only the record is gone. -/
theorem capPopped_only (s : State) : regsOnly (setTime s fun t => { t with capFifo := t.capFifo.drop 1 }) (capPopped s) :=
  forRange_keeps (P := regsOnly (setTime s fun t => { t with capFifo := t.capFifo.drop 1 }))
    (fun u _ _ h => h.trans (regsOnly_setReg u _ _)) (regsOnly_fset _ _ _)

theorem capPopped_record (s : State) {k : Nat} (hk : k < 6) :
    getReg (capPopped s) (TB_CAP_W k) = (s.time.capFifo.headD []).getD k 0 := by
  have hfirst : ∀ n, k < n → n ≤ 6 →
      getReg (forRange n (capTaken s) fun u j => setReg u (TB_CAP_W j) ((s.time.capFifo.headD []).getD j 0)) (TB_CAP_W k) =
        (s.time.capFifo.headD []).getD k 0 := by
    intro n
    induction n with
    | zero => exact fun h => absurd h (Nat.not_lt_zero k)
    | succ n ih =>
      intro hkn hn
      rw [forRange_succ]
      rcases eq_or_ne k n with rfl | hne
      · rw [getReg_setReg_same]
      · rw [getReg_setReg_ne _ (by unfold TB_CAP_W; omega)]
        exact ih (by omega) (by omega)
  exact hfirst 6 hk (le_refl 6)

theorem exec_capPop {p : Fin 13} {s : State} (hacc : accepts s p TB_CAP_POP 1 = true) :
    exec (.capPop p) s = .next (capPopped (cmdTaken s TB_CAP_POP)) := by
  refine (writeNum_of_writeOnly (v := 1) hacc writeOnly_capPop).trans ?_
  have heff : regEffect s (cmdTaken s TB_CAP_POP) p TB_CAP_POP (BitVec.ofNat 64 1) none = capPopped (cmdTaken s TB_CAP_POP) := rfl
  rw [heff]
  refine congrArg _ (testSweep_of_kept (testFree_of_accepts hacc) ?_ ?_)
  · exact (capPopped_regsBut _ _ (by decide)).trans (getReg_cmdTaken s _ _)
  · rfl

/-! Sets (R356). -/

/-- The row of `TB_SET_NS`. -/
def setNsRow : RegDesc := ⟨TB_SET_NS, 8, 1, 0x0, 0xFFFFFFFF, 0x0, 0xFFFFFFFF, 0x0, 0x0⟩

theorem findReg_setNs : findReg TB_SET_NS = some setNsRow := rfl

/-- The module with the nanoseconds written. -/
def setNsTaken (s : State) (v : Word) : State := setReg s TB_SET_NS (storeFields setNsRow (getReg s TB_SET_NS) v)

/-- The seconds stand as staged, and the nanoseconds read as written. -/
theorem fget_setNsTaken (s : State) (v : Word) :
    fget (setNsTaken s v) TB_SET_SEC.SEC = fget s TB_SET_SEC.SEC ∧ fget (setNsTaken s v) TB_SET_NS.NS = v.toNat % 2 ^ 32 := by
  refine ⟨fget_setReg_ne s _ (by decide), ?_⟩
  refine (fget_setReg_same s TB_SET_NS.NS _).trans ((wget_storeFields_rw rfl _ v (f := TB_SET_NS.NS) ?_).trans ?_)
  · exact (by decide : ∀ i < 32, (0xFFFFFFFF : Word).getLsbD (0 + i) = true)
  · simp [wget, bits, TB_SET_NS.NS]

theorem signalReg_trig (k : Fin 64) : signalReg (TB_TRIG_C k) = false := by
  unfold signalReg inSrc EVR_LOST IC_MERGED TB_TRIG_C
  simp only [Bool.or_eq_false_iff, Bool.and_eq_false_iff, decide_eq_false_iff_not, beq_eq_false_iff_ne]
  omega

theorem trigger_armed :
    ∀ (p : Fin 13) (k : Fin 64) (v : Word) (s : State), accepts s p (TB_TRIG_C k) v = true → wbit v (TB_TRIG_C.ARMED k) = true →
      answers (.triggerArm p k v) s fun t =>
        let a := tget 0 t.time.trigAt k;
        fbit t (TB_TRIG_C.ARMED k) = true ∧ fbit t (TB_TRIG_C.LATE k) = false ∧
        fget t (TB_TRIG_C.ACTION k) = wget v (TB_TRIG_C.ACTION k) ∧ fget t (TB_TRIG_C.GEN k) = wget v (TB_TRIG_C.GEN k) ∧
        a = nearTime s (fget s (TB_TRIG_T.SEC k)) (fget s (TB_TRIG_T.NS k)) ∧ tget false t.time.trigDue k = decide (a ≤ s.tbNs) ∧
        (∀ j, j ≠ k.val → tget 0 t.time.trigAt j = tget 0 s.time.trigAt j) ∧ regsBut (fun o => o == TB_TRIG_C k) s t ∧
        t = { s with regs := t.regs, time := t.time } := by
  intro p k v s hacc harm
  obtain ⟨harmed, haction, hgen⟩ := wget_trig (getReg s (TB_TRIG_C k)) v k
  have htime := congrArg State.time (trigArmed_only s k v)
  dsimp only at htime
  have hat : tget 0 (trigArmed s k v).time.trigAt k = nearTime s (fget s (TB_TRIG_T.SEC k)) (fget s (TB_TRIG_T.NS k)) := by
    rw [htime]
    exact tget_tset_same 0 _ _ _
  refine ⟨trigArmed s k v, exec_triggerArm hacc harm, ?_, ?_,
    (fget_trigArmed s k v (f := TB_TRIG_C.ACTION k) rfl (.inr (show 56 + 2 ≤ 61 by decide))).trans haction,
    (fget_trigArmed s k v (f := TB_TRIG_C.GEN k) rfl (.inr (show 48 + 8 ≤ 61 by decide))).trans hgen, hat, ?_, fun j hj => ?_,
    trigArmed_regsBut s k v, ?_⟩
  · exact (congrArg (· == 1) ((fget_trigArmed s k v (f := TB_TRIG_C.ARMED k) rfl (.inl rfl)).trans harmed)).trans harm
  · rw [fbit, trigArmed, fget_fset_same _ _ _ (show 61 + 1 ≤ 64 by decide)]
    rfl
  · rw [hat, htime]
    exact tget_tset_same false _ _ _
  · rw [htime]
    exact tget_tset_ne 0 _ hj _
  · rw [htime]
    exact trigArmed_only s k v

theorem trigger_rings :
    ∀ (k : Fin 64) (s : State), s.sys.powered = true → trigReady s k = true → (∀ j, j < 64 → j ≠ k.val → trigReady s j = false) →
      fget s (TB_TRIG_C.ACTION k) = 0 →
      answers (.triggerFire k) s fun t =>
        fbit t (TB_TRIG_C.ARMED k) = false ∧ fbit t (TB_TRIG_C.FIRED k) = true ∧
        (tget false s.time.trigDue k = true → fbit t (TB_TRIG_C.LATE k) = true) ∧
        (fget t (IC_SRC.STATE (80 + k)) = 1 ∨ fget t (IC_SRC.STATE (80 + k)) = 3) ∧ t.bob = s.bob ∧
        regsQuiet (fun o => o == TB_TRIG_C k) s t ∧ signalsOnly s t := by
  intro k s hpow hready halone haction
  obtain ⟨hregs, honly⟩ := trigFired_regs s k
  obtain ⟨harmed, hfired, hlate⟩ := trigFired_shows s k
  have hact : trigFire s k = ring (trigFired s k) (80 + k) := by
    rw [trigFire_of_alone k.isLt hready halone, trigAct_eq, trigFired_field s k (f := TB_TRIG_C.ACTION k) (show 56 + 2 ≤ 61 by decide), haction]
    rfl
  have hsig := ring_signals (trigFired s k) (src := 80 + k) (by omega)
  have hkept : ∀ f : Fld, f.off = TB_TRIG_C k → fget (ring (trigFired s k) (80 + k)) f = fget (trigFired s k) f :=
    fun f hf => fget_of_signals hsig (by rw [hf]; exact signalReg_trig k)
  refine ⟨_, live_of_powered hpow fun s => trigFire s k, ?_⟩
  rw [hact]
  refine ⟨(congrArg (· == 1) (hkept (TB_TRIG_C.ARMED k) rfl)).trans harmed, (congrArg (· == 1) (hkept (TB_TRIG_C.FIRED k) rfl)).trans hfired,
    fun hdue => (congrArg (· == 1) (hkept (TB_TRIG_C.LATE k) rfl)).trans (hlate hdue), ring_source _ (by omega), ?_,
    fun o ho hs => (hsig.2.1 o hs).trans (hregs o ho), ?_⟩
  · have hring := hsig.1
    unfold signalsOnly at hring
    unfold regsOnly at honly
    rw [hring, honly]
  · have hring := hsig.1
    unfold signalsOnly at hring ⊢
    unfold regsOnly at honly
    rw [hring, honly]

theorem trigger_sends :
    ∀ (k : Fin 64) (n : Nat) (s : State), s.sys.powered = true → trigReady s k = true →
      (∀ j, j < 64 → j ≠ k.val → trigReady s j = false) → fget s (TB_TRIG_C.ACTION k) = 1 →
      (regionBobs s (fget s (TB_TRIG_C.REGION k)))[fget s (TB_TRIG_C.BOBBIN k)]? = some n →
      fget s (TB_TRIG_C.GEN k) = regionGen s (fget s (TB_TRIG_C.REGION k)) →
      regionState s (fget s (TB_TRIG_C.REGION k)) = rRUNNING →
      answers (.triggerFire k) s fun t =>
        let f : Flit := ((bob t n).inFlight.getLast?).getD {};
        let g : Token := f.tok.getD {};
        let a := tget 0 s.time.trigAt k;
        fbit t (TB_TRIG_C.ARMED k) = false ∧ fbit t (TB_TRIG_C.FIRED k) = true ∧
        bob t n = { bob s n with inFlight := (bob s n).inFlight ++ [f] } ∧ f.tok.isSome = true ∧
        f.queue = fget s (TB_TRIG_C.QUEUE k) ∧ g.w1 = BitVec.ofNat 64 k ∧ g.w2 = 0 ∧
        g.w0 = BitVec.ofNat 64 (a / 1000000000 % 2 ^ 32 * 2 ^ 32 + a % 1000000000) ∧ (∀ m, m ≠ n → bob t m = bob s m) ∧
        regsBut (fun o => o == TB_TRIG_C k) s t ∧ t = { s with regs := t.regs, bob := t.bob, free := t.free } := by
  intro k n s hpow hready halone haction hbob hgen hrun
  obtain ⟨hregs, honly⟩ := trigFired_regs s k
  obtain ⟨harmed, hfired, -⟩ := trigFired_shows s k
  have hregion := trigFired_field s k (f := TB_TRIG_C.REGION k) (show 38 + 6 ≤ 61 by decide)
  have hbobbin := trigFired_field s k (f := TB_TRIG_C.BOBBIN k) (show 31 + 7 ≤ 61 by decide)
  have hgenf := trigFired_field s k (f := TB_TRIG_C.GEN k) (show 48 + 8 ≤ 61 by decide)
  have hqueue := trigFired_field s k (f := TB_TRIG_C.QUEUE k) (show 44 + 4 ≤ 61 by decide)
  have hne : ∀ o, o < 0x300000 ∨ 0x301400 ≤ o → getReg (trigFired s k) o = getReg s o :=
    fun o ho => hregs o (beq_eq_false_iff_ne.2 (by unfold TB_TRIG_C; omega))
  have hr : fget s (TB_TRIG_C.REGION k) < 64 := bits_lt _ _ 6
  have hgen' : regionGen (trigFired s k) (fget s (TB_TRIG_C.REGION k)) = regionGen s (fget s (TB_TRIG_C.REGION k)) :=
    fget_of_getReg_eq (hne _ (by simp only [PRK_RGEN.GEN, PRK_RGEN]; omega))
  have hrun' : regionState (trigFired s k) (fget s (TB_TRIG_C.REGION k)) = regionState s (fget s (TB_TRIG_C.REGION k)) :=
    fget_of_getReg_eq (hne _ (by simp only [BOB_RGN_STAT.STATE, BOB_RGN_STAT]; omega))
  unfold regsOnly at honly
  have hbobs : ∀ r, regionBobs (trigFired s k) r = regionBobs s r := fun r => by rw [honly]; rfl
  have hact : trigFire s k = setBobbin (draw (trigFired s k)).2 n
      fun b => { b with inFlight := b.inFlight ++ [trigFlit (trigFired s k) k n (draw (trigFired s k)).1] } := by
    rw [trigFire_of_alone k.isLt hready halone, trigAct_eq, trigFired_field s k (f := TB_TRIG_C.ACTION k) (show 56 + 2 ≤ 61 by decide), haction,
      if_neg (by decide)]
    refine trigToken_sent ?_ ?_ ?_
    · rw [hregion, hbobbin, hbobs, hbob]
    · rw [hgenf, hregion, hgen', hgen]
    · rw [hregion, hrun', hrun]
  have hself : bob (draw (trigFired s k)).2 n = bob s n := by rw [honly]; rfl
  refine ⟨_, live_of_powered hpow fun s => trigFire s k, ?_⟩
  rw [hact]
  dsimp only
  have hflit : ((bob (setBobbin (draw (trigFired s k)).2 n fun b =>
      { b with inFlight := b.inFlight ++ [trigFlit (trigFired s k) k n (draw (trigFired s k)).1] }) n).inFlight.getLast?).getD {} =
        trigFlit (trigFired s k) k n (draw (trigFired s k)).1 := by
    rw [bob_setBobbin_same]
    exact congrArg (fun o : Option Flit => o.getD {}) List.getLast?_concat
  have hdue : (trigFired s k).time = s.time := by rw [honly]
  rw [hflit, bob_setBobbin_same, hself]
  refine ⟨harmed, hfired, rfl, rfl, hqueue, rfl, rfl, ?_, fun m hm => ?_, hregs, ?_⟩
  · show BitVec.ofNat 64 (tget 0 (trigFired s k).time.trigAt k / _ % _ * _ + tget 0 (trigFired s k).time.trigAt k % _) = _
    rw [hdue]
  · rw [bob_setBobbin_ne _ hm, honly]
    rfl
  · rw [honly]
    rfl

theorem tbSec_read :
    ∀ (p : Fin 13) (s : State), s.sys.powered = true → pathLive s p = true →
      answers (.tbSecRead p) s fun t =>
        t.out = .readData p TB_SEC (BitVec.ofNat 64 s.tbSec) :: s.out ∧
        tget {} t.time.latches (pathKey s p) = { ns := s.tbNs % 1000000000, frac := s.tb % 2 ^ 32 / 2 ^ 16, short := s.tbNs % 2 ^ 32 } ∧
        (∀ k, k ≠ pathKey s p → tget {} t.time.latches k = tget {} s.time.latches k) ∧
        t = { s with out := t.out, time := { s.time with latches := t.time.latches } } := by
  intro p s hpow hlive
  refine ⟨_, readOff_of_live hpow hlive (by decide), rfl, ?_, fun k hk => ?_, rfl⟩
  · exact tget_tset_same ({} : Latch) s.time.latches (pathKey s p) _
  · exact tget_tset_ne ({} : Latch) s.time.latches hk _

theorem tbSet_sets :
    ∀ (p : Fin 13) (v : Word) (s : State), accepts s p TB_SET_NS v = true →
      answers (.tbSet p v) s fun t =>
        t.tb = (fget s TB_SET_SEC.SEC * 1000000000 + v.toNat % 2 ^ 32) * 2 ^ 32 % (2 ^ 48 * 1000000000 * 2 ^ 32) ∧
        fbit t TB_STAT.STEPPED = true ∧ t.mono = s.mono ∧ t.time = s.time := by
  intro p v s hacc
  refine ⟨tbSet (setNsTaken s v), (writeWord_of_row hacc findReg_setNs).trans ?_, ?_⟩
  · obtain ⟨-, -, -, htest, hregs, -⟩ := tbJump_spec (setNsTaken s v)
      ((fget (setNsTaken s v) TB_SET_SEC.SEC * 1000000000 + fget (setNsTaken s v) TB_SET_NS.NS) * 2 ^ 32 : Nat)
    refine congrArg _ (testSweep_of_kept (testFree_of_accepts hacc) ?_ htest)
    exact (hregs _ (by decide) (by decide)).trans (getReg_setReg_ne s (by decide) _)
  · obtain ⟨htb, hmono, htime, -, -, hstep, -⟩ := tbJump_spec (setNsTaken s v)
      ((fget (setNsTaken s v) TB_SET_SEC.SEC * 1000000000 + fget (setNsTaken s v) TB_SET_NS.NS) * 2 ^ 32 : Nat)
    obtain ⟨hsec, hns⟩ := fget_setNsTaken s v
    refine ⟨htb.trans ?_, hstep, hmono, htime⟩
    rw [hsec, hns, ← Int.natCast_mod, Int.toNat_natCast, tbMod]

theorem sample_kept :
    ∀ (p : Fin 13) (v : Word) (s : State), accepts s p TB_OFFSET v = true → fbit s TB_SERVO.EN = false →
      answers (.tbOffsetSample p v) s fun t =>
        getReg t TB_LAST = v ∧ t.tb = s.tb ∧ t.time = s.time ∧
        regsBut (fun o => o == TB_LAST || o == TB_OFFSET) s t ∧ regsOnly s t := by
  intro p v s hacc hoff
  have hen : fbit (sampled s v) TB_SERVO.EN = false := (congrArg (· == 1) (fget_sampled s v (by decide))).trans hoff
  refine ⟨sampled s v, (exec_offsetSample hacc).trans ?_, getReg_setReg_same _ _ _, rfl, rfl, sampled_regsBut s v, rfl⟩
  rw [hen, if_neg (by decide), testSweep_of_free (testFree_sampled (testFree_of_accepts hacc) v)]

theorem sample_steps :
    ∀ (p : Fin 13) (v : Word) (s : State), accepts s p TB_OFFSET v = true → fbit s TB_SERVO.EN = true →
      fbit s TB_SERVO.STEP_EN = true → fget s TB_SERVO.STEP_NS * 65536 ≤ v.toInt.natAbs → slottedNow s = false →
      answers (.tbOffsetSample p v) s fun t =>
        t.tb = (((s.tb : Int) - v.toInt * 65536) % (2 ^ 48 * 1000000000 * 2 ^ 32 : Nat)).toNat ∧ t.time.integ = 0 ∧
        fbit t TB_STAT.STEPPED = true ∧ getReg t TB_LAST = v ∧ fget t TB_RATE.RATE = fget s TB_RATE.RATE := by
  intro p v s hacc hon hst hbig hslot
  have hread : ∀ f : Fld, f.off = TB_SERVO → fget (sampled s v) f = fget s f := fun f hf => fget_sampled s v (by rw [hf]; decide)
  have hen : fbit (sampled s v) TB_SERVO.EN = true := (congrArg (· == 1) (hread TB_SERVO.EN rfl)).trans hon
  have hjump : (fbit (sampled s v) TB_SERVO.STEP_EN &&
      decide (fget (sampled s v) TB_SERVO.STEP_NS * 65536 ≤ v.toInt.natAbs)) = true := by
    rw [fbit, hread TB_SERVO.STEP_EN rfl, hread TB_SERVO.STEP_NS rfl, decide_eq_true hbig, Bool.and_true]
    exact hst
  have hsample : sample (sampled s v) v.toInt =
      sampleJudged (sampleStep (setTime (sampled s v) fun t => { t with lastSample := s.now }) v.toInt) v.toInt := by
    rw [sample_eq]
    dsimp only
    rw [hjump, show slottedNow (sampled s v) = false from hslot]
    rfl
  obtain ⟨jtb, jinteg, jtest, jregs, jstep⟩ :=
    sampleJudged_judged (sampleStep (setTime (sampled s v) fun t => { t with lastSample := s.now }) v.toInt) v.toInt
  obtain ⟨htb, hinteg, htest, hstep, hregs⟩ := sampleStep_spec (setTime (sampled s v) fun t => { t with lastSample := s.now }) v.toInt
  refine ⟨sample (sampled s v) v.toInt, (exec_offsetSample hacc).trans ?_, ?_⟩
  · rw [hen, if_pos rfl]
    refine congrArg _ (testSweep_of_kept (testFree_of_accepts hacc) ?_ ?_)
    · rw [hsample, jregs _ (by decide) (by decide), hregs _ (by decide) (by decide)]
      exact sampled_regsBut s v _ (by decide)
    · rw [hsample, jtest, htest]
      rfl
  · rw [hsample]
    refine ⟨jtb.trans htb, jinteg.trans hinteg, jstep.trans hstep, ?_, ?_⟩
    · rw [jregs _ (by decide) (by decide), hregs _ (by decide) (by decide)]
      exact getReg_setReg_same _ _ _
    · refine fget_of_getReg_eq (f := TB_RATE.RATE) ?_
      exact (jregs _ (by decide) (by decide)).trans ((hregs _ (by decide) (by decide)).trans (sampled_regsBut s v _ (by decide)))

theorem sample_steers :
    ∀ (p : Fin 13) (v : Word) (s : State), accepts s p TB_OFFSET v = true → fbit s TB_SERVO.EN = true →
      fbit s TB_SERVO.STEP_EN = false ∨ v.toInt.natAbs < fget s TB_SERVO.STEP_NS * 65536 ∨ slottedNow s = true →
      answers (.tbOffsetSample p v) s fun t =>
        t.tb = s.tb ∧ getReg t TB_LAST = v ∧ t.time.integ.natAbs ≤ 858993 ∧ (sext 32 (fget t TB_RATE.RATE)).natAbs ≤ 858993 ∧
        (fget s TB_STAT.SERVO = svLOCKED → 100 * 65536 < v.toInt.natAbs → fget t TB_STAT.SERVO = svLOCKING) := by
  intro p v s hacc hon hsteer
  have hread : ∀ f : Fld, f.off = TB_SERVO → fget (sampled s v) f = fget s f := fun f hf => fget_sampled s v (by rw [hf]; decide)
  have hen : fbit (sampled s v) TB_SERVO.EN = true := (congrArg (· == 1) (hread TB_SERVO.EN rfl)).trans hon
  have hstay : (fbit s TB_SERVO.STEP_EN && decide (fget s TB_SERVO.STEP_NS * 65536 ≤ v.toInt.natAbs) && !slottedNow s) = false := by
    rcases hsteer with h | h | h
    · rw [h, Bool.false_and, Bool.false_and]
    · rw [decide_eq_false (Nat.not_le.2 h), Bool.and_false, Bool.false_and]
    · rw [h, Bool.not_true, Bool.and_false]
  let big := fbit s TB_SERVO.STEP_EN && decide (fget s TB_SERVO.STEP_NS * 65536 ≤ v.toInt.natAbs)
  let u := sampleSteer (setTime (sampled s v) fun t => { t with lastSample := s.now }) v.toInt big
  have hsample : sample (sampled s v) v.toInt = sampleJudged u v.toInt := by
    rw [sample_eq]
    dsimp only
    rw [fbit, hread TB_SERVO.STEP_EN rfl, hread TB_SERVO.STEP_NS rfl, show slottedNow (sampled s v) = slottedNow s from rfl]
    exact congrArg (fun w => sampleJudged w v.toInt) (if_neg (by rw [← fbit, hstay]; decide))
  obtain ⟨jtb, jinteg, jtest, jregs, -⟩ := sampleJudged_judged u v.toInt
  obtain ⟨htb, hinteg, hrate, htest, hregs⟩ :=
    sampleSteer_spec (setTime (sampled s v) fun t => { t with lastSample := s.now }) v.toInt big
  refine ⟨sample (sampled s v) v.toInt, (exec_offsetSample hacc).trans ?_, ?_⟩
  · rw [hen, if_pos rfl]
    refine congrArg _ (testSweep_of_kept (testFree_of_accepts hacc) ?_ ?_)
    · rw [hsample, jregs _ (by decide) (by decide), hregs _ (by decide) (by decide)]
      exact sampled_regsBut s v _ (by decide)
    · rw [hsample, jtest, htest]
      rfl
  · rw [hsample]
    refine ⟨jtb.trans htb, ?_, (congrArg Int.natAbs jinteg).trans_le hinteg, ?_, fun hlocked hlarge => ?_⟩
    · rw [jregs _ (by decide) (by decide), hregs _ (by decide) (by decide)]
      exact getReg_setReg_same _ _ _
    · rw [fget_of_getReg_eq (f := TB_RATE.RATE) (jregs _ (by decide) (by decide))]
      exact hrate
    · refine sampleJudged_unlocks ?_ hlarge
      rw [fget_of_getReg_eq (f := TB_STAT.SERVO) (hregs _ (by decide) (by decide))]
      exact (fget_sampled s v (f := TB_STAT.SERVO) (by decide)).trans hlocked

theorem holdover_due :
    ∀ s : State, s.sys.powered = true → fget s TB_STAT.SERVO = svLOCKING ∨ fget s TB_STAT.SERVO = svLOCKED →
      s.elapsed s.time.lastSample (fget s TB_SERVO.HOLD_MS * 1000000) = true →
      answers .holdoverTimeout s fun t =>
        fget t TB_STAT.SERVO = svHOLDOVER ∧ fget t TB_RATE.RATE = fget s TB_RATE.RATE ∧
        regsQuiet (fun o => o == TB_STAT) s t ∧ signalsOnly s t := by
  intro s hpow hst hel
  have hdue : holdover s = servoTo s svHOLDOVER := by
    refine if_pos ?_
    rw [hel, Bool.and_true, Bool.or_eq_true, beq_iff_eq, beq_iff_eq]
    exact hst
  obtain ⟨hstate, -, hregs, honly⟩ := servoTo_spec s (st := svHOLDOVER) (by decide)
  refine ⟨_, live_of_powered hpow holdover, ?_⟩
  rw [hdue]
  exact ⟨hstate, fget_of_getReg_eq (f := TB_RATE.RATE) (hregs _ (by decide) (by decide)), hregs, honly⟩

theorem capPop_shows :
    ∀ (p : Fin 13) (s : State), accepts s p TB_CAP_POP 1 = true →
      answers (.capPop p) s fun t =>
        (∀ k, k < 6 → getReg t (TB_CAP_W k) = (s.time.capFifo.headD []).getD k 0) ∧ t.time.capFifo = s.time.capFifo.tail ∧
        regsBut (fun o => o == TB_CAP_STAT || (TB_CAP_W 0 ≤ o && o ≤ TB_CAP_W 5)) s t ∧
        t = { s with regs := t.regs, time := { s.time with capFifo := t.time.capFifo } } := by
  intro p s hacc
  refine ⟨capPopped (cmdTaken s TB_CAP_POP), ?_, fun k hk => capPopped_record _ hk, ?_, ?_, ?_⟩
  · rw [exec_capPop hacc]
  · rw [capPopped_only]
    exact List.drop_one
  · exact (regsBut_setReg_getReg _ s _).trans (capPopped_regsBut _)
  · rw [capPopped_only]
    rfl

/-- Settles O46: what a step or a set acts on leaves the timebase's registers, and each command sets one thing beside. -/
theorem timebase : Obligations.Timebase :=
  ⟨tbSec_read, tbSet_sets, sample_kept, sample_steps, sample_steers, holdover_due, capPop_shows, trigger_armed, trigger_rings, trigger_sends⟩

end Sys2Proof.Machine
end

section
/-! SUPPORT. Memory's reads and writes, and what they leave (chapter 13). -/

namespace Sys2Proof.Machine

open Claim

/-- Registers that reads and writes of memory may change: those of memory and of the counters, and those of signals. -/
def memReg (o : Nat) : Bool := decide (0x2C00000 ≤ o) || signalReg o

theorem memReg_of_le {o : Nat} (h : 0x2C00000 ≤ o) : memReg o = true := by
  rw [memReg, decide_eq_true h, Bool.true_or]

/-- From `s` to `t` only memory, what NVS holds, free values, and what counts and signals changed. -/
def MemWork (s t : State) : Prop :=
  t = { s with regs := t.regs, mem := t.mem, nvs := t.nvs, evr := t.evr, host := t.host, out := t.out } ∧ regsBut memReg s t

theorem MemWork.refl (s : State) : MemWork s s := ⟨rfl, regsBut.refl _ s⟩

theorem MemWork.trans {s t u : State} (h : MemWork s t) (k : MemWork t u) : MemWork s u := by
  obtain ⟨hst, hregs⟩ := h
  obtain ⟨ktu, kregs⟩ := k
  refine ⟨?_, hregs.trans kregs⟩
  rw [ktu, hst]

theorem MemWork.ite {c : Prop} [Decidable c] {s a b : State} (ha : MemWork s a) (hb : MemWork s b) : MemWork s (if c then a else b) := by
  split <;> assumption

theorem MemWork.forEach {β : Type} {l : List β} {f : State → β → State} (hf : ∀ s a, MemWork s (f s a)) (s : State) :
    MemWork s (forEach l s f) :=
  forEach_keeps (P := MemWork s) (fun t a _ h => h.trans (hf t a)) (MemWork.refl s)

theorem MemWork.forRange {n : Nat} {f : State → Nat → State} (hf : ∀ s i, MemWork s (f s i)) (s : State) :
    MemWork s (forRange n s f) := MemWork.forEach hf s

theorem MemWork.of_signals {s t : State} (h : Signals s t) : MemWork s t := by
  obtain ⟨hst, hregs, -⟩ := h
  unfold signalsOnly at hst
  refine ⟨by rw [hst], fun o ho => hregs o ?_⟩
  rw [memReg, Bool.or_eq_false_iff] at ho
  exact ho.2

theorem MemWork.event (s : State) {block code : Nat} (h : 256 * block + code < 0x1080) (sev die ctx unit : Nat) (data : List Byte) :
    MemWork s (event s block code sev die ctx unit data) :=
  MemWork.of_signals (event_signals s h sev die ctx unit data)

theorem MemWork.setMem (s : State) (f : MemSt → MemSt) : MemWork s (setMem s f) := ⟨rfl, regsBut_of_regs_eq rfl⟩

theorem MemWork.setReg (s : State) {o : Nat} (h : 0x2C00000 ≤ o) (v : Word) : MemWork s (setReg s o v) :=
  ⟨rfl, regsBut_setReg s (memReg_of_le h) v⟩

theorem MemWork.bumpBy (s : State) {o : Nat} (h : 0x2C00000 ≤ o) (n : Nat) : MemWork s (bumpBy s o n) := MemWork.setReg s h _

theorem memPut_work (s : State) (d P : Nat) (bs : List Byte) : MemWork s (memPut s d P bs) := by
  rw [memPut_frame]
  exact ⟨rfl, regsBut_of_regs_eq rfl⟩

theorem clearErrs_work (s : State) (i A : Nat) : MemWork s (clearErrs s i A) := MemWork.setMem s _

theorem poisonLine_work (s : State) (i A : Nat) : MemWork s (poisonLine s i A) := by
  refine MemWork.ite (MemWork.refl s) ?_
  refine MemWork.trans ?_ (MemWork.event _ (by decide) _ _ _ _ _)
  exact (MemWork.setMem s _).trans (MemWork.bumpBy _ (by unfold MEM_UE; omega) 1)

theorem retireGroup_work (s : State) (i A : Nat) : MemWork s (retireGroup s i A) := by
  unfold retireGroup
  dsimp only
  refine MemWork.ite (MemWork.refl s) ?_
  have hreads := MemWork.forEach (l := (((List.range 8).map fun k => A / 512 * 512 + 64 * k).filter
    fun l => worst (lineErrs s i l) == 3)) (f := fun s l => poisonLine (clearErrs s i l) i l)
    (fun t l => (clearErrs_work t i l).trans (poisonLine_work _ i l)) s
  refine MemWork.ite hreads ?_
  have hclear := fun t => MemWork.forEach (l := checkAt t i A :: (List.range 8).map fun k => A / 512 * 512 + 64 * k)
    (f := fun s l => clearErrs s i l) (fun u l => clearErrs_work u i l) t
  have hset : ∀ (t : State) (n : Nvs) (v : Nat), MemWork t (fset (setNvs t fun _ => n) (MEM_CH.RETIRED i) v) := fun t n v =>
    MemWork.trans (t := setNvs t fun _ => n) ⟨rfl, regsBut_of_regs_eq rfl⟩
      (MemWork.setReg _ (o := MEM_CH i) (by unfold MEM_CH; omega) _)
  have hdone := fun t n v sev die ctx unit data => (hset t n v).trans (MemWork.event _ (block := 0x0B) (code := 2) (by decide) sev die ctx unit data)
  refine (hreads.trans (hclear _)).trans (MemWork.ite ?_ ?_)
  · exact (hdone _ _ _ _ _ _ _ _).trans (MemWork.event _ (by decide) _ _ _ _ _)
  · exact hdone _ _ _ _ _ _ _ _

theorem lineTouch_work (s : State) (i A : Nat) : MemWork s (lineTouch s i A) := by
  unfold lineTouch
  dsimp only
  refine MemWork.ite (MemWork.refl s) (MemWork.ite ?_ (MemWork.ite ?_ ?_))
  · exact (clearErrs_work s i _).trans (MemWork.forRange (fun t k => poisonLine_work t i _) _)
  · exact (clearErrs_work s i _).trans (poisonLine_work _ i _)
  · have hcount := MemWork.bumpBy s (o := MEM_CE i) (by unfold MEM_CE; omega)
    exact MemWork.ite ((hcount _).trans (retireGroup_work _ i A)) (hcount _)

theorem memTouchPart_work (s : State) (d P n : Nat) : MemWork s (memTouchPart s d P n) :=
  MemWork.ite (MemWork.refl s) (MemWork.forEach (fun t _ => lineTouch_work t _ _) s)

theorem lineWritten_work (s : State) (i A : Nat) : MemWork s (lineWritten s i A) := by
  unfold lineWritten
  dsimp only
  refine MemWork.ite (MemWork.refl s) ?_
  have hclear : ∀ u l, MemWork s u → MemWork s (clearErrs (clearErrs u i (checkAt s i A)) i l) := fun u l h =>
    h.trans ((clearErrs_work u i _).trans (clearErrs_work _ i _))
  exact hclear _ _ (MemWork.ite (MemWork.forEach (fun t _ => poisonLine_work t _ _) s) (MemWork.refl s))

theorem memWrite_work (s : State) (d P : Nat) (bs : List Byte) : MemWork s (memWrite s d P bs) := by
  refine (memPut_work s d P bs).trans (MemWork.forEach (fun t l => ?_) _)
  exact MemWork.ite (lineWritten_work t _ _) ((lineWritten_work t _ _).trans (MemWork.setMem _ _))

theorem ctxTouchPart_work (s : State) (x o n : Nat) : MemWork s (ctxTouchPart s x o n) := by
  refine MemWork.ite (MemWork.refl s) (MemWork.forEach (fun t l => ?_) s)
  split
  · exact memTouchPart_work t _ _ _
  · exact MemWork.refl t

theorem ctxTouch_work (s : State) (x o n : Nat) : MemWork s (ctxTouch s x o n) := by
  refine MemWork.ite (MemWork.refl s) (MemWork.forEach (fun t l => ?_) s)
  split
  · exact lineTouch_work t _ _
  · exact MemWork.refl t

theorem ctxPut_work (s : State) (x o : Nat) (bs : List Byte) : MemWork s (ctxPut s x o bs) := by
  refine MemWork.forEach (fun t l => ?_) s
  split
  · exact MemWork.ite (MemWork.refl t) (memWrite_work t _ _ _)
  · exact MemWork.refl t

theorem ctxWrite_work (s : State) (x o : Nat) (bs : List Byte) : MemWork s (ctxWrite s x o bs) :=
  (ctxTouchPart_work s x o _).trans (ctxPut_work _ x o bs)

/-- Reads and writes of memory leave every bobbin. -/
theorem MemWork.bob_eq {s t : State} (h : MemWork s t) (m : Nat) : Machine.bob t m = Machine.bob s m := by
  rw [h.1]
  rfl

end Sys2Proof.Machine
end

section
/-! SUPPORT. Bobbin stores, needles and queues by name, and what a stopping region leaves (chapter 11). -/

namespace Sys2Proof.Machine

open Claim

/-! Stores (R278). -/

/-- Byte a of a store's table, after a die reset a free value where unlisted. -/
def storeLook (lost : Option Nat) (t : Tab Byte) (a : Nat) : Byte :=
  match lost with
  | none => tget 0 t a
  | some base => tget (BitVec.ofNat 8 (Config.freeValue (base + a)).toNat) t a

theorem storeByte_eq (b : Bobbin) (a : Nat) : storeByte b a = storeLook b.lost b.store a := rfl

theorem storeLook_storeSet (lost : Option Nat) (t : Tab Byte) (a : Nat) (v : Byte) (c : Nat) :
    storeLook lost (storeSet lost t a v) c = if c = a then v else storeLook lost t c := by
  cases lost with
  | none => exact tget_tset 0 t a v c
  | some base =>
    show tget _ (tput (tdel t a) a v) c = if c = a then v else tget _ t c
    rw [tget_tput _ _ _ _ (mem_tdel t a), tget_tdel]
    split <;> rfl

theorem storeLook_storePut (lost : Option Nat) (bs : List Byte) (t : Tab Byte) (a c : Nat) :
    storeLook lost (storePut lost t a bs) c = if a ≤ c ∧ c < a + bs.length then bs.getD (c - a) 0 else storeLook lost t c := by
  induction bs generalizing t a with
  | nil =>
    rw [storePut, if_neg]
    rw [List.length_nil]
    omega
  | cons x xs ih =>
    rw [storePut, ih, storeLook_storeSet]
    by_cases hca : c = a
    · subst hca
      rw [if_neg (by omega), if_pos rfl, if_pos (by rw [List.length_cons]; omega), Nat.sub_self]
      rfl
    · rw [if_neg hca]
      by_cases hin : a + 1 ≤ c ∧ c < a + 1 + xs.length
      · rw [if_pos hin, if_pos (by rw [List.length_cons]; omega), show c - a = c - (a + 1) + 1 by omega]
        rfl
      · rw [if_neg hin, if_neg (by rw [List.length_cons]; omega)]

/-- A bobbin with bytes put in its store at a. -/
def putBytes (b : Bobbin) (a : Nat) (bs : List Byte) : Bobbin := { b with store := storePut b.lost b.store a bs }

theorem storeByte_putBytes (b : Bobbin) (a : Nat) (bs : List Byte) (c : Nat) :
    storeByte (putBytes b a bs) c = if a ≤ c ∧ c < a + bs.length then bs.getD (c - a) 0 else storeByte b c :=
  storeLook_storePut b.lost bs b.store a c

theorem storeByte_congr {b c : Bobbin} (hlost : c.lost = b.lost) (hstore : c.store = b.store) (a : Nat) :
    storeByte c a = storeByte b a := by rw [storeByte_eq, storeByte_eq, hlost, hstore]

theorem storeBytes_congr {b c : Bobbin} {a n : Nat} (h : ∀ k, k < n → storeByte c (a + k) = storeByte b (a + k)) :
    storeBytes c a n = storeBytes b a n :=
  List.map_congr_left fun k hk => h k (List.mem_range.1 hk)

theorem storeBytes_putBytes (b : Bobbin) (a : Nat) (bs : List Byte) : storeBytes (putBytes b a bs) a bs.length = bs := by
  refine List.ext_getElem (by rw [storeBytes, List.length_map, List.length_range]) fun i h1 h2 => ?_
  simp only [storeBytes, List.getElem_map, List.getElem_range]
  rw [storeByte_putBytes, if_pos ⟨Nat.le_add_right a i, Nat.add_lt_add_left h2 a⟩, Nat.add_sub_cancel_left, List.getD_eq_getElem _ _ h2]

theorem length_storeBytes (b : Bobbin) (a n : Nat) : (storeBytes b a n).length = n := by
  rw [storeBytes, List.length_map, List.length_range]

/-- A bobbin after a write: the bytes in its store, words written whole without error. -/
def writtenTo (b : Bobbin) (a : Nat) (bs : List Byte) : Bobbin :=
  { putBytes b a bs with
    eccBad := b.eccBad.filter fun w => !(decide (a ≤ 8 * w) && decide (8 * w + 8 ≤ a + bs.length))
    eccOne := b.eccOne.filter fun w => !(decide (a ≤ 8 * w) && decide (8 * w + 8 ≤ a + bs.length)) }

theorem storeWrite_eq (s : State) (n a : Nat) (bs : List Byte) : storeWrite s n a bs = setBobbin s n fun b => writtenTo b a bs := rfl

theorem storeByte_writtenTo (b : Bobbin) (a : Nat) (bs : List Byte) (c : Nat) :
    storeByte (writtenTo b a bs) c = if a ≤ c ∧ c < a + bs.length then bs.getD (c - a) 0 else storeByte b c :=
  storeByte_putBytes b a bs c

theorem storeBytes_writtenTo (b : Bobbin) (a : Nat) (bs : List Byte) : storeBytes (writtenTo b a bs) a bs.length = bs :=
  storeBytes_putBytes b a bs

/-! Tables changed at one key. -/

theorem tget_tmod {α : Type} [DecidableEq α] (d : α) (t : Tab α) (i : Nat) (f : α → α) (j : Nat) :
    tget d (tmod d t i f) j = if j = i then f (tget d t i) else tget d t j := tget_tset _ _ _ _ _

/-- Needles and queues of a bobbin that has another changed. -/
theorem needle_tmod (b : Bobbin) (j : Nat) (f : Needle → Needle) (i : Nat) :
    needle { b with needles := tmod {} b.needles j f } i = if i = j then f (needle b j) else needle b i := tget_tmod _ _ _ _ _

theorem queueOf_tmod (b : Bobbin) (q : Nat) (f : List Token → List Token) (r : Nat) :
    queueOf { b with queues := tmod [] b.queues q f } r = if r = q then f (queueOf b q) else queueOf b r := tget_tmod _ _ _ _ _

end Sys2Proof.Machine
end

section
/-! SUPPORT. What a stopping region leaves (R304). -/

namespace Sys2Proof.Machine

open Claim

/-! Folds that mark what they pass. -/

/-- Where every step of a fold keeps Q, what each step then makes true of its own element, and no other step takes back, is true of
every element after it. -/
theorem forEach_marks {β : Type} {Q : State → Prop} {P : β → State → Prop} {f : State → β → State} (hinv : ∀ s a, Q s → Q (f s a))
    (hmark : ∀ s a, Q s → P a (f s a)) (hkeep : ∀ s a b, Q s → P b s → P b (f s a)) {l : List β} {a : β} (ha : a ∈ l) {s : State}
    (hs : Q s) : P a (forEach l s f) := by
  induction l generalizing s with
  | nil => cases ha
  | cons b l ih =>
    show P a (forEach l (f s b) f)
    rcases List.mem_cons.1 ha with rfl | ha
    · exact (forEach_keeps (P := fun t => Q t ∧ P a t) (fun t b _ h => ⟨hinv t b h.1, hkeep t b a h.1 h.2⟩)
        ⟨hinv s a hs, hmark s a hs⟩).2
    · exact ih ha (hinv s b hs)

/-! Bobbins of a region (R269). -/

/-- A bobbin that belongs to a region is listed as one of its bobbins. -/
theorem mem_regionBobs {s : State} {r m : Nat} (hr : r < 64) (hm : (bob s m).region = r) : m ∈ regionBobs s r := by
  have hlisted : (m, bob s m) ∈ s.bob.bobs := by
    refine mem_of_tget_ne fun heq => ?_
    have hnone : (bob s m).region = 64 := congrArg Bobbin.region heq
    omega
  exact List.mem_map.2 ⟨(m, bob s m), List.mem_filter.2 ⟨hlisted, beq_iff_eq.2 hm⟩, rfl⟩

/-! What stops holding work. -/

/-- Of bobbin `b` at most the bytes of the store and their errors became those of `c`. -/
def StoreOnly (b c : Bobbin) : Prop := c = { b with store := c.store, eccBad := c.eccBad, eccOne := c.eccOne }

/-- Of bobbin `b` at most what a stop takes, and the store, became as in `c`: its record, region and program stay. -/
def StopOnly (b c : Bobbin) : Prop :=
  c = { b with
    store := c.store, eccBad := c.eccBad, eccOne := c.eccOne, needles := c.needles, mma := c.mma, vop := c.vop, copy := c.copy
    send := c.send, queues := c.queues, inlets := c.inlets, inFlight := c.inFlight }

/-- A bobbin with no needle, work, token or inlet. -/
def Emptied (b : Bobbin) : Prop :=
  b.needles = [] ∧ b.mma = [] ∧ b.vop = [] ∧ b.copy = [] ∧ b.send = [] ∧ b.queues = [] ∧ b.inlets = []

theorem StoreOnly.trans {b c d : Bobbin} (h : StoreOnly b c) (k : StoreOnly c d) : StoreOnly b d := by
  unfold StoreOnly at *
  rw [k, h]

theorem StopOnly.trans {b c d : Bobbin} (h : StopOnly b c) (k : StopOnly c d) : StopOnly b d := by
  unfold StopOnly at *
  rw [k, h]

theorem StoreOnly.stopOnly {b c : Bobbin} (h : StoreOnly b c) : StopOnly b c := by
  unfold StoreOnly StopOnly at *
  rw [h]

theorem StoreOnly.emptied {b c : Bobbin} (h : StoreOnly b c) (hb : Emptied b) : Emptied c := by
  unfold StoreOnly at h
  rw [h]
  exact hb

/-- From `s` to `t` at most bobbins, memory, queued frames, free values, and what counts and signals changed. -/
def StopFrame (s t : State) : Prop :=
  t = { s with
    regs := t.regs, mem := t.mem, nvs := t.nvs, evr := t.evr, host := t.host, out := t.out, core := t.core, bob := t.bob, free := t.free } ∧
  regsBut memReg s t

theorem StopFrame.refl (s : State) : StopFrame s s := ⟨rfl, regsBut.refl _ s⟩

theorem StopFrame.trans {s t u : State} (h : StopFrame s t) (k : StopFrame t u) : StopFrame s u := by
  obtain ⟨hst, hregs⟩ := h
  obtain ⟨ktu, kregs⟩ := k
  refine ⟨?_, hregs.trans kregs⟩
  rw [ktu, hst]

theorem MemWork.stopFrame {s t : State} (h : MemWork s t) : StopFrame s t := by
  obtain ⟨hst, hregs⟩ := h
  refine ⟨?_, hregs⟩
  rw [hst]

theorem StopFrame.setBobbin (s : State) (n : Nat) (f : Bobbin → Bobbin) : StopFrame s (setBobbin s n f) :=
  ⟨rfl, regsBut_of_regs_eq rfl⟩

theorem StopFrame.setCore (s : State) (f : CoreSt → CoreSt) : StopFrame s (setCore s f) := ⟨rfl, regsBut_of_regs_eq rfl⟩

/-- From `s` to `t` what a stop may change changed, and of bobbins at most their stores. -/
def StoreWork (s t : State) : Prop := StopFrame s t ∧ ∀ m, StoreOnly (bob s m) (bob t m)

theorem StoreWork.refl (s : State) : StoreWork s s := ⟨StopFrame.refl s, fun _ => rfl⟩

theorem StoreWork.trans {s t u : State} (h : StoreWork s t) (k : StoreWork t u) : StoreWork s u :=
  ⟨h.1.trans k.1, fun m => (h.2 m).trans (k.2 m)⟩

theorem StoreWork.ite {c : Prop} [Decidable c] {s a b : State} (ha : StoreWork s a) (hb : StoreWork s b) :
    StoreWork s (if c then a else b) := by
  split <;> assumption

theorem StoreWork.forEach {β : Type} {l : List β} {f : State → β → State} (hf : ∀ s a, StoreWork s (f s a)) (s : State) :
    StoreWork s (forEach l s f) :=
  forEach_keeps (P := StoreWork s) (fun t a _ h => h.trans (hf t a)) (StoreWork.refl s)

theorem StoreWork.forRange {n : Nat} {f : State → Nat → State} (hf : ∀ s i, StoreWork s (f s i)) (s : State) :
    StoreWork s (forRange n s f) := StoreWork.forEach hf s

theorem StoreOnly.of_eq {b c : Bobbin} (h : c = b) : StoreOnly b c := by
  subst h
  rfl

theorem MemWork.storeWork {s t : State} (h : MemWork s t) : StoreWork s t := ⟨h.stopFrame, fun m => StoreOnly.of_eq (h.bob_eq m)⟩

theorem StoreWork.setCore (s : State) (f : CoreSt → CoreSt) : StoreWork s (setCore s f) := ⟨StopFrame.setCore s f, fun _ => rfl⟩

theorem StoreWork.bumpBy (s : State) {o : Nat} (h : 0x2C00000 ≤ o) (n : Nat) : StoreWork s (bumpBy s o n) :=
  (MemWork.bumpBy s h n).storeWork

theorem ctxBump_storeWork (s : State) (x i n : Nat) : StoreWork s (ctxBump s x i n) :=
  StoreWork.ite (StoreWork.bumpBy s (by unfold PMC_CTXPAGE; omega) n) (StoreWork.refl s)

theorem tdAdd_storeWork (s : State) (n k t : Nat) : StoreWork s (tdAdd s n k t) :=
  (StoreWork.bumpBy s (by unfold PMC_TD; omega) t).trans (ctxBump_storeWork _ _ _ _)

theorem storeWrite_storeWork (s : State) (n a : Nat) (bs : List Byte) : StoreWork s (storeWrite s n a bs) := by
  refine ⟨StopFrame.setBobbin s n _, fun m => ?_⟩
  rw [storeWrite_eq]
  rcases eq_or_ne m n with rfl | hne
  · rw [bob_setBobbin_same]
    rfl
  · rw [bob_setBobbin_ne _ hne]
    rfl

/-- Free values taken leave all else. -/
theorem freeBytes_storeWork (s : State) (n : Nat) : StoreWork s (freeBytes s n).2 := ⟨⟨rfl, regsBut_of_regs_eq rfl⟩, fun _ => rfl⟩

theorem storeUndefine_storeWork (s : State) (n a len : Nat) : StoreWork s (storeUndefine s n a len) :=
  (freeBytes_storeWork s len).trans (storeWrite_storeWork _ n a _)

theorem copyUndefine_storeWork (s : State) (n owner : Nat) (w : Work) : StoreWork s (copyUndefine s n owner w) := by
  have hmem : StoreWork s (Machine.forRange (dF w.desc 4 4) s fun s i =>
      if inWindow s owner (copyRow (bob s n) w.desc i).2 (dF w.desc 8 4) then
        ctxWrite (freeBytes s (dF w.desc 8 4)).2 owner (copyRow (bob s n) w.desc i).2 (freeBytes s (dF w.desc 8 4)).1
      else s) :=
    StoreWork.forRange (fun t i => StoreWork.ite ((freeBytes_storeWork t _).trans (ctxWrite_work _ _ _ _).storeWork) (StoreWork.refl t)) s
  unfold copyUndefine
  dsimp only
  split
  · exact StoreWork.refl s
  · exact hmem
  · exact hmem
  · exact StoreWork.forRange (fun t i => storeUndefine_storeWork t n _ _) s

theorem voqErase_storeWork (s : State) (k n : Nat) (e : QEnt) : StoreWork s (voqErase s k n e) := by
  unfold voqErase trimVoq setVoq
  exact (StoreWork.setCore s _).trans (StoreWork.setCore _ _)

theorem stripVoq_storeWork (s : State) (k id : Nat) : StoreWork s (stripVoq s k id) := by
  unfold stripVoq
  dsimp only
  split
  · exact StoreWork.refl s
  · exact voqErase_storeWork s _ _ _

theorem discardSends_storeWork (s : State) (n : Nat) : StoreWork s (discardSends s n) :=
  StoreWork.forEach (fun t _ => StoreWork.ite (StoreWork.refl t)
    (((StoreWork.forEach (fun u k => stripVoq_storeWork u k _) t).trans (StoreWork.setCore _ _)).trans (ctxBump_storeWork _ _ _ _))) s

/-! Bobbins emptied. -/

/-- A bobbin without what a stop takes. -/
def bobEmptied (b : Bobbin) : Bobbin :=
  { b with needles := [], mma := [], vop := [], copy := [], send := [], queues := [], inlets := [] }

/-- What the work in hand would have written becomes undefined first. -/
theorem clearBobbin_spec (s : State) (owner n : Nat) :
    ∃ u, StoreWork s u ∧ clearBobbin s owner n = setBobbin u n bobEmptied := by
  unfold clearBobbin
  dsimp only
  have hfirst : ∀ w : Option Work, StoreWork s (match w with
      | some k => tdAdd s n 1 (mmaTime s n k)
      | none => s) := fun w => by
    cases w
    · exact StoreWork.refl s
    · exact tdAdd_storeWork s n 1 _
  have hundefined : ∀ (l : List Work) (d : List Byte → List (Nat × Nat)) (t : State),
      StoreWork t (Machine.forEach l t fun s w => Machine.forEach (d w.desc) s fun s r => storeUndefine s n r.1 r.2) := fun l d t =>
    StoreWork.forEach (fun u w => StoreWork.forEach (fun v r => storeUndefine_storeWork v n _ _) u) t
  refine ⟨_, ?_, rfl⟩
  refine StoreWork.trans ?_ (discardSends_storeWork _ n)
  refine StoreWork.trans ?_ (StoreWork.forEach (fun t w => copyUndefine_storeWork t n owner w) _)
  refine StoreWork.trans (StoreWork.trans ?_ (hundefined (bob s n).mma mmaDest _)) (hundefined (bob s n).vop vopDest _)
  split
  · exact tdAdd_storeWork s n 1 _
  · exact StoreWork.refl s

/-- From `s` to `t` at most what a stop takes changed. -/
def StopWork (s t : State) : Prop := StopFrame s t ∧ ∀ m, StopOnly (bob s m) (bob t m)

theorem StopWork.refl (s : State) : StopWork s s := ⟨StopFrame.refl s, fun _ => rfl⟩

theorem StopWork.trans {s t u : State} (h : StopWork s t) (k : StopWork t u) : StopWork s u :=
  ⟨h.1.trans k.1, fun m => (h.2 m).trans (k.2 m)⟩

theorem StoreWork.stopWork {s t : State} (h : StoreWork s t) : StopWork s t := ⟨h.1, fun m => (h.2 m).stopOnly⟩

theorem StopWork.forEach {β : Type} {l : List β} {f : State → β → State} (hf : ∀ s a, StopWork s (f s a)) (s : State) :
    StopWork s (forEach l s f) :=
  forEach_keeps (P := StopWork s) (fun t a _ h => h.trans (hf t a)) (StopWork.refl s)

theorem StopWork.setBobbin (s : State) (n : Nat) {f : Bobbin → Bobbin} (hf : ∀ b, StopOnly b (f b)) : StopWork s (setBobbin s n f) := by
  refine ⟨StopFrame.setBobbin s n f, fun m => ?_⟩
  rcases eq_or_ne m n with rfl | hne
  · rw [bob_setBobbin_same]
    exact hf _
  · rw [bob_setBobbin_ne _ hne]
    rfl

theorem clearBobbin_stopWork (s : State) (owner n : Nat) : StopWork s (clearBobbin s owner n) := by
  obtain ⟨u, hu, heq⟩ := clearBobbin_spec s owner n
  rw [heq]
  exact hu.stopWork.trans (StopWork.setBobbin u n fun _ => rfl)

theorem emptied_clearBobbin (s : State) (owner n : Nat) : Emptied (bob (clearBobbin s owner n) n) := by
  obtain ⟨u, -, heq⟩ := clearBobbin_spec s owner n
  rw [heq, bob_setBobbin_same]
  exact ⟨rfl, rfl, rfl, rfl, rfl, rfl, rfl⟩

/-- A bobbin once empty stays so. -/
theorem clearBobbin_keeps_emptied (s : State) (owner n m : Nat) (h : Emptied (bob s m)) : Emptied (bob (clearBobbin s owner n) m) := by
  rcases eq_or_ne m n with rfl | hne
  · exact emptied_clearBobbin s owner m
  · obtain ⟨u, hu, heq⟩ := clearBobbin_spec s owner n
    rw [heq, bob_setBobbin_ne _ hne]
    exact (hu.2 m).emptied h

/-! Flits discarded. -/

/-- Discarded flits leave what bobbins hold: only their stores and what is on its way to them. -/
theorem discardFlits_spec (s : State) (r : Nat) :
    StopWork s (discardFlits s r) ∧ ∀ m, Emptied (bob s m) → Emptied (bob (discardFlits s r) m) := by
  have hstep : ∀ (t : State) (n : Nat) (l : List Flit) (f : Bobbin → Bobbin), (∀ b, f b = { b with inFlight := (f b).inFlight }) →
      StopWork t (Machine.forEach l (Machine.setBobbin t n f) fun s g => storeUndefine s n g.addr g.data.length) ∧
        ∀ m, Emptied (bob t m) → Emptied (bob (Machine.forEach l (Machine.setBobbin t n f) fun s g =>
          storeUndefine s n g.addr g.data.length) m) := by
    intro t n l f hf
    have hstore := StoreWork.forEach (l := l) (fun u g => storeUndefine_storeWork u n g.addr g.data.length) (Machine.setBobbin t n f)
    refine ⟨(StopWork.setBobbin t n fun b => ?_).trans hstore.stopWork, fun m hm => (hstore.2 m).emptied ?_⟩
    · rw [StopOnly, hf]
    · rcases eq_or_ne m n with rfl | hne
      · rw [bob_setBobbin_same, hf]
        exact hm
      · rw [bob_setBobbin_ne _ hne]
        exact hm
  unfold discardFlits
  refine forEach_keeps (P := fun t => StopWork s t ∧ ∀ m, Emptied (bob s m) → Emptied (bob t m)) (fun t n _ h => ?_)
    ⟨StopWork.refl s, fun _ h => h⟩
  dsimp only
  split
  · exact h
  · obtain ⟨hwork, hempty⟩ := hstep t n _ (fun b => { b with inFlight := b.inFlight.filter fun f => !flitOf r n t f }) fun _ => rfl
    exact ⟨h.1.trans hwork, fun m hm => hempty m (h.2 m hm)⟩

/-! Regions cleared. -/

theorem clearRegion_stopWork (s : State) (r : Nat) : StopWork s (clearRegion s r) :=
  (StopWork.forEach (fun t n => clearBobbin_stopWork t _ n) s).trans (discardFlits_spec _ r).1

/-- Every bobbin of the region is then empty. -/
theorem emptied_clearRegion {s : State} {r m : Nat} (hr : r < 64) (hm : (bob s m).region = r) : Emptied (bob (clearRegion s r) m) :=
  (discardFlits_spec _ r).2 m
    (forEach_marks (Q := fun _ => True) (P := fun m t => Emptied (bob t m)) (fun _ _ h => h) (fun t n _ => emptied_clearBobbin t _ n)
      (fun t n m _ h => clearBobbin_keeps_emptied t _ n m h) (mem_regionBobs hr hm) trivial)

/-- Registers below those of memory stay, but for those of signals. -/
theorem getReg_clearRegion (s : State) (r : Nat) {o : Nat} (hlow : o < 0x2C00000) (ho : signalReg o = false) :
    getReg (clearRegion s r) o = getReg s o :=
  (clearRegion_stopWork s r).1.2 o (by rw [memReg, ho, Bool.or_false, decide_eq_false (by omega)])

/-! Ends of regions (R304). -/

theorem regionEnd_signals (s : State) (r how : Nat) (h : r < 64) : Signals s (regionEnd s r how) :=
  (event_signals s (by decide) _ _ _ _ _).trans (ring_signals _ (by omega))

theorem signalReg_rgnStat {r : Nat} (hr : r < 64) : signalReg (BOB_RGN_STAT r) = false := by
  unfold signalReg inSrc EVR_LOST IC_MERGED BOB_RGN_STAT
  simp only [Bool.or_eq_false_iff, Bool.and_eq_false_iff, decide_eq_false_iff_not, beq_eq_false_iff_ne]
  omega

theorem bob_of_signals {s t : State} (h : Signals s t) : t.bob = s.bob := by
  obtain ⟨hst, -, -⟩ := h
  rw [hst]

theorem bob_congr {s t : State} (h : t.bob = s.bob) (m : Nat) : bob t m = bob s m := by rw [bob, bob, h]

/-- A stopped region: cleared, WOVEN, its end recorded. -/
def regionStopped (s : State) (r how : Nat) : State := regionEnd (fset (clearRegion s r) (BOB_RGN_STAT.STATE r) rWOVEN) r how

theorem regionState_regionStopped (s : State) {r : Nat} (hr : r < 64) (how : Nat) : regionState (regionStopped s r how) r = rWOVEN := by
  rw [regionState, regionStopped, fget_of_signals (regionEnd_signals _ r how hr) (signalReg_rgnStat hr),
    fget_fset_same _ _ _ (show 0 + 3 ≤ 64 by decide)]
  rfl

/-- The region's other fields stay. -/
theorem fget_regionStopped (s : State) {r : Nat} (hr : r < 64) (how : Nat) {f : Fld} (hoff : f.off = BOB_RGN_STAT r)
    (hlo : 3 ≤ f.lo) : fget (regionStopped s r how) f = fget s f := by
  have hsig : signalReg f.off = false := by rw [hoff]; exact signalReg_rgnStat hr
  rw [regionStopped, fget_of_signals (regionEnd_signals _ r how hr) hsig, fget_fset_ne _ _ _ _ (.inr (.inr (show 0 + 3 ≤ f.lo by omega)))]
  refine fget_of_getReg_eq (getReg_clearRegion s r ?_ hsig)
  rw [hoff]
  unfold BOB_RGN_STAT
  omega

theorem bob_regionStopped (s : State) {r : Nat} (hr : r < 64) (how m : Nat) :
    bob (regionStopped s r how) m = bob (clearRegion s r) m :=
  (bob_congr (bob_of_signals (regionEnd_signals _ r how hr)) m).trans (bob_congr rfl m)

end Sys2Proof.Machine
end

section
/-! SUPPORT. START and STOP of a region (R303, R304, R307): it settles O44. -/

namespace Sys2Proof.Machine

open Claim

/-! The command's register. -/

theorem writeOnly_rgnCmd : WriteOnly BOB_RGN_CMD := ⟨⟨BOB_RGN_CMD, 8, 1, 0x0, 0x33F, 0x0, 0x0, 0x0, 0x33F⟩, rfl, rfl, rfl⟩

theorem regEffect_rgnCmd (old s : State) (p : Nat) (w : Word) (e : Option (List Byte)) :
    regEffect old s p BOB_RGN_CMD w e = regionCommand s (wget w BOB_RGN_CMD.OP) (wget w BOB_RGN_CMD.REGION) := rfl

/-- Operation and region of the word that carries them. -/
theorem wget_rgnCmd {op : Nat} (hop : op < 4) (r : Fin 64) :
    wget (BitVec.ofNat 64 (256 * op + r)) BOB_RGN_CMD.OP = op ∧ wget (BitVec.ofNat 64 (256 * op + r)) BOB_RGN_CMD.REGION = r := by
  simp only [wget, bits, BOB_RGN_CMD.OP, BOB_RGN_CMD.REGION, BitVec.toNat_ofNat]
  omega

theorem writeNum_rgnCmd {p : Fin 13} {op : Nat} (hop : op < 4) {r : Fin 64} {s : State}
    (hacc : accepts s p BOB_RGN_CMD (BitVec.ofNat 64 (256 * op + r)) = true) :
    writeNum p BOB_RGN_CMD (256 * op + r) s = .next (testSweep (regionCommand (cmdTaken s BOB_RGN_CMD) op r)) := by
  obtain ⟨hget, hregion⟩ := wget_rgnCmd hop r
  rw [writeNum_of_writeOnly hacc writeOnly_rgnCmd, regEffect_rgnCmd, hget, hregion]

/-- What the command's code depends on is as before it was taken. -/
theorem regionCode_cmdTaken (s : State) (off op r : Nat) : regionCode (cmdTaken s off) op r = regionCode s op r := by
  have hvalid : regionValid (cmdTaken s off) r = regionValid s r := rfl
  have hstate : regionState (cmdTaken s off) r = regionState s r := fget_cmdTaken s off _
  have howner : regionOwner (cmdTaken s off) r = regionOwner s r := by rw [regionOwner, fbit_cmdTaken, fget_cmdTaken, regionOwner]
  have hctx : ∀ x, ctxState (cmdTaken s off) x = ctxState s x := fun x => fget_cmdTaken s off _
  rw [regionCode, hvalid, hstate, howner, hctx, regionCode]

/-! Commands that end with a code. -/

/-- A command that may not go ahead leaves its code. -/
theorem regionCommand_refused {s : State} {op r code : Nat} (hop : op ≠ 0) (hcode : regionCode s op r = code) (hne : code ≠ 0) :
    regionCommand s op r = fset s BOB_RGN_CMDSTAT.CODE code := by
  rw [regionCommand, if_neg (by simpa using hop)]
  dsimp only
  rw [hcode, if_pos (by simpa using hne)]

theorem regionCommand_start {s : State} {r : Nat} (hcode : regionCode s 1 r = 0) :
    regionCommand s 1 r = startRegion (fset s BOB_RGN_CMDSTAT.CODE 0) r := by
  rw [regionCommand, if_neg (by decide)]
  dsimp only
  rw [hcode, if_neg (by decide), if_pos (by decide)]

theorem regionCommand_stop {s : State} {r : Nat} (hcode : regionCode s 2 r = 0) :
    regionCommand s 2 r = stopRegion (fset s BOB_RGN_CMDSTAT.CODE 0) r := by
  rw [regionCommand, if_neg (by decide)]
  dsimp only
  rw [hcode, if_neg (by decide), if_neg (by decide)]

/-- What a command that only leaves its code shows. -/
theorem codeShown {s : State} (hfree : testFree s = true) {code : Nat} (hcode : code < 256) :
    fget (testSweep (fset (cmdTaken s BOB_RGN_CMD) BOB_RGN_CMDSTAT.CODE code)) BOB_RGN_CMDSTAT.CODE = code ∧
      regsBut (fun o => o == BOB_RGN_CMDSTAT) s (testSweep (fset (cmdTaken s BOB_RGN_CMD) BOB_RGN_CMDSTAT.CODE code)) ∧
      regsOnly s (testSweep (fset (cmdTaken s BOB_RGN_CMD) BOB_RGN_CMDSTAT.CODE code)) := by
  have hsweep : testSweep (fset (cmdTaken s BOB_RGN_CMD) BOB_RGN_CMDSTAT.CODE code) =
      fset (cmdTaken s BOB_RGN_CMD) BOB_RGN_CMDSTAT.CODE code :=
    testSweep_of_kept hfree ((getReg_fset_ne _ (by decide) _).trans (getReg_cmdTaken s _ _)) rfl
  rw [hsweep]
  refine ⟨(fget_fset_same _ BOB_RGN_CMDSTAT.CODE code (by decide)).trans (Nat.mod_eq_of_lt hcode), ?_, rfl⟩
  exact (regsBut_setReg_getReg _ s _).trans (regsBut_fset (own := fun o => o == BOB_RGN_CMDSTAT) _ _ (by decide) _)

/-! START. -/

/-- The needles that START starts in a bobbin. -/
def startedNeedles (b : Bobbin) : Tab Needle :=
  ((List.range 4).filter fun j => b.record.needles.getLsbD j).map fun j => (j, { running := true, pc := b.record.entry.getD j 0 })

/-- A bobbin as START leaves it. -/
def bobStarted (b : Bobbin) : Bobbin := { b with queues := [], inlets := [], needles := startedNeedles b }

/-- Of a bobbin START changes at most queues, inlets, needles and the clock of its MMA. -/
def StartOnly (b c : Bobbin) : Prop :=
  c = { b with queues := c.queues, inlets := c.inlets, needles := c.needles, mma := c.mma }

theorem StartOnly.trans {b c d : Bobbin} (h : StartOnly b c) (k : StartOnly c d) : StartOnly b d := by
  unfold StartOnly at *
  rw [k, h]

/-- The module as START leaves it, before a region with no needle ends. -/
def regionBegun (s : State) (r : Nat) : State :=
  forEach (regionBobs (setReg s (BOB_RGN_STAT r) (BitVec.ofNat 64 rRUNNING)) r) (setReg s (BOB_RGN_STAT r) (BitVec.ofNat 64 rRUNNING))
    fun s n => setBobbin (mmaResume s n) n bobStarted

theorem startRegion_eq (s : State) (r : Nat) : startRegion s r = regionDone (regionBegun s r) r := rfl

/-- One bobbin started: it, and it alone, changed. -/
theorem bob_started (s : State) (n m : Nat) :
    (m = n → bob (setBobbin (mmaResume s n) n bobStarted) m = bobStarted (bob (mmaResume s n) m)) ∧
      (m ≠ n → bob (setBobbin (mmaResume s n) n bobStarted) m = bob s m) ∧ StartOnly (bob s m) (bob (mmaResume s n) m) := by
  refine ⟨?_, fun hne => ?_, ?_⟩
  · rintro rfl
    exact bob_setBobbin_same _ _ _
  · rw [bob_setBobbin_ne _ hne, mmaResume, bob_setBobbin_ne _ hne]
  · rcases eq_or_ne m n with rfl | hne
    · rw [mmaResume, bob_setBobbin_same]
      rfl
    · rw [mmaResume, bob_setBobbin_ne _ hne]
      rfl

theorem startOnly_started (s : State) (n m : Nat) : StartOnly (bob s m) (bob (setBobbin (mmaResume s n) n bobStarted) m) := by
  obtain ⟨hsame, hother, hresume⟩ := bob_started s n m
  rcases eq_or_ne m n with heq | hne
  · rw [hsame heq]
    exact hresume.trans rfl
  · rw [hother hne]
    rfl

/-- Has bobbin m, as `b` before, been started? -/
def Begun (b c : Bobbin) : Prop := c.queues = [] ∧ c.inlets = [] ∧ c.needles = startedNeedles b

theorem begun_started (s : State) (b : Bobbin) (n : Nat) (h : StartOnly b (bob s n)) :
    Begun b (bob (setBobbin (mmaResume s n) n bobStarted) n) := by
  obtain ⟨hsame, -, hresume⟩ := bob_started s n n
  have hrec : (bob (mmaResume s n) n).record = b.record := by
    have hboth := h.trans hresume
    unfold StartOnly at hboth
    rw [hboth]
  rw [hsame rfl]
  refine ⟨rfl, rfl, ?_⟩
  show startedNeedles _ = startedNeedles b
  rw [startedNeedles, hrec, startedNeedles]

/-- Every bobbin of the region is begun, and of the others nothing changed but what START may. -/
theorem bob_regionBegun (s : State) {r : Nat} (hr : r < 64) (m : Nat) :
    StartOnly (bob s m) (bob (regionBegun s r) m) ∧ ((bob s m).region = r → Begun (bob s m) (bob (regionBegun s r) m)) := by
  have hstart := setReg s (BOB_RGN_STAT r) (BitVec.ofNat 64 rRUNNING)
  refine ⟨?_, fun hm => ?_⟩
  · exact forEach_keeps (P := fun t => StartOnly (bob s m) (bob t m)) (fun t n _ h => h.trans (startOnly_started t n m)) rfl
  · refine forEach_marks (Q := fun t => ∀ m, StartOnly (bob s m) (bob t m)) (P := fun m t => Begun (bob s m) (bob t m))
      (fun t n h m => (h m).trans (startOnly_started t n m)) (fun t n h => begun_started t _ n (h n)) (fun t n k h hk => ?_)
      (mem_regionBobs hr hm) (fun _ => rfl)
    rcases eq_or_ne k n with rfl | hne
    · exact begun_started t _ k (h k)
    · rw [(bob_started t n k).2.1 hne]
      exact hk

/-- An entry of a list made of keys that pass a test. -/
theorem tget_map_filter {α : Type} (d : α) (p : Nat → Bool) (g : Nat → α) (l : List Nat) (i : Nat) :
    tget d ((l.filter p).map fun j => (j, g j)) i = if i ∈ l ∧ p i = true then g i else d := by
  induction l with
  | nil => simp [tget]
  | cons a l ih =>
    rw [List.filter_cons]
    by_cases hai : a = i
    · subst hai
      cases hp : p a
      · simpa [hp] using ih
      · simp [tget]
    · have hmem : i ∈ a :: l ↔ i ∈ l := by simp [Ne.symm hai]
      cases hp : p a
      · simpa [hmem] using ih
      · simpa [hmem, tget, hai] using ih

theorem needle_begun {b c : Bobbin} (h : Begun b c) {i : Nat} (hi : i < 4) :
    needle c i = if b.record.needles.getLsbD i then { running := true, pc := b.record.entry.getD i 0 } else {} := by
  obtain ⟨-, -, hneedles⟩ := h
  rw [needle, hneedles, startedNeedles, tget_map_filter]
  simp [hi]

/-- A bobbin with a needle to start then has a needle running. -/
theorem running_begun {b c : Bobbin} (h : Begun b c) (hne : b.record.needles ≠ 0) : (c.needles.any fun e => e.2.running) = true := by
  obtain ⟨-, -, hneedles⟩ := h
  obtain ⟨i, hi, hbit⟩ : ∃ i, i < 4 ∧ b.record.needles.getLsbD i = true := by
    by_contra hnone
    refine hne (BitVec.eq_of_getLsbD_eq fun i hi => ?_)
    refine Eq.trans ?_ (BitVec.getLsbD_zero (i := i) (w := 4)).symm
    by_contra hset
    exact hnone ⟨i, hi, by simpa using hset⟩
  rw [hneedles, List.any_eq_true]
  exact ⟨(i, { running := true, pc := b.record.entry.getD i 0 }),
    List.mem_map.2 ⟨i, List.mem_filter.2 ⟨List.mem_range.2 hi, hbit⟩, rfl⟩, rfl⟩

/-! What START leaves. -/

/-- A started region runs on where a needle was started. -/
theorem startRegion_of_needle {s : State} {r m : Nat} (hr : r < 64) (hm : (bob s m).region = r) (hne : (bob s m).record.needles ≠ 0) :
    startRegion s r = regionBegun s r := by
  obtain ⟨honly, hbegun⟩ := bob_regionBegun s hr m
  have hregion : (bob (regionBegun s r) m).region = r := by
    unfold StartOnly at honly
    rw [honly]
    exact hm
  rw [startRegion_eq, regionDone, if_pos]
  exact List.any_eq_true.2 ⟨m, mem_regionBobs hr hregion, running_begun (hbegun hm) hne⟩

/-- Bobbins apart, START only sets the region's register. -/
theorem regionBegun_only (s : State) (r : Nat) :
    regionBegun s r = { s with regs := (regionBegun s r).regs, bob := (regionBegun s r).bob } ∧
      ∀ o, getReg (regionBegun s r) o = getReg (setReg s (BOB_RGN_STAT r) (BitVec.ofNat 64 rRUNNING)) o := by
  refine forEach_keeps (P := fun t => t = { s with regs := t.regs, bob := t.bob } ∧
    ∀ o, getReg t o = getReg (setReg s (BOB_RGN_STAT r) (BitVec.ofNat 64 rRUNNING)) o) (fun t n _ h => ?_) ⟨rfl, fun _ => rfl⟩
  obtain ⟨hst, hregs⟩ := h
  refine ⟨?_, hregs⟩
  calc setBobbin (mmaResume t n) n bobStarted
      = { t with bob := (setBobbin (mmaResume t n) n bobStarted).bob } := rfl
    _ = _ := by rw [hst]; rfl

/-- As does a START behind a change of registers. -/
theorem regionBegun_of_regsOnly {s u : State} (h : regsOnly s u) (r : Nat) :
    regionBegun u r = { s with regs := (regionBegun u r).regs, bob := (regionBegun u r).bob } := by
  have honly := (regionBegun_only u r).1
  unfold regsOnly at h
  rw [honly, h]

/-- Registers set leave every bobbin. -/
theorem bob_fset_cmdTaken (s : State) (o : Nat) (f : Fld) (v m : Nat) : bob (fset (cmdTaken s o) f v) m = bob s m := rfl

theorem codeTaken_regsOnly (s : State) (code : Nat) : regsOnly s (fset (cmdTaken s BOB_RGN_CMD) BOB_RGN_CMDSTAT.CODE code) :=
  (regsOnly_setReg s _ _).trans (regsOnly_fset _ _ _)

/-- STOP leaves the registers of self-tests and the command's own code. -/
theorem stopRegion_eq (s : State) (r : Nat) : stopRegion s r = regionStopped s r 1 := rfl

theorem getReg_regionStopped (s : State) {r : Nat} (hr : r < 64) (how : Nat) {o : Nat} (hlow : o < 0x2C00000) (ho : signalReg o = false)
    (hne : o ≠ BOB_RGN_STAT r) : getReg (regionStopped s r how) o = getReg s o := by
  rw [regionStopped, (regionEnd_signals _ r how hr).2.1 o ho, getReg_fset_ne _ (f := BOB_RGN_STAT.STATE r) hne, getReg_clearRegion s r hlow ho]

theorem test_regionStopped (s : State) {r : Nat} (hr : r < 64) (how : Nat) : (regionStopped s r how).test = s.test := by
  have hend := (regionEnd_signals (fset (clearRegion s r) (BOB_RGN_STAT.STATE r) rWOVEN) r how hr).1
  unfold signalsOnly at hend
  rw [regionStopped, hend, show ∀ (t : State) f v, (fset t f v).test = t.test from fun _ _ _ => rfl, (clearRegion_stopWork s r).1.1]

/-- What a region's command leaves of its register. -/
theorem getReg_codeTaken (s : State) (code : Nat) {o : Nat} (h : o ≠ BOB_RGN_CMDSTAT) :
    getReg (fset (cmdTaken s BOB_RGN_CMD) BOB_RGN_CMDSTAT.CODE code) o = getReg s o := by
  rw [getReg_fset_ne _ (f := BOB_RGN_CMDSTAT.CODE) h, getReg_cmdTaken]

/-- Settles O44: a command that may not go ahead only leaves its code; START begins every bobbin of the region, and STOP empties them. -/
theorem regionCommands : Obligations.RegionCommands := by
  unfold Obligations.RegionCommands
  dsimp only
  refine ⟨fun p r m s hacc hvalid hst hown hctx hm hne => ?_, fun p r s hacc => ?_, fun p r s hacc hvalid hst => ?_,
    fun p r s hacc hvalid hst => ?_⟩
  · have hcode : regionCode (cmdTaken s BOB_RGN_CMD) 1 r = 0 := by
      rw [regionCode_cmdTaken, regionCode, hvalid, hst, hctx, beq_eq_false_iff_ne.2 (by omega : regionOwner s r ≠ 1024)]
      rfl
    let u := fset (cmdTaken s BOB_RGN_CMD) BOB_RGN_CMDSTAT.CODE 0
    have hbob : ∀ n, bob u n = bob s n := bob_fset_cmdTaken s _ _ _
    have hgo : regionCommand (cmdTaken s BOB_RGN_CMD) 1 r = regionBegun u r :=
      (regionCommand_start hcode).trans
        (startRegion_of_needle (m := m) r.isLt (by rw [hbob, hm]) (by rw [hbob]; exact hne))
    have honly := regionBegun_of_regsOnly (codeTaken_regsOnly s 0) r
    have hregs := (regionBegun_only u r).2
    have hother : ∀ o, o ≠ BOB_RGN_CMDSTAT → o ≠ BOB_RGN_STAT r → getReg (regionBegun u r) o = getReg s o := fun o ho hor => by
      rw [hregs, getReg_setReg_ne _ hor, getReg_codeTaken s 0 ho]
    have hsweep : testSweep (regionBegun u r) = regionBegun u r := by
      refine testSweep_of_kept (testFree_of_accepts hacc) (hother _ (by decide) ?_) (by rw [honly])
      unfold CTL_TEST_STAT BOB_RGN_STAT
      omega
    refine ⟨regionBegun u r, (writeNum_rgnCmd (op := 1) (by decide) hacc).trans ?_, ?_, ?_, fun n hn => ?_, fun o ho => ?_, ?_⟩
    · rw [hgo, hsweep]
    · rw [fget_of_getReg_eq (f := BOB_RGN_CMDSTAT.CODE) (hregs _), fget_setReg_ne _ _ ?_]
      · exact fget_fset_same _ BOB_RGN_CMDSTAT.CODE 0 (by decide)
      · show 0x2800008 ≠ 0x2800100 + 8 * r.val
        omega
    · rw [hregs, getReg_setReg_same]
    · obtain ⟨hstart, hbegun⟩ := bob_regionBegun u r.isLt n
      rw [hbob] at hstart hbegun
      obtain ⟨hq, hi, -⟩ := hbegun hn
      exact ⟨hq, hi, by rw [hstart], by rw [hstart], fun i hi4 => needle_begun (hbegun hn) hi4⟩
    · rw [Bool.or_eq_false_iff, beq_eq_false_iff_ne, beq_eq_false_iff_ne] at ho
      exact hother o ho.1 ho.2
    · exact honly
  · refine ⟨_, writeNum_rgnCmd (op := 1) (by decide) hacc, fun hvalid => ?_, fun hvalid hst => ?_, fun hvalid hst hctx => ?_⟩
    · rw [regionCommand_refused (op := 1) (code := 3) (by decide) ?_ (by decide)]
      · exact codeShown (testFree_of_accepts hacc) (by decide)
      · rw [regionCode_cmdTaken, regionCode, hvalid]
        rfl
    · rw [regionCommand_refused (op := 1) (code := 1) (by decide) ?_ (by decide)]
      · exact codeShown (testFree_of_accepts hacc) (by decide)
      · rw [regionCode_cmdTaken, regionCode, hvalid, bne_iff_ne.2 hst]
        rfl
    · rw [regionCommand_refused (op := 1) (code := 2) (by decide) ?_ (by decide)]
      · exact codeShown (testFree_of_accepts hacc) (by decide)
      · rw [regionCode_cmdTaken, regionCode, hvalid, hst, bne_iff_ne.2 hctx, Bool.or_true]
        rfl
  · have hcode : regionCode (cmdTaken s BOB_RGN_CMD) 2 r = 0 := by
      rw [regionCode_cmdTaken, regionCode, hvalid, hst]
      rfl
    let u := fset (cmdTaken s BOB_RGN_CMD) BOB_RGN_CMDSTAT.CODE 0
    have hgo : regionCommand (cmdTaken s BOB_RGN_CMD) 2 r = regionStopped u r 1 :=
      (regionCommand_stop hcode).trans (stopRegion_eq u r)
    have hother : ∀ o, o < 0x2C00000 → signalReg o = false → o ≠ BOB_RGN_STAT r → getReg (regionStopped u r 1) o = getReg u o :=
      fun o hlow ho hne => getReg_regionStopped u r.isLt 1 hlow ho hne
    have hsweep : testSweep (regionStopped u r 1) = regionStopped u r 1 := by
      refine testSweep_of_kept (testFree_of_accepts hacc) ((hother _ (by decide) (by decide) ?_).trans (getReg_codeTaken s 0 (by decide)))
        (test_regionStopped u r.isLt 1)
      unfold CTL_TEST_STAT BOB_RGN_STAT
      omega
    refine ⟨regionStopped u r 1, (writeNum_rgnCmd (op := 2) (by decide) hacc).trans ?_, ?_, regionState_regionStopped u r.isLt 1, ?_,
      fun n hn => ?_⟩
    · rw [hgo, hsweep]
    · rw [fget_of_getReg_eq (f := BOB_RGN_CMDSTAT.CODE) (hother _ (by decide) (by decide) ?_)]
      · exact fget_fset_same _ BOB_RGN_CMDSTAT.CODE 0 (by decide)
      · show 0x2800008 ≠ 0x2800100 + 8 * r.val
        omega
    · refine (fget_regionStopped u r.isLt 1 (f := BOB_RGN_STAT.FAULT r) rfl (show 3 ≤ 4 by decide)).trans ?_
      refine fget_of_getReg_eq (f := BOB_RGN_STAT.FAULT r) (getReg_codeTaken s 0 ?_)
      show 0x2800100 + 8 * r.val ≠ 0x2800008
      omega
    · have hbob : bob u n = bob s n := bob_fset_cmdTaken s _ _ _ n
      obtain ⟨hneedles, hmma, hvop, hcopy, hsend, hqueues, hinlets⟩ := emptied_clearRegion (s := u) (m := n) r.isLt (by rw [hbob, hn])
      rw [bob_regionStopped u r.isLt 1 n]
      refine ⟨hneedles, hqueues, hinlets, hmma, hvop, hcopy, hsend, ?_⟩
      rw [(clearRegion_stopWork u r).2 n, hbob]
  · refine ⟨_, writeNum_rgnCmd (op := 2) (by decide) hacc, ?_⟩
    rw [regionCommand_refused (op := 2) (code := 1) (by decide) ?_ (by decide)]
    · exact codeShown (testFree_of_accepts hacc) (by decide)
    · rw [regionCode_cmdTaken, regionCode, hvalid, bne_iff_ne.2 hst]
      rfl

end Sys2Proof.Machine
end

section
/-! SUPPORT. A TLOC that removes the token it posts: it refutes O40. -/

namespace Sys2Proof.Machine

open Claim

/-- TLOC with P set and W clear: it posts to Q0, G1 as the token's W0, and removes the head of Q0. -/
def tlocPop : Word := BitVec.ofNat 64 (0x08 * 2 ^ 56 + 2 ^ 54 + 2 ^ 42)

/-- Needle 0 of bobbin 0, with 8 in G1, stands at it, and Q0 is empty. -/
def tlocState : State :=
  { sys := { powered := true }, regs := [(BOB_RGN_STAT 0, BitVec.ofNat 64 rRUNNING)],
    bob := { bobs := [(0, { region := 0, record := { prog := [tlocPop, 0] }, needles := [(0, { running := true, regs := [(1, 8)] })] })] } }

/-- What the stitch posts. -/
def tlocPost (s : State) (b : Bobbin) (w : Word) : Fired :=
  .go (pushToken s 0 (bits (sImm w) 4 4)
    { hdr := sentHdr s 0 0 (regionGen s b.region) (bits (sImm w) 4 4), w0 := vRa b 0 w, w1 := vRb b 0 w, w2 := vRd b 0 w }) (nextPc b 0)

/-- The needle fires, and Q0 is empty again: its last token is none, with W0 zero. -/
theorem tlocState_fires :
    canFire tlocState 0 0 = true ∧ sOp (stitchAt (bob tlocState 0) 0) = 0x08 ∧
      (bob tlocState 0).progBad.contains (needle (bob tlocState 0) 0).pc = false ∧
      nextPc (bob tlocState 0) 0 < (bob tlocState 0).record.prog.length ∧
      (((queueOf (bob (fireOp tlocState 0 0 0x08 tlocPost) 0) (sImm (stitchAt (bob tlocState 0) 0) / 16 % 16)).getLast?).getD {}).w0 ≠
        vRa (bob tlocState 0) 0 (stitchAt (bob tlocState 0) 0) := by
  decide

/-- Refutes O40: its clause for TLOC takes the posted token to be the last of its queue. In `tlocState` the queue was empty and P
removes the token just posted. -/
theorem not_stitches : ¬ Obligations.Stitches := by
  unfold Obligations.Stitches
  intro h
  obtain ⟨-, -, -, -, -, -, -, -, -, -, -, -, -, -, -, -, -, -, -, -, -, -, -, -, htloc, -⟩ := h
  obtain ⟨hcan, hop, hread, hnext, hlost⟩ := tlocState_fires
  obtain ⟨t, ht, -, -, hposted, -⟩ := htloc 0 0 tlocState ⟨rfl, hcan, hop, hread, hnext⟩
  have hexec : exec (.tloc 0 0) tlocState = .next (fireOp tlocState 0 0 0x08 tlocPost) :=
    live_of_powered rfl fun s => fireOp s 0 0 0x08 tlocPost
  rw [← Host.Outcome.next.inj (hexec.symm.trans ht)] at hposted
  exact hlost hposted

end Sys2Proof.Machine
end

section
/-! SUPPORT. What a frame that the module originates leaves (chapters 6, 7 and 11). -/

namespace Sys2Proof.Machine

open Claim

/-! Registers that count what becomes of a frame. -/

/-- Registers that an originated frame may touch: what events record and count, broadcast's event apart, and counters of drops,
marks and frames sent. -/
def sendReg (o : Nat) : Bool :=
  recordReg o || (0x3420000 ≤ o && o < 0x3428400 && o != PMC_EVT 0xD08) || inPortPage o || (0x1000000 ≤ o && o % 4096 == 0x1A0) ||
    inCtxCount o || (BOB_SEND 0 ≤ o && o < BOB_SEND 64) || (PMC_STALE_RGN 0 ≤ o && o < PMC_STALE_RGN 64) ||
    (SWC_PUSHOUT 0 ≤ o && o < SWC_TRUNC 4) || (FLT_DROP_FENCED ≤ o && o ≤ FLT_DROP_DIE) || o == TBL_NACK_RX || o == TBL_ORIG_DROP

theorem sendReg_page {L c : Nat} (hL : L < 1024) (hc : c < 0x1000) : sendReg (portPage L + c) = true := by
  have hpage : inPortPage (portPage L + c) = true := by
    unfold inPortPage portPage
    rw [Bool.and_eq_true, decide_eq_true_eq, decide_eq_true_eq]
    omega
  simp [sendReg, hpage]

theorem sendReg_egrDrop (L : Nat) : sendReg (PRT_EGR_DROP L) = true := by
  have hpage : (decide (0x1000000 ≤ PRT_EGR_DROP L) && PRT_EGR_DROP L % 4096 == 0x1A0) = true := by
    unfold PRT_EGR_DROP portPage
    rw [Bool.and_eq_true, decide_eq_true_eq, beq_iff_eq]
    omega
  simp [sendReg, hpage]

theorem sendReg_ctx {x i : Nat} (hx : x < 1024) (hi : i < 64) : sendReg (PMC_CTXPAGE x i) = true := by
  have hctx : inCtxCount (PMC_CTXPAGE x i) = true := by
    unfold inCtxCount PMC_CTXPAGE
    rw [Bool.and_eq_true, decide_eq_true_eq, decide_eq_true_eq]
    omega
  simp [sendReg, hctx]

theorem sendReg_bobSend {r : Nat} (hr : r < 64) : sendReg (BOB_SEND r) = true := by
  have hsend : (decide (BOB_SEND 0 ≤ BOB_SEND r) && decide (BOB_SEND r < BOB_SEND 64)) = true := by
    unfold BOB_SEND
    rw [Bool.and_eq_true, decide_eq_true_eq, decide_eq_true_eq]
    omega
  simp [sendReg, hsend]

theorem sendReg_stale {r : Nat} (hr : r < 64) : sendReg (PMC_STALE_RGN r) = true := by
  have hstale : (decide (PMC_STALE_RGN 0 ≤ PMC_STALE_RGN r) && decide (PMC_STALE_RGN r < PMC_STALE_RGN 64)) = true := by
    unfold PMC_STALE_RGN
    rw [Bool.and_eq_true, decide_eq_true_eq, decide_eq_true_eq]
    omega
  simp [sendReg, hstale]

theorem sendReg_push {d : Nat} (hd : d < 4) : sendReg (SWC_PUSHOUT d) = true ∧ sendReg (SWC_TRUNC d) = true := by
  have hpush : (decide (SWC_PUSHOUT 0 ≤ SWC_PUSHOUT d) && decide (SWC_PUSHOUT d < SWC_TRUNC 4)) = true := by
    unfold SWC_PUSHOUT SWC_TRUNC
    rw [Bool.and_eq_true, decide_eq_true_eq, decide_eq_true_eq]
    omega
  have htrunc : (decide (SWC_PUSHOUT 0 ≤ SWC_TRUNC d) && decide (SWC_TRUNC d < SWC_TRUNC 4)) = true := by
    unfold SWC_PUSHOUT SWC_TRUNC
    rw [Bool.and_eq_true, decide_eq_true_eq, decide_eq_true_eq]
    omega
  exact ⟨by simp [sendReg, hpush], by simp [sendReg, htrunc]⟩

theorem sendReg_evt {block code : Nat} (h : 256 * block + code < 0x1080) (hne : 256 * block + code ≠ 0xD08) :
    sendReg (PMC_EVT (256 * block + code)) = true := by
  have hevt : (decide (0x3420000 ≤ PMC_EVT (256 * block + code)) && decide (PMC_EVT (256 * block + code) < 0x3428400) &&
      PMC_EVT (256 * block + code) != PMC_EVT 0xD08) = true := by
    rw [Bool.and_eq_true, Bool.and_eq_true, decide_eq_true_eq, decide_eq_true_eq, bne_iff_ne]
    unfold PMC_EVT
    omega
  simp [sendReg, hevt]

/-! What stays. -/

/-- A bobbin but for which of its SENDs have crossed. -/
def sendKept (b : Bobbin) : Bobbin × List (Nat × List Byte × Nat) :=
  ({ b with send := [] }, b.send.map fun k => (k.needle, k.desc, k.frameId))

/-- What no originated frame changes: bobbins but for which SENDs have crossed, and all else but queues, ports, free values, and
what counts and signals. -/
def originKept (s : State) : State × (Nat → Bobbin × List (Nat × List Byte × Nat)) × (Nat → Word) :=
  ({ s with regs := [], free := 0, out := [], ports := [], core := {}, tbl := {}, bob := {}, host := {}, evr := {}, tel := {} },
    fun m => sendKept (bob s m), fun o => if sendReg o then 0 else getReg s o)

/-- Where `originKept` stays, bobbins, registers and other parts of the state are as before. -/
theorem sendKept_of_originKept {s t : State} (h : originKept t = originKept s) (m : Nat) : sendKept (bob t m) = sendKept (bob s m) :=
  congrFun (congrArg (fun x => x.2.1) h) m

theorem getReg_of_originKept {s t : State} (h : originKept t = originKept s) {o : Nat} (ho : sendReg o = false) :
    getReg t o = getReg s o := by
  have hreg := congrFun (congrArg (fun x => x.2.2) h) o
  simpa [originKept, ho] using hreg

theorem flt_of_originKept {s t : State} (h : originKept t = originKept s) : t.flt = s.flt := congrArg (fun x => x.1.flt) h

theorem mem_of_originKept {s t : State} (h : originKept t = originKept s) : t.mem = s.mem := congrArg (fun x => x.1.mem) h

theorem mono_of_originKept {s t : State} (h : originKept t = originKept s) : t.mono = s.mono := congrArg (fun x => x.1.mono) h

theorem originKept_setReg {o : Nat} (ho : sendReg o = true) (s : State) (v : Word) : originKept (setReg s o v) = originKept s := by
  refine Prod.ext rfl (Prod.ext rfl (funext fun x => ?_))
  show (if sendReg x then 0 else getReg (setReg s o v) x) = if sendReg x then 0 else getReg s x
  rcases eq_or_ne x o with rfl | hne
  · rw [if_pos ho, if_pos ho]
  · rw [getReg_setReg_ne s hne]

theorem originKept_bump {o : Nat} (ho : sendReg o = true) (s : State) : originKept (bump s o) = originKept s := originKept_setReg ho s _

@[simp] theorem originKept_setPort (s : State) (L : Nat) (f : PortSt → PortSt) : originKept (setPort s L f) = originKept s := (rfl)
@[simp] theorem originKept_setCore (s : State) (f : CoreSt → CoreSt) : originKept (setCore s f) = originKept s := (rfl)
@[simp] theorem originKept_setTbl (s : State) (f : TblSt → TblSt) : originKept (setTbl s f) = originKept s := (rfl)
@[simp] theorem originKept_setTel (s : State) (f : TelSt → TelSt) : originKept (setTel s f) = originKept s := (rfl)
@[simp] theorem originKept_setVoq (s : State) (k : Nat) (f : Voq → Voq) : originKept (setVoq s k f) = originKept s := (rfl)
@[simp] theorem originKept_draw (s : State) : originKept (draw s).2 = originKept s := (rfl)
@[simp] theorem originKept_newId (s : State) : originKept (newId s).2 = originKept s := (rfl)

@[simp] theorem originKept_ite {c : Prop} [Decidable c] (a b : State) :
    originKept (if c then a else b) = if c then originKept a else originKept b := apply_ite originKept c a b

@[simp] theorem originKept_forEach {β : Type} {f : State → β → State} (hf : ∀ s a, originKept (f s a) = originKept s) (l : List β)
    (s : State) : originKept (forEach l s f) = originKept s :=
  forEach_keeps (P := fun t => originKept t = originKept s) (fun t a _ h => (hf t a).trans h) rfl

/-! Events. -/

/-- What signals, and touches only registers of records. -/
theorem originKept_of_record {s t : State} (hst : signalsOnly s t) (hregs : regsBut recordReg s t) : originKept t = originKept s := by
  unfold signalsOnly at hst
  refine Prod.ext ?_ (Prod.ext ?_ (funext fun o => ?_))
  · rw [hst]
    rfl
  · rw [hst]
    rfl
  · show (if sendReg o then 0 else getReg t o) = if sendReg o then 0 else getReg s o
    cases hsend : sendReg o
    · refine congrArg (ite _ _) (hregs o ?_)
      cases hrec : recordReg o
      · rfl
      · simp [sendReg, hrec] at hsend
    · rfl

@[simp] theorem originKept_setEvr (s : State) (f : EvrSt → EvrSt) : originKept (setEvr s f) = originKept s := (rfl)

@[simp] theorem originKept_evrOffer (s : State) (r : Rec) : originKept (evrOffer s r) = originKept s :=
  originKept_of_record (evrOffer_signals s r).1 (evrOffer_regsBut s r)

theorem originKept_eventLim {block code : Nat} (h : 256 * block + code < 0x1080) (hne : 256 * block + code ≠ 0xD08) (s : State)
    (key len sev die ctx unit : Nat) (data : List Byte) :
    originKept (eventLim s key len block code sev die ctx unit data) = originKept s := by
  have hcount := originKept_bump (sendReg_evt h hne) s
  unfold eventLim
  dsimp only
  split <;> simp [hcount]

/-! Frames lost. -/

@[simp] theorem originKept_ctxBump (s : State) (x n : Nat) {i : Nat} (hi : i < 64) : originKept (ctxBump s x i n) = originKept s := by
  unfold ctxBump
  split
  · next hx => exact originKept_setReg (sendReg_ctx hx hi) s _
  · rfl

@[simp] theorem originKept_creditReturn (s : State) (f : Frame) : originKept (creditReturn s f) = originKept s := by
  simp [creditReturn]

@[simp] theorem originKept_releaseCharge (s : State) (f : Frame) : originKept (releaseCharge s f) = originKept s := by
  simp [releaseCharge]

/-- SENDs marked as crossed. -/
theorem sendKept_crossed (b : Bobbin) (id : Nat) :
    sendKept { b with send := b.send.map fun w => if w.frameId == id then { w with crossed := true } else w } = sendKept b := by
  refine Prod.ext rfl ?_
  show (b.send.map _).map _ = b.send.map _
  rw [List.map_map]
  refine List.map_congr_left fun w _ => ?_
  show (fun k : Work => (k.needle, k.desc, k.frameId)) (if w.frameId == id then { w with crossed := true } else w) = _
  split <;> rfl

@[simp] theorem originKept_sendCrossed (s : State) (f : Frame) : originKept (sendCrossed s f) = originKept s := by
  unfold sendCrossed
  split
  · rfl
  · next n _ =>
    refine Prod.ext rfl (Prod.ext (funext fun m => ?_) rfl)
    show sendKept (bob (setBobbin s n _) m) = sendKept (bob s m)
    rcases eq_or_ne m n with rfl | hne
    · rw [bob_setBobbin_same]
      exact sendKept_crossed _ _
    · rw [bob_setBobbin_ne _ hne]

@[simp] theorem originKept_frameCrossed (s : State) (f : Frame) : originKept (frameCrossed s f) = originKept s := by
  unfold frameCrossed
  split
  · simp
  · dsimp only
    split
    · next hr => rw [originKept_sendCrossed, originKept_bump (sendReg_bobSend hr)]
    · simp

@[simp] theorem originKept_copyDrop (s : State) (f : Frame) : originKept (copyDrop s f) = originKept s :=
  originKept_ctxBump s _ _ (by decide)

@[simp] theorem originKept_ctxDrop (s : State) (f : Frame) : originKept (ctxDrop s f) = originKept s := by
  rw [ctxDrop, originKept_sendCrossed, originKept_ctxBump _ _ _ (by decide)]

@[simp] theorem originKept_discardFrame (s : State) (f : Frame) : originKept (discardFrame s f) = originKept s := by
  simp [discardFrame]

@[simp] theorem originKept_mcUnref (s : State) (m : Nat) : originKept (mcUnref s m) = originKept s := by
  simp [mcUnref, mcFree]

@[simp] theorem originKept_voqErase (s : State) (k n : Nat) (e : QEnt) : originKept (voqErase s k n e) = originKept s := by
  simp [voqErase, trimVoq]

@[simp] theorem originKept_giveUp (s : State) (o : Nat) (f : Frame) : originKept (giveUp s o f) = originKept s := by
  simp [giveUp, egrRelease]

/-! Push-out (R143). -/

theorem originKept_pushMulticast (s : State) {k : Nat} (hk : voqDie k < 4) (f : Frame) :
    originKept (pushMulticast s k f) = originKept s := by
  have hdrops := fun (u : State) (p : Nat) => originKept_bump (sendReg_egrDrop p) u
  have htrunc := originKept_bump (sendReg_push hk).2 s
  unfold pushMulticast
  dsimp only
  split <;> simp [hdrops, htrunc]

theorem originKept_pushTail (s : State) {k : Nat} (hk : voqDie k < 4) : originKept (pushTail s k) = originKept s := by
  have htrunc := fun u => originKept_bump (sendReg_push hk).2 u
  have hpush := fun u => originKept_bump (sendReg_push hk).1 u
  have hdrop := fun (u : State) (p : Nat) => originKept_bump (sendReg_egrDrop p) u
  have hingress : ∀ (u : State) (f : Frame), originKept (if f.ingress < 1024 then bump u (PRT_DROP_PUSH f.ingress) else u) =
      originKept u := fun u f => by
    split
    · next hL => exact originKept_bump (sendReg_page hL (by decide)) u
    · rfl
  unfold pushTail
  dsimp only
  split
  · rfl
  · next e _ =>
    cases e with
    | ref m b => simp [htrunc, hdrop]
    | frame f => simp only [originKept_ite, originKept_pushMulticast _ hk, originKept_discardFrame, hpush, hingress, originKept_voqErase,
        originKept_giveUp, htrunc, ite_self]

theorem originKept_pushQueue (need : Nat) {k : Nat} (hk : voqDie k < 4) (fuel : Nat) (s : State) :
    originKept (pushQueue need k fuel s) = originKept s := by
  induction fuel generalizing s with
  | zero => rfl
  | succ fuel ih => simp [pushQueue, ih, originKept_pushTail s hk]

/-- The deepest lossy queue of a die is one of its own. -/
theorem voqDie_of_deepestLossy {s : State} {d k : Nat} (h : deepestLossy s d = some k) : voqDie k = d := by
  unfold deepestLossy at h
  obtain ⟨p, hp, rfl⟩ := Option.map_eq_some_iff.1 h
  refine List.foldlRecOn (motive := fun b : Option (Nat × Nat) => ∀ p ∈ b, voqDie p.1 = d) s.core.voqs _
    (fun p hp => absurd hp (Option.not_mem_none p)) (fun b hb e _ => ?_) p hp
  obtain ⟨k, q⟩ := e
  dsimp only
  split
  · next hc =>
    rw [Bool.and_eq_true, Bool.and_eq_true, beq_iff_eq] at hc
    obtain ⟨⟨hdie, -⟩, -⟩ := hc
    have hnew : ∀ p ∈ some (k, voqDepth s k), voqDie p.1 = d := by
      rintro p hp
      rw [← Option.mem_some.1 hp]
      exact hdie
    cases b with
    | none => exact hnew
    | some q =>
      dsimp only
      split
      · exact hnew
      · exact hb
  · exact hb

theorem originKept_pushOut (need : Nat) {d : Nat} (hd : d < 4) (fuel : Nat) (s : State) :
    originKept (pushOut need d fuel s) = originKept s := by
  induction fuel generalizing s with
  | zero => rfl
  | succ fuel ih =>
    unfold pushOut
    split
    · rfl
    · split
      · rfl
      · next hk => rw [ih, originKept_pushQueue need (by rw [voqDie_of_deepestLossy hk]; exact hd)]

/-! Admission and egress (R138 to R144). -/

@[simp] theorem originKept_queueFrame (s : State) (k : Nat) (f : Frame) : originKept (queueFrame s k f) = originKept s := (rfl)

@[simp] theorem originKept_mcStore (s : State) (k : Nat) (f : Frame) : originKept (mcStore s k f) = originKept s := by
  simp [mcStore]

@[simp] theorem originKept_enqueue (s : State) (k : Nat) (f : Frame) : originKept (enqueue s k f) = originKept s := by
  simp [enqueue]

theorem originKept_dropAtAdmission (s : State) (f : Frame) {c : Nat} (hc : c < 0x1000) :
    originKept (dropAtAdmission s f (portPage f.ingress + c)) = originKept s := by
  unfold dropAtAdmission
  split
  · next hL => simp [originKept_bump (sendReg_page hL hc)]
  · simp

@[simp] theorem originKept_telEcn (s : State) (f : Frame) : originKept (telEcn s f) = originKept s := (rfl)

theorem originKept_admitFrame (s : State) {f : Frame} (hf : f.idie < 4) : originKept (admitFrame s f) = originKept s := by
  have hpush := fun u => originKept_pushOut (newCells (voq s (voqFor f)) (frameLen f)) hf (s.core.voqs.length + 1) u
  have hdraw := originKept_draw s
  have hmark : ∀ u : State, originKept (if f.ingress < 1024 then bump u (PRT_ECN_MARK f.ingress) else u) = originKept u := fun u => by
    split
    · next hL => exact originKept_bump (sendReg_page hL (by decide)) u
    · rfl
  have hadm := fun u => originKept_dropAtAdmission u f (c := 0x180) (by decide)
  have hecn := fun u => originKept_dropAtAdmission u f (c := 0x198) (by decide)
  have hctx := fun (u : State) (x n : Nat) => originKept_ctxBump u x n (show 14 < 64 by decide)
  have hctx0 := fun (u : State) (x n : Nat) => originKept_ctxBump u x n (show 0 < 64 by decide)
  have hctx1 := fun (u : State) (x n : Nat) => originKept_ctxBump u x n (show 1 < 64 by decide)
  unfold admitFrame
  dsimp only
  simp only [originKept_ite, PRT_DROP_ADM, PRT_ECN_DROP, hadm, hecn, hctx, hctx0, hctx1, hpush, hmark, hdraw, originKept_creditReturn,
    originKept_enqueue, originKept_telEcn, ite_self]

theorem originKept_egressState (s : State) {f : Frame} (hf : f.idie < 4) : originKept (egressState s f) = originKept s := by
  have hegr := originKept_bump (sendReg_egrDrop f.dec) s
  have horig := originKept_bump (o := TBL_ORIG_DROP) (by decide) s
  have hdie := originKept_bump (o := FLT_DROP_DIE) (by decide) s
  have hfield : (¬ f.eth && ((hUnord f.hdr && decide (fget s (PRT_JLP.VER f.dec) < 2)) ||
      (hEnc f.hdr && decide (fget s (PRT_JLP.VER f.dec) < 3))) && decide (f.ingress < 1024)) = true →
      originKept (bump s (PRT_RX_FIELD f.ingress)) = originKept s := fun h => by
    rw [Bool.and_eq_true, decide_eq_true_eq] at h
    exact originKept_bump (sendReg_page h.2 (by decide)) s
  unfold egressState
  dsimp only
  split_ifs with _ _ _ _ hver <;> simp [hegr, horig, hdie, originKept_admitFrame s hf]
  exact hfield (by simpa using hver)

/-! Frames that the module originates (R167, R369, R497). -/

@[simp] theorem originKept_lookGroup (s : State) (d g h c : Nat) (unord : Bool) (rw : Option Rewrite) :
    originKept (lookGroup s d g h c unord rw).1 = originKept s := by
  unfold lookGroup
  split
  · rfl
  · dsimp only
    split_ifs <;> rfl

theorem originKept_lookFabric (s : State) (d : Nat) (f : Frame) : originKept (lookFabric s d f).1 = originKept s := by
  unfold lookFabric
  dsimp only
  split_ifs
  · split
    · rfl
    · split_ifs <;> rfl
  · rfl
  · rfl
  · split
    · rfl
    · split
      · rfl
      · exact originKept_lookGroup s _ _ _ _ _ _
      · rfl

theorem originKept_originFence {s : State} {h : BitVec 256} {o : Nat} (hf : originFence s h = some o) (u : State) :
    originKept (bump u o) = originKept u := by
  have ho : o = FLT_DROP_FENCED ∨ o = FLT_DROP_OLDINC ∨ o = FLT_DROP_NEWINC := by
    unfold originFence at hf
    dsimp only at hf
    split_ifs at hf <;> simp_all
  rcases ho with rfl | rfl | rfl <;> exact originKept_bump (by decide) u

/-- A frame's decision keeps what stays, and the frame its ingress die. (The functions that decide are generalized, and the general
statement fixed by `id`: the kernel would otherwise evaluate them.) -/
theorem originTo_spec (s : State) (d : Nat) (h : BitVec 256) (body : List Byte) (b : Option Nat) :
    originKept (originTo s d h body b).1 = originKept s ∧ ∀ f ∈ (originTo s d h body b).2, f.idie = d := by
  have hlook := originKept_lookFabric
  have hfence := @originKept_originFence
  have hnack := fun u => originKept_bump (o := TBL_NACK_RX) (by decide) u
  have horig := fun u => originKept_bump (o := TBL_ORIG_DROP) (by decide) u
  unfold originTo
  generalize lookFabric = look at hlook ⊢
  generalize originFence = fence at hfence ⊢
  generalize ownOutput = own
  generalize sealHdr = sealed
  revert look fence own sealed
  refine @id _ fun look hlook fence hfence own sealed => ?_
  rw [← originKept_newId s]
  generalize newId s = p
  obtain ⟨n, u⟩ := p
  dsimp only
  split
  · next hoff => exact ⟨by rw [originKept_ctxDrop, hfence hoff], fun f hf => absurd hf (Option.not_mem_none f)⟩
  · split
    · next heq => exact ⟨by rw [← hlook u d, heq], fun f hf => by rw [← Option.mem_some.1 hf]⟩
    · next heq => exact ⟨by rw [← hlook u d, heq], fun f hf => by rw [← Option.mem_some.1 hf]⟩
    · next heq =>
      rw [← hlook u d, heq]
      split
      · exact ⟨rfl, fun f hf => by rw [← Option.mem_some.1 hf]⟩
      · exact ⟨by rw [originKept_sendCrossed, hnack], fun f hf => absurd hf (Option.not_mem_none f)⟩
    · next heq =>
      rw [← hlook u d, heq]
      exact ⟨by rw [originKept_ctxDrop, horig], fun f hf => absurd hf (Option.not_mem_none f)⟩

theorem originKept_originate (s : State) {d : Nat} (hd : d < 4) (h : BitVec 256) (body : List Byte) :
    originKept (originate s d h body) = originKept s := by
  obtain ⟨hkept, hidie⟩ := originTo_spec s d h body none
  unfold originate
  split
  · next heq =>
    rw [heq] at hkept hidie
    exact (originKept_egressState _ (by rw [hidie _ rfl]; exact hd)).trans hkept
  · next heq =>
    rw [heq] at hkept
    exact hkept

/-! Frames that a unit does not take (R71, R115). -/

theorem originKept_sendNack (s : State) {d : Nat} (hd : d < 4) (h : BitVec 256) (reason kind unit gen : Nat) :
    originKept (sendNack s d h reason kind unit gen) = originKept s := by
  have hctx := originKept_ctxBump s (hCtx h) 1 (show 6 < 64 by decide)
  unfold sendNack
  split
  · rfl
  · dsimp only
    rw [originKept_originate _ hd, originKept_ite, hctx, ite_self]

theorem originKept_staleRole (s : State) {d : Nat} (hd : d < 4) (f : Frame) (kind : Nat) {unit : Nat} (hunit : kind = 1 → unit < 64)
    (gen owner : Nat) : originKept (staleRole s d f kind unit gen owner) = originKept s := by
  have hctx := originKept_ctxBump s owner 1 (show 5 < 64 by decide)
  have hevent := fun u a b c => originKept_eventLim (block := 2) (code := 2) (by decide) (by decide) u a b c
  have hstale : ∀ u : State, originKept (if kind == 1 then bump u (PMC_STALE_RGN unit) else u) = originKept u := fun u => by
    split
    · next hk => exact originKept_bump (sendReg_stale (hunit (beq_iff_eq.1 hk))) u
    · rfl
  unfold staleRole staleEvent unitDrop
  dsimp only
  rw [originKept_sendNack _ hd, hevent, hstale, originKept_ctxDrop, hctx]

theorem dataRegion_lt (h : BitVec 256) : dataRegion h < 64 := Nat.mod_lt _ (by decide)

theorem originKept_roleStage {s t : State} {f : Frame} (hf : f.idie < 4) (h : roleStage s f = some t) : originKept t = originKept s := by
  have hstale := fun (u : State) (kind unit gen owner : Nat) hunit => originKept_staleRole u hf f kind (unit := unit) hunit gen owner
  have hcheck := fun u a b c => originKept_eventLim (block := 9) (code := 1) (by decide) (by decide) u a b c
  unfold roleStage picCheck at h
  dsimp only at h
  split_ifs at h
  · rw [← Option.some.inj h, hcheck, hstale _ _ _ _ _ fun h => absurd h (by decide)]
  · rw [← Option.some.inj h, hstale _ _ _ _ _ fun h => absurd h (by decide)]
  · rw [← Option.some.inj h, hstale _ _ _ _ _ fun _ => dataRegion_lt _]

/-- A SEND's frame changes at most which SENDs have crossed. -/
theorem originKept_originateSend (s : State) {d : Nat} (hd : d < 4) (h : BitVec 256) (body : List Byte) (n : Nat) :
    originKept (originateSend s d h body n) = originKept s := by
  obtain ⟨hkept, hidie⟩ := originTo_spec s d h body (some n)
  unfold originateSend
  split
  · next heq =>
    rw [heq] at hkept
    exact hkept
  · next u f heq =>
    rw [heq] at hkept hidie
    have hf : f.idie < 4 := by rw [hidie f rfl]; exact hd
    have hegr := originKept_bump (sendReg_egrDrop f.dec) u
    have horig := originKept_bump (o := TBL_ORIG_DROP) (by decide) u
    have hdie := originKept_bump (o := FLT_DROP_DIE) (by decide) u
    rw [← hkept]
    dsimp only
    split
    · next hrole =>
      split at hrole
      · exact originKept_roleStage hf hrole
      · cases hrole
    · split_ifs <;> simp [hegr, horig, hdie]

end Sys2Proof.Machine
end

section
/-! SUPPORT. Firing of stitches (R281 to R284), and what a fault of one leaves. -/

namespace Sys2Proof.Machine

open Claim

/-! What a needle that may fire stands at. -/

/-- A needle that may fire belongs to a region that is RUNNING. -/
theorem region_of_canFire {s : State} {n j : Nat} (h : canFire s n j = true) :
    (bob s n).region < 64 ∧ regionState s (bob s n).region = rRUNNING := by
  unfold canFire at h
  simp only [Bool.and_eq_true, decide_eq_true_eq, beq_iff_eq] at h
  obtain ⟨⟨⟨⟨⟨-, hr⟩, hst⟩, -⟩, -⟩, -⟩ := h
  exact ⟨hr, hst⟩

/-! Firing. -/

/-- The head token of the stitch's queue removed where P is set. -/
def tokenTaken (s : State) (n : Nat) (w : Word) : State :=
  if sP w then setBobbin s n fun b => { b with queues := tmod [] b.queues (sTq w) (·.drop 1) } else s

/-- The needle stepped on to stitch `next`. -/
def stepped (s : State) (n j : Nat) (w : Word) (next : Nat) : State :=
  setNeedle (tokenTaken s n w) n j fun d => { d with pc := next, issueAt := s.mono + 1 }

section
variable {s : State} {n j : Nat} {p : Bobbin → Word → Bool} {f : State → Bobbin → Word → Fired}

theorem fire_go (hcan : canFire s n j = true) (hp : p (bob s n) (stitchAt (bob s n) j) = true)
    (hread : (bob s n).progBad.contains (needle (bob s n) j).pc = false) {t : State} {next : Nat}
    (hgo : f s (bob s n) (stitchAt (bob s n) j) = .go t next) (hnext : next < (bob s n).record.prog.length) :
    fire s n j p f = stepped t n j (stitchAt (bob s n) j) next := by
  unfold fire
  dsimp only
  rw [hcan, hp, if_neg (by decide), hread, if_neg (by decide), hgo]
  exact if_neg (Nat.not_le.2 hnext)

theorem fire_fault (hcan : canFire s n j = true) (hp : p (bob s n) (stitchAt (bob s n) j) = true)
    (hread : (bob s n).progBad.contains (needle (bob s n) j).pc = false) {t : State} {code value : Nat}
    (hfault : f s (bob s n) (stitchAt (bob s n) j) = .fault t code value) :
    fire s n j p f = regionFault t n j (needle (bob s n) j).pc code value := by
  unfold fire
  dsimp only
  rw [hcan, hp, if_neg (by decide), hread, if_neg (by decide), hfault]

end

/-! What a step on leaves. -/

/-- Queues of a bobbin after the head token's removal. -/
def poppedQueues (b : Bobbin) (w : Word) : Tab (List Token) := if sP w then tmod [] b.queues (sTq w) (·.drop 1) else b.queues

/-- A state of which only bobbins changed. -/
def bobsOnly (s t : State) : Prop := t = { s with bob := t.bob }

theorem bobsOnly.trans {s t u : State} (h : bobsOnly s t) (k : bobsOnly t u) : bobsOnly s u := by
  unfold bobsOnly at *
  rw [k, h]

theorem bobsOnly_setBobbin (s : State) (n : Nat) (f : Bobbin → Bobbin) : bobsOnly s (setBobbin s n f) := rfl

theorem tokenTaken_spec (s : State) (n : Nat) (w : Word) :
    bob (tokenTaken s n w) n = { bob s n with queues := poppedQueues (bob s n) w } ∧ (∀ m, m ≠ n → bob (tokenTaken s n w) m = bob s m) ∧
      bobsOnly s (tokenTaken s n w) := by
  unfold tokenTaken poppedQueues
  by_cases hP : sP w = true
  · rw [if_pos hP, if_pos hP]
    exact ⟨bob_setBobbin_same _ _ _, fun m hm => bob_setBobbin_ne _ hm _, rfl⟩
  · rw [if_neg hP, if_neg hP]
    exact ⟨rfl, fun _ _ => rfl, rfl⟩

/-- The bobbin after the step: its queues, and the needle that fired. -/
def bobStepped (b : Bobbin) (j : Nat) (w : Word) (g : Needle → Needle) : Bobbin :=
  { b with queues := poppedQueues b w, needles := tmod {} b.needles j g }

theorem stepped_spec (s : State) (n j : Nat) (w : Word) (next : Nat) :
    bob (stepped s n j w next) n = bobStepped (bob s n) j w (fun d => { d with pc := next, issueAt := s.mono + 1 }) ∧
      (∀ m, m ≠ n → bob (stepped s n j w next) m = bob s m) ∧ bobsOnly s (stepped s n j w next) := by
  obtain ⟨hsame, hother, honly⟩ := tokenTaken_spec s n w
  refine ⟨?_, fun m hm => ?_, honly.trans rfl⟩
  · rw [stepped, setNeedle, bob_setBobbin_same, hsame]
    rfl
  · rw [stepped, setNeedle, bob_setBobbin_ne _ hm, hother m hm]

theorem needle_bobStepped (b : Bobbin) (j : Nat) (w : Word) (g : Needle → Needle) (i : Nat) :
    needle (bobStepped b j w g) i = if i = j then g (needle b j) else needle b i := tget_tmod _ _ _ _ _

/-! Faults of stitches (Table 11.8). -/

/-- A fault noted in the region's register. -/
def faultNoted (s : State) (n j pc code value : Nat) : State :=
  let r := (bob s n).region
  let s := fset (fset s (BOB_RGN_STAT.FAULT r) code) (BOB_RGN_STAT.FVALUE r) value
  let s := fset (fset s (BOB_RGN_STAT.FNEEDLE r) j) (BOB_RGN_STAT.FSTITCH r) pc
  fset s (BOB_RGN_STAT.FBOBBIN r) (bobIndex s n)

theorem regionFault_of_running {s : State} {n : Nat} (hrun : regionState s (bob s n).region = rRUNNING) (j pc code value : Nat) :
    regionFault s n j pc code value = regionStopped (faultNoted s n j pc code value) (bob s n).region 2 := by
  unfold regionFault
  dsimp only
  rw [hrun, if_neg (by decide)]
  rfl

/-- What the region's register then shows. -/
theorem fget_faultNoted (s : State) (n j pc code value : Nat) :
    fget (faultNoted s n j pc code value) (BOB_RGN_STAT.FAULT (bob s n).region) = code % 2 ^ 8 := by
  generalize hr : (bob s n).region = r
  unfold faultNoted
  dsimp only
  rw [hr, fget_fset_ne _ _ _ _ (.inr (.inl (show 4 + 8 ≤ 12 by decide))), fget_fset_ne _ _ _ _ (.inr (.inl (show 4 + 8 ≤ 21 by decide))),
    fget_fset_ne _ _ _ _ (.inr (.inl (show 4 + 8 ≤ 19 by decide))), fget_fset_ne _ _ _ _ (.inr (.inl (show 4 + 8 ≤ 36 by decide))),
    fget_fset_same _ _ _ (show 4 + 8 ≤ 64 by decide)]
  rfl

/-- What a fault at a stitch leaves in its region's register. -/
theorem regionFault_shows {s : State} {n j : Nat} (hr : (bob s n).region < 64) (hrun : regionState s (bob s n).region = rRUNNING)
    (pc code value : Nat) :
    fget (regionFault s n j pc code value) (BOB_RGN_STAT.FAULT (bob s n).region) = code % 2 ^ 8 ∧
      regionState (regionFault s n j pc code value) (bob s n).region = rWOVEN := by
  rw [regionFault_of_running hrun]
  exact ⟨(fget_regionStopped _ hr 2 rfl (show 3 ≤ 4 by decide)).trans (fget_faultNoted s n j pc code value),
    regionState_regionStopped _ hr 2⟩

end Sys2Proof.Machine
end

section
/-! SUPPORT. Reads of bobbin stores, and work that a stitch hands to its unit (R273, R275, R283). -/

namespace Sys2Proof.Machine

open Claim

/-! Reads of a store. -/

/-- From `s` to `t` bobbin n's store was read: at most single-bit errors were corrected and counted. -/
def ReadOnly (n : Nat) (s t : State) : Prop :=
  bob t n = { bob s n with eccOne := (bob t n).eccOne } ∧ (∀ m, m ≠ n → bob t m = bob s m) ∧
    regsBut (fun o => o == PMC_STORE_CE (bob s n).region) s t ∧ t = { s with regs := t.regs, bob := t.bob }

theorem ReadOnly.refl (n : Nat) (s : State) : ReadOnly n s s := ⟨rfl, fun _ _ => rfl, regsBut.refl _ s, rfl⟩

theorem ReadOnly.trans {n : Nat} {s t u : State} (h : ReadOnly n s t) (k : ReadOnly n t u) : ReadOnly n s u := by
  obtain ⟨hself, hother, hregs, hst⟩ := h
  obtain ⟨kself, kother, kregs, ktu⟩ := k
  have hregion : (bob t n).region = (bob s n).region := by rw [hself]
  rw [hregion] at kregs
  refine ⟨?_, fun m hm => (kother m hm).trans (hother m hm), hregs.trans kregs, ?_⟩
  · rw [kself, hself]
  · rw [ktu, hst]

theorem ReadOnly.ite {c : Prop} [Decidable c] {n : Nat} {s a b : State} (ha : ReadOnly n s a) (hb : ReadOnly n s b) :
    ReadOnly n s (if c then a else b) := by
  split <;> assumption

theorem ReadOnly.forEach {β : Type} {n : Nat} {l : List β} {f : State → β → State} (hf : ∀ s a, ReadOnly n s (f s a)) (s : State) :
    ReadOnly n s (forEach l s f) :=
  forEach_keeps (P := ReadOnly n s) (fun t a _ h => h.trans (hf t a)) (ReadOnly.refl n s)

theorem setBobbin_readOnly (s : State) (n : Nat) {f : Bobbin → Bobbin} (hf : ∀ b, f b = { b with eccOne := (f b).eccOne }) :
    ReadOnly n s (setBobbin s n f) :=
  ⟨by rw [bob_setBobbin_same, hf], fun m hm => bob_setBobbin_ne _ hm _, regsBut_of_regs_eq rfl, rfl⟩

theorem bob_bumpBy (s : State) (o k m : Nat) : bob (bumpBy s o k) m = bob s m := rfl

theorem bumpBy_readOnly (s : State) (n k : Nat) : ReadOnly n s (bumpBy s (PMC_STORE_CE (bob s n).region) k) := by
  refine ⟨?_, fun m _ => bob_bumpBy s _ k m, ?_, ?_⟩
  · rw [bob_bumpBy]
  · generalize PMC_STORE_CE (bob s n).region = o
    exact regsBut_setReg (own := fun x => x == o) s (beq_self_eq_true o) _
  · generalize PMC_STORE_CE (bob s n).region = o
    rfl

theorem storeFix_readOnly (s : State) (n a len : Nat) : ReadOnly n s (storeFix s n a len) := by
  have hfixed := setBobbin_readOnly s n (f := fun b => { b with eccOne := b.eccOne.filter fun w => !wordIn a len w }) fun _ => rfl
  have hcount := fun k => bumpBy_readOnly (setBobbin s n fun b => { b with eccOne := b.eccOne.filter fun w => !wordIn a len w }) n k
  rw [show (bob (setBobbin s n fun b => { b with eccOne := b.eccOne.filter fun w => !wordIn a len w }) n).region = (bob s n).region by
    rw [bob_setBobbin_same]] at hcount
  exact ReadOnly.ite (ReadOnly.refl n s) (ReadOnly.ite (hfixed.trans (hcount _)) hfixed)

/-- Ranges without a double-bit error are read. -/
theorem readRanges_of_good {s : State} {n : Nat} {l : List (Nat × Nat)} (h : (l.any fun r => storeBad (bob s n) r.1 r.2) = false) :
    ∃ u, readRanges s n l = some u ∧ ReadOnly n s u := by
  have hreads : readRanges s n l = some (forEach l s fun s r => storeFix s n r.1 r.2) := by
    unfold readRanges
    rw [h]
    rfl
  have hfixed := ReadOnly.forEach (n := n) (l := l) (fun t r => storeFix_readOnly t n r.1 r.2) s
  exact ⟨_, hreads, hfixed⟩

/-! The store reads the same after a read. -/

theorem ReadOnly.storeBad_eq {n : Nat} {s t : State} (h : ReadOnly n s t) (a len : Nat) :
    storeBad (bob t n) a len = storeBad (bob s n) a len := by
  rw [h.1]
  rfl

/-! Descriptors. -/

/-- What an asynchronous stitch needs: its needle may fire it, and its descriptor is readable. -/
def readsDesc (n : Bob) (j : Fin 4) (op len : Nat) (d : List Byte) (s : State) : Prop :=
  s.sys.powered = true ∧ canFire s n j = true ∧ sOp (stitchAt (bob s n) j) = op ∧
    (bob s n).progBad.contains (needle (bob s n) j).pc = false ∧ nextPc (bob s n) j < (bob s n).record.prog.length ∧
    descAt (bob s n) (vRa (bob s n) j (stitchAt (bob s n) j)).toNat len = .inr d

/-- The work it hands on. -/
def workOf (n : Bob) (j : Fin 4) (d : List Byte) (s : State) : Work :=
  { needle := j, desc := d, post := bit (sImm (stitchAt (bob s n) j)) 4, queue := sImm (stitchAt (bob s n) j) % 16,
    w0 := vRa (bob s n) j (stitchAt (bob s n) j), kind := dF d 0 1, pc := (needle (bob s n) j).pc, stamp := s.now,
    frameId := s.core.nextId }

/-- From `s` to `t` the needle issued its stitch: one more outstanding, stepped on; other needles and the store stay. -/
def issued (n : Bob) (j : Fin 4) (s t : State) : Prop :=
  needle (bob t n) j = { needle (bob s n) j with
    pc := nextPc (bob s n) j, pendAsync := (needle (bob s n) j).pendAsync + 1, issueAt := s.mono + 1 } ∧
    (∀ i, i ≠ j.val → needle (bob t n) i = needle (bob s n) i) ∧ (bob t n).store = (bob s n).store

/-- From `s` to `t` no other bobbin changed, and only the count of corrected errors and the bobbins and frames of the module. -/
def alone (n : Bob) (s t : State) : Prop :=
  (∀ m, m ≠ n.val → bob t m = bob s m) ∧ regsBut (fun o => o == PMC_STORE_CE (bob s n).region) s t ∧
    t = { s with regs := t.regs, bob := t.bob, core := t.core }

/-- The needle with one more outstanding. -/
def oneMore (d : Needle) : Needle := { d with pendAsync := d.pendAsync + 1 }

/-- The work that `accept` makes. -/
def acceptedWork (s : State) (n j : Nat) (w : Word) (d : List Byte) (kind : Nat) : Work :=
  { needle := j, desc := d, post := bit (sImm w) 4, queue := bits (sImm w) 0 4, w0 := vRa (bob s n) j w, kind := kind,
    pc := (needle (bob s n) j).pc, stamp := s.now, frameId := s.core.nextId }

theorem bob_accept (s : State) (n j : Nat) (w : Word) (d : List Byte) (kind : Nat) (put : Bobbin → Work → Bobbin) :
    bob (accept s n j w d kind put) n =
        { put (bob s n) (acceptedWork s n j w d kind) with
          needles := tmod {} (put (bob s n) (acceptedWork s n j w d kind)).needles j oneMore } ∧
      (∀ m, m ≠ n → bob (accept s n j w d kind put) m = bob s m) ∧ bobsOnly s (accept s n j w d kind put) := by
  refine ⟨?_, fun m hm => ?_, rfl⟩
  · rw [accept, setNeedle, bob_setBobbin_same, bob_setBobbin_same]
    rfl
  · rw [accept, setNeedle, bob_setBobbin_ne _ hm, bob_setBobbin_ne _ hm]

/-- After a read the stitch's work is the one of before. -/
theorem acceptedWork_of_readOnly {n : Bob} {j : Fin 4} {s u : State} (h : ReadOnly n s u) (d : List Byte) :
    acceptedWork u n j (stitchAt (bob s n) j) d (dF d 0 1) = workOf n j d s := by
  obtain ⟨hself, -, -, hst⟩ := h
  have hnow : u.now = s.now := by rw [hst]; rfl
  have hcore : u.core = s.core := by rw [hst]
  rw [acceptedWork, workOf, hself, hnow, hcore, bits, pow_zero, Nat.div_one]
  rfl

/-- The needle issues its stitch where the work joined its unit, and the needles and store of the bobbin are as they were. -/
theorem issued_stepped {n : Bob} {j : Fin 4} {s y : State} (hneedles : (bob y n).needles = tmod {} (bob s n).needles j oneMore)
    (hstore : (bob y n).store = (bob s n).store) (hmono : y.mono = s.mono) (w : Word) :
    issued n j s (stepped y n j w (nextPc (bob s n) j)) := by
  have hread : ∀ i, needle (bob y n) i = if i = j then oneMore (needle (bob s n) j) else needle (bob s n) i := fun i => by
    rw [needle, hneedles]
    exact tget_tmod _ _ _ _ _
  rw [issued, (stepped_spec y n j w _).1]
  refine ⟨?_, fun i hi => ?_, hstore⟩
  · rw [needle_bobStepped, if_pos rfl, hread, if_pos rfl, hmono]
    rfl
  · rw [needle_bobStepped, if_neg hi, hread, if_neg hi]

/-- But for the queues and the needles a step leaves the bobbin. -/
theorem bob_stepped_units (y : State) (n j : Nat) (w : Word) (next : Nat) :
    (bob (stepped y n j w next) n).mma = (bob y n).mma ∧ (bob (stepped y n j w next) n).vop = (bob y n).vop ∧
      (bob (stepped y n j w next) n).copy = (bob y n).copy ∧ (bob (stepped y n j w next) n).send = (bob y n).send := by
  rw [(stepped_spec y n j w next).1]
  exact ⟨rfl, rfl, rfl, rfl⟩

/-! The stitches of MMA and of the vector unit. -/

section
variable {n : Bob} {j : Fin 4} {op len : Nat} {d : List Byte} {s : State} {p : List Byte → Bool}
  {ok : State → Bobbin → List Byte → Nat} {put : Bobbin → Work → Bobbin}

/-- Where the bobbin's needles and store are not its unit's. -/
def Puts (put : Bobbin → Work → Bobbin) : Prop := ∀ b k, (put b k).needles = b.needles ∧ (put b k).store = b.store

/-- The descriptor holds: the unit takes the work. -/
theorem fireDesc_accepts (h : readsDesc n j op len d s) (hp : p d = true)
    (hok : ok (storeFix s n (vRa (bob s n) j (stitchAt (bob s n) j)).toNat len) (bob s n) d = 0) (hput : Puts put) :
    ∃ e, (bob (fireDesc s n j op len p ok put) n).mma = (put { bob s n with eccOne := e } (workOf n j d s)).mma ∧
      (bob (fireDesc s n j op len p ok put) n).vop = (put { bob s n with eccOne := e } (workOf n j d s)).vop ∧
      issued n j s (fireDesc s n j op len p ok put) ∧ alone n s (fireDesc s n j op len p ok put) := by
  obtain ⟨-, hcan, hop, hread, hnext, hdesc⟩ := h
  have hfix := storeFix_readOnly s n (vRa (bob s n) j (stitchAt (bob s n) j)).toNat len
  generalize hu : storeFix s n (vRa (bob s n) j (stitchAt (bob s n) j)).toNat len = u at hok hfix
  have hfire : fireDesc s n j op len p ok put =
      stepped (accept u n j (stitchAt (bob s n) j) d (dF d 0 1) put) n j (stitchAt (bob s n) j) (nextPc (bob s n) j) := by
    refine fire_go hcan ?_ hread ?_ hnext
    · rw [hdesc]
      simpa [hop] using hp
    · rw [hdesc]
      dsimp only
      rw [hu, hok] <;> rfl
  obtain ⟨hbob, hother, hbobs⟩ := bob_accept u n j (stitchAt (bob s n) j) d (dF d 0 1) put
  rw [acceptedWork_of_readOnly hfix] at hbob
  obtain ⟨hself, uother, hregs, hst⟩ := hfix
  obtain ⟨hneedles, hstore⟩ := hput (bob u n) (workOf n j d s)
  rw [hfire]
  obtain ⟨hmma, hvop, -, -⟩ := bob_stepped_units (accept u n j (stitchAt (bob s n) j) d (dF d 0 1) put) n j (stitchAt (bob s n) j)
    (nextPc (bob s n) j)
  obtain ⟨-, tother, tbobs⟩ := stepped_spec (accept u n j (stitchAt (bob s n) j) d (dF d 0 1) put) n j (stitchAt (bob s n) j)
    (nextPc (bob s n) j)
  rw [hbob] at hmma hvop
  refine ⟨(bob u n).eccOne, ?_, ?_, issued_stepped ?_ ?_ ?_ _, ?_⟩
  · rw [hmma, ← hself]
  · rw [hvop, ← hself]
  · rw [hbob]
    show tmod {} (put (bob u n) (workOf n j d s)).needles j oneMore = _
    rw [hneedles, hself]
  · rw [hbob]
    show (put (bob u n) (workOf n j d s)).store = _
    rw [hstore, hself]
  · rw [hbobs, hst]
  · have hall := hbobs.trans tbobs
    refine ⟨fun m hm => (tother m hm).trans ((hother m hm).trans (uother m hm)), ?_, ?_⟩
    · exact hregs.trans (regsBut_of_regs_eq (by rw [hall]))
    · rw [hall, hst]

/-- The descriptor does not hold: the region faults. -/
theorem fireDesc_faults (h : readsDesc n j op len d s) (hp : p d = true) {code : Nat}
    (hok : ok (storeFix s n (vRa (bob s n) j (stitchAt (bob s n) j)).toNat len) (bob s n) d = code + 1) (hcode : code + 1 < 256) :
    fget (fireDesc s n j op len p ok put) (BOB_RGN_STAT.FAULT (bob s n).region) = code + 1 ∧
      regionState (fireDesc s n j op len p ok put) (bob s n).region = rWOVEN := by
  obtain ⟨-, hcan, hop, hread, -, hdesc⟩ := h
  have hfix := storeFix_readOnly s n (vRa (bob s n) j (stitchAt (bob s n) j)).toNat len
  generalize hu : storeFix s n (vRa (bob s n) j (stitchAt (bob s n) j)).toNat len = u at hok hfix
  have hfire : fireDesc s n j op len p ok put = regionFault u n j (needle (bob s n) j).pc (code + 1) 0 := by
    refine fire_fault hcan ?_ hread ?_
    · rw [hdesc]
      simpa [hop] using hp
    · rw [hdesc]
      dsimp only
      rw [hu, hok] <;> rfl
  obtain ⟨hr, hrun⟩ := region_of_canFire hcan
  obtain ⟨hself, -, hregs, -⟩ := hfix
  have hregion : (bob u n).region = (bob s n).region := by rw [hself]
  have hstate : regionState u (bob u n).region = rRUNNING := by
    rw [hregion, ← hrun]
    refine fget_of_getReg_eq (hregs _ ?_)
    rw [beq_eq_false_iff_ne]
    show BOB_RGN_STAT _ ≠ PMC_STORE_CE _
    unfold BOB_RGN_STAT PMC_STORE_CE
    omega
  rw [hfire, ← hregion]
  have hshows := regionFault_shows (j := j) (hregion.symm ▸ hr) hstate (needle (bob s n) j).pc (code + 1) 0
  rw [Nat.mod_eq_of_lt (show code + 1 < 2 ^ 8 from hcode)] at hshows
  exact hshows

end

end Sys2Proof.Machine
end

section
/-! SUPPORT. Copies and SENDs as their stitches accept them (R285, R286, R299). -/

namespace Sys2Proof.Machine

open Claim

/-! What a store's read leaves of windows and ways. -/

theorem regionOwner_le (s : State) (r : Nat) : regionOwner s r ≤ 1024 := by
  unfold regionOwner
  split
  · exact (Nat.mod_lt _ (by decide : 0 < 2 ^ 10)).le
  · exact le_rfl

/-- Ways between dies depend on the registers of dies and bundles alone. -/
theorem reach_congr {s t : State} (hdie : ∀ d, getReg t (FLT_DIE d) = getReg s (FLT_DIE d))
    (hbundle : ∀ b, getReg t (FLT_BUNDLE b) = getReg s (FLT_BUNDLE b)) : reach t = reach s := by
  have hup : dieUp t = dieUp s := funext fun d => by rw [dieUp, dieUp, fget_of_getReg_eq (hdie d)]
  have huse : bundleUse t = bundleUse s := funext fun b => by
    rw [bundleUse, bundleUse, fget_of_getReg_eq (f := FLT_BUNDLE.STATE b) (hbundle b),
      fget_of_getReg_eq (f := FLT_BUNDLE.WIDTH b) (hbundle b)]
  have hlink : dieLink t = dieLink s := funext fun a => funext fun b => by rw [dieLink, dieLink, hup, huse]
  have hhome : cpHome t = cpHome s := funext fun d => by rw [cpHome, cpHome, hlink]
  have hsw : swReach t = swReach s := funext fun a => funext fun b => by rw [swReach, swReach, hlink]
  funext a b
  rw [reach, reach, dieRoute, dieRoute, hup, hlink, hhome, hsw]

/-- The window depends on the frames placed and the context's register. -/
theorem inWindow_congr {s t : State} {x : Nat} (hmem : t.mem = s.mem) (hreg : getReg t (MEM_CTX x) = getReg s (MEM_CTX x)) (o n : Nat) :
    inWindow t x o n = inWindow s x o n := by
  have hframes : winFrames t x = winFrames s x := by rw [winFrames, winFrames, hmem]
  have hcount : slotCount t x = slotCount s x := funext fun d => by rw [slotCount, slotCount, hreg]
  have hslot : isSlotFrame t x = isSlotFrame s x := funext fun f => by rw [isSlotFrame, isSlotFrame, hframes, hcount]
  rw [inWindow, inWindow, winBytes, winBytes, touchesSlot, touchesSlot, hframes, hslot]

theorem copyCheck_congr {s t : State} {n : Nat} {b : Bobbin} (howner : regionOwner t b.region = regionOwner s b.region)
    (hwin : ∀ o k, inWindow t (regionOwner s b.region) o k = inWindow s (regionOwner s b.region) o k) (d : List Byte) :
    copyCheck t n b d = copyCheck s n b d := by
  unfold copyCheck
  simp only [howner, hwin]

/-- Registers other than the count of corrected errors stay. -/
theorem ReadOnly.getReg_eq {n : Nat} {s u : State} (h : ReadOnly n s u) {o : Nat} (ho : o ≠ PMC_STORE_CE (bob s n).region) : getReg u o = getReg s o :=
  h.2.2.1 o (beq_eq_false_iff_ne.2 ho)

section
variable {n : Bob} {s u : State} (hr : (bob s n).region < 64) (h : ReadOnly n s u)
include hr h

theorem ReadOnly.regionOwner_eq (r : Nat) (hr' : r < 64) : regionOwner u r = regionOwner s r := by
  have hreg : getReg u (PRK_RGEN r) = getReg s (PRK_RGEN r) := h.getReg_eq (by unfold PRK_RGEN PMC_STORE_CE; omega)
  rw [regionOwner, regionOwner, fbit, fbit, fget_of_getReg_eq (f := PRK_RGEN.OWNED r) hreg,
    fget_of_getReg_eq (f := PRK_RGEN.CONTEXT r) hreg]

theorem ReadOnly.inWindow_eq {x : Nat} (hx : x ≤ 1024) (o k : Nat) : inWindow u x o k = inWindow s x o k :=
  inWindow_congr (by rw [h.2.2.2]) (h.getReg_eq (by unfold MEM_CTX PMC_STORE_CE; omega)) o k

theorem ReadOnly.reach_eq : reach u = reach s :=
  reach_congr (fun d => h.getReg_eq (by unfold FLT_DIE PMC_STORE_CE; omega))
    fun b => h.getReg_eq (by unfold FLT_BUNDLE PMC_STORE_CE; omega)

theorem ReadOnly.copyCheck_eq (d : List Byte) : copyCheck u n (bob s n) d = copyCheck s n (bob s n) d :=
  copyCheck_congr (h.regionOwner_eq hr _ hr) (fun o k => h.inWindow_eq hr (regionOwner_le s _) o k) d

end

/-! Copies. -/

/-- A copy with its frame number joins those of its bobbin. -/
def putCopy (id : Nat) (b : Bobbin) (k : Work) : Bobbin := { b with copy := b.copy ++ [{ k with frameId := id }] }

/-- The copy is accepted: the state after it. -/
def copyTaken (u : State) (n j : Nat) (w : Word) (d : List Byte) : State :=
  accept (newId u).2 n j w d (dF d 0 1) (putCopy (newId u).1)

theorem copyTaken_spec {n : Bob} {j : Fin 4} {s u : State} (h : ReadOnly n s u) (d : List Byte) :
    bob (copyTaken u n j (stitchAt (bob s n) j) d) n = { bob u n with
        copy := (bob s n).copy ++ [workOf n j d s], needles := tmod {} (bob s n).needles j oneMore } ∧
      (∀ m, m ≠ n.val → bob (copyTaken u n j (stitchAt (bob s n) j) d) m = bob s m) ∧
      bobsOnly (newId u).2 (copyTaken u n j (stitchAt (bob s n) j) d) := by
  obtain ⟨hbob, hother, hbobs⟩ := bob_accept (newId u).2 n j (stitchAt (bob s n) j) d (dF d 0 1) (putCopy (newId u).1)
  have hwork := acceptedWork_of_readOnly (j := j) h d
  have hnew : ∀ m, bob (newId u).2 m = bob u m := fun _ => rfl
  have hid : (newId u).1 = s.core.nextId := by rw [h.2.2.2]; rfl
  have hput : { acceptedWork (newId u).2 n j (stitchAt (bob s n) j) d (dF d 0 1) with frameId := (newId u).1 } = workOf n j d s := by
    rw [hid, ← hwork]
    show _ = ({ acceptedWork u n j (stitchAt (bob s n) j) d (dF d 0 1) with frameId := u.core.nextId } : Work)
    rw [show u.core.nextId = s.core.nextId by rw [h.2.2.2]]
    rfl
  obtain ⟨hself, uother, -, -⟩ := h
  refine ⟨?_, fun m hm => ((hother m hm).trans (hnew m)).trans (uother m hm), hbobs⟩
  rw [copyTaken, hbob, putCopy, hput, hnew, hself]

/-- What the fields of a stitch that fires a copy are. -/
theorem fireCopy_eq {n : Bob} {j : Fin 4} {d : List Byte} {s : State} {kind : Nat} (h : readsDesc n j 0x22 64 d s)
    (hkind : dF d 0 1 = kind) {u v : State} (hu : storeFix s n (vRa (bob s n) j (stitchAt (bob s n) j)).toNat 64 = u)
    (hcheck : copyCheck u n (bob s n) d = 0)
    (hrows : readRanges u n (if dF d 0 1 == 1 then (List.range (dF d 4 4)).map fun i => ((copyRow (bob s n) d i).1, dF d 8 4) else []) = some v) :
    fireCopy s n j kind = stepped (if dF d 0 1 == 1 then
        copyFlits (copyTaken v n j (stitchAt (bob s n) j) d) n (bob s n) d (newId v).1 else copyTaken v n j (stitchAt (bob s n) j) d)
      n j (stitchAt (bob s n) j) (nextPc (bob s n) j) := by
  obtain ⟨-, hcan, hop, hread, hnext, hdesc⟩ := h
  refine fire_go hcan ?_ hread ?_ hnext
  · simp [hdesc, hop, hkind]
  · rw [hdesc]
    dsimp only
    rw [hu]
    simp only [hcheck, hrows]
    rfl

/-- A copy but one along a route is accepted. -/
theorem fireCopy_accepts {n : Bob} {j : Fin 4} {d : List Byte} {s : State} {kind : Nat} (h : readsDesc n j 0x22 64 d s)
    (hkind : dF d 0 1 = kind) (hroute : kind ≠ 1) (hcheck : copyCheck s n (bob s n) d = 0) :
    (bob (fireCopy s n j kind) n).copy = (bob s n).copy ++ [workOf n j d s] ∧
      (fireCopy s n j kind).core = { s.core with nextId := s.core.nextId + 1 } ∧ issued n j s (fireCopy s n j kind) ∧
      alone n s (fireCopy s n j kind) := by
  have hr := (region_of_canFire h.2.1).1
  have hfix := storeFix_readOnly s n (vRa (bob s n) j (stitchAt (bob s n) j)).toNat 64
  have hne : ¬ (dF d 0 1 == 1) = true := by rw [hkind, beq_iff_eq]; exact hroute
  generalize hu : storeFix s n (vRa (bob s n) j (stitchAt (bob s n) j)).toNat 64 = u at hfix
  have hfire := fireCopy_eq (v := u) h hkind hu ((hfix.copyCheck_eq hr d).trans hcheck) (by rw [if_neg hne]; rfl)
  rw [if_neg hne] at hfire
  obtain ⟨hbob, hother, hbobs⟩ := copyTaken_spec (j := j) hfix d
  rw [hfire]
  generalize hy : copyTaken u n j (stitchAt (bob s n) j) d = y at hbob hother hbobs
  obtain ⟨-, -, hcopy, -⟩ := bob_stepped_units y n j (stitchAt (bob s n) j) (nextPc (bob s n) j)
  obtain ⟨-, tother, tbobs⟩ := stepped_spec y n j (stitchAt (bob s n) j) (nextPc (bob s n) j)
  obtain ⟨hself, -, hregs, hst⟩ := hfix
  have hall := hbobs.trans tbobs
  refine ⟨?_, ?_, issued_stepped ?_ ?_ ?_ _, fun m hm => (tother m hm).trans (hother m hm), ?_, ?_⟩
  · rw [hcopy, hbob]
  · rw [hall, hst]
    rfl
  · rw [hbob]
  · rw [hbob, hself]
  · rw [hbobs, hst]
    rfl
  · exact hregs.trans (regsBut_of_regs_eq (by rw [hall]; rfl))
  · rw [hall, hst]
    rfl

/-! Copies along a route. -/

theorem bytesAt_storeBytes (b : Bobbin) (a : Nat) {n o k : Nat} (h : o + k ≤ n) :
    bytesAt (storeBytes b a n) o k = storeBytes b (a + o) k := by
  have hpart : ((storeBytes b a n).drop o).take k = storeBytes b (a + o) k := by
    refine List.ext_getElem ?_ fun i h1 h2 => ?_
    · rw [List.length_take, List.length_drop, length_storeBytes, length_storeBytes]
      omega
    · simp only [storeBytes, List.getElem_take, List.getElem_drop, List.getElem_map, List.getElem_range]
      rw [Nat.add_assoc]
  rw [bytesAt, hpart, length_storeBytes, Nat.sub_self, List.replicate_zero, List.append_nil]

/-- The flits of a copy whose way is open, as they set out. -/
theorem copyFlits_of_reach {y : State} {n : Nat} {b : Bobbin} {d : List Byte} {id : Nat}
    (hreach : reach y (bobDie n) (bobDie (routeDest b n (dF d 1 1))) = true) :
    ∃ fs : List Flit, copyFlits y n b d id =
        setBobbin y (routeDest b n (dF d 1 1)) (fun c => { c with inFlight := c.inFlight ++ fs }) ∧
      fs.map (fun f => (f.addr, f.data, f.work)) =
        (List.range (dF d 4 4)).flatMap (fun i => (List.range (dF d 8 4 / 32)).map fun g =>
          ((copyRow b d i).2 + 32 * g, storeBytes b ((copyRow b d i).1 + 32 * g) 32, id)) := by
  unfold copyFlits
  dsimp only
  rw [hreach]
  refine ⟨_, if_neg (by decide), ?_⟩
  rw [List.map_flatMap]
  refine List.flatMap_congr fun i _ => ?_
  rw [rowFlits, List.map_map]
  refine List.map_congr_left fun g hg => ?_
  have hlast : 32 * g + 32 ≤ dF d 8 4 := by
    have := List.mem_range.1 hg
    omega
  rw [Function.comp_apply, bytesAt_storeBytes b _ hlast]

/-- A copy along a route sets its rows out for its bobbin. -/
theorem copyToRoute_accepts {n : Bob} {j : Fin 4} {d : List Byte} {s : State} (h : readsDesc n j 0x22 64 d s)
    (hkind : dF d 0 1 = 1) (hcheck : copyCheck s n (bob s n) d = 0)
    (hgood : ∀ i, i < dF d 4 4 → storeBad (bob s n) (copyRow (bob s n) d i).1 (dF d 8 4) = false)
    (hne : routeDest (bob s n) n (dF d 1 1) ≠ n.val)
    (hreach : reach s (bobDie n) (bobDie (routeDest (bob s n) n (dF d 1 1))) = true) :
    (bob (fireCopy s n j 1) n).copy = (bob s n).copy ++ [workOf n j d s] ∧ issued n j s (fireCopy s n j 1) ∧
      ∃ fs : List Flit, bob (fireCopy s n j 1) (routeDest (bob s n) n (dF d 1 1)) =
          { bob s (routeDest (bob s n) n (dF d 1 1)) with
            inFlight := (bob s (routeDest (bob s n) n (dF d 1 1))).inFlight ++ fs } ∧
        fs.map (fun f => (f.addr, f.data, f.work)) =
          (List.range (dF d 4 4)).flatMap (fun i => (List.range (dF d 8 4 / 32)).map fun g =>
            ((copyRow (bob s n) d i).2 + 32 * g, storeBytes (bob s n) ((copyRow (bob s n) d i).1 + 32 * g) 32, s.core.nextId)) ∧
        ∀ i, i ≠ routeDest (bob s n) n (dF d 1 1) → i ≠ n.val → bob (fireCopy s n j 1) i = bob s i := by
  have hr := (region_of_canFire h.2.1).1
  have hfix := storeFix_readOnly s n (vRa (bob s n) j (stitchAt (bob s n) j)).toNat 64
  have hone : (dF d 0 1 == 1) = true := by rw [hkind]; rfl
  generalize hu : storeFix s n (vRa (bob s n) j (stitchAt (bob s n) j)).toNat 64 = u at hfix
  obtain ⟨v, hv, hread⟩ := readRanges_of_good (s := u) (n := n) (l := (List.range (dF d 4 4)).map fun i =>
    ((copyRow (bob s n) d i).1, dF d 8 4)) (by
      rw [List.any_eq_false]
      rintro r hr
      obtain ⟨i, hi, rfl⟩ := List.mem_map.1 hr
      rw [hfix.storeBad_eq, hgood i (List.mem_range.1 hi)]
      decide)
  have hfixed := hfix.trans hread
  have hfire := fireCopy_eq (v := v) h hkind hu ((hfix.copyCheck_eq hr d).trans hcheck) (by rw [if_pos hone]; exact hv)
  rw [if_pos hone] at hfire
  obtain ⟨hbob, hother, hbobs⟩ := copyTaken_spec (j := j) hfixed d
  have hid : (newId v).1 = s.core.nextId := by rw [hfixed.2.2.2]; rfl
  rw [hid] at hfire
  have hway : reach (copyTaken v n j (stitchAt (bob s n) j) d) = reach s := by
    rw [← hfixed.reach_eq hr]
    have hregs : (copyTaken v n j (stitchAt (bob s n) j) d).regs = v.regs := by rw [hbobs]; rfl
    exact reach_congr (fun _ => getReg_congr hregs _) fun _ => getReg_congr hregs _
  have hmono : (copyTaken v n j (stitchAt (bob s n) j) d).mono = s.mono := by
    rw [hbobs, hfixed.2.2.2]
    rfl
  generalize copyTaken v n j (stitchAt (bob s n) j) d = y at hfire hbob hother hbobs hway hmono
  obtain ⟨fs, hflits, hrows⟩ := copyFlits_of_reach (id := s.core.nextId) (show reach y _ _ = true by rw [hway]; exact hreach)
  rw [hflits] at hfire
  rw [hfire]
  generalize routeDest (bob s n) n (dF d 1 1) = m at hne
  have hput := bob_setBobbin_ne y hne.symm fun c => { c with inFlight := c.inFlight ++ fs }
  obtain ⟨-, -, hcopy, -⟩ := bob_stepped_units (setBobbin y m fun c => { c with inFlight := c.inFlight ++ fs }) n j
    (stitchAt (bob s n) j) (nextPc (bob s n) j)
  obtain ⟨-, tother, -⟩ := stepped_spec (setBobbin y m fun c => { c with inFlight := c.inFlight ++ fs }) n j
    (stitchAt (bob s n) j) (nextPc (bob s n) j)
  have hclock : (setBobbin y m fun c => { c with inFlight := c.inFlight ++ fs }).mono = s.mono := hmono
  refine ⟨?_, issued_stepped ?_ ?_ hclock _, fs, ?_, hrows, fun i him hin => ?_⟩
  · rw [hcopy, hput, hbob]
  · rw [hput, hbob]
  · rw [hput, hbob, hfixed.1]
  · rw [tother m hne, bob_setBobbin_same, hother m hne]
  · rw [tother i hin, bob_setBobbin_ne _ him, hother i hin]

/-! SEND (R299). -/

theorem sendOk_congr {s t : State} {x : Nat} (hsec : t.sec = s.sec) (d : List Byte) : sendOk t x d = sendOk s x d := by
  unfold sendOk jobKey
  rw [hsec]

/-- The frame of a SEND takes no more than a key's count. -/
theorem sendFrame_spec (s : State) (b : Bobbin) (own : Nat) (d : List Byte) :
    (sendFrame s b own d).2.2 = { s with sec := (sendFrame s b own d).2.2.sec } := by
  unfold sendFrame
  dsimp only
  split
  · rfl
  · split <;> rfl

/-- A SEND joins those of its bobbin. -/
def putSend (b : Bobbin) (k : Work) : Bobbin := { b with send := b.send ++ [k] }

/-- The frame of the SEND enters at its switch die, or is dropped. -/
def sendOut (s : State) (h : BitVec 256) (body : List Byte) (own n : Nat) : State :=
  match cpHome s (n / 256) with
  | some sw => originateSend s sw h body n
  | none => sendCrossed (ctxBump (bump s FLT_DROP_DIE) own 4 1) { id := s.core.nextId, bob := some n }

theorem cpHome_lt {s : State} {d k : Nat} (hd : d < 4) (h : cpHome s d = some k) : k < 4 := by
  unfold cpHome at h
  split at h
  · rwa [← Option.some.inj h]
  · exact List.mem_range.1 (List.mem_of_find?_eq_some h)

theorem originKept_sendOut (s : State) (h : BitVec 256) (body : List Byte) (own : Nat) {n : Nat} (hn : n < 1024) :
    originKept (sendOut s h body own n) = originKept s := by
  unfold sendOut
  split
  · next hsw => exact originKept_originateSend s (cpHome_lt (by omega) hsw) h body n
  · rw [originKept_sendCrossed, originKept_ctxBump _ _ _ (by decide), originKept_bump (by decide)]

/-- A SEND whose descriptor and payload are good is accepted. -/
theorem fireSend_accepts {n : Bob} {j : Fin 4} {d : List Byte} {s : State} (h : readsDesc n j 0x23 32 d s)
    (hok : sendOk s (regionOwner s (bob s n).region) d = true)
    (hgood : storeBad (bob s n) (dF d 0x18 4) (if bit (dF d 6 1) 1 then dF d 0x14 4 - 28 else dF d 0x14 4) = false) :
    (bob (fireSend s n j) n).send.map (fun k => (k.needle, k.desc, k.frameId)) =
        (bob s n).send.map (fun k => (k.needle, k.desc, k.frameId)) ++ [(j.val, d, s.core.nextId)] ∧ issued n j s (fireSend s n j) := by
  have hr := (region_of_canFire h.2.1).1
  have hfix := storeFix_readOnly s n (vRa (bob s n) j (stitchAt (bob s n) j)).toNat 32
  obtain ⟨-, hcan, hop, hread, hnext, hdesc⟩ := h
  generalize hu : storeFix s n (vRa (bob s n) j (stitchAt (bob s n) j)).toNat 32 = u at hfix
  obtain ⟨v, hv, hreads⟩ := readRanges_of_good (s := u) (n := n)
    (l := [(dF d 0x18 4, if bit (dF d 6 1) 1 then dF d 0x14 4 - 28 else dF d 0x14 4)]) (by
      rw [List.any_cons, List.any_nil, hfix.storeBad_eq, hgood]
      rfl)
  have hfixed := hfix.trans hreads
  have howner := hfix.regionOwner_eq hr _ hr
  have hsecs : u.sec = s.sec := by rw [hfix.2.2.2]
  have hgo : sendOk u (regionOwner u (bob s n).region) d = true := by
    rw [howner, sendOk_congr hsecs, hok]
  have hsec := sendFrame_spec v (bob s n) (regionOwner u (bob s n).region) d
  have hfire : fireSend s n j = stepped (sendOut (accept (sendFrame v (bob s n) (regionOwner u (bob s n).region) d).2.2 n j
        (stitchAt (bob s n) j) d 0 putSend) (sendFrame v (bob s n) (regionOwner u (bob s n).region) d).1
      (sendFrame v (bob s n) (regionOwner u (bob s n).region) d).2.1 (regionOwner u (bob s n).region) n)
      n j (stitchAt (bob s n) j) (nextPc (bob s n) j) := by
    refine fire_go hcan (beq_iff_eq.2 hop) hread ?_ hnext
    rw [hdesc]
    dsimp only
    rw [hu, hgo, if_neg (by decide), hv]
    rfl
  generalize (sendFrame v (bob s n) (regionOwner u (bob s n).region) d).2.2 = w at hsec hfire
  have hbobs : ∀ m, bob w m = bob v m := fun m => by rw [hsec]; rfl
  have hid : w.core.nextId = s.core.nextId := by rw [hsec, hfixed.2.2.2]
  have hmono : w.mono = s.mono := by rw [hsec, hfixed.2.2.2]
  obtain ⟨hbob, -, haccept⟩ := bob_accept w n j (stitchAt (bob s n) j) d 0 putSend
  have hwork : (acceptedWork w n j (stitchAt (bob s n) j) d 0).frameId = s.core.nextId := hid
  rw [hbobs, hfixed.1] at hbob
  have hkept := fun h body own => originKept_sendOut (accept w n j (stitchAt (bob s n) j) d 0 putSend) h body own n.isLt
  have hclock : (accept w n j (stitchAt (bob s n) j) d 0 putSend).mono = s.mono := by rw [haccept]; exact hmono
  generalize accept w n j (stitchAt (bob s n) j) d 0 putSend = y at hfire hbob hkept hclock
  rw [hfire]
  generalize hz : sendOut y _ _ _ _ = z
  have hzkept : originKept z = originKept y := by rw [← hz, hkept]
  obtain ⟨hrest, hsends⟩ := Prod.ext_iff.1 (sendKept_of_originKept hzkept n)
  obtain ⟨-, -, -, hsend⟩ := bob_stepped_units z n j (stitchAt (bob s n) j) (nextPc (bob s n) j)
  refine ⟨?_, issued_stepped ?_ ?_ ((mono_of_originKept hzkept).trans hclock) _⟩
  · rw [hsend]
    refine Eq.trans hsends ?_
    rw [hbob]
    show (_ ++ [acceptedWork w n j (stitchAt (bob s n) j) d 0]).map _ = _
    rw [List.map_append, List.map_singleton, hwork]
    rfl
  · refine (congrArg Bobbin.needles hrest).trans ?_
    rw [hbob]
    rfl
  · refine (congrArg Bobbin.store hrest).trans ?_
    rw [hbob]
    rfl

end Sys2Proof.Machine
end

section
/-! SUPPORT. Asynchronous stitches as commands: it settles O41. -/

namespace Sys2Proof.Machine

open Claim

/-- A command that fires a stitch of a powered module. -/
theorem answers_of_fires {c : Instr} {s : State} {f : State → State} (hpow : s.sys.powered = true) (hexec : exec c s = live s f)
    {P : State → Prop} (hP : P (f s)) : answers c s P :=
  ⟨f s, hexec.trans (live_of_powered hpow f), hP⟩

/-- Where MMAs join theirs. -/
def putMma (b : Bobbin) (k : Work) : Bobbin := { b with mma := b.mma ++ [k] }

/-- Where vector operations join theirs. -/
def putVop (b : Bobbin) (k : Work) : Bobbin := { b with vop := b.vop ++ [k] }

/-- MMA as it fires. -/
def fireMma (s : State) (n j : Nat) : State :=
  fireDesc s n j 0x20 64 (fun _ => true) (fun _ _ d => if mmaOk d then 0 else fBAD_ADDR) putMma

section
variable {n : Bob} {j : Fin 4} {d : List Byte} {s : State}

theorem fireMma_accepts (h : readsDesc n j 0x20 64 d s) (hok : mmaOk d = true) :
    (bob (fireMma s n j) n).mma = (bob s n).mma ++ [workOf n j d s] ∧ (bob (fireMma s n j) n).vop = (bob s n).vop ∧
      issued n j s (fireMma s n j) ∧ alone n s (fireMma s n j) := by
  obtain ⟨e, hmma, hvop, hissued, halone⟩ := fireDesc_accepts (p := fun _ => true)
    (ok := fun _ _ d => if mmaOk d then 0 else fBAD_ADDR) (put := putMma) h rfl (if_pos hok) fun _ _ => ⟨rfl, rfl⟩
  exact ⟨hmma, hvop, hissued, halone⟩

theorem fireMma_faults (h : readsDesc n j 0x20 64 d s) (hok : mmaOk d = false) :
    fget (fireMma s n j) (BOB_RGN_STAT.FAULT (bob s n).region) = 1 ∧ regionState (fireMma s n j) (bob s n).region = rWOVEN :=
  fireDesc_faults (p := fun _ => true) (ok := fun _ _ d => if mmaOk d then 0 else fBAD_ADDR) (put := putMma) (code := 0) h rfl
    (if_neg (by rw [hok]; decide)) (by decide)

theorem fireVop_accepts {op : Nat} (h : readsDesc n j 0x21 64 d s) (hop : dF d 0 1 = op) (hok : vopOk d = true) :
    (bob (fireVop s n j op) n).vop = (bob s n).vop ++ [workOf n j d s] ∧ (bob (fireVop s n j op) n).mma = (bob s n).mma ∧
      issued n j s (fireVop s n j op) ∧ alone n s (fireVop s n j op) := by
  obtain ⟨e, hmma, hvop, hissued, halone⟩ := fireDesc_accepts (p := fun d => dF d 0 1 == op || dF d 0 1 == 0 || 0x10 < dF d 0 1)
    (ok := fun _ _ d => if vopOk d then 0 else fBAD_ADDR) (put := putVop) h (by simp [hop]) (if_pos hok) fun _ _ => ⟨rfl, rfl⟩
  exact ⟨hvop, hmma, hissued, halone⟩

/-- A vector stitch as a command. -/
theorem answers_vop {c : Instr} {op : Nat} (hexec : exec c s = live s fun s => fireVop s n j op) (h : readsDesc n j 0x21 64 d s)
    (hop : dF d 0 1 = op) (hok : vopOk d = true) :
    answers c s fun t =>
      (bob t n).vop = (bob s n).vop ++ [workOf n j d s] ∧ (bob t n).mma = (bob s n).mma ∧ issued n j s t ∧ alone n s t :=
  answers_of_fires h.1 hexec (fireVop_accepts h hop hok)

/-- A copy's stitch as a command, but of one along a route. -/
theorem answers_copy {c : Instr} {kind : Nat} (hexec : exec c s = live s fun s => fireCopy s n j kind)
    (h : readsDesc n j 0x22 64 d s) (hkind : dF d 0 1 = kind) (hroute : kind ≠ 1) (hcheck : copyCheck s n (bob s n) d = 0) :
    answers c s fun t =>
      (bob t n).copy = (bob s n).copy ++ [workOf n j d s] ∧ t.core = { s.core with nextId := s.core.nextId + 1 } ∧ issued n j s t ∧
        alone n s t :=
  answers_of_fires h.1 hexec (fireCopy_accepts h hkind hroute hcheck)

end

/-- Settles O41: each stitch hands its unit the work that its descriptor describes, or its region faults. -/
theorem asyncStitches : Obligations.AsyncStitches := by
  unfold Obligations.AsyncStitches
  intro reads work issued' alone'
  refine ⟨fun n j d s h hok => ?_, fun n j d s h hok => ?_, ?_, ?_, ?_, ?_, ?_, ?_, ?_, ?_, ?_, ?_, ?_, ?_, ?_, ?_, ?_, ?_, ?_, ?_, ?_, ?_, ?_, fun n j d s h hkind hcheck hgood hne hreach => ?_,
    fun n j d s h hok hgood => ?_⟩
  · exact answers_of_fires (f := fun s => fireMma s n j) h.1 rfl (fireMma_accepts h hok)
  · exact answers_of_fires (f := fun s => fireMma s n j) h.1 rfl (fireMma_faults h hok)
  · exact fun n j d s h hop hok => answers_vop (c := .vadd n j) rfl h hop hok
  · exact fun n j d s h hop hok => answers_vop (c := .vsub n j) rfl h hop hok
  · exact fun n j d s h hop hok => answers_vop (c := .vmul n j) rfl h hop hok
  · exact fun n j d s h hop hok => answers_vop (c := .vfma n j) rfl h hop hok
  · exact fun n j d s h hop hok => answers_vop (c := .vmax n j) rfl h hop hok
  · exact fun n j d s h hop hok => answers_vop (c := .vmin n j) rfl h hop hok
  · exact fun n j d s h hop hok => answers_vop (c := .vabs n j) rfl h hop hok
  · exact fun n j d s h hop hok => answers_vop (c := .vdiv n j) rfl h hop hok
  · exact fun n j d s h hop hok => answers_vop (c := .vsqrt n j) rfl h hop hok
  · exact fun n j d s h hop hok => answers_vop (c := .vrsqrt n j) rfl h hop hok
  · exact fun n j d s h hop hok => answers_vop (c := .vexp n j) rfl h hop hok
  · exact fun n j d s h hop hok => answers_vop (c := .vlog n j) rfl h hop hok
  · exact fun n j d s h hop hok => answers_vop (c := .vcvt n j) rfl h hop hok
  · exact fun n j d s h hop hok => answers_vop (c := .vsum n j) rfl h hop hok
  · exact fun n j d s h hop hok => answers_vop (c := .vmaxi n j) rfl h hop hok
  · exact fun n j d s h hop hok => answers_vop (c := .vselgt n j) rfl h hop hok
  · exact fun n j d s h hkind hcheck => answers_copy (c := .copyStoreLocal n j) rfl h hkind (by decide) hcheck
  · exact fun n j d s h hkind hcheck => answers_copy (c := .copyMemToStore n j) rfl h hkind (by decide) hcheck
  · exact fun n j d s h hkind hcheck => answers_copy (c := .copyStoreToMem n j) rfl h hkind (by decide) hcheck
  · exact fun n j d s h hkind hcheck => answers_copy (c := .copyGather n j) rfl h hkind (by decide) hcheck
  · exact fun n j d s h hkind hcheck => answers_copy (c := .copyScatter n j) rfl h hkind (by decide) hcheck
  · obtain ⟨hcopy, hissued, fs, hdest, hrows, hother⟩ := copyToRoute_accepts h hkind hcheck hgood hne hreach
    refine answers_of_fires (f := fun s => fireCopy s n j 1) h.1 rfl ⟨hcopy, hissued, ?_, ?_, hother⟩
    · rw [hdest, List.drop_left]
      exact hrows
    · rw [hdest]
  · exact answers_of_fires (f := fun s => fireSend s n j) h.1 rfl (fireSend_accepts h hok hgood)

end Sys2Proof.Machine
end

section
/-! SUPPORT. Memory without bit errors: what a write leaves there, and that it asks for nothing but memory and the dies (chapter 13). -/

namespace Sys2Proof.Machine

open Claim

/-- Memory with bytes stored from P of die d. -/
def memStored (m : MemSt) (d P : Nat) : List Byte → MemSt
  | [] => m
  | b :: bs => memStored { m with bytes := tset 0 m.bytes (2 ^ 40 * d + P) b } d (P + 1) bs

/-- Line l after a write of n bytes from P of die d: written whole it holds no poison. -/
def poisonCleared (d P n : Nat) (m : MemSt) (l : Nat) : MemSt :=
  if l < P || P + n < l + 64 then m else { m with poison := tset false m.poison (2 ^ 40 * d + l / 64) false }

/-- Memory after a write. -/
def memWritten (m : MemSt) (d P : Nat) (bs : List Byte) : MemSt :=
  (linesOf P bs.length).foldl (poisonCleared d P bs.length) (memStored m d P bs)

theorem memPut_eq (s : State) (d P : Nat) (bs : List Byte) : memPut s d P bs = setMem s fun m => memStored m d P bs := by
  induction bs generalizing s P with
  | nil => rfl
  | cons b bs ih => exact ih _ _

theorem memStored_latent (m : MemSt) (d P : Nat) (bs : List Byte) : (memStored m d P bs).latent = m.latent := by
  induction bs generalizing m P with
  | nil => rfl
  | cons b bs ih => exact ih _ _

theorem lineWritten_of_sound {s : State} (h : memSound s) (i A : Nat) : lineWritten s i A = s := by
  unfold lineWritten
  rw [h]
  rfl

/-- Lines written, one after the other. -/
theorem linesWritten_of_sound (d P n : Nat) (l : List Nat) {s : State} (h : memSound s) :
    (forEach l s fun s l =>
      let s := lineWritten s (memChanOf d l) (memChanAddr l)
      if l < P || P + n < l + 64 then s
      else setMem s fun m => { m with poison := tset false m.poison (2 ^ 40 * d + l / 64) false }) =
    setMem s fun m => l.foldl (poisonCleared d P n) m := by
  induction l generalizing s with
  | nil => rfl
  | cons a l ih =>
    have hline : (if a < P || P + n < a + 64 then s
        else setMem s fun m => { m with poison := tset false m.poison (2 ^ 40 * d + a / 64) false }) =
          setMem s fun m => poisonCleared d P n m a := by
      unfold poisonCleared
      split <;> rfl
    have hsound : memSound (setMem s fun m => poisonCleared d P n m a) := by
      show (poisonCleared d P n s.mem a).latent = []
      unfold poisonCleared
      split <;> exact h
    refine Eq.trans (b := forEach l (setMem s fun m => poisonCleared d P n m a) _) ?_ (ih hsound)
    rw [← hline]
    show forEach l (if a < P || P + n < a + 64 then lineWritten s (memChanOf d a) (memChanAddr a)
      else setMem (lineWritten s (memChanOf d a) (memChanAddr a)) _) _ = _
    rw [lineWritten_of_sound h]

/-- Without bit errors a write does no more than store its bytes and clear poison. -/
theorem memWrite_of_sound {s : State} (h : memSound s) (d P : Nat) (bs : List Byte) :
    memWrite s d P bs = setMem s fun m => memWritten m d P bs := by
  have hput : memSound (setMem s fun m => memStored m d P bs) := (memStored_latent s.mem d P bs).trans h
  refine Eq.trans ?_ (linesWritten_of_sound d P bs.length (linesOf P bs.length) hput)
  rw [← memPut_eq]
  rfl

theorem memWritten_latent (m : MemSt) (d P : Nat) (bs : List Byte) : (memWritten m d P bs).latent = m.latent := by
  rw [← memStored_latent m d P bs, memWritten]
  refine List.foldlRecOn (motive := fun b : MemSt => b.latent = (memStored m d P bs).latent) _ _ rfl fun b hb l _ => ?_
  unfold poisonCleared
  split <;> exact hb

/-! States of one memory. -/

/-- Two states whose memory, without bit errors, is the same, and of whose dies the same ones work. -/
def SameMem (s t : State) : Prop := memSound s ∧ t.mem = s.mem ∧ dieUp t = dieUp s

theorem SameMem.refl {s : State} (h : memSound s) : SameMem s s := ⟨h, rfl, rfl⟩

theorem SameMem.setMem {s t : State} (h : SameMem s t) {f : MemSt → MemSt} (hf : ∀ m, (f m).latent = m.latent) :
    SameMem (setMem s f) (setMem t f) := by
  obtain ⟨hsound, hmem, hdie⟩ := h
  exact ⟨(hf _).trans hsound, congrArg f hmem, hdie⟩

theorem SameMem.memWrite {s t : State} (h : SameMem s t) (d P : Nat) (bs : List Byte) :
    SameMem (memWrite s d P bs) (memWrite t d P bs) := by
  have ht : memSound t := by
    show t.mem.latent = []
    rw [h.2.1]
    exact h.1
  rw [memWrite_of_sound h.1, memWrite_of_sound ht]
  exact h.setMem fun m => memWritten_latent m d P bs

theorem SameMem.forEach {β : Type} {l : List β} {f : State → β → State} (hf : ∀ s t a, SameMem s t → SameMem (f s a) (f t a))
    {s t : State} (h : SameMem s t) : SameMem (forEach l s f) (forEach l t f) := by
  induction l generalizing s t with
  | nil => exact h
  | cons a l ih => exact ih (hf s t a h)

theorem SameMem.ctxLoc_eq {s t : State} (h : SameMem s t) : ctxLoc t = ctxLoc s := by
  funext x o
  rw [ctxLoc, ctxLoc, winFrames, winFrames, logFrames, logFrames, h.2.1]

theorem SameMem.lineBad_eq {s t : State} (h : SameMem s t) : lineBad t = lineBad s := by
  obtain ⟨-, hmem, hdie⟩ := h
  funext d P
  rw [lineBad, lineBad, hmem, hdie]

theorem SameMem.writeBlocked_eq {s t : State} (h : SameMem s t) : writeBlocked t = writeBlocked s := by
  have hbad := h.lineBad_eq
  obtain ⟨-, hmem, hdie⟩ := h
  funext d P n
  rw [writeBlocked, writeBlocked, hmem, hdie, hbad]

theorem SameMem.ctxPartBad_eq {s t : State} (h : SameMem s t) : ctxPartBad t = ctxPartBad s := by
  have hpart : partAt t = partAt s := by
    funext x o n l
    rw [partAt, partAt, h.ctxLoc_eq]
  funext x o n
  rw [ctxPartBad, ctxPartBad, hpart, h.writeBlocked_eq]

theorem SameMem.ctxRead_eq {s t : State} (h : SameMem s t) : ctxRead t = ctxRead s := by
  have hbyte : memByte t = memByte s := by
    funext d P
    rw [memByte, memByte, h.2.1]
  funext x o n
  rw [ctxRead, ctxRead, h.ctxLoc_eq, hbyte]

theorem SameMem.ctxBad_eq {s t : State} (h : SameMem s t) : ctxBad t = ctxBad s := by
  funext x o n
  rw [ctxBad, ctxBad, h.ctxLoc_eq, h.lineBad_eq]

theorem SameMem.ctxPut {s t : State} (h : SameMem s t) (x o : Nat) (bs : List Byte) : SameMem (ctxPut s x o bs) (ctxPut t x o bs) := by
  refine SameMem.forEach (fun s t l h => ?_) h
  have hpart : partAt t = partAt s := by
    funext x o n l
    rw [partAt, partAt, h.ctxLoc_eq]
  rw [hpart, h.writeBlocked_eq]
  split
  · split
    · exact h
    · exact h.memWrite _ _ _
  · exact h

/-- Without bit errors the reads of memory leave all. -/
theorem ctxTouch_of_sound {s : State} (h : memSound s) (x o n : Nat) : ctxTouch s x o n = s := by
  unfold ctxTouch
  rw [h]
  rfl

theorem ctxTouchPart_of_sound {s : State} (h : memSound s) (x o n : Nat) : ctxTouchPart s x o n = s := by
  unfold ctxTouchPart
  rw [h]
  rfl

theorem ctxWrite_of_sound {s : State} (h : memSound s) (x o : Nat) (bs : List Byte) : ctxWrite s x o bs = ctxPut s x o bs := by
  rw [ctxWrite, ctxTouchPart_of_sound h]

theorem SameMem.ctxWrite {s t : State} (h : SameMem s t) (x o : Nat) (bs : List Byte) :
    SameMem (ctxWrite s x o bs) (ctxWrite t x o bs) := by
  have ht : memSound t := by
    show t.mem.latent = []
    rw [h.2.1]
    exact h.1
  rw [ctxWrite_of_sound h.1, ctxWrite_of_sound ht]
  exact h.ctxPut x o bs

end Sys2Proof.Machine
end

section
/-! SUPPORT. Work that completes, and what it writes in its bobbin's store (R274, R275, R283, R285). -/

namespace Sys2Proof.Machine

open Claim

/-! Completion (R283). -/

/-- From `s` to `t` the work's needle has one fewer outstanding, and its completion token is posted. -/
def posted (n : Bob) (k : Work) (s t : State) : Prop :=
  (needle (bob t n) k.needle).pendAsync = (needle (bob s n) k.needle).pendAsync - 1 ∧
    (∀ i, i ≠ k.needle → needle (bob t n) i = needle (bob s n) i) ∧ (∀ m, m ≠ n.val → bob t m = bob s m) ∧
    (k.post = false → (bob t n).queues = (bob s n).queues) ∧
    (k.post = true →
      (queueOf (bob t n) k.queue).dropLast = queueOf (bob s n) k.queue ∧
      (((queueOf (bob t n) k.queue).getLast?).getD {}).w0 = k.w0 ∧ (((queueOf (bob t n) k.queue).getLast?).getD {}).w1 = 0 ∧
      bits (((queueOf (bob t n) k.queue).getLast?).getD {}).hdr.toNat 0 8 = 1 ∧
      ∀ q, q ≠ k.queue → queueOf (bob t n) q = queueOf (bob s n) q)

/-- The bobbin with the work's needle one fewer outstanding. -/
def needleFreed (b : Bobbin) (k : Work) : Bobbin :=
  { b with needles := tmod {} b.needles k.needle fun d => { d with pendAsync := d.pendAsync - 1 } }

/-- The bobbin with a token posted to a queue. -/
def tokenPosted (b : Bobbin) (q : Nat) (t : Token) : Bobbin := { b with queues := tmod [] b.queues q (· ++ [t]) }

/-- The completion token that bobbin n posts. -/
def doneToken (s : State) (n : Nat) (k : Work) : Token :=
  { hdr := sentHdr s n 1 (regionGen s (bob s n).region) k.queue, w0 := k.w0 }

theorem kind_sentHdr (s : State) (n gen queue : Nat) : bits (sentHdr s n 1 gen queue).toNat 0 8 = 1 := by
  unfold sentHdr tokHdr bits
  dsimp only
  rw [BitVec.toNat_ofNat]
  omega

/-- The state with the work's needle one fewer outstanding. -/
def needleFreedIn (y : State) (n : Nat) (k : Work) : State :=
  setNeedle y n k.needle fun d => { d with pendAsync := d.pendAsync - 1 }

theorem workDone_eq (y : State) (n : Nat) (k : Work) :
    workDone y n k = if k.post then
        setBobbin (needleFreedIn y n k) n fun b => tokenPosted b k.queue (doneToken (needleFreedIn y n k) n k)
      else needleFreedIn y n k := rfl

theorem workDone_spec (y : State) (n : Nat) (k : Work) :
    (∃ t : Token, bits t.hdr.toNat 0 8 = 1 ∧ t.w0 = k.w0 ∧ t.w1 = 0 ∧
      bob (workDone y n k) n = if k.post then tokenPosted (needleFreed (bob y n) k) k.queue t else needleFreed (bob y n) k) ∧
      (∀ m, m ≠ n → bob (workDone y n k) m = bob y m) ∧ bobsOnly y (workDone y n k) := by
  have hself : bob (needleFreedIn y n k) n = needleFreed (bob y n) k := bob_setBobbin_same _ _ _
  have hother : ∀ m, m ≠ n → bob (needleFreedIn y n k) m = bob y m := fun m hm => bob_setBobbin_ne _ hm _
  have hbobs : bobsOnly y (needleFreedIn y n k) := rfl
  rw [workDone_eq]
  generalize needleFreedIn y n k = s at hself hother hbobs ⊢
  refine ⟨⟨doneToken s n k, kind_sentHdr s n _ _, rfl, rfl, ?_⟩, fun m hm => ?_, ?_⟩
  · split
    · rw [bob_setBobbin_same, hself]
    · exact hself
  · split
    · rw [bob_setBobbin_ne _ hm, hother m hm]
    · exact hother m hm
  · split
    · exact hbobs.trans rfl
    · exact hbobs

/-- From `s` to `y` needles, queues and other bobbins stayed. -/
def UnitWork (n : Nat) (s y : State) : Prop :=
  (bob y n).needles = (bob s n).needles ∧ (bob y n).queues = (bob s n).queues ∧ ∀ m, m ≠ n → bob y m = bob s m

/-- The work is done after what its unit wrote. -/
theorem posted_workDone {n : Bob} {s y : State} (h : UnitWork n s y) (k : Work) : posted n k s (workDone y n k) := by
  obtain ⟨hneedles, hqueues, hother⟩ := h
  obtain ⟨⟨t, hkind, hw0, hw1, hself⟩, hrest, -⟩ := workDone_spec y n k
  have hfreed : ∀ i, needle (bob (workDone y n k) n) i =
      if i = k.needle then { needle (bob s n) k.needle with pendAsync := (needle (bob s n) k.needle).pendAsync - 1 }
      else needle (bob s n) i := fun i => by
    have hnd : (bob (workDone y n k) n).needles =
        tmod {} (bob s n).needles k.needle fun d => { d with pendAsync := d.pendAsync - 1 } := by
      rw [hself, ← hneedles]
      split <;> rfl
    rw [needle, hnd]
    exact tget_tmod {} (bob s n).needles _ _ _
  refine ⟨?_, fun i hi => ?_, fun m hm => (hrest m hm).trans (hother m hm), fun hp => ?_, fun hp => ?_⟩
  · rw [hfreed, if_pos rfl]
  · rw [hfreed, if_neg hi]
  · rw [hself, hp]
    exact hqueues
  · have hqueue : ∀ q, queueOf (bob (workDone y n k) n) q =
        if q = k.queue then queueOf (bob s n) k.queue ++ [t] else queueOf (bob s n) q := fun q => by
      rw [hself, if_pos hp, queueOf, queueOf, queueOf, ← hqueues]
      exact tget_tmod [] (bob y n).queues k.queue (· ++ [t]) q
    rw [hqueue k.queue, if_pos rfl, List.dropLast_concat, List.getLast?_concat]
    exact ⟨rfl, hw0, hw1, hkind, fun q hq => by rw [hqueue, if_neg hq]⟩

/-! Store writes one after the other. -/

/-- A bobbin after writes to its store. -/
def writesTo (b : Bobbin) (l : List (Nat × List Byte)) : Bobbin := l.foldl (fun b r => writtenTo b r.1 r.2) b

theorem forEach_storeWrite (n : Nat) (l : List (Nat × List Byte)) (s : State) :
    bob (forEach l s fun s r => storeWrite s n r.1 r.2) n = writesTo (bob s n) l ∧
      (∀ m, m ≠ n → bob (forEach l s fun s r => storeWrite s n r.1 r.2) m = bob s m) ∧
      bobsOnly s (forEach l s fun s r => storeWrite s n r.1 r.2) := by
  induction l generalizing s with
  | nil => exact ⟨rfl, fun _ _ => rfl, rfl⟩
  | cons r l ih =>
    obtain ⟨hself, hother, hbobs⟩ := ih (storeWrite s n r.1 r.2)
    rw [storeWrite_eq] at hself hother hbobs
    rw [bob_setBobbin_same] at hself
    exact ⟨hself, fun m hm => (hother m hm).trans (bob_setBobbin_ne _ hm _), bobsOnly.trans (bobsOnly_setBobbin s n _) hbobs⟩

/-- Writes leave all but the store and its errors. -/
theorem writesTo_storeOnly (b : Bobbin) (l : List (Nat × List Byte)) : StoreOnly b (writesTo b l) ∧ (writesTo b l).lost = b.lost := by
  induction l generalizing b with
  | nil => exact ⟨rfl, rfl⟩
  | cons r l ih =>
    obtain ⟨honly, hlost⟩ := ih (writtenTo b r.1 r.2)
    have hwritten : StoreOnly b (writtenTo b r.1 r.2) := rfl
    exact ⟨hwritten.trans honly, hlost⟩

theorem storeByte_writesTo_outside {b : Bobbin} {l : List (Nat × List Byte)} {a : Nat}
    (h : ∀ q ∈ l, a < q.1 ∨ q.1 + q.2.length ≤ a) : storeByte (writesTo b l) a = storeByte b a := by
  induction l generalizing b with
  | nil => rfl
  | cons r l ih =>
    refine (ih (b := writtenTo b r.1 r.2) fun q hq => h q (List.mem_cons_of_mem _ hq)).trans ?_
    rw [storeByte_writtenTo, if_neg]
    have := h r (List.mem_cons_self ..)
    omega

/-- A write that the later ones do not touch is what the store then holds. -/
theorem storeBytes_writesTo_cons {b : Bobbin} {r : Nat × List Byte} {l : List (Nat × List Byte)}
    (h : ∀ q ∈ l, r.1 + r.2.length ≤ q.1) : storeBytes (writesTo b (r :: l)) r.1 r.2.length = r.2 := by
  refine (storeBytes_congr fun k hk => ?_).trans (storeBytes_writtenTo b r.1 r.2)
  refine storeByte_writesTo_outside (b := writtenTo b r.1 r.2) fun q hq => ?_
  have := h q hq
  omega

/-- Writes in rising order, none touching the next, are all there. -/
theorem storeBytes_writesTo {b : Bobbin} {l : List (Nat × List Byte)} (h : l.Pairwise fun p q => p.1 + p.2.length ≤ q.1) :
    ∀ q ∈ l, storeBytes (writesTo b l) q.1 q.2.length = q.2 := by
  induction l generalizing b with
  | nil => exact fun q hq => absurd hq (List.not_mem_nil)
  | cons r l ih =>
    obtain ⟨hr, hl⟩ := List.pairwise_cons.1 h
    intro q hq
    rcases List.mem_cons.1 hq with rfl | hq
    · exact storeBytes_writesTo_cons hr
    · exact ih hl q hq

/-- The last write is there. -/
theorem storeBytes_writesTo_last {b : Bobbin} {l : List (Nat × List Byte)} :
    ∀ q ∈ l.getLast?.toList, storeBytes (writesTo b l) q.1 q.2.length = q.2 := by
  intro q hq
  obtain ⟨m, rfl⟩ := List.getLast?_eq_some_iff.1 (Option.mem_toList.1 hq)
  rw [writesTo, List.foldl_append]
  exact storeBytes_writtenTo _ _ _

/-! Reads before a completion. -/

/-- What a unit's result depends on of a bobbin: the bytes of its store. -/
def SameStore (b c : Bobbin) : Prop := storeByte c = storeByte b

theorem ReadOnly.sameStore {n : Nat} {s t : State} (h : ReadOnly n s t) : SameStore (bob s n) (bob t n) := by
  rw [h.1]
  rfl

theorem SameStore.storeBytes_eq {b c : Bobbin} (h : SameStore b c) : storeBytes c = storeBytes b := by
  funext a n
  rw [storeBytes, storeBytes, h]

theorem SameStore.mmaRows_eq {b c : Bobbin} (h : SameStore b c) (d : List Byte) (base : Nat) : mmaRows c d base = mmaRows b d base := by
  have hrow : mmaRow c = mmaRow b := by
    funext fmt k o stride i
    rw [mmaRow, mmaRow, h.storeBytes_eq]
  unfold mmaRows
  rw [hrow, h.storeBytes_eq, h]

theorem SameStore.vopResult_eq {b c : Bobbin} (h : SameStore b c) (d : List Byte) (base : Nat) :
    vopResult c d base = vopResult b d base := by
  have hwords : words32 c = words32 b := by
    funext a n
    rw [words32, words32, h.storeBytes_eq]
  unfold vopResult
  rw [hwords, h.storeBytes_eq]

/-- But for needles and queues a bobbin stays as its work is done. -/
theorem workDone_rest (y : State) (n : Nat) (k : Work) :
    SameStore (bob y n) (bob (workDone y n k) n) ∧ (bob (workDone y n k) n).store = (bob y n).store ∧
      (bob (workDone y n k) n).mma = (bob y n).mma ∧ (bob (workDone y n k) n).vop = (bob y n).vop ∧
      (bob (workDone y n k) n).copy = (bob y n).copy ∧ (bob (workDone y n k) n).send = (bob y n).send := by
  obtain ⟨⟨t, -, -, -, hself⟩, -, -⟩ := workDone_spec y n k
  rw [hself]
  split <;> exact ⟨rfl, rfl, rfl, rfl, rfl, rfl⟩

/-- A bobbin's store after writes that follow a read, before its unit's list changes. -/
theorem SameStore.writesTo {b c : Bobbin} (h : SameStore b c) (l : List (Nat × List Byte)) :
    SameStore (writesTo b l) (writesTo c l) := by
  induction l generalizing b c with
  | nil => exact h
  | cons r l ih =>
    refine ih (b := writtenTo b r.1 r.2) (c := writtenTo c r.1 r.2) (funext fun a => ?_)
    rw [storeByte_writtenTo, storeByte_writtenTo, h]

/-- A unit's list changed: needles, queues and store stay. -/
def ListOnly (put : Bobbin → Bobbin) : Prop :=
  ∀ b, (put b).needles = b.needles ∧ (put b).queues = b.queues ∧ SameStore b (put b)

/-- A completion: after a read of the store, writes to it, and a change of the unit's list, the work is done. -/
theorem completion {n : Bob} {k : Work} {s u y : State} {l : List (Nat × List Byte)} {put : Bobbin → Bobbin} (hread : ReadOnly n s u)
    (hput : ListOnly put) (hself : bob y n = put (writesTo (bob u n) l)) (hother : ∀ m, m ≠ n.val → bob y m = bob u m) :
    storeByte (bob (workDone y n k) n) = storeByte (writesTo (bob s n) l) ∧ posted n k s (workDone y n k) := by
  obtain ⟨honly, -⟩ := writesTo_storeOnly (bob u n) l
  obtain ⟨hneedles, hqueues, hstore⟩ := hput (writesTo (bob u n) l)
  refine ⟨?_, posted_workDone ⟨?_, ?_, fun m hm => (hother m hm).trans (hread.2.1 m hm)⟩ k⟩
  · rw [(workDone_rest y n k).1, hself, hstore]
    exact hread.sameStore.writesTo l
  · rw [hself, hneedles, honly, hread.1]
  · rw [hself, hqueues, honly, hread.1]

/-! MMAs (R274). -/

/-- Rows of C rise by the stride, and each is four bytes for each column. -/
theorem mmaRows_spec (b : Bobbin) (d : List Byte) (base : Nat) :
    ∃ f : Nat → List Byte, (∀ i, (f i).length = 4 * dF d 6 2) ∧
      mmaRows b d base = (List.range (dF d 4 2)).map fun i => (rowAddr (dF d 0x20 4) (dF d 0x24 4) i, f i) := by
  refine ⟨_, fun i => ?_, rfl⟩
  rw [List.length_flatMap]
  simp only [length_le]
  rw [List.map_const', List.sum_replicate, List.length_map, List.length_zip, List.length_map, List.length_range, Nat.min_self]
  simp [Nat.mul_comm]

/-- Each row of C ends where the next begins, or before. -/
theorem pairwise_mmaRows (b : Bobbin) {d : List Byte} (hstride : 4 * dF d 6 2 ≤ dF d 0x24 4) (base : Nat) :
    (mmaRows b d base).Pairwise fun p q => p.1 + p.2.length ≤ q.1 := by
  obtain ⟨f, hlen, hrows⟩ := mmaRows_spec b d base
  rw [hrows, List.pairwise_map]
  refine List.Pairwise.imp (fun {i j} hij => ?_) List.pairwise_lt_range
  show rowAddr _ _ i + (f i).length ≤ rowAddr _ _ j
  rw [hlen, rowAddr, rowAddr]
  have hnext := Nat.mul_le_mul_right (dF d 0x24 4) (Nat.succ_le_of_lt hij)
  rw [Nat.succ_mul] at hnext
  omega

/-- What lies outside C lies outside its rows. -/
theorem outside_mmaRows (b : Bobbin) (d : List Byte) (base : Nat) {a : Nat}
    (h : (mmaDest d).all (fun q => a < q.1 || q.1 + q.2 ≤ a) = true) :
    ∀ q ∈ mmaRows b d base, a < q.1 ∨ q.1 + q.2.length ≤ a := by
  obtain ⟨f, hlen, hrows⟩ := mmaRows_spec b d base
  rw [hrows]
  intro q hq
  obtain ⟨i, hi, rfl⟩ := List.mem_map.1 hq
  have hrow := List.all_eq_true.1 h _ (List.mem_map_of_mem hi)
  rw [Bool.or_eq_true, decide_eq_true_eq, decide_eq_true_eq] at hrow
  rw [hlen]
  exact hrow

/-- The MMA behind the one that completes has its clock begun. -/
def mmaNext (now : Nat) : List Work → List Work
  | [] => []
  | v :: t => { v with stamp := now } :: t

theorem desc_mmaNext (now : Nat) (l : List Work) : (mmaNext now l).map (·.desc) = l.map (·.desc) := by
  cases l <;> rfl

theorem bob_mmaAccount (s : State) (n : Nat) (w : Work) (m : Nat) : bob (mmaAccount s n w) m = bob s m := by
  have hcount : ∀ (t : State) (x i k : Nat), bob (ctxBump t x i k) m = bob t m := fun t x i k => by
    unfold ctxBump
    split <;> rfl
  have hadd : ∀ (t : State) (k c : Nat), bob (tdAdd t n k c) m = bob t m := fun t k c => hcount _ _ _ _
  unfold mmaAccount
  dsimp only
  rw [hadd, hadd]

section
variable {n : Bob} {k : Work} {r : List Work} {s : State} (hdie : dieUp s (bobDie n) = true) (hroom : postRoom s n k = true)
include hdie hroom

/-- The unit's die works, and its token has room: the guard of every completion is open. -/
theorem completes : ¬ (!dieUp s (bobDie n) || !postRoom s n k) = true := by
  rw [hdie, hroom]
  decide

/-- The oldest MMA completes. -/
theorem mmaComplete_spec (hlist : (bob s n).mma = k :: r)
    (hread : (mmaReads k.desc).any (fun q => storeBad (bob s n) q.1 q.2) = false) (hstride : 4 * dF k.desc 6 2 ≤ dF k.desc 0x24 4) :
    (∀ q ∈ mmaRows (bob s n) k.desc s.free, storeBytes (bob (mmaComplete s n) n) q.1 q.2.length = q.2) ∧
      (∀ a, (mmaDest k.desc).all (fun q => a < q.1 || q.1 + q.2 ≤ a) = true →
        storeByte (bob (mmaComplete s n) n) a = storeByte (bob s n) a) ∧
      (bob (mmaComplete s n) n).mma.map (·.desc) = r.map (·.desc) ∧ posted n k s (mmaComplete s n) := by
  obtain ⟨u, hu, hreads⟩ := readRanges_of_good hread
  have hrows := hreads.sameStore.mmaRows_eq k.desc s.free
  have hfree : u.free = s.free := by rw [hreads.2.2.2]
  generalize hv : ({ u with free := u.free + dF k.desc 4 2 * dF k.desc 6 2 } : State) = v
  have hbobs : ∀ m, bob v m = bob u m := fun m => by rw [← hv]; rfl
  obtain ⟨wself, wother, -⟩ := forEach_storeWrite n (mmaRows (bob s n) k.desc s.free) v
  generalize hw : mmaAccount (forEach (mmaRows (bob s n) k.desc s.free) v fun s r => storeWrite s n r.1 r.2) n k = w
  have hcomplete : mmaComplete s n = workDone (setBobbin w n fun b => { b with mma := mmaNext w.now r }) n k := by
    unfold mmaComplete
    rw [hlist]
    dsimp only
    rw [if_neg (completes hdie hroom), hu]
    dsimp only
    rw [hfree, hrows, ← hfree, hv, hfree, hw]
    cases r <;> rfl
  have hwbob : ∀ m, bob w m = bob (forEach (mmaRows (bob s n) k.desc s.free) v fun s r => storeWrite s n r.1 r.2) m := fun m => by
    rw [← hw, bob_mmaAccount]
  have hy : bob (setBobbin w n fun b => { b with mma := mmaNext w.now r }) n =
      { writesTo (bob u n) (mmaRows (bob s n) k.desc s.free) with mma := mmaNext w.now r } := by
    rw [bob_setBobbin_same, hwbob, wself, hbobs]
  obtain ⟨hstore, hposted⟩ := completion (k := k) hreads (put := fun b => { b with mma := mmaNext w.now r })
    (fun _ => ⟨rfl, rfl, rfl⟩) hy fun m hm => by rw [bob_setBobbin_ne _ hm, hwbob, wother m hm, hbobs]
  rw [hcomplete]
  refine ⟨fun q hq => ?_, fun a ha => ?_, ?_, hposted⟩
  · rw [SameStore.storeBytes_eq hstore]
    exact storeBytes_writesTo (pairwise_mmaRows (bob s n) hstride s.free) q hq
  · rw [hstore]
    exact storeByte_writesTo_outside (outside_mmaRows (bob s n) k.desc s.free ha)
  · rw [(workDone_rest _ n k).2.2.1, hy]
    exact desc_mmaNext _ _

end

/-! Vector operations (R275, R277). -/

/-- The sticky flags, of which the last may hang on a free value, joined to the region's. -/
theorem fget_sticky (s : State) {r : Nat} (hr : r < 64) (fl : Nat) :
    fget (sticky s r fl) (BOB_RGN_STAT.IEEE r) % 8 = (fget s (BOB_RGN_STAT.IEEE r) ||| fl) % 8 := by
  have hor : ∀ a b : Nat, (a ||| b) % 8 = a % 8 ||| b % 8 := fun a b => Nat.or_mod_two_pow (n := 3)
  have hset : ∀ (t : State) (v : Nat), fget (fset t (BOB_RGN_STAT.IEEE r) v) (BOB_RGN_STAT.IEEE r) % 8 = v % 8 := fun t v => by
    rw [fget_fset_same _ _ _ (show 56 + 4 ≤ 64 by decide)]
    exact Nat.mod_mod_of_dvd v (show 8 ∣ 2 ^ 4 by decide)
  have hkept : ∀ v : Nat, fget (draw s).2 (BOB_RGN_STAT.IEEE r) = fget s (BOB_RGN_STAT.IEEE r) := fun _ => rfl
  unfold sticky
  dsimp only
  rw [if_pos hr, hset, hor, hor, hkept 0, Nat.mod_mod_of_dvd _ (by decide)]
  split
  · rw [hor, show fUnderflow % 8 = 0 from rfl, Nat.or_zero]
  · rfl

theorem bob_sticky (s : State) (r fl m : Nat) : bob (sticky s r fl) m = bob s m ∧ (sticky s r fl).mem = s.mem := by
  unfold sticky
  dsimp only
  split <;> exact ⟨rfl, rfl⟩

section
variable {n : Bob} {k : Work} {r : List Work} {s : State} (hdie : dieUp s (bobDie n) = true) (hroom : postRoom s n k = true)
include hdie hroom

/-- The oldest vector operation completes. -/
theorem vopComplete_spec (hlist : (bob s n).vop = k :: r)
    (hread : (vopReads k.desc).any (fun q => storeBad (bob s n) q.1 q.2) = false) (hregion : (bob s n).region < 64) :
    (∀ q ∈ (vopResult (bob s n) k.desc s.free).1.getLast?.toList, storeBytes (bob (vopComplete s n) n) q.1 q.2.length = q.2) ∧
      (∀ a, (vopResult (bob s n) k.desc s.free).1.all (fun q => a < q.1 || q.1 + q.2.length ≤ a) = true →
        storeByte (bob (vopComplete s n) n) a = storeByte (bob s n) a) ∧
      fget (vopComplete s n) (BOB_RGN_STAT.IEEE (bob s n).region) % 8 =
        (fget s (BOB_RGN_STAT.IEEE (bob s n).region) ||| (vopResult (bob s n) k.desc s.free).2) % 8 ∧
      (bob (vopComplete s n) n).vop = r ∧ posted n k s (vopComplete s n) ∧ (vopComplete s n).mem = s.mem := by
  obtain ⟨u, hu, hreads⟩ := readRanges_of_good hread
  have hresult := hreads.sameStore.vopResult_eq k.desc s.free
  have hfree : u.free = s.free := by rw [hreads.2.2.2]
  generalize vopResult (bob s n) k.desc s.free = x at hresult ⊢
  generalize hv : ({ u with free := u.free + dF k.desc 4 4 + dF k.desc 4 4 / 32 + 2 } : State) = v
  have hbobs : ∀ m, bob v m = bob u m := fun m => by rw [← hv]; rfl
  obtain ⟨wself, wother, wbobs⟩ := forEach_storeWrite n x.1 v
  generalize hw : forEach x.1 v (fun s r => storeWrite s n r.1 r.2) = w at wself wother wbobs
  obtain ⟨honly, -⟩ := writesTo_storeOnly (bob v n) x.1
  have hr : (bob w n).region = (bob s n).region := by rw [wself, honly, hbobs, hreads.1]
  have hcomplete : vopComplete s n =
      workDone (setBobbin (sticky w (bob s n).region x.2) n fun b => { b with vop := r }) n k := by
    unfold vopComplete
    rw [hlist]
    dsimp only
    rw [if_neg (completes hdie hroom), hu]
    dsimp only
    rw [hfree, hresult, ← hfree, hv, hw, hr]
  have hkept : ∀ m, bob (sticky w (bob s n).region x.2) m = bob w m := fun m => (bob_sticky w _ x.2 m).1
  have hy : bob (setBobbin (sticky w (bob s n).region x.2) n fun b => { b with vop := r }) n =
      { writesTo (bob u n) x.1 with vop := r } := by
    rw [bob_setBobbin_same, hkept, wself, hbobs]
  obtain ⟨hstore, hposted⟩ := completion (k := k) hreads (put := fun b => { b with vop := r })
    (fun _ => ⟨rfl, rfl, rfl⟩) hy fun m hm => by rw [bob_setBobbin_ne _ hm, hkept, wother m hm, hbobs]
  obtain ⟨-, -, hdone⟩ := workDone_spec (setBobbin (sticky w (bob s n).region x.2) n fun b => { b with vop := r }) n k
  have hregs : getReg w (BOB_RGN_STAT (bob s n).region) = getReg s (BOB_RGN_STAT (bob s n).region) := by
    refine (getReg_congr ?_ _).trans (hreads.getReg_eq (by unfold BOB_RGN_STAT PMC_STORE_CE; omega))
    rw [wbobs, ← hv]
  rw [hcomplete]
  refine ⟨fun q hq => ?_, fun a ha => ?_, ?_, ?_, hposted, ?_⟩
  · rw [SameStore.storeBytes_eq hstore]
    exact storeBytes_writesTo_last q hq
  · rw [hstore]
    refine storeByte_writesTo_outside fun q hq => ?_
    have := List.all_eq_true.1 ha q hq
    rwa [Bool.or_eq_true, decide_eq_true_eq, decide_eq_true_eq] at this
  · rw [← fget_of_getReg_eq (f := BOB_RGN_STAT.IEEE (bob s n).region) hregs, ← fget_sticky w hregion]
    refine congrArg (· % 8) (fget_of_getReg_eq (getReg_congr ?_ _))
    rw [hdone]
    rfl
  · rw [(workDone_rest _ n k).2.2.2.1, hy]
  · rw [hdone]
    refine (bob_sticky w _ x.2 0).2.trans ?_
    rw [wbobs, ← hv, hreads.2.2.2]

end

end Sys2Proof.Machine
end

section
/-! SUPPORT. Copies and SENDs that complete (R285, R286, R300): it settles O42. -/

namespace Sys2Proof.Machine

open Claim

/-- Corrected errors leave which dies work. -/
theorem dieUp_storeFix (s : State) (n a len : Nat) : dieUp (storeFix s n a len) = dieUp s := by
  have hbump : ∀ (t : State) (r k : Nat), r < 64 → dieUp (bumpBy t (PMC_STORE_CE r) k) = dieUp t := fun t r k hr => funext fun d => by
    rw [dieUp, dieUp, bumpBy, fget_setReg_ne]
    show FLT_DIE d ≠ PMC_STORE_CE r
    unfold FLT_DIE PMC_STORE_CE
    omega
  have hset : ∀ f, dieUp (setBobbin s n f) = dieUp s := fun f => rfl
  unfold storeFix
  dsimp only
  split
  · rfl
  · split
    · next hr => rw [hbump _ _ _ hr, hset]
    · rfl

/-! Copies of one row. -/

/-- A row of a copy that its own bobbin keeps, or its context's window, moved. -/
def rowMoved (s : State) (n own : Nat) (d : List Byte) : State :=
  if dF d 0 1 = 0 then
    storeWrite (storeFix s n (dF d 0x10 8) (dF d 8 4)) n (dF d 0x20 8) (storeBytes (bob s n) (dF d 0x10 8) (dF d 8 4))
  else if dF d 0 1 = 2 then storeWrite s n (dF d 0x20 8) (ctxRead s own (dF d 0x10 8) (dF d 8 4))
  else ctxPut (storeFix s n (dF d 0x10 8) (dF d 8 4)) own (dF d 0x20 8) (storeBytes (bob s n) (dF d 0x10 8) (dF d 8 4))

/-- The only row of a copy without a list begins at SRC and DST. -/
theorem copyRow_zero (b : Bobbin) {d : List Byte} (h4 : dF d 0 1 ≠ 4) (h5 : dF d 0 1 ≠ 5) :
    copyRow b d 0 = (dF d 0x10 8, dF d 0x20 8) := by
  unfold copyRow rowAddr
  dsimp only
  rw [if_neg (by simpa using h4), if_neg (by simpa using h5), Nat.zero_mul, Nat.zero_mul]
  rfl

/-- What a row of a copy needs: readable operands, in the window and on dies that can be reached. -/
def rowGood (s : State) (n own : Nat) (d : List Byte) : Prop :=
  (dF d 0 1 = 0 ∧ storeBad (bob s n) (dF d 0x10 8) (dF d 8 4) = false) ∨
  (dF d 0 1 = 2 ∧ inWindow s own (dF d 0x10 8) (dF d 8 4) = true ∧ ctxFar s n own (dF d 0x10 8) (dF d 8 4) = false ∧
    ctxHeld s n own (dF d 0x10 8) (dF d 8 4) = false ∧ memSound s ∧ ctxBad s own (dF d 0x10 8) (dF d 8 4) = false) ∨
  (dF d 0 1 = 3 ∧ inWindow s own (dF d 0x20 8) (dF d 8 4) = true ∧ storeBad (bob s n) (dF d 0x10 8) (dF d 8 4) = false ∧
    ctxFar s n own (dF d 0x20 8) (dF d 8 4) = false ∧ ctxHeld s n own (dF d 0x20 8) (dF d 8 4) = false ∧ memSound s ∧
    ctxPartBad s own (dF d 0x20 8) (dF d 8 4) = false)

theorem moveRow_of_good {s : State} {n own : Nat} {d : List Byte} (h : rowGood s n own d) :
    moveRow s n own d 0 = .inl (rowMoved s n own d) := by
  unfold moveRow rowMoved
  rcases h with ⟨hk, hgood⟩ | ⟨hk, hwin, hfar, -, hsound, hgood⟩ | ⟨hk, hwin, hgood, hfar, -, hsound, hpart⟩
  · have hrow := copyRow_zero (bob s n) (d := d) (by rw [hk]; decide) (by rw [hk]; decide)
    simp [hk, hrow, hgood]
  · have hrow := copyRow_zero (bob s n) (d := d) (by rw [hk]; decide) (by rw [hk]; decide)
    simp [hk, hrow, hwin, hfar, hgood, ctxTouch_of_sound hsound]
  · have hrow := copyRow_zero (bob s n) (d := d) (by rw [hk]; decide) (by rw [hk]; decide)
    simp [hk, hrow, hwin, hfar, hgood, hpart, ctxTouchPart_of_sound hsound]

theorem rowHeld_of_good {s : State} {n own : Nat} {d : List Byte} (h : rowGood s n own d) : rowHeld s n own d 0 = false := by
  have hrow := fun h4 h5 => copyRow_zero (bob s n) (d := d) h4 h5
  unfold rowHeld
  rcases h with ⟨hk, -⟩ | ⟨hk, -, -, hheld, -, -⟩ | ⟨hk, -, -, -, hheld, -, -⟩
  · rw [hrow (by rw [hk]; decide) (by rw [hk]; decide), hk]
    rfl
  · rw [hrow (by rw [hk]; decide) (by rw [hk]; decide), hk]
    exact hheld
  · rw [hrow (by rw [hk]; decide) (by rw [hk]; decide), hk]
    exact hheld

/-- Nothing of the work is on its way any more: it is done, and nothing else happened. -/
theorem listShortened_done {n : Bob} {s : State} (k : Work) {put : Bobbin → Bobbin} (hput : ListOnly put) :
    posted n k s (workDone (setBobbin s n put) n k) ∧ bobsOnly s (workDone (setBobbin s n put) n k) := by
  obtain ⟨hneedles, hqueues, -⟩ := hput (bob s n)
  refine ⟨posted_workDone ⟨?_, ?_, fun m hm => bob_setBobbin_ne _ hm _⟩ k, (bobsOnly_setBobbin s n put).trans (workDone_spec _ n k).2.2⟩
  · rw [bob_setBobbin_same, hneedles]
  · rw [bob_setBobbin_same, hqueues]

section
variable {n : Bob} {k : Work} {r : List Work} {s : State} (hdie : dieUp s (bobDie n) = true) (hroom : postRoom s n k = true)
include hdie hroom

/-- A copy of one row completes. -/
theorem copyComplete_row (hlist : (bob s n).copy = k :: r) (hkind : k.kind ≠ 1) (hrows : dF k.desc 4 4 = 1)
    (hgood : rowGood s n (bobOwner s n) k.desc) :
    copyComplete s n = workDone (setBobbin (rowMoved s n (bobOwner s n) k.desc) n fun b => { b with copy := r }) n k := by
  have hheld : ¬ ((List.range 1).any (rowHeld s n (bobOwner s n) k.desc)) = true := by
    show ¬ (rowHeld s n (bobOwner s n) k.desc 0 || false) = true
    rw [rowHeld_of_good hgood]
    decide
  unfold copyComplete
  rw [hlist]
  dsimp only
  rw [if_neg (completes hdie hroom), if_neg (by simpa using hkind), hrows, if_neg hheld, moveRows, moveRow_of_good hgood]
  rfl

/-- What such a copy leaves where its row went to the bobbin's own store. -/
theorem copyComplete_store (hlist : (bob s n).copy = k :: r) (hkind : k.kind ≠ 1) (hrows : dF k.desc 4 4 = 1)
    (hgood : rowGood s n (bobOwner s n) k.desc) {u : State} {bs : List Byte} (hread : ReadOnly n s u) (hlen : bs.length = dF k.desc 8 4)
    (hmoved : rowMoved s n (bobOwner s n) k.desc = storeWrite u n (dF k.desc 0x20 8) bs) :
    storeBytes (bob (copyComplete s n) n) (dF k.desc 0x20 8) (dF k.desc 8 4) = bs ∧
      (∀ a, a < dF k.desc 0x20 8 ∨ dF k.desc 0x20 8 + dF k.desc 8 4 ≤ a →
        storeByte (bob (copyComplete s n) n) a = storeByte (bob s n) a) ∧
      (bob (copyComplete s n) n).copy = r ∧ posted n k s (copyComplete s n) ∧ (copyComplete s n).mem = s.mem := by
  rw [copyComplete_row hdie hroom hlist hkind hrows hgood, hmoved, storeWrite_eq]
  generalize hy : setBobbin (setBobbin u n fun b => writtenTo b (dF k.desc 0x20 8) bs) n (fun b => { b with copy := r }) = y
  have hself : bob y n = { writesTo (bob u n) [(dF k.desc 0x20 8, bs)] with copy := r } := by
    rw [← hy, bob_setBobbin_same, bob_setBobbin_same]
    rfl
  have hother : ∀ m, m ≠ n.val → bob y m = bob u m := fun m hm => by
    rw [← hy, bob_setBobbin_ne _ hm, bob_setBobbin_ne _ hm]
  have hmem : y.mem = s.mem := by rw [← hy, hread.2.2.2]; rfl
  obtain ⟨hstore, hposted⟩ := completion (k := k) hread (put := fun b => { b with copy := r }) (fun _ => ⟨rfl, rfl, rfl⟩) hself hother
  obtain ⟨-, -, hdone⟩ := workDone_spec y n k
  refine ⟨?_, fun a ha => ?_, ?_, hposted, ?_⟩
  · rw [SameStore.storeBytes_eq hstore, ← hlen]
    exact storeBytes_writesTo_last (dF k.desc 0x20 8, bs) (List.mem_singleton.2 rfl)
  · rw [hstore]
    refine storeByte_writesTo_outside fun q hq => ?_
    rw [List.mem_singleton.1 hq]
    show a < dF k.desc 0x20 8 ∨ dF k.desc 0x20 8 + bs.length ≤ a
    rw [hlen]
    exact ha
  · rw [(workDone_rest y n k).2.2.2.2.1, hself]
  · rw [hdone]
    exact hmem

/-- What it leaves where its row went to the context's window. -/
theorem copyComplete_window (hlist : (bob s n).copy = k :: r) (hkind : k.kind ≠ 1) (hrows : dF k.desc 4 4 = 1)
    (hthree : dF k.desc 0 1 = 3) (hsound : memSound s) (hgood : rowGood s n (bobOwner s n) k.desc) :
    (copyComplete s n).mem =
        (ctxWrite s (bobOwner s n) (dF k.desc 0x20 8) (storeBytes (bob s n) (dF k.desc 0x10 8) (dF k.desc 8 4))).mem ∧
      (bob (copyComplete s n) n).store = (bob s n).store ∧ (bob (copyComplete s n) n).copy = r ∧ posted n k s (copyComplete s n) := by
  rw [copyComplete_row hdie hroom hlist hkind hrows hgood, rowMoved, if_neg (by rw [hthree]; decide),
    if_neg (by rw [hthree]; decide), ctxWrite_of_sound hsound]
  have hread := storeFix_readOnly s n (dF k.desc 0x10 8) (dF k.desc 8 4)
  have hsame : SameMem s (storeFix s n (dF k.desc 0x10 8) (dF k.desc 8 4)) :=
    ⟨hsound, by rw [hread.2.2.2], dieUp_storeFix s n _ _⟩
  generalize storeFix s n (dF k.desc 0x10 8) (dF k.desc 8 4) = u at hread hsame
  generalize hbs : storeBytes (bob s n) (dF k.desc 0x10 8) (dF k.desc 8 4) = bs
  have hput : ∀ m, bob (ctxPut u (bobOwner s n) (dF k.desc 0x20 8) bs) m = bob u m := (ctxPut_work u _ _ bs).bob_eq
  have hmem := (hsame.ctxPut (bobOwner s n) (dF k.desc 0x20 8) bs).2.1
  generalize ctxPut u (bobOwner s n) (dF k.desc 0x20 8) bs = w at hput hmem
  have hself : bob (setBobbin w n fun b => { b with copy := r }) n = { writesTo (bob u n) [] with copy := r } := by
    rw [bob_setBobbin_same, hput]
    rfl
  obtain ⟨-, hposted⟩ := completion (k := k) hread (put := fun b => { b with copy := r }) (fun _ => ⟨rfl, rfl, rfl⟩) hself
    fun m hm => by rw [bob_setBobbin_ne _ hm, hput]
  obtain ⟨-, -, hdone⟩ := workDone_spec (setBobbin w n fun b => { b with copy := r }) n k
  obtain ⟨-, hstore, -, -, hcopy, -⟩ := workDone_rest (setBobbin w n fun b => { b with copy := r }) n k
  refine ⟨?_, ?_, ?_, hposted⟩
  · rw [hdone]
    exact hmem
  · rw [hstore, hself, writesTo, List.foldl_nil, hread.1]
  · rw [hcopy, hself]

/-! Copies along a route, and SENDs. -/

theorem copyComplete_route (hlist : (bob s n).copy = k :: r) (hkind : k.kind = 1) (hway : copyOnWay s k.frameId = false) :
    copyComplete s n = workDone (setBobbin s n fun b => { b with copy := r }) n k := by
  unfold copyComplete
  rw [hlist]
  dsimp only
  rw [if_neg (completes hdie hroom), hkind, hway]
  rfl

theorem sendComplete_crossed (hlist : (bob s n).send = k :: r) (hcrossed : k.crossed = true) :
    sendComplete s n = workDone (setBobbin s n fun b => { b with send := b.send.eraseIdx 0 }) n k := by
  have hfirst : (k :: r).findIdx? (·.crossed) = some 0 := by rw [List.findIdx?_cons, hcrossed]; rfl
  unfold sendComplete
  rw [hlist, hfirst]
  dsimp only
  rw [List.getElem?_cons_zero]
  dsimp only
  rw [if_neg (completes hdie hroom)]

end

/-- Settles O42: what each unit's oldest work writes as it completes, and that its needle and its queue learn of it. -/
theorem unitCompletions : Obligations.UnitCompletions := by
  unfold Obligations.UnitCompletions
  intro posts due
  refine ⟨fun n k r s h _ hread hstride => ?_, fun n k r s h _ hread hregion => ?_, fun n k r s h hkind hzero hrows hgood => ?_,
    fun n k r x s h hkind htwo hrows hx hwin hfar hheld hsound hgood => ?_,
    fun n k r x s h hkind hthree hrows hx hwin hgood hfar hheld hsound hpart => ?_, fun n k r s h hkind hway => ?_,
    fun n k r s h hcrossed => ?_⟩
  all_goals obtain ⟨hpow, hlist, hdie, hroom⟩ := h
  · exact answers_of_fires (f := fun s => mmaComplete s n) hpow rfl (mmaComplete_spec hdie hroom hlist hread hstride)
  · exact answers_of_fires (f := fun s => vopComplete s n) hpow rfl (vopComplete_spec hdie hroom hlist hread hregion)
  · exact answers_of_fires (f := fun s => copyComplete s n) hpow rfl
      (copyComplete_store hdie hroom hlist (by rw [hkind]; decide) hrows (.inl ⟨hzero, hgood⟩) (storeFix_readOnly s n _ _)
        (length_storeBytes _ _ _) (by rw [rowMoved, if_pos hzero]))
  · subst hx
    have hlen : (ctxRead s (bobOwner s n) (dF k.desc 0x10 8) (dF k.desc 8 4)).length = dF k.desc 8 4 := by
      rw [ctxRead, List.length_map, List.length_range]
    exact answers_of_fires (f := fun s => copyComplete s n) hpow rfl
      (copyComplete_store hdie hroom hlist (by rw [hkind]; decide) hrows (.inr (.inl ⟨htwo, hwin, hfar, hheld, hsound, hgood⟩))
        (ReadOnly.refl n s) hlen (by rw [rowMoved, if_neg (by rw [htwo]; decide), if_pos htwo]))
  · subst hx
    exact answers_of_fires (f := fun s => copyComplete s n) hpow rfl
      (copyComplete_window hdie hroom hlist (by rw [hkind]; decide) hrows hthree hsound
        (.inr (.inr ⟨hthree, hwin, hgood, hfar, hheld, hsound, hpart⟩)))
  · obtain ⟨hposted, hbobs⟩ := listShortened_done (n := n) (s := s) k (put := fun b => { b with copy := r }) fun _ => ⟨rfl, rfl, rfl⟩
    obtain ⟨-, hstore, -, -, hcopy, -⟩ := workDone_rest (setBobbin s n fun b => { b with copy := r }) n k
    refine answers_of_fires (f := fun s => copyComplete s n) hpow rfl ?_
    rw [bob_setBobbin_same] at hstore hcopy
    rw [copyComplete_route hdie hroom hlist hkind hway]
    exact ⟨hcopy, hstore, hposted, hbobs⟩
  · obtain ⟨hposted, hbobs⟩ := listShortened_done (n := n) (s := s) k (put := fun b => { b with send := b.send.eraseIdx 0 })
      fun _ => ⟨rfl, rfl, rfl⟩
    obtain ⟨-, hstore, -, -, -, hsend⟩ := workDone_rest (setBobbin s n fun b => { b with send := b.send.eraseIdx 0 }) n k
    refine answers_of_fires (f := fun s => sendComplete s n) hpow rfl ?_
    rw [bob_setBobbin_same] at hstore hsend
    rw [hlist] at hsend
    rw [sendComplete_crossed hdie hroom hlist hcrossed]
    exact ⟨hsend, hstore, hposted, hbobs⟩

end Sys2Proof.Machine
end

section
/-! SUPPORT. Die faults, resets and rejoins (R373 to R378), what a fault of CTL shuts, a lost optical chiplet (R361) and a hot
memory device (R477): they settle O47. -/

namespace Sys2Proof.Machine

open Claim

/-! Steps of fault handling. -/

/-- Registers that a fault of a die that is not UP may write. -/
def faultReg (d o : Nat) : Bool := o == FLT_DIE d || o == FLT_XDIE || (FLT_BUNDLE 0 ≤ o && o < FLT_BUNDLE 32)

/-- From `s` to `t` the named registers and fault handling's own account changed, beside what events and interrupts leave. -/
def FaultWork (own : Nat → Bool) (s t : State) : Prop := regsQuiet own s t ∧ signalsOnly { s with flt := t.flt } t

section
variable {own : Nat → Bool}

theorem FaultWork.refl (s : State) : FaultWork own s s := ⟨fun _ _ _ => rfl, rfl⟩

theorem FaultWork.trans {s t u : State} (h : FaultWork own s t) (k : FaultWork own t u) : FaultWork own s u := by
  obtain ⟨hregs, hst⟩ := h
  obtain ⟨kregs, ktu⟩ := k
  refine ⟨fun o ho hq => (kregs o ho hq).trans (hregs o ho hq), ?_⟩
  unfold signalsOnly at *
  rw [ktu, hst]

theorem FaultWork.of_signals {s t : State} (h : Signals s t) : FaultWork own s t := by
  obtain ⟨hst, hregs, -⟩ := h
  refine ⟨fun o _ hq => hregs o hq, ?_⟩
  unfold signalsOnly at *
  rw [hst]

theorem FaultWork.of_onlyRegs {s t : State} (h : OnlyRegs own s t) : FaultWork own s t := by
  obtain ⟨hst, hregs⟩ := h
  refine ⟨fun o ho _ => hregs o ho, ?_⟩
  unfold signalsOnly
  unfold regsOnly at hst
  rw [hst]

theorem FaultWork.fset (s : State) {f : Fld} (hf : own f.off = true) (v : Nat) : FaultWork own s (fset s f v) :=
  FaultWork.of_onlyRegs (OnlyRegs.fset s hf v)

theorem FaultWork.setFlt (s : State) (f : FltSt → FltSt) : FaultWork own s (setFlt s f) := ⟨fun _ _ _ => rfl, rfl⟩

theorem FaultWork.test_eq {s t : State} (h : FaultWork own s t) : t.test = s.test := by
  obtain ⟨-, hst⟩ := h
  unfold signalsOnly at hst
  rw [hst]

theorem FaultWork.mem_eq {s t : State} (h : FaultWork own s t) : t.mem = s.mem := by
  obtain ⟨-, hst⟩ := h
  unfold signalsOnly at hst
  rw [hst]

/-- A sweep of self-tests finds none after it. -/
theorem FaultWork.testSweep_eq {s t : State} (h : FaultWork own s t) (hown : own CTL_TEST_STAT = false) (hfree : testFree s = true) :
    testSweep t = t :=
  testSweep_of_kept hfree (h.1 _ hown (by decide)) h.test_eq

end

/-- What every die's fault keeps clear of. -/
theorem faultReg_test (d : Fin 8) : faultReg d CTL_TEST_STAT = false := by
  have hne : (CTL_TEST_STAT == FLT_DIE d) = false := beq_eq_false_iff_ne.2 (by unfold CTL_TEST_STAT FLT_DIE; omega)
  rw [faultReg, hne]
  decide

theorem faultReg_self (d : Nat) : faultReg d (FLT_DIE d) = true := by simp [faultReg]

/-! A die changes state. -/

theorem flt_of_signals {s t : State} (h : Signals s t) : t.flt = s.flt := by
  obtain ⟨hst, -, -⟩ := h
  rw [hst]

/-- The new state is stored, and the change signals. -/
theorem dieSet_signals (s : State) (d st : Nat) : Signals (fset s (FLT_DIE.STATE d) st) (dieSet s d st) :=
  (event_signals _ (by decide) _ _ _ _ _).trans (ring_signals _ (by decide))

theorem dieSet_work {own : Nat → Bool} (s : State) {d : Nat} (hd : own (FLT_DIE d) = true) (st : Nat) :
    FaultWork own s (dieSet s d st) :=
  (FaultWork.fset s (f := FLT_DIE.STATE d) hd st).trans (FaultWork.of_signals (dieSet_signals s d st))

theorem flt_dieSet (s : State) (d st : Nat) : (dieSet s d st).flt = s.flt :=
  (flt_of_signals (dieSet_signals s d st)).trans rfl

/-- The rest of the die's register stays. -/
theorem fget_dieSet (s : State) {d : Nat} (hd : d < 8) (st : Nat) {f : Fld} (hoff : f.off = FLT_DIE d) (hf : 3 ≤ f.lo) :
    fget (dieSet s d st) f = fget s f := by
  have hquiet : signalReg f.off = false := hoff ▸ signalReg_die ⟨d, hd⟩
  rw [fget_of_getReg_eq ((dieSet_signals s d st).2.1 _ hquiet)]
  exact fget_fset_ne s (FLT_DIE.STATE d) f st (Or.inr (Or.inr hf))

/-! Bundles. -/

theorem bundleReg {b : Nat} (hb : b < 32) : (decide (FLT_BUNDLE 0 ≤ FLT_BUNDLE b) && decide (FLT_BUNDLE b < FLT_BUNDLE 32)) = true := by
  rw [Bool.and_eq_true, decide_eq_true_eq, decide_eq_true_eq]
  unfold FLT_BUNDLE
  omega

/-- Bringing the bundles up to date writes their registers. -/
theorem bundlesRefresh_work (s : State) {own : Nat → Bool} (hbundle : ∀ b, b < 32 → own (FLT_BUNDLE b) = true)
    (hadmit : own FLT_XDIE = true) : OnlyRegs own s (bundlesRefresh s) := by
  refine (OnlyRegs.forRange (fun t b hb => ?_) s).trans (OnlyRegs.fset _ hadmit _)
  have hown := hbundle b hb
  exact ((OnlyRegs.fset t (f := FLT_BUNDLE.STATE b) hown _).trans (OnlyRegs.fset _ (f := FLT_BUNDLE.WIDTH b) hown _)).trans
    (OnlyRegs.fset _ (f := FLT_BUNDLE.SPARES b) hown _)

/-- Registers that show the bundles. -/
def bundleRegs (o : Nat) : Bool := o == FLT_XDIE || (FLT_BUNDLE 0 ≤ o && o < FLT_BUNDLE 32)

theorem bundlesRefresh_onlyRegs (s : State) : OnlyRegs bundleRegs s (bundlesRefresh s) :=
  bundlesRefresh_work s (fun b hb => by rw [bundleRegs, bundleReg hb, Bool.or_true]) (by decide)

theorem bundleRegs_die : ∀ d : Fin 8, bundleRegs (FLT_DIE d) = false := by decide

theorem bundlesRefresh_faultWork (s : State) (d : Nat) : FaultWork (faultReg d) s (bundlesRefresh s) :=
  FaultWork.of_onlyRegs (bundlesRefresh_work s (fun b hb => by rw [faultReg, bundleReg hb, Bool.or_true])
    (by simp [faultReg]))

theorem flt_bundlesRefresh (s : State) : (bundlesRefresh s).flt = s.flt := by
  rw [(bundlesRefresh_onlyRegs s).1]

theorem fget_bundlesRefresh (s : State) {d : Nat} (hd : d < 8) {f : Fld} (hoff : f.off = FLT_DIE d) :
    fget (bundlesRefresh s) f = fget s f :=
  fget_of_getReg_eq ((bundlesRefresh_onlyRegs s).2 _ (by rw [hoff]; exact bundleRegs_die ⟨d, hd⟩))

/-! A new fault of a READY die (R377). -/

/-- The faults of a die in the last hour, with one at present. -/
def faultTimes (s : State) (d : Nat) : List Nat := recent s (tget [] s.flt.dieFaults d) 3600000000000 ++ [s.now]

/-- Fault handling's account with a fault of the die. -/
def faultCounted (d : Nat) (times : List Nat) (t : FltSt) : FltSt :=
  { t with dieFaults := tset [] t.dieFaults d times, dieHeld := tset false t.dieHeld d (3 ≤ times.length),
           dieJoin := tset false t.dieJoin d false }

/-- The module with a fault of the die recorded. -/
def faultRecorded (s : State) (d cause : Nat) : State :=
  fset (fset (fset (setFlt s (faultCounted d (faultTimes s d))) (FLT_DIE.TS d) s.shortTs) (FLT_DIE.FAULTS d) (faultTimes s d).length)
    (FLT_DIE.CAUSE d) cause

/-- A free test runs on no die. -/
theorem testOnDie_of_free {s : State} (h : testFree s = true) (d : Nat) : testOnDie s d = false := by
  unfold testFree at h
  rw [Bool.and_eq_true, Bool.not_eq_true'] at h
  have hstat : (fget s CTL_TEST_STAT.STATE == 1 || fget s CTL_TEST_STAT.STATE == 2) = false := h.1
  unfold testOnDie
  dsimp only
  rw [hstat, Bool.false_and]

/-- What a fault of a READY die does. -/
theorem dieFault_of_ready {s : State} (hfree : testFree s = true) {d : Nat} (hready : fget s (FLT_DIE.STATE d) = 3) (cause : Nat) :
    dieFault s d cause = dieSet (bundlesRefresh (dieSet (faultRecorded s d cause) d 1)) d 2 := by
  unfold dieFault
  dsimp only
  rw [hready, testOnDie_of_free hfree]
  rfl

theorem dieFault_work {s : State} (hfree : testFree s = true) {d : Nat} (hready : fget s (FLT_DIE.STATE d) = 3) (cause : Nat) :
    FaultWork (faultReg d) s (dieFault s d cause) := by
  have hself := faultReg_self d
  have hrec : FaultWork (faultReg d) s (faultRecorded s d cause) :=
    (((FaultWork.setFlt s _).trans (FaultWork.fset _ (f := FLT_DIE.TS d) hself _)).trans
      (FaultWork.fset _ (f := FLT_DIE.FAULTS d) hself _)).trans (FaultWork.fset _ (f := FLT_DIE.CAUSE d) hself _)
  rw [dieFault_of_ready hfree hready]
  exact ((hrec.trans (dieSet_work _ hself 1)).trans (bundlesRefresh_faultWork _ d)).trans (dieSet_work _ hself 2)

/-- Beyond its state, the die's register holds what was recorded. -/
theorem fget_dieFault {s : State} (hfree : testFree s = true) {d : Nat} (hd : d < 8) (hready : fget s (FLT_DIE.STATE d) = 3)
    (cause : Nat) {f : Fld} (hoff : f.off = FLT_DIE d) (hf : 3 ≤ f.lo) :
    fget (dieFault s d cause) f = fget (faultRecorded s d cause) f := by
  rw [dieFault_of_ready hfree hready, fget_dieSet _ hd _ hoff hf, fget_bundlesRefresh _ hd hoff, fget_dieSet _ hd _ hoff hf]

theorem flt_dieFault {s : State} (hfree : testFree s = true) {d : Nat} (hready : fget s (FLT_DIE.STATE d) = 3) (cause : Nat) :
    (dieFault s d cause).flt = faultCounted d (faultTimes s d) s.flt := by
  rw [dieFault_of_ready hfree hready, flt_dieSet, flt_bundlesRefresh, flt_dieSet]
  rfl

theorem fget_faultRecorded (s : State) (d : Nat) {cause : Nat} (hcause : cause < 16) :
    fget (faultRecorded s d cause) (FLT_DIE.CAUSE d) = cause ∧ fget (faultRecorded s d cause) (FLT_DIE.TS d) = s.shortTs ∧
      fget (faultRecorded s d cause) (FLT_DIE.FAULTS d) = (faultTimes s d).length % 65536 := by
  have hts : s.shortTs < 2 ^ 32 := Nat.mod_lt _ (by decide)
  unfold faultRecorded
  refine ⟨?_, ?_, ?_⟩
  · rw [fget_fset_same _ _ _ (show 8 + 4 ≤ 64 by decide)]
    exact Nat.mod_eq_of_lt hcause
  · rw [fget_fset_ne _ (FLT_DIE.CAUSE d) (FLT_DIE.TS d) _ (Or.inr (Or.inr (show 8 + 4 ≤ 32 by decide))),
      fget_fset_ne _ (FLT_DIE.FAULTS d) (FLT_DIE.TS d) _ (Or.inr (Or.inr (show 16 + 16 ≤ 32 by decide))),
      fget_fset_same _ _ _ (show 32 + 32 ≤ 64 by decide)]
    exact Nat.mod_eq_of_lt hts
  · rw [fget_fset_ne _ (FLT_DIE.CAUSE d) (FLT_DIE.FAULTS d) _ (Or.inr (Or.inr (show 8 + 4 ≤ 16 by decide))),
      fget_fset_same _ _ _ (show 16 + 16 ≤ 64 by decide)]
    rfl

/-- Three missed heartbeats of a READY die. -/
theorem heartbeatMiss_of_ready (d : Fin 8) (s : State) (hpow : s.sys.powered = true) (hfree : testFree s = true)
    (hready : fget s (FLT_DIE.STATE d) = 3) :
    answers (.heartbeatMiss d) s fun t =>
      fget t (FLT_DIE.STATE d) = 2 ∧ fget t (FLT_DIE.CAUSE d) = 1 ∧ fget t (FLT_DIE.TS d) = s.shortTs ∧
      fget t (FLT_DIE.FAULTS d) = (faultTimes s d).length % 65536 ∧ tget [] t.flt.dieFaults d = faultTimes s d ∧
      tget false t.flt.dieHeld d = decide (3 ≤ (faultTimes s d).length) ∧ tget false t.flt.dieJoin d = false ∧
      FaultWork (faultReg d) s t := by
  have hwork := dieFault_work hfree hready 1
  obtain ⟨hcause, hts, hcount⟩ := fget_faultRecorded s d (cause := 1) (by decide)
  refine answers_of_fires (f := fun s => testSweep (dieFault s d 1)) hpow rfl ?_
  rw [hwork.testSweep_eq (faultReg_test d) hfree, fget_dieFault hfree d.isLt hready 1 (f := FLT_DIE.CAUSE d) rfl (show 3 ≤ 8 by decide),
    fget_dieFault hfree d.isLt hready 1 (f := FLT_DIE.TS d) rfl (show 3 ≤ 32 by decide),
    fget_dieFault hfree d.isLt hready 1 (f := FLT_DIE.FAULTS d) rfl (show 3 ≤ 16 by decide), flt_dieFault hfree hready]
  refine ⟨?_, hcause, hts, hcount, tget_tset_same _ _ _ _, tget_tset_same _ _ _ _,
    tget_tset_same false s.flt.dieJoin d false, hwork⟩
  rw [dieFault_of_ready hfree hready]
  exact dieSet_state _ d.isLt (by decide)

/-- A failed self-check of a READY die. -/
theorem dieSelfCheck_of_ready (d : Fin 8) (s : State) (hpow : s.sys.powered = true) (hfree : testFree s = true)
    (hready : fget s (FLT_DIE.STATE d) = 3) :
    answers (.dieSelfCheck d) s fun t =>
      fget t (FLT_DIE.STATE d) = 2 ∧ fget t (FLT_DIE.CAUSE d) = 4 ∧ FaultWork (faultReg d) s t := by
  have hwork := dieFault_work hfree hready 4
  refine answers_of_fires (f := fun s => testSweep (dieFault s d 4)) hpow rfl ?_
  rw [hwork.testSweep_eq (faultReg_test d) hfree, fget_dieFault hfree d.isLt hready 4 (f := FLT_DIE.CAUSE d) rfl (show 3 ≤ 8 by decide)]
  refine ⟨?_, (fget_faultRecorded s d (by decide)).1, hwork⟩
  rw [dieFault_of_ready hfree hready]
  exact dieSet_state _ d.isLt (by decide)

/-- A die that neither works nor is READY has no new fault. -/
theorem dieFault_of_neither {s : State} {d : Nat} (hup : fget s (FLT_DIE.STATE d) ≠ 0) (hready : fget s (FLT_DIE.STATE d) ≠ 3)
    (cause : Nat) : dieFault s d cause = s := by
  unfold dieFault
  dsimp only
  rw [if_pos (by simp [hup, hready])]

/-! The end of a reset, and faults that grow old (R373, R377). -/

/-- The state that ends a die's reset. -/
theorem dieResetDone_answers (d : Fin 8) (s : State) (hpow : s.sys.powered = true) (hreset : fget s (FLT_DIE.STATE d) = 2) :
    answers (.dieResetDone d) s fun t =>
      fget t (FLT_DIE.STATE d) = (if tget false s.flt.dieHeld d = true then 4 else 3) ∧ t.flt = s.flt ∧
      fget t (FLT_DIE.CAUSE d) = fget s (FLT_DIE.CAUSE d) ∧ fget t (FLT_DIE.FAULTS d) = fget s (FLT_DIE.FAULTS d) ∧
      FaultWork (fun o => o == FLT_DIE d) s t := by
  have hdone : dieResetDone s d = dieSet s d (if tget false s.flt.dieHeld d then 4 else 3) := by
    rw [dieResetDone, hreset]
    rfl
  refine answers_of_fires (f := fun s => dieResetDone s d) hpow rfl ?_
  rw [hdone]
  refine ⟨dieSet_state s d.isLt (by split <;> decide), flt_dieSet _ _ _, fget_dieSet s d.isLt _ rfl (show 3 ≤ 8 by decide),
    fget_dieSet s d.isLt _ rfl (show 3 ≤ 16 by decide), dieSet_work (own := fun o => o == FLT_DIE d) s (beq_self_eq_true (FLT_DIE d)) _⟩

/-- Faults older than an hour no longer count. -/
theorem dieFaultAge_answers (d : Fin 8) (s : State) (hpow : s.sys.powered = true) :
    answers (.dieFaultAge d) s fun t =>
      fget t (FLT_DIE.FAULTS d) = ((tget [] s.flt.dieFaults d).filter fun x => decide (s.now < x + 3600000000000)).length % 65536 ∧
      fget t (FLT_DIE.STATE d) = fget s (FLT_DIE.STATE d) ∧ fget t (FLT_DIE.CAUSE d) = fget s (FLT_DIE.CAUSE d) ∧
      regsBut (fun o => o == FLT_DIE d) s t ∧
      t = { s with regs := t.regs, flt := { s.flt with dieFaults := t.flt.dieFaults } } := by
  refine answers_of_fires (f := fun s => dieFaultAge s d) hpow rfl ?_
  unfold dieFaultAge
  dsimp only
  generalize hu : setFlt s _ = u
  have hregs : u.regs = s.regs := by rw [← hu]; rfl
  refine ⟨fget_fset_same u (FLT_DIE.FAULTS d) _ (show 16 + 16 ≤ 64 by decide),
    (fget_fset_ne u (FLT_DIE.FAULTS d) (FLT_DIE.STATE d) _ (Or.inr (Or.inl (show 0 + 3 ≤ 16 by decide)))).trans (fget_congr hregs _),
    (fget_fset_ne u (FLT_DIE.FAULTS d) (FLT_DIE.CAUSE d) _ (Or.inr (Or.inl (show 8 + 4 ≤ 16 by decide)))).trans (fget_congr hregs _),
    (regsBut_of_regs_eq hregs).trans (regsBut_fset (own := fun o => o == FLT_DIE d) u (FLT_DIE.FAULTS d) (beq_self_eq_true (FLT_DIE d)) _), ?_⟩
  rw [← hu]
  rfl

/-! A CP die comes back (R376). -/

theorem tget_filter {α : Type} (d : α) (t : Tab α) (p : Nat → Bool) (i : Nat) :
    tget d (t.filter fun e => p e.1) i = if p i then tget d t i else d := by
  induction t with
  | nil => simp [tget]
  | cons e t ih =>
    obtain ⟨k, v⟩ := e
    by_cases hk : k = i
    · subst hk
      by_cases hp : p k = true
      · simp [tget, hp]
      · simpa [tget, hp] using ih
    · by_cases hp : p k = true <;> simpa [tget, hk, hp] using ih

/-- A zeroed die reads zero, every other die as it did. -/
theorem memByte_zeroDie (s : State) (d : Nat) {e P : Nat} (hP : P / 2 ^ 40 = 0) :
    memByte (zeroDie s d) e P = if e = d then 0 else memByte s e P := by
  have hlt : P < 2 ^ 40 := by omega
  have hdie : (2 ^ 40 * e + P) / 2 ^ 40 = e := by omega
  unfold memByte zeroDie
  rw [setMem, tget_filter 0 s.mem.bytes (fun k => k / 2 ^ 40 != d), hdie]
  by_cases h : e = d <;> simp [h]

/-- The event that tells a context of its frames on die d. -/
def tellContext (d : Nat) (s : State) (x : Nat) : State :=
  let n := ((winFrames s x ++ logFrames s x).filter fun p => p.1 == d).length
  if n == 0 then s else event s 0x0B 6 2 d x x (le 1 d ++ le 2 n)

theorem tellContext_signals (d : Nat) (s : State) (x : Nat) : Signals s (tellContext d s x) :=
  Signals.ite (Signals.refl s) (event_signals s (by decide) _ _ _ _ _)

/-- CTL's account of a die's channels and heat, given up. -/
def dieCleared (d : Nat) (y : Sys) : Sys :=
  { y with isolated := y.isolated.filter (fun e => (e.2.map (·.die)) != some d), heatStop := y.heatStop.filter fun e => e.1 + 4 != d }

/-- The module with a die's memory zeroed and no longer joining. -/
def memoryBack (s : State) (d : Nat) : State := setFlt (zeroDie s d) fun t => { t with dieJoin := tset false t.dieJoin d false }

/-- The module with the contexts told and the die's channels in use again. -/
def dieBack (s : State) (d : Nat) : State := setSys (forRange 1024 (memoryBack s d) (tellContext d)) (dieCleared d)

/-- The state of region k of a CP die shown. -/
def regionShown (d : Nat) (s : State) (k : Nat) : State :=
  let r := 16 * (d - 4) + k; fset s (BOB_RGN_STAT.STATE r) (regionBack s r)

theorem rejoin_eq {s : State} {d : Nat} (hd : 4 ≤ d) (hready : fget s (FLT_DIE.STATE d) = 3) (hjoin : tget false s.flt.dieJoin d = true)
    (hcool : coolEnough s d = true) :
    rejoin s d = forRange 16 (bundlesRefresh (dieSet (dieBack s d) d 0)) (regionShown d) := by
  unfold rejoin
  rw [if_neg (by simp [hready, hjoin, hcool])]
  dsimp only
  rw [if_neg (by omega), if_neg (by omega)]
  rfl

/-- Registers that show the regions' states. -/
def regionStatReg (o : Nat) : Bool := 0x2800100 ≤ o && o < 0x2800400

theorem regionsShown_onlyRegs {d : Nat} (hd : d < 8) (s : State) : OnlyRegs regionStatReg s (forRange 16 s (regionShown d)) := by
  refine OnlyRegs.forRange (fun t k hk => OnlyRegs.fset t (f := BOB_RGN_STAT.STATE (16 * (d - 4) + k)) ?_ _) s
  show regionStatReg (BOB_RGN_STAT (16 * (d - 4) + k)) = true
  unfold regionStatReg BOB_RGN_STAT
  rw [Bool.and_eq_true, decide_eq_true_eq, decide_eq_true_eq]
  omega

theorem dieCleared_keeps {s u : State} {d : Nat} (h : Signals (memoryBack s d) u) :
    (setSys u (dieCleared d)).mem = (zeroDie s d).mem ∧ (setSys u (dieCleared d)).flt = (memoryBack s d).flt ∧
      (setSys u (dieCleared d)).test = s.test ∧ getReg (setSys u (dieCleared d)) CTL_TEST_STAT = getReg s CTL_TEST_STAT := by
  have hwork := FaultWork.of_signals (own := fun _ => false) h
  exact ⟨hwork.mem_eq, (flt_of_signals h : u.flt = _), hwork.test_eq, h.2.1 _ (by decide)⟩

theorem dieBack_keeps (s : State) (d : Nat) :
    (dieBack s d).mem = (zeroDie s d).mem ∧ (dieBack s d).flt = (memoryBack s d).flt ∧ (dieBack s d).test = s.test ∧
      getReg (dieBack s d) CTL_TEST_STAT = getReg s CTL_TEST_STAT :=
  dieCleared_keeps (Signals.forRange (fun t x => tellContext_signals d t x) (memoryBack s d))

/-- What the die's memory and account became is kept to the end. -/
theorem regionsShown_keeps {u : State} {d : Fin 8} (hd : 4 ≤ d.val) :
    FaultWork (fun o => faultReg d o || regionStatReg o) u (forRange 16 (bundlesRefresh (dieSet u d 0)) (regionShown d)) ∧
      (forRange 16 (bundlesRefresh (dieSet u d 0)) (regionShown d)).flt = u.flt ∧
      dieUp (forRange 16 (bundlesRefresh (dieSet u d 0)) (regionShown d)) d = true := by
  have hset := dieSet_work (own := faultReg d) u (faultReg_self d) 0
  have hupto := hset.trans (bundlesRefresh_faultWork (dieSet u d 0) d)
  have hflt : (bundlesRefresh (dieSet u d 0)).flt = u.flt := (flt_bundlesRefresh _).trans (flt_dieSet _ _ _)
  have hstate : fget (bundlesRefresh (dieSet u d 0)) (FLT_DIE.STATE d) = 0 := by
    rw [fget_bundlesRefresh _ d.isLt rfl, dieSet_state _ d.isLt (by decide)]
  have hdie : regionStatReg (FLT_DIE d) = false := by
    unfold regionStatReg FLT_DIE
    rw [Bool.and_eq_false_iff, decide_eq_false_iff_not, decide_eq_false_iff_not]
    omega
  generalize bundlesRefresh (dieSet u d 0) = v at *
  have hshown := regionsShown_onlyRegs d.isLt v
  generalize forRange 16 v (regionShown d) = w at *
  refine ⟨?_, ?_, ?_⟩
  · exact FaultWork.trans ⟨fun o ho => hupto.1 o (Bool.or_eq_false_iff.1 ho).1, hupto.2⟩
      (FaultWork.of_onlyRegs ⟨hshown.1, regsBut.mono hshown.2 fun o ho => by simp [ho]⟩)
  · rw [hshown.1]
    exact hflt
  · rw [dieUp_of_getReg_eq (hshown.2 _ hdie), dieUp, hstate]
    rfl

theorem rejoin_keeps {s : State} {d : Fin 8} (hd : 4 ≤ d.val) (hready : fget s (FLT_DIE.STATE d) = 3)
    (hjoin : tget false s.flt.dieJoin d = true) (hcool : coolEnough s d = true) :
    (rejoin s d).mem = (zeroDie s d).mem ∧ (rejoin s d).flt = (memoryBack s d).flt ∧ (rejoin s d).test = s.test ∧
      dieUp (rejoin s d) d = true ∧ getReg (rejoin s d) CTL_TEST_STAT = getReg s CTL_TEST_STAT := by
  obtain ⟨hmem, hflt, htest, hstat⟩ := dieBack_keeps s d
  rw [rejoin_eq hd hready hjoin hcool]
  generalize dieBack s d = u at *
  obtain ⟨hwork, hfltKept, hup⟩ := regionsShown_keeps (u := u) hd
  have hown : (faultReg d CTL_TEST_STAT || regionStatReg CTL_TEST_STAT) = false := by rw [faultReg_test d]; decide
  exact ⟨hwork.mem_eq.trans hmem, hfltKept.trans hflt, hwork.test_eq.trans htest, hup,
    (hwork.1 _ hown (by decide)).trans hstat⟩

/-- A CP die that rejoins works again, with its memory zero. -/
theorem rejoin_answers (d : Fin 8) (s : State) (hpow : s.sys.powered = true) (hfree : testFree s = true) (hd : 4 ≤ d.val)
    (hready : fget s (FLT_DIE.STATE d) = 3) (hjoin : tget false s.flt.dieJoin d = true) (hcool : coolEnough s d = true) :
    answers (.rejoinMemoryZeroed d) s fun t =>
      dieUp t d = true ∧ tget false t.flt.dieJoin d = false ∧ (∀ P, P / 2 ^ 40 = 0 → memByte t d P = 0) ∧
      (∀ e P, e ≠ d.val → P / 2 ^ 40 = 0 → memByte t e P = memByte s e P) ∧ t.mem.winFr = s.mem.winFr ∧ t.mem.logFr = s.mem.logFr := by
  obtain ⟨hmem, hflt, htest, hup, hstat⟩ := rejoin_keeps hd hready hjoin hcool
  have hbyte : ∀ e P, P / 2 ^ 40 = 0 → memByte (rejoin s d) e P = if e = d.val then 0 else memByte s e P := by
    intro e P hP
    rw [memByte, hmem]
    exact memByte_zeroDie s d hP
  refine answers_of_fires (f := fun s => testSweep (rejoin s d)) hpow rfl ?_
  rw [testSweep_of_kept hfree hstat htest]
  refine ⟨hup, ?_, fun P hP => ?_, fun e P he hP => ?_, ?_, ?_⟩
  · rw [hflt]
    exact tget_tset_same false s.flt.dieJoin d false
  · rw [hbyte _ _ hP, if_pos rfl]
  · rw [hbyte _ _ hP, if_neg he]
  · rw [hmem]
    rfl
  · rw [hmem]
    rfl

/-! A fault of CTL (R378). -/

/-- From `s` to `t` no fibre, no gate register, no die's state and nothing of CTL's account changed. -/
def GatesKept (s t : State) : Prop :=
  t.fibres = s.fibres ∧ t.sys = s.sys ∧ (∀ F : Fin 128, getReg t (OPT_FIBRE F) = getReg s (OPT_FIBRE F)) ∧
    ∀ d : Fin 8, getReg t (FLT_DIE d) = getReg s (FLT_DIE d)

theorem GatesKept.trans {s t u : State} (h : GatesKept s t) (k : GatesKept t u) : GatesKept s u := by
  obtain ⟨hf, hs, hg, hd⟩ := h
  obtain ⟨kf, ks, kg, kd⟩ := k
  exact ⟨kf.trans hf, ks.trans hs, fun F => (kg F).trans (hg F), fun d => (kd d).trans (hd d)⟩

theorem mapReg_fibre : ∀ F : Fin 128, mapReg (OPT_FIBRE F) = false := by decide

theorem mapReg_die : ∀ d : Fin 8, mapReg (FLT_DIE d) = false := by decide

theorem GatesKept.of_map {s t : State} (h : MapShown s t) : GatesKept s t :=
  ⟨by rw [h.1], h.sys_eq, fun F => h.2 _ (mapReg_fibre F), fun d => h.2 _ (mapReg_die d)⟩

/-- Registers that are no gate's and no die's may change. -/
theorem GatesKept.of_onlyRegs {own : Nat → Bool} {s t : State} (h : OnlyRegs own s t) (hfibre : ∀ F : Fin 128, own (OPT_FIBRE F) = false)
    (hdie : ∀ d : Fin 8, own (FLT_DIE d) = false) : GatesKept s t := by
  obtain ⟨hst, hregs⟩ := h
  unfold regsOnly at hst
  exact ⟨by rw [hst], by rw [hst], fun F => hregs _ (hfibre F), fun d => hregs _ (hdie d)⟩

/-- Every lane electronic: no gate moves. -/
theorem allElectronic_gates (s : State) : GatesKept s (allElectronic s) := by
  unfold allElectronic
  dsimp only
  generalize hu : (if s.byp.pend.isSome then ring (fset (fset s BYP_STAT.CODE 0x0A) BYP_STAT.PENDING 0) 3 else s) = u
  have hshown : MapShown s u := by
    rw [← hu]
    split
    · exact ((MapShown.fset s (f := BYP_STAT.CODE) (by decide) _).trans (MapShown.fset _ (f := BYP_STAT.PENDING) (by decide) _)).trans
        (MapShown.of_signals (ring_signals _ (by decide)))
    · exact MapShown.refl s
  have htaken := (GatesKept.of_map (applyMap_shown (setByp u fun b => { b with pend := none, path := [], granted := [] }) []))
  exact (GatesKept.of_map hshown).trans htaken

theorem setMode_gates (s : State) (m : Nat) : GatesKept s (setMode s m) :=
  GatesKept.of_onlyRegs (own := fun o => o == PRK_STATUS) (OnlyRegs.fset (own := fun o => o == PRK_STATUS) s (f := PRK_STATUS.STATE) (beq_self_eq_true PRK_STATUS) m) (by decide) (by decide)

theorem GateClosed.of_kept {s t : State} {F : Nat} (hF : F < 128) (h : GateClosed s F) (hst : GatesKept s t) : GateClosed t F := by
  obtain ⟨hfib, -, hopen, hdie⟩ := hst
  exact h.of_eq (by rw [fibre, fibre, hfib]) (hopen ⟨F, hF⟩) (hdie ⟨F / 32, by omega⟩)

/-- CTL's account with no rule opening a gate. -/
def rulesShut (y : Sys) : Sys := { y with gateRules := false, ctlFault := true }

theorem ctlFault_gates (s : State) : GatesKept (setSys (forRange 128 s gateClose) rulesShut) (ctlFault s) :=
  (allElectronic_gates _).trans (setMode_gates _ _)

theorem GateClosed.setSys {s : State} {F : Nat} (h : GateClosed s F) (f : Sys → Sys) : GateClosed (setSys s f) F := h.of_eq rfl rfl rfl

/-- With no self-test begun, the sweep moves no gate. -/
theorem testSweep_gates {s : State} (h : s.test.started = 0) : GatesKept s (testSweep s) := by
  refine GatesKept.of_onlyRegs (own := fun o => o == CTL_TEST_STAT) ⟨?_, testSweep_regsBut h⟩ (by decide) (by decide)
  unfold testSweep
  dsimp only
  split
  · rw [if_neg (by simp [testEnd, h])]
    rfl
  · rw [if_neg (by simp [h])]
    rfl

/-- Gates closed with the rules shut stay closed where no gate moves. -/
theorem gates_of_shut {s u t : State} (hclosed : ∀ F < 128, GateClosed u F) (hwork : GateWork s u)
    (hkept : GatesKept (setSys u rulesShut) t) :
    t.sys.gateRules = false ∧
      ∀ F, F < 128 → fibreSends t F = false ∧ (dieUp s (F / 32) = true → fget t (OPT_FIBRE.OPEN F) = 0) := by
  refine ⟨congrArg Sys.gateRules hkept.2.1, fun F hF => ?_⟩
  obtain ⟨hdark, hopen⟩ := ((hclosed F hF).setSys rulesShut).of_kept hF hkept
  have hdie : F / 32 < 8 := by omega
  have hdieKept : getReg t (FLT_DIE (F / 32)) = getReg u (FLT_DIE (F / 32)) := hkept.2.2.2 ⟨F / 32, hdie⟩
  refine ⟨hdark, fun hup => hopen ?_⟩
  rw [dieUp_of_getReg_eq (hdieKept.trans (hwork.2 _ (gateReg_die ⟨F / 32, hdie⟩))), hup]

/-- A fault of CTL leaves the module FAULTED with every gate closed. -/
theorem ctlFault_answers (s : State) (hpow : s.sys.powered = true) (hfree : testFree s = true) :
    answers .ctlFault s fun t =>
      t.mode = mFAULTED ∧ t.sys.gateRules = false ∧
        (∀ F, F < 128 → fibreSends t F = false ∧ (dieUp s (F / 32) = true → fget t (OPT_FIBRE.OPEN F) = 0)) := by
  have hnone := started_of_testFree hfree
  have hkept := (ctlFault_gates s).trans (testSweep_gates ((congrArg TestSt.started (test_ctlFault s)).trans hnone))
  refine answers_of_fires (f := fun s => testSweep (ctlFault s)) hpow rfl ⟨testSweep_ctlFault_mode hnone, ?_⟩
  exact gates_of_shut (gateClosed_forRange (n := 128) (Nat.le_refl 128) s) (gateClose_all_work s) hkept

/-! A lost optical chiplet (R361). -/

/-- A port down and fenced. -/
def PortLost (s : State) (L : Nat) : Prop := (port s L).under = pDOWN ∧ portFenced s L = true

/-- A link failure reported of a port that is taken down. -/
def linkLost (s : State) (L : Nat) : State := linkFailure (portDown s L) L 8

theorem sys_of_loss {s t : State} (h : TrafficLoss s t) : t.sys = s.sys := by rw [h.1]

theorem under_portDown (s : State) {L : Nat} (hL : L < 1024) (M : Nat) :
    (port (portDown s L) M).under = if M = L then pDOWN else (port s M).under := by
  by_cases h : M = L
  · subst h
    rw [if_pos rfl, (portDown_port s hL).1]
  · have hset : portRest (port (setUnder s L pDOWN) M) = portRest (port s M) := by
      rw [setUnder_eq, portRest_portRefresh _ hL, port_setPort, if_neg h]
      rfl
    rw [if_neg h, portDown, retryAtTime, port_setPort, if_neg h]
    exact (congrArg PortSt.under hset :)

/-- Taking a port down lifts no fence. -/
theorem fenced_portDown (s : State) {L M : Nat} (hL : L < 1024) (hM : M < 1024) : portFenced (portDown s L) M = portFenced s M := by
  have hset := fget_setUnder s hL pDOWN (countReg_portRegs hM).1 (f := PRT_STATE.FENCE M) (Or.inr (Nat.le_refl 3))
  have hdown : fget (portDown s L) (PRT_STATE.FENCE M) = fget (setUnder s L pDOWN) (PRT_STATE.FENCE M) := rfl
  rw [portFenced, portFenced, fbit, fbit, hdown, hset]

theorem fencePort_fenced {s : State} {L : Nat} (h : portFenced s L = true) (cause : Nat) : fencePort s L cause = s := if_pos h

/-- Reporting a failure moves no port's underlying state. -/
theorem under_fencePort (s : State) {L : Nat} (hL : L < 1024) (cause M : Nat) :
    (port (fencePort s L cause) M).under = (port s M).under := by
  by_cases h : portFenced s L = true
  · rw [fencePort_fenced h]
  · have hmarked : port (fenceMarked s L cause) M = port s M := by simp only [port, fenceMarked, fset_ports]
    have hsig := fencePort_signals (Bool.eq_false_iff.2 h) cause
    generalize fenceMarked s L cause = m at *
    have hrest := portRest_portRefresh m hL M
    rw [port, ports_of_signals hsig, ← hmarked]
    exact (congrArg PortSt.under hrest :)

theorem sys_fencePort (s : State) {L : Nat} (hL : L < 1024) (cause : Nat) : (fencePort s L cause).sys = s.sys := by
  by_cases h : portFenced s L = true
  · rw [fencePort_fenced h]
  · have hmarked : (fenceMarked s L cause).sys = s.sys := by simp only [fenceMarked, fset_sys]
    rw [sys_of_signals (fencePort_signals (Bool.eq_false_iff.2 h) cause), sys_of_loss (portRefresh_loss _ hL), hmarked]

/-- Reporting a failure fences its port and lifts no fence. -/
theorem fenced_fencePort (s : State) {L M : Nat} (hL : L < 1024) (hM : M < 1024) {cause : Nat} (hcause : cause < 16)
    (hfence : portFenced s M = true ∨ M = L) : portFenced (fencePort s L cause) M = true := by
  by_cases h : portFenced s L = true
  · rw [fencePort_fenced h]
    rcases hfence with hfence | rfl
    · exact hfence
    · exact h
  · have hquiet : signalReg (PRT_STATE M) = false := signalReg_page (c := 0) hM (by decide)
    rw [portFenced, fbit, fget_of_getReg_eq (f := PRT_STATE.FENCE M)
        ((fencePort_signals (Bool.eq_false_iff.2 h) cause).2.1 _ hquiet),
      fget_portRefresh _ hL (f := PRT_STATE.FENCE M) (countReg_portRegs hM).1 (Or.inr (Nat.le_refl 3))]
    by_cases hML : M = L
    · subst hML
      exact (fenceMarked_fields s M hcause).1
    · have hstate : PRT_STATE M ≠ PRT_STATE L := by unfold PRT_STATE portPage; omega
      have hother : PRT_STATE M ≠ PRT_FENCE L := by unfold PRT_STATE PRT_FENCE portPage; omega
      rw [fget_of_getReg_eq (s := s) (f := PRT_STATE.FENCE M)]
      · exact hfence.resolve_right hML
      · rw [fenceMarked, getReg_fset_ne _ hstate, getReg_fset_ne _ hother, getReg_fset_ne _ hother]

/-- With the clock running a lost link leaves its port lost, and every lost port lost. -/
theorem linkLost_spec {s : State} {L : Nat} (hL : L < 1024) (href : s.sys.refPhase ≠ 1) :
    (linkLost s L).sys = s.sys ∧ ∀ M < 1024, PortLost s M ∨ M = L → PortLost (linkLost s L) M := by
  have hsys : (portDown s L).sys = s.sys := sys_of_loss (portDown_loss s hL)
  have hreport : linkLost s L = fencePort (portDown s L) L 8 := by
    rw [linkLost, linkFailure, hsys, if_neg (by simp [href])]
  rw [hreport]
  refine ⟨(sys_fencePort _ hL 8).trans hsys, fun M hM hlost => ⟨?_, ?_⟩⟩
  · rw [under_fencePort _ hL, under_portDown s hL]
    split
    · rfl
    · next hne => exact (hlost.resolve_right hne).1
  · refine fenced_fencePort _ hL hM (by decide) (hlost.imp_left fun h => ?_)
    rw [fenced_portDown s hL hM, h.2]

theorem isPort_of_sys {s t : State} (h : t.sys = s.sys) (L : Nat) : isPort t L = isPort s L := by
  rw [isPort, isPort, widthOf, widthOf, portMode, portMode, h]

/-- The lanes of a chiplet, one at a time. -/
def chipletLane (n : Nat) (s : State) (k : Nat) : State := let L := 64 * n + k; if isPort s L then linkLost s L else s

/-- Every port of the chiplet's first m lanes is lost. -/
theorem chipletLanes_lost {n m : Nat} (hn : n < 16) (hm : m ≤ 64) {s : State} (href : s.sys.refPhase ≠ 1) :
    (forRange m s (chipletLane n)).sys = s.sys ∧
      ∀ k < m, isPort s (64 * n + k) = true → PortLost (forRange m s (chipletLane n)) (64 * n + k) := by
  induction m with
  | zero => exact ⟨rfl, fun k hk => by omega⟩
  | succ m ih =>
    obtain ⟨hsys, hlost⟩ := ih (by omega)
    rw [forRange_succ]
    generalize forRange m s (chipletLane n) = t at *
    have hport := isPort_of_sys hsys (64 * n + m)
    by_cases h : isPort s (64 * n + m) = true
    · have hlane : chipletLane n t m = linkLost t (64 * n + m) := if_pos (hport.trans h)
      obtain ⟨hkept, hall⟩ := linkLost_spec (s := t) (L := 64 * n + m) (by omega) (by rw [hsys]; exact href)
      rw [hlane]
      refine ⟨hkept.trans hsys, fun k hk hk' => hall _ (by omega) ?_⟩
      rcases Nat.lt_succ_iff_lt_or_eq.1 hk with hlt | rfl
      · exact Or.inl (hlost k hlt hk')
      · exact Or.inr rfl
    · have hlane : chipletLane n t m = t := if_neg (by rw [hport]; exact h)
      rw [hlane]
      refine ⟨hsys, fun k hk hk' => ?_⟩
      rcases Nat.lt_succ_iff_lt_or_eq.1 hk with hlt | rfl
      · exact hlost k hlt hk'
      · exact absurd hk' h

/-- A fault of an optical chiplet takes its ports down and fences them. -/
theorem oeFault_answers (n : Fin 16) (s : State) (hpow : s.sys.powered = true) (hup : dieUp s (n / 4) = true)
    (href : s.sys.refPhase ≠ 1) :
    answers (.oeFault n) s fun t =>
      ∀ L, L / 64 = n.val → isPort s L = true → (port t L).under = pDOWN ∧ portFenced t L = true := by
  have hall : oeFault s n = forRange 64 s (chipletLane n) := by
    rw [oeFault, hup]
    rfl
  obtain ⟨-, hlost⟩ := chipletLanes_lost n.isLt (Nat.le_refl 64) href
  refine answers_of_fires (f := fun s => oeFault s n) hpow rfl ?_
  rw [hall]
  intro L hL hport
  have hlane : L = 64 * n.val + L % 64 := by omega
  rw [hlane] at hport ⊢
  exact hlost _ (Nat.mod_lt _ (by decide)) hport

/-! A memory device too hot (R477). -/

/-- From `s` to `t` channels failed, beside what events leave. -/
def ChannelsOnly (s t : State) : Prop := Signals { s with mem := { s.mem with failed := t.mem.failed } } t

theorem ChannelsOnly.trans {s t u : State} (h : ChannelsOnly s t) (k : ChannelsOnly t u) : ChannelsOnly s u := by
  obtain ⟨hst, hregs, hcanon⟩ := h
  obtain ⟨ktu, kregs, kcanon⟩ := k
  refine ⟨?_, fun o ho => (kregs o ho).trans (hregs o ho), fun hs => kcanon (hcanon hs)⟩
  unfold signalsOnly at *
  rw [ktu, hst]

/-- Channel k of a device fails. -/
def channelHot (v : Nat) (s : State) (k : Nat) : State := failChannel s (16 * v + k)

/-- The first m channels of a device fail. -/
theorem deviceChannels_failed (s : State) (v m : Nat) :
    (∀ i, tget false (forRange m s (channelHot v)).mem.failed i = true ↔
      tget false s.mem.failed i = true ∨ (16 * v ≤ i ∧ i < 16 * v + m)) ∧
      ChannelsOnly s (forRange m s (channelHot v)) := by
  induction m with
  | zero => exact ⟨fun i => ⟨Or.inl, fun h => h.resolve_right fun hi => by omega⟩, Signals.refl s⟩
  | succ m ih =>
    obtain ⟨hfailed, hsig⟩ := ih
    rw [forRange_succ]
    generalize forRange m s (channelHot v) = t at *
    obtain ⟨hone, hnext, -⟩ := failChannel_frame t (16 * v + m)
    refine ⟨fun i => ?_, hsig.trans hnext⟩
    rw [channelHot, hone, hfailed]
    have hrange : (16 * v ≤ i ∧ i < 16 * v + (m + 1)) ↔ (16 * v ≤ i ∧ i < 16 * v + m) ∨ i = 16 * v + m := by omega
    rw [hrange, or_assoc]

/-- All sixteen channels of a device fail. -/
theorem deviceFails (s : State) (v : Nat) :
    (∀ i, tget false (forRange 16 s (channelHot v)).mem.failed i = true ↔ tget false s.mem.failed i = true ∨ i / 16 = v) ∧
      regsQuiet (fun _ => false) s (forRange 16 s (channelHot v)) ∧
      signalsOnly { s with mem := { s.mem with failed := (forRange 16 s (channelHot v)).mem.failed } } (forRange 16 s (channelHot v)) := by
  have hfails := deviceChannels_failed s v 16
  generalize forRange 16 s (channelHot v) = t at *
  obtain ⟨hfailed, hst, hregs, -⟩ := hfails
  refine ⟨fun i => ?_, fun o _ hq => hregs o hq, hst⟩
  have hrange : (16 * v ≤ i ∧ i < 16 * v + 16) ↔ i / 16 = v := by omega
  rw [hfailed, hrange]

/-- A device too hot, on a working die. -/
def deviceHot (v : Nat) (s : State) : State := if dieUp s (v / 5) then forRange 16 s (channelHot v) else s

theorem deviceHot_of_up {v : Nat} {s : State} (hup : dieUp s (v / 5) = true) : deviceHot v s = forRange 16 s (channelHot v) := if_pos hup

/-- An over-temperature device's channels fail. -/
theorem overtemp_answers (v : Fin 40) (s : State) (hpow : s.sys.powered = true) (hup : dieUp s (v / 5) = true) :
    answers (.lpddr6CaseOvertemp v) s fun t =>
      (∀ i, tget false t.mem.failed i = true ↔ (tget false s.mem.failed i = true ∨ i / 16 = v.val)) ∧
      regsQuiet (fun _ => false) s t ∧ signalsOnly { s with mem := { s.mem with failed := t.mem.failed } } t := by
  have hfails := deviceFails s v
  rw [← deviceHot_of_up hup] at hfails
  exact answers_of_fires (f := deviceHot v) hpow rfl hfails

/-- Settles O47: each clause through what a fault records, a rejoin zeroes and a fault of CTL shuts. -/
theorem dieFaults : Obligations.DieFaults := by
  unfold Obligations.DieFaults
  intro quiet
  refine ⟨fun d s hpow hfree hup => ?_, fun d s hpow hfree hup => ?_, heartbeatMiss_of_ready, dieSelfCheck_of_ready,
    fun d s hfree hup hready => ?_, dieResetDone_answers, rejoin_answers, dieFaultAge_answers, ctlFault_answers, oeFault_answers,
    overtemp_answers⟩
  · exact answers_of_fires (f := fun s => testSweep (dieFault s d 1)) hpow rfl
      (testSweep_dieFault_state d.isLt hup (started_of_testFree hfree) 1)
  · exact answers_of_fires (f := fun s => testSweep (dieFault s d 4)) hpow rfl
      (testSweep_dieFault_state d.isLt hup (started_of_testFree hfree) 4)
  · have hnone : ∀ cause, live s (fun s => testSweep (dieFault s d cause)) = .next s := fun cause => by
      rw [live, dieFault_of_neither hup hready, testSweep_of_free hfree, ite_self]
    exact ⟨hnone 1, hnone 4⟩

end Sys2Proof.Machine
end

section
/-! SUPPORT. A RESUME of a root whose receiver list lies in a frame on a die with no number of Table 1.2: it refutes O50. -/

namespace Sys2Proof.Machine

open Claim

/-- WOVEN, session 0 a valid root of context 0, IDLE, with one receiver listed at offset 0 of the window, whose only frame is placed
on die 152. -/
def resumeStray : State :=
  { sys := { powered := true }, regs := [(PRK_STATUS, BitVec.ofNat 64 mWOVEN)],
    flt := { bcs := [(0, { w0 := 2 ^ 63 + 2 ^ 16, w3 := 2 ^ 48 })] },
    mem := { winFr := [(0, [(152, 0)])] } }

/-- The state of that die would stand where session 0 keeps its own. -/
theorem strayDie_eq_session : FLT_DIE 152 = FLT_BC_S 0 := by decide

/-- RESUME meets every hypothesis; with the session RUNNING the list's die no longer counts as working, the list cannot be read, and
the session stops. -/
theorem resumeStray_stops :
    accepts resumeStray 1 FLT_BC_CMD 4 = true ∧ resumeStray.mode = mWOVEN ∧ bcState resumeStray (fget resumeStray FLT_BC_SEL.SESSION) ≠ 1 ∧
      memSound resumeStray ∧ bcValid (bc resumeStray (fget resumeStray FLT_BC_SEL.SESSION)) = true ∧
      bcRoot (bc resumeStray (fget resumeStray FLT_BC_SEL.SESSION)) = true ∧
      bcListBad resumeStray (bc resumeStray (fget resumeStray FLT_BC_SEL.SESSION)) = false ∧
      bcState (testSweep (bcCommand (cmdTaken resumeStray FLT_BC_CMD) 4)) (fget resumeStray FLT_BC_SEL.SESSION) ≠ 1 := by
  decide +kernel

theorem writeOnly_bcCmd : WriteOnly FLT_BC_CMD := ⟨⟨FLT_BC_CMD, 8, 1, 0x0, 0x7, 0x0, 0x0, 0x0, 0x7⟩, rfl, rfl, rfl⟩

theorem exec_bcResume {p : Fin 13} {s : State} (hacc : accepts s p FLT_BC_CMD 4 = true) :
    exec (.bcResume p) s = .next (testSweep (bcCommand (cmdTaken s FLT_BC_CMD) 4)) :=
  writeNum_of_writeOnly (v := 4) hacc writeOnly_bcCmd

/-- Refutes O50: its seventh clause does not ask that the list's frames lie on dies of the module. In `resumeStray` one does not, and
RESUME leaves the session STOPPED. -/
theorem not_broadcast : ¬ Obligations.Broadcast := by
  unfold Obligations.Broadcast
  intro h
  obtain ⟨-, -, -, -, -, -, hresume, -⟩ := h
  obtain ⟨hacc, hmode, hidle, hsound, hvalid, hroot, hlist, hstopped⟩ := resumeStray_stops
  obtain ⟨t, ht, hrun, -⟩ := hresume 1 resumeStray hacc hmode hidle hsound hvalid hroot hlist
  rw [Host.Outcome.next.inj ((exec_bcResume hacc).symm.trans ht)] at hstopped
  exact hstopped hrun

end Sys2Proof.Machine
end

section
/-! SUPPORT. Context commands (R394 to R400): what each ends with. -/

namespace Sys2Proof.Machine

open Claim

/-! The command's register. -/

theorem writeOnly_ctxCmd (x : Fin 1024) : WriteOnly (CTX_CMD x) :=
  ⟨⟨0x8, 8, 1, 0x0, 0x3F07, 0x0, 0x0, 0x0, 0x3F07⟩, (findReg_ctxPage (c := 8) x.isLt (by decide)).trans (by decide), rfl, rfl⟩

theorem regEffect_ctxCmd (x : Fin 1024) (old s : State) (p : Nat) (w : Word) (e : Option (List Byte)) :
    regEffect old s p (CTX_CMD x) w e = ctxCommand s x (wget w (CTX_CMD.OP 0)) (wget w (CTX_CMD.REGION 0)) := by
  have hlo : 0x3000008 ≤ CTX_CMD x := by unfold CTX_CMD ctxPage; omega
  have hhi : CTX_CMD x < 0x3400000 := by unfold CTX_CMD ctxPage; omega
  have hport : inPortPage (CTX_CMD x) = false := by
    unfold inPortPage
    rw [Bool.and_eq_false_iff, decide_eq_false_iff_not, decide_eq_false_iff_not]
    omega
  have hpage : (inCtxPage (CTX_CMD x) && CTX_CMD x % 0x1000 == 8) = true := by
    unfold inCtxPage
    rw [Bool.and_eq_true, Bool.and_eq_true, decide_eq_true_eq, decide_eq_true_eq, beq_iff_eq]
    exact ⟨⟨by omega, hhi⟩, by unfold CTX_CMD ctxPage; omega⟩
  have hctx : ctxOf (CTX_CMD x) = x := by unfold ctxOf CTX_CMD ctxPage; omega
  unfold regEffect
  rw [if_neg (by omega), if_neg (by omega), if_neg (by omega), if_neg (by omega), if_neg (by omega), hport, if_neg (by decide),
    if_neg (by omega), if_neg (by omega), if_neg (by omega), if_neg (by omega), if_neg (by omega), if_neg (by omega), if_pos hhi]
  unfold ctxEffect
  rw [if_pos hpage, hctx]

/-- A command's word. -/
theorem wget_ctxCmd {op r : Nat} (hop : op < 8) (hr : r < 64) :
    wget (BitVec.ofNat 64 (256 * r + op)) (CTX_CMD.OP 0) = op ∧ wget (BitVec.ofNat 64 (256 * r + op)) (CTX_CMD.REGION 0) = r := by
  simp only [wget, bits, CTX_CMD.OP, CTX_CMD.REGION, BitVec.toNat_ofNat]
  omega

theorem writeNum_ctxCmd {p : Fin 13} {x : Fin 1024} {op r : Nat} (hop : op < 8) (hr : r < 64) {s : State}
    (hacc : accepts s p (CTX_CMD x) (BitVec.ofNat 64 (256 * r + op)) = true) :
    writeNum p (CTX_CMD x) (256 * r + op) s = .next (testSweep (ctxCommand (cmdTaken s (CTX_CMD x)) x op r)) := by
  obtain ⟨hget, hregion⟩ := wget_ctxCmd hop hr
  rw [writeNum_of_writeOnly hacc (writeOnly_ctxCmd x), regEffect_ctxCmd, hget, hregion]

/-- A command's step, where no self-test runs, ends with what its effect leaves. -/
theorem ctxCommand_answers {c : Instr} {p : Fin 13} {x : Fin 1024} {op r : Nat} (hop : op < 8) (hr : r < 64) {s u : State}
    {P : State → Prop} (hexec : exec c s = writeNum p (CTX_CMD x) (256 * r + op) s)
    (hacc : accepts s p (CTX_CMD x) (BitVec.ofNat 64 (256 * r + op)) = true) (hgo : ctxCommand (cmdTaken s (CTX_CMD x)) x op r = u)
    (hstat : getReg u CTL_TEST_STAT = getReg s CTL_TEST_STAT) (htest : u.test = s.test) (hP : P u) : answers c s P := by
  refine ⟨u, ?_, hP⟩
  rw [hexec, writeNum_ctxCmd hop hr hacc, hgo, testSweep_of_kept (testFree_of_accepts hacc) hstat htest]

/-! Codes. -/

/-- What a command's code depends on is as before it was taken. -/
theorem ctxCode_cmdTaken (s : State) (off x op r : Nat) : ctxCode (cmdTaken s off) x op r = ctxCode s x op r := by
  have hstate : ctxState (cmdTaken s off) x = ctxState s x := fget_cmdTaken s off _
  have hlane : ownsLane (cmdTaken s off) x = ownsLane s x := rfl
  have howner : regionOwner (cmdTaken s off) r = regionOwner s r := by rw [regionOwner, fbit_cmdTaken, fget_cmdTaken, regionOwner]
  unfold ctxCode
  dsimp only
  rw [hstate, hlane, howner, mode_cmdTaken]

/-- Does a command suit the context's state? -/
def ctxSuits (op st : Nat) : Bool :=
  match op with
  | 1 => st == 0
  | 2 => st == 1
  | 3 => st == 2
  | _ => st == 1 || st == 2

/-- In WOVEN a command's code is of the context's state, its lanes and the region's owner. -/
theorem ctxCode_of_woven {s : State} (hmode : s.mode = mWOVEN) (x op r : Nat) :
    ctxCode s x op r =
      if !ctxSuits op (ctxState s x) then 1
      else if op == 4 && ownsLane s x then 3
      else if op == 5 && regionOwner s r != x then 4
      else 0 := by
  unfold ctxCode
  dsimp only
  rw [hmode, if_neg (by simp [mWOVEN, mBOOT, mWEAVING, mFAULTED, mMAINT])]
  rfl

/-! A command ends (R395). -/

/-- No register of a context's page signals, and none is a self-test's. -/
theorem ctxReg_quiet {x c : Nat} (hx : x < 1024) (hc : c < 0x1000) :
    signalReg (ctxPage x + c) = false ∧ ctxPage x + c ≠ CTL_TEST_STAT := by
  refine ⟨?_, by unfold ctxPage CTL_TEST_STAT; omega⟩
  unfold signalReg inSrc ctxPage EVR_LOST IC_MERGED
  simp only [Bool.or_eq_false_iff, Bool.and_eq_false_iff, beq_eq_false_iff_ne, decide_eq_false_iff_not]
  omega

/-- The context's own registers quiet. -/
theorem ctxStat_quiet (x : Fin 1024) : signalReg (CTX_STAT x) = false ∧ CTX_STAT x ≠ CTL_TEST_STAT :=
  ctxReg_quiet (c := 0) x.isLt (by decide)

/-- Registers of a context's command. -/
def ctxStatReg (x o : Nat) : Bool := o == CTX_STAT x

theorem ctxStatReg_self (x : Nat) : ctxStatReg x (CTX_STAT x) = true := beq_self_eq_true _

theorem ctxStatReg_of_ne {x o : Nat} (h : o ≠ CTX_STAT x) : ctxStatReg x o = false := beq_eq_false_iff_ne.2 h

/-- The context's state kept or entered, with its event. -/
theorem ctxEnter_signals (s : State) (x st : Nat) : Signals (fset s (CTX_STAT.STATE x) st) (ctxEnter s x st) :=
  event_signals _ (by decide) _ _ _ _ _

/-- A command's code and its interrupt. -/
def ctxDone (s : State) (x code : Nat) : State := ring (fset s (CTX_STAT.CODE x) code) 5

theorem ctxDone_signals (s : State) (x code : Nat) : Signals (fset s (CTX_STAT.CODE x) code) (ctxDone s x code) :=
  ring_signals _ (by decide)

/-- From `s` to `t` the named registers changed, beside what events and interrupts leave. -/
def CtxWork (own : Nat → Bool) (s t : State) : Prop := regsQuiet own s t ∧ signalsOnly s t

theorem CtxWork.refl (own : Nat → Bool) (s : State) : CtxWork own s s := ⟨fun _ _ _ => rfl, rfl⟩

theorem CtxWork.trans {own : Nat → Bool} {s t u : State} (h : CtxWork own s t) (k : CtxWork own t u) : CtxWork own s u := by
  obtain ⟨hregs, hst⟩ := h
  obtain ⟨kregs, ktu⟩ := k
  refine ⟨fun o ho hq => (kregs o ho hq).trans (hregs o ho hq), ?_⟩
  unfold signalsOnly at *
  rw [ktu, hst]

theorem CtxWork.of_signals {own : Nat → Bool} {s t : State} (h : Signals s t) : CtxWork own s t := ⟨fun o _ hq => h.2.1 o hq, h.1⟩

theorem CtxWork.of_onlyRegs {own : Nat → Bool} {s t : State} (h : OnlyRegs own s t) : CtxWork own s t := by
  obtain ⟨hst, hregs⟩ := h
  refine ⟨fun o ho _ => hregs o ho, ?_⟩
  unfold regsOnly at hst
  unfold signalsOnly
  rw [hst]

theorem CtxWork.fset {own : Nat → Bool} (s : State) {f : Fld} (hf : own f.off = true) (v : Nat) : CtxWork own s (fset s f v) :=
  CtxWork.of_onlyRegs (OnlyRegs.fset s hf v)

theorem CtxWork.mono {own own' : Nat → Bool} {s t : State} (h : CtxWork own s t) (hown : ∀ o, own o = true → own' o = true) :
    CtxWork own' s t := by
  refine ⟨fun o ho hq => h.1 o ?_ hq, h.2⟩
  cases hold : own o
  · rfl
  · rw [hown o hold] at ho
    cases ho

theorem CtxWork.test_eq {own : Nat → Bool} {s t : State} (h : CtxWork own s t) : t.test = s.test := by
  have hst := h.2
  unfold signalsOnly at hst
  rw [hst]

/-- A register is as before a step that leaves it, signals apart. -/
theorem CtxWork.fget_eq {own : Nat → Bool} {s t : State} (h : CtxWork own s t) {f : Fld} (ho : own f.off = false)
    (hq : signalReg f.off = false) : fget t f = fget s f := fget_of_getReg_eq (h.1 _ ho hq)

theorem ctxEnter_work (s : State) (x st : Nat) : CtxWork (ctxStatReg x) s (ctxEnter s x st) :=
  (CtxWork.fset s (f := CTX_STAT.STATE x) (ctxStatReg_self x) st).trans (CtxWork.of_signals (ctxEnter_signals s x st))

theorem ctxDone_work (s : State) (x code : Nat) : CtxWork (ctxStatReg x) s (ctxDone s x code) :=
  (CtxWork.fset s (f := CTX_STAT.CODE x) (ctxStatReg_self x) code).trans (CtxWork.of_signals (ctxDone_signals s x code))

theorem cmdTaken_work (own : Nat → Bool) (s : State) (off : Nat) : CtxWork own s (cmdTaken s off) :=
  CtxWork.of_onlyRegs ⟨rfl, regsBut_setReg_getReg own s off⟩

section
variable {s : State} {x : Fin 1024}

/-- The state entered. -/
theorem ctxState_ctxEnter {st : Nat} (hst : st < 4) : ctxState (ctxEnter s x st) x = st := by
  rw [ctxState, fget_of_getReg_eq (f := CTX_STAT.STATE x) ((ctxEnter_signals s x st).2.1 _ (ctxStat_quiet x).1),
    fget_fset_same _ _ _ (show 0 + 2 ≤ 64 by decide)]
  exact Nat.mod_eq_of_lt hst

/-- The rest of the context's register stays. -/
theorem fget_ctxEnter (st : Nat) {f : Fld} (hoff : f.off = CTX_STAT x) (hf : 2 ≤ f.lo) : fget (ctxEnter s x st) f = fget s f := by
  rw [fget_of_getReg_eq (f := f) ((ctxEnter_signals s x st).2.1 _ (hoff ▸ (ctxStat_quiet x).1))]
  exact fget_fset_ne s (CTX_STAT.STATE x) f st (Or.inr (Or.inr hf))

/-- The code left. -/
theorem code_ctxDone {code : Nat} (hcode : code < 256) : fget (ctxDone s x code) (CTX_STAT.CODE x) = code := by
  rw [fget_of_getReg_eq (f := CTX_STAT.CODE x) ((ctxDone_signals s x code).2.1 _ (ctxStat_quiet x).1),
    fget_fset_same _ _ _ (show 16 + 8 ≤ 64 by decide)]
  exact Nat.mod_eq_of_lt hcode

theorem fget_ctxDone (code : Nat) {f : Fld} (hoff : f.off = CTX_STAT x) (hf : f.lo + f.wid ≤ 16 ∨ 24 ≤ f.lo) :
    fget (ctxDone s x code) f = fget s f := by
  rw [fget_of_getReg_eq (f := f) ((ctxDone_signals s x code).2.1 _ (hoff ▸ (ctxStat_quiet x).1))]
  exact fget_fset_ne s (CTX_STAT.CODE x) f code (Or.inr hf)

theorem ctxState_ctxDone (code : Nat) : ctxState (ctxDone s x code) x = ctxState s x :=
  fget_ctxDone code (f := CTX_STAT.STATE x) rfl (Or.inl (show 0 + 2 ≤ 16 by decide))

end

/-! Commands refused, ACTIVATE and DEACTIVATE. -/

/-- A command on an accepted word of its register, in WOVEN. -/
def CtxCmd (p : Fin 13) (x : Fin 1024) (op : Nat) (s : State) : Prop :=
  accepts s p (CTX_CMD x) (BitVec.ofNat 64 op) = true ∧ s.mode = mWOVEN

/-- The command goes on from code 0, and ends with any other. -/
theorem ctxCommand_refused {s : State} {x op r code : Nat} (hop : op ≠ 0) (hcode : ctxCode s x op r = code) (hne : code ≠ 0) :
    ctxCommand s x op r = ctxDone s x code := by
  rw [ctxCommand, if_neg (by simpa using hop)]
  dsimp only
  rw [hcode, if_pos (by simpa using hne)]
  rfl

/-- A step whose effect on registers leaves self-tests alone. -/
theorem ctxWork_answers {c : Instr} {p : Fin 13} {x : Fin 1024} {op r : Nat} (hop : op < 8) (hr : r < 64) {s u : State}
    {P : State → Prop} {own : Nat → Bool} (hexec : exec c s = writeNum p (CTX_CMD x) (256 * r + op) s)
    (hacc : accepts s p (CTX_CMD x) (BitVec.ofNat 64 (256 * r + op)) = true) (hgo : ctxCommand (cmdTaken s (CTX_CMD x)) x op r = u)
    (hwork : CtxWork own (cmdTaken s (CTX_CMD x)) u) (hown : own CTL_TEST_STAT = false) (hP : CtxWork own s u → P u) :
    answers c s P := by
  have hall := (cmdTaken_work own s (CTX_CMD x)).trans hwork
  exact ctxCommand_answers hop hr hexec hacc hgo (hall.1 _ hown (by decide)) hall.test_eq (hP hall)

theorem ctxRefused_answers {c : Instr} {p : Fin 13} {x : Fin 1024} {op r code : Nat} (hop : op < 8) (hop0 : op ≠ 0) (hr : r < 64)
    {s : State} (hexec : exec c s = writeNum p (CTX_CMD x) (256 * r + op) s)
    (hacc : accepts s p (CTX_CMD x) (BitVec.ofNat 64 (256 * r + op)) = true) (hcode : ctxCode s x op r = code) (hne : code ≠ 0)
    (hlt : code < 256) :
    answers c s fun t =>
      ctxState t x = ctxState s x ∧ fget t (CTX_STAT.CODE x) = code ∧ CtxWork (ctxStatReg x) s t := by
  refine ctxWork_answers hop hr hexec hacc (ctxCommand_refused hop0 ((ctxCode_cmdTaken s _ _ _ _).trans hcode) hne)
    (ctxDone_work _ _ _) (ctxStatReg_of_ne (ctxStat_quiet x).2.symm) fun hall => ⟨?_, code_ctxDone hlt, hall⟩
  exact (ctxState_ctxDone code).trans (fget_cmdTaken s _ _)

/-- ACTIVATE of an ALLOCATED context. -/
theorem ctxActivate_answers (p : Fin 13) (x : Fin 1024) (s : State) (hcmd : CtxCmd p x 2 s) (hst : ctxState s x = 1) :
    answers (.ctxActivate p x) s fun t =>
      ctxState t x = 2 ∧ fget t (CTX_STAT.CODE x) = 0 ∧ fget t (CTX_STAT.GEN x) = fget s (CTX_STAT.GEN x) ∧
        CtxWork (ctxStatReg x) s t := by
  have hcode : ctxCode (cmdTaken s (CTX_CMD x)) x 2 0 = 0 := by
    rw [ctxCode_cmdTaken, ctxCode_of_woven hcmd.2, hst]
    rfl
  have hgo : ctxCommand (cmdTaken s (CTX_CMD x)) x 2 0 = ctxDone (ctxEnter (cmdTaken s (CTX_CMD x)) x 2) x 0 := by
    rw [ctxCommand, if_neg (by decide)]
    dsimp only
    rw [hcode, if_neg (by decide)]
    rfl
  refine ctxWork_answers (op := 2) (r := 0) (by decide) (by decide) rfl hcmd.1 hgo ((ctxEnter_work _ _ _).trans (ctxDone_work _ _ _))
    (ctxStatReg_of_ne (ctxStat_quiet x).2.symm) fun hall => ⟨?_, code_ctxDone (by decide), ?_, hall⟩
  · rw [ctxState_ctxDone, ctxState_ctxEnter (by decide)]
  · rw [fget_ctxDone 0 (f := CTX_STAT.GEN x) rfl (Or.inl (show 8 + 8 ≤ 16 by decide)),
      fget_ctxEnter 2 (f := CTX_STAT.GEN x) rfl (show 2 ≤ 8 by decide), fget_cmdTaken]

/-- No region of the context RUNNING, none is stopped. -/
theorem stopNone {s : State} {x : Nat} (h : ∀ r, r < 64 → regionOwner s r = x → regionState s r ≠ rRUNNING) :
    (forRange 64 s fun s r => if regionOwner s r == x && regionState s r == rRUNNING then stopRegion s r else s) = s := by
  refine forRange_keeps (P := fun t => t = s) (fun t r hr ht => ?_) rfl
  subst ht
  refine if_neg ?_
  rw [Bool.and_eq_true, beq_iff_eq, beq_iff_eq]
  exact fun hboth => h r hr hboth.1 hboth.2

/-- DEACTIVATE of an ACTIVE context with no region RUNNING. -/
theorem ctxDeactivate_answers (p : Fin 13) (x : Fin 1024) (s : State) (hcmd : CtxCmd p x 3 s) (hst : ctxState s x = 2)
    (hnone : ∀ r, r < 64 → regionOwner s r = x.val → regionState s r ≠ rRUNNING) :
    answers (.ctxDeactivate p x) s fun t =>
      ctxState t x = 1 ∧ fget t (CTX_STAT.CODE x) = 0 ∧ fget t (CTX_STAT.GEN x) = fget s (CTX_STAT.GEN x) ∧
        CtxWork (ctxStatReg x) s t := by
  have hcode : ctxCode (cmdTaken s (CTX_CMD x)) x 3 0 = 0 := by
    rw [ctxCode_cmdTaken, ctxCode_of_woven hcmd.2, hst]
    rfl
  have hstop : (forRange 64 (cmdTaken s (CTX_CMD x)) fun s r =>
      if regionOwner s r == x.val && regionState s r == rRUNNING then stopRegion s r else s) = cmdTaken s (CTX_CMD x) := by
    refine stopNone fun r hr => ?_
    rw [regionOwner, fbit_cmdTaken, fget_cmdTaken, regionState, fget_cmdTaken]
    exact hnone r hr
  have hgo : ctxCommand (cmdTaken s (CTX_CMD x)) x 3 0 = ctxDone (ctxEnter (cmdTaken s (CTX_CMD x)) x 1) x 0 := by
    rw [ctxCommand, if_neg (by decide)]
    dsimp only
    rw [hcode, if_neg (by decide), hstop]
    rfl
  refine ctxWork_answers (op := 3) (r := 0) (by decide) (by decide) rfl hcmd.1 hgo ((ctxEnter_work _ _ _).trans (ctxDone_work _ _ _))
    (ctxStatReg_of_ne (ctxStat_quiet x).2.symm) fun hall => ⟨?_, code_ctxDone (by decide), ?_, hall⟩
  · rw [ctxState_ctxDone, ctxState_ctxEnter (by decide)]
  · rw [fget_ctxDone 0 (f := CTX_STAT.GEN x) rfl (Or.inl (show 8 + 8 ≤ 16 by decide)),
      fget_ctxEnter 1 (f := CTX_STAT.GEN x) rfl (show 2 ≤ 8 by decide), fget_cmdTaken]

end Sys2Proof.Machine
end

section
/-! SUPPORT. ALLOCATE (R332, R396). -/

namespace Sys2Proof.Machine

open Claim

/-! Placement of one and the same register file. -/

/-- States that differ at most in how their registers are stored. -/
def Alike (s t : State) : Prop := t = { s with regs := t.regs } ∧ ∀ o, getReg t o = getReg s o

theorem alike_cmdTaken (s : State) (off : Nat) : Alike s (cmdTaken s off) := ⟨rfl, getReg_cmdTaken s off⟩

theorem Alike.setReg {s t : State} (h : Alike s t) (o : Nat) (v : Word) : Alike (setReg s o v) (setReg t o v) := by
  obtain ⟨hst, hregs⟩ := h
  refine ⟨?_, fun k => ?_⟩
  · rw [hst]
    rfl
  · rw [getReg_setReg, getReg_setReg, hregs]

theorem Alike.fset {s t : State} (h : Alike s t) (f : Fld) (v : Nat) : Alike (fset s f v) (fset t f v) := by
  unfold Machine.fset
  rw [h.2]
  exact h.setReg _ _

theorem Alike.setMem {s t : State} (h : Alike s t) (f : MemSt → MemSt) : Alike (setMem s f) (setMem t f) := by
  obtain ⟨hst, hregs⟩ := h
  refine ⟨?_, hregs⟩
  rw [hst]
  rfl

theorem Alike.mem_eq {s t : State} (h : Alike s t) : t.mem = s.mem := by rw [h.1]

theorem Alike.sec_eq {s t : State} (h : Alike s t) : t.sec = s.sec := by rw [h.1]

theorem Alike.forEach {β : Type} {l : List β} {f : State → β → State} (hf : ∀ s t a, Alike s t → Alike (f s a) (f t a)) {s t : State}
    (h : Alike s t) : Alike (forEach l s f) (forEach l t f) := by
  induction l generalizing s t with
  | nil => exact h
  | cons a l ih => exact ih (hf s t a h)

theorem Alike.firstFree_eq {s t : State} (h : Alike s t) : firstFree t = firstFree s := by
  funext d
  unfold firstFree frameHeld
  rw [h.mem_eq]

theorem Alike.logReserve_eq {s t : State} (h : Alike s t) : logReserve t = logReserve s := by
  unfold logReserve winFrames logFrames
  rw [h.mem_eq, h.sec_eq]

theorem Alike.windowDie_eq {s t : State} (h : Alike s t) : windowDie t = windowDie s := by
  funext f
  unfold windowDie
  rw [h.mem_eq, h.logReserve_eq]

theorem Alike.placeLog {s t : State} (h : Alike s t) (x n : Nat) : Option.Rel Alike (placeLog s x n) (placeLog t x n) := by
  induction n with
  | zero => exact Option.Rel.some h
  | succ n ih =>
    unfold Machine.placeLog
    generalize Machine.placeLog s x n = a at *
    generalize Machine.placeLog t x n = b at *
    cases ih with
    | none => exact Option.Rel.none
    | some hab =>
      dsimp only
      rw [hab.firstFree_eq]
      split
      · exact Option.Rel.none
      · exact Option.Rel.some (hab.setMem _)

theorem Alike.placeWin {s t : State} (h : Alike s t) (x n : Nat) : Option.Rel Alike (placeWin s x n) (placeWin t x n) := by
  induction n with
  | zero => exact Option.Rel.some h
  | succ n ih =>
    unfold Machine.placeWin
    generalize Machine.placeWin s x n = a at *
    generalize Machine.placeWin t x n = b at *
    cases ih with
    | none => exact Option.Rel.none
    | some hab =>
      dsimp only
      rw [hab.windowDie_eq]
      split
      · exact Option.Rel.none
      · rw [hab.firstFree_eq]
        split
        · exact Option.Rel.none
        · exact Option.Rel.some (hab.setMem _)

theorem Alike.memDieUpdate {s t : State} (h : Alike s t) : Alike (memDieUpdate s) (memDieUpdate t) := by
  refine Alike.forEach (fun a b d hab => ?_) h
  have hres : ∀ {u v : State}, Alike u v → (if d < 4 then logReserve v else 0) = if d < 4 then logReserve u else 0 := fun huv => by
    rw [huv.logReserve_eq]
  dsimp only
  rw [hab.mem_eq]
  have hfree := hab.fset (MEM_DIE.FREE d)
    (framesPerDie - (a.mem.winFr ++ a.mem.logFr).foldl (fun n (_, l) => n + (l.filter fun p => p.1 == d).length) 0)
  rw [hres hfree]
  exact hfree.fset _ _

theorem Alike.memCtxUpdate {s t : State} (h : Alike s t) (x m : Nat) : Alike (memCtxUpdate s x m) (memCtxUpdate t x m) := by
  unfold Machine.memCtxUpdate winFrames logFrames
  dsimp only
  rw [h.mem_eq]
  exact h.setReg _ _

theorem Alike.placeFrames {s t : State} (h : Alike s t) (x : Nat) : Option.Rel Alike (placeFrames s x) (placeFrames t x) := by
  unfold Machine.placeFrames
  dsimp only
  rw [h.sec_eq]
  have hlog := h.placeLog x ((tget {} s.sec.share x).logGib * 8)
  generalize Machine.placeLog s x ((tget {} s.sec.share x).logGib * 8) = a at *
  generalize Machine.placeLog t x ((tget {} s.sec.share x).logGib * 8) = b at *
  cases hlog with
  | none => exact Option.Rel.none
  | @some u v huv =>
    dsimp only
    have hwin := huv.placeWin x ((tget {} s.sec.share x).winGib * 8)
    generalize Machine.placeWin u x ((tget {} s.sec.share x).winGib * 8) = a at *
    generalize Machine.placeWin v x ((tget {} s.sec.share x).winGib * 8) = b at *
    cases hwin with
    | none => exact Option.Rel.none
    | some hab => exact Option.Rel.some ((hab.memCtxUpdate x _).memDieUpdate)

theorem Alike.releaseFrames {s t : State} (h : Alike s t) (x : Nat) : Alike (releaseFrames s x) (releaseFrames t x) := by
  have hmem := h.setMem fun m => { m with winFr := tset [] m.winFr x [], logFr := tset [] m.logFr x [] }
  exact (hmem.setReg (MEM_CTX x) (regReset (MEM_CTX x))).memDieUpdate

theorem Alike.afterUnpicks {s t : State} (h : Alike s t) : Alike (afterUnpicks s) (afterUnpicks t) := by
  unfold Machine.afterUnpicks
  rw [h.sec_eq]
  exact Alike.forEach (fun a b y hab => hab.releaseFrames y) h

/-! What placement changes. -/

/-- Registers that show the placement of frames. -/
def placeReg (o : Nat) : Bool := 0x2C00000 ≤ o && o < 0x3000000

/-- From `s` to `t` frames were placed. -/
def Placed (s t : State) : Prop := t = { s with regs := t.regs, mem := t.mem } ∧ regsBut placeReg s t

theorem Placed.refl (s : State) : Placed s s := ⟨rfl, regsBut.refl _ s⟩

theorem Placed.trans {s t u : State} (h : Placed s t) (k : Placed t u) : Placed s u := by
  obtain ⟨hst, hregs⟩ := h
  obtain ⟨ktu, kregs⟩ := k
  refine ⟨?_, hregs.trans kregs⟩
  rw [ktu, hst]

theorem Placed.setMem (s : State) (f : MemSt → MemSt) : Placed s (setMem s f) := ⟨rfl, fun _ _ => rfl⟩

theorem Placed.setReg (s : State) {o : Nat} (ho : placeReg o = true) (v : Word) : Placed s (setReg s o v) := ⟨rfl, regsBut_setReg s ho v⟩

theorem placeLog_placed {s t : State} {x n : Nat} (h : placeLog s x n = some t) : Placed s t := by
  induction n generalizing t with
  | zero =>
    obtain rfl : s = t := Option.some.inj h
    exact Placed.refl s
  | succ n ih =>
    unfold placeLog at h
    split at h
    · cases h
    · next u hu =>
      split at h
      · cases h
      · rw [← Option.some.inj h]
        exact (ih hu).trans (Placed.setMem u _)

theorem placeWin_placed {s t : State} {x n : Nat} (h : placeWin s x n = some t) : Placed s t := by
  induction n generalizing t with
  | zero =>
    obtain rfl : s = t := Option.some.inj h
    exact Placed.refl s
  | succ n ih =>
    unfold placeWin at h
    split at h
    · cases h
    · next u hu =>
      split at h
      · cases h
      · split at h
        · cases h
        · rw [← Option.some.inj h]
          exact (ih hu).trans (Placed.setMem u _)

theorem placeReg_die {d : Nat} (hd : d < 8) : placeReg (MEM_DIE d) = true := by
  unfold placeReg MEM_DIE
  rw [Bool.and_eq_true, decide_eq_true_eq, decide_eq_true_eq]
  omega

theorem placeReg_ctx {x : Nat} (hx : x < 1024) : placeReg (MEM_CTX x) = true := by
  unfold placeReg MEM_CTX
  rw [Bool.and_eq_true, decide_eq_true_eq, decide_eq_true_eq]
  omega

theorem memDieUpdate_placed (s : State) : Placed s (memDieUpdate s) :=
  forRange_keeps (P := Placed s) (fun t d hd ht =>
    (ht.trans (Placed.setReg t (o := (MEM_DIE.FREE d).off) (placeReg_die hd) _)).trans
      (Placed.setReg _ (o := (MEM_DIE.RESERVE d).off) (placeReg_die hd) _)) (Placed.refl s)

theorem placeFrames_placed {s t : State} {x : Nat} (hx : x < 1024) (h : placeFrames s x = some t) : Placed s t := by
  unfold placeFrames at h
  dsimp only at h
  split at h
  · cases h
  · next u hu =>
    split at h
    · cases h
    · next v hv =>
      rw [← Option.some.inj h]
      exact (((placeLog_placed hu).trans (placeWin_placed hv)).trans (Placed.setReg v (placeReg_ctx hx) _)).trans
        (memDieUpdate_placed _)

/-! Generations and pages. -/

/-- Registers of a context's counter page. -/
def pageReg (x o : Nat) : Bool := PMC_CTXPAGE x 0 ≤ o && o < PMC_CTXPAGE x 64

theorem pageReg_entry {x i : Nat} (hi : i < 64) : pageReg x (PMC_CTXPAGE x i) = true := by
  unfold pageReg PMC_CTXPAGE
  rw [Bool.and_eq_true, decide_eq_true_eq, decide_eq_true_eq]
  omega

theorem regReset_page {x i : Nat} (hx : x < 1024) (hi : i < 64) : regReset (PMC_CTXPAGE x i) = 0 := by
  have hlo : 0x3480000 ≤ PMC_CTXPAGE x i := by unfold PMC_CTXPAGE; omega
  have hhi : PMC_CTXPAGE x i < 0x3500000 := by unfold PMC_CTXPAGE; omega
  have hrow : findReg (PMC_CTXPAGE x i) = some ⟨0x3480000, 8, 65536, 0, 0xFFFFFFFFFFFFFFFF, 0, 0, 0, 0⟩ := by
    refine findReg_of_range (lo := 0x3480000) (hi := 0x3500000) rfl ?_ hlo hhi ?_ (by omega) (by omega)
    · rw [RegDesc.covers, Bool.and_eq_true, Bool.and_eq_true]
      exact ⟨⟨decide_eq_true hlo, beq_iff_eq.2 (by show (PMC_CTXPAGE x i - 0x3480000) % 8 = 0; unfold PMC_CTXPAGE; omega)⟩,
        decide_eq_true (by show (PMC_CTXPAGE x i - 0x3480000) / 8 < 65536; omega)⟩
    · rw [regHole, if_neg (by omega), if_neg (by omega)]
  rw [regReset, if_neg (by omega), if_neg (by omega), hrow]
  rfl

theorem pageZero_spec (s : State) {x : Nat} (hx : x < 1024) :
    OnlyRegs (pageReg x) s (pageZero s x) ∧ ∀ i, i < 64 → getReg (pageZero s x) (PMC_CTXPAGE x i) = 0 := by
  refine ⟨OnlyRegs.forRange (fun t i hi => ⟨regsOnly_setReg t _ _, regsBut_setReg t (pageReg_entry hi) _⟩) s, fun i hi => ?_⟩
  have hreset : ∀ j, j < 64 → regReset (PMC_CTXPAGE x j) = 0 := fun j hj => regReset_page hx hj
  refine forEach_marks (Q := fun _ => True) (P := fun i t => i < 64 → getReg t (PMC_CTXPAGE x i) = 0) (l := List.range 64) (a := i)
    (fun _ _ h => h) (fun t j _ hj => ?_) (fun t j k _ hk hlt => ?_) (List.mem_range.2 hi) (s := s) trivial hi
  · rw [resetReg, getReg_setReg, if_pos rfl, hreset j hj]
  · rw [resetReg, getReg_setReg]
    split
    · next heq => rw [← heq, hreset k hlt]
    · exact hk hlt

/-- A context's generation one on, now or later. -/
theorem genAdvance_ctx (s : State) (x : Nat) :
    regsBut (ctxStatReg x) s (genAdvance s (65600 + x)) ∧
      genAdvance s (65600 + x) = { s with regs := (genAdvance s (65600 + x)).regs, weave := (genAdvance s (65600 + x)).weave } ∧
      ctxState (genAdvance s (65600 + x)) x = ctxState s x ∧
      (genWaits s (65600 + x) = false → genReady s (65600 + x) = true →
        fget (genAdvance s (65600 + x)) (CTX_STAT.GEN x) = (fget s (CTX_STAT.GEN x) + 1) % 256) := by
  unfold genAdvance
  split
  · next hnow =>
    have hstep : genStep s (65600 + x) =
        fset (setWeave s fun w => { w with genAt := tset 0 w.genAt (65600 + x) (s.now + 1) }) (CTX_STAT.GEN x)
          (fget s (CTX_STAT.GEN x) + 1) := by
      unfold genStep
      dsimp only
      rw [if_neg (by omega), if_neg (by omega), Nat.add_sub_cancel_left]
      rfl
    rw [hstep]
    generalize hu : setWeave s _ = u
    have hregs : u.regs = s.regs := by rw [← hu]; rfl
    refine ⟨?_, ?_, ?_, fun _ _ => fget_fset_same u (CTX_STAT.GEN x) _ (show 8 + 8 ≤ 64 by decide)⟩
    · exact (regsBut_of_regs_eq hregs).trans (regsBut_fset (own := ctxStatReg x) u (CTX_STAT.GEN x) (ctxStatReg_self x) _)
    · rw [← hu]
      rfl
    · exact (fget_fset_ne u (CTX_STAT.GEN x) (CTX_STAT.STATE x) _ (Or.inr (Or.inl (show 0 + 2 ≤ 8 by decide)))).trans
        (fget_of_getReg_eq (getReg_congr hregs _))
  · next hnow =>
    refine ⟨fun _ _ => rfl, rfl, rfl, fun hwait hready => absurd ?_ hnow⟩
    have hzero : tget 0 s.weave.genWait (65600 + x) = 0 := by
      unfold genWaits at hwait
      simpa using hwait
    rw [hready, hzero]
    rfl

/-! ALLOCATE. -/

/-- Registers that ALLOCATE changes beside the placement. -/
def allocReg (x o : Nat) : Bool := ctxStatReg x o || pageReg x o

/-- A context whose frames are placed. -/
def allocated (u : State) (x : Nat) : State := ctxDone (ctxEnter (pageZero (genAdvance u (65600 + x)) x) x 1) x 0

theorem pageReg_stat (x : Fin 1024) : pageReg x (CTX_STAT x) = false := by
  unfold pageReg PMC_CTXPAGE CTX_STAT ctxPage
  rw [Bool.and_eq_false_iff, decide_eq_false_iff_not, decide_eq_false_iff_not]
  omega

theorem ctxStat_ne_page (x : Fin 1024) (i : Nat) : PMC_CTXPAGE x i ≠ CTX_STAT x := by
  unfold PMC_CTXPAGE CTX_STAT ctxPage
  omega

theorem signalReg_page_entry (x : Fin 1024) {i : Nat} (hi : i < 64) : signalReg (PMC_CTXPAGE x i) = false := by
  unfold signalReg inSrc PMC_CTXPAGE EVR_LOST IC_MERGED
  simp only [Bool.or_eq_false_iff, Bool.and_eq_false_iff, beq_eq_false_iff_ne, decide_eq_false_iff_not]
  omega

theorem weave_of_ctxWork {own : Nat → Bool} {s t : State} (h : CtxWork own s t) : t.weave = s.weave := by
  have hst := h.2
  unfold signalsOnly at hst
  rw [hst]

/-- What ALLOCATE leaves of a module with the frames placed. -/
theorem allocated_spec (u : State) (x : Fin 1024) :
    ctxState (allocated u x) x = 1 ∧ fget (allocated u x) (CTX_STAT.CODE x) = 0 ∧
      (∀ i, i < 64 → getReg (allocated u x) (PMC_CTXPAGE x i) = 0) ∧
      (genWaits u (65600 + x) = false → genReady u (65600 + x) = true →
        fget (allocated u x) (CTX_STAT.GEN x) = (fget u (CTX_STAT.GEN x) + 1) % 256) ∧
      regsQuiet (allocReg x) u (allocated u x) ∧ signalsOnly { u with weave := (allocated u x).weave } (allocated u x) := by
  obtain ⟨hgregs, hgst, -, hgen⟩ := genAdvance_ctx u x
  unfold allocated
  generalize genAdvance u (65600 + x.val) = v at *
  obtain ⟨hpage, hzero⟩ := pageZero_spec v x.isLt
  generalize pageZero v x = w at *
  have hwork : CtxWork (ctxStatReg x) w (ctxDone (ctxEnter w x 1) x 0) := (ctxEnter_work w x 1).trans (ctxDone_work _ _ _)
  refine ⟨?_, code_ctxDone (by decide), fun i hi => ?_, fun hwait hready => ?_, fun o ho hq => ?_, ?_⟩
  · rw [ctxState_ctxDone, ctxState_ctxEnter (by decide)]
  · rw [hwork.1 _ (ctxStatReg_of_ne (ctxStat_ne_page x i)) (signalReg_page_entry x hi), hzero i hi]
  · rw [fget_ctxDone 0 (f := CTX_STAT.GEN x) rfl (Or.inl (show 8 + 8 ≤ 16 by decide)),
      fget_ctxEnter 1 (f := CTX_STAT.GEN x) rfl (show 2 ≤ 8 by decide),
      fget_of_getReg_eq (f := CTX_STAT.GEN x) (hpage.2 _ (pageReg_stat x)), hgen hwait hready]
  · obtain ⟨hstat, hpageOff⟩ := Bool.or_eq_false_iff.1 ho
    exact (hwork.1 o hstat hq).trans ((hpage.2 o hpageOff).trans (hgregs o hstat))
  · have hst := hwork.2
    have hweave := weave_of_ctxWork hwork
    generalize ctxDone (ctxEnter w x 1) x 0 = t at *
    have hpst := hpage.1
    unfold signalsOnly regsOnly at *
    rw [hst, hpst, hgst]

theorem ctxCommand_allocate {s : State} {x : Fin 1024} (hcode : ctxCode s x 1 0 = 0) :
    ctxCommand s x 1 0 = ctxDone (ctxAllocate s x).2 x (ctxAllocate s x).1 := by
  rw [ctxCommand, if_neg (by decide)]
  dsimp only
  rw [hcode, if_neg (by decide)]
  rfl

theorem code_allocate {s : State} {p : Fin 13} {x : Fin 1024} (hcmd : CtxCmd p x 1 s) (hst : ctxState s x = 0) :
    ctxCode (cmdTaken s (CTX_CMD x)) x 1 0 = 0 := by
  rw [ctxCode_cmdTaken, ctxCode_of_woven hcmd.2, hst]
  rfl

/-- ALLOCATE of a FREE context whose frames can all be placed. -/
theorem ctxAllocate_answers (p : Fin 13) (x : Fin 1024) (s : State) (hcmd : CtxCmd p x 1 s) (hst : ctxState s x = 0)
    (hplace : (placeFrames s x).isSome = true) :
    answers (.ctxAllocate p x) s fun t =>
      let u := (placeFrames s x).getD s;
      ctxState t x = 1 ∧ fget t (CTX_STAT.CODE x) = 0 ∧ t.mem = u.mem ∧ (∀ i, i < 64 → getReg t (PMC_CTXPAGE x i) = 0) ∧
      (genWaits s (65600 + x) = false → genReady s (65600 + x) = true →
        fget t (CTX_STAT.GEN x) = (fget s (CTX_STAT.GEN x) + 1) % 256) ∧
      regsQuiet (allocReg x) u t ∧ signalsOnly { u with weave := t.weave } t := by
  obtain ⟨u, hu⟩ := Option.isSome_iff_exists.1 hplace
  have hrel := (alike_cmdTaken s (CTX_CMD x)).placeFrames x
  rw [hu] at hrel
  obtain ⟨v, hv, huv⟩ : ∃ v, placeFrames (cmdTaken s (CTX_CMD x)) x = some v ∧ Alike u v := by
    cases hq : placeFrames (cmdTaken s (CTX_CMD x)) x with
    | none =>
      rw [hq] at hrel
      cases hrel
    | some v =>
      rw [hq] at hrel
      cases hrel with
      | some h => exact ⟨v, rfl, h⟩
  obtain ⟨hust, huregs⟩ := placeFrames_placed x.isLt hu
  have hgo : ctxCommand (cmdTaken s (CTX_CMD x)) x 1 0 = allocated v x := by
    rw [ctxCommand_allocate (code_allocate hcmd hst), ctxAllocate, hv]
    rfl
  obtain ⟨hstate, hcode, hpage, hgen, hregs, hsig⟩ := allocated_spec v x
  have hweave : v.weave = s.weave := by rw [huv.1, hust]
  have hmono : v.mono = s.mono := by rw [huv.1, hust]
  have hwaits : genWaits v (65600 + x) = genWaits s (65600 + x) := by rw [genWaits, genWaits, hweave]
  have hready : genReady v (65600 + x) = genReady s (65600 + x) := by
    unfold genReady State.elapsed State.now
    rw [hweave, hmono]
  have hreg : ∀ o, placeReg o = false → allocReg x o = false → signalReg o = false → getReg (allocated v x) o = getReg s o :=
    fun o hp ho hq => (hregs o ho hq).trans ((huv.2 o).trans (huregs o hp))
  have hgenStat : fget v (CTX_STAT.GEN x) = fget s (CTX_STAT.GEN x) := by
    refine fget_of_getReg_eq ((huv.2 _).trans (huregs _ ?_))
    show placeReg (CTX_STAT x) = false
    unfold placeReg CTX_STAT ctxPage
    rw [Bool.and_eq_false_iff, decide_eq_false_iff_not, decide_eq_false_iff_not]
    omega
  have htestReg : allocReg x CTL_TEST_STAT = false := by
    refine Bool.or_eq_false_iff.2 ⟨ctxStatReg_of_ne (ctxStat_quiet x).2.symm, ?_⟩
    unfold pageReg PMC_CTXPAGE CTL_TEST_STAT
    rw [Bool.and_eq_false_iff, decide_eq_false_iff_not, decide_eq_false_iff_not]
    omega
  have hmem : (allocated v x).mem = u.mem := by
    unfold signalsOnly at hsig
    rw [hsig]
    exact huv.mem_eq
  have htest : (allocated v x).test = s.test := by
    unfold signalsOnly at hsig
    rw [hsig]
    show v.test = s.test
    rw [huv.1, hust]
  rw [hu]
  refine ctxCommand_answers (op := 1) (r := 0) (by decide) (by decide) rfl hcmd.1 hgo (hreg _ (by decide) htestReg (by decide)) htest
    ⟨hstate, hcode, hmem, hpage, fun hw hr => ?_, fun o ho hq => (hregs o ho hq).trans (huv.2 o), ?_⟩
  · rw [hgen (hwaits.trans hw) (hready.trans hr), hgenStat]
  · have hvst := huv.1
    unfold signalsOnly at *
    generalize allocated v x = t at *
    rw [hsig, hvst]
    rfl

/-- ALLOCATE of a context that neither free frames nor running unpicks can hold. -/
theorem ctxAllocate_busy (p : Fin 13) (x : Fin 1024) (s : State) (hcmd : CtxCmd p x 1 s) (hst : ctxState s x = 0)
    (hplace : placeFrames s x = none) (hafter : placeFrames (afterUnpicks s) x = none) :
    answers (.ctxAllocate p x) s fun t =>
      ctxState t x = 0 ∧ fget t (CTX_STAT.CODE x) = 2 ∧ fget t (CTX_STAT.ESTIMATE x) = 0xFFFFFF ∧ CtxWork (ctxStatReg x) s t := by
  have halike := alike_cmdTaken s (CTX_CMD x)
  have hnone : ∀ {a b : Option State}, Option.Rel Alike a b → a = none → b = none := fun hab ha => by
    subst ha
    cases hab
    rfl
  have hgo : ctxCommand (cmdTaken s (CTX_CMD x)) x 1 0 =
      ctxDone (fset (cmdTaken s (CTX_CMD x)) (CTX_STAT.ESTIMATE x) 0xFFFFFF) x 2 := by
    rw [ctxCommand_allocate (code_allocate hcmd hst), ctxAllocate, hnone (halike.placeFrames x) hplace]
    dsimp only
    rw [hnone (halike.afterUnpicks.placeFrames x) hafter]
    rfl
  have hwork : CtxWork (ctxStatReg x) (cmdTaken s (CTX_CMD x))
      (ctxDone (fset (cmdTaken s (CTX_CMD x)) (CTX_STAT.ESTIMATE x) 0xFFFFFF) x 2) :=
    (CtxWork.fset _ (f := CTX_STAT.ESTIMATE x) (ctxStatReg_self x) _).trans (ctxDone_work _ _ _)
  refine ctxWork_answers (op := 1) (r := 0) (by decide) (by decide) rfl hcmd.1 hgo hwork (ctxStatReg_of_ne (ctxStat_quiet x).2.symm)
    fun hall => ⟨?_, code_ctxDone (by decide), ?_, hall⟩
  · rw [ctxState_ctxDone, ctxState, fget_fset_ne _ (CTX_STAT.ESTIMATE x) (CTX_STAT.STATE x) _
      (Or.inr (Or.inl (show 0 + 2 ≤ 40 by decide))), fget_cmdTaken]
    exact hst
  · rw [fget_ctxDone 2 (f := CTX_STAT.ESTIMATE x) rfl (Or.inr (show 24 ≤ 40 by decide)),
      fget_fset_same _ (CTX_STAT.ESTIMATE x) _ (show 40 + 24 ≤ 64 by decide)]
    rfl

end Sys2Proof.Machine
end

section
/-! SUPPORT. RELEASE (R398, R400, Table 16.3) of a context that owns nothing. -/

namespace Sys2Proof.Machine

open Claim

/-! Job keys erased. -/

/-- Registers of a context's key map. -/
def keymapReg (x o : Nat) : Bool := CTX_KEYMAP x 0 ≤ o && o < CTX_KEYMAP x 4

theorem keymapReg_entry {x w : Nat} (hw : w < 4) : keymapReg x (CTX_KEYMAP x w) = true := by
  unfold keymapReg CTX_KEYMAP
  rw [Bool.and_eq_true, decide_eq_true_eq, decide_eq_true_eq]
  omega

theorem keymapReg_of_lt {x o : Nat} (h : o < CTX_KEYMAP x 0 ∨ CTX_KEYMAP x 4 ≤ o) : keymapReg x o = false := by
  unfold keymapReg
  rw [Bool.and_eq_false_iff, decide_eq_false_iff_not, decide_eq_false_iff_not]
  omega

theorem regReset_keymap {x w : Nat} (hx : x < 1024) (hw : w < 4) : regReset (CTX_KEYMAP x w) = 0 := by
  have hoff : CTX_KEYMAP x w = ctxPage x + (0x20 + 8 * w) := by unfold CTX_KEYMAP; omega
  have hrow : ∀ v : Fin 4, ctxRegs.find? (·.covers (0x20 + 8 * v)) = some ⟨0x20, 8, 4, 0, 0xFFFFFFFFFFFFFFFF, 0, 0, 0, 0⟩ := by decide
  have hfind : findReg (CTX_KEYMAP x w) = some ⟨0x20, 8, 4, 0, 0xFFFFFFFFFFFFFFFF, 0, 0, 0, 0⟩ := by
    rw [hoff, findReg_ctxPage hx (by omega)]
    exact hrow ⟨w, hw⟩
  have hlo : 0x3000000 ≤ CTX_KEYMAP x w ∧ CTX_KEYMAP x w < 0x3400000 := by unfold CTX_KEYMAP ctxPage; omega
  rw [regReset, if_neg (by omega), if_neg (by omega), hfind]
  rfl

/-- Registers that the erasure of a context's keys writes. -/
def eraseReg (x o : Nat) : Bool := o == SEC_KEYS || keymapReg x o

/-- The keys of the other contexts. -/
def keysLeft (s : State) (x : Nat) : SecSt := { s.sec with keys := s.sec.keys.filter fun e => e.1 / 256 != x }

theorem keysErase_spec (s : State) {x : Nat} (hx : x < 1024) :
    OnlyRegs (eraseReg x) { s with sec := keysLeft s x } (keysErase s x) ∧
      (∀ w, w < 4 → getReg (keysErase s x) (CTX_KEYMAP x w) = 0) ∧
      fget (keysErase s x) SEC_KEYS.COUNT = (keysErase s x).sec.keys.length % 32768 := by
  have hkeys : eraseReg x SEC_KEYS = true := by rw [eraseReg, beq_self_eq_true, Bool.true_or]
  have hentry : ∀ {w}, w < 4 → eraseReg x (CTX_KEYMAP x w) = true := fun hw => by rw [eraseReg, keymapReg_entry hw, Bool.or_true]
  have hreset : ∀ w, w < 4 → regReset (CTX_KEYMAP x w) = 0 := fun w hw => regReset_keymap hx hw
  unfold keysErase
  dsimp only
  generalize hu : setSec s _ = u
  have hus : u = { s with sec := keysLeft s x } := hu.symm
  rw [← hus]
  have hcount : OnlyRegs (eraseReg x) u (fset u SEC_KEYS.COUNT u.sec.keys.length) := OnlyRegs.fset u (f := SEC_KEYS.COUNT) hkeys _
  have hmap : OnlyRegs (keymapReg x) (fset u SEC_KEYS.COUNT u.sec.keys.length)
      (forRange 4 (fset u SEC_KEYS.COUNT u.sec.keys.length) fun s w => resetReg s (CTX_KEYMAP x w)) :=
    OnlyRegs.forRange (fun t w hw => ⟨regsOnly_setReg t _ _, regsBut_setReg t (keymapReg_entry hw) _⟩) _
  refine ⟨hcount.trans (OnlyRegs.forRange (fun t w hw => ⟨regsOnly_setReg t _ _, regsBut_setReg t (hentry hw) _⟩) _),
    fun w hw => ?_, ?_⟩
  · refine forEach_marks (Q := fun _ => True) (P := fun w t => w < 4 → getReg t (CTX_KEYMAP x w) = 0) (l := List.range 4) (a := w)
      (fun _ _ h => h) (fun t j _ hj => ?_) (fun t j k _ hk hlt => ?_) (List.mem_range.2 hw) (s := fset u SEC_KEYS.COUNT u.sec.keys.length)
      trivial hw
    · rw [resetReg, getReg_setReg, if_pos rfl, hreset j hj]
    · rw [resetReg, getReg_setReg]
      split
      · next heq => rw [← heq, hreset k hlt]
      · exact hk hlt
  · have hsec : (forRange 4 (fset u SEC_KEYS.COUNT u.sec.keys.length) fun s w => resetReg s (CTX_KEYMAP x w)).sec = u.sec := by
      rw [hmap.1]
      rfl
    rw [hsec, fget_of_getReg_eq (f := SEC_KEYS.COUNT) (hmap.2 SEC_KEYS (keymapReg_of_lt (Or.inr ?_))),
      fget_fset_same _ SEC_KEYS.COUNT _ (show 0 + 15 ≤ 64 by decide)]
    · rfl
    · unfold CTX_KEYMAP ctxPage SEC_KEYS
      omega

/-! The unpick begins. -/

/-- Nothing of the context's is to be released. -/
structure OwnsNothing (s : State) (x : Nat) : Prop where
  region : ∀ r, r < 64 → regionOwner s r ≠ x
  port : ∀ L, L < 1024 → ownsPort s x L = false
  group : s.pic.groups.any (fun e => gValid e.2 && gCtx e.2 == x) = false
  session : s.flt.bcs.any (fun e => bcCtx e.2 == x && bcValid e.2) = false
  meters : s.tm.meters.any (fun e => wbit e.2.cfg1 TM_MTR_CFG1.OWNED && wget e.2.cfg1 TM_MTR_CFG1.OWNER == x) = false

theorem filter_eq_nil_of_any {α : Type} {p : α → Bool} {l : List α} (h : l.any p = false) : l.filter p = [] :=
  List.filter_eq_nil_iff.2 fun a ha hp => by
    rw [List.any_eq_false] at h
    exact h a ha hp

/-- The context's register as its unpick begins, and the unpick's account. -/
def unpickBegun (s : State) (x : Nat) : State :=
  let t := (draw (ctxEnter s x 3)).2
  setSec (fset (fset t (CTX_STAT.PROGRESS x) 0) (CTX_STAT.ESTIMATE x) (draw (ctxEnter s x 3)).1.toNat)
    fun c => { c with unpick := tset {} c.unpick x { stamp := t.now + 1 } }

theorem ctxEnter_keeps (s : State) (x st : Nat) : signalsOnly s (ctxEnter s x st) := (ctxEnter_work s x st).2

/-- From `s` to `t` the named registers, keys and unpicks, and the count of free values changed, signals apart. -/
def ReleaseWork (own : Nat → Bool) (s t : State) : Prop :=
  regsQuiet own s t ∧ signalsOnly { s with sec := t.sec, free := t.free } t

theorem ReleaseWork.trans {own : Nat → Bool} {s t u : State} (h : ReleaseWork own s t) (k : ReleaseWork own t u) :
    ReleaseWork own s u := by
  obtain ⟨hregs, hst⟩ := h
  obtain ⟨kregs, ktu⟩ := k
  refine ⟨fun o ho hq => (kregs o ho hq).trans (hregs o ho hq), ?_⟩
  unfold signalsOnly at *
  rw [ktu, hst]

theorem ReleaseWork.of_ctxWork {own : Nat → Bool} {s t : State} (h : CtxWork own s t) : ReleaseWork own s t := by
  obtain ⟨hregs, hst⟩ := h
  refine ⟨hregs, ?_⟩
  unfold signalsOnly at *
  rw [hst]

theorem ReleaseWork.setSec (own : Nat → Bool) (s : State) (f : SecSt → SecSt) : ReleaseWork own s (setSec s f) := ⟨fun _ _ _ => rfl, rfl⟩

theorem ReleaseWork.draw (own : Nat → Bool) (s : State) : ReleaseWork own s (draw s).2 := ⟨fun _ _ _ => rfl, rfl⟩

theorem unpickBegun_work (s : State) (x : Nat) : ReleaseWork (ctxStatReg x) s (unpickBegun s x) := by
  unfold unpickBegun
  dsimp only
  have henter := ReleaseWork.of_ctxWork (ctxEnter_work s x 3)
  generalize ctxEnter s x 3 = a at *
  have hdraw := henter.trans (ReleaseWork.draw _ a)
  generalize (Machine.draw a).2 = b at *
  have hprog := hdraw.trans (ReleaseWork.of_ctxWork (CtxWork.fset b (f := CTX_STAT.PROGRESS x) (ctxStatReg_self x) 0))
  generalize Machine.fset b (CTX_STAT.PROGRESS x) 0 = c at *
  have hest := hprog.trans (ReleaseWork.of_ctxWork
    (CtxWork.fset c (f := CTX_STAT.ESTIMATE x) (ctxStatReg_self x) (Machine.draw a).1.toNat))
  generalize Machine.fset c (CTX_STAT.ESTIMATE x) (Machine.draw a).1.toNat = d at *
  exact hest.trans (ReleaseWork.setSec _ d _)

theorem now_of_release {own : Nat → Bool} {s t : State} (h : ReleaseWork own s t) : t.now = s.now := by
  have hst := h.2
  unfold signalsOnly at hst
  rw [hst]
  rfl

theorem unpickBegun_state (s : State) (x : Fin 1024) : ctxState (unpickBegun s x) x = 3 := by
  have hprog : ∀ (t : State) (v : Nat), ctxState (fset t (CTX_STAT.PROGRESS x) v) x = ctxState t x := fun t v =>
    fget_fset_ne t (CTX_STAT.PROGRESS x) (CTX_STAT.STATE x) v (Or.inr (Or.inl (show 0 + 2 ≤ 24 by decide)))
  have hest : ∀ (t : State) (v : Nat), ctxState (fset t (CTX_STAT.ESTIMATE x) v) x = ctxState t x := fun t v =>
    fget_fset_ne t (CTX_STAT.ESTIMATE x) (CTX_STAT.STATE x) v (Or.inr (Or.inl (show 0 + 2 ≤ 40 by decide)))
  have hsec : ∀ (t : State) (f : SecSt → SecSt), ctxState (setSec t f) x = ctxState t x := fun t f => rfl
  have hdraw : ∀ t : State, ctxState (draw t).2 x = ctxState t x := fun t => rfl
  unfold unpickBegun
  dsimp only
  rw [hsec, hest, hprog, hdraw, ctxState_ctxEnter (by decide)]

theorem unpickBegun_sec (s : State) (x : Nat) :
    (unpickBegun s x).sec = { s.sec with unpick := tset {} s.sec.unpick x { stamp := s.now + 1 } } := by
  have henter := ReleaseWork.of_ctxWork (ctxEnter_work s x 3)
  have hsec : (ctxEnter s x 3).sec = s.sec := by
    have hst := ctxEnter_keeps s x 3
    unfold signalsOnly at hst
    rw [hst]
  have hnow := now_of_release henter
  unfold unpickBegun
  dsimp only
  generalize ctxEnter s x 3 = a at *
  rw [← hnow, ← hsec]
  rfl

theorem keysErase_tm (s : State) {x : Nat} (hx : x < 1024) : (keysErase s x).tm = s.tm := by rw [(keysErase_spec s hx).1.1]

/-- RELEASE on the regions and the ports of the context. -/
def releaseOf (s : State) (x : Nat) (regions ports : List Nat) : State :=
  metersErase (keysErase (fset (bcUnpick (picUnpick (forEach regions (forEach ports (unpickBegun s x) discardQuar) releaseRegion) x) x)
    (MEM_WC.EN x) 0) x) x

theorem ctxRelease_of (s : State) (x : Nat) :
    ctxRelease s x = releaseOf s x ((List.range 64).filter fun r => regionOwner s r == x)
      ((List.range 1024).filter fun L => isPort s L && ownsPort s x L) := by
  unfold ctxRelease releaseOf unpickBegun
  dsimp only
  generalize (List.range 64).filter _ = regions
  generalize (List.range 1024).filter _ = ports
  rfl

theorem picUnpick_none {s : State} {x : Nat} (h : s.pic.groups.any (fun e => gValid e.2 && gCtx e.2 == x) = false) :
    picUnpick s x = s := by
  rw [picUnpick, filter_eq_nil_of_any h]
  rfl

theorem bcUnpick_none {s : State} {x : Nat} (h : s.flt.bcs.any (fun e => bcCtx e.2 == x && bcValid e.2) = false) : bcUnpick s x = s := by
  rw [bcUnpick, filter_eq_nil_of_any h]
  rfl

theorem metersErase_none {s : State} {x : Nat}
    (h : s.tm.meters.any (fun e => wbit e.2.cfg1 TM_MTR_CFG1.OWNED && wget e.2.cfg1 TM_MTR_CFG1.OWNER == x) = false) :
    metersErase s x = s := by
  unfold metersErase
  dsimp only
  rw [filter_eq_nil_of_any h]
  rfl

theorem ReleaseWork.fields {own : Nat → Bool} {s t : State} (h : ReleaseWork own s t) :
    t.pic = s.pic ∧ t.flt = s.flt ∧ t.tm = s.tm ∧ t.test = s.test := by
  have hst := h.2
  unfold signalsOnly at hst
  rw [hst]
  exact ⟨rfl, rfl, rfl, rfl⟩

theorem OwnsNothing.regions {s : State} {x : Nat} (h : OwnsNothing s x) :
    ((List.range 64).filter fun r => regionOwner s r == x) = [] := by
  generalize hl : List.range 64 = l
  exact List.filter_eq_nil_iff.2 fun r hr heq => h.region r (List.mem_range.1 (hl ▸ hr)) (beq_iff_eq.1 heq)

theorem OwnsNothing.ports {s : State} {x : Nat} (h : OwnsNothing s x) :
    ((List.range 1024).filter fun L => isPort s L && ownsPort s x L) = [] := by
  have hin : ∀ L ∈ List.range 1024, ownsPort s x L = false := fun L hL => h.port L (List.mem_range.1 hL)
  generalize List.range 1024 = l at *
  exact List.filter_eq_nil_iff.2 fun L hL heq => by
    rw [hin L hL, Bool.and_false] at heq
    cases heq

theorem releaseOf_nil (s : State) (x : Nat) :
    releaseOf s x [] [] = metersErase (keysErase (fset (bcUnpick (picUnpick (unpickBegun s x) x) x) (MEM_WC.EN x) 0) x) x := by
  have hnone : ∀ (t : State) (f : State → Nat → State), forEach [] t f = t := fun _ _ => rfl
  unfold releaseOf
  rw [hnone, hnone]

theorem metersErase_keysErase {s : State} {x : Nat} (hx : x < 1024)
    (h : s.tm.meters.any (fun e => wbit e.2.cfg1 TM_MTR_CFG1.OWNED && wget e.2.cfg1 TM_MTR_CFG1.OWNER == x) = false) :
    metersErase (keysErase s x) x = keysErase s x := by
  have htm := keysErase_tm s hx
  generalize keysErase s x = v at *
  exact metersErase_none (by rw [htm]; exact h)

theorem releaseOf_none {s : State} {x : Fin 1024} (h : OwnsNothing s x) :
    releaseOf s x [] [] = keysErase (fset (unpickBegun s x) (MEM_WC.EN x) 0) x := by
  obtain ⟨hpic, hflt, htm, -⟩ := (unpickBegun_work s x).fields
  rw [releaseOf_nil, picUnpick_none (by rw [hpic]; exact h.group), bcUnpick_none (by rw [hflt]; exact h.session)]
  exact metersErase_keysErase x.isLt (by rw [fset_tm, htm]; exact h.meters)

/-- RELEASE of a context that owns nothing erases its keys and its weight cache. -/
theorem ctxRelease_eq {s : State} {x : Fin 1024} (h : OwnsNothing s x) :
    ctxRelease s x = keysErase (fset (unpickBegun s x) (MEM_WC.EN x) 0) x := by
  have hof := ctxRelease_of s x
  have hregions := h.regions
  have hports := h.ports
  generalize (List.range 64).filter _ = regions at *
  generalize (List.range 1024).filter _ = ports at *
  subst hregions hports
  exact hof.trans (releaseOf_none h)

/-! RELEASE as a command. -/

theorem OwnsNothing.cmdTaken {s : State} {x : Nat} (h : OwnsNothing s x) (off : Nat) : OwnsNothing (cmdTaken s off) x where
  region r hr := by
    rw [regionOwner, fbit_cmdTaken, fget_cmdTaken]
    exact h.region r hr
  port L hL := by
    rw [ownsPort, fbit_cmdTaken, fget_cmdTaken]
    exact h.port L hL
  group := h.group
  session := h.session
  meters := h.meters

/-- Registers that RELEASE changes. -/
def releaseReg (x o : Nat) : Bool := o == CTX_STAT x || o == SEC_KEYS || o == MEM_WC x || (CTX_KEYMAP x 0 ≤ o && o < CTX_KEYMAP x 4)

theorem releaseReg_of_stat {x o : Nat} (h : ctxStatReg x o = true) : releaseReg x o = true := by
  unfold ctxStatReg at h
  rw [releaseReg, h, Bool.true_or, Bool.true_or, Bool.true_or]

theorem releaseReg_of_erase {x o : Nat} (h : eraseReg x o = true) : releaseReg x o = true := by
  unfold eraseReg keymapReg at h
  rw [releaseReg, Bool.or_assoc, Bool.or_assoc]
  cases hkeys : o == SEC_KEYS
  · rw [hkeys, Bool.false_or] at h
    rw [h, Bool.or_true, Bool.or_true, Bool.or_true]
  · rw [Bool.true_or, Bool.or_true]

theorem releaseReg_wc (x : Nat) : releaseReg x (MEM_WC x) = true := by
  rw [releaseReg, beq_self_eq_true (MEM_WC x), Bool.or_true, Bool.true_or]

/-- The context's unpick running, and nothing in its keys and its weight cache. -/
def released (s : State) (x : Nat) : State := ctxDone (keysErase (fset (unpickBegun s x) (MEM_WC.EN x) 0) x) x 0

theorem ReleaseWork.mono {own own' : Nat → Bool} {s t : State} (h : ReleaseWork own s t) (hown : ∀ o, own o = true → own' o = true) :
    ReleaseWork own' s t := by
  refine ⟨fun o ho hq => h.1 o ?_ hq, h.2⟩
  cases hold : own o
  · rfl
  · rw [hown o hold] at ho
    cases ho

theorem keysErase_work (s : State) {x : Nat} (hx : x < 1024) : ReleaseWork (eraseReg x) s (keysErase s x) := by
  obtain ⟨⟨hst, hregs⟩, -⟩ := keysErase_spec s hx
  refine ⟨fun o ho _ => hregs o ho, ?_⟩
  unfold regsOnly at hst
  unfold signalsOnly
  rw [hst]

theorem released_work (s : State) (x : Fin 1024) : ReleaseWork (releaseReg x) s (released s x) := by
  have hbegun := (unpickBegun_work s x).mono fun o => releaseReg_of_stat
  unfold released
  generalize unpickBegun s x = a at *
  have hwc := hbegun.trans (ReleaseWork.of_ctxWork (CtxWork.fset a (f := MEM_WC.EN x) (releaseReg_wc x) 0))
  generalize fset a (MEM_WC.EN x) 0 = b at *
  have hkeys := hwc.trans ((keysErase_work b x.isLt).mono fun o => releaseReg_of_erase)
  generalize keysErase b x = c at *
  exact hkeys.trans ((ReleaseWork.of_ctxWork (ctxDone_work c x 0)).mono fun o => releaseReg_of_stat)

theorem ctxDone_sec (s : State) (x code : Nat) : (ctxDone s x code).sec = s.sec := by
  have hst := (ctxDone_work s x code).2
  unfold signalsOnly at hst
  rw [hst]

/-- The erasure of the keys, and the command's end, beside the context's state. -/
theorem keysErase_done (b : State) (x : Fin 1024) :
    ctxState (ctxDone (keysErase b x) x 0) x = ctxState b x ∧ (ctxDone (keysErase b x) x 0).sec = keysLeft b x ∧
      fget (ctxDone (keysErase b x) x 0) SEC_KEYS.COUNT = (keysLeft b x).keys.length % 32768 ∧
      (∀ w, w < 4 → getReg (ctxDone (keysErase b x) x 0) (CTX_KEYMAP x w) = 0) ∧
      fget (ctxDone (keysErase b x) x 0) (MEM_WC.EN x) = fget b (MEM_WC.EN x) := by
  obtain ⟨⟨hst, hregs⟩, hmap, hcount⟩ := keysErase_spec b x.isLt
  have hksec : (keysErase b x).sec = keysLeft b x := by rw [hst]
  have hkreg : ∀ {o}, o ≠ SEC_KEYS → (o < CTX_KEYMAP x 0 ∨ CTX_KEYMAP x 4 ≤ o) → getReg (keysErase b x) o = getReg b o := fun hne hout =>
    hregs _ (by rw [eraseReg, keymapReg_of_lt hout, Bool.or_false]; exact beq_eq_false_iff_ne.2 hne)
  rw [hksec] at hcount
  clear hst hregs
  generalize keysErase b x = c at *
  have hdone := ctxDone_work c x 0
  have hkeep : ∀ {f : Fld}, f.off ≠ CTX_STAT x → signalReg f.off = false → fget (ctxDone c x 0) f = fget c f := fun hne hq =>
    hdone.fget_eq (ctxStatReg_of_ne hne) hq
  refine ⟨?_, (ctxDone_sec c x 0).trans hksec, ?_, fun w hw => ?_, ?_⟩
  · rw [ctxState_ctxDone]
    refine fget_of_getReg_eq (f := CTX_STAT.STATE x) (hkreg ?_ (Or.inl ?_))
    · show CTX_STAT x ≠ SEC_KEYS
      unfold CTX_STAT ctxPage SEC_KEYS
      omega
    · show CTX_STAT x < CTX_KEYMAP x 0
      unfold CTX_STAT CTX_KEYMAP
      omega
  · rw [hkeep (f := SEC_KEYS.COUNT) ?_ (show signalReg SEC_KEYS = false by decide), hcount]
    show SEC_KEYS ≠ CTX_STAT x
    unfold CTX_STAT ctxPage SEC_KEYS
    omega
  · have hentry : CTX_KEYMAP x w = ctxPage x + (0x20 + 8 * w) := by unfold CTX_KEYMAP; omega
    rw [hdone.1 _ (ctxStatReg_of_ne (by unfold CTX_KEYMAP CTX_STAT; omega))
      (hentry ▸ (ctxReg_quiet (c := 0x20 + 8 * w) x.isLt (by omega)).1), hmap w hw]
  · rw [hkeep (f := MEM_WC.EN x) ?_ ?_]
    · refine fget_of_getReg_eq (f := MEM_WC.EN x) (hkreg ?_ (Or.inl ?_))
      · show MEM_WC x ≠ SEC_KEYS
        unfold MEM_WC SEC_KEYS
        omega
      · show MEM_WC x < CTX_KEYMAP x 0
        unfold MEM_WC CTX_KEYMAP ctxPage
        omega
    · show MEM_WC x ≠ CTX_STAT x
      unfold MEM_WC CTX_STAT ctxPage
      omega
    · show signalReg (MEM_WC x) = false
      unfold signalReg inSrc MEM_WC EVR_LOST IC_MERGED
      simp only [Bool.or_eq_false_iff, Bool.and_eq_false_iff, beq_eq_false_iff_ne, decide_eq_false_iff_not]
      omega

/-- The weight cache off. -/
theorem wcOff_spec (s : State) (x : Fin 1024) :
    ctxState (fset s (MEM_WC.EN x) 0) x = ctxState s x ∧ fget (fset s (MEM_WC.EN x) 0) (MEM_WC.EN x) = 0 ∧
      (fset s (MEM_WC.EN x) 0).sec = s.sec :=
  ⟨fget_fset_ne s (MEM_WC.EN x) (CTX_STAT.STATE x) 0 (Or.inl (show CTX_STAT x ≠ MEM_WC x by unfold CTX_STAT ctxPage MEM_WC; omega)),
    (fget_fset_same s (MEM_WC.EN x) 0 (show 63 + 1 ≤ 64 by decide)).trans (Nat.zero_mod _), rfl⟩

/-- What RELEASE leaves of keys, unpick and weight cache. -/
theorem released_spec (s : State) (x : Fin 1024) :
    ctxState (released s x) x = 3 ∧ fget (released s x) (CTX_STAT.CODE x) = 0 ∧
      (released s x).sec.keys = s.sec.keys.filter (fun e => e.1 / 256 != x.val) ∧
      fget (released s x) SEC_KEYS.COUNT = (released s x).sec.keys.length % 32768 ∧
      (∀ w, w < 4 → getReg (released s x) (CTX_KEYMAP x w) = 0) ∧ fget (released s x) (MEM_WC.EN x) = 0 ∧
      (tget {} (released s x).sec.unpick x).stamp = s.now + 1 := by
  obtain ⟨hstat, hen, hwc⟩ := wcOff_spec (unpickBegun s x) x
  obtain ⟨hstate, hsec, hcount, hmap, hcache⟩ := keysErase_done (fset (unpickBegun s x) (MEM_WC.EN x) 0) x
  have hleft : (released s x).sec =
      { s.sec with keys := s.sec.keys.filter fun e => e.1 / 256 != x.val, unpick := tset {} s.sec.unpick x { stamp := s.now + 1 } } := by
    unfold released
    rw [hsec, keysLeft, hwc, unpickBegun_sec]
  refine ⟨(hstate.trans hstat).trans (unpickBegun_state s x), code_ctxDone (by decide), ?_, ?_, hmap, hcache.trans hen, ?_⟩
  · rw [hleft]
  · have hnum : fget (released s x) SEC_KEYS.COUNT = (released s x).sec.keys.length % 32768 := by
      unfold released
      rw [hcount, hsec]
    exact hnum
  · rw [hleft, tget_tset_same]

theorem ctxCommand_release {s : State} {x : Fin 1024} (hcode : ctxCode s x 4 0 = 0) (h : OwnsNothing s x) :
    ctxCommand s x 4 0 = released s x := by
  have hdone : ctxCommand s x 4 0 = ctxDone (ctxRelease s x) x 0 := by
    rw [ctxCommand, if_neg (by decide)]
    dsimp only
    rw [hcode, if_neg (by decide)]
    rfl
  rw [hdone, ctxRelease_eq h, released]

theorem ownedState_suits {op st : Nat} (hop : 4 ≤ op) (h : st = 1 ∨ st = 2) : ctxSuits op st = true := by
  have hfall : ctxSuits op st = (st == 1 || st == 2) := by
    unfold ctxSuits
    split <;> simp_all
  rw [hfall, Bool.or_eq_true, beq_iff_eq, beq_iff_eq]
  exact h

/-- RELEASE of a context that owns nothing. -/
theorem ctxRelease_answers (p : Fin 13) (x : Fin 1024) (s : State) (hcmd : CtxCmd p x 4 s) (hst : ctxState s x = 1 ∨ ctxState s x = 2)
    (hlane : ownsLane s x = false) (hnone : OwnsNothing s x) :
    answers (.ctxRelease p x) s fun t =>
      ctxState t x = 3 ∧ fget t (CTX_STAT.CODE x) = 0 ∧ t.sec.keys = s.sec.keys.filter (fun e => e.1 / 256 != x.val) ∧
      fget t SEC_KEYS.COUNT = t.sec.keys.length % 32768 ∧ (∀ w, w < 4 → getReg t (CTX_KEYMAP x w) = 0) ∧
      fget t (MEM_WC.EN x) = 0 ∧ (tget {} t.sec.unpick x).stamp = s.now + 1 ∧ ReleaseWork (releaseReg x) s t := by
  have hcode : ctxCode (cmdTaken s (CTX_CMD x)) x 4 0 = 0 := by
    rw [ctxCode_cmdTaken, ctxCode_of_woven hcmd.2, ownedState_suits (by decide) hst, hlane]
    rfl
  have hgo := ctxCommand_release hcode (hnone.cmdTaken _)
  have htaken := ReleaseWork.of_ctxWork (cmdTaken_work (releaseReg x) s (CTX_CMD x))
  obtain ⟨hstate, hdone, hkeys, hcount, hmap, hwc, hstamp⟩ := released_spec (cmdTaken s (CTX_CMD x)) x
  have hall := htaken.trans (released_work (cmdTaken s (CTX_CMD x)) x)
  have htest : releaseReg x CTL_TEST_STAT = false := by
    unfold releaseReg CTX_STAT MEM_WC CTX_KEYMAP ctxPage CTL_TEST_STAT SEC_KEYS
    simp only [Bool.or_eq_false_iff, Bool.and_eq_false_iff, beq_eq_false_iff_ne, decide_eq_false_iff_not]
    omega
  exact ctxCommand_answers (op := 4) (r := 0) (by decide) (by decide) rfl hcmd.1 hgo (hall.1 _ htest (by decide)) hall.fields.2.2.2
    ⟨hstate, hdone, hkeys, hcount, hmap, hwc, hstamp, hall⟩

end Sys2Proof.Machine
end

section
/-! SUPPORT. RELEASE_REGION and the end of a region's unpick (R399). -/

namespace Sys2Proof.Machine

open Claim

/-! A region without work is cleared. -/

/-- A bobbin without needles, queues and inlets. -/
def bobQuiet (b : Bobbin) : Bobbin := { b with needles := [], queues := [], inlets := [] }

/-- A bobbin with no work in hand. -/
def BobIdle (b : Bobbin) : Prop := b.mma = [] ∧ b.vop = [] ∧ b.copy = [] ∧ b.send = []

theorem bobEmptied_of_idle {b : Bobbin} (h : BobIdle b) : bobEmptied b = bobQuiet b := by
  obtain ⟨hmma, hvop, hcopy, hsend⟩ := h
  unfold bobEmptied bobQuiet
  rw [hmma, hvop, hcopy, hsend]

theorem clearBobbin_of_idle {s : State} {n : Nat} (h : BobIdle (bob s n)) (owner : Nat) :
    clearBobbin s owner n = setBobbin s n bobEmptied := by
  obtain ⟨hmma, hvop, hcopy, hsend⟩ := h
  have hsends : discardSends s n = s := by
    rw [discardSends, hsend]
    rfl
  unfold clearBobbin
  dsimp only
  rw [hmma, hvop, hcopy]
  exact congrArg (fun t => setBobbin t n bobEmptied) hsends

/-- From `s` to `t` the listed bobbins lost needles, queues and inlets, and nothing else changed. -/
def Quieted (l : List Nat) (s t : State) : Prop :=
  bobsOnly s t ∧ (∀ n ∈ l, bob t n = bobQuiet (bob s n)) ∧ ∀ n, n ∉ l → bob t n = bob s n

theorem bobQuiet_idle {b : Bobbin} (h : BobIdle b) : BobIdle (bobQuiet b) := h

theorem clearBobbins_quieted {owner : Nat} {l : List Nat} {s : State} (h : ∀ n ∈ l, BobIdle (bob s n)) :
    Quieted l s (forEach l s fun s n => clearBobbin s owner n) := by
  induction l generalizing s with
  | nil => exact ⟨rfl, fun n hn => absurd hn (List.not_mem_nil), fun _ _ => rfl⟩
  | cons a l ih =>
    have hidle := h a List.mem_cons_self
    have hclear : clearBobbin s owner a = setBobbin s a bobEmptied := clearBobbin_of_idle hidle owner
    have hsame : bob (clearBobbin s owner a) a = bobQuiet (bob s a) := by
      rw [hclear, bob_setBobbin_same, bobEmptied_of_idle hidle]
    have hother : ∀ n, n ≠ a → bob (clearBobbin s owner a) n = bob s n := fun n hn => by rw [hclear, bob_setBobbin_ne s hn]
    have hnext : ∀ n ∈ l, BobIdle (bob (clearBobbin s owner a) n) := fun n hn => by
      rcases eq_or_ne n a with rfl | hne
      · rw [hsame]
        exact bobQuiet_idle hidle
      · rw [hother n hne]
        exact h n (List.mem_cons_of_mem a hn)
    obtain ⟨honly, hin, hout⟩ := ih hnext
    have hfirst : bobsOnly s (clearBobbin s owner a) := by rw [hclear]; rfl
    refine ⟨hfirst.trans honly, fun n hn => ?_, fun n hn => ?_⟩
    · change bob (forEach l (clearBobbin s owner a) fun s n => clearBobbin s owner n) n = _
      by_cases hl : n ∈ l
      · rw [hin n hl]
        rcases eq_or_ne n a with rfl | hne
        · rw [hsame]
          rfl
        · rw [hother n hne]
      · obtain rfl := (List.mem_cons.1 hn).resolve_right hl
        rw [hout n hl, hsame]
    · change bob (forEach l (clearBobbin s owner a) fun s n => clearBobbin s owner n) n = _
      rw [List.mem_cons, not_or] at hn
      rw [hout n hn.2, hother n hn.1]

theorem Quieted.kept {l : List Nat} {s t : State} (h : Quieted l s t) (n : Nat) :
    (bob t n).inFlight = (bob s n).inFlight ∧ (bob t n).region = (bob s n).region := by
  obtain ⟨-, hin, hout⟩ := h
  by_cases hn : n ∈ l
  · rw [hin n hn]
    exact ⟨rfl, rfl⟩
  · rw [hout n hn]
    exact ⟨rfl, rfl⟩

/-- No flit of the region on its way, none is discarded. -/
theorem discardFlits_none {s : State} {r : Nat} (h : ∀ n, ∀ f ∈ (bob s n).inFlight, flitOf r n s f = false) : discardFlits s r = s := by
  unfold discardFlits
  refine forEach_keeps (P := fun t => t = s) (fun t n _ ht => ?_) rfl
  subst ht
  dsimp only
  have hnil : (bob t n).inFlight.filter (flitOf r n t) = [] := List.filter_eq_nil_iff.2 fun f hf => by rw [h n f hf]; decide
  rw [hnil]
  rfl

/-- Nothing of region r is in hand or on its way. -/
def RegionIdle (s : State) (r : Nat) : Prop :=
  (∀ n ∈ regionBobs s r, BobIdle (bob s n)) ∧ ∀ e ∈ s.bob.bobs, ∀ f ∈ e.2.inFlight, flitOf r e.1 s f = false

theorem clearRegion_quieted {s : State} {r : Nat} (h : RegionIdle s r) : Quieted (regionBobs s r) s (clearRegion s r) := by
  obtain ⟨hidle, hflits⟩ := h
  have hquiet := clearBobbins_quieted (owner := regionOwner s r) hidle
  unfold clearRegion
  dsimp only
  rw [discardFlits_none]
  · exact hquiet
  · intro n f hf
    obtain ⟨hflight, hregion⟩ := hquiet.kept n
    rw [hflight] at hf
    rw [flitOf, hregion]
    refine hflits (n, bob s n) (mem_of_tget_ne fun heq => ?_) f hf
    have hnone : (bob s n).inFlight = [] := congrArg Bobbin.inFlight heq
    rw [hnone] at hf
    cases hf

/-! The region's generation. -/

/-- A region's generation one on, now or later. -/
theorem genAdvance_region (s : State) {r : Nat} (hr : r < 64) :
    regsBut (fun o => o == PRK_RGEN r) s (genAdvance s r) ∧
      genAdvance s r = { s with regs := (genAdvance s r).regs, weave := (genAdvance s r).weave } ∧
      regionOwner (genAdvance s r) r = regionOwner s r ∧
      (genWaits s r = false → genReady s r = true → regionGen (genAdvance s r) r = (regionGen s r + 1) % 256) := by
  unfold genAdvance
  split
  · have hstep : genStep s r =
        fset (setWeave s fun w => { w with genAt := tset 0 w.genAt r (s.now + 1) }) (PRK_RGEN.GEN r) (regionGen s r + 1) := by
      unfold genStep
      dsimp only
      rw [if_pos hr]
      rfl
    rw [hstep]
    generalize hu : setWeave s _ = u
    have hregs : u.regs = s.regs := by rw [← hu]; rfl
    have hother : ∀ {f : Fld}, f.off = PRK_RGEN r → 8 ≤ f.lo → fget (fset u (PRK_RGEN.GEN r) (regionGen s r + 1)) f = fget s f :=
      fun hoff hlo => (fget_fset_ne u (PRK_RGEN.GEN r) _ _ (Or.inr (Or.inr hlo))).trans (fget_of_getReg_eq (getReg_congr hregs _))
    refine ⟨?_, ?_, ?_, fun _ _ => fget_fset_same u (PRK_RGEN.GEN r) _ (show 0 + 8 ≤ 64 by decide)⟩
    · exact (regsBut_of_regs_eq hregs).trans
        (regsBut_fset (own := fun o => o == PRK_RGEN r) u (PRK_RGEN.GEN r) (beq_self_eq_true (PRK_RGEN r)) _)
    · rw [← hu]
      rfl
    · rw [regionOwner, regionOwner, fbit, fbit, hother (f := PRK_RGEN.OWNED r) rfl (show 8 ≤ 26 by decide),
        hother (f := PRK_RGEN.CONTEXT r) rfl (show 8 ≤ 16 by decide)]
  · next hnow =>
    refine ⟨fun _ _ => rfl, rfl, rfl, fun hwait hready => absurd ?_ hnow⟩
    have hzero : tget 0 s.weave.genWait r = 0 := by
      unfold genWaits at hwait
      simpa using hwait
    rw [hready, hzero]
    rfl

/-! RELEASE_REGION. -/

/-- The unpick of a region dated. -/
def regionDated (s : State) (r when : Nat) : State := setSec s fun c => { c with regionUnpick := tset 0 c.regionUnpick r (when + 1) }

/-- A region whose unpick begins. -/
def regionUnpicking (s : State) (r : Nat) : State :=
  fset (regionDated (genAdvance (clearRegion s r) r) r (clearRegion s r).now) (BOB_RGN_STAT.STATE r) rUNPICKING

theorem rgnStat_ne_rgen {r : Nat} : BOB_RGN_STAT r ≠ PRK_RGEN r := by
  unfold BOB_RGN_STAT PRK_RGEN
  omega

/-- What an unpick that begins changes beside bobbins. -/
def UnpickFrame (own : Nat → Bool) (s t : State) : Prop :=
  t = { s with regs := t.regs, sec := t.sec, weave := t.weave, bob := t.bob } ∧ regsBut own s t

/-- Registers of a region's state and generation. -/
def rgnReg (r o : Nat) : Bool := o == BOB_RGN_STAT r || o == PRK_RGEN r

theorem rgnReg_stat (r : Nat) : rgnReg r (BOB_RGN_STAT r) = true := by rw [rgnReg, beq_self_eq_true (BOB_RGN_STAT r), Bool.true_or]

theorem rgnReg_of_rgen {r o : Nat} (h : (o == PRK_RGEN r) = true) : rgnReg r o = true := by rw [rgnReg, h, Bool.or_true]

theorem regionDated_spec (s : State) (r when : Nat) :
    (regionDated s r when).regs = s.regs ∧ (regionDated s r when).bob = s.bob ∧
      tget 0 (regionDated s r when).sec.regionUnpick r = when + 1 :=
  ⟨rfl, rfl, tget_tset_same 0 s.sec.regionUnpick r (when + 1)⟩

theorem regionUnpicking_spec {s : State} {r : Nat} (hr : r < 64) (h : RegionIdle s r) :
    regionState (regionUnpicking s r) r = rUNPICKING ∧ regionOwner (regionUnpicking s r) r = regionOwner s r ∧
      tget 0 (regionUnpicking s r).sec.regionUnpick r = s.now + 1 ∧
      (genWaits s r = false → genReady s r = true → regionGen (regionUnpicking s r) r = (regionGen s r + 1) % 256) ∧
      UnpickFrame (rgnReg r) s (regionUnpicking s r) ∧
      (∀ n ∈ regionBobs s r, bob (regionUnpicking s r) n = bobQuiet (bob s n)) ∧
      ∀ n, n ∉ regionBobs s r → bob (regionUnpicking s r) n = bob s n := by
  obtain ⟨honly, hin, hout⟩ := clearRegion_quieted h
  unfold regionUnpicking
  generalize clearRegion s r = a at *
  obtain ⟨hgregs, hgst, howner, hgen⟩ := genAdvance_region a hr
  have hweave : a.weave = s.weave := by rw [honly]
  have hmono : a.mono = s.mono := by rw [honly]
  have haregs : a.regs = s.regs := by rw [honly]
  have hwaits : genWaits a r = genWaits s r := by rw [genWaits, genWaits, hweave]
  have hready : genReady a r = genReady s r := by
    unfold genReady State.elapsed State.now
    rw [hweave, hmono]
  have hbob : (genAdvance a r).bob = a.bob := by rw [hgst]
  have hnow : a.now = s.now := by
    unfold State.now
    rw [hmono]
  rw [hnow]
  generalize genAdvance a r = b at *
  obtain ⟨hdregs, hdbob, hdate⟩ := regionDated_spec b r s.now
  have hdst : regionDated b r s.now = { b with sec := (regionDated b r s.now).sec } := rfl
  generalize regionDated b r s.now = c at *
  have hkept : ∀ {f : Fld}, f.off = PRK_RGEN r → fget (fset c (BOB_RGN_STAT.STATE r) rUNPICKING) f = fget b f := fun hoff =>
    (fget_fset_ne c (BOB_RGN_STAT.STATE r) _ _ (Or.inl (hoff ▸ rgnStat_ne_rgen.symm))).trans (fget_of_getReg_eq (getReg_congr hdregs _))
  have hownerKept : regionOwner (fset c (BOB_RGN_STAT.STATE r) rUNPICKING) r = regionOwner b r := by
    rw [regionOwner, regionOwner, fbit, fbit, hkept (f := PRK_RGEN.OWNED r) rfl, hkept (f := PRK_RGEN.CONTEXT r) rfl]
  have hownerA : regionOwner a r = regionOwner s r := by
    rw [regionOwner, regionOwner, fbit, fbit, fget_congr haregs, fget_congr haregs]
  have hbobs : ∀ n, bob (fset c (BOB_RGN_STAT.STATE r) rUNPICKING) n = bob a n := fun n => bob_congr (hdbob.trans hbob) n
  refine ⟨?_, (hownerKept.trans howner).trans hownerA, ?_, fun hw hg => ?_, ⟨?_, ?_⟩, fun n hn => (hbobs n).trans (hin n hn),
    fun n hn => (hbobs n).trans (hout n hn)⟩
  · rw [regionState, fget_fset_same _ (BOB_RGN_STAT.STATE r) _ (show 0 + 3 ≤ 64 by decide)]
    rfl
  · exact hdate
  · rw [regionGen, hkept (f := PRK_RGEN.GEN r) rfl]
    have hstep := hgen (hwaits.trans hw) (hready.trans hg)
    rw [regionGen, regionGen, fget_congr haregs] at hstep
    exact hstep
  · rw [regsOnly_fset c (BOB_RGN_STAT.STATE r) rUNPICKING, hdst, hgst, honly]
  · refine (regsBut_of_regs_eq haregs).trans ((regsBut.mono hgregs fun o => rgnReg_of_rgen).trans ((regsBut_of_regs_eq hdregs).trans ?_))
    exact regsBut_fset c (BOB_RGN_STAT.STATE r) (rgnReg_stat r) _

theorem releaseRegion_eq {s : State} {r : Nat} (hr : r < 64) (hnone : tget 0 s.sec.regionUnpick r = 0)
    (hrun : regionState s r ≠ rRUNNING) (hup : dieUp s (4 + r / 16) = true) (h : RegionIdle s r) :
    releaseRegion s r = regionUnpicking s r := by
  obtain ⟨honly, -, -⟩ := clearRegion_quieted h
  have hregs := (genAdvance_region (clearRegion s r) hr).1
  have hdie : dieUp (regionDated (genAdvance (clearRegion s r) r) r (clearRegion s r).now) (4 + r / 16) = true := by
    rw [← hup]
    refine dieUp_of_getReg_eq (((getReg_congr (regionDated_spec _ r _).1 _).trans (hregs _ ?_)).trans (getReg_congr (by rw [honly]) _))
    rw [beq_eq_false_iff_ne]
    unfold FLT_DIE PRK_RGEN
    omega
  have hdated : ∀ (t : State) (n : Nat), setSec t (fun c => { c with regionUnpick := tset 0 c.regionUnpick r (n + 1) }) = regionDated t r n :=
    fun _ _ => rfl
  have hcond : (regionState s r == rRUNNING) = false := beq_eq_false_iff_ne.2 hrun
  unfold releaseRegion
  rw [if_neg (by rw [hnone]; decide)]
  dsimp only
  rw [hcond, if_neg Bool.false_ne_true, hdated, if_pos hdie]
  rfl

theorem RegionIdle.of_bob {s t : State} {r : Nat} (h : RegionIdle s r) (hbob : t.bob = s.bob) : RegionIdle t r := by
  obtain ⟨hidle, hflits⟩ := h
  have hone : ∀ n, bob t n = bob s n := bob_congr hbob
  refine ⟨fun n hn => ?_, fun e he f hf => ?_⟩
  · rw [hone]
    rw [regionBobs, hbob] at hn
    exact hidle n hn
  · rw [hbob] at he
    rw [flitOf, hone]
    exact hflits e he f hf

theorem ctxCommand_releaseRegion {s : State} {x r : Nat} (hcode : ctxCode s x 5 r = 0) :
    ctxCommand s x 5 r = ctxDone (releaseRegion s r) x 0 := by
  rw [ctxCommand, if_neg (by decide)]
  dsimp only
  rw [hcode, if_neg (by decide)]
  rfl

/-- No register of a region is a context's, a signal's or a self-test's. -/
theorem rgn_quiet {r : Nat} (hr : r < 64) :
    signalReg (BOB_RGN_STAT r) = false ∧ signalReg (PRK_RGEN r) = false ∧ ∀ x, BOB_RGN_STAT r ≠ CTX_STAT x ∧ PRK_RGEN r ≠ CTX_STAT x := by
  refine ⟨signalReg_rgnStat hr, ?_, fun x => ?_⟩
  · unfold signalReg inSrc EVR_LOST IC_MERGED PRK_RGEN
    simp only [Bool.or_eq_false_iff, Bool.and_eq_false_iff, decide_eq_false_iff_not, beq_eq_false_iff_ne]
    omega
  · unfold BOB_RGN_STAT PRK_RGEN CTX_STAT ctxPage
    omega

/-- What the end of a command leaves of a region. -/
theorem region_ctxDone (s : State) (x : Nat) {r : Nat} (hr : r < 64) (code : Nat) :
    regionState (ctxDone s x code) r = regionState s r ∧ regionOwner (ctxDone s x code) r = regionOwner s r ∧
      regionGen (ctxDone s x code) r = regionGen s r := by
  obtain ⟨hstat, hrgen, hne⟩ := rgn_quiet hr
  have hwork := ctxDone_work s x code
  have hgen : ∀ {f : Fld}, f.off = PRK_RGEN r → fget (ctxDone s x code) f = fget s f := fun hoff =>
    hwork.fget_eq (by rw [hoff]; exact ctxStatReg_of_ne (hne x).2) (by rw [hoff]; exact hrgen)
  refine ⟨hwork.fget_eq (f := BOB_RGN_STAT.STATE r) (ctxStatReg_of_ne (hne x).1) hstat, ?_, hgen rfl⟩
  rw [regionOwner, regionOwner, fbit, fbit, hgen (f := PRK_RGEN.OWNED r) rfl, hgen (f := PRK_RGEN.CONTEXT r) rfl]

/-- Registers that RELEASE_REGION changes. -/
def regionReleaseReg (x r o : Nat) : Bool := o == CTX_STAT x || o == BOB_RGN_STAT r || o == PRK_RGEN r

/-- RELEASE_REGION of a region of another context. -/
theorem ctxReleaseRegion_refused (p : Fin 13) (x : Fin 1024) (r : Fin 64) (s : State) (hcmd : CtxCmd p x (256 * r + 5) s)
    (hst : ctxState s x = 1 ∨ ctxState s x = 2) (howner : regionOwner s r ≠ x.val) :
    answers (.ctxReleaseRegion p x r) s fun t =>
      ctxState t x = ctxState s x ∧ fget t (CTX_STAT.CODE x) = 4 ∧ CtxWork (ctxStatReg x) s t := by
  have hcode : ctxCode s x 5 r = 4 := by
    rw [ctxCode_of_woven hcmd.2, ownedState_suits (by decide) hst, bne_iff_ne.2 howner]
    rfl
  refine ctxRefused_answers (op := 5) (r := r) (by decide) (by decide) r.isLt ?_ hcmd.1 hcode (by decide) (by decide)
  show writeNum p (CTX_CMD x) (r.val * 256 + 5) s = _
  rw [Nat.mul_comm]

/-- RELEASE_REGION of the context's own region with nothing in hand. -/
theorem ctxReleaseRegion_answers (p : Fin 13) (x : Fin 1024) (r : Fin 64) (s : State) (hcmd : CtxCmd p x (256 * r + 5) s)
    (hst : ctxState s x = 1 ∨ ctxState s x = 2) (howner : regionOwner s r = x.val) (hrun : regionState s r ≠ rRUNNING)
    (hnone : tget 0 s.sec.regionUnpick r = 0) (hup : dieUp s (4 + r / 16) = true) (hidle : RegionIdle s r) :
    answers (.ctxReleaseRegion p x r) s fun t =>
      regionState t r = rUNPICKING ∧ regionOwner t r = x.val ∧ tget 0 t.sec.regionUnpick r = s.now + 1 ∧
      fget t (CTX_STAT.CODE x) = 0 ∧ ctxState t x = ctxState s x ∧
      (genWaits s r = false → genReady s r = true → regionGen t r = (regionGen s r + 1) % 256) ∧
      regsQuiet (regionReleaseReg x r) s t ∧
      (∀ n ∈ regionBobs s r, bob t n = bobQuiet (bob s n)) ∧ (∀ n, n ∉ regionBobs s r → bob t n = bob s n) ∧
      signalsOnly { s with sec := t.sec, weave := t.weave, bob := t.bob } t := by
  have hcode : ctxCode (cmdTaken s (CTX_CMD x)) x 5 r = 0 := by
    rw [ctxCode_cmdTaken, ctxCode_of_woven hcmd.2, ownedState_suits (by decide) hst, howner, bne_self_eq_false]
    rfl
  have hexec : exec (.ctxReleaseRegion p x r) s = writeNum p (CTX_CMD x) (256 * r + 5) s := by
    show writeNum p (CTX_CMD x) (r.val * 256 + 5) s = _
    rw [Nat.mul_comm]
  have htaken : regsOnly s (cmdTaken s (CTX_CMD x)) := rfl
  have hfget : ∀ f, fget (cmdTaken s (CTX_CMD x)) f = fget s f := fget_cmdTaken s _
  have hreg : ∀ o, getReg (cmdTaken s (CTX_CMD x)) o = getReg s o := getReg_cmdTaken s _
  have hgo := ctxCommand_releaseRegion hcode
  generalize htk : cmdTaken s (CTX_CMD x) = a at *
  unfold regsOnly at htaken
  have hbob : a.bob = s.bob := by rw [htaken]
  have hsec : a.sec = s.sec := by rw [htaken]
  have hweave : a.weave = s.weave := by rw [htaken]
  have hmono : a.mono = s.mono := by rw [htaken]
  have hnow : a.now = s.now := by rw [State.now, State.now, hmono]
  have hownerA : regionOwner a r = regionOwner s r := by rw [regionOwner, regionOwner, fbit, fbit, hfget, hfget]
  have hwaits : genWaits a r = genWaits s r := by rw [genWaits, genWaits, hweave]
  have hready : genReady a r = genReady s r := by
    unfold genReady State.elapsed
    rw [hweave, hnow]
  have hidleA : RegionIdle a r := hidle.of_bob hbob
  rw [releaseRegion_eq r.isLt (by rw [hsec]; exact hnone) (by rw [regionState, hfget]; exact hrun)
    ((dieUp_of_getReg_eq (hreg _)).trans hup) hidleA] at hgo
  obtain ⟨hstate, hown, hdate, hgen, ⟨hust, huregs⟩, hin, hout⟩ := regionUnpicking_spec r.isLt hidleA
  have hbobs : regionBobs a r = regionBobs s r := by rw [regionBobs, regionBobs, hbob]
  generalize regionUnpicking a r = u at *
  obtain ⟨hdstate, hdown, hdgen⟩ := region_ctxDone u x r.isLt 0
  have hwork := ctxDone_work u x 0
  have hstat : ctxState (ctxDone u x 0) x = ctxState u x := ctxState_ctxDone 0
  have hcodeShown : fget (ctxDone u x 0) (CTX_STAT.CODE x) = 0 := code_ctxDone (by decide)
  generalize ctxDone u x 0 = t at *
  obtain ⟨htregs, htst⟩ := hwork
  unfold signalsOnly at htst
  have htbob : ∀ n, bob t n = bob u n := bob_congr (by rw [htst])
  have hall : ∀ o, regionReleaseReg x r o = false → signalReg o = false → getReg t o = getReg s o := fun o ho hq => by
    rw [regionReleaseReg, Bool.or_assoc, Bool.or_eq_false_iff] at ho
    exact (htregs o ho.1 hq).trans ((huregs o ho.2).trans (hreg o))
  have hctxU : ctxState u x = ctxState s x := by
    refine (fget_of_getReg_eq (f := CTX_STAT.STATE x) (huregs _ ?_)).trans (hfget _)
    obtain ⟨-, -, hne⟩ := rgn_quiet r.isLt
    rw [rgnReg, Bool.or_eq_false_iff]
    exact ⟨beq_eq_false_iff_ne.2 (hne x).1.symm, beq_eq_false_iff_ne.2 (hne x).2.symm⟩
  refine ctxCommand_answers (op := 5) (r := r) (by decide) r.isLt hexec hcmd.1 (htk ▸ hgo) (hall _ ?_ (by decide)) ?_
    ⟨hdstate.trans hstate, (hdown.trans hown).trans (hownerA.trans howner), ?_, hcodeShown, hstat.trans hctxU, fun hw hg => ?_, hall,
      fun n hn => ?_, fun n hn => ?_, ?_⟩
  · rw [regionReleaseReg]
    simp only [Bool.or_eq_false_iff, beq_eq_false_iff_ne]
    unfold CTL_TEST_STAT CTX_STAT ctxPage BOB_RGN_STAT PRK_RGEN
    omega
  · rw [htst, hust, htaken]
  · rw [htst, hdate, hnow]
  · rw [hdgen, hgen (hwaits.trans hw) (hready.trans hg), regionGen, hfget, regionGen]
  · rw [htbob, hin n (hbobs ▸ hn), bob_congr hbob]
  · rw [htbob, hout n (hbobs ▸ hn), bob_congr hbob]
  · unfold signalsOnly
    rw [htst, hust, htaken]

end Sys2Proof.Machine
end

section
/-! SUPPORT. The ends of unpicks (R399, R400) and the publication of counter pages (R446). -/

namespace Sys2Proof.Machine

open Claim

/-! The end of a region's unpick. -/

/-- A bobbin zeroed. -/
def bobZeroed (r : Nat) (b : Bobbin) : Bobbin := { region := r, inFlight := b.inFlight }

/-- A region's unpick no longer runs, and no motif of it is live. -/
def regionIdled (s : State) (r : Nat) : State :=
  setWeave (setSec s fun c => { c with regionUnpick := tset 0 c.regionUnpick r 0 }) fun w => { w with regionLive := tset {} w.regionLive r {} }

theorem regionUnpickDone_eq {s : State} {r : Nat} (hrun : tget 0 s.sec.regionUnpick r ≠ 0) (hup : dieUp s (4 + r / 16) = true) :
    regionUnpickDone s r =
      fset (fset (regionIdled (forEach (regionBobs s r) s fun s n => setBobbin s n (bobZeroed r)) r) (BOB_RGN_STAT.STATE r) rIDLE)
        (PRK_RGEN.OWNED r) 0 := by
  unfold regionUnpickDone
  rw [if_neg (by simp [hrun, hup])]
  rfl

theorem bobsZeroed_spec (l : List Nat) (r : Nat) (s : State) :
    bobsOnly s (forEach l s fun s n => setBobbin s n (bobZeroed r)) ∧
      ∀ n ∈ l, ∃ b, bob (forEach l s fun s n => setBobbin s n (bobZeroed r)) n = bobZeroed r b := by
  constructor
  · exact forEach_keeps (P := bobsOnly s) (fun t n _ h => h.trans (bobsOnly_setBobbin t n _)) rfl
  · intro n hn
    refine forEach_marks (Q := fun _ => True) (P := fun n t => ∃ b, bob t n = bobZeroed r b) (fun _ _ h => h)
      (fun t m _ => ⟨bob t m, bob_setBobbin_same t m _⟩) (fun t m k _ h => ?_) hn trivial
    rcases eq_or_ne k m with rfl | hne
    · exact ⟨bob t k, bob_setBobbin_same t k _⟩
    · obtain ⟨b, hb⟩ := h
      exact ⟨b, (bob_setBobbin_ne t hne _).trans hb⟩

theorem regionUnpickDone_answers (r : Fin 64) (s : State) (hpow : s.sys.powered = true) (hrun : tget 0 s.sec.regionUnpick r ≠ 0)
    (hup : dieUp s (4 + r / 16) = true) :
    answers (.regionUnpickDone r) s fun t =>
      regionState t r = rIDLE ∧ fget t (PRK_RGEN.OWNED r) = 0 ∧ tget 0 t.sec.regionUnpick r = 0 ∧ regionGen t r = regionGen s r ∧
      (∀ n ∈ regionBobs s r, (bob t n).store = [] ∧ (bob t n).needles = [] ∧ (bob t n).queues = [] ∧ (bob t n).inlets = [] ∧
        (bob t n).record = {}) ∧
      regsBut (rgnReg r) s t ∧ t = { s with regs := t.regs, bob := t.bob, sec := t.sec, weave := t.weave } := by
  refine answers_of_fires (f := fun s => regionUnpickDone s r) hpow rfl ?_
  obtain ⟨honly, hzero⟩ := bobsZeroed_spec (regionBobs s r) r s
  rw [regionUnpickDone_eq hrun hup]
  generalize Machine.forEach (regionBobs s r) s (fun s n => setBobbin s n (bobZeroed r)) = a at *
  have haregs : a.regs = s.regs := by rw [honly]
  have hidle : (regionIdled a r).regs = a.regs ∧ (regionIdled a r).bob = a.bob ∧ tget 0 (regionIdled a r).sec.regionUnpick r = 0 ∧
      regionIdled a r = { a with sec := (regionIdled a r).sec, weave := (regionIdled a r).weave } :=
    ⟨rfl, rfl, tget_tset_same 0 a.sec.regionUnpick r 0, rfl⟩
  obtain ⟨hiregs, hibob, hdate, hist⟩ := hidle
  generalize regionIdled a r = b at *
  have hbset : ∀ (u : State) (f : Fld) (v : Nat), (fset u f v).bob = u.bob ∧ (fset u f v).sec = u.sec := fun _ _ _ => ⟨rfl, rfl⟩
  have hbob : ∀ n, bob (fset (fset b (BOB_RGN_STAT.STATE r) rIDLE) (PRK_RGEN.OWNED r) 0) n = bob a n := fun n =>
    bob_congr (((hbset _ _ _).1.trans (hbset _ _ _).1).trans hibob) n
  have hne : BOB_RGN_STAT r ≠ PRK_RGEN r := rgnStat_ne_rgen
  have hset := regsOnly_fset b (BOB_RGN_STAT.STATE r) rIDLE
  have hset' := regsOnly_fset (fset b (BOB_RGN_STAT.STATE r) rIDLE) (PRK_RGEN.OWNED r) 0
  refine ⟨?_, ?_, ?_, ?_, fun n hn => ?_, ?_, ?_⟩
  · rw [regionState, fget_fset_ne _ (PRK_RGEN.OWNED r) (BOB_RGN_STAT.STATE r) _ (Or.inl hne),
      fget_fset_same _ (BOB_RGN_STAT.STATE r) _ (show 0 + 3 ≤ 64 by decide)]
    rfl
  · exact (fget_fset_same _ (PRK_RGEN.OWNED r) _ (show 26 + 1 ≤ 64 by decide)).trans (Nat.zero_mod _)
  · rw [(hbset _ _ _).2, (hbset _ _ _).2]
    exact hdate
  · rw [regionGen, fget_fset_ne _ (PRK_RGEN.OWNED r) (PRK_RGEN.GEN r) _ (Or.inr (Or.inl (show 0 + 8 ≤ 26 by decide))),
      fget_fset_ne _ (BOB_RGN_STAT.STATE r) (PRK_RGEN.GEN r) _ (Or.inl hne.symm), fget_congr (hiregs.trans haregs), regionGen]
  · obtain ⟨c, hc⟩ := hzero n hn
    rw [hbob, hc]
    exact ⟨rfl, rfl, rfl, rfl, rfl⟩
  · refine (regsBut_of_regs_eq (hiregs.trans haregs)).trans ((regsBut_fset b (BOB_RGN_STAT.STATE r) (rgnReg_stat r) rIDLE).trans ?_)
    exact regsBut_fset _ (PRK_RGEN.OWNED r) (rgnReg_of_rgen (beq_self_eq_true (PRK_RGEN r))) _
  · unfold regsOnly at hset hset'
    rw [hset', hset, hist, honly]

/-! Publication. -/

/-- From `s` to `t` only memory changed, and it holds no bit errors. -/
def MemStored (s t : State) : Prop := memSound t ∧ t = { s with mem := t.mem }

theorem MemStored.refl {s : State} (h : memSound s) : MemStored s s := ⟨h, rfl⟩

theorem MemStored.trans {s t u : State} (h : MemStored s t) (k : MemStored t u) : MemStored s u := by
  refine ⟨k.1, ?_⟩
  rw [k.2, h.2]

theorem memWrite_stored {s : State} (h : memSound s) (d P : Nat) (bs : List Byte) : MemStored s (memWrite s d P bs) := by
  rw [memWrite_of_sound h]
  exact ⟨(memWritten_latent _ _ _ _).trans h, rfl⟩

theorem ctxPut_stored {s : State} (h : memSound s) (x o : Nat) (bs : List Byte) : MemStored s (ctxPut s x o bs) := by
  refine forEach_keeps (P := MemStored s) (fun t l _ ht => ?_) (MemStored.refl h)
  split
  · split
    · exact ht
    · exact ht.trans (memWrite_stored ht.1 _ _ _)
  · exact ht

theorem ctxWrite_stored {s : State} (h : memSound s) (x o : Nat) (bs : List Byte) : MemStored s (ctxWrite s x o bs) := by
  rw [ctxWrite_of_sound h]
  exact ctxPut_stored h x o bs

/-- The words of a context's counter page. -/
def pageBytes (s : State) (x : Nat) : List Byte := (List.range 64).flatMap fun i => le 8 (getReg s (PMC_CTXPAGE x i)).toNat

/-- A publication dated. -/
def pubDated (s : State) (x : Nat) : State := setTel s fun t => { t with pubAt := tset 0 t.pubAt x s.now }

theorem ctxPublish_due {s : State} {x : Nat} (hopen : fbit s (CTX_CTRL.CNT_OPEN x) = true) (huse : ctxUsable s x = true)
    (hperiod : fget s (PMC_CTXPUB.PERIOD_US x) ≠ 0)
    (hdue : s.elapsed (tget 0 s.tel.pubAt x) (1000 * fget s (PMC_CTXPUB.PERIOD_US x)) = true) :
    ctxPublish s x = ctxWrite (pubDated s x) x (512 * (fget s (PMC_CTXPUB.OFFSET x) / 512)) (pageBytes s x) := by
  unfold ctxPublish pubDated pageBytes
  generalize List.range 64 = l
  dsimp only
  rw [hopen, huse, hdue, bne_iff_ne.2 hperiod]
  rfl

theorem ctxPublish_answers (x : Fin 1024) (s : State) (hpow : s.sys.powered = true) (hopen : fbit s (CTX_CTRL.CNT_OPEN x) = true)
    (huse : ctxUsable s x = true) (hperiod : fget s (PMC_CTXPUB.PERIOD_US x) ≠ 0)
    (hdue : s.elapsed (tget 0 s.tel.pubAt x) (1000 * fget s (PMC_CTXPUB.PERIOD_US x)) = true) (hsound : memSound s) :
    answers (.ctxPublish x) s fun t =>
      t.mem = (ctxWrite s x (512 * (fget s (PMC_CTXPUB.OFFSET x) / 512)) (pageBytes s x)).mem ∧ tget 0 t.tel.pubAt x = s.now ∧
        t = { s with mem := t.mem, tel := { s.tel with pubAt := t.tel.pubAt } } := by
  refine answers_of_fires (f := fun s => ctxPublish s x) hpow rfl ?_
  rw [ctxPublish_due hopen huse hperiod hdue]
  have hsame : SameMem s (pubDated s x) := ⟨hsound, rfl, rfl⟩
  obtain ⟨-, hmem, -⟩ := hsame.ctxWrite x (512 * (fget s (PMC_CTXPUB.OFFSET x) / 512)) (pageBytes s x)
  have hstored : MemStored (pubDated s x) (ctxWrite (pubDated s x) x (512 * (fget s (PMC_CTXPUB.OFFSET x) / 512)) (pageBytes s x)) :=
    ctxWrite_stored (show memSound (pubDated s x) from hsound) x _ _
  generalize ctxWrite (pubDated s x) x (512 * (fget s (PMC_CTXPUB.OFFSET x) / 512)) (pageBytes s x) = t at *
  obtain ⟨-, ht⟩ := hstored
  have hdated : pubDated s x = { s with tel := { s.tel with pubAt := tset 0 s.tel.pubAt x s.now } } := rfl
  refine ⟨hmem, ?_, ?_⟩
  · rw [ht, hdated]
    exact tget_tset_same _ _ _ _
  · rw [ht, hdated]

end Sys2Proof.Machine
end

section
/-! SUPPORT. The end of a context's unpick (R400, Table 16.3). -/

namespace Sys2Proof.Machine

open Claim

/-! Its steps. -/

/-- Frames zeroed. -/
def framesZeroed (s : State) (l : List (Nat × Nat)) : State := forEach l s fun s p => zeroFrame s p.1 p.2

/-- The counter page and the log's registers at their reset values. -/
def countsZeroed (s : State) (x : Nat) : State := resetReg (resetReg (resetReg (pageZero s x) (PIC_LOG x)) (PIC_LOGTRIM x)) (PIC_LOGMIR x)

/-- The log of a context forgotten. -/
def logForgotten (s : State) (x : Nat) : State :=
  setPic s fun p => { p with logs := tset [] p.logs x [], logHigh := tset false p.logHigh x false }

/-- A port given back where the context owns it. -/
def portFreed (x : Nat) (s : State) (L : Nat) : State := if ownsPort s x L then fset s (PRT_OWNER.OWNED L) 0 else s

/-- The unpick's account closed. -/
def unpickClosed (s : State) (x : Nat) : State := setSec s fun c => { c with unpick := tset {} c.unpick x {} }

/-- The context FREE. -/
def contextFreed (s : State) (x : Nat) : State :=
  ring (ctxEnter (resetReg (fset (fset (unpickClosed s x) (CTX_STAT.PROGRESS x) 0xFFFF) (CTX_STAT.ESTIMATE x) 0) (PMC_CTXPUB x)) x 0) 5

theorem unpickDone_eq {s : State} {x : Nat} (h : unpickReady s x = true) :
    unpickDone s x =
      contextFreed (forRange 1024 (releaseFrames (logForgotten (countsZeroed (framesZeroed s (winFrames s x ++ logFrames s x)) x) x) x)
        (portFreed x)) x := by
  unfold unpickDone
  rw [if_neg (by simp [h])]
  rfl

/-! Memory zeroed. -/

/-- Bytes of frame f of die d. -/
def inFrame (d f k : Nat) : Bool := 2 ^ 40 * d + f * frameBytes ≤ k && k < 2 ^ 40 * d + (f + 1) * frameBytes

theorem memByte_zeroFrame (s : State) (d f e P : Nat) :
    memByte (zeroFrame s d f) e P = if inFrame d f (2 ^ 40 * e + P) then 0 else memByte s e P := by
  have hbytes : (zeroFrame s d f).mem.bytes = s.mem.bytes.filter fun b => !inFrame d f b.1 := rfl
  rw [memByte, hbytes, tget_filter 0 s.mem.bytes (fun k => !inFrame d f k), memByte]
  cases inFrame d f (2 ^ 40 * e + P) <;> rfl

theorem zeroFrame_only (s : State) (d f : Nat) : zeroFrame s d f = { s with mem := (zeroFrame s d f).mem } := rfl

theorem framesZeroed_spec (s : State) (l : List (Nat × Nat)) :
    framesZeroed s l = { s with mem := (framesZeroed s l).mem } ∧
      ∀ q ∈ l, ∀ k, k / frameBytes = 0 → memByte (framesZeroed s l) q.1 (q.2 * frameBytes + k) = 0 := by
  constructor
  · refine forEach_keeps (P := fun t => t = { s with mem := t.mem }) (fun t p _ ht => ?_) rfl
    rw [zeroFrame_only, ht]
  · intro q hq k hk
    have hin : inFrame q.1 q.2 (2 ^ 40 * q.1 + (q.2 * frameBytes + k)) = true := by
      unfold inFrame
      unfold frameBytes at *
      rw [Bool.and_eq_true, decide_eq_true_eq, decide_eq_true_eq]
      omega
    refine forEach_marks (Q := fun _ => True)
      (P := fun q t => inFrame q.1 q.2 (2 ^ 40 * q.1 + (q.2 * frameBytes + k)) = true → memByte t q.1 (q.2 * frameBytes + k) = 0)
      (fun _ _ h => h) (fun t p _ hp => ?_) (fun t p b _ hb hp => ?_) hq trivial hin
    · rw [memByte_zeroFrame, if_pos hp]
    · rw [memByte_zeroFrame]
      split
      · rfl
      · exact hb hp

/-! Reset values. -/

/-- A register of rows that reset to zero does so. -/
theorem regReset_of_rows {lo hi off : Nat} (hrows : (globalRegs.filter (RegDesc.meets lo hi)).all (fun d => d.reset == 0) = true)
    (hlo : lo ≤ off) (hhi : off < hi) (hhole : regHole off = false) (hport : ¬ (0x1000000 ≤ off ∧ off < 0x1400000))
    (hlow : off < 0x3000000) : regReset off = 0 := by
  have hfind : findReg off = (globalRegs.filter (RegDesc.meets lo hi)).find? (·.covers off) := by
    rw [findReg, hhole, if_neg (by decide), if_neg hport, if_neg (by omega), find?_covers_filter _ hlo hhi]
  rw [regReset, if_neg (by omega), if_neg (by omega), hfind]
  split
  · next d hd =>
    rw [eq_of_beq (List.all_eq_true.1 hrows d (List.mem_of_find?_eq_some hd))]
    rfl
  · rfl

theorem regReset_log {x c : Nat} (hx : x < 1024) (hc : c < 32) : regReset (PIC_LOG x + c) = 0 := by
  have hlo : 0x2410000 ≤ PIC_LOG x + c ∧ PIC_LOG x + c < 0x2418000 := by unfold PIC_LOG; omega
  refine regReset_of_rows (lo := 0x2410000) (hi := 0x2418000) (by rfl) hlo.1 hlo.2 ?_ (by omega) (by omega)
  rw [regHole, if_neg (by omega), if_neg (by omega)]

/-- Registers of a context's log. -/
def logReg (x o : Nat) : Bool := PIC_LOG x ≤ o && o < PIC_LOG (x + 1)

theorem logReg_entry {x c : Nat} (hc : c < 32) : logReg x (PIC_LOG x + c) = true := by
  unfold logReg PIC_LOG
  rw [Bool.and_eq_true, decide_eq_true_eq, decide_eq_true_eq]
  omega

theorem countsZeroed_spec (s : State) {x : Nat} (hx : x < 1024) :
    regsOnly s (countsZeroed s x) ∧ (∀ i, i < 64 → getReg (countsZeroed s x) (PMC_CTXPAGE x i) = 0) ∧
      getReg (countsZeroed s x) (PIC_LOG x) = 0 ∧ getReg (countsZeroed s x) (PIC_LOGTRIM x) = 0 := by
  obtain ⟨⟨hst, -⟩, hpage⟩ := pageZero_spec s hx
  have hlog : regReset (PIC_LOG x) = 0 := regReset_log (c := 0) hx (by decide)
  have htrim : regReset (PIC_LOGTRIM x) = 0 := by
    rw [show PIC_LOGTRIM x = PIC_LOG x + 8 by unfold PIC_LOGTRIM PIC_LOG; omega]
    exact regReset_log hx (by decide)
  have hmir : regReset (PIC_LOGMIR x) = 0 := by
    rw [show PIC_LOGMIR x = PIC_LOG x + 16 by unfold PIC_LOGMIR PIC_LOG; omega]
    exact regReset_log hx (by decide)
  unfold countsZeroed resetReg
  rw [hlog, htrim, hmir]
  generalize pageZero s x = a at *
  refine ⟨?_, fun i hi => ?_, ?_, ?_⟩
  · unfold regsOnly at *
    rw [regsOnly_setReg (setReg (setReg a (PIC_LOG x) 0) (PIC_LOGTRIM x) 0) (PIC_LOGMIR x) 0,
      regsOnly_setReg (setReg a (PIC_LOG x) 0) (PIC_LOGTRIM x) 0, regsOnly_setReg a (PIC_LOG x) 0, hst]
  · rw [getReg_setReg, getReg_setReg, getReg_setReg, hpage i hi, ite_self, ite_self, ite_self]
  · rw [getReg_setReg, getReg_setReg, getReg_setReg, if_pos (rfl : PIC_LOG x = PIC_LOG x), ite_self, ite_self]
  · rw [getReg_setReg, getReg_setReg, if_pos (rfl : PIC_LOGTRIM x = PIC_LOGTRIM x), ite_self]

/-! Frames and ports given back. -/

/-- Memory without the frames of a context. -/
def framesFreed (x : Nat) (m : MemSt) : MemSt := { m with winFr := tset [] m.winFr x [], logFr := tset [] m.logFr x [] }

theorem memDieUpdate_mem (s : State) : (memDieUpdate s).mem = s.mem := by
  have hset : ∀ (t : State) (f : Fld) (v : Nat), (fset t f v).mem = t.mem := fun _ _ _ => rfl
  exact forRange_keeps (P := fun t => t.mem = s.mem) (fun t d _ ht => by rw [hset, hset, ht]) rfl

theorem releaseFrames_eq (s : State) (x : Nat) :
    releaseFrames s x = memDieUpdate (setReg (setMem s (framesFreed x)) (MEM_CTX x) (regReset (MEM_CTX x))) := rfl

theorem releaseFrames_spec (s : State) {x : Nat} (hx : x < 1024) :
    Placed s (releaseFrames s x) ∧ (releaseFrames s x).mem = framesFreed x s.mem := by
  have hmem : ∀ v : Word, (setReg (setMem s (framesFreed x)) (MEM_CTX x) v).mem = framesFreed x s.mem := fun _ => rfl
  rw [releaseFrames_eq]
  generalize regReset (MEM_CTX x) = v
  refine ⟨((Placed.setMem s (framesFreed x)).trans (Placed.setReg _ (placeReg_ctx hx) v)).trans (memDieUpdate_placed _), ?_⟩
  rw [memDieUpdate_mem, hmem]

theorem frames_of_freed {s : State} {m : MemSt} {x : Nat} (h : s.mem = framesFreed x m) :
    winFrames s x = [] ∧ logFrames s x = [] ∧ s.mem.bytes = m.bytes := by
  rw [winFrames, logFrames, h]
  exact ⟨tget_tset_same [] m.winFr x [], tget_tset_same [] m.logFr x [], rfl⟩

/-- Registers of port owners. -/
def ownerReg (o : Nat) : Bool := 0x1000000 ≤ o && o < 0x1400000

theorem ownerReg_port {L : Nat} (hL : L < 1024) : ownerReg (PRT_OWNER L) = true := by
  unfold ownerReg PRT_OWNER portPage
  rw [Bool.and_eq_true, decide_eq_true_eq, decide_eq_true_eq]
  omega

theorem ownsPort_portFreed (s : State) (x L k : Nat) :
    ownsPort (portFreed x s L) x k = if k = L then false else ownsPort s x k := by
  unfold portFreed
  rcases eq_or_ne k L with rfl | hne
  · rw [if_pos rfl]
    split
    · rw [ownsPort, fbit, fget_fset_same _ (PRT_OWNER.OWNED k) _ (show 10 + 1 ≤ 64 by decide)]
      rfl
    · next h => exact Bool.not_eq_true _ ▸ h
  · have hoff : PRT_OWNER k ≠ PRT_OWNER L := by
      unfold PRT_OWNER portPage
      omega
    rw [if_neg hne]
    split
    · rw [ownsPort, ownsPort, fbit, fbit, fget_fset_ne s (PRT_OWNER.OWNED L) (PRT_OWNER.OWNED k) _ (Or.inl hoff),
        fget_fset_ne s (PRT_OWNER.OWNED L) (PRT_OWNER.CTX k) _ (Or.inl hoff)]
    · rfl

theorem portsFreed_spec (s : State) (x : Nat) :
    OnlyRegs ownerReg s (forRange 1024 s (portFreed x)) ∧ ∀ L, L < 1024 → ownsPort (forRange 1024 s (portFreed x)) x L = false := by
  refine ⟨OnlyRegs.forRange (fun t L hL => ?_) s, fun L hL => ?_⟩
  · exact OnlyRegs.ite (OnlyRegs.fset t (f := PRT_OWNER.OWNED L) (ownerReg_port hL) 0) (OnlyRegs.refl _ t)
  · refine forEach_marks (Q := fun _ => True) (P := fun L t => ownsPort t x L = false) (l := List.range 1024) (fun _ _ h => h)
      (fun t k _ => ?_) (fun t k j _ h => ?_) (List.mem_range.2 hL) trivial
    · rw [ownsPort_portFreed, if_pos rfl]
    · rw [ownsPort_portFreed, h, ite_self]

/-! The context FREE. -/

/-- Registers that a context's return to FREE writes. -/
def freedReg (x o : Nat) : Bool := o == CTX_STAT x || o == PMC_CTXPUB x

theorem contextFreed_spec (s : State) (x : Fin 1024) :
    ReleaseWork (freedReg x) s (contextFreed s x) ∧ ctxState (contextFreed s x) x = 0 ∧
      fget (contextFreed s x) (CTX_STAT.PROGRESS x) = 0xFFFF := by
  have hstat : freedReg x (CTX_STAT x) = true := by rw [freedReg, beq_self_eq_true (CTX_STAT x), Bool.true_or]
  have hpub : freedReg x (PMC_CTXPUB x) = true := by rw [freedReg, beq_self_eq_true (PMC_CTXPUB x), Bool.or_true]
  have hne : CTX_STAT x ≠ PMC_CTXPUB x := by unfold CTX_STAT ctxPage PMC_CTXPUB; omega
  have hclosed : ReleaseWork (freedReg x) s (unpickClosed s x) := ReleaseWork.setSec _ s _
  unfold contextFreed
  generalize unpickClosed s x = a at *
  have hprog := hclosed.trans (ReleaseWork.of_ctxWork (CtxWork.fset a (f := CTX_STAT.PROGRESS x) hstat 0xFFFF))
  have hvalue : fget (fset a (CTX_STAT.PROGRESS x) 0xFFFF) (CTX_STAT.PROGRESS x) = 0xFFFF :=
    (fget_fset_same a (CTX_STAT.PROGRESS x) _ (show 24 + 16 ≤ 64 by decide)).trans (Nat.mod_eq_of_lt (by decide : 0xFFFF < 2 ^ 16))
  generalize fset a (CTX_STAT.PROGRESS x) 0xFFFF = b at *
  have hest := hprog.trans (ReleaseWork.of_ctxWork (CtxWork.fset b (f := CTX_STAT.ESTIMATE x) hstat 0))
  have hvalueEst : fget (fset b (CTX_STAT.ESTIMATE x) 0) (CTX_STAT.PROGRESS x) = fget b (CTX_STAT.PROGRESS x) :=
    fget_fset_ne b (CTX_STAT.ESTIMATE x) (CTX_STAT.PROGRESS x) 0 (Or.inr (Or.inl (show 24 + 16 ≤ 40 by decide)))
  generalize fset b (CTX_STAT.ESTIMATE x) 0 = c at *
  have hreset : ∀ v : Word, CtxWork (freedReg x) c (setReg c (PMC_CTXPUB x) v) := fun v =>
    CtxWork.of_onlyRegs ⟨regsOnly_setReg c _ v, regsBut_setReg c hpub v⟩
  have hvalueReset : ∀ v : Word, fget (setReg c (PMC_CTXPUB x) v) (CTX_STAT.PROGRESS x) = fget c (CTX_STAT.PROGRESS x) := fun v =>
    fget_of_getReg_eq (f := CTX_STAT.PROGRESS x) (by rw [getReg_setReg]; exact if_neg hne)
  unfold resetReg
  generalize regReset (PMC_CTXPUB x) = v
  have hpubDone := hest.trans (ReleaseWork.of_ctxWork (hreset v))
  have hvalueDone := (hvalueReset v).trans (hvalueEst.trans hvalue)
  generalize setReg c (PMC_CTXPUB x) v = d at *
  have henter := hpubDone.trans ((ReleaseWork.of_ctxWork (ctxEnter_work d x 0)).mono fun o ho => by
    rw [freedReg, show (o == CTX_STAT x) = true from ho, Bool.true_or])
  have hstate : ctxState (ctxEnter d x 0) x = 0 := ctxState_ctxEnter (by decide)
  have hvalueEnter := (fget_ctxEnter (s := d) (x := x) 0 (f := CTX_STAT.PROGRESS x) rfl (show 2 ≤ 24 by decide)).trans hvalueDone
  generalize ctxEnter d x 0 = e at *
  have hring : Signals e (ring e 5) := ring_signals e (by decide)
  refine ⟨henter.trans (ReleaseWork.of_ctxWork (CtxWork.of_signals hring)), ?_, ?_⟩
  · rw [ctxState, fget_of_signals (f := CTX_STAT.STATE x) hring (ctxStat_quiet x).1]
    exact hstate
  · rw [fget_of_signals (f := CTX_STAT.PROGRESS x) hring (ctxStat_quiet x).1]
    exact hvalueEnter

/-- Registers of the log, of the counter page and of port owners are none that later steps write. -/
theorem log_quiet (x : Fin 1024) {k : Nat} (hk : k < 32) :
    ownerReg (PIC_LOG x + k) = false ∧ placeReg (PIC_LOG x + k) = false ∧ freedReg x (PIC_LOG x + k) = false ∧
      signalReg (PIC_LOG x + k) = false := by
  unfold ownerReg placeReg freedReg signalReg inSrc PIC_LOG CTX_STAT ctxPage PMC_CTXPUB EVR_LOST IC_MERGED
  simp only [Bool.or_eq_false_iff, Bool.and_eq_false_iff, decide_eq_false_iff_not, beq_eq_false_iff_ne]
  omega

theorem page_quiet (x : Fin 1024) {i : Nat} (hi : i < 64) :
    ownerReg (PMC_CTXPAGE x i) = false ∧ placeReg (PMC_CTXPAGE x i) = false ∧ freedReg x (PMC_CTXPAGE x i) = false := by
  unfold ownerReg placeReg freedReg PMC_CTXPAGE CTX_STAT ctxPage PMC_CTXPUB
  simp only [Bool.or_eq_false_iff, Bool.and_eq_false_iff, decide_eq_false_iff_not, beq_eq_false_iff_ne]
  omega

theorem owner_quiet (x : Fin 1024) {L : Nat} (hL : L < 1024) : freedReg x (PRT_OWNER L) = false ∧ signalReg (PRT_OWNER L) = false := by
  unfold freedReg signalReg inSrc PRT_OWNER portPage CTX_STAT ctxPage PMC_CTXPUB EVR_LOST IC_MERGED
  simp only [Bool.or_eq_false_iff, Bool.and_eq_false_iff, decide_eq_false_iff_not, beq_eq_false_iff_ne]
  omega

/-- Where the unpick may end it does. -/
theorem unpickDone_answers (x : Fin 1024) (s : State) (hpow : s.sys.powered = true) (hready : unpickReady s x = true) :
    answers (.unpickDone x) s fun t =>
      ctxState t x = 0 ∧ fget t (CTX_STAT.PROGRESS x) = 0xFFFF ∧ winFrames t x = [] ∧ logFrames t x = [] ∧
      (∀ q ∈ winFrames s x ++ logFrames s x, ∀ k, k / frameBytes = 0 → memByte t q.1 (q.2 * frameBytes + k) = 0) ∧
      (∀ i, i < 64 → getReg t (PMC_CTXPAGE x i) = 0) ∧ getReg t (PIC_LOG x) = 0 ∧ getReg t (PIC_LOGTRIM x) = 0 ∧
      (∀ L, L < 1024 → ownsPort t x L = false) ∧ t.bob = s.bob ∧ t.core = s.core := by
  refine answers_of_fires (f := fun s => unpickDone s x) hpow rfl ?_
  rw [unpickDone_eq hready]
  generalize winFrames s x ++ logFrames s x = l
  obtain ⟨hast, hbytes⟩ := framesZeroed_spec s l
  generalize framesZeroed s l = a at *
  obtain ⟨hbst, hpage, hlog, htrim⟩ := countsZeroed_spec a x.isLt
  generalize countsZeroed a x = b at *
  have hcst : logForgotten b x = { b with pic := (logForgotten b x).pic } := rfl
  generalize logForgotten b x = c at *
  obtain ⟨⟨hdst, hdregs⟩, hdmem⟩ := releaseFrames_spec c x.isLt
  generalize releaseFrames c x = d at *
  obtain ⟨⟨hest, heregs⟩, hports⟩ := portsFreed_spec d x
  generalize forRange 1024 d (portFreed x) = e at *
  obtain ⟨⟨htregs, htst⟩, hstate, hprog⟩ := contextFreed_spec e x
  generalize contextFreed e x = t at *
  unfold regsOnly at hbst hest
  unfold signalsOnly at htst
  have hmem : t.mem = framesFreed x a.mem := by rw [htst, hest, hdmem, hcst, hbst]
  obtain ⟨hwin, hlogs, hkept⟩ := frames_of_freed hmem
  have hkeep : ∀ {o}, ownerReg o = false → placeReg o = false → freedReg x o = false → signalReg o = false → getReg t o = getReg b o :=
    fun ho hp hf hq => (htregs _ hf hq).trans ((heregs _ ho).trans ((hdregs _ hp).trans (getReg_congr (by rw [hcst]) _)))
  have hlogKeep : ∀ {k}, k < 32 → getReg t (PIC_LOG x + k) = getReg b (PIC_LOG x + k) := fun hk => by
    obtain ⟨hown, hplace, hfreed, hsig⟩ := log_quiet x hk
    exact hkeep hown hplace hfreed hsig
  have htrimOff : PIC_LOGTRIM x = PIC_LOG x + 8 := by unfold PIC_LOGTRIM PIC_LOG; omega
  refine ⟨hstate, hprog, hwin, hlogs, fun q hq k hk => ?_, fun i hi => ?_, (hlogKeep (k := 0) (by decide)).trans hlog, ?_,
    fun L hL => ?_, ?_, ?_⟩
  · rw [← hbytes q hq k hk, memByte, memByte, hkept]
  · obtain ⟨hown, hplace, hfreed⟩ := page_quiet x hi
    rw [hkeep hown hplace hfreed (signalReg_page_entry x hi), hpage i hi]
  · rw [htrimOff, hlogKeep (by decide), ← htrimOff, htrim]
  · obtain ⟨hfreed, hsig⟩ := owner_quiet x hL
    have hreg : getReg t (PRT_OWNER L) = getReg e (PRT_OWNER L) := htregs _ hfreed hsig
    rw [ownsPort, fbit, fget_of_getReg_eq (f := PRT_OWNER.OWNED L) hreg, fget_of_getReg_eq (f := PRT_OWNER.CTX L) hreg]
    exact hports L hL
  · rw [htst, hest, hdst, hcst, hbst, hast]
  · rw [htst, hest, hdst, hcst, hbst, hast]

end Sys2Proof.Machine
end

section
/-! SUPPORT. The life of a context (R394 to R400, R446): it settles O51. -/

namespace Sys2Proof.Machine

open Claim

/-- What a command that changes no more than its context's register leaves. -/
theorem CtxWork.shown {x : Nat} {s t : State} (h : CtxWork (ctxStatReg x) s t) :
    regsQuiet (fun o => o == CTX_STAT x || (fun _ => false) o) s t ∧ signalsOnly s t :=
  h.mono (own' := fun o => o == CTX_STAT x || (fun _ => false) o) fun o ho => by
    show (o == CTX_STAT x || false) = true
    rw [Bool.or_false]
    exact ho

/-- A command's code where the context's state does not suit it. -/
theorem ctxCode_unsuited {p : Fin 13} {x : Fin 1024} {op : Nat} {s : State} (hcmd : CtxCmd p x op s)
    (h : ctxSuits op (ctxState s x) = false) : ctxCode s x op 0 = 1 := by
  rw [ctxCode_of_woven hcmd.2, h]
  rfl

/-- RELEASE of a context that owns a lane of the slot map. -/
theorem ctxCode_lane {p : Fin 13} {x : Fin 1024} {s : State} (hcmd : CtxCmd p x 4 s) (hst : ctxState s x = 1 ∨ ctxState s x = 2)
    (hlane : ownsLane s x = true) : ctxCode s x 4 0 = 3 := by
  rw [ctxCode_of_woven hcmd.2, ownedState_suits (by decide) hst, hlane]
  rfl

theorem unpickDone_waits {x : Fin 1024} {s : State} (h : unpickReady s x = false) : exec (.unpickDone x) s = .next s := by
  have hstay : unpickDone s x = s := by
    unfold unpickDone
    rw [if_pos (by rw [h]; rfl)]
  show live s (fun s => unpickDone s x) = _
  rw [live, hstay, ite_self]

/-- Settles O51, clause by clause: commands end with a code (`ctxRefused_answers`) or change what the clause names, and the unpick's
end is followed through its steps. -/
theorem contexts : Obligations.Contexts := by
  unfold Obligations.Contexts
  dsimp only
  refine ⟨fun p x s hcmd hst hplace => ctxAllocate_answers p x s hcmd hst hplace, fun p x s hcmd hst hplace hafter => ?_,
    fun p x s hcmd hst => ?_, fun p x s hcmd hst => ?_, fun p x s hcmd hst hnone => ?_, fun p x s hcmd hst hlane => ?_,
    fun p x s hcmd hst hlane hregion hport hgroup hsession hmeter =>
      ctxRelease_answers p x s hcmd hst hlane ⟨hregion, hport, hgroup, hsession, hmeter⟩,
    fun p x r s hcmd hst howner => ?_,
    fun p x r s hcmd hst howner hrun hnone hup hidle hflits =>
      ctxReleaseRegion_answers p x r s hcmd hst howner hrun hnone hup ⟨hidle, hflits⟩,
    regionUnpickDone_answers, unpickDone_answers, fun x s h => unpickDone_waits h,
    fun x s hpow hopen huse hperiod hdue hsound => ctxPublish_answers x s hpow hopen huse hperiod hdue hsound⟩
  · obtain ⟨t, hexec, hstate, hcode, hest, hwork⟩ := ctxAllocate_busy p x s hcmd hst hplace hafter
    exact ⟨t, hexec, hstate, hcode, hest, hwork.shown⟩
  · obtain ⟨t, hexec, hstate, hcode, hgen, hwork⟩ := ctxActivate_answers p x s hcmd hst
    exact ⟨t, hexec, hstate, hcode, hgen, hwork.shown⟩
  · obtain ⟨t, hexec, hstate, hcode, hwork⟩ := ctxRefused_answers (c := .ctxActivate p x) (op := 2) (r := 0) (by decide) (by decide)
      (by decide) rfl hcmd.1 (ctxCode_unsuited hcmd (beq_eq_false_iff_ne.2 hst)) (by decide) (by decide)
    exact ⟨t, hexec, hstate, hcode, hwork.shown⟩
  · obtain ⟨t, hexec, hstate, hcode, hgen, hwork⟩ := ctxDeactivate_answers p x s hcmd hst hnone
    exact ⟨t, hexec, hstate, hcode, hgen, hwork.shown⟩
  · obtain ⟨t, hexec, hstate, hcode, hwork⟩ := ctxRefused_answers (c := .ctxRelease p x) (op := 4) (r := 0) (by decide) (by decide)
      (by decide) rfl hcmd.1 (ctxCode_lane hcmd hst hlane) (by decide) (by decide)
    exact ⟨t, hexec, hstate, hcode, hwork.shown⟩
  · obtain ⟨t, hexec, -, hcode, hwork⟩ := ctxReleaseRegion_refused p x r s hcmd hst howner
    exact ⟨t, hexec, hcode, hwork.shown⟩

end Sys2Proof.Machine
end

section
/-! SUPPORT. The register file stays canonical (O3): the state's parts, memory, lookup and the switch core. A lemma says of each
operation of the model that it keeps the register file canonical: `regsCanon` speaks of the registers alone, so an operation that
writes none is immediate, and one that calls others is kept by theirs. Where an operation branches on a match, `grind` unfolds it
and closes the branches by the lemmas named. -/

namespace Sys2Proof.Machine

set_option Elab.async false

variable {s : State}

/-! Choices and folds. -/

theorem regsCanon_ite {c : Prop} [Decidable c] {a b : State} (ha : regsCanon a) (hb : regsCanon b) :
    regsCanon (if c then a else b) := by
  split
  · exact ha
  · exact hb

theorem regsCanon_ite_snd {α : Type} {c : Prop} [Decidable c] {a b : α × State} (ha : regsCanon a.2) (hb : regsCanon b.2) :
    regsCanon (if c then a else b).2 := by
  split
  · exact ha
  · exact hb

theorem regsCanon_forEach {β : Type} {l : List β} {f : State → β → State} (hf : ∀ s a, regsCanon s → regsCanon (f s a))
    (h : regsCanon s) : regsCanon (forEach l s f) :=
  forEach_keeps (P := regsCanon) (fun t a _ ht => hf t a ht) h

theorem regsCanon_forRange {n : Nat} {f : State → Nat → State} (hf : ∀ s a, regsCanon s → regsCanon (f s a)) {s : State}
    (h : regsCanon s) : regsCanon (forRange n s f) := regsCanon_forEach hf h

/-! The named operations. -/

theorem regsCanon_bump (h : regsCanon s) (off : Nat) : regsCanon (bump s off) := regsCanon_bumpBy h _ _
theorem regsCanon_resetReg (h : regsCanon s) (off : Nat) : regsCanon (resetReg s off) := regsCanon_setReg h _ _
theorem regsCanon_setMode (h : regsCanon s) (m : Nat) : regsCanon (setMode s m) := regsCanon_fset h _ _
theorem regsCanon_draw (h : regsCanon s) : regsCanon (draw s).2 := h
theorem regsCanon_emit (h : regsCanon s) (o : Output) : regsCanon (emit s o) := h
theorem regsCanon_setLane (h : regsCanon s) (L : Nat) (f : LaneSt → LaneSt) : regsCanon (setLane s L f) := h
theorem regsCanon_setFibre (h : regsCanon s) (F : Nat) (f : FibreSt → FibreSt) : regsCanon (setFibre s F f) := h
theorem regsCanon_setBank (h : regsCanon s) (b : Nat) (f : BankSt → BankSt) : regsCanon (setBank s b f) := h
theorem regsCanon_setPort (h : regsCanon s) (L : Nat) (f : PortSt → PortSt) : regsCanon (setPort s L f) := h
theorem regsCanon_setCore (h : regsCanon s) (f : CoreSt → CoreSt) : regsCanon (setCore s f) := h
theorem regsCanon_setTbl (h : regsCanon s) (f : TblSt → TblSt) : regsCanon (setTbl s f) := h
theorem regsCanon_setTm (h : regsCanon s) (f : TmSt → TmSt) : regsCanon (setTm s f) := h
theorem regsCanon_setByp (h : regsCanon s) (f : BypSt → BypSt) : regsCanon (setByp s f) := h
theorem regsCanon_setPic (h : regsCanon s) (f : PicSt → PicSt) : regsCanon (setPic s f) := h
theorem regsCanon_setBob (h : regsCanon s) (f : BobSt → BobSt) : regsCanon (setBob s f) := h
theorem regsCanon_setMem (h : regsCanon s) (f : MemSt → MemSt) : regsCanon (setMem s f) := h
theorem regsCanon_setFlt (h : regsCanon s) (f : FltSt → FltSt) : regsCanon (setFlt s f) := h
theorem regsCanon_setSec (h : regsCanon s) (f : SecSt → SecSt) : regsCanon (setSec s f) := h
theorem regsCanon_setHost (h : regsCanon s) (f : HostSt → HostSt) : regsCanon (setHost s f) := h
theorem regsCanon_setEvr (h : regsCanon s) (f : EvrSt → EvrSt) : regsCanon (setEvr s f) := h
theorem regsCanon_setTel (h : regsCanon s) (f : TelSt → TelSt) : regsCanon (setTel s f) := h
theorem regsCanon_setSys (h : regsCanon s) (f : Sys → Sys) : regsCanon (setSys s f) := h
theorem regsCanon_setNvs (h : regsCanon s) (f : Nvs → Nvs) : regsCanon (setNvs s f) := h
theorem regsCanon_setTime (h : regsCanon s) (f : TimeSt → TimeSt) : regsCanon (setTime s f) := h
theorem regsCanon_setWeave (h : regsCanon s) (f : WeaveSt → WeaveSt) : regsCanon (setWeave s f) := h
theorem regsCanon_setTest (h : regsCanon s) (f : TestSt → TestSt) : regsCanon (setTest s f) := h

/-! What the module reports of itself. -/

theorem regsCanon_msixSend (h : regsCanon s) (v : Nat) : regsCanon (msixSend s v) :=
  regsCanon_ite (regsCanon_setHost h _) (regsCanon_emit h _)

theorem regsCanon_icEvalOne (h : regsCanon s) (t' : Nat) : regsCanon (icEvalOne s t') :=
  regsCanon_ite (regsCanon_setHost (regsCanon_setHost h _) _) (regsCanon_ite (regsCanon_setHost h _) (regsCanon_ite
      (regsCanon_msixSend (regsCanon_setHost (regsCanon_setHost h _) _) _) (regsCanon_setHost (regsCanon_setHost h _) _)))

theorem regsCanon_icEval (h : regsCanon s) : regsCanon (icEval s) := regsCanon_forRange (fun _ _ ht => regsCanon_icEvalOne ht _) h

theorem regsCanon_ring (h : regsCanon s) (src : Nat) : regsCanon (ring s src) := by
  grind [ring, regsCanon_icEval, regsCanon_fset, regsCanon_bump]

theorem regsCanon_notify (h : regsCanon s) (k : Session) (r : Rec) : regsCanon (notify s k r) := by
  unfold notify
  generalize 1000000000 = wait
  grind [regsCanon_emit, regsCanon_setEvr]

theorem regsCanon_notifyAll (h : regsCanon s) (r : Rec) : regsCanon (notifyAll s r) :=
  regsCanon_forEach (fun _ _ ht => regsCanon_ite (regsCanon_notify ht _ _) ht) h

theorem regsCanon_evrWatermark (h : regsCanon s) : regsCanon (evrWatermark s) :=
  regsCanon_ite (regsCanon_ring (regsCanon_setEvr h _) _) (regsCanon_setEvr h _)

theorem regsCanon_evrTake (h : regsCanon s) (r : Rec) : regsCanon (evrTake s r) :=
  regsCanon_evrWatermark (regsCanon_notifyAll (regsCanon_setEvr h _) _)

theorem regsCanon_evrOffer (h : regsCanon s) (r : Rec) : regsCanon (evrOffer s r) :=
  regsCanon_ite (regsCanon_bump (regsCanon_setEvr h _) _) (regsCanon_evrTake h _)

theorem regsCanon_event (h : regsCanon s) (block code sev die ctx unit : Nat) (data : List Byte) :
    regsCanon (event s block code sev die ctx unit data) :=
  regsCanon_evrOffer (regsCanon_bump h _) _

theorem regsCanon_eventLim (h : regsCanon s) (key len block code sev die ctx unit : Nat) (data : List Byte) :
    regsCanon (eventLim s key len block code sev die ctx unit data) := by
  grind [eventLim, regsCanon_bump, regsCanon_setEvr, regsCanon_evrOffer]

theorem regsCanon_ctxBump (h : regsCanon s) (x i n : Nat) : regsCanon (ctxBump s x i n) :=
  regsCanon_ite (regsCanon_bumpBy h _ _) h

/-! Memory. -/

theorem regsCanon_memPut (h : regsCanon s) (d P : Nat) (bs : List Byte) : regsCanon (memPut s d P bs) := by
  induction bs generalizing s P with
  | nil => exact h
  | cons b bs ih => exact ih (regsCanon_setMem h _) _

theorem regsCanon_errArise (h : regsCanon s) (i A : Nat) (e : LineErr) : regsCanon (errArise s i A e) :=
  regsCanon_ite h (regsCanon_setMem h _)

theorem regsCanon_clearErrs (h : regsCanon s) (i A : Nat) : regsCanon (clearErrs s i A) := regsCanon_setMem h _

theorem regsCanon_poisonLine (h : regsCanon s) (i A : Nat) : regsCanon (poisonLine s i A) :=
  regsCanon_ite h (regsCanon_event (regsCanon_bump (regsCanon_setMem h _) _) _ _ _ _ _ _ _)

theorem regsCanon_poisonGroup (h : regsCanon s) (i A : Nat) : regsCanon (poisonGroup s i A) :=
  regsCanon_forRange (fun _ _ ht => regsCanon_poisonLine ht _ _) h

theorem regsCanon_retireGroup (h : regsCanon s) (i A : Nat) : regsCanon (retireGroup s i A) := by
  grind [retireGroup, regsCanon_forEach, regsCanon_poisonLine, regsCanon_clearErrs, regsCanon_setNvs, regsCanon_fset,
    regsCanon_event]

theorem regsCanon_lineTouch (h : regsCanon s) (i A : Nat) : regsCanon (lineTouch s i A) :=
  regsCanon_ite h (regsCanon_ite (regsCanon_poisonGroup (regsCanon_clearErrs h _ _) _ _) (regsCanon_ite (regsCanon_poisonLine
      (regsCanon_clearErrs h _ _) _ _) (regsCanon_ite (regsCanon_retireGroup (regsCanon_bumpBy h _ _) _ _) (regsCanon_bumpBy h _
      _))))

theorem regsCanon_memTouch (h : regsCanon s) (d P n : Nat) : regsCanon (memTouch s d P n) :=
  regsCanon_ite h (regsCanon_forEach (fun _ _ ht => regsCanon_lineTouch ht _ _) h)

theorem regsCanon_memTouchPart (h : regsCanon s) (d P n : Nat) : regsCanon (memTouchPart s d P n) :=
  regsCanon_ite h (regsCanon_forEach (fun _ _ ht => regsCanon_lineTouch ht _ _) h)

theorem regsCanon_lineWritten (h : regsCanon s) (i A : Nat) : regsCanon (lineWritten s i A) :=
  regsCanon_ite h (regsCanon_clearErrs (regsCanon_clearErrs (regsCanon_ite (regsCanon_forEach (fun _ _ ht => regsCanon_poisonLine
      ht _ _) h) h) _ _) _ _)

theorem regsCanon_memWrite (h : regsCanon s) (d P : Nat) (bs : List Byte) : regsCanon (memWrite s d P bs) :=
  regsCanon_forEach (fun _ _ ht => regsCanon_ite (regsCanon_lineWritten ht _ _) (regsCanon_setMem (regsCanon_lineWritten ht _ _)
      _)) (regsCanon_memPut h _ _ _)

theorem regsCanon_ctxTouch (h : regsCanon s) (x o n : Nat) : regsCanon (ctxTouch s x o n) := by
  grind [ctxTouch, regsCanon_forEach, regsCanon_lineTouch]

theorem regsCanon_ctxTouchPart (h : regsCanon s) (x o n : Nat) : regsCanon (ctxTouchPart s x o n) := by
  grind [ctxTouchPart, regsCanon_forEach, regsCanon_memTouchPart]

theorem regsCanon_ctxPut (h : regsCanon s) (x o : Nat) (bs : List Byte) : regsCanon (ctxPut s x o bs) := by
  grind [ctxPut, regsCanon_forEach, regsCanon_memWrite]

theorem regsCanon_ctxWrite (h : regsCanon s) (x o : Nat) (bs : List Byte) : regsCanon (ctxWrite s x o bs) :=
  regsCanon_ctxPut (regsCanon_ctxTouchPart h _ _ _) _ _ _

theorem regsCanon_memDieUpdate (h : regsCanon s) : regsCanon (memDieUpdate s) :=
  regsCanon_forRange (fun _ _ ht => regsCanon_fset (regsCanon_fset ht _ _) _ _) h

theorem regsCanon_placeLog (h : regsCanon s) (x n : Nat) : ∀ t, placeLog s x n = some t → regsCanon t := by
  induction n with
  | zero => grind [placeLog]
  | succ n ih => grind [placeLog, regsCanon_setMem]

theorem regsCanon_placeWin (h : regsCanon s) (x n : Nat) : ∀ t, placeWin s x n = some t → regsCanon t := by
  induction n with
  | zero => grind [placeWin]
  | succ n ih => grind [placeWin, regsCanon_setMem]

theorem regsCanon_memCtxUpdate (h : regsCanon s) (x mslot : Nat) : regsCanon (memCtxUpdate s x mslot) := by
  grind [memCtxUpdate, regsCanon_setReg]

theorem regsCanon_placeFrames (h : regsCanon s) (x : Nat) : ∀ t, placeFrames s x = some t → regsCanon t := by
  intro t ht
  unfold placeFrames at ht
  dsimp only at ht
  split at ht
  · cases ht
  · next u hu =>
    split at ht
    · cases ht
    · next v hv =>
      rw [← Option.some.inj ht]
      exact regsCanon_memDieUpdate (regsCanon_memCtxUpdate (regsCanon_placeWin (regsCanon_placeLog h x _ u hu) x _ v hv) _ _)

theorem regsCanon_zeroFrame (h : regsCanon s) (d f : Nat) : regsCanon (zeroFrame s d f) := by grind [zeroFrame, regsCanon_setMem]
theorem regsCanon_zeroDie (h : regsCanon s) (d : Nat) : regsCanon (zeroDie s d) := regsCanon_setMem h _

theorem regsCanon_releaseFrames (h : regsCanon s) (x : Nat) : regsCanon (releaseFrames s x) :=
  regsCanon_memDieUpdate (regsCanon_resetReg (regsCanon_setMem h _) _)

theorem regsCanon_memMapLoad (h : regsCanon s) : regsCanon (memMapLoad s) := by grind [memMapLoad, regsCanon_setReg]

theorem regsCanon_patrolNote (h : regsCanon s) (i L : Nat) (words : Tab LineErr) : regsCanon (patrolNote s i L words) :=
  regsCanon_forEach (fun _ _ ht => regsCanon_ite (regsCanon_retireGroup (regsCanon_setMem ht _) _ _) (regsCanon_setMem ht _)) h

theorem regsCanon_patrolLine (h : regsCanon s) (i A : Nat) : regsCanon (patrolLine s i A) := by
  grind [patrolLine, regsCanon_lineTouch, regsCanon_clearErrs, regsCanon_patrolNote, regsCanon_poisonGroup, regsCanon_bumpBy,
    regsCanon_poisonLine]

theorem regsCanon_patrolStep (h : regsCanon s) : regsCanon (patrolStep s) :=
  regsCanon_ite (regsCanon_fset (regsCanon_fset (regsCanon_setMem h _) _ _) _ _) (regsCanon_fset (regsCanon_setMem h _) _ _)

theorem regsCanon_patrolRead (h : regsCanon s) (i A : Nat) (e : LineErr) : regsCanon (patrolRead s i A e) :=
  regsCanon_patrolStep (regsCanon_patrolLine (regsCanon_errArise h _ _ _) _ _)

theorem regsCanon_failChannel (h : regsCanon s) (i : Nat) : regsCanon (failChannel s i) :=
  regsCanon_ite h (regsCanon_event (regsCanon_setMem h _) _ _ _ _ _ _ _)

/-! Lookup. -/

theorem regsCanon_handOverDie (h : regsCanon s) (g d : Nat) : regsCanon (handOverDie s g d) := by
  grind [handOverDie, regsCanon_setTbl]

theorem regsCanon_handOver (h : regsCanon s) (g : Nat) : regsCanon (handOver s g) :=
  regsCanon_forEach (fun _ _ ht => regsCanon_handOverDie ht _ _) h

theorem regsCanon_lookGroup (h : regsCanon s) (d g h' c : Nat) (unord : Bool) (rw : Option Rewrite) :
    regsCanon (lookGroup s d g h' c unord rw).1 := by
  grind [lookGroup, regsCanon_setTbl]

theorem regsCanon_lookHop (h : regsCanon s) (d i h' c : Nat) : regsCanon (lookHop s d i h' c).1 := by
  grind [lookHop, regsCanon_lookGroup]

theorem regsCanon_lookRoute (h : regsCanon s) (d t' vrf addr h' c : Nat) : regsCanon (lookRoute s d t' vrf addr h' c).1 := by
  grind [lookRoute, regsCanon_lookHop]

theorem regsCanon_lookFabric (h : regsCanon s) (d : Nat) (f : Frame) : regsCanon (lookFabric s d f).1 := by
  grind [lookFabric, regsCanon_lookGroup]

theorem regsCanon_lookEth (h : regsCanon s) (d : Nat) (f : Frame) : regsCanon (lookEth s d f).1 := by
  grind [lookEth, regsCanon_lookRoute, regsCanon_lookGroup]

theorem regsCanon_l2Refresh (h : regsCanon s) (d vlan mac : Nat) : regsCanon (l2Refresh s d vlan mac) := by
  grind [l2Refresh, regsCanon_setTbl]

theorem regsCanon_l2Learn (h : regsCanon s) (L vlan mac : Nat) : regsCanon (l2Learn s L vlan mac) :=
  regsCanon_ite h (regsCanon_ite h (regsCanon_setTbl h _))

/-! The switch core. -/

theorem regsCanon_setVoq (h : regsCanon s) (k : Nat) (f : Voq → Voq) : regsCanon (setVoq s k f) := regsCanon_setCore h _

theorem regsCanon_creditReturn (h : regsCanon s) (f : Frame) : regsCanon (creditReturn s f) :=
  regsCanon_ite h (regsCanon_ite h (regsCanon_ite (regsCanon_setPort h _ _) (regsCanon_setPort h _ _)))

theorem regsCanon_releaseCharge (h : regsCanon s) (f : Frame) : regsCanon (releaseCharge s f) :=
  regsCanon_ite h (regsCanon_ite (regsCanon_setCore h _) (regsCanon_creditReturn (regsCanon_setCore h _) _))

theorem regsCanon_sendCrossed (h : regsCanon s) (f : Frame) : regsCanon (sendCrossed s f) := by
  grind [sendCrossed, regsCanon_setBob]

theorem regsCanon_frameCrossed (h : regsCanon s) (f : Frame) : regsCanon (frameCrossed s f) := by
  grind [frameCrossed, regsCanon_releaseCharge, regsCanon_sendCrossed, regsCanon_bump]

theorem regsCanon_ctxDrop (h : regsCanon s) (f : Frame) : regsCanon (ctxDrop s f) :=
  regsCanon_sendCrossed (regsCanon_ctxBump h _ _ _) _

theorem regsCanon_discardFrame (h : regsCanon s) (f : Frame) : regsCanon (discardFrame s f) :=
  regsCanon_releaseCharge (regsCanon_ctxDrop h _) _

theorem regsCanon_mcFree (h : regsCanon s) (m : Nat) : regsCanon (mcFree s m) :=
  regsCanon_ite (regsCanon_frameCrossed (regsCanon_setCore h _) _) h

theorem regsCanon_mcUnref (h : regsCanon s) (m : Nat) : regsCanon (mcUnref s m) := regsCanon_mcFree (regsCanon_setCore h _) _
theorem regsCanon_trimVoq (h : regsCanon s) (k : Nat) : regsCanon (trimVoq s k) := regsCanon_setVoq h _ _

theorem regsCanon_voqErase (h : regsCanon s) (k n : Nat) (e : QEnt) : regsCanon (voqErase s k n e) :=
  regsCanon_trimVoq (regsCanon_setVoq h _ _) _

theorem regsCanon_countDiscard (h : regsCanon s) (L : Nat) : regsCanon (countDiscard s L) :=
  regsCanon_ite (regsCanon_setPort h _ _) (regsCanon_bump h _)

theorem regsCanon_copyDrop (h : regsCanon s) (f : Frame) : regsCanon (copyDrop s f) := regsCanon_ctxBump h _ _ _

theorem regsCanon_lostAt (h : regsCanon s) (f : Frame) : regsCanon (lostAt s f) :=
  regsCanon_ite (regsCanon_copyDrop h _) (regsCanon_ctxDrop h _)

theorem regsCanon_setNode (h : regsCanon s) (k : Nat) (x : Node) : regsCanon (setNode s k x) := regsCanon_setTm h _
theorem regsCanon_noDeficit (h : regsCanon s) (k : Nat) : regsCanon (noDeficit s k) := regsCanon_ite h (regsCanon_setNode h _ _)

theorem regsCanon_emptied (h : regsCanon s) (L c sub : Nat) : regsCanon (emptied s L c sub) := by
  grind [emptied, regsCanon_noDeficit, regsCanon_setTm]

theorem regsCanon_suppress (h : regsCanon s) (L : Nat) (f : Frame) : regsCanon (suppress s L f) :=
  regsCanon_ite (regsCanon_setCore (regsCanon_bump (regsCanon_bump h _) _) _) (regsCanon_bump (regsCanon_bump h _) _)

theorem regsCanon_egrRelease (h : regsCanon s) (L c : Nat) (f : Frame) : regsCanon (egrRelease s L c f) := regsCanon_setCore h _

theorem regsCanon_giveUp (h : regsCanon s) (o : Nat) (f : Frame) : regsCanon (giveUp s o f) :=
  regsCanon_setCore (regsCanon_ite (regsCanon_egrRelease h _ _ _) h) _

theorem regsCanon_discardEnt (h : regsCanon s) (o : Nat) (e : QEnt) : regsCanon (discardEnt s o e) := by
  cases e <;> grind [discardEnt, regsCanon_discardFrame, regsCanon_countDiscard, regsCanon_mcUnref, regsCanon_suppress,
      regsCanon_copyDrop, regsCanon_bump]

theorem regsCanon_discardEnts (h : regsCanon s) (k : Nat) (p : QEnt → Bool) : regsCanon (discardEnts s k p) :=
  regsCanon_forEach (fun _ _ ht => regsCanon_discardEnt ht _ _) (regsCanon_forEach (fun _ _ ht => regsCanon_voqErase ht _ _ _)
      (regsCanon_forEach (fun _ _ ht => regsCanon_ite (regsCanon_giveUp ht _ _) ht) h))

theorem regsCanon_discardVoq (h : regsCanon s) (k : Nat) : regsCanon (discardVoq s k) := regsCanon_discardEnts h _ _

theorem regsCanon_egrDiscard (h : regsCanon s) (L c : Nat) (f : Frame) : regsCanon (egrDiscard s L c f) :=
  regsCanon_ite (regsCanon_suppress (regsCanon_egrRelease h _ _ _) _ _) (regsCanon_lostAt (regsCanon_countDiscard
      (regsCanon_egrRelease h _ _ _) _) _)

theorem regsCanon_discardEgress (h : regsCanon s) (L : Nat) (p : Nat → Bool) : regsCanon (discardEgress s L p) :=
  regsCanon_forRange (fun _ _ ht => regsCanon_ite (regsCanon_forRange (fun _ _ hu => regsCanon_ite hu (regsCanon_forEach (fun _ _
      hv => regsCanon_egrDiscard hv _ _ _) (regsCanon_emptied (regsCanon_setCore hu _) _ _ _))) ht) ht) h

theorem regsCanon_discardPort (h : regsCanon s) (L : Nat) : regsCanon (discardPort s L) :=
  regsCanon_discardEgress (regsCanon_forRange (fun _ _ ht => regsCanon_forRange (fun _ _ hu => regsCanon_ite hu
      (regsCanon_discardVoq hu _)) ht) h) _ _

theorem regsCanon_discardQuar (h : regsCanon s) (L : Nat) : regsCanon (discardQuar s L) :=
  regsCanon_discardEgress (regsCanon_forRange (fun _ _ ht => regsCanon_forRange (fun _ _ hu => regsCanon_ite hu
      (regsCanon_discardEnts hu _ _)) ht) h) _ _

theorem regsCanon_pushMulticast (h : regsCanon s) (k : Nat) (f : Frame) : regsCanon (pushMulticast s k f) := by
  grind [pushMulticast, regsCanon_forEach, regsCanon_bump, regsCanon_giveUp, regsCanon_discardFrame, regsCanon_setCore,
    regsCanon_setVoq, regsCanon_copyDrop]

theorem regsCanon_pushTail (h : regsCanon s) (k : Nat) : regsCanon (pushTail s k) := by
  grind [pushTail, regsCanon_giveUp, regsCanon_bump, regsCanon_voqErase, regsCanon_mcUnref, regsCanon_copyDrop,
    regsCanon_pushMulticast, regsCanon_discardFrame]

theorem regsCanon_pushQueue (h : regsCanon s) (need k n : Nat) : regsCanon (pushQueue need k n s) := by
  induction n generalizing s with
  | zero => exact h
  | succ n ih => grind [pushQueue, regsCanon_pushTail]

theorem regsCanon_pushOut (h : regsCanon s) (need d n : Nat) : regsCanon (pushOut need d n s) := by
  induction n generalizing s with
  | zero => exact h
  | succ n ih => grind [pushOut, regsCanon_pushQueue]

theorem regsCanon_queueFrame (h : regsCanon s) (k : Nat) (f : Frame) : regsCanon (queueFrame s k f) := regsCanon_setVoq h _ _

theorem regsCanon_mcStore (h : regsCanon s) (k : Nat) (f : Frame) : regsCanon (mcStore s k f) :=
  regsCanon_ite (regsCanon_setCore h _) h

theorem regsCanon_enqueue (h : regsCanon s) (k : Nat) (f : Frame) : regsCanon (enqueue s k f) :=
  regsCanon_setCore (regsCanon_mcStore (regsCanon_queueFrame h _ _) _ _) _

theorem regsCanon_dropAtAdmission (h : regsCanon s) (f : Frame) (off : Nat) : regsCanon (dropAtAdmission s f off) :=
  regsCanon_ctxDrop (regsCanon_creditReturn (regsCanon_ite (regsCanon_bump h _) h) _) _

theorem regsCanon_telEcn (h : regsCanon s) (f : Frame) : regsCanon (telEcn s f) := regsCanon_setTel h _

theorem regsCanon_admitFrame (h : regsCanon s) (f : Frame) : regsCanon (admitFrame s f) := by
  grind [admitFrame, regsCanon_ctxBump, regsCanon_dropAtAdmission, regsCanon_draw, regsCanon_telEcn, regsCanon_bump,
    regsCanon_creditReturn, regsCanon_enqueue, regsCanon_pushOut]

theorem regsCanon_egressState (h : regsCanon s) (f : Frame) : regsCanon (egressState s f) := by
  grind [egressState, regsCanon_ctxDrop, regsCanon_creditReturn, regsCanon_bump, regsCanon_setPort, regsCanon_admitFrame]

theorem regsCanon_makeRequests (h : regsCanon s) (k : Nat) : regsCanon (makeRequests s k) :=
  regsCanon_ite h (regsCanon_setVoq h _ _)

theorem regsCanon_relayCells {a : State × Epoch} (h : regsCanon a.1) : regsCanon (relayCells a).1 := by
  refine List.foldlRecOn (motive := fun a : State × Epoch => regsCanon a.1) _ _ h fun a ha st _ => ?_
  refine List.foldlRecOn (motive := fun a : State × Epoch => regsCanon a.1) _ _ ha fun a ha x _ => ?_
  grind [regsCanon_setCore]

theorem regsCanon_sendCell (h : regsCanon s) (d j relay : Nat) (ps : List Piece) : regsCanon (sendCell s d j relay ps) :=
  regsCanon_setCore h _

theorem regsCanon_egrReserve (h : regsCanon s) (o c rest frames : Nat) : regsCanon (egrReserve s o c rest frames) :=
  regsCanon_ite (regsCanon_setCore h _) h

theorem regsCanon_crossUnicast (h : regsCanon s) (d o c relay : Nat) : regsCanon (crossUnicast s d o c relay) := by
  grind [crossUnicast, regsCanon_egrReserve, regsCanon_setVoq, regsCanon_sendCell, regsCanon_forEach, regsCanon_setCore,
    regsCanon_frameCrossed, regsCanon_mcUnref]

theorem regsCanon_mcAdvance (h : regsCanon s) (d c : Nat) : regsCanon (mcAdvance s d c) := by
  grind [mcAdvance, regsCanon_setVoq, regsCanon_mcFree, regsCanon_setCore]

theorem regsCanon_shareCell (h : regsCanon s) (d o n : Nat) : regsCanon (shareCell s d o n) := regsCanon_setCore h _

theorem regsCanon_crossMulticast (h : regsCanon s) (d o c : Nat) (path : Nat ⊕ Nat) :
    regsCanon (crossMulticast s d o c path) := by
  grind [crossMulticast, regsCanon_egrReserve, regsCanon_sendCell, regsCanon_shareCell, regsCanon_setCore,
    regsCanon_mcAdvance]

theorem regsCanon_movePointers (h : regsCanon s) (g : Grant) : regsCanon (movePointers s g) := by
  grind [movePointers, regsCanon_setCore]

theorem regsCanon_acceptMulticast (h : regsCanon s) (e : Epoch) (f : Frame) (d o c : Nat) :
    ∀ t, acceptMulticast s e f d o c = some t → regsCanon t.1 := by
  grind [acceptMulticast, regsCanon_crossMulticast]

theorem regsCanon_acceptGrant {a : State × Epoch} (h : regsCanon a.1) (round1 : Bool) (g : Grant) :
    regsCanon (acceptGrant round1 a g).1 := by
  obtain ⟨s, e⟩ := a
  obtain ⟨ln, o, c, d⟩ := g
  unfold acceptGrant
  dsimp only
  split
  · exact h
  · next t _ heq =>
    have ht : regsCanon t := by
      split at heq
      · exact regsCanon_acceptMulticast h _ _ _ _ _ _ heq
      · split at heq
        · cases heq
        · split at heq
          · cases heq
          · cases heq
            exact regsCanon_crossUnicast h _ _ _ _
    split
    · exact regsCanon_movePointers ht _
    · exact ht

theorem regsCanon_schedRound {a : State × Epoch} (h : regsCanon a.1) (round1 : Bool) : regsCanon (schedRound round1 a).1 := by
  exact List.foldlRecOn (motive := fun a : State × Epoch => regsCanon a.1) _ _ h fun a ha g _ => regsCanon_acceptGrant ha _ g

theorem regsCanon_mcGone (h : regsCanon s) (f : Frame) (p : Nat) : regsCanon (mcGone s f p) :=
  regsCanon_setCore (regsCanon_ite (regsCanon_giveUp h _ _) h) _

theorem regsCanon_mcNotUp (h : regsCanon s) (f : Frame) (p : Nat) : regsCanon (mcNotUp s f p) :=
  regsCanon_copyDrop (regsCanon_bump (regsCanon_mcGone h _ _) _) _

theorem regsCanon_residueRef (h : regsCanon s) (d c : Nat) (f : Frame) (p b : Nat) : regsCanon (residueRef s d c f p b) :=
  regsCanon_ite (regsCanon_mcGone (regsCanon_suppress h _ _) _ _) (regsCanon_ite (regsCanon_mcNotUp h _ _) (regsCanon_setVoq
      (regsCanon_setCore h _) _ _))

theorem regsCanon_mcStart (h : regsCanon s) (d c : Nat) : regsCanon (mcStart s d c) := by
  grind [mcStart, regsCanon_setCore, regsCanon_forEach, regsCanon_mcGone, regsCanon_suppress, regsCanon_mcNotUp,
    regsCanon_bump, regsCanon_residueRef, regsCanon_mcAdvance]

theorem regsCanon_schedEpoch (h : regsCanon s) : regsCanon (schedEpoch s) := by
  grind [schedEpoch, regsCanon_forRange, regsCanon_mcStart, regsCanon_forEach, regsCanon_makeRequests, regsCanon_schedRound,
    regsCanon_relayCells]

theorem regsCanon_mcResidue (h : regsCanon s) (d c : Nat) : regsCanon (mcResidue s d c) := by
  grind [mcResidue, regsCanon_mcAdvance, regsCanon_forEach, regsCanon_residueRef]

theorem regsCanon_deliver (h : regsCanon s) (o : Nat) (f : Frame) : regsCanon (deliver s o f) := by
  grind [deliver, regsCanon_setCore, regsCanon_egrRelease, regsCanon_suppress, regsCanon_lostAt, regsCanon_bump,
    regsCanon_ctxDrop, regsCanon_setPort]

theorem regsCanon_takePiece (h : regsCanon s) (p : Piece) : regsCanon (takePiece s p) :=
  regsCanon_forEach (fun _ _ ht => regsCanon_ite (regsCanon_ite (regsCanon_giveUp (regsCanon_lostAt (regsCanon_setCore ht _) _) _
      _) (regsCanon_deliver (regsCanon_setCore ht _) _ _)) (regsCanon_setCore ht _)) h

theorem regsCanon_losePiece (h : regsCanon s) (p : Piece) : regsCanon (losePiece s p) :=
  regsCanon_forEach (fun _ _ ht => regsCanon_ite (regsCanon_giveUp (regsCanon_lostAt ht _) _ _) (regsCanon_setCore ht _)) h

theorem regsCanon_releaseEarly (h : regsCanon s) (st n : Nat) : regsCanon (releaseEarly st n s) := by
  induction n generalizing s with
  | zero => exact h
  | succ n ih => grind [releaseEarly, regsCanon_setCore, regsCanon_forEach, regsCanon_takePiece]

theorem regsCanon_cellArrive (h : regsCanon s) (i j path : Nat) : regsCanon (cellArrive s i j path) := by
  grind [cellArrive, regsCanon_setCore, regsCanon_releaseEarly, regsCanon_forEach, regsCanon_takePiece]

theorem regsCanon_loseCells (h : regsCanon s) (i j : Nat) (p : Cell → Bool) : regsCanon (loseCells s i j p) := by
  grind [loseCells, regsCanon_setCore, regsCanon_forEach, regsCanon_losePiece, regsCanon_event, regsCanon_bumpBy,
    regsCanon_setFlt, regsCanon_releaseEarly]

theorem regsCanon_reseqTimeout (h : regsCanon s) (i j : Nat) : regsCanon (reseqTimeout s i j) :=
  regsCanon_ite h (regsCanon_loseCells h _ _ _)

theorem regsCanon_newId (h : regsCanon s) : regsCanon (newId s).2 := by grind [newId, regsCanon_setCore]

end Sys2Proof.Machine
end

section
/-! SUPPORT. The register file stays canonical (O3): ports, links, lasers, tables and traffic management. -/

namespace Sys2Proof.Machine

set_option Elab.async false

variable {s : State}

/-! Ports. -/

theorem regsCanon_portRefresh (h : regsCanon s) (L : Nat) : regsCanon (portRefresh s L) := by
  grind [portRefresh, regsCanon_fset, regsCanon_bump, regsCanon_setPort, regsCanon_discardPort, regsCanon_discardQuar,
    regsCanon_ring]

theorem regsCanon_setUnder (h : regsCanon s) (L u : Nat) : regsCanon (setUnder s L u) :=
  regsCanon_portRefresh (regsCanon_setPort (regsCanon_ite (regsCanon_setSys h _) h) _ _) _

theorem regsCanon_fencePort (h : regsCanon s) (L cause : Nat) : regsCanon (fencePort s L cause) :=
  regsCanon_ite h (regsCanon_ring (regsCanon_event (regsCanon_portRefresh (regsCanon_fset (regsCanon_fset (regsCanon_fset h _ _) _
      _) _ _) _) _ _ _ _ _ _ _) _)

theorem regsCanon_unfencePort (h : regsCanon s) (L : Nat) : regsCanon (unfencePort s L) :=
  regsCanon_ite h (regsCanon_ring (regsCanon_event (regsCanon_portRefresh (regsCanon_fset h _ _) _) _ _ _ _ _ _ _) _)

theorem regsCanon_linkFailure (h : regsCanon s) (L cause : Nat) : regsCanon (linkFailure s L cause) :=
  regsCanon_ite h (regsCanon_fencePort h _ _)

theorem regsCanon_enterTraining (h : regsCanon s) (L : Nat) : regsCanon (enterTraining s L) :=
  regsCanon_setUnder (regsCanon_setPort (regsCanon_fset (regsCanon_fset (regsCanon_forEach (fun _ _ ht => regsCanon_setLane
      (regsCanon_fset (regsCanon_fset ht _ _) _ _) _ _) h) _ _) _ _) _ _) _ _

theorem regsCanon_retryAtTime (h : regsCanon s) (L t' : Nat) : regsCanon (retryAtTime s L t') := regsCanon_setPort h _ _

theorem regsCanon_portDown (h : regsCanon s) (L : Nat) : regsCanon (portDown s L) :=
  regsCanon_retryAtTime (regsCanon_setUnder h _ _) _ _

theorem regsCanon_laneCondition (h : regsCanon s) (l cause : Nat) : regsCanon (laneCondition s l cause) :=
  regsCanon_ite h (regsCanon_ite (regsCanon_linkFailure (regsCanon_portDown h _) _ _) (regsCanon_ite (regsCanon_portDown h _) h))

theorem regsCanon_losAssert (h : regsCanon s) (l : Nat) (pwr : BitVec 16) : regsCanon (losAssert s l pwr) :=
  regsCanon_ite h (regsCanon_ite (regsCanon_fset h _ _) (regsCanon_laneCondition (regsCanon_fset (regsCanon_fset h _ _) _ _) _ _))

theorem regsCanon_losClear (h : regsCanon s) (l : Nat) (pwr : BitVec 16) : regsCanon (losClear s l pwr) :=
  regsCanon_ite h (regsCanon_ite (regsCanon_enterTraining (regsCanon_fset (regsCanon_fset h _ _) _ _) _) (regsCanon_fset
      (regsCanon_fset h _ _) _ _))

theorem regsCanon_lolAssert (h : regsCanon s) (l : Nat) : regsCanon (lolAssert s l) :=
  regsCanon_ite h (regsCanon_ite h (regsCanon_laneCondition (regsCanon_fset h _ _) _ _))

theorem regsCanon_clockLock (h : regsCanon s) (l : Nat) : regsCanon (clockLock s l) := regsCanon_ite (regsCanon_fset h _ _) h

theorem regsCanon_alignmentLoss (h : regsCanon s) (l : Nat) : regsCanon (alignmentLoss s l) :=
  regsCanon_ite h (regsCanon_ite h (regsCanon_laneCondition (regsCanon_fset h _ _) _ _))

theorem regsCanon_uncorrectable (h : regsCanon s) (l : Nat) : regsCanon (uncorrectable s l) :=
  regsCanon_ite h (regsCanon_ite (regsCanon_laneCondition (regsCanon_setLane (regsCanon_bump h _) _ _) _ _) (regsCanon_setLane
      (regsCanon_bump h _) _ _))

theorem regsCanon_sdWindow (h : regsCanon s) (l corrected received : Nat) : regsCanon (sdWindow s l corrected received) :=
  regsCanon_ite h (regsCanon_ite (regsCanon_event (regsCanon_fset (regsCanon_bumpBy h _ _) _ _) _ _ _ _ _ _ _) (regsCanon_ite
      (regsCanon_event (regsCanon_fset (regsCanon_bumpBy h _ _) _ _) _ _ _ _ _ _ _) (regsCanon_bumpBy h _ _)))

theorem regsCanon_portToUp (h : regsCanon s) (L ver : Nat) (serial : List Byte) : regsCanon (portToUp s L ver serial) :=
  regsCanon_ite (regsCanon_event (regsCanon_setUnder (regsCanon_fset h _ _) _ _) _ _ _ _ _ _ _) (regsCanon_setUnder
      (regsCanon_fset h _ _) _ _)

theorem regsCanon_portToQuar (h : regsCanon s) (L reason : Nat) (serial : List Byte) : regsCanon (portToQuar s L reason serial) :=
  regsCanon_ite (regsCanon_event (regsCanon_setUnder (regsCanon_fset h _ _) _ _) _ _ _ _ _ _ _) (regsCanon_setUnder
      (regsCanon_fset h _ _) _ _)

theorem regsCanon_ethCompare (h : regsCanon s) (L : Nat) : regsCanon (ethCompare s L) :=
  regsCanon_ite (regsCanon_portToUp h _ _ _) (regsCanon_portToQuar h _ _ _)

theorem regsCanon_compareNbr (h : regsCanon s) (L : Nat) : regsCanon (compareNbr s L) := by
  grind [compareNbr, regsCanon_ethCompare, regsCanon_portToUp, regsCanon_portToQuar]

theorem regsCanon_identStore (h : regsCanon s) (L : Nat) (r : BitVec 256) : regsCanon (identStore s L r) := by
  grind [identStore, regsCanon_setPort, regsCanon_setReg, regsCanon_portDown, regsCanon_compareNbr, regsCanon_fset]

theorem regsCanon_endResync (h : regsCanon s) (L : Nat) : regsCanon (endResync s L) := regsCanon_setPort h _ _

theorem regsCanon_identRx (h : regsCanon s) (L : Nat) (r : BitVec 256) (hasA : Bool) : regsCanon (identRx s L r hasA) :=
  regsCanon_ite h (regsCanon_ite (regsCanon_bump (regsCanon_endResync h _) _) (regsCanon_ite (regsCanon_identStore
      (regsCanon_endResync h _) _ _) (regsCanon_setPort (regsCanon_endResync h _) _ _)))

theorem regsCanon_identTx (h : regsCanon s) (L : Nat) : regsCanon (identTx s L) :=
  regsCanon_ite h (regsCanon_ite h (regsCanon_emit (regsCanon_emit (regsCanon_setPort h _ _) _) _))

theorem regsCanon_alignLock (h : regsCanon s) (l : Nat) : regsCanon (alignLock s l) :=
  regsCanon_ite h (regsCanon_ite (regsCanon_ite (regsCanon_ethCompare (regsCanon_setPort (regsCanon_fset h _ _) _ _) _)
      (regsCanon_setPort (regsCanon_fset h _ _) _ _)) (regsCanon_fset h _ _))

theorem regsCanon_noIdentTimeout (h : regsCanon s) (L : Nat) : regsCanon (noIdentTimeout s L) :=
  regsCanon_ite (regsCanon_portToQuar h _ _ _) h

theorem regsCanon_trainTimeout (h : regsCanon s) (L : Nat) : regsCanon (trainTimeout s L) := by
  grind [trainTimeout, regsCanon_retryAtTime, regsCanon_setUnder, regsCanon_evrOffer, regsCanon_setEvr, regsCanon_setPort,
    regsCanon_eventLim]

theorem regsCanon_trainRetry (h : regsCanon s) (L : Nat) : regsCanon (trainRetry s L) :=
  regsCanon_ite (regsCanon_enterTraining h _) h

theorem regsCanon_portEffect (h : regsCanon s) (off : Nat) (w : Word) : regsCanon (portEffect s off w) :=
  regsCanon_ite h (regsCanon_ite (regsCanon_ite (regsCanon_portDown (regsCanon_ite (regsCanon_setPort h _ _) h) _) (regsCanon_ite
      (regsCanon_setPort h _ _) h)) (regsCanon_ite (regsCanon_ite (regsCanon_compareNbr h _) h) h))

/-! The link outside frames. -/

theorem regsCanon_rxBlock (h : regsCanon s) (L : Nat) (b : BitVec 256) (ts : List Nat) {f : State → State}
    (hf : ∀ t, regsCanon t → regsCanon (f t)) : regsCanon (rxBlock s L b ts f) := by
  grind [rxBlock, regsCanon_bump, regsCanon_endResync]

theorem regsCanon_creditRx (h : regsCanon s) (L : Nat) (b : BitVec 256) : regsCanon (creditRx s L b) :=
  regsCanon_rxBlock h L b _ fun _ ht => regsCanon_setPort ht _ _

theorem regsCanon_creditInitRx (h : regsCanon s) (L : Nat) (b : BitVec 256) : regsCanon (creditInitRx s L b) :=
  regsCanon_rxBlock h L b _ fun _ ht => regsCanon_setPort ht _ _

theorem regsCanon_pauseSwapRx (h : regsCanon s) (L : Nat) (b : BitVec 256) : regsCanon (pauseSwapRx s L b) :=
  regsCanon_rxBlock h L b _ fun _ ht => regsCanon_setPort ht _ _

theorem regsCanon_alignRx (h : regsCanon s) (L : Nat) (b : BitVec 256) : regsCanon (alignRx s L b) := by
  have hrx := regsCanon_rxBlock h L b [0x4B] (f := id) fun _ ht => ht
  grind [alignRx, regsCanon_setLane]

theorem regsCanon_pauseSwapEnd (h : regsCanon s) (L : Nat) : regsCanon (pauseSwapEnd s L) :=
  regsCanon_ite (regsCanon_setPort h _ _) h

theorem regsCanon_creditInitTx (h : regsCanon s) (L : Nat) : regsCanon (creditInitTx s L) :=
  regsCanon_ite h (regsCanon_emit (regsCanon_emit (regsCanon_setPort h _ _) _) _)

theorem regsCanon_creditTx (h : regsCanon s) (L n : Nat) : regsCanon (creditTx s L n) :=
  regsCanon_ite h (regsCanon_emit (regsCanon_setPort h _ _) _)

theorem regsCanon_creditTimeout (h : regsCanon s) (L : Nat) : regsCanon (creditTimeout s L) :=
  regsCanon_ite (regsCanon_linkFailure (regsCanon_portDown h _) _ _) h

theorem regsCanon_alignTx (h : regsCanon s) (l : Nat) : regsCanon (alignTx s l) :=
  regsCanon_ite h (regsCanon_ite (regsCanon_emit (regsCanon_setLane h _ _) _) (regsCanon_emit (regsCanon_setLane h _ _) _))

theorem regsCanon_scrubTx (h : regsCanon s) (l : Nat) : regsCanon (scrubTx s l) := regsCanon_ite (regsCanon_emit h _) h

theorem regsCanon_sendPfc (h : regsCanon s) (L c quanta : Nat) : regsCanon (sendPfc s L c quanta) :=
  regsCanon_ite (regsCanon_emit (regsCanon_bump h _) _) (regsCanon_setTel (regsCanon_emit (regsCanon_bump h _) _) _)

theorem regsCanon_pfcOne (h : regsCanon s) (L c : Nat) : regsCanon (pfcOne s L c) :=
  regsCanon_ite h (regsCanon_ite (regsCanon_sendPfc (regsCanon_setPort h _ _) _ _ _) (regsCanon_ite (regsCanon_sendPfc
      (regsCanon_setPort h _ _) _ _ _) h))

theorem regsCanon_pfcScan (h : regsCanon s) (L : Nat) : regsCanon (pfcScan s L) :=
  regsCanon_ite (regsCanon_forRange (fun _ _ ht => regsCanon_pfcOne ht _ _) h) h

theorem regsCanon_pfcRelease (h : regsCanon s) : regsCanon (pfcRelease s) :=
  regsCanon_forEach (fun _ _ ht => regsCanon_pfcScan ht _) h

theorem regsCanon_pfcRepeat (h : regsCanon s) (L c : Nat) : regsCanon (pfcRepeat s L c) :=
  regsCanon_ite (regsCanon_sendPfc (regsCanon_setPort h _ _) _ _ _) h

theorem regsCanon_pfcRx (h : regsCanon s) (L : Nat) (enable : BitVec 8) (quanta : BitVec 128) :
    regsCanon (pfcRx s L enable quanta) :=
  regsCanon_ite h (regsCanon_forRange (fun _ _ ht => regsCanon_ite (regsCanon_setPort ht _ _) ht) (regsCanon_bump h _))

theorem regsCanon_pfcExpire (h : regsCanon s) (L p : Nat) : regsCanon (pfcExpire s L p) :=
  regsCanon_ite (regsCanon_setPort h _ _) h

/-! Lasers and eye safety. -/

theorem regsCanon_randomProbe (h : regsCanon s) : regsCanon (randomProbe s).2 := by grind [randomProbe, regsCanon_draw]

theorem regsCanon_fibrePorts (h : regsCanon s) (F : Nat) : regsCanon (fibrePorts s F) :=
  regsCanon_forRange (fun _ _ ht => regsCanon_ite ht (regsCanon_ite (regsCanon_setUnder ht _ _) (regsCanon_portRefresh ht _))) h

theorem regsCanon_fibreShow (h : regsCanon s) (F : Nat) : regsCanon (fibreShow s F) :=
  regsCanon_ite (regsCanon_fset (regsCanon_fset h _ _) _ _) h

theorem regsCanon_gateClose (h : regsCanon s) (F : Nat) : regsCanon (gateClose s F) :=
  regsCanon_fibrePorts (regsCanon_fibreShow (regsCanon_setFibre h _ _) _) _

theorem regsCanon_gateBegin (h : regsCanon s) (F : Nat) : regsCanon (gateBegin s F) := by
  grind [gateBegin, regsCanon_gateClose, regsCanon_randomProbe, regsCanon_setFibre]

theorem regsCanon_fibreGoesDark (h : regsCanon s) (F : Nat) : regsCanon (fibreGoesDark s F) :=
  regsCanon_ite (regsCanon_gateBegin (regsCanon_fibreShow (regsCanon_setFibre h _ _) _) _) (regsCanon_fibreShow
      (regsCanon_setFibre h _ _) _)

theorem regsCanon_fibreProbe (h : regsCanon s) (F : Nat) : regsCanon (fibreProbe s F) :=
  regsCanon_ite (regsCanon_fibreShow (regsCanon_setFibre h _ _) _) h

theorem regsCanon_probeEnd (h : regsCanon s) (F : Nat) : regsCanon (probeEnd s F) :=
  regsCanon_ite (regsCanon_fibreShow (regsCanon_setFibre h _ _) _) h

theorem regsCanon_fibreLight (h : regsCanon s) (F : Nat) : regsCanon (fibreLight s F) := by
  grind [fibreLight, regsCanon_fibreShow, regsCanon_setFibre, regsCanon_fibrePorts, regsCanon_forRange, regsCanon_retryAtTime]

theorem regsCanon_forceCloseEffect (h : regsCanon s) (F : Nat) (before : Bool) : regsCanon (forceCloseEffect s F before) :=
  regsCanon_ite (regsCanon_gateClose h _) (regsCanon_ite (regsCanon_gateBegin h _) h)

theorem regsCanon_lasEvent (h : regsCanon s) (i st : Nat) : regsCanon (lasEvent s i st) :=
  regsCanon_event (regsCanon_fset h _ _) _ _ _ _ _ _ _

theorem regsCanon_laserLanesDown (h : regsCanon s) (b W : Nat) (noLaser : Bool) : regsCanon (laserLanesDown s b W noLaser) :=
  regsCanon_forRange (fun _ _ ht => regsCanon_ite (regsCanon_ite (regsCanon_fset ht _ _) ht) (regsCanon_portDown (regsCanon_ite
      (regsCanon_fset ht _ _) ht) _)) h

theorem regsCanon_changeover (h : regsCanon s) (b k : Nat) : regsCanon (changeover s b k) := by
  grind [changeover, regsCanon_setBank, regsCanon_lasEvent, regsCanon_fset]

theorem regsCanon_nextChangeover (h : regsCanon s) (b : Nat) : regsCanon (nextChangeover s b) := by
  grind [nextChangeover, regsCanon_setBank, regsCanon_changeover]

theorem regsCanon_laserFade (h : regsCanon s) (i : Nat) (rel : BitVec 16) (sudden : Bool) :
    regsCanon (laserFade s i rel sudden) := by
  grind [laserFade, regsCanon_fset, regsCanon_laserLanesDown, regsCanon_lasEvent, regsCanon_setNvs, regsCanon_changeover]

theorem regsCanon_spareLocked (h : regsCanon s) (b : Nat) : regsCanon (spareLocked s b) :=
  regsCanon_ite (regsCanon_setBank h _ _) h

theorem regsCanon_spareLockTimeout (h : regsCanon s) (b : Nat) : regsCanon (spareLockTimeout s b) := by
  grind [spareLockTimeout, regsCanon_fset, regsCanon_lasEvent, regsCanon_setNvs, regsCanon_changeover, regsCanon_setBank,
    regsCanon_nextChangeover]

theorem regsCanon_changeoverEnd (h : regsCanon s) (b : Nat) : regsCanon (changeoverEnd s b) :=
  regsCanon_nextChangeover (regsCanon_setNvs (regsCanon_fset (regsCanon_fset (regsCanon_lasEvent h _ _) _ _) _ _) _) _

theorem regsCanon_swapFill (h : regsCanon s) (L : Nat) : regsCanon (swapFill s L) :=
  regsCanon_ite (regsCanon_emit (regsCanon_setPort h _ _) _) (regsCanon_emit (regsCanon_forRange (fun _ _ ht => regsCanon_emit ht
      _) (regsCanon_setPort h _ _)) _)

theorem regsCanon_fibreSwap (h : regsCanon s) (b : Nat) : regsCanon (fibreSwap s b) := by
  grind [fibreSwap, regsCanon_swapFill, regsCanon_fset, regsCanon_setBank, regsCanon_changeoverEnd]

theorem regsCanon_lasersOff (h : regsCanon s) : regsCanon (lasersOff s) := by
  unfold lasersOff
  refine regsCanon_setByp (regsCanon_setSys (s := { forRange 160 s _ with banks := [] }) (show regsCanon (forRange 160 s _) from
      ?_) _) _
  refine regsCanon_forRange (fun t i ht => ?_) h
  grind [regsCanon_fset]

theorem regsCanon_lasersOn (h : regsCanon s) : regsCanon (lasersOn s) := by
  grind [lasersOn, regsCanon_forRange, regsCanon_fset, regsCanon_setByp, regsCanon_setSys]

/-! The DMA queues' shared operations. -/

theorem regsCanon_dqPut (h : regsCanon s) (q i : Nat) (body : List Byte) (irq : Bool) : regsCanon (dqPut s q i body irq) :=
  regsCanon_ite (regsCanon_ite (regsCanon_ring (regsCanon_emit h _) _) (regsCanon_emit h _)) h

theorem regsCanon_dqDrainTable (h : regsCanon s) (n : Nat) : regsCanon (dqDrainTable n s) := by
  induction n generalizing s with
  | zero => exact h
  | succ n ih => grind [dqDrainTable, regsCanon_dqPut, regsCanon_setHost]

theorem regsCanon_dqTableDone (h : regsCanon s) (i : Nat) (body : List Byte) (irq : Bool) :
    regsCanon (dqTableDone s i body irq) :=
  regsCanon_ite h (regsCanon_dqDrainTable (regsCanon_setHost h _) _)

theorem regsCanon_dqForget (h : regsCanon s) : regsCanon (dqForget s) := by grind [dqForget, regsCanon_setHost, regsCanon_setTbl]

theorem regsCanon_dqStop (h : regsCanon s) (q err : Nat) : regsCanon (dqStop s q err) :=
  regsCanon_ring (regsCanon_ite (regsCanon_dqForget (regsCanon_fset (regsCanon_fset h _ _) _ _)) (regsCanon_fset (regsCanon_fset h
      _ _) _ _)) _

/-! The table command engine. -/

theorem regsCanon_tblCompleteAt (h : regsCanon s) (E : Nat) (d : List Byte) (dma : Option Nat) (code arg count : Nat)
    (key data : List Byte) : regsCanon (tblCompleteAt s E d dma code arg count key data) := by
  cases dma <;> grind [tblCompleteAt, regsCanon_forRange, regsCanon_setReg, regsCanon_fset, regsCanon_ring, regsCanon_dqTableDone]

theorem regsCanon_tblComplete (h : regsCanon s) (d : List Byte) (dma : Option Nat) (code arg count : Nat) (key data : List Byte) :
    regsCanon (tblComplete s d dma code arg count key data) :=
  regsCanon_tblCompleteAt h _ _ _ _ _ _ _ _

theorem regsCanon_tblCode (h : regsCanon s) (d : List Byte) (dma : Option Nat) (code : Nat) : regsCanon (tblCode s d dma code) :=
  regsCanon_tblComplete h _ _ _ _ _ _ _

theorem regsCanon_tblSubmit (h : regsCanon s) (d : List Byte) (dma : Option Nat) : regsCanon (tblSubmit s d dma) :=
  regsCanon_ite (regsCanon_tblCode h _ _ _) (regsCanon_ite (regsCanon_tblCode h _ _ _) (regsCanon_setTbl h _))

theorem regsCanon_tblGo (h : regsCanon s) : regsCanon (tblGo s) := regsCanon_tblSubmit (regsCanon_fset h _ _) _ _

theorem regsCanon_putEntry (h : regsCanon s) (d t' i : Nat) (e : Option Entry) : regsCanon (putEntry s d t' i e) :=
  regsCanon_setTbl h _

theorem regsCanon_usedUpdate (h : regsCanon s) (t' : Nat) : regsCanon (usedUpdate s t') := by grind [usedUpdate, regsCanon_fset]

theorem regsCanon_putAll (h : regsCanon s) (t' i : Nat) (e : Option Entry) : regsCanon (putAll s t' i e) :=
  regsCanon_usedUpdate (regsCanon_forEach (fun _ _ ht => regsCanon_putEntry ht _ _ _ _) h) _

theorem regsCanon_epochStep (h : regsCanon s) : regsCanon (epochStep s) := regsCanon_bump h _
theorem regsCanon_stampAll (h : regsCanon s) (i v : Nat) : regsCanon (stampAll s i v) := regsCanon_setTbl h _

theorem regsCanon_placeKey (h : regsCanon s) (t' : Nat) (k : List Byte) : regsCanon (placeKey s t' k).2 := by
  grind [placeKey, regsCanon_draw]

theorem regsCanon_freshGroup (h : regsCanon s) (dies : List Nat) (t i : Nat) (e : Option Entry) :
    regsCanon (freshGroup s dies t i e) := by
  unfold freshGroup
  split
  · exact h
  · exact regsCanon_forEach (fun _ _ ht => regsCanon_setTbl ht _) h

theorem regsCanon_writeEntry (h : regsCanon s) (t' i : Nat) (e : Entry) : regsCanon (writeEntry s t' i e) :=
  regsCanon_epochStep (regsCanon_freshGroup (regsCanon_putAll h _ _ _) _ _ _ _)

theorem regsCanon_removeEntry (h : regsCanon s) (t' i : Nat) : regsCanon (removeEntry s t' i) :=
  regsCanon_ite (regsCanon_stampAll (regsCanon_epochStep (regsCanon_freshGroup (regsCanon_putAll h _ _ _) _ _ _ _)) _ _)
      (regsCanon_epochStep (regsCanon_freshGroup (regsCanon_putAll h _ _ _) _ _ _ _))

theorem regsCanon_tblPop (h : regsCanon s) : regsCanon (tblPop s) := regsCanon_setTbl h _

theorem regsCanon_tblHead (h : regsCanon s) (op : Nat) {f : State → List Byte → Option Nat → State}
    (hf : ∀ t d dma, regsCanon t → regsCanon (f t d dma)) : regsCanon (tblHead s op f) := by
  grind [tblHead, regsCanon_tblPop, regsCanon_tblCode]

theorem regsCanon_opSearch (h : regsCanon s) (d : List Byte) (dma : Option Nat) : regsCanon (opSearch s d dma) := by
  grind [opSearch, regsCanon_tblCode, regsCanon_tblComplete]

theorem regsCanon_opNext (h : regsCanon s) (d : List Byte) (dma : Option Nat) : regsCanon (opNext s d dma) := by
  grind [opNext, regsCanon_tblCode, regsCanon_tblComplete]

theorem regsCanon_opInsert (h : regsCanon s) (d : List Byte) (dma : Option Nat) : regsCanon (opInsert s d dma) := by
  grind [opInsert, regsCanon_tblCode, regsCanon_writeEntry, regsCanon_stampAll, regsCanon_placeKey]

theorem regsCanon_opDelete (h : regsCanon s) (d : List Byte) (dma : Option Nat) : regsCanon (opDelete s d dma) := by
  grind [opDelete, regsCanon_tblCode, regsCanon_removeEntry]

theorem regsCanon_opFlush (h : regsCanon s) (d : List Byte) (dma : Option Nat) : regsCanon (opFlush s d dma) := by
  grind [opFlush, regsCanon_tblCode, regsCanon_epochStep, regsCanon_forEach, regsCanon_stampAll, regsCanon_putAll,
    regsCanon_discardPort, regsCanon_tblComplete]

theorem regsCanon_opDrain (h : regsCanon s) (d : List Byte) (dma : Option Nat) : regsCanon (opDrain s d dma) := by
  grind [opDrain, regsCanon_tblCode, regsCanon_setTbl]

theorem regsCanon_opMark (h : regsCanon s) (d : List Byte) (dma : Option Nat) : regsCanon (opMark s d dma) := by
  grind [opMark, regsCanon_tblCode, regsCanon_fset]

theorem regsCanon_endDrain (h : regsCanon s) (p : Drain → Bool) (code : Nat) : regsCanon (endDrain s p code) := by
  grind [endDrain, regsCanon_setTbl, regsCanon_tblCompleteAt]

theorem regsCanon_setRawBuf (h : regsCanon s) (b : List Byte) : regsCanon (setRawBuf s b) :=
  regsCanon_forRange (fun _ _ ht => regsCanon_setReg ht _ _) h

theorem regsCanon_rawHead (h : regsCanon s) (op : Nat) {f : State → Nat → Nat → Nat → State}
    (hf : ∀ t a b c, regsCanon t → regsCanon (f t a b c)) : regsCanon (rawHead s op f) := by
  grind [rawHead, regsCanon_tblPop, regsCanon_fset]

theorem regsCanon_rawReadOp (h : regsCanon s) (d t' i : Nat) : regsCanon (rawReadOp s d t' i) := by
  grind [rawReadOp, regsCanon_setRawBuf]

theorem regsCanon_rawWriteOp (h : regsCanon s) (d t' i : Nat) : regsCanon (rawWriteOp s d t' i) := by
  grind [rawWriteOp, regsCanon_forEach, regsCanon_putEntry, regsCanon_setTbl, regsCanon_usedUpdate, regsCanon_freshGroup,
    regsCanon_epochStep]

theorem regsCanon_rawCompareOp (h : regsCanon s) (x t' i : Nat) : regsCanon (rawCompareOp s x t' i) := regsCanon_fset h _ _

theorem regsCanon_learnRate (h : regsCanon s) : regsCanon (learnRate s).1 := by
  rw [learnRate]
  generalize hu : (if s.elapsed s.tbl.learnAt 1000000000 then _ else s) = u
  have hfirst : regsCanon u := by
    rw [← hu]
    exact regsCanon_ite (regsCanon_setTbl h _) h
  clear hu
  rw [apply_ite Prod.fst]
  exact regsCanon_ite hfirst (regsCanon_setTbl hfirst _)

theorem regsCanon_doLearn (h : regsCanon s) (vlan : Nat) (mac : BitVec 48) (grp : Bool) (target : Nat) :
    regsCanon (doLearn s vlan mac grp target) := by
  have hrate := regsCanon_learnRate h
  rw [doLearn]
  generalize learnRate s = r at *
  obtain ⟨t, ok⟩ := r
  dsimp only at *
  split
  · refine regsCanon_ite h (regsCanon_ite (regsCanon_stampAll h _ _) (regsCanon_ite ?_ (regsCanon_bump hrate _)))
    exact regsCanon_bump (regsCanon_stampAll (regsCanon_writeEntry hrate _ _ _) _ _) _
  · exact regsCanon_ite (regsCanon_bump hrate _)
      (regsCanon_stampAll (regsCanon_writeEntry (regsCanon_placeKey hrate _ _) _ _ _) _ _)

theorem regsCanon_agingTick (h : regsCanon s) : regsCanon (agingTick s) :=
  regsCanon_ite (regsCanon_setTbl (regsCanon_fset (regsCanon_setTbl h _) _ _) _) h

theorem regsCanon_doAge (h : regsCanon s) (i : Nat) : regsCanon (doAge s i) := regsCanon_ite (regsCanon_removeEntry h _ _) h

/-! Traffic management. -/

theorem regsCanon_setMeter (h : regsCanon s) (m : Nat) (x : Meter) : regsCanon (setMeter s m x) := regsCanon_setTm h _

theorem regsCanon_police (h : regsCanon s) (f : Frame) : regsCanon (police s f).1 := by
  grind [police, regsCanon_setMeter, regsCanon_ctxDrop, regsCanon_creditReturn, regsCanon_bump, regsCanon_ctxBump]

theorem regsCanon_mtrWrite (h : regsCanon s) : regsCanon (mtrWrite s) := regsCanon_setMeter h _ _

theorem regsCanon_mtrRead (h : regsCanon s) : regsCanon (mtrRead s) :=
  regsCanon_setReg (regsCanon_setReg (regsCanon_setReg (regsCanon_setReg (regsCanon_setReg h _ _) _ _) _ _) _ _) _ _

theorem regsCanon_nodeTake (h : regsCanon s) (k B : Nat) : regsCanon (nodeTake s k B) := regsCanon_ite h (regsCanon_setNode h _ _)
theorem regsCanon_nodeWrite (h : regsCanon s) : regsCanon (nodeWrite s) := regsCanon_setNode h _ _
theorem regsCanon_nodeRead (h : regsCanon s) : regsCanon (nodeRead s) := regsCanon_setReg (regsCanon_setReg h _ _) _ _

theorem regsCanon_wsetPort (h : regsCanon s) (L : Nat) : regsCanon (wsetPort s L) :=
  regsCanon_forRange (fun _ _ ht => regsCanon_setNode ht _ _) h

theorem regsCanon_wsetStart (h : regsCanon s) (first last : Nat) : regsCanon (wsetStart s first last) :=
  regsCanon_fset (regsCanon_setTm h _) _ _

theorem regsCanon_wsetFinish (h : regsCanon s) : regsCanon (wsetFinish s) :=
  regsCanon_ite (regsCanon_fset (regsCanon_setTm (regsCanon_forRange (fun _ _ ht => regsCanon_ite (regsCanon_wsetPort ht _) ht) h)
      _) _ _) h

theorem regsCanon_setGate (h : regsCanon s) (L : Nat) (f : GateSt → GateSt) : regsCanon (setGate s L f) := regsCanon_setTm h _

theorem regsCanon_gateCommit (h : regsCanon s) (L n : Nat) : regsCanon (gateCommit s L n) :=
  regsCanon_fset (regsCanon_setGate h _ _) _ _

theorem regsCanon_gateCancel (h : regsCanon s) (L : Nat) : regsCanon (gateCancel s L) :=
  regsCanon_fset (regsCanon_setGate h _ _) _ _

theorem regsCanon_gateSwitch (h : regsCanon s) (L : Nat) : regsCanon (gateSwitch s L) :=
  regsCanon_ite (regsCanon_fset (regsCanon_fset (regsCanon_fset (regsCanon_fset (regsCanon_setGate h _ _) _ _) _ _) _ _) _ _) h

theorem regsCanon_gateStep (h : regsCanon s) (L : Nat) : regsCanon (gateStep s L) :=
  regsCanon_ite h (regsCanon_fset (regsCanon_setGate h _ _) _ _)

theorem regsCanon_storeRound (h : regsCanon s) (n : Nat) (key : Nat → Nat) (r : Round) : regsCanon (storeRound s n key r) :=
  regsCanon_forRange (fun _ _ ht => regsCanon_ite ht (regsCanon_setNode ht _ _)) h

theorem regsCanon_storeSub (h : regsCanon s) (L c : Nat) (r : Round) : regsCanon (storeSub s L c r) := by
  grind [storeSub, regsCanon_storeRound, regsCanon_setTm]

theorem regsCanon_chooseHier (h : regsCanon s) (L : Nat) (el all : List (Nat × Nat × Frame)) {t} (ht :
    chooseHier s L el all = some t) :
    regsCanon t.1 := by
  rw [chooseHier] at ht
  dsimp only at ht
  split at ht
  · obtain ⟨x, -, rfl⟩ := Option.map_eq_some_iff.1 ht
    exact regsCanon_storeSub h _ _ _
  · split at ht
    · cases ht
    · split at ht
      · cases ht
      · split at ht
        · cases ht
        · rw [← Option.some.inj ht]
          exact regsCanon_storeSub (regsCanon_setTm (regsCanon_storeRound h _ _ _) _) _ _ _

theorem regsCanon_startFrame (h : regsCanon s) (L c sub : Nat) (f : Frame) : regsCanon (startFrame s L c sub f) := by
  grind [startFrame, regsCanon_emptied, regsCanon_setCore, regsCanon_emit, regsCanon_setPort, regsCanon_bump]

theorem regsCanon_dropUnsendable (h : regsCanon s) (L n : Nat) : regsCanon (dropUnsendable s L n) := by
  induction n generalizing s with
  | zero => exact h
  | succ n ih =>
    rw [dropUnsendable]
    dsimp only
    split
    · exact h
    · exact ih (regsCanon_lostAt (regsCanon_bump (regsCanon_egrRelease (regsCanon_emptied (regsCanon_setCore h _) _ _ _) _ _ _) _)
        _)

theorem regsCanon_frameTxStart (h : regsCanon s) (L : Nat) : regsCanon (frameTxStart s L) := by
  have hsome : ∀ t u el all, regsCanon t → chooseHier t L el all = some u → regsCanon u.1 := fun t u el all ht hu =>
      regsCanon_chooseHier ht L el all hu
  grind [frameTxStart, regsCanon_dropUnsendable, regsCanon_startFrame, regsCanon_nodeTake]

theorem regsCanon_frameTxEnd (h : regsCanon s) (L : Nat) : regsCanon (frameTxEnd s L) := by
  grind [frameTxEnd, regsCanon_egrRelease, regsCanon_setPort, regsCanon_bumpBy, regsCanon_bump, regsCanon_ctxBump]

theorem regsCanon_tmPortReset (h : regsCanon s) (L : Nat) : regsCanon (tmPortReset s L) :=
  regsCanon_forRange (fun _ _ ht => regsCanon_forRange (fun _ _ hu => regsCanon_resetReg hu _) ht) (regsCanon_resetReg
      (regsCanon_forRange (fun _ _ ht => regsCanon_resetReg ht _) (regsCanon_setTm h _)) _)

theorem regsCanon_tmEffect (h : regsCanon s) (off : Nat) (w : Word) : regsCanon (tmEffect s off w) := by
  grind [tmEffect, regsCanon_gateCommit, regsCanon_gateCancel, regsCanon_nodeWrite, regsCanon_nodeRead, regsCanon_wsetStart,
    regsCanon_mtrWrite, regsCanon_mtrRead]

end Sys2Proof.Machine
end

section
/-! SUPPORT. The register file stays canonical (O3): originated and arriving frames, own units, the bypass and reduction. -/

namespace Sys2Proof.Machine

set_option Elab.async false

variable {s : State}

/-! Frames the module originates. -/

theorem regsCanon_nackRx (h : regsCanon s) (f : Frame) : regsCanon (nackRx s f) :=
  regsCanon_eventLim (regsCanon_creditReturn (regsCanon_bump h _) _) _ _ _ _ _ _ _ _ _

theorem regsCanon_originTo (h : regsCanon s) (d : Nat) (hd : BitVec 256) (body : List Byte) (b : Option Nat) :
    regsCanon (originTo s d hd body b).1 := by
  have hid : regsCanon (newId s).2 := regsCanon_newId h
  -- `ownOutput` under a name of its own, so that the kernel does not evaluate it where it compares goals
  obtain ⟨own, hown⟩ : ∃ own, own = ownOutput := ⟨_, rfl⟩
  rw [originTo, ← hown]
  generalize newId s = q at *
  obtain ⟨n, t⟩ := q
  have hid : regsCanon t := hid
  dsimp -zeta only
  extract_lets f
  have hu := regsCanon_lookFabric hid d f
  generalize lookFabric t d f = r at *
  generalize originFence t f.hdr = g
  cases g
  · obtain ⟨u, l⟩ := r
    have hu : regsCanon u := hu
    have hb := regsCanon_bump hu
    cases l
    · exact hu
    · exact hu
    · dsimp only
      cases own u f.hdr d
      · exact regsCanon_sendCrossed (hb _) f
      · exact hu
    all_goals exact regsCanon_ctxDrop (hb _) f
  · exact regsCanon_ctxDrop (regsCanon_bump hid _) f

theorem regsCanon_originate (h : regsCanon s) (d : Nat) (h' : BitVec 256) (body : List Byte) :
    regsCanon (originate s d h' body) := by
  grind [originate, regsCanon_originTo, regsCanon_egressState]

theorem regsCanon_sendNack (h : regsCanon s) (d : Nat) (h' : BitVec 256) (reason kind unit gen : Nat) :
    regsCanon (sendNack s d h' reason kind unit gen) :=
  regsCanon_ite h (regsCanon_originate (regsCanon_ite (regsCanon_ctxBump h _ _ _) h) _ _ _)

/-! The module's own units. -/

theorem regsCanon_genStep (h : regsCanon s) (k : Nat) : regsCanon (genStep s k) :=
  regsCanon_ite (regsCanon_fset (regsCanon_setWeave h _) _ _) (regsCanon_ite (regsCanon_setWeave (regsCanon_setWeave h _) _)
      (regsCanon_fset (regsCanon_setWeave h _) _ _))

theorem regsCanon_genAdvance (h : regsCanon s) (k : Nat) : regsCanon (genAdvance s k) :=
  regsCanon_ite (regsCanon_genStep h _) (regsCanon_setWeave h _)

theorem regsCanon_genAll (h : regsCanon s) : regsCanon (genAll s) := by
  grind [genAll, regsCanon_setWeave, regsCanon_forRange, regsCanon_fset]

theorem regsCanon_unitDrop (h : regsCanon s) (f : Frame) : regsCanon (unitDrop s f) := regsCanon_ctxDrop h _

theorem regsCanon_staleEvent (h : regsCanon s) (d owner kind unit gen src : Nat) :
    regsCanon (staleEvent s d owner kind unit gen src) :=
  regsCanon_eventLim h _ _ _ _ _ _ _ _ _

theorem regsCanon_staleRole (h : regsCanon s) (d : Nat) (f : Frame) (kind unit gen owner : Nat) :
    regsCanon (staleRole s d f kind unit gen owner) :=
  regsCanon_sendNack (regsCanon_staleEvent (regsCanon_ite (regsCanon_bump (regsCanon_unitDrop (regsCanon_ctxBump h _ _ _) _) _)
      (regsCanon_unitDrop (regsCanon_ctxBump h _ _ _) _)) _ _ _ _ _ _) _ _ _ _ _ _

theorem regsCanon_picCheck (h : regsCanon s) (d gn x row : Nat) : regsCanon (picCheck s d gn x row) :=
  regsCanon_eventLim h _ _ _ _ _ _ _ _ _

theorem regsCanon_roleStage (h : regsCanon s) (f : Frame) : ∀ t, roleStage s f = some t → regsCanon t := by
  grind [roleStage, regsCanon_picCheck, regsCanon_staleRole]

theorem regsCanon_originateSend (h : regsCanon s) (d : Nat) (h' : BitVec 256) (body : List Byte) (n : Nat) :
    regsCanon (originateSend s d h' body n) := by
  grind [originateSend, regsCanon_originTo, regsCanon_mcStore, regsCanon_queueFrame, regsCanon_roleStage, regsCanon_ctxDrop,
    regsCanon_bump, regsCanon_setPort]

theorem regsCanon_takeIo (h : regsCanon s) (x : Nat) (p : Nat → Bool) {f : State → Frame → State}
    (hf : ∀ t e, regsCanon t → regsCanon (f t e)) : regsCanon (takeIo s x p f) := by
  grind [takeIo, regsCanon_setCore]

/-! Optical bypass. -/

theorem regsCanon_showLane (h : regsCanon s) (L : Nat) : regsCanon (showLane s L) :=
  regsCanon_fset (regsCanon_fset (regsCanon_fset h _ _) _ _) _ _

theorem regsCanon_applyMap (h : regsCanon s) (m : Tab LaneMap) : regsCanon (applyMap s m) :=
  regsCanon_forEach (fun _ _ ht => regsCanon_ite (regsCanon_setUnder (regsCanon_showLane ht _) _ _) (regsCanon_ite
      (regsCanon_retryAtTime (regsCanon_showLane ht _) _ _) (regsCanon_showLane ht _))) (regsCanon_setByp h _)

theorem regsCanon_allElectronic (h : regsCanon s) : regsCanon (allElectronic s) :=
  regsCanon_applyMap (regsCanon_setByp (regsCanon_ite (regsCanon_ring (regsCanon_fset (regsCanon_fset h _ _) _ _) _) h) _) _

theorem regsCanon_bypStat (h : regsCanon s) (r : Nat × Nat × Nat) (late : Bool) : regsCanon (bypStat s r late) :=
  regsCanon_fset (regsCanon_fset (regsCanon_fset (regsCanon_fset h _ _) _ _) _ _) _ _

theorem regsCanon_bypCommit (h : regsCanon s) : regsCanon (bypCommit s) :=
  regsCanon_ite (regsCanon_setByp (regsCanon_fset (regsCanon_bypStat h _ _) _ _) _) (regsCanon_bypStat h _ _)

theorem regsCanon_bypCancel (h : regsCanon s) : regsCanon (bypCancel s) := by
  grind [bypCancel, regsCanon_setByp, regsCanon_ring, regsCanon_fset, regsCanon_bypStat]

theorem regsCanon_bypMapWrite (h : regsCanon s) : regsCanon (bypMapWrite s) := regsCanon_setByp h _
theorem regsCanon_bypMapLoad (h : regsCanon s) (m : Tab LaneMap) : regsCanon (bypMapLoad s m) := regsCanon_setReg h _ _
theorem regsCanon_bypMapCopy (h : regsCanon s) : regsCanon (bypMapCopy s) := regsCanon_setByp h _

theorem regsCanon_commitDue (h : regsCanon s) (n : Nat) : regsCanon (commitDue s n) := by
  grind [commitDue, regsCanon_setByp, regsCanon_fset, regsCanon_ring, regsCanon_event, regsCanon_bypStat, regsCanon_applyMap]

theorem regsCanon_slotBoundary (h : regsCanon s) : regsCanon (slotBoundary s) := by
  grind [slotBoundary, regsCanon_commitDue, regsCanon_setByp]

theorem regsCanon_planeRound {a : State × List (Nat × Nat)} (h : regsCanon a.1) (m : Tab LaneMap) (W : Nat) (first : Bool) :
    regsCanon (planeRound m W first a).1 := by
  grind [planeRound, regsCanon_setByp]

theorem regsCanon_slotBlocks (h : regsCanon s) (n : Nat) : regsCanon (slotBlocks s n) := by
  grind [slotBlocks, regsCanon_forRange, regsCanon_emit]

theorem regsCanon_bypassMatch (h : regsCanon s) (W : Nat) : regsCanon (bypassMatch s W) := by
  grind [bypassMatch, regsCanon_planeRound, regsCanon_bumpBy, regsCanon_setByp, regsCanon_slotBlocks]

theorem regsCanon_slotReq (h : regsCanon s) (F : Nat) (b : BitVec 256) : regsCanon (slotReq s F b) := by
  rw [slotReq]
  split
  · exact h
  · refine regsCanon_rxBlock h _ _ _ fun t ht => regsCanon_forRange (fun u k hu => ?_) ht
    grind [regsCanon_bump, regsCanon_setByp]

theorem regsCanon_setRng (h : regsCanon s) (F : Nat) (f : RangeSt → RangeSt) : regsCanon (setRng s F f) := regsCanon_setByp h _

theorem regsCanon_rangingStart (h : regsCanon s) (F : Nat) : regsCanon (rangingStart s F) := by
  grind [rangingStart, regsCanon_setRng]

theorem regsCanon_rangePing (h : regsCanon s) (F : Nat) : regsCanon (rangePing s F) := by
  grind [rangePing, regsCanon_setRng, regsCanon_emit]

theorem regsCanon_rangeEcho (h : regsCanon s) (F : Nat) (b : BitVec 256) : regsCanon (rangeEcho s F b) := by
  rw [rangeEcho]
  split
  · exact h
  · refine regsCanon_rxBlock h _ _ _ fun t ht => ?_
    grind [regsCanon_setRng]

theorem regsCanon_farCheck (h : regsCanon s) (F : Nat) : regsCanon (farCheck s F) :=
  regsCanon_ite (regsCanon_event (regsCanon_fset h _ _) _ _ _ _ _ _ _) (regsCanon_fset h _ _)

theorem regsCanon_rangingDone (h : regsCanon s) (F : Nat) : regsCanon (rangingDone s F) :=
  regsCanon_ite h (regsCanon_ite (regsCanon_event (regsCanon_fset (regsCanon_setRng h _ _) _ _) _ _ _ _ _ _ _) (regsCanon_farCheck
      (regsCanon_fset (regsCanon_fset (regsCanon_setRng h _ _) _ _) _ _) _))

theorem regsCanon_rangeSet (h : regsCanon s) (F : Nat) : regsCanon (rangeSet s F) := by
  grind [rangeSet, regsCanon_setRng, regsCanon_emit]

theorem regsCanon_slotTick (h : regsCanon s) (F : Nat) : regsCanon (slotTick s F) := by
  grind [slotTick, regsCanon_setRng, regsCanon_emit]

theorem regsCanon_planeDark (h : regsCanon s) (L : Nat) (pwr : BitVec 16) : regsCanon (planeDark s L pwr) :=
  regsCanon_ite h (regsCanon_ite (regsCanon_fset h _ _) (regsCanon_ring (regsCanon_event (regsCanon_fset (regsCanon_fset h _ _) _
      _) _ _ _ _ _ _ _) _))

theorem regsCanon_planeLight (h : regsCanon s) (L : Nat) (pwr : BitVec 16) : regsCanon (planeLight s L pwr) :=
  regsCanon_ite h (regsCanon_ite (regsCanon_fset h _ _) (regsCanon_event (regsCanon_fset (regsCanon_fset h _ _) _ _) _ _ _ _ _ _
      _))

theorem regsCanon_bypEffect (h : regsCanon s) (off : Nat) (w : Word) : regsCanon (bypEffect s off w) := by
  grind [bypEffect, regsCanon_forRange, regsCanon_farCheck, regsCanon_bypMapWrite, regsCanon_bypMapLoad, regsCanon_bypMapCopy,
    regsCanon_bypCommit, regsCanon_bypCancel]

/-! Frames that arrive. -/

theorem regsCanon_dropRx (h : regsCanon s) (f : Frame) (off : Nat) : regsCanon (dropRx s f off) :=
  regsCanon_ctxDrop (regsCanon_creditReturn (regsCanon_bump h _) _) _

theorem regsCanon_fencedNack (h : regsCanon s) (f : Frame) (chip : Nat) : regsCanon (fencedNack s f chip) :=
  regsCanon_ite h (regsCanon_sendNack (regsCanon_setFlt h _) _ _ _ _ _ _)

theorem regsCanon_evidence (h : regsCanon s) (f : Frame) (c : Chip) : regsCanon (evidence s f c) := by
  grind [evidence, regsCanon_eventLim, regsCanon_bump, regsCanon_ring]

theorem regsCanon_chipChecks (h : regsCanon s) (f : Frame) : regsCanon (chipChecks s f).1 := by
  have hev : ∀ t k, regsCanon t → regsCanon (eventLim t k 10000000 0x0D 7 1 f.idie (hCtx f.hdr) (hSrc f.hdr) (le 1 (hInc f.hdr)))
      :=
    fun _ _ ht => regsCanon_eventLim ht _ _ _ _ _ _ _ _ _
  have hfence : ∀ t c chip, regsCanon t → regsCanon (fencedNack (evidence t f c) f chip) := fun _ c chip ht =>
    regsCanon_fencedNack (regsCanon_evidence ht f c) f chip
  grind [chipChecks, regsCanon_fencedNack, regsCanon_dropRx]

theorem regsCanon_ownerCheck (h : regsCanon s) (f : Frame) : regsCanon (ownerCheck s f).1 := by
  grind [ownerCheck, regsCanon_sendNack, regsCanon_dropRx]

theorem regsCanon_stages23 (h : regsCanon s) (f : Frame) : regsCanon (stages23 s f).1 := by
  grind [stages23, regsCanon_chipChecks, regsCanon_ownerCheck, regsCanon_dropRx, regsCanon_ctxDrop, regsCanon_creditReturn,
      regsCanon_setPort]

theorem regsCanon_stages678 (h : regsCanon s) (f : Frame) : regsCanon (stages678 s f) := by
  grind [stages678, regsCanon_police, regsCanon_egressState]

theorem regsCanon_decided (h : regsCanon s) (f : Frame) (l : Look) : regsCanon (decided s f l) := by
  have hrole : ∀ t, roleStage s f = some t → regsCanon t := regsCanon_roleStage h f
  cases l <;> grind [decided, regsCanon_stages678, regsCanon_creditReturn, regsCanon_nackRx, regsCanon_dropRx]

theorem regsCanon_ethLearn (h : regsCanon s) (f : Frame) : regsCanon (ethLearn s f) :=
  regsCanon_ite h (regsCanon_l2Learn (regsCanon_l2Refresh h _ _ _) _ _ _)

theorem regsCanon_ingress (h : regsCanon s) (f : Frame) : regsCanon (ingress s f) := by
  grind [ingress, regsCanon_stages23, regsCanon_dropRx, regsCanon_ctxDrop, regsCanon_creditReturn, regsCanon_ethLearn,
      regsCanon_lookEth, regsCanon_decided, regsCanon_lookFabric]

theorem regsCanon_countRx (h : regsCanon s) (f : Frame) (mc : Bool) : regsCanon (countRx s f mc) :=
  regsCanon_ite (regsCanon_bump (regsCanon_bumpBy (regsCanon_bump (regsCanon_bumpBy (regsCanon_bump h _) _ _) _) _ _) _)
      (regsCanon_bumpBy (regsCanon_bump (regsCanon_bumpBy (regsCanon_bump h _) _ _) _) _ _)

theorem regsCanon_rxFail (h : regsCanon s) (L row off : Nat) : regsCanon (rxFail s L row off) :=
  regsCanon_eventLim (regsCanon_bump h _) _ _ _ _ _ _ _ _ _

theorem regsCanon_frameRx (h : regsCanon s) (L : Nat) (h' : BitVec 256) (payload : List Byte) (bad full : Bool) :
    regsCanon (frameRx s L h' payload bad full) := by
  grind [frameRx, regsCanon_rxFail, regsCanon_setPort, regsCanon_newId, regsCanon_creditReturn, regsCanon_bump,
    regsCanon_ingress, regsCanon_countRx]

theorem regsCanon_capShow (h : regsCanon s) : regsCanon (capShow s) := regsCanon_fset h _ _

theorem regsCanon_capture (h : regsCanon s) (f : Frame) : regsCanon (capture s f) := by
  grind [capture, regsCanon_fset, regsCanon_capShow, regsCanon_setTime]

theorem regsCanon_ethFrameRx (h : regsCanon s) (L : Nat) (b : List Byte) (bad full : Bool) :
    regsCanon (ethFrameRx s L b bad full) := by
  grind [ethFrameRx, regsCanon_bump, regsCanon_pfcRx, regsCanon_newId, regsCanon_setPort, regsCanon_pfcScan,
    regsCanon_ingress, regsCanon_capture, regsCanon_countRx]

/-! In-network reduction. -/

theorem regsCanon_setGroup (h : regsCanon s) (g : Nat) (f : GroupSt → GroupSt) : regsCanon (setGroup s g f) :=
  regsCanon_setPic h _

theorem regsCanon_setColl (h : regsCanon s) (c : Coll) : regsCanon (setColl s c) := regsCanon_setPic h _
theorem regsCanon_putTomb (h : regsCanon s) (x g q T : Nat) : regsCanon (putTomb s x g q T) := regsCanon_setPic h _

theorem regsCanon_slotTouch (h : regsCanon s) (x d k : Nat) : regsCanon (slotTouch s x d k) := by
  grind [slotTouch, regsCanon_memTouch]

theorem regsCanon_logPut (h : regsCanon s) (x p : Nat) (bs : List Byte) : regsCanon (logPut s x p bs) := by
  rw [logPut]
  exact regsCanon_ite h (regsCanon_ctxWrite (regsCanon_ctxWrite h _ _ _) _ _ _)

theorem regsCanon_peerRgen (h : regsCanon s) : regsCanon (peerRgen s).2 := by grind [peerRgen, regsCanon_draw]

theorem regsCanon_mirrorPut (h : regsCanon s) (g : GroupSt) (n p : Nat) (bs : List Byte) : regsCanon (mirrorPut s g n p bs) := by
  induction n generalizing s p bs with
  | zero => exact h
  | succ n ih =>
    rw [mirrorPut]
    exact regsCanon_ite h (ih (regsCanon_originate (regsCanon_peerRgen h) _ _ _) _ _)

theorem regsCanon_mirrorGet (h : regsCanon s) (gn : Nat) (g : GroupSt) (p posEnd : Nat) :
    regsCanon (mirrorGet s gn g p posEnd) := by
  grind [mirrorGet, regsCanon_peerRgen, regsCanon_setPic, regsCanon_setGroup, regsCanon_originate]

theorem regsCanon_logAppend (h : regsCanon s) (gn q kind reason chunk : Nat) (data : List Byte) {t : State}
    (ht : logAppend s gn q kind reason chunk data = some t) : regsCanon t := by
  rw [logAppend] at ht
  extract_lets bytes s1 s2 s3 trim s4 s5 at ht
  split at ht
  · cases ht
  · have h1 : regsCanon s1 := regsCanon_logPut h _ _ _
    have h2 : regsCanon s2 := regsCanon_setPic h1 _
    have h3 : regsCanon s3 := regsCanon_ctxBump (regsCanon_setReg h2 _ _) _ _ _
    have h4 : regsCanon s4 := regsCanon_ite (regsCanon_event (regsCanon_setPic h3 _) _ _ _ _ _ _ _) h3
    have h5 : regsCanon s5 := regsCanon_ite (regsCanon_mirrorPut h4 _ _ _ _) h4
    rw [← Option.some.inj ht]
    exact regsCanon_ite (regsCanon_mirrorGet h5 _ _ _ _) h5

theorem regsCanon_sendRedFrom (h : regsCanon s) (d gn q type chunk : Nat) (data : List Byte) (dst : Option Nat) :
    regsCanon (sendRedFrom s d gn q type chunk data dst) :=
  regsCanon_originate h _ _ _

theorem regsCanon_sendRed (h : regsCanon s) (gn q type chunk : Nat) (data : List Byte) (dst : Option Nat) :
    regsCanon (sendRed s gn q type chunk data dst) :=
  regsCanon_sendRedFrom h _ _ _ _ _ _ _

theorem regsCanon_handOff (h : regsCanon s) (gn q type chunk : Nat) (data : List Byte) :
    regsCanon (handOff s gn q type chunk data) :=
  regsCanon_ite h (regsCanon_setPic h _)

theorem regsCanon_logShut (h : regsCanon s) (x gn q : Nat) : regsCanon (logShut s x gn q) := regsCanon_setPic h _

theorem regsCanon_abortColl (h : regsCanon s) (gn q reason chunk port : Nat) (send : Bool) :
    regsCanon (abortColl s gn q reason chunk port send) := by
  have hlog : ∀ t, regsCanon t → regsCanon ((logAppend t gn q 3 reason 0 []).getD t) := fun t ht => by
    cases hu : logAppend t gn q 3 reason 0 [] with
    | none => exact ht
    | some u => exact regsCanon_logAppend ht _ _ _ _ _ _ hu
  grind [abortColl, regsCanon_setPic, regsCanon_putTomb, regsCanon_handOff, regsCanon_sendRed, regsCanon_logShut, regsCanon_event,
      regsCanon_ctxBump, regsCanon_bump]

theorem regsCanon_abortWhere (h : regsCanon s) (p : Coll → Bool) (reason : Nat) (send : Bool) :
    regsCanon (abortWhere s p reason send) :=
  regsCanon_forEach (fun _ _ ht => regsCanon_abortColl ht _ _ _ _ _ _) h

theorem regsCanon_collTouch (h : regsCanon s) (c : Coll) (idx : Nat) : regsCanon (collTouch s c idx) := by
  grind [collTouch, regsCanon_slotTouch]

theorem regsCanon_sealColl (h : regsCanon s) (x gn q : Nat) : regsCanon (sealColl s x gn q) := by
  grind [sealColl, regsCanon_collTouch, regsCanon_abortColl, regsCanon_logAppend, regsCanon_handOff, regsCanon_sendRed,
    regsCanon_logShut, regsCanon_setPic, regsCanon_ctxBump, regsCanon_bump, regsCanon_putTomb]

theorem regsCanon_roundResult (h : regsCanon s) (g : GroupSt) (q : Nat) (k : Chunk) : regsCanon (roundResult s g q k).1 := h

theorem regsCanon_freeSlot (h : regsCanon s) (x gn q idx : Nat) : regsCanon (freeSlot s x gn q idx) := by
  grind [freeSlot, regsCanon_setColl]

theorem regsCanon_releaseResult (h : regsCanon s) (x gn q idx : Nat) : regsCanon (releaseResult s x gn q idx) := by
  have hlog : ∀ t u kind data, regsCanon t → logAppend t gn q kind 0 idx data = some u → regsCanon u := fun t u kind data ht hu =>
    regsCanon_logAppend ht _ _ _ _ _ _ hu
  grind [releaseResult, regsCanon_abortColl, regsCanon_roundResult, regsCanon_setColl, regsCanon_ctxBump, regsCanon_sendRed,
      regsCanon_freeSlot, regsCanon_handOff]

theorem regsCanon_picDrop (h : regsCanon s) (d : Nat) (f : Frame) (x row off : Nat) : regsCanon (picDrop s d f x row off) :=
  regsCanon_picCheck (regsCanon_unitDrop (regsCanon_bump h _) _) _ _ _ _

theorem regsCanon_picRows16 (h : regsCanon s) (d : Nat) (f : Frame) : ∀ t, picRows16 s d f = some t → regsCanon t := by
  grind [picRows16, regsCanon_picDrop, regsCanon_picCheck, regsCanon_staleRole, regsCanon_sendNack]

theorem regsCanon_haveRecord (h : regsCanon s) (x d gn q : Nat) : ∀ t, haveRecord s x d gn q = some t → regsCanon t.1 := by
  grind [haveRecord, regsCanon_setPic]

theorem regsCanon_fenceEngine (h : regsCanon s) (e gn q : Nat) : regsCanon (fenceEngine s e gn q) :=
  regsCanon_ring (regsCanon_abortWhere (regsCanon_event (regsCanon_fset (regsCanon_fset h _ _) _ _) _ _ _ _ _ _ _) _ _ _) _

theorem regsCanon_addContrib (h : regsCanon s) (d : Nat) (f : Frame) (data : List Byte) (res : ResidueOutcome) :
    regsCanon (addContrib s d f data res) := by
  have hrec := regsCanon_haveRecord h
  rw [addContrib]
  dsimp only
  split
  · exact regsCanon_abortColl h _ _ _ _ _ _
  · next t c ht =>
    have ht : regsCanon t := hrec _ _ _ _ _ ht
    split
    · exact regsCanon_abortColl ht _ _ _ _ _ _
    · exact regsCanon_abortColl ht _ _ _ _ _ _
    · next u c' k hslot =>
      have hu : regsCanon u := by grind [regsCanon_setColl, regsCanon_setPic]
      grind [regsCanon_abortColl, regsCanon_setColl, regsCanon_collTouch, regsCanon_picCheck, regsCanon_ctxBump,
          regsCanon_releaseResult, regsCanon_fset, regsCanon_eventLim, regsCanon_fenceEngine]

theorem regsCanon_contribRx (h : regsCanon s) (d : Nat) (f : Frame) (res : ResidueOutcome) : regsCanon (contribRx s d f res) := by
  grind [contribRx, regsCanon_picRows16, regsCanon_picDrop, regsCanon_abortColl, regsCanon_picCheck, regsCanon_addContrib]

theorem regsCanon_resultAckRx (h : regsCanon s) (d : Nat) (f : Frame) : regsCanon (resultAckRx s d f) := by
  have hrows := regsCanon_picRows16 h d f
  rw [resultAckRx]
  dsimp only
  split
  · next hu => exact hrows _ hu
  · split
    · exact regsCanon_picDrop h _ _ _ _ _
    · refine regsCanon_ite (regsCanon_picDrop h _ _ _ _ _) ?_
      split
      · exact h
      · have htouch : ∀ c l, regsCanon (forEach l s fun t (k : Chunk) => collTouch t c k.idx) := fun c l =>
          regsCanon_forEach (fun u k hu => regsCanon_collTouch hu _ _) h
        exact regsCanon_ite (regsCanon_abortColl (htouch _ _) _ _ _ _ _ _)
          (regsCanon_forEach (fun _ _ hu => regsCanon_freeSlot hu _ _ _ _) (regsCanon_setColl (htouch _ _) _))

theorem regsCanon_resendReqRx (h : regsCanon s) (d : Nat) (f : Frame) : regsCanon (resendReqRx s d f) := by
  grind [resendReqRx, regsCanon_picRows16, regsCanon_picDrop, regsCanon_unitDrop, regsCanon_bump, regsCanon_collTouch,
    regsCanon_abortColl, regsCanon_sendRed]

theorem regsCanon_suppressReport (h : regsCanon s) : regsCanon (suppressReport s) := by
  grind [suppressReport, regsCanon_setCore, regsCanon_freeSlot, regsCanon_setColl]

theorem regsCanon_collTimeout (h : regsCanon s) (x gn q : Nat) : regsCanon (collTimeout s x gn q) := by
  rw [collTimeout]
  split
  · exact h
  · dsimp only
    split
    · exact regsCanon_abortColl h _ _ _ _ _ _
    · exact regsCanon_ite (regsCanon_abortColl h _ _ _ _ _ _) h

theorem regsCanon_ackTimeout (h : regsCanon s) (x gn q : Nat) : regsCanon (ackTimeout s x gn q) := by
  grind [ackTimeout, regsCanon_abortColl]

theorem regsCanon_tombExpire (h : regsCanon s) (x gn q : Nat) : regsCanon (tombExpire s x gn q) := regsCanon_setPic h _

theorem regsCanon_mirrorTimeout (h : regsCanon s) (gn : Nat) : regsCanon (mirrorTimeout s gn) :=
  regsCanon_ite (regsCanon_event (regsCanon_setGroup h _ _) _ _ _ _ _ _ _) h

theorem regsCanon_mirrorConfirm (h : regsCanon s) (f : Frame) (m : MirrorGet) : regsCanon (mirrorConfirm s f m) :=
  regsCanon_ite (regsCanon_setPic h _) (regsCanon_setGroup (regsCanon_setReg (regsCanon_setPic h _) _ _) _ _)

theorem regsCanon_logHit (h : regsCanon s) (x o : Nat) : regsCanon (logHit s x o) := by
  rw [logHit]
  dsimp only
  split
  · exact h
  · refine regsCanon_ite (regsCanon_abortColl h _ _ _ _ _ _) ?_
    split
    · exact h
    · have htouch := regsCanon_memTouchPart h
      exact regsCanon_event (regsCanon_ite (htouch _ _ _) (regsCanon_memWrite (htouch _ _ _) _ _ _)) _ _ _ _ _ _ _

theorem regsCanon_grpDone (h : regsCanon s) (code : Nat) : regsCanon (grpDone s code) :=
  regsCanon_ring (regsCanon_fset (regsCanon_fset h _ _) _ _) _

theorem regsCanon_grpReplace (h : regsCanon s) (gn : Nat) : regsCanon (grpReplace s gn) :=
  regsCanon_ite (regsCanon_genAdvance (regsCanon_abortWhere h _ _ _) _) h

theorem regsCanon_grpFinish (h : regsCanon s) (gn : Nat) (was : Bool) : regsCanon (grpFinish s gn was) :=
  regsCanon_ite (regsCanon_fset (regsCanon_setPic h _) _ _) (regsCanon_grpDone h _)

theorem regsCanon_grpClear (h : regsCanon s) (gn : Nat) : regsCanon (grpClear s gn) :=
  regsCanon_setGroup (regsCanon_grpReplace h _) _ _

theorem regsCanon_grpCommand (h : regsCanon s) (op : Nat) : regsCanon (grpCommand s op) := by
  have hwords : ∀ t a b c d e f, regsCanon t → regsCanon (setReg (setReg (setReg (setReg (setReg (setReg t PIC_GRP_W0 a)
      PIC_GRP_W1 b)
      PIC_GRP_W2 c) PIC_GRP_W3 d) PIC_GRP_W4 e) PIC_GRP_W5 f) := fun t a b c d e f ht =>
    regsCanon_setReg (regsCanon_setReg (regsCanon_setReg (regsCanon_setReg (regsCanon_setReg (regsCanon_setReg ht _ _) _ _) _ _) _
        _) _ _) _ _
  unfold grpCommand
  refine regsCanon_ite (regsCanon_grpDone h _) ?_
  split
  · exact regsCanon_grpDone (regsCanon_fset (hwords _ _ _ _ _ _ _ h) _ _) _
  · exact regsCanon_ite (regsCanon_grpDone h _) (regsCanon_grpFinish (regsCanon_setPic (regsCanon_grpReplace h _) _) _ _)
  · exact regsCanon_grpFinish (regsCanon_grpClear h _) _ _
  · exact regsCanon_grpDone (regsCanon_abortWhere h _ _ _) _

theorem regsCanon_picUnpick (h : regsCanon s) (x : Nat) : regsCanon (picUnpick s x) :=
  regsCanon_forEach (fun _ _ ht => regsCanon_grpClear ht _) h

theorem regsCanon_picEffect (h : regsCanon s) (off : Nat) (w : Word) : regsCanon (picEffect s off w) :=
  regsCanon_ite (regsCanon_grpCommand h _) (regsCanon_ite (regsCanon_ite (regsCanon_fset h _ _) h) (regsCanon_ite
      (regsCanon_setPic h _) h))

end Sys2Proof.Machine
end

section
/-! SUPPORT. The register file stays canonical (O3): bobbins, one-sided access, the timebase, faults and broadcast. -/

namespace Sys2Proof.Machine

set_option Elab.async false

variable {s : State}

/-! The bobbin fabric. -/

theorem regsCanon_setBobbin (h : regsCanon s) (n : Nat) (f : Bobbin → Bobbin) : regsCanon (setBobbin s n f) :=
  regsCanon_setBob h _

theorem regsCanon_storeFix (h : regsCanon s) (n a len : Nat) : regsCanon (storeFix s n a len) :=
  regsCanon_ite h (regsCanon_ite (regsCanon_bumpBy (regsCanon_setBobbin h _ _) _ _) (regsCanon_setBobbin h _ _))

theorem regsCanon_storeWrite (h : regsCanon s) (n a : Nat) (bs : List Byte) : regsCanon (storeWrite s n a bs) := by
  grind [storeWrite, regsCanon_setBobbin]

theorem regsCanon_freeBytes (h : regsCanon s) (n : Nat) : regsCanon (freeBytes s n).2 := h

theorem regsCanon_storeUndefine (h : regsCanon s) (n a len : Nat) : regsCanon (storeUndefine s n a len) := by
  grind [storeUndefine, regsCanon_freeBytes, regsCanon_storeWrite]

theorem regsCanon_pushToken (h : regsCanon s) (n q : Nat) (t' : Token) : regsCanon (pushToken s n q t') :=
  regsCanon_setBobbin h _ _

theorem regsCanon_copyUndefine (h : regsCanon s) (n owner : Nat) (w : Work) : regsCanon (copyUndefine s n owner w) := by
  grind [copyUndefine, regsCanon_forRange, regsCanon_freeBytes, regsCanon_ctxWrite, regsCanon_storeUndefine]

theorem regsCanon_stripVoq (h : regsCanon s) (k id : Nat) : regsCanon (stripVoq s k id) := by grind [stripVoq, regsCanon_voqErase]

theorem regsCanon_discardSends (h : regsCanon s) (n : Nat) : regsCanon (discardSends s n) :=
  regsCanon_forEach (fun _ _ ht => regsCanon_ite ht (regsCanon_ctxBump (regsCanon_setCore (regsCanon_forEach (fun _ _ hu =>
      regsCanon_stripVoq hu _ _) ht) _) _ _ _)) h

theorem regsCanon_mmaPause (h : regsCanon s) (n : Nat) : regsCanon (mmaPause s n) := regsCanon_setBobbin h _ _
theorem regsCanon_mmaResume (h : regsCanon s) (n : Nat) : regsCanon (mmaResume s n) := regsCanon_setBobbin h _ _

theorem regsCanon_tdAdd (h : regsCanon s) (n k t' : Nat) : regsCanon (tdAdd s n k t') :=
  regsCanon_ctxBump (regsCanon_bumpBy h _ _) _ _ _

theorem regsCanon_clearBobbin (h : regsCanon s) (owner n : Nat) : regsCanon (clearBobbin s owner n) := by
  grind [clearBobbin, regsCanon_tdAdd, regsCanon_forEach, regsCanon_storeUndefine, regsCanon_copyUndefine,
    regsCanon_discardSends, regsCanon_setBobbin]

theorem regsCanon_flitDrops (h : regsCanon s) (r k : Nat) : regsCanon (flitDrops s r k) :=
  regsCanon_ite (regsCanon_ctxBump (regsCanon_bumpBy h _ _) _ _ _) h

theorem regsCanon_flitDrop (h : regsCanon s) (r : Nat) : regsCanon (flitDrop s r) := regsCanon_flitDrops h _ _

theorem regsCanon_discardFlits (h : regsCanon s) (r : Nat) : regsCanon (discardFlits s r) := by
  grind [discardFlits, regsCanon_forEach, regsCanon_setBobbin, regsCanon_storeUndefine]

theorem regsCanon_clearRegion (h : regsCanon s) (r : Nat) : regsCanon (clearRegion s r) :=
  regsCanon_discardFlits (regsCanon_forEach (fun _ _ ht => regsCanon_clearBobbin ht _ _) h) _

theorem regsCanon_regionEnd (h : regsCanon s) (r how : Nat) : regsCanon (regionEnd s r how) :=
  regsCanon_ring (regsCanon_event h _ _ _ _ _ _ _) _

theorem regsCanon_stopRegion (h : regsCanon s) (r : Nat) : regsCanon (stopRegion s r) :=
  regsCanon_regionEnd (regsCanon_fset (regsCanon_clearRegion h _) _ _) _ _

theorem regsCanon_regionFault (h : regsCanon s) (n j pc code value : Nat) : regsCanon (regionFault s n j pc code value) :=
  regsCanon_ite (regsCanon_clearRegion h _) (regsCanon_regionEnd (regsCanon_fset (regsCanon_clearRegion (regsCanon_fset
      (regsCanon_fset (regsCanon_fset (regsCanon_fset (regsCanon_fset h _ _) _ _) _ _) _ _) _ _) _) _ _) _ _)

theorem regsCanon_regionDone (h : regsCanon s) (r : Nat) : regsCanon (regionDone s r) :=
  regsCanon_ite h (regsCanon_regionEnd (regsCanon_fset (regsCanon_fset (regsCanon_forEach (fun _ _ ht => regsCanon_mmaPause ht _)
      h) _ _) _ _) _ _)

theorem regsCanon_startRegion (h : regsCanon s) (r : Nat) : regsCanon (startRegion s r) :=
  regsCanon_regionDone (regsCanon_forEach (fun _ _ ht => regsCanon_setBobbin (regsCanon_mmaResume ht _) _ _) (regsCanon_setReg h _
      _)) _

theorem regsCanon_regionCommand (h : regsCanon s) (op r : Nat) : regsCanon (regionCommand s op r) :=
  regsCanon_ite h (regsCanon_ite (regsCanon_fset h _ _) (regsCanon_ite (regsCanon_startRegion (regsCanon_fset h _ _) _)
      (regsCanon_stopRegion (regsCanon_fset h _ _) _)))

theorem regsCanon_setNeedle (h : regsCanon s) (n j : Nat) (f : Needle → Needle) : regsCanon (setNeedle s n j f) :=
  regsCanon_setBobbin h _ _

theorem regsCanon_setG (h : regsCanon s) (n j k : Nat) (v : Word) : regsCanon (setG s n j k v) :=
  regsCanon_ite h (regsCanon_setNeedle h _ _ _)

/-- A stitch whose result, whichever it is, holds a canonical register file. -/
def Fired.regsCanon : Fired → Prop
  | .go s _ | .halt s | .fault s _ _ => Machine.regsCanon s

theorem regsCanon_fire (h : regsCanon s) (n j : Nat) (p : Bobbin → Word → Bool) {f : State → Bobbin → Word → Fired}
    (hf : ∀ b w, (f s b w).regsCanon) : regsCanon (fire s n j p f) := by
  have hres := hf (bob s n) (stitchAt (bob s n) j)
  grind [fire, Fired.regsCanon, regsCanon_regionFault, regsCanon_setBobbin, regsCanon_setNeedle, regsCanon_regionDone]

theorem regsCanon_fireOp (h : regsCanon s) (n j op : Nat) {f : State → Bobbin → Word → Fired}
    (hf : ∀ b w, (f s b w).regsCanon) : regsCanon (fireOp s n j op f) := regsCanon_fire h n j _ hf

theorem regsCanon_fireRd (h : regsCanon s) (n j op : Nat) (f : State → Bobbin → Word → Word) :
    regsCanon (fireRd s n j op f) := regsCanon_fireOp h n j op fun _ _ => regsCanon_setG h _ _ _ _

theorem regsCanon_accept (h : regsCanon s) (n j : Nat) (w : Word) (desc : List Byte) (kind : Nat) (put : Bobbin → Work → Bobbin) :
    regsCanon (accept s n j w desc kind put) :=
  regsCanon_setNeedle (regsCanon_setBobbin h _ _) _ _ _

theorem regsCanon_workDone (h : regsCanon s) (n : Nat) (w : Work) : regsCanon (workDone s n w) :=
  regsCanon_ite (regsCanon_pushToken (regsCanon_setNeedle h _ _ _) _ _ _) (regsCanon_setNeedle h _ _ _)

theorem regsCanon_bobEffect (h : regsCanon s) (off : Nat) (w : Word) : regsCanon (bobEffect s off w) :=
  regsCanon_ite (regsCanon_regionCommand h _ _) h

/-! Tokens sent by a stitch. -/

theorem regsCanon_sendToken (h : regsCanon s) (n : Nat) (b : Bobbin) (j : Nat) (w : Word) : regsCanon (sendToken s n b j w) :=
  regsCanon_ite (regsCanon_flitDrop h _) (regsCanon_setBobbin h _ _)

/-! The MAC arrays and the vector unit. -/

theorem regsCanon_readRanges (h : regsCanon s) (n : Nat) (l : List (Nat × Nat)) :
    ∀ t, readRanges s n l = some t → regsCanon t := by
  grind [readRanges, regsCanon_forEach, regsCanon_storeFix]

theorem regsCanon_fireDesc (h : regsCanon s) (n j op len : Nat) (p : List Byte → Bool) (ok : State → Bobbin → List Byte → Nat)
    (put : Bobbin → Work → Bobbin) : regsCanon (fireDesc s n j op len p ok put) := by
  refine regsCanon_fire h n j _ fun b w => ?_
  split
  · exact h
  · have hfix := regsCanon_storeFix h n (vRa b j w).toNat len
    dsimp only
    split
    · exact regsCanon_accept hfix _ _ _ _ _ _
    · exact hfix

theorem regsCanon_mmaAccount (h : regsCanon s) (n : Nat) (w : Work) : regsCanon (mmaAccount s n w) :=
  regsCanon_tdAdd (regsCanon_tdAdd h _ _ _) _ _ _

theorem regsCanon_mmaComplete (h : regsCanon s) (n : Nat) : regsCanon (mmaComplete s n) := by
  have hread : ∀ l u, readRanges s n l = some u → regsCanon u := fun l u => regsCanon_readRanges h n l u
  have hrows : ∀ u c (rows : List (Nat × List Byte)), regsCanon u → regsCanon (forEach rows { u with free := c } fun s r =>
      storeWrite s n r.1 r.2) :=
    fun u c rows hu => regsCanon_forEach (fun _ _ ht => regsCanon_storeWrite ht _ _ _) hu
  rw [mmaComplete]
  split
  · exact h
  · refine regsCanon_ite h ?_
    split
    · exact regsCanon_regionFault h _ _ _ _ _
    · next u hu => exact regsCanon_workDone (regsCanon_setBobbin (regsCanon_mmaAccount (hrows u _ _ (hread _ _ hu)) _ _) _ _) _ _

theorem regsCanon_sticky (h : regsCanon s) (r : Nat) (fl : Flags) : regsCanon (sticky s r fl) := by
  grind [sticky, regsCanon_draw, regsCanon_fset]

theorem regsCanon_vopComplete (h : regsCanon s) (n : Nat) : regsCanon (vopComplete s n) := by
  have hread : ∀ l u, readRanges s n l = some u → regsCanon u := fun l u => regsCanon_readRanges h n l u
  have hrows : ∀ u c (rows : List (Nat × List Byte)), regsCanon u → regsCanon (forEach rows { u with free := c } fun s r =>
      storeWrite s n r.1 r.2) :=
    fun u c rows hu => regsCanon_forEach (fun _ _ ht => regsCanon_storeWrite ht _ _ _) hu
  rw [vopComplete]
  split
  · exact h
  · refine regsCanon_ite h ?_
    split
    · exact regsCanon_regionFault h _ _ _ _ _
    · next u hu => exact regsCanon_workDone (regsCanon_setBobbin (regsCanon_sticky (hrows u _ _ (hread _ _ hu)) _ _) _ _) _ _

theorem regsCanon_fireVop (h : regsCanon s) (n j op : Nat) : regsCanon (fireVop s n j op) := regsCanon_fireDesc h _ _ _ _ _ _ _

/-! Copies, sends and what arrives at bobbins. -/

theorem regsCanon_copyFlits (h : regsCanon s) (n : Nat) (b : Bobbin) (d : List Byte) (id : Nat) :
    regsCanon (copyFlits s n b d id) :=
  regsCanon_ite (regsCanon_flitDrops h _ _) (regsCanon_setBobbin h _ _)

theorem regsCanon_fireCopy (h : regsCanon s) (n j kind : Nat) : regsCanon (fireCopy s n j kind) := by
  refine regsCanon_fire h n j _ fun b w => ?_
  have hread : ∀ l u, readRanges (storeFix s n (vRa b j w).toNat 64) n l = some u → regsCanon u :=
    fun l u => regsCanon_readRanges (regsCanon_storeFix h _ _ _) n l u
  have hfix := regsCanon_storeFix h n (vRa b j w).toNat 64
  grind [Fired.regsCanon, regsCanon_newId, regsCanon_accept, regsCanon_copyFlits]

theorem regsCanon_moveRow (h : regsCanon s) (n own : Nat) (d : List Byte) (i : Nat) :
    (∀ t, moveRow s n own d i = .inl t → regsCanon t) ∧ ∀ t, moveRow s n own d i = .inr t → regsCanon t.1 := by
  have hread : ∀ t o len, regsCanon t → regsCanon (ctxTouch t own o len) := fun t o len ht => regsCanon_ctxTouch ht _ _ _
  have hpart : ∀ t o len, regsCanon t → regsCanon (ctxTouchPart t own o len) := fun t o len ht => regsCanon_ctxTouchPart ht _ _ _
  have hfix : ∀ t o len, regsCanon t → regsCanon (storeFix t n o len) := fun t o len ht => regsCanon_storeFix ht _ _ _
  have hput : ∀ t o bs, regsCanon t → regsCanon (ctxPut t own o bs) := fun t o bs ht => regsCanon_ctxPut ht _ _ _
  have hstore : ∀ t o bs, regsCanon t → regsCanon (storeWrite t n o bs) := fun t o bs ht => regsCanon_storeWrite ht _ _ _
  constructor <;> intro t ht <;> grind [moveRow]

theorem regsCanon_moveRows (h : regsCanon s) (n own : Nat) (d : List Byte) (fuel i : Nat) :
    regsCanon (moveRows n own d fuel i s).1 := by
  induction fuel generalizing i s with
  | zero => exact h
  | succ fuel ih =>
    obtain ⟨hgo, hstop⟩ := regsCanon_moveRow h n own d i
    rw [moveRows]
    split
    · next heq => exact hstop _ heq
    · next heq => exact ih (hgo _ heq) _

theorem regsCanon_copyComplete (h : regsCanon s) (n : Nat) : regsCanon (copyComplete s n) := by
  grind [copyComplete, regsCanon_workDone, regsCanon_setBobbin, regsCanon_moveRows, regsCanon_regionFault]

theorem regsCanon_sendFrame (h : regsCanon s) (b : Bobbin) (own : Nat) (d : List Byte) : regsCanon (sendFrame s b own d).2.2 := by
  grind [sendFrame, regsCanon_setSec]

theorem regsCanon_fireSend (h : regsCanon s) (n j : Nat) : regsCanon (fireSend s n j) := by
  refine regsCanon_fire h n j _ fun b w => ?_
  have hread : ∀ l u, readRanges (storeFix s n (vRa b j w).toNat 32) n l = some u → regsCanon u :=
    fun l u => regsCanon_readRanges (regsCanon_storeFix h _ _ _) n l u
  have hfix := regsCanon_storeFix h n (vRa b j w).toNat 32
  grind [Fired.regsCanon, regsCanon_sendFrame, regsCanon_accept, regsCanon_originateSend, regsCanon_sendCrossed,
      regsCanon_ctxBump, regsCanon_bump]

theorem regsCanon_sendComplete (h : regsCanon s) (n : Nat) : regsCanon (sendComplete s n) := by
  grind [sendComplete, regsCanon_workDone, regsCanon_setBobbin]

theorem regsCanon_takeFlit (h : regsCanon s) (n : Nat) (f : Flit) : regsCanon (takeFlit s n f) := by
  grind [takeFlit, regsCanon_pushToken, regsCanon_storeWrite, regsCanon_flitDrop, regsCanon_bump, regsCanon_ctxBump,
    regsCanon_staleEvent]

theorem regsCanon_tokenArrive (h : regsCanon s) (n : Nat) : regsCanon (tokenArrive s n) := by
  grind [tokenArrive, regsCanon_takeFlit, regsCanon_setBobbin]

theorem regsCanon_deliverTo (h : regsCanon s) (r num : Nat) (h' : BitVec 256) (body : List Byte) :
    ∀ t, deliverTo s r num h' body = .inr t → regsCanon t := by
  grind [deliverTo, regsCanon_draw, regsCanon_storeWrite, regsCanon_pushToken, regsCanon_setBobbin]

theorem regsCanon_deliveryFail (h : regsCanon s) (r row : Nat) : regsCanon (deliveryFail s r row) :=
  regsCanon_eventLim (regsCanon_ctxBump (regsCanon_bump h _) _ _ _) _ _ _ _ _ _ _ _ _

theorem regsCanon_inletDelivery (h : regsCanon s) (c : Nat) (f : Frame) : regsCanon (inletDelivery s c f) := by
  grind [inletDelivery, regsCanon_sendNack, regsCanon_unitDrop, regsCanon_ctxBump, regsCanon_bump, regsCanon_staleRole,
    regsCanon_deliveryFail, regsCanon_deliverTo]

theorem regsCanon_handoffDelivery (h : regsCanon s) (r : Nat) : regsCanon (handoffDelivery s r) := by
  grind [handoffDelivery, regsCanon_setPic, regsCanon_abortColl, regsCanon_deliveryFail, regsCanon_deliverTo]

/-! One-sided access and the patrol. -/

theorem regsCanon_osFail (h : regsCanon s) (d : Nat) (f : Frame) (row : Nat) : regsCanon (osFail s d f row) := by
  grind [osFail, regsCanon_staleRole, regsCanon_unitDrop, regsCanon_bump, regsCanon_eventLim, regsCanon_sendNack]

theorem regsCanon_oneSidedPut (h : regsCanon s) (io : Nat) (f : Frame) : regsCanon (oneSidedPut s io f) := by
  grind [oneSidedPut, regsCanon_osFail, regsCanon_memTouchPart, regsCanon_unitDrop, regsCanon_bump, regsCanon_ctxBump,
    regsCanon_memWrite]

theorem regsCanon_getResp (h : regsCanon s) (d : Nat) (f : Frame) (data : List Byte) : regsCanon (getResp s d f data) :=
  regsCanon_originate h _ _ _

theorem regsCanon_oneSidedGet (h : regsCanon s) (io : Nat) (f : Frame) : regsCanon (oneSidedGet s io f) := by
  rw [oneSidedGet]
  dsimp only
  split
  · exact regsCanon_osFail h _ _ _
  · have htouch := regsCanon_ctxTouch h (hCtx f.hdr) (hOffset f.hdr) (getLen f)
    refine regsCanon_ite (regsCanon_ctxBump (regsCanon_getResp htouch _ _ _) _ _ _) ?_
    exact regsCanon_getResp (regsCanon_bump (regsCanon_forEach (fun t l ht => regsCanon_ite (regsCanon_logHit ht _ _) ht) htouch)
        _) _ _ _

theorem regsCanon_getRespRx (h : regsCanon s) (f : Frame) : regsCanon (getRespRx s f) := by
  grind [getRespRx, regsCanon_mirrorConfirm, regsCanon_unitDrop, regsCanon_bump]

theorem regsCanon_memEffect (h : regsCanon s) (off : Nat) (x : Word) : regsCanon (memEffect s off x) :=
  regsCanon_ite (regsCanon_memMapLoad h) h

/-! The timebase. -/

theorem regsCanon_gateEnter (h : regsCanon s) (L : Nat) : regsCanon (gateEnter s L) := by
  grind [gateEnter, regsCanon_fset, regsCanon_setGate]

theorem regsCanon_trigArm (h : regsCanon s) (k : Nat) : regsCanon (trigArm s k) :=
  regsCanon_ite h (regsCanon_fset (regsCanon_setTime h _) _ _)

theorem regsCanon_trigToken (h : regsCanon s) (k : Nat) : regsCanon (trigToken s k) := by
  grind [trigToken, regsCanon_flitDrop, regsCanon_draw, regsCanon_setBobbin]

theorem regsCanon_trigAct (h : regsCanon s) (k : Nat) : regsCanon (trigAct s k) := by
  grind [trigAct, regsCanon_fset, regsCanon_ring, regsCanon_trigToken]

theorem regsCanon_trigAll (h : regsCanon s) : regsCanon (trigAll s) := regsCanon_forEach (fun _ _ ht => regsCanon_trigAct ht _) h

theorem regsCanon_trigFire (h : regsCanon s) (k : Nat) : regsCanon (trigFire s k) :=
  regsCanon_ite (regsCanon_forEach (fun _ _ ht => regsCanon_trigAct ht _) h) h

theorem regsCanon_tbJump (h : regsCanon s) (new : Int) : regsCanon (tbJump s new) := by
  have hgates : ∀ t (l : List Nat), regsCanon t → regsCanon (forEach l t fun t L => gateEnter (gateSwitch t L) L) := fun t l ht =>
    regsCanon_forEach (fun _ _ hu => regsCanon_gateEnter (regsCanon_gateSwitch hu _) _) ht
  have htb : ∀ n, regsCanon { trigAll s with tb := n } := fun _ => regsCanon_trigAll h
  rw [tbJump]
  refine regsCanon_trigAll (hgates _ _ ?_)
  grind [regsCanon_setByp, regsCanon_ring, regsCanon_event, regsCanon_fset]

theorem regsCanon_tbSet (h : regsCanon s) : regsCanon (tbSet s) := regsCanon_tbJump h _

theorem regsCanon_servoTo (h : regsCanon s) (st : Nat) : regsCanon (servoTo s st) :=
  regsCanon_ite h (regsCanon_ite (regsCanon_event (regsCanon_ring (regsCanon_fset h _ _) _) _ _ _ _ _ _ _) (regsCanon_ring
      (regsCanon_fset h _ _) _))

theorem regsCanon_openRound (h : regsCanon s) (n : Int) : regsCanon (openRound s n).2 := by grind [openRound, regsCanon_draw]

theorem regsCanon_sample (h : regsCanon s) (e : Int) : regsCanon (sample s e) := by
  grind [sample, regsCanon_setTime, regsCanon_tbJump, regsCanon_event, regsCanon_openRound, regsCanon_fset, regsCanon_servoTo]

theorem regsCanon_tbOffset (h : regsCanon s) : regsCanon (tbOffset s) := by grind [tbOffset, regsCanon_setReg, regsCanon_sample]

theorem regsCanon_tbServo (h : regsCanon s) : regsCanon (tbServo s) :=
  regsCanon_ite h (regsCanon_servoTo (regsCanon_fset h _ _) _)

theorem regsCanon_holdover (h : regsCanon s) : regsCanon (holdover s) := regsCanon_ite (regsCanon_servoTo h _) h

theorem regsCanon_capPop (h : regsCanon s) : regsCanon (capPop s) :=
  regsCanon_forRange (fun _ _ ht => regsCanon_setReg ht _ _) (regsCanon_capShow (regsCanon_setTime h _))

theorem regsCanon_tbEffect (h : regsCanon s) (off : Nat) (w : Word) : regsCanon (tbEffect s off w) :=
  regsCanon_ite (regsCanon_tbSet h) (regsCanon_ite (regsCanon_tbOffset h) (regsCanon_ite (regsCanon_tbServo h) (regsCanon_ite
      (regsCanon_ite (regsCanon_capPop h) h) (regsCanon_ite (regsCanon_trigArm h _) h))))

theorem regsCanon_levelPort (h : regsCanon s) (dt L : Nat) : regsCanon (levelPort dt s L) := by
  grind [levelPort, regsCanon_bumpBy]

theorem regsCanon_levelBob (h : regsCanon s) (dt n : Nat) : regsCanon (levelBob dt s n) :=
  regsCanon_ite (regsCanon_tdAdd h _ _ _) h

theorem regsCanon_tick (h : regsCanon s) : regsCanon (tick s) := by
  rw [tick]
  exact regsCanon_ite h (regsCanon_forEach (fun _ _ ht => regsCanon_levelBob ht _ _)
    (regsCanon_forEach (fun _ _ ht => regsCanon_levelPort ht _ _) h))

/-! Registers that freeze with their die. -/

theorem regsCanon_freezeViews (h : regsCanon s) (d : Nat) : regsCanon (freezeViews s d) := by
  have hkeep : ∀ (t : State) off, regsCanon t → regsCanon (match viewOf t off with
    | some v => setReg t off (BitVec.ofNat 64 v)
    | none => t) := fun t off ht => by split <;> [exact regsCanon_setReg ht _ _; exact ht]
  rw [freezeViews]
  refine regsCanon_ite h ?_
  refine regsCanon_forEach (fun t L ht => regsCanon_forRange (fun u c hu => hkeep u _ hu) (hkeep t _ ht))
    (regsCanon_forEach (fun t k ht => hkeep t _ ht) (hkeep _ _ (hkeep _ _ (Canon.filter h _))))

/-! Faults, fences and recovery. -/

theorem regsCanon_bundlesRefresh (h : regsCanon s) : regsCanon (bundlesRefresh s) :=
  regsCanon_fset (regsCanon_forRange (fun _ _ ht => regsCanon_fset (regsCanon_fset (regsCanon_fset ht _ _) _ _) _ _) h) _ _

theorem regsCanon_flitCrcFail (h : regsCanon s) (b : Nat) : regsCanon (flitCrcFail s b) := regsCanon_ite (regsCanon_bump h _) h

theorem regsCanon_laneFail (h : regsCanon s) (b wg lane : Nat) : regsCanon (laneFail s b wg lane) := by
  grind [laneFail, regsCanon_setFlt, regsCanon_bundlesRefresh, regsCanon_event, regsCanon_ring, regsCanon_forRange,
    regsCanon_linkFailure, regsCanon_portDown]

theorem regsCanon_retuneEnd (h : regsCanon s) (b : Nat) : regsCanon (retuneEnd s b) := regsCanon_ite h (regsCanon_setFlt h _)

theorem regsCanon_oeFault (h : regsCanon s) (n : Nat) : regsCanon (oeFault s n) := by
  grind [oeFault, regsCanon_forRange, regsCanon_linkFailure, regsCanon_portDown]

theorem regsCanon_basicEntry (h : regsCanon s) : regsCanon (basicEntry s) := by
  grind [basicEntry, regsCanon_abortWhere, regsCanon_forRange, regsCanon_stopRegion, regsCanon_setReg,
    regsCanon_allElectronic, regsCanon_setSys]

theorem regsCanon_enterFaulted (h : regsCanon s) : regsCanon (enterFaulted s) := regsCanon_setMode (regsCanon_allElectronic h) _

theorem regsCanon_ctlFault (h : regsCanon s) : regsCanon (ctlFault s) :=
  regsCanon_enterFaulted (regsCanon_setSys (regsCanon_forRange (fun _ _ ht => regsCanon_gateClose ht _) h) _)

theorem regsCanon_testEnd (h : regsCanon s) (code : Nat) : regsCanon (testEnd s code) :=
  regsCanon_fset (regsCanon_fset (regsCanon_fset h _ _) _ _) _ _

theorem regsCanon_dieSet (h : regsCanon s) (d st : Nat) : regsCanon (dieSet s d st) :=
  regsCanon_ring (regsCanon_event (regsCanon_fset h _ _) _ _ _ _ _ _ _) _

theorem regsCanon_laneGates (h : regsCanon s) (d : Nat) : regsCanon (laneGates s d) :=
  regsCanon_forRange (fun _ _ ht => regsCanon_setLane ht _ _) h

theorem regsCanon_loseIoQueues (h : regsCanon s) (x : Nat) : regsCanon (loseIoQueues s x) := by
  grind [loseIoQueues, regsCanon_forRange, regsCanon_discardVoq, regsCanon_bumpBy]

theorem regsCanon_loseIoFrames (h : regsCanon s) (x : Nat) : regsCanon (loseIoFrames s x) :=
  regsCanon_forEach (fun _ _ ht => regsCanon_ctxDrop (regsCanon_bump ht _) _) (regsCanon_setCore h _)

theorem regsCanon_loseHome (h : regsCanon s) (d x : Nat) : regsCanon (loseHome s d x) := by
  grind [loseHome, regsCanon_loseIoFrames, regsCanon_forRange, regsCanon_forEach, regsCanon_losePiece, regsCanon_setCore,
    regsCanon_loseIoQueues]

theorem regsCanon_loseQueues (h : regsCanon s) (d : Nat) : regsCanon (loseQueues s d) := by
  grind [loseQueues, regsCanon_forEach, regsCanon_giveUp, regsCanon_discardFrame, regsCanon_setCore]

theorem regsCanon_loseMembers (h : regsCanon s) (d : Nat) : regsCanon (loseMembers s d) :=
  regsCanon_forRange (fun _ _ ht => regsCanon_forRange (fun _ _ hu => regsCanon_mcAdvance hu _ _) ht) (regsCanon_forEach (fun _ _
      ht => regsCanon_forEach (fun _ _ hu => regsCanon_mcGone (regsCanon_suppress hu _ _) _ _) ht) h)

theorem regsCanon_loseStreams (h : regsCanon s) (d : Nat) : regsCanon (loseStreams s d) :=
  regsCanon_forRange (fun _ _ ht => regsCanon_forRange (fun _ _ hu => regsCanon_ite (regsCanon_setCore hu _) (regsCanon_loseCells
      hu _ _ _)) ht) h

theorem regsCanon_abortGroups (h : regsCanon s) (d : Nat) : regsCanon (abortGroups s d) := by
  grind [abortGroups, regsCanon_abortWhere, regsCanon_forEach, regsCanon_handOff, regsCanon_sendRedFrom]

theorem regsCanon_swFault (h : regsCanon s) (d : Nat) (homes : List Nat) : regsCanon (swFault s d homes) := by
  grind [swFault, regsCanon_forRange, regsCanon_setLane, regsCanon_setPort, regsCanon_setUnder, regsCanon_fencePort,
    regsCanon_forEach, regsCanon_loseQueues, regsCanon_loseHome, regsCanon_loseMembers, regsCanon_loseStreams,
    regsCanon_loseIoFrames, regsCanon_loseIoQueues, regsCanon_setCore, regsCanon_setTbl, regsCanon_abortGroups]

theorem regsCanon_cpFault (h : regsCanon s) (d : Nat) (hot : Bool) : regsCanon (cpFault s d hot) := by
  have hlost : ∀ t (l : List Nat), regsCanon t → regsCanon (forEach l t fun s n =>
      let base := s.free
      setBobbin { s with free := base + storeSize } n fun b =>
        { b with store := [], lost := some base, eccBad := [], eccOne := [], inFlight := [], progBad := [] }) := fun t l ht =>
    regsCanon_forEach (fun u n hu => regsCanon_setBobbin (s := { u with free := u.free + storeSize }) hu _ _) ht
  rw [cpFault]
  refine hlost _ _ (regsCanon_forRange (fun t k ht => ?_) ?_)
  · grind [regsCanon_abortWhere, regsCanon_regionEnd, regsCanon_fset, regsCanon_clearRegion, regsCanon_setReg]
  · exact regsCanon_loseIoFrames (regsCanon_loseIoQueues h _) _

theorem regsCanon_dieFault (h : regsCanon s) (d cause : Nat) : regsCanon (dieFault s d cause) := by
  grind [dieFault, regsCanon_testEnd, regsCanon_freezeViews, regsCanon_setFlt, regsCanon_fset, regsCanon_bundlesRefresh,
    regsCanon_dieSet, regsCanon_swFault, regsCanon_cpFault]

theorem regsCanon_faultDie (h : regsCanon s) (d cause : Nat) : regsCanon (faultDie s d cause) :=
  regsCanon_ite (regsCanon_ctlFault h) (regsCanon_dieFault h _ _)

theorem regsCanon_dieResetDone (h : regsCanon s) (d : Nat) : regsCanon (dieResetDone s d) :=
  regsCanon_ite h (regsCanon_dieSet h _ _)

theorem regsCanon_dieFaultAge (h : regsCanon s) (d : Nat) : regsCanon (dieFaultAge s d) :=
  regsCanon_fset (regsCanon_setFlt h _) _ _

theorem regsCanon_copyTables (h : regsCanon s) (d : Nat) : regsCanon (copyTables s d) :=
  regsCanon_forRange (fun _ _ ht => regsCanon_usedUpdate ht _) (regsCanon_ite h (regsCanon_forEach (fun _ _ ht => regsCanon_setTbl
      ht _) (regsCanon_forEach (fun _ _ ht => regsCanon_setTbl ht _) (regsCanon_forRange (fun _ _ ht => regsCanon_setTbl ht _)
      h))))

theorem regsCanon_rejoin (h : regsCanon s) (d : Nat) : regsCanon (rejoin s d) := by
  grind [rejoin, regsCanon_setFlt, regsCanon_zeroDie, regsCanon_forRange, regsCanon_event, regsCanon_copyTables,
    regsCanon_setSys, regsCanon_bundlesRefresh, regsCanon_dieSet, regsCanon_laneGates, regsCanon_fibreShow,
    regsCanon_retryAtTime, regsCanon_portRefresh, regsCanon_fset]

theorem regsCanon_portCmd (h : regsCanon s) (w : Word) : regsCanon (portCmd s w) :=
  regsCanon_ite (regsCanon_fencePort h _ _) (regsCanon_ite (regsCanon_unfencePort h _) h)

theorem regsCanon_chipCmd (h : regsCanon s) (op : Nat) : regsCanon (chipCmd s op) := by
  grind [chipCmd, regsCanon_fset, regsCanon_setFlt, regsCanon_event, regsCanon_ring]

theorem regsCanon_refTake (h : regsCanon s) (r : Nat) : regsCanon (refTake s r) :=
  regsCanon_event (regsCanon_fset h _ _) _ _ _ _ _ _ _

theorem regsCanon_refLoss (h : regsCanon s) (xb : Bool) : regsCanon (refLoss s xb) :=
  regsCanon_ite h (regsCanon_ite (regsCanon_setSys h _) (regsCanon_ite (regsCanon_refTake (regsCanon_setSys h _) _)
      (regsCanon_servoTo (regsCanon_setSys (regsCanon_refTake (regsCanon_setSys h _) _) _) _)))

theorem regsCanon_internalOsc (h : regsCanon s) : regsCanon (internalOsc s) :=
  regsCanon_ite h (regsCanon_forRange (fun _ _ ht => regsCanon_ite (regsCanon_portDown ht _) ht) (regsCanon_setSys h _))

theorem regsCanon_refDecision (h : regsCanon s) : regsCanon (refDecision s) := by
  rw [refDecision]
  exact regsCanon_ite h (regsCanon_ite (regsCanon_setMode (regsCanon_basicEntry (regsCanon_setSys h _)) _)
    (regsCanon_ite (regsCanon_enterFaulted (regsCanon_setSys h _)) h))

theorem regsCanon_refReturn (h : regsCanon s) (xb : Bool) : regsCanon (refReturn s xb) := regsCanon_setSys h _

theorem regsCanon_refAtWeave (h : regsCanon s) : regsCanon (refAtWeave s) :=
  regsCanon_ite h (regsCanon_refTake (regsCanon_setSys h _) _)

theorem regsCanon_freeLocks (h : regsCanon s) (path : Nat) : regsCanon (freeLocks s path) :=
  regsCanon_forRange (fun _ _ ht => regsCanon_ite (regsCanon_fset ht _ _) ht) h

theorem regsCanon_wdDiscard (h : regsCanon s) (chan : Nat) (it : WdItem) : regsCanon (wdDiscard s chan it) := by
  cases it <;>
    grind [wdDiscard, regsCanon_setSys, regsCanon_ctxDrop, regsCanon_setCore, regsCanon_abortColl, regsCanon_flitDrop,
        regsCanon_setBobbin]

theorem regsCanon_coreFails (h : regsCanon s) (k : Nat) : regsCanon (coreFails s k) :=
  regsCanon_event (regsCanon_freeLocks (regsCanon_setSys h _) _) _ _ _ _ _ _ _

theorem regsCanon_watchdog (h : regsCanon s) (chan : Nat) (t' : WdTarget) (waited : Nat) (it : WdItem) :
    regsCanon (watchdog s chan t' waited it) := by
  grind [watchdog, regsCanon_setSys, regsCanon_event, regsCanon_wdDiscard, regsCanon_fenceEngine, regsCanon_failChannel,
    regsCanon_coreFails, regsCanon_faultDie]

theorem regsCanon_lateAck (h : regsCanon s) (chan : Nat) : regsCanon (lateAck s chan) := regsCanon_ite (regsCanon_emit h _) h

theorem regsCanon_cpSensor (h : regsCanon s) (d k temp : Nat) : regsCanon (cpSensor s d k temp) := by
  grind [cpSensor, regsCanon_setSys, regsCanon_event, regsCanon_dieFault]

theorem regsCanon_thermal (h : regsCanon s) (u : ThermalUnit) (temp : Nat) : regsCanon (thermal s u temp) := by
  cases u <;> grind [thermal, regsCanon_cpSensor, regsCanon_dieFault, regsCanon_ctlFault, regsCanon_oeFault]

theorem regsCanon_fltEffect (h : regsCanon s) (off : Nat) (w : Word) : regsCanon (fltEffect s off w) :=
  regsCanon_ite (regsCanon_chipCmd h _) (regsCanon_ite (regsCanon_portCmd h _) h)

/-! Broadcast. -/

theorem regsCanon_setBc (h : regsCanon s) (n : Nat) (f : BcSt → BcSt) : regsCanon (setBc s n f) := regsCanon_setFlt h _

theorem regsCanon_bcStopped (h : regsCanon s) (n : Nat) : regsCanon (bcStopped s n) :=
  regsCanon_event (regsCanon_fset h _ _) _ _ _ _ _ _ _

theorem regsCanon_bcListTouch (h : regsCanon s) (b : BcSt) : regsCanon (bcListTouch s b) :=
  regsCanon_ite h (regsCanon_ctxTouch h _ _ _)

theorem regsCanon_bcSetParent (h : regsCanon s) (b : BcSt) (i p : Nat) : regsCanon (bcSetParent s b i p) :=
  regsCanon_ctxWrite h _ _ _

theorem regsCanon_bcSetProgress (h : regsCanon s) (b : BcSt) (i p : Nat) : regsCanon (bcSetProgress s b i p) :=
  regsCanon_ctxWrite h _ _ _

theorem regsCanon_bcDoneCheck (h : regsCanon s) (n : Nat) : regsCanon (bcDoneCheck s n) :=
  regsCanon_ite (regsCanon_ring (regsCanon_event (regsCanon_fset (regsCanon_fset h _ _) _ _) _ _ _ _ _ _ _) _) (regsCanon_fset h _
      _)

theorem regsCanon_bcSend (h : regsCanon s) (n : Nat) (dst : Option Nat) (p : Nat) (data : List Byte) :
    regsCanon (bcSend s n dst p data) :=
  regsCanon_originate h _ _ _

theorem regsCanon_bcReport (h : regsCanon s) (n dst chip p : Nat) : regsCanon (bcReport s n dst chip p) :=
  regsCanon_originate h _ _ _

theorem regsCanon_bcSecond (h : regsCanon s) (n p : Nat) (data : List Byte) : regsCanon (bcSecond s n p data) := by
  grind [bcSecond, regsCanon_peerRgen, regsCanon_originate]

theorem regsCanon_bcMulticast (h : regsCanon s) (n : Nat) : regsCanon (bcMulticast s n) :=
  regsCanon_ite h (regsCanon_ite (regsCanon_bcStopped (regsCanon_ctxTouch h _ _ _) _) (regsCanon_setBc (regsCanon_bcSecond
      (regsCanon_bcSend (regsCanon_ctxTouch h _ _ _) _ _ _ _) _ _ _) _ _))

theorem regsCanon_bcUnicast (h : regsCanon s) (n : Nat) : regsCanon (bcUnicast s n) := by
  grind [bcUnicast, regsCanon_setBc, regsCanon_ctxTouch, regsCanon_bcStopped, regsCanon_bcSend]

theorem regsCanon_bcPiece (h : regsCanon s) (n : Nat) : regsCanon (bcPiece s n) :=
  regsCanon_ite h (regsCanon_ite (regsCanon_bcUnicast (regsCanon_ite (regsCanon_bcMulticast h _) h) _) (regsCanon_ite
      (regsCanon_bcMulticast h _) h))

theorem regsCanon_bcData (h : regsCanon s) (f : Frame) : regsCanon (bcData s f) :=
  regsCanon_ite (regsCanon_unitDrop (regsCanon_bump h _) _) (regsCanon_ite h (regsCanon_ite (regsCanon_bcStopped
      (regsCanon_ctxTouchPart h _ _ _) _) (regsCanon_bcSend (regsCanon_setBc (regsCanon_ctxPut (regsCanon_ctxTouchPart h _ _ _) _
      _ _) _ _) _ _ _ _)))

theorem regsCanon_bcProgress (h : regsCanon s) (f : Frame) : regsCanon (bcProgress s f) := by
  grind [bcProgress, regsCanon_unitDrop, regsCanon_bump, regsCanon_setBc, regsCanon_bcReport, regsCanon_bcListTouch,
    regsCanon_bcStopped, regsCanon_bcDoneCheck, regsCanon_forRange, regsCanon_bcSetProgress]

theorem regsCanon_bcRelayReport (h : regsCanon s) (n : Nat) : regsCanon (bcRelayReport s n) :=
  regsCanon_ite h (regsCanon_bcReport (regsCanon_setBc h _ _) _ _ _ _)

theorem regsCanon_bcRelayTimeout (h : regsCanon s) (n relay : Nat) : regsCanon (bcRelayTimeout s n relay) := by
  grind [bcRelayTimeout, regsCanon_bcListTouch, regsCanon_bcStopped, regsCanon_forEach, regsCanon_bcSetParent,
    regsCanon_bcReport, regsCanon_setBc, regsCanon_fset, regsCanon_event]

theorem regsCanon_bcStart (h : regsCanon s) (n : Nat) : regsCanon (bcStart s n) := by
  grind [bcStart, regsCanon_fset, regsCanon_setBc, regsCanon_bcListTouch, regsCanon_bcStopped, regsCanon_bcDoneCheck,
    regsCanon_forRange, regsCanon_bcSetProgress]

theorem regsCanon_bcResume (h : regsCanon s) (n : Nat) : regsCanon (bcResume s n) := by
  grind [bcResume, regsCanon_setBc, regsCanon_fset, regsCanon_bcListTouch, regsCanon_bcStopped, regsCanon_forRange,
    regsCanon_bcSend]

theorem regsCanon_bcResumeEnd (h : regsCanon s) (n : Nat) : regsCanon (bcResumeEnd s n) := by
  grind [bcResumeEnd, regsCanon_bcListTouch, regsCanon_bcStopped, regsCanon_setBc, regsCanon_forRange,
    regsCanon_bcSetProgress, regsCanon_bcDoneCheck]

theorem regsCanon_bcCommand (h : regsCanon s) (op : Nat) : regsCanon (bcCommand s op) := by
  grind [bcCommand, regsCanon_fset, regsCanon_setReg, regsCanon_setBc, regsCanon_bcStart, regsCanon_bcResume]

theorem regsCanon_bcUnpick (h : regsCanon s) (x : Nat) : regsCanon (bcUnpick s x) :=
  regsCanon_forEach (fun _ _ ht => regsCanon_ite (regsCanon_fset (regsCanon_setBc ht _ _) _ _) ht) h

theorem regsCanon_bcEffect (h : regsCanon s) (off : Nat) (w : Word) : regsCanon (bcEffect s off w) :=
  regsCanon_ite (regsCanon_bcCommand h _) h

end Sys2Proof.Machine
end

section
/-! SUPPORT. The register file stays canonical (O3): weaves, contexts, power, the recorder, the host and register access. -/

namespace Sys2Proof.Machine

set_option Elab.async false

variable {s : State}

/-! The weave engine. -/

theorem regsCanon_weaveResult (h : regsCanon s) (code slot sect est : Nat) : regsCanon (weaveResult s code slot sect est) :=
  regsCanon_ring (regsCanon_event (regsCanon_setReg h _ _) _ _ _ _ _ _ _) _

theorem regsCanon_weaveCode (h : regsCanon s) (code slot : Nat) : regsCanon (weaveCode s code slot) :=
  regsCanon_weaveResult h _ _ _ _

theorem regsCanon_weaveBusy (h : regsCanon s) (slot : Nat) (unpicking : Bool) : regsCanon (weaveBusy s slot unpicking) := by
  grind [weaveBusy, regsCanon_draw, regsCanon_weaveResult, regsCanon_weaveCode]

theorem regsCanon_setEngine (h : regsCanon s) (op : Nat) : regsCanon (setEngine s op) :=
  regsCanon_fset (regsCanon_setWeave h _) _ _

theorem regsCanon_modGenStep (h : regsCanon s) : regsCanon (modGenStep s) := regsCanon_setReg (regsCanon_setNvs h _) _ _
theorem regsCanon_setVerified (h : regsCanon s) (slot : Nat) (v : Bool) : regsCanon (setVerified s slot v) := regsCanon_fset h _ _

theorem regsCanon_stagedSlot (h : regsCanon s) (slot : Nat) : regsCanon (stagedSlot s slot) :=
  regsCanon_setWeave (regsCanon_setVerified h _ _) _

theorem regsCanon_engineTake (h : regsCanon s) (l : List Nat) : regsCanon (engineTake l s) := by
  induction l generalizing s with
  | nil => exact regsCanon_setWeave h _
  | cons v t ih => 
    rw [engineTake]
    exact regsCanon_ite (regsCanon_setEngine (regsCanon_setWeave h _) _)
      (regsCanon_ite (regsCanon_setEngine (regsCanon_setWeave h _) _) (ih (regsCanon_weaveCode h _ _)))

theorem regsCanon_pendCount (h : regsCanon s) : regsCanon (pendCount s) := regsCanon_fset h _ _

theorem regsCanon_dropMotif (h : regsCanon s) (slot : Nat) : regsCanon (dropMotif s slot) :=
  regsCanon_pendCount (regsCanon_setWeave h _)

theorem regsCanon_regionMotif (h : regsCanon s) (m : Motif) (im : Image) : regsCanon (regionMotif s m im) := by
  grind [regionMotif, regsCanon_weaveBusy, regsCanon_weaveCode, regsCanon_stopRegion, regsCanon_genAdvance, regsCanon_fset,
    regsCanon_setEngine, regsCanon_setWeave]

theorem regsCanon_contextMotif (h : regsCanon s) (m : Motif) : regsCanon (contextMotif s m) :=
  regsCanon_ite (regsCanon_weaveBusy h _ _) (regsCanon_weaveCode (regsCanon_modGenStep (regsCanon_memDieUpdate
      (regsCanon_memCtxUpdate (regsCanon_setSec h _) _ _))) _ _)

theorem regsCanon_motifStart (h : regsCanon s) : regsCanon (motifStart s) := by
  grind [motifStart, regsCanon_dropMotif, regsCanon_weaveCode, regsCanon_contextMotif, regsCanon_regionMotif]

theorem regsCanon_motifsDue (h : regsCanon s) (n : Nat) : regsCanon (motifsDue n s) := by
  induction n generalizing s with
  | zero => exact h
  | succ n ih =>
    rw [motifsDue]
    split
    · exact h
    · exact regsCanon_ite h (ih (regsCanon_motifStart h))

theorem regsCanon_engineNext (h : regsCanon s) : regsCanon (engineNext s) :=
  regsCanon_ite h (regsCanon_ite (regsCanon_motifsDue h _) (regsCanon_engineTake (regsCanon_motifsDue h _) _))

theorem regsCanon_weaveEnd (h : regsCanon s) (code slot sect : Nat) : regsCanon (weaveEnd s code slot sect) :=
  regsCanon_engineNext (regsCanon_weaveResult (regsCanon_setEngine h _) _ _ _ _)

theorem regsCanon_weaveVerify (h : regsCanon s) (slot : Nat) : regsCanon (weaveVerify s slot) :=
  regsCanon_engineNext (regsCanon_setWeave h _)

theorem regsCanon_verifyDone (h : regsCanon s) (readErr : Bool) : regsCanon (verifyDone s readErr) := by
  grind [verifyDone, regsCanon_setVerified, regsCanon_weaveEnd]

theorem regsCanon_applyStructure (h : regsCanon s) (str : Structure) : regsCanon (applyStructure s str) := by
  grind [applyStructure, regsCanon_forEach, regsCanon_setUnder, regsCanon_setSys, regsCanon_setPort, regsCanon_tmPortReset,
    regsCanon_retryAtTime, regsCanon_portRefresh]

theorem regsCanon_clearUnord (h : regsCanon s) : regsCanon (clearUnord s) := by
  grind [clearUnord, regsCanon_forRange, regsCanon_setTbl]

theorem regsCanon_clearWatch (h : regsCanon s) : regsCanon (clearWatch s) :=
  regsCanon_forRange (fun _ _ ht => regsCanon_ite ht (regsCanon_fset ht _ _)) h

theorem regsCanon_writeRegion (h : regsCanon s) (r mask : Nat) (sec : Option RegionSec) :
    regsCanon (writeRegion s r mask sec) := by
  unfold writeRegion
  exact regsCanon_setReg (regsCanon_setWeave (regsCanon_forRange (fun _ _ ht => regsCanon_setBobbin ht _ _) h) _) _ _

theorem regsCanon_regionOwn (h : regsCanon s) (r : Nat) (sec : Option RegionSec) : regsCanon (regionOwn s r sec) :=
  regsCanon_ite (regsCanon_fset (regsCanon_fset (regsCanon_fset h _ _) _ _) _ _) (regsCanon_fset (regsCanon_fset (regsCanon_fset h
      _ _) _ _) _ _)

theorem regsCanon_visits (h : regsCanon s) (stop : Nat) (l : List Nat) (t0 : Nat) : regsCanon (visits stop l t0 s) := by
  induction l generalizing s t0 with
  | nil => exact h
  | cons d ds ih => exact ih (regsCanon_setWeave (regsCanon_draw (regsCanon_draw h)) _) _

theorem regsCanon_commitFull (h : regsCanon s) (slot : Nat) (timed : Bool) : regsCanon (commitFull s slot timed) := by
  grind [commitFull, regsCanon_weaveCode, regsCanon_weaveBusy, regsCanon_setEngine, regsCanon_setMode,
    regsCanon_allElectronic, regsCanon_setWeave, regsCanon_visits, regsCanon_forRange, regsCanon_setReg,
    regsCanon_clearRegion]

theorem regsCanon_fullFailed (h : regsCanon s) (code slot : Nat) : regsCanon (fullFailed s code slot) :=
  regsCanon_weaveEnd (regsCanon_genAll (regsCanon_setBob (regsCanon_setWeave (regsCanon_forRange (fun _ _ ht =>
      regsCanon_regionOwn ht _ _) (regsCanon_setMode (regsCanon_basicEntry h) _)) _) _)) _ _ _

theorem regsCanon_setOrigin (h : regsCanon s) : regsCanon (setOrigin s) := regsCanon_setByp h _

theorem regsCanon_fullDone (h : regsCanon s) (slot : Nat) : regsCanon (fullDone s slot) := by
  grind [fullDone, regsCanon_applyStructure, regsCanon_setSys, regsCanon_setReg, regsCanon_memDieUpdate, regsCanon_setSec,
    regsCanon_setWeave, regsCanon_setBob, regsCanon_forRange, regsCanon_regionOwn, regsCanon_writeRegion,
    regsCanon_modGenStep, regsCanon_genAll, regsCanon_setOrigin, regsCanon_refAtWeave, regsCanon_clearWatch,
    regsCanon_clearUnord, regsCanon_setFlt, regsCanon_laneGates, regsCanon_setNvs, regsCanon_weaveEnd, regsCanon_setMode]

theorem regsCanon_fullWeaveDone (h : regsCanon s) (how : WeaveEnd) : regsCanon (fullWeaveDone s how) := by
  grind [fullWeaveDone, regsCanon_setWeave, regsCanon_weaveEnd, regsCanon_genAll, regsCanon_fullFailed, regsCanon_fullDone]

theorem regsCanon_commitMotif (h : regsCanon s) (slot : Nat) (timed preempt : Bool) :
    regsCanon (commitMotif s slot timed preempt) := by
  grind [commitMotif, regsCanon_weaveCode, regsCanon_pendCount, regsCanon_setWeave]

theorem regsCanon_regionMotifDone (h : regsCanon s) (how : WeaveEnd) : regsCanon (regionMotifDone s how) := by
  grind [regionMotifDone, regsCanon_weaveEnd, regsCanon_setWeave, regsCanon_modGenStep, regsCanon_regionOwn,
    regsCanon_writeRegion]

theorem regsCanon_weaveCancel (h : regsCanon s) (slot : Nat) : regsCanon (weaveCancel s slot) :=
  regsCanon_ite (regsCanon_weaveCode (regsCanon_dropMotif h _) _ _) h

theorem regsCanon_weaveDie (h : regsCanon s) (d : Nat) : regsCanon (weaveDie s d) :=
  regsCanon_ite (regsCanon_weaveCode h _ _) (regsCanon_engineNext (regsCanon_setWeave h _))

theorem regsCanon_reweaveRegions (h : regsCanon s) (d : Nat) : regsCanon (reweaveRegions s d) := by
  grind [reweaveRegions, regsCanon_forRange, regsCanon_writeRegion, regsCanon_genAdvance, regsCanon_regionOwn]

theorem regsCanon_reweaveDone (h : regsCanon s) : regsCanon (reweaveDone s) :=
  regsCanon_ite h (regsCanon_ite (regsCanon_weaveEnd h _ _ _) (regsCanon_weaveEnd (regsCanon_modGenStep (regsCanon_setFlt
      (regsCanon_ite (regsCanon_reweaveRegions h _) h) _)) _ _ _))

theorem regsCanon_grpWaitDone (h : regsCanon s) (k : Nat) : regsCanon (grpWaitDone s k) := by
  grind [grpWaitDone, regsCanon_grpDone, regsCanon_setPic]

theorem regsCanon_roleGenDeferred (h : regsCanon s) (k : Nat) : regsCanon (roleGenDeferred s k) :=
  regsCanon_ite (regsCanon_grpWaitDone (regsCanon_genStep (regsCanon_setWeave h _) _) _) h

theorem regsCanon_weaveEffect (h : regsCanon s) (off : Nat) (w : Word) : regsCanon (weaveEffect s off w) := by
  grind [weaveEffect, regsCanon_weaveVerify, regsCanon_commitFull, regsCanon_commitMotif, regsCanon_weaveCancel,
    regsCanon_weaveDie]

/-! Contexts. -/

theorem regsCanon_ctxEnter (h : regsCanon s) (x st : Nat) : regsCanon (ctxEnter s x st) :=
  regsCanon_event (regsCanon_fset h _ _) _ _ _ _ _ _ _

theorem regsCanon_pageZero (h : regsCanon s) (x : Nat) : regsCanon (pageZero s x) :=
  regsCanon_forRange (fun _ _ ht => regsCanon_resetReg ht _) h

theorem regsCanon_releaseRegion (h : regsCanon s) (r : Nat) : regsCanon (releaseRegion s r) := by
  grind [releaseRegion, regsCanon_stopRegion, regsCanon_clearRegion, regsCanon_setSec, regsCanon_genAdvance, regsCanon_fset]

theorem regsCanon_regionUnpickDone (h : regsCanon s) (r : Nat) : regsCanon (regionUnpickDone s r) :=
  regsCanon_ite h (regsCanon_fset (regsCanon_fset (regsCanon_setWeave (regsCanon_setSec (regsCanon_forEach (fun _ _ ht =>
      regsCanon_setBobbin ht _ _) h) _) _) _ _) _ _)

theorem regsCanon_afterUnpicks (h : regsCanon s) : regsCanon (afterUnpicks s) :=
  regsCanon_forEach (fun _ _ ht => regsCanon_releaseFrames ht _) h

theorem regsCanon_ctxAllocate (h : regsCanon s) (x : Nat) : regsCanon (ctxAllocate s x).2 := by
  grind [ctxAllocate, regsCanon_placeFrames, regsCanon_ctxEnter, regsCanon_pageZero, regsCanon_genAdvance,
    regsCanon_afterUnpicks, regsCanon_fset, regsCanon_draw]

theorem regsCanon_keysErase (h : regsCanon s) (x : Nat) : regsCanon (keysErase s x) :=
  regsCanon_forRange (fun _ _ ht => regsCanon_resetReg ht _) (regsCanon_fset (regsCanon_setSec h _) _ _)

theorem regsCanon_metersErase (h : regsCanon s) (x : Nat) : regsCanon (metersErase s x) :=
  regsCanon_forEach (fun _ _ ht => regsCanon_setMeter ht _ _) h

theorem regsCanon_unpickMove (h : regsCanon s) (x : Nat) : regsCanon (unpickMove s x) := by
  grind [unpickMove, regsCanon_draw, regsCanon_fset]

theorem regsCanon_ctxRelease (h : regsCanon s) (x : Nat) : regsCanon (ctxRelease s x) := by
  grind [ctxRelease, regsCanon_ctxEnter, regsCanon_draw, regsCanon_fset, regsCanon_setSec, regsCanon_forEach,
    regsCanon_discardQuar, regsCanon_releaseRegion, regsCanon_bcUnpick, regsCanon_picUnpick, regsCanon_metersErase,
    regsCanon_keysErase]

theorem regsCanon_ctxCommand (h : regsCanon s) (x op r : Nat) : regsCanon (ctxCommand s x op r) := by
  grind [ctxCommand, regsCanon_ring, regsCanon_fset, regsCanon_ctxAllocate, regsCanon_ctxEnter, regsCanon_forRange,
    regsCanon_stopRegion, regsCanon_ctxRelease, regsCanon_releaseRegion]

theorem regsCanon_unpickDone (h : regsCanon s) (x : Nat) : regsCanon (unpickDone s x) := by
  grind [unpickDone, regsCanon_forEach, regsCanon_zeroFrame, regsCanon_resetReg, regsCanon_pageZero, regsCanon_setPic,
    regsCanon_releaseFrames, regsCanon_forRange, regsCanon_fset, regsCanon_setSec, regsCanon_ring, regsCanon_ctxEnter]

theorem regsCanon_ctxPublish (h : regsCanon s) (x : Nat) : regsCanon (ctxPublish s x) :=
  regsCanon_ite (regsCanon_ctxWrite (regsCanon_setTel h _) _ _ _) h

theorem regsCanon_ctxEffect (h : regsCanon s) (off : Nat) (w : Word) : regsCanon (ctxEffect s off w) :=
  regsCanon_ite (regsCanon_ctxCommand h _ _ _) (regsCanon_ite (regsCanon_setTel h _) h)

/-! Power, modes and self-tests. -/

theorem regsCanon_coldState (s : State) : regsCanon (coldState s) := Canon.nil _
theorem regsCanon_powerOff (h : regsCanon s) : regsCanon (powerOff s) := by grind [powerOff, regsCanon_coldState]

theorem regsCanon_strapLatch (h : regsCanon s) (a b c : Nat) : regsCanon (strapLatch s a b c) :=
  regsCanon_ite (regsCanon_fset (regsCanon_fset (regsCanon_fset (regsCanon_setSys h _) _ _) _ _) _ _) (regsCanon_event
      (regsCanon_fset (regsCanon_fset (regsCanon_fset (regsCanon_setSys h _) _ _) _ _) _ _) _ _ _ _ _ _ _)

theorem regsCanon_strapReference (h : regsCanon s) (xa xb : Bool) : regsCanon (strapReference s xa xb) := by
  grind [strapReference, regsCanon_fset, regsCanon_setSys]

theorem regsCanon_recoveryBoot (h : regsCanon s) : regsCanon (recoveryBoot s) := regsCanon_fset (regsCanon_fset h _ _) _ _

theorem regsCanon_bootStructure (h : regsCanon s) : regsCanon (bootStructure s) := by
  grind [bootStructure, regsCanon_fset, regsCanon_setSys, regsCanon_forRange, regsCanon_laneGates]

theorem regsCanon_bootRegisters (h : regsCanon s) : regsCanon (bootRegisters s) :=
  regsCanon_forEach (fun _ _ ht => regsCanon_fset ht _ _) (regsCanon_setNvs (regsCanon_fset (regsCanon_setReg h _ _) _ _) _)

theorem regsCanon_powerUp (h : regsCanon s) (a b c : BitVec 11) (xa xb : Bool) : regsCanon (powerUp s a b c xa xb) := by
  grind [powerUp, regsCanon_setSys, regsCanon_coldState, regsCanon_bootRegisters, regsCanon_setNvs, regsCanon_strapReference,
    regsCanon_strapLatch, regsCanon_recoveryBoot, regsCanon_fset, regsCanon_bootStructure]

theorem regsCanon_gatesBegin (h : regsCanon s) : regsCanon (gatesBegin s) :=
  regsCanon_forRange (fun _ _ ht => regsCanon_ite (regsCanon_gateClose ht _) (regsCanon_gateBegin ht _)) (regsCanon_setSys h _)

theorem regsCanon_lasersPowered (h : regsCanon s) : regsCanon (lasersPowered s) :=
  regsCanon_ite h (regsCanon_gatesBegin (regsCanon_lasersOn h))

theorem regsCanon_enterBasic (h : regsCanon s) : regsCanon (enterBasic s) :=
  regsCanon_ite (regsCanon_setMode (regsCanon_setSys h _) _) h

theorem regsCanon_strapCheck (h : regsCanon s) (pins : BitVec 11) : regsCanon (strapCheck s pins) :=
  regsCanon_ite h (regsCanon_ite (regsCanon_fset h _ _) (regsCanon_event (regsCanon_setSys (regsCanon_fset h _ _) _) _ _ _ _ _ _
      _))

theorem regsCanon_paceWindow (h : regsCanon s) (n rate tj : Nat) : regsCanon (paceWindow s n rate tj) := by
  grind [paceWindow, regsCanon_setSys, regsCanon_fset, regsCanon_event]

theorem regsCanon_moduleAfter (h : regsCanon s) : regsCanon (moduleAfter s) := by
  rw [moduleAfter]
  refine regsCanon_ite (regsCanon_gatesBegin ?_) ?_ <;>
  · refine regsCanon_setMode (regsCanon_forRange (fun t L ht => regsCanon_ite (regsCanon_portRefresh ht _) ht)
      (regsCanon_forRange (fun t L ht => regsCanon_setPort ht _ _) (regsCanon_bundlesRefresh (regsCanon_memDieUpdate
      (regsCanon_setSec (regsCanon_bootStructure (regsCanon_forRange (fun t L ht => regsCanon_usedUpdate ht _)
      (regsCanon_setSys (regsCanon_setTbl (regsCanon_setCore ?_ _) _) _))) _))))) _
    refine regsCanon_forRange (fun t d ht => regsCanon_setFlt (regsCanon_zeroDie
        (regsCanon_ite (regsCanon_dieSet (regsCanon_setFlt ht _) _ _) ht) _) _) ?_
    exact regsCanon_setBob (regsCanon_setWeave (regsCanon_forRange
      (fun t r ht => regsCanon_regionOwn (regsCanon_setReg ht _ _) _ _) (regsCanon_basicEntry h)) _) _

theorem regsCanon_testAfter (h : regsCanon s) (k u : Nat) : regsCanon (testAfter s k u) := by
  grind [testAfter, regsCanon_portDown, regsCanon_forEach, regsCanon_setBobbin, regsCanon_fset, regsCanon_failChannel,
    regsCanon_setFlt, regsCanon_dieSet, regsCanon_moduleAfter]

theorem regsCanon_testSweep (h : regsCanon s) : regsCanon (testSweep s) :=
  regsCanon_ite (regsCanon_testAfter (regsCanon_setTest (regsCanon_ite (regsCanon_testEnd h _) h) _) _ _) (regsCanon_ite
      (regsCanon_testEnd h _) h)

theorem regsCanon_testStart (h : regsCanon s) (k u : Nat) : regsCanon (testStart s k u) := by
  grind [testStart, regsCanon_setReg, regsCanon_fset, regsCanon_testEnd, regsCanon_setTest, regsCanon_setUnder,
    regsCanon_setSys, regsCanon_forRange, regsCanon_gateClose]

theorem regsCanon_testEngineIdle (h : regsCanon s) : regsCanon (testEngineIdle s) :=
  regsCanon_ite (regsCanon_fset (regsCanon_setTest h _) _ _) h

theorem regsCanon_testWaitTimeout (h : regsCanon s) : regsCanon (testWaitTimeout s) :=
  regsCanon_ite (regsCanon_testSweep (regsCanon_testEnd h _)) h

theorem regsCanon_testDone (h : regsCanon s) (pass : Bool) (detail res0 res1 : Nat) :
    regsCanon (testDone s pass detail res0 res1) :=
  regsCanon_ite h (regsCanon_testSweep (regsCanon_testEnd (regsCanon_ite (regsCanon_setReg (regsCanon_setReg (regsCanon_fset h _
      _) _ _) _ _) (regsCanon_fset h _ _)) _))

theorem regsCanon_modeCommand (h : regsCanon s) (op : Nat) : regsCanon (modeCommand s op) := by
  grind [modeCommand, regsCanon_fset, regsCanon_setSys, regsCanon_setMode]

theorem regsCanon_latchOpen (h : regsCanon s) : regsCanon (latchOpen s) := by
  have hgates : ∀ t, regsCanon t → regsCanon (lasersOff (forRange 128 t gateClose)) := fun t ht =>
    regsCanon_lasersOff (regsCanon_forRange (fun _ _ hu => regsCanon_gateClose hu _) ht)
  rw [latchOpen]
  refine regsCanon_ite h (regsCanon_ite (regsCanon_setSys h _) (regsCanon_testSweep ?_))
  have hoff := fun a b c d => hgates _ (regsCanon_setSys (regsCanon_setNvs (regsCanon_setEvr (regsCanon_setSys h a) b) c) d)
  exact regsCanon_ite (regsCanon_testEnd (hoff _ _ _ _) _) (hoff _ _ _ _)

theorem regsCanon_startEffect (h : regsCanon s) (off : Nat) (w : Word) : regsCanon (startEffect s off w) := by
  grind [startEffect, regsCanon_modeCommand, regsCanon_testStart, regsCanon_testEnd, regsCanon_setSys]

/-! The recorder and telemetry. -/

theorem regsCanon_permCopy (h : regsCanon s) : regsCanon (permCopy s) := by grind [permCopy, regsCanon_setEvr, regsCanon_setNvs]

theorem regsCanon_rateWindowEnd (h : regsCanon s) (key : Nat) : regsCanon (rateWindowEnd s key) := by
  grind [rateWindowEnd, regsCanon_setEvr, regsCanon_evrOffer, regsCanon_ring]

theorem regsCanon_lostRecord (h : regsCanon s) : regsCanon (lostRecord s) :=
  regsCanon_ite h (regsCanon_evrTake (regsCanon_bump (regsCanon_setEvr h _) _) _)

theorem regsCanon_evrLoad (h : regsCanon s) (p : Nat) (r : Option Rec) : regsCanon (evrLoad s p r) := regsCanon_setEvr h _
theorem regsCanon_evrSel (h : regsCanon s) (p seq : Nat) : regsCanon (evrSel s p seq) := regsCanon_evrLoad h _ _
theorem regsCanon_evrPsel (h : regsCanon s) (p idx : Nat) : regsCanon (evrPsel s p idx) := by grind [evrPsel, regsCanon_evrLoad]

theorem regsCanon_eventsClearDone (h : regsCanon s) : regsCanon (eventsClearDone s) := by
  grind [eventsClearDone, regsCanon_evrTake, regsCanon_bump, regsCanon_setEvr, regsCanon_setNvs, regsCanon_emit]

theorem regsCanon_telQueue (h : regsCanon s) (stream period : Nat) (ds : List (List Byte)) :
    regsCanon (telQueue s stream period ds) :=
  regsCanon_setTel h _

theorem regsCanon_samplerPeriod (h : regsCanon s) : regsCanon (samplerPeriod s) :=
  regsCanon_ite h (regsCanon_setTel (regsCanon_telQueue h _ _ _) _)

theorem regsCanon_watchPeriod (h : regsCanon s) : regsCanon (watchPeriod s) :=
  regsCanon_ite h (regsCanon_setTel (regsCanon_telQueue h _ _ _) _)

theorem regsCanon_telSend (h : regsCanon s) : regsCanon (telSend s) := by
  grind [telSend, regsCanon_draw, regsCanon_emit, regsCanon_setTel]

theorem regsCanon_datagramExpire (h : regsCanon s) : regsCanon (datagramExpire s) := regsCanon_bumpBy (regsCanon_setTel h _) _ _

theorem regsCanon_telControl {old : State} (h : regsCanon s) : regsCanon (telControl old s) := by
  grind [telControl, regsCanon_setTel]

theorem regsCanon_evtEffect {old : State} (h : regsCanon s) (p off : Nat) (w : Word) :
    regsCanon (evtEffect old s p off w) := by
  grind [evtEffect, regsCanon_evrSel, regsCanon_evrPsel, regsCanon_setEvr, regsCanon_telControl]

/-! The host attachment. -/

theorem regsCanon_linkLoss (h : regsCanon s) : regsCanon (linkLoss s) :=
  regsCanon_ite h (regsCanon_icEval (regsCanon_forRange (fun _ _ ht => regsCanon_dqStop ht _ _) (regsCanon_setHost
      (regsCanon_freeLocks h _) _)))

theorem regsCanon_linkUp (h : regsCanon s) : regsCanon (linkUp s) :=
  regsCanon_ite h (regsCanon_forRange (fun _ _ ht => regsCanon_fset ht _ _) (regsCanon_setHost h _))

theorem regsCanon_barUnsupported (h : regsCanon s) (addr len : Nat) : regsCanon (barUnsupported s addr len) :=
  regsCanon_ite h (regsCanon_emit h _)

theorem regsCanon_msixEnable (h : regsCanon s) : regsCanon (msixEnable s) :=
  regsCanon_ite (regsCanon_icEval (regsCanon_setHost h _)) h

theorem regsCanon_msixUnmask (h : regsCanon s) (v : Nat) (entry : BitVec 128) : regsCanon (msixUnmask s v entry) :=
  regsCanon_ite h (regsCanon_ite (regsCanon_msixSend (regsCanon_setHost (regsCanon_setHost h _) _) _) (regsCanon_setHost h _))

theorem regsCanon_icClaim (h : regsCanon s) (t' : Nat) : regsCanon (icClaim s t').2 := by
  grind [icClaim, regsCanon_setHost, regsCanon_fset, regsCanon_icEval]

theorem regsCanon_icComplete (h : regsCanon s) (t' n : Nat) : regsCanon (icComplete s t' n) :=
  regsCanon_icEval (regsCanon_fset (regsCanon_setHost h _) _ _)

theorem regsCanon_drawBytes (h : regsCanon s) (n : Nat) : regsCanon (drawBytes n s).2 := by
  induction n generalizing s with
  | zero => exact h
  | succ n ih => exact ih (regsCanon_draw h)

theorem regsCanon_dqTake (h : regsCanon s) (q : Nat) : regsCanon (dqTake s q) := regsCanon_fset h _ _

theorem regsCanon_dqSubmit (h : regsCanon s) (n : Nat) (bs : List Byte) : regsCanon (dqSubmit n bs s) := by
  induction n generalizing s bs with
  | zero => exact h
  | succ n ih =>
    rw [dqSubmit]
    exact ih (regsCanon_tblSubmit (regsCanon_dqTake h _) _ _) _

theorem regsCanon_dqTail' (h : regsCanon s) (q : Nat) (entries : Option (List Byte)) : regsCanon (dqTail' s q entries) := by
  have hhost : regsCanon (if q == 2 then setHost s fun h => { h with evHalf := false } else s) :=
    regsCanon_ite (regsCanon_setHost h _) h
  have hdraw : ∀ t n, regsCanon t → regsCanon (drawBytes n t).2 := fun t n ht => regsCanon_drawBytes ht n
  delta dqTail'
  refine regsCanon_ite hhost (regsCanon_ite (regsCanon_dqStop hhost _ _) (regsCanon_ite ?_ hhost))
  cases entries with
  | some bs => exact regsCanon_dqSubmit hhost _ _
  | none =>
    -- `drawBytes` under a name of its own, as `ownOutput` in `regsCanon_originTo`
    obtain ⟨read, hread⟩ : ∃ read, read = drawBytes := ⟨_, rfl⟩
    rw [← hread] at hdraw ⊢
    exact regsCanon_dqSubmit (hdraw _ _ hhost) _ _

theorem regsCanon_dqConfig {old : State} (h : regsCanon s) (q : Nat) : regsCanon (dqConfig old s q) := by
  grind [dqConfig, regsCanon_resetReg, regsCanon_dqForget, regsCanon_setHost]

theorem regsCanon_slotWrite (h : regsCanon s) (slot o : Nat) (first : Bool) (bs : List Byte) :
    regsCanon (slotWrite s slot o first bs) :=
  regsCanon_setNvs h _

theorem regsCanon_imageStage (h : regsCanon s) (e data : List Byte) (dmaErr nvsErr : Bool) :
    regsCanon (imageStage s e data dmaErr nvsErr).2 := by
  grind [imageStage, regsCanon_stagedSlot, regsCanon_drawBytes, regsCanon_slotWrite]

theorem regsCanon_imageEntry (h : regsCanon s) (e data : List Byte) (dmaErr nvsErr : Bool) :
    regsCanon (imageEntry s e data dmaErr nvsErr) := by
  grind [imageEntry, regsCanon_imageStage, regsCanon_dqTake, regsCanon_dqPut, regsCanon_dqStop]

theorem regsCanon_dqEventWrite (h : regsCanon s) : regsCanon (dqEventWrite s) := by
  grind [dqEventWrite, regsCanon_emit, regsCanon_setHost, regsCanon_dqTake, regsCanon_ring]

theorem regsCanon_dqDmaTimeout (h : regsCanon s) (q : Nat) : regsCanon (dqDmaTimeout s q) :=
  regsCanon_ite (regsCanon_dqStop h _ _) h

theorem regsCanon_hostEffect {old : State} (h : regsCanon s) (off : Nat) (w : Word) (entries :
    Option (List Byte)) :
    regsCanon (hostEffect old s off w entries) := by
  unfold hostEffect
  refine regsCanon_ite (regsCanon_icEval h) (regsCanon_ite (regsCanon_ring h _) (regsCanon_ite (regsCanon_icComplete h _ _)
    (regsCanon_ite ?_ h)))
  split
  · exact regsCanon_dqConfig h _
  · exact regsCanon_dqTail' h _ _
  · exact h

/-! Register access. -/

theorem regsCanon_logReject (h : regsCanon s) (p off reason : Nat) (w : Word) : regsCanon (logReject s p off reason w) :=
  regsCanon_ite (regsCanon_fset (regsCanon_bump h _) _ _) (regsCanon_setReg (regsCanon_setReg (regsCanon_bump h _) _ _) _ _)

theorem regsCanon_coreEffect {old : State} (h : regsCanon s) (off : Nat) (w : Word) :
    regsCanon (coreEffect old s off w) := by
  grind [coreEffect, regsCanon_tblGo, regsCanon_setTbl, regsCanon_fset, regsCanon_forceCloseEffect]

theorem regsCanon_regEffect {old : State} (h : regsCanon s) (p off : Nat) (w : Word) (entries :
    Option (List Byte)) :
    regsCanon (regEffect old s p off w entries) := by
  have hcore := regsCanon_coreEffect (old := old) h off w
  have htm := regsCanon_tmEffect h off w
  have hctx := regsCanon_ctxEffect h off w
  unfold regEffect
  exact regsCanon_ite (regsCanon_startEffect (regsCanon_hostEffect hcore _ _ _) _ _)
    (regsCanon_ite (regsCanon_evtEffect h _ _ _) (regsCanon_ite (regsCanon_tbEffect h _ _)
    (regsCanon_ite (regsCanon_weaveEffect h _ _) (regsCanon_ite hcore (regsCanon_ite (regsCanon_portEffect htm _ _)
    (regsCanon_ite hcore (regsCanon_ite htm (regsCanon_ite (regsCanon_bypEffect h _ _) (regsCanon_ite (regsCanon_picEffect h _
        _)
    (regsCanon_ite (regsCanon_bobEffect h _ _) (regsCanon_ite (regsCanon_memEffect h _ _) (regsCanon_ite hctx
    (regsCanon_ite (regsCanon_startEffect (regsCanon_evtEffect hctx _ _ _) _ _)
    (regsCanon_bcEffect (regsCanon_fltEffect h _ _) _ _))))))))))))))

theorem regsCanon_acceptWrite (h : regsCanon s) (p off : Nat) (w : Word) (entries : Option (List Byte)) :
    regsCanon (acceptWrite s p off w entries) := by
  grind [acceptWrite, regsCanon_testSweep, regsCanon_regEffect, regsCanon_setReg]

theorem regsCanon_putReg (h : regsCanon s) (p off : Nat) (w : Word) (entries : Option (List Byte)) :
    regsCanon (putReg s p off w entries) := by
  grind [putReg, regsCanon_acceptWrite, regsCanon_logReject]

theorem regsCanon_writeReg (h : regsCanon s) (p off : Nat) (w : Word) : regsCanon (writeReg s p off w) :=
  regsCanon_ite h (regsCanon_ite (regsCanon_ite (regsCanon_emit h _) h) (regsCanon_putReg h _ _ _ _))

theorem regsCanon_testEstimate (h : regsCanon s) : regsCanon (testEstimate s).2 := by grind [testEstimate, regsCanon_draw]

theorem regsCanon_peekReg (h : regsCanon s) (p off : Nat) : regsCanon (peekReg s p off).2 := by
  have hmove := fun x => regsCanon_unpickMove h x
  have hest := regsCanon_testEstimate h
  rw [peekReg]
  split
  · exact h
  · refine regsCanon_ite_snd h (regsCanon_ite_snd h (regsCanon_ite_snd h (regsCanon_ite_snd h (regsCanon_ite_snd (hmove _)
      (regsCanon_ite_snd hest (regsCanon_ite_snd h ?_))))))
    split
    · exact h
    · split <;> exact h

theorem regsCanon_tbSecRead (h : regsCanon s) (p : Nat) : regsCanon (tbSecRead s p).2 := by grind [tbSecRead, regsCanon_setTime]
theorem regsCanon_lockRead (h : regsCanon s) (p k : Nat) : regsCanon (lockRead s p k).2 := by grind [lockRead, regsCanon_fset]

theorem regsCanon_readReg (h : regsCanon s) (p off : Nat) : regsCanon (readReg s p off).2 := by
  grind [readReg, regsCanon_tbSecRead, regsCanon_icClaim, regsCanon_lockRead, regsCanon_peekReg]

theorem regsCanon_readCmd (h : regsCanon s) (p off : Nat) : regsCanon (readCmd s p off) := by
  grind [readCmd, regsCanon_emit, regsCanon_readReg]

theorem regsCanon_peekWords (h : regsCanon s) (n off : Nat) : regsCanon (peekWords n off s).2 := by
  induction n generalizing s off with
  | zero => exact h
  | succ n ih => exact ih (regsCanon_peekReg h _ _) _

theorem regsCanon_countersEntry (h : regsCanon s) (e : List Byte) : regsCanon (countersEntry s e) := by
  grind [countersEntry, regsCanon_dqTake, regsCanon_dqPut, regsCanon_peekWords, regsCanon_emit]

end Sys2Proof.Machine
end

section
/-! SUPPORT. The register file stays canonical (O3): the management port, and every command. -/

namespace Sys2Proof.Machine

set_option Elab.async false

variable {s : State}

/-! The management port. -/

theorem regsCanon_dropNotes (h : regsCanon s) (sid : Nat) : regsCanon (dropNotes s sid) := regsCanon_setEvr h _

theorem regsCanon_sessionEnd (h : regsCanon s) (sid : Nat) : regsCanon (sessionEnd s sid) :=
  regsCanon_ite h (regsCanon_setTime (regsCanon_setEvr (regsCanon_setSec (regsCanon_forRange (fun _ _ ht => regsCanon_ite
      (regsCanon_fset ht _ _) ht) (regsCanon_freeLocks (regsCanon_dropNotes h _) _)) _) _) _)

theorem regsCanon_handshakeFail (h : regsCanon s) (conn : Nat) (alert : Byte) : regsCanon (handshakeFail s conn alert) := by
  grind [handshakeFail, regsCanon_setSec, regsCanon_emit, regsCanon_bump, regsCanon_event]

theorem regsCanon_handshakeFree (h : regsCanon s) (conn : Nat) : regsCanon (handshakeFree s conn) := by
  grind [handshakeFree, regsCanon_draw, regsCanon_handshakeFail]

theorem regsCanon_sessionOpen (h : regsCanon s) (conn ca : Nat) (digest : List Byte) :
    regsCanon (sessionOpen s conn ca digest) := by
  grind [sessionOpen, regsCanon_setSec, regsCanon_emit]

theorem regsCanon_mgmtConnect (h : regsCanon s) : regsCanon (mgmtConnect s) := by
  grind [mgmtConnect, regsCanon_emit, regsCanon_setSec]

theorem regsCanon_handshakeMessage (h : regsCanon s) (conn : Nat) (m : HandshakeMsg) : regsCanon (handshakeMessage s conn m) := by
  have hfree := regsCanon_handshakeFree h conn
  unfold handshakeMessage
  split
  · exact h
  · refine regsCanon_ite hfree ?_
    split
    · exact regsCanon_handshakeFail h _ _
    · exact regsCanon_ite (regsCanon_sessionOpen h _ _ _) (regsCanon_ite (regsCanon_sessionOpen h _ _ _) hfree)
    · exact regsCanon_ite hfree (regsCanon_sessionOpen h _ _ _)

theorem regsCanon_handshakeTimeout (h : regsCanon s) (conn : Nat) : regsCanon (handshakeTimeout s conn) := by
  rw [handshakeTimeout]
  split
  · exact h
  · exact regsCanon_ite (regsCanon_handshakeFree h _) h

theorem regsCanon_lockoutEnd (h : regsCanon s) : regsCanon (lockoutEnd s) := regsCanon_ite (regsCanon_setSec h _) h

theorem regsCanon_sessionIdle (h : regsCanon s) (sid : Nat) : regsCanon (sessionIdle s sid) := by
  rw [sessionIdle]
  split
  · exact h
  · exact regsCanon_ite (regsCanon_sessionEnd h _) h

theorem regsCanon_advertRx (h : regsCanon s) (net valid : Nat) : regsCanon (advertRx s net valid) := by
  grind [advertRx, regsCanon_setSec]

theorem regsCanon_windowChange (h : regsCanon s) (sid : Nat) (closed : Bool) : regsCanon (windowChange s sid closed) := by
  rw [windowChange]
  split
  · exact h
  · have hopen := fun f => regsCanon_dropNotes (regsCanon_setSec h f) sid
    exact regsCanon_ite (regsCanon_ite (regsCanon_setSec h _) h)
      (regsCanon_ite (hopen _) (regsCanon_forEach (fun _ _ ht => regsCanon_notify ht _ _) (hopen _)))

theorem regsCanon_mgmtPacket (h : regsCanon s) (kind : MgmtPacket) : regsCanon (mgmtPacket s kind) := by
  cases kind <;> grind [mgmtPacket, regsCanon_emit, regsCanon_advertRx, regsCanon_windowChange]

theorem regsCanon_request (h : regsCanon s) (sid service op : Nat) (tag resv : BitVec 32) (len : Nat) {f : State → Reply × State}
    (hf : ∀ t, regsCanon t → regsCanon (f t).2) : regsCanon (request s sid service op tag resv len f) := by
  rw [request]
  refine regsCanon_ite h ?_
  have hseen := fun g => regsCanon_setSec h g
  exact regsCanon_ite (regsCanon_sessionEnd (regsCanon_emit (hseen _) _) _) (regsCanon_ite (regsCanon_emit (hseen _) _)
    (regsCanon_ite (regsCanon_emit (hseen _) _) (regsCanon_emit (hf _ (hseen _)) _)))

theorem regsCanon_bodyTimeout (h : regsCanon s) (sid service op : Nat) (tag : BitVec 32) :
    regsCanon (bodyTimeout s sid service op tag) :=
  regsCanon_ite h (regsCanon_sessionEnd (regsCanon_emit h _) _)

theorem regsCanon_regWords (h : regsCanon s) (n p off : Nat) : regsCanon (regWords n p off s).2 := by
  induction n generalizing s off with
  | zero => exact h
  | succ n ih =>
    have hread : regsCanon (if offBad off then (0, s) else readReg s p off).2 :=
      regsCanon_ite_snd h (regsCanon_readReg h p off)
    rw [regWords]
    generalize (if offBad off then (0, s) else readReg s p off : Word × State) = r at *
    exact ih hread _

theorem regsCanon_regWrites (h : regsCanon s) (n i p off : Nat) (bs : List Byte) : regsCanon (regWrites n i p off bs s).2 := by
  induction n generalizing s i off bs with
  | zero => exact h
  | succ n ih =>
    rw [regWrites]
    split
    · exact h
    · split
      · exact ih (regsCanon_acceptWrite h _ _ _ _) _ _ _
      · exact regsCanon_logReject h _ _ _ _

theorem regsCanon_svcRegRead (h : regsCanon s) (sid : Nat) (body : List Byte) : regsCanon (svcRegRead s sid body).2 := by
  grind [svcRegRead, regsCanon_regWords]

theorem regsCanon_svcRegWrite (h : regsCanon s) (sid : Nat) (body : List Byte) : regsCanon (svcRegWrite s sid body).2 := by
  grind [svcRegWrite, regsCanon_regWrites]

theorem regsCanon_svcImageStage (h : regsCanon s) (body : List Byte) (nvsErr : Bool) :
    regsCanon (svcImageStage s body nvsErr).2 := by
  grind [svcImageStage, regsCanon_imageStage]

theorem regsCanon_doEnrol (h : regsCanon s) (b : List Byte) : regsCanon (doEnrol s b) := regsCanon_setNvs h _
theorem regsCanon_doAddPrk (h : regsCanon s) (b : List Byte) : regsCanon (doAddPrk s b) := regsCanon_setNvs h _
theorem regsCanon_doRemovePrk (h : regsCanon s) (b : List Byte) : regsCanon (doRemovePrk s b) := regsCanon_setNvs h _
theorem regsCanon_doAddCa (h : regsCanon s) (b : List Byte) : regsCanon (doAddCa s b) := regsCanon_setNvs h _
theorem regsCanon_doRemoveCa (h : regsCanon s) (b : List Byte) : regsCanon (doRemoveCa s b) := regsCanon_setNvs h _

theorem regsCanon_doRaiseFloor (h : regsCanon s) (b : List Byte) : regsCanon (doRaiseFloor s b) := by
  grind [doRaiseFloor, regsCanon_setNvs]

theorem regsCanon_doDecommission (h : regsCanon s) : regsCanon (doDecommission s) :=
  regsCanon_testSweep (regsCanon_setMode (regsCanon_basicEntry (regsCanon_forRange (fun _ _ ht => regsCanon_stagedSlot ht _)
      (regsCanon_setNvs h _))) _)

theorem regsCanon_ownerApply (h : regsCanon s) (b : List Byte) : regsCanon (ownerApply s b) := by
  grind [ownerApply, regsCanon_setNvs, regsCanon_doEnrol, regsCanon_doAddPrk, regsCanon_doRemovePrk, regsCanon_doAddCa,
    regsCanon_doRemoveCa, regsCanon_doRaiseFloor, regsCanon_doDecommission]

theorem regsCanon_svcOwner (h : regsCanon s) (b : List Byte) : regsCanon (svcOwner s b).2 := by
  grind [svcOwner, regsCanon_event, regsCanon_ownerApply, regsCanon_setSec]

theorem regsCanon_ownerServe (h : regsCanon s) (sid : Nat) (tag resv : BitVec 32) (b : List Byte) :
    regsCanon (ownerServe s sid tag resv b) := by
  have hreq : regsCanon (request s sid 3 1 tag resv b.length fun s => svcOwner s b) :=
    regsCanon_request h _ _ _ _ _ _ fun _ ht => regsCanon_svcOwner ht _
  rw [ownerServe]
  exact regsCanon_ite (regsCanon_forEach (fun _ _ ht => regsCanon_sessionEnd ht _) hreq) hreq

theorem regsCanon_keyMark (h : regsCanon s) (x k : Nat) (on : Bool) : regsCanon (keyMark s x k on) :=
  regsCanon_fset (regsCanon_setReg h _ _) _ _

theorem regsCanon_keyApply (h : regsCanon s) (b : List Byte) : regsCanon (keyApply s b).2 := by
  grind [keyApply, regsCanon_keyMark, regsCanon_setSec]

theorem regsCanon_svcKey (h : regsCanon s) (b : List Byte) : regsCanon (svcKey s b).2 := by
  grind [svcKey, regsCanon_keyApply, regsCanon_event]

theorem regsCanon_fwDigest (h : regsCanon s) : regsCanon (fwDigest s).2 := by grind [fwDigest, regsCanon_drawBytes]

theorem regsCanon_svcAttest (h : regsCanon s) (body : List Byte) : regsCanon (svcAttest s body).2 := by
  have hfw := regsCanon_fwDigest h
  rw [svcAttest]
  split
  · exact h
  · exact hfw

theorem regsCanon_svcEventsRead (h : regsCanon s) (body : List Byte) : regsCanon (svcEventsRead s body).2 := by
  rw [svcEventsRead]
  split
  · exact h
  · split <;> exact h

theorem regsCanon_svcEventsPerm (h : regsCanon s) (body : List Byte) : regsCanon (svcEventsPerm s body).2 := by
  grind [svcEventsPerm]

theorem regsCanon_svcSubscribe (h : regsCanon s) (sid : Nat) (body : List Byte) : regsCanon (svcSubscribe s sid body).2 := by
  grind [svcSubscribe, regsCanon_setSec]

theorem regsCanon_eventsClear (h : regsCanon s) (sid : Nat) (tag resv : BitVec 32) (body : List Byte) :
    regsCanon (eventsClear s sid tag resv body) := by
  rw [eventsClear]
  exact regsCanon_ite (regsCanon_setEvr (regsCanon_setSec h _) _) (regsCanon_request h _ _ _ _ _ _ fun _ ht => ht)

theorem regsCanon_fwWrite (h : regsCanon s) (i o : Nat) (first : Bool) (bs : List Byte) : regsCanon (fwWrite s i o first bs) :=
  regsCanon_setNvs (regsCanon_setNvs h _) _

theorem regsCanon_svcFwStage (h : regsCanon s) (body : List Byte) (nvsErr : Bool) : regsCanon (svcFwStage s body nvsErr).2 := by
  grind [svcFwStage, regsCanon_fwWrite]

theorem regsCanon_svcFwStatus (h : regsCanon s) (body : List Byte) : regsCanon (svcFwStatus s body).2 := by grind [svcFwStatus]

theorem regsCanon_svcFwSelect (h : regsCanon s) (body : List Byte) : regsCanon (svcFwSelect s body).2 := by
  grind [svcFwSelect, regsCanon_setNvs]

theorem regsCanon_requestServe (h : regsCanon s) (sid : Nat) (r : Request) : regsCanon (requestServe sid r s) := by
  have hask : ∀ f : State → Reply × State, (∀ t, regsCanon t → regsCanon (f t).2) →
      regsCanon (request s sid r.service r.op r.tag r.resv r.body.length f) := fun f hf => regsCanon_request h _ _ _ _ _ _ hf
  rw [requestServe]
  refine regsCanon_ite (regsCanon_bodyTimeout h _ _ _ _) ?_
  split
  · exact hask _ fun _ ht => regsCanon_svcRegRead ht _ _
  · exact hask _ fun _ ht => regsCanon_svcRegWrite ht _ _
  · exact hask _ fun _ ht => regsCanon_svcImageStage ht _ _
  · exact regsCanon_ownerServe h _ _ _ _
  · exact hask _ fun _ ht => regsCanon_svcKey ht _
  · exact hask _ fun _ ht => regsCanon_svcAttest ht _
  · exact hask _ fun _ ht => regsCanon_svcEventsRead ht _
  · exact hask _ fun _ ht => regsCanon_svcEventsPerm ht _
  · exact regsCanon_eventsClear h _ _ _ _
  · exact hask _ fun _ ht => regsCanon_svcSubscribe ht _ _
  · exact hask _ fun _ ht => regsCanon_svcFwStage ht _ _
  · exact hask _ fun _ ht => regsCanon_svcFwStatus ht _
  · exact hask _ fun _ ht => regsCanon_svcFwSelect ht _
  · exact hask _ fun _ ht => ht

theorem regsCanon_setHeld (h : regsCanon s) (sid : Nat) (rs : List Request) : regsCanon (setHeld s sid rs) := regsCanon_setSec h _

theorem regsCanon_mgmtArrive (h : regsCanon s) (sid : Nat) (r : Request) : regsCanon (mgmtArrive sid r s) := by
  grind [mgmtArrive, regsCanon_requestServe, regsCanon_setHeld]

theorem regsCanon_drainSession (h : regsCanon s) (n sid : Nat) : regsCanon (drainSession n sid s) := by
  induction n generalizing s with
  | zero => exact h
  | succ n ih =>
    rw [drainSession]
    split
    · exact h
    · split
      · exact h
      · exact regsCanon_ite h (ih (regsCanon_requestServe (regsCanon_setHeld h _ _) _ _))

theorem regsCanon_mgmtDrain (h : regsCanon s) : regsCanon (mgmtDrain s) :=
  regsCanon_forEach (fun _ _ ht => regsCanon_drainSession ht _ _) h

theorem regsCanon_coreSessions (h : regsCanon s) (mask : BitVec 8) : regsCanon (coreSessions s mask) :=
  regsCanon_forEach (fun _ _ ht => regsCanon_sessionEnd ht _) (regsCanon_setEvr h _)

theorem regsCanon_watchdogExpire (h : regsCanon s) (chan : Nat) (t : WdTarget) (waited : Nat) (it : WdItem) :
    regsCanon (watchdogExpire s chan t waited it) := by
  have hwd := regsCanon_watchdog h chan t waited it
  unfold watchdogExpire
  split
  · exact regsCanon_ite (regsCanon_coreSessions hwd _) hwd
  · exact hwd

/-! Idling. -/

theorem regsCanon_idle (h : regsCanon s) : regsCanon (idle s) := by
  have ht := regsCanon_tick h
  rw [idle]
  exact regsCanon_ite ht (regsCanon_telSend ht)

/-! Every command. -/

/-- An outcome whose next state, where it answers one, holds a canonical register file. -/
def outcomeCanon (r : Host.Outcome State Fault Refusal) : Prop := ∀ t, r = .next t → regsCanon t

theorem outcomeCanon_next (h : regsCanon s) : outcomeCanon (.next s) := fun t ht => by
  cases ht
  exact h

theorem outcomeCanon_ite {c : Prop} [Decidable c] {a b : Host.Outcome State Fault Refusal} (ha : outcomeCanon a) (hb :
    outcomeCanon b) :
    outcomeCanon (if c then a else b) := by
  split
  · exact ha
  · exact hb

/-- A command of a powered module. -/
theorem outcomeCanon_live {s t : State} (h : regsCanon s) (ht : regsCanon t) :
    outcomeCanon (.next (if s.sys.powered then t else s)) :=
  outcomeCanon_next (regsCanon_ite ht h)

/-- A command of a powered module that waits for its reference clock. -/
theorem outcomeCanon_liveClocked {s t : State} (h : regsCanon s) (ht : regsCanon t) :
    outcomeCanon (.next (if s.sys.powered then (if s.sys.refPhase == 1 then s else t) else s)) :=
  outcomeCanon_live h (regsCanon_ite h ht)

/-! Stitches that may fault. -/

theorem outcomeCanon_execTsend (h : regsCanon s) (n : Bob) (j : Fin 4) : outcomeCanon (execTsend n j s) := by
  refine outcomeCanon_live h (regsCanon_fireOp h _ _ _ fun b w => ?_)
  split
  · exact h
  · exact regsCanon_sendToken h _ _ _ _

theorem outcomeCanon_execTloc (h : regsCanon s) (n : Bob) (j : Fin 4) : outcomeCanon (execTloc n j s) :=
  outcomeCanon_live h (regsCanon_fireOp h _ _ _ fun _ _ => regsCanon_pushToken h _ _ _)

theorem outcomeCanon_execIrel (h : regsCanon s) (n : Bob) (j : Fin 4) : outcomeCanon (execIrel n j s) := by
  refine outcomeCanon_live h (regsCanon_fireOp h _ _ _ fun b w => ?_)
  split
  · exact h
  · split
    · exact h
    · exact regsCanon_setBobbin h _ _

theorem outcomeCanon_execLd (h : regsCanon s) (n : Bob) (j : Fin 4) : outcomeCanon (execLd n j s) := by
  refine outcomeCanon_live h (regsCanon_fireOp h _ _ _ fun b w => ?_)
  split
  · exact h
  · split
    · exact h
    · exact regsCanon_setG (regsCanon_storeFix h _ _ _) _ _ _ _

theorem outcomeCanon_execSt (h : regsCanon s) (n : Bob) (j : Fin 4) : outcomeCanon (execSt n j s) := by
  refine outcomeCanon_live h (regsCanon_fireOp h _ _ _ fun b w => ?_)
  split
  · exact h
  · exact regsCanon_storeWrite h _ _ _

/-! Commands that act where the front submission is theirs. -/

theorem outcomeCanon_execL2Learn (h : regsCanon s) : outcomeCanon (execL2Learn s) := by
  refine outcomeCanon_live h ?_
  dsimp only
  split
  · exact regsCanon_doLearn (regsCanon_tblPop h) _ _ _ _
  · exact h

theorem outcomeCanon_execAgeRemove (h : regsCanon s) : outcomeCanon (execAgeRemove s) := by
  refine outcomeCanon_live h ?_
  dsimp only
  split
  · exact regsCanon_doAge (regsCanon_tblPop h) _
  · exact h

/-- A command that answers a next state leaves the register file canonical: one line for each operation that a command is. -/
theorem outcomeCanon_exec (h : regsCanon s) (i : Instr) : outcomeCanon (exec i s) := by
  cases i with
  | powerUp => exact outcomeCanon_next (regsCanon_powerUp h _ _ _ _ _)
  | lasersPowered => exact outcomeCanon_live h (regsCanon_lasersPowered h)
  | enterBasic => exact outcomeCanon_live h (regsCanon_enterBasic h)
  | strapCheck => exact outcomeCanon_live h (regsCanon_strapCheck h _)
  | powerOff => exact outcomeCanon_next (regsCanon_powerOff h)
  | latchOpen => exact outcomeCanon_next (regsCanon_latchOpen h)
  | latchClosed => exact outcomeCanon_next (regsCanon_ite (regsCanon_mgmtDrain (regsCanon_setSys h _)) (regsCanon_setSys h _))
  | paceWindow => exact outcomeCanon_live h (regsCanon_paceWindow h _ _ _)
  | paceClrMin | verify | commitFull | commitMotif | prkCancel | reweaveDie | reident | retrain | nbrExpWrite | forceCloseWrite
  | meterWrite | meterRead | tmNodeWrite | tmNodeRead | wsetGo | gateCommit | gateCancel | bypMapWrite | bypReadShadow |
    bypReadOper | bypCopy | bypCommit | bypCancel | grpRead | grpWrite | grpInvalidate | grpAbortAll | engineUnfence |
    logtrimWrite | regionStart | regionStop | memMapSelect | tbOffsetSample | tbSet | capPop | triggerArm | portFenceCmd |
    portUnfenceCmd | chipRead | chipSet | chipFence | chipUnfence | bcRead | bcWrite | bcStart | bcResume | bcStop | ctxAllocate
  | ctxActivate | ctxDeactivate | ctxRelease | ctxReleaseRegion | dqEnable | icDoorbell | icEoi | evrSelect | evrPselect |
    enterMaint | exitMaint | moduleDrain | undrain | testStart | testAbort | lockRelease | registerWrite =>
    exact outcomeCanon_live h (regsCanon_writeReg h _ _ _)
  | watchdogExpire => exact outcomeCanon_live h (regsCanon_testSweep (regsCanon_watchdogExpire h _ _ _ _))
  | lateAck => exact outcomeCanon_live h (regsCanon_lateAck h _)
  | thermalSensor => exact outcomeCanon_live h (regsCanon_testSweep (regsCanon_thermal h _ _))
  | verifyDone => exact outcomeCanon_live h (regsCanon_verifyDone h _)
  | fullWeaveDone => exact outcomeCanon_live h (regsCanon_fullWeaveDone h _)
  | motifStart => exact outcomeCanon_live h (regsCanon_motifStart h)
  | regionMotifDone => exact outcomeCanon_live h (regsCanon_regionMotifDone h _)
  | reweaveDone => exact outcomeCanon_live h (regsCanon_reweaveDone h)
  | roleGenDeferred => exact outcomeCanon_live h (regsCanon_roleGenDeferred h _)
  | uncorrectableCodeword => exact outcomeCanon_live h (regsCanon_uncorrectable h _)
  | losAssert => exact outcomeCanon_live h (regsCanon_losAssert h _ _)
  | losClear => exact outcomeCanon_live h (regsCanon_losClear h _ _)
  | lolAssert => exact outcomeCanon_live h (regsCanon_lolAssert h _)
  | clockLock => exact outcomeCanon_live h (regsCanon_clockLock h _)
  | alignmentLoss => exact outcomeCanon_live h (regsCanon_alignmentLoss h _)
  | alignLock => exact outcomeCanon_live h (regsCanon_alignLock h _)
  | sdWindow => exact outcomeCanon_live h (regsCanon_sdWindow h _ _ _)
  | trainTimeout => exact outcomeCanon_live h (regsCanon_trainTimeout h _)
  | trainRetry => exact outcomeCanon_live h (regsCanon_trainRetry h _)
  | identTx => exact outcomeCanon_liveClocked h (regsCanon_identTx h _)
  | identRx => exact outcomeCanon_liveClocked h (regsCanon_identRx h _ _ _)
  | noIdentTimeout => exact outcomeCanon_live h (regsCanon_noIdentTimeout h _)
  | laserFade => exact outcomeCanon_live h (regsCanon_laserFade h _ _ _)
  | spareLocked => exact outcomeCanon_live h (regsCanon_spareLocked h _)
  | spareLockTimeout => exact outcomeCanon_live h (regsCanon_spareLockTimeout h _)
  | fibreSwap => exact outcomeCanon_live h (regsCanon_fibreSwap h _)
  | fibreDark => exact outcomeCanon_live h (regsCanon_fibreGoesDark h _)
  | fibreProbe => exact outcomeCanon_live h (regsCanon_fibreProbe h _)
  | probeEnd => exact outcomeCanon_live h (regsCanon_probeEnd h _)
  | fibreLight => exact outcomeCanon_live h (regsCanon_fibreLight h _)
  | idleRx | controlBlockBad | swapFillRx => exact outcomeCanon_liveClocked h (regsCanon_rxBlock h _ _ _ fun _ ht => ht)
  | creditRx => exact outcomeCanon_liveClocked h (regsCanon_creditRx h _ _)
  | creditInitRx => exact outcomeCanon_liveClocked h (regsCanon_creditInitRx h _ _)
  | alignRx => exact outcomeCanon_liveClocked h (regsCanon_alignRx h _ _)
  | pauseSwapRx => exact outcomeCanon_liveClocked h (regsCanon_pauseSwapRx h _ _)
  | pauseSwapEnd => exact outcomeCanon_live h (regsCanon_pauseSwapEnd h _)
  | scrubRx => exact outcomeCanon_liveClocked h (regsCanon_rxBlock h _ _ _ fun _ ht => regsCanon_bump ht _)
  | frameRx => exact outcomeCanon_liveClocked h (regsCanon_frameRx h _ _ _ _ _)
  | ethFrameRx => exact outcomeCanon_liveClocked h (regsCanon_ethFrameRx h _ _ _ _)
  | pfcRx => exact outcomeCanon_liveClocked h (regsCanon_pfcRx h _ _ _)
  | pfcPauseExpire => exact outcomeCanon_live h (regsCanon_pfcExpire h _ _)
  | pfcXoffRepeat => exact outcomeCanon_liveClocked h (regsCanon_pfcRepeat h _ _)
  | creditTx => exact outcomeCanon_liveClocked h (regsCanon_creditTx h _ _)
  | creditInitTx => exact outcomeCanon_liveClocked h (regsCanon_creditInitTx h _)
  | creditTimeout => exact outcomeCanon_live h (regsCanon_creditTimeout h _)
  | alignTx => exact outcomeCanon_liveClocked h (regsCanon_alignTx h _)
  | scrubTx => exact outcomeCanon_liveClocked h (regsCanon_scrubTx h _)
  | schedEpoch => exact outcomeCanon_live h (regsCanon_ite (regsCanon_pfcRelease (regsCanon_schedEpoch h)) h)
  | cellArrive => exact outcomeCanon_live h (regsCanon_cellArrive h _ _ _)
  | reseqTimeout => exact outcomeCanon_live h (regsCanon_reseqTimeout h _ _)
  | mcResidueTimeout => exact outcomeCanon_live h (regsCanon_mcResidue h _ _)
  | suppressReport => exact outcomeCanon_live h (regsCanon_suppressReport h)
  | frameTxStart => exact outcomeCanon_liveClocked h (regsCanon_frameTxStart h _)
  | frameTxEnd => exact outcomeCanon_liveClocked h (regsCanon_frameTxEnd h _)
  | search => exact outcomeCanon_live h (regsCanon_tblHead h _ fun _ _ _ ht => regsCanon_opSearch ht _ _)
  | next => exact outcomeCanon_live h (regsCanon_tblHead h _ fun _ _ _ ht => regsCanon_opNext ht _ _)
  | insert => exact outcomeCanon_live h (regsCanon_tblHead h _ fun _ _ _ ht => regsCanon_opInsert ht _ _)
  | delete => exact outcomeCanon_live h (regsCanon_tblHead h _ fun _ _ _ ht => regsCanon_opDelete ht _ _)
  | flushPort => exact outcomeCanon_live h (regsCanon_tblHead h _ fun _ _ _ ht => regsCanon_opFlush ht _ _)
  | drain => exact outcomeCanon_live h (regsCanon_tblHead h _ fun _ _ _ ht => regsCanon_opDrain ht _ _)
  | drainComplete | drainTimeout => exact outcomeCanon_live h (regsCanon_endDrain h _ _)
  | mark => exact outcomeCanon_live h (regsCanon_tblHead h _ fun _ _ _ ht => regsCanon_opMark ht _ _)
  | rawRead => exact outcomeCanon_live h (regsCanon_rawHead h _ fun _ _ _ _ ht => regsCanon_rawReadOp ht _ _ _)
  | rawWrite => exact outcomeCanon_live h (regsCanon_rawHead h _ fun _ _ _ _ ht => regsCanon_rawWriteOp ht _ _ _)
  | rawCompare => exact outcomeCanon_live h (regsCanon_rawHead h _ fun _ _ _ _ ht => regsCanon_rawCompareOp ht _ _ _)
  | l2Learn => exact outcomeCanon_execL2Learn h
  | agingTick => exact outcomeCanon_live h (regsCanon_agingTick h)
  | ageRemove => exact outcomeCanon_execAgeRemove h
  | bucketHandover => exact outcomeCanon_live h (regsCanon_handOver h _)
  | wsetDone => exact outcomeCanon_live h (regsCanon_wsetFinish h)
  | gateSwitch => exact outcomeCanon_live h (regsCanon_gateSwitch h _)
  | gateEntryChange => exact outcomeCanon_live h (regsCanon_gateStep h _)
  | slotBoundary => exact outcomeCanon_live h (regsCanon_testSweep (regsCanon_slotBoundary h))
  | bypassMatch => exact outcomeCanon_live h (regsCanon_bypassMatch h _)
  | rangingStart => exact outcomeCanon_live h (regsCanon_rangingStart h _)
  | rangePingTx => exact outcomeCanon_liveClocked h (regsCanon_rangePing h _)
  | rangeEchoRx => exact outcomeCanon_liveClocked h (regsCanon_rangeEcho h _ _)
  | rangingDone => exact outcomeCanon_live h (regsCanon_rangingDone h _)
  | rangeSetTx => exact outcomeCanon_liveClocked h (regsCanon_rangeSet h _)
  | slotTickTx => exact outcomeCanon_liveClocked h (regsCanon_slotTick h _)
  | slotReqRx => exact outcomeCanon_liveClocked h (regsCanon_slotReq h _ _)
  | planeInputDark => exact outcomeCanon_live h (regsCanon_planeDark h _ _)
  | planeInputLight => exact outcomeCanon_live h (regsCanon_planeLight h _ _)
  | contribRx => exact outcomeCanon_live h (regsCanon_takeIo h _ _ fun _ _ ht => regsCanon_contribRx ht _ _ _)
  | resultAckRx => exact outcomeCanon_live h (regsCanon_takeIo h _ _ fun _ _ ht => regsCanon_resultAckRx ht _ _)
  | resendReqRx => exact outcomeCanon_live h (regsCanon_takeIo h _ _ fun _ _ ht => regsCanon_resendReqRx ht _ _)
  | collectiveSeal => exact outcomeCanon_live h (regsCanon_sealColl h _ _ _)
  | collectiveTimeout => exact outcomeCanon_live h (regsCanon_collTimeout h _ _ _)
  | ackTimeout => exact outcomeCanon_live h (regsCanon_ackTimeout h _ _ _)
  | tombstoneExpire => exact outcomeCanon_live h (regsCanon_tombExpire h _ _ _)
  | mirrorTimeout => exact outcomeCanon_live h (regsCanon_mirrorTimeout h _)
  | nop | halt | err | jmp | bnz | blt | fence => exact outcomeCanon_live h (regsCanon_fireOp h _ _ _ fun _ _ => h)
  | tokw | addi | add | sub | mul | and | or | xor | shl | shr | li | lih | rdtime =>
    exact outcomeCanon_live h (regsCanon_fireRd h _ _ _ _)
  | tsend => exact outcomeCanon_execTsend h _ _
  | tloc => exact outcomeCanon_execTloc h _ _
  | irel => exact outcomeCanon_execIrel h _ _
  | ld => exact outcomeCanon_execLd h _ _
  | st => exact outcomeCanon_execSt h _ _
  | mma => exact outcomeCanon_live h (regsCanon_fireDesc h _ _ _ _ _ _ _)
  | vadd | vsub | vmul | vfma | vmax | vmin | vabs | vdiv | vsqrt | vrsqrt | vexp | vlog | vcvt | vsum | vmaxi | vselgt =>
    exact outcomeCanon_live h (regsCanon_fireVop h _ _ _)
  | copyStoreLocal | copyToRoute | copyMemToStore | copyStoreToMem | copyGather | copyScatter =>
    exact outcomeCanon_live h (regsCanon_fireCopy h _ _ _)
  | send => exact outcomeCanon_live h (regsCanon_fireSend h _ _)
  | mmaComplete => exact outcomeCanon_live h (regsCanon_mmaComplete h _)
  | vopComplete => exact outcomeCanon_live h (regsCanon_vopComplete h _)
  | copyComplete => exact outcomeCanon_live h (regsCanon_copyComplete h _)
  | sendComplete => exact outcomeCanon_live h (regsCanon_sendComplete h _)
  | tokenArrive => exact outcomeCanon_live h (regsCanon_tokenArrive h _)
  | inletDelivery => exact outcomeCanon_live h (regsCanon_takeIo h _ _ fun _ _ ht => regsCanon_inletDelivery ht _ _)
  | handoffDelivery => exact outcomeCanon_live h (regsCanon_ite (regsCanon_handoffDelivery h _) h)
  | oneSidedPut => exact outcomeCanon_live h (regsCanon_takeIo h _ _ fun _ _ ht => regsCanon_oneSidedPut ht _ _)
  | oneSidedGet => exact outcomeCanon_live h (regsCanon_takeIo h _ _ fun _ _ ht => regsCanon_oneSidedGet ht _ _)
  | getRespRx => exact outcomeCanon_live h (regsCanon_takeIo h _ _ fun _ _ ht => regsCanon_getRespRx ht _)
  | patrolRead chan addr err =>
    have herr := regsCanon_forEach (l := err.upsets) (fun t u ht => regsCanon_errArise ht u.chan.val u.addr.toNat u.err) h
    exact outcomeCanon_live h (regsCanon_ite (regsCanon_patrolRead herr _ _ _) herr)
  | tbSecRead | icClaim | lockRead => exact outcomeCanon_live h (regsCanon_readCmd h _ _)
  | holdoverTimeout => exact outcomeCanon_live h (regsCanon_holdover h)
  | triggerFire => exact outcomeCanon_live h (regsCanon_trigFire h _)
  | heartbeatMiss | dieSelfCheck => exact outcomeCanon_live h (regsCanon_testSweep (regsCanon_dieFault h _ _))
  | dieResetDone => exact outcomeCanon_live h (regsCanon_dieResetDone h _)
  | rejoinMemoryZeroed => exact outcomeCanon_live h (regsCanon_testSweep (regsCanon_rejoin h _))
  | ctlFault => exact outcomeCanon_live h (regsCanon_testSweep (regsCanon_ctlFault h))
  | flitCrcFail => exact outcomeCanon_live h (regsCanon_flitCrcFail h _)
  | interposerLaneFail =>
    exact outcomeCanon_live h (regsCanon_ite (regsCanon_laneFail h _ _ _) (regsCanon_ite h (regsCanon_testSweep
        (regsCanon_dieFault h _ _))))
  | retuneEnd => exact outcomeCanon_live h (regsCanon_retuneEnd h _)
  | oeFault => exact outcomeCanon_live h (regsCanon_oeFault h _)
  | refLoss => exact outcomeCanon_live h (regsCanon_refLoss h _)
  | internalOscStart => exact outcomeCanon_live h (regsCanon_internalOsc h)
  | bothRefDecision => exact outcomeCanon_live h (regsCanon_testSweep (regsCanon_refDecision h))
  | portAutoUnfence => exact outcomeCanon_live h (regsCanon_ite (regsCanon_testSweep (regsCanon_unfencePort h _)) h)
  | bcastPieceTx => exact outcomeCanon_live h (regsCanon_bcPiece h _)
  | bcastDataRx => exact outcomeCanon_live h (regsCanon_takeIo h _ _ fun _ _ ht => regsCanon_bcData ht _)
  | bcastProgressRx => exact outcomeCanon_live h (regsCanon_takeIo h _ _ fun _ _ ht => regsCanon_bcProgress ht _)
  | bcastRelayReport => exact outcomeCanon_live h (regsCanon_bcRelayReport h _)
  | bcastRelayTimeout => exact outcomeCanon_live h (regsCanon_bcRelayTimeout h _ _)
  | bcastResumeWaitEnd => exact outcomeCanon_live h (regsCanon_bcResumeEnd h _)
  | regionUnpickDone => exact outcomeCanon_live h (regsCanon_regionUnpickDone h _)
  | unpickDone => exact outcomeCanon_live h (regsCanon_unpickDone h _)
  | mgmtConnect => exact outcomeCanon_liveClocked h (regsCanon_mgmtConnect h)
  | handshakeTimeout => exact outcomeCanon_live h (regsCanon_handshakeTimeout h _)
  | lockoutEnd => exact outcomeCanon_live h (regsCanon_lockoutEnd h)
  | sessionIdleTimeout => exact outcomeCanon_live h (regsCanon_sessionIdle h _)
  | sessionClose => exact outcomeCanon_live h (regsCanon_sessionEnd h _)
  | mgmtPacketRx => exact outcomeCanon_liveClocked h (regsCanon_mgmtPacket h _)
  | mgmtBodyTimeout => exact outcomeCanon_live h (regsCanon_mgmtArrive h _ _)
  | regRead | regWrite | imageStage | attestReport | eventsRead | eventsReadPerm | eventsClear | eventsSubscribe | fwStage |
    fwStatus | fwSelect => exact outcomeCanon_liveClocked h (regsCanon_mgmtArrive h _ _)
  | enrol | addPrkKey | removePrkKey | addMgrCa | removeMgrCa | raiseFloor | decommission | keyInstall | keyRemove =>
    exact outcomeCanon_liveClocked h (regsCanon_ite (regsCanon_mgmtArrive h _ _) h)
  | eventsClearDone => exact outcomeCanon_live h (regsCanon_mgmtDrain (regsCanon_eventsClearDone h))
  | pcieLinkLoss => exact outcomeCanon_live h (regsCanon_linkLoss h)
  | pcieLinkUp => exact outcomeCanon_live h (regsCanon_linkUp h)
  | bar0Unsupported => exact outcomeCanon_liveClocked h (regsCanon_barUnsupported h _ _)
  | dqTailWrite => exact outcomeCanon_live h (regsCanon_ite (regsCanon_putReg h _ _ _ _) h)
  | imageEntry => exact outcomeCanon_liveClocked h (regsCanon_imageEntry h _ _ _ _)
  | countersEntry => exact outcomeCanon_liveClocked h (regsCanon_countersEntry h _)
  | dqEventWrite => exact outcomeCanon_liveClocked h (regsCanon_dqEventWrite h)
  | dqDmaTimeout => exact outcomeCanon_live h (regsCanon_dqDmaTimeout h _)
  | icConfigWrite => exact outcomeCanon_ite (outcomeCanon_live h (regsCanon_writeReg h _ _ _)) (outcomeCanon_next h)
  | permCopy => exact outcomeCanon_live h (regsCanon_permCopy h)
  | rateWindowEnd => exact outcomeCanon_live h (regsCanon_rateWindowEnd h _)
  | lostRecord => exact outcomeCanon_live h (regsCanon_lostRecord h)
  | samplerPeriod => exact outcomeCanon_live h (regsCanon_samplerPeriod h)
  | watchPeriod => exact outcomeCanon_live h (regsCanon_watchPeriod h)
  | datagramExpire => exact outcomeCanon_live h (regsCanon_datagramExpire h)
  | ctxPublish => exact outcomeCanon_live h (regsCanon_ctxPublish h _)
  | testEngineIdle => exact outcomeCanon_live h (regsCanon_testEngineIdle h)
  | testWaitTimeout => exact outcomeCanon_live h (regsCanon_testWaitTimeout h)
  | testDone => exact outcomeCanon_live h (regsCanon_testDone h _ _ _ _)
  | referenceReturn => exact outcomeCanon_live h (regsCanon_refReturn h _)
  | lpddr6CaseOvertemp =>
    exact outcomeCanon_live h (regsCanon_ite (regsCanon_forRange (fun _ _ ht => regsCanon_failChannel ht _) h) h)
  | dieFaultAge => exact outcomeCanon_live h (regsCanon_dieFaultAge h _)
  | handshakeMessage => exact outcomeCanon_liveClocked h (regsCanon_handshakeMessage h _ _)
  | mgmtRequestUndefined => exact outcomeCanon_liveClocked h (regsCanon_ite h (regsCanon_mgmtArrive h _ _))
  | msixEnable => exact outcomeCanon_liveClocked h (regsCanon_msixEnable h)
  | msixVectorUnmask => exact outcomeCanon_liveClocked h (regsCanon_msixUnmask h _ _)

/-- Settles O3: a step is one command on the queue's rest (`outcomeCanon_exec`), or the module idling where none waits. -/
theorem stepKeepsRegistersCanonical : Obligations.StepKeepsRegistersCanonical := by
  unfold Obligations.StepKeepsRegistersCanonical
  intro s t h hstep
  rw [step] at hstep
  split at hstep
  · exact outcomeCanon_next (regsCanon_idle h) t hstep
  · next c rest _ => exact outcomeCanon_exec (s := { s with pending := rest }) h c t hstep

end Sys2Proof.Machine
end
